-- ==== Sys2Proof/Word.lean ====
section
/-! DEFINITION. Words, signed readings of words, and byte strings in the little-endian order of R18. -/

namespace Sys2Proof

/-- One byte of a payload, a frame or a record; values are kept below 256. -/
abbrev Byte := Nat

/-- A byte string, first byte first. -/
abbrev Bytes := List Byte

/-- The value `v` kept to `w` bits. -/
def trunc (w v : Nat) : Nat := v % 2 ^ w

/-- The two's complement reading of a `w`-bit word. -/
def toInt (w v : Nat) : Int :=
  let u := v % 2 ^ w
  if u < 2 ^ (w - 1) then (u : Int) else (u : Int) - (2 ^ w : Nat)

/-- The `w`-bit two's complement word of an integer, wrapping. -/
def ofInt (w : Nat) (i : Int) : Nat := (i % ((2 ^ w : Nat) : Int)).toNat

/-- The integer `i` limited to the range `lo` to `hi`. -/
def clampI (lo hi i : Int) : Int := if i < lo then lo else if hi < i then hi else i

/-- The `w`-bit word of `i`, saturating at the ends of the two's complement range but keeping the most
negative code, which R14 reserves, out of reach. -/
def satInt (w : Nat) (i : Int) : Nat :=
  ofInt w (clampI (-((2 ^ (w - 1) : Nat) : Int) + 1) ((2 ^ (w - 1) : Nat) - 1 : Int) i)

/-- The counter `v` plus `d`, saturating at the largest `w`-bit value. -/
def satAdd (w v d : Nat) : Nat := min (v + d) (2 ^ w - 1)

/-- Byte `i` of a word, counted from the least significant. -/
def byteOf (v i : Nat) : Byte := (v / 256 ^ i) % 256

/-- The `n` low bytes of a word, least significant first (R18). -/
def toLE : Nat → Nat → Bytes
  | 0, _ => []
  | n + 1, v => v % 256 :: toLE n (v / 256)

/-- The word a little-endian byte string spells (R18). -/
def ofLE : Bytes → Nat
  | [] => 0
  | b :: bs => b % 256 + 256 * ofLE bs

/-- The `n` bytes of a word, most significant first (only where an outside standard asks for it, R18). -/
def toBE (n v : Nat) : Bytes := (toLE n v).reverse

/-- `n` bytes of `bs` from offset `o`, zero-filled past its end. -/
def slice (bs : Bytes) (o n : Nat) : Bytes :=
  let c := (bs.drop o).take n
  c ++ List.replicate (n - c.length) 0

/-- The little-endian word of `n` bytes at offset `o`. -/
def field (bs : Bytes) (o n : Nat) : Nat := ofLE (slice bs o n)

/-- `bs` padded at its end with 0x00 to `n` bytes and cut there. -/
def padTo (n : Nat) (bs : Bytes) : Bytes := slice bs 0 n

/-- Bit `i` of a word. -/
def bitOf (v i : Nat) : Bool := v / 2 ^ i % 2 == 1

/-- The word `v` with bit `i` made `b`. -/
def setBit (v i : Nat) (b : Bool) : Nat :=
  if bitOf v i then (if b then v else v - 2 ^ i) else (if b then v + 2 ^ i else v)

/-- 1 for true and 0 for false. -/
def b2n (b : Bool) : Nat := if b then 1 else 0

/-- Quotient rounded to the nearest integer, halves away from zero. -/
def roundDiv (a : Int) (b : Nat) : Int :=
  if b = 0 then 0
  else if 0 ≤ a then (2 * a + b) / (2 * (b : Int)) else -((-2 * a + b) / (2 * (b : Int)))

/-- The value at index `i` of a list, `d` past its end. -/
def nth {α : Type} (d : α) : List α → Nat → α
  | [], _ => d
  | a :: _, 0 => a
  | _ :: as, i + 1 => nth d as i

/-- The list with index `i` replaced by `a`; unchanged past its end. -/
def setNth {α : Type} (a : α) : List α → Nat → List α
  | [], _ => []
  | _ :: as, 0 => a :: as
  | b :: as, i + 1 => b :: setNth a as i

/-- The largest element, 0 for none. -/
def maxL : List Nat → Nat
  | [] => 0
  | a :: as => max a (maxL as)

/-- The sum of a list. -/
def sumL : List Nat → Nat
  | [] => 0
  | a :: as => a + sumL as

/-- The sum of a list of integers. -/
def sumI : List Int → Int
  | [] => 0
  | a :: as => a + sumI as

end Sys2Proof
end

