-- ==== Sys2Proof/Syntax.lean ====
section
/-! DEFINITION. The commands the module takes from outside, one constructor per row of spec/opcode_table.json,
and the plain data they carry. -/

namespace Sys2Proof

/-- The frame a mailbox request arrives in: the connection it comes on, and VERSION, SESSION and SEQUENCE of its
header (Table 5.2). -/
structure Req where
  conn : Nat
  ver : Nat
  sess : Nat
  seq : Nat
  deriving DecidableEq, Repr

/-- What a client offers and shows in its TLS handshake: TLS 1.3, its cipher suites, key exchange groups and signature algorithms
by their code points of RFC 8446, its record size limit where it names one, whether it offers a PSK or a session to resume, whether
it sends early data, and its certificates in DER, leaf first (R133, R134). -/
structure Hello where
  tls13 : Bool
  suites : List Nat
  groups : List Nat
  sigs : List Nat
  recordLimit : Option Nat
  psk : Bool
  early : Bool
  chain : List Bytes
  deriving DecidableEq, Repr

/-- A packet the network layer of a port deals with beside TCP: an ARP request for an address, an ICMP echo request to an address,
whole or as a fragment, of so many bytes of IP packet, and anything else (R135). -/
inductive NetQuery where
  | arp (target : Nat)
  | echo (dst : Nat) (fragment : Bool) (bytes : Nat)
  | other
  deriving DecidableEq, Repr

/-- What arrives at a port from an address below the frames of the mailbox (R133 to R135): a TCP connection, the end of a client's
part of its handshake with whether its key signs it, a KeyUpdate that asks for one in return or does not, a TLS record with so many
bytes of plaintext, or another packet. -/
inductive NetEvent where
  | connect
  | finished (hello : Hello) (signed : Bool)
  | keyUpdate (asks : Bool)
  | record (plain : Nat)
  | query (q : NetQuery)
  deriving DecidableEq, Repr

/-- What a ring port sees of its incoming line (R174): no signal energy for so many ns, no bit lock, so many code violations within
64 code groups, or a BREAK. -/
inductive LineSign where
  | silent (ns : Nat)
  | unlocked
  | codes (inWindow : Nat)
  | brk
  deriving DecidableEq, Repr

/-- What a ring port reports of its incoming line: the code violations since it last did, and its sign. -/
structure LineSeen where
  violations : Nat
  sign : LineSign
  deriving DecidableEq, Repr

/-- A ring port (0 A, 1 B), and for how many ns without interruption its line has shown valid code groups, and IDLE alone (R174). -/
structure PortLine where
  port : Nat
  valid : Nat
  idle : Nat
  deriving DecidableEq, Repr

/-- The TCP ports of a connection, and the VLAN tag it arrives under, 0 untagged (R133, R135). -/
structure TcpPorts where
  src : Nat
  dst : Nat
  tag : Nat
  deriving DecidableEq, Repr

/-- What a housekeeping round reads of a string's front-end: FE_TEMP and SHUNT_TEMP in 0.01 °C, none where there is no
reading; the mean of SHUNT_DIRECT in µV and its instant on the time base; REF_CHECK in µV (R277, R282, R390). -/
structure FeRound where
  feTemp : Option Int
  shuntTemp : Option Int
  direct : Option (Int × Nat)
  refCheck : Option Int
  deriving DecidableEq, Repr

/-- What a housekeeping round reads (Table 14.1), in 0.01 °C, none where there is no reading: the four sensors of each die,
the three board sensors and the enclosure air; and per string the front-end, index 0 unused. `vcore` holds the core supply of
each die in mV. -/
structure Round where
  dies : List (List (Option Int))
  board : List (Option Int)
  air : Option Int
  fes : List FeRound
  vcore : List Nat
  deriving DecidableEq, Repr

/-- What happens on the heartbeat of a string die (R362): nothing, it sends its next one and that arrives as sent, or one arrives
otherwise, with its counter and whether its CRC is correct. -/
inductive Beat where
  | none
  | sent
  | arrived (count : Nat) (crcOk : Bool)
  deriving DecidableEq, Repr

/-- The read-backs of a switch in an off-pulse test, in ns: how long after the start of the pulse it shows the switch off, and how
long after its end on again; none where it never does (R379). -/
structure PulseRead where
  off : Option Nat
  back : Option Nat
  deriving DecidableEq, Repr

/-- What else a start finds: the PRESENCE button is held, and the die and sensor of every release comparator that reads 90 °C or
more (R402). -/
structure StartSeen where
  button : Bool
  hot : List (Nat × Nat)
  deriving DecidableEq, Repr

/-- The end of HOLDUP: the bank is exhausted, and the release comparators that read 90 °C or more (R98, R402). -/
structure GaspEnd where
  exhausted : Bool
  hot : List (Nat × Nat)
  deriving DecidableEq, Repr

/-- What an Announce message carries of its sender and its grandmaster (IEEE 1588-2019): source port identity, priority1,
clockQuality, priority2, grandmaster identity, stepsRemoved, currentUtcOffset as a 16-bit word, the flags leap59, leap61,
ptpTimescale and currentUtcOffsetValid as bits 0 to 3, and logMessageInterval. -/
structure PtpAnnounce where
  ident : Nat
  pnum : Nat
  prio1 : Nat
  cls : Nat
  acc : Nat
  varr : Nat
  prio2 : Nat
  gm : Nat
  steps : Nat
  utc : Nat
  flags : Nat
  log : Int
  deriving DecidableEq, Repr

/-- A command of the block: one constructor per row of spec/opcode_table.json. `t` is always the instant at
which the command happens, in ns of the module's own reference clock. -/
inductive Instr where
  /-- R86. The 1 ms evaluation of AUX MAINS sets or clears AUX_PRESENT and starts or ends an interruption. -/
  | auxMainsEvaluation (t mv hz pw : Nat) (dc : Bool)
  /-- R87. The 21st evaluation below the stop threshold ends NORMAL and enters BACKUP or HOLDUP. -/
  | auxInterruptionExceeded (t : Nat)
  /-- R97. AUX_PRESENT held for 100 ms, or TAP_START_OK without AUX MAINS, leaves OFF and begins the start sequence. -/
  | startFromOff (t profile block mask addr : Nat) (cover jumper : Bool) (seen : StartSeen)
  /-- R97. AUX MAINS present without interruption for AUX_RETURN_QUAL ends BACKUP and lifts the BACKUP limits. -/
  | auxReturnQual (t : Nat)
  /-- R91. TAP IN falls below 150 V and the tap converter stops, which leads BACKUP to HOLDUP or NORMAL. -/
  | tapConverterStop (t mv : Nat)
  /-- R93. The tap converter has carried more than 70 W for 1 s, limits its output and sets TAP_OVERLOAD. -/
  | tapOverload (t since : Nat)
  /-- R103. At 5 ms into HOLDUP the last-gasp notice is sent on every open mailbox session. -/
  | lastGasp (t : Nat)
  /-- R102. At 10 ms into HOLDUP the draw is reduced and estimation, the control engine and compression halt. -/
  | holdupShed (t : Nat)
  /-- R104. When HOLDUP_OPEN_DELAY expires, every closed contactor and precharge relay is opened through the protection path. -/
  | holdupOpenDelay (t : Nat)
  /-- R102. At 60 ms into HOLDUP the history writer closes its current block with a HOLDUP event. -/
  | holdupClosed (t : Nat)
  /-- R98. At 300 ms after HOLDUP entry, or when the bank is exhausted, the module halts and restarts from OFF if a supply is present. -/
  | holdupHalt (t : Nat) (gasp : GaspEnd)
  /-- R95. The hold-up bank falls below 12 J, so HOLDUP_READY clears and event 0x0201 is recorded. -/
  | holdupReadyCleared (t energy : Nat)
  /-- R94. The hold-up bank reaches 12 J and HOLDUP_READY is set. -/
  | holdupReadySet (t energy : Nat)
  /-- R105. The transport command is checked, the TRANSPORT flag is written and every node is commanded into transport sleep. -/
  | enterTransport (t : Nat) (r : Req) (p : Bytes)
  /-- R106. 250 ms after the last TRANSPORT_SLEEP, two full enumerations confirm that every node sleeps, or the command is aborted. -/
  | transportConfirm (t : Nat) (awake : List (Nat × Nat))
  /-- R106. 1 s after ST_OK the module switches off its dies and enters TRANSPORT. -/
  | transportDiesOff (t : Nat)
  /-- R108. An enabled string held at or above TRANSPORT_WAKE_V for 5 s with AUX_PRESENT clears the flag and starts the module. -/
  | transportWake (t str mv since profile block mask addr : Nat) (cover jumper : Bool) (seen : StartSeen)
  /-- R61. COIL SUPPLY crosses a threshold and COIL_SUPPLY_LOW or COIL_SUPPLY_HIGH sets or clears. -/
  | coilSupplyThreshold (t mv : Nat)
  /-- R66. The STRING s CTL detection bridge opens or closes, which toggles CONN_OPEN and records event 0x0102. -/
  | connOpenChanged (t str : Nat) (isOpen : Bool)
  /-- R80. The switches are read every 1 s while running and SWITCH_CHANGED is set or cleared. -/
  | switchReading (t profile block mask addr : Nat)
  /-- R79. After an invalid switch reading at start, the switches are read again every 1 s until both rotary switches read valid. -/
  | switchFaultRetry (t profile block mask addr : Nat)
  /-- R81. The switch-compartment cover opens, so SEAL_OPEN and SEAL_OPENED are set, the opening is counted and timed and the telegram seal bit is set. -/
  | sealOpen (t : Nat)
  /-- R77. A press of the PRESENCE button from 50 ms to less than 2 s advances the display page. -/
  | presenceButtonPress (t held : Nat)
  /-- R78. A 2 s hold of the PRESENCE button creates a button presence token. -/
  | presenceEvent (t since : Nat)
  /-- R78. A hold longer than 10 s sets PRESENCE_STUCK until the button is released. -/
  | presenceStuck (t since : Nat)
  /-- R542. J-SVC reads fitted and stable for 50 ms and creates a jumper presence token. -/
  | jSvcFitted (t since : Nat)
  /-- R542. A presence token expires 120 s after its event. -/
  | tokenExpired (t : Nat)
  /-- R77. The display blanks 10 min after the last button press. -/
  | displayBlank (t : Nat)
  /-- R36. At start, the write journal is replayed and unfinished page programs and erases are completed or removed. -/
  | journalReplayed (t : Nat)
  /-- R112. At step 8 the runtime starts on every die, links and networks come up, the mailbox accepts sessions and role discovery begins. -/
  | runtimeStart (t : Nat) (netA netB : Bool)
  /-- R115. The start enumeration of a string completes and its first topology epoch is published. -/
  | enumerationComplete (t str : Nat)
  /-- R113. ECC initialisation of the trace buffers and history store completes and history intake runs at full rate. -/
  | historyInitComplete (t : Nat)
  /-- R131. The lead-cluster watchdog expires, the strings are opened and the module restarts with cause 6. -/
  | watchdogRestart (t die : Nat)
  /-- R31. The reference leaves its ±2 % window or stops, which stops laps and telegrams and opens every string. -/
  | refclkFail (t : Nat)
  /-- R41. A 1 ms pace measurement updates PACE_LOW and the pace-driven lap-rate shift k. -/
  | paceMeasurement (t die pace : Nat)
  /-- R44. The pace monitor reads below 20 % or gives no count for 2 ms, so DIE_STALLED is set and the die's heartbeats cease. -/
  | dieStalled (t die : Nat) (pace : Option Nat)
  /-- R44. A string die misses the manager heartbeat for 10 ms, stops laps and opens its string. -/
  | managerHeartbeatMissing (t str last : Nat)
  /-- R33. A single-bit LPDDR5 error is corrected, written back and counted. -/
  | dramCorrectedError (t : Nat)
  /-- R34. An uncorrectable LPDDR5 error is handled by region: marked damaged, invalidated, refused, or the module restarts. -/
  | dramUncorrectableError (t region a b : Nat)
  /-- R33. A background scrub pass over the whole array completes and is counted. -/
  | scrubPass (t : Nat)
  /-- R206. At nominal instant minus lead the SAMPLE baton leaves, and the lap instant is named to the front-end. -/
  | lapFire (t str tNom : Nat)
  /-- R194. A baton has not arrived at the opposite port by its expected arrival plus 400 ns, so the lap engine is signalled and the ring is segmented. -/
  | returnMissing (t str port kind : Nat)
  /-- R174. A port of the ring master loses its incoming line, sends BREAK and the break handling begins. -/
  | ringPortLineLost (t str port : Nat) (seen : LineSeen)
  /-- R174. A port has received IDLE for 10 ms and becomes LINK_READY. -/
  | ringPortLinkReady (t str : Nat) (line : PortLine)
  /-- R179. A returned baton is checked, and its records, responses, results, identities and TURN blocks are taken. -/
  | batonReceived (t str port : Nat) (bytes : Bytes) (aborted : Bool) (rtt : Nat)
  /-- R216. The collection cut-off of a lap is reached with records still missing. -/
  | collectionCutoff (t str : Nat)
  /-- R223. Lap data is complete, so the lap data record is built and handed to the protection checker and the estimation array. -/
  | lapDataComplete (t str : Nat)
  /-- R311. The lap-current frame arrives at the string die and the run-ahead check passes, or the lap ends in a false start. -/
  | chargeArrival (t str ahead : Nat)
  /-- R47. At the result instant the lap's record and results are released to the collector and history writer, and its limits to dispatch. -/
  | resultInstant (t str seq : Nat)
  /-- R346. The frozen windows have been read, so the step instant is located and each sentinel is fitted, accepted or rejected. -/
  | sentinelFit (t str : Nat)
  /-- R314. At each whole second the false-start ratio decides whether the filter runs at half rate for the next second. -/
  | falseStartSecond (t str : Nat)
  /-- R315. Once per second the spare cluster recomputes one position with the reference filter and compares it bit for bit. -/
  | shadowCheck (t str : Nat) (same : Bool)
  /-- R189. Every 100 ms an incremental round sends ENUMERATE, ROLL_CALL and PROBE batons and publishes the current epoch. -/
  | incrementalRound (t str : Nat)
  /-- R187. A new topology is put in force by delay measurement and ASSIGN to every reachable node. -/
  | newEpoch (t str : Nat)
  /-- R181. A command's reply window closes with no response, so the command is retried or fails after CMD_RETRIES. -/
  | cmdTimeout (t str node : Nat)
  /-- R230. For a long-running node command, FETCH is sent again every 1 ms until the result is complete. -/
  | resultFetch (t str node : Nat)
  /-- R196. Both break nodes have been LINK_READY for CLOSE_QUAL, so CLOSE_RING is sent and the ring is closed at the named lap. -/
  | ringClose (t str : Nat)
  /-- R196. A host write of CLOSE_REQUEST closes the ring now, or is refused when the conditions are unmet. -/
  | closeRequest (t : Nat) (r : Req) (str : Nat)
  /-- R235. CMP_TEST is sent to the next node when its share of CMP_TEST_INTERVAL elapses. -/
  | cmpTest (t str : Nat)
  /-- R243. A routine open-wire test of a node's wires falls due within WIRE_TEST_INTERVAL. -/
  | routineWireTest (t str : Nat)
  /-- R244. The command runs open-wire tests on the named wires and replies with their results. -/
  | runWireTest (t : Nat) (r : Req) (p : Bytes)
  /-- R247. A node that failed authentication is retried after 10 s, up to 3 attempts, and is then AUTH_FAILED. -/
  | authRetry (t str node : Nat)
  /-- R274. A coulomb output sample is converted to current and integrated into the charge accumulator every 15,625 ns. -/
  | coulombSample (t str : Nat) (raw : Int)
  /-- R278. The front-end refers current and charge to a named instant and sends the lap-current frame twice. -/
  | lapCurrentFrame (t str : Nat) (ok1 ok2 : Bool)
  /-- R276. 20 min after start WARMUP clears. -/
  | warmupEnd (t str : Nat)
  /-- R281. A sequencer entry completes its averaged conversions and publishes its result. -/
  | sequencerEntry (t str : Nat) (convs : List (Nat × Int))
  /-- R283. An injected request pre-empts the sequence and its result goes to its requester. -/
  | injectedConversion (t str src : Nat) (aborted : Bool) (convs : List (Nat × Int))
  /-- R282. The settling time after a reference switch passes and REF_SETTLED is set. -/
  | refSettled (t str : Nat)
  /-- R286. START_CALIBRATION with STEP 1 starts a 1 s capture of the LOW point. -/
  | calLowPoint (t : Nat) (r : Req) (p : Bytes)
  /-- R286. START_CALIBRATION with STEP 2 starts a 1 s capture of the HIGH point. -/
  | calHighPoint (t : Nat) (r : Req) (p : Bytes)
  /-- R286. The 1 s calibration capture ends and the step is answered with MEAN and SPREAD. -/
  | calCaptureEnd (t str : Nat)
  /-- R288. START_CALIBRATION with STEP 3 computes, stores and applies the calibration coefficients. -/
  | calCommit (t : Nat) (r : Req) (p : Bytes)
  /-- R285. START_CALIBRATION with STEP 4 abandons the procedure without effect. -/
  | calAbort (t : Nat) (r : Req) (p : Bytes)
  /-- R285. A calibration procedure is abandoned after 10 min without a step. -/
  | calTimeout (t str : Nat)
  /-- R289. An insulation measuring cycle ends and yields R_ISO, x, R_ISO_POS, R_ISO_NEG and C_Y. -/
  | imdCycleEnd (t str rIso x cy half : Nat) (ok : Bool)
  /-- R292. 10 s after a precharge relay opens the insulation pause ends. -/
  | imdPauseEnd (t str : Nat)
  /-- R390. At each whole second the housekeeping round reads and checks the die, board, air, shunt and reference sensors. -/
  | housekeepingRound (t : Nat) (x : Round)
  /-- R406. Every HVAC_PERIOD the HVAC request is sent on CAN 1. -/
  | hvacRequest (t : Nat)
  /-- R400. A caldera comparator trips and sets the latch, which opens every coil and SAFE LOOP OUT and halts the dies. -/
  | calderaTrip (t die sensor : Nat)
  /-- R402. Every release comparator in the mask has read below 90 °C for 60 s, so the latch releases and the module restarts with cause 4. -/
  | calderaRelease (t since : Nat)
  /-- R374. The closing conditions are checked and the closing sequence is started. -/
  | closeString (t : Nat) (r : Req) (p : Bytes)
  /-- R375. A closing sequence step falls due by time or feedback and its pick-up, weld check or release is made. -/
  | closingStep (t str : Nat)
  /-- R376. Precharge is not complete in time, or has not halved by half the timeout, and the string trips. -/
  | prechargeFail (t str : Nat)
  /-- R377. A commanded opening zeroes the set-points and waits for the current to fall. -/
  | openString (t : Nat) (r : Req) (p : Bytes)
  /-- R377. The current falls to OPEN_I_MAX or OPEN_WAIT expires, and the positive coil is switched off. -/
  | openWait (t str : Nat)
  /-- R377. 20 ms after the positive coil, the negative coil is switched off. -/
  | negCoilOff (t str : Nat)
  /-- R377. FB_TIME after a coil switches off, the mirror contacts are judged open or welded. -/
  | fbTime (t str : Nat)
  /-- R378. A mirror contact or coil current disagrees with the coil drive, which trips as UNEXPECTED_OPEN or FEEDBACK. -/
  | mirrorContactChange (t str mirrors iPos iNeg iPre : Nat)
  /-- R382. CMP_RELEASE is sent, every cause of the latch is checked, and the trip is cleared or refused. -/
  | clearTrip (t : Nat) (r : Req) (p : Bytes) (readOk : Bool)
  /-- R361. The fault loop reads open after its filter while a coil is driven, and the string trips in hardware. -/
  | faultLoopOpen (t str loop : Nat)
  /-- R363. The fast overcurrent comparator trips on the shunt voltage. -/
  | fastOc (t str : Nat) (v : Int)
  /-- R362. 5 ms without a valid die heartbeat makes the front-end trip the string. -/
  | heartbeat (t str : Nat) (beat : Beat)
  /-- R383. SAFE LOOP IN reads open or closed again, which sets or lifts the inhibit on every string. -/
  | safeLoopInOpen (t loop : Nat)
  /-- R384. 100 ms after the module's own cause ends, it stops ignoring SAFE LOOP IN. -/
  | safeLoopOriginHold (t : Nat)
  /-- R379. The drive's off-pulse test of an energised coil falls due within PULSE_INTERVAL. -/
  | pulseTests (t str coil : Nat) (read : PulseRead)
  /-- R380. Every 100 ms both switches of each coil that is off are read back. -/
  | offCoilReadback (t str reads : Nat)
  /-- R385. Every PERIOD a safe status telegram is sent on NET A and NET B. -/
  | safeStatusTelegram (t : Nat)
  /-- R387. A copy of a safe command arrives, is matched with the other network's copy and accepted, held pending or discarded. -/
  | safeCommand (t net src port : Nat) (b : Bytes)
  /-- R387. A pending copy unmatched for 20 ms is discarded and counted. -/
  | safeCmdSingle (t net : Nat)
  /-- R388. A safe enable expires after ENABLE_TIMEOUT and the string is opened with ENABLE_MISSING. -/
  | enableMissing (t str : Nat)
  /-- R371. A write to the integrator profile is checked, stored and applied. -/
  | integratorProfile (t : Nat) (r : Req) (data : Bytes)
  /-- R414. At a channel's sample instant its input is taken and its law applied to the output. -/
  | channelSample (t ch : Nat)
  /-- R424. A channel's update is not complete by its deadline, so the output is kept and the miss is counted. -/
  | deadlineMiss (t ch : Nat)
  /-- R428. A write of TAKE_OVER makes a standby member take over at its next sample. -/
  | takeOver (t : Nat) (r : Req) (ch : Nat)
  /-- R426. A committed write of ENABLE moves a channel between DISABLED and WAITING. -/
  | channelEnable (t : Nat) (r : Req) (ch : Nat) (on : Bool)
  /-- R435. A valid ANNOUNCE moves the role state, adopting or resigning managers. -/
  | announceReceived (t net src : Nat) (msg : Bytes)
  /-- R435. A valid CANDIDATE of better rank returns a candidate to DISCOVERING. -/
  | candidateReceived (t net src : Nat) (msg : Bytes)
  /-- R441. A member REPORT is taken by the manager for the cycle. -/
  | reportReceived (t net src : Nat) (msg : Bytes)
  /-- R439. An ALLOCATION is accepted or discarded as stale by a member. -/
  | allocationReceived (t net src : Nat) (msg : Bytes)
  /-- R432. An invalid peer message is counted and has no effect. -/
  | peerRejected (t net src : Nat) (msg : Bytes)
  /-- R435. The block manager sends ANNOUNCE every 100 ms. -/
  | announce (t : Nat)
  /-- R435. No ANNOUNCE for the listening time makes an eligible module a CANDIDATE. -/
  | roleListen (t : Nat)
  /-- R437. 500 ms as candidate with no better rank makes the module manager under a new role epoch. -/
  | roleGained (t : Nat)
  /-- R447. No valid ANNOUNCE for MANAGER_TIMEOUT, so the allocation is held and an election begins. -/
  | managerLost (t : Nat)
  /-- R447. ALLOC_HOLD expires without a new allocation and the set-points go to zero. -/
  | allocHold (t : Nat)
  /-- R438. A duplicate BLOCK_ID in a peer message sets BLOCK_ID_CONFLICT, which clears 5 s after the last. -/
  | blockIdConflict (t : Nat) (msg : Option (Nat × Nat × Bytes))
  /-- R440. At a dispatch cycle instant the report content is captured. -/
  | dispatchCycle (t : Nat)
  /-- R441. At its slot each module sends REPORT. -/
  | report (t : Nat)
  /-- R443. At ALLOC_OFFSET the manager ramps and apportions block power and sends the ALLOCATION. -/
  | allocation (t : Nat)
  /-- R444. At APPLY_OFFSET each member applies its set-points and sends dispatch frames. -/
  | allocationApply (t : Nat)
  /-- R446. No SET_BLOCK_POWER for HOST_TIMEOUT, so the target is set to 0. -/
  | hostTimeout (t : Nat)
  /-- R448. The block power target and ramp are set for the next cycle. -/
  | setBlockPower (t : Nat) (r : Req) (p : Bytes)
  /-- R449. The manager's block state and member records are returned. -/
  | getBlockState (t : Nat) (r : Req) (p : Bytes)
  /-- R450. A lap unit received whole over the interposer link enters its collector queue. -/
  | lapUnitReceived (t str : Nat)
  /-- R450. A collector round hands the queued units of the earliest result instant to history and LAP_FEED. -/
  | collectorRound (t : Nat)
  /-- R254. BLOCK_MAX_AGE passes since a block's first item and the block is closed. -/
  | blockMaxAge (t : Nat)
  /-- R261. A write of PIN_REQUEST pins a window around its instant. -/
  | pinRequest (t : Nat) (r : Req)
  /-- R262. A write of RELEASE_PINS releases every pin. -/
  | releasePins (t : Nat) (r : Req)
  /-- R268. The command triggers geyser capture on the named channels. -/
  | triggerTrace (t : Nat) (r : Req) (p : Bytes)
  /-- R267. The post-window of a capture ends and it is frozen into a slot. -/
  | captureFrozen (t ch : Nat)
  /-- R267. Writing 1 to a CAPTURE_VALID bit releases that capture. -/
  | captureValid (t : Nat) (r : Req) (ch mask : Nat)
  /-- R135. A TCP connection and TLS handshake are accepted, refused or fail. -/
  | tcpConnection (t id port addr : Nat) (tcp : TcpPorts) (what : NetEvent)
  /-- R135. A TLS handshake not complete within 10 s is abandoned. -/
  | handshakeTimeout (t id : Nat)
  /-- R137. A connection without OPEN_SESSION within 10 s is closed. -/
  | openSessionTimeout (t id : Nat)
  /-- R139. The TCP or TLS connection ends and its session is closed. -/
  | connectionEnd (t id : Nat)
  /-- R151. A mailbox session is opened and its number, class and state are returned. -/
  | openSession (t : Nat) (r : Req) (p : Bytes)
  /-- R139. The session closes, aborting its transaction and streams. -/
  | closeSession (t : Nat) (r : Req) (p : Bytes)
  /-- R139. Keeps a session open without other effect. -/
  | pingSession (t : Nat) (r : Req) (p : Bytes)
  /-- R139. A session with no frame for SESSION_IDLE is closed. -/
  | sessionIdle (t num : Nat)
  /-- R142. An unreadable frame is counted and the connection is closed. -/
  | unreadableFrame (t conn : Nat) (hdr : Bytes)
  /-- R155. A byte range of an object is read at one instant. -/
  | getObj (t : Nat) (r : Req) (p : Bytes)
  /-- R156. A masked write to a register without a row of its own is checked and applied or stored. -/
  | putObj (t : Nat) (r : Req) (p : Bytes)
  /-- R159. Opens a transaction for the session. -/
  | beginTxn (t : Nat) (r : Req) (p : Bytes)
  /-- R160. Applies every write of the transaction or none. -/
  | commitTxn (t : Nat) (r : Req) (p : Bytes)
  /-- R160. Discards the transaction. -/
  | abortTxn (t : Nat) (r : Req) (p : Bytes)
  /-- R160. A transaction with no frame for 60 s is aborted. -/
  | txnTimeout (t num : Nat)
  /-- R158. Lists the objects present in the variant. -/
  | listObj (t : Nat) (r : Req) (p : Bytes)
  /-- R163. Opens a stream of a kind, checking its parameters and holders. -/
  | openStream (t : Nat) (r : Req) (p : Bytes)
  /-- R167. Closes an outbound stream or aborts an inbound stream. -/
  | closeStream (t : Nat) (r : Req) (p : Bytes)
  /-- R165. The host grants credit to an outbound stream. -/
  | grantCredit (t : Nat) (r : Req) (p : Bytes)
  /-- R164. An inbound STREAM_DATA frame is staged, discarded or aborts its stream. -/
  | streamDataIn (t : Nat) (r : Req) (p : Bytes)
  /-- R165. An outbound stream sends a frame while it holds credit and allowance. -/
  | streamDataOut (t sess num ahead : Nat)
  /-- R165. The module grants credit to an inbound stream as staging space frees. -/
  | streamCredit (t sess num frames : Nat)
  /-- R151. Returns MODULE_IDENTITY and the certificate count. -/
  | getIdentity (t : Nat) (r : Req) (p : Bytes)
  /-- R151. Returns a certificate of the device identity chain. -/
  | getCert (t : Nat) (r : Req) (p : Bytes)
  /-- R121. Captures the measurement slots and returns a signed quote. -/
  | getQuote (t : Nat) (r : Req) (p : Bytes)
  /-- R152. Answers ST_OK, opens the strings and restarts with cause 7. -/
  | restartModule (t : Nat) (r : Req) (p : Bytes)
  /-- R350. Captures the ledger and sends it as chunks and a commit record. -/
  | ledgerExport (t : Nat)
  /-- R352. A write of ACK_EPOCH commits the export. -/
  | ackEpoch (t : Nat) (r : Req) (epoch : Nat)
  /-- R353. The restore commit frame is checked and the set is accepted or refused. -/
  | ledgerRestoreCommit (t : Nat)
  /-- R462. An accepted Sync gives an offset sample that updates the domain servo. -/
  | ptpSync (t rx port dom ident pnum t1 : Nat) (corr : Int) (twoStep : Bool) (log : Int)
  /-- R458. An Announce is taken for best master selection. -/
  | announcePtp (t port dom : Nat) (m : PtpAnnounce)
  /-- R459. A received Pdelay_Req is answered with a one-step Pdelay_Resp. -/
  | pdelayReq (t port dom seq ident pnum turn : Nat)
  /-- R460. Every 1 s a peer-delay exchange is made and the link delay updated. -/
  | pdelayExchange (t port : Nat) (resp : Option (Nat × Nat × Int))
  /-- R464. A domain timeout, lock or loss changes its state. -/
  | domainState (t dom : Nat)
  /-- R465. The primary has been locked for RETURN_QUAL, so the module reverts to it. -/
  | returnQual (t : Nat)
  /-- R466. SLEW_REMAINING reaches 0 and SLEWING clears. -/
  | slewComplete (t : Nat)
  /-- R467. TIME_ERROR_EST exceeds HOLDOVER_MAX_ERROR and TIME_STATE becomes FREE_RUN. -/
  | timeState (t : Nat)
  /-- R469. The domains differ beyond DISAGREE_LIMIT for 10 s, or agree for 10 s. -/
  | domainDisagree (t : Nat)
  /-- R471. An output schedule occurrence drives its pulse and injection. -/
  | pacerOccurrence (t out : Nat)
  /-- R471. PULSE_WIDTH elapses and the line returns to rest. -/
  | pulseEnd (t out : Nat)
  /-- R475. A capture window opens or closes. -/
  | captureWindow (t input : Nat)
  /-- R476. An edge on TCI0 or TCI1 is timestamped and recorded. -/
  | capture (t input edge : Nat)
  /-- R486. A valid frame is stored in its matching receive object. -/
  | canFrameReceived (t ch ident : Nat) (xtd remote brs esi : Bool) (data : Bytes)
  /-- R489. A transmission succeeds, fails or loses arbitration. -/
  | canTxComplete (t ch outcome loop : Nat)
  /-- R492. A write of RECOVER starts recovery from BUS_OFF. -/
  | recover (t : Nat) (r : Req) (ch : Nat)
  /-- R492. 128 recessive sequences are counted and the channel is error-active again. -/
  | busOffRecovered (t ch : Nat)
  /-- R488. A write of TX_REQUEST queues an object's data. -/
  | txRequest (t : Nat) (r : Req) (obj : Nat) (data : Bytes)
  /-- R487. A write of ACK_COUNT clears NEW_DATA and MSG_LOST, or answers 0x1003. -/
  | ackCount (t : Nat) (r : Req) (obj count : Nat)
  /-- R482. A change of CHANNEL_EN integrates or leaves the bus. -/
  | channelEn (t : Nat) (r : Req) (ch : Nat) (on : Bool)
  /-- R494. New content in fallback is sent as a UDP datagram. -/
  | fallbackDatagram (t ch : Nat)
  /-- R499. A write transaction selects a window. -/
  | i2cWrite (t addr : Nat) (data : Bytes)
  /-- R500. A read transaction captures and sends the selected window. -/
  | i2cRead (t addr n : Nat) (stop : Bool)
  /-- R501. A capture not ready in 10 ms releases SCL and sends 0xFF. -/
  | stretchLimits (t addr n : Nat) (stop : Bool)
  /-- R502. No transaction for SLEEP_AFTER puts the port to sleep. -/
  | i2cSleep (t : Nat)
  /-- R502. A refused address byte wakes the port within 200 µs. -/
  | i2cWake (t addr : Nat)
  /-- R505. An attention write attempt to ATTN_ADDR is made. -/
  | attentionWrite (t outcome : Nat)
  /-- R505. ATTN_RETRY expires and the attention write is retried. -/
  | attnRetry (t outcome : Nat)
  /-- R507. A repeated START where an acknowledge was due aborts the transfer. -/
  | abortsRstart (t addr : Nat)
  /-- R507. 35 ms without an SCL edge ends the transaction and releases SDA. -/
  | i2cIdleRelease (t addr : Nat)
  /-- R508. The bus is stuck for STUCK_TIME and recovery pulses are driven. -/
  | busStuck (t line pulses : Nat)
  /-- R508. A recovery is repeated at 10 ms intervals, then PORT_DISABLED. -/
  | recoveryRepeat (t line pulses : Nat)
  /-- R509. A write of PORT_EN enables the port after the lines are released for 1 ms. -/
  | portEn (t : Nat) (r : Req) (on : Bool)
  /-- R512. An uploaded image body is checked and its slot is written. -/
  | imageUploadEnd (t : Nat)
  /-- R512. The slot write completes and reads VALID. -/
  | imageStaged (t : Nat)
  /-- R513. Activates the inactive slot by relay handover or restart. -/
  | activateImage (t : Nat) (r : Req) (p : Bytes)
  /-- R515. The spare clusters report the new runtime ready. -/
  | spareReady (t : Nat)
  /-- R516. At its lap boundary a die hands its firmware state to the spare. -/
  | dieHandover (t die : Nat)
  /-- R515. The new slot is stored as active and ACTIVATE_IMAGE is answered. -/
  | imageActivated (t : Nat)
  /-- R518. The handover is abandoned and the dies hand back. -/
  | handoverAbandoned (t die cause : Nat)
  /-- R519. Activates an older image in the inactive slot. -/
  | rollbackImage (t : Nat) (r : Req) (p : Bytes)
  /-- R520. A write of ADVANCE_FUSES raises the anti-rollback counter. -/
  | advanceFuses (t : Nat) (r : Req)
  /-- R521. In BOOT_HALT the loader writes an image to the active slot and restarts. -/
  | recoveryLoader (t : Nat) (image : Bytes)
  /-- R524. Erases the kept configuration copy. -/
  | confirmConfig (t : Nat) (r : Req) (p : Bytes)
  /-- R526. An uploaded record set is applied as one transaction. -/
  | configUpload (t : Nat)
  /-- R527. A node image is staged. -/
  | nodeImageUpload (t : Nat)
  /-- R530. A node copy completes. -/
  | nodeUpdated (t str node : Nat)
  /-- R531. A node copy fails. -/
  | nodeCopyFailed (t str node : Nat)
  /-- R532. A write of START_REQUEST restarts eligible nodes. -/
  | startRequest (t : Nat) (r : Req) (str : Nat)
  /-- R539. Moves FIELD to SERVICE with a presence token. -/
  | enterService (t : Nat) (r : Req) (p : Bytes)
  /-- R539. Changes the debug security state. -/
  | enableDebug (t : Nat) (r : Req) (p : Bytes)
  /-- R539. Returns to FIELD. -/
  | leaveService (t : Nat) (r : Req) (p : Bytes)
  /-- R539. No MAINTAIN session for SERVICE_IDLE returns to FIELD. -/
  | serviceIdle (t : Nat)
  /-- R548. Erases keys and configuration and blows the fuse. -/
  | decommissionModule (t : Nat) (r : Req) (p : Bytes)
  /-- R536. VTREF crosses its threshold for 100 ms and the debug level changes. -/
  | probeAttached (t mv since : Nat)
  /-- R547. A probe halts or resumes a cluster. -/
  | clusterHalt (t die : Nat) (halt : Bool)
  /-- R544. A trust list commit re-checks open sessions. -/
  | trustList (t : Nat) (r : Req) (entry : Nat) (data : Bytes)
  /-- R545. The first client in the commissioning window is admitted as MAINTAIN. -/
  | commissioned (t id : Nat) (hello : Hello) (signed : Bool)
  /-- R91. TAP IN rises to 200 V, TAP_START_OK sets and a stopped tap converter starts again into warm standby. -/
  | tapStartOk (t mv : Nat)
  /-- R81. The switch-compartment cover closes and SEAL_OPEN clears. -/
  | coverClosed (t : Nat)
  /-- R78. Release of the PRESENCE button clears PRESENCE_STUCK and starts the 1 s re-arm before another hold can create an event. -/
  | presenceButtonReleased (t held : Nat)
  /-- R82. The J-SVC jumper is removed and J_SVC_FITTED clears. -/
  | jSvcRemoved (t : Nat)
  /-- R380. A coil current above 12 A opens both switches of that coil within 20 µs and trips the string as DRIVE_FAULT. -/
  | coilShort (t str coil : Nat)
  /-- R68. The fault-loop current reaches 6 mA, the loop reads closed, FLOOP_OPEN clears and inhibit bit 5 lifts. -/
  | faultLoopClosed (t str loop : Nat)
  /-- R72. NET A or NET B gains or loses its 1000BASE-T link, which changes NET_A_LINK or NET_B_LINK and block-manager eligibility. -/
  | netLinkChanged (t port : Nat) (up : Bool)
  /-- R435. During an election a candidate sends CANDIDATE again every 100 ms. -/
  | candidate (t : Nat)
  /-- R491. An error detected while the channel receives raises REC, counts in ERROR_FRAMES and can make the channel error-passive. -/
  | canBusError (t ch : Nat) (by8 : Bool)
  /-- R482. Bus integration ends and the channel enters ERROR_ACTIVE with TEC and REC at 0. -/
  | busIntegrationComplete (t ch : Nat)
  /-- R27. A background self-test of the spare cluster completes, and a failure sets SELF_TEST_FAIL. -/
  | spareSelfTest (t die : Nat) (failed : Bool)
  /-- R157. The final journal record of a stored write or transaction is programmed, and the deferred PUT_OBJ, COMMIT_TXN or storing command is answered. -/
  | storedWriteComplete (t : Nat)
  /-- R212. At nominal or late instant plus 24 µs the COLLECT batons of the lap leave by the collection plan. -/
  | collect (t str port : Nat)
  /-- R239. WIRE_RETEST elapses, so a CLEARED wire returns to none or an INCONCLUSIVE wire's automatic test is repeated. -/
  | wireRetest (t str node wire : Nat)
  deriving DecidableEq, Repr

end Sys2Proof
end

