-- ==== Sys2Proof/Decode.lean ====
section
/-! DEFINITION. The command a word spells: none, since no row of spec/opcode_table.json gives bits. -/

namespace Sys2Proof

/-- The table gives no row any bits (its rows carry no field), so no word spells a command. -/
def decodeTableWord (_nbits _w : Nat) : Option Instr := none

end Sys2Proof
end

