-- ==== Sys2Proof/Config.lean ====
section
/-! DEFINITION. What an implementation fixes and the spec leaves open: opaque constants without a body. Nothing in
Lean can evaluate one, so a statement about the model holds for every value of it. -/

namespace Sys2Proof.Config

/-- SHA-384 of a byte string, 48 bytes (R118, Table 20.1): an outside standard, left uninterpreted. -/
opaque sha384 : Bytes → Bytes

/-- SHA-256 of a byte string, 32 bytes (NODE_AUTH, PEER_KEY_ID): an outside standard, left uninterpreted. -/
opaque sha256 : Bytes → Bytes

/-- HMAC-SHA-256 of a message under a key, as the peer channel uses it (R432). -/
opaque hmac : Bytes → Bytes → Bytes

/-- The signature verifies: public key identifier (0 Hokuver image key, 1 node image key, 2 node root), message,
signature. -/
opaque verifies : Nat → Bytes → Bytes → Bool

/-- An ECDSA P-384 signature of the device identity key (R121) over a message; `n` counts signatures made. -/
opaque sign : Nat → Bytes → Bytes

/-- Certificate `i` of the device identity chain in DER (R151). -/
opaque cert : Nat → Bytes

/-- The body of the image the factory leaves in slot A (log 3). -/
opaque factoryBody : Bytes

/-- The stage 1 image and the runtime image, with the string die firmware, within a module image: header and body (R118, Table
20.1). The spec does not say where each stands in the body. -/
opaque stage1Of : Bytes → Bytes

@[inherit_doc stage1Of]
opaque runtimeOf : Bytes → Bytes

/-- How many certificates the device identity chain holds (R151). -/
opaque certCount : Nat

/-- The certificates of a client's chain (DER, leaf first) verify from the leaf up to the one at an index (R544). -/
opaque chainOk : List Bytes → Nat → Bool

/-- Every certificate of a client's chain is valid at an instant of the time base in ns (R134). -/
opaque datesOk : List Bytes → Nat → Bool

/-- Frames of credit an inbound stream of a kind is opened with, up to the free staging space (R163, R165). -/
opaque initialCredit : Nat → Nat

/-- The values of factory protection profile 0 to 14 as the bytes of Table 13.11; published outside the spec (R370). -/
opaque factoryProfile : Nat → Bytes

/-- The factory calibration of a string's entry `k`: offset word and gain word (Table 10.9). -/
opaque factoryCal : Nat → Nat → Nat × Nat

/-- The fixed factory coefficients of a sequencer input without a calibration entry under a reference: offset in LSB and gain
in 2^-30 (R281). -/
opaque fixedCal : Nat → Nat → Int × Nat

/-- ENG_VALUE of a code of an input whose LSB Table 10.3 does not give (the thermistors, REF_CHECK and AVDD): input, reference,
the last AVDD conversion, code (R281). -/
opaque inputValue : Nat → Nat → Option Int → Int → Int

/-- The node certificate of a chain in DER and the serialNumber of its subject (R246); none where the chain cannot be
parsed. -/
opaque certLeaf : Bytes → Option (Bytes × Nat)

/-- A signature verifies against the key of a node certificate: certificate, message, signature (R246). -/
opaque nodeSig : Bytes → Bytes → Bytes → Bool

/-- A fresh nonce of 32 bytes for node authentication (R246); `n` counts them. -/
opaque nonce : Nat → Bytes

/-- A value the spec leaves undefined, applied to a counter of the state, kept to `w` bits by its user. -/
opaque freeValue : Nat → Nat

/-- STORED_RATIO after a second in which nothing was stored, which R270 does not state (log 50). -/
opaque idleRatio : Nat

/-- The conversion an image of another CONFIG_FORMAT carries: stored registers from one format to another (R523),
as a map on one stored value: format from, format to, object, instance, place, value. -/
opaque convertCell : Nat → Nat → Nat → Nat → Nat → Nat → Nat

end Sys2Proof.Config
end

