-- ==== Sys2Proof/Machine/Fields.lean ====
section
/-! DEFINITION. What a field map of the spec says of a field (Table 0.6, R21, R153, R554) and of an object (R158). -/

namespace Sys2Proof.Machine

/-- The access codes of Table 0.6; `wol` is the pair WO, RWL that two fields carry, `rsv` a reserved field. -/
inductive Access where
  | ro | rw | w1c | wo | rwl | wol | rsv
  deriving DecidableEq, Repr

/-- One row of a field map. `pos` is the place of the lowest bit, counted from bit 0 of byte 0 of the object.
A row that repeats has `count` copies, `stride` bytes apart. `perm` lists the permitted values of R554, empty
where the Meaning column lists none. -/
structure Fld where
  obj : Nat
  pos : Nat
  width : Nat
  access : Access
  reset : Nat
  stored : Bool
  signed : Bool
  isTime : Bool
  perm : List (Int × Int)
  stride : Nat
  count : Nat
  rstep : Nat
  deriving DecidableEq, Repr

/-- A row of a field map, with the columns most rows leave at their plain values as options. -/
def mkFld (obj pos width : Nat) (access : Access) (reset : Nat) (stored := false) (signed := false)
    (isTime := false) (perm : List (Int × Int) := []) (stride := 0) (count := 1) (rstep := 0) : Fld :=
  ⟨obj, pos, width, access, reset, stored, signed, isTime, perm, stride, count, rstep⟩

/-- What the instance number of an object means (R20), and so which instances are present. -/
inductive InstKind where
  | module | die | string | port | session | slot | stringNode | channel | table | entry | output | capture
  | canChannel | canObject | domain
  deriving DecidableEq, Repr

/-- One object of Table 5.14: its ID, its size in bytes, what its instance means, the flags LIST_OBJ reports
(R158), and its field map. -/
structure ObjDesc where
  id : Nat
  size : Nat
  inst : InstKind
  stored : Bool
  epochBound : Bool
  roleBound : Bool
  flds : List Fld
  deriving DecidableEq, Repr

/-- The reset value of copy `idx` of a field. -/
def Fld.resetAt (f : Fld) (idx : Nat) : Nat := f.reset + f.rstep * idx

/-- The first byte of copy `idx` of a field. -/
def Fld.byteAt (f : Fld) (idx : Nat) : Nat := f.pos / 8 + f.stride * idx

/-- How many bytes a field touches. -/
def Fld.bytes (f : Fld) : Nat := (f.pos % 8 + f.width + 7) / 8

/-- The value is one the Meaning column permits (R554). -/
def Fld.permits (f : Fld) (v : Nat) : Bool :=
  f.perm.isEmpty ||
    f.perm.any fun r =>
      let x : Int := if f.signed then toInt f.width v else (v : Int)
      decide (r.1 ≤ x) && decide (x ≤ r.2)

end Sys2Proof.Machine

namespace Sys2Proof.Obj

open Sys2Proof.Machine

/-- A reserved field of an object (R156: a set mask bit in it is refused with ST_RANGE). -/
def rsv (obj pos width : Nat) (stride := 0) (count := 1) : Fld :=
  mkFld obj pos width .rsv 0 (stride := stride) (count := count)

end Sys2Proof.Obj
end

