-- ==== Sys2Proof/Machine/ObjectsA.lean ====
section
/-! DEFINITION. The field maps of the configuration objects 0x01xx to 0x07xx as their tables in spec/ give them:
offset, bits, type, access, reset and the permitted values of R554. A reset column that names a source
(factory, boot, switches, image, fuses, variant, profile) is 0 here and is written by the start. -/

namespace Sys2Proof.Obj

open Sys2Proof.Machine

/-! MODULE_IDENTITY (0x0101), Table 1.9 of 01_architecture.md. -/
namespace ModuleIdentity
def VARIANT : Fld := mkFld 0x0101 0 8 .ro 0
def DIE_COUNT : Fld := mkFld 0x0101 8 8 .ro 0
def STRING_PRESENT : Fld := mkFld 0x0101 16 8 .ro 0
def STRING_ENABLE : Fld := mkFld 0x0101 24 8 .ro 0
def CONTROL_CHANNELS : Fld := mkFld 0x0101 32 8 .ro 0
def BLOCK_ID : Fld := mkFld 0x0101 40 8 .ro 0
def HW_ISSUE : Fld := mkFld 0x0101 48 16 .ro 0
def SERIAL : Fld := mkFld 0x0101 64 128 .ro 0
def FW_MAJOR : Fld := mkFld 0x0101 216 8 .ro 0
def FW_MINOR : Fld := mkFld 0x0101 208 8 .ro 0
def FW_PATCH : Fld := mkFld 0x0101 192 16 .ro 0
def BOOT_ROM_VERSION : Fld := mkFld 0x0101 224 32 .ro 0
def ACTIVE_SLOT : Fld := mkFld 0x0101 256 8 .ro 0
def flds : List Fld := [
  VARIANT, DIE_COUNT, STRING_PRESENT, STRING_ENABLE, CONTROL_CHANNELS, BLOCK_ID, HW_ISSUE, SERIAL, FW_MAJOR,
  FW_MINOR, FW_PATCH, BOOT_ROM_VERSION, ACTIVE_SLOT, rsv 0x0101 264 8, rsv 0x0101 272 16]
def desc : ObjDesc := ⟨0x0101, 36, .module, false, false, false, flds⟩
end ModuleIdentity

/-! DIE_STATUS (0x0102), Table 1.10 of 01_architecture.md. -/
namespace DieStatus
def PACE : Fld := mkFld 0x0102 0 16 .ro 65535
def PACE_MIN_1S : Fld := mkFld 0x0102 16 16 .ro 65535
def FLOOR_PACE : Fld := mkFld 0x0102 32 16 .ro 620
def BREATHER_FRACTION : Fld := mkFld 0x0102 48 16 .ro 0
def EFFECTIVE_PACE : Fld := mkFld 0x0102 64 16 .ro 65535
def VCORE : Fld := mkFld 0x0102 80 16 .ro 65535
def DIE_TEMP_MAX : Fld := mkFld 0x0102 96 16 .ro 32768 (signed := true)
def SELF_TEST_FAIL : Fld := mkFld 0x0102 115 1 .w1c 0
def RESULT_LATE : Fld := mkFld 0x0102 114 1 .w1c 0
def DIE_STALLED : Fld := mkFld 0x0102 113 1 .ro 0
def PACE_LOW : Fld := mkFld 0x0102 112 1 .ro 0
def LEAD_CLUSTER : Fld := mkFld 0x0102 120 8 .ro 0
def RATE_SHIFT : Fld := mkFld 0x0102 128 8 .ro 0
def RATE_SHIFT_CHANGES : Fld := mkFld 0x0102 144 16 .ro 0
def RESULT_LATE_COUNT : Fld := mkFld 0x0102 160 32 .ro 0
def PACE_LOW_TIME : Fld := mkFld 0x0102 192 32 .ro 0
def flds : List Fld := [
  PACE, PACE_MIN_1S, FLOOR_PACE, BREATHER_FRACTION, EFFECTIVE_PACE, VCORE, DIE_TEMP_MAX, rsv 0x0102 116 4,
  SELF_TEST_FAIL, RESULT_LATE, DIE_STALLED, PACE_LOW, LEAD_CLUSTER, RATE_SHIFT, rsv 0x0102 136 8,
  RATE_SHIFT_CHANGES, RESULT_LATE_COUNT, PACE_LOW_TIME]
def desc : ObjDesc := ⟨0x0102, 28, .die, false, false, false, flds⟩
end DieStatus

/-! MODULE_HEALTH (0x0103), Table 1.11 of 01_architecture.md. -/
namespace ModuleHealth
def REFCLK_DEV : Fld := mkFld 0x0103 0 16 .ro 32768 (signed := true)
def DRAM_UE_SEEN : Fld := mkFld 0x0103 18 1 .w1c 0
def REFCLK_DRIFT : Fld := mkFld 0x0103 17 1 .ro 0
def REFCLK_FAIL : Fld := mkFld 0x0103 16 1 .ro 0
def DRAM_UE_REGION : Fld := mkFld 0x0103 24 8 .ro 0
def DRAM_CE_COUNT : Fld := mkFld 0x0103 32 32 .ro 0
def DRAM_UE_COUNT : Fld := mkFld 0x0103 64 32 .ro 0
def SCRUB_PASSES : Fld := mkFld 0x0103 96 32 .ro 0
def flds : List Fld := [
  REFCLK_DEV, rsv 0x0103 19 5, DRAM_UE_SEEN, REFCLK_DRIFT, REFCLK_FAIL, DRAM_UE_REGION, DRAM_CE_COUNT,
  DRAM_UE_COUNT, SCRUB_PASSES]
def desc : ObjDesc := ⟨0x0103, 16, .module, false, false, false, flds⟩
end ModuleHealth

/-! MODULE_TERMINALS (0x0104), Table 2.16 of 02_module_hardware.md. -/
namespace ModuleTerminals
def PROFILE_APPLIED : Fld := mkFld 0x0104 0 8 .ro 0
def PROFILE_SWITCH : Fld := mkFld 0x0104 8 8 .ro 0
def BLOCK_SWITCH : Fld := mkFld 0x0104 16 8 .ro 0
def MASK_SWITCH : Fld := mkFld 0x0104 25 7 .ro 0
def I2C_ADDR_SWITCH : Fld := mkFld 0x0104 24 1 .ro 0
def PRESENCE_STUCK : Fld := mkFld 0x0104 38 1 .ro 0
def J_SVC_FITTED : Fld := mkFld 0x0104 37 1 .ro 0
def SEAL_OPEN : Fld := mkFld 0x0104 36 1 .ro 0
def SEAL_OPENED : Fld := mkFld 0x0104 35 1 .w1c 0
def SWITCH_FAULT : Fld := mkFld 0x0104 34 1 .ro 0
def SWITCH_CHANGED : Fld := mkFld 0x0104 33 1 .ro 0
def COIL_SUPPLY_LOW : Fld := mkFld 0x0104 32 1 .ro 0
def COIL_SUPPLY_HIGH : Fld := mkFld 0x0104 42 1 .ro 0
def SAFE_LOOP_IN_OPEN : Fld := mkFld 0x0104 41 1 .ro 0
def SAFE_LOOP_OUT_OPEN : Fld := mkFld 0x0104 40 1 .ro 0
def COIL_SUPPLY_V : Fld := mkFld 0x0104 48 16 .ro 65535
def SAFE_LOOP_IN_I : Fld := mkFld 0x0104 64 16 .ro 65535
def SEAL_OPEN_COUNT : Fld := mkFld 0x0104 96 32 .ro 0
def SEAL_OPEN_TIME : Fld := mkFld 0x0104 128 80 .ro 0xFFFFFFFFFFFFFFFFFFFF (isTime := true)
def flds : List Fld := [
  PROFILE_APPLIED, PROFILE_SWITCH, BLOCK_SWITCH, MASK_SWITCH, I2C_ADDR_SWITCH, rsv 0x0104 39 1,
  PRESENCE_STUCK, J_SVC_FITTED, SEAL_OPEN, SEAL_OPENED, SWITCH_FAULT, SWITCH_CHANGED, COIL_SUPPLY_LOW,
  rsv 0x0104 43 5, COIL_SUPPLY_HIGH, SAFE_LOOP_IN_OPEN, SAFE_LOOP_OUT_OPEN, COIL_SUPPLY_V, SAFE_LOOP_IN_I,
  rsv 0x0104 80 16, SEAL_OPEN_COUNT, SEAL_OPEN_TIME]
def desc : ObjDesc := ⟨0x0104, 26, .module, false, false, false, flds⟩
end ModuleTerminals

/-! STRING_TERMINALS (0x0105), Table 2.17 of 02_module_hardware.md. -/
namespace StringTerminals
def FB_PRE : Fld := mkFld 0x0105 4 1 .ro 0
def FB_NEG : Fld := mkFld 0x0105 3 1 .ro 0
def FB_POS : Fld := mkFld 0x0105 2 1 .ro 0
def FLOOP_OPEN : Fld := mkFld 0x0105 1 1 .ro 0
def CONN_OPEN : Fld := mkFld 0x0105 0 1 .ro 0
def FLOOP_I : Fld := mkFld 0x0105 16 16 .ro 65535
def COIL_I_POS : Fld := mkFld 0x0105 32 16 .ro 0
def COIL_I_NEG : Fld := mkFld 0x0105 48 16 .ro 0
def COIL_I_PRE : Fld := mkFld 0x0105 64 16 .ro 0
def SHUNT_TEMP : Fld := mkFld 0x0105 80 16 .ro 32768 (signed := true)
def CONN_OPEN_COUNT : Fld := mkFld 0x0105 96 32 .ro 0
def flds : List Fld := [
  rsv 0x0105 5 3, FB_PRE, FB_NEG, FB_POS, FLOOP_OPEN, CONN_OPEN, rsv 0x0105 8 8, FLOOP_I, COIL_I_POS,
  COIL_I_NEG, COIL_I_PRE, SHUNT_TEMP, CONN_OPEN_COUNT]
def desc : ObjDesc := ⟨0x0105, 16, .string, false, false, false, flds⟩
end StringTerminals

/-! NET_CONFIG (0x0106), Table 5.11 of 05_mailbox_interface.md. -/
namespace NetConfig
def IPV4_ADDR : Fld := mkFld 0x0106 0 32 .rw 0 (stored := true)
def PREFIX_LEN : Fld := mkFld 0x0106 32 8 .rw 24 (stored := true) (perm := [(8, 30)])
def VLAN_PCP : Fld := mkFld 0x0106 40 3 .rw 4 (stored := true)
def VLAN_ID : Fld := mkFld 0x0106 48 16 .rw 0 (stored := true) (perm := [(1, 4094), (0, 0)])
def GATEWAY : Fld := mkFld 0x0106 64 32 .rw 0 (stored := true)
def MAILBOX_PORT : Fld := mkFld 0x0106 96 16 .rw 47310 (stored := true) (perm := [(1024, 65535)])
def SESSION_IDLE : Fld := mkFld 0x0106 112 16 .rw 30 (stored := true) (perm := [(5, 600)])
def MAC_ADDR : Fld := mkFld 0x0106 128 48 .ro 0
def flds : List Fld := [
  IPV4_ADDR, PREFIX_LEN, rsv 0x0106 43 5, VLAN_PCP, VLAN_ID, GATEWAY, MAILBOX_PORT, SESSION_IDLE, MAC_ADDR,
  rsv 0x0106 176 16]
def desc : ObjDesc := ⟨0x0106, 24, .port, true, false, false, flds⟩
end NetConfig

/-! MAILBOX_STATUS (0x0107), Table 5.12 of 05_mailbox_interface.md. -/
namespace MailboxStatus
def SESSIONS_OPEN : Fld := mkFld 0x0107 0 8 .ro 0
def STREAMS_OPEN : Fld := mkFld 0x0107 8 8 .ro 0
def TXN_OPEN : Fld := mkFld 0x0107 16 8 .ro 0
def NET_B_LINK : Fld := mkFld 0x0107 25 1 .ro 0
def NET_A_LINK : Fld := mkFld 0x0107 24 1 .ro 0
def SESSIONS_REFUSED : Fld := mkFld 0x0107 32 32 .ro 0
def TLS_FAILURES : Fld := mkFld 0x0107 64 32 .ro 0
def FRAME_ERRORS : Fld := mkFld 0x0107 96 32 .ro 0
def TXN_CONFLICTS : Fld := mkFld 0x0107 128 32 .ro 0
def STREAM_DATA_DISCARDED : Fld := mkFld 0x0107 160 32 .ro 0
def flds : List Fld := [
  SESSIONS_OPEN, STREAMS_OPEN, TXN_OPEN, rsv 0x0107 26 6, NET_B_LINK, NET_A_LINK, SESSIONS_REFUSED,
  TLS_FAILURES, FRAME_ERRORS, TXN_CONFLICTS, STREAM_DATA_DISCARDED]
def desc : ObjDesc := ⟨0x0107, 24, .module, false, false, false, flds⟩
end MailboxStatus

/-! SESSION_STATUS (0x0108), Table 5.13 of 05_mailbox_interface.md. -/
namespace SessionStatus
def SESSION_STATE : Fld := mkFld 0x0108 0 8 .ro 0
def PORT : Fld := mkFld 0x0108 8 8 .ro 0
def CLASS : Fld := mkFld 0x0108 16 8 .ro 0
def TIME_UNCHECKED : Fld := mkFld 0x0108 25 1 .ro 0
def TXN_ACTIVE : Fld := mkFld 0x0108 24 1 .ro 0
def PEER_ADDR : Fld := mkFld 0x0108 32 32 .ro 0
def PEER_PORT : Fld := mkFld 0x0108 64 16 .ro 0
def STREAMS : Fld := mkFld 0x0108 80 8 .ro 0
def REQUESTS : Fld := mkFld 0x0108 96 32 .ro 0
def OPEN_TIME : Fld := mkFld 0x0108 128 80 .ro 0xFFFFFFFFFFFFFFFFFFFF (isTime := true)
def flds : List Fld := [
  SESSION_STATE, PORT, CLASS, rsv 0x0108 26 6, TIME_UNCHECKED, TXN_ACTIVE, PEER_ADDR, PEER_PORT, STREAMS,
  rsv 0x0108 88 8, REQUESTS, OPEN_TIME, rsv 0x0108 208 16]
def desc : ObjDesc := ⟨0x0108, 28, .session, false, false, false, flds⟩
end SessionStatus

/-! POWER_STATUS (0x0201), Table 3.8 of 03_supplies_and_power_states.md. -/
namespace PowerStatus
def POWER_STATE : Fld := mkFld 0x0201 0 8 .ro 1
def SUPPLY_SOURCE : Fld := mkFld 0x0201 8 8 .ro 1
def HOLDUP_READY : Fld := mkFld 0x0201 23 1 .ro 0
def SPRINT_ACTIVE : Fld := mkFld 0x0201 22 1 .ro 0
def THROTTLE_ACTIVE : Fld := mkFld 0x0201 21 1 .ro 0
def TAP_RUNNING : Fld := mkFld 0x0201 20 1 .ro 0
def TAP_START_OK : Fld := mkFld 0x0201 19 1 .ro 0
def AUX_PRESENT : Fld := mkFld 0x0201 18 1 .ro 0
def AUX_DC : Fld := mkFld 0x0201 17 1 .ro 0
def AUX_QUALIFYING : Fld := mkFld 0x0201 16 1 .ro 0
def TRANSPORT_ABORT : Fld := mkFld 0x0201 25 1 .w1c 0
def TAP_OVERLOAD : Fld := mkFld 0x0201 24 1 .w1c 0
def AUX_V : Fld := mkFld 0x0201 32 16 .ro 65535
def AUX_FREQ : Fld := mkFld 0x0201 48 16 .ro 0
def TAP_V : Fld := mkFld 0x0201 64 16 .ro 65535
def INPUT_POWER : Fld := mkFld 0x0201 80 16 .ro 65535
def HOLDUP_ENERGY : Fld := mkFld 0x0201 96 16 .ro 0
def AUX_INTERRUPTIONS : Fld := mkFld 0x0201 128 32 .ro 0
def BACKUP_ENTRIES : Fld := mkFld 0x0201 160 32 .ro 0
def BACKUP_TIME : Fld := mkFld 0x0201 192 32 .ro 0
def LAST_CHANGE_TIME : Fld := mkFld 0x0201 224 80 .ro 0xFFFFFFFFFFFFFFFFFFFF (isTime := true)
def flds : List Fld := [
  POWER_STATE, SUPPLY_SOURCE, HOLDUP_READY, SPRINT_ACTIVE, THROTTLE_ACTIVE, TAP_RUNNING, TAP_START_OK,
  AUX_PRESENT, AUX_DC, AUX_QUALIFYING, rsv 0x0201 26 6, TRANSPORT_ABORT, TAP_OVERLOAD, AUX_V, AUX_FREQ,
  TAP_V, INPUT_POWER, HOLDUP_ENERGY, rsv 0x0201 112 16, AUX_INTERRUPTIONS, BACKUP_ENTRIES, BACKUP_TIME,
  LAST_CHANGE_TIME, rsv 0x0201 304 16]
def desc : ObjDesc := ⟨0x0201, 40, .module, false, false, false, flds⟩
end PowerStatus

/-! POWER_CONFIG (0x0202), Table 3.9 of 03_supplies_and_power_states.md. -/
namespace PowerConfig
def AUX_RETURN_QUAL : Fld := mkFld 0x0202 0 16 .rw 10 (stored := true) (perm := [(1, 300)])
def HOLDUP_OPEN_DELAY : Fld := mkFld 0x0202 16 16 .rw 50 (stored := true) (perm := [(0, 100)])
def TAP_STANDBY_EN : Fld := mkFld 0x0202 32 1 .rw 1 (stored := true)
def flds : List Fld := [
  AUX_RETURN_QUAL, HOLDUP_OPEN_DELAY, rsv 0x0202 33 7, TAP_STANDBY_EN, rsv 0x0202 40 8, rsv 0x0202 48 16]
def desc : ObjDesc := ⟨0x0202, 8, .module, true, false, false, flds⟩
end PowerConfig

/-! STRING_POWER (0x0203), Table 3.10 of 03_supplies_and_power_states.md. -/
namespace StringPower
def TRANSPORT_WAKE_V : Fld := mkFld 0x0203 0 32 .rw 0xFFFFFFFF (stored := true) (perm := [(1000, 1600000), (4294967295, 4294967295)])
def BACKUP_SHIFT : Fld := mkFld 0x0203 32 8 .ro 0
def WAKE_V_SET : Fld := mkFld 0x0203 40 1 .ro 0
def flds : List Fld := [
  TRANSPORT_WAKE_V, BACKUP_SHIFT, rsv 0x0203 41 7, WAKE_V_SET, rsv 0x0203 48 16]
def desc : ObjDesc := ⟨0x0203, 8, .string, true, false, false, flds⟩
end StringPower

/-! BOOT_STATUS (0x0301), Table 4.6 of 04_start_and_restoration.md. -/
namespace BootStatus
def RESTART_CAUSE : Fld := mkFld 0x0301 0 8 .ro 0
def START_PHASE : Fld := mkFld 0x0301 8 8 .ro 0
def BOOT_SLOT : Fld := mkFld 0x0301 16 8 .ro 0
def LEDGER_STATE : Fld := mkFld 0x0301 24 8 .ro 0
def ERASE_RERUN : Fld := mkFld 0x0301 34 1 .ro 0
def JOURNAL_REPLAYED : Fld := mkFld 0x0301 33 1 .ro 0
def BOOT_FALLBACK : Fld := mkFld 0x0301 32 1 .ro 0
def RESTART_DETAIL : Fld := mkFld 0x0301 64 32 .ro 0
def BOOT_COUNT : Fld := mkFld 0x0301 96 32 .ro 0
def START_TIME : Fld := mkFld 0x0301 128 80 .ro 0xFFFFFFFFFFFFFFFFFFFF (isTime := true)
def FIRST_LAP_TIME : Fld := mkFld 0x0301 208 80 .ro 0xFFFFFFFFFFFFFFFFFFFF (isTime := true)
def RESTORE_TIME : Fld := mkFld 0x0301 288 80 .ro 0xFFFFFFFFFFFFFFFFFFFF (isTime := true)
def flds : List Fld := [
  RESTART_CAUSE, START_PHASE, BOOT_SLOT, LEDGER_STATE, rsv 0x0301 35 5, ERASE_RERUN, JOURNAL_REPLAYED,
  BOOT_FALLBACK, rsv 0x0301 40 24, RESTART_DETAIL, BOOT_COUNT, START_TIME, FIRST_LAP_TIME, RESTORE_TIME,
  rsv 0x0301 368 16]
def desc : ObjDesc := ⟨0x0301, 48, .module, false, false, false, flds⟩
end BootStatus

/-! MEASUREMENT_SLOT (0x0302), Table 4.7 of 04_start_and_restoration.md. -/
namespace MeasurementSlot
def SLOT_VALUE : Fld := mkFld 0x0302 0 384 .ro 0
def EXTEND_COUNT : Fld := mkFld 0x0302 384 32 .ro 0
def LAST_EXTEND_TIME : Fld := mkFld 0x0302 416 80 .ro 0xFFFFFFFFFFFFFFFFFFFF (isTime := true)
def flds : List Fld := [
  SLOT_VALUE, EXTEND_COUNT, LAST_EXTEND_TIME, rsv 0x0302 496 16]
def desc : ObjDesc := ⟨0x0302, 64, .slot, false, false, false, flds⟩
end MeasurementSlot

/-! START_CONFIG (0x0303), Table 4.8 of 04_start_and_restoration.md. -/
namespace StartConfig
def START_CLOSE_POLICY : Fld := mkFld 0x0303 0 8 .rwl 0 (stored := true) (perm := [(0, 1)])
def RESTORE_WAIT : Fld := mkFld 0x0303 16 16 .rw 60 (stored := true) (perm := [(10, 3600)])
def DEFAULT_SOH : Fld := mkFld 0x0303 32 16 .rw 8000 (stored := true) (perm := [(5000, 10000)])
def DEFAULT_R_FACTOR : Fld := mkFld 0x0303 48 16 .rw 150 (stored := true) (perm := [(100, 300)])
def DEFAULT_LIMIT : Fld := mkFld 0x0303 64 16 .rw 50 (stored := true) (perm := [(10, 100)])
def START_SOC_SIGMA : Fld := mkFld 0x0303 80 16 .rw 1000 (stored := true) (perm := [(100, 5000)])
def ROLE_LISTEN : Fld := mkFld 0x0303 96 16 .rw 30 (stored := true) (perm := [(10, 300)])
def flds : List Fld := [
  START_CLOSE_POLICY, rsv 0x0303 8 8, RESTORE_WAIT, DEFAULT_SOH, DEFAULT_R_FACTOR, DEFAULT_LIMIT,
  START_SOC_SIGMA, ROLE_LISTEN, rsv 0x0303 112 16]
def desc : ObjDesc := ⟨0x0303, 16, .module, true, false, false, flds⟩
end StartConfig

/-! RING_CONFIG (0x0401), Table 6.11 of 06_scadura_ring_link.md. -/
namespace RingConfig
def CMD_RETRIES : Fld := mkFld 0x0401 0 8 .rw 3 (stored := true) (perm := [(0, 7)])
def MISSING_ROUNDS : Fld := mkFld 0x0401 8 8 .rw 3 (stored := true) (perm := [(2, 10)])
def DELAY_TOLERANCE : Fld := mkFld 0x0401 16 16 .rw 20 (stored := true) (perm := [(5, 200)])
def CLOSE_QUAL : Fld := mkFld 0x0401 32 16 .rw 10 (stored := true) (perm := [(1, 600)])
def CLOSE_REQUEST : Fld := mkFld 0x0401 49 1 .wo 0
def AUTO_CLOSE : Fld := mkFld 0x0401 48 1 .rw 1 (stored := true)
def flds : List Fld := [
  CMD_RETRIES, MISSING_ROUNDS, DELAY_TOLERANCE, CLOSE_QUAL, rsv 0x0401 50 6, CLOSE_REQUEST, AUTO_CLOSE,
  rsv 0x0401 56 8]
def desc : ObjDesc := ⟨0x0401, 8, .string, true, false, false, flds⟩
end RingConfig

/-! RING_STATUS (0x0402), Table 6.12 of 06_scadura_ring_link.md. -/
namespace RingStatus
def RING_STATE : Fld := mkFld 0x0402 0 8 .ro 0
def NODE_COUNT : Fld := mkFld 0x0402 8 8 .ro 0
def SEG_A_NODES : Fld := mkFld 0x0402 16 8 .ro 0
def SEG_B_NODES : Fld := mkFld 0x0402 24 8 .ro 0
def UNREACHABLE_NODES : Fld := mkFld 0x0402 32 8 .ro 0
def ENUM_ACTIVE : Fld := mkFld 0x0402 44 1 .ro 0
def TOPO_OVERSIZE : Fld := mkFld 0x0402 43 1 .ro 0
def JOINT_READY : Fld := mkFld 0x0402 42 1 .ro 0
def PORT_B_LINK : Fld := mkFld 0x0402 41 1 .ro 0
def PORT_A_LINK : Fld := mkFld 0x0402 40 1 .ro 0
def POSITION_COUNT : Fld := mkFld 0x0402 48 16 .ro 0
def TOPO_EPOCH : Fld := mkFld 0x0402 64 32 .ro 0
def T_AB : Fld := mkFld 0x0402 96 32 .ro 0xFFFFFFFF
def EPOCH_TIME : Fld := mkFld 0x0402 128 80 .ro 0xFFFFFFFFFFFFFFFFFFFF (isTime := true)
def LAST_ROUND_TIME : Fld := mkFld 0x0402 208 80 .ro 0xFFFFFFFFFFFFFFFFFFFF (isTime := true)
def LAST_BREAK_TIME : Fld := mkFld 0x0402 288 80 .ro 0xFFFFFFFFFFFFFFFFFFFF (isTime := true)
def LAST_CLOSE_TIME : Fld := mkFld 0x0402 368 80 .ro 0xFFFFFFFFFFFFFFFFFFFF (isTime := true)
def T_BA : Fld := mkFld 0x0402 448 32 .ro 0xFFFFFFFF
def flds : List Fld := [
  RING_STATE, NODE_COUNT, SEG_A_NODES, SEG_B_NODES, UNREACHABLE_NODES, rsv 0x0402 45 3, ENUM_ACTIVE,
  TOPO_OVERSIZE, JOINT_READY, PORT_B_LINK, PORT_A_LINK, POSITION_COUNT, TOPO_EPOCH, T_AB, EPOCH_TIME,
  LAST_ROUND_TIME, LAST_BREAK_TIME, LAST_CLOSE_TIME, T_BA, rsv 0x0402 480 32]
def desc : ObjDesc := ⟨0x0402, 64, .string, false, false, false, flds⟩
end RingStatus

/-! TOPOLOGY (0x0403), Table 6.13 of 06_scadura_ring_link.md. -/
namespace Topology
def TOPO_EPOCH : Fld := mkFld 0x0403 0 32 .ro 0
def NODE_COUNT : Fld := mkFld 0x0403 32 8 .ro 0
def POSITION_COUNT : Fld := mkFld 0x0403 48 16 .ro 0
def EPOCH_TIME : Fld := mkFld 0x0403 64 80 .ro 0xFFFFFFFFFFFFFFFFFFFF (isTime := true)
def SERIAL : Fld := mkFld 0x0403 256 128 .ro 0 (stride := 32) (count := 40)
def FIRST_POSITION : Fld := mkFld 0x0403 384 16 .ro 65535 (stride := 32) (count := 40)
def CHANNELS : Fld := mkFld 0x0403 400 8 .ro 0 (stride := 32) (count := 40)
def REACH : Fld := mkFld 0x0403 408 8 .ro 0 (stride := 32) (count := 40)
def UNAUTHENTICATED : Fld := mkFld 0x0403 420 1 .ro 0 (stride := 32) (count := 40)
def NODE_SILENT : Fld := mkFld 0x0403 419 1 .ro 0 (stride := 32) (count := 40)
def TURNING : Fld := mkFld 0x0403 418 1 .ro 0 (stride := 32) (count := 40)
def LINK_READY : Fld := mkFld 0x0403 417 1 .ro 0 (stride := 32) (count := 40)
def CMD_SEQ_FAULT : Fld := mkFld 0x0403 416 1 .ro 0 (stride := 32) (count := 40)
def CMD_COUNT : Fld := mkFld 0x0403 424 8 .ro 0 (stride := 32) (count := 40)
def DELAY_A : Fld := mkFld 0x0403 448 32 .ro 0xFFFFFFFF (stride := 32) (count := 40)
def DELAY_B : Fld := mkFld 0x0403 480 32 .ro 0xFFFFFFFF (stride := 32) (count := 40)
def flds : List Fld := [
  TOPO_EPOCH, NODE_COUNT, rsv 0x0403 40 8, POSITION_COUNT, EPOCH_TIME, rsv 0x0403 144 112, SERIAL,
  FIRST_POSITION, CHANNELS, REACH, rsv 0x0403 421 3 32 40, UNAUTHENTICATED, NODE_SILENT, TURNING, LINK_READY,
  CMD_SEQ_FAULT, CMD_COUNT, rsv 0x0403 432 16 32 40, DELAY_A, DELAY_B]
def desc : ObjDesc := ⟨0x0403, 1312, .string, false, true, false, flds⟩
end Topology

/-! RING_COUNTERS (0x0404), Table 6.14 of 06_scadura_ring_link.md. -/
namespace RingCounters
def HEADER_CRC_ERRORS : Fld := mkFld 0x0404 0 32 .ro 0
def BLOCK_CRC_ERRORS : Fld := mkFld 0x0404 32 32 .ro 0
def BATONS_ABORTED : Fld := mkFld 0x0404 64 32 .ro 0
def CODE_VIOLATIONS_A : Fld := mkFld 0x0404 96 32 .ro 0
def CODE_VIOLATIONS_B : Fld := mkFld 0x0404 128 32 .ro 0
def RETURN_MISSING : Fld := mkFld 0x0404 160 32 .ro 0
def TURNAROUNDS : Fld := mkFld 0x0404 192 32 .ro 0
def RING_CLOSURES : Fld := mkFld 0x0404 224 32 .ro 0
def CMD_TIMEOUTS : Fld := mkFld 0x0404 256 32 .ro 0
def CMD_REPEATS : Fld := mkFld 0x0404 288 32 .ro 0
def CMD_MISMATCHES : Fld := mkFld 0x0404 320 32 .ro 0
def EPOCH_MISMATCHES : Fld := mkFld 0x0404 352 32 .ro 0
def DELAY_UPDATES : Fld := mkFld 0x0404 384 32 .ro 0
def FULL_ENUMERATIONS : Fld := mkFld 0x0404 416 32 .ro 0
def EPOCH_CHANGES : Fld := mkFld 0x0404 448 32 .ro 0
def flds : List Fld := [
  HEADER_CRC_ERRORS, BLOCK_CRC_ERRORS, BATONS_ABORTED, CODE_VIOLATIONS_A, CODE_VIOLATIONS_B, RETURN_MISSING,
  TURNAROUNDS, RING_CLOSURES, CMD_TIMEOUTS, CMD_REPEATS, CMD_MISMATCHES, EPOCH_MISMATCHES, DELAY_UPDATES,
  FULL_ENUMERATIONS, EPOCH_CHANGES, rsv 0x0404 480 32]
def desc : ObjDesc := ⟨0x0404, 64, .string, false, false, false, flds⟩
end RingCounters

/-! LAP_CONFIG (0x0501), Table 7.8 of 07_laps.md. -/
namespace LapConfig
def LAP_RATE : Fld := mkFld 0x0501 0 16 .rw 100 (stored := true) (perm := [(10, 2000)])
def SPRINT_RATE : Fld := mkFld 0x0501 16 16 .rw 8000 (stored := true) (perm := [(2001, 8000)])
def LEAD_TIME : Fld := mkFld 0x0501 32 32 .rw 20000 (stored := true) (perm := [(2000, 1000000)])
def HOLD_LIMIT : Fld := mkFld 0x0501 64 16 .rw 200 (stored := true) (perm := [(1, 10000)])
def COLLECT_RETRY : Fld := mkFld 0x0501 80 8 .rw 1 (stored := true) (perm := [(0, 3)])
def SPLIT_FORCE : Fld := mkFld 0x0501 89 1 .rw 0 (stored := true)
def SPRINT_REQ : Fld := mkFld 0x0501 88 1 .rw 0 (stored := true)
def flds : List Fld := [
  LAP_RATE, SPRINT_RATE, LEAD_TIME, HOLD_LIMIT, COLLECT_RETRY, rsv 0x0501 90 6, SPLIT_FORCE, SPRINT_REQ]
def desc : ObjDesc := ⟨0x0501, 12, .string, true, false, false, flds⟩
end LapConfig

/-! LAP_STATUS (0x0502), Table 7.9 of 07_laps.md. -/
namespace LapStatus
def LAP_STATE : Fld := mkFld 0x0502 0 8 .ro 0
def TOTAL_SHIFT : Fld := mkFld 0x0502 8 8 .ro 0
def SEGMENT_SHIFT : Fld := mkFld 0x0502 16 8 .ro 0
def FREE_RUNNING : Fld := mkFld 0x0502 30 1 .ro 0
def LEAD_RAISED : Fld := mkFld 0x0502 29 1 .ro 0
def SPRINT_HELD : Fld := mkFld 0x0502 28 1 .ro 0
def SPRINT_IN_FORCE : Fld := mkFld 0x0502 27 1 .ro 0
def SPLIT_ACTIVE : Fld := mkFld 0x0502 26 1 .ro 0
def STITCHED_SEEN : Fld := mkFld 0x0502 25 1 .w1c 0
def PARTIAL_SEEN : Fld := mkFld 0x0502 24 1 .w1c 0
def CONFIGURED_RATE : Fld := mkFld 0x0502 32 16 .ro 0
def LAP_PERIOD : Fld := mkFld 0x0502 64 32 .ro 0xFFFFFFFF
def LEAD_IN_FORCE : Fld := mkFld 0x0502 96 32 .ro 0xFFFFFFFF
def WORST_SKEW_1S : Fld := mkFld 0x0502 128 32 .ro 0
def WORST_SKEW_RUN : Fld := mkFld 0x0502 160 32 .ro 0
def LAPS : Fld := mkFld 0x0502 192 32 .ro 0
def STITCHED_LAPS : Fld := mkFld 0x0502 224 32 .ro 0
def PARTIAL_LAPS : Fld := mkFld 0x0502 256 32 .ro 0
def HELD_POSITIONS : Fld := mkFld 0x0502 288 32 .ro 0
def NA_POSITIONS : Fld := mkFld 0x0502 320 32 .ro 0
def LATE_SAMPLES_SENT : Fld := mkFld 0x0502 352 32 .ro 0
def LATE_SAMPLES_WITHHELD : Fld := mkFld 0x0502 384 32 .ro 0
def LAPS_SKIPPED : Fld := mkFld 0x0502 416 32 .ro 0
def COLLECT_RETRIES : Fld := mkFld 0x0502 448 32 .ro 0
def BLANK_SHORT_LAPS : Fld := mkFld 0x0502 480 32 .ro 0
def LAST_LAP_TIME : Fld := mkFld 0x0502 512 80 .ro 0xFFFFFFFFFFFFFFFFFFFF (isTime := true)
def LAST_STITCHED_TIME : Fld := mkFld 0x0502 592 80 .ro 0xFFFFFFFFFFFFFFFFFFFF (isTime := true)
def LAST_PARTIAL_TIME : Fld := mkFld 0x0502 672 80 .ro 0xFFFFFFFFFFFFFFFFFFFF (isTime := true)
def flds : List Fld := [
  LAP_STATE, TOTAL_SHIFT, SEGMENT_SHIFT, rsv 0x0502 31 1, FREE_RUNNING, LEAD_RAISED, SPRINT_HELD,
  SPRINT_IN_FORCE, SPLIT_ACTIVE, STITCHED_SEEN, PARTIAL_SEEN, CONFIGURED_RATE, rsv 0x0502 48 16, LAP_PERIOD,
  LEAD_IN_FORCE, WORST_SKEW_1S, WORST_SKEW_RUN, LAPS, STITCHED_LAPS, PARTIAL_LAPS, HELD_POSITIONS,
  NA_POSITIONS, LATE_SAMPLES_SENT, LATE_SAMPLES_WITHHELD, LAPS_SKIPPED, COLLECT_RETRIES, BLANK_SHORT_LAPS,
  LAST_LAP_TIME, LAST_STITCHED_TIME, LAST_PARTIAL_TIME, rsv 0x0502 752 16]
def desc : ObjDesc := ⟨0x0502, 96, .string, false, false, false, flds⟩
end LapStatus

/-! NODE_CONFIG (0x0601), Table 8.5 of 08_node_functions.md. -/
namespace NodeConfig
def PARALLEL_COUNT : Fld := mkFld 0x0601 0 8 .rw 1 (stored := true) (perm := [(1, 4)])
def DEFAULT_MASK_12 : Fld := mkFld 0x0601 16 16 .rw 4095 (stored := true)
def DEFAULT_MASK_16 : Fld := mkFld 0x0601 32 16 .rw 65535 (stored := true)
def DEFAULT_THERM_MASK : Fld := mkFld 0x0601 48 16 .rw 65535 (stored := true)
def SUM_TOL : Fld := mkFld 0x0601 64 16 .rw 80 (stored := true) (perm := [(10, 500)])
def WIRE_DEV : Fld := mkFld 0x0601 80 16 .rw 50 (stored := true) (perm := [(10, 1000)])
def WIRE_SUM_TOL : Fld := mkFld 0x0601 96 16 .rw 20 (stored := true) (perm := [(5, 200)])
def WIRE_RETEST : Fld := mkFld 0x0601 112 16 .rw 60 (stored := true) (perm := [(10, 3600)])
def WIRE_TEST_INTERVAL : Fld := mkFld 0x0601 128 16 .rw 60 (stored := true) (perm := [(10, 10080), (0, 0)])
def CMP_TEST_INTERVAL : Fld := mkFld 0x0601 144 16 .rw 60 (stored := true) (perm := [(10, 1440)])
def CHANNEL_MASK : Fld := mkFld 0x0601 192 16 .rw 0 (stored := true) (stride := 8) (count := 40)
def THERM_MASK : Fld := mkFld 0x0601 208 16 .rw 0 (stored := true) (stride := 8) (count := 40)
def STACK_SLOT : Fld := mkFld 0x0601 224 8 .rw 255 (stored := true) (perm := [(0, 39), (255, 255)]) (stride := 8) (count := 40)
def flds : List Fld := [
  PARALLEL_COUNT, rsv 0x0601 8 8, DEFAULT_MASK_12, DEFAULT_MASK_16, DEFAULT_THERM_MASK, SUM_TOL, WIRE_DEV,
  WIRE_SUM_TOL, WIRE_RETEST, WIRE_TEST_INTERVAL, CMP_TEST_INTERVAL, rsv 0x0601 160 32, CHANNEL_MASK,
  THERM_MASK, STACK_SLOT, rsv 0x0601 232 8 8 40, rsv 0x0601 240 16 8 40]
def desc : ObjDesc := ⟨0x0601, 344, .string, true, false, false, flds⟩
end NodeConfig

/-! NODE_STATUS (0x0602), Table 8.6 of 08_node_functions.md. -/
namespace NodeStatus
def SERIAL : Fld := mkFld 0x0602 0 128 .ro 0
def CHANNELS : Fld := mkFld 0x0602 128 8 .ro 0
def HW_ISSUE : Fld := mkFld 0x0602 136 8 .ro 0
def FW_MAJOR : Fld := mkFld 0x0602 144 8 .ro 0
def FW_MINOR : Fld := mkFld 0x0602 152 8 .ro 0
def FW_PATCH : Fld := mkFld 0x0602 160 16 .ro 0
def FIRST_POSITION : Fld := mkFld 0x0602 176 16 .ro 65535
def CHANNEL_MASK : Fld := mkFld 0x0602 192 16 .ro 0
def THERM_MASK : Fld := mkFld 0x0602 208 16 .ro 0
def CMP_CONFIG_FAULT : Fld := mkFld 0x0602 234 1 .ro 0
def AUTH_FAILED : Fld := mkFld 0x0602 233 1 .ro 0
def UNAUTHENTICATED : Fld := mkFld 0x0602 232 1 .ro 0
def CMP_LATCHED : Fld := mkFld 0x0602 231 1 .ro 0
def SUM_MISMATCH : Fld := mkFld 0x0602 230 1 .ro 0
def FLOOP_OPENED : Fld := mkFld 0x0602 229 1 .ro 0
def NODE_FAULT : Fld := mkFld 0x0602 228 1 .ro 0
def CMD_SEQ_FAULT : Fld := mkFld 0x0602 227 1 .ro 0
def NODE_SILENT : Fld := mkFld 0x0602 226 1 .ro 0
def BALANCE_ACTIVE : Fld := mkFld 0x0602 225 1 .ro 0
def WIRE_TEST_ACTIVE : Fld := mkFld 0x0602 224 1 .ro 0
def STACK_SLOT : Fld := mkFld 0x0602 240 8 .ro 255
def LAST_OUTCOME : Fld := mkFld 0x0602 248 8 .ro 0
def CMP_OV_MASK : Fld := mkFld 0x0602 256 16 .ro 0
def CMP_UV_MASK : Fld := mkFld 0x0602 272 16 .ro 0
def OV_THRESH : Fld := mkFld 0x0602 288 16 .ro 65535
def UV_THRESH : Fld := mkFld 0x0602 304 16 .ro 65535
def BLEED_MASK : Fld := mkFld 0x0602 320 16 .ro 0
def BLEED_REMAIN : Fld := mkFld 0x0602 336 16 .ro 0
def STACK_V : Fld := mkFld 0x0602 352 32 .ro 0xFFFFFFFF
def CELL_SUM : Fld := mkFld 0x0602 384 32 .ro 0xFFFFFFFF
def SUM_DIFF : Fld := mkFld 0x0602 416 32 .ro 0x80000000 (signed := true)
def NODE_TEMP : Fld := mkFld 0x0602 448 16 .ro 32768 (signed := true)
def CMP_TEST_FAIL : Fld := mkFld 0x0602 464 16 .ro 0
def CELL_V : Fld := mkFld 0x0602 480 16 .ro 65535 (stride := 2) (count := 16)
def THERM_T : Fld := mkFld 0x0602 736 16 .ro 32768 (signed := true) (stride := 2) (count := 16)
def WIRE_TESTS : Fld := mkFld 0x0602 992 16 .ro 0
def LAST_RECORD_TIME : Fld := mkFld 0x0602 1024 80 .ro 0xFFFFFFFFFFFFFFFFFFFF (isTime := true)
def flds : List Fld := [
  SERIAL, CHANNELS, HW_ISSUE, FW_MAJOR, FW_MINOR, FW_PATCH, FIRST_POSITION, CHANNEL_MASK, THERM_MASK,
  rsv 0x0602 235 5, CMP_CONFIG_FAULT, AUTH_FAILED, UNAUTHENTICATED, CMP_LATCHED, SUM_MISMATCH, FLOOP_OPENED,
  NODE_FAULT, CMD_SEQ_FAULT, NODE_SILENT, BALANCE_ACTIVE, WIRE_TEST_ACTIVE, STACK_SLOT, LAST_OUTCOME,
  CMP_OV_MASK, CMP_UV_MASK, OV_THRESH, UV_THRESH, BLEED_MASK, BLEED_REMAIN, STACK_V, CELL_SUM, SUM_DIFF,
  NODE_TEMP, CMP_TEST_FAIL, CELL_V, THERM_T, WIRE_TESTS, rsv 0x0602 1008 16, LAST_RECORD_TIME,
  rsv 0x0602 1104 16]
def desc : ObjDesc := ⟨0x0602, 140, .stringNode, false, true, false, flds⟩
end NodeStatus

/-! BALANCE_CONFIG (0x0603), Table 8.7 of 08_node_functions.md. -/
namespace BalanceConfig
def MAX_CHANNELS : Fld := mkFld 0x0603 0 8 .rw 8 (stored := true) (perm := [(1, 16)])
def ADJACENT_ALLOWED : Fld := mkFld 0x0603 8 1 .rw 0 (stored := true)
def BALANCE_MIN_V : Fld := mkFld 0x0603 16 16 .rw 30000 (stored := true) (perm := [(20000, 45000)])
def MAX_DURATION : Fld := mkFld 0x0603 32 16 .rw 10000 (stored := true) (perm := [(100, 60000)])
def NODE_TEMP_LIMIT : Fld := mkFld 0x0603 48 16 .rw 8500 (stored := true) (signed := true) (perm := [(5000, 10500)])
def BLANK_PRE : Fld := mkFld 0x0603 64 16 .ro 40
def BLANK_POST : Fld := mkFld 0x0603 80 16 .ro 10
def flds : List Fld := [
  MAX_CHANNELS, rsv 0x0603 9 7, ADJACENT_ALLOWED, BALANCE_MIN_V, MAX_DURATION, NODE_TEMP_LIMIT, BLANK_PRE,
  BLANK_POST]
def desc : ObjDesc := ⟨0x0603, 12, .string, true, false, false, flds⟩
end BalanceConfig

/-! WIRE_STATUS (0x0604), Table 8.8 of 08_node_functions.md. -/
namespace WireStatus
def TOPO_EPOCH : Fld := mkFld 0x0604 0 32 .ro 0
def ENTRY_COUNT : Fld := mkFld 0x0604 32 8 .ro 0
def WIRE_OVERFLOW : Fld := mkFld 0x0604 40 1 .ro 0
def NODE : Fld := mkFld 0x0604 64 8 .ro 255 (stride := 8) (count := 32)
def WIRE : Fld := mkFld 0x0604 72 8 .ro 255 (stride := 8) (count := 32)
def STATE : Fld := mkFld 0x0604 80 8 .ro 0 (stride := 8) (count := 32)
def LAST_RESULT : Fld := mkFld 0x0604 88 8 .ro 0 (stride := 8) (count := 32)
def BOUND : Fld := mkFld 0x0604 96 16 .ro 65535 (stride := 8) (count := 32)
def TEST_DEFERRED : Fld := mkFld 0x0604 112 1 .ro 0 (stride := 8) (count := 32)
def flds : List Fld := [
  TOPO_EPOCH, ENTRY_COUNT, rsv 0x0604 41 7, WIRE_OVERFLOW, rsv 0x0604 48 16, NODE, WIRE, STATE, LAST_RESULT,
  BOUND, rsv 0x0604 113 7 8 32, TEST_DEFERRED, rsv 0x0604 120 8 8 32]
def desc : ObjDesc := ⟨0x0604, 264, .string, false, true, false, flds⟩
end WireStatus

/-! NODE_AUTH (0x0605), Table 8.9 of 08_node_functions.md. -/
namespace NodeAuth
def SERIAL : Fld := mkFld 0x0605 0 128 .ro 0
def AUTH_STATE : Fld := mkFld 0x0605 128 8 .ro 0
def FAIL_REASON : Fld := mkFld 0x0605 136 8 .ro 0
def ATTEMPTS : Fld := mkFld 0x0605 144 8 .ro 0
def PREV_SERIAL : Fld := mkFld 0x0605 160 128 .ro 0
def CERT_DIGEST : Fld := mkFld 0x0605 288 256 .ro 0
def AUTH_TIME : Fld := mkFld 0x0605 544 80 .ro 0xFFFFFFFFFFFFFFFFFFFF (isTime := true)
def flds : List Fld := [
  SERIAL, AUTH_STATE, FAIL_REASON, ATTEMPTS, rsv 0x0605 152 8, PREV_SERIAL, CERT_DIGEST, AUTH_TIME,
  rsv 0x0605 624 16]
def desc : ObjDesc := ⟨0x0605, 80, .stringNode, false, true, false, flds⟩
end NodeAuth

/-! HISTORY_CONFIG (0x0701), Table 9.7 of 09_history_and_traces.md. -/
namespace HistoryConfig
def BLOCK_MAX_AGE : Fld := mkFld 0x0701 0 16 .rw 10 (stored := true) (perm := [(1, 600)])
def PIN_PRE : Fld := mkFld 0x0701 16 16 .rw 20 (stored := true) (perm := [(0, 300)])
def PIN_POST : Fld := mkFld 0x0701 32 16 .rw 5 (stored := true) (perm := [(0, 60)])
def PIN_LIMIT : Fld := mkFld 0x0701 48 8 .rw 50 (stored := true) (perm := [(0, 75)])
def PIN_ON_TRIP : Fld := mkFld 0x0701 58 1 .rw 1 (stored := true)
def PIN_REQUEST : Fld := mkFld 0x0701 57 1 .wo 0
def COMPRESS_EN : Fld := mkFld 0x0701 56 1 .rw 1 (stored := true)
def NOTIFY_SUBJECTS : Fld := mkFld 0x0701 64 32 .rw 6148 (stored := true)
def NOTIFY_MIN_SEVERITY : Fld := mkFld 0x0701 96 8 .rw 3 (stored := true) (perm := [(1, 4)])
def RELEASE_PINS : Fld := mkFld 0x0701 104 1 .wo 0
def flds : List Fld := [
  BLOCK_MAX_AGE, PIN_PRE, PIN_POST, PIN_LIMIT, rsv 0x0701 59 5, PIN_ON_TRIP, PIN_REQUEST, COMPRESS_EN,
  NOTIFY_SUBJECTS, NOTIFY_MIN_SEVERITY, rsv 0x0701 105 7, RELEASE_PINS, rsv 0x0701 112 16]
def desc : ObjDesc := ⟨0x0701, 16, .module, true, false, false, flds⟩
end HistoryConfig

/-! HISTORY_STATUS (0x0702), Table 9.8 of 09_history_and_traces.md. -/
namespace HistoryStatus
def LAP_RING_BLOCKS : Fld := mkFld 0x0702 0 32 .ro 0
def EVENT_RING_BLOCKS : Fld := mkFld 0x0702 32 32 .ro 256
def PINNED_BLOCKS : Fld := mkFld 0x0702 64 32 .ro 0
def DAMAGED_BLOCKS : Fld := mkFld 0x0702 96 32 .ro 0
def HEAD_SEQ : Fld := mkFld 0x0702 128 64 .ro 0
def OLDEST_SEQ : Fld := mkFld 0x0702 192 64 .ro 0
def OLDEST_TIME : Fld := mkFld 0x0702 256 80 .ro 0xFFFFFFFFFFFFFFFFFFFF (isTime := true)
def COMPRESSION_PAUSED : Fld := mkFld 0x0702 337 1 .ro 0
def INIT_PENDING : Fld := mkFld 0x0702 336 1 .ro 1
def PIN_COUNT : Fld := mkFld 0x0702 344 8 .ro 0
def INTAKE_RATE : Fld := mkFld 0x0702 352 32 .ro 0
def STORED_RATIO : Fld := mkFld 0x0702 384 16 .ro 0
def READ_GAPS : Fld := mkFld 0x0702 416 32 .ro 0
def BLOCKS_LOST_UNREAD : Fld := mkFld 0x0702 448 32 .ro 0
def PINS_RELEASED_EARLY : Fld := mkFld 0x0702 480 32 .ro 0
def EVENTS_RECORDED : Fld := mkFld 0x0702 512 32 .ro 0
def flds : List Fld := [
  LAP_RING_BLOCKS, EVENT_RING_BLOCKS, PINNED_BLOCKS, DAMAGED_BLOCKS, HEAD_SEQ, OLDEST_SEQ, OLDEST_TIME,
  rsv 0x0702 338 6, COMPRESSION_PAUSED, INIT_PENDING, PIN_COUNT, INTAKE_RATE, STORED_RATIO,
  rsv 0x0702 400 16, READ_GAPS, BLOCKS_LOST_UNREAD, PINS_RELEASED_EARLY, EVENTS_RECORDED, rsv 0x0702 544 32]
def desc : ObjDesc := ⟨0x0702, 72, .module, false, false, false, flds⟩
end HistoryStatus

/-! TRACE_CONFIG (0x0703), Table 9.9 of 09_history_and_traces.md. -/
namespace TraceConfig
def PRE_SAMPLES : Fld := mkFld 0x0703 0 32 .rw 0x40000 (stored := true) (perm := [(0, 524288)])
def POST_SAMPLES : Fld := mkFld 0x0703 32 32 .rw 0x40000 (stored := true) (perm := [(1, 524288)])
def TRIGGER_MASK : Fld := mkFld 0x0703 64 5 .rw 15 (stored := true)
def ERROR_FACTOR : Fld := mkFld 0x0703 72 8 .rw 4 (stored := true) (perm := [(1, 100)])
def TRACE_EN : Fld := mkFld 0x0703 81 1 .rw 1 (stored := true)
def CAPTURE_REPLACE : Fld := mkFld 0x0703 80 1 .rw 0 (stored := true)
def flds : List Fld := [
  PRE_SAMPLES, POST_SAMPLES, rsv 0x0703 69 3, TRIGGER_MASK, ERROR_FACTOR, rsv 0x0703 82 6, TRACE_EN,
  CAPTURE_REPLACE, rsv 0x0703 88 8]
def desc : ObjDesc := ⟨0x0703, 12, .channel, true, false, false, flds⟩
end TraceConfig

/-! TRACE_STATUS (0x0704), Table 9.10 of 09_history_and_traces.md. -/
namespace TraceStatus
def SAMPLES_HELD : Fld := mkFld 0x0704 0 32 .ro 0
def CAPTURE_VALID : Fld := mkFld 0x0704 33 3 .w1c 0
def CAPTURE_PENDING : Fld := mkFld 0x0704 32 1 .ro 0
def TRIGGERS : Fld := mkFld 0x0704 64 32 .ro 0
def TRIGGERS_MERGED : Fld := mkFld 0x0704 96 32 .ro 0
def CAPTURES_REFUSED : Fld := mkFld 0x0704 128 32 .ro 0
def TRIGGER_TIME : Fld := mkFld 0x0704 192 80 .ro 0xFFFFFFFFFFFFFFFFFFFF (isTime := true) (stride := 16) (count := 3)
def CAUSE : Fld := mkFld 0x0704 272 8 .ro 0 (stride := 16) (count := 3)
def SAMPLES : Fld := mkFld 0x0704 288 32 .ro 0 (stride := 16) (count := 3)
def flds : List Fld := [
  SAMPLES_HELD, rsv 0x0704 36 4, CAPTURE_VALID, CAPTURE_PENDING, rsv 0x0704 40 8, rsv 0x0704 48 16, TRIGGERS,
  TRIGGERS_MERGED, CAPTURES_REFUSED, rsv 0x0704 160 32, TRIGGER_TIME, CAUSE, rsv 0x0704 280 8 16 3, SAMPLES]
def desc : ObjDesc := ⟨0x0704, 72, .channel, false, false, false, flds⟩
end TraceStatus

end Sys2Proof.Obj
end

