-- ==== Sys2Proof/Machine/ObjectsB.lean ====
section
/-! DEFINITION. The field maps of the configuration objects 0x08xx to 0x0Cxx as their tables in spec/ give them:
offset, bits, type, access, reset and the permitted values of R554. A reset column that names a source
(factory, boot, switches, image, fuses, variant, profile) is 0 here and is written by the start. -/

namespace Sys2Proof.Obj

open Sys2Proof.Machine

/-! COULOMB_CONFIG (0x0801), Table 10.5 of 10_string_front_end.md. -/
namespace CoulombConfig
def SHUNT_R : Fld := mkFld 0x0801 0 32 .rwl 0x186A0 (stored := true) (perm := [(50000, 500000)])
def SHUNT_TC : Fld := mkFld 0x0801 32 16 .rw 0 (stored := true) (signed := true) (perm := [(-500, 500)])
def SHUNT_TREF : Fld := mkFld 0x0801 48 16 .rw 2500 (stored := true) (signed := true)
def TEMP_COMP_EN : Fld := mkFld 0x0801 64 1 .rw 1 (stored := true)
def flds : List Fld := [
  SHUNT_R, SHUNT_TC, SHUNT_TREF, rsv 0x0801 65 7, TEMP_COMP_EN, rsv 0x0801 72 8, rsv 0x0801 80 16]
def desc : ObjDesc := ⟨0x0801, 12, .string, true, false, false, flds⟩
end CoulombConfig

/-! COULOMB_STATUS (0x0802), Table 10.6 of 10_string_front_end.md. -/
namespace CoulombStatus
def CURRENT : Fld := mkFld 0x0802 0 32 .ro 0x80000000 (signed := true)
def CURRENT_AVG_1S : Fld := mkFld 0x0802 32 32 .ro 0x80000000 (signed := true)
def CHARGE : Fld := mkFld 0x0802 64 64 .ro 0x8000000000000000 (signed := true)
def SHUNT_V : Fld := mkFld 0x0802 128 32 .ro 0x80000000 (signed := true)
def TEMP_COMP_LOST : Fld := mkFld 0x0802 165 1 .ro 0
def COULOMB_MISMATCH : Fld := mkFld 0x0802 164 1 .ro 0
def OVERRANGE_SEEN : Fld := mkFld 0x0802 163 1 .w1c 0
def OVERRANGE : Fld := mkFld 0x0802 162 1 .ro 0
def SYSTEM_CAL : Fld := mkFld 0x0802 161 1 .ro 0
def WARMUP : Fld := mkFld 0x0802 160 1 .ro 1
def SHUNT_TEMP_USED : Fld := mkFld 0x0802 176 16 .ro 32768 (signed := true)
def OVERRANGE_COUNT : Fld := mkFld 0x0802 192 32 .ro 0
def LINK_FRAMES_LOST : Fld := mkFld 0x0802 224 32 .ro 0
def CHARGE_ZERO_TIME : Fld := mkFld 0x0802 256 80 .ro 0xFFFFFFFFFFFFFFFFFFFF (isTime := true)
def WARMUP_REMAIN : Fld := mkFld 0x0802 336 16 .ro 1200
def flds : List Fld := [
  CURRENT, CURRENT_AVG_1S, CHARGE, SHUNT_V, rsv 0x0802 166 2, TEMP_COMP_LOST, COULOMB_MISMATCH,
  OVERRANGE_SEEN, OVERRANGE, SYSTEM_CAL, WARMUP, rsv 0x0802 168 8, SHUNT_TEMP_USED, OVERRANGE_COUNT,
  LINK_FRAMES_LOST, CHARGE_ZERO_TIME, WARMUP_REMAIN]
def desc : ObjDesc := ⟨0x0802, 44, .string, false, false, false, flds⟩
end CoulombStatus

/-! SEQUENCE_CONFIG (0x0803), Table 10.7 of 10_string_front_end.md. -/
namespace SequenceConfig
def REF_SEL : Fld := mkFld 0x0803 0 8 .rw 0 (stored := true) (perm := [(0, 2)])
def USER_ENTRIES : Fld := mkFld 0x0803 8 8 .rw 0 (stored := true) (perm := [(0, 8)])
def IMD_BUS_ROLE : Fld := mkFld 0x0803 16 8 .rw 0 (stored := true) (perm := [(0, 1)])
def INPUT_FIXED : Fld := mkFld 0x0803 32 8 .ro 1 (stride := 4) (count := 8) (rstep := 1)
def INPUT_USER : Fld := mkFld 0x0803 288 8 .rw 0 (stored := true) (stride := 4) (count := 8)
def ALIGN_LEFT : Fld := mkFld 0x0803 43 1 .rw 0 (stored := true) (stride := 4) (count := 16)
def AVG_LOG2_FIXED : Fld := mkFld 0x0803 40 3 .ro 2 (stride := 4) (count := 8)
def AVG_LOG2_USER : Fld := mkFld 0x0803 296 3 .rw 0 (stored := true) (perm := [(0, 6)]) (stride := 4) (count := 8)
def flds : List Fld := [
  REF_SEL, USER_ENTRIES, IMD_BUS_ROLE, rsv 0x0803 24 8, INPUT_FIXED, INPUT_USER, rsv 0x0803 44 4 4 16,
  ALIGN_LEFT, AVG_LOG2_FIXED, AVG_LOG2_USER, rsv 0x0803 48 16 4 16]
def desc : ObjDesc := ⟨0x0803, 68, .string, true, false, false, flds⟩
end SequenceConfig

/-! SEQUENCE_RESULTS (0x0804), Table 10.8 of 10_string_front_end.md. -/
namespace SequenceResults
def INJECT_REFUSED_SEEN : Fld := mkFld 0x0804 2 1 .w1c 0
def REF_FAULT : Fld := mkFld 0x0804 1 1 .ro 0
def REF_SETTLED : Fld := mkFld 0x0804 0 1 .ro 0
def REF_IN_FORCE : Fld := mkFld 0x0804 8 8 .ro 0
def PASS_TIME : Fld := mkFld 0x0804 16 16 .ro 65535
def PASSES : Fld := mkFld 0x0804 32 32 .ro 0
def INJECTED : Fld := mkFld 0x0804 64 32 .ro 0
def INJECT_REFUSED : Fld := mkFld 0x0804 96 32 .ro 0
def ABORTS : Fld := mkFld 0x0804 128 32 .ro 0
def RESULT : Fld := mkFld 0x0804 160 32 .ro 0 (signed := true) (stride := 12) (count := 16)
def ENG_VALUE : Fld := mkFld 0x0804 192 32 .ro 0x80000000 (signed := true) (stride := 12) (count := 16)
def AGE : Fld := mkFld 0x0804 224 16 .ro 65535 (stride := 12) (count := 16)
def REF_UNSETTLED : Fld := mkFld 0x0804 241 1 .ro 0 (stride := 12) (count := 16)
def VALID : Fld := mkFld 0x0804 240 1 .ro 0 (stride := 12) (count := 16)
def flds : List Fld := [
  rsv 0x0804 3 5, INJECT_REFUSED_SEEN, REF_FAULT, REF_SETTLED, REF_IN_FORCE, PASS_TIME, PASSES, INJECTED,
  INJECT_REFUSED, ABORTS, RESULT, ENG_VALUE, AGE, rsv 0x0804 242 6 12 16, REF_UNSETTLED, VALID,
  rsv 0x0804 248 8 12 16]
def desc : ObjDesc := ⟨0x0804, 212, .string, false, false, false, flds⟩
end SequenceResults

/-! CALIBRATION (0x0805), Table 10.9 of 10_string_front_end.md. -/
namespace Calibration
def SYSTEM_CAL_MASK : Fld := mkFld 0x0805 0 16 .ro 0 (stored := true)
def LAST_CAL_TIME : Fld := mkFld 0x0805 32 80 .ro 0xFFFFFFFFFFFFFFFFFFFF (stored := true) (isTime := true)
def CAL_OFFSET : Fld := mkFld 0x0805 128 32 .rwl 0 (stored := true) (signed := true) (stride := 8) (count := 16)
def CAL_GAIN : Fld := mkFld 0x0805 160 32 .rwl 0 (stored := true) (perm := [(1020054733, 1127428915)]) (stride := 8) (count := 16)
def flds : List Fld := [
  SYSTEM_CAL_MASK, rsv 0x0805 16 16, LAST_CAL_TIME, rsv 0x0805 112 16, CAL_OFFSET, CAL_GAIN]
def desc : ObjDesc := ⟨0x0805, 144, .string, true, false, false, flds⟩
end Calibration

/-! INSULATION_STATUS (0x0806), Table 10.10 of 10_string_front_end.md. -/
namespace InsulationStatus
def R_ISO : Fld := mkFld 0x0806 0 32 .ro 0xFFFFFFFF
def R_ISO_POS : Fld := mkFld 0x0806 32 32 .ro 0xFFFFFFFF
def R_ISO_NEG : Fld := mkFld 0x0806 64 32 .ro 0xFFFFFFFF
def C_Y : Fld := mkFld 0x0806 96 32 .ro 0xFFFFFFFF
def FAULT_POSITION : Fld := mkFld 0x0806 128 16 .ro 65535
def BUS_GROUP : Fld := mkFld 0x0806 150 1 .ro 0
def BUS_PASSIVE : Fld := mkFld 0x0806 149 1 .ro 0
def SLOW_SETTLE : Fld := mkFld 0x0806 148 1 .ro 0
def PAUSED_PRECHARGE : Fld := mkFld 0x0806 147 1 .ro 0
def OVER_RANGE : Fld := mkFld 0x0806 146 1 .ro 0
def UNDER_RANGE : Fld := mkFld 0x0806 145 1 .ro 0
def VALID : Fld := mkFld 0x0806 144 1 .ro 0
def IMD_STATE : Fld := mkFld 0x0806 152 8 .ro 0
def RESULT_PERIOD : Fld := mkFld 0x0806 160 16 .ro 50
def RESULT_TIME : Fld := mkFld 0x0806 192 80 .ro 0xFFFFFFFFFFFFFFFFFFFF (isTime := true)
def RESULTS : Fld := mkFld 0x0806 288 32 .ro 0
def flds : List Fld := [
  R_ISO, R_ISO_POS, R_ISO_NEG, C_Y, FAULT_POSITION, rsv 0x0806 151 1, BUS_GROUP, BUS_PASSIVE, SLOW_SETTLE,
  PAUSED_PRECHARGE, OVER_RANGE, UNDER_RANGE, VALID, IMD_STATE, RESULT_PERIOD, rsv 0x0806 176 16, RESULT_TIME,
  rsv 0x0806 272 16, RESULTS]
def desc : ObjDesc := ⟨0x0806, 40, .string, false, false, false, flds⟩
end InsulationStatus

/-! CHEMISTRY_TABLE (0x0901), Table 11.5 of 11_estimation_filter.md. -/
namespace ChemistryTable
def NAME : Fld := mkFld 0x0901 0 128 .rw 0 (stored := true)
def RATED_CAP : Fld := mkFld 0x0901 128 32 .rw 0 (stored := true)
def T_POINT : Fld := mkFld 0x0901 192 16 .rw 0 (stored := true) (signed := true) (stride := 2) (count := 8)
def SOC_POINT : Fld := mkFld 0x0901 320 16 .rw 0 (stored := true) (stride := 2) (count := 64)
def OCV : Fld := mkFld 0x0901 1344 16 .rw 0 (stored := true) (stride := 2) (count := 512)
def R_OHM : Fld := mkFld 0x0901 9536 32 .rw 0 (stored := true) (stride := 32) (count := 8)
def R_FAST : Fld := mkFld 0x0901 9568 32 .rw 0 (stored := true) (stride := 32) (count := 8)
def TAU_FAST : Fld := mkFld 0x0901 9600 32 .rw 0 (stored := true) (stride := 32) (count := 8)
def R_SLOW : Fld := mkFld 0x0901 9632 32 .rw 0 (stored := true) (stride := 32) (count := 8)
def TAU_SLOW : Fld := mkFld 0x0901 9664 32 .rw 0 (stored := true) (stride := 32) (count := 8)
def H_MAX : Fld := mkFld 0x0901 9696 16 .rw 0 (stored := true) (stride := 32) (count := 8)
def KAPPA : Fld := mkFld 0x0901 9712 16 .rw 0 (stored := true) (stride := 32) (count := 8)
def ETA_LOSS : Fld := mkFld 0x0901 9728 16 .rw 0 (stored := true) (stride := 32) (count := 8)
def TABLE_CRC : Fld := mkFld 0x0901 11584 32 .rw 0 (stored := true)
def TABLE_VALID : Fld := mkFld 0x0901 11616 1 .ro 0 (stored := true)
def flds : List Fld := [
  NAME, RATED_CAP, rsv 0x0901 160 32, T_POINT, SOC_POINT, OCV, R_OHM, R_FAST, TAU_FAST, R_SLOW, TAU_SLOW,
  H_MAX, KAPPA, ETA_LOSS, rsv 0x0901 9744 16 32 8, rsv 0x0901 9760 32 32 8, TABLE_CRC, rsv 0x0901 11617 7,
  TABLE_VALID, rsv 0x0901 11624 8, rsv 0x0901 11632 16]
def desc : ObjDesc := ⟨0x0901, 1456, .table, true, false, false, flds⟩
end ChemistryTable

/-! ESTIMATION_CONFIG (0x0902), Table 11.6 of 11_estimation_filter.md. -/
namespace EstimationConfig
def CHEMISTRY : Fld := mkFld 0x0902 0 8 .rw 1 (stored := true) (perm := [(1, 4)])
def PREDICT_MODE : Fld := mkFld 0x0902 8 8 .rw 1 (stored := true) (perm := [(0, 1)])
def CURRENT_TOL_REL : Fld := mkFld 0x0902 16 16 .rw 20 (stored := true) (perm := [(0, 500)])
def CURRENT_TOL_ABS : Fld := mkFld 0x0902 32 32 .rw 5000 (stored := true) (perm := [(0, 1000000)])
def HYST_DEADBAND : Fld := mkFld 0x0902 64 32 .rw 1000 (stored := true) (perm := [(0, 100000)])
def MEAS_SIGMA : Fld := mkFld 0x0902 96 16 .rw 1000 (stored := true) (perm := [(100, 50000)])
def GATE : Fld := mkFld 0x0902 112 16 .rw 500 (stored := true) (perm := [(200, 2000)])
def GATE_RESEAT : Fld := mkFld 0x0902 128 16 .rw 20 (stored := true) (perm := [(2, 1000)])
def SIGMA_CURRENT : Fld := mkFld 0x0902 144 16 .rw 10 (stored := true) (perm := [(0, 1000)])
def SIGMA_CURRENT_ABS : Fld := mkFld 0x0902 160 16 .rw 100 (stored := true) (perm := [(0, 10000)])
def Q_RC : Fld := mkFld 0x0902 176 16 .rw 50 (stored := true) (perm := [(0, 10000)])
def Q_HYST : Fld := mkFld 0x0902 192 16 .rw 20 (stored := true) (perm := [(0, 10000)])
def DIVERGE_Q_FACTOR : Fld := mkFld 0x0902 208 16 .rw 100 (stored := true) (perm := [(1, 10000)])
def BLEED_R : Fld := mkFld 0x0902 224 16 .rw 165 (stored := true) (perm := [(50, 10000)])
def SEED_V_SIGMA : Fld := mkFld 0x0902 240 16 .rw 20000 (stored := true) (perm := [(0, 65535)])
def RUN_AHEAD_EN : Fld := mkFld 0x0902 256 1 .rw 1 (stored := true)
def flds : List Fld := [
  CHEMISTRY, PREDICT_MODE, CURRENT_TOL_REL, CURRENT_TOL_ABS, HYST_DEADBAND, MEAS_SIGMA, GATE, GATE_RESEAT,
  SIGMA_CURRENT, SIGMA_CURRENT_ABS, Q_RC, Q_HYST, DIVERGE_Q_FACTOR, BLEED_R, SEED_V_SIGMA, rsv 0x0902 257 7,
  RUN_AHEAD_EN, rsv 0x0902 264 8, rsv 0x0902 272 16]
def desc : ObjDesc := ⟨0x0902, 36, .string, true, false, false, flds⟩
end EstimationConfig

/-! SENTINEL_CONFIG (0x0903), Table 11.7 of 11_estimation_filter.md. -/
namespace SentinelConfig
def STEP_THRESHOLD : Fld := mkFld 0x0903 0 32 .rw 20000 (stored := true) (perm := [(1000, 1000000)])
def STEP_HOLDOFF : Fld := mkFld 0x0903 32 16 .rw 1000 (stored := true) (perm := [(200, 60000)])
def SENTINEL_COUNT : Fld := mkFld 0x0903 48 8 .ro 0
def POSITION : Fld := mkFld 0x0903 64 16 .rw 65535 (stored := true) (perm := [(0, 511), (65535, 65535)]) (stride := 24) (count := 32)
def ABSENT : Fld := mkFld 0x0903 80 1 .ro 0 (stride := 24) (count := 32)
def SERIAL : Fld := mkFld 0x0903 96 128 .ro 0 (stored := true) (stride := 24) (count := 32)
def CHANNEL : Fld := mkFld 0x0903 224 8 .ro 255 (stored := true) (stride := 24) (count := 32)
def flds : List Fld := [
  STEP_THRESHOLD, STEP_HOLDOFF, SENTINEL_COUNT, rsv 0x0903 56 8, POSITION, rsv 0x0903 81 7 24 32, ABSENT,
  rsv 0x0903 88 8 24 32, SERIAL, CHANNEL, rsv 0x0903 232 24 24 32]
def desc : ObjDesc := ⟨0x0903, 776, .string, true, true, false, flds⟩
end SentinelConfig

/-! FILTER_STATUS (0x0904), Table 11.8 of 11_estimation_filter.md. -/
namespace FilterStatus
def FILTER_STATE : Fld := mkFld 0x0904 0 8 .ro 0
def TABLE_IN_USE : Fld := mkFld 0x0904 8 8 .ro 0
def FALSE_START_RATIO_1S : Fld := mkFld 0x0904 16 16 .ro 0
def LANE_POSITIONS_MAX : Fld := mkFld 0x0904 32 8 .ro 0
def RUN_AHEAD_DEPTH_MAX : Fld := mkFld 0x0904 40 8 .ro 0
def LANE_LOAD_MAX : Fld := mkFld 0x0904 48 16 .ro 0
def LAPS_UPDATED : Fld := mkFld 0x0904 64 32 .ro 0
def FALSE_STARTS : Fld := mkFld 0x0904 96 32 .ro 0
def POSITIONS_REPLAYED : Fld := mkFld 0x0904 128 32 .ro 0
def HALF_RATE_SECONDS : Fld := mkFld 0x0904 160 32 .ro 0
def UPDATES_SKIPPED : Fld := mkFld 0x0904 192 32 .ro 0
def GATED_MEASUREMENTS : Fld := mkFld 0x0904 224 32 .ro 0
def RESEATS : Fld := mkFld 0x0904 256 32 .ro 0
def NUMERIC_RESETS : Fld := mkFld 0x0904 288 32 .ro 0
def SHADOW_CHECKS : Fld := mkFld 0x0904 320 32 .ro 0
def SHADOW_MISMATCHES : Fld := mkFld 0x0904 352 32 .ro 0
def LAST_FALSE_START_TIME : Fld := mkFld 0x0904 384 80 .ro 0xFFFFFFFFFFFFFFFFFFFF (isTime := true)
def flds : List Fld := [
  FILTER_STATE, TABLE_IN_USE, FALSE_START_RATIO_1S, LANE_POSITIONS_MAX, RUN_AHEAD_DEPTH_MAX, LANE_LOAD_MAX,
  LAPS_UPDATED, FALSE_STARTS, POSITIONS_REPLAYED, HALF_RATE_SECONDS, UPDATES_SKIPPED, GATED_MEASUREMENTS,
  RESEATS, NUMERIC_RESETS, SHADOW_CHECKS, SHADOW_MISMATCHES, LAST_FALSE_START_TIME, rsv 0x0904 464 16]
def desc : ObjDesc := ⟨0x0904, 60, .string, false, false, false, flds⟩
end FilterStatus

/-! STRING_STATE (0x0A01), Table 12.8 of 12_estimation_outputs_and_ledger.md. -/
namespace StringState
def STRING_SOC : Fld := mkFld 0x0A01 0 16 .ro 65535
def SOC_MIN : Fld := mkFld 0x0A01 16 16 .ro 65535
def SOC_MAX : Fld := mkFld 0x0A01 32 16 .ro 65535
def SOH_MEAN : Fld := mkFld 0x0A01 48 16 .ro 65535
def SOH_MIN : Fld := mkFld 0x0A01 64 16 .ro 65535
def NA_LIMITED : Fld := mkFld 0x0A01 85 1 .ro 0
def LEDGER_DERATED : Fld := mkFld 0x0A01 84 1 .ro 1
def DIVERGE_ACTIVE : Fld := mkFld 0x0A01 83 1 .ro 0
def REST_CAL_REQUEST : Fld := mkFld 0x0A01 82 1 .ro 0
def RESTING : Fld := mkFld 0x0A01 81 1 .ro 0
def SENTINELS_IDLE : Fld := mkFld 0x0A01 80 1 .ro 0
def CHARGE_LIMIT : Fld := mkFld 0x0A01 96 32 .ro 0x80000000 (signed := true)
def DISCHARGE_LIMIT : Fld := mkFld 0x0A01 128 32 .ro 0x80000000 (signed := true)
def CELL_CHARGE_LIMIT : Fld := mkFld 0x0A01 160 32 .ro 0x80000000 (signed := true)
def CELL_DISCHARGE_LIMIT : Fld := mkFld 0x0A01 192 32 .ro 0x80000000 (signed := true)
def F_LEDGER : Fld := mkFld 0x0A01 224 16 .ro 65535
def F_DIVERGE : Fld := mkFld 0x0A01 240 16 .ro 1000
def F_THERMAL : Fld := mkFld 0x0A01 256 16 .ro 1000
def DEFAULT_POSITIONS : Fld := mkFld 0x0A01 272 16 .ro 0
def DIVERGE_POSITIONS : Fld := mkFld 0x0A01 288 16 .ro 0
def CAPACITY_MIN : Fld := mkFld 0x0A01 320 32 .ro 0xFFFFFFFF
def REST_ELAPSED : Fld := mkFld 0x0A01 352 32 .ro 0
def STEPS_DETECTED : Fld := mkFld 0x0A01 384 32 .ro 0
def STEPS_IGNORED : Fld := mkFld 0x0A01 416 32 .ro 0
def FITS_ACCEPTED : Fld := mkFld 0x0A01 448 32 .ro 0
def FITS_REJECTED : Fld := mkFld 0x0A01 480 32 .ro 0
def CAP_UPDATES : Fld := mkFld 0x0A01 512 32 .ro 0
def LAST_ANCHOR_TIME : Fld := mkFld 0x0A01 544 80 .ro 0xFFFFFFFFFFFFFFFFFFFF (isTime := true)
def flds : List Fld := [
  STRING_SOC, SOC_MIN, SOC_MAX, SOH_MEAN, SOH_MIN, rsv 0x0A01 86 2, NA_LIMITED, LEDGER_DERATED,
  DIVERGE_ACTIVE, REST_CAL_REQUEST, RESTING, SENTINELS_IDLE, rsv 0x0A01 88 8, CHARGE_LIMIT, DISCHARGE_LIMIT,
  CELL_CHARGE_LIMIT, CELL_DISCHARGE_LIMIT, F_LEDGER, F_DIVERGE, F_THERMAL, DEFAULT_POSITIONS,
  DIVERGE_POSITIONS, rsv 0x0A01 304 16, CAPACITY_MIN, REST_ELAPSED, STEPS_DETECTED, STEPS_IGNORED,
  FITS_ACCEPTED, FITS_REJECTED, CAP_UPDATES, LAST_ANCHOR_TIME, rsv 0x0A01 624 16]
def desc : ObjDesc := ⟨0x0A01, 80, .string, false, false, false, flds⟩
end StringState

/-! OUTPUT_CONFIG (0x0A02), Table 12.9 of 12_estimation_outputs_and_ledger.md. -/
namespace OutputConfig
def SOC_SLEW : Fld := mkFld 0x0A02 0 16 .rw 50 (stored := true) (perm := [(1, 1000)])
def LIMIT_HORIZON : Fld := mkFld 0x0A02 16 16 .rw 10 (stored := true) (perm := [(1, 600)])
def REST_CURRENT : Fld := mkFld 0x0A02 32 32 .rw 2000 (stored := true) (perm := [(0, 100000)])
def REST_TIME : Fld := mkFld 0x0A02 64 16 .rw 30 (stored := true) (perm := [(5, 600)])
def REST_SEED_SIGMA : Fld := mkFld 0x0A02 80 16 .rw 300 (stored := true) (perm := [(50, 5000)])
def NEIGHBOUR_SEED_SIGMA : Fld := mkFld 0x0A02 96 16 .rw 2500 (stored := true) (perm := [(100, 5000)])
def PLATEAU_SLOPE : Fld := mkFld 0x0A02 112 16 .rw 500 (stored := true) (perm := [(0, 10000)])
def CAP_MIN_SWING : Fld := mkFld 0x0A02 128 16 .rw 3000 (stored := true) (perm := [(1000, 9000)])
def CAP_LEARN_GAIN : Fld := mkFld 0x0A02 144 8 .rw 20 (stored := true) (perm := [(1, 100)])
def CAP_STEP_MAX : Fld := mkFld 0x0A02 152 8 .rw 50 (stored := true) (perm := [(1, 200)])
def R_LEARN_GAIN : Fld := mkFld 0x0A02 160 8 .rw 10 (stored := true) (perm := [(1, 100)])
def DIVERGE_LIMIT : Fld := mkFld 0x0A02 168 8 .rw 20 (stored := true) (perm := [(5, 100)])
def DIVERGE_RAMP : Fld := mkFld 0x0A02 176 16 .rw 30 (stored := true) (perm := [(1, 600)])
def OUTLIER_CAP : Fld := mkFld 0x0A02 192 8 .rw 15 (stored := true) (perm := [(5, 50)])
def OUTLIER_R : Fld := mkFld 0x0A02 200 8 .rw 50 (stored := true) (perm := [(10, 200)])
def R_LEARN_EN : Fld := mkFld 0x0A02 209 1 .rw 1 (stored := true)
def CAP_LEARN_EN : Fld := mkFld 0x0A02 208 1 .rw 1 (stored := true)
def flds : List Fld := [
  SOC_SLEW, LIMIT_HORIZON, REST_CURRENT, REST_TIME, REST_SEED_SIGMA, NEIGHBOUR_SEED_SIGMA, PLATEAU_SLOPE,
  CAP_MIN_SWING, CAP_LEARN_GAIN, CAP_STEP_MAX, R_LEARN_GAIN, DIVERGE_LIMIT, DIVERGE_RAMP, OUTLIER_CAP,
  OUTLIER_R, rsv 0x0A02 210 6, R_LEARN_EN, CAP_LEARN_EN, rsv 0x0A02 216 8]
def desc : ObjDesc := ⟨0x0A02, 28, .string, true, false, false, flds⟩
end OutputConfig

/-! LEDGER_STATUS (0x0A03), Table 12.10 of 12_estimation_outputs_and_ledger.md. -/
namespace LedgerStatus
def LEDGER_EPOCH : Fld := mkFld 0x0A03 0 32 .ro 0
def EXPORT_EPOCH : Fld := mkFld 0x0A03 32 32 .ro 0
def ACK_EPOCH : Fld := mkFld 0x0A03 64 32 .wo 0
def EXPORT_STATE : Fld := mkFld 0x0A03 96 8 .ro 0
def RESTORE_RESULT : Fld := mkFld 0x0A03 104 8 .ro 0
def LEDGER_DIRTY : Fld := mkFld 0x0A03 112 1 .ro 0
def ENTRIES_HELD : Fld := mkFld 0x0A03 128 32 .ro 0
def ENTRIES_UNUSED : Fld := mkFld 0x0A03 160 32 .ro 0
def ENTRIES_PENDING : Fld := mkFld 0x0A03 192 32 .ro 0
def RESTORE_DISCARDED : Fld := mkFld 0x0A03 224 32 .ro 0
def EXPORT_CHECKSUM : Fld := mkFld 0x0A03 256 32 .ro 0
def LAST_CAPTURE_TIME : Fld := mkFld 0x0A03 288 80 .ro 0xFFFFFFFFFFFFFFFFFFFF (isTime := true)
def LAST_COMMIT_TIME : Fld := mkFld 0x0A03 384 80 .ro 0xFFFFFFFFFFFFFFFFFFFF (isTime := true)
def flds : List Fld := [
  LEDGER_EPOCH, EXPORT_EPOCH, ACK_EPOCH, EXPORT_STATE, RESTORE_RESULT, rsv 0x0A03 113 7, LEDGER_DIRTY,
  rsv 0x0A03 120 8, ENTRIES_HELD, ENTRIES_UNUSED, ENTRIES_PENDING, RESTORE_DISCARDED, EXPORT_CHECKSUM,
  LAST_CAPTURE_TIME, rsv 0x0A03 368 16, LAST_COMMIT_TIME, rsv 0x0A03 464 16]
def desc : ObjDesc := ⟨0x0A03, 60, .module, false, false, false, flds⟩
end LedgerStatus

/-! DIVERGE_STATUS (0x0A04), Table 12.11 of 12_estimation_outputs_and_ledger.md. -/
namespace DivergeStatus
def TOPO_EPOCH : Fld := mkFld 0x0A04 0 32 .ro 0
def ENTRY_COUNT : Fld := mkFld 0x0A04 32 8 .ro 0
def DIVERGE_OVERFLOW : Fld := mkFld 0x0A04 40 1 .ro 0
def POSITION : Fld := mkFld 0x0A04 64 16 .ro 65535 (stride := 16) (count := 32)
def KIND : Fld := mkFld 0x0A04 80 8 .ro 0 (stride := 16) (count := 32)
def STATE : Fld := mkFld 0x0A04 88 8 .ro 0 (stride := 16) (count := 32)
def Z_CC : Fld := mkFld 0x0A04 96 16 .ro 65535 (stride := 16) (count := 32)
def Z_OCV : Fld := mkFld 0x0A04 112 16 .ro 65535 (stride := 16) (count := 32)
def DETAIL : Fld := mkFld 0x0A04 128 32 .ro 0 (signed := true) (stride := 16) (count := 32)
def TIMER : Fld := mkFld 0x0A04 160 16 .ro 0 (stride := 16) (count := 32)
def flds : List Fld := [
  TOPO_EPOCH, ENTRY_COUNT, rsv 0x0A04 41 7, DIVERGE_OVERFLOW, rsv 0x0A04 48 16, POSITION, KIND, STATE, Z_CC,
  Z_OCV, DETAIL, TIMER, rsv 0x0A04 176 16 16 32]
def desc : ObjDesc := ⟨0x0A04, 520, .string, false, true, false, flds⟩
end DivergeStatus

/-! PROTECTION_STATUS (0x0B01), Table 13.10 of 13_protection_and_safety.md. -/
namespace ProtectionStatus
def SEQ_STATE : Fld := mkFld 0x0B01 0 8 .ro 0
def CLOSING_STEP : Fld := mkFld 0x0B01 8 8 .ro 0
def PRE_ON : Fld := mkFld 0x0B01 18 1 .ro 0
def NEG_ON : Fld := mkFld 0x0B01 17 1 .ro 0
def POS_ON : Fld := mkFld 0x0B01 16 1 .ro 0
def LATCH_CAUSE : Fld := mkFld 0x0B01 24 8 .ro 0
def INHIBIT : Fld := mkFld 0x0B01 32 16 .ro 0
def WARN : Fld := mkFld 0x0B01 48 16 .ro 0
def LATCH_TIME : Fld := mkFld 0x0B01 64 80 .ro 0xFFFFFFFFFFFFFFFFFFFF (isTime := true)
def LATCH_ENTRY : Fld := mkFld 0x0B01 144 8 .ro 255
def CLOSINGS : Fld := mkFld 0x0B01 160 32 .ro 0
def TRIPS : Fld := mkFld 0x0B01 192 32 .ro 0
def PULSE_TESTS : Fld := mkFld 0x0B01 224 32 .ro 0
def WELD_UNCHECKED_COUNT : Fld := mkFld 0x0B01 256 32 .ro 0
def PRECHARGE_TIME : Fld := mkFld 0x0B01 288 16 .ro 65535
def OPEN_UNDER_LOAD : Fld := mkFld 0x0B01 304 16 .ro 0
def PROFILE_CRC_IN_FORCE : Fld := mkFld 0x0B01 320 32 .ro 0
def LAST_CLOSE_TIME : Fld := mkFld 0x0B01 352 80 .ro 0xFFFFFFFFFFFFFFFFFFFF (isTime := true)
def flds : List Fld := [
  SEQ_STATE, CLOSING_STEP, rsv 0x0B01 19 5, PRE_ON, NEG_ON, POS_ON, LATCH_CAUSE, INHIBIT, WARN, LATCH_TIME,
  LATCH_ENTRY, rsv 0x0B01 152 8, CLOSINGS, TRIPS, PULSE_TESTS, WELD_UNCHECKED_COUNT, PRECHARGE_TIME,
  OPEN_UNDER_LOAD, PROFILE_CRC_IN_FORCE, LAST_CLOSE_TIME, rsv 0x0B01 432 16]
def desc : ObjDesc := ⟨0x0B01, 56, .string, false, false, false, flds⟩
end ProtectionStatus

/-! INTEGRATOR_PROFILE (0x0B02), Table 13.11 of 13_protection_and_safety.md. -/
namespace IntegratorProfile
def NAME : Fld := mkFld 0x0B02 0 128 .rwl 0 (stored := true)
def CELL_OV_TRIP : Fld := mkFld 0x0B02 128 16 .rwl 0 (stored := true)
def CELL_UV_TRIP : Fld := mkFld 0x0B02 144 16 .rwl 0 (stored := true)
def V_HIGH : Fld := mkFld 0x0B02 160 16 .rwl 0 (stored := true)
def V_LOW : Fld := mkFld 0x0B02 176 16 .rwl 0 (stored := true)
def CMP_OV_THRESH : Fld := mkFld 0x0B02 192 16 .rwl 0 (stored := true) (perm := [(10000, 50000)])
def CMP_UV_THRESH : Fld := mkFld 0x0B02 208 16 .rwl 0 (stored := true) (perm := [(10000, 50000)])
def CMP_OV_HYST : Fld := mkFld 0x0B02 224 16 .rwl 0 (stored := true) (perm := [(0, 2000)])
def CMP_UV_HYST : Fld := mkFld 0x0B02 240 16 .rwl 0 (stored := true) (perm := [(0, 2000)])
def CMP_FILTER : Fld := mkFld 0x0B02 256 16 .rwl 0 (stored := true) (perm := [(10, 1000)])
def CELL_V_DELAY : Fld := mkFld 0x0B02 272 16 .rwl 0 (stored := true) (perm := [(0, 5000)])
def CELL_OT_TRIP : Fld := mkFld 0x0B02 288 16 .rwl 0 (stored := true) (signed := true)
def CELL_UT_TRIP : Fld := mkFld 0x0B02 304 16 .rwl 0 (stored := true) (signed := true)
def CELL_T_DELAY : Fld := mkFld 0x0B02 320 16 .rwl 0 (stored := true) (perm := [(0, 600)])
def NA_TRIP_TIME : Fld := mkFld 0x0B02 336 16 .rwl 0 (stored := true) (perm := [(100, 10000)])
def CHARGE_LIMIT_PROF : Fld := mkFld 0x0B02 352 32 .rwl 0 (stored := true)
def DISCHARGE_LIMIT_PROF : Fld := mkFld 0x0B02 384 32 .rwl 0 (stored := true)
def OC_TRIP_CHG : Fld := mkFld 0x0B02 416 32 .rwl 0 (stored := true)
def OC_TRIP_DIS : Fld := mkFld 0x0B02 448 32 .rwl 0 (stored := true)
def OC_DELAY : Fld := mkFld 0x0B02 480 16 .rwl 0 (stored := true) (perm := [(1, 10000)])
def FAST_OC_V : Fld := mkFld 0x0B02 496 16 .rwl 0 (stored := true) (perm := [(1000, 15000)])
def ISO_WARN : Fld := mkFld 0x0B02 512 32 .rwl 0 (stored := true) (perm := [(10000, 50000000)])
def ISO_TRIP : Fld := mkFld 0x0B02 544 32 .rwl 0 (stored := true) (perm := [(0, 0), (10000, 50000000)])
def ISO_TRIP_CYCLES : Fld := mkFld 0x0B02 576 8 .rwl 1 (stored := true) (perm := [(1, 10)])
def PROFILE_VALID : Fld := mkFld 0x0B02 584 1 .ro 0 (stored := true)
def PROFILE_CRC : Fld := mkFld 0x0B02 608 32 .rwl 0 (stored := true)
def flds : List Fld := [
  NAME, CELL_OV_TRIP, CELL_UV_TRIP, V_HIGH, V_LOW, CMP_OV_THRESH, CMP_UV_THRESH, CMP_OV_HYST, CMP_UV_HYST,
  CMP_FILTER, CELL_V_DELAY, CELL_OT_TRIP, CELL_UT_TRIP, CELL_T_DELAY, NA_TRIP_TIME, CHARGE_LIMIT_PROF,
  DISCHARGE_LIMIT_PROF, OC_TRIP_CHG, OC_TRIP_DIS, OC_DELAY, FAST_OC_V, ISO_WARN, ISO_TRIP, ISO_TRIP_CYCLES,
  rsv 0x0B02 585 7, PROFILE_VALID, rsv 0x0B02 592 16, PROFILE_CRC]
def desc : ObjDesc := ⟨0x0B02, 80, .module, true, false, false, flds⟩
end IntegratorProfile

/-! CONTACTOR_CONFIG (0x0B03), Table 13.12 of 13_protection_and_safety.md. -/
namespace ContactorConfig
def PULSE_INTERVAL : Fld := mkFld 0x0B03 0 16 .rw 60 (stored := true) (perm := [(10, 3600)])
def OFF_PULSE : Fld := mkFld 0x0B03 16 16 .rw 300 (stored := true) (perm := [(100, 500)])
def FB_TIME : Fld := mkFld 0x0B03 32 16 .rw 100 (stored := true) (perm := [(20, 200)])
def NEG_TEST_TIME : Fld := mkFld 0x0B03 48 16 .rw 100 (stored := true) (perm := [(50, 150)])
def WELD_V : Fld := mkFld 0x0B03 64 32 .rw 20000 (stored := true) (perm := [(1000, 100000)])
def PRECHARGE_DV : Fld := mkFld 0x0B03 96 32 .rw 10000 (stored := true) (perm := [(1000, 100000)])
def PRECHARGE_TIMEOUT : Fld := mkFld 0x0B03 128 16 .rw 3000 (stored := true) (perm := [(100, 30000)])
def PRECHARGE_OVERLAP : Fld := mkFld 0x0B03 144 16 .rw 50 (stored := true) (perm := [(20, 1000)])
def PRECHARGE_RETRY_WAIT : Fld := mkFld 0x0B03 160 16 .rw 60 (stored := true) (perm := [(10, 3600)])
def OPEN_WAIT : Fld := mkFld 0x0B03 176 16 .rw 2000 (stored := true) (perm := [(0, 10000)])
def OPEN_I_MAX : Fld := mkFld 0x0B03 192 32 .rw 5000 (stored := true) (perm := [(0, 1000000)])
def ENABLE_REQUIRED : Fld := mkFld 0x0B03 224 1 .rw 0 (stored := true)
def flds : List Fld := [
  PULSE_INTERVAL, OFF_PULSE, FB_TIME, NEG_TEST_TIME, WELD_V, PRECHARGE_DV, PRECHARGE_TIMEOUT,
  PRECHARGE_OVERLAP, PRECHARGE_RETRY_WAIT, OPEN_WAIT, OPEN_I_MAX, rsv 0x0B03 225 7, ENABLE_REQUIRED,
  rsv 0x0B03 232 8, rsv 0x0B03 240 16]
def desc : ObjDesc := ⟨0x0B03, 32, .string, true, false, false, flds⟩
end ContactorConfig

/-! SAFE_TELEGRAM_CONFIG (0x0B04), Table 13.13 of 13_protection_and_safety.md. -/
namespace SafeTelegramConfig
def PERIOD : Fld := mkFld 0x0B04 0 8 .rw 10 (stored := true) (perm := [(2, 10)])
def SL_FOLLOW : Fld := mkFld 0x0B04 9 1 .rw 1 (stored := true)
def SL_ON_TRIP : Fld := mkFld 0x0B04 8 1 .rw 1 (stored := true)
def SAFE_UDP_PORT : Fld := mkFld 0x0B04 16 16 .rw 47312 (stored := true) (perm := [(1024, 65535)])
def DEST_A : Fld := mkFld 0x0B04 32 32 .rw 0 (stored := true)
def DEST_B : Fld := mkFld 0x0B04 64 32 .rw 0 (stored := true)
def SENDER_A : Fld := mkFld 0x0B04 96 32 .rw 0 (stored := true)
def SENDER_B : Fld := mkFld 0x0B04 128 32 .rw 0 (stored := true)
def ENABLE_TIMEOUT : Fld := mkFld 0x0B04 160 16 .rw 100 (stored := true) (perm := [(50, 1000)])
def SAFE_CMD_SINGLE : Fld := mkFld 0x0B04 192 32 .ro 0
def SAFE_CMD_DIFFER : Fld := mkFld 0x0B04 224 32 .ro 0
def SAFE_CMD_STALE : Fld := mkFld 0x0B04 256 32 .ro 0
def SAFE_CMD_ACCEPTED : Fld := mkFld 0x0B04 288 32 .ro 0
def flds : List Fld := [
  PERIOD, rsv 0x0B04 10 6, SL_FOLLOW, SL_ON_TRIP, SAFE_UDP_PORT, DEST_A, DEST_B, SENDER_A, SENDER_B,
  ENABLE_TIMEOUT, rsv 0x0B04 176 16, SAFE_CMD_SINGLE, SAFE_CMD_DIFFER, SAFE_CMD_STALE, SAFE_CMD_ACCEPTED]
def desc : ObjDesc := ⟨0x0B04, 40, .module, true, false, false, flds⟩
end SafeTelegramConfig

/-! TRIP_LOG (0x0B05), Table 13.14 of 13_protection_and_safety.md. -/
namespace TripLog
def STRING : Fld := mkFld 0x0B05 0 8 .ro 0 (stored := true)
def CAUSE : Fld := mkFld 0x0B05 8 8 .ro 0 (stored := true)
def CLEARED : Fld := mkFld 0x0B05 18 1 .ro 0 (stored := true)
def SECONDARY : Fld := mkFld 0x0B05 17 1 .ro 0 (stored := true)
def LATCHED : Fld := mkFld 0x0B05 16 1 .ro 0 (stored := true)
def WIRE_CORRELATED : Fld := mkFld 0x0B05 28 1 .ro 0 (stored := true)
def LOOP_BREAK : Fld := mkFld 0x0B05 27 1 .ro 0 (stored := true)
def COMPARATOR_ORIGIN : Fld := mkFld 0x0B05 26 1 .ro 0 (stored := true)
def CONN_OPEN : Fld := mkFld 0x0B05 25 1 .ro 0 (stored := true)
def COIL_SUPPLY_LOW : Fld := mkFld 0x0B05 24 1 .ro 0 (stored := true)
def NODE : Fld := mkFld 0x0B05 32 16 .ro 65535 (stored := true)
def CHANNEL : Fld := mkFld 0x0B05 48 8 .ro 255 (stored := true)
def TOPO_EPOCH : Fld := mkFld 0x0B05 64 32 .ro 0 (stored := true)
def VALUE : Fld := mkFld 0x0B05 96 32 .ro 0x80000000 (stored := true) (signed := true)
def LIMIT : Fld := mkFld 0x0B05 128 32 .ro 0x80000000 (stored := true) (signed := true)
def TRIP_TIME : Fld := mkFld 0x0B05 160 80 .ro 0xFFFFFFFFFFFFFFFFFFFF (stored := true) (isTime := true)
def CLEAR_TIME : Fld := mkFld 0x0B05 256 80 .ro 0xFFFFFFFFFFFFFFFFFFFF (stored := true) (isTime := true)
def CLEAR_SESSION : Fld := mkFld 0x0B05 336 8 .ro 0 (stored := true)
def BOOT_COUNT : Fld := mkFld 0x0B05 352 32 .ro 0 (stored := true)
def flds : List Fld := [
  STRING, CAUSE, rsv 0x0B05 19 5, CLEARED, SECONDARY, LATCHED, rsv 0x0B05 29 3, WIRE_CORRELATED, LOOP_BREAK,
  COMPARATOR_ORIGIN, CONN_OPEN, COIL_SUPPLY_LOW, NODE, CHANNEL, rsv 0x0B05 56 8, TOPO_EPOCH, VALUE, LIMIT,
  TRIP_TIME, rsv 0x0B05 240 16, CLEAR_TIME, CLEAR_SESSION, rsv 0x0B05 344 8, BOOT_COUNT]
def desc : ObjDesc := ⟨0x0B05, 48, .entry, true, false, false, flds⟩
end TripLog

/-! THERMAL_STATUS (0x0C01), Table 14.8 of 14_thermal_management.md. -/
namespace ThermalStatus
def LEVEL : Fld := mkFld 0x0C01 0 8 .ro 0
def VALID_SENSORS : Fld := mkFld 0x0C01 8 8 .ro 4
def SENSORS_LOST : Fld := mkFld 0x0C01 21 1 .ro 0
def NO_NEIGHBOUR : Fld := mkFld 0x0C01 20 1 .ro 0
def SENSOR_FAILED : Fld := mkFld 0x0C01 16 4 .ro 0
def SENSOR_T : Fld := mkFld 0x0C01 32 16 .ro 32768 (signed := true) (stride := 2) (count := 4)
def SENSOR_USED : Fld := mkFld 0x0C01 96 16 .ro 32768 (signed := true) (stride := 2) (count := 4)
def T_CONTROL : Fld := mkFld 0x0C01 160 16 .ro 32768 (signed := true)
def BREATHER_FRACTION : Fld := mkFld 0x0C01 176 16 .ro 0
def THROTTLE_ENTRIES : Fld := mkFld 0x0C01 192 32 .ro 0
def THROTTLE_TIME : Fld := mkFld 0x0C01 224 32 .ro 0
def SENSOR_FAILS : Fld := mkFld 0x0C01 256 32 .ro 0
def BOARD_PSU_T : Fld := mkFld 0x0C01 288 16 .ro 32768 (signed := true)
def BOARD_LOGIC_T : Fld := mkFld 0x0C01 304 16 .ro 32768 (signed := true)
def BOARD_TAP_T : Fld := mkFld 0x0C01 320 16 .ro 32768 (signed := true)
def AIR_INLET_T : Fld := mkFld 0x0C01 336 16 .ro 32768 (signed := true)
def AMBIENT_HIGH : Fld := mkFld 0x0C01 353 1 .ro 0
def BOARD_HOT : Fld := mkFld 0x0C01 352 1 .ro 0
def LAST_ROUND_TIME : Fld := mkFld 0x0C01 384 80 .ro 0xFFFFFFFFFFFFFFFFFFFF (isTime := true)
def flds : List Fld := [
  LEVEL, VALID_SENSORS, rsv 0x0C01 22 2, SENSORS_LOST, NO_NEIGHBOUR, SENSOR_FAILED, rsv 0x0C01 24 8,
  SENSOR_T, SENSOR_USED, T_CONTROL, BREATHER_FRACTION, THROTTLE_ENTRIES, THROTTLE_TIME, SENSOR_FAILS,
  BOARD_PSU_T, BOARD_LOGIC_T, BOARD_TAP_T, AIR_INLET_T, rsv 0x0C01 354 6, AMBIENT_HIGH, BOARD_HOT,
  rsv 0x0C01 360 8, rsv 0x0C01 368 16, LAST_ROUND_TIME, rsv 0x0C01 464 16]
def desc : ObjDesc := ⟨0x0C01, 60, .die, false, false, false, flds⟩
end ThermalStatus

/-! THERMAL_CONFIG (0x0C02), Table 14.9 of 14_thermal_management.md. -/
namespace ThermalConfig
def DERATE_HOT_START : Fld := mkFld 0x0C02 0 16 .rw 4500 (stored := true) (signed := true)
def DERATE_HOT_END : Fld := mkFld 0x0C02 16 16 .rw 5500 (stored := true) (signed := true)
def DERATE_COLD_START : Fld := mkFld 0x0C02 32 16 .rw 500 (stored := true) (signed := true)
def DERATE_COLD_END : Fld := mkFld 0x0C02 48 16 .rw 64536 (stored := true) (signed := true)
def DERATE_RISE : Fld := mkFld 0x0C02 64 16 .rw 10 (stored := true) (perm := [(1, 1000)])
def flds : List Fld := [
  DERATE_HOT_START, DERATE_HOT_END, DERATE_COLD_START, DERATE_COLD_END, DERATE_RISE, rsv 0x0C02 80 16]
def desc : ObjDesc := ⟨0x0C02, 12, .module, true, false, false, flds⟩
end ThermalConfig

/-! HVAC_CONFIG (0x0C03), Table 14.10 of 14_thermal_management.md. -/
namespace HvacConfig
def HVAC_SOURCE : Fld := mkFld 0x0C03 0 8 .rw 0 (stored := true) (perm := [(0, 2)])
def DIE_WARN_COOL : Fld := mkFld 0x0C03 8 1 .rw 1 (stored := true)
def HVAC_OBJECT : Fld := mkFld 0x0C03 16 16 .rw 65535 (stored := true) (perm := [(128, 255), (65535, 65535)])
def HVAC_PERIOD : Fld := mkFld 0x0C03 32 16 .rw 1000 (stored := true) (perm := [(100, 10000)])
def COOL_ON : Fld := mkFld 0x0C03 48 16 .rw 3200 (stored := true) (signed := true)
def COOL_OFF : Fld := mkFld 0x0C03 64 16 .rw 2800 (stored := true) (signed := true)
def HEAT_ON : Fld := mkFld 0x0C03 80 16 .rw 1000 (stored := true) (signed := true)
def HEAT_OFF : Fld := mkFld 0x0C03 96 16 .rw 1500 (stored := true) (signed := true)
def TARGET_T : Fld := mkFld 0x0C03 112 16 .rw 2500 (stored := true) (signed := true)
def HVAC_MODE : Fld := mkFld 0x0C03 128 8 .ro 0
def HVAC_CFG_FAULT : Fld := mkFld 0x0C03 138 1 .ro 0
def CONFLICT : Fld := mkFld 0x0C03 137 1 .ro 0
def TEMP_UNKNOWN : Fld := mkFld 0x0C03 136 1 .ro 0
def HVAC_SENT : Fld := mkFld 0x0C03 160 32 .ro 0
def flds : List Fld := [
  HVAC_SOURCE, rsv 0x0C03 9 7, DIE_WARN_COOL, HVAC_OBJECT, HVAC_PERIOD, COOL_ON, COOL_OFF, HEAT_ON, HEAT_OFF,
  TARGET_T, HVAC_MODE, rsv 0x0C03 139 5, HVAC_CFG_FAULT, CONFLICT, TEMP_UNKNOWN, rsv 0x0C03 144 16, HVAC_SENT]
def desc : ObjDesc := ⟨0x0C03, 24, .module, true, false, false, flds⟩
end HvacConfig

end Sys2Proof.Obj
end

