-- ==== Sys2Proof/Machine/Objects.lean ====
section
/-! DEFINITION. The field maps of the configuration objects 0x0Dxx to 0x13xx as their tables in spec/ give them:
offset, bits, type, access, reset and the permitted values of R554. A reset column that names a source
(factory, boot, switches, image, fuses, variant, profile) is 0 here and is written by the start.
Then Table 5.14, the list of them all. -/

namespace Sys2Proof.Obj

open Sys2Proof.Machine

/-! CHANNEL_CONFIG (0x0D01), Table 15.10 of 15_control_engine.md. -/
namespace ChannelConfig
def INPUT_KIND : Fld := mkFld 0x0D01 0 8 .rw 0 (stored := true) (perm := [(0, 19)])
def INPUT_STRING : Fld := mkFld 0x0D01 8 8 .rw 0 (stored := true) (perm := [(0, 7)])
def INPUT_INDEX : Fld := mkFld 0x0D01 16 16 .rw 0 (stored := true)
def LAW : Fld := mkFld 0x0D01 32 8 .rw 0 (stored := true) (perm := [(0, 1)])
def INPUT_FILTER : Fld := mkFld 0x0D01 44 1 .rw 0 (stored := true)
def TAKE_OVER : Fld := mkFld 0x0D01 43 1 .wo 0
def HANDOVER_ON_REACH : Fld := mkFld 0x0D01 42 1 .rw 0 (stored := true)
def POLARITY : Fld := mkFld 0x0D01 41 1 .rw 0 (stored := true)
def ENABLE : Fld := mkFld 0x0D01 40 1 .rw 0 (stored := true)
def GROUP : Fld := mkFld 0x0D01 48 8 .rw 0 (stored := true) (perm := [(1, 8), (0, 0)])
def OUTPUT_KIND : Fld := mkFld 0x0D01 56 8 .rw 0 (stored := true) (perm := [(0, 6)])
def PERIOD : Fld := mkFld 0x0D01 64 32 .rw 0x186A0 (stored := true) (perm := [(10, 60000000)])
def PHASE : Fld := mkFld 0x0D01 96 32 .rw 0 (stored := true)
def DEADLINE : Fld := mkFld 0x0D01 128 32 .rw 0 (stored := true)
def MISS_LIMIT : Fld := mkFld 0x0D01 160 8 .rw 3 (stored := true) (perm := [(1, 255)])
def RECOVER_SAMPLES : Fld := mkFld 0x0D01 168 8 .rw 10 (stored := true)
def SETPOINT_SOURCE : Fld := mkFld 0x0D01 176 8 .rw 0 (stored := true) (perm := [(0, 4)])
def OUTPUT_STRING : Fld := mkFld 0x0D01 184 8 .rw 0 (stored := true) (perm := [(1, 7)])
def SETPOINT : Fld := mkFld 0x0D01 192 32 .rw 0 (stored := true) (signed := true)
def RAMP_RATE : Fld := mkFld 0x0D01 224 32 .rw 0 (stored := true)
def OUT_MIN : Fld := mkFld 0x0D01 256 32 .rw 0 (stored := true) (signed := true)
def OUT_MAX : Fld := mkFld 0x0D01 288 32 .rw 0 (stored := true) (signed := true)
def OUT_LOW : Fld := mkFld 0x0D01 320 32 .rw 0 (stored := true) (signed := true)
def OUT_HIGH : Fld := mkFld 0x0D01 352 32 .rw 1 (stored := true) (signed := true)
def SAFE_OUTPUT : Fld := mkFld 0x0D01 384 32 .rw 0 (stored := true) (signed := true)
def OUTPUT_SLEW : Fld := mkFld 0x0D01 416 32 .rw 0 (stored := true)
def OUTPUT_TARGET : Fld := mkFld 0x0D01 448 16 .rw 65535 (stored := true) (perm := [(0, 3), (128, 383), (65535, 65535)])
def PWM_PERIOD : Fld := mkFld 0x0D01 480 32 .rw 1000 (stored := true) (perm := [(10, 1000000)])
def INPUT_MAX_AGE : Fld := mkFld 0x0D01 512 32 .rw 0 (stored := true)
def flds : List Fld := [
  INPUT_KIND, INPUT_STRING, INPUT_INDEX, LAW, rsv 0x0D01 45 3, INPUT_FILTER, TAKE_OVER, HANDOVER_ON_REACH,
  POLARITY, ENABLE, GROUP, OUTPUT_KIND, PERIOD, PHASE, DEADLINE, MISS_LIMIT, RECOVER_SAMPLES,
  SETPOINT_SOURCE, OUTPUT_STRING, SETPOINT, RAMP_RATE, OUT_MIN, OUT_MAX, OUT_LOW, OUT_HIGH, SAFE_OUTPUT,
  OUTPUT_SLEW, OUTPUT_TARGET, rsv 0x0D01 464 16, PWM_PERIOD, INPUT_MAX_AGE, rsv 0x0D01 544 32]
def desc : ObjDesc := ⟨0x0D01, 72, .channel, true, false, false, flds⟩
end ChannelConfig

/-! CHANNEL_REGIONS (0x0D02), Table 15.11 of 15_control_engine.md. -/
namespace ChannelRegions
def REGION_SOURCE : Fld := mkFld 0x0D02 0 8 .rw 0 (stored := true) (perm := [(0, 4)])
def REGION_COUNT : Fld := mkFld 0x0D02 8 8 .rw 1 (stored := true) (perm := [(1, 8)])
def REGION_HYST : Fld := mkFld 0x0D02 32 32 .rw 0 (stored := true)
def LOWER : Fld := mkFld 0x0D02 64 32 .rw 0 (stored := true) (signed := true) (stride := 12) (count := 8)
def BAND : Fld := mkFld 0x0D02 96 32 .rw 0 (stored := true) (stride := 12) (count := 8)
def STEP : Fld := mkFld 0x0D02 128 32 .rw 0 (stored := true) (stride := 12) (count := 8)
def flds : List Fld := [
  REGION_SOURCE, REGION_COUNT, rsv 0x0D02 16 16, REGION_HYST, LOWER, BAND, STEP]
def desc : ObjDesc := ⟨0x0D02, 104, .channel, true, false, false, flds⟩
end ChannelRegions

/-! CHANNEL_STATUS (0x0D03), Table 15.12 of 15_control_engine.md. -/
namespace ChannelStatus
def CHANNEL_STATE : Fld := mkFld 0x0D03 0 8 .ro 0
def REGION : Fld := mkFld 0x0D03 8 8 .ro 0
def OUTPUT_LIMITED : Fld := mkFld 0x0D03 21 1 .ro 0
def INPUT_MISSING : Fld := mkFld 0x0D03 20 1 .ro 0
def RAMPING : Fld := mkFld 0x0D03 19 1 .ro 0
def MISS_SEEN : Fld := mkFld 0x0D03 18 1 .w1c 0
def SAFE_SEEN : Fld := mkFld 0x0D03 17 1 .w1c 0
def DEADLINE_MISS : Fld := mkFld 0x0D03 16 1 .ro 0
def MISS_RUN : Fld := mkFld 0x0D03 24 8 .ro 0
def INPUT : Fld := mkFld 0x0D03 32 32 .ro 0x80000000 (signed := true)
def SETPOINT_IN_FORCE : Fld := mkFld 0x0D03 64 32 .ro 0x80000000 (signed := true)
def ERROR : Fld := mkFld 0x0D03 96 32 .ro 0x80000000 (signed := true)
def OUTPUT : Fld := mkFld 0x0D03 128 32 .ro 0 (signed := true)
def CLAMP_HIGH : Fld := mkFld 0x0D03 160 32 .ro 0x80000000 (signed := true)
def CLAMP_LOW : Fld := mkFld 0x0D03 192 32 .ro 0x80000000 (signed := true)
def SAMPLES : Fld := mkFld 0x0D03 224 32 .ro 0
def DEADLINE_MISSES : Fld := mkFld 0x0D03 256 32 .ro 0
def SAFE_ENTRIES : Fld := mkFld 0x0D03 288 32 .ro 0
def SAMPLES_SKIPPED : Fld := mkFld 0x0D03 320 32 .ro 0
def HANDOVERS : Fld := mkFld 0x0D03 352 32 .ro 0
def NOT_BLED : Fld := mkFld 0x0D03 384 32 .ro 0
def LOAD_FLOOR : Fld := mkFld 0x0D03 416 16 .ro 0
def WORST_LATENCY_1S : Fld := mkFld 0x0D03 432 16 .ro 0
def LAST_SAMPLE_TIME : Fld := mkFld 0x0D03 448 80 .ro 0xFFFFFFFFFFFFFFFFFFFF (isTime := true)
def LAST_SAFE_TIME : Fld := mkFld 0x0D03 544 80 .ro 0xFFFFFFFFFFFFFFFFFFFF (isTime := true)
def flds : List Fld := [
  CHANNEL_STATE, REGION, rsv 0x0D03 22 2, OUTPUT_LIMITED, INPUT_MISSING, RAMPING, MISS_SEEN, SAFE_SEEN,
  DEADLINE_MISS, MISS_RUN, INPUT, SETPOINT_IN_FORCE, ERROR, OUTPUT, CLAMP_HIGH, CLAMP_LOW, SAMPLES,
  DEADLINE_MISSES, SAFE_ENTRIES, SAMPLES_SKIPPED, HANDOVERS, NOT_BLED, LOAD_FLOOR, WORST_LATENCY_1S,
  LAST_SAMPLE_TIME, rsv 0x0D03 528 16, LAST_SAFE_TIME, rsv 0x0D03 624 16]
def desc : ObjDesc := ⟨0x0D03, 80, .channel, false, false, false, flds⟩
end ChannelStatus

/-! BLOCK_CONFIG (0x0E01), Table 16.9 of 16_block_hierarchy_and_dispatch.md. -/
namespace BlockConfig
def BLOCK_NUMBER : Fld := mkFld 0x0E01 0 16 .rw 0 (stored := true)
def PREFERENCE : Fld := mkFld 0x0E01 16 8 .rw 255 (stored := true) (perm := [(0, 255)])
def ROLE_CAPABLE : Fld := mkFld 0x0E01 24 1 .rw 1 (stored := true)
def DISPATCH_PERIOD : Fld := mkFld 0x0E01 32 16 .rw 100 (stored := true) (perm := [(10, 1000)])
def REPORT_OFFSET : Fld := mkFld 0x0E01 48 16 .rw 1000 (stored := true)
def SLOT_SPACING : Fld := mkFld 0x0E01 64 16 .rw 200 (stored := true) (perm := [(50, 5000)])
def ALLOC_OFFSET : Fld := mkFld 0x0E01 80 16 .rw 5000 (stored := true)
def APPLY_OFFSET : Fld := mkFld 0x0E01 96 16 .rw 10000 (stored := true)
def PEER_UDP_PORT : Fld := mkFld 0x0E01 112 16 .rw 47311 (stored := true) (perm := [(1024, 65535)])
def MANAGER_TIMEOUT : Fld := mkFld 0x0E01 128 16 .rw 300 (stored := true) (perm := [(200, 5000)])
def ALLOC_HOLD : Fld := mkFld 0x0E01 144 16 .rw 1000 (stored := true) (perm := [(0, 10000)])
def HOST_TIMEOUT : Fld := mkFld 0x0E01 160 16 .rw 5 (stored := true) (perm := [(1, 3600), (0, 0)])
def DISPATCH_SOC_LOW : Fld := mkFld 0x0E01 176 16 .rw 1000 (stored := true)
def DISPATCH_SOC_HIGH : Fld := mkFld 0x0E01 192 16 .rw 9500 (stored := true)
def TEMP_BIAS : Fld := mkFld 0x0E01 208 16 .rw 20 (stored := true) (perm := [(0, 200)])
def BLOCK_RAMP : Fld := mkFld 0x0E01 224 32 .rw 0xF4240 (stored := true) (perm := [(1, 1000000000)])
def LIMIT_DROP_REPORT : Fld := mkFld 0x0E01 256 16 .rw 50 (stored := true) (perm := [(10, 500)])
def PCS_PATH : Fld := mkFld 0x0E01 272 8 .rw 0 (stored := true) (perm := [(0, 1)])
def PCS_ADDR_A : Fld := mkFld 0x0E01 288 32 .rw 0 (stored := true)
def PCS_ADDR_B : Fld := mkFld 0x0E01 320 32 .rw 0 (stored := true)
def PCS_UDP_PORT : Fld := mkFld 0x0E01 352 16 .rw 47313 (stored := true) (perm := [(1024, 65535)])
def flds : List Fld := [
  BLOCK_NUMBER, PREFERENCE, rsv 0x0E01 25 7, ROLE_CAPABLE, DISPATCH_PERIOD, REPORT_OFFSET, SLOT_SPACING,
  ALLOC_OFFSET, APPLY_OFFSET, PEER_UDP_PORT, MANAGER_TIMEOUT, ALLOC_HOLD, HOST_TIMEOUT, DISPATCH_SOC_LOW,
  DISPATCH_SOC_HIGH, TEMP_BIAS, BLOCK_RAMP, LIMIT_DROP_REPORT, PCS_PATH, rsv 0x0E01 280 8, PCS_ADDR_A,
  PCS_ADDR_B, PCS_UDP_PORT, rsv 0x0E01 368 16]
def desc : ObjDesc := ⟨0x0E01, 48, .module, true, false, false, flds⟩
end BlockConfig

/-! BLOCK_STATUS (0x0E02), Table 16.10 of 16_block_hierarchy_and_dispatch.md. -/
namespace BlockStatus
def ROLE : Fld := mkFld 0x0E02 0 8 .ro 0
def MANAGER_BLOCK_ID : Fld := mkFld 0x0E02 8 8 .ro 255
def MEMBER_COUNT : Fld := mkFld 0x0E02 16 8 .ro 0
def CONFIG_MISMATCH : Fld := mkFld 0x0E02 29 1 .ro 0
def HOST_TIMEOUT_ACTIVE : Fld := mkFld 0x0E02 28 1 .ro 0
def POWER_CLIPPED : Fld := mkFld 0x0E02 27 1 .ro 0
def BLOCK_ID_CONFLICT : Fld := mkFld 0x0E02 26 1 .ro 0
def HOLDING : Fld := mkFld 0x0E02 25 1 .ro 0
def ELIGIBLE : Fld := mkFld 0x0E02 24 1 .ro 0
def ROLE_EPOCH : Fld := mkFld 0x0E02 32 32 .ro 0
def MEMBER_MASK : Fld := mkFld 0x0E02 64 16 .ro 0
def STALE_MASK : Fld := mkFld 0x0E02 80 16 .ro 0
def BLOCK_POWER_TARGET : Fld := mkFld 0x0E02 96 32 .ro 0x80000000 (signed := true)
def BLOCK_POWER_APPLIED : Fld := mkFld 0x0E02 128 32 .ro 0x80000000 (signed := true)
def BLOCK_CHG_LIMIT : Fld := mkFld 0x0E02 160 32 .ro 0xFFFFFFFF
def BLOCK_DIS_LIMIT : Fld := mkFld 0x0E02 192 32 .ro 0xFFFFFFFF
def ELECTIONS : Fld := mkFld 0x0E02 224 32 .ro 0
def MANAGER_LOSSES : Fld := mkFld 0x0E02 256 32 .ro 0
def STALE_ALLOCATIONS : Fld := mkFld 0x0E02 288 32 .ro 0
def ROLE_TIME : Fld := mkFld 0x0E02 320 80 .ro 0xFFFFFFFFFFFFFFFFFFFF (isTime := true)
def LAST_ALLOC_TIME : Fld := mkFld 0x0E02 416 80 .ro 0xFFFFFFFFFFFFFFFFFFFF (isTime := true)
def flds : List Fld := [
  ROLE, MANAGER_BLOCK_ID, MEMBER_COUNT, rsv 0x0E02 30 2, CONFIG_MISMATCH, HOST_TIMEOUT_ACTIVE, POWER_CLIPPED,
  BLOCK_ID_CONFLICT, HOLDING, ELIGIBLE, ROLE_EPOCH, MEMBER_MASK, STALE_MASK, BLOCK_POWER_TARGET,
  BLOCK_POWER_APPLIED, BLOCK_CHG_LIMIT, BLOCK_DIS_LIMIT, ELECTIONS, MANAGER_LOSSES, STALE_ALLOCATIONS,
  ROLE_TIME, rsv 0x0E02 400 16, LAST_ALLOC_TIME, rsv 0x0E02 496 16]
def desc : ObjDesc := ⟨0x0E02, 64, .module, false, false, true, flds⟩
end BlockStatus

/-! STRING_DISPATCH (0x0E03), Table 16.11 of 16_block_hierarchy_and_dispatch.md. -/
namespace StringDispatch
def SETPOINT : Fld := mkFld 0x0E03 0 32 .ro 0 (signed := true)
def ALLOCATED : Fld := mkFld 0x0E03 32 32 .ro 0 (signed := true)
def CHARGE_LIMIT_SENT : Fld := mkFld 0x0E03 64 32 .ro 0
def DISCHARGE_LIMIT_SENT : Fld := mkFld 0x0E03 96 32 .ro 0
def WEIGHT : Fld := mkFld 0x0E03 128 16 .ro 0
def PCS_CFG_FAULT : Fld := mkFld 0x0E03 150 1 .ro 0
def VIA_CHANNEL : Fld := mkFld 0x0E03 149 1 .ro 0
def LOCAL_CLAMP : Fld := mkFld 0x0E03 148 1 .ro 0
def CLIPPED : Fld := mkFld 0x0E03 147 1 .ro 0
def EXCLUDED : Fld := mkFld 0x0E03 146 1 .rw 0 (stored := true)
def FRAME_FAILED : Fld := mkFld 0x0E03 145 1 .w1c 0
def AVAILABLE : Fld := mkFld 0x0E03 144 1 .ro 0
def PCS_OBJECT : Fld := mkFld 0x0E03 160 16 .rw 65535 (stored := true) (perm := [(256, 383), (65535, 65535)])
def DISPATCH_SEQ : Fld := mkFld 0x0E03 176 8 .ro 0
def FRAMES_SENT : Fld := mkFld 0x0E03 192 32 .ro 0
def CLAMP_EVENTS : Fld := mkFld 0x0E03 224 32 .ro 0
def LAST_SENT_TIME : Fld := mkFld 0x0E03 256 80 .ro 0xFFFFFFFFFFFFFFFFFFFF (isTime := true)
def flds : List Fld := [
  SETPOINT, ALLOCATED, CHARGE_LIMIT_SENT, DISCHARGE_LIMIT_SENT, WEIGHT, rsv 0x0E03 151 1, PCS_CFG_FAULT,
  VIA_CHANNEL, LOCAL_CLAMP, CLIPPED, EXCLUDED, FRAME_FAILED, AVAILABLE, rsv 0x0E03 152 8, PCS_OBJECT,
  DISPATCH_SEQ, rsv 0x0E03 184 8, FRAMES_SENT, CLAMP_EVENTS, LAST_SENT_TIME, rsv 0x0E03 336 16]
def desc : ObjDesc := ⟨0x0E03, 44, .string, true, false, false, flds⟩
end StringDispatch

/-! COLLECTOR_STATUS (0x0E04), Table 16.12 of 16_block_hierarchy_and_dispatch.md. -/
namespace CollectorStatus
def QUEUE_MAX : Fld := mkFld 0x0E04 0 8 .ro 0
def GAP_SEEN : Fld := mkFld 0x0E04 8 1 .w1c 0
def HANDOFF_MAX : Fld := mkFld 0x0E04 16 16 .ro 0
def UNITS : Fld := mkFld 0x0E04 32 32 .ro 0
def LAP_GAPS : Fld := mkFld 0x0E04 64 32 .ro 0 (stride := 4) (count := 7)
def REPORTS_LATE : Fld := mkFld 0x0E04 288 32 .ro 0
def REPORTS_MISSING : Fld := mkFld 0x0E04 320 32 .ro 0
def PEER_REJECTED : Fld := mkFld 0x0E04 352 32 .ro 0
def LAST_GAP_TIME : Fld := mkFld 0x0E04 384 80 .ro 0xFFFFFFFFFFFFFFFFFFFF (isTime := true)
def flds : List Fld := [
  QUEUE_MAX, rsv 0x0E04 9 7, GAP_SEEN, HANDOFF_MAX, UNITS, LAP_GAPS, REPORTS_LATE, REPORTS_MISSING,
  PEER_REJECTED, LAST_GAP_TIME, rsv 0x0E04 464 16]
def desc : ObjDesc := ⟨0x0E04, 60, .module, false, false, false, flds⟩
end CollectorStatus

/-! TIME_STATUS (0x0F01), Table 17.5 of 17_time_and_pacer.md. -/
namespace TimeStatus
def TIME_STATE : Fld := mkFld 0x0F01 0 8 .ro 0
def DOMAIN_IN_USE : Fld := mkFld 0x0F01 8 8 .ro 0
def FIRST_LOCK_DONE : Fld := mkFld 0x0F01 22 1 .ro 0
def DOMAIN_DISAGREE : Fld := mkFld 0x0F01 21 1 .ro 0
def SLEWING : Fld := mkFld 0x0F01 20 1 .ro 0
def TIMESCALE_ARB : Fld := mkFld 0x0F01 19 1 .ro 0
def LEAP61 : Fld := mkFld 0x0F01 18 1 .ro 0
def LEAP59 : Fld := mkFld 0x0F01 17 1 .ro 0
def UTC_OFFSET_VALID : Fld := mkFld 0x0F01 16 1 .ro 0
def UTC_OFFSET : Fld := mkFld 0x0F01 32 16 .ro 32768 (signed := true)
def TIME_ERROR_EST : Fld := mkFld 0x0F01 64 32 .ro 0xFFFFFFFF
def RATE_IN_FORCE : Fld := mkFld 0x0F01 96 32 .ro 0 (signed := true)
def SLEW_REMAINING : Fld := mkFld 0x0F01 128 32 .ro 0 (signed := true)
def STEPS : Fld := mkFld 0x0F01 160 32 .ro 0
def SWITCHES : Fld := mkFld 0x0F01 192 32 .ro 0
def LAST_STEP : Fld := mkFld 0x0F01 224 32 .ro 0 (signed := true)
def LAST_STEP_TIME : Fld := mkFld 0x0F01 256 80 .ro 0xFFFFFFFFFFFFFFFFFFFF (isTime := true)
def FIRST_LOCK_TIME : Fld := mkFld 0x0F01 352 80 .ro 0xFFFFFFFFFFFFFFFFFFFF (isTime := true)
def REVERTIVE : Fld := mkFld 0x0F01 448 1 .rw 1 (stored := true)
def RETURN_QUAL : Fld := mkFld 0x0F01 464 16 .rw 60 (stored := true) (perm := [(1, 3600)])
def SLEW_RATE : Fld := mkFld 0x0F01 480 32 .rw 10000 (stored := true) (perm := [(1000, 100000)])
def SWITCH_SLEW_LIMIT : Fld := mkFld 0x0F01 512 32 .rw 0x186A0 (stored := true) (perm := [(50, 10000000)])
def HOLDOVER_MAX_ERROR : Fld := mkFld 0x0F01 544 32 .rw 10000 (stored := true) (perm := [(1000, 1000000)])
def DISAGREE_LIMIT : Fld := mkFld 0x0F01 576 32 .rw 1000 (stored := true) (perm := [(100, 1000000)])
def flds : List Fld := [
  TIME_STATE, DOMAIN_IN_USE, rsv 0x0F01 23 1, FIRST_LOCK_DONE, DOMAIN_DISAGREE, SLEWING, TIMESCALE_ARB,
  LEAP61, LEAP59, UTC_OFFSET_VALID, rsv 0x0F01 24 8, UTC_OFFSET, rsv 0x0F01 48 16, TIME_ERROR_EST,
  RATE_IN_FORCE, SLEW_REMAINING, STEPS, SWITCHES, LAST_STEP, LAST_STEP_TIME, rsv 0x0F01 336 16,
  FIRST_LOCK_TIME, rsv 0x0F01 432 16, rsv 0x0F01 449 7, REVERTIVE, rsv 0x0F01 456 8, RETURN_QUAL, SLEW_RATE,
  SWITCH_SLEW_LIMIT, HOLDOVER_MAX_ERROR, DISAGREE_LIMIT, rsv 0x0F01 608 32]
def desc : ObjDesc := ⟨0x0F01, 80, .module, true, false, false, flds⟩
end TimeStatus

/-! PTP_DOMAIN (0x0F02), Table 17.6 of 17_time_and_pacer.md. -/
namespace PtpDomain
def DOMAIN_EN : Fld := mkFld 0x0F02 0 1 .rw 1 (stored := true)
def DOMAIN_NUMBER : Fld := mkFld 0x0F02 8 8 .rw 0 (stored := true) (perm := [(0, 127)])
def PORT : Fld := mkFld 0x0F02 16 8 .rw 0 (stored := true) (perm := [(1, 2)])
def PTP_PCP : Fld := mkFld 0x0F02 24 3 .rw 4 (stored := true)
def DELAY_ASYMMETRY : Fld := mkFld 0x0F02 32 32 .rw 0 (stored := true) (signed := true) (perm := [(-1000000, 1000000)])
def LOCK_THRESHOLD : Fld := mkFld 0x0F02 64 16 .rw 200 (stored := true) (perm := [(50, 10000)])
def SERVO_TAU : Fld := mkFld 0x0F02 80 16 .rw 16 (stored := true) (perm := [(2, 256)])
def STEP_THRESHOLD : Fld := mkFld 0x0F02 96 32 .rw 0xF4240 (stored := true) (perm := [(10000, 1000000000)])
def OUTLIER_LIMIT : Fld := mkFld 0x0F02 128 32 .rw 1000 (stored := true) (perm := [(100, 1000000)])
def DOMAIN_STATE : Fld := mkFld 0x0F02 160 8 .ro 0
def GM_CLOCK_CLASS : Fld := mkFld 0x0F02 168 8 .ro 255
def GM_PRIORITY1 : Fld := mkFld 0x0F02 176 8 .ro 255
def GM_ACCURACY : Fld := mkFld 0x0F02 184 8 .ro 254
def GM_IDENTITY : Fld := mkFld 0x0F02 192 64 .ro 255
def STEPS_REMOVED : Fld := mkFld 0x0F02 256 16 .ro 65535
def UTC_OFFSET : Fld := mkFld 0x0F02 272 16 .ro 32768 (signed := true)
def TWO_STEP_MASTER : Fld := mkFld 0x0F02 291 1 .ro 0
def PTP_TIMESCALE : Fld := mkFld 0x0F02 290 1 .ro 0
def LEAP61 : Fld := mkFld 0x0F02 289 1 .ro 0
def LEAP59 : Fld := mkFld 0x0F02 288 1 .ro 0
def SYNC_LOG_INTERVAL : Fld := mkFld 0x0F02 296 8 .ro 127 (signed := true)
def OFFSET : Fld := mkFld 0x0F02 320 32 .ro 0x80000000 (signed := true)
def MEAN_LINK_DELAY : Fld := mkFld 0x0F02 352 32 .ro 0xFFFFFFFF
def RATE : Fld := mkFld 0x0F02 384 32 .ro 0x80000000 (signed := true)
def SYNC_ACCEPTED : Fld := mkFld 0x0F02 416 32 .ro 0
def SAMPLES_REJECTED : Fld := mkFld 0x0F02 448 32 .ro 0
def ANNOUNCE_TIMEOUTS : Fld := mkFld 0x0F02 480 32 .ro 0
def GM_CHANGES : Fld := mkFld 0x0F02 512 32 .ro 0
def LOCK_TIME : Fld := mkFld 0x0F02 544 80 .ro 0xFFFFFFFFFFFFFFFFFFFF (isTime := true)
def flds : List Fld := [
  rsv 0x0F02 1 7, DOMAIN_EN, DOMAIN_NUMBER, PORT, rsv 0x0F02 27 5, PTP_PCP, DELAY_ASYMMETRY, LOCK_THRESHOLD,
  SERVO_TAU, STEP_THRESHOLD, OUTLIER_LIMIT, DOMAIN_STATE, GM_CLOCK_CLASS, GM_PRIORITY1, GM_ACCURACY,
  GM_IDENTITY, STEPS_REMOVED, UTC_OFFSET, rsv 0x0F02 292 4, TWO_STEP_MASTER, PTP_TIMESCALE, LEAP61, LEAP59,
  SYNC_LOG_INTERVAL, rsv 0x0F02 304 16, OFFSET, MEAN_LINK_DELAY, RATE, SYNC_ACCEPTED, SAMPLES_REJECTED,
  ANNOUNCE_TIMEOUTS, GM_CHANGES, LOCK_TIME, rsv 0x0F02 624 16]
def desc : ObjDesc := ⟨0x0F02, 80, .domain, true, false, false, flds⟩
end PtpDomain

/-! PACER_OUTPUT (0x0F03), Table 17.7 of 17_time_and_pacer.md. -/
namespace PacerOutput
def MODE : Fld := mkFld 0x0F03 0 8 .rw 0 (stored := true) (perm := [(0, 2)])
def INJECT_EN : Fld := mkFld 0x0F03 10 1 .rw 0 (stored := true)
def POLARITY : Fld := mkFld 0x0F03 9 1 .rw 0 (stored := true)
def PULSE_EN : Fld := mkFld 0x0F03 8 1 .rw 1 (stored := true)
def INJECT_STRING : Fld := mkFld 0x0F03 16 8 .rw 0 (stored := true) (perm := [(1, 7), (0, 0)])
def INJECT_INPUT : Fld := mkFld 0x0F03 24 8 .rw 0 (stored := true)
def START_TIME : Fld := mkFld 0x0F03 32 80 .rw 0xFFFFFFFFFFFFFFFFFFFF (stored := true) (isTime := true)
def INJECT_COUNT : Fld := mkFld 0x0F03 112 8 .rw 1 (stored := true) (perm := [(1, 4)])
def PERIOD_S : Fld := mkFld 0x0F03 128 32 .rw 1 (stored := true) (perm := [(0, 86400)])
def PERIOD_NS : Fld := mkFld 0x0F03 160 32 .rw 0 (stored := true) (perm := [(0, 999999999)])
def PULSE_WIDTH : Fld := mkFld 0x0F03 192 32 .rw 0xF4240 (stored := true) (perm := [(20, 1000000000)])
def SCHEDULE_STATE : Fld := mkFld 0x0F03 224 8 .ro 0
def INJECT_REFUSED_SEEN : Fld := mkFld 0x0F03 234 1 .w1c 0
def LATE_SEEN : Fld := mkFld 0x0F03 233 1 .w1c 0
def LINE_CLAIMED : Fld := mkFld 0x0F03 232 1 .ro 0
def FIRED : Fld := mkFld 0x0F03 256 32 .ro 0
def SKIPPED : Fld := mkFld 0x0F03 288 32 .ro 0
def LATE_FIRED : Fld := mkFld 0x0F03 320 32 .ro 0
def INJECT_REFUSED : Fld := mkFld 0x0F03 352 32 .ro 0
def LAST_FIRE_TIME : Fld := mkFld 0x0F03 384 80 .ro 0xFFFFFFFFFFFFFFFFFFFF (isTime := true)
def LAST_RESULT : Fld := mkFld 0x0F03 480 32 .ro 0x80000000 (signed := true)
def LAST_RESULT_TIME : Fld := mkFld 0x0F03 512 80 .ro 0xFFFFFFFFFFFFFFFFFFFF (isTime := true)
def NEXT_FIRE_TIME : Fld := mkFld 0x0F03 608 80 .ro 0xFFFFFFFFFFFFFFFFFFFF (isTime := true)
def flds : List Fld := [
  MODE, rsv 0x0F03 11 5, INJECT_EN, POLARITY, PULSE_EN, INJECT_STRING, INJECT_INPUT, START_TIME,
  INJECT_COUNT, rsv 0x0F03 120 8, PERIOD_S, PERIOD_NS, PULSE_WIDTH, SCHEDULE_STATE, rsv 0x0F03 235 5,
  INJECT_REFUSED_SEEN, LATE_SEEN, LINE_CLAIMED, rsv 0x0F03 240 16, FIRED, SKIPPED, LATE_FIRED,
  INJECT_REFUSED, LAST_FIRE_TIME, rsv 0x0F03 464 16, LAST_RESULT, LAST_RESULT_TIME, rsv 0x0F03 592 16,
  NEXT_FIRE_TIME, rsv 0x0F03 688 16]
def desc : ObjDesc := ⟨0x0F03, 88, .output, true, false, false, flds⟩
end PacerOutput

/-! CAPTURE_INPUT (0x0F04), Table 17.8 of 17_time_and_pacer.md. -/
namespace CaptureInput
def CAPTURE_MODE : Fld := mkFld 0x0F04 0 8 .rw 0 (stored := true) (perm := [(0, 3)])
def EDGE : Fld := mkFld 0x0F04 8 2 .rw 1 (stored := true) (perm := [(1, 3)])
def RECORD_LIMIT : Fld := mkFld 0x0F04 16 16 .rw 100 (stored := true) (perm := [(0, 1000)])
def WINDOW_START : Fld := mkFld 0x0F04 32 80 .rw 0xFFFFFFFFFFFFFFFFFFFF (stored := true) (isTime := true)
def WINDOW_END : Fld := mkFld 0x0F04 128 80 .rw 0xFFFFFFFFFFFFFFFFFFFF (stored := true) (isTime := true)
def WINDOW_PERIOD_S : Fld := mkFld 0x0F04 224 32 .rw 1 (stored := true) (perm := [(0, 86400)])
def WINDOW_PERIOD_NS : Fld := mkFld 0x0F04 256 32 .rw 0 (stored := true) (perm := [(0, 999999999)])
def WINDOW_STATE : Fld := mkFld 0x0F04 288 8 .ro 0
def LATE_OPEN : Fld := mkFld 0x0F04 297 1 .w1c 0
def LEVEL : Fld := mkFld 0x0F04 296 1 .ro 0
def CAPTURES : Fld := mkFld 0x0F04 320 32 .ro 0
def EDGES_MISSED : Fld := mkFld 0x0F04 352 32 .ro 0
def CAPTURES_UNRECORDED : Fld := mkFld 0x0F04 384 32 .ro 0
def LAST_EDGE : Fld := mkFld 0x0F04 416 8 .ro 0
def LAST_CAPTURE_TIME : Fld := mkFld 0x0F04 448 80 .ro 0xFFFFFFFFFFFFFFFFFFFF (isTime := true)
def flds : List Fld := [
  CAPTURE_MODE, rsv 0x0F04 10 6, EDGE, RECORD_LIMIT, WINDOW_START, rsv 0x0F04 112 16, WINDOW_END,
  rsv 0x0F04 208 16, WINDOW_PERIOD_S, WINDOW_PERIOD_NS, WINDOW_STATE, rsv 0x0F04 298 6, LATE_OPEN, LEVEL,
  rsv 0x0F04 304 16, CAPTURES, EDGES_MISSED, CAPTURES_UNRECORDED, LAST_EDGE, rsv 0x0F04 424 24,
  LAST_CAPTURE_TIME, rsv 0x0F04 528 16]
def desc : ObjDesc := ⟨0x0F04, 68, .capture, true, false, false, flds⟩
end CaptureInput

/-! CAN_CHANNEL (0x1001), Table 18.5 of 18_can_fd_equipment_bus.md. -/
namespace CanChannel
def LISTEN_ONLY : Fld := mkFld 0x1001 1 1 .rw 0 (stored := true)
def CHANNEL_EN : Fld := mkFld 0x1001 0 1 .rw 1 (stored := true)
def RECOVER : Fld := mkFld 0x1001 11 1 .wo 0
def TDC_EN : Fld := mkFld 0x1001 10 1 .rw 1 (stored := true)
def AUTO_RECOVER : Fld := mkFld 0x1001 9 1 .rw 1 (stored := true)
def TERM_EN : Fld := mkFld 0x1001 8 1 .rw 1 (stored := true)
def NOMINAL_BRP : Fld := mkFld 0x1001 16 16 .rw 1 (stored := true) (perm := [(1, 32)])
def NOMINAL_TSEG1 : Fld := mkFld 0x1001 32 16 .rw 63 (stored := true) (perm := [(2, 256)])
def NOMINAL_TSEG2 : Fld := mkFld 0x1001 48 8 .rw 16 (stored := true) (perm := [(1, 128)])
def NOMINAL_SJW : Fld := mkFld 0x1001 56 8 .rw 16 (stored := true) (perm := [(1, 128)])
def DATA_BRP : Fld := mkFld 0x1001 64 8 .rw 1 (stored := true) (perm := [(1, 32)])
def DATA_TSEG1 : Fld := mkFld 0x1001 72 8 .rw 15 (stored := true) (perm := [(1, 32)])
def DATA_TSEG2 : Fld := mkFld 0x1001 80 8 .rw 4 (stored := true) (perm := [(1, 16)])
def DATA_SJW : Fld := mkFld 0x1001 88 8 .rw 4 (stored := true) (perm := [(1, 16)])
def TDC_OFFSET : Fld := mkFld 0x1001 96 8 .rw 16 (stored := true) (perm := [(0, 127)])
def CHANNEL_STATE : Fld := mkFld 0x1001 104 8 .ro 0
def TEC : Fld := mkFld 0x1001 112 16 .ro 0
def REC : Fld := mkFld 0x1001 128 16 .ro 0
def NO_PARTNER : Fld := mkFld 0x1001 146 1 .ro 0
def BUS_OFF_SEEN : Fld := mkFld 0x1001 145 1 .w1c 0
def ERROR_PASSIVE_SEEN : Fld := mkFld 0x1001 144 1 .w1c 0
def LOOP_DELAY : Fld := mkFld 0x1001 152 8 .ro 255
def TS_UNCERTAINTY : Fld := mkFld 0x1001 160 16 .ro 50
def ACK_ERROR_RUN : Fld := mkFld 0x1001 176 16 .ro 0
def BUS_OFF_COUNT : Fld := mkFld 0x1001 192 32 .ro 0
def TX_FRAMES : Fld := mkFld 0x1001 224 32 .ro 0
def RX_FRAMES : Fld := mkFld 0x1001 256 32 .ro 0
def RX_UNMATCHED : Fld := mkFld 0x1001 288 32 .ro 0
def ERROR_FRAMES : Fld := mkFld 0x1001 320 32 .ro 0
def FALLBACK_SENT : Fld := mkFld 0x1001 352 32 .ro 0
def FALLBACK_ADDR_A : Fld := mkFld 0x1001 384 32 .rw 0 (stored := true)
def FALLBACK_ADDR_B : Fld := mkFld 0x1001 416 32 .rw 0 (stored := true)
def FALLBACK_UDP_PORT : Fld := mkFld 0x1001 448 16 .rw 47314 (stored := true) (perm := [(1024, 65535)])
def LAST_BUS_OFF_TIME : Fld := mkFld 0x1001 480 80 .ro 0xFFFFFFFFFFFFFFFFFFFF (isTime := true)
def flds : List Fld := [
  rsv 0x1001 2 6, LISTEN_ONLY, CHANNEL_EN, rsv 0x1001 12 4, RECOVER, TDC_EN, AUTO_RECOVER, TERM_EN,
  NOMINAL_BRP, NOMINAL_TSEG1, NOMINAL_TSEG2, NOMINAL_SJW, DATA_BRP, DATA_TSEG1, DATA_TSEG2, DATA_SJW,
  TDC_OFFSET, CHANNEL_STATE, TEC, REC, rsv 0x1001 147 5, NO_PARTNER, BUS_OFF_SEEN, ERROR_PASSIVE_SEEN,
  LOOP_DELAY, TS_UNCERTAINTY, ACK_ERROR_RUN, BUS_OFF_COUNT, TX_FRAMES, RX_FRAMES, RX_UNMATCHED, ERROR_FRAMES,
  FALLBACK_SENT, FALLBACK_ADDR_A, FALLBACK_ADDR_B, FALLBACK_UDP_PORT, rsv 0x1001 464 16, LAST_BUS_OFF_TIME,
  rsv 0x1001 560 16]
def desc : ObjDesc := ⟨0x1001, 72, .canChannel, true, false, false, flds⟩
end CanChannel

/-! CAN_OBJECT (0x1002), Table 18.6 of 18_can_fd_equipment_bus.md. -/
namespace CanObject
def DIRECTION : Fld := mkFld 0x1002 0 8 .rw 0 (stored := true) (perm := [(0, 2)])
def ONE_SHOT : Fld := mkFld 0x1002 11 1 .rw 0 (stored := true)
def BRS : Fld := mkFld 0x1002 10 1 .rw 0 (stored := true)
def FDF : Fld := mkFld 0x1002 9 1 .rw 0 (stored := true)
def XTD : Fld := mkFld 0x1002 8 1 .rw 0 (stored := true)
def DATA_LEN : Fld := mkFld 0x1002 16 8 .rw 8 (stored := true) (perm := [(0, 8), (12, 12), (16, 16), (20, 20), (24, 24), (32, 32), (48, 48), (64, 64)])
def OWNER : Fld := mkFld 0x1002 24 8 .ro 0
def IDENTIFIER : Fld := mkFld 0x1002 32 32 .rw 0 (stored := true)
def TX_REQUEST : Fld := mkFld 0x1002 68 1 .wo 0
def TX_PENDING : Fld := mkFld 0x1002 67 1 .ro 0
def TX_FAILED : Fld := mkFld 0x1002 66 1 .w1c 0
def MSG_LOST : Fld := mkFld 0x1002 65 1 .ro 0
def NEW_DATA : Fld := mkFld 0x1002 64 1 .ro 0
def FAIL_CAUSE : Fld := mkFld 0x1002 72 8 .ro 0
def RX_LEN : Fld := mkFld 0x1002 80 8 .ro 0
def TS_SOFTWARE : Fld := mkFld 0x1002 90 1 .ro 1
def RX_ESI : Fld := mkFld 0x1002 89 1 .ro 0
def RX_BRS : Fld := mkFld 0x1002 88 1 .ro 0
def RX_COUNT : Fld := mkFld 0x1002 96 32 .ro 0
def ACK_COUNT : Fld := mkFld 0x1002 128 32 .wo 0
def TX_COUNT : Fld := mkFld 0x1002 160 32 .ro 0
def TX_REPLACED : Fld := mkFld 0x1002 192 32 .ro 0
def FRAME_TIME : Fld := mkFld 0x1002 224 80 .ro 0xFFFFFFFFFFFFFFFFFFFF (isTime := true)
def DATA : Fld := mkFld 0x1002 320 512 .rw 0
def flds : List Fld := [
  DIRECTION, rsv 0x1002 12 4, ONE_SHOT, BRS, FDF, XTD, DATA_LEN, OWNER, IDENTIFIER, rsv 0x1002 69 3,
  TX_REQUEST, TX_PENDING, TX_FAILED, MSG_LOST, NEW_DATA, FAIL_CAUSE, RX_LEN, rsv 0x1002 91 5, TS_SOFTWARE,
  RX_ESI, RX_BRS, RX_COUNT, ACK_COUNT, TX_COUNT, TX_REPLACED, FRAME_TIME, rsv 0x1002 304 16, DATA]
def desc : ObjDesc := ⟨0x1002, 104, .canObject, true, false, false, flds⟩
end CanObject

/-! I2C_CONFIG (0x1101), Table 19.5 of 19_i2c_service_port.md. -/
namespace I2cConfig
def RECOVERY_EN : Fld := mkFld 0x1101 2 1 .rw 1 (stored := true)
def ATTN_EN : Fld := mkFld 0x1101 1 1 .rw 0 (stored := true)
def PORT_EN : Fld := mkFld 0x1101 0 1 .rw 1 (stored := true)
def ATTN_ADDR : Fld := mkFld 0x1101 8 8 .rw 255 (stored := true) (perm := [(8, 119), (255, 255)])
def ATTN_SPEED : Fld := mkFld 0x1101 16 8 .rw 1 (stored := true) (perm := [(0, 2)])
def ATTN_TRIES : Fld := mkFld 0x1101 24 8 .rw 10 (stored := true) (perm := [(1, 100)])
def ATTN_MASK : Fld := mkFld 0x1101 32 16 .rw 191 (stored := true)
def ATTN_RETRY : Fld := mkFld 0x1101 48 16 .rw 100 (stored := true) (perm := [(10, 10000)])
def ATTN_MIN_SEVERITY : Fld := mkFld 0x1101 64 8 .rw 3 (stored := true) (perm := [(1, 4)])
def SLEEP_AFTER : Fld := mkFld 0x1101 80 16 .rw 10 (stored := true) (perm := [(1, 3600)])
def STUCK_TIME : Fld := mkFld 0x1101 96 16 .rw 35 (stored := true) (perm := [(25, 1000)])
def flds : List Fld := [
  rsv 0x1101 3 5, RECOVERY_EN, ATTN_EN, PORT_EN, ATTN_ADDR, ATTN_SPEED, ATTN_TRIES, ATTN_MASK, ATTN_RETRY,
  ATTN_MIN_SEVERITY, rsv 0x1101 72 8, SLEEP_AFTER, STUCK_TIME, rsv 0x1101 112 16]
def desc : ObjDesc := ⟨0x1101, 16, .module, true, false, false, flds⟩
end I2cConfig

/-! I2C_STATUS (0x1102), Table 19.6 of 19_i2c_service_port.md. -/
namespace I2cStatus
def TARGET_ADDR : Fld := mkFld 0x1102 0 8 .ro 0
def PORT_STATE : Fld := mkFld 0x1102 8 8 .ro 0
def ATTN_FAILED_SEEN : Fld := mkFld 0x1102 20 1 .w1c 0
def ATTN_PENDING : Fld := mkFld 0x1102 19 1 .ro 0
def PORT_DISABLED : Fld := mkFld 0x1102 18 1 .ro 0
def BUS_STUCK : Fld := mkFld 0x1102 17 1 .ro 0
def SELECTION : Fld := mkFld 0x1102 16 1 .ro 0
def WINDOW : Fld := mkFld 0x1102 24 8 .ro 16
def TRANSACTIONS : Fld := mkFld 0x1102 32 32 .ro 0
def WAKE_NACKS : Fld := mkFld 0x1102 64 32 .ro 0
def REFUSED_WRITES : Fld := mkFld 0x1102 96 32 .ro 0
def STRETCH_LIMITS : Fld := mkFld 0x1102 128 32 .ro 0
def ABORTS_RSTART : Fld := mkFld 0x1102 160 32 .ro 0
def ATTN_SENT : Fld := mkFld 0x1102 192 32 .ro 0
def ATTN_NACKED : Fld := mkFld 0x1102 224 32 .ro 0
def ARB_LOST : Fld := mkFld 0x1102 256 32 .ro 0
def RECOVERIES : Fld := mkFld 0x1102 288 32 .ro 0
def flds : List Fld := [
  TARGET_ADDR, PORT_STATE, rsv 0x1102 21 3, ATTN_FAILED_SEEN, ATTN_PENDING, PORT_DISABLED, BUS_STUCK,
  SELECTION, WINDOW, TRANSACTIONS, WAKE_NACKS, REFUSED_WRITES, STRETCH_LIMITS, ABORTS_RSTART, ATTN_SENT,
  ATTN_NACKED, ARB_LOST, RECOVERIES]
def desc : ObjDesc := ⟨0x1102, 40, .module, false, false, false, flds⟩
end I2cStatus

/-! UPDATE_STATUS (0x1201), Table 20.9 of 20_firmware_and_configuration_update.md. -/
namespace UpdateStatus
def SLOT_A_STATE : Fld := mkFld 0x1201 0 8 .ro 0
def SLOT_B_STATE : Fld := mkFld 0x1201 8 8 .ro 0
def UPDATE_STATE : Fld := mkFld 0x1201 16 8 .ro 0
def HANDOVER_DIE : Fld := mkFld 0x1201 24 8 .ro 255
def HANDBACK_SEEN : Fld := mkFld 0x1201 33 1 .w1c 0
def ADVANCE_FUSES : Fld := mkFld 0x1201 32 1 .wol 0
def LAST_CHECK : Fld := mkFld 0x1201 40 8 .ro 0
def SLOT_A_VERSION : Fld := mkFld 0x1201 64 32 .ro 0
def SLOT_B_VERSION : Fld := mkFld 0x1201 96 32 .ro 0
def SLOT_A_ROLLBACK_INDEX : Fld := mkFld 0x1201 128 32 .ro 0
def SLOT_B_ROLLBACK_INDEX : Fld := mkFld 0x1201 160 32 .ro 0
def FUSE_ROLLBACK_INDEX : Fld := mkFld 0x1201 192 32 .ro 0
def BYTES_RECEIVED : Fld := mkFld 0x1201 224 32 .ro 0
def ACTIVATIONS : Fld := mkFld 0x1201 256 32 .ro 0
def HANDOVERS_ABANDONED : Fld := mkFld 0x1201 288 32 .ro 0
def LAST_ACTIVATION_TIME : Fld := mkFld 0x1201 320 80 .ro 0xFFFFFFFFFFFFFFFFFFFF (isTime := true)
def STAGED_NODE_VERSION : Fld := mkFld 0x1201 416 32 .ro 0
def STAGED_NODE_SIZE : Fld := mkFld 0x1201 448 32 .ro 0
def flds : List Fld := [
  SLOT_A_STATE, SLOT_B_STATE, UPDATE_STATE, HANDOVER_DIE, rsv 0x1201 34 6, HANDBACK_SEEN, ADVANCE_FUSES,
  LAST_CHECK, rsv 0x1201 48 16, SLOT_A_VERSION, SLOT_B_VERSION, SLOT_A_ROLLBACK_INDEX, SLOT_B_ROLLBACK_INDEX,
  FUSE_ROLLBACK_INDEX, BYTES_RECEIVED, ACTIVATIONS, HANDOVERS_ABANDONED, LAST_ACTIVATION_TIME,
  rsv 0x1201 400 16, STAGED_NODE_VERSION, STAGED_NODE_SIZE, rsv 0x1201 480 32]
def desc : ObjDesc := ⟨0x1201, 64, .module, false, false, false, flds⟩
end UpdateStatus

/-! NODE_UPDATE (0x1202), Table 20.10 of 20_firmware_and_configuration_update.md. -/
namespace NodeUpdate
def NODE_UPDATE_STATE : Fld := mkFld 0x1202 0 8 .ro 0
def START_REQUEST : Fld := mkFld 0x1202 9 1 .wo 0
def ARMED : Fld := mkFld 0x1202 8 1 .rw 0 (stored := true)
def NODES_CURRENT : Fld := mkFld 0x1202 16 8 .ro 0
def NODES_PENDING : Fld := mkFld 0x1202 24 8 .ro 0
def NODES_INCOMPATIBLE : Fld := mkFld 0x1202 32 8 .ro 0
def NODES_FAILED : Fld := mkFld 0x1202 40 8 .ro 0
def COPY_SERIAL : Fld := mkFld 0x1202 64 128 .ro 0
def COPY_BYTES : Fld := mkFld 0x1202 192 32 .ro 0
def COPIES_DONE : Fld := mkFld 0x1202 224 32 .ro 0
def COPIES_FAILED : Fld := mkFld 0x1202 256 32 .ro 0
def REVERTS : Fld := mkFld 0x1202 288 32 .ro 0
def LAST_COPY_TIME : Fld := mkFld 0x1202 320 80 .ro 0xFFFFFFFFFFFFFFFFFFFF (isTime := true)
def flds : List Fld := [
  NODE_UPDATE_STATE, rsv 0x1202 10 6, START_REQUEST, ARMED, NODES_CURRENT, NODES_PENDING, NODES_INCOMPATIBLE,
  NODES_FAILED, rsv 0x1202 48 16, COPY_SERIAL, COPY_BYTES, COPIES_DONE, COPIES_FAILED, REVERTS,
  LAST_COPY_TIME, rsv 0x1202 400 16]
def desc : ObjDesc := ⟨0x1202, 52, .string, true, false, false, flds⟩
end NodeUpdate

/-! CONFIG_FORMAT (0x1203), Table 20.11 of 20_firmware_and_configuration_update.md. -/
namespace ConfigFormat
def FORMAT_RUNNING : Fld := mkFld 0x1203 0 16 .ro 0
def FORMAT_KEPT : Fld := mkFld 0x1203 16 16 .ro 0
def CONFIG_REVERTED : Fld := mkFld 0x1203 33 1 .w1c 0
def UPLOAD_ACTIVE : Fld := mkFld 0x1203 32 1 .ro 0
def UPLOAD_RESULT : Fld := mkFld 0x1203 40 8 .ro 0
def WRITES_SINCE_KEPT : Fld := mkFld 0x1203 64 32 .ro 0
def UPLOAD_RECORDS : Fld := mkFld 0x1203 96 32 .ro 0
def KEPT_TIME : Fld := mkFld 0x1203 128 80 .ro 0xFFFFFFFFFFFFFFFFFFFF (isTime := true)
def CONFIRM_TIME : Fld := mkFld 0x1203 224 80 .ro 0xFFFFFFFFFFFFFFFFFFFF (isTime := true)
def flds : List Fld := [
  FORMAT_RUNNING, FORMAT_KEPT, rsv 0x1203 34 6, CONFIG_REVERTED, UPLOAD_ACTIVE, UPLOAD_RESULT,
  rsv 0x1203 48 16, WRITES_SINCE_KEPT, UPLOAD_RECORDS, KEPT_TIME, rsv 0x1203 208 16, CONFIRM_TIME,
  rsv 0x1203 304 16]
def desc : ObjDesc := ⟨0x1203, 40, .module, false, false, false, flds⟩
end ConfigFormat

/-! SECURITY_STATUS (0x1301), Table 21.8 of 21_security_presence_and_state_matrix.md. -/
namespace SecurityStatus
def SECURITY_STATE : Fld := mkFld 0x1301 0 8 .ro 0
def DEBUG_LEVEL : Fld := mkFld 0x1301 8 8 .ro 0
def PEER_KEY_SET : Fld := mkFld 0x1301 20 1 .ro 0
def COMMISSIONING_OPEN : Fld := mkFld 0x1301 19 1 .ro 0
def TRUST_EMPTY : Fld := mkFld 0x1301 18 1 .ro 0
def DEBUG_TAINTED : Fld := mkFld 0x1301 17 1 .ro 0
def PROBE_ATTACHED : Fld := mkFld 0x1301 16 1 .ro 0
def LAST_CHANGE_SESSION : Fld := mkFld 0x1301 24 8 .ro 0
def STATE_CHANGES : Fld := mkFld 0x1301 32 32 .ro 0
def LAST_CHANGE_TIME : Fld := mkFld 0x1301 64 80 .ro 0xFFFFFFFFFFFFFFFFFFFF (isTime := true)
def PEER_KEY_ID : Fld := mkFld 0x1301 160 32 .ro 0
def PEER_KEY : Fld := mkFld 0x1301 192 256 .wol 0 (stored := true)
def flds : List Fld := [
  SECURITY_STATE, DEBUG_LEVEL, rsv 0x1301 21 3, PEER_KEY_SET, COMMISSIONING_OPEN, TRUST_EMPTY, DEBUG_TAINTED,
  PROBE_ATTACHED, LAST_CHANGE_SESSION, STATE_CHANGES, LAST_CHANGE_TIME, rsv 0x1301 144 16, PEER_KEY_ID,
  PEER_KEY]
def desc : ObjDesc := ⟨0x1301, 56, .module, true, false, false, flds⟩
end SecurityStatus

/-! TRUST_LIST (0x1302), Table 21.9 of 21_security_presence_and_state_matrix.md. -/
namespace TrustList
def KIND : Fld := mkFld 0x1302 0 8 .rwl 0 (stored := true) (perm := [(0, 2)])
def CLASS : Fld := mkFld 0x1302 8 8 .rwl 0 (stored := true) (perm := [(0, 3)])
def ENABLED : Fld := mkFld 0x1302 16 1 .rwl 0 (stored := true)
def DIGEST : Fld := mkFld 0x1302 32 384 .rwl 0 (stored := true)
def LABEL : Fld := mkFld 0x1302 416 128 .rwl 0 (stored := true)
def USE_COUNT : Fld := mkFld 0x1302 544 32 .ro 0
def LAST_USED_TIME : Fld := mkFld 0x1302 576 80 .ro 0xFFFFFFFFFFFFFFFFFFFF (isTime := true)
def flds : List Fld := [
  KIND, CLASS, rsv 0x1302 17 7, ENABLED, rsv 0x1302 24 8, DIGEST, LABEL, USE_COUNT, LAST_USED_TIME,
  rsv 0x1302 656 16]
def desc : ObjDesc := ⟨0x1302, 84, .entry, true, false, false, flds⟩
end TrustList

/-! PRESENCE_STATUS (0x1303), Table 21.10 of 21_security_presence_and_state_matrix.md. -/
namespace PresenceStatus
def TOKEN_STATE : Fld := mkFld 0x1303 0 8 .ro 0
def TOKEN_SOURCE : Fld := mkFld 0x1303 8 8 .ro 0
def BOUND_SESSION : Fld := mkFld 0x1303 16 8 .ro 0
def TOKEN_REMAIN : Fld := mkFld 0x1303 32 16 .ro 0
def PRESENCE_EVENTS : Fld := mkFld 0x1303 64 32 .ro 0
def TOKENS_USED : Fld := mkFld 0x1303 96 32 .ro 0
def TOKENS_EXPIRED : Fld := mkFld 0x1303 128 32 .ro 0
def LAST_PRESENCE_TIME : Fld := mkFld 0x1303 160 80 .ro 0xFFFFFFFFFFFFFFFFFFFF (isTime := true)
def flds : List Fld := [
  TOKEN_STATE, TOKEN_SOURCE, BOUND_SESSION, rsv 0x1303 24 8, TOKEN_REMAIN, rsv 0x1303 48 16, PRESENCE_EVENTS,
  TOKENS_USED, TOKENS_EXPIRED, LAST_PRESENCE_TIME, rsv 0x1303 240 16]
def desc : ObjDesc := ⟨0x1303, 32, .module, false, false, false, flds⟩
end PresenceStatus

/-! DEBUG_CONFIG (0x1304), Table 21.11 of 21_security_presence_and_state_matrix.md. -/
namespace DebugConfig
def DEBUG_ALLOWED : Fld := mkFld 0x1304 0 2 .rwl 1 (stored := true)
def PROBE_ATTACHES : Fld := mkFld 0x1304 32 32 .ro 0
def HALT_TIME : Fld := mkFld 0x1304 64 32 .ro 0
def SERVICE_IDLE : Fld := mkFld 0x1304 96 32 .rwl 900 (stored := true) (perm := [(60, 86400)])
def flds : List Fld := [
  rsv 0x1304 2 6, DEBUG_ALLOWED, rsv 0x1304 8 8, rsv 0x1304 16 16, PROBE_ATTACHES, HALT_TIME, SERVICE_IDLE]
def desc : ObjDesc := ⟨0x1304, 16, .module, true, false, false, flds⟩
end DebugConfig

/-- Table 5.14: every configuration object, in ascending ID order (R158, R169). -/
def objA : List ObjDesc := [ModuleIdentity.desc, DieStatus.desc, ModuleHealth.desc, ModuleTerminals.desc,
  StringTerminals.desc, NetConfig.desc, MailboxStatus.desc, SessionStatus.desc, PowerStatus.desc,
  PowerConfig.desc, StringPower.desc, BootStatus.desc, MeasurementSlot.desc, StartConfig.desc,
  RingConfig.desc, RingStatus.desc, Topology.desc, RingCounters.desc, LapConfig.desc, LapStatus.desc,
  NodeConfig.desc, NodeStatus.desc, BalanceConfig.desc, WireStatus.desc, NodeAuth.desc, HistoryConfig.desc,
  HistoryStatus.desc, TraceConfig.desc, TraceStatus.desc]

@[inherit_doc objA] def objB : List ObjDesc := [CoulombConfig.desc, CoulombStatus.desc, SequenceConfig.desc,
  SequenceResults.desc, Calibration.desc, InsulationStatus.desc, ChemistryTable.desc, EstimationConfig.desc,
  SentinelConfig.desc, FilterStatus.desc, StringState.desc, OutputConfig.desc, LedgerStatus.desc,
  DivergeStatus.desc, ProtectionStatus.desc, IntegratorProfile.desc, ContactorConfig.desc,
  SafeTelegramConfig.desc, TripLog.desc, ThermalStatus.desc, ThermalConfig.desc, HvacConfig.desc]

@[inherit_doc objA] def objC : List ObjDesc := [ChannelConfig.desc, ChannelRegions.desc, ChannelStatus.desc,
  BlockConfig.desc, BlockStatus.desc, StringDispatch.desc, CollectorStatus.desc, TimeStatus.desc,
  PtpDomain.desc, PacerOutput.desc, CaptureInput.desc, CanChannel.desc, CanObject.desc, I2cConfig.desc,
  I2cStatus.desc, UpdateStatus.desc, NodeUpdate.desc, ConfigFormat.desc, SecurityStatus.desc,
  TrustList.desc, PresenceStatus.desc, DebugConfig.desc]

/-- Every object of Table 5.14 (R169). -/
def all : List ObjDesc := objA ++ objB ++ objC

/-- The map of object `id`; none for an ID outside Table 5.14 (R169). -/
def find (id : Nat) : Option ObjDesc :=
  if id < 0x0800 then objA.find? (·.id == id)
  else if id < 0x0D00 then objB.find? (·.id == id)
  else objC.find? (·.id == id)

end Sys2Proof.Obj
end

