-- ==== Sys2Proof/Machine/Num.lean ====
section
/-! DEFINITION. The numbers of the estimation engine (R303): exact fractions, rounding to nearest even, and IEEE 754
binary32 arithmetic on bit patterns. -/

namespace Sys2Proof.Machine

/-! ### Exact fractions -/

/-- The fraction `n / d`; `d` is kept above 0. -/
structure Fr where
  n : Int
  d : Nat
  deriving DecidableEq, Repr

/-- The fraction of two integers, 0 where the denominator is 0. -/
def frac (n : Int) (d : Nat) : Fr := if d = 0 then ⟨0, 1⟩ else ⟨n, d⟩

/-- An integer as a fraction. -/
def fr (n : Int) : Fr := ⟨n, 1⟩

/-- Sum, difference, product and quotient of fractions. -/
def Fr.add (a b : Fr) : Fr := if a.d = b.d then ⟨a.n + b.n, a.d⟩ else ⟨a.n * b.d + b.n * a.d, a.d * b.d⟩
@[inherit_doc Fr.add] def Fr.sub (a b : Fr) : Fr := a.add ⟨-b.n, b.d⟩
@[inherit_doc Fr.add] def Fr.mul (a b : Fr) : Fr := ⟨a.n * b.n, a.d * b.d⟩
@[inherit_doc Fr.add] def Fr.div (a b : Fr) : Fr :=
  if b.n = 0 then ⟨0, 1⟩ else if 0 < b.n then ⟨a.n * b.d, a.d * b.n.natAbs⟩ else ⟨-(a.n * b.d), a.d * b.n.natAbs⟩

/-- Comparison of fractions. -/
def Fr.lt (a b : Fr) : Bool := decide (a.n * b.d < b.n * a.d)
@[inherit_doc Fr.lt] def Fr.le (a b : Fr) : Bool := decide (a.n * b.d ≤ b.n * a.d)

/-- The larger and the smaller of two fractions, and the magnitude. -/
def Fr.max (a b : Fr) : Fr := if a.lt b then b else a
@[inherit_doc Fr.max] def Fr.min (a b : Fr) : Fr := if b.lt a then b else a
@[inherit_doc Fr.max] def Fr.abs (a : Fr) : Fr := ⟨a.n.natAbs, a.d⟩

/-- The largest integer not above a fraction. -/
def Fr.floor (a : Fr) : Int := a.n / (a.d : Int)

/-- The nearest integer, ties to even (R303). -/
def rne (n : Int) (d : Nat) : Int :=
  if d = 0 then 0
  else
    let q := n / (d : Int)
    let r := 2 * (n % (d : Int))
    if r < d then q else if (d : Int) < r then q + 1 else if q % 2 = 0 then q else q + 1

/-- The nearest integer of a fraction, ties to even. -/
def Fr.round (a : Fr) : Int := rne a.n a.d

/-! ### binary32 -/

/-- The value that stands for every non-finite result. -/
def f32Nan : Nat := 0x7FC00000

/-- A word is finite. -/
def f32Finite (b : Nat) : Bool := decide (b / 2 ^ 23 % 256 ≠ 255)

/-- Sign, mantissa and exponent of a finite word: its value is (-1)^s · m · 2^(e - 149). -/
def f32Parts (b : Nat) : Bool × Nat × Nat :=
  let e := b / 2 ^ 23 % 256
  let f := b % 2 ^ 23
  (decide (2 ^ 31 ≤ b), if e = 0 then f else f + 2 ^ 23, if e = 0 then 0 else e - 1)

/-- The exact value of a finite word. -/
def f32Val (b : Nat) : Fr :=
  let (s, m, e) := f32Parts b
  ⟨(if s then -1 else 1) * (m * 2 ^ e : Nat), 2 ^ 149⟩

/-- How many bits a number has. -/
def bitLen (n : Nat) : Nat := if n = 0 then 0 else Nat.log2 n + 1

/-- The quotient n / d rounded to nearest even on naturals. -/
def rneNat (n d : Nat) : Nat :=
  let q := n / d
  let r := 2 * (n % d)
  if r < d then q else if d < r then q + 1 else if q % 2 = 0 then q else q + 1

/-- The word nearest to n / d, ties to even, for a positive value. -/
def f32OfPos (n d : Nat) : Nat :=
  -- value = n / d; u is the exponent of one unit in the last place, counted from 2^-149
  let scaled := n * 2 ^ 149
  let q := scaled / d
  let u := bitLen q - 24
  let m := rneNat scaled (d * 2 ^ u)
  let (m, u) := if m = 2 ^ 24 then (2 ^ 23, u + 1) else (m, u)
  if 254 ≤ u + 1 ∧ 2 ^ 23 ≤ m ∧ 254 < u + 1 then 0x7F800000
  else if m < 2 ^ 23 then m
  else (u + 1) * 2 ^ 23 + (m - 2 ^ 23)

/-- The word nearest to a fraction. -/
def f32Of (a : Fr) : Nat :=
  if a.n = 0 then 0
  else if 0 < a.n then f32OfPos a.n.natAbs a.d else 2 ^ 31 + f32OfPos a.n.natAbs a.d

/-- A binary operation on finite words, by its exact value; a non-finite operand gives the non-finite word. -/
def f32Op (op : Fr → Fr → Fr) (a b : Nat) : Nat :=
  if f32Finite a && f32Finite b then f32Of (op (f32Val a) (f32Val b)) else f32Nan

/-- binary32 sum, difference, product. -/
def fAdd (a b : Nat) : Nat := f32Op Fr.add a b
@[inherit_doc fAdd] def fSub (a b : Nat) : Nat := f32Op Fr.sub a b
@[inherit_doc fAdd] def fMul (a b : Nat) : Nat := f32Op Fr.mul a b

/-- binary32 quotient; by zero it is not finite. -/
def fDiv (a b : Nat) : Nat :=
  if f32Finite b && decide (b % 2 ^ 31 = 0) then f32Nan else f32Op Fr.div a b

/-- Comparisons of words; false where one is not finite. -/
def fLt (a b : Nat) : Bool := f32Finite a && f32Finite b && (f32Val a).lt (f32Val b)

/-- The positive finite words. -/
def fPos (a : Nat) : Bool := f32Finite a && (fr 0).lt (f32Val a)

/-- The binary32 sum of a list, left to right. -/
def fSum : List Nat → Nat
  | [] => 0
  | a :: as => as.foldl fAdd a

/-- The smaller of two finite words. -/
def fMin (a b : Nat) : Nat := if fLt b a then b else a

/-- One unit of the fixed point the exponential is evaluated in. -/
def expOne : Nat := 2 ^ 256

/-- e^x of `x` units: the series of e^(x/256), squared eight times. -/
def expUp (x : Nat) : Nat :=
  let y := x / 256
  let e := ((List.range 60).foldl (fun (a : Nat × Nat) i =>
    let t := a.2 * y / expOne / (i + 1)
    (a.1 + t, t)) (expOne, expOne)).1
  (List.range 8).foldl (fun e _ => e * e / expOne) e

/-- exp of minus a finite word: the binary32 word nearest to the exponential, evaluated far beyond its last place (DEDUCED from R303,
log 52); below half the smallest word it is 0, beyond the largest it is infinite. -/
def fExpNeg (a : Nat) : Nat :=
  if !f32Finite a then f32Nan
  else
    let v := f32Val a
    if v.n < 0 then
      if v.lt (fr (-90)) then 0x7F800000 else f32OfPos (expUp (v.n.natAbs * expOne / v.d)) expOne
    else if (fr 110).lt v then 0 else f32OfPos expOne (expUp (v.n.toNat * expOne / v.d))

end Sys2Proof.Machine
end

