-- ==== Sys2Proof/Machine/State.lean ====
section
/-! DEFINITION. The state of the module as plain data: the configuration objects as one register store, the
hidden state of every engine the spec gives the block, the queue of commands that wait, and the reasons a step can
stop. -/

namespace Sys2Proof.Machine

/-- The place of one register field: object, instance, and the bit its lowest bit stands at. -/
structure Key where
  obj : Nat
  inst : Nat
  pos : Nat
  deriving DecidableEq, Repr

/-- The registers that do not hold their reset value, in rising order of place. A place that is not listed
holds the reset value its field map gives. -/
abbrev Store := List (Key × Nat)

/-- A register write that waits: the place, its reset value, and the value it is to hold. -/
structure CellW where
  key : Key
  reset : Nat
  val : Nat
  deriving DecidableEq, Repr

/-- An event record of Table 9.4. `time` is the time base in ns, none when no time is known. -/
structure Event where
  time : Nat
  code : Nat
  sev : Nat
  str : Nat
  node : Nat
  epoch : Nat
  seq : Nat
  data : Bytes
  deriving DecidableEq, Repr

/-- What the module sends to its surroundings, newest first in `State.out`. -/
inductive Out where
  /-- A mailbox frame: connection, FLAGS, COMMAND, STATUS, SEQUENCE, SESSION, payload (Table 5.2). -/
  | frame (conn flags cmd status seq sess : Nat) (payload : Bytes)
  /-- A connection is closed or a TCP connection is reset. -/
  | close (conn : Nat)
  /-- A TCP connection is accepted: every frame of it leaves its port under this 802.1Q tag, VLAN_ID and VLAN_PCP (R135). -/
  | accept (conn port : Nat) (tag : Option (Nat × Nat))
  /-- The module's part of a handshake at a connection is finished, with the cipher suite it has chosen and the plaintext bytes of
  its records at most, and without a PSK and without early data (Table 5.1). -/
  | tls (conn suite recMax : Nat)
  /-- A handshake has failed or is abandoned. -/
  | tlsFail (conn : Nat)
  /-- A KeyUpdate of the module's own sending keys. -/
  | keyUpdate (conn : Nat)
  /-- The network layer of a port answers a packet, under its 802.1Q tag (R135). -/
  | netReply (port : Nat) (tag : Option (Nat × Nat)) (q : NetQuery)
  /-- A baton leaves a ring port: string, port (0 A, 1 B), bytes before the CRC fields are line-coded. -/
  | baton (str port : Nat) (bytes : Bytes)
  /-- BREAK is sent at a ring port in place of IDLE (R174). -/
  | brk (str port : Nat)
  /-- IDLE is sent at a ring port again (R174). -/
  | idle (str port : Nat)
  /-- A safe status telegram on one network (R385): network, destination, port, bytes. -/
  | telegram (net dest port : Nat) (bytes : Bytes)
  /-- Any other UDP datagram: network, destination, port, bytes. -/
  | udp (net dest port : Nat) (bytes : Bytes)
  /-- A CAN frame offered to a bus: channel, object, identifier, data. -/
  | can (ch obj ident : Nat) (xtd fdf brs : Bool) (bytes : Bytes)
  /-- A PTP message on a network: network, domain, kind, fields. -/
  | ptp (net : Nat) (tag : Option (Nat × Nat)) (dom kind : Nat) (body : List Int)
  /-- An edge of a TPO line: line, level, instant on the time base. -/
  | pulse (line level at_ : Nat)
  /-- A PWM train on a TPO line: high time and period in ns, from this instant of the time base. -/
  | pwm (line high period from_ : Nat)
  /-- What the module does on the I²C bus: 0 sends bytes as target, 1 as controller, 2 drives recovery pulses and, where SDA
rises, STOP, 3 does not acknowledge a byte, 4 acknowledges a byte, 5 releases SDA. -/
  | i2c (kind addr : Nat) (bytes : Bytes)
  /-- A coil switch command or test towards the front-end: string, coil (0 pos, 1 neg, 2 pre), on. -/
  | coil (str coil : Nat) (on : Bool)
  /-- An off-pulse of one switch of an energised coil, 0 high-side, 1 low-side, for so many µs (R379). -/
  | offPulse (str coil side us : Nat)
  /-- A coil is opened through one switch alone, its other having failed its test (R379). -/
  | switchOff (str coil side : Nat)
  /-- A heartbeat of a string die towards its front-end, with its counter (R362). -/
  | beat (str count : Nat)
  /-- A command on the front-end link of a string (R29). -/
  | feLink (str code : Nat) (args : List Int)
  /-- A line on the recovery loader's debug protocol at the SERVICE port (R521). -/
  | service (code : Nat)
  deriving DecidableEq, Repr

/-- A request as it arrived: the connection, and SESSION, COMMAND and SEQUENCE of its frame. -/
structure Rid where
  conn : Nat
  sess : Nat
  cmd : Nat
  seq : Nat
  /-- Which request of its session it is (R143: SEQUENCE names none). -/
  no : Nat
  deriving DecidableEq, Repr

/-! ### Mailbox (chapter 5) -/

/-- One write request: the prefix, data and mask of a PUT_OBJ (R156, R159). -/
structure Write where
  obj : Nat
  inst : Nat
  off : Nat
  epoch : Nat
  data : Bytes
  mask : Bytes
  deriving DecidableEq, Repr

/-- An open transaction (R159, R160): its writes oldest first, and the objects another session has changed
since the transaction's first write to them. -/
structure Txn where
  writes : List Write
  stale : List (Nat × Nat)
  lastFrame : Nat
  deriving DecidableEq, Repr

/-- An outstanding request of a session; `reply` is set once it has been answered but an older one has not (R144). -/
structure Outst where
  cmd : Nat
  seq : Nat
  reply : Option (Nat × Bytes)
  /-- Which request of its session it is. -/
  no : Nat
  deriving DecidableEq, Repr

/-- Consecutive blocks or samples that are lost, and the instants of the first and the last item in them. -/
structure LostRun where
  first : Nat
  last : Nat
  fromT : Nat
  toT : Nat
  deriving DecidableEq, Repr

/-- An open stream (R163 to R166). `credit` is the host's grant of an outbound stream, or the frames an inbound
stream may still send. `cursor`, `part`, `upto`, `aux` belong to the kind: block, event, sample or chunk cursor. -/
structure Stream where
  num : Nat
  kind : Nat
  credit : Nat
  frames : Nat
  params : Bytes
  cursor : Nat
  part : Nat
  upto : Nat
  aux : Nat
  /-- Runs of lap blocks or of trace samples lost and not yet reported (R264, R269). -/
  lost : List LostRun
  queue : List Bytes
  body : Bytes
  deriving DecidableEq, Repr

/-- A mailbox session (R137 to R139). -/
structure Sess where
  num : Nat
  conn : Nat
  cls : Nat
  lastFrame : Nat
  useq : Nat
  outst : List Outst
  txn : Option Txn
  streams : List Stream
  /-- The number of the next request. -/
  next : Nat
  deriving DecidableEq, Repr

/-- A TCP connection with its TLS handshake (R133 to R137). `chain` holds the client's certificates in
DER, leaf first; `cls` is 0 until the handshake is complete. -/
structure Conn where
  id : Nat
  port : Nat
  addr : Nat
  tcp : Nat
  since : Nat
  up : Bool
  cls : Nat
  entry : Nat
  chain : List Bytes
  unchecked : Bool
  /-- The client was admitted in the commissioning window, and its session is to bind the token (R545). -/
  bind : Bool
  /-- An OPEN_SESSION has arrived on it (R137). -/
  opened : Bool
  /-- The requests that sessions on it have sent so far. -/
  reqs : Nat
  /-- The cipher suite in use, and the plaintext bytes a record to the client may carry (Table 5.1). -/
  suite : Nat
  recMax : Nat
  /-- How often the keys of each direction have been updated (KeyUpdate, Table 5.1). -/
  rxKeys : Nat
  txKeys : Nat
  deriving DecidableEq, Repr

/-- A stored write whose final journal record is not yet programmed (R157): who waits for the answer, the writes of a PUT_OBJ,
a COMMIT_TXN or a CONFIG_UPLOAD, or the register values another command stores, whether a flash erase is part of it, and the
payload of the answer. -/
structure Journal where
  id : Nat
  rid : Rid
  cells : List CellW
  writes : List Write
  erase : Bool
  payload : Bytes
  deriving DecidableEq, Repr

/-- A write whose answer waits for node exchanges (R231): the string and the field of each, 0 CLOSE_REQUEST, 1 START_REQUEST. -/
structure NodeReq where
  rid : Rid
  left : List (Nat × Nat)
  deriving DecidableEq, Repr

/-- The mailbox service of the manager die (chapter 5). -/
structure Mbx where
  conns : List Conn
  sess : List Sess
  journal : List Journal
  nextJournal : Nat
  /-- Uploads whose END frame has arrived and which are not yet dealt with, with the session they came on. -/
  inbox : List (Nat × Stream)
  /-- When the stream data sent on NET B has had its time at 400 Mbit/s (R551). -/
  netBFree : Nat
  nodeReqs : List NodeReq
  deriving DecidableEq, Repr

/-! ### History and traces (chapter 9) -/

/-- A history block (Table 9.1): the items as their entry header and stored bytes, oldest first. -/
structure Blk where
  seq : Nat
  first : Nat
  last : Nat
  used : Nat
  opened : Nat
  timeout : Bool
  holdup : Bool
  damaged : Bool
  pinned : Bool
  sending : Bool
  items : List Bytes
  times : List Nat
  deriving DecidableEq, Repr

/-- A pin: the window [from, to) of lap instants it protects (R261). -/
structure Pin where
  from_ : Nat
  to_ : Nat
  deriving DecidableEq, Repr

/-- A trace sample of Table 9.6. -/
structure Sample where
  time : Nat
  region : Nat
  trigger : Bool
  ramping : Bool
  safe : Bool
  miss : Bool
  input : Int
  err : Int
  band : Nat
  output : Int
  index : Nat
  deriving DecidableEq, Repr

/-- A capture of a channel: pending while `post` samples are still to come, frozen in a slot 1 to 3 (R267). -/
structure Capture where
  slot : Nat
  trigAt : Nat
  cause : Nat
  post : Nat
  samples : List Sample
  order : Nat
  deriving DecidableEq, Repr

/-- The trace buffer of one control channel: newest sample first (R266). -/
structure Trace where
  rolling : List Sample
  pending : Option Capture
  frozen : List Capture
  asked : Bool
  /-- Sample instants of the channel since start (R266). -/
  count : Nat
  /-- Instants of samples that an uncorrectable error has made invalid (R34). -/
  invalid : List Nat
  nextOrder : Nat
  deriving DecidableEq, Repr

/-- A closed block of the event ring (Table 9.1): its records, newest first. -/
structure EvBlk where
  seq : Nat
  events : List Event
  timeout : Bool
  holdup : Bool
  /-- How many of its records, the oldest, an error has spoilt; 0 while it is not DAMAGED. -/
  damaged : Nat
  deriving DecidableEq, Repr

/-- The history writer (R252 to R262). Closed blocks are newest first. `words` is the previous LAP entry of each
string in the open block, the reference of the delta code (R258); none asks for a KEY entry. -/
structure Hist where
  lapOpen : Option Blk
  lapRing : List Blk
  lapSeq : Nat
  evOpen : List Event
  evOpenAt : Nat
  evRing : List EvBlk
  evBlk : Nat
  pins : List Pin
  words : List (Option (List Nat))
  evSeq : Nat
  /-- Events that wait while the manager die is stalled (R44). -/
  owed : List Event
  /-- The block of each ring that is being written was damaged, and has not been rewritten yet (R256). -/
  lapBad : Bool
  evBad : Bool
  /-- An error has spoilt so many of the open event block's records, the oldest (R34). -/
  evDamaged : Nat
  paused : Nat
  /-- The second under way, and its stored and raw bytes (Table 9.8). -/
  intakeSec : Nat
  bytesSec : Nat
  rawSec : Nat
  run : Bool
  deriving DecidableEq, Repr

/-! ### Two-wire service port (chapter 19) -/

/-- The I²C service port: its attention record, tries and line supervision (R497 to R508). -/
structure I2cPort where
  /-- The end of the 200 µs after a refused address byte, or when the port last woke itself. -/
  awakeAt : Nat
  lastTrans : Nat
  asleep : Bool
  refuseNext : Bool
  recSeq : Nat
  recCause : Nat
  recPending : Bool
  tries : Nat
  retryAt : Option Nat
  /-- The attempt before the next one lost the arbitration. -/
  lost : Bool
  failed : Bool
  /-- Repetitions of the recovery still to come while the bus is stuck. -/
  recovering : Nat
  nextRecovery : Nat
  /-- The lines have been released for 1 ms since PORT_EN was written 1. -/
  enableAt : Nat
  deriving DecidableEq, Repr

/-! ### Protection (chapter 13) -/

/-- One coil of a string and what the front-end knows of it. `pickAt` is when its pick-up began, `offAt` when it
last switched off; `hold` and `pick` are the currents measured at its previous closing in the run (R85). Of the closing under
way, `peak` is the largest current read in the pick-up interval, and `held` says that the hold current has been read. `lastPulse`
is when its last off-pulse began, `test` when the high-side pulse of a test did whose low-side pulse is to come (R379), and `told`
says that the disagreement of its mirror has made its trip (R378). -/
structure Coil where
  on : Bool
  pickAt : Nat
  offAt : Option Nat
  hold : Option Nat
  pick : Option Nat
  peak : Option Nat
  held : Bool
  badSince : Option Nat
  lastPulse : Nat
  test : Option Nat
  told : Bool
  deriving DecidableEq, Repr

/-- A value beyond a limit, since the lap instant `since`: of a position, kind 1 high, 2 low, 3 and 4 a wire bound, 5 no
reading (R365, R367). `fired` once it has made its trip. -/
structure Timer where
  pos : Nat
  kind : Nat
  since : Nat
  fired : Bool
  deriving DecidableEq, Repr

/-- The contactor sequence and the trip logic of one string. -/
structure Prot where
  cpos : Coil
  cneg : Coil
  cpre : Coil
  feLatch : List Nat
  /-- Since when the current exceeds OC_CHARGE_TRIP and OC_DISCHARGE_TRIP (R363). -/
  ocChg : Option Nat
  ocDis : Option Nat
  /-- When the front-end last had a valid heartbeat, or started; since when valid ones have arrived without 5 ms between them; the
  counter of the last one with a correct CRC, and of the last one the die sent (R362, Table 13.6). -/
  hbLast : Nat
  hbRunFrom : Option Nat
  hbCount : Option Nat
  hbSent : Nat
  vTimers : List Timer
  tTimers : List Timer
  isoRun : Nat
  causes : List Nat
  tripAt : Option Nat
  closeRid : Option Rid
  openRid : List Rid
  dv0 : Nat
  needPre : Bool
  liveBus : Bool
  stepAt : Nat
  fbAt : Option Nat
  step3At : Nat
  openAt : Nat
  openPhase : Nat
  phaseAt : Nat
  preEnd : Option Nat
  enableUntil : Option Nat
  remote : Bool
  diag : Nat
  weldFlag : Bool
  cellOk : Bool
  judge : List Nat
  clearRid : Option Rid
  /-- The read-back test run at a CLEAR_TRIP (Table 13.6), and TRIPS when its causes were found gone (R382). -/
  clearRead : Bool
  clearTrips : Nat
  preDone : Option Nat
  /-- An off coil's switch read on at the last read-back, and when that was (R380). -/
  driveBad : Bool
  readAt : Nat
  /-- The TRIP_LOG entry and the instant of the last FAULT_LOOP trip, whose origin is classified for 1 s (R364). -/
  floopTrip : Option (Nat × Nat)
  deriving DecidableEq, Repr

/-- A pending copy of a safe command on one network (R387). -/
structure SafeCopy where
  bytes : Bytes
  at_ : Nat
  deriving DecidableEq, Repr

/-- The safe telegram engine and the safe loop (R383 to R388). -/
structure Safe where
  seq : Nat
  running : Bool
  copyA : Option SafeCopy
  copyB : Option SafeCopy
  lastCmd : Option Nat
  openLoop : Bool
  origin : Bool
  own : Bool
  last : Option Nat
  ownEnd : Option Nat
  discSingle : Nat
  discDiffer : Nat
  discStale : Nat
  lastDisc : Option Nat
  deriving DecidableEq, Repr

/-! ### Power, start, security, update (chapters 2 to 4, 20, 21) -/

/-- The supply states of R97. -/
inductive Supply where
  | off | normal | backup | holdup | transport
  deriving DecidableEq, Repr

/-- Supplies, switches and front panel: what the module remembers besides its registers. -/
structure Power where
  supply : Supply
  belowCount : Nat
  auxSince : Option Nat
  holdupAt : Nat
  gaspCause : Nat
  gaspSent : Bool
  shed : Bool
  opened : Bool
  powered : Bool
  transRid : Option Rid
  transAt : Nat
  transAnswers : List (Nat × Nat)
  transTries : Nat
  /-- Nodes still to be sent TRANSPORT_SLEEP in this try, string and node (R249). -/
  transLeft : List (Nat × Nat)
  /-- When BACKUP was entered, and the ns spent in it before. -/
  backupFrom : Option Nat
  backupNs : Nat
  transOffAt : Option Nat
  /-- The first of the two confirming enumerations of this try, and the nodes that appended to it (R106). -/
  transEnum : Option (Nat × List (Nat × Nat))
  lastPower : Nat
  exportOpen : Bool
  deriving DecidableEq, Repr

/-- The front panel and the switch compartment (R77 to R81). -/
structure Panel where
  page : Nat
  lit : Bool
  lastPress : Nat
  pressAt : Option Nat
  releasedAt : Option Nat
  fired : Bool
  /-- SW-PROFILE and SW-BLOCK as last read (16 where invalid), SW-MASK, and its position 8. -/
  sw : List Nat
  /-- The reading that was applied at the start (R79, R80). -/
  applied : List Nat
  retry : Bool
  /-- The cover of the switch compartment is open, as the seal switch shows it. -/
  cover : Bool
  deriving DecidableEq, Repr

/-- The start sequence (Table 4.1). `halt` is BOOT_HALT or a halt at the end of a run. -/
structure Boot where
  phase : Nat
  t0 : Nat
  halt : Bool
  cause : Nat
  detail : Nat
  slotFail : Nat × Nat
  /-- START_CONFIG as it stood at the start (R132): policy, RESTORE_WAIT, DEFAULT_SOH, DEFAULT_R_FACTOR,
  DEFAULT_LIMIT, START_SOC_SIGMA. -/
  cfg : List Nat
  /-- IPV4_ADDR, PREFIX_LEN and SESSION_IDLE of NET A and of NET B as they stood at the start (R168). -/
  net : List Nat
  enumDone : List Bool
  /-- The changes of supply state and POWER_STATE before the history writer runs, oldest first (R99). -/
  changes : List Event
  deriving DecidableEq, Repr

/-- A firmware slot of the flash (Table 20.1): its header as bytes, none when EMPTY. -/
structure Slot where
  hdr : Option Bytes
  bodyOk : Bool
  /-- The body that follows the header. -/
  body : Bytes
  deriving DecidableEq, Repr

/-- What survives a loss of every supply: factory data, fuses, flash, and the configuration store. -/
structure Nonvol where
  variant : Nat
  serial : Nat
  hwIssue : Nat
  romVersion : Nat
  macA : Nat
  macB : Nat
  fuseIndex : Nat
  decommissioned : Bool
  bootCount : Nat
  transport : Bool
  slotA : Slot
  slotB : Slot
  active : Nat
  /-- The stored registers as last written; a place not listed was never written. -/
  store : Store
  /-- CONFIG_FORMAT of `store`. -/
  format : Nat
  keptFormat : Nat
  kept : Store
  keptTime : Nat
  nodeImage : Option Bytes
  causes : List (List Nat)
  eraseCut : Bool
  programCut : Bool
  keysPresent : Bool
  deriving DecidableEq, Repr

/-- The presence token and the debug port (chapter 21). -/
structure Security where
  token : Nat
  tokenAt : Nat
  bound : Nat
  idleSince : Nat
  window : Bool
  halted : List Bool
  /-- Since when some cluster, and the manager die's, has been halted; and the ns of halts that have ended (HALT_TIME). -/
  haltFrom : Option Nat
  mgrHalt : Option Nat
  haltNs : Nat
  dbgRid : Option Rid
  dbgWait : Bool
  deriving DecidableEq, Repr

/-! ### String front-end (chapter 10) -/

/-- A coulomb output sample: its centre on the time base, I in µA, and the accumulator at the centre in 2^-16 µA·s
(R272 to R274). -/
structure CSample where
  at_ : Nat
  i : Int
  q : Int
  clip : Bool
  deriving DecidableEq, Repr

/-- A captured calibration point: APPLIED, MEAN, and the engineering value per LSB at the capture as a fraction of
micro-units (R286, R288). -/
structure CalPoint where
  applied : Int
  mean : Int
  num : Nat
  den : Nat
  deriving DecidableEq, Repr

/-- An injected request (R283): its source (1 protection, 2 time trigger, 3 control channel) and who asked (of protection: 1
where it aborts a conversion), the input and the conversions. -/
structure Inj where
  src : Nat
  who : Nat
  input : Nat
  count : Nat
  deriving DecidableEq, Repr

/-- A capture under way (R286): the step, APPLIED, when it began, and the sums over the codes taken. -/
structure Capt where
  step : Nat
  applied : Int
  from_ : Nat
  n : Nat
  sum : Int
  sumSq : Int
  deriving DecidableEq, Repr

/-- A calibration procedure of a string (R285 to R288). -/
structure Cal where
  sess : Nat
  target : Nat
  low : Option CalPoint
  high : Option CalPoint
  refSel : Option Nat
  lastStep : Nat
  capture : Option Capt
  rid : Option Rid
  deriving DecidableEq, Repr

/-- What a front-end and its link hold (R271 to R292). `vals` is the last settled ENG_VALUE of each sequencer entry,
which alone the consumers use (R282). -/
structure Fe where
  samples : List CSample
  acc : Int
  up : Bool
  warmEnd : Nat
  clipOn : Bool
  mismRun : Nat
  mismOk : Nat
  refIn : Nat
  refDue : Option Nat
  refRun : Nat
  vals : List Int
  valAt : List Nat
  valOk : List Bool
  /-- The sample instant of each of `vals`. -/
  okAt : List Nat
  /-- The last settled result of each input the sequencer has converted, with its sample instant (R282). -/
  byInput : List (Nat × Int × Nat)
  avdd : Option Int
  winIdx : Nat
  winProt : Nat
  winShared : Nat
  /-- How often the conversion in progress has been aborted, and when the last injection ended (R283). -/
  aborts : Nat
  injEnd : Nat
  /-- Injected requests that wait (R283), in order of arrival. -/
  injQ : List Inj
  /-- The entry the sequencer converts next, when the pass began, and SEQUENCE_CONFIG as the pass uses it: input, averaging and
  alignment of each entry in use (R280). -/
  seqNext : Nat
  passFrom : Nat
  seqCfg : List (Nat × Nat × Bool)
  secIdx : Nat
  secSum : Int
  secCnt : Nat
  cal : Option Cal
  imdPre : Bool
  imdPauseEnd : Option Nat
  imdFail : Bool
  imdCycleAt : Nat
  /-- The strings the measuring cycle in progress is for. -/
  imdKey : List Nat
  tShunt : Option Int
  /-- Instants named for the next lap-current frames, on the scale without steps, and the frames on the link: lap, late,
  current in µA, charge (R278). -/
  named : List (Nat × Bool × Nat)
  frames : List (Nat × Bool × Int × Int)
  /-- Clipped samples that no lap's interval has taken yet (R320). -/
  clips : List Nat
  deriving DecidableEq, Repr

/-! ### Dies and temperatures (chapters 1 and 14) -/

/-- What a die's pace and self-test logic remembers (R37 to R48). -/
structure Die where
  lowRun : Nat
  okSince : Option Nat
  kLowRun : Nat
  kOkSince : Option Nat
  secIdx : Nat
  secMin : Nat
  stallNow : Bool
  /-- ns spent with PACE_LOW set in this run. -/
  lowNs : Nat
  lastCount : Nat
  /-- The throttle level is set (R395), and since when. -/
  hot : Bool
  throttleSince : Option Nat
  /-- The manager die sheds the second step of R43 as well. -/
  shedDeep : Bool
  deriving DecidableEq, Repr

/-- The caldera latch, the HVAC demands and the thermal derating (R392 to R406). `first` is the die and sensor of
the first trip, `mask` the dies whose comparators have tripped. `fTherm` is F_THERMAL of each string in 10^-9. -/
structure Thermal where
  first : Option (Nat × Nat)
  mask : Nat
  coolSince : Option Nat
  cool : Bool
  heat : Bool
  hvacSeq : Nat
  hvacLast : Option Nat
  /-- HVAC_SOURCE, HVAC_OBJECT, HVAC_PERIOD and TARGET_T as the last round took them (R408). -/
  hvac : List Nat
  /-- T_max, T_min and the mean of R405 at the last round. -/
  tMax : Option Int
  tMin : Option Int
  tMean : Option Int
  fTherm : List Nat
  lastRound : Option Nat
  deriving DecidableEq, Repr

/-! ### Ring, nodes and laps (chapters 6 to 8) -/

/-- What a node command is for (R229, R231): the owner that its outcome goes to. -/
inductive Owner where
  /-- SET_DELAY of a re-measured delay (R185). -/
  | setDelay
  /-- CLOSE_RING towards a turning node (R196). -/
  | closeRing
  /-- SET_THRESHOLDS, with the exchanges already made (R232). -/
  | thresholds (tries : Nat)
  /-- READ_STATUS of an incremental round or of a trip's origin (R227, R364). -/
  | status
  /-- BALANCE_SET or BALANCE_STOP (R236). -/
  | balance
  /-- WIRE_TEST of a wire: automatic, or of the RUN_WIRE_TEST with this number (R243, R244). -/
  | wire (w : Nat) (request : Option Nat)
  /-- CMP_RELEASE of a CLEAR_TRIP (R382). -/
  | release
  /-- CMP_TEST (R235). -/
  | cmpTest
  /-- CERT_READ of a chunk (R246). -/
  | cert (chunk : Nat)
  /-- AUTH_CHALLENGE (R246). -/
  | auth
  /-- BURST_ARM (R344). -/
  | arm
  /-- BURST_FREEZE (R345). -/
  | freeze
  /-- BURST_READ of a block of a channel (R346). -/
  | burst (chan block : Nat)
  /-- TRANSPORT_SLEEP (R249). -/
  | sleep
  /-- A node firmware command of Table 20.5. -/
  | firmware
  /-- NODE_FW_RESTART of a START_REQUEST (R532). -/
  | restart
  deriving DecidableEq, Repr

/-- A node command of a string's queue. `phase` is 0 while queued, 1 once sent, 2 while its result is fetched. -/
structure NodeCmd where
  node : Nat
  code : Nat
  args : Bytes
  owner : Owner
  epoch : Nat
  attempt : Nat
  phase : Nat
  fetchAt : Nat
  deriving DecidableEq, Repr

/-- A baton that has left a port and has not come back: by when it is expected (R194), and the lap and the node it
names. -/
structure Flight where
  port : Nat
  kind : Nat
  node : Nat
  seq : Nat
  left : Nat
  due : Nat
  /-- It travels round a closed ring, and the last node it names. -/
  closed : Bool
  last : Nat
  deriving DecidableEq, Repr

/-- A baton that waits for its port (R197): its priority (1 COLLECT, 2 COMMAND and FETCH, 3 the others), what it names, its
bytes, by how much it can grow, and whether it travels round a closed ring. -/
structure Wait where
  prio : Nat
  port : Nat
  kind : Nat
  node : Nat
  seq : Nat
  bytes : Bytes
  grow : Nat
  closed : Bool
  /-- The last node it names. -/
  last : Nat
  deriving DecidableEq, Repr

/-- A node as an enumeration finds it (Table 6.6), and what the putting in force of a topology has measured. `port` is
1 for the port A segment, 2 for the port B segment. -/
structure TNode where
  serial : Nat
  channels : Nat
  hw : Nat
  fwMajor : Nat
  fwMinor : Nat
  fwPatch : Nat
  number : Nat
  flags : Nat
  port : Nat
  probesA : List Nat
  probesB : List Nat
  lost : Bool
  /-- The thermistor mask its ASSIGN carried (R251). -/
  mask : Option Nat
  deriving DecidableEq, Repr

/-- An enumeration or a change of topology in progress (R186, R187). `stage`: 0 enumerating, 1 a new epoch is needed, 2
delays being measured, 3 ASSIGNs being sent, 4 ready for its first lap. `same` marks ASSIGNs under the epoch in force. -/
structure Job where
  stage : Nat
  wantA : Bool
  wantB : Bool
  fromA : Option (List TNode)
  fromB : Option (List TNode)
  closed : Bool
  full : Bool
  nodes : List TNode
  segA : Nat
  segB : Nat
  epoch : Nat
  same : Bool
  todo : List Nat
  tries : Nat
  deriving DecidableEq, Repr

/-- A sense wire (Table 8.3). `state`: 0 none, 1 SUSPECT, 2 OPEN, 3 CLEARED, 4 INCONCLUSIVE. `tested` is when it was last
tested as a routine, `left` when it last left SUSPECT, OPEN or INCONCLUSIVE (R241). -/
structure Wire where
  w : Nat
  state : Nat
  last : Nat
  run : Nat
  bound : Nat
  deferred : Bool
  want : Bool
  retestAt : Option Nat
  tested : Nat
  left : Option Nat
  deriving DecidableEq, Repr

/-- What the string die keeps of a numbered node beside NODE_STATUS, TOPOLOGY and NODE_AUTH. -/
structure RNode where
  /-- Rounds without a sign of the node, whether this round has seen one, and whether it has called the node (R191). -/
  missed : Nat
  sign : Bool
  called : Bool
  /-- Probe measurements of the round from port A and port B (R183). -/
  probesA : List Nat
  probesB : List Nat
  /-- Consecutive laps beyond and within SUM_TOL (R228). -/
  sumBad : Nat
  sumOk : Nat
  /-- The last lap's blanking of the node started too late (R211), and the thresholds are to be written once it is reached again
  (R232). -/
  short : Bool
  threshDue : Bool
  /-- A changed thermistor mask waits until it is reached again (R251). -/
  maskDue : Bool
  wires : List Wire
  /-- Authentication: the chain read so far, the nonce, the next attempt, and what a passed node showed (R246, R247). -/
  chain : Bytes
  nonce : Bytes
  retryAt : Option Nat
  /-- The balancing blanking of R210: anchor, and the last two intervals. -/
  anchor : Option Nat
  ivals : List Nat
  /-- The last record (Table 6.5), and when CMP_TEST was last sent. -/
  rec_ : Option Bytes
  cmpTested : Nat
  thermAt : List Nat
  /-- Since when every fitted thermistor has been not available (R367). -/
  thermNa : Option Nat
  /-- The bleed set in force, until when, and the set in force at the instant of the last lap fired (R237, R299). -/
  bleed : Nat
  bleedUntil : Nat
  bleedAt : Nat
  /-- BURST_ARM has been executed, and a frozen window is unread (R344). -/
  armed : Bool
  frozen : Bool
  /-- It is to be armed once its window is read or given up (R344). -/
  armDue : Bool
  /-- Node firmware (R528 to R531). 0 running, 1 in its boot block without thresholds, 2 held for a copy, 3 being copied,
  4 held as INCOMPATIBLE, 5 and 6 being booted into bank 0 or the new bank, 7 booted into the new bank, 8 copy failed. -/
  fw : Nat
  /-- The cause of a failed copy, the body bytes written, and the version before the copy. -/
  fwCause : Nat
  fwOff : Nat
  fwOld : Nat
  deriving DecidableEq, Repr

/-- A RUN_WIRE_TEST that waits for its tests (R244). -/
structure WireReq where
  id : Nat
  rid : Rid
  node : Nat
  left : List Nat
  results : Bytes
  deriving DecidableEq, Repr

/-- The ring master of a string (chapter 6). -/
structure Ring where
  /-- The port is LINK_READY; it sends BREAK (R174). -/
  readyA : Bool
  readyB : Bool
  brkA : Bool
  brkB : Bool
  flights : List Flight
  /-- Batons that wait, in the order they were queued, and until when a port transmits (R197). -/
  waiting : List Wait
  busyA : Nat
  busyB : Nat
  cmds : List NodeCmd
  job : Option Job
  /-- A change of fitted channels waits for a new epoch, and nodes wait for an ASSIGN under the epoch in force (R188, R190,
  R251). -/
  wantEpoch : Bool
  wantAssign : List Nat
  /-- The epoch before the one in force, and the sample instant from which the latter holds (R188). -/
  oldEpoch : Nat
  epochFrom : Nat
  /-- Requests accepted under that epoch and never sent, which are answered at that instant (R188). -/
  stale : List Rid
  nodes : List RNode
  /-- Next node of the incremental rounds, and when the last round ran. -/
  roll : Nat
  roundAt : Nat
  jointSince : Option Nat
  /-- The LAP_SEQ named in CLOSE_RING (R196). -/
  closeLap : Option Nat
  /-- Ring transit from port A to port B as last measured, kept through a break. -/
  tAB : Option Nat
  /-- A full enumeration takes the place of the next COLLECT of port A or B (R192). -/
  skipA : Bool
  skipB : Bool
  wireReqs : List WireReq
  nextReq : Nat
  /-- Serials that have passed authentication in this run, with the certificate chain read (R246). -/
  passed : List (Nat × Bytes)
  /-- Serial last held at each node number (R248). -/
  prevSerial : List (Nat × Nat)
  /-- Copies completed in this run: serial, version before, staged image's digest; serials with a reverted or failed copy
  (R531), the former with that image. -/
  copied : List (Nat × Nat × Nat)
  reverted : List (Nat × Nat)
  failedCopies : List Nat
  /-- The copy in progress is to stop: its image has been replaced (R527). -/
  copyStop : Bool
  deriving DecidableEq, Repr

/-- A ledger entry (Table 12.3). `through` is the charge through the position in µA·s. -/
structure Entry where
  serial : Nat
  chan : Nat
  dflt : Bool
  str : Nat
  parallel : Nat
  cap : Nat
  rOhm : Nat
  rFast : Nat
  rSlow : Nat
  soh : Nat
  capUpd : Nat
  rUpd : Nat
  through : Nat
  rated : Nat
  deriving DecidableEq, Repr

/-- A lap unit on its way to the history writer (R450): LAP_SEQ, nominal instant, result instant without steps, epoch, LAP entry data,
and the full result set for LAP_FEED. -/
structure LapUnit where
  str : Nat
  seq : Nat
  nom : Nat
  due : Nat
  epoch : Nat
  /-- When its SAMPLE left, on the scale without steps (R357). -/
  fired : Nat
  raw : Bytes
  full : Bytes
  gap : Bool
  deriving DecidableEq, Repr

/-- A lap in progress of a string: from its SAMPLE to its result instant. -/
structure Lap where
  seq : Nat
  nom : Nat
  /-- The nominal instant on the time base without its steps (R203). -/
  plain : Nat
  period : Nat
  lead : Nat
  shift : Nat
  epoch : Nat
  raised : Bool
  noLock : Bool
  timeStep : Bool
  gap : Bool
  enumIn : Bool
  /-- The ring was closed for this lap, the lap is one named in CLOSE_RING, and its collection was split at `half`. -/
  closed : Bool
  joining : Bool
  split : Bool
  half : Nat
  /-- The late SAMPLE: t_late and LATE_OFFSET (R220). -/
  late : Option (Nat × Int)
  lateLead : Nat
  /-- The late SAMPLE was triggered by an on-time SAMPLE that came back damaged: nodes near either port may have sampled late
  (R212, R219). -/
  lateAny : Bool
  /-- The nominal instant of the lap fired after it, on the scale without steps (R216). -/
  nextAt : Option Nat
  /-- The late SAMPLE has been withheld. -/
  withheld : Bool
  records : List (Nat × Bytes)
  /-- When the last of them arrived, in the timescale of the lap. -/
  recAt : Nat
  askedA : Bool
  askedB : Bool
  retries : Nat
  /-- Current in µA and charge in µA·s at the nominal instant, and the current at the late instant (R209). -/
  cur : Option (Int × Int)
  curLate : Option Int
  prevInterval : Nat
  /-- The bleed set of each node in force at the start of the lap's interval, by node number (R299). -/
  bleedFrom : List Nat
  /-- Run-ahead predictions into the lap assumed another interval or numbering (R312). -/
  forced : Bool
  /-- How far the lanes had run ahead when the charge arrived (R310). -/
  ahead : Nat
  /-- The nodes were collected from two segments. -/
  seg : Bool
  /-- When lap data was complete, and whether records were missing then (R216). -/
  done : Option Nat
  short_ : Bool
  /-- The run-ahead check has been made: passed, or a false start (R311). -/
  checked : Bool
  falseStart : Bool
  /-- When lap data was handed on and the lap's corrections were made (R223, R48). -/
  handed : Option Nat
  /-- The lap data record. -/
  record : Bytes
  /-- The lap was skipped at half rate (R314). -/
  skipped : Bool
  /-- The lap's result set, once derived; what it shows in STRING_STATE and DIVERGE_STATUS from its result instant on; and the
  capacities it has learned, with position and C_meas, until they take effect (R337). -/
  built : Option LapUnit
  regs : List CellW
  learn : List (Entry × Nat × Fr)
  /-- Values of configuration that has changed since its instant, which the lap still uses (R161, R321). -/
  old : List CellW
  deriving DecidableEq, Repr

/-- The lap engine of a string (chapter 7). -/
structure Laps where
  seq : Nat
  cur : List Lap
  lastNom : Option Nat
  /-- The last lap's nominal instant on the time base without its steps (R203). -/
  lastPlain : Option Nat
  gap : Bool
  /-- The time base has stepped backwards to this instant (R203). -/
  stepped : Option Nat
  skewSec : Nat
  skewMax : Nat
  /-- The last instant counted as skipped. -/
  skipAt : Nat
  /-- The laps are stopped until the next start, whatever LAP_STATE reads (R31, R44, R102). -/
  halted : Bool
  /-- BACKUP has ended since the last lap: SPRINT_ACTIVE follows the rate that comes (R96, Table 3.7). -/
  lifted : Bool
  deriving DecidableEq, Repr


/-! ### Estimation (chapters 11 and 12) -/

/-- Parameters of a position (R297): capacity in mAh, resistances in µΩ, time constants in µs, H_MAX in 100 µV, KAPPA in
0.01, ETA_LOSS in ppm. -/
structure Par where
  cap : Nat
  rO : Fr
  rF : Fr
  rS : Fr
  tF : Fr
  tS : Fr
  hM : Fr
  ka : Fr
  eta : Fr
  deriving DecidableEq, Repr

/-- A rest anchor of a position (R335): z_ocv in 2^-48, the cumulative charge in 10^-6 µA·s, and whether it lies on
the slope. -/
structure Anchor where
  zocv : Int
  cum : Int
  at_ : Nat
  slope : Bool
  deriving DecidableEq, Repr

/-- A position of a string: the sample it holds (R217), its filter (R294) and its reported quantities (R328 to R341).
`val` is 0 fresh, 1 late, 2 held, 3 not available. `cov` is the covariance as 16 binary32 words, row by row. -/
structure Pos where
  node : Nat
  chan : Nat
  serial : Nat
  v : Nat
  /-- CELL_V of the lap before. -/
  vPrev : Nat
  sampledAt : Option Nat
  age : Nat
  val : Nat
  blank : Bool
  /-- Instant from which missing readings are timed where no reading exists yet (R366). -/
  since : Nat
  z : Int
  vf : Int
  vs : Int
  h : Int
  cov : List Nat
  live : Bool
  gatedRun : Nat
  flags : Nat
  innov : Option Int
  kind : Nat
  /-- The seed that is due: the row 1 to 5 of Table 12.2, 0 for none. -/
  seedDue : Nat
  repS : Int
  zcc : Int
  zocv : Option Int
  cum : Int
  anchor : Option Anchor
  seedSince : Bool
  seedAt : Nat
  divFrom : Option Nat
  div : Bool
  divOk : Option Nat
  divUse : Bool
  measAt : Option Nat
  capOut : Bool
  rOut : Bool
  capRatio : Nat
  rRatio : Nat
  tp : Int
  assumed : Bool
  /-- The limits of R331 in mA, none where unbounded; and a measurement too old for them. -/
  limC : Option Fr
  limD : Option Fr
  naLim : Bool
  /-- The parameters the next prediction uses (R321). -/
  par : Option Par
  /-- The rest anchor of this lap (R356). -/
  anchored : Bool
  deriving DecidableEq, Repr

/-- A step being read (R345, R346): lap k - 1 and lap k, the current before it, the later lap currents, the nodes whose
freeze was refused, and the blocks read per node and channel. -/
structure Step where
  at_ : Nat
  lapSeq : Nat
  nomA : Nat
  nomB : Nat
  pre : Int
  di : Int
  laps : List (Nat × Int)
  nodes : List Nat
  refused : List Nat
  blocks : List (Nat × Nat × Nat × Bytes)
  bled : List (Nat × Nat)
  deriving DecidableEq, Repr

/-- The estimation of a string as a whole. Currents in mA, charges in µA·s. -/
structure Est where
  pos : List Pos
  qApplied : Option Int
  /-- CURRENT of the last two laps, and the interval and mean current of the last one. -/
  iLast : Option Int
  iPrev : Option Int
  /-- CURRENT of the lap before, for steps (R345). -/
  curPrev : Option Int
  dtLast : Nat
  /-- Interval carried over from a lap skipped at half rate, and the clipped time of the interval in ns. -/
  dtSkip : Nat
  /-- The bleed sets of the nodes at the start of an interval that skipped laps have begun (R299, R314). -/
  bleedSkip : Option (List Nat)
  clip : Nat
  half : Bool
  phase : Bool
  secIdx : Nat
  secLaps : Nat
  secFalse : Nat
  secDepth : Nat
  shadow : Nat
  /-- The second after that of its last check (R315), and the lap periods of the second under way (R325). -/
  shadowSec : Nat
  secSpan : Nat
  /-- CHARGE up to which the throughput of the entries counts (R349). -/
  qLap : Option Int
  running : Bool
  table : Nat
  /-- The table in force has been written, and holds from the first lap after this instant (R321). -/
  newTable : Option Nat
  started : Bool
  restFrom : Option Nat
  rested : Bool
  restAt : Nat
  anchored : Bool
  fDiverge : Nat
  calReq : Bool
  stepAt : Option Nat
  step : Option Step
  lastNom : Nat
  prevSoc : Nat
  missed : Bool
  /-- ESTIMATION_CONFIG as the next prediction uses it (R321). -/
  pcfg : List Nat
  /-- The mean current of the last interval predicted over, in µA, and its length in ns. -/
  iMeas : Fr
  deriving DecidableEq, Repr

/-- The cell ledger of the module (R348 to R355). -/
structure Ledger where
  entries : List Entry
  pending : List Entry
  restore : Option (List Entry)
  accepted : Bool
  copy : List Entry
  lastNom : Nat
  /-- The epoch of the last export committed in the run, 0 for none (Table 3.5). -/
  committed : Nat
  deriving DecidableEq, Repr


/-! ### CAN channels (chapter 18) -/

/-- What a CAN channel holds beside its registers. `busy` is the object whose frame is on the bus, and its content; `pend`
holds the newest content of every other pending object, and of the one on the bus where newer content has arrived (R488). -/
structure CanBus where
  busy : Option (Nat × Bytes)
  pend : List (Nat × Bytes)
  offAt : Nat
  fbSeq : Nat
  /-- When recovery from BUS_OFF began (R492). -/
  recAt : Nat
  /-- New contents that await their fallback datagrams (R494). -/
  fbq : List (Nat × Bytes)
  /-- The last 0x1006 and 0x1007 events and what has happened since. -/
  failAt : Option Nat
  fails : Nat
  lostAt : Option Nat
  losts : Nat
  /-- CHANNEL_EN has become 0 while a frame was on the bus (R482). -/
  leaving : Bool
  deriving DecidableEq, Repr

/-! ### Control channels (chapter 15) -/

/-- What a control channel holds beside CHANNEL_STATUS. Set-points and outputs are in 10^-6 of their unit, instants in ns
of the time base. -/
structure Chan where
  /-- The schedule's instants begin here. -/
  from_ : Nat
  /-- The last instant sampled or skipped. -/
  lastM : Option Nat
  /-- The instant of a sample that still lacks its input, up to its deadline. -/
  open_ : Option Nat
  sp : Option Int
  target : Option Int
  y : Int
  high : List Nat
  /-- Causes of the misses in MISS_RUN: bit 0 deadlines, bit 1 missing input. -/
  causes : Nat
  good : Nat
  outSeq : Nat
  qPrev : Option (Nat × Int)
  take : Bool
  /-- The next sample starts a ramp. -/
  start : Bool
  reselect : Bool
  /-- Bleed sets sent: node, mask, and when its DURATION ends. -/
  sent : List (Nat × Nat × Nat)
  latSec : Nat
  latMax : Nat
  /-- The injected conversion of the open sample: refused, or run. -/
  inj : Option Bool
  /-- The last settled result of the channel's own injected conversions: string, input, value and sample instant (R282, R283). -/
  injLast : Option (Nat × Nat × Int × Nat)
  /-- The PWM train it has last given: line, duty and period in ns. -/
  train : Option (Nat × Nat × Nat)
  /-- The channel drives its output target: its output is the applied one. -/
  act : Bool
  /-- What a committed write has replaced and its samples still use, and when it was committed (R429). -/
  old : List CellW
  wroteAt : Nat
  deriving DecidableEq, Repr

/-! ### The block hierarchy and the collector (chapter 16) -/

/-- One string of a REPORT (R441). -/
structure MRec where
  str : Nat
  avail : Bool
  soc : Nat
  v : Nat
  chg : Nat
  dis : Nat
  t : Int
  deriving DecidableEq, Repr

/-- A member as the manager knows it: its last report, and the cycles since without one (R442). -/
structure Member where
  id : Nat
  recs : List MRec
  fresh : Bool
  missed : Nat
  chg : Nat
  dis : Nat
  applied : Int
  mask : Nat
  deriving DecidableEq, Repr

/-- The block hierarchy. Times are of the reference clock, cycle and apply instants of the time base; `target` and `applied`
in W, the ramped power `p` in µW. -/
structure Block where
  listenFrom : Nat
  listen : Nat
  candAt : Option Nat
  nextSend : Nat
  /-- The manager followed or held: BLOCK_ID and PREFERENCE; and when its last ANNOUNCE was heard. -/
  mgr : Option (Nat × Nat)
  mgrAt : Nat
  /-- A block manager is known, or its allocation is held (R123, R447). -/
  known : Bool
  lastEpoch : Option Nat
  heard : List (Nat × Nat)
  /-- Other modules: BLOCK_ID, the last accepted PEER_SEQ, and its addresses on NET A and NET B. -/
  senders : List (Nat × Nat × Nat × Nat)
  mySeq : Nat
  target : Int
  ramp : Nat
  p : Int
  applied : Int
  hostAt : Nat
  /-- A better-ranked manager opens a new epoch at its next ANNOUNCE (R436). -/
  reopen : Bool
  /-- DISPATCH_PERIOD and the offsets of BLOCK_CONFIG in force, in the order of offsets 0x04 to 0x0D. -/
  timing : List Nat
  cycle : Nat
  captured : List MRec
  reported : Bool
  allocated : Bool
  members : List Member
  /-- The accepted allocation that waits for its apply instant: instant, role epoch, set-points per string. -/
  alloc : Option (Nat × Nat × List (Nat × Int))
  /-- The cycle whose apply instant has passed. -/
  doneFor : Nat
  holdUntil : Option Nat
  conflictAt : Option Nat
  /-- BLOCK_CONFIG as the current cycle uses it, and PEER_UDP_PORT as it stood at the start (R453). -/
  cfg : Bytes
  peerPort : Nat
  /-- A target and a ramp that the next cycle takes up (R448). -/
  waits : Option (Int × Nat)
  deriving DecidableEq, Repr

/-- The collector's second under way, and per string the last 0x0E05 event and the laps dropped since (R450, R452). -/
structure Collector where
  secIdx : Nat
  qMax : Nat
  hMax : Nat
  gapAt : List (Option Nat)
  gaps : List Nat
  /-- Announced laps that a LAP_GAP entry has replaced: string and LAP_SEQ (R450). -/
  gone : List (Nat × Nat)
  deriving DecidableEq, Repr

/-! ### Time base, PTP and pacer (chapter 17) -/

/-- A master heard on a domain's port: its newest Announce, the Announce interval in ns, and when it was heard (R458). -/
structure Foreign where
  ann : PtpAnnounce
  interval : Nat
  heard : List Nat
  deriving DecidableEq, Repr

/-- The servo of a PTP domain (R461 to R467). `pd` is the domain phase in ns; offsets are in 2^-16 ns, rates in 10^-15. -/
structure Dom where
  masters : List Foreign
  sel : Option Foreign
  pd : Int
  acquire : Bool
  rel : Int
  filt : Int
  /-- When the last accepted Sync was received. -/
  last : Option Nat
  rejRun : Nat
  okRun : Nat
  badRun : Nat
  bigRun : Nat
  recent : List Nat
  /-- The error bound when the domain left LOCKED, and when that was. -/
  bound : Option Nat
  leftAt : Nat
  lockedAt : Nat
  deriving DecidableEq, Repr

/-- The link delay of a port: its last exchanges, the request under way (R460). -/
structure PLink where
  delays : List Int
  reqAt : Option Nat
  reqSeq : Nat
  deriving DecidableEq, Repr

/-- The time base's steering and the two domains. -/
structure TimeSt where
  doms : List Dom
  links : List PLink
  disFrom : Option Nat
  okFrom : Option Nat
  /-- The remainder of a switch still to be slewed when the clock's rates were last set, in 2^-16 ns; `r`, and the part of `s`
  that the servo forms, in 10^-15. -/
  slew : Int
  r : Int
  s : Int
  deriving DecidableEq, Repr

/-- An output schedule (R471 to R474): the instant of its next occurrence, the last occurrence fired since it was written,
whether it has been discarded, the end of the pulse in progress on the reference clock, and the level of the line. -/
structure POut where
  next : Option Nat
  last : Option Nat
  gone : Bool
  pulseEnd : Option Nat
  active : Nat
  deriving DecidableEq, Repr

/-- A capture input (R475, R476): the last captured edge on the reference clock, and the events of the second under way. -/
structure CapIn where
  last : Option Nat
  secIdx : Nat
  secCnt : Nat
  deriving DecidableEq, Repr

/-- A CAN channel that has not been enabled. -/
def CanBus.init : CanBus where
  busy := none
  pend := []
  offAt := 0
  fbSeq := 0
  recAt := 0
  fbq := []
  failAt := none
  fails := 0
  lostAt := none
  losts := 0
  leaving := false

/-- A control channel that has taken no sample. -/
def Chan.init : Chan where
  from_ := 0
  lastM := none
  open_ := none
  sp := none
  target := none
  y := 0
  high := []
  causes := 0
  good := 0
  outSeq := 0
  qPrev := none
  take := false
  start := true
  reselect := true
  sent := []
  latSec := 0
  latMax := 0
  inj := none
  injLast := none
  train := none
  act := false
  old := []
  wroteAt := 0

/-- A module that knows no block. -/
def Block.init : Block where
  listenFrom := 0
  listen := 0
  candAt := none
  nextSend := 0
  mgr := none
  mgrAt := 0
  known := false
  lastEpoch := none
  heard := []
  senders := []
  mySeq := 0
  target := 0
  ramp := 0
  p := 0
  applied := 0
  hostAt := 0
  reopen := false
  timing := []
  cycle := 0
  captured := []
  reported := true
  allocated := true
  members := []
  alloc := none
  doneFor := 0
  holdUntil := none
  conflictAt := none
  cfg := []
  peerPort := 0
  waits := none

/-- The collector at the start of a run. -/
def Collector.init : Collector where
  secIdx := 0
  qMax := 0
  hMax := 0
  gapAt := List.replicate 8 none
  gaps := List.replicate 8 0
  gone := []

/-- A domain that has heard nothing. -/
def Dom.init : Dom where
  masters := []
  sel := none
  pd := 0
  acquire := true
  rel := 0
  filt := 0
  last := none
  rejRun := 0
  okRun := 0
  badRun := 0
  bigRun := 0
  recent := []
  bound := none
  leftAt := 0
  lockedAt := 0

/-- A port with no exchange. -/
def PLink.init : PLink := ⟨[], none, 0⟩

/-- The time base at a start. -/
def TimeSt.init : TimeSt where
  doms := [.init, .init]
  links := [.init, .init]
  disFrom := none
  okFrom := none
  slew := 0
  r := 0
  s := 0

/-- A schedule that is off. -/
def POut.init : POut := ⟨none, none, false, none, 0⟩

/-- A capture input that is off. -/
def CapIn.init : CapIn := ⟨none, 0, 0⟩

/-- A ring master at the start of a run. -/
def Ring.init : Ring where
  readyA := false
  readyB := false
  brkA := false
  brkB := false
  flights := []
  waiting := []
  busyA := 0
  busyB := 0
  cmds := []
  job := none
  wantEpoch := false
  wantAssign := []
  oldEpoch := 0
  epochFrom := 0
  stale := []
  nodes := []
  roll := 0
  roundAt := 0
  jointSince := none
  closeLap := none
  tAB := none
  skipA := false
  skipB := false
  wireReqs := []
  nextReq := 1
  passed := []
  prevSerial := []
  copied := []
  reverted := []
  failedCopies := []
  copyStop := false

/-- A node just numbered. -/
def RNode.init : RNode where
  missed := 0
  sign := true
  called := false
  short := false
  threshDue := false
  maskDue := false
  probesA := []
  probesB := []
  sumBad := 0
  sumOk := 0
  wires := []
  chain := []
  nonce := []
  retryAt := none
  anchor := none
  ivals := []
  rec_ := none
  cmpTested := 0
  thermAt := List.replicate 16 0
  thermNa := none
  bleed := 0
  bleedUntil := 0
  bleedAt := 0
  armed := false
  frozen := false
  armDue := false
  fw := 0
  fwCause := 0
  fwOff := 0
  fwOld := 0

/-- A lap engine at the start of a run. -/
def Laps.init : Laps where
  seq := 0
  cur := []
  lastNom := none
  lastPlain := none
  gap := false
  stepped := none
  skewSec := 0
  skewMax := 0
  skipAt := 0
  halted := false
  lifted := false

/-- An estimation that has not begun. -/
def Est.init : Est where
  pos := []
  qApplied := none
  iLast := none
  iPrev := none
  curPrev := none
  dtLast := 0
  dtSkip := 0
  bleedSkip := none
  clip := 0
  half := false
  phase := false
  secIdx := 0
  secLaps := 0
  secFalse := 0
  secDepth := 0
  shadow := 0
  shadowSec := 0
  secSpan := 0
  qLap := none
  running := false
  table := 0
  newTable := none
  started := false
  restFrom := none
  rested := false
  restAt := 0
  anchored := false
  fDiverge := 1000000000000000000
  calReq := false
  stepAt := none
  step := none
  lastNom := 0
  prevSoc := 65535
  missed := false
  pcfg := []
  iMeas := ⟨0, 1⟩

/-- A position just assigned. -/
def Pos.init (node chan serial now : Nat) : Pos where
  node := node
  chan := chan
  serial := serial
  v := 65535
  vPrev := 65535
  sampledAt := none
  age := 255
  val := 3
  blank := false
  since := now
  z := 0
  vf := 0
  vs := 0
  h := 0
  cov := []
  live := false
  gatedRun := 0
  flags := 0
  innov := none
  kind := 0
  seedDue := 0
  repS := 0
  zcc := 0
  zocv := none
  cum := 0
  anchor := none
  seedSince := false
  seedAt := 0
  divFrom := none
  div := false
  divOk := none
  divUse := false
  measAt := none
  capOut := false
  rOut := false
  capRatio := 1000
  rRatio := 1000
  tp := 2500
  assumed := true
  limC := none
  limD := none
  naLim := false
  par := none
  anchored := false

/-- A ledger that a start has zeroed (R125). -/
def Ledger.init : Ledger := ⟨[], [], none, false, [], 0, 0⟩

/-- One string's hidden state. -/
structure Str where
  prot : Prot
  fe : Fe
  /-- The protection profile in force on the string, as the 80 bytes of Table 13.11; empty when none is (R370). -/
  profile : Bytes
  /-- A profile written while profile 15 is in force, which applies at the string's next lap (R371). -/
  profWait : Option Bytes
  /-- Register writes that apply at the string's first lap instant after their commit (R161). -/
  cfgWait : List CellW
  /-- W1C and WO touches of the string's objects that wait for the same instant: the place, its reset value and the bits written
  (R161). -/
  touchWait : List CellW
  /-- The instant of the string's first lap of the run, once it is complete (R130). -/
  firstLap : Option Nat
  /-- The restore has applied to the string, at this instant (R127 to R129). -/
  restored : Option Nat
  ring : Ring
  laps : Laps
  est : Est
  /-- Lap units on the interposer link, and the string's collector queue (R450), oldest first. -/
  units : List LapUnit
  queue : List LapUnit
  /-- The last released result (R413): its result instant; SOC_FILTER, SOC_REPORTED and CELL_V of each position with its node
  and channel, none where not available; the highest and the lowest T_p. -/
  relAt : Option Nat
  rel : List (Nat × Nat × Option Nat × Option Nat × Option Nat)
  relT : Option Int × Option Int
  /-- When the last of the writes that wait for a lap was committed, on the time base without its steps (R161). -/
  waitAt : Nat
  /-- The status of the string as captured at the last released result instant, and that instant (R155). -/
  shot : Option (Nat × Store)
  /-- That instant on the scale without steps, while the samples that CURRENT and CHARGE are referred between are not both there
  (Table 10.6). -/
  shotDue : Option Nat
  deriving DecidableEq, Repr

/-- The reference clock and the time base (chapter 17): the time base read `base0` in 2^-32 ns when the reference clock
read `mono0`, and runs fast by `rate` in 10^-15, and by `slew` too up to `slewEnd`. -/
structure Clock where
  mono0 : Nat
  base0 : Nat
  rate : Int
  slew : Int
  slewEnd : Nat
  /-- The sum of the steps the time base has made in this run. -/
  steps : Int
  deriving DecidableEq, Repr

/-- Update operations in progress (R512 to R518). `relay`: a relay handover is accepted and neither committed nor abandoned,
its request `rid`, the slot and when; `convert`: a format conversion is made. `handed` are the dies handed over, latest first;
`back` those that still hand back; `phase` is the UPDATE_STATE of the handover; `stepAt` the time base at the last handover. `write` is the slot being written, `hdr` and `body` the
image it gets; `run` is the slot whose image runs since a relay handover. -/
structure Upd where
  relay : Bool
  rid : Option Rid
  slot : Nat
  rollback : Bool
  at_ : Nat
  convert : Bool
  handed : List Nat
  back : List Nat
  phase : Nat
  stepAt : Nat
  write : Option Nat
  hdr : Bytes
  body : Bytes
  run : Option Nat
  deriving DecidableEq, Repr

/-- No update operation. -/
def Upd.init : Upd where
  relay := false
  rid := none
  slot := 0
  rollback := false
  at_ := 0
  convert := false
  handed := []
  back := []
  phase := 0
  stepAt := 0
  write := none
  hdr := []
  body := []
  run := none

/-- The module. `now` is the reference clock in ns since power was first applied; `free` counts the free values
used so far; `out` is what has been sent, newest first. -/
structure State where
  now : Nat
  clk : Clock
  objs : Store
  nv : Nonvol
  power : Power
  panel : Panel
  boot : Boot
  sec : Security
  mbx : Mbx
  hist : Hist
  i2c : I2cPort
  safe : Safe
  strs : List Str
  traces : List Trace
  dies : List Die
  thermal : Thermal
  ledger : Ledger
  upd : Upd
  can : List CanBus
  chans : List Chan
  blk : Block
  coll : Collector
  time : TimeSt
  pouts : List POut
  caps : List CapIn
  free : Nat
  out : List Out
  pending : List Instr
  deriving DecidableEq, Repr

/-- A coil that has not been driven in this run. -/
def Coil.init : Coil := ⟨false, 0, none, none, none, none, false, none, 0, none, false⟩

/-- A string's protection after a start. -/
def Prot.init : Prot where
  cpos := .init
  cneg := .init
  cpre := .init
  feLatch := []
  ocChg := none
  ocDis := none
  hbLast := 0
  hbRunFrom := none
  hbCount := none
  hbSent := 0
  vTimers := []
  tTimers := []
  isoRun := 0
  causes := []
  tripAt := none
  closeRid := none
  openRid := []
  dv0 := 0
  needPre := false
  liveBus := false
  stepAt := 0
  fbAt := none
  step3At := 0
  openAt := 0
  openPhase := 0
  phaseAt := 0
  preEnd := none
  enableUntil := none
  remote := false
  diag := 0
  weldFlag := false
  cellOk := false
  judge := []
  clearRid := none
  clearRead := true
  clearTrips := 0
  preDone := none
  driveBad := false
  readAt := 0
  floopTrip := none

/-- A front-end after a start, before its link is up (R271). -/
def Fe.init : Fe where
  samples := []
  acc := 0
  up := false
  warmEnd := 0
  clipOn := false
  mismRun := 0
  mismOk := 0
  refIn := 0
  refDue := none
  refRun := 0
  vals := List.replicate 16 0
  valAt := List.replicate 16 0
  valOk := List.replicate 16 false
  okAt := List.replicate 16 0
  byInput := []
  avdd := none
  winIdx := 0
  winProt := 0
  winShared := 0
  aborts := 0
  injEnd := 0
  injQ := []
  seqNext := 0
  passFrom := 0
  seqCfg := []
  secIdx := 0
  secSum := 0
  secCnt := 0
  cal := none
  imdPre := false
  imdPauseEnd := none
  imdFail := false
  imdCycleAt := 0
  imdKey := []
  tShunt := none
  named := []
  frames := []
  clips := []

/-- What a string hides. -/
def Str.init : Str where
  prot := .init
  fe := .init
  profile := []
  profWait := none
  cfgWait := []
  touchWait := []
  firstLap := none
  restored := none
  ring := .init
  laps := .init
  est := .init
  units := []
  queue := []
  relAt := none
  rel := []
  relT := (none, none)
  waitAt := 0
  shot := none
  shotDue := none

/-- A die's pace logic after a start. -/
def Die.init : Die where
  lowRun := 0
  okSince := none
  kLowRun := 0
  kOkSince := none
  secIdx := 0
  secMin := 65535
  stallNow := false
  lowNs := 0
  lastCount := 0
  hot := false
  throttleSince := none
  shedDeep := false

/-- The thermal logic after a start. -/
def Thermal.init : Thermal where
  first := none
  mask := 0
  coolSince := none
  cool := false
  heat := false
  hvacSeq := 0
  hvacLast := none
  hvac := []
  tMax := none
  tMin := none
  tMean := none
  fTherm := List.replicate 8 1000000000
  lastRound := none

/-- An empty trace buffer. -/
def Trace.init : Trace where
  rolling := []
  pending := none
  frozen := []
  asked := false
  count := 0
  invalid := []
  nextOrder := 1

/-- The mailbox with no connection. -/
def Mbx.init : Mbx where
  conns := []
  sess := []
  journal := []
  nextJournal := 0
  inbox := []
  netBFree := 0
  nodeReqs := []

/-- The history writer before a start; the rings are empty (R113). -/
def Hist.init : Hist where
  lapOpen := none
  lapRing := []
  lapSeq := 0
  evOpen := []
  evOpenAt := 0
  evRing := []
  evBlk := 0
  pins := []
  words := List.replicate 8 none
  evSeq := 0
  owed := []
  lapBad := false
  evBad := false
  evDamaged := 0
  intakeSec := 0
  paused := 0
  bytesSec := 0
  rawSec := 0
  run := false

/-- The two-wire port before a start. -/
def I2cPort.init : I2cPort where
  awakeAt := 0
  lastTrans := 0
  asleep := false
  refuseNext := false
  recSeq := 0
  recCause := 0
  recPending := false
  tries := 0
  retryAt := none
  lost := false
  failed := false
  recovering := 0
  nextRecovery := 0
  enableAt := 0

/-- The safe telegram engine before a start. -/
def Safe.init : Safe where
  seq := 0
  running := false
  copyA := none
  copyB := none
  lastCmd := none
  openLoop := false
  origin := false
  own := false
  last := none
  ownEnd := none
  discSingle := 0
  discDiffer := 0
  discStale := 0
  lastDisc := none

/-- No supply (R97). -/
def Power.init : Power where
  supply := .off
  belowCount := 0
  auxSince := none
  holdupAt := 0
  gaspCause := 0
  gaspSent := false
  shed := false
  opened := false
  powered := false
  transRid := none
  transAt := 0
  transAnswers := []
  transTries := 0
  transLeft := []
  backupFrom := none
  backupNs := 0
  transOffAt := none
  transEnum := none
  lastPower := 0
  exportOpen := false

/-- The front panel at rest. -/
def Panel.init : Panel where
  page := 0
  lit := true
  lastPress := 0
  pressAt := none
  releasedAt := none
  fired := false
  sw := [16, 16, 0, 0]
  applied := [16, 16, 0, 0]
  retry := false
  cover := false

/-- No start has begun. -/
def Boot.init : Boot where
  phase := 0
  t0 := 0
  halt := false
  cause := 0
  detail := 0
  slotFail := (0, 0)
  cfg := []
  net := []
  enumDone := []
  changes := []

/-- No presence token, and no probe. -/
def Security.init : Security where
  token := 0
  tokenAt := 0
  bound := 0
  idleSince := 0
  window := false
  halted := List.replicate 8 false
  haltFrom := none
  mgrHalt := none
  haltNs := 0
  dbgRid := none
  dbgWait := false

/-- The header of the image the factory leaves in slot A (Table 20.1): a module image for every variant, version
1.0.0. DESIGN CHOICE (log 3): the spec gives no factory image. -/
def factoryHeader : Bytes :=
  toLE 4 0x4858494D ++ [1, 1, 0, 0] ++ toLE 4 0x544D5853 ++ [0x0E, 0, 0, 0] ++ toLE 4 0x01000000 ++ toLE 4 0
    ++ toLE 4 1048576 ++ toLE 4 0 ++ toLE 2 1 ++ toLE 2 1 ++ toLE 2 1 ++ toLE 2 1 ++ [0, 255, 0, 0, 0, 0, 0, 0]
    ++ List.replicate 208 0

/-- The module as the factory leaves it: a TMX-S8 with an image in slot A and an empty configuration store.
DESIGN CHOICE (log 3). -/
def Nonvol.factory : Nonvol where
  variant := 8
  serial := 0
  hwIssue := 0
  romVersion := 0
  macA := 0
  macB := 0
  fuseIndex := 0
  decommissioned := false
  bootCount := 0
  transport := false
  slotA := ⟨some factoryHeader, true, Config.factoryBody⟩
  slotB := ⟨none, false, []⟩
  active := 0
  store := []
  format := 1
  keptFormat := 0
  kept := []
  keptTime := 0
  nodeImage := none
  causes := List.replicate 8 []
  eraseCut := false
  programCut := false
  keysPresent := true

/-- The module right after reset: in OFF, with no supply, nothing powered and every volatile register at its reset
value; what the flash and the fuses hold is what the factory left (R97, R98). -/
def State.reset : State where
  now := 0
  clk := ⟨0, 0, 0, 0, 0, 0⟩
  objs := []
  nv := .factory
  power := .init
  panel := .init
  boot := .init
  sec := .init
  mbx := .init
  hist := .init
  i2c := .init
  safe := .init
  strs := List.replicate 8 .init
  traces := List.replicate 32 .init
  dies := List.replicate 8 .init
  thermal := .init
  ledger := .init
  upd := .init
  can := List.replicate 3 .init
  chans := List.replicate 32 .init
  blk := .init
  coll := .init
  time := .init
  pouts := List.replicate 4 .init
  caps := List.replicate 2 .init
  free := 0
  out := []
  pending := []

/-- Why a step stops with a fault. No command of this block stops so: an access the spec gives no address for is
answered with a status code instead. -/
inductive Fault where
  /-- Raised by nothing in this model; kept so that the outcome type has a fault side. Safe. -/
  | unreachable
  deriving DecidableEq, Repr

/-- Why a step is refused. -/
inductive Refusal where
  /-- Raised by an arm of `exec` whose command has no meaning yet. Safe: the run stops. -/
  | notModelled (mnemonic : String)
  deriving DecidableEq, Repr

end Sys2Proof.Machine
end

