-- ==== Sys2Proof/Machine/Ops.lean ====
section
/-! DEFINITION. The named operations every meaning is built from: reading and writing registers, the clock and the
time base, events and attention, the mailbox's admission and answers. -/

namespace Sys2Proof.Machine

open Sys2Proof.Obj

/-! ### The register store -/

/-- The order of places in the store. -/
def Key.lt (a b : Key) : Bool :=
  decide (a.obj < b.obj) || (a.obj == b.obj &&
    (decide (a.inst < b.inst) || (a.inst == b.inst && decide (a.pos < b.pos))))

/-- The value a store lists for a place. -/
def Store.get? : Store → Key → Option Nat
  | [], _ => none
  | (k', v) :: s, k => if k' = k then some v else Store.get? s k

/-- The store with nothing listed for a place. -/
def Store.del : Store → Key → Store
  | [], _ => []
  | (k', v) :: s, k => if k' = k then s else (k', v) :: Store.del s k

/-- The store with a place listed, kept in rising order. -/
def Store.ins : Store → Key → Nat → Store
  | [], k, v => [(k, v)]
  | (k', v') :: s, k, v =>
    if k' = k then (k, v) :: s else if Key.lt k k' then (k, v) :: (k', v') :: s else (k', v') :: Store.ins s k v

/-- The store with a place holding `v`, listed only where `v` is not its reset value `r`. -/
def Store.put (s : Store) (k : Key) (r v : Nat) : Store := if v = r then s.del k else s.ins k v

/-- The store with a place as another store lists it, or not listed. -/
def Store.set (s : Store) (k : Key) : Option Nat → Store
  | some v => s.ins k v
  | none => s.filter fun c => decide (c.1 ≠ k)

/-- Places strictly rising: the canonical order. -/
def Store.sorted : Store → Bool
  | [] => true
  | [_] => true
  | (a, _) :: (b, v) :: s => Key.lt a b && Store.sorted ((b, v) :: s)

/-- The place of copy `idx` of a field in an instance. -/
def Fld.key (f : Fld) (inst idx : Nat) : Key := ⟨f.obj, inst, f.pos + 8 * f.stride * idx⟩

/-- What a field of an instance reads as. -/
def Store.rd (s : Store) (f : Fld) (inst : Nat) (idx : Nat := 0) : Nat :=
  match s.get? (f.key inst idx) with
  | some v => v
  | none => f.resetAt idx

/-- The store after a field of an instance is given a value, cut to the field's width. -/
def Store.wr (s : Store) (f : Fld) (inst : Nat) (v : Nat) (idx : Nat := 0) : Store :=
  s.put (f.key inst idx) (f.resetAt idx) (v % 2 ^ f.width)

/-- What a register field reads as. -/
def State.rd (s : State) (f : Fld) (inst : Nat := 0) (idx : Nat := 0) : Nat := s.objs.rd f inst idx

/-- A register field is given a value. -/
def State.wr (s : State) (f : Fld) (inst : Nat) (v : Nat) (idx : Nat := 0) : State :=
  { s with objs := s.objs.wr f inst v idx }

/-- A one-bit field as a truth value. -/
def State.rdB (s : State) (f : Fld) (inst : Nat := 0) (idx : Nat := 0) : Bool := s.rd f inst idx == 1

/-- A one-bit field is given a truth value. -/
def State.wrB (s : State) (f : Fld) (inst : Nat) (b : Bool) (idx : Nat := 0) : State := s.wr f inst (b2n b) idx

/-- A signed field as an integer. -/
def State.rdI (s : State) (f : Fld) (inst : Nat := 0) (idx : Nat := 0) : Int := toInt f.width (s.rd f inst idx)

/-- A signed field is given an integer, saturating short of the not-available code (R14). -/
def State.wrI (s : State) (f : Fld) (inst : Nat) (i : Int) (idx : Nat := 0) : State :=
  s.wr f inst (satInt f.width i) idx

/-- A counter field counts `d` more, saturating at all ones. -/
def State.bump (s : State) (f : Fld) (inst : Nat := 0) (d : Nat := 1) (idx : Nat := 0) : State :=
  s.wr f inst (satAdd f.width (s.rd f inst idx) d) idx

/-- The value of an object's instance as one number, byte 0 lowest. -/
def State.objWord (s : State) (d : ObjDesc) (inst : Nat) : Nat :=
  (d.flds.map fun f =>
    ((List.range f.count).map fun i => s.rd f inst i * 2 ^ (f.pos + 8 * f.stride * i)).foldl (· + ·) 0).foldl (· + ·) 0

/-- The bytes of an object's instance as held. -/
def State.objBytes (s : State) (d : ObjDesc) (inst : Nat) : Bytes := toLE d.size (s.objWord d inst)

/-- The string an instance of an object belongs to, 0 where it belongs to none. -/
def strOf (k : InstKind) (i : Nat) : Nat :=
  match k with
  | .string => i
  | .stringNode => i / 64
  | _ => 0

/-- The status cells of one string. -/
def Store.ofStr (st : Store) (n : Nat) : Store :=
  st.filter fun c => match find c.1.obj with
    | some d => !d.stored && strOf d.inst c.1.inst == n
    | none => false

/-! ### Clock and time base -/

/-- The reference clock reaches the instant of a command; it never goes back. -/
def State.at (s : State) (t : Nat) : State := { s with now := max s.now t }

/-- The time base at an instant of the reference clock in 2^-32 ns (R454, R455). -/
def Clock.fine (c : Clock) (t : Nat) : Nat :=
  let d : Int := (t : Int) - c.mono0
  let e : Int := (min t c.slewEnd : Nat) - (c.mono0 : Int)
  let slew := if e ≤ 0 then 0 else e * c.slew
  ((c.base0 : Int) + d * 2 ^ 32 + (d * c.rate + slew) * 2 ^ 32 / 10 ^ 15).toNat

/-- The time base at an instant of the reference clock, its fraction dropped (R454). -/
def Clock.base (c : Clock) (t : Nat) : Nat := c.fine t / 2 ^ 32

/-- The time base now, in ns. -/
def State.base (s : State) : Nat := s.clk.base s.now

/-- The 80-bit time value of R16: seconds in bytes 0 to 5, nanoseconds in bytes 6 to 9. -/
def timeVal (ns : Nat) : Nat := (ns / 1000000000) % 2 ^ 48 + (ns % 1000000000) * 2 ^ 48

/-- The instant in ns a time value names. -/
def timeNs (v : Nat) : Nat := (v % 2 ^ 48) * 1000000000 + v / 2 ^ 48 % 2 ^ 32

/-- The not-set time of R14. -/
def timeNA : Nat := 2 ^ 80 - 1

/-- The ten bytes of a time. -/
def timeBytes (ns : Nat) : Bytes := toLE 10 (timeVal ns)

/-- A time written by the host that R553 refuses. -/
def timeBad (v : Nat) : Bool :=
  let sec := v % 2 ^ 48
  let ns := v / 2 ^ 48 % 2 ^ 32
  if sec = 2 ^ 48 - 1 then !(ns == 2 ^ 32 - 1) else decide (1000000000 ≤ ns)

/-- A time field takes the time base now. -/
def State.stamp (s : State) (f : Fld) (inst : Nat := 0) : State := s.wr f inst (timeVal s.base)

/-- Ms, s as ns. -/
def msec (n : Nat) : Nat := n * 1000000

@[inherit_doc msec] def secs (n : Nat) : Nat := n * 1000000000

@[inherit_doc msec] def usec (n : Nat) : Nat := n * 1000

/-! ### Free values -/

/-- A value of `w` bits that the spec leaves undefined, and the state that has used it. -/
def State.fresh (s : State) (w : Nat) : Nat × State :=
  (Config.freeValue s.free % 2 ^ w, { s with free := s.free + 1 })

/-- A node image is being staged: an upload of one holds data, or waits for its check (R527). -/
def State.stagingNode (s : State) : Bool :=
  s.mbx.sess.any (fun x => x.streams.any fun q => q.kind == 8 && !q.body.isEmpty) || s.mbx.inbox.any fun x => x.2.kind == 8

/-- Slot writes and the staging of a node image that end unfinished: the journal of a slot write shows an erase or a page program,
that of a staging one of them or neither; the spec does not say which, and the replay of the next start repeats it (R36, R512,
KL-06). DESIGN CHOICE (log 15). -/
def State.cutSlot (s : State) : State :=
  let cut (s : State) (erase program : Bool) : State :=
    { s with nv := { s.nv with programCut := s.nv.programCut || program, eraseCut := s.nv.eraseCut || erase } }
  let s := match s.upd.write with
    | none => s
    | some _ =>
      let (b, s) := s.fresh 1
      cut s (decide (b ≠ 0)) (decide (b = 0))
  if s.stagingNode then
    let (b, s) := s.fresh 2
    cut s (decide (b = 1)) (decide (b = 2))
  else s

/-! ### Strings, dies and channels present in the variant (R2, R4, R5) -/

/-- Strings of a variant code: 1, 3 or 7. -/
def State.strings (s : State) : Nat := s.nv.variant - 1

/-- String `n` is present. -/
def State.hasStr (s : State) (n : Nat) : Bool := decide (1 ≤ n) && decide (n ≤ s.strings)

/-- Die `d` is fitted. -/
def State.hasDie (s : State) (d : Nat) : Bool := decide (d ≤ s.strings)

/-- Control channel `c` is present: four to a die (R20). -/
def State.hasChan (s : State) (c : Nat) : Bool := decide (c < 4 * (s.strings + 1))

/-- String `n` is present and enabled by the sealed mask. -/
def State.enabled (s : State) (n : Nat) : Bool := s.hasStr n && bitOf (s.rd ModuleIdentity.STRING_ENABLE) n

/-- The present strings, ascending. -/
def State.strList (s : State) : List Nat := (List.range (s.strings + 1)).drop 1

/-- The fitted dies, ascending. -/
def State.dieList (s : State) : List Nat := List.range (s.strings + 1)

/-- A fold over the present strings, ascending. -/
def State.eachStr (s : State) (f : Nat → State → State) : State := s.strList.foldl (fun s n => f n s) s

/-- The hidden state of string `n`. -/
def State.str (s : State) (n : Nat) : Str := nth Str.init s.strs n

/-- The hidden state of string `n` is changed. -/
def State.modStr (s : State) (n : Nat) (f : Str → Str) : State :=
  { s with strs := setNth (f (s.str n)) s.strs n }

/-- The ring master, the lap engine and the estimation of a string. -/
def State.ring (s : State) (n : Nat) : Ring := (s.str n).ring
@[inherit_doc State.ring] def State.laps (s : State) (n : Nat) : Laps := (s.str n).laps
@[inherit_doc State.ring] def State.est (s : State) (n : Nat) : Est := (s.str n).est

/-- A part of a string is changed. -/
def State.modRing (s : State) (n : Nat) (f : Ring → Ring) : State := s.modStr n fun x => { x with ring := f x.ring }
@[inherit_doc State.modRing] def State.modLaps (s : State) (n : Nat) (f : Laps → Laps) : State :=
  s.modStr n fun x => { x with laps := f x.laps }
@[inherit_doc State.modRing] def State.modEst (s : State) (n : Nat) (f : Est → Est) : State :=
  s.modStr n fun x => { x with est := f x.est }

/-- The front-end of string `n`. -/
def State.fe (s : State) (n : Nat) : Fe := (s.str n).fe

/-- The front-end of string `n` is changed. -/
def State.modFe (s : State) (n : Nat) (f : Fe → Fe) : State := s.modStr n fun x => { x with fe := f x.fe }

/-- The time base without its steps (R203): durations of laps and samples are counted on it. -/
def State.plain (s : State) : Nat := ((s.base : Int) - s.clk.steps).toNat

/-- The protection of string `n`. -/
def State.prot (s : State) (n : Nat) : Prot := (s.str n).prot

/-- The protection of string `n` is changed. -/
def State.modProt (s : State) (n : Nat) (f : Prot → Prot) : State :=
  s.modStr n fun x => { x with prot := f x.prot }

/-! ### CRC-32 -/

/-- One bit of the reflected CRC-32 of R176. -/
def crcBit (c : Nat) : Nat := if c % 2 = 1 then Nat.xor (c / 2) 0xEDB88320 else c / 2

/-- One byte of the reflected CRC-32 of R176. -/
def crcByte (c b : Nat) : Nat :=
  crcBit (crcBit (crcBit (crcBit (crcBit (crcBit (crcBit (crcBit (Nat.xor c (b % 256)))))))))

/-- CRC-32 of R176: the IEEE 802.3 polynomial, reflected, preset to all ones and complemented. -/
def crc32 (bs : Bytes) : Nat := Nat.xor (bs.foldl crcByte 0xFFFFFFFF) 0xFFFFFFFF

/-! ### Output -/

/-- The module sends something. -/
def State.send (s : State) (o : Out) : State := { s with out := o :: s.out }

/-! ### Mailbox frames and answers -/

/-- Status codes of Table 5.3. -/
def stOk : Nat := 0x0000
@[inherit_doc stOk] def stBusy : Nat := 0x0001
@[inherit_doc stOk] def stAbsent : Nat := 0x0002
@[inherit_doc stOk] def stAccess : Nat := 0x0003
@[inherit_doc stOk] def stRange : Nat := 0x0004
@[inherit_doc stOk] def stCondition : Nat := 0x0005
@[inherit_doc stOk] def stPresence : Nat := 0x0006
@[inherit_doc stOk] def stState : Nat := 0x0007
@[inherit_doc stOk] def stClass : Nat := 0x0008
@[inherit_doc stOk] def stRoleStale : Nat := 0x0009
@[inherit_doc stOk] def stEpochStale : Nat := 0x000A
@[inherit_doc stOk] def stTxnConflict : Nat := 0x000B
@[inherit_doc stOk] def stTxnNone : Nat := 0x000C
@[inherit_doc stOk] def stUnknown : Nat := 0x000D
@[inherit_doc stOk] def stVersion : Nat := 0x000E
@[inherit_doc stOk] def stLength : Nat := 0x000F
@[inherit_doc stOk] def stSession : Nat := 0x0010
@[inherit_doc stOk] def stStream : Nat := 0x0011
@[inherit_doc stOk] def stImage : Nat := 0x0012
@[inherit_doc stOk] def stInternal : Nat := 0x0013

/-- The outcome of serving a request: answered now, or answered by a later command. -/
inductive Reply where
  | now (status : Nat) (payload : Bytes)
  | later
  deriving DecidableEq, Repr

/-- A refusal with FIELD_OFFSET (ST_ACCESS, ST_RANGE). -/
def refOff (st off : Nat) : Nat × Bytes := (st, toLE 2 off)

/-- The condition detail of ST_CONDITION (Table 5.6). -/
def condDetail (code : Nat) (str : Nat := 0) (node : Nat := 0xFFFF) (epoch : Nat := 0) : Bytes :=
  toLE 2 code ++ [str, 0] ++ toLE 2 node ++ [0, 0] ++ toLE 4 (if node = 0xFFFF then 0 else epoch)

/-- A refusal with ST_CONDITION. -/
def refCond (code : Nat) (str : Nat := 0) (node : Nat := 0xFFFF) (epoch : Nat := 0) : Nat × Bytes :=
  (stCondition, condDetail code str node epoch)

/-- The first refusal of a list in the order of R148, each with the condition under which it applies. -/
def firstRef : List (Bool × Nat × Bytes) → Option (Nat × Bytes)
  | [] => none
  | (b, r) :: rs => if b then some r else firstRef rs

/-- The session with number `n` on a connection. -/
def State.sess? (s : State) (n : Nat) : Option Sess := s.mbx.sess.find? (·.num == n)

/-- Session `n` is changed. -/
def State.modSess (s : State) (n : Nat) (f : Sess → Sess) : State :=
  { s with mbx := { s.mbx with sess := s.mbx.sess.map fun x => if x.num = n then f x else x } }

/-- The connection with a number. -/
def State.conn? (s : State) (c : Nat) : Option Conn := s.mbx.conns.find? (·.id == c)

/-- Frame flags of Table 5.2. -/
def flagResponse : Nat := 1
@[inherit_doc flagResponse] def flagUnsolicited : Nat := 2
@[inherit_doc flagResponse] def flagStream : Nat := 4

/-- The answers at the head of a session's outstanding requests leave in order (R144). -/
def flush (num conn : Nat) : List Outst → List Outst × List Out × Nat
  | [] => ([], [], 0)
  | o :: os =>
    match o.reply with
    | none => (o :: os, [], 0)
    | some (st, p) =>
      let (rest, outs, n) := flush num conn os
      (rest, outs ++ [.frame conn flagResponse o.cmd st o.seq num p], if st = stVersion ∨ st = stSession then n else n + 1)

/-- The unanswered request with a number is answered; SEQUENCE, which the host may use again, plays no part (R143). -/
def setReply (no st : Nat) (p : Bytes) : List Outst → List Outst
  | [] => []
  | o :: os =>
    if o.no = no ∧ o.reply = none then { o with reply := some (st, p) } :: os
    else o :: setReply no st p os

/-- The bytes of a frame header (Table 5.2). -/
def frameHeader (flags cmd st seq sess len : Nat) : Bytes :=
  toLE 2 0x4D54 ++ [1, flags] ++ toLE 2 cmd ++ toLE 2 st ++ toLE 2 seq ++ [sess, 0] ++ toLE 4 len

/-- The bytes of a frame that leaves on a connection: its header and its payload (R141). -/
def Out.frameBytes : Out → Bytes
  | .frame _ flags cmd st seq sess p => frameHeader flags cmd st seq sess p.length ++ p
  | _ => []

/-- What a request's header tells beside its command and its length (R141). -/
def headerReq (conn : Nat) (h : Bytes) : Req := ⟨conn, field h 2 1, field h 0x0A 1, field h 8 2⟩

/-- The answered requests at the head of a session leave (R144). -/
def State.flushSess (s : State) (x : Sess) (os : List Outst) : State :=
  let (rest, outs, n) := flush x.num x.conn os
  let s := s.modSess x.num fun y => { y with outst := rest }
  let s := s.bump SessionStatus.REQUESTS x.num n
  { s with out := outs ++ s.out }

/-- A request is answered; the reply of a session that has closed is discarded (R139). -/
def State.answer (s : State) (r : Rid) (st : Nat) (p : Bytes) : State :=
  match s.sess? r.sess with
  | none => s
  | some x =>
    if x.conn ≠ r.conn then s else s.flushSess x (setReply r.no st p x.outst)

/-- The request served last is answered before its session closes: the replies still due before it are discarded with the
session, and hold it back no more (R139, R152). -/
def State.answerLast (s : State) (r : Rid) (st : Nat) (p : Bytes) : State :=
  (s.modSess r.sess fun y => { y with outst := y.outst.drop (y.outst.length - 1) }).answer r st p

/-- A request waiting for its effect is answered. -/
def State.answerOpt (s : State) (r : Option Rid) (st : Nat) (p : Bytes) : State :=
  match r with
  | none => s
  | some r => s.answer r st p

/-- An unsolicited frame to a session, under the session's own counter (R143). -/
def State.unsolicited (s : State) (num cmd : Nat) (p : Bytes) : State :=
  match s.sess? num with
  | none => s
  | some x =>
    (s.modSess num fun y => { y with useq := (y.useq + 1) % 65536 }).send
      (.frame x.conn flagUnsolicited cmd 0 x.useq num p)

/-! ### Streams (R164) -/

/-- A STREAM_DATA frame of the module on a stream of a session: SFLAGS and what follows the subheader. Its SEQUENCE is left
open. -/
def State.streamFrame (s : State) (x : Sess) (q : Stream) (sflags : Nat) (data : Bytes) : State :=
  let (n, s) := s.fresh 16
  s.send (.frame x.conn flagStream 0x23 0 n x.num ([q.num, sflags, 0, 0] ++ toLE 4 q.frames ++ data))

/-- The streams of every session are changed. -/
def State.mapStreams (s : State) (f : Stream → Stream) : State :=
  { s with mbx := { s.mbx with sess := s.mbx.sess.map fun (x : Sess) => ({ x with streams := x.streams.map f } : Sess) } }

/-- A lost block joins the run it follows. -/
def addLost (b : LostRun) : List LostRun → List LostRun
  | [] => [b]
  | r :: rs => if r.last + 1 = b.first then { r with last := b.last, toT := b.toT } :: rs else r :: addLost b rs

/-- A trace sample is overwritten before some open readers of the rolling part have reached it (R269). -/
def State.loseSample (s : State) (ch : Nat) (x : Sample) : State :=
  s.mapStreams fun q =>
    if q.kind == 2 && decide (field q.params 0 1 = ch) && decide (field q.params 1 1 = 0) && decide (q.cursor ≤ x.index) &&
        decide (x.index < q.part) then { q with lost := addLost ⟨x.index, x.index, x.time, x.time⟩ q.lost } else q

/-- A lap block is overwritten before some open readers have reached it (R264). -/
def State.loseBlock (s : State) (o : Blk) : State :=
  s.mapStreams fun q =>
    if q.kind == 1 && decide (q.cursor ≤ o.seq) then { q with lost := addLost ⟨o.seq, o.seq, o.first, o.last⟩ q.lost } else q

/-- The streams of a kind that `hit` names are aborted by the module: an ABORT frame, and no more of them (R164). -/
def State.abortStreams (s : State) (hit : Stream → Bool) : State :=
  let s := s.mbx.sess.foldl (fun (s : State) (x : Sess) =>
    (x.streams.filter hit).foldl (fun (s : State) q => s.streamFrame x q 2 []) s) s
  { s with mbx := { s.mbx with sess := s.mbx.sess.map fun (x : Sess) =>
    ({ x with streams := x.streams.filter fun q => !hit q } : Sess) } }

/-! ### Attention (R504) and events (R260, R152) -/

/-- A cause of attention arises: bit `b` of ATTN_CAUSE (Table 19.3). -/
def State.attention (s : State) (b : Nat) : State :=
  let p := s.i2c
  if s.rdB I2cConfig.ATTN_EN && decide (s.rd I2cConfig.ATTN_ADDR ≠ 0xFF) && bitOf (s.rd I2cConfig.ATTN_MASK) b
      && decide (8 ≤ s.boot.phase) && !s.boot.halt && decide (s.rd SecurityStatus.SECURITY_STATE ≠ 5) then
    if p.recPending then { s with i2c := { p with recCause := setBit p.recCause b true } }
    else
      ({ s with i2c := { p with recSeq := (p.recSeq + 1) % 256, recCause := 2 ^ b, recPending := true,
                                tries := 0, lost := false, retryAt := some s.now, failed := false } }).wrB
        I2cStatus.ATTN_PENDING 0 true
  else s

/-- The 48 bytes of an event record (Table 9.4). -/
def Event.bytes (e : Event) : Bytes :=
  timeBytes e.time ++ toLE 2 e.code ++ [e.sev, e.str] ++ toLE 2 e.node ++ toLE 4 e.epoch ++ toLE 4 e.seq
    ++ padTo 20 e.data ++ [0, 0, 0, 0]

/-- Records of an event block (R260). -/
def eventsPerBlock : Nat := 21844

/-- NOTIFY_EVENT goes to every open OPERATE and MAINTAIN session for an event of a notified class (R152, R260). -/
def State.notify (s : State) (e : Event) : State :=
  if bitOf (s.rd HistoryConfig.NOTIFY_SUBJECTS) (e.code / 256)
      && decide (s.rd HistoryConfig.NOTIFY_MIN_SEVERITY ≤ e.sev) then
    (s.mbx.sess.filter fun x => decide (2 ≤ x.cls)).foldl (fun s x => s.unsolicited x.num 0x00F0 e.bytes) s
  else s

/-- The manager die is stalled at this moment: its pace has not been 20 % or more since (R44). -/
def State.managerStalled (s : State) : Bool := (nth Die.init s.dies 0).stallNow

/-- DAMAGED_BLOCKS follows the rings: a damaged block that is being rewritten counts until it is closed (R256). -/
def State.damagedReg (s : State) : State :=
  let h := s.hist
  s.wr HistoryStatus.DAMAGED_BLOCKS 0 ((h.lapRing.filter (·.damaged)).length + (h.evRing.filter (·.damaged ≠ 0)).length +
    b2n (h.lapBad || (h.lapOpen.map (·.damaged)).getD false) + b2n (h.evBad || decide (h.evDamaged ≠ 0)))

/-- The event ring is about to take a new block; where it is full, its oldest block goes, and feeds that have not reached it
lose its records from the next they would have sent (R256, R265). -/
def State.loseEvents (s : State) : State :=
  if s.hist.evRing.length < 255 then s
  else
    match (s.hist.evRing.getLast?.map (·.events)).getD [] with
    | [] => s
    | n :: r =>
      s.mapStreams fun q =>
        if q.kind == 3 && decide (q.cursor ≤ n.seq) then
          let a := (((n :: r).reverse.find? fun e => decide (q.cursor ≤ e.seq)).getD n).time
          { q with aux := if q.aux = 0 then a + 1 else q.aux, upto := n.time }
        else q

/-- The open block of the event ring is closed, by age or at HOLDUP where so marked (R253, R254). The ring holds 256 blocks. -/
def State.closeEventBlock (s : State) (timeout holdup : Bool) : State :=
  if s.hist.evOpen.isEmpty then s
  else
    let s := s.loseEvents
    let h := s.hist
    let b : EvBlk := ⟨h.evBlk, h.evOpen, timeout, holdup, h.evDamaged⟩
    let gone := decide (255 ≤ h.evRing.length) && decide ((h.evRing.getLast?.map (·.damaged)).getD 0 ≠ 0)
    ({ s with hist := { h with
      evRing := (b :: h.evRing).take 255, evOpen := [], evBlk := h.evBlk + 1, evDamaged := 0, evBad := gone } }).damagedReg

/-- A record is put into the open event block. -/
def Hist.addEvent (h : Hist) (now : Nat) (e : Event) : Hist :=
  { h with evSeq := (h.evSeq + 1) % 2 ^ 32, evOpen := e :: h.evOpen, evOpenAt := if h.evOpen.isEmpty then now else h.evOpenAt }

/-- An event is put into the event ring: the record, its count, its notification, the display, which a new fault lights
(R77, log 20), and the attention cause of an event at or above ATTN_MIN_SEVERITY. -/
def State.putEvent (s : State) (e : Event) : State :=
  let e := { e with seq := s.hist.evSeq }
  let s := if eventsPerBlock ≤ s.hist.evOpen.length then s.closeEventBlock false false else s
  let s := { s with hist := s.hist.addEvent s.now e }
  let s := s.bump HistoryStatus.EVENTS_RECORDED
  let s := s.notify e
  let s := if 3 ≤ e.sev then { s with panel := { s.panel with lit := true } } else s
  if s.rd I2cConfig.ATTN_MIN_SEVERITY ≤ e.sev then s.attention 4 else s

/-- An event is put into the event ring; while the manager die is stalled it waits (R44). -/
def State.putLater (s : State) (e : Event) : State :=
  if s.managerStalled then { s with hist := { s.hist with owed := s.hist.owed ++ [e] } } else s.putEvent e

/-- A history event is recorded, once the history writer runs; while the manager die is stalled it waits (R44). -/
def State.record (s : State) (code sev : Nat) (data : Bytes) (str : Nat := 0) (node : Nat := 0xFFFF)
    (epoch : Nat := 0) : State :=
  if s.hist.run then s.putLater ⟨s.base, code, sev, str, node, epoch, 0, padTo 20 data⟩ else s

/-- The events that waited for the manager die are recorded (R44). -/
def State.settleOwed (s : State) : State :=
  let es := s.hist.owed
  es.foldl (fun s e => s.putEvent e) { s with hist := { s.hist with owed := [] } }

/-! ### NET_CONFIG in force (R168) -/

/-- IPV4_ADDR (0), PREFIX_LEN (1), SESSION_IDLE (2), MAILBOX_PORT (3), VLAN_ID (4) or VLAN_PCP (5) of port 1 or 2 as the module
runs with it. -/
def State.netNow (s : State) (k port : Nat) : Nat := nth 0 s.boot.net (6 * (port - 1) + k)

/-- The 802.1Q tag of a port's mailbox frames, none where they are untagged: VLAN_ID and VLAN_PCP (R135, Table 5.10). -/
def State.netTag (s : State) (port : Nat) : Option (Nat × Nat) :=
  if s.netNow 4 port = 0 then none else some (s.netNow 4 port, s.netNow 5 port)

/-- What the network layer of a port answers by itself beside TCP at MAILBOX_PORT: ARP requests and ICMP echo requests for its
address, and nothing else; a fragment, and a packet above the 1,500 bytes of a frame that is not jumbo, is not answered (R135). -/
def State.netAnswers (s : State) (port : Nat) : NetQuery → Bool
  | .arp target => decide (target = s.netNow 0 port)
  | .echo dst fragment bytes => decide (dst = s.netNow 0 port) && !fragment && decide (bytes ≤ 1500)
  | .other => false

/-! ### States that decide what is served (Table 21.5) -/

/-- The security state (Table 21.1). -/
def State.security (s : State) : Nat := s.rd SecurityStatus.SECURITY_STATE

/-- The probe holds the lead cluster of a die halted (R547). -/
def State.dieHalted (s : State) (d : Nat) : Bool := nth false s.sec.halted d

/-- The runtime runs: step 8 of Table 4.1 has been reached and the module has not halted. -/
def State.running (s : State) : Bool :=
  decide (8 ≤ s.boot.phase) && !s.boot.halt &&
    !(s.power.supply == .off) && !(s.power.supply == .transport)

/-- The mailbox is served (Table 21.5). -/
def State.mailboxUp (s : State) : Bool :=
  s.running && !s.dieHalted 0 && decide (s.security ≠ 5) && !s.managerStalled

/-- The state of HOLDUP is entered. -/
def State.inHoldup (s : State) : Bool := s.power.supply == .holdup

/-- The measuring engines run: laps, estimation and history (Table 21.5). -/
def State.enginesUp (s : State) : Bool := s.running && decide (s.security ≠ 5) && !s.inHoldup

/-! ### Presence tokens (R542, R543) -/

/-- How long a token is valid: 120 s. -/
def tokenLife : Nat := secs 120

/-- A valid token serves a session: not expired, unbound or bound to it, and of a source that serves the request. -/
def State.tokenOk (s : State) (sess : Nat) (jumperServes : Bool) : Bool :=
  decide (s.sec.token ≠ 0) && decide (s.now < s.sec.tokenAt + tokenLife) &&
    (decide (s.sec.bound = 0) || decide (s.sec.bound = sess)) && (decide (s.sec.token = 1) || jumperServes)

/-- An accepted request uses the token and binds it (R543). -/
def State.useToken (s : State) (sess : Nat) : State :=
  let s := { s with sec := { s.sec with bound := sess } }
  let s := s.wr PresenceStatus.TOKEN_STATE 0 2
  let s := s.wr PresenceStatus.BOUND_SESSION 0 sess
  s.bump PresenceStatus.TOKENS_USED

/-! ### Admission of a request -/

/-- The module answers a frame whose session is not known or whose version is not supported, outside the order of
any session. -/
def State.answerRaw (s : State) (r : Req) (cmd st : Nat) (p : Bytes) : State :=
  s.send (.frame r.conn flagResponse cmd st r.seq r.sess p)

/-- A frame whose version is not supported or whose number is not the session's is answered in its place among the requests of
the connection's session (R138, R142, R144). -/
def State.refuseFrame (s : State) (r : Req) (cmd st : Nat) (p : Bytes) : State :=
  match s.mbx.sess.find? (·.conn == r.conn) with
  | none => s.answerRaw r cmd st p
  | some x =>
    if 8 ≤ x.outst.length then s
    else
      (s.modSess x.num fun y => { y with next := y.next + 1 }).flushSess x (x.outst ++ [⟨cmd, r.seq, some (st, p), x.next⟩])

/-- A request of a session has stored values whose final journal record is not programmed yet (R157). -/
def State.writing (s : State) (x : Sess) : Bool :=
  x.outst.any fun o => o.reply.isNone && s.mbx.journal.any fun j => j.rid.conn == x.conn && j.rid.sess == x.num && j.rid.no == o.no

/-- A request is admitted and served: the mailbox is up and the connection open, at most 8 requests are outstanding
(R144), and ST_VERSION, ST_SESSION, ST_LENGTH and ST_CLASS are checked in the order of R148 before `body`. Its row is
the instant it is processed: not before a stored write of the session is complete, so that a request sees what the ones before it
have written, but also while an earlier one waits for an effect that takes longer, as OPEN_STRING must that aborts a closing under
way (Table 13.3). DEDUCED (log 40). -/
def State.serve (s : State) (t : Nat) (r : Req) (cmd : Nat) (lenOk : Bool) (cls : Nat)
    (body : Rid → Sess → State → State × Reply) : State :=
  let s := s.at t
  if !s.mailboxUp then s
  else
    match s.conn? r.conn with
    | none => s
    | some c =>
      if !c.up then s
      else if r.ver ≠ 1 then s.refuseFrame r cmd stVersion [1]
      else
        match s.mbx.sess.find? (·.conn == r.conn) with
        | none => s.answerRaw r cmd stSession []
        | some x =>
          if x.num ≠ r.sess then s.refuseFrame r cmd stSession []
          else if decide (8 ≤ x.outst.length) || s.writing x then s
          else
            let rid : Rid := ⟨r.conn, x.num, cmd, r.seq, x.next⟩
            let s := s.modSess x.num fun y =>
              { y with lastFrame := s.now, outst := y.outst ++ [⟨cmd, r.seq, none, x.next⟩], next := x.next + 1,
                       txn := y.txn.map fun q => { q with lastFrame := s.now } }
            if !lenOk then s.answer rid stLength []
            else if x.cls < cls then s.answer rid stClass []
            else
              match body rid x s with
              | (s, .now st p) => s.answer rid st p
              | (s, .later) => s

/-- A request whose refusals are a list in the order of R148 and whose effect follows when none applies. -/
def guarded (checks : List (Bool × Nat × Bytes)) (s : State) (eff : State → State × Reply) : State × Reply :=
  match firstRef checks with
  | some (st, p) => (s, .now st p)
  | none => eff s

end Sys2Proof.Machine
end

