-- ==== Sys2Proof/Machine/History.lean ====
section
/-! DEFINITION. The history writer and the trace buffers (chapter 9): blocks, lap entries and their delta code, pins,
trace samples and geyser captures. -/

namespace Sys2Proof.Machine

open Sys2Proof.Obj

/-! ### Blocks of the lap ring (R253, R254, R256) -/

/-- Bytes of a block and of its header. -/
def blockBytes : Nat := 1048576

/-- Blocks in the lap ring of the variant (R253). -/
def State.lapRingBlocks (s : State) : Nat :=
  if s.nv.variant = 2 then 13824 else if s.nv.variant = 4 then 13312 else 12288

/-- A new open block with number `seq`. -/
def Blk.new (seq now : Nat) : Blk := ⟨seq, 0, 0, 64, now, false, false, false, false, false, [], []⟩

/-- The entries of a block fall in a pin's window. -/
def Blk.hits (b : Blk) (p : Pin) : Bool := b.times.any fun t => decide (p.from_ ≤ t) && decide (t < p.to_)

/-- The largest number of blocks that pins may hold (R262). -/
def State.pinCap (s : State) : Nat := s.lapRingBlocks * s.rd HistoryConfig.PIN_LIMIT / 100

/-- The closed blocks with PINNED set as the pins ask, newest first, at most `cap` of them. -/
def markPins (pins : List Pin) : Nat → List Blk → List Blk
  | _, [] => []
  | cap, b :: bs =>
    if pins.any b.hits && decide (0 < cap) then { b with pinned := true } :: markPins pins (cap - 1) bs
    else { b with pinned := false } :: markPins pins cap bs

/-- How many closed blocks the pins ask for. -/
def pinAsk (pins : List Pin) (bs : List Blk) : Nat := (bs.filter fun b => pins.any b.hits).length

/-- The oldest block of the ring that is neither pinned nor being sent is taken (R256); newest first. -/
def takeOldest (bs : List Blk) : List Blk :=
  let rec go : List Blk → List Blk
    | [] => []
    | b :: r => if b.pinned || b.sending then b :: go r else r
  (go bs.reverse).reverse

/-- The block the ring gives up next. -/
def oldestFree (bs : List Blk) : Option Blk := bs.reverse.find? fun b => !b.pinned && !b.sending

/-- HISTORY_STATUS follows the rings. -/
def State.histRegs (s : State) : State :=
  let h := s.hist
  let s := s.wr HistoryStatus.PINNED_BLOCKS 0 (h.lapRing.filter (·.pinned)).length
  let s := s.damagedReg
  let s := s.wr HistoryStatus.PIN_COUNT 0 h.pins.length
  match h.lapRing.head?, h.lapRing.getLast? with
  | some n, some o =>
    ((s.wr HistoryStatus.HEAD_SEQ 0 n.seq).wr HistoryStatus.OLDEST_SEQ 0 o.seq).wr HistoryStatus.OLDEST_TIME 0
      (timeVal o.first)
  | _, _ => s

/-- The oldest pins are released, whole, until the limits hold; what is released is counted. -/
def fitPins (cap : Nat) (bs : List Blk) : Nat → List Pin → List Pin × List Pin
  | 0, ps => (ps, [])
  | fuel + 1, ps =>
    match ps with
    | [] => ([], [])
    | [p] => if cap = 0 then ([], [p]) else ([p], [])
    | p :: q :: r =>
      if 16 < ps.length ∨ cap < pinAsk ps bs then
        let (k, d) := fitPins cap bs fuel (q :: r)
        (k, p :: d)
      else (ps, [])

/-- Window of a pin in an event's DATA. -/
def Pin.bytes (p : Pin) : Bytes := timeBytes p.from_ ++ timeBytes p.to_

/-- The pins that still fit PIN_LIMIT are kept, and the blocks follow them; the oldest are released, counted and recorded (R262). -/
def State.refitPins (s : State) : State :=
  let (keep, gone) := fitPins s.pinCap s.hist.lapRing 17 s.hist.pins
  let s := { s with hist := { s.hist with pins := keep, lapRing := markPins keep s.pinCap s.hist.lapRing } }
  let s := s.bump HistoryStatus.PINS_RELEASED_EARLY 0 gone.length
  (gone.foldl (fun s q => s.record 0x0703 1 q.bytes) s).histRegs

/-- The open lap block is closed, by age or at HOLDUP where so marked; the next LAP entries are KEY entries. -/
def State.closeLapBlock (s : State) (timeout holdup : Bool) : State :=
  match s.hist.lapOpen with
  | none => s
  | some b =>
    let b := { b with timeout := timeout, holdup := holdup }
    let ring := s.hist.lapRing
    let full := decide (s.lapRingBlocks ≤ ring.length + 1)
    let s := match full, oldestFree ring with
      | true, some o => s.loseBlock o
      | _, _ => s
    let gone := full && ((oldestFree ring).map (·.damaged)).getD false
    let ring := b :: (if full then takeOldest ring else ring)
    ({ s with hist := { s.hist with
      lapOpen := none, lapRing := ring, lapBad := gone, words := s.hist.words.map fun _ => none } }).refitPins

/-! ### The delta code (R258, R259) -/

/-- Raw data as 16-bit little-endian words, padded with 0x00 to an even length. -/
def words16 : Bytes → List Nat
  | [] => []
  | [a] => [a % 256]
  | a :: b :: r => (a % 256 + 256 * (b % 256)) :: words16 r

/-- The code of one difference: its tag bits and its bytes (Table 9.3). -/
def deltaCode (d : Nat) : Nat × Bytes :=
  if d = 0 then (0, [])
  else if d < 128 ∨ 65408 ≤ d then (1, [d % 256])
  else (2, toLE 2 d)

/-- The groups of eight differences, each a 16-bit tag and the codes of its words. -/
def deltaGroups : Nat → List Nat → Bytes
  | 0, _ => []
  | _, [] => []
  | fuel + 1, ds =>
    let g := (ds.take 8).map deltaCode
    let tag := (g.zipIdx.map fun (c, i) => c.1 * 4 ^ i).foldl (· + ·) 0
    toLE 2 tag ++ (g.map (·.2)).flatten ++ deltaGroups fuel (ds.drop 8)

/-- The delta code of words against a reference of the same length, all zero for a KEY entry (R258). -/
def deltaEncode (ref ws : List Nat) : Bytes :=
  let ds := (ws.zipIdx).map fun (w, i) => (w + 65536 - nth 0 ref i % 65536) % 65536
  deltaGroups ds.length ds

/-- Why LAP entries are stored uncompressed, 0 while they are not (R259): COMPRESS_EN, BACKUP, the manager die
short of pace after its first step of shedding (R43). -/
def State.compressOff (s : State) : Nat :=
  if !s.rdB HistoryConfig.COMPRESS_EN then 1
  else if s.power.supply == .backup then 2
  else if s.rdB DieStatus.PACE_LOW 0 && (nth Die.init s.dies 0).shedDeep then 3 else 0

/-- Each pause and resumption of compression is recorded (R259). In HOLDUP compression is halted for good, which is no pause and no
resumption (Table 3.4 step 7, log 16). -/
def State.compressCheck (s : State) : State :=
  let c := s.compressOff
  if s.inHoldup then s
  else if s.hist.paused = 0 ∧ c ≠ 0 then
    ({ s with hist := { s.hist with paused := c } }.wrB HistoryStatus.COMPRESSION_PAUSED 0 true).record 0x0704 1 [c]
  else if s.hist.paused ≠ 0 ∧ c = 0 then
    ({ s with hist := { s.hist with paused := 0 } }.wrB HistoryStatus.COMPRESSION_PAUSED 0 false).record 0x0705 1
      [s.hist.paused]
  else s

/-- Stored bytes, COMPRESSED and KEY of a LAP entry of string `str` (R258, R259); in HOLDUP compression is halted (R102). -/
def State.encodeLap (s : State) (str : Nat) (raw : Bytes) : Bytes × Bool × Bool :=
  if s.compressOff ≠ 0 || s.inHoldup then (raw, false, false)
  else
    let ws := words16 raw
    match nth none s.hist.words str with
    | some r => if r.length = ws.length then (deltaEncode r ws, true, false) else (deltaEncode [] ws, true, true)
    | none => (deltaEncode [] ws, true, true)

/-- The 16-byte header of a lap-ring entry (Table 9.2). -/
def entryHeader (kind str : Nat) (comp key : Bool) (len raw seq : Nat) : Bytes :=
  [kind, str, b2n comp + 2 * b2n key, 0] ++ toLE 4 len ++ toLE 4 raw ++ toLE 2 seq ++ [0, 0]

/-- An item is put into the open lap block, which must have room. -/
def State.pushItem (s : State) (item : Bytes) (time : Nat) : State :=
  let b := match s.hist.lapOpen with
    | some b => b
    | none => Blk.new s.hist.lapSeq s.now
  let s := match s.hist.lapOpen with
    | some _ => s
    | none => { s with hist := { s.hist with lapSeq := s.hist.lapSeq + 1 } }
  let b := { b with items := b.items ++ [item], times := b.times ++ [time],
                    first := if b.items.isEmpty then time else b.first, last := time,
                    opened := if b.items.isEmpty then s.now else b.opened,
                    used := b.used + (item.length + 3) / 4 * 4 }
  { s with hist := { s.hist with lapOpen := some b } }

/-- An item of `n` bytes fits in the open lap block. -/
def State.fits (s : State) (n : Nat) : Bool :=
  match s.hist.lapOpen with
  | none => true
  | some b => decide (b.used + (n + 3) / 4 * 4 ≤ blockBytes)

/-- At a new second INTAKE_RATE and STORED_RATIO report the second that has ended (Table 9.8); the ratio of a second that stored
nothing is left open (log 50). -/
def State.intakeSecond (s : State) : State :=
  let h := s.hist
  let sec := s.base / 1000000000
  if sec = h.intakeSec then s
  else
    let last := decide (sec = h.intakeSec + 1)
    let s := s.wr HistoryStatus.INTAKE_RATE 0 (if last then min 0xFFFFFFFF (h.bytesSec * 8 / 1000) else 0)
    let s := s.wr HistoryStatus.STORED_RATIO 0 (if last && decide (h.rawSec ≠ 0) then min 0xFFFF (1000 * h.bytesSec / h.rawSec)
      else Config.idleRatio)
    { s with hist := { h with intakeSec := sec, bytesSec := 0, rawSec := 0 } }

/-- The bytes counted for INTAKE_RATE and STORED_RATIO. -/
def State.countIntake (s : State) (stored raw : Nat) : State :=
  let s := s.intakeSecond
  { s with hist := { s.hist with bytesSec := s.hist.bytesSec + stored, rawSec := s.hist.rawSec + raw } }

/-- A LAP entry is written: lap instant, LAP_SEQ and raw data (R257). -/
def State.writeLap (s : State) (str time seq : Nat) (raw : Bytes) : State :=
  let s := s.compressCheck
  let (d, _, _) := s.encodeLap str raw
  let s := if s.fits (16 + d.length) then s else s.closeLapBlock false false
  let (d, comp, key) := s.encodeLap str raw
  let s := s.pushItem (entryHeader 1 str comp key d.length raw.length seq ++ d) time
  let s := s.countIntake (16 + d.length) (16 + raw.length)
  { s with hist := { s.hist with words := setNth (if comp then some (words16 raw) else none) s.hist.words str } }

/-- A LAP_GAP entry is written for a dropped lap (R257, R452). -/
def State.writeGap (s : State) (str time seq epoch : Nat) : State :=
  let d := timeBytes time ++ [0, 0] ++ toLE 4 epoch
  let s := if s.fits (16 + d.length) then s else s.closeLapBlock false false
  let s := s.pushItem (entryHeader 2 str false false 16 16 seq ++ d) time
  s.countIntake 32 32

/-! ### Pins (R261, R262) -/

/-- Overlapping windows, half-open as they are, become one pin; the rest keep their order, oldest first. -/
def mergePin (p : Pin) : List Pin → List Pin
  | [] => [p]
  | q :: qs =>
    if p.from_ < q.to_ ∧ q.from_ < p.to_ then mergePin ⟨min p.from_ q.from_, max p.to_ q.to_⟩ qs else q :: mergePin p qs

/-- A window is pinned around an instant of the time base (R261); a PIN_LIMIT of 0 disables pinning. -/
def State.pinAround (s : State) (at_ : Nat) : State :=
  if s.rd HistoryConfig.PIN_LIMIT = 0 then s
  else
    let p : Pin := ⟨at_ - secs (s.rd HistoryConfig.PIN_PRE), at_ + secs (s.rd HistoryConfig.PIN_POST)⟩
    let s := (s.closeLapBlock false false).closeEventBlock false false
    let s := ({ s with hist := { s.hist with pins := mergePin p s.hist.pins } }).refitPins
    s.record 0x0702 1 p.bytes

/-- Every pin is released (R262). -/
def State.releasePins (s : State) : State :=
  let ps := s.hist.pins
  let s := { s with hist := { s.hist with pins := [], lapRing := markPins [] 0 s.hist.lapRing } }
  (ps.foldl (fun s q => s.record 0x0703 1 q.bytes) s).histRegs

/-! ### Trace buffers (R266, R267) -/

/-- Samples a trace buffer holds. -/
def traceCap : Nat := 2097152

/-- The trace buffer of a channel. -/
def State.trace (s : State) (c : Nat) : Trace := nth Trace.init s.traces c

/-- The trace buffer of a channel is changed. -/
def State.modTrace (s : State) (c : Nat) (f : Trace → Trace) : State :=
  { s with traces := setNth (f (s.trace c)) s.traces c }

/-- CAPTURE_VALID and the capture fields follow the frozen slots. -/
def State.traceRegs (s : State) (c : Nat) : State :=
  let tr := s.trace c
  let s := s.wr TraceStatus.SAMPLES_HELD c tr.rolling.length
  let s := s.wrB TraceStatus.CAPTURE_PENDING c tr.pending.isSome
  let v := (tr.frozen.map fun k => 2 ^ (k.slot - 1)).foldl (· + ·) 0
  s.wr TraceStatus.CAPTURE_VALID c v

/-- A slot 1 to 3 that no frozen capture holds, lowest first. -/
def freeSlot (fr : List Capture) : Option Nat :=
  [1, 2, 3].find? fun k => !(fr.any fun c => c.slot == k)

/-- A capture is released: a TRACE_READ of it is aborted (R269). -/
def State.abortReads (s : State) (c slot : Nat) : State :=
  s.abortStreams fun q => q.kind == 2 && decide (field q.params 0 1 = c) && decide (field q.params 1 1 = slot)

/-- Samples of two lists, newest first in each, as one; a sample in both stands once. -/
def mergeSamples : Nat → List Sample → List Sample → List Sample
  | 0, _, _ => []
  | _, [], ys => ys
  | _, xs, [] => xs
  | n + 1, x :: xs, y :: ys =>
    if y.index < x.index then x :: mergeSamples n xs (y :: ys)
    else if x.index < y.index then y :: mergeSamples n (x :: xs) ys
    else x :: mergeSamples n xs ys

/-- The samples of a buffer, rolling and frozen, that lie at most `pre` before sample `x`, newest first. -/
def Trace.before (tr : Trace) (x : Sample) (pre : Nat) : List Sample :=
  let near (l : List Sample) : List Sample := l.filter fun y => decide (y.index < x.index) && decide (x.index ≤ y.index + pre)
  tr.frozen.foldl (fun l k => mergeSamples (2 * pre + 1) l (near k.samples)) (near tr.rolling)

/-- A trigger at the newest sample `x` starts a capture, joins the pending one, or is refused (R267). -/
def State.traceTrigger (s : State) (c cause : Nat) (x : Sample) : State :=
  let tr := s.trace c
  match tr.pending with
  | some p =>
    (s.modTrace c fun tr => { tr with pending := some { p with cause := Nat.lor p.cause cause } }).bump
      TraceStatus.TRIGGERS_MERGED c
  | none =>
    let fr := if (freeSlot tr.frozen).isSome then tr.frozen
      else if s.rdB TraceConfig.CAPTURE_REPLACE c then
        let oldest := tr.frozen.foldl (fun m k => min m k.order) tr.nextOrder
        tr.frozen.filter fun k => k.order != oldest
      else tr.frozen
    let s := (tr.frozen.filter fun k => !(fr.any fun j => j.slot == k.slot)).foldl (fun s k => s.abortReads c k.slot) s
    match freeSlot fr with
    | none => s.bump TraceStatus.CAPTURES_REFUSED c
    | some k =>
      let pre := tr.before x (s.rd TraceConfig.PRE_SAMPLES c)
      let cap : Capture := ⟨k, x.time, cause, s.rd TraceConfig.POST_SAMPLES c - 1, x :: pre, tr.nextOrder⟩
      (s.modTrace c fun tr => { tr with frozen := fr, pending := some cap, nextOrder := tr.nextOrder + 1 }).bump
        TraceStatus.TRIGGERS c

/-- A channel writes one trace sample, with the causes of capture that arise at it (R266, R267). -/
def State.traceSample (s : State) (c : Nat) (x : Sample) (causes : Nat) : State :=
  if !s.rdB TraceConfig.TRACE_EN c then s
  else
    let tr := s.trace c
    let cause := Nat.land (causes + b2n tr.asked) (s.rd TraceConfig.TRIGGER_MASK c)
    let x := { x with trigger := decide (cause ≠ 0) }
    let cap := traceCap - (tr.frozen.map fun k => k.samples.length).foldl (· + ·) 0
    let pend := tr.pending.map fun p =>
      if p.post = 0 then p else { p with post := p.post - 1, samples := x :: p.samples }
    let s := ((x :: tr.rolling).drop cap).reverse.foldl (fun (s : State) o => s.loseSample c o) s
    let s := s.modTrace c fun tr =>
      { tr with rolling := (x :: tr.rolling).take cap, pending := pend, asked := false }
    let s := if cause ≠ 0 then s.traceTrigger c cause x else s
    s.traceRegs c

/-- A pending capture whose post-window has ended is frozen into its slot, and its samples leave the ring (R267). -/
def State.freezeCapture (s : State) (c : Nat) : State :=
  match (s.trace c).pending with
  | none => s
  | some p =>
    if p.post ≠ 0 then s
    else
      let held (x : Sample) : Bool := p.samples.any fun y => y.index == x.index
      let s := s.modTrace c fun tr =>
        { tr with frozen := tr.frozen ++ [p], pending := none, rolling := tr.rolling.filter fun x => !held x }
      let s := s.wr TraceStatus.TRIGGER_TIME c (timeVal p.trigAt) (p.slot - 1)
      let s := s.wr TraceStatus.CAUSE c p.cause (p.slot - 1)
      let s := s.wr TraceStatus.SAMPLES c p.samples.length (p.slot - 1)
      (s.record 0x0706 1 [c, p.slot]).traceRegs c

/-- A frozen capture is released (R267, R269). -/
def State.releaseCapture (s : State) (c slot : Nat) : State :=
  ((s.abortReads c slot).modTrace c fun tr => { tr with frozen := tr.frozen.filter fun k => k.slot != slot }).traceRegs c

/-! ### Commands of this chapter -/

/-- BLOCK_MAX_AGE has passed since a block's first item, so the block is closed (R254). -/
def execBlockMaxAge (t : Nat) (s : State) : Host.Outcome State Fault Refusal :=
  let s := s.at t
  let age := s.rd HistoryConfig.BLOCK_MAX_AGE * msec 100
  let s := match s.hist.lapOpen with
    | some b => if b.opened + age ≤ s.now then s.closeLapBlock true false else s
    | none => s
  .next (if !s.hist.evOpen.isEmpty && decide (s.hist.evOpenAt + age ≤ s.now) then s.closeEventBlock true false else s)

/-- The post-window of a capture ends and it is frozen (R267). -/
def execCaptureFrozen (t ch : Nat) (s : State) : Host.Outcome State Fault Refusal :=
  .next ((s.at t).freezeCapture ch)

/-- TRIGGER_TRACE triggers geyser capture on the named channels (R268). One whose TRIGGER_MASK leaves the command out is answered
REFUSED (DEDUCED, log 49). -/
def execTriggerTrace (t : Nat) (r : Req) (p : Bytes) (s : State) : Host.Outcome State Fault Refusal :=
  .next (s.serve t r 0x0045 (p.length == 4) 2 fun _ _ s =>
    let m := field p 0 4
    let cs := (List.range 32).filter fun c => bitOf m c
    guarded [
      (cs.any fun c => !s.hasChan c, stAbsent, []),
      (cs.any fun c => !s.rdB TraceConfig.TRACE_EN c, refCond 0x0701)] s fun s =>
    let outcome (c : Nat) : Nat :=
      if !bitOf (s.rd TraceConfig.TRIGGER_MASK c) 0 then 3
      else if (s.trace c).pending.isSome then 2
      else if (freeSlot (s.trace c).frozen).isSome || s.rdB TraceConfig.CAPTURE_REPLACE c then 1 else 3
    let mask (k : Nat) : Nat := ((cs.filter fun c => outcome c == k).map fun c => 2 ^ c).foldl (· + ·) 0
    let s' := cs.foldl (fun s c => s.modTrace c fun tr => { tr with asked := true }) s
    (s', .now stOk (toLE 4 (mask 1) ++ toLE 4 (mask 2) ++ toLE 4 (mask 3))))

end Sys2Proof.Machine
end

