-- ==== Sys2Proof/Machine/SecurityOps.lean ====
section
/-! DEFINITION. Measurement slots (R118), the security state and the debug level as shared operations (R535 to
R541). -/

namespace Sys2Proof.Machine

open Sys2Proof.Obj

/-! ### Measurement slots -/

/-- Slot `n` is extended with an item (R118). -/
def State.extendSlot (s : State) (n : Nat) (item : Bytes) : State :=
  let old := toLE 48 (s.rd MeasurementSlot.SLOT_VALUE n)
  let s := s.wr MeasurementSlot.SLOT_VALUE n (ofLE (Config.sha384 (old ++ Config.sha384 item)))
  let s := s.bump MeasurementSlot.EXTEND_COUNT n
  if 8 ≤ s.boot.phase then s.stamp MeasurementSlot.LAST_EXTEND_TIME n else s

/-! ### Debug level and security state (Tables 21.1 and 21.2) -/

/-- The ceiling of a security state (R536). -/
def debugCeiling (sec : Nat) : Nat := if sec = 3 then 1 else if sec = 4 then 2 else 0

/-- The debug level of a security state with the probe attached or not (R536). -/
def State.debugLevelOf (s : State) (sec : Nat) : Nat :=
  if s.rdB SecurityStatus.PROBE_ATTACHED then debugCeiling sec else 0

/-- The security state and the debug level become what they are to be: slot 7 is extended with the new pair, event
0x1301 is recorded, and level 2 sets DEBUG_TAINTED (R537, R538). Nothing happens where neither changes. -/
def State.secChange (s : State) (new cause sess : Nat) : State :=
  let old := s.security
  let oldL := s.rd SecurityStatus.DEBUG_LEVEL
  let newL := s.debugLevelOf new
  if old = new ∧ oldL = newL then s
  else
    let s := (s.wr SecurityStatus.SECURITY_STATE 0 new).wr SecurityStatus.DEBUG_LEVEL 0 newL
    let s := if newL = 2 then s.wrB SecurityStatus.DEBUG_TAINTED 0 true else s
    let s := s.stamp SecurityStatus.LAST_CHANGE_TIME
    let s := if old = new then s else s.wr SecurityStatus.LAST_CHANGE_SESSION 0 sess
    let s := s.bump SecurityStatus.STATE_CHANGES
    let s := s.extendSlot 7 [new, newL]
    let s := s.record 0x1301 2 [old, new, oldL, newL, cause, sess]
    if old = new then s else s.attention 2

/-! ### Presence (R543) -/

/-- A request of session `sess` finds no valid presence token that serves it. -/
def State.noPresence (s : State) (sess : Nat) (jumperServes : Bool) : Bool := !s.tokenOk sess jumperServes

end Sys2Proof.Machine
end

