-- ==== Sys2Proof/Machine/CanOps.lean ====
section
/-! DEFINITION. The CAN channels as shared operations (chapter 18): new content of an object, what is offered to the bus,
fallback, and the start and the stop of a channel. -/

namespace Sys2Proof.Machine

open Sys2Proof.Obj

/-- CHANNEL_STATE codes of Table 18.5. -/
def canStopped : Nat := 0
@[inherit_doc canStopped] def canIntegrating : Nat := 1
@[inherit_doc canStopped] def canErrorActive : Nat := 2
@[inherit_doc canStopped] def canErrorPassive : Nat := 3
@[inherit_doc canStopped] def canBusOff : Nat := 4
@[inherit_doc canStopped] def canRecovering : Nat := 5

/-- The hidden state of channel `ch`. -/
def State.bus (s : State) (ch : Nat) : CanBus := nth CanBus.init s.can ch

/-- The hidden state of channel `ch` is changed. -/
def State.modBus (s : State) (ch : Nat) (f : CanBus → CanBus) : State := { s with can := setNth (f (s.bus ch)) s.can ch }

/-- The CAN channels take part in their buses (R495, Table 21.5). -/
def State.canUp (s : State) : Bool := s.running && decide (s.security ≠ 5) && s.thermal.first.isNone

/-- The channel is ERROR_ACTIVE or ERROR_PASSIVE. -/
def State.canOn (s : State) (ch : Nat) : Bool :=
  let q := s.rd CanChannel.CHANNEL_STATE ch
  decide (q = canErrorActive) || decide (q = canErrorPassive)

/-- The channel is in fallback (R494). -/
def State.fallback (s : State) (ch : Nat) : Bool :=
  let q := s.rd CanChannel.CHANNEL_STATE ch
  decide (q = canBusOff) || decide (q = canRecovering) || s.rdB CanChannel.NO_PARTNER ch

/-- The place of an object in the order of arbitration: the base identifier, a base-format frame first, then the rest of an
extended identifier (R489). -/
def State.canKey (s : State) (o : Nat) : Nat :=
  let i := s.rd CanObject.IDENTIFIER o
  if s.rdB CanObject.XTD o then i / 2 ^ 18 * 2 ^ 19 + 2 ^ 18 + i % 2 ^ 18 else i * 2 ^ 19

/-- The pending object that arbitration puts first. -/
def State.canFirst (s : State) : List (Nat × Bytes) → Option (Nat × Bytes)
  | [] => none
  | c :: cs =>
    match s.canFirst cs with
    | none => some c
    | some d => if s.canKey d.1 < s.canKey c.1 then some d else some c

/-- A free channel offers its first pending object to the bus (R489): the attempt begins. -/
def State.canOffer (s : State) (ch : Nat) : State :=
  let b := s.bus ch
  if b.busy.isSome || !s.canOn ch || s.rdB CanChannel.LISTEN_ONLY ch || !s.canUp || b.leaving then s
  else
    match s.canFirst b.pend with
    | none => s
    | some (o, d) =>
      (s.modBus ch fun b => { b with busy := some (o, d), pend := b.pend.filter fun x => x.1 ≠ o }).send
        (.can ch (o % 128) (s.rd CanObject.IDENTIFIER o) (s.rdB CanObject.XTD o) (s.rdB CanObject.FDF o) (s.rdB CanObject.BRS o) d)

/-- Content of an object is not delivered: a dispatch frame sets FRAME_FAILED (R445, R489). -/
def State.undelivered (s : State) (o : Nat) : State :=
  s.eachStr fun n s =>
    if s.rd CanObject.OWNER o = 2 ∧ s.rd StringDispatch.PCS_OBJECT n = o then s.wrB StringDispatch.FRAME_FAILED n true else s

/-- Content is dropped because the channel does not run (R482). -/
def State.canDrop (s : State) (o : Nat) : State :=
  ((s.wrB CanObject.TX_PENDING o false).wr CanObject.FAIL_CAUSE o 8).undelivered o

/-- CHANNEL_EN becomes 1: the channel runs bus integration, with its counters at 0 (R482). -/
def State.canIntegrate (s : State) (ch : Nat) : State :=
  ((s.wr CanChannel.CHANNEL_STATE ch canIntegrating).wr CanChannel.TEC ch 0).wr CanChannel.REC ch 0

/-- The channel has left the bus: every pending transmission is dropped. Where CHANNEL_EN has become 1 again meanwhile, it
integrates at once (R482). -/
def State.canLeave (s : State) (ch : Nat) : State :=
  let os := (s.bus ch).busy.toList.map (·.1) ++ (s.bus ch).pend.map (·.1)
  let s := s.modBus ch fun b => { b with busy := none, pend := [], fbq := [], leaving := false }
  let s := (os.foldl (fun s o => s.canDrop o) s).wr CanChannel.CHANNEL_STATE ch canStopped
  if s.rdB CanChannel.CHANNEL_EN ch && s.canUp then s.canIntegrate ch else s

/-- CHANNEL_EN becomes 0: a frame on the bus is finished first (R482). -/
def State.canStop (s : State) (ch : Nat) : State :=
  if (s.bus ch).busy.isSome && s.canOn ch then s.modBus ch fun b => { b with leaving := true } else s.canLeave ch

/-- CHANNEL_EN becomes 1: the channel integrates, once a frame of the run before has left the bus (R482). -/
def State.canStart (s : State) (ch : Nat) : State := if (s.bus ch).leaving then s else s.canIntegrate ch

/-- The subnet broadcast address of a port, in dotted byte order. -/
def State.broadcast (s : State) (port : Nat) : Nat :=
  let a := ofLE (toBE 4 (s.netNow 0 port))
  let host := 2 ^ (32 - min 32 (s.netNow 1 port))
  ofLE (toBE 4 (a / host * host + (host - 1)))

/-- The same datagram goes to an address on each network; address 0 is the subnet broadcast address. -/
def State.bothNets (s : State) (a b port : Nat) (bytes : Bytes) : State :=
  (s.send (.udp 1 (if a = 0 then s.broadcast 1 else a) port bytes)).send
    (.udp 2 (if b = 0 then s.broadcast 2 else b) port bytes)

/-- The fallback datagram of an object's content (Table 18.3). -/
def State.fallbackSend (s : State) (o : Nat) (d : Bytes) : State :=
  let ch := o / 128
  let q := s.rd CanChannel.CHANNEL_STATE ch
  let cause := if q = canBusOff then 1 else if q = canRecovering then 2 else 3
  let seq := ((s.bus ch).fbSeq + 1) % 65536
  let flags := 4 * s.rd CanObject.BRS o + 2 * s.rd CanObject.FDF o + s.rd CanObject.XTD o
  let bytes := toLE 4 0x43464442 ++ [1, ch, o % 128, flags] ++ toLE 4 (s.rd CanObject.IDENTIFIER o)
    ++ [d.length, cause, s.rd ModuleIdentity.BLOCK_ID, 0] ++ timeBytes s.base ++ toLE 2 seq ++ d
  let s := s.modBus ch fun b => { b with fbSeq := seq }
  (s.bump CanChannel.FALLBACK_SENT ch).bothNets (s.rd CanChannel.FALLBACK_ADDR_A ch) (s.rd CanChannel.FALLBACK_ADDR_B ch)
    (s.rd CanChannel.FALLBACK_UDP_PORT ch) bytes

/-- The newest content of an object that is pending. -/
def CanBus.content (b : CanBus) (o : Nat) : Option Bytes :=
  match b.pend.find? fun x => x.1 == o with
  | some (_, d) => some d
  | none =>
    match b.busy with
    | some (p, d) => if p = o then some d else none
    | none => none

/-- The channel enters fallback: one datagram for each pending object (R494). -/
def State.fallbackEnter (s : State) (ch : Nat) : State :=
  let b := s.bus ch
  let os := (List.range 128).filterMap fun k => (b.content (ch * 128 + k)).map fun d => (ch * 128 + k, d)
  (os.foldl (fun s (o, d) => s.fallbackSend o d) s).modBus ch fun b => { b with fbq := [] }

/-- A transmit object receives new content: it replaces content still pending and waits for an attempt under way (R488);
in fallback its datagram is due (R494). -/
def State.canContent (s : State) (o : Nat) (data : Bytes) : State :=
  let ch := o / 128
  let d := padTo (s.rd CanObject.DATA_LEN o) data
  let s := s.wr CanObject.DATA o (ofLE d)
  if !s.canUp || !s.rdB CanChannel.CHANNEL_EN ch || (s.bus ch).leaving then s.canDrop o
  else
    let again := (s.bus ch).pend.any fun x => x.1 == o
    let s := if again then (s.bump CanObject.TX_REPLACED o).undelivered o else s
    let s := s.modBus ch fun b => { b with pend := (b.pend.filter fun x => x.1 ≠ o) ++ [(o, d)] }
    let s := s.wrB CanObject.TX_PENDING o true
    let s := if s.fallback ch then
        s.modBus ch fun b => { b with fbq := b.fbq ++ [(o, d)] }
      else s
    s.canOffer ch

/-- An object is a transmit object of channel `ch` whose data field is as an owner needs it (R418, R445, R406). -/
def State.canFit (s : State) (o ch : Nat) (lenOk : Nat → Bool) : Bool :=
  decide (o / 128 = ch) && decide (s.rd CanObject.DIRECTION o = 2) && lenOk (s.rd CanObject.DATA_LEN o)

end Sys2Proof.Machine
end

