-- ==== Sys2Proof/Machine/Pcs.lean ====
section
/-! DEFINITION. Set-points and limits on their way to the PCS (R418 to R420, R444, R445): the clamp of CONVERTER outputs,
the frames of channels and of dispatch, and the local clamp. -/

namespace Sys2Proof.Machine

open Sys2Proof.Obj

/-- The hidden state of control channel `c`. -/
def State.chan (s : State) (c : Nat) : Chan := nth Chan.init s.chans c

/-- The hidden state of control channel `c` is changed. -/
def State.modChan (s : State) (c : Nat) (f : Chan → Chan) : State := { s with chans := setNth (f (s.chan c)) s.chans c }

/-- A field of CHANNEL_CONFIG or CHANNEL_REGIONS as the samples of a channel use it: a committed write takes effect at the first
instant after it (R429). -/
def State.cc (s : State) (f : Fld) (c : Nat) (i : Nat := 0) : Nat :=
  match (s.chan c).old.find? fun x => decide (x.key = f.key c i) with
  | some x => x.val
  | none => s.rd f c i
@[inherit_doc State.cc] def State.ccI (s : State) (f : Fld) (c : Nat) (i : Nat := 0) : Int := toInt f.width (s.cc f c i)
@[inherit_doc State.cc] def State.ccB (s : State) (f : Fld) (c : Nat) (i : Nat := 0) : Bool := s.cc f c i == 1

/-- The present control channels, ascending. -/
def State.chanList (s : State) : List Nat := List.range (4 * (s.strings + 1))

/-- The module knows a block manager (R123, R438). -/
def State.mgrKnown (s : State) : Bool := s.blk.known && !s.rdB BlockStatus.BLOCK_ID_CONFLICT

/-- A field of BLOCK_CONFIG as the current dispatch cycle uses it (R453). -/
def State.bc (s : State) (f : Fld) : Nat :=
  if s.blk.cfg.isEmpty then s.rd f else ofLE s.blk.cfg / 2 ^ f.pos % 2 ^ f.width

/-- The string is CLOSED. -/
def State.isClosed (s : State) (n : Nat) : Bool := decide (s.rd ProtectionStatus.SEQ_STATE n = 2)

/-- A limit of a string in mA, none where it reads not available (R332). -/
def State.limitOf (s : State) (f : Fld) (n : Nat) : Option Nat :=
  let v := s.rd f n
  if v = 0x80000000 then none else some v

/-- The limits dispatch uses: not available counts as 0 (R332, R441). -/
def State.chgLimit (s : State) (n : Nat) : Nat := (s.limitOf StringState.CHARGE_LIMIT n).getD 0
@[inherit_doc State.chgLimit] def State.disLimit (s : State) (n : Nat) : Nat := (s.limitOf StringState.DISCHARGE_LIMIT n).getD 0

/-- Firmware owners of the manager die produce content: not after step 7 of HOLDUP, and not while that die is halted
(R495, R547). -/
def State.ownersRun (s : State) : Bool :=
  s.running && !s.power.shed && decide (s.security ≠ 5) && !s.dieHalted 0 && s.thermal.first.isNone

/-! ### Channel outputs -/

/-- Control engines run (R430, Table 21.5). -/
def State.controlRuns (s : State) : Bool :=
  s.running && !s.power.shed && decide (s.security ≠ 5) && s.thermal.first.isNone

/-- An enabled CONVERTER channel of string `n`. -/
def State.isConv (s : State) (n c : Nat) : Bool :=
  s.rdB ChannelConfig.ENABLE c && decide (s.cc ChannelConfig.OUTPUT_KIND c = 3) && decide (s.cc ChannelConfig.OUTPUT_STRING c = n)

/-- A CONVERTER channel holds string `n` (R445). -/
def State.viaChannel (s : State) (n : Nat) : Bool := s.chanList.any fun c => s.isConv n c

/-- The clamp of CONVERTER outputs of string `n` in mA (R419). -/
def State.convClamp (s : State) (n : Nat) : Int × Int :=
  match s.limitOf StringState.CHARGE_LIMIT n, s.limitOf StringState.DISCHARGE_LIMIT n with
  | some c, some d =>
    if s.isClosed n && s.mgrKnown && !s.inHoldup && decide (s.security ≠ 4) then (-(d : Int), (c : Int)) else (0, 0)
  | _, _ => (0, 0)

/-- One millionth of a unit. -/
def micro : Int := 1000000

/-- The applied output of a channel in whole units, to the nearest. -/
def Chan.out (x : Chan) : Int := roundDiv x.y 1000000

/-- OUTPUT reports the applied output. -/
def State.outReg (s : State) (c : Nat) : State := s.wrI ChannelStatus.OUTPUT c (s.chan c).out

/-- A channel's output goes out in the data field of Table 15.5 (R420); the control engine and the CAN channels are hardware, so it
does while the probe holds the manager die's cluster too (R547). -/
def State.chanFrame (s : State) (c : Nat) : State :=
  let kind := s.cc ChannelConfig.OUTPUT_KIND c
  if (kind = 3 ∨ kind = 5) ∧ s.controlRuns = true then
    let x := s.chan c
    let str := s.cc ChannelConfig.OUTPUT_STRING c
    let flags := 4 * s.rd ChannelStatus.OUTPUT_LIMITED c + 2 * b2n (decide (s.rd ChannelStatus.CHANNEL_STATE c = 4))
      + s.rd ChannelStatus.DEADLINE_MISS c
    let seq := (x.outSeq + 1) % 256
    let b := toLE 4 (ofInt 32 x.out) ++ [str, c, flags, seq]
    (s.modChan c fun x => { x with outSeq := seq }).canContent (s.cc ChannelConfig.OUTPUT_TARGET c) b
  else s

/-- The members of a channel's mode group, itself included; the channel alone where it has none (R427). -/
def State.groupOf (s : State) (c : Nat) : List Nat :=
  let g := s.cc ChannelConfig.GROUP c
  if g = 0 then [c]
  else s.chanList.filter fun d => decide (d / 4 = c / 4) && decide (s.cc ChannelConfig.GROUP d = g) && s.rdB ChannelConfig.ENABLE d

/-- The applied output of a group goes into its members (R427). -/
def State.followOutput (s : State) (c : Nat) : State :=
  let y := (s.chan c).y
  ((s.groupOf c).filter fun d => decide (d ≠ c) && decide (s.rd ChannelStatus.CHANNEL_STATE d ≠ 1)).foldl (fun s d =>
    (s.modChan d fun x => { x with y := y }).outReg d) s

/-- A narrowed clamp takes effect on the CONVERTER output of string `n`; a changed clamp is reported and sent (R419, R420). -/
def State.clampNow (s : State) (n : Nat) : State :=
  let (lo, hi) := s.convClamp n
  (s.chanList.filter fun c => s.isConv n c).foldl (fun s c =>
    let same := decide (s.rdI ChannelStatus.CLAMP_HIGH c = hi) && decide (s.rdI ChannelStatus.CLAMP_LOW c = lo)
    let s := (s.wrI ChannelStatus.CLAMP_HIGH c hi).wrI ChannelStatus.CLAMP_LOW c lo
    let x := s.chan c
    if same || !x.act then s
    else
      let y := clampI (lo * micro) (hi * micro) x.y
      let s := if y = x.y then s
        else
          ((s.modChan c fun x => { x with y := y }).wrB ChannelStatus.OUTPUT_LIMITED c true).outReg c |>.followOutput c
      s.chanFrame c) s

/-! ### Dispatch frames -/

/-- Bytes of the dispatch frame (Table 16.6). -/
def State.dispatchBytes (s : State) (n seq : Nat) (chg dis : Nat) : Bytes :=
  let known := s.mgrKnown
  let flags := 8 * s.rd BlockStatus.HOLDING + 4 * b2n (!known) + 2 * s.rd StringDispatch.LOCAL_CLAMP n + b2n (s.isClosed n)
  let sp := if s.viaChannel n then 0x80000000 else s.rd StringDispatch.SETPOINT n
  toLE 4 sp ++ toLE 4 chg ++ toLE 4 dis ++ [n, s.rd ModuleIdentity.BLOCK_ID, flags, seq]

/-- The dispatch frame of a string is sent by its path (R445); without a manager its limits are 0 (R123, R447). -/
def State.dispatchFrame (s : State) (n : Nat) : State :=
  if !s.ownersRun || !s.hasStr n then s
  else
    let s := s.wrB StringDispatch.VIA_CHANNEL n (s.viaChannel n)
    let o := s.rd StringDispatch.PCS_OBJECT n
    let path := s.bc BlockConfig.PCS_PATH
    let fits := decide (256 ≤ o) && s.canFit o 2 fun l => l == 16
    let s := s.wrB StringDispatch.PCS_CFG_FAULT n (decide (path = 0) && !fits)
    if path = 0 ∧ fits = false then s
    else
      let chg := if s.mgrKnown then s.chgLimit n else 0
      let dis := if s.mgrKnown then s.disLimit n else 0
      let seq := (s.rd StringDispatch.DISPATCH_SEQ n + 1) % 256
      let b := s.dispatchBytes n seq chg dis
      let s := (s.wr StringDispatch.DISPATCH_SEQ n seq).bump StringDispatch.FRAMES_SENT n
      let s := (s.wr StringDispatch.CHARGE_LIMIT_SENT n chg).wr StringDispatch.DISCHARGE_LIMIT_SENT n dis
      let s := s.stamp StringDispatch.LAST_SENT_TIME n
      if path = 0 then s.canContent o b
      else s.bothNets (s.bc BlockConfig.PCS_ADDR_A) (s.bc BlockConfig.PCS_ADDR_B) (s.bc BlockConfig.PCS_UDP_PORT) b

/-- The set-point of a string is brought within its limits at once, where it lies outside them (R444). -/
def State.localClamp (s : State) (n : Nat) : State × Bool :=
  let sp := s.rdI StringDispatch.SETPOINT n
  let c := clampI (-(s.disLimit n : Int)) (s.chgLimit n) sp
  if c = sp then (s, false)
  else
    (((s.wrI StringDispatch.SETPOINT n c).wrB StringDispatch.LOCAL_CLAMP n true).bump StringDispatch.CLAMP_EVENTS n, true)

/-- A limit has fallen since the last frame by more than LIMIT_DROP_REPORT, or to 0 (R445). -/
def State.limitDropped (s : State) (n : Nat) : Bool :=
  let rep := s.bc BlockConfig.LIMIT_DROP_REPORT
  let drop (sent new : Nat) : Bool :=
    decide (new < sent) && (decide (new = 0) || decide (sent * rep < (sent - new) * 1000))
  s.mgrKnown && (drop (s.rd StringDispatch.CHARGE_LIMIT_SENT n) (s.chgLimit n) ||
    drop (s.rd StringDispatch.DISCHARGE_LIMIT_SENT n) (s.disLimit n))

/-- New limits of a string reach dispatch and the channels at a result instant (R47, R419, R444, R445). -/
def State.limitsReleased (s : State) (n : Nat) : State :=
  let s := s.clampNow n
  let (s, hit) := s.localClamp n
  if hit || s.limitDropped n then s.dispatchFrame n else s

/-- CLOSED of a string has changed: the clamp follows and a frame is sent (R419, R445). -/
def State.pcsClosed (s : State) (n : Nat) : State := (s.clampNow n).dispatchFrame n

end Sys2Proof.Machine
end

