-- ==== Sys2Proof/Machine/RoleOps.lean ====
section
/-! DEFINITION. The block manager role as shared operations (R432 to R437, R446, R447): peer messages of the module,
eligibility, taking, following and leaving the role, and the allocation that is held meanwhile. -/

namespace Sys2Proof.Machine

open Sys2Proof.Obj

/-! ### What the module sends (Tables 16.1 and 16.2) -/

/-- ROLE codes of Table 16.10. -/
def roleDiscovering : Nat := 0
@[inherit_doc roleDiscovering] def roleMember : Nat := 1
@[inherit_doc roleDiscovering] def roleManager : Nat := 2
@[inherit_doc roleDiscovering] def roleCandidate : Nat := 3

/-- The role of the module. -/
def State.role (s : State) : Nat := s.rd BlockStatus.ROLE

/-- The role epoch the module follows or holds, 0 none. -/
def State.roleEpoch (s : State) : Nat := s.rd BlockStatus.ROLE_EPOCH

/-- The MAC of a peer message: HMAC-SHA-256 under the block peer key, cut to 16 bytes (R432). -/
def State.peerMac (s : State) (m : Bytes) : Bytes := padTo 16 (Config.hmac (toLE 32 (s.rd SecurityStatus.PEER_KEY)) m)

/-- Header and body of a peer message (Table 16.1). -/
def State.peerBytes (s : State) (kind seq : Nat) (body : Bytes) : Bytes :=
  toLE 4 0x50454552 ++ [1, kind] ++ toLE 2 (s.bc BlockConfig.BLOCK_NUMBER)
    ++ [s.rd ModuleIdentity.BLOCK_ID, s.bc BlockConfig.PREFERENCE] ++ toLE 2 body.length ++ toLE 4 s.roleEpoch
    ++ toLE 4 seq ++ timeBytes s.base ++ [0, 0] ++ body

/-- A peer message goes to the subnet broadcast address of both networks, as two identical copies (R432, R446). -/
def State.sendPeer (s : State) (kind : Nat) (body : Bytes) : State :=
  if !s.ownersRun then s
  else
    let seq := if 0xFFFFFFFF ≤ s.blk.mySeq then 1 else s.blk.mySeq + 1
    let m := s.peerBytes kind seq body
    ({ s with blk := { s.blk with mySeq := seq } }).bothNets 0 0 s.blk.peerPort (m ++ s.peerMac m)

/-- DISPATCH_PERIOD, REPORT_OFFSET, SLOT_SPACING, ALLOC_OFFSET and APPLY_OFFSET of BLOCK_CONFIG. -/
def State.ownTiming (s : State) : List Nat := [
  s.bc BlockConfig.DISPATCH_PERIOD, s.bc BlockConfig.REPORT_OFFSET, s.bc BlockConfig.SLOT_SPACING,
  s.bc BlockConfig.ALLOC_OFFSET, s.bc BlockConfig.APPLY_OFFSET]

/-- Dispatch timing in force: what the manager announces, own values before one has (R440). -/
def State.timing (s : State) : List Nat := if s.blk.timing.isEmpty then s.ownTiming else s.blk.timing

/-- The power applied and the target as BLOCK_STATUS reports them, 0 before any was heard. -/
def State.wattsOf (s : State) (f : Fld) : Nat := if s.rd f = 0x80000000 then 0 else s.rd f

/-- ANNOUNCE (Table 16.2). -/
def State.sendAnnounce (s : State) (resigning : Bool) : State :=
  s.sendPeer 1 (toLE 4 (s.wattsOf BlockStatus.BLOCK_POWER_TARGET) ++ toLE 4 s.blk.ramp
    ++ toLE 4 (s.wattsOf BlockStatus.BLOCK_POWER_APPLIED) ++ [b2n resigning, 0, 0, 0]
    ++ (s.timing.map fun v => toLE 2 v).flatten ++ [0, 0])

/-- CANDIDATE (Table 16.2). -/
def State.sendCandidate (s : State) : State := s.sendPeer 2 (toLE 4 (s.blk.lastEpoch.getD 0))

/-! ### Eligibility and rank (R433, R434) -/

/-- A PTP domain is locked: TIME_STATE LOCKED or HOLDOVER (R468). -/
def State.ptpLocked (s : State) : Bool :=
  let q := s.rd TimeStatus.TIME_STATE
  decide (q = 1) || decide (q = 2)

/-- R433, with the last column of Table 21.5. -/
def State.eligible (s : State) : Bool :=
  decide (s.bc BlockConfig.ROLE_CAPABLE = 1) && s.running && decide (s.security = 1) &&
    (s.power.supply == .normal || s.power.supply == .backup) && s.ptpLocked && !s.rdB DieStatus.PACE_LOW 0 &&
    !s.rdB BlockStatus.BLOCK_ID_CONFLICT &&
    (s.rdB MailboxStatus.NET_A_LINK || s.rdB MailboxStatus.NET_B_LINK)

/-- PREFERENCE and BLOCK_ID of one module come before those of another (R434). -/
def betterRank (prefA idA prefB idB : Nat) : Bool :=
  decide (prefA < prefB) || (decide (prefA = prefB) && decide (idA < idB))

/-- The sender ranks better than this module. -/
def State.outranked (s : State) (pref id : Nat) : Bool :=
  betterRank pref id (s.bc BlockConfig.PREFERENCE) (s.rd ModuleIdentity.BLOCK_ID)

/-! ### Epochs (R437) -/

/-- The epoch after one (R17). -/
def epochAfter (e : Nat) : Nat := if 0xFFFFFFFF ≤ e then 1 else e + 1

/-- The first epoch from `e` on that is not among those heard. -/
def freeEpoch (heard : List Nat) : Nat → Nat → Nat
  | 0, e => e
  | fuel + 1, e => if heard.contains e then freeEpoch heard fuel (epochAfter e) else e

/-- The epochs heard within the last 5 s. -/
def State.heardEpochs (s : State) : List Nat := (s.blk.heard.filter fun h => decide (s.now ≤ h.2 + secs 5)).map (·.1)

/-- A new role epoch. -/
def State.newEpoch (s : State) : Nat :=
  let last := s.blk.lastEpoch.getD (s.rd BootStatus.BOOT_COUNT % 65536 * 65536)
  let h := s.heardEpochs
  freeEpoch h h.length (epochAfter last)

/-! ### Knowing a manager (R123, R447) -/

/-- The clamp of every string's CONVERTER outputs follows what the module knows of its manager (R419). -/
def State.clampAll (s : State) : State := s.eachStr fun n s => s.clampNow n

/-- No manager is known: set-points and limits to the PCS go to 0 (R123, R438, R447). -/
def State.forgetManager (s : State) : State :=
  s.eachStr fun n s => ((s.wr StringDispatch.SETPOINT n 0).clampNow n).dispatchFrame n

/-- The last allocation is held for ALLOC_HOLD (R447). A holding under way keeps its end. -/
def State.beginHold (s : State) : State :=
  if !s.blk.known || s.rdB BlockStatus.HOLDING then s
  else
    ({ s with blk := { s.blk with holdUntil := some (s.now + msec (s.bc BlockConfig.ALLOC_HOLD)) } }).wrB
      BlockStatus.HOLDING 0 true

/-- A manager is known from now on, unless an allocation is being held for it. -/
def State.knowManager (s : State) : State :=
  if s.blk.known then s else ({ s with blk := { s.blk with known := true } }).clampAll

/-- The fields only the manager keeps return to their reset values. -/
def State.clearManagerRegs (s : State) : State :=
  let s := (s.wr BlockStatus.STALE_MASK 0 0).wrB BlockStatus.POWER_CLIPPED 0 false
  let s := s.wrB BlockStatus.HOST_TIMEOUT_ACTIVE 0 false
  (s.wr BlockStatus.BLOCK_CHG_LIMIT 0 0xFFFFFFFF).wr BlockStatus.BLOCK_DIS_LIMIT 0 0xFFFFFFFF

/-- The block role changes, which is a cause of attention (Table 19.3). -/
def State.setRole (s : State) (r : Nat) : State :=
  if s.role = r then s else (s.wr BlockStatus.ROLE 0 r).attention 7

/-- The module becomes DISCOVERING and listens for `listen` ns (Table 16.3, R453). -/
def State.discover (s : State) (listen : Nat) : State :=
  let s := { s with blk := { s.blk with listenFrom := s.now, listen := listen, candAt := none, mgr := none, members := []
                                        reopen := false } }
  let s := (s.setRole roleDiscovering).wr BlockStatus.MANAGER_BLOCK_ID 0 0xFF
  (s.wr BlockStatus.ROLE_EPOCH 0 0).clearManagerRegs

/-! ### Changes of role (Table 16.3) -/

/-- A member loses its manager (R446, R447). -/
def State.loseManager (s : State) : State :=
  let s := s.record 0x0E03 2 ([s.rd BlockStatus.MANAGER_BLOCK_ID] ++ toLE 4 s.roleEpoch)
  ((s.bump BlockStatus.MANAGER_LOSSES).beginHold).discover 0

/-- A manager that is no longer eligible resigns. -/
def State.resign (s : State) : State :=
  let s := s.sendAnnounce true
  let s := s.record 0x0E02 2 (toLE 4 s.roleEpoch ++ [2])
  (s.beginHold).discover 0

/-- ELIGIBLE follows R433, and a manager that is not eligible resigns. -/
def State.roleCheck (s : State) : State :=
  let e := s.eligible
  let s := s.wrB BlockStatus.ELIGIBLE 0 e
  if !e && decide (s.role = roleManager) then s.resign else s

/-- The module adopts a manager and its epoch. -/
def State.adopt (s : State) (id pref epoch : Nat) : State :=
  let s := if s.role = roleManager then
      (s.record 0x0E02 2 (toLE 4 s.roleEpoch ++ [1])).clearManagerRegs
    else s
  let s := if s.roleEpoch = epoch ∧ s.rd BlockStatus.MANAGER_BLOCK_ID = id then s else s.stamp BlockStatus.ROLE_TIME
  let s := { s with blk := { s.blk with mgr := some (id, pref), lastEpoch := some epoch, candAt := none, members := []
                                        reopen := false } }
  let s := (s.setRole roleMember).wr BlockStatus.MANAGER_BLOCK_ID 0 id
  (s.wr BlockStatus.ROLE_EPOCH 0 epoch).knowManager

/-- A new epoch is opened and announced at once. -/
def State.openEpoch (s : State) : State :=
  let e := s.newEpoch
  let s := { s with blk := { s.blk with lastEpoch := some e, reopen := false } }
  (s.wr BlockStatus.ROLE_EPOCH 0 e).stamp BlockStatus.ROLE_TIME

/-- The candidate becomes manager (R437, R447). -/
def State.gainRole (s : State) : State :=
  let id := s.rd ModuleIdentity.BLOCK_ID
  let s := s.openEpoch
  let s := (s.setRole roleManager).wr BlockStatus.MANAGER_BLOCK_ID 0 id
  let s := (s.wr BlockStatus.BLOCK_POWER_TARGET 0 (s.wattsOf BlockStatus.BLOCK_POWER_TARGET)).wr
    BlockStatus.BLOCK_POWER_APPLIED 0 (s.wattsOf BlockStatus.BLOCK_POWER_APPLIED)
  let ramp := if s.blk.ramp = 0 then s.bc BlockConfig.BLOCK_RAMP else s.blk.ramp
  let s := { s with blk := { s.blk with
    mgr := some (id, s.bc BlockConfig.PREFERENCE), candAt := none, members := [], timing := s.ownTiming, ramp := ramp
    target := s.rdI BlockStatus.BLOCK_POWER_TARGET, p := s.rdI BlockStatus.BLOCK_POWER_APPLIED * micro
    hostAt := s.now, nextSend := s.now + msec 100 } }
  let s := s.wrB BlockStatus.CONFIG_MISMATCH 0 false
  ((s.record 0x0E01 1 (toLE 4 s.roleEpoch)).sendAnnounce false).knowManager

end Sys2Proof.Machine
end

