-- ==== Sys2Proof/Machine/Protection.lean ====
section
/-! DEFINITION. Protection of a string as shared operations (chapter 13): coils, inhibits, trips, openings, the safe
loop, and the closing conditions. -/

namespace Sys2Proof.Machine

open Sys2Proof.Obj

/-! ### Readings -/

/-- SEQ_STATE codes of Table 13.3. -/
def seqOpen : Nat := 0
@[inherit_doc seqOpen] def seqClosing : Nat := 1
@[inherit_doc seqOpen] def seqClosed : Nat := 2
@[inherit_doc seqOpen] def seqOpening : Nat := 3
@[inherit_doc seqOpen] def seqTripped : Nat := 4

/-- The sequence state of a string. -/
def State.seqState (s : State) (n : Nat) : Nat := s.rd ProtectionStatus.SEQ_STATE n

/-- The last settled value of a sequencer entry, which protection judges (R282). -/
def State.seqVal (s : State) (n e : Nat) : Int := nth 0 (s.str n).fe.vals e

/-- STRING_V, BUS_V, POS_CONTACT and NEG_CONTACT of the fixed entries, in mV (R280). -/
def State.stringV (s : State) (n : Nat) : Int := s.seqVal n 0
@[inherit_doc State.stringV] def State.busV (s : State) (n : Nat) : Int := s.seqVal n 1
@[inherit_doc State.stringV] def State.posContact (s : State) (n : Nat) : Int := s.seqVal n 2
@[inherit_doc State.stringV] def State.negContact (s : State) (n : Nat) : Int := s.seqVal n 3

/-- |STRING_V - BUS_V| (R375, R376). -/
def State.deltaV (s : State) (n : Nat) : Nat := (s.stringV n - s.busV n).natAbs

/-- `len` bytes at offset `off` of the profile in force on a string (R370). -/
def State.prof (s : State) (n off len : Nat) : Nat := field (s.str n).profile off len

/-- A profile is in force on the string. -/
def State.hasProf (s : State) (n : Nat) : Bool := !(s.str n).profile.isEmpty

/-- The caldera latch is set (R400). -/
def State.caldera (s : State) : Bool := s.thermal.first.isSome

/-- A mirror contact reads 1, open: 0 positive, 1 negative, 2 precharge (R65). -/
def State.mirror (s : State) (n c : Nat) : Bool :=
  match c with
  | 0 => s.rdB StringTerminals.FB_POS n
  | 1 => s.rdB StringTerminals.FB_NEG n
  | _ => s.rdB StringTerminals.FB_PRE n

/-- Coil `c` of a string. -/
def Prot.coil (p : Prot) (c : Nat) : Coil :=
  match c with
  | 0 => p.cpos
  | 1 => p.cneg
  | _ => p.cpre

/-- Coil `c` is changed. -/
def Prot.modCoil (p : Prot) (c : Nat) (f : Coil → Coil) : Prot :=
  match c with
  | 0 => { p with cpos := f p.cpos }
  | 1 => { p with cneg := f p.cneg }
  | _ => { p with cpre := f p.cpre }

/-- A pick-up interval lasts 200 ms (R83, R375). -/
def pickTime : Nat := msec 200

/-- Some coil of the module is in its pick-up interval (R83). -/
def State.pickBusy (s : State) : Bool :=
  s.strList.any fun n => [0, 1, 2].any fun c =>
    ((s.prot n).coil c).on && decide (s.now < ((s.prot n).coil c).pickAt + pickTime)

/-! ### Coils -/

/-! ### Insulation monitor and the bus group (R291, R292) -/

/-- The closed strings of the module: its bus group (R291). -/
def State.busGroup (s : State) : List Nat :=
  s.strList.filter fun n => s.enabled n && !s.mirror n 0 && !s.mirror n 1

/-- Measurement pauses on a string for its own precharge (R292). -/
def State.imdHeld (s : State) (n : Nat) : Bool :=
  let f := (s.str n).fe
  f.imdPre || (match f.imdPauseEnd with
    | some e => decide (s.now < e)
    | none => false)

/-- The strings a measurement of string `n` is for: its bus group, or itself. -/
def State.imdGroup (s : State) (n : Nat) : List Nat := if s.busGroup.contains n then s.busGroup else [n]

/-- The member that injects: the lowest that may and whose monitor has not failed. -/
def State.imdInjector (s : State) : Option Nat :=
  s.busGroup.find? fun n => decide (s.rd SequenceConfig.IMD_BUS_ROLE n ≠ 1) && !(s.str n).fe.imdFail

/-- IMD_STATE as R291 and R292 give it. -/
def State.imdNow (s : State) (n : Nat) : Nat :=
  if !(s.str n).fe.up then 0
  else if s.busGroup.contains n && decide (s.rd SequenceConfig.IMD_BUS_ROLE n = 1) then 5
  else if (s.imdGroup n).any fun m => s.imdHeld m then 4
  else if !s.busGroup.contains n then 1
  else if s.imdInjector = some n then 2
  else 3

/-- One string's monitor follows its contactors, pauses and role: a change of the group discards the cycle in progress. -/
def State.imdOne (s : State) (n : Nat) : State :=
  let q := s.imdNow n
  let key := s.imdGroup n
  let same := decide (s.rd InsulationStatus.IMD_STATE n = q) && decide ((s.str n).fe.imdKey = key)
  let s := (s.wr InsulationStatus.IMD_STATE n q).wrB InsulationStatus.PAUSED_PRECHARGE n (key.any fun m => s.imdHeld m)
  let s := s.wrB InsulationStatus.BUS_PASSIVE n (decide (q = 5))
  let s := if q = 5 then
      ((s.wr InsulationStatus.R_ISO n 0xFFFFFFFF).wr InsulationStatus.R_ISO_POS n 0xFFFFFFFF).wr InsulationStatus.R_ISO_NEG n
        0xFFFFFFFF
    else s
  if same then s else s.modStr n fun x => { x with fe := { x.fe with imdKey := key, imdCycleAt := s.now } }

/-- Every monitor follows. -/
def State.imdSync (s : State) : State := s.eachStr fun n s => s.imdOne n

/-- The ON bits of PROTECTION_STATUS follow the coils. -/
def State.coilRegs (s : State) (n : Nat) : State :=
  let p := s.prot n
  ((s.wrB ProtectionStatus.POS_ON n p.cpos.on).wrB ProtectionStatus.NEG_ON n p.cneg.on).wrB
    ProtectionStatus.PRE_ON n p.cpre.on

/-- A coil picks up. The closing of the precharge relay starts the insulation pause (R292). -/
def State.coilOn (s : State) (n c : Nat) : State :=
  let bad := if s.mirror n c then some s.now else none
  let s := s.modProt n fun p => p.modCoil c fun k =>
    { k with on := true, pickAt := s.now, badSince := bad, offAt := none, lastPulse := s.now, test := none, told := false, peak := none,
             held := false }
  let s := if c = 2 then (s.modStr n fun x => { x with fe := { x.fe with imdPre := true, imdPauseEnd := none } }).imdSync else s
  (s.coilRegs n).send (.coil n c true)

/-- A coil is switched off at both switches; the end of a precharge is remembered (Table 13.4, 0x0B12). -/
def State.coilOff (s : State) (n c : Nat) : State :=
  if ((s.prot n).coil c).on then
    let bad := if s.mirror n c then none else some s.now
    let s := s.modProt n fun p => p.modCoil c fun k =>
      { k with on := false, offAt := some s.now, badSince := bad, test := none, told := false, pick := k.peak.or k.pick, peak := none }
    let s := if c = 2 then
        ((s.modProt n fun p => { p with preEnd := some s.now }).modStr n fun x =>
          { x with fe := { x.fe with imdPre := false, imdPauseEnd := some (s.now + secs 10) } }).imdSync
      else s
    (s.coilRegs n).send (.coil n c false)
  else s

/-- The wire tests deferred while a string's contactors were closed are asked for as it opens (R243). -/
def State.testsOpened (s : State) (n : Nat) : State :=
  let r := s.ring n
  let held (x : Wire) : Bool := x.want && x.deferred
  let due := r.nodes.zipIdx.flatMap fun (y, k) => (y.wires.filter held).map fun x => (k, x.w)
  if due.isEmpty then s
  else
    let cmd (x : Nat × Nat) : NodeCmd :=
      ⟨x.1, 0x14, [x.2, 0, 0, 0], .wire x.2 none, s.rd RingStatus.TOPO_EPOCH n, 0, 0, 0⟩
    let asked (x : Wire) : Wire := if held x then { x with want := false, deferred := false } else x
    let s := (List.range 32).foldl (fun (s : State) e => s.wrB WireStatus.TEST_DEFERRED n false e) s
    s.modRing n fun r => { r with
      cmds := r.cmds ++ due.map cmd
      nodes := r.nodes.map fun y => { y with wires := y.wires.map asked } }

/-- Every coil of a string is switched off (R359). -/
def State.allOff (s : State) (n : Nat) : State := (((s.coilOff n 0).coilOff n 1).coilOff n 2).testsOpened n

/-! ### SAFE LOOP OUT (R384) -/

/-- The module's own causes to open SAFE LOOP OUT. -/
def State.loopOwn (s : State) : Bool :=
  (s.rdB SafeTelegramConfig.SL_ON_TRIP && s.strList.any fun n => decide (s.rd ProtectionStatus.LATCH_CAUSE n ≠ 0)) ||
    s.safe.openLoop || s.caldera || s.boot.halt

/-- The SAFE LOOP OUT switch follows its causes; the module becomes the origin when OUT opens for its own cause
while IN reads closed, and the 100 ms of R384 start when that cause ends. -/
def State.loopOut (s : State) : State :=
  let own := s.loopOwn
  let inOpen := s.rdB ModuleTerminals.SAFE_LOOP_IN_OPEN
  let origin := s.safe.origin || (own && !s.safe.own && !inOpen)
  let ended := if own then none else if s.safe.own then some s.now else s.safe.ownEnd
  let s := { s with safe := { s.safe with own := own, origin := origin, ownEnd := ended } }
  s.wrB ModuleTerminals.SAFE_LOOP_OUT_OPEN 0 (own || (inOpen && s.rdB SafeTelegramConfig.SL_FOLLOW && !origin))

/-! ### Dispatch set-points of a string -/

/-- The string's dispatch set-point goes to zero at once (R377). -/
def State.zeroSetpoint (s : State) (n : Nat) : State := s.wr StringDispatch.SETPOINT n 0

/-! ### Causes of inhibits (R373, Table 13.10) -/

/-- The security or power state keeps the strings open (R538, R541, R546). -/
def State.securityHolds (s : State) : Bool :=
  decide (s.security = 4) || s.rdB SecurityStatus.DEBUG_TAINTED || decide (s.security = 5)

/-- A valid profile is in force on the string and the fast comparator never acts below the slower trip (R371, R372). -/
def State.profileOk (s : State) (n : Nat) : Bool :=
  s.hasProf n && (decide (s.rd ModuleTerminals.PROFILE_APPLIED ≠ 15) ||
    (s.rdB IntegratorProfile.PROFILE_VALID &&
      let v := s.prof n 0x3E 2 * 10000 * 1000000   -- FAST_OC_V in nV × 10^6
      let r := s.rd CoulombConfig.SHUNT_R n        -- nΩ
      decide (s.prof n 0x34 4 * 1000 * r ≤ v) && decide (s.prof n 0x38 4 * 1000 * r ≤ v)))

/-- ENABLE_MISSING is in force (R388). -/
def State.enableMissing (s : State) (n : Nat) : Bool :=
  s.rdB ContactorConfig.ENABLE_REQUIRED n &&
    match (s.prot n).enableUntil with
    | none => true
    | some u => decide (u ≤ s.now)

/-- The insulation condition 0x0B10 fails (Table 13.4). -/
def State.isoBad (s : State) (n : Nat) : Bool :=
  let trip := s.prof n 0x44 4
  s.hasProf n && decide (trip ≠ 0) &&
    (!s.rdB InsulationStatus.VALID n || decide (s.rd InsulationStatus.R_ISO n < trip))

/-- INHIBIT of a string as its causes stand (Table 13.10). -/
def State.inhibitBits (s : State) (n : Nat) : Nat :=
  let p := s.prot n
  b2n (s.rdB ModuleTerminals.SAFE_LOOP_IN_OPEN) + 2 * b2n p.remote + 4 * b2n (s.enableMissing n)
    + 8 * b2n (s.rdB ModuleTerminals.COIL_SUPPLY_LOW || s.rdB ModuleTerminals.COIL_SUPPLY_HIGH)
    + 16 * b2n (s.rdB StringTerminals.CONN_OPEN n) + 32 * b2n (s.rdB StringTerminals.FLOOP_OPEN n)
    + 64 * b2n (decide (p.diag % 256 ≠ 0)) + 128 * b2n (!p.cellOk) + 256 * b2n s.securityHolds
    + 512 * b2n (!s.profileOk n) + 1024 * b2n (s.isoBad n)

/-- The opening inhibits: bits 0, 1, 2 and 8 (R373). -/
def openingInhibit (b : Nat) : Bool := bitOf b 0 || bitOf b 1 || bitOf b 2 || bitOf b 8

/-- INHIBIT takes the value its causes give, and a change of it is recorded (R373). -/
def State.noteInhibit (s : State) (n : Nat) : State :=
  let old := s.rd ProtectionStatus.INHIBIT n
  let new := s.inhibitBits n
  if old = new then s
  else (s.wr ProtectionStatus.INHIBIT n new).record 0x0B03 2 (toLE 2 old ++ toLE 2 new) n

/-! ### An ENABLE_DEBUG that waits for the strings (R541) -/

/-- Every string is OPEN or TRIPPED. -/
def State.allResting (s : State) : Bool :=
  s.strList.all fun n => decide (s.seqState n = seqOpen) || decide (s.seqState n = seqTripped)

/-- An ENABLE_DEBUG with LEVEL 2 that waits is completed once every string rests (R541). -/
def State.debugSettle (s : State) : State :=
  if s.sec.dbgWait && s.allResting then
    let r := s.sec.dbgRid
    let s := { s with sec := { s.sec with dbgWait := false, dbgRid := none } }
    let s := s.secChange 4 1 (r.elim 0 (·.sess))
    (s.eachStr fun n s => s.noteInhibit n).answerOpt r stOk []
  else s

/-! ### Openings that are not trips (Table 13.3) -/

/-- The closing under way of a string ends: what waits for it is answered. -/
def State.endClosing (s : State) (n st : Nat) (p : Bytes) : State :=
  let r := (s.prot n).closeRid
  let s := s.modProt n fun q => { q with closeRid := none, fbAt := none, stepAt := 0 }
  (s.wr ProtectionStatus.CLOSING_STEP n 0).answerOpt r st p

/-- The openings under way of a string are answered. -/
def State.endOpening (s : State) (n st : Nat) (p : Bytes) : State :=
  let rs := (s.prot n).openRid
  let s := s.modProt n fun q => { q with openRid := [], openPhase := 0 }
  rs.foldl (fun s r => s.answer r st p) s

/-- A coil of the string is energised. -/
def Prot.anyOn (p : Prot) : Bool := p.cpos.on || p.cneg.on || p.cpre.on

/-- A string is opened at once: every coil off, OPEN, what is under way answered, and event 0x0B05 with its cause where
the string was CLOSED or OPENING (or CLOSING, for the protection path, R44, and for step 8 of HOLDUP where a relay or contactor
was driven, Table 3.4). -/
def State.openNow (s : State) (n cause : Nat) : State :=
  let q := s.seqState n
  let driven := (s.prot n).anyOn
  if q = seqOpen ∨ q = seqTripped then s.allOff n
  else
    let s := (s.allOff n).zeroSetpoint n
    let s := s.wr ProtectionStatus.SEQ_STATE n seqOpen
    let s := if q = seqClosed then s.pcsClosed n else s
    let s := if q = seqClosing then s.endClosing n stCondition (condDetail 0x0B14 n) else s
    let s := s.endOpening n stOk []
    let s := s.modProt n fun p => { p with judge := [] }
    (if q = seqClosing ∧ cause ≠ 4 ∧ (cause ≠ 3 ∨ driven = false) then s else s.record 0x0B05 1 [cause] n).debugSettle

/-- Every string is opened through the protection path (R31, R34, R44). -/
def State.openAll (s : State) (cause : Nat) : State := s.eachStr fun n s => s.openNow n cause

/-! ### Inhibits (R373, Table 13.10) -/

/-- INHIBIT follows its causes: each change is recorded, any new inhibit ends a closing sequence, and an opening inhibit
opens a CLOSED or OPENING string (R373). -/
def State.refresh (s : State) (n : Nat) : State :=
  let old := s.rd ProtectionStatus.INHIBIT n
  let s := s.noteInhibit n
  let new := s.rd ProtectionStatus.INHIBIT n
  let q := s.seqState n
  if q = seqClosing ∧ Nat.land new (2047 - Nat.land old 2047) ≠ 0 then s.openNow n 2
  else if (q = seqClosed ∨ q = seqOpening ∨ q = seqClosing) ∧ openingInhibit new then s.openNow n 2
  else s

/-- Every present string's inhibits follow their causes. -/
def State.refreshAll (s : State) : State := s.eachStr fun n s => s.refresh n

/-- The security state and the debug level change, and the inhibits follow (R537, R538). -/
def State.setSecurity (s : State) (new cause sess : Nat) : State := (s.secChange new cause sess).refreshAll

/-! ### Trips (R359, R381) -/

/-- The bytes a TRIP_LOG entry is chosen by: LATCHED, SECONDARY of a string that is still latched, empty. -/
def State.tripClass (s : State) (e : Nat) : Nat :=
  if s.rd TripLog.STRING e = 0 then 0
  else if s.rdB TripLog.LATCHED e && !s.rdB TripLog.CLEARED e then 3
  else if s.rdB TripLog.SECONDARY e && !s.rdB TripLog.CLEARED e &&
      decide (s.rd ProtectionStatus.LATCH_CAUSE (s.rd TripLog.STRING e) ≠ 0) then 2
  else 1

/-- When an entry was made: its run, then its time. -/
def State.tripAge (s : State) (e : Nat) : Nat :=
  s.rd TripLog.BOOT_COUNT e * 2 ^ 90 + timeNs (s.rd TripLog.TRIP_TIME e)

/-- The entry of least age among those of class `c`, if any. -/
def State.oldestTrip (s : State) (c : Nat) : Option Nat :=
  (List.range 32).foldl (fun b e =>
    if s.tripClass e = c then
      match b with
      | none => some e
      | some k => if s.tripAge e < s.tripAge k then some e else some k
    else b) none

/-- The entry a new trip takes: an empty one, else the oldest that is neither LATCHED nor a SECONDARY of a latched
trip, else the oldest such SECONDARY (R381). -/
def State.tripSlot (s : State) : Nat :=
  match (List.range 32).find? fun e => s.tripClass e == 0 with
  | some e => e
  | none =>
    match s.oldestTrip 1 with
    | some e => e
    | none => (s.oldestTrip 2).getD 0

/-- What a trip names besides its cause: node, channel, value, limit, and byte 0x03 of its entry. -/
structure TripInfo where
  node : Nat
  chan : Nat
  value : Nat
  limit : Nat
  corr : Nat
  deriving DecidableEq, Repr

/-- A trip that names no node and no value. -/
def TripInfo.plain : TripInfo := ⟨0xFFFF, 0xFF, 0x80000000, 0x80000000, 0⟩

/-- A TRIP_LOG entry is written. -/
def State.writeTrip (s : State) (e n cause : Nat) (i : TripInfo) (second : Bool) : State :=
  let corr := i.corr + b2n (s.rdB ModuleTerminals.COIL_SUPPLY_LOW) + 2 * b2n (s.rdB StringTerminals.CONN_OPEN n)
  let s := s.wr TripLog.STRING e n
  let s := s.wr TripLog.CAUSE e cause
  let s := s.wrB TripLog.CLEARED e false
  let s := s.wrB TripLog.SECONDARY e second
  let s := s.wrB TripLog.LATCHED e (!second)
  let s := s.wrB TripLog.WIRE_CORRELATED e (bitOf corr 4)
  let s := s.wrB TripLog.LOOP_BREAK e (bitOf corr 3)
  let s := s.wrB TripLog.COMPARATOR_ORIGIN e (bitOf corr 2)
  let s := s.wrB TripLog.CONN_OPEN e (bitOf corr 1)
  let s := s.wrB TripLog.COIL_SUPPLY_LOW e (bitOf corr 0)
  let s := s.wr TripLog.NODE e i.node
  let s := s.wr TripLog.CHANNEL e i.chan
  let s := s.wr TripLog.TOPO_EPOCH e (if i.node = 0xFFFF then 0 else s.rd RingStatus.TOPO_EPOCH n)
  let s := s.wr TripLog.VALUE e i.value
  let s := s.wr TripLog.LIMIT e i.limit
  let s := s.stamp TripLog.TRIP_TIME e
  let s := s.wr TripLog.CLEAR_TIME e timeNA
  let s := s.wr TripLog.CLEAR_SESSION e 0
  s.wr TripLog.BOOT_COUNT e s.nv.bootCount

/-- The store keeps one object's registers of one instance as they stand now. -/
def Store.keepInst (from_ into : Store) (obj inst : Nat) : Store :=
  let rest := into.filter fun c => !(c.1.obj == obj && c.1.inst == inst)
  (from_.filter fun c => c.1.obj == obj && c.1.inst == inst).foldl (fun a c => a.ins c.1 c.2) rest

/-- TRIP_LOG and the sets of causes are stored, unless HOLDUP has been entered (R381). -/
def State.storeTrips (s : State) (e : Nat) : State :=
  if s.inHoldup then s
  else { s with nv := { s.nv with store := s.objs.keepInst s.nv.store 0x0B05 e,
                                  causes := s.strs.map fun x => x.prot.causes } }

/-- A string trips: every coil off, TRIPPED, the entry, event 0x0B01, and what is under way answered (Table 13.3). After
step 8 of HOLDUP no trip is raised (R378), and while the caldera latch is set none is entered: every coil is off and the dies write
nothing (R401). -/
def State.trip (s : State) (n cause : Nat) (i : TripInfo := .plain) : State :=
  if s.power.opened || s.caldera then s
  else
    let q := s.seqState n
    let second := decide (s.rd ProtectionStatus.LATCH_CAUSE n ≠ 0)
    let e := s.tripSlot
    let s := (s.allOff n).zeroSetpoint n
    let s := s.writeTrip e n cause i second
    let s := s.wr ProtectionStatus.SEQ_STATE n seqTripped
    let s := if q = seqClosed then s.pcsClosed n else s
    let s := s.bump ProtectionStatus.TRIPS n
    let s := if second then s else
      ((s.wr ProtectionStatus.LATCH_CAUSE n cause).stamp ProtectionStatus.LATCH_TIME n).wr ProtectionStatus.LATCH_ENTRY n e
    let s := s.modProt n fun p => { p with causes := if p.causes.contains cause then p.causes else p.causes ++ [cause],
                                           tripAt := if second then p.tripAt else some s.now, judge := [] }
    let s := s.storeTrips e
    let epoch := if i.node = 0xFFFF then 0 else s.rd RingStatus.TOPO_EPOCH n
    let corr := s.rd TripLog.WIRE_CORRELATED e * 16 + s.rd TripLog.LOOP_BREAK e * 8 + s.rd TripLog.COMPARATOR_ORIGIN e * 4
      + s.rd TripLog.CONN_OPEN e * 2 + s.rd TripLog.COIL_SUPPLY_LOW e
    let s := s.record 0x0B01 4 [e, cause, corr, b2n (!second)] n i.node epoch
    let s := if q = seqClosing then s.endClosing n stCondition (condDetail 0x0B01 n) else s
    let s := s.endOpening n stCondition (condDetail 0x0B01 n)
    let s := if second then s
      else
        let s := if s.rdB HistoryConfig.PIN_ON_TRIP then s.pinAround s.base else s
        s.attention 0
    s.loopOut.debugSettle

/-- Table 13.2 flags in the order of its rows: SUM_MISMATCH 0, COULOMB_MISMATCH 1, REF_FAULT 2, CMD_SEQ_FAULT 3,
TEMP_UNKNOWN 4, a wire state 5, CMP_CONFIG_FAULT 6, NODE_FAULT or CMP_TEST_FAIL 7, TOPO_OVERSIZE 8. A flag of the rows
that trip makes a DIAGNOSTIC trip when it arises on a CLOSING or CLOSED string; WARN follows the first six. -/
def State.setDiag (s : State) (n flag : Nat) (b : Bool) (node : Nat := 0xFFFF) : State :=
  let old := (s.prot n).diag
  if bitOf old flag = b then s
  else
    let s := s.modProt n fun p => { p with diag := setBit p.diag flag b }
    let s := if flag ≤ 5 then s.wr ProtectionStatus.WARN n (setBit (s.rd ProtectionStatus.WARN n) (flag + 1) b) else s
    let q := s.seqState n
    if b && decide (6 ≤ flag) && (decide (q = seqClosing) || decide (q = seqClosed)) then
      (s.trip n 18 { TripInfo.plain with node := node }).refresh n
    else s.refresh n

/-! ### Start and closing conditions (R130, R374) -/

/-- Every numbered node of the string's topology is authenticated. -/
def State.allAuth (s : State) (n : Nat) : Bool :=
  (List.range (s.rd RingStatus.NODE_COUNT n)).all fun k => !s.rdB Topology.UNAUTHENTICATED n k

/-- The ledger condition of START_CLOSE_POLICY as applied at the start (R130, R132). -/
def State.ledgerOk (s : State) (n : Nat) : Bool :=
  (s.str n).restored.isSome ||
    (decide (nth 0 s.boot.cfg 0 = 1) &&
      match (s.str n).firstLap with
      | none => false
      | some f => decide (f + secs (nth 60 s.boot.cfg 1) ≤ s.now))

/-- The first unmet start condition of R130, as its condition code. -/
def State.startUnmet (s : State) (n : Nat) : Option Nat :=
  if s.panel.retry then some 0x0301
  else if !s.rdB PowerStatus.HOLDUP_READY then some 0x0302
  else if s.rd RingStatus.NODE_COUNT n = 0 ∨ s.rdB RingStatus.TOPO_OVERSIZE n = true ∨ s.allAuth n = false then some 0x0303
  else if (s.str n).firstLap = none then some 0x0304
  else if !s.ledgerOk n then some 0x0305
  else none

/-- The hold current counted for a coil, and its pick-up current (R85). -/
def Coil.holdMa (k : Coil) : Nat := k.hold.getD 2000
@[inherit_doc Coil.holdMa] def Coil.pickMa (k : Coil) : Nat := k.pick.getD 8000

/-- The peak of a string's own sequence, with or without precharge (R85). -/
def seqPeak (p : Prot) (pre : Bool) : Nat :=
  if pre then
    max p.cpre.pickMa (max (p.cpre.holdMa + p.cneg.pickMa) (p.cpre.holdMa + p.cneg.holdMa + p.cpos.pickMa))
  else max p.cneg.pickMa (p.cneg.holdMa + p.cpos.pickMa)

/-- The hold current of the energised coils of a string. -/
def holdSum (p : Prot) : Nat :=
  (if p.cpos.on then p.cpos.holdMa else 0) + (if p.cneg.on then p.cneg.holdMa else 0)
    + (if p.cpre.on then p.cpre.holdMa else 0)

/-- The pick-up interval of a coil has ended. -/
def Coil.picked (k : Coil) (now : Nat) : Bool := k.on && decide (k.pickAt + pickTime ≤ now)

/-- The largest current still to come in a closing sequence at step `k`: that of each pick-up that has not ended, and the hold
currents once every pick-up has (R85). DESIGN CHOICE (log 10): at the recheck of a closing step (R374) the closing string itself
counts what is still to come too; R85 names its whole peak for the request. -/
def seqToCome (p : Prot) (pre : Bool) (k now : Nat) : Nat :=
  let hold := if pre then p.cpre.holdMa else 0
  let prePart := if pre && !p.cpre.picked now && (decide (k ≤ 1) || p.cpre.on) then p.cpre.pickMa else 0
  let negPart := if p.cneg.picked now then 0 else hold + p.cneg.pickMa
  let posPart := if p.cpos.picked now then holdSum p else hold + p.cneg.holdMa + p.cpos.pickMa
  max prePart (max negPart posPart)

/-- The coil current a closing of string `n` would bring about, in mA (R85). -/
def State.coilBudget (s : State) (n : Nat) (pre : Bool) : Nat :=
  let others := (s.strList.filter (· ≠ n)).map fun m =>
    let p := s.prot m
    if s.seqState m = seqClosing then seqToCome p p.needPre (s.rd ProtectionStatus.CLOSING_STEP m) s.now else holdSum p
  sumL others + (if s.seqState n = seqClosing then
      seqToCome (s.prot n) pre (s.rd ProtectionStatus.CLOSING_STEP n) s.now else seqPeak (s.prot n) pre)

/-- The security and power state permits closing (Table 21.5, condition 0x0B0B). -/
def State.mayClose (s : State) : Bool :=
  s.running && !s.inHoldup && !s.securityHolds && !s.caldera && !s.sec.dbgWait

/-- The first unmet closing condition of Table 13.4, as its code; `retry` asks for 0x0B12, which only the acceptance
judges. -/
def State.closeUnmet (s : State) (n : Nat) (pre retry : Bool) : Option Nat :=
  let p := s.prot n
  if s.rd ProtectionStatus.LATCH_CAUSE n ≠ 0 then some 0x0B01
  else if !s.mayClose then some 0x0B0B
  else if !s.profileOk n then some 0x0B11
  else if s.rdB ModuleTerminals.SAFE_LOOP_IN_OPEN then some 0x0B02
  else if p.remote then some 0x0B03
  else if s.enableMissing n then some 0x0B04
  else if s.rdB ModuleTerminals.COIL_SUPPLY_LOW || s.rdB ModuleTerminals.COIL_SUPPLY_HIGH then some 0x0B05
  else if s.rdB StringTerminals.CONN_OPEN n then some 0x0B06
  else if s.rdB StringTerminals.FLOOP_OPEN n then some 0x0B07
  else if p.diag % 256 ≠ 0 then some 0x0B08
  else if !p.cellOk then some 0x0B09
  else if s.isoBad n then some 0x0B10
  else if retry && (match p.preEnd with
      | some e => decide (s.now < e + secs (s.rd ContactorConfig.PRECHARGE_RETRY_WAIT n))
      | none => false) then some 0x0B12
  else if 20000 < s.coilBudget n pre then some 0x0B0A
  else none

end Sys2Proof.Machine
end

