-- ==== Sys2Proof/Machine/Contactors.lean ====
section
/-! DEFINITION. The contactor sequences of a string (R373 to R380): closing, precharge, commanded opening, mirror
contacts and the drive tests. -/

namespace Sys2Proof.Machine

open Sys2Proof.Obj

/-! ### Shared pieces of a sequence -/

/-- A voltage weld check is skipped: contactor 1 positive, 2 negative (R375, Table 13.2). -/
def State.weldUnchecked (s : State) (n contactor : Nat) : State :=
  let s := s.modProt n fun p => { p with weldFlag := true }
  (s.bump ProtectionStatus.WELD_UNCHECKED_COUNT n).record 0x0B06 2 [contactor] n

/-- REF_FAULT stands on the string, so voltage weld checks are skipped (Table 13.2). -/
def State.refFault (s : State) (n : Nat) : Bool := bitOf (s.prot n).diag 2

/-- |BUS_V| is below WELD_V, so the bus is dead (R375). -/
def State.busDead (s : State) (n : Nat) : Bool := decide ((s.busV n).natAbs < s.rd ContactorConfig.WELD_V n)

/-- Step 2 of a closing on a dead bus finds BUS_V at WELD_V or above (Table 13.5). -/
def State.negWelded (s : State) (n : Nat) : Bool :=
  let p := s.prot n
  decide (s.seqState n = seqClosing) && p.needPre && decide (s.rd ProtectionStatus.CLOSING_STEP n = 2) && !p.liveBus &&
    !s.refFault n && !s.busDead n

/-- The string enters CLOSED (Table 13.3). -/
def State.enterClosed (s : State) (n : Nat) : State :=
  let p := s.prot n
  let s := s.wr ProtectionStatus.SEQ_STATE n seqClosed
  let s := s.wr ProtectionStatus.CLOSING_STEP n 0
  let s := s.bump ProtectionStatus.CLOSINGS n
  let s := s.stamp ProtectionStatus.LAST_CLOSE_TIME n
  let s := if p.needPre then
      s.wr ProtectionStatus.PRECHARGE_TIME n (min ((p.preDone.getD s.now - p.step3At) / msec 1) 0xFFFE)
    else s
  let s := s.wr ProtectionStatus.WARN n (setBit (s.rd ProtectionStatus.WARN n) 7 p.weldFlag)
  let s := s.pcsClosed n
  let s := s.record 0x0B04 1 (toLE 2 (s.rd ProtectionStatus.PRECHARGE_TIME n)) n
  let s := s.modProt n fun q => { q with closeRid := none, fbAt := none, stepAt := 0 }
  s.answerOpt p.closeRid stOk []

/-- The precharge of a closing string is complete when |STRING_V - BUS_V| is within PRECHARGE_DV (R376). -/
def State.precharged (s : State) (n : Nat) : State :=
  let p := s.prot n
  let k := s.rd ProtectionStatus.CLOSING_STEP n
  if s.seqState n = seqClosing ∧ p.needPre = true ∧ (k = 4 ∨ k = 5) ∧ p.preDone = none
      ∧ s.deltaV n ≤ s.rd ContactorConfig.PRECHARGE_DV n then
    s.modProt n fun q => { q with preDone := some s.now }
  else s

/-- A closing conditions check precedes what step `k` does; an unmet condition ends the sequence as an inhibit
(R374). -/
def State.closingGo (s : State) (n k : Nat) (act : State → State) : State :=
  let p := s.prot n
  if (s.startUnmet n).isSome || (s.closeUnmet n p.needPre false).isSome then s.openNow n 2
  else act (s.wr ProtectionStatus.CLOSING_STEP n k)

/-- A coil of a closing string picks up; the first pick-up is the reference of Table 13.5. -/
def State.pickUp (s : State) (n c : Nat) : State :=
  let s := s.coilOn n c
  s.modProt n fun p => { p with stepAt := if p.stepAt = 0 then s.now else p.stepAt }

/-- The transition of a closing sequence with precharge that is due, if one is (Table 13.5). -/
def State.closeWithPre (s : State) (n : Nat) : State :=
  let p := s.prot n
  let weld := s.rd ContactorConfig.WELD_V n
  match s.rd ProtectionStatus.CLOSING_STEP n with
  | 1 =>
    if p.cpre.on = false then if s.pickBusy then s else s.closingGo n 1 fun s => s.pickUp n 2
    else if s.mirror n 2 then s
    else s.closingGo n 2 fun s => s.modProt n fun q => { q with fbAt := some s.now }
  | 2 =>
    if s.negWelded n then s.trip n 13
    else if s.now < p.fbAt.getD s.now + msec (s.rd ContactorConfig.NEG_TEST_TIME n) then s
    else s.closingGo n 3 fun s => if p.liveBus || s.refFault n then s.weldUnchecked n 2 else s
  | 3 =>
    if s.now < p.stepAt + pickTime ∨ s.pickBusy = true then s
    else s.closingGo n 4 fun s =>
      (s.pickUp n 1).modProt n fun q => { q with step3At := s.now, fbAt := none, preDone := none }
  | 4 =>
    match p.fbAt with
    | none =>
      if s.mirror n 1 = false ∧ (s.refFault n = true ∨ (s.negContact n).natAbs < weld) then
        s.modProt n fun q => { q with fbAt := some s.now }
      else s
    | some f =>
      if s.now < f + msec 2 then s
      else if p.dv0 < 2 * weld ∨ s.refFault n = true then s.closingGo n 5 fun s => s.weldUnchecked n 1
      else if 2 * (s.posContact n).natAbs < p.dv0 then s.trip n 12
      else s.closingGo n 5 fun s => s
  | 5 =>
    let s := s.precharged n
    if (s.prot n).preDone = none ∨ s.now < p.stepAt + 2 * pickTime ∨ s.pickBusy = true then s
    else s.closingGo n 6 fun s => (s.pickUp n 0).modProt n fun q => { q with fbAt := none }
  | 6 =>
    if s.mirror n 0 then s
    else s.closingGo n 7 fun s => s.modProt n fun q => { q with fbAt := some s.now }
  | 7 =>
    if s.now < p.fbAt.getD s.now + msec (s.rd ContactorConfig.PRECHARGE_OVERLAP n) then s
    else s.closingGo n 8 fun s => s.coilOff n 2
  | 8 => if s.mirror n 2 then s.closingGo n 8 fun s => s.enterClosed n else s
  | _ => s

/-- The transition of a closing sequence without precharge that is due, if one is (R375). -/
def State.closeNoPre (s : State) (n : Nat) : State :=
  let p := s.prot n
  match s.rd ProtectionStatus.CLOSING_STEP n with
  | 3 =>
    if p.cneg.on = false then
      if s.pickBusy then s
      else s.closingGo n 3 fun s => ((s.pickUp n 1).weldUnchecked n 1).weldUnchecked n 2
    else if s.pickBusy then s
    else s.closingGo n 6 fun s => s.pickUp n 0
  | 6 => if s.mirror n 0 then s else s.closingGo n 8 fun s => s.enterClosed n
  | _ => s

/-! ### Closing -/

/-- CLOSE_STRING: the start conditions and the closing conditions are checked and the sequence begins (R373, R374). -/
def execCloseString (t : Nat) (r : Req) (p : Bytes) (s : State) : Host.Outcome State Fault Refusal :=
  .next (s.serve t r 0x0040 (p.length == 4) 2 fun rid _ s =>
    let n := nth 0 p 0
    let q := s.seqState n
    let dv := s.deltaV n
    let pre := decide (s.rd ContactorConfig.PRECHARGE_DV n < dv)
    if !s.hasStr n then (s, .now stAbsent [])
    else if q = seqClosing ∨ q = seqClosed then (s, .now stOk [])
    else if q = seqOpening then (s, .now stCondition (condDetail 0x0B0C n))
    else
      match s.startUnmet n with
      | some c => (s, .now stCondition (condDetail c n))
      | none =>
        match s.closeUnmet n pre true with
        | some c => (s, .now stCondition (condDetail c n))
        | none =>
          let live := !s.busDead n
          let s := s.wr ProtectionStatus.SEQ_STATE n seqClosing
          let s := s.wr ProtectionStatus.CLOSING_STEP n (if pre then 1 else 3)
          let s := s.modProt n fun x => { x with closeRid := some rid, dv0 := dv, needPre := pre, liveBus := live,
                                                 stepAt := 0, fbAt := none, preDone := none, weldFlag := false }
          (s, .later))

/-- A closing sequence step falls due by time or feedback and acts (Table 13.5). -/
def execClosingStep (t str : Nat) (s : State) : Host.Outcome State Fault Refusal :=
  let s := s.at t
  .next (if s.hasStr str = true ∧ s.running = true ∧ s.seqState str = seqClosing then
    (if (s.prot str).needPre then s.closeWithPre str else s.closeNoPre str)
  else s)

/-- Precharge supervision: complete, or failed at half or at the whole of PRECHARGE_TIMEOUT from step 3 (R376). -/
def execPrechargeFail (t str : Nat) (s : State) : Host.Outcome State Fault Refusal :=
  let s := (s.at t).precharged str
  let p := s.prot str
  let k := s.rd ProtectionStatus.CLOSING_STEP str
  let out := msec (s.rd ContactorConfig.PRECHARGE_TIMEOUT str)
  .next (if s.hasStr str = true ∧ s.seqState str = seqClosing ∧ p.needPre = true ∧ (k = 4 ∨ k = 5) ∧ p.preDone = none then
    if p.step3At + out ≤ s.now then s.trip str 16
    else if p.step3At + out / 2 ≤ s.now ∧ p.dv0 ≤ 2 * s.deltaV str then s.trip str 16
    else s
  else s)

/-! ### Commanded opening (R377) -/

/-- A commanded opening begins: set-points to zero, and the wait for the current. -/
def State.startOpening (s : State) (n : Nat) : State :=
  let i := s.rdI CoulombStatus.CURRENT n
  let s := s.zeroSetpoint n
  let s := (s.wr ProtectionStatus.SEQ_STATE n seqOpening).pcsClosed n
  let s := if s.rd ContactorConfig.OPEN_I_MAX n < i.natAbs then s.bump ProtectionStatus.OPEN_UNDER_LOAD n else s
  s.modProt n fun p => { p with openPhase := 1, openAt := s.now, judge := [] }

/-- The opening of a string is complete when both coils are off and every mirror contact reads open (Table 13.3). -/
def State.openingDone (s : State) (n : Nat) : State :=
  let p := s.prot n
  if s.seqState n = seqOpening ∧ p.openPhase = 3 ∧ s.mirror n 0 = true ∧ s.mirror n 1 = true ∧ s.mirror n 2 = true then
    let s := s.wr ProtectionStatus.SEQ_STATE n seqOpen
    let s := s.modProt n fun q => { q with judge := [] }
    let s := s.record 0x0B05 1 [1] n
    (s.endOpening n stOk []).debugSettle
  else s

/-- OPEN_STRING (R373, R377). -/
def execOpenString (t : Nat) (r : Req) (p : Bytes) (s : State) : Host.Outcome State Fault Refusal :=
  .next (s.serve t r 0x0041 (p.length == 4) 2 fun rid _ s =>
    let n := nth 0 p 0
    let q := s.seqState n
    if !s.hasStr n then (s, .now stAbsent [])
    else if q = seqOpen ∨ q = seqTripped then (s, .now stOk [])
    else if q = seqClosing then (s.openNow n 1, .now stOk [])
    else
      let s := if q = seqClosed then s.startOpening n else s
      (s.modProt n fun x => { x with openRid := x.openRid ++ [rid] }, .later))

/-- The current falls to OPEN_I_MAX, or OPEN_WAIT expires: the positive coil is switched off (R377 steps 2 and 3). -/
def execOpenWait (t str : Nat) (s : State) : Host.Outcome State Fault Refusal :=
  let s := s.at t
  let p := s.prot str
  .next (if s.hasStr str = true ∧ s.seqState str = seqOpening ∧ p.openPhase = 1 ∧
      ((s.rdI CoulombStatus.CURRENT str).natAbs ≤ s.rd ContactorConfig.OPEN_I_MAX str ∨
        p.openAt + msec (s.rd ContactorConfig.OPEN_WAIT str) ≤ s.now) then
    (s.coilOff str 0).modProt str fun q => { q with openPhase := 2, phaseAt := s.now, judge := [0] }
  else s)

/-- 20 ms after the positive coil, the negative coil is switched off (R377 step 4). -/
def execNegCoilOff (t str : Nat) (s : State) : Host.Outcome State Fault Refusal :=
  let s := s.at t
  let p := s.prot str
  .next (if s.hasStr str = true ∧ s.seqState str = seqOpening ∧ p.openPhase = 2 ∧ p.phaseAt + msec 20 ≤ s.now then
    ((s.coilOff str 1).modProt str fun q => { q with openPhase := 3, phaseAt := s.now, judge := q.judge ++ [1, 2] }).openingDone
      str
  else s)

/-- FB_TIME after its coil switched off, one contact is judged open or welded (R377 step 5). -/
def State.judgeCoil (s : State) (n c : Nat) : State :=
  let p := s.prot n
  let from_ := if c = 2 then p.cneg.offAt.getD s.now else (p.coil c).offAt.getD s.now
  if p.judge.contains c ∧ from_ + msec (s.rd ContactorConfig.FB_TIME n) ≤ s.now then
    let s := s.modProt n fun q => { q with judge := q.judge.filter (· ≠ c) }
    if s.mirror n c then s
    else
      let left := (s.prot n).judge
      let left := if c = 0 ∧ left.isEmpty = true then [1, 2] else left
      let s := s.trip n (12 + c)
      s.modProt n fun q => { q.modCoil c fun k => { k with told := true } with judge := left }
  else s

/-! ### Supervision (R378) -/

/-- The cause with which a coil's mirror contact disagrees with its drive: 11 of an energised coil, 14 of one that is
off; none where they agree. -/
def State.mirrorCause (s : State) (n c : Nat) : Option Nat :=
  if ((s.prot n).coil c).on then if s.mirror n c then some 11 else none
  else if s.mirror n c then none else some 14

/-- Supervision acts on a CLOSING or CLOSED string of a running module, and not after step 8 of HOLDUP. -/
def State.supervised (s : State) (n : Nat) : Bool :=
  s.running && !s.power.opened && (decide (s.seqState n = seqClosing) || decide (s.seqState n = seqClosed))

/-- The mirror of a coil that is off is watched in every state but OPENING, where R377 judges it (R378). -/
def State.watchedOff (s : State) (n : Nat) : Bool :=
  s.running && !s.power.opened && decide (s.seqState n ≠ seqOpening)

/-- A coil takes a current read while it is energised: the largest of its pick-up interval, and the first after it as the hold
current of that closing (R85, log 10). -/
def Coil.take (k : Coil) (now ma : Nat) : Coil :=
  if now < k.pickAt + pickTime then { k with peak := some (max ma (k.peak.getD 0)) }
  else if k.held then k
  else { k with hold := some ma, held := true, pick := k.peak.or k.pick, peak := none }

/-- The current of a coil is read: an energised coil takes it, and one below 20 mA is open, which trips a supervised string
(Table 2.10, R61, R378). -/
def State.coilCurrent (s : State) (n c ma : Nat) : State :=
  if ((s.prot n).coil c).on then
    let s := s.modProt n fun p => p.modCoil c fun k => k.take s.now ma
    if s.supervised n && decide (ma < 20) then s.trip n 11 else s
  else s

/-- One coil is supervised with its measured current in mA and its mirror contact: a disagreement longer than FB_TIME trips, once
(R378). -/
def State.superviseCoil (s : State) (n c ma : Nat) : State :=
  let k := (s.prot n).coil c
  let s := s.coilCurrent n c ma
  if !(if k.on then s.supervised n && decide (20 ≤ ma) else s.watchedOff n) then s
  else
    match s.mirrorCause n c with
    | none => s.modProt n fun p => p.modCoil c fun k => { k with badSince := none, told := false }
    | some cause =>
      let since := k.badSince.getD s.now
      if since + msec (s.rd ContactorConfig.FB_TIME n) < s.now then
        if k.told then s else (s.trip n cause).modProt n fun p => p.modCoil c fun x => { x with told := !k.on }
      else s.modProt n fun p => p.modCoil c fun k => { k with badSince := some since }

/-- The mirror contacts of a string and its coil currents are read: bits 0, 1 and 2 of `mirrors` are FB_POS, FB_NEG and
FB_PRE, and the currents are in mA in that order (R65, R378). -/
def execMirrorContactChange (t str mirrors iPos iNeg iPre : Nat) (s : State) : Host.Outcome State Fault Refusal :=
  let s := s.at t
  .next (if s.hasStr str = true ∧ s.power.powered = true then
    let s := s.wrB StringTerminals.FB_POS str (bitOf mirrors 0)
    let s := s.wrB StringTerminals.FB_NEG str (bitOf mirrors 1)
    let s := s.wrB StringTerminals.FB_PRE str (bitOf mirrors 2)
    let s := s.wr StringTerminals.COIL_I_POS str iPos
    let s := s.wr StringTerminals.COIL_I_NEG str iNeg
    let s := s.wr StringTerminals.COIL_I_PRE str iPre
    let s := s.imdSync
    let s := ((s.superviseCoil str 0 iPos).superviseCoil str 1 iNeg).superviseCoil str 2 iPre
    s.openingDone str
  else s)

/-! ### Drive tests (R379, R380) -/

/-- The energised coils of the module, by string and coil. -/
def State.drivenCoils (s : State) : List (Nat × Nat) :=
  s.strList.flatMap fun n => ([0, 1, 2].filter fun c => ((s.prot n).coil c).on).map fun c => (n, c)

/-- The off-pulses of every other energised coil have ended (R379). -/
def State.pulsesEnded (s : State) (n c : Nat) : Bool :=
  s.drivenCoils.all fun (m, d) => decide (m = n ∧ d = c) ||
    decide (((s.prot m).coil d).lastPulse + 1000 * s.rd ContactorConfig.OFF_PULSE m ≤ s.now)

/-- The next off-pulse of an energised coil is due: the low-side one 10 ms after the high-side one, and a test once in every
PULSE_INTERVAL, each energised coil of the module in its even share of it (R379). DESIGN CHOICE (log 57): the intervals count from
the instant 0 of the module's clock, and the shares go by string and coil. -/
def State.pulseDue (s : State) (n c : Nat) : Bool :=
  let k := (s.prot n).coil c
  match k.test with
  | some a => decide (a + msec 10 ≤ s.now)
  | none =>
    let l := s.drivenCoils
    let per := secs (s.rd ContactorConfig.PULSE_INTERVAL n)
    let start := s.now / per * per
    decide (k.lastPulse < start) && decide (start + l.findIdx (· == (n, c)) * per / l.length ≤ s.now)

/-- The read-backs of an off-pulse meet R379. -/
def pulseOk (r : PulseRead) : Bool :=
  let by_ (x : Option Nat) : Bool := x.any fun d => decide (d ≤ 100000)
  by_ r.off && by_ r.back

/-- An off-pulse of an energised coil falls due, first of its high-side switch, then of its low-side switch. A failed read-back
opens the coil through the other switch and trips the string (R379). -/
def execPulseTests (t str coil : Nat) (read : PulseRead) (s : State) : Host.Outcome State Fault Refusal :=
  let s := s.at t
  let k := (s.prot str).coil coil
  let side := b2n k.test.isSome
  .next (if s.hasStr str = true ∧ coil < 3 ∧ k.on = true ∧ s.pulseDue str coil = true ∧ s.pulsesEnded str coil = true then
    let s := s.modProt str fun p => p.modCoil coil fun k =>
      { k with lastPulse := s.now, test := if side = 0 then some s.now else none }
    let s := s.send (.offPulse str coil side (s.rd ContactorConfig.OFF_PULSE str))
    if !pulseOk read then (s.send (.switchOff str coil (1 - side))).trip str 15
    else if side = 1 then s.bump ProtectionStatus.PULSE_TESTS str
    else s
  else s)

/-- Every 100 ms both switches of every coil that is off are read back: bit `2 * coil` of `reads` is the high-side
switch and the bit above it the low-side switch, 1 where it reads on; one that goes on reading on trips once (R380). -/
def execOffCoilReadback (t str reads : Nat) (s : State) : Host.Outcome State Fault Refusal :=
  let s := s.at t
  let p := s.prot str
  let bad := [0, 1, 2].any fun c => !(p.coil c).on && (bitOf reads (2 * c) || bitOf reads (2 * c + 1))
  .next (if s.hasStr str = true ∧ s.running = true ∧ p.readAt + msec 100 ≤ s.now then
    let s := s.modProt str fun q => { q with driveBad := bad, readAt := s.now }
    if bad && !p.driveBad then s.trip str 15 else s
  else s)

/-- A coil current above 12 A opens both switches of the coil and trips the string (R380, Table 2.10). -/
def execCoilShort (t str coil : Nat) (s : State) : Host.Outcome State Fault Refusal :=
  let s := s.at t
  .next (if s.hasStr str = true ∧ coil < 3 ∧ ((s.prot str).coil coil).on = true then
    (s.coilOff str coil).trip str 15
  else s)

end Sys2Proof.Machine
end

