-- ==== Sys2Proof/Machine/FrontTrips.lean ====
section
/-! DEFINITION. The front-end's own trips (R361 to R364): fault loop, fast overcurrent, overcurrent and heartbeat. -/

namespace Sys2Proof.Machine

open Sys2Proof.Obj

/-! ### Origin of a fault-loop trip (R241, R364) -/

/-- The NODE_STATUS instance of a node (R251). -/
def nodeInst (str node : Nat) : Nat := str * 64 + node

/-- The node reports CMP_OV, CMP_UV or FLOOP_OPENED. -/
def State.nodeTripped (s : State) (str node : Nat) : Bool :=
  let i := nodeInst str node
  s.rdB NodeStatus.FLOOP_OPENED i || s.rdB NodeStatus.CMP_LATCHED i ||
    decide (s.rd NodeStatus.CMP_OV_MASK i ≠ 0) || decide (s.rd NodeStatus.CMP_UV_MASK i ≠ 0)

/-- The first node of a string that reports a comparator latch or an open loop switch. -/
def State.firstTripped (s : State) (str : Nat) : Option Nat :=
  (List.range (s.rd RingStatus.NODE_COUNT str)).find? fun k => s.nodeTripped str k

/-- The lowest latched channel of a node, 0xFF for none. -/
def State.latchedChan (s : State) (str node : Nat) : Nat :=
  let i := nodeInst str node
  let m := Nat.lor (s.rd NodeStatus.CMP_OV_MASK i) (s.rd NodeStatus.CMP_UV_MASK i)
  ((List.range 16).find? fun c => bitOf m c).getD 0xFF

/-- A wire of the channel is SUSPECT, OPEN or INCONCLUSIVE, or was so at an instant since: channel c lies between wires c and c + 1
(R241). -/
def State.chanSuspect (s : State) (str node chan since : Nat) : Bool :=
  (nth RNode.init (s.str str).ring.nodes node).wires.any fun x =>
    (decide (x.w = chan) || decide (x.w = chan + 1)) &&
      (decide (x.state = 1) || decide (x.state = 2) || decide (x.state = 4) || (match x.left with
        | some t => decide (since ≤ t)
        | none => false))

/-- The origin of a fault-loop trip as the node records show it: comparator-origin with the first such node, else
loop-break (R364). -/
def State.loopOrigin (s : State) (str : Nat) : TripInfo :=
  match s.firstTripped str with
  | some k =>
    let c := s.latchedChan str k
    { TripInfo.plain with node := k, chan := c, corr := 4 + 16 * b2n (s.chanSuspect str k c s.now) }
  | none => { TripInfo.plain with corr := 8 }

/-- Within 1 s of a fault-loop trip, a record that names a node makes the trip comparator-origin, READ_STATUS gives its lowest
latched channel where the record gave none, and a wire state reached makes it WIRE_SUSPECT-correlated; the entry follows (R241, R364). -/
def State.classifyTrip (s : State) (str : Nat) : State :=
  match (s.prot str).floopTrip with
  | none => s
  | some (e, at_) =>
    if at_ + secs 1 < s.now then s.modProt str fun p => { p with floopTrip := none }
    else if s.rd TripLog.STRING e = str ∧ s.rd TripLog.CAUSE e = 1 then
      let i := s.loopOrigin str
      if bitOf i.corr 2 then
        let first := !s.rdB TripLog.COMPARATOR_ORIGIN e
        let s := s.wrB TripLog.COMPARATOR_ORIGIN e true
        let s := s.wrB TripLog.LOOP_BREAK e false
        let s := if first then
            ((s.wr TripLog.NODE e i.node).wr TripLog.CHANNEL e i.chan).wr TripLog.TOPO_EPOCH e
              (s.rd RingStatus.TOPO_EPOCH str)
          else s
        let s := if s.rd TripLog.CHANNEL e = 0xFF then s.wr TripLog.CHANNEL e (s.latchedChan str (s.rd TripLog.NODE e)) else s
        let wire := s.chanSuspect str (s.rd TripLog.NODE e) (s.rd TripLog.CHANNEL e) at_
        (if wire then s.wrB TripLog.WIRE_CORRELATED e true else s).storeTrips e
      else s
    else s

/-! ### Fault loop (R68, R361) -/

/-- A coil of the string is driven: CLOSING, CLOSED or OPENING (R361). -/
def State.driven (s : State) (n : Nat) : Bool :=
  decide (s.seqState n = seqClosing) || decide (s.seqState n = seqClosed) || decide (s.seqState n = seqOpening)

/-- The fault-loop current is read, in 0.01 mA: at 4 mA or less the loop reads open, which latches FAULT_LOOP on a driven string
and inhibits closing on any; at 6 mA or more it reads closed, and inhibit bit 5 lifts; between them it keeps its reading (R68,
R82, R361). -/
def State.loopCurrent (s : State) (str i : Nat) : State :=
  let s := s.wr StringTerminals.FLOOP_I str i
  if 600 ≤ i then (s.wrB StringTerminals.FLOOP_OPEN str false).refresh str
  else if 400 < i then s
  else
    let s := s.wrB StringTerminals.FLOOP_OPEN str true
    if s.driven str then
      let e := s.tripSlot
      let s := s.modProt str fun p => { p with feLatch := p.feLatch ++ [1] }
      let s := s.trip str 1 (s.loopOrigin str)
      (s.modProt str fun p => { p with floopTrip := some (e, s.now) }).refresh str
    else s.refresh str

/-- The fault loop is read after its filter, with its current `i` in 0.01 mA (R68, R361). -/
def execFaultLoopOpen (t str i : Nat) (s : State) : Host.Outcome State Fault Refusal :=
  let s := s.at t
  .next (if s.hasStr str = true ∧ s.power.powered = true then s.loopCurrent str i else s)

/-- The fault-loop current is read on its way back to 6 mA, in 0.01 mA (R68). -/
def execFaultLoopClosed (t str i : Nat) (s : State) : Host.Outcome State Fault Refusal :=
  let s := s.at t
  .next (if s.hasStr str = true ∧ s.power.powered = true then s.loopCurrent str i else s)

/-! ### Overcurrent and heartbeat (R362, R363) -/

/-- The word of a signed value in a TRIP_LOG VALUE or LIMIT. -/
def tripVal (i : Int) : Nat := satInt 32 i

/-- The fast comparator trips on the shunt voltage `v` in 10 µV (R363). -/
def execFastOc (t str : Nat) (v : Int) (s : State) : Host.Outcome State Fault Refusal :=
  let s := s.at t
  let lim := s.prof str 0x3E 2
  .next (if s.hasStr str = true ∧ s.power.powered = true ∧ s.hasProf str = true ∧ lim < v.natAbs
      ∧ (s.prot str).feLatch.contains 2 = false then
    let s := s.modProt str fun p => { p with feLatch := p.feLatch ++ [2] }
    s.trip str 2 { TripInfo.plain with value := tripVal v, limit := tripVal (if v < 0 then -(lim : Int) else lim) }
  else s)

/-- A heartbeat arrives at the front-end: it is valid where its CRC is correct and its counter follows the one before (R362).
DEDUCED (log 58): the one before is the last whose CRC was correct, and the first since the front-end's start is valid. -/
def Prot.beatIn (p : Prot) (now count : Nat) (crcOk : Bool) : Prot :=
  if !crcOk then p
  else
    let follows := p.hbCount.all fun c => decide (count = (c + 1) % 65536)
    let p := { p with hbCount := some count }
    if follows then { p with hbLast := now, hbRunFrom := p.hbRunFrom.or (some now) } else p

/-- 5 ms have passed without a valid heartbeat. -/
def State.beatLate (s : State) (n : Nat) : Bool := decide ((s.prot n).hbLast + msec 5 ≤ s.now)

/-- After 5 ms without a valid heartbeat the trip logic acts, once until its latch is released (R361, R362). -/
def State.beatTrip (s : State) (n : Nat) : State :=
  if !s.beatLate n then s
  else
    let latched := (s.prot n).feLatch.contains 17
    let s := s.modProt n fun p => { p with hbRunFrom := none }
    if latched then s else (s.modProt n fun p => { p with feLatch := p.feLatch ++ [17] }).trip n 17

/-- The die sends its next heartbeat, its counter increased by 1, unless it is stalled or halted (R44, R362). -/
def State.sendBeat (s : State) (n : Nat) : State :=
  if s.rdB DieStatus.DIE_STALLED n || s.boot.halt then s
  else
    let k := ((s.prot n).hbSent + 1) % 65536
    (s.modProt n fun p => { p with hbSent := k }.beatIn s.now k true).send (.beat n k)

/-- The heartbeat of a string die: the front-end trips the string after 5 ms without a valid one, and takes what arrives (R362). -/
def execHeartbeat (t str : Nat) (beat : Beat) (s : State) : Host.Outcome State Fault Refusal :=
  let s := s.at t
  .next (if s.hasStr str = true ∧ (s.str str).fe.up = true then
    let s := s.beatTrip str
    match beat with
    | .none => s
    | .sent => s.sendBeat str
    | .arrived count crcOk => s.modProt str fun p => p.beatIn s.now count crcOk
  else s)

end Sys2Proof.Machine
end

