-- ==== Sys2Proof/Machine/Ledger.lean ====
section
/-! DEFINITION. The cell ledger (R125 to R129, R248, R348 to R354): entries, their defaults, the comparison with the
string, and the application of a restored set. -/

namespace Sys2Proof.Machine

open Sys2Proof.Obj

/-! ### Entries (R125, R348) -/

/-- RATED_CAP of the table a string names; none without TABLE_VALID (R300). -/
def State.ratedCap (s : State) (n : Nat) : Option Nat :=
  let tb := s.rd EstimationConfig.CHEMISTRY n
  if s.rdB ChemistryTable.TABLE_VALID tb then some (s.rd ChemistryTable.RATED_CAP tb) else none

/-- The default entry of a position (Table 4.4). -/
def State.defaultEntry (s : State) (n serial chan : Nat) : Entry :=
  let par := s.rd NodeConfig.PARALLEL_COUNT n
  let rated := (s.ratedCap n).getD 0
  let r := nth 100 s.boot.cfg 3 * 10
  ⟨serial, chan, true, n, par, max 1 (rated * par * nth 8000 s.boot.cfg 2 / 10000), r, r, r, 0xFFFF, 0, 0, 0, rated⟩

/-- The ledger's entry for a serial number and channel. -/
def State.entry? (s : State) (serial chan : Nat) : Option Entry :=
  s.ledger.entries.find? fun e => e.serial == serial && e.chan == chan

/-- The entry in use at a position: the ledger's, or the defaults where it holds none. -/
def State.entryOf (s : State) (n : Nat) (p : Pos) : Entry :=
  match s.entry? p.serial p.chan with
  | some e => if e.str = n then e else s.defaultEntry n p.serial p.chan
  | none => s.defaultEntry n p.serial p.chan

/-- The counts of LEDGER_STATUS follow the ledger. -/
def State.ledgerRegs (s : State) : State :=
  let es := s.ledger.entries
  let s := s.wr LedgerStatus.ENTRIES_HELD 0 es.length
  let s := s.wr LedgerStatus.ENTRIES_UNUSED 0 (es.filter fun e => e.str == 0).length
  s.wr LedgerStatus.ENTRIES_PENDING 0 s.ledger.pending.length

/-- A serial number as an ordinal: its bytes in their order. -/
def serialOrd (serial : Nat) : Nat := ofLE (toLE 16 serial).reverse

/-- Entries stand in ascending serial and channel order (R351). -/
def Entry.before (a b : Entry) : Bool :=
  decide (serialOrd a.serial < serialOrd b.serial) || (a.serial == b.serial && decide (a.chan < b.chan))

/-- An entry takes its place in an ascending list, replacing the one of its serial number and channel. -/
def putIn (e : Entry) : List Entry → List Entry
  | [] => [e]
  | x :: xs =>
    if x.serial = e.serial ∧ x.chan = e.chan then e :: xs
    else if e.before x then e :: x :: xs else x :: putIn e xs

/-- The unused entry of least THROUGHPUT leaves a ledger of more than 8,192 entries. -/
def dropUnused (es : List Entry) : List Entry :=
  if es.length ≤ 8192 then es
  else
    let least := (es.filter fun e => e.str == 0).foldl (fun (b : Option Entry) e =>
      match b with
      | some x => if e.through < x.through then some e else b
      | none => some e) none
    match least with
    | some e => es.filter fun x => !(x.serial == e.serial && x.chan == e.chan)
    | none => es

/-- The ledger takes an entry. -/
def State.putEntry (s : State) (e : Entry) : State :=
  { s with ledger := { s.ledger with entries := dropUnused (putIn e s.ledger.entries) } }

/-- The position of a channel of a node in a string's numbering. -/
def State.posIdx (s : State) (n serial chan : Nat) : Nat :=
  ((s.str n).est.pos.findIdx? fun p => p.serial == serial && p.chan == chan).getD 0xFFFF

/-- An entry as it is applied to a string: reset to the defaults where its parallel count or rated capacity differs
(R348). -/
def State.applyEntry (s : State) (n : Nat) (e : Entry) : State :=
  let cause := if e.parallel ≠ s.rd NodeConfig.PARALLEL_COUNT n then 1
    else match s.ratedCap n with
      | some r => if r = e.rated then 0 else 2
      | none => 0
  if cause = 0 then s.putEntry { e with str := n }
  else
    (s.putEntry { s.defaultEntry n e.serial e.chan with through := e.through }).record 0x0A0C 2
      (toLE 2 (s.posIdx n e.serial e.chan) ++ [cause]) n 0xFFFF (s.rd RingStatus.TOPO_EPOCH n)

/-- The entries of a string are compared with its parallel count and its table again (R348). -/
def State.compareEntries (s : State) (n : Nat) : State :=
  ((s.ledger.entries.filter fun e => e.str == n).foldl (fun s e => s.applyEntry n e) s).ledgerRegs

/-- A node holds entries in the ledger or pending. -/
def State.hasEntries (s : State) (serial : Nat) : Bool :=
  (s.ledger.entries ++ s.ledger.pending).any fun e => e.serial == serial

/-- A node has passed authentication: each of its fitted channels has an entry, its own or the defaults, unless pending
entries will take their place (R348, R354). -/
def State.authEntries (s : State) (n serial : Nat) (chans : List Nat) : State :=
  (chans.foldl (fun s c =>
    match s.entry? serial c with
    | some e => s.applyEntry n e
    | none =>
      if (s.ledger.pending.any fun x => x.serial == serial && x.chan == c) = true then s
      else s.putEntry (s.defaultEntry n serial c)) s).ledgerRegs

/-- The entries of serial numbers that no longer stand on a string are kept unused (R248). -/
def State.unuseEntries (s : State) (n : Nat) (serials : List Nat) : State :=
  let keep (e : Entry) : Entry := if e.str = n ∧ serials.contains e.serial = false then { e with str := 0 } else e
  State.ledgerRegs { s with ledger := { s.ledger with entries := s.ledger.entries.map keep } }

/-- The pending entries of a node that is AUTH_FAILED move to the unused ones (R354). -/
def State.failEntries (s : State) (serial : Nat) : State :=
  let (mine, rest) := s.ledger.pending.partition fun e => e.serial == serial
  let s := { s with ledger := { s.ledger with pending := rest } }
  (mine.foldl (fun s e => s.putEntry { e with str := 0 }) s).ledgerRegs

/-! ### Restore (R126 to R129, R353, R354) -/

/-- A string is awaited by an accepted restore: present, enabled, and not STOPPED (R354). -/
def State.awaited (s : State) (n : Nat) : Bool := s.enabled n && decide (s.rd LapStatus.LAP_STATE n ≠ 2)

/-- The node with a serial number is numbered on some string. -/
def State.serialNumbered (s : State) (serial : Nat) : Bool :=
  s.strList.any fun n => (List.range (s.rd RingStatus.NODE_COUNT n)).any fun k => s.rd Topology.SERIAL n k == serial

/-- Once every awaited string has applied the set, LEDGER_STATE reads 2 and the entries that match no node are discarded
(R128, R354). -/
def State.restoreCheck (s : State) : State :=
  if s.rd BootStatus.LEDGER_STATE = 1 ∧ (s.strList.all fun n => !s.awaited n || (s.str n).restored.isSome) = true then
    let (kept, gone) := (s.ledger.restore.getD []).partition fun e => s.serialNumbered e.serial
    let s := { s with ledger := { s.ledger with restore := some kept } }
    let s := (s.wr BootStatus.LEDGER_STATE 0 2).stamp BootStatus.RESTORE_TIME
    s.bump LedgerStatus.RESTORE_DISCARDED 0 gone.length
  else s

/-- The nodes of a string that have passed authentication, as number and serial number. -/
def State.passedNodes (s : State) (n : Nat) : List (Nat × Nat) :=
  ((List.range (s.rd RingStatus.NODE_COUNT n)).filter fun k => decide (s.rd NodeAuth.AUTH_STATE (nodeInst n k) = 2)).map
    fun k => (k, s.rd Topology.SERIAL n k)

/-- Pending entries of nodes that have passed authentication are applied, for the whole node at once (R354). -/
def State.pendingLap (s : State) (n : Nat) : State :=
  let ids := (s.passedNodes n).map (·.2)
  let (mine, rest) := s.ledger.pending.partition fun e => ids.contains e.serial
  if mine.isEmpty then s
  else
    (mine.foldl (fun (s : State) e => s.applyEntry n e) { s with ledger := { s.ledger with pending := rest } }).ledgerRegs

/-- The accepted set applies to a string at one lap: to the positions of its authenticated nodes at once, to those of the
others once they have passed (R127, R128, R354). A node without a restored entry, which R128 treats as a module swap, keeps its
default entries and brings no events 0x0601 and 0x0602 and no other seeds, as R248 leaves it to R128: DEDUCED (log 47). -/
def State.restoreLap (s : State) (n at_ : Nat) : State :=
  match s.ledger.restore with
  | none => s
  | some set =>
    if !s.ledger.accepted || (s.str n).restored.isSome then s
    else
      let s := s.modStr n fun x => { x with restored := some at_ }
      let ids := (s.passedNodes n).map (·.2)
      let s := (s.str n).est.pos.foldl (fun s p =>
        match set.find? fun e => e.serial == p.serial && e.chan == p.chan with
        | none => s
        | some e =>
          if ids.contains p.serial then s.applyEntry n e
          else { s with ledger := { s.ledger with pending := s.ledger.pending ++ [{ e with str := n }] } }) s
      s.ledgerRegs.restoreCheck

end Sys2Proof.Machine
end

