-- ==== Sys2Proof/Machine/SafeTelegram.lean ====
section
/-! DEFINITION. SAFE LOOP IN (R383, R384), the safe status telegram (R385) and the safe commands (R387, R388). -/

namespace Sys2Proof.Machine

open Sys2Proof.Obj

/-! ### SAFE LOOP -/

/-- SAFE LOOP IN is read after its filter at `i` in 0.01 mA: closed from 6 mA, open to 3 mA, and its previous state
between (R70). It sets or lifts the inhibit on every string (R383), and OUT follows (R384). -/
def execSafeLoopInOpen (t i : Nat) (s : State) : Host.Outcome State Fault Refusal :=
  let s := s.at t
  .next (if s.power.powered then
    let was := s.rdB ModuleTerminals.SAFE_LOOP_IN_OPEN
    let now_ := if 600 ≤ i then false else if i ≤ 300 then true else was
    let s := (s.wr ModuleTerminals.SAFE_LOOP_IN_I 0 i).wrB ModuleTerminals.SAFE_LOOP_IN_OPEN 0 now_
    s.loopOut.refreshAll
  else s)

/-- 100 ms after its own cause ended the module stops ignoring SAFE LOOP IN (R384). -/
def execSafeLoopOriginHold (t : Nat) (s : State) : Host.Outcome State Fault Refusal :=
  let s := s.at t
  .next (match s.safe.ownEnd with
  | some e =>
    if s.safe.origin = true ∧ e + msec 100 ≤ s.now then
      ({ s with safe := { s.safe with origin := false, ownEnd := none } }).loopOut
    else s
  | none => s)

/-! ### Status telegram -/

/-- A mask with bit `n` set for each present string `n` for which `f` holds. -/
def State.strMask (s : State) (f : Nat → Bool) : Nat :=
  ((s.strList.filter f).map fun n => 2 ^ n).foldl (· + ·) 0

/-- An inhibit holds the string open: one stands and the string is OPEN or TRIPPED. -/
def State.heldOpen (s : State) (n : Nat) : Bool :=
  decide (s.rd ProtectionStatus.INHIBIT n ≠ 0) &&
    (decide (s.seqState n = seqOpen) || decide (s.seqState n = seqTripped))

/-- Bytes 0x00 to 0x3B of the safe status telegram (Table 13.7). -/
def State.telegramBody (s : State) (seq : Nat) : Bytes :=
  let flags := b2n (s.rdB ModuleTerminals.SEAL_OPEN) + 2 * b2n s.inHoldup
    + 4 * b2n (s.rdB ModuleTerminals.SAFE_LOOP_IN_OPEN) + 8 * b2n (s.rdB ModuleTerminals.SAFE_LOOP_OUT_OPEN)
    + 16 * b2n (s.power.supply == .backup) + 32 * b2n (decide (s.security = 4))
  let st (k : Nat) : Nat → Bool := fun n => decide (s.seqState n = k)
  toLE 4 0x53544C47 ++ [1, 1, s.rd ModuleIdentity.BLOCK_ID, s.rd SafeTelegramConfig.PERIOD]
    ++ toLE 16 (s.rd ModuleIdentity.SERIAL) ++ toLE 4 seq ++ [flags, 0, 0, 0] ++ timeBytes s.base ++ [0, 0]
    ++ [s.strMask (st seqClosed), s.strMask (st seqTripped), s.strMask s.heldOpen,
        s.strMask fun n => st seqClosing n || st seqOpening n]
    ++ toLE 4 (s.safe.lastCmd.getD 0) ++ List.replicate 8 0

/-- Telegrams are sent: the module runs and is not decommissioned, its manager die is not stalled, and the reference
clock holds (R385). -/
def State.telegramsRun (s : State) : Bool :=
  s.running && decide (s.security ≠ 5) && !s.rdB DieStatus.DIE_STALLED 0 && !s.rdB ModuleHealth.REFCLK_FAIL

/-- The safe telegram engine starts with the module's first lap (R124). -/
def State.startTelegrams (s : State) : State :=
  if s.safe.running then s else { s with safe := { s.safe with running := true } }

/-- Step 11 of Table 4.1 is complete: the start enumeration of every string of the variant has ended. -/
def State.enumComplete (s : State) : Bool := s.strList.all fun n => nth false s.boot.enumDone n

/-- Every PERIOD, or at the first telegram instant of R124, the status telegram leaves on both networks (R385). -/
def execSafeStatusTelegram (t : Nat) (s : State) : Host.Outcome State Fault Refusal :=
  let s := s.at t
  let first := !s.safe.running && s.enumComplete && decide (s.base % 1000000 = 0)
  let due := match s.safe.last with
    | none => true
    | some l => decide (l + msec (s.rd SafeTelegramConfig.PERIOD) ≤ s.now)
  .next (if s.telegramsRun = true ∧ (s.safe.running = true ∨ first = true) ∧ due = true then
    let seq := if s.safe.seq = 0xFFFFFFFF then 1 else s.safe.seq + 1
    let body := s.telegramBody seq
    let bytes := body ++ toLE 4 (crc32 body)
    let port := s.rd SafeTelegramConfig.SAFE_UDP_PORT
    let dest (f : Fld) (k : Nat) : Nat := if s.rd f = 0 then s.broadcast k else s.rd f
    let a := dest SafeTelegramConfig.DEST_A 1
    let b := dest SafeTelegramConfig.DEST_B 2
    let s := { s with safe := { s.safe with running := true, seq := seq, last := some s.now } }
    (s.send (.telegram 1 a port bytes)).send (.telegram 2 b port bytes)
  else s)

/-! ### Safe commands (R387) -/

/-- The counts of discards that no event has carried yet are reported, at most once per second. -/
def State.discardEvent (s : State) : State :=
  let f := s.safe
  let due := match f.lastDisc with
    | none => true
    | some l => decide (l + secs 1 ≤ s.now)
  if due && decide (0 < f.discSingle + f.discDiffer + f.discStale) then
    let s := s.record 0x0B09 2 (toLE 2 f.discSingle ++ toLE 2 f.discDiffer ++ toLE 2 f.discStale)
    { s with safe := { s.safe with discSingle := 0, discDiffer := 0, discStale := 0, lastDisc := some s.now } }
  else s

/-- A pending copy is discarded unmatched and counted. -/
def State.countSingle (s : State) : State :=
  let s := s.bump SafeTelegramConfig.SAFE_CMD_SINGLE
  ({ s with safe := { s.safe with discSingle := satAdd 16 s.safe.discSingle 1 } }).discardEvent

/-- The pending copy of network 1 (A) or 2 (B). -/
def Safe.copy (f : Safe) (net : Nat) : Option SafeCopy := if net = 1 then f.copyA else f.copyB

/-- The pending copy of a network is replaced. -/
def Safe.setCopy (f : Safe) (net : Nat) (c : Option SafeCopy) : Safe :=
  if net = 1 then { f with copyA := c } else { f with copyB := c }

/-- A pending copy of a network that is older than 20 ms is discarded; at 20 ms exactly only where `at20`. -/
def State.expireCopy (s : State) (net : Nat) (at20 : Bool) : State :=
  match s.safe.copy net with
  | some c =>
    if c.at_ + msec 20 < s.now ∨ (at20 = true ∧ c.at_ + msec 20 = s.now) then
      ({ s with safe := s.safe.setCopy net none }).countSingle
    else s
  | none => s

/-- The copy's fields and its CRC are those of a safe command for this module (R387, Table 13.8). -/
def State.safeCmdOk (s : State) (b : Bytes) : Bool :=
  decide (b.length = 48) && decide (field b 0 4 = 0x53434D44) && decide (field b 4 1 = 1) && decide (field b 5 1 = 2) &&
    decide (field b 6 1 = s.rd ModuleIdentity.BLOCK_ID) && decide (field b 8 16 = s.rd ModuleIdentity.SERIAL) &&
    decide (field b 0x2C 4 = crc32 (b.take 0x2C))

/-- An accepted command takes effect on one string (R388). -/
def State.safeCmdString (s : State) (n trips enables : Nat) : State :=
  let until_ := s.now + msec (s.rd SafeTelegramConfig.ENABLE_TIMEOUT)
  let req := s.rdB ContactorConfig.ENABLE_REQUIRED n
  let s := s.modProt n fun p =>
    { p with remote := bitOf trips n,
             enableUntil := if req && bitOf enables n then some until_ else none }
  s.refresh n

/-- A matched command is accepted, or discarded as stale (R387, R388). -/
def State.acceptSafeCmd (s : State) (b : Bytes) : State :=
  let seq := field b 0x18 4
  let stale := match s.safe.lastCmd with
    | none => false
    | some l => let d := (seq + 2 ^ 32 - l) % 2 ^ 32; decide (d = 0) || decide (2 ^ 31 ≤ d)
  if stale then
    let s := s.bump SafeTelegramConfig.SAFE_CMD_STALE
    ({ s with safe := { s.safe with discStale := satAdd 16 s.safe.discStale 1 } }).discardEvent
  else
    let trips := field b 0x1C 1
    let enables := field b 0x1D 1
    let s := s.bump SafeTelegramConfig.SAFE_CMD_ACCEPTED
    let s := { s with safe := { s.safe with lastCmd := some seq, openLoop := bitOf (field b 0x1E 1) 0 } }
    let s := s.record 0x0B08 1 (toLE 4 seq ++ [trips, enables])
    (s.eachStr fun n s => s.safeCmdString n trips enables).loopOut

/-- A copy of a safe command arrives on network 1 (A) or 2 (B) from `src`, at UDP port `port` (R387). -/
def execSafeCommand (t net src port : Nat) (b : Bytes) (s : State) : Host.Outcome State Fault Refusal :=
  let s := s.at t
  let sender := s.rd (if net = 1 then SafeTelegramConfig.SENDER_A else SafeTelegramConfig.SENDER_B)
  .next (if s.running = true ∧ s.security ≠ 5 ∧ (net = 1 ∨ net = 2) ∧ sender ≠ 0 ∧ src = sender
      ∧ port = s.rd SafeTelegramConfig.SAFE_UDP_PORT ∧ s.safeCmdOk b = true then
    let s := (s.expireCopy 1 false).expireCopy 2 false
    let other := 3 - net
    let pend (s : State) : State :=
      let old := s.safe.copy net
      let s := { s with safe := s.safe.setCopy net (some ⟨b, s.now⟩) }
      if old.isSome then s.countSingle else s
    match s.safe.copy other with
    | some c =>
      if c.bytes = b then ({ s with safe := s.safe.setCopy other none }).acceptSafeCmd b
      else if field c.bytes 0x18 4 = field b 0x18 4 then
        let s := { s with safe := s.safe.setCopy other none }
        let s := s.bump SafeTelegramConfig.SAFE_CMD_DIFFER
        ({ s with safe := { s.safe with discDiffer := satAdd 16 s.safe.discDiffer 1 } }).discardEvent
      else pend s
    | none => pend s
  else s)

/-- A pending copy of a network unmatched for 20 ms is discarded and counted (R387). -/
def execSafeCmdSingle (t net : Nat) (s : State) : Host.Outcome State Fault Refusal :=
  let s := s.at t
  .next (if net = 1 ∨ net = 2 then (s.expireCopy net true).discardEvent else s)

/-- A safe enable expires after ENABLE_TIMEOUT, and the string is opened with ENABLE_MISSING (R388). -/
def execEnableMissing (t str : Nat) (s : State) : Host.Outcome State Fault Refusal :=
  let s := s.at t
  .next (if s.hasStr str = true ∧ s.running = true then
    match (s.prot str).enableUntil with
    | some u => if u ≤ s.now then (s.modProt str fun p => { p with enableUntil := none }).refresh str else s
    | none => s
  else s)

end Sys2Proof.Machine
end

