-- ==== Sys2Proof/Machine/PowerOps.lean ====
section
/-! DEFINITION. The power state as derived from the supply state (R96, R99), and an object's bytes. -/

namespace Sys2Proof.Machine

open Sys2Proof.Obj

/-- The code of a supply state in event 0x0202. -/
def Supply.code : Supply → Nat
  | .off => 0
  | .normal => 1
  | .backup => 2
  | .holdup => 3
  | .transport => 4

/-- POWER_STATE as R96 derives it. -/
def State.powerNow (s : State) : Nat :=
  match s.power.supply with
  | .off => 0
  | .normal =>
    if s.rdB PowerStatus.THROTTLE_ACTIVE then 3 else if s.rdB PowerStatus.SPRINT_ACTIVE then 2 else 1
  | .backup => 4
  | .holdup => 5
  | .transport => 6

/-- SUPPLY_SOURCE follows what carries the bus. -/
def State.sourceRegs (s : State) : State :=
  match s.power.supply with
  | .holdup => s.wr PowerStatus.SUPPLY_SOURCE 0 3
  | .backup => s.wr PowerStatus.SUPPLY_SOURCE 0 (if s.rdB PowerStatus.AUX_PRESENT then 1 else 2)
  | _ => s.wr PowerStatus.SUPPLY_SOURCE 0 1

/-- POWER_STATE follows its causes, and with the supply state the compression (R259); a change of supply state or POWER_STATE is recorded as event 0x0202 with the old
and the new pair (R99); a change of a start is kept until the history writer runs. -/
def State.powerChange (s : State) (old : Supply) : State :=
  let oldP := s.power.lastPower
  let new := s.power.supply
  let newP := s.powerNow
  let s := (s.wr PowerStatus.POWER_STATE 0 newP).sourceRegs
  if old = new ∧ oldP = newP then s
  else
    let s := { s with power := { s.power with lastPower := newP } }
    let s := s.stamp PowerStatus.LAST_CHANGE_TIME
    let worse := newP ≠ oldP ∧ (newP = 3 ∨ newP = 4 ∨ newP = 5)
    let sev := if worse then 2 else 1
    let data := [old.code, new.code, oldP, newP]
    if s.hist.run then
      let s := (s.record 0x0202 sev data).compressCheck
      if old = new then s else s.attention 1
    else { s with boot := { s.boot with changes := s.boot.changes ++ [⟨s.base, 0x0202, sev, 0, 0xFFFF, 0, 0, padTo 20 data⟩] } }

/-- The supply state changes. -/
def State.setSupply (s : State) (new : Supply) : State :=
  let old := s.power.supply
  ({ s with power := { s.power with supply := new } }).powerChange old

/-- The power state is derived afresh after SPRINT_ACTIVE or THROTTLE_ACTIVE may have changed. -/
def State.powerDerive (s : State) : State := s.powerChange s.power.supply

/-- The field of an object's map that stands at a place, and which copy of it. -/
def fieldAt (d : ObjDesc) (pos : Nat) : Option (Fld × Nat) :=
  (d.flds.find? fun f =>
    decide (f.pos = pos) ||
      (decide (f.pos < pos) && decide (0 < f.stride) && decide ((pos - f.pos) % (8 * f.stride) = 0) &&
        decide ((pos - f.pos) / (8 * f.stride) < f.count))).map fun f =>
    (f, if f.stride = 0 then 0 else (pos - f.pos) / (8 * f.stride))

/-- The reset value of a place, 0 where Table 5.14 has none. -/
def resetOf (k : Key) : Nat :=
  match find k.obj with
  | none => 0
  | some d => ((fieldAt d k.pos).map fun x => x.1.resetAt x.2).getD 0

/-- The store holds the values listed in another, each beside its reset value. -/
def Store.load (s from_ : Store) : Store := from_.foldl (fun a c => a.put c.1 (resetOf c.1) c.2) s

end Sys2Proof.Machine
end

