-- ==== Sys2Proof/Machine/StoreOps.lean ====
section
/-! DEFINITION. The configuration store as shared operations (R36, R157): writes that wait for their final journal record, and the
register values a write brings about. -/

namespace Sys2Proof.Machine

open Sys2Proof.Obj

/-- A register write that is to be stored. -/
def cell (f : Fld) (inst v : Nat) (idx : Nat := 0) : CellW := ⟨f.key inst idx, f.resetAt idx, v % 2 ^ f.width⟩

/-- The refusal of a storing request in HOLDUP (R157). -/
def State.holdupRef (s : State) : Bool × Nat × Bytes := (s.inHoldup, refCond 0x0207)

/-- A write is journaled: it takes effect, and its request is answered, when its final journal record is programmed. Whether
a flash page must be erased for it is left open. -/
def State.journal (s : State) (rid : Rid) (cells : List CellW) (ws : List Write) (payload : Bytes) : State :=
  let (e, s) := s.fresh 1
  let m := s.mbx
  { s with mbx := { m with journal := m.journal ++ [⟨m.nextJournal, rid, cells, ws, e == 1, payload⟩],
                           nextJournal := m.nextJournal + 1 } }

/-- The value that stands at the place of a write. -/
def State.cellVal (s : State) (c : CellW) : Nat := (s.objs.get? c.key).getD c.reset

/-- Configuration of a string changes from the state `o`: its laps up to an instant go on with what stood there (R161, R321). -/
def State.keepOld (s o : State) (n : Nat) (cs : List CellW) (at_ : Nat) : State :=
  s.modLaps n fun l => { l with cur := l.cur.map fun x =>
    if x.plain ≤ at_ then
      let new := cs.filter fun c => !(x.old.any fun d => decide (d.key = c.key))
      { x with old := x.old ++ new.map fun c => { c with val := o.cellVal c } }
    else x }

/-- Register values take effect. -/
def State.putCells (s : State) (cs : List CellW) : State :=
  { s with objs := cs.foldl (fun a c => a.put c.key c.reset c.val) s.objs }

/-- Register values are stored: a place that was written is listed in the store, its reset value too. -/
def State.storeCells (s : State) (cs : List CellW) : State :=
  { s with nv := { s.nv with store := cs.foldl (fun a c => a.ins c.key c.val) s.nv.store } }

/-! ### What a write touches (R156) -/

/-- The places of an object: each copy of each field, with its lowest bit. -/
def ObjDesc.places (d : ObjDesc) : List (Fld × Nat × Nat) :=
  d.flds.flatMap fun f => (List.range f.count).map fun i => (f, i, f.pos + 8 * f.stride * i)

/-- A copy of a field that a write touches: the data bits and the mask bits that fall in it. -/
structure Touch where
  f : Fld
  idx : Nat
  data : Nat
  mask : Nat
  deriving DecidableEq, Repr

/-- The copies of fields in which a write sets a mask bit. -/
def Write.touches (w : Write) (d : ObjDesc) : List Touch :=
  let v := ofLE w.data * 2 ^ (8 * w.off)
  let m := ofLE w.mask * 2 ^ (8 * w.off)
  d.places.filterMap fun (f, i, p) =>
    let k := m / 2 ^ p % 2 ^ f.width
    if k = 0 then none else some ⟨f, i, v / 2 ^ p % 2 ^ f.width, k⟩

/-- What a write touches; nothing where its object is not one of Table 5.14. -/
def Write.touched (w : Write) : List Touch := ((find w.obj).map w.touches).getD []

/-- The byte a touched copy begins at. -/
def Touch.at_ (x : Touch) : Nat := x.f.byteAt x.idx

/-- The field keeps a value that writes change: RW and RWL, and the one that is written but never read. -/
def Touch.holds (x : Touch) : Bool :=
  match x.f.access with
  | .rw => true
  | .rwl => true
  | .wol => x.f.stored
  | _ => false

/-- The touch is one of a stored object: of a stored field, or of CLOSE_REQUEST, whose object is stored whole (R157, R198). -/
def Touch.stores (x : Touch) : Bool := x.f.stored || x.f == RingConfig.CLOSE_REQUEST

/-- The write touches a stored object (R157). -/
def Write.stored (w : Write) : Bool := w.touched.any Touch.stores

/-- The value under a mask. -/
def merge (old data mask : Nat) : Nat := old - Nat.land old mask + Nat.land data mask

/-- The value a touched copy would hold. -/
def State.merged (s : State) (inst : Nat) (x : Touch) : Nat := merge (s.rd x.f inst x.idx) x.data x.mask

/-! ### Register values a write brings about -/

/-- A register value a write gives, and whether it is stored. -/
structure NewVal where
  cell : CellW
  stored : Bool
  deriving DecidableEq, Repr

/-- The values `vs` in place. -/
def State.putVals (s : State) (vs : List NewVal) : State := s.putCells (vs.map (·.cell))

/-- The value of a copy of a field. -/
def newVal (f : Fld) (inst v : Nat) (idx : Nat := 0) : NewVal := ⟨Machine.cell f inst v idx, f.stored⟩

/-- One write's values, each merged with what stands in `s`. -/
def State.valsOf (s : State) (w : Write) : List NewVal :=
  (w.touched.filter Touch.holds).map fun x => newVal x.f w.inst (s.merged w.inst x) x.idx

/-- What follows from a write beside the bits it writes: the mask of calibration entries, PROFILE_VALID, TABLE_VALID, and the
serial number and channel of a sentinel's position, WAKE_V_SET (R293, R300, R326, R371, Table 3.10). `s` holds the new values. -/
def State.derived (s : State) (w : Write) : List NewVal :=
  let ts := w.touched.filter Touch.holds
  if ts.isEmpty then []
  else match w.obj with
  | 0x0805 =>
    let ks := (ts.map (·.idx)).eraseDups
    [newVal Calibration.SYSTEM_CAL_MASK w.inst
      (ks.foldl (fun m k => setBit m k true) (s.rd Calibration.SYSTEM_CAL_MASK w.inst))]
  | 0x0901 => [newVal ChemistryTable.TABLE_VALID w.inst 1]
  | 0x0203 => [newVal StringPower.WAKE_V_SET w.inst (b2n (decide (s.rd StringPower.TRANSPORT_WAKE_V w.inst ≠ 0xFFFFFFFF)))]
  | 0x0B02 => [newVal IntegratorProfile.PROFILE_VALID w.inst 1]
  | 0x0903 =>
    let es := (ts.filter fun x => decide (x.f = SentinelConfig.POSITION)).map (·.idx)
    es.flatMap fun e =>
      let p := (s.str w.inst).est.pos[s.rd SentinelConfig.POSITION w.inst e]?
      let ser := match p with
        | some p => p.serial
        | none => 0
      let ch := match p with
        | some p => p.chan
        | none => 0xFF
      [newVal SentinelConfig.SERIAL w.inst ser e, newVal SentinelConfig.CHANNEL w.inst ch e,
       newVal SentinelConfig.ABSENT w.inst 0 e]
  | _ => []

/-- The writes one after another: the state that holds their values, and the values in order. -/
def State.runWrites (s : State) (ws : List Write) : State × List NewVal :=
  ws.foldl (fun (a : State × List NewVal) w =>
    let v := a.1.valsOf w
    let s := a.1.putVals v
    let e := s.derived w
    (s.putVals e, a.2 ++ v ++ e)) (s, [])

/-- The registers with what waits for a lap in place. -/
def State.withWait (s : State) : State := s.eachStr fun n s => s.putCells (s.str n).cfgWait

/-- The cells of a calibration's COMMIT as they are stored: the entry, and its bit in SYSTEM_CAL_MASK as the mask then stands
(R288). -/
def State.calCells (s : State) (cs : List CellW) (k : Nat) : List CellW :=
  let n := (cs.head?.map fun c => c.key.inst).getD 0
  cs ++ [cell Calibration.SYSTEM_CAL_MASK n (setBit (s.rd Calibration.SYSTEM_CAL_MASK n) k true)]

/-! ### A restart that the module makes in order (R139) -/

/-- What a journaled write leaves in the store once its final record is programmed. -/
def State.keepJournal (s : State) (j : Journal) : State :=
  let n := j.payload.headD 0
  if j.rid.cmd = 0x0042 then
    if s.rd ProtectionStatus.TRIPS n ≠ (s.prot n).clearTrips then s
    else
      let s := s.storeCells j.cells
      { s with nv := { s.nv with causes := setNth [] s.nv.causes n } }
  else if j.rid.cmd = 0x0044 then s.storeCells (s.calCells j.cells (nth 0 j.payload 8))
  else
    let vs := (s.withWait.runWrites j.writes).2
    s.storeCells (j.cells ++ (vs.filter (·.stored)).map (·.cell))

/-- The outstanding stored writes are completed as the sessions close (R139, R157). -/
def State.settleJournal (s : State) : State :=
  let js := s.mbx.journal
  js.foldl (fun s j => s.keepJournal j) { s with mbx := { s.mbx with journal := [] } }

end Sys2Proof.Machine
end

