-- ==== Sys2Proof/Machine/Start.lean ====
section
/-! DEFINITION. The start of a run up to step 7 of Table 4.1, and the restart that leads to it (R97, R98, R112 to R119,
R131, R535). -/

namespace Sys2Proof.Machine

open Sys2Proof.Obj

/-! ### What a start keeps -/

/-- Module-wide readings of the surroundings, which a restart without loss of power does not clear. -/
def measuredModule : List Fld := [
  PowerStatus.AUX_PRESENT, PowerStatus.AUX_DC, PowerStatus.AUX_V, PowerStatus.AUX_FREQ, PowerStatus.TAP_RUNNING,
  PowerStatus.TAP_START_OK, PowerStatus.TAP_V, PowerStatus.HOLDUP_READY, PowerStatus.HOLDUP_ENERGY,
  ModuleTerminals.J_SVC_FITTED, ModuleTerminals.COIL_SUPPLY_LOW,
  ModuleTerminals.COIL_SUPPLY_HIGH, ModuleTerminals.COIL_SUPPLY_V, ModuleTerminals.SAFE_LOOP_IN_I,
  SecurityStatus.PROBE_ATTACHED]

/-- The same per string. -/
def measuredString : List Fld := [
  StringTerminals.FB_POS, StringTerminals.FB_NEG, StringTerminals.FB_PRE, StringTerminals.CONN_OPEN,
  StringTerminals.FLOOP_I]

/-- The readings of AUX MAINS and TAP IN, which run without the module. -/
def measuredOff : List Fld := [
  PowerStatus.AUX_PRESENT, PowerStatus.AUX_DC, PowerStatus.AUX_V, PowerStatus.AUX_FREQ, PowerStatus.TAP_RUNNING,
  PowerStatus.TAP_START_OK, PowerStatus.TAP_V]

/-- The registers at their reset values but for the readings that stay. -/
def keepMeasured (old : Store) (mods strs : List Fld) : Store :=
  let a := mods.foldl (fun (a : Store) f => a.wr f 0 (old.rd f 0)) []
  (List.range 8).foldl (fun (a : Store) n => strs.foldl (fun (a : Store) f => a.wr f n (old.rd f n)) a) a

/-- Everything a run holds is gone: what stays is in flash and fuses, on the terminals, and outside (R35). The set of
causes of each latched string is kept with TRIP_LOG (R381). The evaluations of AUX MAINS go on, with an interruption in progress
(R87), and BACKUP is timed afresh (R111). The display starts lit on page 0, its 10 min counted from the start: DESIGN CHOICE
(log 20), R77 names no page and no state for a start. -/
def State.clearRun (s : State) (objs : Store) : State where
  now := s.now
  clk := ⟨s.now, 0, 0, 0, 0, 0⟩
  objs := objs
  nv := s.nv
  power := { Power.init with supply := s.power.supply, auxSince := s.power.auxSince, belowCount := s.power.belowCount,
                             backupFrom := if s.power.supply = .backup then some s.now else none }
  panel := { s.panel with page := 0, lit := true, lastPress := s.now, fired := s.panel.pressAt.isSome, retry := false }
  boot := .init
  sec := .init
  mbx := .init
  hist := .init
  i2c := .init
  safe := .init
  strs := (List.range 8).map fun n => { Str.init with prot := { Prot.init with causes := nth [] s.nv.causes n } }
  traces := List.replicate 32 .init
  dies := List.replicate 8 .init
  thermal := { Thermal.init with first := s.thermal.first, mask := s.thermal.mask, coolSince := s.thermal.coolSince }
  ledger := .init
  upd := .init
  can := List.replicate 3 .init
  chans := List.replicate 32 .init
  blk := .init
  coll := .init
  time := .init
  pouts := List.replicate 4 .init
  caps := List.replicate 2 .init
  free := s.free
  out := s.out
  pending := s.pending

/-! ### Firmware slots (R116, Table 4.2) -/

/-- Slot 0 (A) or 1 (B). -/
def State.slot (s : State) (k : Nat) : Slot := if k = 0 then s.nv.slotA else s.nv.slotB

/-- The check of R116 a slot fails, by the codes of Table 20.2; 0 where it passes all of them. -/
def State.slotCheck (s : State) (k : Nat) : Nat :=
  let x := s.slot k
  match x.hdr with
  | none => 1
  | some h =>
    if field h 0 4 ≠ 0x4858494D ∨ field h 4 1 ≠ 1 then 1
    else if field h 5 1 ≠ 1 then 2
    else if field h 8 4 ≠ 0x544D5853 then 3
    else if bitOf (field h 0x0C 1) (if s.nv.variant = 2 then 1 else if s.nv.variant = 4 then 2 else 3) = false then 4
    else if x.bodyOk = false then 5
    else if field h 0x14 4 < s.nv.fuseIndex then 6
    else 0

/-- The header of the image a slot holds. -/
def State.slotHdr (s : State) (k : Nat) : Bytes := (s.slot k).hdr.getD []

/-- The image a slot holds: its header, then its body. -/
def State.slotImage (s : State) (k : Nat) : Bytes := s.slotHdr k ++ (s.slot k).body

/-- The slot of the running image: the one that started, or the one a relay handover brought in. -/
def State.runSlot (s : State) : Nat := s.upd.run.getD (s.rd BootStatus.BOOT_SLOT)

/-- The header of the running image. -/
def State.runHdr (s : State) : Bytes := s.slotHdr s.runSlot

/-- State of a slot (Table 20.9): 0 EMPTY, 1 WRITING, 2 VALID, 3 ACTIVE. -/
def State.slotState (s : State) (k : Nat) : Nat :=
  if s.upd.write = some k then 1
  else if (s.slot k).hdr.isNone || !(s.slot k).bodyOk then 0
  else if k = s.nv.active then 3 else 2

/-- UPDATE_STATUS and CONFIG_FORMAT follow the slots, the fuses, the staged node image and the configuration copies. -/
def State.slotRegs (s : State) : State :=
  let v (k o n : Nat) : Nat := if s.slotState k < 2 then 0 else field (s.slotHdr k) o n
  let s := (s.wr UpdateStatus.SLOT_A_STATE 0 (s.slotState 0)).wr UpdateStatus.SLOT_B_STATE 0 (s.slotState 1)
  let s := (s.wr UpdateStatus.SLOT_A_VERSION 0 (v 0 0x10 4)).wr UpdateStatus.SLOT_B_VERSION 0 (v 1 0x10 4)
  let s := (s.wr UpdateStatus.SLOT_A_ROLLBACK_INDEX 0 (v 0 0x14 4)).wr UpdateStatus.SLOT_B_ROLLBACK_INDEX 0 (v 1 0x14 4)
  let s := s.wr UpdateStatus.FUSE_ROLLBACK_INDEX 0 s.nv.fuseIndex
  let img := s.nv.nodeImage.getD []
  let s := (s.wr UpdateStatus.STAGED_NODE_VERSION 0 (field img 0x10 4)).wr UpdateStatus.STAGED_NODE_SIZE 0 (field img 0x18 4)
  let s := s.wr ConfigFormat.FORMAT_KEPT 0 s.nv.keptFormat
  s.wr ConfigFormat.KEPT_TIME 0 (if s.nv.keptFormat = 0 then timeNA else s.nv.keptTime)

/-! ### Profile (R370) -/

/-- A profile's own CRC: CRC-32 over its bytes 0x00 to 0x4B with byte 0x49 taken as 0 (Table 13.11). -/
def profileCrc (b : Bytes) : Nat := crc32 (setNth 0 (padTo 0x4C b) 0x49)

/-- A profile comes into force on a string, or none is in force: then both limits read 0 (R370). -/
def State.setProfile (s : State) (n : Nat) (b : Bytes) : State :=
  let was := (s.str n).profile
  let s := if b.isEmpty then (s.wr StringState.CHARGE_LIMIT n 0).wr StringState.DISCHARGE_LIMIT n 0
    else if was.isEmpty then (s.wr StringState.CHARGE_LIMIT n 0x80000000).wr StringState.DISCHARGE_LIMIT n 0x80000000
    else s
  let s := s.modStr n fun x => { x with profile := b, profWait := none }
  s.wr ProtectionStatus.PROFILE_CRC_IN_FORCE n (if b.isEmpty then 0 else profileCrc b)

/-- The bytes of the profile with a number: factory 0 to 14, or the integrator's where PROFILE_VALID is set (R371). -/
def State.profileBytes (s : State) (k : Nat) : Bytes :=
  if k = 15 then
    if s.rdB IntegratorProfile.PROFILE_VALID then s.objBytes IntegratorProfile.desc 0 else []
  else padTo 80 (Config.factoryProfile k)

/-! ### Sealed switches (R79, R80) -/

/-- The reading of the switches: SW-PROFILE, SW-BLOCK (16 invalid), SW-MASK bits 1 to 7, its position 8. -/
def State.switchRegs (s : State) : State :=
  let v (k : Nat) : Nat := nth 0 s.panel.sw k
  let rot (x : Nat) : Nat := if x < 16 then x else 0xFF
  let s := s.wr ModuleTerminals.PROFILE_SWITCH 0 (rot (v 0))
  let s := s.wr ModuleTerminals.BLOCK_SWITCH 0 (rot (v 1))
  let s := s.wr ModuleTerminals.MASK_SWITCH 0 (v 2 / 2)
  s.wr ModuleTerminals.I2C_ADDR_SWITCH 0 (v 3)

/-- Both rotary switches read valid. -/
def State.switchesValid (s : State) : Bool := decide (nth 16 s.panel.sw 0 < 16) && decide (nth 16 s.panel.sw 1 < 16)

/-- Bytes 0x01 to 0x03 of MODULE_TERMINALS as read: the item of slot 5 too. DESIGN CHOICE (log 34): Table 4.2 gives that item no
encoding. -/
def State.switchBytes (s : State) : Bytes :=
  [s.rd ModuleTerminals.PROFILE_SWITCH, s.rd ModuleTerminals.BLOCK_SWITCH,
   s.rd ModuleTerminals.MASK_SWITCH * 2 + s.rd ModuleTerminals.I2C_ADDR_SWITCH]

/-- The strings present, as a mask. -/
def State.presentMask (s : State) : Nat := s.strMask fun _ => true

/-- STRING_ENABLE and the I²C address are taken from the DIP switch: at start also where a rotary switch reads invalid. DESIGN
CHOICE (log 35): R79 does not say whether they wait for the first valid reading. -/
def State.applyMask (s : State) : State :=
  let s := { s with panel := { s.panel with applied := s.panel.sw } }
  (s.wr ModuleIdentity.STRING_ENABLE 0 (Nat.land (nth 0 s.panel.sw 2) s.presentMask)).wr I2cStatus.TARGET_ADDR 0
    (0x3A + nth 0 s.panel.sw 3)

/-- The values of a valid reading are applied: profile, block ID and enable mask (R79, R370). -/
def State.applySwitches (s : State) : State :=
  let k := nth 0 s.panel.sw 0
  let s := s.applyMask
  let s := s.wr ModuleTerminals.PROFILE_APPLIED 0 k
  let s := s.wr ModuleIdentity.BLOCK_ID 0 (nth 0 s.panel.sw 1)
  let b := s.profileBytes k
  s.eachStr fun n s => s.setProfile n b

/-! ### Loading the configuration (steps 5 to 7) -/

/-- Factory identity (Table 1.9), and the factory values of stored fields that were never written. -/
def State.factoryRegs (s : State) : State :=
  let n := s.nv
  let str := n.variant - 1
  let s := s.wr ModuleIdentity.VARIANT 0 n.variant
  let s := s.wr ModuleIdentity.DIE_COUNT 0 (str + 1)
  let s := s.wr ModuleIdentity.STRING_PRESENT 0 s.presentMask
  let s := s.wr ModuleIdentity.CONTROL_CHANNELS 0 (4 * (str + 1))
  let s := s.wr ModuleIdentity.HW_ISSUE 0 n.hwIssue
  let s := s.wr ModuleIdentity.SERIAL 0 n.serial
  let s := s.wr ModuleIdentity.BOOT_ROM_VERSION 0 n.romVersion
  let s := s.wr NetConfig.IPV4_ADDR 1 (192 + 168 * 2 ^ 8 + 77 * 2 ^ 16 + 2 * 2 ^ 24)
  let s := s.wr NetConfig.IPV4_ADDR 2 (192 + 168 * 2 ^ 8 + 78 * 2 ^ 16 + 2 * 2 ^ 24)
  let s := s.wr NetConfig.MAC_ADDR 1 n.macA
  let s := s.wr NetConfig.MAC_ADDR 2 n.macB
  let s := (s.wr PtpDomain.PORT 1 1).wr PtpDomain.PORT 2 2
  s.eachStr fun k s => (List.range 16).foldl (fun s e =>
    let c := Config.factoryCal k e
    (s.wr Calibration.CAL_OFFSET k c.1 e).wr Calibration.CAL_GAIN k c.2 e) s

/-- The version word of an image: FW_MAJOR, FW_MINOR, FW_PATCH at 0x10 of its header (Table 20.1). -/
def State.imageRegs (s : State) : State :=
  let v := field s.runHdr 0x10 4
  let s := s.wr ModuleIdentity.FW_PATCH 0 (v % 65536)
  let s := s.wr ModuleIdentity.FW_MINOR 0 (v / 65536 % 256)
  let s := s.wr ModuleIdentity.FW_MAJOR 0 (v / 16777216)
  let s := s.wr ModuleIdentity.ACTIVE_SLOT 0 s.nv.active
  (s.wr ConfigFormat.FORMAT_RUNNING 0 (field s.runHdr 0x20 2)).slotRegs

/-- The copy of the configuration in the running image's format is used; where that is the kept one, the other copy is
erased (R525). -/
def State.chooseConfig (s : State) : State :=
  let fmt := field s.runHdr 0x20 2
  let n := s.nv
  if n.keptFormat ≠ 0 ∧ n.keptFormat = fmt ∧ n.format ≠ fmt then
    ({ s with nv := { n with store := n.kept, format := n.keptFormat, kept := [], keptFormat := 0, keptTime := 0 } }).wrB
      ConfigFormat.CONFIG_REVERTED 0 true
  else s

/-- The configuration store as one byte string, for slot 3 (Table 4.2): each stored register as object, instance, place and an
80-byte value, the kept format area likewise (R522), the formats of both and the time of the kept one, the stored sets of trip
causes (R381), then BOOT_COUNT, the active slot and the TRANSPORT flag. DESIGN CHOICE (log 34): the spec gives no encoding. -/
def storeBytes (n : Nonvol) : Bytes :=
  let area (x : Store) : Bytes := (x.map fun c => toLE 2 c.1.obj ++ toLE 2 c.1.inst ++ toLE 4 c.1.pos ++ toLE 80 c.2).flatten
  area n.store ++ area n.kept ++ toLE 2 n.format ++ toLE 2 n.keptFormat ++ toLE 10 n.keptTime
    ++ (n.causes.map fun c => c.length :: c).flatten ++ toLE 4 n.bootCount ++ [n.active, b2n n.transport]

/-- The item of slot 4 at step 5 (R119). -/
def State.slot4Item (s : State) : Bytes :=
  s.objBytes IntegratorProfile.desc 0 ++ (s.strList.map fun n => s.objBytes Calibration.desc n).flatten

/-- A string with a LATCHED entry enters TRIPPED (R381). -/
def State.latchAtStart (s : State) (n : Nat) : State :=
  match (List.range 32).find? fun e =>
      decide (s.rd TripLog.STRING e = n) && s.rdB TripLog.LATCHED e && !s.rdB TripLog.CLEARED e with
  | none => s
  | some e =>
    let s := s.wr ProtectionStatus.SEQ_STATE n seqTripped
    let s := s.wr ProtectionStatus.LATCH_CAUSE n (s.rd TripLog.CAUSE e)
    let s := s.wr ProtectionStatus.LATCH_TIME n (s.rd TripLog.TRIP_TIME e)
    s.wr ProtectionStatus.LATCH_ENTRY n e

/-- START_CONFIG as it stands at this start (R132). -/
def State.startCfg (s : State) : List Nat := [
  s.rd StartConfig.START_CLOSE_POLICY, s.rd StartConfig.RESTORE_WAIT, s.rd StartConfig.DEFAULT_SOH,
  s.rd StartConfig.DEFAULT_R_FACTOR, s.rd StartConfig.DEFAULT_LIMIT, s.rd StartConfig.START_SOC_SIGMA]

/-- NET_CONFIG as it stands at this start (R168). -/
def State.startNet (s : State) : List Nat := [1, 2].flatMap fun p =>
  [s.rd NetConfig.IPV4_ADDR p, s.rd NetConfig.PREFIX_LEN p, s.rd NetConfig.SESSION_IDLE p, s.rd NetConfig.MAILBOX_PORT p,
   s.rd NetConfig.VLAN_ID p, s.rd NetConfig.VLAN_PCP p]

/-- HVAC_SOURCE, HVAC_OBJECT, HVAC_PERIOD and TARGET_T are taken, at the start and at every round (R408). -/
def State.hvacTake (s : State) : State :=
  { s with thermal := { s.thermal with hvac := [s.rd HvacConfig.HVAC_SOURCE, s.rd HvacConfig.HVAC_OBJECT,
                                                s.rd HvacConfig.HVAC_PERIOD, s.rd HvacConfig.TARGET_T] } }

/-- A step of Table 4.1 is complete. -/
def State.setPhase (s : State) (k : Nat) : State :=
  ({ s with boot := { s.boot with phase := k } }).wr BootStatus.START_PHASE 0 k

/-- TRUST_EMPTY, PEER_KEY_SET and PEER_KEY_ID follow what is stored (R545, Table 21.8). -/
def State.trustRegs (s : State) : State :=
  let full := (List.range 32).any fun e =>
    s.rdB TrustList.ENABLED e && decide (s.rd TrustList.CLASS e = 3)
  let key := s.rd SecurityStatus.PEER_KEY
  let s := s.wrB SecurityStatus.TRUST_EMPTY 0 (!full)
  let s := s.wrB SecurityStatus.PEER_KEY_SET 0 (decide (key ≠ 0))
  s.wr SecurityStatus.PEER_KEY_ID 0 (if key = 0 then 0 else ofLE ((Config.sha256 (toLE 32 key)).take 4))

/-- The cover is found open when the switches are first read (R81). -/
def State.coverAtStart (s : State) (open_ : Bool) : State :=
  if open_ then
    let s := (s.wrB ModuleTerminals.SEAL_OPEN 0 true).wrB ModuleTerminals.SEAL_OPENED 0 true
    (s.bump ModuleTerminals.SEAL_OPEN_COUNT).stamp ModuleTerminals.SEAL_OPEN_TIME
  else s

/-- WAKE_V_SET of each string: a wake voltage is set (Table 3.10). -/
def State.wakeRegs (s : State) : State :=
  s.eachStr fun n s => s.wrB StringPower.WAKE_V_SET n (decide (s.rd StringPower.TRANSPORT_WAKE_V n ≠ 0xFFFFFFFF))

/-- Step 5: BOOT_COUNT counts, and the configuration store is read and measured; steps 6 and 7 follow: the switches are
read and applied, the security state is entered, and the runtime image is measured. DESIGN CHOICE (log 34): slot 3 measures the
store with the count increased, Table 4.1 gives no order within step 5. -/
def State.finishStart (s : State) : State :=
  let s := s.chooseConfig
  let s := { s with nv := { s.nv with bootCount := s.nv.bootCount + 1 } }
  let s := s.factoryRegs
  let s := { s with objs := s.objs.load s.nv.store }
  let s := s.wr BootStatus.BOOT_COUNT 0 s.nv.bootCount
  let s := (s.extendSlot 3 (storeBytes s.nv)).extendSlot 4 s.slot4Item
  let s := s.setPhase 5
  let s := s.imageRegs.wakeRegs
  let s := s.switchRegs.coverAtStart s.panel.cover
  let s := s.wr ModuleTerminals.PRESENCE_STUCK 0 (b2n s.panel.pressAt.isSome)
  let s := if s.switchesValid then s.applySwitches
    else ({ (s.applyMask.eachStr fun n s => s.setProfile n []) with panel := { s.panel with retry := true } }).wrB ModuleTerminals.SWITCH_FAULT 0 true
  let s := s.extendSlot 5 s.switchBytes
  let sec := if s.nv.decommissioned then 5 else 1
  let s := s.wr SecurityStatus.SECURITY_STATE 0 sec
  let s := s.extendSlot 7 [sec, 0]
  let s := s.trustRegs
  let s := (s.eachStr fun n s => s.latchAtStart n).loopOut.hvacTake
  let s := { s with boot := { s.boot with cfg := s.startCfg, net := s.startNet } }
  let s := s.setPhase 6
  (s.extendSlot 2 (Config.runtimeOf (s.slotImage s.runSlot))).setPhase 7

/-- Steps 1 to 7 of Table 4.1 of a start with a restart cause and its detail; a journal with an unfinished operation
holds the start before step 5 until it has been replayed (R36, R112). `open_` is the cover. -/
def State.beginStart (s : State) (cause detail : Nat) (open_ : Bool) : State :=
  let s := { s with boot := { s.boot with t0 := s.now, cause := cause, detail := detail },
                    power := { s.power with powered := true, lastPower := 0 }, panel := { s.panel with cover := open_ } }
  let s := s.powerChange .off
  let s := (s.wr BootStatus.RESTART_CAUSE 0 cause).wr BootStatus.RESTART_DETAIL 0 detail
  let s := s.wrB ModuleTerminals.SAFE_LOOP_IN_OPEN 0 true
  let s := s.eachStr fun n s => s.wrB StringTerminals.FLOOP_OPEN n true
  -- DESIGN CHOICE (log 34): Table 4.2 gives the item of slot 0 no encoding.
  let s := s.extendSlot 0 (toLE 4 s.nv.romVersion ++ [b2n s.nv.decommissioned])
  let a := s.slotCheck s.nv.active
  let b := s.slotCheck (1 - s.nv.active)
  if a ≠ 0 ∧ b ≠ 0 then
    let s := { s with boot := { s.boot with halt := true, slotFail := if s.nv.active = 0 then (a, b) else (b, a) } }
    (s.wr BootStatus.START_PHASE 0 0xFF).loopOut
  else
    let k := if a = 0 then s.nv.active else 1 - s.nv.active
    let s := (s.wr BootStatus.BOOT_SLOT 0 k).wrB BootStatus.BOOT_FALLBACK 0 (decide (a ≠ 0))
    let s := s.extendSlot 1 (Config.stage1Of (s.slotImage k))
    let s := s.setPhase 4
    if s.nv.eraseCut || s.nv.programCut then s else s.finishStart

/-- A session is told why the module closes it, and its connection ends (R152). -/
def State.tellClosing (s : State) (reason : Nat) : State :=
  let s := s.mbx.sess.foldl (fun s x => s.unsolicited x.num 0x00F3 [reason]) s
  s.mbx.conns.foldl (fun s c => s.send (.close c.id)) s

/-- The module restarts without loss of supply: it opens every string through the protection path, closes its sessions
with reason 2, and begins step 1 (R131, R152). The stored writes still outstanding are completed as their sessions close, whatever
the cause (R139): DEDUCED (log 41). In HOLDUP the strings open, and the restart is the one that ends HOLDUP (R98). -/
def State.restart (s : State) (cause detail : Nat) : State :=
  if s.inHoldup then s.openAll 4
  else
  let s := ((s.openAll 4).tellClosing 2).settleJournal.cutSlot
  let cover := s.panel.cover
  let s := s.clearRun (keepMeasured s.objs measuredModule measuredString)
  s.beginStart cause detail cover

/-- A start from OFF under a supply: NORMAL, or BACKUP where TAP IN alone is there (Table 3.2). `sw` is the reading of the
switches; the rest is what the surroundings show. Where a release comparator reads 90 °C or more the latch logic sets the latch
itself and holds every die in reset (R402). DESIGN CHOICE (log 60): of several the first in the list is the first trip. -/
def State.powerUp (s : State) (normal : Bool) (cause detail : Nat) (sw : List Nat) (cover jumper button : Bool)
    (hot : List (Nat × Nat)) : State :=
  let s := s.clearRun (keepMeasured s.objs measuredModule measuredString)
  let press := if button then some (s.panel.pressAt.getD s.now) else none
  let s := { s with power := { s.power with supply := if normal then .normal else .backup,
                                            backupFrom := if normal then none else some s.now },
                    panel := { s.panel with sw := sw, pressAt := press, fired := button } }
  let s := (s.wrB PowerStatus.TAP_RUNNING 0 (!normal)).wr PowerStatus.BACKUP_ENTRIES 0 (b2n (!normal))
  let s := (s.wr PowerStatus.POWER_STATE 0 s.powerNow).sourceRegs
  let s := s.wrB ModuleTerminals.J_SVC_FITTED 0 jumper
  let hot := hot.filter fun x => s.hasDie x.1
  if hot.isEmpty then s.beginStart cause detail cover
  else
    let mask := hot.foldl (fun m x => setBit m x.1 true) 0
    { s with
      thermal := { s.thermal with first := hot.head?, mask := mask, coolSince := some s.now }
      power := { s.power with powered := true }
      boot := { s.boot with halt := true }
      panel := { s.panel with cover := cover, lit := false } }.loopOut

/-! ### Commands of the start -/

/-- The start from OFF: AUX_PRESENT has held for 100 ms, or AUX MAINS is absent with TAP_START_OK; with the TRANSPORT
flag set AUX_PRESENT leads to TRANSPORT instead. The operands are what the surroundings show: the switches, the cover,
the jumper, whether the PRESENCE button is held, and the hot release comparators (R78, R79, R81, R97, R402, R542). -/
def execStartFromOff (t profile block mask addr : Nat) (cover jumper : Bool) (seen : StartSeen) (s : State) :
    Host.Outcome State Fault Refusal :=
  let s := s.at t
  let aux := s.rdB PowerStatus.AUX_PRESENT
  .next (if s.power.supply ≠ .off then s
  else if s.nv.transport then
    if aux then { s with power := { s.power with supply := .transport } } else s
  else
    let auxOk := aux && (match s.power.auxSince with
      | some a => decide (a + msec 100 ≤ s.now)
      | none => false)
    let tapOk := !aux && s.rdB PowerStatus.TAP_START_OK
    if auxOk || tapOk then s.powerUp auxOk 1 0 [profile, block, mask, addr] cover jumper seen.button seen.hot
    else s)

/-- At start the write journal is replayed: an unfinished erase is re-run, an unfinished program repeated or removed, and
the start goes on (R36, R112, R157). -/
def execJournalReplayed (t : Nat) (s : State) : Host.Outcome State Fault Refusal :=
  let s := s.at t
  .next (if s.boot.phase = 4 ∧ s.boot.halt = false ∧ (s.nv.eraseCut = true ∨ s.nv.programCut = true) then
    let er := s.nv.eraseCut
    let s := { s with nv := { s.nv with eraseCut := false, programCut := false } }
    let s := (s.wrB BootStatus.JOURNAL_REPLAYED 0 true).wrB BootStatus.ERASE_RERUN 0 er
    s.finishStart
  else s)

end Sys2Proof.Machine
end

