-- ==== Sys2Proof/Machine/StreamOps.lean ====
section
/-! DEFINITION. Streams that close before their end (R139, R165, R352, R353, R526). -/

namespace Sys2Proof.Machine

open Sys2Proof.Obj

/-- A block of the lap ring is being sent by a HISTORY_READ while some but not all of its parts have left (R256). -/
def State.markSending (s : State) : State :=
  let busy := s.mbx.sess.flatMap fun (x : Sess) =>
    (x.streams.filter fun (q : Stream) => q.kind == 1 && decide (q.part ≠ 0)).map fun q => q.cursor
  { s with hist := { s.hist with lapRing := s.hist.lapRing.map fun b => { b with sending := busy.contains b.seq } } }

/-- What a stream that closes or aborts before its end leaves: an export that reads abandoned, a restore or a configuration
upload that was aborted. -/
def State.strayStream (s : State) (q : Stream) : State :=
  match q.kind with
  | 5 => if s.rd LedgerStatus.EXPORT_STATE = 1 then s.wr LedgerStatus.EXPORT_STATE 0 4 else s
  | 6 => s.wr LedgerStatus.RESTORE_RESULT 0 8
  | 9 => (s.wr ConfigFormat.UPLOAD_RESULT 0 6).wrB ConfigFormat.UPLOAD_ACTIVE 0 false
  | _ => s

/-- A stream of a session is closed before its end. -/
def State.closeStream (s : State) (num : Nat) (q : Stream) : State :=
  let s := s.modSess num fun x => { x with streams := x.streams.filter fun r => decide (r.num ≠ q.num) }
  let s := s.strayStream q
  if q.kind = 1 then s.markSending else s

/-- Every stream stops without END (R167). -/
def State.stopStreams (s : State) : State :=
  let s := s.mbx.sess.foldl (fun (s : State) (x : Sess) => x.streams.foldl (fun s q => s.closeStream x.num q) s) s
  { s with mbx := { s.mbx with inbox := [] } }

end Sys2Proof.Machine
end

