-- ==== Sys2Proof/Machine/Arch.lean ====
section
/-! DEFINITION. The dies, the reference clock and the memory (chapter 1): pace, stalls, watchdog, ECC. -/

namespace Sys2Proof.Machine

open Sys2Proof.Obj

/-! ### The lap rate in force (R200, R201) -/

/-- Die `d`. -/
def State.die (s : State) (d : Nat) : Die := nth Die.init s.dies d

/-- Die `d` is changed. -/
def State.modDie (s : State) (d : Nat) (f : Die → Die) : State := { s with dies := setNth (f (s.die d)) s.dies d }

/-- Sprint comes into force, is held or ends as SPRINT_REQ and the supply state say; `hold` is the relay handover of
R552 (R200). -/
def State.sprintRefresh (s : State) (n : Nat) (hold : Bool) : State :=
  if !s.rdB LapConfig.SPRINT_REQ n then
    (s.wrB LapStatus.SPRINT_IN_FORCE n false).wrB LapStatus.SPRINT_HELD n false
  else if s.rdB LapStatus.SPRINT_IN_FORCE n then s
  else if s.power.supply = .normal ∧ hold = false then
    (s.wrB LapStatus.SPRINT_IN_FORCE n true).wrB LapStatus.SPRINT_HELD n false
  else s.wrB LapStatus.SPRINT_HELD n true

/-- The configured rate f (R200). -/
def State.confRate (s : State) (n : Nat) : Nat :=
  if s.rdB LapStatus.SPRINT_IN_FORCE n then s.rd LapConfig.SPRINT_RATE n else s.rd LapConfig.LAP_RATE n

/-- The smallest shift that brings `f` to `lim` or below. -/
def shiftTo (lim : Nat) : Nat → Nat → Nat
  | 0, _ => 0
  | fuel + 1, f => if f ≤ lim then 0 else 1 + shiftTo (2 * lim) fuel f

/-- The segment shift s (R201). -/
def State.segShift (s : State) (n : Nat) : Nat :=
  let r := s.rd RingStatus.RING_STATE n
  if r = 2 ∨ r = 3 then shiftTo 6000 16 (s.confRate n) else 0

/-- max(b, s) of R41 and R201. -/
def State.baseShift (s : State) (n : Nat) : Nat := max (s.rd StringPower.BACKUP_SHIFT n) (s.segShift n)

/-- The pace-driven shift k (R41). -/
def State.paceShift (s : State) (n : Nat) : Nat := s.rd DieStatus.RATE_SHIFT n

/-- j of R201. -/
def State.totalShift (s : State) (n : Nat) : Nat := s.baseShift n + s.paceShift n

/-- Some string laps above 2 kHz (R96, R201): by its last lap or, where BACKUP has ended since that lap, by the rate that comes
(Table 3.7). -/
def State.sprints (s : State) : Bool :=
  s.strList.any fun n =>
    decide (s.rd LapStatus.LAP_STATE n = 1) &&
      (if (s.laps n).lifted then decide (2000 * 2 ^ (s.baseShift n + s.paceShift n) < s.confRate n)
      else decide (2000 * 2 ^ s.rd LapStatus.TOTAL_SHIFT n < s.rd LapStatus.CONFIGURED_RATE n))

/-- SPRINT_ACTIVE is set while some string laps above 2 kHz; POWER_STATE follows (R96, R201). -/
def State.sprintCheck (s : State) : State :=
  let on := s.sprints
  if on = s.rdB PowerStatus.SPRINT_ACTIVE then s else (s.wrB PowerStatus.SPRINT_ACTIVE 0 on).powerDerive

/-- A string's laps stop after the lap in progress (Table 7.1); a restore no longer awaits it (R354). A string that has not
lapped yet stays IDLE and fires no first lap. -/
def State.stopLaps (s : State) (n : Nat) : State :=
  let s := s.modLaps n fun l => { l with halted := true }
  if s.rd LapStatus.LAP_STATE n = 1 then ((s.wr LapStatus.LAP_STATE n 2).sprintCheck).restoreCheck else s

/-! ### Reference clock (R31) -/

/-- The reference leaves its window or stops: laps and telegrams stop and every string is opened (R31). REFCLK_FAIL then stays
set until the next start: DESIGN CHOICE (log 37), R31 does not say what a reference that returns brings. -/
def execRefclkFail (t : Nat) (s : State) : Host.Outcome State Fault Refusal :=
  let s := s.at t
  .next (if s.running = true ∧ s.rdB ModuleHealth.REFCLK_FAIL = false then
    ((s.wrB ModuleHealth.REFCLK_FAIL 0 true).eachStr fun n s => s.stopLaps n).openAll 4
  else s)

/-! ### Pace (R37 to R44) -/

/-- A die is stalled, once in a run: a string die laps no more, and the manager die's events wait (R44). -/
def State.stall (s : State) (d : Nat) : State :=
  let s := s.modDie d fun x => { x with stallNow := true }
  let s := s.wrB DieStatus.DIE_STALLED d true
  if d = 0 then s else s.stopLaps d

/-- PACE_LOW sets at the third consecutive measurement below 62.0 % and clears after 1 s at 63.0 % or more (R40). -/
def State.paceLow (s : State) (d eff : Nat) : State :=
  let x := s.die d
  let low := s.rdB DieStatus.PACE_LOW d
  let run := if eff < 620 then min 3 (x.lowRun + 1) else 0
  let ok := if 630 ≤ eff then some (x.okSince.getD s.now) else none
  let s := s.modDie d fun x => { x with lowRun := run, okSince := ok }
  if !low && decide (run = 3) then s.wrB DieStatus.PACE_LOW d true
  else if low && (match ok with
      | some o => decide (o + secs 1 ≤ s.now)
      | none => false) then s.wrB DieStatus.PACE_LOW d false
  else s

/-- RATE_SHIFT changes and is recorded (R41). -/
def State.setShift (s : State) (n k eff : Nat) : State :=
  let old := s.paceShift n
  let s := s.wr DieStatus.RATE_SHIFT n k
  let s := s.bump DieStatus.RATE_SHIFT_CHANGES n
  s.record 0x0101 (if old < k then 2 else 1) ([n, old, k] ++ toLE 2 eff) n

/-- The pace-driven shift k of a string die: up after three measurements below the requirement of the laps it runs, down
after 1 s at 1.10 times the requirement of twice that rate; never below 10 Hz (R41). -/
def State.paceRate (s : State) (n eff : Nat) : State :=
  let x := s.die n
  let k := s.paceShift n
  let load := 620 * s.rd RingStatus.POSITION_COUNT n * s.confRate n
  let b := s.baseShift n
  let low := eff * 4096000 * 2 ^ (b + k) < load
  let ok := 0 < k ∧ 11 * load ≤ 10 * (eff * 4096000 * 2 ^ (b + (k - 1)))
  let run := if low then min 3 (x.kLowRun + 1) else 0
  let since := if ok then some (x.kOkSince.getD s.now) else none
  if run = 3 ∧ 10 * 2 ^ (b + k + 1) ≤ s.confRate n then
    (s.modDie n fun x => { x with kLowRun := 0, kOkSince := none }).setShift n (k + 1) eff
  else if (match since with
      | some o => decide (o + secs 1 ≤ s.now)
      | none => false) then
    (s.modDie n fun x => { x with kLowRun := 0, kOkSince := none }).setShift n (k - 1) eff
  else s.modDie n fun x => { x with kLowRun := run, kOkSince := since }

/-- The second step of R43 is taken at a measurement that finds the manager die still PACE_LOW and below 62.0 % after the
first, and held until PACE_LOW clears. That an effective pace of 62.0 % covers the load is DEDUCED (log 36). -/
def State.shedMore (s : State) (was : Bool) (eff : Nat) : State :=
  let low := s.rdB DieStatus.PACE_LOW 0
  s.modDie 0 fun x => { x with shedDeep := low && (x.shedDeep || (was && decide (eff < 620))) }

/-- A 1 ms pace measurement of a die, in 0.1 % (R37 to R41); below 20.0 % the die is stalled (R44). PACE_MIN_1S reports the
first second of a run, a partial one, like a full one: DESIGN CHOICE (log 38), Table 1.10 leaves it open. -/
def execPaceMeasurement (t die pace : Nat) (s : State) : Host.Outcome State Fault Refusal :=
  let s := s.at t
  .next (if s.running = true ∧ s.hasDie die = true then
    let eff := pace * (1000 - s.rd DieStatus.BREATHER_FRACTION die) / 1000
    let x := s.die die
    let sec := s.now / 1000000000
    let s := if sec ≠ x.secIdx then s.wr DieStatus.PACE_MIN_1S die x.secMin else s
    let gone := if s.rdB DieStatus.PACE_LOW die then s.now - x.lastCount else 0
    let low := x.lowNs + gone
    let s := s.modDie die fun x =>
      { x with secIdx := sec, secMin := if sec ≠ x.secIdx then pace else min x.secMin pace, lastCount := s.now,
               lowNs := low, stallNow := x.stallNow && decide (pace < 200) }
    let s := s.wr DieStatus.PACE_LOW_TIME die (low / 1000000000)
    let s := (s.wr DieStatus.PACE die pace).wr DieStatus.EFFECTIVE_PACE die eff
    let s := if pace < 200 then s.stall die else s
    let s := if die = 0 ∧ s.managerStalled = false then s.settleOwed else s
    let was := s.rdB DieStatus.PACE_LOW die
    let s := s.paceLow die eff
    if die = 0 then ((s.shedMore was eff).compressCheck).roleCheck else s.paceRate die eff
  else s)

/-- The pace monitor of a die reads below 20.0 %, or has given no count for 2 ms (R44). -/
def execDieStalled (t die : Nat) (pace : Option Nat) (s : State) : Host.Outcome State Fault Refusal :=
  let s := s.at t
  let stalled := match pace with
    | some p => decide (p < 200)
    | none => decide ((s.die die).lastCount + msec 2 ≤ s.now)
  .next (if s.running = true ∧ s.hasDie die = true ∧ stalled = true then s.stall die else s)

/-- A string die has missed the manager die's heartbeat since `last` for 10 ms: its laps stop and its string is opened
through the protection path (R44). -/
def execManagerHeartbeatMissing (t str last : Nat) (s : State) : Host.Outcome State Fault Refusal :=
  let s := s.at t
  .next (if s.running = true ∧ s.hasStr str = true ∧ last + msec 10 ≤ s.now then
    (s.stopLaps str).openNow str 4
  else s)

/-! ### Memory (R33) and self-test (R27) -/

/-- A single-bit LPDDR5 error is corrected, written back and counted (R33). -/
def execDramCorrectedError (t : Nat) (s : State) : Host.Outcome State Fault Refusal :=
  let s := s.at t
  .next (if s.running then s.bump ModuleHealth.DRAM_CE_COUNT else s)

/-- A background scrub pass completes (R33). -/
def execScrubPass (t : Nat) (s : State) : Host.Outcome State Fault Refusal :=
  let s := s.at t
  .next (if s.running then s.bump ModuleHealth.SCRUB_PASSES else s)

/-- A background self-test of a die's spare cluster ends; a failure sets SELF_TEST_FAIL and nothing else (R27). -/
def execSpareSelfTest (t die : Nat) (failed : Bool) (s : State) : Host.Outcome State Fault Refusal :=
  let s := s.at t
  .next (if s.running = true ∧ s.hasDie die = true ∧ failed = true then
    s.wrB DieStatus.SELF_TEST_FAIL die true else s)

/-- The lead-cluster watchdog of a die expires, unless debug level 2 suspends it: the strings are opened and the module
restarts with cause 6 (R131, R547). -/
def execWatchdogRestart (t die : Nat) (s : State) : Host.Outcome State Fault Refusal :=
  let s := s.at t
  .next (if s.running = true ∧ s.hasDie die = true ∧ s.rd SecurityStatus.DEBUG_LEVEL ≠ 2 then s.restart 6 die else s)

end Sys2Proof.Machine
end

