-- ==== Sys2Proof/Machine/Hardware.lean ====
section
/-! DEFINITION. Terminals, the switch compartment and the front panel (chapter 2), with the presence events of R542. -/

namespace Sys2Proof.Machine

open Sys2Proof.Obj

/-! ### Terminals -/

/-- COIL SUPPLY is measured at `mv`: the flags have the hysteresis of R61. -/
def execCoilSupplyThreshold (t mv : Nat) (s : State) : Host.Outcome State Fault Refusal :=
  let s := s.at t
  .next (if s.power.powered then
    let low := decide (mv < 16500) || (s.rdB ModuleTerminals.COIL_SUPPLY_LOW && decide (mv ≤ 17500))
    let high := decide (34000 < mv) || (s.rdB ModuleTerminals.COIL_SUPPLY_HIGH && decide (33000 ≤ mv))
    (((s.wr ModuleTerminals.COIL_SUPPLY_V 0 mv).wrB ModuleTerminals.COIL_SUPPLY_LOW 0 low).wrB
      ModuleTerminals.COIL_SUPPLY_HIGH 0 high).refreshAll
  else s)

/-- The detection bridge of a string's CTL connector opens or closes (R66). -/
def execConnOpenChanged (t str : Nat) (isOpen : Bool) (s : State) : Host.Outcome State Fault Refusal :=
  let s := s.at t
  .next (if s.power.powered = true ∧ s.hasStr str = true ∧ s.rdB StringTerminals.CONN_OPEN str ≠ isOpen then
    let s := (s.wrB StringTerminals.CONN_OPEN str isOpen).bump StringTerminals.CONN_OPEN_COUNT str
    let s := s.record 0x0102 (if isOpen then 2 else 1)
      ([b2n isOpen, s.seqState str] ++ toLE 4 (s.rd StringTerminals.CONN_OPEN_COUNT str)) str
    s.refresh str
  else s)

/-! ### Cover of the switch compartment (R81) -/

/-- The cover opens: from the first reading of the switches on it is counted at once; before, and while the
dies are halted, the reading of the next start finds it open (R81). -/
def execSealOpen (t : Nat) (s : State) : Host.Outcome State Fault Refusal :=
  let s := s.at t
  let s := { s with panel := { s.panel with cover := true } }
  .next (if s.power.powered = true ∧ 6 ≤ s.boot.phase ∧ s.boot.halt = false ∧ s.rdB ModuleTerminals.SEAL_OPEN = false then
    (s.coverAtStart true).attention 5
  else s)

/-- The cover closes (R81). -/
def execCoverClosed (t : Nat) (s : State) : Host.Outcome State Fault Refusal :=
  let s := s.at t
  let s := { s with panel := { s.panel with cover := false } }
  .next (if s.power.powered then s.wrB ModuleTerminals.SEAL_OPEN 0 false else s)

/-! ### Indicator lamps (Table 2.14), as functions of the state -/

/-- The lamps: 0 off, 1 steady, 2 flashing. LED_PWR, LED_RUN, LED_FAULT, LED_SEAL in that order. A warning is a WARN flag
of PROTECTION_STATUS. LED_FAULT is steady in BOOT_HALT and at a caldera halt too (R117, R401). -/
def State.lamps (s : State) : List Nat :=
  let pwr := if !s.power.powered then 0 else if s.power.supply = .normal then 1 else 2
  let en := s.strList.filter fun n => s.enabled n
  let lapping (n : Nat) : Bool := decide (s.rd LapStatus.LAP_STATE n = 1)
  let run := if s.boot.halt || !(s.strList.any lapping) then 0 else if en.all lapping then 1 else 2
  let fault := if s.caldera || s.boot.halt then 1 else if s.strList.any fun n => decide (s.rd ProtectionStatus.LATCH_CAUSE n ≠ 0) then 1
    else if s.strList.any fun n => decide (s.rd ProtectionStatus.WARN n ≠ 0) then 2 else 0
  let cover := if s.rdB ModuleTerminals.SWITCH_CHANGED || s.rdB ModuleTerminals.SWITCH_FAULT then 2
    else b2n (s.rdB ModuleTerminals.SEAL_OPEN)
  [pwr, run, fault, cover]

/-! ### Display (R77, R99, R117), as a function of the state -/

/-- What the display shows. -/
inductive Display where
  | blank
  /-- POWER_STATE, SECURITY_STATE and ROLE. -/
  | module (power security role : Nat)
  /-- Of each present string: its number, SEQ_STATE, the rate it laps at in Hz, and TOPO_EPOCH. -/
  | strings (rows : List (Nat × Nat × Nat × Nat))
  /-- The newest eight active faults: string and cause. -/
  | faults (rows : List (Nat × Nat))
  /-- The addresses of NET A and NET B, and DOMAIN_IN_USE. -/
  | network (addrA addrB domain : Nat)
  /-- BOOT_HALT, and the check that slot A and slot B failed. -/
  | bootHalt (slotA slotB : Nat)
  deriving DecidableEq, Repr

/-- An entry put into a list by falling age. -/
def byAge (x : Nat × Nat × Nat) : List (Nat × Nat × Nat) → List (Nat × Nat × Nat)
  | [] => [x]
  | y :: ys => if y.1 ≤ x.1 then x :: y :: ys else y :: byAge x ys

/-- The active faults, newest first: the latched trips that are not cleared, each as its string and its cause. DESIGN CHOICE
(log 20): R77 does not say which faults are active. -/
def State.activeFaults (s : State) : List (Nat × Nat) :=
  let es := (List.range 32).filter fun e => s.tripClass e == 3
  ((es.map fun e => (s.tripAge e, s.rd TripLog.STRING e, s.rd TripLog.CAUSE e)).foldl (fun l x => byAge x l) []).map (·.2)

/-- The rate a string laps at in Hz, 0 where it does not lap. -/
def State.lapHz (s : State) (n : Nat) : Nat :=
  if s.rd LapStatus.LAP_STATE n = 1 then s.rd LapStatus.CONFIGURED_RATE n / 2 ^ s.rd LapStatus.TOTAL_SHIFT n else 0

/-- The display: BOOT_HALT with the failed checks (R117), blank without power, when halted or unlit, and else its page (R77). -/
def State.display (s : State) : Display :=
  if !s.power.powered then .blank
  else if s.boot.halt then
    if s.rd BootStatus.START_PHASE = 0xFF then .bootHalt s.boot.slotFail.1 s.boot.slotFail.2 else .blank
  else if !s.panel.lit then .blank
  else
    match s.panel.page with
    | 0 => .module (s.rd PowerStatus.POWER_STATE) s.security (s.rd BlockStatus.ROLE)
    | 1 => .strings (s.strList.map fun n => (n, s.seqState n, s.lapHz n, s.rd RingStatus.TOPO_EPOCH n))
    | 2 => .faults (s.activeFaults.take 8)
    | _ => .network (s.netNow 0 1) (s.netNow 0 2) (s.rd TimeStatus.DOMAIN_IN_USE)

/-! ### PRESENCE button and J-SVC (R77, R78, R542) -/

/-- A press of 50 ms to less than 2 s advances the page and lights the display (R77). -/
def execPresenceButtonPress (t held : Nat) (s : State) : Host.Outcome State Fault Refusal :=
  let s := s.at t
  .next (if s.running = true ∧ msec 50 ≤ held ∧ held < secs 2 then
    { s with panel := { s.panel with page := (s.panel.page + 1) % 4, lit := true, lastPress := s.now } }
  else s)

/-- The display blanks 10 min after the last press (R77). DESIGN CHOICE (log 20): R77 does not say how long a display lit by a fault
stays lit; the fault is no press, so where the last press is more than 10 min past, the display may blank again at once. -/
def execDisplayBlank (t : Nat) (s : State) : Host.Outcome State Fault Refusal :=
  let s := s.at t
  .next (if s.panel.lastPress + secs 600 ≤ s.now then { s with panel := { s.panel with lit := false } } else s)

/-- A presence event is accepted (R542). -/
def State.presenceOk (s : State) : Bool :=
  s.running && !s.inHoldup && !s.caldera && !s.rdB ModuleTerminals.PRESENCE_STUCK

/-- A presence event creates a token of its source: 1 button, 2 jumper. A button token opens the commissioning window
while TRUST_EMPTY is set (R545), and the two-wire port refuses its next transaction (R503). -/
def State.presenceEvent (s : State) (source : Nat) : State :=
  let window := decide (source = 1) && s.rdB SecurityStatus.TRUST_EMPTY
  let s := { s with sec := { s.sec with token := source, tokenAt := s.now, bound := 0, window := window },
                    i2c := { s.i2c with refuseNext := true } }
  let s := s.wr PresenceStatus.TOKEN_STATE 0 1
  let s := s.wr PresenceStatus.TOKEN_SOURCE 0 source
  let s := s.wr PresenceStatus.BOUND_SESSION 0 0
  let s := s.wrB SecurityStatus.COMMISSIONING_OPEN 0 window
  let s := (s.bump PresenceStatus.PRESENCE_EVENTS).stamp PresenceStatus.LAST_PRESENCE_TIME
  s.record 0x1302 1 [source]

/-- The button held since `since` was held at the start of this run (R78). -/
def State.heldAtStart (s : State) (since : Nat) : Bool :=
  s.power.powered && decide (since ≤ s.boot.t0)

/-- A button held at start sets PRESENCE_STUCK and makes no event (R78): a restart knows of a hold that began before it once a row
names it (log 20). -/
def State.stuckAtStart (s : State) (since : Nat) : State :=
  ({ s with panel := { s.panel with fired := true, releasedAt := none, pressAt := some since } }).wrB
    ModuleTerminals.PRESENCE_STUCK 0 true

/-- The button has been held since `since` for 2 s, and was released for 1 s before if it has made an event before
(R78). -/
def execPresenceEvent (t since : Nat) (s : State) : Host.Outcome State Fault Refusal :=
  let s := s.at t
  let rearmed := !s.panel.fired || (match s.panel.releasedAt with
    | some r => decide (r + secs 1 ≤ since)
    | none => false)
  .next (if s.heldAtStart since then s.stuckAtStart since
  else if s.presenceOk = true ∧ since + secs 2 ≤ s.now ∧ rearmed = true then
    ({ s with panel := { s.panel with fired := true, releasedAt := none, pressAt := some since } }).presenceEvent 1
  else s)

/-- The button has been held since `since` for longer than 10 s, or since before the start (R78). -/
def execPresenceStuck (t since : Nat) (s : State) : Host.Outcome State Fault Refusal :=
  let s := s.at t
  .next (if s.heldAtStart since then s.stuckAtStart since
  else if s.running = true ∧ since + secs 10 < s.now then s.wrB ModuleTerminals.PRESENCE_STUCK 0 true else s)

/-- The button is released after a hold of `held`: PRESENCE_STUCK clears, and the 1 s before another event starts
(R78). -/
def execPresenceButtonReleased (t held : Nat) (s : State) : Host.Outcome State Fault Refusal :=
  let s := s.at t
  let again := match s.panel.releasedAt with
    | some r => decide (r + secs 1 + held ≤ s.now)
    | none => false
  let s := { s with panel := { s.panel with fired := s.panel.fired && !again, releasedAt := some s.now, pressAt := none } }
  .next (s.wrB ModuleTerminals.PRESENCE_STUCK 0 false)

/-- J-SVC reads fitted and stable since `since` for 50 ms (R542). -/
def execJSvcFitted (t since : Nat) (s : State) : Host.Outcome State Fault Refusal :=
  let s := s.at t
  .next (if s.power.powered = true ∧ s.rdB ModuleTerminals.J_SVC_FITTED = false ∧ since + msec 50 ≤ s.now then
    let s := s.wrB ModuleTerminals.J_SVC_FITTED 0 true
    if s.presenceOk then s.presenceEvent 2 else s
  else s)

/-- J-SVC is removed (R82). -/
def execJSvcRemoved (t : Nat) (s : State) : Host.Outcome State Fault Refusal :=
  let s := s.at t
  .next (if s.power.powered then s.wrB ModuleTerminals.J_SVC_FITTED 0 false else s)

/-- A token ends: 120 s after its event (R542). -/
def State.endToken (s : State) : State :=
  let s := if s.sec.bound = 0 then s.bump PresenceStatus.TOKENS_EXPIRED else s
  let s := { s with sec := { s.sec with token := 0, bound := 0, window := false } }
  (((s.wr PresenceStatus.TOKEN_STATE 0 0).wr PresenceStatus.TOKEN_SOURCE 0 0).wr PresenceStatus.BOUND_SESSION 0 0).wrB
    SecurityStatus.COMMISSIONING_OPEN 0 false

/-- The presence token expires (R542). -/
def execTokenExpired (t : Nat) (s : State) : Host.Outcome State Fault Refusal :=
  let s := s.at t
  .next (if s.sec.token ≠ 0 ∧ s.sec.tokenAt + tokenLife ≤ s.now then s.endToken else s)

end Sys2Proof.Machine
end

