-- ==== Sys2Proof/Machine/RingOps.lean ====
section
/-! DEFINITION. The Scadura ring as shared operations (chapter 6): batons, flights, node commands, segments, and the
topology that an enumeration finds. -/

namespace Sys2Proof.Machine

open Sys2Proof.Obj

/-! ### Parts of a string -/

/-- The nodes numbered on a string, ascending. -/
def State.nodeList (s : State) (n : Nat) : List Nat := List.range (s.rd RingStatus.NODE_COUNT n)

/-- What the string die keeps of a node. -/
def State.rnode (s : State) (n k : Nat) : RNode := nth RNode.init (s.ring n).nodes k

/-- It is changed. -/
def State.modNode (s : State) (n k : Nat) (f : RNode → RNode) : State :=
  s.modRing n fun r => { r with nodes := setNth (f (nth RNode.init r.nodes k)) r.nodes k }

/-! ### Laps in progress -/

/-- The lap of a string with a LAP_SEQ, while it is in progress. -/
def State.lap? (s : State) (n seq : Nat) : Option Lap := (s.laps n).cur.find? fun x => x.seq == seq

/-- It is changed. -/
def State.modLap (s : State) (n seq : Nat) (f : Lap → Lap) : State :=
  s.modLaps n fun l => { l with cur := l.cur.map fun x => if x.seq = seq then f x else x }

/-- The record a lap holds of a node. -/
def Lap.recOf (x : Lap) (k : Nat) : Option Bytes := (x.records.find? fun r => r.1 == k).map (·.2)

/-- Every reachable node's record has arrived (R216). -/
def State.allRecords (s : State) (n : Nat) (x : Lap) : Bool :=
  (s.nodeList n).all fun k => decide (s.rd Topology.REACH n k = 3) || (x.recOf k).isSome

/-! ### Batons (Tables 6.2 to 6.7) -/

/-- A baton header with its HEADER_CRC. -/
def batonHeader (kind dir flags first last epoch seq count param : Nat) : Bytes :=
  let h := [kind, dir * 128 + flags, first, last] ++ toLE 4 epoch ++ toLE 2 seq ++ [count, 0] ++ toLE 4 param
  h ++ toLE 4 (crc32 h)

/-- A block with its BLOCK_CRC. -/
def batonBlock (node kind : Nat) (data : Bytes) : Bytes :=
  let b := [node, kind] ++ toLE 2 data.length ++ data
  b ++ toLE 4 (crc32 b)

/-- The data of a COMMAND block (Table 6.7). -/
def commandData (code : Nat) (args : Bytes) : Bytes :=
  [code, 0] ++ toLE 2 args.length ++ padTo ((args.length + 3) / 4 * 4) args

/-- The blocks of a baton after its header: those with a correct CRC as node, kind and data, and how many have a wrong
one. A block that does not end within the baton is left out (R179). -/
def parseBlocks : Nat → Bytes → List (Nat × Nat × Bytes) × Nat
  | 0, _ => ([], 0)
  | fuel + 1, bs =>
    let len := field bs 2 2
    if bs.length < 8 + len then ([], 0)
    else
      let b := bs.take (4 + len)
      let (rest, bad) := parseBlocks fuel (bs.drop (8 + len))
      if field bs (4 + len) 4 = crc32 b then ((field bs 0 1, field bs 1 1, b.drop 4) :: rest, bad) else (rest, bad + 1)

/-- The header of a received baton is right (R176). -/
def headerOk (bs : Bytes) : Bool := decide (20 ≤ bs.length) && decide (field bs 16 4 = crc32 (bs.take 16))

/-! ### Reach (R195) -/

/-- The ring is closed. -/
def State.ringClosed (s : State) (n : Nat) : Bool := decide (s.rd RingStatus.RING_STATE n = 1)

/-- The port whose segment holds a node: 0 A, 1 B; none when it is unreachable. -/
def State.portOf (s : State) (n k : Nat) : Option Nat :=
  match s.rd Topology.REACH n k with
  | 1 => some 0
  | 2 => some 1
  | _ => none

/-- The topology epoch of a string, 0 where it has none yet; a new one holds from the sample instant of its first lap (R154,
R188). -/
def State.epochNow (s : State) (n : Nat) : Nat :=
  if s.base < (s.ring n).epochFrom then (s.ring n).oldEpoch else s.rd RingStatus.TOPO_EPOCH n

/-- The nodes a port reaches. -/
def State.reached (s : State) (n port : Nat) : List Nat :=
  (s.nodeList n).filter fun k => s.ringClosed n || decide (s.portOf n k = some port)

/-- The largest delay held for a port, ns. -/
def State.maxDelay (s : State) (n port : Nat) : Nat :=
  maxL ((s.nodeList n).map fun k =>
    let d := s.rd (if port = 0 then Topology.DELAY_A else Topology.DELAY_B) n k
    if d = 0xFFFFFFFF then 0 else d)

/-- How long a baton travels before it is back: through a closed ring, or to the end of its segment and back; the
largest transit of Table 7.3 where nothing has been measured. -/
def State.transit (s : State) (n port : Nat) (closed : Bool) : Nat :=
  if closed then
    if port = 0 then (s.ring n).tAB.getD 14800
    else
      let t := s.rd RingStatus.T_BA n
      if t = 0xFFFFFFFF then 14800 else t
  else 2 * s.maxDelay n port + 160

/-! ### Instants (R199, R203, R205) -/

/-- Instant `m` of the schedule at f / 2^j laps per second (R199). -/
def lapInstant (f j m : Nat) : Nat := m * 2 ^ j * 1000000000 / f

/-- The smallest index whose instant lies at or after `t`. -/
def lapIndex (f j t : Nat) : Nat := (t * f + 2 ^ j * 1000000000 - 1) / (2 ^ j * 1000000000)

/-- `t` is an instant of the schedule. -/
def isLapInstant (f j t : Nat) : Bool := decide (f ≠ 0) && decide (lapInstant f j (lapIndex f j t) = t)

/-- The first instant of the schedule after `t`. -/
def nextInstant (f j t : Nat) : Nat := lapInstant f j (lapIndex f j (t + 1))

/-- LAP_PERIOD (R201). -/
def lapPeriod (f j : Nat) : Nat := 1000000000 * 2 ^ j / f

/-- An instant of the time base on the scale without steps. -/
def State.plainOf (s : State) (t : Nat) : Nat := ((t : Int) - s.clk.steps).toNat

/-- The time base in the timescale a lap was fired in: a later step does not move the instants of the lap (R203). -/
def State.lapNow (s : State) (x : Lap) : Nat := ((s.plain : Int) + x.nom - x.plain).toNat

/-- The lead in force, and whether it was raised (R205). -/
def State.lapLead (s : State) (n period : Nat) : Nat × Bool :=
  let l := min (s.rd LapConfig.LEAD_TIME n) (period - 50000)
  let d := max (s.maxDelay n 0) (s.maxDelay n 1) + 2000
  if l < d then (d, true) else (l, false)

/-! ### Departure (R194, R197) -/

/-- The bytes by which a baton can grow: the blocks of its nodes, and in a segment the TURN block of the node at the break, 12 bytes
(Tables 6.4, 6.7). -/
def State.growth (s : State) (n : Nat) (w : Wait) : Nat := w.grow + (if s.ringClosed n then 0 else 12)

/-- A baton leaves a port at `dep` (R194): it is expected back by its transit, 50 ns for each byte it can grow, and 400 ns. Its
port transmits for 50 ns a byte, its SOB and EOB among them (R170, R172). -/
def State.launch (s : State) (n dep : Nat) (w : Wait) : State :=
  let due := dep + s.transit n w.port w.closed + 50 * s.growth n w + 400
  let f : Flight := ⟨w.port, w.kind, w.node, w.seq, dep, due, w.closed, w.last⟩
  let free := dep + 50 * (w.bytes.length + 2)
  (s.modRing n fun r => { r with
    flights := r.flights ++ [f]
    busyA := if w.port = 0 then free else r.busyA
    busyB := if w.port = 0 then r.busyB else free }).send (.baton n w.port w.bytes)

/-- When a port is free to transmit. -/
def State.portFree (s : State) (n port : Nat) : Nat :=
  max s.now (if port = 0 then (s.ring n).busyA else (s.ring n).busyB)

/-- How long until the next SAMPLE of a string leaves, while it laps. -/
def State.sampleIn (s : State) (n : Nat) : Option Nat :=
  let f := s.confRate n
  let j := s.totalShift n
  match (s.laps n).lastNom with
  | some a =>
    if s.rd LapStatus.LAP_STATE n ≠ 1 ∨ f = 0 then none
    else
      let lead := (s.lapLead n (lapPeriod f j)).1
      some (lapInstant f j (lapIndex f j (max (a + 1) (s.base + lead))) - lead - s.base)
  | none => none

/-- A baton may start on its port: at its greatest length it has left every link it uses 2 µs before a SAMPLE enters that link
(R197). A SAMPLE of a closed ring uses no link from port B on, so that a baton round the ring from there is always clear; a PROBE
from port B comes back from its node on links of the SAMPLE's direction, the first of which the SAMPLE enters DELAY_A of the node
after it has left port A. -/
def State.clear (s : State) (n : Nat) (w : Wait) : Bool :=
  (w.closed && decide (w.port = 1)) || (match s.sampleIn n with
    | some d =>
      let gone := s.portFree n w.port + 50 * (w.bytes.length + 2 + s.growth n w) + 2000
      if w.port = 1 ∧ s.ringClosed n then
        let dA := s.rd Topology.DELAY_A n w.node
        let dB := s.rd Topology.DELAY_B n w.node
        decide (gone + (if dB = 0xFFFFFFFF then s.maxDelay n 1 else dB) ≤ s.now + d + (if dA = 0xFFFFFFFF then 0 else dA))
      else decide (gone ≤ s.now + d)
    | none => true)

/-- The first baton of the highest priority that waits for a port. -/
def firstWait (port : Nat) (ws : List Wait) : Option Wait :=
  [1, 2, 3].findSome? fun p => ws.find? fun w => decide (w.port = port) && decide (w.prio = p)

/-- The batons that wait for a port leave in their order of priority and of queueing while they may start (R197); while the first of
them may not, none does (DEDUCED, log 48). -/
def State.drainPort (s : State) (n port : Nat) : State :=
  let rec go : Nat → State → State
    | 0, s => s
    | fuel + 1, s =>
      match firstWait port (s.ring n).waiting with
      | none => s
      | some w =>
        if s.clear n w then
          go fuel ((s.modRing n fun r => { r with waiting := r.waiting.erase w }).launch n (s.portFree n port) w)
        else s
  go (s.ring n).waiting.length s

/-- The batons of both ports. -/
def State.drain (s : State) (n : Nat) : State := (s.drainPort n 0).drainPort n 1

/-- A baton other than a SAMPLE is queued at a port, and leaves as soon as it may (R197). -/
def State.sendBaton (s : State) (n port kind node seq : Nat) (bytes : Bytes) (grow : Nat) (closed : Bool)
    (last : Nat := node) : State :=
  let prio := if kind = 2 then 1 else if kind = 3 ∨ kind = 4 then 2 else 3
  (s.modRing n fun r => { r with waiting := r.waiting ++ [⟨prio, port, kind, node, seq, bytes, grow, closed, last⟩] }).drain n

/-- The first baton in flight of those values is taken off. -/
def dropFlight (port kind node seq : Nat) : List Flight → List Flight
  | [] => []
  | f :: fs =>
    if f.port = port ∧ f.kind = kind ∧ f.node = node ∧ f.seq = seq then fs else f :: dropFlight port kind node seq fs

/-! ### Node commands (R180, R181, R230) -/

/-- A change of topology holds the node commands (R187), and so do an ASSIGN that waits for the outstanding ones (R251) and a
halted cluster of the string die (R547). -/
def State.cmdsHeld (s : State) (n : Nat) : Bool :=
  s.dieHalted n || (match (s.ring n).job with
  | some j => decide (2 ≤ j.stage)
  | none => !(s.ring n).wantAssign.isEmpty)

/-- A command leaves for its node with the counter value expected there, under the epoch in force. A node that no port
reaches is sent nothing, and its reply window closes empty. -/
def State.sendCmd (s : State) (n : Nat) (c : NodeCmd) : State :=
  match s.portOf n c.node with
  | none => s
  | some port =>
    let closed := s.ringClosed n
    let h := batonHeader 3 port 0 c.node c.node c.epoch 0 (s.rd Topology.CMD_COUNT n c.node) 0
    s.sendBaton n port 3 c.node 0 (h ++ batonBlock 0xFE 2 (commandData c.code c.args)) 12 closed

/-- The first queued command becomes outstanding, unless its node has one outstanding; it is returned. Commands leave in the
order of the queue, so the others wait behind it (R230). -/
def takeCmd (busy : List Nat) : List NodeCmd → Option (NodeCmd × List NodeCmd)
  | [] => none
  | c :: cs =>
    if c.phase ≠ 0 then (takeCmd (c.node :: busy) cs).map fun (x, r) => (x, c :: r)
    else if busy.contains c.node then none
    else some ({ c with phase := 1 }, { c with phase := 1 } :: cs)

/-- Every queued command that may leave does (R230). -/
def State.pump (s : State) (n : Nat) : State :=
  let rec go : Nat → State → State
    | 0, s => s
    | fuel + 1, s =>
      match takeCmd [] (s.ring n).cmds with
      | none => s
      | some (c, cs) => go fuel ((s.modRing n fun r => { r with cmds := cs }).sendCmd n c)
  if s.cmdsHeld n then s else go (s.ring n).cmds.length s

/-- A command joins the queue of its string: SET_THRESHOLDS and CMP_RELEASE at its head, the others at its end (R230). -/
def State.queueCmd (s : State) (n node code : Nat) (args : Bytes) (owner : Owner) : State :=
  let c : NodeCmd := ⟨node, code, args, owner, s.rd RingStatus.TOPO_EPOCH n, 0, 0, 0⟩
  let head := decide (code = 0x10) || decide (code = 0x15)
  (s.modRing n fun r => { r with cmds := if head then
      (r.cmds.filter (·.phase ≠ 0)) ++ c :: r.cmds.filter (·.phase = 0) else r.cmds ++ [c] }).pump n

/-- A FETCH leaves for the result of a node's last command (R182, R230). -/
def State.sendFetch (s : State) (n node : Nat) : State :=
  match s.portOf n node with
  | none => s
  | some port =>
    s.sendBaton n port 4 node 0 (batonHeader 4 port 0 node node (s.rd RingStatus.TOPO_EPOCH n) 0 0 0) 1028
      (s.ringClosed n)

/-- A PROBE leaves a port for a node (R183). -/
def State.sendProbe (s : State) (n port node : Nat) : State :=
  s.sendBaton n port 7 node 0 (batonHeader 7 port 0 node node (s.rd RingStatus.TOPO_EPOCH n) 0 0 0) 0 false

/-- A full ENUMERATE, or one to which only unnumbered nodes append, leaves a port (R186, R189). -/
def State.sendEnumerate (s : State) (n port : Nat) (full : Bool) : State :=
  s.sendBaton n port 5 0xFF (b2n full)
    (batonHeader 5 port (if full then 32 else 0) 0xFF 0xFF (s.rd RingStatus.TOPO_EPOCH n) 0 0 0) 1440 (s.ringClosed n)

/-- A full ENUMERATE leaves in the place of a COLLECT (R192): R197's greatest length does not hold it
back (DEDUCED, log 48). -/
def State.enumerateInSlot (s : State) (n port : Nat) : State :=
  s.launch n (s.portFree n port) ⟨1, port, 5, 0xFF, 1,
    batonHeader 5 port 32 0xFF 0xFF (s.rd RingStatus.TOPO_EPOCH n) 0 0 0, 1440, s.ringClosed n, 0xFF⟩

/-! ### Flags of a string from its nodes (Table 13.2) -/

/-- Some node of the string has a flag. -/
def State.anyNode (s : State) (n : Nat) (f : Fld) : Bool := (s.nodeList n).any fun k => s.rdB f (nodeInst n k)

/-- The first node with a flag, for a trip. -/
def State.firstNode (s : State) (n : Nat) (f : Fld) : Nat :=
  ((s.nodeList n).find? fun k => s.rdB f (nodeInst n k)).getD 0xFFFF

/-- CMD_SEQ_FAULT is set at a node (R181, R182). -/
def State.setSeqFault (s : State) (n k : Nat) : State :=
  let s := (s.wrB Topology.CMD_SEQ_FAULT n true k).wrB NodeStatus.CMD_SEQ_FAULT (nodeInst n k) true
  (s.bump RingCounters.CMD_MISMATCHES n).setDiag n 3 true k

/-- The diagnostic flags of a string follow those of its nodes. -/
def State.nodeDiags (s : State) (n : Nat) : State :=
  let s := s.setDiag n 0 (s.anyNode n NodeStatus.SUM_MISMATCH)
  let s := s.setDiag n 3 (s.anyNode n NodeStatus.CMD_SEQ_FAULT)
  let s := s.setDiag n 6 (s.anyNode n NodeStatus.CMP_CONFIG_FAULT) (s.firstNode n NodeStatus.CMP_CONFIG_FAULT)
  s.setDiag n 7 (s.anyNode n NodeStatus.NODE_FAULT) (s.firstNode n NodeStatus.NODE_FAULT)

/-- An event whose code, severity and data the spec leaves open: free values, under a subject (R231, Table 8.3). -/
def State.recordOpen (s : State) (subject str node : Nat) : State :=
  let (c, s) := s.fresh 8
  let (v, s) := s.fresh 2
  let (d, s) := s.fresh 160
  s.record (subject * 256 + c) (1 + v) (toLE 20 d) str node (s.rd RingStatus.TOPO_EPOCH str)

/-! ### Segments and breaks (R193 to R196) -/

/-- A lap whose missing records were those of nodes that no port reaches any more is complete now (R216). -/
def State.lapsReached (s o : State) (n : Nat) : State :=
  s.modLaps n fun l => { l with cur := l.cur.map fun x =>
    if x.done.isNone && !x.short_ && s.allRecords n x && !o.allRecords n x then { x with recAt := s.lapNow x } else x }

/-- The ring's state and segments become those given; a change is recorded as event 0x0401, with the node and the cause,
and counted (R194). -/
def State.setSegments (s : State) (n st a b cause node : Nat) : State :=
  let o := s
  let old := s.rd RingStatus.RING_STATE n
  let cnt := s.rd RingStatus.NODE_COUNT n
  let same := decide (old = st) && decide (s.rd RingStatus.SEG_A_NODES n = a) && decide (s.rd RingStatus.SEG_B_NODES n = b)
  if same && decide (cause ≠ 5) then s
  else
    let un := cnt - a - b
    let s := s.wr RingStatus.RING_STATE n st
    let s := s.wr RingStatus.SEG_A_NODES n a
    let s := s.wr RingStatus.SEG_B_NODES n b
    let s := s.wr RingStatus.UNREACHABLE_NODES n un
    let s := (List.range cnt).foldl (fun s k =>
      s.wr Topology.REACH n (if k < a then 1 else if cnt ≤ k + b then 2 else 3) k) s
    let s := s.lapsReached o n
    let s := if st = 1 then s else s.wr RingStatus.T_AB n 0xFFFFFFFF
    let s := (s.wrB RingStatus.JOINT_READY n false).modRing n fun r => { r with jointSince := none }
    let s := if cause = 4 then (s.bump RingCounters.RING_CLOSURES n).stamp RingStatus.LAST_CLOSE_TIME n
      else if cause = 5 ∧ (old = 0 ∨ st = 1) then s
      else if cause = 5 then s.bump RingCounters.TURNAROUNDS n
      else (s.bump RingCounters.TURNAROUNDS n).stamp RingStatus.LAST_BREAK_TIME n
    s.record 0x0401 (if st = 1 ∨ old = 0 then 1 else 2) [old, st, a, b, un, cause] n node
      (s.rd RingStatus.TOPO_EPOCH n)

/-- The ring state of two segments: 2, or 3 when no port reaches any node. -/
def segState (a b : Nat) : Nat := if a = 0 ∧ b = 0 then 3 else 2

/-- A port has lost its incoming line: its segment is empty (R194, R195). -/
def State.portBreak (s : State) (n port : Nat) : State :=
  if s.rd RingStatus.RING_STATE n = 0 then s
  else
    let cnt := s.rd RingStatus.NODE_COUNT n
    let closed := s.ringClosed n
    let a := if port = 0 then 0 else if closed then cnt else s.rd RingStatus.SEG_A_NODES n
    let b := if port = 1 then 0 else if closed then cnt else s.rd RingStatus.SEG_B_NODES n
    s.setSegments n (segState a b) a b 1 0xFFFF

/-- A baton comes back with a TURN block that names the node at the break: side 1 towards port A, 2 towards port B
(R194). -/
def State.turnBreak (s : State) (n node side : Nat) : State :=
  let cnt := s.rd RingStatus.NODE_COUNT n
  let closed := s.ringClosed n
  if s.rd RingStatus.RING_STATE n = 0 ∨ cnt ≤ node then s
  else
    let a := if side = 1 then node + 1 else if closed then node else min (s.rd RingStatus.SEG_A_NODES n) node
    let b0 := s.rd RingStatus.SEG_B_NODES n
    let b := if side = 1 then (if closed then cnt - a else min b0 (cnt - a)) else cnt - node
    s.setSegments n (segState a b) a b 2 node

/-- A node of a ring that is not closed reports that its A-side or its B-side port is down: the break lies at that side of it
(R194). The change is recorded under cause 2, the nearest of the causes that R194 lists (DEDUCED, log 48). -/
def State.linkBreak (s : State) (n node : Nat) (aDown bDown : Bool) : State :=
  if s.rd RingStatus.RING_STATE n < 2 then s
  else
    let s := if bDown then s.turnBreak n node 1 else s
    if aDown then s.turnBreak n node 2 else s

/-- A baton is missing on a closed ring: every node is treated as reachable from port B alone until a TURN block
arrives (R194). -/
def State.missingBreak (s : State) (n : Nat) : State :=
  let cnt := s.rd RingStatus.NODE_COUNT n
  s.setSegments n (segState 0 cnt) 0 cnt 3 0xFFFF

/-- Both nodes at the break report LINK_READY now: the last of the port A segment and the first of the port B segment,
or the port itself where its segment is empty. -/
def State.jointNow (s : State) (n : Nat) : Bool :=
  let cnt := s.rd RingStatus.NODE_COUNT n
  let a := s.rd RingStatus.SEG_A_NODES n
  let b := s.rd RingStatus.SEG_B_NODES n
  decide (s.rd RingStatus.RING_STATE n = 2) &&
    (if a = 0 then (s.ring n).readyA else s.rdB Topology.LINK_READY n (a - 1)) &&
    (if b = 0 then (s.ring n).readyB else s.rdB Topology.LINK_READY n (cnt - b))

/-- JOINT_READY follows: LINK_READY on both sides without interruption for CLOSE_QUAL (R196). -/
def State.jointCheck (s : State) (n : Nat) : State :=
  let since := if s.jointNow n then some ((s.ring n).jointSince.getD s.now) else none
  let s := s.modRing n fun r => { r with jointSince := since }
  let qual := s.rd RingConfig.CLOSE_QUAL n * msec 100
  s.wrB RingStatus.JOINT_READY n (match since with
    | some x => decide (x + qual ≤ s.now)
    | none => false)

/-! ### Topologies (R186 to R191) -/

/-- A node as an IDENTITY block shows it (Table 6.6). -/
def identity (d : Bytes) (port : Nat) : TNode :=
  ⟨field d 0 16, field d 16 1, field d 17 1, field d 18 1, field d 19 1, field d 20 2, field d 22 1, field d 23 1, port,
    [], [], false, none⟩

/-- The nodes of the topology in force. -/
def State.topoNodes (s : State) (n : Nat) : List TNode :=
  (s.nodeList n).map fun k =>
    let i := nodeInst n k
    ⟨s.rd Topology.SERIAL n k, s.rd Topology.CHANNELS n k, s.rd NodeStatus.HW_ISSUE i, s.rd NodeStatus.FW_MAJOR i,
      s.rd NodeStatus.FW_MINOR i, s.rd NodeStatus.FW_PATCH i, k, 0, s.rd Topology.REACH n k, [], [], false, none⟩

/-- The fitted channels of a node at a ring slot, as NODE_CONFIG resolves them (R251). -/
def State.chanMask (s : State) (n slot channels : Nat) : Nat :=
  let m := s.rd NodeConfig.CHANNEL_MASK n slot
  let m := if m ≠ 0 then m else s.rd (if channels = 12 then NodeConfig.DEFAULT_MASK_12 else NodeConfig.DEFAULT_MASK_16) n
  m % 2 ^ channels

/-- Its fitted thermistors. -/
def State.thermMask (s : State) (n slot channels : Nat) : Nat :=
  let m := s.rd NodeConfig.THERM_MASK n slot
  (if m ≠ 0 then m else s.rd NodeConfig.DEFAULT_THERM_MASK n) % 2 ^ channels

/-- Its electrical place. -/
def State.stackSlot (s : State) (n slot : Nat) : Nat :=
  let x := s.rd NodeConfig.STACK_SLOT n slot
  if x = 0xFF then slot else x

/-- The channels of a mask, ascending. -/
def maskList (m : Nat) : List Nat := (List.range 16).filter fun c => bitOf m c

/-- The numbering of a list of nodes: for each its first position, none where its positions would exceed the limits; then
the positions assigned, and whether a limit was exceeded (R7, R12). The numbering goes on after a node that got none, so that a
later node whose positions still fit has them: DESIGN CHOICE (log 39), R12 does not say. -/
def State.numbering (s : State) (n : Nat) (nodes : List TNode) : List (TNode × Option Nat) × Nat × Bool :=
  nodes.foldl (fun (acc : List (TNode × Option Nat) × Nat × Bool) x =>
    let (l, next, ovr) := acc
    let w := (maskList (s.chanMask n l.length x.channels)).length
    if 40 ≤ l.length then (l, next, true)
    else if 512 < next + w then (l ++ [(x, none)], next, true)
    else (l ++ [(x, some next)], next + w, ovr)) ([], 0, false)

/-- The epoch that follows one (R17). -/
def nextEpoch (e : Nat) : Nat := if e = 0xFFFFFFFF then 1 else e + 1

/-- A full enumeration begins from the ports named (R186, R191, R192). -/
def State.startEnum (s : State) (n : Nat) (a b : Bool) : State :=
  let first := decide (s.rd RingStatus.TOPO_EPOCH n = 0)
  let j : Job := ⟨0, a, b, none, none, false, true, [], 0, 0, 0, false, [], 0⟩
  let s := s.modRing n fun r => { r with job := some j }
  let s := s.wrB RingStatus.ENUM_ACTIVE n true
  let s := if first then s else s.bump RingCounters.FULL_ENUMERATIONS n
  let fast := decide (s.rd LapStatus.LAP_STATE n = 1) &&
    decide (4000 * 2 ^ s.rd LapStatus.TOTAL_SHIFT n < s.rd LapStatus.CONFIGURED_RATE n)
  if fast then s.modRing n fun r => { r with skipA := r.skipA || a, skipB := r.skipB || b }
  else
    let s := if a then s.sendEnumerate n 0 true else s
    if b then s.sendEnumerate n 1 true else s

/-- The list an enumeration in progress has found: in the order of the port A baton on a closed ring, else the port A
segment and the port B segment in reverse; a segment that was not enumerated stays as numbered (R186). -/
def State.enumList (s : State) (n : Nat) (j : Job) : List TNode × Nat × Nat :=
  if j.closed then
    let l := j.fromA.getD []
    (l, l.length, 0)
  else
    let keep (p : Nat) := (s.topoNodes n).filter fun x => x.port == p
    let a := if j.wantA then j.fromA.getD [] else keep 1
    let b := if j.wantB then (j.fromB.getD []).reverse else keep 2
    (a ++ b, a.length, b.length)

/-- What an enumeration finds differs from the numbering of the segments it covered: an unnumbered node, a node missing,
or another serial number or channel count at a number (R190). -/
def State.enumDiffers (s : State) (n : Nat) (j : Job) (new : List TNode) : Bool :=
  let old := (s.topoNodes n).filter fun x =>
    j.closed || (decide (x.port = 1) && j.wantA) || (decide (x.port = 2) && j.wantB)
  let found := new.filter fun x => j.closed || (decide (x.port = 1) && j.wantA) || (decide (x.port = 2) && j.wantB)
  decide (old.map (fun x => (x.number, x.serial, x.channels)) ≠ found.map fun x => (x.number, x.serial, x.channels))

/-! ### What waits for a change of topology (R188, R190, R251) -/

/-- A new epoch under which the positions are derived again, with no change of node (R190). A node that no port reaches keeps
its number, and is neither measured nor assigned (R187). -/
def State.epochJob (s : State) (n : Nat) : State :=
  let lost (x : TNode) : TNode := { x with lost := decide (x.port = 3) }
  let j : Job := ⟨1, false, false, none, none, s.ringClosed n, false, (s.topoNodes n).map lost, s.rd RingStatus.SEG_A_NODES n,
    s.rd RingStatus.SEG_B_NODES n, nextEpoch (s.rd RingStatus.TOPO_EPOCH n), false, [], 0⟩
  (s.modRing n fun r => { r with job := some j, wantEpoch := false }).wrB RingStatus.ENUM_ACTIVE n true

/-- The median of up to three measurements, the middle one of those sorted. -/
def median3 (l : List Nat) : Nat :=
  let l := l.mergeSort
  nth 0 l (l.length / 2)

/-- A node's delay as measured from a port: 0xFFFFFFFF where that port does not reach it (R187). -/
def jobDelay (l : List Nat) : Nat := if l.isEmpty then 0xFFFFFFFF else median3 l

/-- The change of topology in progress is changed. -/
def State.modJob (s : State) (n : Nat) (f : Job → Job) : State :=
  s.modRing n fun r => { r with job := r.job.map f }

/-- The ASSIGN of node `i` of a change of topology leaves (Table 6.8). -/
def State.sendAssign (s : State) (n : Nat) (j : Job) (i : Nat) : State :=
  let (nums, _, _) := s.numbering n j.nodes
  match nums[i]? with
  | none => s
  | some (x, pos) =>
    let port := if x.port = 2 then 1 else 0
    let args := toLE 16 x.serial ++ [i, 0] ++ toLE 2 (pos.getD 0xFFFF) ++ toLE 4 j.epoch
      ++ toLE 4 (jobDelay x.probesA) ++ toLE 4 (jobDelay x.probesB)
      ++ toLE 2 (s.chanMask n i x.channels) ++ toLE 2 (s.thermMask n i x.channels)
    let h := batonHeader 3 port 0 0xFF 0xFF (s.rd RingStatus.TOPO_EPOCH n) 0 0 0
    let mask := s.thermMask n i x.channels
    let s := s.modJob n fun j => { j with nodes := j.nodes.zipIdx.map fun (y, m) => if m = i then { y with mask := some mask } else y }
    s.sendBaton n port 3 0xFF i (h ++ batonBlock 0xFE 2 (commandData 1 args)) 12 (j.closed || (j.same && s.ringClosed n))

/-- What waits is begun once no change is in progress: a new epoch, or, once no command is outstanding, the ASSIGNs under the
epoch in force. -/
def State.resumeJobs (s : State) (n : Nat) : State :=
  let r := s.ring n
  if r.job.isSome then s
  else if r.wantEpoch then s.epochJob n
  else if r.wantAssign.isEmpty || r.cmds.any (fun c => decide (c.phase ≠ 0)) then s
  else
    let keep (x : TNode) : TNode :=
      { x with probesA := [s.rd Topology.DELAY_A n x.number], probesB := [s.rd Topology.DELAY_B n x.number] }
    let j : Job := ⟨3, false, false, none, none, false, false, (s.topoNodes n).map keep, 0, 0,
      s.rd RingStatus.TOPO_EPOCH n, true, r.wantAssign, 0⟩
    let s := s.modRing n fun r => { r with job := some j, wantAssign := [] }
    match j.todo.head? with
    | some i => s.sendAssign n j i
    | none => s

/-- ASSIGNs to some nodes under the epoch in force: after a change of thermistor masks (R251), or of a node that holds
another epoch (R188). They wait behind a change of topology in progress and behind the outstanding commands. -/
def State.reassign (s : State) (n : Nat) (nodes : List Nat) : State :=
  let busy := match (s.ring n).job with
    | some j => if j.same then j.todo.drop 1 else []
    | none => []
  let new := nodes.filter fun k => !busy.contains k && !(s.ring n).wantAssign.contains k
  if new.isEmpty then s
  else (s.modRing n fun r => { r with wantAssign := r.wantAssign ++ new }).resumeJobs n

/-- The fitted channels of NODE_CONFIG have changed: a new epoch derives the positions again (R190), once no other change is in
progress. -/
def State.renumber (s : State) (n : Nat) : State :=
  if s.rd RingStatus.TOPO_EPOCH n = 0 then s
  else (s.modRing n fun r => { r with wantEpoch := true }).resumeJobs n

/-- An enumeration is complete: the nodes it covered that do not append records are marked, or a new epoch is needed (R190,
R191). -/
def State.decideEnum (s : State) (n : Nat) (j : Job) : State :=
  let (l, a, b) := s.enumList n j
  let first := decide (s.rd RingStatus.TOPO_EPOCH n = 0)
  if first || s.enumDiffers n j l then
    let e := if first then s.nv.bootCount % 65536 * 65536 + 1 else nextEpoch (s.rd RingStatus.TOPO_EPOCH n)
    s.modRing n fun r => { r with
      job := some { j with stage := 1, nodes := l, segA := a, segB := b, epoch := e }, wantEpoch := false }
  else
    let lim := s.rd RingConfig.MISSING_ROUNDS n
    let covered (k : Nat) : Bool := j.closed || (match s.portOf n k with
      | some p => if p = 0 then j.wantA else j.wantB
      | none => false)
    let s := (s.nodeList n).foldl (fun s k =>
      if lim ≤ (s.rnode n k).missed ∧ covered k = true then
        ((s.wrB Topology.NODE_SILENT n true k).wrB NodeStatus.NODE_SILENT (nodeInst n k) true).modNode n k fun x =>
          { x with missed := 0 }
      else s) s
    ((s.modRing n fun r => { r with job := none }).wrB RingStatus.ENUM_ACTIVE n false).resumeJobs n

/-- The measurements of a delay that lie within a tolerance of their median. -/
def withinTol (tol : Nat) (l : List Nat) : List Nat :=
  let m := median3 l
  l.filter fun x => decide (x ≤ m + tol) && decide (m ≤ x + tol)

/-- The delay of a round-trip time (R183). -/
def probeDelay (rtt : Nat) : Nat := (rtt - 200) / 2

/-- The probes of a change of topology: index and port, as 2 × index + port, of every reachable node. -/
def probePlan (closed : Bool) (nodes : List TNode) : List Nat :=
  ((List.range nodes.length).map fun i =>
    match nodes[i]? with
    | some x => if x.lost then [] else if closed then [2 * i, 2 * i + 1] else if x.port = 1 then [2 * i] else [2 * i + 1]
    | none => []).flatten

/-- The next PROBE of a change of topology leaves, addressed by the number the node holds. DESIGN CHOICE (log 63): a node that holds
none yet is addressed by 0xFF, and what comes back is taken as its answer; R187 names no address for it. -/
def State.jobProbe (s : State) (n : Nat) (j : Job) : State :=
  match j.todo.head? with
  | none => s
  | some c =>
    match j.nodes[c / 2]? with
    | some x => s.sendProbe n (c % 2) x.number
    | none => s

/-- The ASSIGNs of a change of topology have all been answered: ASSIGNs under the epoch in force end here, and a new epoch
waits for its first lap (R187). -/
def State.assigned (s : State) (n : Nat) (j : Job) : State :=
  if j.same then
    ((s.modRing n fun r => { r with job := none }).resumeJobs n).pump n
  else s.modJob n fun j => { j with stage := 4, todo := [] }

/-- The next ASSIGN leaves, or the change of topology is ready. -/
def State.nextAssign (s : State) (n : Nat) : State :=
  match (s.ring n).job with
  | none => s
  | some j =>
    match j.todo.head? with
    | none => s.assigned n j
    | some i => s.sendAssign n j i

/-- Delays have been measured: the ASSIGNs to the reachable nodes begin. -/
def State.beginAssign (s : State) (n : Nat) : State :=
  (s.modJob n fun j =>
    { j with stage := 3, tries := 0, todo := (List.range (min 40 j.nodes.length)).filter fun i =>
        (j.nodes[i]?.map fun x => !x.lost).getD false }).nextAssign n

end Sys2Proof.Machine
end

