-- ==== Sys2Proof/Machine/LapOps.lean ====
section
/-! DEFINITION. Laps as shared operations (chapter 7): the schedule, SAMPLE and COLLECT batons, the records of a lap, the
positions' samples, and the lap data record. -/

namespace Sys2Proof.Machine

open Sys2Proof.Obj

/-! ### Instants (R203, R216) -/

/-- The next lap's nominal instant in the schedule in force. -/
def State.nextNom (s : State) (n nom : Nat) : Nat := nextInstant (s.confRate n) (s.totalShift n) nom

/-- The nominal instant of the lap after one, in the timescale of that one: that of the lap fired next, or until it is fired that
of the schedule in force. -/
def State.nextOf (s : State) (n : Nat) (x : Lap) : Nat :=
  match x.nextAt with
  | some a => ((a : Int) + x.nom - x.plain).toNat
  | none => s.nextNom n x.nom

/-- The collection cut-off of a lap (R216). -/
def State.cutOff (s : State) (n : Nat) (x : Lap) : Nat := max (x.nom + 150000) (s.nextOf n x)

/-! ### SAMPLE (R206, R219, R220) -/

/-- A SAMPLE of a lap leaves a port at `dep`; no baton goes before it (R197). -/
def State.sendSample (s : State) (n port dep : Nat) (x : Lap) (lead : Nat) (late closed : Bool) : State :=
  let cnt := s.rd RingStatus.NODE_COUNT n
  let h := batonHeader 1 port (if late then 64 else 0) (if cnt = 0 then 0xFF else 0) (if cnt = 0 then 0xFF else cnt - 1)
    x.epoch x.seq 0 lead
  s.launch n dep ⟨0, port, 1, 0, x.seq, h, 0, closed, 0⟩

/-- The string die names an instant to its front-end (R209, R278): `at_` of the time base as it stands when the SAMPLE leaves,
and so `plain` on the scale without steps. A later step moves neither the instant nor the samples around it (DEDUCED, log 51). -/
def State.nameInstant (s : State) (n seq : Nat) (late : Bool) (at_ plain : Nat) : State :=
  (s.modStr n fun x => { x with fe := { x.fe with named := x.fe.named ++ [(seq, late, plain)] } }).send
    (.feLink n 1 [seq, b2n late, at_])

/-- What is done for a lap uses the configuration that was in force at its instant (R161, R321). -/
def State.underOld (s : State) (n seq : Nat) (f : State → State) : State :=
  let l := ((s.lap? n seq).map (·.old)).getD []
  if l.isEmpty then f s
  else
    let u := f (s.putCells l)
    { u with objs := l.foldl (fun a c => a.set c.key (s.objs.get? c.key)) u.objs }

/-- The late SAMPLE of the lap whose on-time SAMPLE has been lost before its nominal instant, if there is one: it leaves
port B 200 ns later, or behind the baton being transmitted there, or is withheld (R219, R220). A lap has one. `damaged` tells that
the on-time SAMPLE came back damaged. -/
def State.lateSample (s : State) (n : Nat) (damaged : Bool) : State :=
  match (s.laps n).cur.getLast? with
  | none => s
  | some x =>
    if (x.closed || x.joining) && x.late.isNone && !x.withheld && decide (s.lapNow x < x.nom) then
      let dep := max (s.now + 200) (s.ring n).busyB
      let tl := s.lapNow x + (dep - s.now)
      let l := max (x.nom - tl) (max (s.maxDelay n 1 + 200) 2000)
      if s.nextOf n x < tl + l + 50000 then
        (s.bump LapStatus.LATE_SAMPLES_WITHHELD n).modLap n x.seq fun y => { y with withheld := true }
      else
        let s := s.sendSample n 1 dep x l true false
        let s := s.bump LapStatus.LATE_SAMPLES_SENT n
        let s := s.modLap n x.seq fun y => { y with late := some (tl + l, (tl + l : Int) - x.nom), lateLead := l, lateAny := damaged }
        s.nameInstant n x.seq true (tl + l) (x.plain + (tl + l - x.nom))
    else s

/-! ### COLLECT (R212, R213, R215) -/

/-- Fitted channels of a node, ascending. -/
def State.fitted (s : State) (n k : Nat) : List Nat := maskList (s.rd NodeStatus.CHANNEL_MASK (nodeInst n k))

/-- Bytes of a node's LAP_RECORD block (Table 6.5). -/
def State.recBytes (s : State) (n k : Nat) : Nat :=
  let c := (s.fitted n k).length
  if c % 2 = 1 then 26 + 2 * c else 28 + 2 * c

/-- The smallest h at which nodes 0 to h - 1 bring at least the bytes of the others (R213). -/
def splitAt (total : Nat) : Nat → Nat → List Nat → Nat
  | h, _, [] => h
  | h, acc, b :: bs => if total ≤ 2 * acc then h else splitAt total (h + 1) (acc + b) bs

/-- Collection is split on a closed ring (R213). -/
def State.splits (s : State) (n : Nat) : Bool :=
  s.rdB LapConfig.SPLIT_FORCE n || decide (4000 * 2 ^ s.rd LapStatus.TOTAL_SHIFT n < s.rd LapStatus.CONFIGURED_RATE n)

/-- The nodes a COLLECT from a port names, by the collection plan (R195, R213). -/
def State.collectPlan (s : State) (n port : Nat) : List Nat :=
  let ks := s.nodeList n
  if s.ringClosed n then
    if s.splits n then
      let bs := ks.map fun k => s.recBytes n k
      let h := splitAt (sumL bs) 0 0 bs
      ks.filter fun k => if port = 0 then decide (k < h) else decide (h ≤ k)
    else if port = 0 then ks else []
  else ks.filter fun k => decide (s.portOf n k = some port)

/-- A COLLECT of a lap for some nodes from a port; it names the range they span. -/
def State.collectWait (s : State) (n port : Nat) (x : Lap) (ks : List Nat) : Wait :=
  let a := ks.headD 0
  ⟨1, port, 2, a, x.seq, batonHeader 2 port 0 a (ks.getLastD 0) x.epoch x.seq 0 0,
    sumL (ks.map fun k => s.recBytes n k), s.ringClosed n, ks.getLastD 0⟩

/-- It is sent, where it names a node. -/
def State.sendCollect (s : State) (n port : Nat) (x : Lap) (ks : List Nat) : State :=
  let w := s.collectWait n port x ks
  if ks.isEmpty then s else s.sendBaton n port 2 w.node w.seq w.bytes w.grow w.closed w.last

/-- The reachable nodes of a span whose record of a lap is missing. -/
def State.missingOf (s : State) (n : Nat) (x : Lap) (a b : Nat) : List Nat :=
  (s.nodeList n).filter fun k => decide (a ≤ k) && decide (k ≤ b) && decide (s.rd Topology.REACH n k ≠ 3) && (x.recOf k).isNone

/-- A COLLECT has returned, or is lost: one more is sent for the missing nodes of its span from the port that now reaches
them, when a retry is left, R197 permits it and it can return before the cut-off (R215). -/
def State.retryCollect (s : State) (n seq a b : Nat) : State :=
  match s.lap? n seq with
  | none => s
  | some x =>
    if x.done.isSome || x.short_ then s
    else
      let miss := s.missingOf n x a b
      let go (s : State) (port : Nat) : State :=
        let ks := miss.filter fun k => decide (s.portOf n k = some port)
        let w := s.collectWait n port x ks
        let back := s.portFree n port - s.now + 50 * (w.bytes.length + 2 + s.growth n w) + s.transit n port w.closed
        let retries := ((s.lap? n seq).map (·.retries)).getD 0
        if ks.isEmpty || decide (s.rd LapConfig.COLLECT_RETRY n ≤ retries) || !s.clear n w ||
            decide (s.cutOff n x ≤ s.lapNow x + back) then s
        else
          ((s.sendCollect n port x ks).bump LapStatus.COLLECT_RETRIES n).modLap n seq fun y =>
            { y with retries := y.retries + 1 }
      go (go s 0) 1

/-! ### Records (Table 6.5) -/

/-- The STATUS word of a record, and one bit of it. -/
def recBit (d : Bytes) (i : Nat) : Bool := bitOf (field d 8 2) i

/-- SAMPLE_OFFSET of a record. -/
def recOffset (d : Bytes) : Int := toInt 32 (field d 0 4)

/-- A node's flags follow its record (Tables 6.13 and 8.6). -/
def State.recFlags (s : State) (n k : Nat) (d : Bytes) : State :=
  let i := nodeInst n k
  let s := (s.wrB Topology.TURNING n (recBit d 7) k).wrB Topology.LINK_READY n (recBit d 6) k
  let s := s.wrB NodeStatus.CMP_LATCHED i (recBit d 5 || recBit d 4)
  let s := s.wrB NodeStatus.FLOOP_OPENED i (recBit d 3)
  let s := s.wrB NodeStatus.BALANCE_ACTIVE i (recBit d 2)
  let s := s.wrB NodeStatus.WIRE_TEST_ACTIVE i (recBit d 1)
  let s := s.wrB NodeStatus.NODE_FAULT i (recBit d 0 || decide (s.rd NodeStatus.CMP_TEST_FAIL i ≠ 0))
  let s := (s.wrB Topology.NODE_SILENT n false k).wrB NodeStatus.NODE_SILENT i false
  s.modNode n k fun x => { x with sign := true, missed := 0 }

/-- An ASSIGN to a numbered node is outstanding. -/
def State.assigning (s : State) (n k : Nat) : Bool :=
  match (s.ring n).job with
  | some j => decide (j.stage = 3) && decide ((j.todo.head?.bind fun i => j.nodes[i]?).map (·.number) = some k)
  | none => false

/-- The counter in a record is compared with the expected one, unless a command to the node, an ASSIGN too, is outstanding
(R182). -/
def State.recCounter (s : State) (n k : Nat) (d : Bytes) : State :=
  let c := field d 0x0B 1
  if c = s.rd Topology.CMD_COUNT n k ∨ s.assigning n k = true ∨
      (s.ring n).cmds.any (fun x => decide (x.node = k) && decide (x.phase ≠ 0)) = true then s
  else (s.setSeqFault n k).wr Topology.CMD_COUNT n c k

/-- A LAP_RECORD arrives: one under another epoch is discarded and its node assigned again (R188); a late one has the
lap's LATE_OFFSET added (R208). -/
def State.takeRecord (s : State) (n seq k : Nat) (d : Bytes) : State :=
  match s.lap? n seq with
  | none => s
  | some x =>
    if x.done.isSome || x.short_ || decide (s.cutOff n x < s.lapNow x) || decide (s.rd RingStatus.NODE_COUNT n ≤ k) ||
        (x.recOf k).isSome then s
    else if field d 0x0E 4 ≠ x.epoch then (s.bump RingCounters.EPOCH_MISMATCHES n).reassign n [k]
    else
      let off := match x.late with
        | some l => if recBit d 10 then l.2 else 0
        | none => 0
      let d := toLE 4 (ofInt 32 (recOffset d + off)) ++ d.drop 4
      let s := s.modLap n seq fun y => { y with records := y.records ++ [(k, d)], recAt := s.lapNow x }
      let s := ((((s.recCounter n k d).recFlags n k d).nodeDiags n).classifyTrip n).linkBreak n k (recBit d 9) (recBit d 8)
      s.jointCheck n

/-- The reading of channel `c` in a record of a node with the fitted channels given. -/
def recVolt (fitted : List Nat) (c : Nat) (d : Bytes) : Nat :=
  match fitted.idxOf? c with
  | some i => field d (0x12 + 2 * i) 2
  | none => 0xFFFF

/-! ### Blanking (R210, R211) -/

/-- When a node's blanking for a sample started: the start of the predicted blanking that the SOB's arrival `a` falls in,
else that arrival. `ivals` are the last two intervals. -/
def blankStart (anchor : Option Nat) (ivals : List Nat) (a : Nat) : Nat :=
  match anchor, ivals with
  | some x, i :: r =>
    let iv := r.foldl min i
    if iv = 0 then a
    else
      let p := x + (a + 40000 - x) / iv * iv
      if x + iv ≤ p ∧ p ≤ a + 40000 ∧ a < p + iv / 2 then min a (p - 40000) else a
  | _, _ => a

/-- The blanking of a node's sample in a lap started later than 40 µs before it (R211). -/
def State.blankShort (s : State) (n : Nat) (x : Lap) (k : Nat) (d : Bytes) : Bool :=
  let late := recBit d 10
  let at_ := ((x.plain : Int) + recOffset d).toNat
  let lead := match x.late with
    | some l => l.1
    | none => x.nom
  -- the SOB arrives DELAY after the departure of its SAMPLE
  let dA := s.rd Topology.DELAY_A n k
  let dB := s.rd Topology.DELAY_B n k
  let fromB := late || (!(x.closed || x.joining) && decide (s.portOf n k = some 1))
  let delay := if fromB then dB else dA
  let dep := if late then lead - x.lateLead else x.nom - x.lead
  let r := s.rnode n k
  let arr := x.plain + dep - x.nom + (if delay = 0xFFFFFFFF then 0 else delay)
  decide (at_ < blankStart r.anchor r.ivals arr + 40000)

/-- BLANK_SHORT of every node for a lap: none where it gave no sample (R211). -/
def State.blankAll (s : State) (n : Nat) (x : Lap) : State :=
  (s.nodeList n).foldl (fun s k =>
    let short := match x.recOf k with
      | some d => !recBit d 11 && s.blankShort n x k d
      | none => false
    s.modNode n k fun r => { r with short := short }) s

/-- The anchor and the intervals move with an on-time sample (R210). -/
def RNode.sampled (r : RNode) (at_ : Nat) : RNode :=
  { r with anchor := some at_, ivals := match r.anchor with
      | some a => (at_ - a) :: r.ivals.take 1
      | none => [] }

/-! ### Positions (R217) -/

/-- A position's value in a lap: 0 fresh, 1 late, 2 held, 3 not available. -/
def State.placePos (s : State) (n : Nat) (x : Lap) (p : Pos) : Pos :=
  let p := { p with vPrev := if p.val = 3 then 0xFFFF else p.v }
  let hold : Pos :=
    let age := min 255 (p.age + 1)
    let na := decide (s.rd Topology.REACH n p.node = 3) || (match p.sampledAt with
      | none => true
      | some a => decide (a + s.rd LapConfig.HOLD_LIMIT n * msec 1 < x.plain))
    { p with age := age, val := if na then 3 else 2, blank := false }
  match x.recOf p.node with
  | none => hold
  | some d =>
    if recBit d 11 then hold
    else
      { p with v := recVolt (s.fitted n p.node) p.chan d, sampledAt := some ((x.plain : Int) + recOffset d).toNat,
               age := 0, val := if recBit d 10 then 1 else 0, blank := (s.rnode n p.node).short }

/-! ### The lap data record (Tables 7.5 to 7.7) -/

/-- The flags word of the header. -/
def State.lapFlags (s : State) (n : Nat) (x : Lap) : Nat :=
  let ps := (s.est n).pos
  let stitched := x.records.any fun r => recBit r.2 10 && !recBit r.2 11
  let curMissing := x.cur.isNone || (x.late.isSome && x.curLate.isNone)
  b2n stitched + 2 * b2n (ps.any fun p => decide (2 ≤ p.val)) + 4 * b2n x.split + 8 * b2n x.seg
    + 16 * b2n ((s.nodeList n).any fun k => (s.rnode n k).short) + 32 * b2n x.gap + 64 * b2n x.timeStep + 128 * b2n x.noLock + 256 * b2n x.raised
    + 512 * b2n curMissing + 1024 * b2n x.enumIn

/-- The largest magnitude of SAMPLE_OFFSET among a lap's records, of all or of the on-time ones (R208). -/
def worstSkew (x : Lap) (all : Bool) : Nat :=
  maxL ((x.records.filter fun r => !recBit r.2 11 && (all || !recBit r.2 10)).map fun r => (recOffset r.2).natAbs)

/-- µA as mA, to the nearest. -/
def milli (i : Int) : Int := roundDiv i 1000

/-- A node entry (Table 7.6). DESIGN CHOICE (log 12): of a node that has given no record yet SAMPLE_OFFSET reads 0x80000000 and
THERM_INDEX 0, for which Table 0.4 gives no not-available value. -/
def State.nodeEntry (s : State) (n : Nat) (x : Lap) (k : Nat) : Bytes :=
  let short := (s.rnode n k).short
  let missing := (x.recOf k).isNone
  match (s.rnode n k).rec_ with
  | some d =>
    [k, field d 0x0A 1] ++ toLE 2 (field d 8 2 % 4096 + 4096 * b2n short + 8192 * b2n missing) ++ toLE 2 (field d 0x0C 2)
      ++ [0, 0] ++ toLE 4 (field d 4 4) ++ toLE 4 (field d 0 4)
  | none => [k, 0] ++ toLE 2 (8192 * b2n missing) ++ toLE 2 0x8000 ++ [0, 0] ++ toLE 4 0xFFFFFFFF ++ toLE 4 0x80000000

/-- A position entry (Table 7.7). -/
def Pos.entry (p : Pos) : Bytes :=
  toLE 2 (if p.val = 3 then 0xFFFF else p.v)
    ++ [p.age, b2n (p.val == 1) + 2 * b2n (p.val == 2) + 4 * b2n (p.val == 3) + 8 * b2n p.blank]

/-- The lap data record (R222). -/
def State.lapRecord (s : State) (n : Nat) (x : Lap) (flags : Nat) : Bytes :=
  let ps := (s.est n).pos
  let cnt := s.rd RingStatus.NODE_COUNT n
  timeBytes x.nom ++ toLE 2 x.seq ++ toLE 4 x.epoch ++ [n, x.shift] ++ toLE 2 flags ++ toLE 4 x.period ++ toLE 4 x.lead
    ++ toLE 4 (worstSkew x true)
    ++ toLE 4 (ofInt 32 (match x.late with
        | some l => l.2
        | none => 0))
    ++ toLE 4 (match x.cur with
        | some c => satInt 32 (milli c.1)
        | none => 0x80000000)
    ++ toLE 4 (match x.curLate with
        | some c => satInt 32 (milli c)
        | none => 0x80000000)
    ++ toLE 4 x.prevInterval
    ++ toLE 8 (match x.cur with
        | some c => ofInt 64 c.2
        | none => 2 ^ 63)
    ++ [cnt, 0] ++ toLE 2 ps.length
    ++ toLE 4 (if x.short_ then 0xFFFFFFFF else min ((x.done.getD 0) - x.nom) 0xFFFFFFFE)
    ++ ((s.nodeList n).map fun k => s.nodeEntry n x k).flatten ++ (ps.map Pos.entry).flatten

end Sys2Proof.Machine
end

