-- ==== Sys2Proof/Machine/NodeOps.lean ====
section
/-! DEFINITION. What the module concludes of a node's measurements (chapter 8, R298): sums, sense wires, thermistors and
the temperature of a position. -/

namespace Sys2Proof.Machine

open Sys2Proof.Obj

/-! ### Medians -/

/-- Twice the median: the sum of the two middle values, or twice the middle one. -/
def median2 (l : List Int) : Int :=
  let l := l.mergeSort
  let k := l.length
  if k = 0 then 0 else (nth 0 l ((k - 1) / 2)) + (nth 0 l (k / 2))

/-- The median, rounded to the nearest. -/
def medianI (l : List Int) : Int := roundDiv (median2 l) 2

/-! ### Sense wires (R238) -/

/-- How a wire is classified: 0 not at all, 1 inner, 2 the negative end wire, 3 the positive end wire. -/
def wireKind (f : List Nat) (w : Nat) : Nat :=
  match f.head?, f.getLast? with
  | some lo, some hi =>
    if w = lo then 2 else if w = hi + 1 then 3
    else if 0 < w && f.contains (w - 1) && f.contains w then 1 else 0
  | _, _ => 0

/-- The classifiable wires of a node, ascending. -/
def wiresOf (f : List Nat) : List Nat := (List.range 17).filter fun w => decide (wireKind f w ≠ 0)

/-- The channels a classified wire joins. -/
def wireChans (f : List Nat) (w : Nat) : List Nat :=
  match wireKind f w with
  | 1 => [w - 1, w]
  | 2 => [w]
  | 3 => [w - 1]
  | _ => []

/-- A wire without a history. -/
def Wire.fresh (w : Nat) : Wire := ⟨w, 0, 0, 0, 0, false, false, none, 0, none⟩

/-- A wire of a node. -/
def RNode.wire (r : RNode) (w : Nat) : Wire := (r.wires.find? fun x => x.w == w).getD (.fresh w)

/-- It is changed; wires are kept in ascending order. -/
def putWire (x : Wire) : List Wire → List Wire
  | [] => [x]
  | y :: ys => if y.w = x.w then x :: ys else if x.w < y.w then x :: y :: ys else y :: putWire x ys

@[inherit_doc putWire] def State.modWire (s : State) (n k w : Nat) (f : Wire → Wire) : State :=
  s.modNode n k fun r => { r with wires := putWire (f (r.wire w)) r.wires }

/-- The wire is SUSPECT, OPEN or INCONCLUSIVE (R240). -/
def Wire.bad (x : Wire) : Bool := decide (x.state = 1) || decide (x.state = 2) || decide (x.state = 4)

/-- The bad wires of a channel of a node. -/
def State.badWires (s : State) (n k c : Nat) : List Nat :=
  let r := s.rnode n k
  let f := s.fitted n k
  [c, c + 1].filter fun w => decide (wireKind f w ≠ 0) && (r.wire w).bad

/-- A wire of the channel is in a state other than none. -/
def State.wireMarked (s : State) (n k c : Nat) : Bool :=
  let r := s.rnode n k
  [c, c + 1].any fun w => decide ((r.wire w).state ≠ 0)

/-- The wires of a string in a state other than none, in ascending node and wire order. -/
def State.markedWires (s : State) (n : Nat) : List (Nat × Wire) :=
  ((s.nodeList n).map fun k => ((s.rnode n k).wires.filter fun x => decide (x.state ≠ 0)).map fun x => (k, x)).flatten

/-- WIRE_STATUS and the diagnostic flag of a wire state follow the wires (Table 8.8, Table 13.2). -/
def State.wireRegs (s : State) (n : Nat) : State :=
  let l := s.markedWires n
  let s := (s.wr WireStatus.ENTRY_COUNT n (min 255 l.length)).wrB WireStatus.WIRE_OVERFLOW n (decide (32 < l.length))
  let s := (List.range 32).foldl (fun s e =>
    match l[e]? with
    | some (k, x) =>
      let s := (s.wr WireStatus.NODE n k e).wr WireStatus.WIRE n x.w e
      let s := (s.wr WireStatus.STATE n x.state e).wr WireStatus.LAST_RESULT n x.last e
      let s := s.wr WireStatus.BOUND n (if x.bad then min 0xFFFE (x.bound / 10) else 0xFFFF) e
      s.wrB WireStatus.TEST_DEFERRED n x.deferred e
    | none =>
      let s := (s.wr WireStatus.NODE n 0xFF e).wr WireStatus.WIRE n 0xFF e
      let s := (s.wr WireStatus.STATE n 0 e).wr WireStatus.LAST_RESULT n 0 e
      (s.wr WireStatus.BOUND n 0xFFFF e).wrB WireStatus.TEST_DEFERRED n false e) s
  s.setDiag n 5 (l.any fun x => x.2.bad)

/-- The deferral condition of R243: the contactors are closed and an adjoining reading lies within 200 mV of its
comparator threshold. -/
def State.testDeferred (s : State) (n k w : Nat) : Bool :=
  let i := nodeInst n k
  let ov := s.rd NodeStatus.OV_THRESH i
  let uv := s.rd NodeStatus.UV_THRESH i
  (s.rdB ProtectionStatus.POS_ON n || s.rdB ProtectionStatus.NEG_ON n) &&
    ((wireChans (s.fitted n k) w).any fun c =>
      let v := s.rd NodeStatus.CELL_V i c
      decide (v ≠ 0xFFFF) && ((decide (ov ≠ 0xFFFF) && decide (ov ≤ v + 2000) && decide (v ≤ ov + 2000)) ||
        (decide (uv ≠ 0xFFFF) && decide (uv ≤ v + 2000) && decide (v ≤ uv + 2000))))

/-- The automatic tests asked for are sent, or deferred (R243). -/
def State.wireTests (s : State) (n : Nat) : State :=
  (s.nodeList n).foldl (fun s k =>
    ((s.rnode n k).wires.filter (·.want)).foldl (fun s x =>
      if s.testDeferred n k x.w then s.modWire n k x.w fun y => { y with deferred := true }
      else
        (s.modWire n k x.w fun y => { y with deferred := false, want := false }).queueCmd n k 0x14 [x.w, 0, 0, 0]
          (.wire x.w none)) s) s

/-- A wire test result: 1 INTACT, 2 OPEN, 3 INCONCLUSIVE (Table 8.3). A change to or from OPEN is recorded. -/
def State.wireResult (s : State) (n k w result : Nat) : State :=
  let x := (s.rnode n k).wire w
  let bad := x.bad
  let retest := s.now + secs (s.rd NodeConfig.WIRE_RETEST n)
  let s := s.bump NodeStatus.WIRE_TESTS (nodeInst n k)
  let s := s.modWire n k w fun y => { y with last := result }
  let s := match x.state, result with
    | 0, _ => s
    | _, 2 => if x.state = 2 then s else
        (s.modWire n k w fun y => { y with state := 2, retestAt := none }).recordOpen 6 n k
    | 3, _ => s
    | 2, 1 => (s.modWire n k w fun y => { y with state := 3, run := 0, retestAt := some retest }).recordOpen 6 n k
    | 2, _ => s
    | _, 1 => s.modWire n k w fun y => { y with state := 3, run := 0, retestAt := some retest }
    | _, _ => s.modWire n k w fun y => { y with state := 4, retestAt := some retest }
  let s := if bad && !((s.rnode n k).wire w).bad then s.modWire n k w fun y => { y with left := some s.now } else s
  (s.wireRegs n).classifyTrip n

/-- A candidate of R238 in a record; voltages in 100 µV, limits in mV. -/
def State.wireCand (s : State) (n : Nat) (f : List Nat) (d : Bytes) (w : Nat) : Bool :=
  let v (c : Nat) : Int := recVolt f c d
  let vs := f.map v
  let med := median2 vs
  let d2 (c : Nat) : Int := 2 * v c - med
  let sum2 : Int := 2 * (sumI vs - 10 * field d 4 4)
  let dev : Int := 20 * s.rd NodeConfig.WIRE_DEV n
  let wtol : Int := 20 * s.rd NodeConfig.WIRE_SUM_TOL n
  let tol : Int := 20 * s.rd NodeConfig.SUM_TOL n
  let big (x : Int) (l : Int) : Bool := decide (l < x) || decide (x < -l)
  match wireChans f w with
  | [a, b] =>
    big (d2 a) dev && big (d2 b) dev && decide ((d2 a < 0) ≠ (d2 b < 0)) && !big (d2 a + d2 b) wtol && !big sum2 tol
  | [c] => big (d2 c) dev && !big (sum2 - d2 c) tol
  | _ => false

/-- The bound B of R240 of a wire, in 100 µV. -/
def wireBound (f : List Nat) (d : Bytes) (w : Nat) : Nat :=
  match wireChans f w with
  | [a, b] => recVolt f a d + recVolt f b d
  | [c] => 10 * field d 4 4 - sumL ((f.filter (· ≠ c)).map fun a => recVolt f a d)
  | _ => 0

/-- One lap's classification of a node whose record holds samples (R238, Table 8.3). -/
def State.classifyWires (s : State) (n k : Nat) (d : Bytes) : State :=
  let f := s.fitted n k
  (wiresOf f).foldl (fun s w =>
    let x := (s.rnode n k).wire w
    let expired := decide (x.state = 3) && (match x.retestAt with
      | some t => decide (t ≤ s.now)
      | none => false)
    if x.state = 0 ∨ expired then
      let run := if s.wireCand n f d w then x.run + 1 else 0
      if 3 ≤ run then
        (s.modWire n k w fun y => { y with state := 1, run := 0, want := true, bound := wireBound f d w }).recordOpen 6 n k
      else if x.run = run then s
      else s.modWire n k w fun y => { y with run := run }
    else if x.bad then s.modWire n k w fun y => { y with bound := wireBound f d w }
    else s) s

/-! ### Node readings at a lap (R227, R228) -/

/-- SUM_MISMATCH follows three consecutive laps beyond or within SUM_TOL (R228). -/
def State.sumCheck (s : State) (n k : Nat) (diff : Int) : State :=
  let tol : Int := 10 * s.rd NodeConfig.SUM_TOL n
  let bad := decide (tol < diff) || decide (diff < -tol)
  let r := s.rnode n k
  let b := if bad then min 3 (r.sumBad + 1) else 0
  let o := if bad then 0 else min 3 (r.sumOk + 1)
  let s := s.modNode n k fun x => { x with sumBad := b, sumOk := o }
  if b = 3 then s.wrB NodeStatus.SUM_MISMATCH (nodeInst n k) true
  else if o = 3 then s.wrB NodeStatus.SUM_MISMATCH (nodeInst n k) false
  else s

/-- A node's readings follow its record of a lap, its thermistor unless READ_STATUS has given a newer value (R227); its sums and its
wires are judged when it holds samples. DESIGN CHOICE (log 53): CELL_SUM and SUM_DIFF are rounded to the nearest 1 mV. -/
def State.lapNode (s : State) (n : Nat) (x : Lap) (k : Nat) (d : Bytes) : State :=
  let i := nodeInst n k
  let f := s.fitted n k
  let s := s.modNode n k fun r => { r with rec_ := some d }
  let s := s.wr NodeStatus.LAST_RECORD_TIME i (timeVal x.nom)
  let s := s.wr NodeStatus.STACK_V i (field d 4 4)
  let th := field d 0x0A 1
  let taken := ((s.now : Int) - ((s.lapNow x : Int) - x.nom) + recOffset d).toNat
  let s := if th < 16 ∧ nth 0 (s.rnode n k).thermAt th ≤ taken then
      (s.wr NodeStatus.THERM_T i (field d 0x0C 2) th).modNode n k fun r => { r with thermAt := setNth taken r.thermAt th }
    else s
  if recBit d 11 then s
  else
    let s := f.foldl (fun s c => s.wr NodeStatus.CELL_V i (recVolt f c d) c) s
    let sum := sumL (f.map fun c => recVolt f c d)
    let diff : Int := (sum : Int) - 10 * field d 4 4
    let s := s.wr NodeStatus.CELL_SUM i (roundDiv sum 10).toNat
    let s := s.wrI NodeStatus.SUM_DIFF i (roundDiv diff 10)
    let s := (s.sumCheck n k diff).classifyWires n k d
    if recBit d 10 then s
    else s.modNode n k fun r => r.sampled ((x.plain : Int) + recOffset d).toNat

/-! ### Temperature of a position (R298) -/

/-- A thermistor's value, none where it is not available. -/
def State.therm (s : State) (n k i : Nat) : Option Int :=
  let v := s.rdI NodeStatus.THERM_T (nodeInst n k) i
  if v = -32768 then none else some v

/-- The valid values of a node's fitted thermistors. -/
def State.nodeTherms (s : State) (n k : Nat) : List Int :=
  (maskList (s.rd NodeStatus.THERM_MASK (nodeInst n k))).filterMap fun i => s.therm n k i

/-- The thermistor a channel uses: its own, else the fitted one of nearest index, the lower on a tie. -/
def thermFor (f : List Nat) (c : Nat) : Option Nat :=
  f.foldl (fun b i =>
    match b with
    | none => some i
    | some j => if (max i c - min i c) < (max j c - min j c) then some i else some j) none

/-- T_p of a channel of a node, in 0.01 °C; the thermistor it came from, 255 for a median; and whether it is assumed. -/
def State.posTemp (s : State) (n k c : Nat) : Int × Nat × Bool :=
  let own := match thermFor (maskList (s.rd NodeStatus.THERM_MASK (nodeInst n k))) c with
    | some i => (s.therm n k i).map fun v => (v, i)
    | none => none
  match own with
  | some (v, i) => (v, i, false)
  | none =>
    let slot := s.rd NodeStatus.STACK_SLOT (nodeInst n k)
    let near := (s.nodeList n).filter fun m =>
      let x := s.rd NodeStatus.STACK_SLOT (nodeInst n m)
      decide (x + 1 = slot) || decide (x = slot + 1)
    let a := (near.map fun m => s.nodeTherms n m).flatten
    if !a.isEmpty then (medianI a, 255, false)
    else
      let b := ((s.nodeList n).map fun m => s.nodeTherms n m).flatten
      if !b.isEmpty then (medianI b, 255, false) else (2500, 255, true)

/-- TEMP_UNKNOWN of a string: a node's fitted thermistors have all been not available for 10 s (R367). -/
def State.tempUnknown (s : State) (n : Nat) : State :=
  let s := (s.nodeList n).foldl (fun s k =>
    let none_ := (s.nodeTherms n k).isEmpty && decide (s.rd NodeStatus.THERM_MASK (nodeInst n k) ≠ 0)
    s.modNode n k fun r => { r with thermNa := if none_ then some (r.thermNa.getD s.now) else none }) s
  s.setDiag n 4 ((s.nodeList n).any fun k => match (s.rnode n k).thermNa with
    | some a => decide (a + secs 10 ≤ s.now)
    | none => false)

end Sys2Proof.Machine
end

