-- ==== Sys2Proof/Machine/ProtCheck.lean ====
section
/-! DEFINITION. The protection checker of a string at each lap (R365 to R367). -/

namespace Sys2Proof.Machine

open Sys2Proof.Obj

/-- A judgement of a value: the timer starts at the lap instant at which it is first beyond its limit, a lap within limits
resets it, and a trip follows at the first lap `delay` or more after the start (R365, R366). -/
def judgeTimer (ts : List Timer) (pos kind : Nat) (beyond : Bool) (at_ delay : Nat) : List Timer × Bool :=
  let rest := ts.filter fun t => !(t.pos == pos && t.kind == kind)
  if !beyond then (rest, false)
  else
    let old := (ts.find? fun t => t.pos == pos && t.kind == kind).getD ⟨pos, kind, at_, false⟩
    let due := decide (old.since + delay ≤ at_)
    (rest ++ [{ old with fired := old.fired || due }], due && !old.fired)

/-- A value of a position is judged against its limits; `kind` 1 cell, 3 the bound of its lower wire, 6 of its upper. -/
def State.judge (s : State) (n pos at_ kind v lo hi node chan : Nat) : State :=
  let delay := msec (s.prof n 0x22 2)
  let (ts, a) := judgeTimer (s.prot n).vTimers pos kind (decide (hi < v)) at_ delay
  let (ts, b) := judgeTimer ts pos (kind + 1) (decide (v < lo)) at_ delay
  let s := s.modProt n fun p => { p with vTimers := ts }
  let i (lim : Nat) : TripInfo := ⟨node, chan, tripVal v, tripVal lim, 0⟩
  let s := if a then s.trip n (if kind = 1 then 4 else 6) (i hi) else s
  if b then s.trip n (if kind = 1 then 5 else 6) (i lo) else s

/-- The wire bounds that a position is judged by, those of inner wires under the lower position, and of its end wires: each with
how many limits it is compared with, and its kind of judgement. -/
def State.boundsOf (s : State) (n : Nat) (p : Pos) : List (Nat × Nat × Nat) :=
  let f := s.fitted n p.node
  ((s.badWires n p.node p.chan).filter fun w => decide (wireKind f w ≠ 1) || decide (w = p.chan + 1)).map fun w =>
    (((s.rnode n p.node).wire w).bound, if wireKind f w = 1 then 2 else 1, if w = p.chan then 3 else 6)

/-- The judgements of a position under other kinds than those it is now judged under end: their timers are reset (R365). DEDUCED
(log 59): R365 does not name the timer of a judgement that the wire states take away. -/
def State.dropTimers (s : State) (n pos : Nat) (kinds : List Nat) : State :=
  s.modProt n fun q => { q with vTimers := q.vTimers.filter fun t => t.pos != pos || t.kind == 5 || kinds.contains t.kind }

/-- The voltage of a position is judged at a lap (R365). -/
def State.checkVolt (s : State) (n at_ pos : Nat) (p : Pos) : State :=
  let hi := s.prof n 0x10 2
  let lo := s.prof n 0x12 2
  let s := if 2 ≤ p.val ∨ p.blank = true then s
    else if (s.badWires n p.node p.chan).isEmpty then (s.dropTimers n pos [1, 2]).judge n pos at_ 1 p.v lo hi p.node p.chan
    else
      let bs := s.boundsOf n p
      bs.foldl (fun s b => s.judge n pos at_ b.2.2 b.1 (b.2.1 * lo) (b.2.1 * hi) p.node p.chan)
        (s.dropTimers n pos (bs.flatMap fun b => [b.2.2, b.2.2 + 1]))
  let last := p.sampledAt.getD p.since
  let gone := decide (2 ≤ p.val) && decide (last + msec (s.prof n 0x2A 2) ≤ s.plain)
  let (ts, a) := judgeTimer (s.prot n).vTimers pos 5 gone at_ 0
  let s := s.modProt n fun q => { q with vTimers := ts }
  if a then s.trip n 10 { TripInfo.plain with node := p.node, chan := p.chan } else s

/-- The temperature of a position is judged on a new value (R367). -/
def State.checkTemp (s : State) (n at_ pos : Nat) (p : Pos) : State :=
  let (t, _, assumed) := s.posTemp n p.node p.chan
  if assumed then s
  else
    let hot := toInt 16 (s.prof n 0x24 2)
    let cold := toInt 16 (s.prof n 0x26 2)
    let delay := msec 100 * s.prof n 0x28 2
    let (ts, a) := judgeTimer (s.prot n).tTimers pos 1 (decide (hot < t)) at_ delay
    let (ts, b) := judgeTimer ts pos 2 (decide (t < cold)) at_ delay
    let s := s.modProt n fun q => { q with tTimers := ts }
    let i (lim : Int) : TripInfo := ⟨p.node, p.chan, tripVal t, tripVal lim, 0⟩
    let s := if a then s.trip n 7 (i hot) else s
    if b then s.trip n 8 (i cold) else s

/-- Every position has a fresh or late reading within the cell trip limits, and every bound lies within its limits
(condition 0x0B09). -/
def State.cellsOk (s : State) (n : Nat) : Bool :=
  let hi := s.prof n 0x10 2
  let lo := s.prof n 0x12 2
  (s.est n).pos.all fun p => decide (p.val ≤ 1) &&
    (if (s.badWires n p.node p.chan).isEmpty then decide (lo ≤ p.v) && decide (p.v ≤ hi)
     else (s.boundsOf n p).all fun b => decide (b.2.1 * lo ≤ b.1) && decide (b.1 ≤ b.2.1 * hi))

/-- The temperatures of the positions concerned are judged, and TEMP_UNKNOWN follows (R367). -/
def State.checkTemps (s : State) (n : Nat) (sel : Nat → Nat → Bool) : State :=
  let s := if s.hasProf n then
      (s.est n).pos.zipIdx.foldl (fun s (p, i) =>
        if sel p.node (s.posTemp n p.node p.chan).2.1 then s.checkTemp n s.plain i p else s) s
    else s
  s.tempUnknown n

/-- The checks of a lap at data complete (R365 to R367). -/
def State.checkLap (s : State) (n : Nat) (x : Lap) : State :=
  let s := if s.hasProf n then
      (s.est n).pos.zipIdx.foldl (fun s (p, i) => s.checkVolt n x.plain i p) s
    else s
  let s := s.checkTemps n fun k src => match x.recOf k with
    | some d => decide (src = 255) || decide (src = field d 0x0A 1)
    | none => false
  let s := s.modProt n fun p => { p with cellOk := s.hasProf n && s.cellsOk n }
  s.refresh n

end Sys2Proof.Machine
end

