-- ==== Sys2Proof/Machine/NodeUpdate.lean ====
section
/-! DEFINITION. Node firmware (R527 to R532): which nodes are copied, and the exchanges of a copy. -/

namespace Sys2Proof.Machine

open Sys2Proof.Obj

/-- How a node exchange ends: complete with its result data, failed under a condition of R231, or stale (R188). -/
inductive CmdEnd where
  | ok (data : Bytes)
  | fail (cond : Nat)
  | stale
  deriving DecidableEq, Repr

/-- The staged node image, header and body. -/
def State.nodeImage (s : State) : Bytes := s.nv.nodeImage.getD []

/-- Its version, body size and body digest. -/
def State.stagedVersion (s : State) : Nat := field s.nodeImage 0x10 4
@[inherit_doc State.stagedVersion] def State.stagedSize (s : State) : Nat := field s.nodeImage 0x18 4
@[inherit_doc State.stagedVersion] def State.stagedDigest (s : State) : Bytes := slice s.nodeImage 0x30 48

/-- The version a node runs, as at offset 0x10 of Table 20.1. -/
def State.nodeVersion (s : State) (n k : Nat) : Nat :=
  let i := nodeInst n k
  s.rd NodeStatus.FW_MAJOR i * 2 ^ 24 + s.rd NodeStatus.FW_MINOR i * 2 ^ 16 + s.rd NodeStatus.FW_PATCH i

/-- A node major version lies in the running image's window. -/
def State.inWindow (s : State) (hdr : Bytes) (n k : Nat) : Bool :=
  let m := s.rd NodeStatus.FW_MAJOR (nodeInst n k)
  decide (field hdr 0x28 1 ≤ m) && decide (m ≤ field hdr 0x29 1)

/-- The rate in force is 2 kHz or below. -/
def State.slowLaps (s : State) (n : Nat) : Bool :=
  decide (s.rd LapStatus.CONFIGURED_RATE n ≤ 2000 * 2 ^ s.rd LapStatus.TOTAL_SHIFT n)

/-- The string is neither CLOSING nor CLOSED. -/
def State.notClosed (s : State) (n : Nat) : Bool :=
  decide (s.seqState n ≠ seqClosing) && decide (s.seqState n ≠ seqClosed)

/-- A node would be copied but for the string's state and rate (R529). -/
def State.wantsCopy (s : State) (n k : Nat) : Bool :=
  let i := nodeInst n k
  let m := s.rd NodeStatus.FW_MAJOR i
  let im := field s.nodeImage 0x13 1
  let hw := s.rd NodeStatus.HW_ISSUE i
  s.rdB NodeUpdate.ARMED n && s.nv.nodeImage.isSome && decide (s.nodeVersion n k ≠ s.stagedVersion) &&
    decide (m ≤ im + 1) && decide (im ≤ m + 1) &&
    decide (field s.nodeImage 0x0D 1 ≤ hw) && decide (hw ≤ field s.nodeImage 0x0E 1) &&
    !(s.ring n).reverted.contains (s.rd NodeStatus.SERIAL i, ofLE s.stagedDigest)

/-- A copy to a node is eligible (R529). -/
def State.copyOk (s : State) (n k : Nat) : Bool := s.wantsCopy n k && s.notClosed n && s.slowLaps n

/-- A node is incompatible by its version (Table 20.6, KL-09). -/
def State.incompatible (s : State) (n k : Nat) : Bool :=
  let top := maxL ((s.nodeList n).map fun j => s.rd NodeStatus.FW_MAJOR (nodeInst n j))
  !s.inWindow s.runHdr n k || decide (s.rd NodeStatus.FW_MAJOR (nodeInst n k) + 2 ≤ top)

/-- A node of a string is being copied. -/
def State.copying (s : State) (n : Nat) : Bool :=
  (s.nodeList n).any fun k => [3, 6, 7, 8].contains (s.rnode n k).fw

/-- NODE_UPDATE follows (Table 20.10). -/
def State.updateRegs (s : State) (n : Nat) : State :=
  let ks := s.nodeList n
  let cnt (f : Nat → Bool) : Nat := (ks.filter f).length
  let cur := cnt fun k => s.nv.nodeImage.isSome && decide (s.nodeVersion n k = s.stagedVersion)
  let s := s.wr NodeUpdate.NODES_CURRENT n cur
  let s := s.wr NodeUpdate.NODES_PENDING n (cnt fun k => decide ((s.rnode n k).fw = 2))
  let s := s.wr NodeUpdate.NODES_INCOMPATIBLE n (cnt fun k => decide ((s.rnode n k).fw = 4))
  let s := s.wr NodeUpdate.NODES_FAILED n
    (cnt fun k => (s.ring n).failedCopies.contains (s.rd NodeStatus.SERIAL (nodeInst n k)))
  let want := ks.any fun k => s.wantsCopy n k
  s.wr NodeUpdate.NODE_UPDATE_STATE n
    (if s.copying n then 1
     else if !s.rdB NodeUpdate.ARMED n || s.nv.nodeImage.isNone then 0
     else if cur = ks.length ∧ ks ≠ [] then 4
     else if want && !s.notClosed n then 2
     else if want && !s.slowLaps n then 3 else 0)

/-- The next exchange of a copy: the chunk at the offset reached, or the check (R530). -/
def State.copyChunk (s : State) (n k : Nat) : State :=
  let off := (s.rnode n k).fwOff
  let size := s.stagedSize
  if size ≤ off then s.queueCmd n k 0x63 s.stagedDigest .firmware
  else s.queueCmd n k 0x62 (toLE 4 off ++ slice s.nodeImage (256 + off) (min 1012 (size - off))) .firmware

/-- A node is booted: into the bank in use (0) or the verified one (1). -/
def State.bootNode (s : State) (n k bank : Nat) : State :=
  (s.modNode n k fun r => { r with fw := if bank = 0 then 5 else 6 }).queueCmd n k 0x64 [bank, 0, 0, 0] .firmware

/-- A copy begins (R530). -/
def State.startCopy (s : State) (n k : Nat) : State :=
  let v := s.nodeVersion n k
  let s := s.modNode n k fun r => { r with fw := 3, fwOff := 0, fwOld := v, fwCause := 0 }
  let s := (s.wr NodeUpdate.COPY_SERIAL n (s.rd NodeStatus.SERIAL (nodeInst n k))).wr NodeUpdate.COPY_BYTES n 0
  (s.modRing n fun r => { r with copyStop := false }).queueCmd n k 0x61 (toLE 4 s.stagedSize ++ toLE 4 s.stagedVersion) .firmware

/-- A held or starting node is treated by the first row of Table 20.6 that applies; `held` has NODE_FW_HOLD already. -/
def State.treatRow (s : State) (n k : Nat) (held : Bool) : State :=
  let hold (s : State) (st : Nat) : State :=
    let s := s.modNode n k fun r => { r with fw := st }
    if held then s else s.queueCmd n k 0x60 [] .firmware
  if s.copyOk n k then (if s.copying n then hold s 2 else s.startCopy n k)
  else if s.incompatible n k then hold s 4
  else s.bootNode n k 0

/-- A starting node whose thresholds have been executed: one that runs the version it ran before its copy has reverted
(R529, R531). -/
def State.treatNode (s : State) (n k : Nat) : State :=
  let ser := s.rd NodeStatus.SERIAL (nodeInst n k)
  let v := s.nodeVersion n k
  let s := match (s.ring n).copied.find? fun c => c.1 == ser && c.2.1 == v with
    | some c =>
      let s := s.modRing n fun r => { r with copied := r.copied.filter (fun x => x.1 != ser), reverted := (ser, c.2.2) :: r.reverted }
      (s.bump NodeUpdate.REVERTS n).record 0x1205 2 [5] n k (s.rd RingStatus.TOPO_EPOCH n)
    | none => s
  (s.treatRow n k false).updateRegs n

/-- The next held node is copied in turn, in ascending node number; a node that has become ineligible is treated by the
other rows. -/
def State.copyNext (s : State) (n : Nat) : State :=
  if s.copying n then s.updateRegs n
  else
    State.updateRegs ((s.nodeList n).foldl (fun s k =>
      if (s.rnode n k).fw = 2 ∧ s.copying n = false then s.treatRow n k true else s) s) n

end Sys2Proof.Machine
end

