-- ==== Sys2Proof/Machine/Filter.lean ====
section
/-! DEFINITION. The estimation filter (chapter 11) as pure functions: chemistry tables, the prediction, the measurement
model and the correction of a position. -/

namespace Sys2Proof.Machine

open Sys2Proof.Obj

/-! ### Chemistry tables (R297, R300 to R302) -/

/-- 1.0 of a SOC, in the format of z (Table 11.1). -/
def socOne : Int := 281474976710656

/-- The temperature segment of a table and the place within it (R301). -/
def tempSeg (ts : List Int) (t : Int) : Nat × Fr :=
  let t := clampI (nth 0 ts 0) (nth 0 ts 7) t
  let i := ((List.range 7).filter fun i => decide (nth 0 ts i ≤ t)).getLast?.getD 0
  (i, frac (t - nth 0 ts i) (nth 0 ts (i + 1) - nth 0 ts i).toNat)

/-- Linear interpolation between two values. -/
def lerp (a b : Int) (x : Fr) : Fr := (fr a).add ((fr (b - a)).mul x)

/-- The temperature points of a table. -/
def State.tPoints (s : State) (tb : Nat) : List Int := (List.range 8).map fun i => s.rdI ChemistryTable.T_POINT tb i

/-- A parameter of a table at a temperature. -/
def State.tabPar (s : State) (tb : Nat) (f : Fld) (t : Int) : Fr :=
  let (i, x) := tempSeg (s.tPoints tb) t
  lerp (s.rd f tb i) (s.rd f tb (i + 1)) x

/-- a + (b − a) × x in binary32, no operation fused (R303). -/
def fLerp (a b x : Nat) : Nat := fAdd a (fMul (fSub b a) x)

/-- The word of a whole number. -/
def fNat (n : Nat) : Nat := f32Of (fr n)

/-- The OCV curve of a table at a temperature: SOC points in 0.01 %, and OCV in 100 µV as binary32 words (R301, R303). -/
structure Curve where
  soc : List Nat
  ocv : List Nat
  deriving DecidableEq, Repr

@[inherit_doc Curve] def State.curve (s : State) (tb : Nat) (t : Int) : Curve :=
  let (i, x) := tempSeg (s.tPoints tb) t
  let w := fDiv (f32Of (fr x.n)) (fNat x.d)
  let o (k : Nat) : Nat := fNat (s.rd ChemistryTable.OCV tb k)
  ⟨(List.range 64).map fun k => s.rd ChemistryTable.SOC_POINT tb k,
   (List.range 64).map fun k => fLerp (o (64 * i + k)) (o (64 * i + 64 + k)) w⟩

/-- A SOC point in 0.01 %. -/
def Curve.point (c : Curve) (k : Nat) : Nat := nth 0 c.soc k

/-- The segment that holds z; the end segments continue past the ends (R301). -/
def Curve.seg (c : Curve) (z : Int) : Nat :=
  ((List.range 63).filter fun k => decide ((c.point k : Int) * socOne ≤ z * 10000)).getLast?.getD 0

/-- OCV at a SOC point: its word and its value in 100 µV. -/
def Curve.word (c : Curve) (k : Nat) : Nat := nth 0 c.ocv k
@[inherit_doc Curve.word] def Curve.val (c : Curve) (k : Nat) : Fr := f32Val (c.word k)

/-- Rise and width of a segment. -/
def Curve.rise (c : Curve) (k : Nat) : Nat := fSub (c.word (k + 1)) (c.word k)
@[inherit_doc Curve.rise] def Curve.width (c : Curve) (k : Nat) : Nat := c.point (k + 1) - c.point k

/-- OCV at z, in 100 µV, operation by operation in binary32 (R301, R303). -/
def Curve.at_ (c : Curve) (z : Int) : Nat :=
  let k := c.seg z
  let z32 := f32Of (frac (z * 10000) socOne.toNat)
  fAdd (c.word k) (fMul (c.rise k) (fDiv (fSub z32 (fNat (c.point k))) (fNat (c.width k))))

/-- dOCV/dz at z, in volts: 100 µV per 0.01 % (R296). -/
def Curve.slope (c : Curve) (z : Int) : Nat := fDiv (c.rise (c.seg z)) (fNat (c.width (c.seg z)))

/-- OCV at z in nV: the binary32 value converted to the format of the states (R303). -/
def Curve.nV (c : Curve) (z : Int) : Int := ((f32Val (c.at_ z)).mul (fr 100000)).round

/-- The inverse OCV of a voltage in nV (R302). -/
def Curve.inv (c : Curve) (v : Int) : Int :=
  let x := frac v 100000
  let o (k : Nat) : Fr := c.val k
  if x.lt (o 0) then 0
  else if (o 63).lt x then socOne
  else
    match (List.range 63).find? fun k => (o k).le x && x.le (o (k + 1)) with
    | none => socOne
    | some k =>
      let s0 : Fr := fr (c.point k)
      let w : Fr := fr (c.width k)
      let rise := (o (k + 1)).sub (o k)
      let part := if rise.n = 0 then w.div (fr 2) else (w.mul (x.sub (o k))).div rise
      (((s0.add part).mul (fr socOne)).div (fr 10000)).round

/-- A segment rises by less than PLATEAU_SLOPE per 1 % SOC (R342). -/
def Curve.flat (c : Curve) (slope k : Nat) : Bool := (((c.val (k + 1)).sub (c.val k)).mul (fr 10000)).lt (fr (slope * c.width k))

/-- W: the width in 0.01 % of the plateau that holds z (R342). -/
def Curve.plateau (c : Curve) (slope : Nat) (z : Int) : Nat :=
  let k := c.seg z
  if !c.flat slope k then 0
  else
    let up := ((List.range 63).drop k).takeWhile fun i => c.flat slope i
    let down := ((List.range k).reverse).takeWhile fun i => c.flat slope i
    sumL ((up ++ down).map fun i => c.width i)

/-! ### Parameters in use (R297) -/

/-- The parameters of a position at a temperature (R297). -/
def State.parOf (s : State) (n tb : Nat) (t : Int) (e : Entry) : Par :=
  let pc := max 1 (s.rd NodeConfig.PARALLEL_COUNT n)
  let r (f : Fld) (scale : Nat) : Fr := ((s.tabPar tb f t).mul (frac scale 1000)).div (fr pc)
  { cap := e.cap, rO := r ChemistryTable.R_OHM e.rOhm, rF := r ChemistryTable.R_FAST e.rFast,
    rS := r ChemistryTable.R_SLOW e.rSlow, tF := s.tabPar tb ChemistryTable.TAU_FAST t,
    tS := s.tabPar tb ChemistryTable.TAU_SLOW t, hM := s.tabPar tb ChemistryTable.H_MAX t,
    ka := s.tabPar tb ChemistryTable.KAPPA t, eta := s.tabPar tb ChemistryTable.ETA_LOSS t }

/-- ESTIMATION_CONFIG in the order the prediction keeps it (R321): PREDICT_MODE, tolerances, HYST_DEADBAND, SIGMA_CURRENT,
SIGMA_CURRENT_ABS, Q_RC, Q_HYST, DIVERGE_Q_FACTOR, BLEED_R. -/
def State.predictCfg (s : State) (n : Nat) : List Nat := [
  s.rd EstimationConfig.PREDICT_MODE n, s.rd EstimationConfig.CURRENT_TOL_REL n, s.rd EstimationConfig.CURRENT_TOL_ABS n,
  s.rd EstimationConfig.HYST_DEADBAND n, s.rd EstimationConfig.SIGMA_CURRENT n,
  s.rd EstimationConfig.SIGMA_CURRENT_ABS n, s.rd EstimationConfig.Q_RC n, s.rd EstimationConfig.Q_HYST n,
  s.rd EstimationConfig.DIVERGE_Q_FACTOR n, s.rd EstimationConfig.BLEED_R n]

/-! ### Prediction (R295, R303, R309) -/

/-- A value of the kept configuration. -/
def cfgAt (cfg : List Nat) (k : Nat) : Nat := nth 0 cfg k

/-- C_p in µA·s. -/
def Par.charge (p : Par) : Fr := fr (p.cap * 3600000)

/-- exp(-Δt / τ) for Δt in ns and τ in µs: both in seconds as binary32, their quotient and its exponential (R295, R303). -/
def decay (dt : Int) (tau : Fr) : Nat := fExpNeg (fDiv (f32Of (frac dt 1000000000)) (f32Of (tau.div (fr 1000000))))

/-- The hysteresis regime of a mean current in µA (R295). -/
def regime (deadband : Nat) (i : Fr) : Int :=
  let d := fr (deadband * 1000)
  if d.le i then 1 else if i.le ⟨-(deadband * 1000 : Int), 1⟩ then -1 else 0

/-- λ of R295 for a charge in µA·s. -/
def lambda (p : Par) (r : Int) (q : Fr) : Fr :=
  if r = 0 then fr 0
  else Fr.min (fr 1) ((((p.ka.div (fr 100)).mul (fr r)).mul q).div p.charge)

/-- λ of R295 in binary32, for F (R303): `q` is a word in µA·s. -/
def lambda32 (p : Par) (r : Int) (q : Nat) : Nat :=
  if r = 0 then 0
  else fMin (fNat 1) (fDiv (fMul (fMul (f32Of (p.ka.div (fr 100))) (f32Of (fr r))) q) (f32Of p.charge))

/-- η of R295. -/
def etaOf (p : Par) (r : Int) : Fr := if r = 1 then (fr 1).sub (p.eta.div (fr 1000000)) else fr 1

/-- The current a lap is predicted with, in µA, from the CURRENT of earlier laps in mA (R309). -/
def predictedCurrent (mode : Nat) (last prev : Option Int) (mean : Fr) (dt dtLast : Nat) : Fr :=
  match last with
  | none => mean
  | some i =>
    let i1 := fr (i * 1000)
    match mode, prev with
    | 1, some j => i1.add (frac ((i - j) * 1000 * dt) (2 * dtLast))
    | _, _ => i1

/-- The tolerance of R309 in µA. -/
def currentTol (rel abs_ : Nat) (i : Fr) : Fr := Fr.max (fr (abs_ * 1000)) (i.abs.mul (frac rel 1000))

/-- The covariance entry at a row and column. -/
def covAt (c : List Nat) (i j : Nat) : Nat := nth 0 c (4 * i + j)

/-- A 4 × 4 covariance from its upper triangle (R308). -/
def covOf (f : Nat → Nat → Nat) : List Nat :=
  (List.range 16).map fun k => if k / 4 ≤ k % 4 then f (k / 4) (k % 4) else f (k % 4) (k / 4)

/-- The square of a deviation. -/
def sq (x : Fr) : Nat := fMul (f32Of x) (f32Of x)

/-- A position's prediction across an interval of `dt` ns: its own charge `q` and the string's charge `qs` in µA·s, the
current `il` at which F and the process noise are evaluated, the regime, and further deviations of the charge (R295, R319,
R320). The bleed that `q` lacks enters z only (R299). -/
def predictPos (cfg : List Nat) (dt : Nat) (q qs : Fr) (il : Fr) (r : Int) (extra : List Nat) (p : Pos) : Pos :=
  match p.par with
  | none => p
  | some m =>
    let z := ((fr p.z).add ((((etaOf m r).mul q).mul (fr socOne)).div m.charge)).round
    let af := decay dt m.tF
    let as_ := decay dt m.tS
    let mean := qs.mul (frac 1000000 dt)    -- nV per µΩ: µA·s / ns × 10^9 / 1000
    let rc (a : Nat) (rr : Fr) (v : Int) : Int :=
      (((f32Val a).mul (fr v)).add ((rr.mul ((fr 1).sub (f32Val a))).mul mean)).round
    let lam := lambda m r qs
    let h := ((fr p.h).add (lam.mul (((fr r).mul (m.hM.mul (fr 100000))).sub (fr p.h)))).round
    let sec := f32Of (frac dt 1000000000)
    let cap := f32Of m.charge
    let f := [fNat 1, af, as_, fSub (fNat 1) (lambda32 m r (fMul (f32Of il) sec))]
    let dev := fDiv (fMul (fAdd (fMul (f32Of (frac (cfgAt cfg 4) 10000)) (f32Of il.abs)) (fNat (cfgAt cfg 5 * 1000))) sec) cap
    let nz := if p.divUse then fMul (fMul dev dev) (fNat (max 1 (cfgAt cfg 8))) else fMul dev dev
    let nz := extra.foldl (fun a x => fAdd a (fMul (fDiv x cap) (fDiv x cap))) nz
    let nrc := fMul (sq (frac (cfgAt cfg 6) 1000000)) sec
    let nh := fMul (sq (frac (cfgAt cfg 7) 1000000)) sec
    let noise := [nz, nrc, nrc, nh]
    let cov := covOf fun i j =>
      let x := fMul (fMul (nth 0 f i) (covAt p.cov i j)) (nth 0 f j)
      if i = j then fAdd x (nth 0 noise i) else x
    { p with z := z, vf := rc af m.rF p.vf, vs := rc as_ m.rS p.vs, h := h, cov := cov, 
             cum := p.cum + (((etaOf m r).mul q).mul (fr 1000000)).round }

/-! ### Measurement model (R296, R317) -/

/-- What the correction of a position uses: its predicted output in nV, H, y in nV, the variance, and MEAS_KIND. -/
structure Meas where
  value : Int
  jac : List Nat
  y : Fr
  var : Nat
  kind : Nat
  deriving DecidableEq, Repr

/-- R_ohm × I in nV: a binary32 product converted to the format of the states. -/
def ohmic (m : Par) (i : Int) : Int := (f32Val (fMul (f32Of m.rO) (f32Of (fr i)))).round

/-- The predicted voltage of a position and its Jacobian at the nominal instant: `i` is CURRENT in mA (R296). -/
def modelAt (c : Curve) (m : Par) (p : Pos) (i : Int) : Int × List Nat :=
  let one := f32Of (fr 1)
  (c.nV p.z + p.vf + p.vs + p.h + ohmic m i, [c.slope p.z, one, one, one])

/-- The same at a late instant `d` ns after the nominal one (R317). -/
def modelLate (c : Curve) (m : Par) (p : Pos) (i il d r : Int) : Int × List Nat :=
  let one := f32Of (fr 1)
  let mean := frac (i + il) 2                                 -- mA
  let dq := mean.mul (frac d 1000000)                         -- µA·s
  let z := ((fr p.z).add ((((etaOf m r).mul dq).mul (fr socOne)).div m.charge)).round
  let bf := decay d m.tF
  let bs := decay d m.tS
  let rc (b : Nat) (rr : Fr) (v : Int) : Int :=
    (((f32Val b).mul (fr v)).add ((rr.mul ((fr 1).sub (f32Val b))).mul mean)).round
  (c.nV z + rc bf m.rF p.vf + rc bs m.rS p.vs + p.h + ohmic m il, [c.slope z, bf, bs, one])

/-- P Hᵀ. -/
def covH (cov h : List Nat) : List Nat :=
  (List.range 4).map fun i => fSum ((List.range 4).map fun j => fMul (covAt cov i j) (nth 0 h j))

/-- H P Hᵀ. -/
def outVar (cov h : List Nat) : Nat :=
  let ph := covH cov h
  fSum ((List.range 4).map fun i => fMul (nth 0 h i) (nth 0 ph i))

/-! ### Correction (R305, R307, R308) -/

/-- The seed covariance of R323: the SOC deviation, SEED_V_SIGMA in µV and H_MAX in 100 µV. -/
def seedCov (soc : Fr) (vSigma : Nat) (hMax : Fr) : List Nat :=
  let d := [sq soc, sq (frac vSigma 1000000), sq (frac vSigma 1000000), sq (hMax.div (fr 10000))]
  covOf fun i j => if i = j then nth 0 d i else 0

/-- The innovation e in volts: the binary32 difference of the two values (R303, R305). -/
def innovation (m : Meas) : Nat := fSub (f32Of (m.y.div (fr 1000000000))) (f32Of (frac m.value 1000000000))

/-- The innovation lies beyond the gate, in 0.01 standard deviations (R307). -/
def gated (gate : Nat) (cov : List Nat) (m : Meas) : Bool :=
  let e := innovation m
  let g := f32Of (frac gate 100)
  fLt (fMul (fMul g g) (fAdd (outVar cov m.jac) m.var)) (fMul e e)

/-- A state takes its share of a correction, rounded once; the polarisation and hysteresis states stay in 32 bits. -/
def addGain (scale : Int) (x : Int) (k e : Nat) : Int :=
  ((fr x).add ((f32Val (fMul k e)).mul (fr scale))).round

@[inherit_doc addGain] def to32 (x : Int) : Int := clampI (-2147483648) 2147483647 x

/-- The measurement update in Joseph form (R305). -/
def correctPos (p : Pos) (m : Meas) : Pos :=
  let ph := covH p.cov m.jac
  let sv := fAdd (outVar p.cov m.jac) m.var
  let k := ph.map fun x => fDiv x sv
  let e := innovation m
  let jm (i j : Nat) : Nat := fSub (f32Of (fr (b2n (i == j)))) (fMul (nth 0 k i) (nth 0 m.jac j))
  let jp (i j : Nat) : Nat := fSum ((List.range 4).map fun l => fMul (jm i l) (covAt p.cov l j))
  let cov := covOf fun i j =>
    fAdd (fSum ((List.range 4).map fun l => fMul (jp i l) (jm j l))) (fMul (fMul (nth 0 k i) m.var) (nth 0 k j))
  { p with z := addGain socOne p.z (nth 0 k 0) e, vf := to32 (addGain 1000000000 p.vf (nth 0 k 1) e),
           vs := to32 (addGain 1000000000 p.vs (nth 0 k 2) e), h := to32 (addGain 1000000000 p.h (nth 0 k 3) e), cov := cov }

/-- Every term of the covariance is finite and every diagonal term positive (R308). -/
def covOk (c : List Nat) : Bool :=
  c.all f32Finite && (List.range 4).all fun i => fPos (covAt c i i)

end Sys2Proof.Machine
end

