-- ==== Sys2Proof/Machine/FilterLap.lean ====
section
/-! DEFINITION. The estimation of a string at a lap (R304 to R324, R328 to R331, R334, R341 to R343): the interval and its
check, the prediction and correction of every position, the seeds, and the limits. -/

namespace Sys2Proof.Machine

open Sys2Proof.Obj

/-! ### The interval of a lap (R304, R305, R309, R319) -/

/-- What a lap is predicted with: the interval in ns, the string's charge in µA·s, the current F and the noise are
evaluated at and the mean current in µA, the regime, whether the charge is the predicted one, and the check. -/
structure Ivl where
  dt : Nat
  q : Fr
  il : Fr
  r : Int
  mean : Fr
  missing : Bool
  pass : Bool
  deriving DecidableEq, Repr

/-- The factor λ of R295 is held at 1 for some position. -/
def clampActs (ps : List Pos) (r : Int) (q : Fr) : Bool :=
  ps.any fun p => match p.par with
    | some m => decide (r ≠ 0) && (fr 1).lt ((((m.ka.div (fr 100)).mul (fr r)).mul q).div m.charge)
    | none => false

/-- CURRENT_MISSING of a lap (R209). -/
def Lap.curMissing (x : Lap) : Bool := x.cur.isNone || (x.late.isSome && x.curLate.isNone)

@[inherit_doc Ivl] def State.interval (s : State) (n : Nat) (x : Lap) : Ivl :=
  let e := s.est n
  let dt := x.prevInterval + e.dtSkip
  let pred := predictedCurrent (cfgAt e.pcfg 0) e.iLast e.iPrev e.iMeas dt e.dtLast
  let reg := regime (cfgAt e.pcfg 3)
  match (if x.curMissing then none else x.cur), e.qApplied with
  | some c, some a =>
    let q := fr (c.2 - a)
    let mean := q.mul (frac 1000000000 dt)
    let r := reg mean
    let pass := decide (reg pred = r) && ((mean.sub pred).abs.le (currentTol (cfgAt e.pcfg 1) (cfgAt e.pcfg 2) pred))
      && !clampActs e.pos r q
    ⟨dt, q, if pass then pred else mean, r, mean, false, pass⟩
  | none, some _ => ⟨dt, fr (pred.mul (frac dt 1000000000)).round, pred, reg pred, pred, true, true⟩
  | _, none => ⟨dt, fr 0, fr 0, 0, fr 0, x.cur.isNone, true⟩

/-- The filter of a string runs: its table is valid (R300). -/
def State.filterOn (s : State) (n : Nat) : Bool := (s.ratedCap n).isSome

/-- The lap is one that half rate skips (R314). -/
def State.lapSkips (s : State) (n : Nat) : Bool := (s.est n).half && (s.est n).phase

/-- The check of a lap is made once, when its charge has arrived and the lap before it is complete (R311), and not while any current
of the lap is missing (R319); a failure is a false start. -/
def State.lapCheck (s : State) (n : Nat) (x : Lap) : State :=
  let e := s.est n
  if x.checked || x.curMissing || !s.filterOn n || e.qApplied.isNone || s.lapSkips n then s
  else if (s.interval n x).pass then s.modLap n x.seq fun y => { y with checked := true }
  else
    let s := s.modLap n x.seq fun y => { y with checked := true, falseStart := true }
    let s := (s.bump FilterStatus.FALSE_STARTS n).wr FilterStatus.LAST_FALSE_START_TIME n (timeVal x.nom)
    s.modEst n fun e => { e with secFalse := e.secFalse + 1 }

/-! ### Prediction of a position (R299, R319, R320) -/

/-- The bleed charge of a position over an interval, in µA·s (R299); `v` is its CELL_V at the lap before in 100 µV. -/
def bleedCharge (v bleedR dt : Nat) : Fr := frac (v * 1000 * ((dt : Int) - 50000)) (bleedR * 1000000000)

/-- The bleed of a position counts in a lap: its channel was in the set `sets` in force at the start of the interval, and the
record of the lap carries BALANCE_ACTIVE (R299). -/
def Lap.bled (x : Lap) (sets : List Nat) (p : Pos) : Bool :=
  bitOf (nth 0 sets p.node) p.chan && (match x.recOf p.node with
    | some d => recBit d 2
    | none => false)

/-- The further deviations of the charge of a lap, as words in µA·s: a missing current (R319) and a clipped converter (R320). -/
def State.extraDev (s : State) (n : Nat) (v : Ivl) (clip : Nat) : List Nat :=
  let sec (ns : Nat) : Nat := f32Of (frac ns 1000000000)
  (if v.missing then [fMul (fAdd (fMul (f32Of (frac 1 10)) (f32Of v.mean.abs)) (fNat 1000000)) (sec v.dt)] else [])
    ++ (if clip = 0 then [] else [fMul (f32Of (frac 75000000000000 (s.rd CoulombConfig.SHUNT_R n))) (sec clip)])

/-- The charge of a position over an interval of `dt` ns in which the string's is `q`, with the bleed sets at its start (R299). A
position whose CELL_V of the lap before is not available takes a free value for it. -/
def State.posCharge (s : State) (n : Nat) (x : Lap) (sets : List Nat) (dt : Nat) (q : Fr) (i : Nat) (p : Pos) : Fr :=
  if x.bled sets p then
    let cv := if p.vPrev = 0xFFFF then Config.freeValue (s.free + i) % 65536 else p.vPrev
    q.sub (bleedCharge cv (cfgAt (s.est n).pcfg 9) dt)
  else q

/-- Every position is predicted across the interval; the flags of the lap begin. -/
def State.predictAll (s : State) (n : Nat) (x : Lap) (v : Ivl) : List Pos :=
  let e := s.est n
  let extra := s.extraDev n v e.clip
  e.pos.zipIdx.map fun (p, i) =>
    let (t, _, assumed) := s.posTemp n p.node p.chan
    let q := s.posCharge n x (e.bleedSkip.getD x.bleedFrom) v.dt v.q i p
    let flags := 16 * b2n assumed + 32 * b2n (e.clip ≠ 0) + 128 * b2n p.divUse
    let p' := predictPos e.pcfg v.dt q v.q v.il v.r extra p
    { p' with tp := t, assumed := assumed, flags := flags, kind := 0, innov := none, anchored := false,
              zcc := p.zcc + (p'.z - p.z), repS := p.repS + (p'.z - p.z) }

/-! ### Measurement of a position (Table 11.2, R317, R318) -/

/-- The predicted voltage of a position at its own sample, with its Jacobian. -/
def State.outputOf (s : State) (tb : Nat) (x : Lap) (r : Int) (p : Pos) : Option (Int × List Nat) :=
  match p.par, x.cur with
  | some m, some c =>
    let cv := s.curve tb p.tp
    if p.val = 1 then
      match x.curLate, x.recOf p.node with
      | some cl, some d => some (modelLate cv m p (milli c.1) (milli cl) (recOffset d) r)
      | _, _ => none
    else some (modelAt cv m p (milli c.1))
  | _, _ => none

/-- The measurement of a position at a lap, by the first row of Table 11.2 that applies; `ps` are the predictions. -/
def State.measure (s : State) (n tb : Nat) (x : Lap) (r : Int) (ps : List Pos) (p : Pos) : Option Meas :=
  if x.curMissing || decide (2 ≤ p.val) || p.blank || decide (p.seedDue ≠ 0) then none
  else
    match s.outputOf tb x r p with
    | none => none
    | some (value, jac) =>
      let f := s.fitted n p.node
      let own := sq (frac (s.rd EstimationConfig.MEAS_SIGMA n) 1000000)
      match s.badWires n p.node p.chan with
      | [] => some ⟨value, jac, fr (p.v * 100000), own, if p.val = 1 then 2 else 1⟩
      | [w] =>
        if wireKind f w = 1 then
          let other := ps.find? fun o => decide (o.node = p.node) && (wireChans f w).contains o.chan && decide (o.chan ≠ p.chan)
          match other with
          | none => none
          | some o =>
            if 2 ≤ o.val then none
            else
              match s.outputOf tb x r o with
              | none => none
              | some (vo, ho) =>
                some ⟨value, jac, fr ((p.v + o.v : Nat) * 100000 - vo),
                  fAdd (fMul (f32Of (fr 2)) own) (outVar o.cov ho), 3⟩
        else
          let stack := s.rd NodeStatus.STACK_V (nodeInst n p.node)
          some ⟨value, jac, fr (((s.rnode n p.node).wire w).bound * 100000),
            fAdd (sq (frac (20000 + stack) 2000000)) (fMul (f32Of (fr (f.length - 1))) own), 4⟩
      | _ => none

/-- z_ocv of a position from its own reading (R334). -/
def State.impliedSoc (s : State) (tb : Nat) (x : Lap) (p : Pos) : Option Int :=
  match p.par, (if p.val = 1 then x.curLate else x.cur.map (·.1)) with
  | some m, some i =>
    some ((s.curve tb p.tp).inv (p.v * 100000 - p.vf - p.vs - p.h - ohmic m (milli i)))
  | _, _ => none

/-! ### Correction of a position (R305, R307, R308) -/

/-- A position takes its measurement, whose innovation is the e of R305 (R327): gated, reseated or applied; then its covariance is checked. `seed` is the seed
covariance with START_SOC_SIGMA. -/
def correctStep (gate reseat : Nat) (seed : List Nat) (p : Pos) (m : Option Meas) : Pos :=
  let p := match m with
    | none => p
    | some m =>
      let re := decide (reseat ≤ p.gatedRun)
      let p := if re then { p with cov := seed, flags := setBit p.flags 2 true } else p
      let inn := ((f32Val (innovation m)).mul (fr 1000000)).round
      let p := { p with kind := m.kind, innov := some inn, measAt := p.sampledAt }
      if !re && gated gate p.cov m then { p with gatedRun := p.gatedRun + 1, flags := setBit p.flags 0 true }
      else { correctPos p m with gatedRun := 0 }
  if p.par.isSome && !covOk p.cov then { p with cov := seed, flags := setBit p.flags 3 true } else p

/-- The convergence of the reported value (R328): `slew` in 0.01 % per minute over `dt` ns. -/
def converge (slew dt : Nat) (p : Pos) : Pos :=
  let lim := rne (slew * socOne * dt) 600000000000000
  { p with repS := p.repS + clampI (-lim) lim (p.z - p.repS) }

/-! ### Seeds (R323, R329, R341 to R343) -/

/-- The mean z of some positions, rounded. -/
def meanZ (ps : List Pos) : Int := rne (sumI (ps.map (·.z))) ps.length

/-- The neighbour mean of R343 for a node, none where no position has a state. -/
def State.neighbourMean (s : State) (n node : Nat) (ps : List Pos) : Option Int :=
  let ps := ps.filter fun p => p.live && decide (p.seedDue = 0)
  let slot := s.rd NodeStatus.STACK_SLOT (nodeInst n node)
  let near := ps.filter fun p =>
    let y := s.rd NodeStatus.STACK_SLOT (nodeInst n p.node)
    decide (y + 1 = slot) || decide (y = slot + 1)
  if !near.isEmpty then some (meanZ near) else if !ps.isEmpty then some (meanZ ps) else none

/-- The OCV segment that holds z rises by at least PLATEAU_SLOPE per 1 % SOC (R335). -/
def State.onSlope (s : State) (n tb : Nat) (t : Int) (z : Int) : Bool :=
  let cv := s.curve tb t
  !cv.flat (s.rd OutputConfig.PLATEAU_SLOPE n) (cv.seg z)

/-- The row of Table 12.2 a due seed follows: undecided ones are decided by whether the string has rested. -/
def seedRow (due : Nat) (rested : Bool) : Nat :=
  if due = 10 then (if rested then 2 else 3) else if due = 11 then (if rested then 4 else 5) else due

/-- A position is seeded at a lap by a row of Table 12.2; `ps` are the positions after the lap's corrections. -/
def State.seedPos (s : State) (n tb : Nat) (at_ : Nat) (ps : List Pos) (m : Par) (p : Pos) : Pos :=
  let cv := s.curve tb p.tp
  let start := nth 1000 s.boot.cfg 5
  let inv := cv.inv (p.v * 100000)
  let rested := decide (p.seedDue = 2) || decide (p.seedDue = 4)
  -- the deviation in 0.005 %
  let (z, dev) : Int × Nat := match p.seedDue with
    | 2 => (inv, max (2 * s.rd OutputConfig.REST_SEED_SIGMA n) (cv.plateau (s.rd OutputConfig.PLATEAU_SLOPE n) inv))
    | 4 => (inv, max (2 * s.rd OutputConfig.REST_SEED_SIGMA n) (cv.plateau (s.rd OutputConfig.PLATEAU_SLOPE n) inv))
    | 3 => match s.neighbourMean n p.node ps with
      | some z => (z, 2 * s.rd OutputConfig.NEIGHBOUR_SEED_SIGMA n)
      | none => (inv, 2 * start)
    | 5 => (p.z, 2 * start)
    | _ => (inv, 2 * start)
  let prev := (s.est n).prevSoc
  let rep := if p.seedDue = 1 ∨ prev = 0xFFFF then z else rne (prev * socOne) 10000
  { p with
    z := z, vf := 0, vs := 0, h := 0, par := some m, live := true, seedDue := 0, gatedRun := 0, kind := 0, innov := none
    cov := seedCov (frac dev 20000) (s.rd EstimationConfig.SEED_V_SIGMA n) m.hM
    flags := setBit (setBit p.flags 0 false) 1 true, repS := rep, zcc := z, seedAt := at_, seedSince := !rested
    anchor := if rested then some ⟨z, p.cum, at_, s.onSlope n tb p.tp z⟩ else none
    anchored := rested, div := false, divFrom := none, divOk := none, measAt := p.sampledAt, limC := none, limD := none }

/-! ### Limits of a position (R331) -/

/-- Charge and discharge limit of a position in mA from its states, none where unbounded. -/
def State.posLimits (s : State) (n tb : Nat) (p : Pos) : Option Fr × Option Fr :=
  match p.par with
  | none => (some (fr 0), some (fr 0))
  | some m =>
    let cv := s.curve tb p.tp
    let h := s.rd OutputConfig.LIMIT_HORIZON n * 1000000000
    let af := f32Val (decay h m.tF)
    let as_ := f32Val (decay h m.tS)
    let u := fr (cv.nV p.z + p.h)
    let vh := ((fr p.vf).mul af).add ((fr p.vs).mul as_)
    let rh := (m.rO.add (m.rF.mul ((fr 1).sub af))).add (m.rS.mul ((fr 1).sub as_))
    if rh.n ≤ 0 then (none, none)
    else
      let lim (x : Fr) : Fr := Fr.max (fr 0) (x.div rh)
      (some (lim (((fr (s.prof n 0x14 2 * 100000)).sub u).sub vh)),
       some (lim ((u.add vh).sub (fr (s.prof n 0x16 2 * 100000)))))

/-- The limits a position contributes at a lap: 0 where its measurement has been none for longer than HOLD_LIMIT. -/
def State.lapLimits (s : State) (n tb : Nat) (x : Lap) (p : Pos) : Pos :=
  let old := match p.measAt with
    | some a => decide (a + s.rd LapConfig.HOLD_LIMIT n * msec 1 < x.plain)
    | none => true
  if old || !p.live then { p with limC := some (fr 0), limD := some (fr 0), naLim := true }
  else
    let (c, d) := s.posLimits n tb p
    { p with limC := c, limD := d, naLim := false }

/-! ### Temperature derating (R404) -/

/-- A derating line, in 10^-9: 1 at `one`, 0 at `zero`. -/
def derate (one zero t : Int) : Nat :=
  let w := zero - one
  if w = 0 then 1000000000
  else (clampI 0 1000000000 ((zero - t) * 1000000000 / w)).toNat

/-- F_THERMAL of a string in 10^-9. -/
def State.fTherm (s : State) (n : Nat) : Nat := nth 0 s.thermal.fTherm n

/-- F_THERMAL of a string moves towards its target over a lap of `dt` ns; a fall from 1 is recorded. -/
def State.thermalLap (s : State) (n dt : Nat) : State :=
  let ts := (s.est n).pos.filterMap fun p =>
    let (t, _, assumed) := s.posTemp n p.node p.chan
    if assumed then none else some t
  let c (f : Fld) : Int := s.rdI f
  let hi := ts.foldl max (-32768)
  let lo := ts.foldl min 32767
  let hot := derate (c ThermalConfig.DERATE_HOT_START) (c ThermalConfig.DERATE_HOT_END) hi
  let cold := derate (c ThermalConfig.DERATE_COLD_START) (c ThermalConfig.DERATE_COLD_END) lo
  let (target, cause) := if ts.isEmpty then (0, 3) else if hot ≤ cold then (hot, 1) else (cold, 2)
  let old := s.fTherm n
  let new := if target ≤ old then target
    else min target (old + s.rd ThermalConfig.DERATE_RISE * dt / 1000)
  let s := { s with thermal := { s.thermal with fTherm := setNth new s.thermal.fTherm n } }
  if old = 1000000000 ∧ new < 1000000000 then s.record 0x0C09 2 ([n, cause] ++ toLE 2 (target / 1000000)) n else s

/-! ### A lap of the filter -/

/-- The string's rest moves with a lap's CURRENT (R333). -/
def State.restLap (s : State) (n : Nat) (x : Lap) : State :=
  let rest := match x.cur with
    | some c => !x.curMissing && decide ((milli c.1).natAbs ≤ s.rd OutputConfig.REST_CURRENT n)
    | none => false
  s.modEst n fun e =>
    if rest then { e with restFrom := some (e.restFrom.getD x.plain), restAt := x.plain }
    else { e with restFrom := none, rested := false, restAt := x.plain }

/-- REST_ELAPSED in ns. -/
def Est.restElapsed (e : Est) : Nat :=
  match e.restFrom with
  | some a => e.restAt - a
  | none => 0

/-- The string has rested for REST_TIME. -/
def State.hasRested (s : State) (n : Nat) : Bool :=
  (s.est n).restFrom.isSome && decide (s.rd OutputConfig.REST_TIME n * secs 60 ≤ (s.est n).restElapsed)

/-- The table in force changes at a lap: event 0x0906, the comparison of the entries, and, where CHEMISTRY names another table, the
seeds of every position (R321, R341, R348). Anchors do not outlive the table. -/
def State.tableLap (s : State) (n : Nat) (x : Lap) : State :=
  let tb := s.rd EstimationConfig.CHEMISTRY n
  let e := s.est n
  let fresh := match e.newTable with
    | some a => decide (a < x.plain)
    | none => false
  if !s.filterOn n || (decide (e.table = tb) && !fresh) then s
  else
    let first := decide (e.table = 0)
    let other := decide (e.table ≠ tb)
    let due (p : Pos) : Pos := if other then { p with seedDue := if p.live then 11 else p.seedDue } else p
    let new (p : Pos) : Pos := { due p with anchor := none }
    let s := s.modEst n fun e => { e with table := tb, newTable := if fresh then none else e.newTable, pos := if first then e.pos else e.pos.map new }
    let s := s.compareEntries n
    if first || !other then s else s.record 0x0906 1 ([tb] ++ toLE 4 (s.rd ChemistryTable.TABLE_CRC tb)) n

/-- The charge of a lap's own interval, whether or not the filter makes a step of it: the difference of CHARGE since it was last
counted, or the charge it is predicted with (R319, R349). -/
def State.lapCharge (s : State) (n : Nat) (x : Lap) : Option Int :=
  let e := s.est n
  match x.cur, e.qLap with
  | some c, some a => some (c.2 - a)
  | none, some _ => if s.filterOn n && !s.lapSkips n then some (s.interval n x).q.round else none
  | _, none => none

/-- The charges of every position over a lap add to the THROUGHPUT of the string's entries (R349). -/
def State.throughput (s : State) (n : Nat) (x : Lap) : State :=
  let q := s.lapCharge n x
  let qs : List (Nat × Nat × Nat) := match q with
    | some q => (s.est n).pos.zipIdx.map fun (p, i) =>
      (p.serial, p.chan, (s.posCharge n x x.bleedFrom x.prevInterval (fr q) i p).round.natAbs)
    | none => []
  let s := s.modEst n fun e => { e with qLap := match x.cur with
    | some c => some c.2
    | none => e.qLap.map fun a => a + q.getD 0 }
  let add (e : Entry) : Entry :=
    if e.str = n then
      match qs.find? fun q => q.1 == e.serial && q.2.1 == e.chan with
      | some q => { e with through := e.through + q.2.2 }
      | none => e
    else e
  { s with ledger := { s.ledger with entries := s.ledger.entries.map add } }

/-- Events of the positions of a lap: reseats and numeric resets (R307, R308), in position order, and their counts. -/
def State.filterEvents (s : State) (n : Nat) (ps : List Pos) : State :=
  ps.zipIdx.foldl (fun s (p, i) =>
    let s := if bitOf p.flags 0 then s.bump FilterStatus.GATED_MEASUREMENTS n else s
    let ep := s.rd RingStatus.TOPO_EPOCH n
    let s := if bitOf p.flags 2 then (s.bump FilterStatus.RESEATS n).record 0x0903 2 (toLE 2 i) n 0xFFFF ep else s
    if bitOf p.flags 3 then (s.bump FilterStatus.NUMERIC_RESETS n).record 0x0904 2 (toLE 2 i) n 0xFFFF ep else s) s

/-- The seeds of a lap are made, and recorded by their row (R341); a position that diverged is cleared (R338). -/
def State.seedLap (s : State) (n tb : Nat) (x : Lap) (ps : List Pos) : List Pos × State :=
  let rested := s.hasRested n
  let ps := ps.map fun p => { p with seedDue := seedRow p.seedDue rested }
  let seeds (p : Pos) : Bool := decide (p.seedDue ≠ 0) && decide (p.val ≤ 1)
  let new := ps.map fun p =>
    if seeds p then s.seedPos n tb x.plain ps (s.parOf n tb p.tp (s.entryOf n p)) p else p
  let s := ps.zipIdx.foldl (fun s (p, i) =>
    if seeds p && p.div then s.record 0x0A03 1 (toLE 2 i ++ [3]) n 0xFFFF (s.rd RingStatus.TOPO_EPOCH n) else s) s
  let s := [1, 2, 3, 4, 5].foldl (fun s row =>
    let c := (ps.filter fun p => seeds p && decide (p.seedDue = row)).length
    if c = 0 then s else s.record 0x0A07 1 ([row] ++ toLE 2 c) n) s
  (new, s)

/-- The clipped samples of a lap's interval (R320). -/
def State.clipLap (s : State) (n : Nat) (x : Lap) : State :=
  let l := (s.fe n).clips
  let k := (l.filter fun c => decide (c ≤ x.plain)).length
  let s := s.modFe n fun f => { f with clips := l.filter fun c => decide (x.plain < c) }
  let on := s.filterOn n
  s.modEst n fun e => { e with clip := if on then e.clip + 15625 * k else 0 }

/-- A lap skipped at half rate: its interval is carried over, and its positions keep the values of the last updated lap (R314). -/
def State.skipLap (s : State) (n : Nat) (x : Lap) : State :=
  let s := s.modLap n x.seq fun y => { y with skipped := true }
  let s := s.bump FilterStatus.UPDATES_SKIPPED n
  s.modEst n fun e =>
    { e with dtSkip := e.dtSkip + x.prevInterval, bleedSkip := some (e.bleedSkip.getD x.bleedFrom), phase := false,
             pos := e.pos.map fun p => { p with flags := setBit p.flags 6 true, anchored := false } }

/-- The filter of a string at a lap whose data is complete (R305). -/
def State.updateLap (s : State) (n : Nat) (x : Lap) : State :=
  let v := s.interval n x
  let pq := s.predictAll n x v
  let s := { s with free := s.free + pq.length }
  let started := (s.est n).qApplied.isSome
  let s := s.modEst n fun e => { e with pos := pq }
  let s := s.tableLap n x
  let tb := s.rd EstimationConfig.CHEMISTRY n
  let ps := (s.est n).pos.map fun p =>
    if p.par.isSome then { p with par := some (s.parOf n tb p.tp (s.entryOf n p)) } else p
  let gate := s.rd EstimationConfig.GATE n
  let reseat := s.rd EstimationConfig.GATE_RESEAT n
  let slew := s.rd OutputConfig.SOC_SLEW n
  let sigma : Nat := nth 1000 s.boot.cfg 5
  let ps' := ps.map fun p =>
    let m := s.measure n tb x v.r ps p
    let hm : Fr := match p.par with
      | some a => a.hM
      | none => fr 0
    let seed := seedCov (frac sigma 10000) (s.rd EstimationConfig.SEED_V_SIGMA n) hm
    let own := match m with
      | some m => decide (m.kind = 1) || decide (m.kind = 2)
      | none => false
    let zo := if own then s.impliedSoc tb x p else p.zocv
    let p := correctStep gate reseat seed p m
    converge slew v.dt { p with zocv := zo }
  let s := s.filterEvents n ps'
  let (ps', s) := s.seedLap n tb x ps'
  let ps' := ps'.map fun p => { s.lapLimits n tb x p with divUse := p.div }
  let s := (s.bump FilterStatus.LAPS_UPDATED n).wr FilterStatus.TABLE_IN_USE n tb
  let s := s.wr FilterStatus.FILTER_STATE n (if (s.est n).half then 2 else 1)
  let cfg := s.predictCfg n
  s.modEst n fun e =>
    { e with
      pos := ps', phase := e.half, dtSkip := 0, bleedSkip := none, clip := 0, pcfg := cfg, started := true
      iPrev := e.iLast, iLast := x.cur.map fun c => milli c.1, dtLast := v.dt, iMeas := v.mean
      qApplied := match (if x.curMissing && started then none else x.cur), e.qApplied with
        | some c, _ => some c.2
        | none, some a => if started then some (a + v.q.round) else none
        | none, none => none
      secLaps := e.secLaps + 1 }

/-- The estimation of a string at a lap whose data is complete. -/
def State.filterLap (s : State) (n : Nat) (x : Lap) : State :=
  let s := (s.restLap n x).clipLap n x
  let s := (s.modEst n fun e => { e with secSpan := e.secSpan + x.prevInterval }).throughput n x
  let s := s.thermalLap n x.prevInterval
  let skip := s.filterOn n && s.lapSkips n
  let s := if skip then s else s.restoreLap n x.plain
  let s := s.pendingLap n
  let s := s.wrB LedgerStatus.LEDGER_DIRTY 0 true
  if !s.filterOn n then s
  else if skip then s.skipLap n x
  else (s.lapCheck n x).updateLap n x

end Sys2Proof.Machine
end

