-- ==== Sys2Proof/Machine/Outputs.lean ====
section
/-! DEFINITION. What a string reports of a lap (chapter 12): anchors and learned capacity, divergence, outliers, limits, the
result set, and STRING_STATE. -/

namespace Sys2Proof.Machine

open Sys2Proof.Obj

/-! ### Numbers of the reports -/

/-- A SOC in the format of z as 0.01 %, rounded and limited to 0 to 10,000. -/
def soc100 (z : Int) : Nat := (clampI 0 10000 (roundDiv (z * 10000) socOne.toNat)).toNat

/-- The integer square root below 2^`k`, bit by bit. -/
def isqrt : Nat → Nat → Nat → Nat
  | 0, _, r => r
  | k + 1, n, r => if (r + 2 ^ k) * (r + 2 ^ k) ≤ n then isqrt k n (r + 2 ^ k) else isqrt k n r

/-- SOC_SIGMA: the square root of a variance in 0.01 %, to the nearest, saturating at 0xFFFE. -/
def sigma100 (var : Nat) : Nat :=
  if !f32Finite var then 0xFFFE
  else
    let v := f32Val var
    min 0xFFFE ((isqrt 20 (min (2 ^ 38) (v.n.toNat * 400000000 / v.d)) 0 + 1) / 2)

/-- The value in 0.1 % of a ratio to a median given doubled. -/
def ratioTo (v : Nat) (med2 : Int) : Nat := if med2 ≤ 0 then 0 else min 0xFFFF (roundDiv (2000 * v) med2.toNat).toNat

/-! ### Outliers (R340) -/

/-- The positions of a string are compared with the median of those whose entries are learned. -/
def State.outliers (s : State) (n : Nat) : State :=
  let ps := (s.est n).pos
  let known := (ps.map fun p => s.entryOf n p).filter fun e => !e.dflt
  let mc := median2 (known.map fun e => (e.cap : Int))
  let mr := median2 (known.map fun e => (e.rOhm : Int))
  let off (v : Nat) (m2 : Int) (pct : Nat) : Bool := decide (m2 * pct < 100 * ((2 * (v : Int) - m2).natAbs : Int))
  let judge (p : Pos) : Pos :=
    let e := s.entryOf n p
    if e.dflt then p
    else
      { p with capOut := off e.cap mc (s.rd OutputConfig.OUTLIER_CAP n), capRatio := ratioTo e.cap mc,
               rOut := off e.rOhm mr (s.rd OutputConfig.OUTLIER_R n), rRatio := ratioTo e.rOhm mr }
  let new := ps.map judge
  let s := s.modEst n fun e => { e with pos := new }
  (ps.zip new).zipIdx.foldl (fun s ((a, b), i) =>
    let s := if b.capOut && !a.capOut then s.record 0x0A06 2 (toLE 2 i ++ [1] ++ toLE 2 b.capRatio) n 0xFFFF (s.rd RingStatus.TOPO_EPOCH n) else s
    if b.rOut && !a.rOut then s.record 0x0A06 2 (toLE 2 i ++ [2] ++ toLE 2 b.rRatio) n 0xFFFF (s.rd RingStatus.TOPO_EPOCH n) else s) s

/-! ### Rest anchors and capacity (R335 to R337) -/

/-- C_meas between two anchors in mAh as a fraction (R336). -/
def measuredCap (a b : Anchor) : Fr := (frac ((b.cum - a.cum) * socOne) 3600000000000).div (fr (b.zocv - a.zocv))

/-- The capacity an anchor teaches, none where it is not updated. -/
def State.learnCap (s : State) (n : Nat) (p : Pos) (b : Anchor) : Option (Entry × Fr) :=
  match p.anchor, s.entry? p.serial p.chan with
  | some a, some e =>
    let swing : Int := (b.zocv - a.zocv).natAbs
    if s.rdB OutputConfig.CAP_LEARN_EN n && decide (s.rd NodeAuth.AUTH_STATE (nodeInst n p.node) = 2) && a.slope && b.slope
        && decide ((s.rd OutputConfig.CAP_MIN_SWING n : Int) * socOne ≤ swing * 10000) && !p.seedSince && decide (e.str = n)
    then
      let cm := measuredCap a b
      let step := (cm.sub (fr e.cap)).mul (frac (s.rd OutputConfig.CAP_LEARN_GAIN n) 100)
      let lim := frac (e.cap * s.rd OutputConfig.CAP_STEP_MAX n) 1000
      let c := max 1 ((fr e.cap).add (Fr.max ⟨-lim.n, lim.d⟩ (Fr.min lim step))).round.toNat
      let full := (s.ratedCap n).getD 0 * s.rd NodeConfig.PARALLEL_COUNT n
      let soh := min 10000 (roundDiv (c * 10000) full).toNat
      some ({ e with cap := c, soh := soh, dflt := false, capUpd := satAdd 16 e.capUpd 1 }, cm)
    else none
  | _, _ => none

/-- The measurement of a position at a lap was its own reading: none was at a lap skipped at half rate (R314, R334). -/
def Lap.own (x : Lap) (p : Pos) : Bool := !x.skipped && (decide (p.kind = 1) || decide (p.kind = 2))

/-- A rest anchor is taken at the lap at which REST_ELAPSED first reaches REST_TIME, once in a rest; an OCV seed after a rest has been
one too (R335). With it the capacities it teaches: entry, position and C_meas. -/
def State.anchorLap (s : State) (n : Nat) (x : Lap) : List (Entry × Nat × Fr) × State :=
  let s := if !x.skipped && (s.est n).pos.any (·.anchored) then s.wr StringState.LAST_ANCHOR_TIME n (timeVal x.nom) else s
  if !s.hasRested n || (s.est n).rested then ([], s)
  else if !s.filterOn n then ([], s.modEst n fun e => { e with rested := true })
  else
    let tb := s.rd EstimationConfig.CHEMISTRY n
    let own := x.own
    let mk (p : Pos) : Anchor :=
      let zo := p.zocv.getD p.z
      ⟨zo, p.cum, x.plain, s.onSlope n tb p.tp zo⟩
    let old := (s.est n).pos
    let new (p : Pos) : Pos :=
      if own p then { p with zcc := p.z, anchor := some (mk p), seedSince := false, anchored := true } else p
    let taken := (old.filter own).length
    let el := (s.est n).restElapsed
    let s := s.modEst n fun e => { e with pos := old.map new, rested := true }
    let s := s.wr StringState.LAST_ANCHOR_TIME n (timeVal x.nom)
    let s := s.record 0x0A04 1 (toLE 2 taken ++ toLE 4 (el / 1000000000)) n
    (old.zipIdx.filterMap fun (p, i) => if own p then (s.learnCap n p (mk p)).map fun (e, cm) => (e, i, cm) else none, s)

/-- The capacities a lap has learned are written to their entries (R336, R337). -/
def State.learnLap (s : State) (n : Nat) (x : Lap) : State :=
  if x.learn.isEmpty then s
  else
    let s := s.modLap n x.seq fun y => { y with learn := [] }
    x.learn.foldl (fun (s : State) (e, i, cm) =>
      let s := (s.putEntry e).bump StringState.CAP_UPDATES n
      let s := s.record 0x0A08 1 (toLE 2 i ++ toLE 4 e.cap ++ toLE 4 (clampI 0 0xFFFFFFFF cm.round).toNat) n 0xFFFF
        (s.rd RingStatus.TOPO_EPOCH n)
      s.outliers n) s

/-- The laps before one have learned what is in use from that one on (R337). -/
def State.learnDue (s : State) (n : Nat) : State := (s.laps n).cur.foldl (fun (s : State) x => s.learnLap n x) s

/-! ### Divergence (R338, R339) -/

/-- A position's divergence moves at a lap that forms z_ocv; the result is 0 for no change, 1 raised, 2 cleared by an
anchor, 3 cleared after 60 s. -/
def divergeStep (at_ : Nat) (p : Pos) : Pos × Nat :=
  let cond := decide (p.zcc * 50 < socOne) && decide (socOne < (p.zocv.getD 0) * 10)
  if cond then
    let from_ := p.divFrom.getD at_
    let p := { p with divFrom := some from_, divOk := none }
    if !p.div && decide (from_ + secs 60 ≤ at_) && decide (p.seedAt + secs 60 ≤ at_) then ({ p with div := true }, 1) else (p, 0)
  else
    let ok := p.divOk.getD at_
    let p := { p with divFrom := none }
    if p.div && p.anchored then ({ p with div := false, divOk := none }, 2)
    else if p.div && decide (ok + secs 60 ≤ at_) then ({ p with div := false, divOk := none }, 3)
    else ({ p with divOk := if p.div then some ok else none }, 0)

/-- z_cc and z_ocv of an event or an entry. -/
def divergeSocs (p : Pos) : Bytes := toLE 2 (soc100 p.zcc) ++ toLE 2 (soc100 (p.zocv.getD 0))

/-- The divergence of a string at a lap; F_DIVERGE moves over `dt` ns, in 10^-18. -/
def State.divergeLap (s : State) (n : Nat) (x : Lap) (dt : Nat) : State :=
  let e := s.est n
  let was := e.pos.any (·.div) || e.calReq
  let lim := s.rd OutputConfig.DIVERGE_LIMIT n * 10000000000000000
  let step := (1000000000000000000 - lim) * dt / (max 1 (s.rd OutputConfig.DIVERGE_RAMP n) * 1000000000)
  let goal := if was then lim else 1000000000000000000
  let f := if goal ≤ e.fDiverge then max goal (e.fDiverge - step) else min goal (e.fDiverge + step)
  let new := e.pos.map fun p => if x.own p then divergeStep x.plain p else (p, 0)
  let s := s.modEst n fun e => { e with pos := new.map (·.1), fDiverge := f }
  let s := new.zipIdx.foldl (fun s ((p, c), i) =>
    match c with
    | 1 => s.record 0x0A01 2 (toLE 2 i ++ divergeSocs p) n 0xFFFF (s.rd RingStatus.TOPO_EPOCH n)
    | 2 => s.record 0x0A03 1 (toLE 2 i ++ [1]) n 0xFFFF (s.rd RingStatus.TOPO_EPOCH n)
    | 3 => s.record 0x0A03 1 (toLE 2 i ++ [2]) n 0xFFFF (s.rd RingStatus.TOPO_EPOCH n)
    | _ => s) s
  let count := ((s.est n).pos.filter (·.div)).length
  let on := decide (count ≠ 0)
  let s := (s.wrB StringState.DIVERGE_ACTIVE n on).wrB StringState.REST_CAL_REQUEST n on
  let s := s.wr StringState.DIVERGE_POSITIONS n count
  let s := if on && !e.calReq then (s.record 0x0A02 2 (toLE 2 count) n).attention 6 else s
  s.modEst n fun e => { e with calReq := on }

/-- DIVERGE_STATUS lists the positions concerned (Table 12.11). -/
def State.divergeRegs (s : State) (n at_ : Nat) : State :=
  let l := ((s.est n).pos.zipIdx.map fun (p, i) =>
    (if p.div || p.divFrom.isSome then [(i, 1, if p.div then 2 else 1, p)] else [])
      ++ (if p.capOut then [(i, 2, 2, p)] else []) ++ (if p.rOut then [(i, 3, 2, p)] else [])).flatten
  let s := s.wr DivergeStatus.TOPO_EPOCH n (s.rd RingStatus.TOPO_EPOCH n)
  let s := (s.wr DivergeStatus.ENTRY_COUNT n (min 32 l.length)).wrB DivergeStatus.DIVERGE_OVERFLOW n (decide (32 < l.length))
  (List.range 32).foldl (fun s k =>
    match l[k]? with
    | some (i, kind, st, p) =>
      let s := ((s.wr DivergeStatus.POSITION n i k).wr DivergeStatus.KIND n kind k).wr DivergeStatus.STATE n st k
      let s := s.wr DivergeStatus.Z_CC n (soc100 p.zcc) k
      let s := s.wr DivergeStatus.Z_OCV n ((p.zocv.map soc100).getD 0xFFFF) k
      let s := s.wr DivergeStatus.DETAIL n (if kind = 2 then p.capRatio else if kind = 3 then p.rRatio else 0) k
      s.wr DivergeStatus.TIMER n (match p.divFrom with
        | some a => if kind = 1 then min 0xFFFF ((at_ - a) / 100000000) else 0
        | none => 0) k
    | none =>
      let s := ((s.wr DivergeStatus.POSITION n 0xFFFF k).wr DivergeStatus.KIND n 0 k).wr DivergeStatus.STATE n 0 k
      let s := (s.wr DivergeStatus.Z_CC n 0xFFFF k).wr DivergeStatus.Z_OCV n 0xFFFF k
      (s.wr DivergeStatus.DETAIL n 0 k).wr DivergeStatus.TIMER n 0 k) s

/-! ### Limits of the string (R332) -/

/-- F_LEDGER of a string at an instant without steps (R129). -/
def State.fLedger (s : State) (n at_ : Nat) : Fr :=
  let dl : Nat := nth 50 s.boot.cfg 4
  match (s.str n).restored with
  | none => frac dl 100
  | some a => (frac dl 100).add ((frac (100 - dl) 100).mul (frac (min (secs 30) (at_ - a)) (secs 30)))

/-- The smallest of some limits, none where every one is unbounded. -/
def minLimit (l : List (Option Fr)) : Option Fr :=
  l.foldl (fun a b => match a, b with
    | some x, some y => some (Fr.min x y)
    | some x, none => some x
    | none, y => y) none

/-- A limit within s32, the largest value where it is unbounded. -/
def limitVal (l : Option Fr) : Fr := Fr.min (fr 0x7FFFFFFF) (l.getD (fr 0x7FFFFFFF))

/-- Both limits of a string: cell charge, cell discharge, charge, discharge; none while its filter does not run. Without a profile in
force the two last read 0 (R370), and the limits of the cells, which need its voltages, not available (DESIGN CHOICE, log 56). -/
def State.strLimits (s : State) (n at_ : Nat) : Option (Nat × Nat × Nat × Nat) :=
  let e := s.est n
  if !s.hasProf n then some (0x80000000, 0x80000000, 0, 0)
  else if !s.filterOn n || !e.started || e.pos.isEmpty then none
  else
    let c := limitVal (minLimit (e.pos.map (·.limC)))
    let d := limitVal (minLimit (e.pos.map (·.limD)))
    let f := (s.fLedger n at_).mul (frac (s.fTherm n) 1000000000)
    let out (lim g : Fr) : Nat := (lim.mul g).floor.toNat
    some (c.floor.toNat, d.floor.toNat, out (Fr.min c (fr (s.prof n 0x2C 4))) f,
      out (Fr.min d (fr (s.prof n 0x30 4))) (f.mul (frac e.fDiverge 1000000000000000000)))

/-! ### Result sets (R330, R356) -/

/-- The position has a reported value. -/
def Pos.reports (p : Pos) : Bool := p.live && decide (p.seedDue = 0)

/-- SOC_REPORTED of a position. -/
def Pos.soc (p : Pos) : Nat := soc100 p.repS

/-- The position is a sentinel in use. -/
def State.isSentinel (s : State) (n i : Nat) : Bool :=
  (List.range 32).any fun e => decide (s.rd SentinelConfig.POSITION n e = i)

/-- A position result (Table 12.7); a position that awaits its seed reads not available (R341). -/
def State.posResult (s : State) (n i : Nat) (p : Pos) : Bytes :=
  let on := s.filterOn n
  let ok := on && p.reports
  let flags := p.flags + 256 * b2n (s.entryOf n p).dflt + 512 * b2n (s.isSentinel n i) + 1024 * b2n p.anchored
  toLE 2 (if ok then p.soc else 0xFFFF) ++ toLE 2 (if ok then soc100 p.z else 0xFFFF)
    ++ toLE 2 (if ok then sigma100 (covAt p.cov 0 0) else 0xFFFF)
    ++ toLE 2 (match p.innov with
        | some v => if on then ofInt 16 (clampI (-32767) 32767 (roundDiv v 10)) else 0x8000
        | none => 0x8000)
    ++ toLE 2 flags ++ [p.kind, 0]

/-- The block a full result set adds for a position; free values where it has no state. -/
def State.posFull (s : State) (n i : Nat) (p : Pos) : Bytes :=
  if s.filterOn n && p.live then
    toLE 8 (ofInt 64 p.z) ++ toLE 4 (ofInt 32 p.vf) ++ toLE 4 (ofInt 32 p.vs) ++ toLE 4 (ofInt 32 p.h)
      ++ toLE 4 (covAt p.cov 0 0)
  else toLE 24 (Config.freeValue (s.free + i))

/-- The first position with the smallest, or the largest, reported value. -/
def extremum (less : Nat → Nat → Bool) (l : List (Nat × Nat)) : Nat × Nat :=
  (l.foldl (fun (b : Option (Nat × Nat)) v => match b with
    | some x => if less v.1 x.1 then some v else b
    | none => some v) none).getD (0xFFFF, 0xFFFF)

/-- The reported values of a string and of its positions go into STRING_STATE (Table 12.8). -/
def State.stringRegs (s : State) (n : Nat) (x : Lap) : State :=
  let e := s.est n
  let on := s.filterOn n
  let ps := if on then e.pos.zipIdx.filter fun (p, _) => p.reports else []
  let socs := ps.map fun (p, i) => (p.soc, i)
  let w := sumL (ps.map fun (p, _) => (s.entryOf n p).cap)
  let soc := if ps.isEmpty then 0xFFFF
    else (roundDiv (sumL (ps.map fun (p, _) => p.soc * (s.entryOf n p).cap)) w).toNat
  let es := e.pos.map fun p => s.entryOf n p
  let soh := if on then (es.filter fun a => !a.dflt).map (·.soh) else []
  let s := (s.wr StringState.STRING_SOC n soc).wr StringState.SOC_MIN n (extremum (fun a b => decide (a < b)) socs).1
  let s := s.wr StringState.SOC_MAX n (extremum (fun a b => decide (b < a)) socs).1
  let s := s.wr StringState.SOH_MIN n (soh.foldl min 0xFFFF)
  let s := s.wr StringState.SOH_MEAN n (if soh.isEmpty then 0xFFFF else (roundDiv (sumL soh) soh.length).toNat)
  let s := s.wrB StringState.NA_LIMITED n (!on || e.pos.any (·.naLim))
  let fl := s.fLedger n x.plain
  let s := s.wrB StringState.LEDGER_DERATED n (fl.lt (fr 1))
  let s := s.wr StringState.F_LEDGER n (fl.mul (fr 1000)).floor.toNat
  let s := s.wr StringState.F_DIVERGE n (e.fDiverge / 1000000000000000)
  let s := s.wr StringState.F_THERMAL n (s.fTherm n / 1000000)
  let s := s.wrB StringState.RESTING n e.restFrom.isSome
  let s := s.wr StringState.REST_ELAPSED n (e.restElapsed / 1000000000)
  let s := s.wrB StringState.SENTINELS_IDLE n
    (decide (s.rd LapStatus.CONFIGURED_RATE n < 100 * 2 ^ s.rd LapStatus.TOTAL_SHIFT n))
  let s := s.wr StringState.DEFAULT_POSITIONS n (es.filter (·.dflt)).length
  let s := s.wr StringState.CAPACITY_MIN n (if on && !es.isEmpty then (es.map (·.cap)).foldl min 0xFFFFFFFF else 0xFFFFFFFF)
  match s.strLimits n x.plain with
  | some (c, d, lc, ld) =>
    ((s.wr StringState.CELL_CHARGE_LIMIT n c).wr StringState.CELL_DISCHARGE_LIMIT n d).wr StringState.CHARGE_LIMIT n lc
      |>.wr StringState.DISCHARGE_LIMIT n ld
  | none =>
    let na := 0x80000000
    ((s.wr StringState.CELL_CHARGE_LIMIT n na).wr StringState.CELL_DISCHARGE_LIMIT n na).wr StringState.CHARGE_LIMIT n na
      |>.wr StringState.DISCHARGE_LIMIT n na

/-- The result header (Table 12.6). -/
def State.resultHeader (s : State) (n : Nat) (x : Lap) (kind : Nat) (late : Bool) : Bytes :=
  let e := s.est n
  let socs := if s.filterOn n then (e.pos.zipIdx.filter fun (p, _) => p.reports).map fun (p, i) => (p.soc, i) else []
  let bit (f : Fld) : Nat := s.rd f n
  let flags := 64 * bit StringState.NA_LIMITED + 32 * bit StringState.LEDGER_DERATED + 16 * bit StringState.DIVERGE_ACTIVE
    + 8 * bit StringState.REST_CAL_REQUEST + 4 * bit StringState.RESTING + 2 * b2n x.skipped + b2n late
  [kind, flags] ++ toLE 2 e.pos.length ++ toLE 2 (bit StringState.STRING_SOC) ++ toLE 2 (bit StringState.SOC_MIN)
    ++ toLE 2 (bit StringState.SOC_MAX) ++ toLE 2 (bit StringState.SOH_MIN) ++ toLE 4 (bit StringState.CHARGE_LIMIT)
    ++ toLE 4 (bit StringState.DISCHARGE_LIMIT) ++ toLE 2 (extremum (fun a b => decide (a < b)) socs).2
    ++ toLE 2 (extremum (fun a b => decide (b < a)) socs).2 ++ [bit FilterStatus.FILTER_STATE, 0]
    ++ toLE 2 (bit StringState.DIVERGE_POSITIONS) ++ toLE 2 (bit StringState.DEFAULT_POSITIONS) ++ [0, 0]

/-- The result instant of a lap (R47). -/
def Lap.resultAt (x : Lap) : Nat := x.nom + x.period + 100000

/-- The result instant on the scale without steps, which orders units across a step. -/
def Lap.duePlain (x : Lap) : Nat := x.plain + x.period + 100000

/-- What STRING_STATE and DIVERGE_STATUS show of a lap, but for the counters. -/
def resultFlds : List Fld := [
  StringState.STRING_SOC, StringState.SOC_MIN, StringState.SOC_MAX, StringState.SOH_MEAN, StringState.SOH_MIN,
  StringState.NA_LIMITED, StringState.LEDGER_DERATED, StringState.DIVERGE_ACTIVE, StringState.REST_CAL_REQUEST,
  StringState.RESTING, StringState.SENTINELS_IDLE, StringState.CHARGE_LIMIT, StringState.DISCHARGE_LIMIT,
  StringState.CELL_CHARGE_LIMIT, StringState.CELL_DISCHARGE_LIMIT, StringState.F_LEDGER, StringState.F_DIVERGE,
  StringState.F_THERMAL, StringState.DEFAULT_POSITIONS, StringState.DIVERGE_POSITIONS, StringState.CAPACITY_MIN,
  StringState.REST_ELAPSED, StringState.LAST_ANCHOR_TIME, DivergeStatus.TOPO_EPOCH, DivergeStatus.ENTRY_COUNT,
  DivergeStatus.DIVERGE_OVERFLOW, DivergeStatus.POSITION, DivergeStatus.KIND, DivergeStatus.STATE, DivergeStatus.Z_CC,
  DivergeStatus.Z_OCV, DivergeStatus.DETAIL, DivergeStatus.TIMER]

/-- STRING_STATE and DIVERGE_STATUS of a string show the values of some cells, the later before the earlier. -/
def State.showResults (s : State) (n : Nat) (cs : List CellW) : State :=
  let cs := cs.reverse
  resultFlds.foldl (fun s f => (List.range f.count).foldl (fun s i => match cs.find? fun c => decide (c.key = f.key n i) with
    | some c => s.wr f n c.val i
    | none => s) s) s

/-- What has been derived of a lap is not shown before its result instant (R47, R413): the registers return to what they show in `o`,
and the lap keeps their values. `wait` is what the laps before it still keep. -/
def State.hideLap (s o : State) (n seq : Nat) (wait : List CellW) : State :=
  let cells := resultFlds.flatMap fun f => (List.range f.count).filterMap fun i =>
    let v := s.rd f n i
    if v = o.rd f n i ∧ (wait.any fun c => decide (c.key = f.key n i)) = false then none
    else some (⟨f.key n i, f.resetAt i, v⟩ : CellW)
  (s.showResults n (cells.map fun c => { c with val := o.cellVal c })).modLap n seq fun y => { y with regs := cells }

/-- The results of a lap are derived once its corrections are made: anchors, divergence, STRING_STATE and the result set
(R47, R328 to R340, R356). -/
def State.buildResult (s : State) (n seq : Nat) : State :=
  match s.lap? n seq with
  | none => s
  | some x =>
    if x.built.isSome || x.handed.isNone then s
    else
      let o := s
      let wait := (s.laps n).cur.flatMap (·.regs)
      let (learnt, s) := (s.showResults n wait).anchorLap n x
      let e := s.est n
      let s := s.divergeLap n x (if e.lastNom = 0 then 0 else x.plain - e.lastNom)
      let s := (s.divergeRegs n x.plain).stringRegs n x
      let late := decide (x.resultAt < x.handed.getD 0)
      let s := if late then (s.bump DieStatus.RESULT_LATE_COUNT n).wrB DieStatus.RESULT_LATE n true else s
      let ps := (s.est n).pos
      let small := (ps.zipIdx.map fun (p, i) => s.posResult n i p).flatten
      let big := (ps.zipIdx.map fun (p, i) => s.posFull n i p).flatten
      let u : LapUnit := ⟨n, x.seq, x.nom, x.duePlain, x.epoch, x.plain - x.lead, x.record ++ s.resultHeader n x 1 late ++ small,
        x.record ++ s.resultHeader n x 2 late ++ small ++ big, false⟩
      let s := { s with free := s.free + ps.length }
      let s := s.modEst n fun e => { e with lastNom := x.plain, prevSoc := s.rd StringState.STRING_SOC n }
      let s := s.modLap n seq fun y => { y with built := some u, learn := learnt }
      s.hideLap o n seq wait

end Sys2Proof.Machine
end

