-- ==== Sys2Proof/Machine/Nodes.lean ====
section
/-! DEFINITION. Node functions as the module commands them (chapter 8): thresholds, status, balancing, wire tests,
authentication, and CLEAR_TRIP (R382). -/

namespace Sys2Proof.Machine

open Sys2Proof.Obj

/-- The result data where the exchange was complete. -/
def CmdEnd.data? : CmdEnd → Option Bytes
  | .ok d => some d
  | _ => none

/-- A mailbox request that needed a node command is answered by a failed exchange (R231); one that a new epoch has overtaken at the
sample instant of its first lap (R188). -/
def State.failAnswer (s : State) (r : Rid) (n node : Nat) (e : CmdEnd) : State :=
  match e with
  | .ok _ => s
  | .fail c => s.answer r stCondition (condDetail c n node (s.rd RingStatus.TOPO_EPOCH n))
  | .stale =>
    if s.base < (s.ring n).epochFrom then s.modRing n fun q => { q with stale := q.stale ++ [r] }
    else s.answer r stEpochStale (toLE 4 (s.rd RingStatus.TOPO_EPOCH n))

/-! ### Thresholds (R232) -/

/-- SET_THRESHOLDS to a node, from the profile in force. -/
def State.sendThresholds (s : State) (n k tries : Nat) : State :=
  if s.hasProf n then
    let w (o : Nat) : Bytes := toLE 2 (s.prof n o 2)
    s.queueCmd n k 0x10 (toLE 2 (s.rd NodeStatus.CHANNEL_MASK (nodeInst n k)) ++ w 0x18 ++ w 0x1A ++ w 0x1C ++ w 0x1E
      ++ w 0x20 ++ [0, 0]) (.thresholds tries)
  else s

/-- The thresholds of every numbered node are written again, of one that no port reaches once it is reached. -/
def State.thresholdsAll (s : State) (n : Nat) : State :=
  (s.nodeList n).foldl (fun s k =>
    if s.rd Topology.REACH n k = 3 then s.modNode n k fun r => { r with threshDue := true } else s.sendThresholds n k 0) s

/-- The thresholds of the nodes that are reached again are written. -/
def State.thresholdsDue (s : State) (n : Nat) : State :=
  ((s.nodeList n).filter fun k => (s.rnode n k).threshDue && decide (s.rd Topology.REACH n k ≠ 3)).foldl (fun (s : State) k =>
    (s.modNode n k fun r => { r with threshDue := false }).sendThresholds n k 0) s

/-- The thresholds read back are compared with those sent: the exchange is repeated, and CMP_CONFIG_FAULT follows. -/
def State.thresholdsEnd (s : State) (n k tries : Nat) (sent : Bytes) (e : CmdEnd) : State :=
  let i := nodeInst n k
  let s := match e with
    | .ok d => (s.wr NodeStatus.OV_THRESH i (field d 2 2)).wr NodeStatus.UV_THRESH i (field d 4 2)
    | _ => s
  if e.data?.map (padTo 12) = some (padTo 12 sent) then
    let s := (s.wrB NodeStatus.CMP_CONFIG_FAULT i false).nodeDiags n
    if (s.rnode n k).fw = 1 then s.treatNode n k else s
  else
    let s := match e with
      | .fail _ => s.recordOpen 6 n k
      | _ => s
    if e = .stale then s.modNode n k fun r => { r with threshDue := true }
    else if tries < s.rd RingConfig.CMD_RETRIES n then s.sendThresholds n k (tries + 1)
    else
      let s := (s.wrB NodeStatus.CMP_CONFIG_FAULT i true).nodeDiags n
      if (s.rnode n k).fw = 1 ∧ e.data?.isSome = true then s.treatNode n k else s

/-! ### Status (R226, R227, R234, R237) -/

/-- READ_STATUS is sent to a node. -/
def State.readStatus (s : State) (n k : Nat) : State :=
  if (s.ring n).cmds.any fun c => decide (c.node = k) && decide (c.owner = .status) then s else s.queueCmd n k 0x11 [] .status

/-- A READ_STATUS result is taken (Table 8.2). -/
def State.statusEnd (s : State) (n k : Nat) (e : CmdEnd) : State :=
  match e with
  | .stale => s
  | .fail _ => s.recordOpen 6 n k
  | .ok d =>
    let i := nodeInst n k
    let w (o : Nat) : Nat := field d o 2
    let s := (s.wr NodeStatus.CMP_OV_MASK i (w 0)).wr NodeStatus.CMP_UV_MASK i (w 2)
    let s := s.wrB NodeStatus.CMP_LATCHED i (decide (w 0 ≠ 0) || decide (w 2 ≠ 0))
    let s := (s.wr NodeStatus.OV_THRESH i (w 4)).wr NodeStatus.UV_THRESH i (w 6)
    let s := (s.wr NodeStatus.BLEED_MASK i (w 8)).wr NodeStatus.BLEED_REMAIN i (w 10)
    let s := (s.wr NodeStatus.NODE_TEMP i (w 12)).wr NodeStatus.CMP_TEST_FAIL i (w 14)
    let s := if w 14 = 0 then s else s.wrB NodeStatus.NODE_FAULT i true
    let s := (List.range 16).foldl (fun s j => s.wr NodeStatus.THERM_T i (w (16 + 2 * j)) j) s
    let s := s.modNode n k fun r => { r with thermAt := List.replicate 16 s.now }
    ((s.nodeDiags n).classifyTrip n).checkTemps n fun m src => decide (m = k) || decide (src = 255)

/-! ### Balancing (R236, R237) -/

/-- Channels of an ascending list that keep within the largest number and, unless allowed, are not adjacent. -/
def bleedKeep (max_ : Nat) (adj : Bool) : List Nat → List Nat → List Nat
  | kept, [] => kept
  | kept, c :: cs =>
    if kept.length < max_ ∧ (adj = true ∨ kept.all (fun k => decide (k + 1 ≠ c)) = true) then bleedKeep max_ adj (kept ++ [c]) cs
    else bleedKeep max_ adj kept cs

/-- A mask of channels. -/
def maskOf (l : List Nat) : Nat := l.foldl (fun m c => setBit m c true) 0

/-- The bleed mask that a wanted set of a node's channels becomes (R236). -/
def State.bleedMask (s : State) (n k : Nat) (want : List Nat) : Nat :=
  let i := nodeInst n k
  let ok := want.filter fun c => (s.badWires n k c).isEmpty && !s.rdB NodeStatus.UNAUTHENTICATED i &&
    decide (s.rd BalanceConfig.BALANCE_MIN_V n ≤ s.rd NodeStatus.CELL_V i c) && decide (s.rd NodeStatus.CELL_V i c ≠ 0xFFFF)
  maskOf (bleedKeep (s.rd BalanceConfig.MAX_CHANNELS n) (s.rdB BalanceConfig.ADJACENT_ALLOWED n) [] ok)

/-- A bleed set is sent to a node: BALANCE_SET, or BALANCE_STOP for none. -/
def State.sendBleed (s : State) (n k mask ms : Nat) : State :=
  if mask = 0 then s.queueCmd n k 0x13 [] .balance
  else
    s.queueCmd n k 0x12 (toLE 2 mask ++ toLE 2 ms ++ toLE 2 (s.rd BalanceConfig.BALANCE_MIN_V n)
      ++ toLE 2 (s.rd BalanceConfig.NODE_TEMP_LIMIT n)
      ++ [s.rd BalanceConfig.MAX_CHANNELS n, s.rd BalanceConfig.ADJACENT_ALLOWED n, 0, 0]) .balance

/-- A BALANCE_SET or BALANCE_STOP has been executed, or failed; a set that comes into force before the instant of a lap already
fired is the one at that instant (R299). -/
def State.balanceEnd (s : State) (n k code : Nat) (args : Bytes) (e : CmdEnd) : State :=
  match e with
  | .ok _ =>
    let m := if code = 0x12 then field args 0 2 else 0
    let ms := if code = 0x12 then field args 2 2 else 0
    let i := nodeInst n k
    let early := match (s.laps n).lastPlain with
      | some a => decide (s.plain < a)
      | none => false
    ((s.wr NodeStatus.BLEED_MASK i m).wr NodeStatus.BLEED_REMAIN i ms).modNode n k fun r =>
      { r with bleed := m, bleedUntil := s.now + msec ms, bleedAt := if early then m else r.bleedAt }
  | .fail _ => s.recordOpen 6 n k
  | .stale => s

/-! ### Comparator tests (R235) -/

/-- A CMP_TEST has ended. -/
def State.cmpTestEnd (s : State) (n k : Nat) (e : CmdEnd) : State :=
  match e with
  | .ok d =>
    let i := nodeInst n k
    let f := field d 0 2
    let s := s.wr NodeStatus.CMP_TEST_FAIL i f
    (s.wrB NodeStatus.NODE_FAULT i (decide (f ≠ 0) || (match (s.rnode n k).rec_ with
      | some r => recBit r 0
      | none => false))).nodeDiags n
  | .fail _ => s.recordOpen 6 n k
  | .stale => s

/-- The node whose comparators were tested longest ago. -/
def oldestNode (at_ : Nat → Nat) (ks : List Nat) : Option Nat :=
  ks.foldl (fun b k => match b with
    | some x => if at_ k < at_ x then some k else b
    | none => some k) none

/-- CMP_TEST goes to the next node when its share of CMP_TEST_INTERVAL has elapsed since the last, one node at a time. -/
def execCmpTest (t str : Nat) (s : State) : Host.Outcome State Fault Refusal :=
  let s := s.at t
  let ks := s.nodeList str
  let last := maxL (ks.map fun k => (s.rnode str k).cmpTested)
  let share := s.rd NodeConfig.CMP_TEST_INTERVAL str * secs 60 / max 1 ks.length
  .next (if s.hasStr str && s.enginesUp && decide (last + share ≤ s.now)
      && !((s.ring str).cmds.any fun c => decide (c.owner = .cmpTest)) then
    match oldestNode (fun k => (s.rnode str k).cmpTested) ks with
    | some k => (s.modNode str k fun r => { r with cmpTested := s.now }).queueCmd str k 0x16 [] .cmpTest
    | none => s
  else s)

/-! ### Wire tests (R239, R242 to R244) -/

/-- One test of a RUN_WIRE_TEST has ended: the request is answered with its last test, or by a failed exchange (R231,
R244). -/
def State.wireRequest (s : State) (n k w id : Nat) (e : CmdEnd) : State :=
  match (s.ring n).wireReqs.find? fun q => q.id == id with
  | none => s
  | some q =>
    let rest := (s.ring n).wireReqs.filter fun q => q.id != id
    match e with
    | .ok d =>
      let res := q.results ++ [w, field d 1 1] ++ toLE 2 (field d 2 2)
      let left := q.left.filter (· ≠ w)
      if left.isEmpty then (s.modRing n fun r => { r with wireReqs := rest }).answer q.rid stOk res
      else s.modRing n fun r => { r with wireReqs := rest ++ [{ q with left := left, results := res }] }
    | e =>
      -- the tests of the request that have not left are given up
      let drop (c : NodeCmd) : Bool := match c.owner with
        | .wire _ (some i) => decide (i = id) && decide (c.phase = 0)
        | _ => false
      (s.modRing n fun r => { r with wireReqs := rest, cmds := r.cmds.filter fun c => !drop c }).failAnswer q.rid n k e

/-- A WIRE_TEST has ended (Table 8.3). An automatic test whose exchange failed is repeated after WIRE_RETEST, but that of a CLEARED
wire, which returns to none then; one that ended EPOCH_MISMATCH is asked for again. -/
def State.wireEnd (s : State) (n k w : Nat) (req : Option Nat) (e : CmdEnd) : State :=
  let s := match e, req with
    | .ok d, _ => s.wireResult n k w (field d 1 1)
    | .fail _, none =>
      (s.modWire n k w fun y => if y.state = 3 then y
        else { y with retestAt := some (s.now + secs (s.rd NodeConfig.WIRE_RETEST n)) }).recordOpen 6 n k
    | .stale, none => s.modWire n k w fun y => { y with want := true }
    | _, _ => s
  match req with
  | some id => s.wireRequest n k w id e
  | none => s

/-- The classifiable wires of a string, as node and wire. -/
def State.allWires (s : State) (n : Nat) : List (Nat × Nat) :=
  ((s.nodeList n).map fun k => (wiresOf (s.fitted n k)).map fun w => (k, w)).flatten

/-- The routine test of the next wire falls due by its share of WIRE_TEST_INTERVAL (R243). -/
def execRoutineWireTest (t str : Nat) (s : State) : Host.Outcome State Fault Refusal :=
  let s := s.at t
  let ws := s.allWires str
  let at_ (x : Nat × Nat) : Nat := ((s.rnode str x.1).wire x.2).tested
  let last := max s.boot.t0 (maxL (ws.map at_))
  let all := s.rd NodeConfig.WIRE_TEST_INTERVAL str * secs 60
  let next := ws.foldl (fun (b : Option (Nat × Nat)) x => match b with
    | some y => if at_ x < at_ y then some x else b
    | none => some x) none
  .next (if s.hasStr str && s.enginesUp && decide (all ≠ 0) && decide (last + all / max 1 ws.length ≤ s.now) then
    match next with
    | some (k, w) => ((s.modWire str k w fun y => { y with tested := s.now, want := true }).wireTests str).wireRegs str
    | none => s
  else s)

/-- WIRE_RETEST has elapsed: a CLEARED wire returns to none, and another wire's automatic test is repeated (Table 8.3). -/
def execWireRetest (t str node wire : Nat) (s : State) : Host.Outcome State Fault Refusal :=
  let s := s.at t
  let x := (s.rnode str node).wire wire
  let due := match x.retestAt with
    | some a => decide (a ≤ s.now)
    | none => false
  .next (if s.hasStr str && s.enginesUp && decide (node < s.rd RingStatus.NODE_COUNT str) && due then
    (if x.state = 3 then s.modWire str node wire fun y => { y with state := 0, run := 0, retestAt := none }
    else (s.modWire str node wire fun y => { y with want := true, retestAt := none }).wireTests str).wireRegs str
  else s)

/-- RUN_WIRE_TEST (R244). One accepted under the epoch before, while the new one waits for its sample instant, is never sent
(R188). -/
def execRunWireTest (t : Nat) (r : Req) (p : Bytes) (s : State) : Host.Outcome State Fault Refusal :=
  .next (s.serve t r 0x0043 (p.length == 8) 2 fun rid _ s =>
    let n := field p 0 1
    let w := field p 1 1
    let k := field p 2 2
    let ws := wiresOf (s.fitted n k)
    let test := if w = 0xFF then ws else [w]
    let epoch := s.epochNow n
    guarded [(!s.hasStr n, stAbsent, []),
      (decide (epoch ≠ 0) && decide (s.rd RingStatus.NODE_COUNT n ≤ k), stAbsent, []),
      (decide (epoch = 0) || decide (epoch ≠ field p 4 4), stEpochStale, toLE 4 epoch),
      (decide (epoch ≠ s.rd RingStatus.TOPO_EPOCH n), stEpochStale, toLE 4 (s.rd RingStatus.TOPO_EPOCH n)),
      (test.isEmpty || !test.all ws.contains, refOff stRange 1),
      (test.any fun w => s.testDeferred n k w, refCond 0x0604 n k epoch)] s fun s =>
      let id := (s.ring n).nextReq
      let s := s.modRing n fun g =>
        { g with nextReq := id + 1, wireReqs := g.wireReqs ++ [⟨id, rid, k, test, []⟩] }
      (test.foldl (fun s w => s.queueCmd n k 0x14 [w, 0, 0, 0] (.wire w (some id))) s, .later))

/-! ### Sentinel arming (R344) -/

/-- The channels of a node that are sentinels in use. -/
def State.sentinelMask (s : State) (n k : Nat) : Nat :=
  let ser := s.rd Topology.SERIAL n k
  maskOf (((List.range 32).filter fun e => decide (s.rd SentinelConfig.CHANNEL n e < 16)
    && decide (s.rd SentinelConfig.SERIAL n e = ser) && !s.rdB SentinelConfig.ABSENT n e).map fun e =>
      s.rd SentinelConfig.CHANNEL n e)

/-- A node that holds sentinels is armed; where its frozen window is unread, or a BURST_FREEZE is on its way to it, once that window
is read or given up (R344). One that holds none any more is not frozen again. -/
def State.armNode (s : State) (n k : Nat) : State :=
  let m := s.sentinelMask n k
  if m = 0 then s.modNode n k fun r => { r with armed := false, armDue := false }
  else if s.rd NodeAuth.AUTH_STATE (nodeInst n k) ≠ 2 then s
  else if (s.rnode n k).frozen || (s.ring n).cmds.any (fun c => decide (c.node = k) && decide (c.owner = .freeze)) then
    s.modNode n k fun r => { r with armDue := true }
  else (s.modNode n k fun r => { r with armDue := false }).queueCmd n k 0x19 (toLE 2 m ++ [0, 0]) .arm

/-! ### Authentication (R246 to R248) -/

/-- The chain with which a serial number has passed earlier in the run, on any string. -/
def State.passedChain (s : State) (serial : Nat) : Option Bytes :=
  s.strs.findSome? fun x => (x.ring.passed.find? fun p => p.1 == serial).map (·.2)

/-- AUTH_CHALLENGE with a fresh nonce. -/
def State.challenge (s : State) (n k : Nat) (chain : Bytes) : State :=
  let nonce := padTo 32 (Config.nonce s.free)
  let s := { s with free := s.free + 1 }
  (s.modNode n k fun r => { r with chain := chain, nonce := nonce }).queueCmd n k 0x18 nonce .auth

/-- An attempt to authenticate a node begins. -/
def State.authBegin (s : State) (n k : Nat) : State :=
  let i := nodeInst n k
  let s := (s.wr NodeAuth.AUTH_STATE i 1).bump NodeAuth.ATTEMPTS i
  let s := s.modNode n k fun r => { r with retryAt := none, chain := [] }
  match s.passedChain (s.rd Topology.SERIAL n k) with
  | some c => s.challenge n k c
  | none => s.queueCmd n k 0x17 [0, 0, 0, 0] (.cert 0)

/-- Nodes that await authentication and have left their boot block are begun, up to 4 of a string at a time (R246,
R528). -/
def State.authNext (s : State) (n : Nat) : State :=
  let st (k : Nat) : Nat := s.rd NodeAuth.AUTH_STATE (nodeInst n k)
  let busy := ((s.nodeList n).filter fun k => decide (st k = 1)).length
  let free := (s.nodeList n).filter fun k => decide (st k = 0) && decide (s.rd Topology.REACH n k ≠ 3)
    && decide ((s.rnode n k).fw = 0)
  (free.take (4 - busy)).foldl (fun s k => s.authBegin n k) s

/-- An attempt has failed for a reason of Table 8.9 (R247). -/
def State.authFail (s : State) (n k reason : Nat) : State :=
  let i := nodeInst n k
  let s := (s.wr NodeAuth.FAIL_REASON i reason).stamp NodeAuth.AUTH_TIME i
  let s := if 3 ≤ s.rd NodeAuth.ATTEMPTS i then
      ((s.wr NodeAuth.AUTH_STATE i 4).wrB NodeStatus.AUTH_FAILED i true).failEntries (s.rd Topology.SERIAL n k)
    else (s.wr NodeAuth.AUTH_STATE i 3).modNode n k fun r => { r with retryAt := some (s.now + secs 10) }
  s.authNext n

/-- A node has passed: its entries, the record of a module swap (R248), and the arming of its sentinels. -/
def State.authPass (s : State) (n k : Nat) (leaf : Bytes) : State :=
  let i := nodeInst n k
  let ser := s.rd Topology.SERIAL n k
  let s := ((s.wr NodeAuth.AUTH_STATE i 2).wr NodeAuth.FAIL_REASON i 0).stamp NodeAuth.AUTH_TIME i
  let s := s.wr NodeAuth.CERT_DIGEST i (ofLE (Config.sha256 leaf))
  let s := (s.wrB NodeStatus.UNAUTHENTICATED i false).wrB NodeStatus.AUTH_FAILED i false
  let s := s.wrB Topology.UNAUTHENTICATED n false k
  let chain := (s.rnode n k).chain
  let s := s.modRing n fun r => { r with passed := (ser, chain) :: r.passed.filter fun p => p.1 != ser }
  let s := if s.rd BootStatus.LEDGER_STATE = 2 ∧ s.hasEntries ser = false then
      let e := s.rd RingStatus.TOPO_EPOCH n
      let prev := s.rd NodeAuth.PREV_SERIAL i
      (s.record 0x0601 2 (toLE 16 ser ++ [0, 0, 0, 0]) n k e).record 0x0602 1 (toLE 16 prev ++ [0, 0, 0, 0]) n k e
    else s
  let s := s.authEntries n ser (s.fitted n k)
  (s.armNode n k).authNext n

/-- An attempt ends without its step: no response is reason 4; a change of epoch leaves the node to be begun again. -/
def State.authNoStep (s : State) (n k : Nat) (e : CmdEnd) : State :=
  match e with
  | .stale => (s.wr NodeAuth.AUTH_STATE (nodeInst n k) 0).authNext n
  | _ => (s.recordOpen 6 n k).authFail n k 4

/-- A CERT_READ has ended: the next chunk is read, or the chain is checked in the order of R246. -/
def State.certEnd (s : State) (n k chunk : Nat) (e : CmdEnd) : State :=
  match e with
  | .ok [] =>
    let chain := (s.rnode n k).chain
    match Config.certLeaf chain with
    | none => s.authFail n k 5
    | some (_, ser) =>
      if !Config.verifies 2 chain [] then s.authFail n k 1
      else if ser ≠ s.rd Topology.SERIAL n k then s.authFail n k 2
      else s.challenge n k chain
  | .ok d =>
    (s.modNode n k fun r => { r with chain := r.chain ++ d }).queueCmd n k 0x17 (toLE 2 (chunk + 1) ++ [0, 0]) (.cert (chunk + 1))
  | e => s.authNoStep n k e

/-- The chain with which a serial number has passed is forgotten. -/
def State.forgetChain (s : State) (serial : Nat) : State :=
  s.eachStr fun n s => s.modRing n fun r => { r with passed := r.passed.filter fun p => p.1 != serial }

/-- An AUTH_CHALLENGE sent under an epoch has ended. A signature that the key of the certificate shown earlier does not verify is
of another certificate, so the attempt goes back to step 1 (R246: DEDUCED, log 48). -/
def State.authEnd (s : State) (n k epoch : Nat) (e : CmdEnd) : State :=
  match e with
  | .ok sig =>
    let r := s.rnode n k
    match Config.certLeaf r.chain with
    | none => s.authFail n k 5
    | some (leaf, _) =>
      if Config.nodeSig leaf (toLE 16 (s.rd Topology.SERIAL n k) ++ r.nonce ++ toLE 4 epoch ++ [k]) sig then s.authPass n k leaf
      else if s.passedChain (s.rd Topology.SERIAL n k) = some r.chain then
        ((s.forgetChain (s.rd Topology.SERIAL n k)).modNode n k fun r => { r with chain := [] }).queueCmd n k 0x17 [0, 0, 0, 0]
          (.cert 0)
      else s.authFail n k 3
  | e => s.authNoStep n k e

/-- A node that failed is tried again after 10 s (R247). -/
def execAuthRetry (t str node : Nat) (s : State) : Host.Outcome State Fault Refusal :=
  let s := s.at t
  let i := nodeInst str node
  let due := match (s.rnode str node).retryAt with
    | some a => decide (a ≤ s.now)
    | none => false
  .next (if s.hasStr str && s.enginesUp && decide (node < s.rd RingStatus.NODE_COUNT str)
      && decide (s.rd NodeAuth.AUTH_STATE i = 3) && due then
    ((s.wr NodeAuth.AUTH_STATE i 0).modNode str node fun r => { r with retryAt := none }).authNext str
  else s)

/-! ### CLEAR_TRIP (R382, Table 13.6) -/

/-- A cause is gone, or the node that still shows it (0xFFFF for none named). -/
def State.causeStays (s : State) (n cause : Nat) : Option Nat :=
  let ps := (s.est n).pos.filter fun p => decide (p.val ≠ 3)
  let still (b : Bool) : Option Nat := if b then some 0xFFFF else none
  let at_ (f : Pos → Bool) : Option Nat := (ps.find? f).map (·.node)
  let temp (f : Int → Bool) : Option Nat := at_ fun p =>
    let (v, _, assumed) := s.posTemp n p.node p.chan
    !assumed && f v
  match cause with
  | 1 => match (s.nodeList n).find? fun k => s.rdB NodeStatus.CMP_LATCHED (nodeInst n k) with
    | some k => some k
    | none => still (s.rdB StringTerminals.FLOOP_OPEN n)
  | 2 => still (decide (s.prof n 0x3E 2 * 10000 < (s.rdI CoulombStatus.SHUNT_V n).natAbs))
  | 3 =>
    let i := s.rdI CoulombStatus.CURRENT n
    still (decide ((s.prof n 0x34 4 : Int) < i) || decide ((s.prof n 0x38 4 : Int) < -i))
  | 4 => at_ fun p => decide (s.prof n 0x10 2 < p.v)
  | 5 => at_ fun p => decide (p.v < s.prof n 0x12 2)
  | 6 => at_ fun p => (s.boundsOf n p).any fun b =>
      decide (b.2.1 * s.prof n 0x10 2 < b.1) || decide (b.1 < b.2.1 * s.prof n 0x12 2)
  | 7 => temp fun v => decide (toInt 16 (s.prof n 0x24 2) < v)
  | 8 => temp fun v => decide (v < toInt 16 (s.prof n 0x26 2))
  | 9 => still (!s.rdB InsulationStatus.VALID n || decide (s.rd InsulationStatus.R_ISO n < s.prof n 0x40 4))
  | 10 => ((s.est n).pos.find? fun p => decide (2 ≤ p.val)).map (·.node)
  | 11 => still (!(s.mirror n 0 && s.mirror n 1 && s.mirror n 2))
  | 12 => still (!s.mirror n 0)
  | 13 => still (!s.mirror n 1)
  | 14 => still ((List.range 3).any fun c => decide (s.mirror n c = ((s.prot n).coil c).on))
  | 15 => still (!(s.prot n).clearRead)
  | 17 => still (s.beatLate n || match (s.prot n).hbRunFrom with
      | some a => decide (s.now < a + msec 100)
      | none => true)
  | 18 => still ([6, 7, 8].any fun b => bitOf (s.prot n).diag b)
  | _ => none

/-- The entries of a string's latched trip, SECONDARY ones included. -/
def State.latchedEntries (s : State) (n : Nat) : List Nat :=
  (List.range 32).filter fun e => decide (s.rd TripLog.STRING e = n) && !s.rdB TripLog.CLEARED e &&
    (s.rdB TripLog.LATCHED e || s.rdB TripLog.SECONDARY e)

/-- Every cause is checked once no CMP_RELEASE is outstanding: the command is refused, or the entries are marked CLEARED
and stored. -/
def State.tryClear (s : State) (n : Nat) : State :=
  match (s.prot n).clearRid with
  | none => s
  | some rid =>
    if (s.ring n).cmds.any fun c => decide (c.owner = .release) then s
    else
      match (s.prot n).causes.findSome? fun c => s.causeStays n c with
      | some k =>
        (s.modProt n fun p => { p with clearRid := none }).answer rid stCondition
          (condDetail 0x0B0E n k (s.rd RingStatus.TOPO_EPOCH n))
      | none =>
        let mark := ((s.latchedEntries n).map fun e => [cell TripLog.LATCHED e 0, cell TripLog.CLEARED e 1,
          cell TripLog.CLEAR_TIME e (timeVal s.base), cell TripLog.CLEAR_SESSION e rid.sess]).flatten
        (s.modProt n fun p => { p with clearTrips := s.rd ProtectionStatus.TRIPS n }).journal rid mark [] [n]

/-- A CMP_RELEASE has ended: a node that refuses it keeps the cause, and an exchange that failed answers the command
(R231, R382). -/
def State.releaseEnd (s : State) (n k : Nat) (e : CmdEnd) : State :=
  let i := nodeInst n k
  match e with
  | .ok _ =>
    let s := ((s.wr NodeStatus.CMP_OV_MASK i 0).wr NodeStatus.CMP_UV_MASK i 0).wrB NodeStatus.CMP_LATCHED i false
    s.tryClear n
  | .fail 0x0603 => s.tryClear n
  | e =>
    match (s.prot n).clearRid with
    | some rid => (s.modProt n fun p => { p with clearRid := none }).failAnswer rid n k e
    | none => s

/-- CLEAR_TRIP: CMP_RELEASE to every latched node of a FAULT_LOOP trip, then the check of the causes. `readOk` is the
read-back test of every coil's switches run at the clear (Table 13.6, cause 15). -/
def execClearTrip (t : Nat) (r : Req) (p : Bytes) (readOk : Bool) (s : State) : Host.Outcome State Fault Refusal :=
  .next (s.serve t r 0x0042 (p.length == 4) 2 fun rid x s =>
    let n := nth 0 p 0
    guarded [(s.noPresence x.num false, stPresence, []), (!s.hasStr n, stAbsent, []),
      (decide (s.rd ProtectionStatus.LATCH_CAUSE n = 0), refCond 0x0B0F n), s.holdupRef,
      ((s.prot n).clearRid.isSome, stBusy, [])] s fun s =>
      let s := s.modProt n fun q => { q with clearRid := some rid, clearRead := readOk }
      let ks := if (s.prot n).causes.contains 1 then
          (s.nodeList n).filter fun k => s.rdB NodeStatus.CMP_LATCHED (nodeInst n k) && decide (s.rd Topology.REACH n k ≠ 3)
        else []
      ((ks.foldl (fun s k => s.queueCmd n k 0x15 [] .release) s).tryClear n, .later))

/-- The entries of a CLEAR_TRIP are stored: the latch is released and the string is OPEN, unless it has tripped again
since (R382). What has made its trip can make another (R365, R367, R380). -/
def State.finishClear (s : State) (n : Nat) (rid : Rid) (cs : List CellW) : State :=
  let p := s.prot n
  let s := s.modProt n fun q => { q with clearRid := none }
  if s.rd ProtectionStatus.TRIPS n ≠ p.clearTrips then s.answer rid stCondition (condDetail 0x0B0E n)
  else
    let es := s.latchedEntries n
    let s := (s.putCells cs).storeCells cs
    let s := s.modProt n fun q => { q with
      causes := []
      feLatch := []
      tripAt := none
      floopTrip := none
      driveBad := false
      vTimers := q.vTimers.filter fun t => !t.fired
      tTimers := q.tTimers.filter fun t => !t.fired }
    let s : State := { s with nv := { s.nv with causes := s.strs.map fun (x : Str) => x.prot.causes } }
    let s := (s.wr ProtectionStatus.LATCH_CAUSE n 0).wr ProtectionStatus.SEQ_STATE n seqOpen
    let s := es.foldl (fun (s : State) e => s.record 0x0B02 1 [e, rid.sess] n) s
    let s := if s.rd PresenceStatus.TOKEN_STATE = 0 then s else s.useToken rid.sess
    ((s.answer rid stOk []).loopOut).refresh n

end Sys2Proof.Machine
end

