-- ==== Sys2Proof/Machine/Sentinels.lean ====
section
/-! DEFINITION. Sentinels (R344 to R347): the detection of a step, the reading of the frozen windows, and the fits. -/

namespace Sys2Proof.Machine

open Sys2Proof.Obj

/-! ### Steps (R345) -/

/-- SENTINELS_IDLE: the rate in force is below 100 Hz (R344). -/
def State.sentinelsIdle (s : State) (n : Nat) : Bool :=
  decide (s.rd LapStatus.CONFIGURED_RATE n < 100 * 2 ^ s.rd LapStatus.TOTAL_SHIFT n)

/-- BURST_FREEZE goes to every armed node for the window around lap k - 1. -/
def State.freezeAll (s : State) (n seq : Nat) (ks : List Nat) : State :=
  ks.foldl (fun s k => s.queueCmd n k 0x1A (toLE 2 seq ++ [0, 0] ++ toLE 4 (ofInt 32 (-5000000))) .freeze) s

/-- A lap's current is compared with the one before: a step is counted, and freezes the windows or is ignored. -/
def State.stepLap (s : State) (n : Nat) (x : Lap) (prevSeq prevPlain : Nat) : State :=
  let e := s.est n
  let cur := x.cur.map fun c => milli c.1
  let s := s.modEst n fun e =>
    { e with
      curPrev := cur
      step := e.step.map fun st => match cur with
        | some i => if x.plain ≤ st.nomB + msec 110 then { st with laps := st.laps ++ [(x.plain, i)] } else st
        | none => st }
  match cur, e.curPrev with
  | some i, some j =>
    if (i - j).natAbs < s.rd SentinelConfig.STEP_THRESHOLD n then s
    else
      let hold := match e.stepAt with
        | some a => decide (x.plain < a + msec (s.rd SentinelConfig.STEP_HOLDOFF n))
        | none => false
      let s := (s.bump StringState.STEPS_DETECTED n).modEst n fun e => { e with stepAt := some x.plain }
      if hold || e.step.isSome || s.sentinelsIdle n then s.bump StringState.STEPS_IGNORED n
      else
        let ks := (s.nodeList n).filter fun k => (s.rnode n k).armed && decide (s.rd Topology.REACH n k ≠ 3)
        let st : Step := ⟨s.now, prevSeq, prevPlain, x.plain, j, i - j, [(x.plain, i)], ks, [], [], []⟩
        let s := s.modEst n fun e => { e with step := if ks.isEmpty then none else some st }
        s.freezeAll n prevSeq ks
  | _, _ => s

/-- The step being read is changed. -/
def State.modStep (s : State) (n : Nat) (f : Step → Step) : State := s.modEst n fun e => { e with step := e.step.map f }

/-- A node's window cannot be read: its fits are rejected, and an arming that waited for it is made (R344). -/
def State.refuseStep (s : State) (n k : Nat) : State :=
  let due := (s.rnode n k).armDue
  let s := (s.modNode n k fun r => { r with frozen := false }).modStep n fun st => { st with refused := st.refused ++ [k] }
  if due then s.armNode n k else s

/-- BURST_READ of a block. -/
def State.readBlock (s : State) (n k c b : Nat) : State := s.queueCmd n k 0x1B ([c, 0] ++ toLE 2 b) (.burst c b)

/-- A BURST_ARM has ended. -/
def State.armEnd (s : State) (n k : Nat) (e : CmdEnd) : State :=
  match e with
  | .ok _ => s.modNode n k fun r => { r with armed := true, frozen := false }
  | .fail _ => s.recordOpen 6 n k
  | .stale => s

/-- A BURST_FREEZE has ended: the reading of the window begins, or the node has refused. -/
def State.freezeEnd (s : State) (n k : Nat) (e : CmdEnd) : State :=
  match e with
  | .ok _ =>
    let s := s.modNode n k fun r => { r with frozen := true }
    match (maskList (s.sentinelMask n k)).head? with
    | some c => s.readBlock n k c 0
    | none => s.refuseStep n k
  | .fail _ => (s.recordOpen 6 n k).refuseStep n k
  | .stale => s.refuseStep n k

/-- Blocks of a frozen window. -/
def windowBlocks : Nat := 26

/-- A BURST_READ has ended: the next block, the next channel, or the end of the node's window, after which it is armed
again. -/
def State.burstEnd (s : State) (n k c b : Nat) (e : CmdEnd) : State :=
  match e with
  | .ok d =>
    let s := s.modStep n fun st =>
      { st with blocks := st.blocks ++ [(k, c, b, d.drop 4)],
                bled := if field d 1 1 = 0 then st.bled else st.bled ++ [(k, c)] }
    if b + 1 < windowBlocks then s.readBlock n k c (b + 1)
    else
      match (maskList (s.sentinelMask n k)).find? fun x => decide (c < x) with
      | some c' => s.readBlock n k c' 0
      | none => (s.modNode n k fun r => { r with frozen := false }).armNode n k
  | .fail _ => (s.recordOpen 6 n k).refuseStep n k
  | .stale => s.refuseStep n k

/-! ### Fits (R346) -/

/-- The frozen samples of a channel in 100 µV, none where a block is missing. -/
def Step.samples (st : Step) (k c : Nat) : Option (List Nat) :=
  let bs := (List.range windowBlocks).map fun b =>
    (st.blocks.find? fun x => x.1 == k && x.2.1 == c && x.2.2.1 == b).map (·.2.2.2)
  if bs.all (·.isSome) then
    some ((bs.map fun x =>
      let d := x.getD []
      (List.range (d.length / 2)).map fun i => field d (2 * i) 2).flatten.take 12800)
  else none

/-- The instant of frozen sample `j`. -/
def Step.sampleAt (st : Step) (j : Nat) : Nat := st.nomA + 15625 * j - 5000000

/-- The index of the step instant: the sample between the laps at which the summed rise in the sense of the current step
is largest; the first such. -/
def Step.locate (st : Step) (vs : List (List Nat)) : Option Nat :=
  let rise (j : Nat) : Int :=
    let x : Int := sumI (vs.map fun v => ((nth 0 v j : Nat) : Int) - (nth 0 v (j - 1) : Nat))
    if 0 ≤ st.di then x else -x
  let js := (List.range 12800).filter fun j => decide (1 ≤ j) && decide (st.nomA < st.sampleAt j) && decide (st.sampleAt j ≤ st.nomB)
  (js.foldl (fun (b : Option (Nat × Int)) j => match b with
    | some (_, m) => if m < rise j then some (j, rise j) else b
    | none => some (j, rise j)) none).map (·.1)

/-- The mean of the samples whose instants lie from `a` to before `b`, in 100 µV. -/
def Step.meanOf (st : Step) (v : List Nat) (a b : Nat) : Fr :=
  let l := v.zipIdx.filter fun x => decide (a ≤ st.sampleAt x.2) && decide (st.sampleAt x.2 < b)
  frac (sumL (l.map (·.1))) l.length

/-- The determinant of a 3 × 3 system given by its columns. -/
def det3 (a b c : List Fr) : Fr :=
  let x (l : List Fr) (i : Nat) : Fr := nth (fr 0) l i
  let m (p q : List Fr) (i j : Nat) : Fr := ((x p i).mul (x q j)).sub ((x p j).mul (x q i))
  (((x a 0).mul (m b c 1 2)).sub ((x a 1).mul (m b c 0 2))).add ((x a 2).mul (m b c 0 1))

/-- The scales of a fit in 0.1 %: columns of the system and its right side; a system of two unknowns keeps the held slow
scale. None where it is singular. -/
def solveFit (bo bf bs ef es : List Fr) (slow : Bool) (held : Nat) (z : List Fr) : Option (Fr × Fr × Fr) :=
  let col (b e : List Fr) : List Fr := (b.zip e).map fun p => p.1.mul p.2
  let f := col bf ef
  let sl := col bs es
  let k (x : Fr) : Fr := x.mul (fr 1000)
  if slow then
    let d := det3 bo f sl
    if d.n = 0 then none
    else some (k ((det3 z f sl).div d), k ((det3 bo z sl).div d), k ((det3 bo f z).div d))
  else
    let x (l : List Fr) (i : Nat) : Fr := nth (fr 0) l i
    let m (p q : List Fr) : Fr := ((x p 0).mul (x q 1)).sub ((x p 1).mul (x q 0))
    let d := m bo f
    if d.n = 0 then none else some (k ((m z f).div d), k ((m bo z).div d), fr held)

/-- The result of a fit: 0 accepted, 1 to 7 the reason of its rejection, and the scales where it was solved. -/
def State.fit (s : State) (n tb : Nat) (st : Step) (jStep : Option Nat) (p : Pos) : Nat × Option (Fr × Fr × Fr) :=
  let th := s.rd SentinelConfig.STEP_THRESHOLD n
  match (if st.refused.contains p.node then none else st.samples p.node p.chan), jStep with
  | some v, some j =>
    let t := st.sampleAt j
    let ls := (st.laps.filter fun l => decide (t + 1000000 ≤ l.1) && decide (l.1 ≤ t + 105000000)).map (·.2)
    let post := frac (sumI ls) ls.length
    let di := post.sub (fr st.pre)
    let lim := Fr.max (post.abs.mul (frac 5 100)) (frac th 4)
    if di.abs.lt (fr th) then (1, none)
    else if ls.isEmpty || ls.any (fun i => lim.lt ((fr i).sub post).abs) then (2, none)
    else if st.bled.contains (p.node, p.chan) then (3, none)
    else if s.wireMarked n p.node p.chan then (4, none)
    else
      let pc := max 1 (s.rd NodeConfig.PARALLEL_COUNT n)
      let tab (f : Fld) : Fr := (s.tabPar tb f p.tp).div (fr pc)
      let m := s.parOf n tb p.tp (s.entryOf n p)
      let cv := s.curve tb p.tp
      let pre := st.meanOf v (t - 2000000) t
      let eta := etaOf m (regime (s.rd EstimationConfig.HYST_DEADBAND n) (post.mul (fr 1000)))
      let taus : List Nat := [1000000, 10000000, 100000000]
      let z := taus.map fun tau =>
        let dv := ((st.meanOf v (t + tau * 9 / 10) (t + tau * 11 / 10)).sub pre).mul (fr 100000)
        let drift := ((((f32Val (cv.slope p.z)).mul (fr 1000000000)).mul eta).mul (post.mul (frac tau 1000000))).div m.charge
        (dv.sub drift).div di
      let one (x : Fr) : Fr := (fr 1).sub x
      let ef := taus.map fun tau => one (f32Val (decay tau m.tF))
      let es := taus.map fun tau => one (f32Val (decay tau m.tS))
      let rep (x : Fr) : List Fr := [x, x, x]
      let bs := tab ChemistryTable.R_SLOW
      match solveFit (rep (tab ChemistryTable.R_OHM)) (rep (tab ChemistryTable.R_FAST)) (rep bs) ef es (decide (bs.n ≠ 0))
          (s.entryOf n p).rSlow z with
      | none => (6, none)
      | some (a, b, c) =>
        let bad (x : Fr) : Bool := x.lt (fr 500) || (fr 4000).lt x
        if bad a || bad b || bad c then (7, some (a, b, c)) else (0, some (a, b, c))
  | _, _ => (5, none)

/-! ### Learning (R347) -/

/-- A scale moves towards a fit: by R_LEARN_GAIN, at most ±10 %, within 500 to 4,000. -/
def moveScale (gain old : Nat) (fit : Fr) : Nat :=
  let step := (fit.sub (fr old)).mul (frac gain 100)
  let lim := frac old 10
  (clampI 500 4000 ((fr old).add (Fr.max ⟨-lim.n, lim.d⟩ (Fr.min lim step))).round).toNat

/-- The positions of a string in the order of resolved STACK_SLOT and then channel. -/
def State.stackOrder (s : State) (n : Nat) : List Pos :=
  (s.est n).pos.mergeSort fun a b =>
    let x := s.rd NodeStatus.STACK_SLOT (nodeInst n a.node)
    let y := s.rd NodeStatus.STACK_SLOT (nodeInst n b.node)
    decide (x < y) || (x == y && decide (a.chan ≤ b.chan))

/-- The sentinel nearest to place `i` of the stack order, the lower-ordered one on a tie. -/
def nearestSentinel (sent : List Nat) (i : Nat) : Option Nat :=
  sent.foldl (fun b k => match b with
    | some x => if max i k - min i k < max i x - min i x then some k else b
    | none => some k) none

/-- An accepted fit moves its entry and, in the same relation, those of the positions nearest to it. -/
def State.learnR (s : State) (n : Nat) (p : Pos) (fit : Fr × Fr × Fr) : State :=
  match s.entry? p.serial p.chan with
  | none => s
  | some e =>
    if !s.rdB OutputConfig.R_LEARN_EN n || decide (e.str ≠ n) then s
    else
      let g := s.rd OutputConfig.R_LEARN_GAIN n
      let o := moveScale g e.rOhm fit.1
      let f := moveScale g e.rFast fit.2.1
      let sl := moveScale g e.rSlow fit.2.2
      let rel (x new old : Nat) : Nat := (clampI 500 4000 (rne (x * new) old)).toNat
      let order := s.stackOrder n
      let sent := (order.zipIdx.filter fun (q, _) => s.isSentinel n (s.posIdx n q.serial q.chan)
        && (s.entry? q.serial q.chan).isSome).map (·.2)
      let me := (order.findIdx? fun q => q.serial == p.serial && q.chan == p.chan).getD 0
      order.zipIdx.foldl (fun s (q, i) =>
        if nearestSentinel sent i = some me ∧ s.rdB NodeStatus.UNAUTHENTICATED (nodeInst n q.node) = false then
          match s.entry? q.serial q.chan with
          | some a =>
            if a.str = n then
              s.putEntry { a with rOhm := rel a.rOhm o e.rOhm, rFast := rel a.rFast f e.rFast, rSlow := rel a.rSlow sl e.rSlow,
                                  rUpd := satAdd 16 a.rUpd 1 }
            else s
          | none => s
        else s) s

/-- A scale in an event. -/
def scaleVal (x : Fr) : Bytes := toLE 2 (clampI 0 0xFFFF x.round).toNat

/-- The sentinels of a string in use, in entry order. -/
def State.sentinels (s : State) (n : Nat) : List (Nat × Pos) :=
  (List.range 32).filterMap fun e =>
    let i := s.rd SentinelConfig.POSITION n e
    if i = 0xFFFF ∨ s.rdB SentinelConfig.ABSENT n e = true then none else (s.est n).pos[i]?.map fun p => (i, p)

/-- Every frozen window has been read, and the laps of i_post have run: the step is located and each sentinel is fitted. Where the
string has no table any more, its step ends without a fit. -/
def execSentinelFit (t str : Nat) (s : State) : Host.Outcome State Fault Refusal :=
  let s := s.at t
  .next (match (s.est str).step with
    | none => s
    | some st =>
      let read (k : Nat) : Bool := st.refused.contains k ||
        (maskList (s.sentinelMask str k)).all fun c => (st.samples k c).isSome
      if s.hasStr str && s.enginesUp && st.nodes.all read && decide (st.nomB + msec 105 ≤ s.plain) then
        let tb := s.rd EstimationConfig.CHEMISTRY str
        let sents := if s.filterOn str then (s.sentinels str).filter fun x => st.nodes.contains x.2.node else []
        let vs := sents.filterMap fun x => if st.refused.contains x.2.node then none else st.samples x.2.node x.2.chan
        let j := st.locate vs
        let s := sents.foldl (fun s (i, p) =>
          let (res, sc) := s.fit str tb st j p
          let (v, s) := match sc with
            | some (a, b, c) => (scaleVal a ++ scaleVal b ++ scaleVal c, s)
            | none =>
              let (x, s) := s.fresh 48
              (toLE 6 x, s)
          let s := s.record 0x0A05 1 (toLE 2 i ++ [res] ++ v) str 0xFFFF (s.rd RingStatus.TOPO_EPOCH str)
          match res, sc with
          | 0, some f => ((s.bump StringState.FITS_ACCEPTED str).learnR str p f).outliers str
          | _, _ => s.bump StringState.FITS_REJECTED str) s
        s.modEst str fun e => { e with step := none }
      else s)

end Sys2Proof.Machine
end

