-- ==== Sys2Proof/Machine/NodeEnd.lean ====
section
/-! DEFINITION. How every node exchange ends: the copies of node firmware (R530, R531), the transport sleep (R249), and
the owner each outcome goes to. -/

namespace Sys2Proof.Machine

open Sys2Proof.Obj

/-! ### The end of an opening (R243, R377) -/

/-- The mirror contacts of an opening string are judged (R377 step 5, R373, R541). -/
def execFbTime (t str : Nat) (s : State) : Host.Outcome State Fault Refusal :=
  let s := s.at t
  .next (if s.hasStr str = true ∧ s.running = true ∧ s.power.opened = false then
    let s := ((((s.judgeCoil str 0).judgeCoil str 1).judgeCoil str 2).openingDone str).debugSettle
    if s.seqState str = seqOpen then (s.wireTests str).wireRegs str else s
  else s)

/-! ### Node firmware (Table 20.5) -/

/-- The copy to a node has failed, for a cause of event 0x1205; NODE_COPY_FAILED concludes it. -/
def State.copyFail (s : State) (n k cause : Nat) : State :=
  s.modNode n k fun r => { r with fw := 8, fwCause := cause }

/-- A node firmware command has ended. -/
def State.fwEnd (s : State) (n k code : Nat) (e : CmdEnd) : State :=
  let r := s.rnode n k
  let cause := if e = .fail 0x0603 then 2 else 1
  let go (s : State) : State := if (s.ring n).copyStop then s.bootNode n k 0 else s.copyChunk n k
  match code, e with
  | 0x61, .ok _ => go s
  | 0x62, .ok _ =>
    let off := min s.stagedSize (r.fwOff + 1012)
    go ((s.modNode n k fun x => { x with fwOff := off }).wr NodeUpdate.COPY_BYTES n off)
  | 0x63, .ok d =>
    let v := field d 0 1
    if (s.ring n).copyStop then s.bootNode n k 0
    else if v = 1 then s.bootNode n k 1 else s.copyFail n k (if v = 2 then 3 else 4)
  | 0x64, .ok _ =>
    if r.fw = 6 then
      let s := s.modNode n k fun x => { x with fw := 7, fwCause := 0 }
      match s.portOf n k with
      | some port => s.sendBaton n port 6 k 0
          (batonHeader 6 port 0 k k (s.rd RingStatus.TOPO_EPOCH n) 0 0 0) 36 (s.ringClosed n)
      | none => s
    else
      let s := s.modNode n k fun x => { x with fw := 0 }
      let s := if s.rd NodeUpdate.COPY_SERIAL n = s.rd NodeStatus.SERIAL (nodeInst n k) then
          (s.wr NodeUpdate.COPY_SERIAL n 0).wr NodeUpdate.COPY_BYTES n 0 else s
      ((s.copyNext n).updateRegs n).authNext n
  | 0x60, _ => match e with
    | .fail _ => s.recordOpen 6 n k
    | _ => s
  | _, .stale => s.modNode n k fun x => { x with fw := 0 }
  | _, _ => if r.fw = 5 then ((s.modNode n k fun x => { x with fw := 0 }).recordOpen 6 n k).authNext n else s.copyFail n k cause

/-- A node copy completes: the node runs the new bank and its version has been read (R530). -/
def execNodeUpdated (t str node : Nat) (s : State) : Host.Outcome State Fault Refusal :=
  let s := s.at t
  let r := s.rnode str node
  .next (if s.hasStr str && s.running && decide (node < s.rd RingStatus.NODE_COUNT str) && decide (r.fw = 7)
      && decide (r.fwCause = 1) then
    let ser := s.rd NodeStatus.SERIAL (nodeInst str node)
    let v := s.nodeVersion str node
    let s := s.modNode str node fun x => { x with fw := 0 }
    let s := s.modRing str fun x => { x with
      copied := (ser, r.fwOld, ofLE s.stagedDigest) :: x.copied.filter (fun c => c.1 != ser)
      failedCopies := x.failedCopies.filter (· != ser) }
    let s := (s.bump NodeUpdate.COPIES_DONE str).stamp NodeUpdate.LAST_COPY_TIME str
    let s := (s.wr NodeUpdate.COPY_SERIAL str 0).wr NodeUpdate.COPY_BYTES str 0
    let s := s.record 0x1204 1 (toLE 4 v) str node (s.rd RingStatus.TOPO_EPOCH str)
    ((s.copyNext str).updateRegs str).authNext str
  else s)

/-- A node copy fails: the node is booted into its old bank when its version is compatible, else held (R531). -/
def execNodeCopyFailed (t str node : Nat) (s : State) : Host.Outcome State Fault Refusal :=
  let s := s.at t
  let r := s.rnode str node
  .next (if s.hasStr str && s.running && decide (node < s.rd RingStatus.NODE_COUNT str) && decide (r.fw = 8) then
    let ser := s.rd NodeStatus.SERIAL (nodeInst str node)
    let s := if s.incompatible str node then
        (s.modNode str node fun x => { x with fw := 4 }).queueCmd str node 0x60 [] .firmware
      else s.bootNode str node 0
    let s := s.modRing str fun x => { x with failedCopies := ser :: x.failedCopies.filter (· != ser) }
    let s := (s.bump NodeUpdate.COPIES_FAILED str).stamp NodeUpdate.LAST_COPY_TIME str
    let s := (s.wr NodeUpdate.COPY_SERIAL str 0).wr NodeUpdate.COPY_BYTES str 0
    let s := s.record 0x1205 2 [r.fwCause] str node (s.rd RingStatus.TOPO_EPOCH str)
    (s.copyNext str).updateRegs str
  else s)

/-! ### Transport sleep (R106, R249) -/

/-- TRANSPORT_SLEEP goes to the next node of the try, one node at a time; a node that no port reaches cannot answer. -/
def State.nextSleep (s : State) : State :=
  let rec go : List (Nat × Nat) → State → State
    | [], s => { s with power := { s.power with transLeft := [], transAt := s.now } }
    | (n, k) :: rest, s =>
      if (s.portOf n k).isNone then go rest s
      else ({ s with power := { s.power with transLeft := rest } }).queueCmd n k 0x1C [] .sleep
  go s.power.transLeft s

/-- A TRANSPORT_SLEEP has ended. -/
def State.sleepEnd (s : State) (n k : Nat) (e : CmdEnd) : State :=
  if s.power.transRid.isNone then s
  else
    let s : State := match e with
      | .ok _ => { s with power := { s.power with transAnswers := (n, k) :: s.power.transAnswers } }
      | _ => s
    s.nextSleep

/-! ### Writes that need node commands (R231) -/

/-- The place of CLOSE_REQUEST (0) or START_REQUEST (1) of a string. -/
def nodeReqKey (k : Nat × Nat) : Key := (if k.2 = 0 then RingConfig.CLOSE_REQUEST else NodeUpdate.START_REQUEST).key k.1 0

/-- The exchanges of such a write are not over: it waits for a lap, or a command of it is queued or outstanding. -/
def State.nodeReqOpen (s : State) (k : Nat × Nat) : Bool :=
  (s.str k.1).touchWait.any (fun c => decide (c.key = nodeReqKey k)) ||
    (s.ring k.1).cmds.any fun c => decide (c.owner = if k.2 = 0 then .closeRing else .restart)

/-- An exchange of a write of field `f` of string `n` has ended: a failed one answers the writes that wait for it, and the last
one completes them. -/
def State.nodeReqEnd (s : State) (n f node : Nat) (e : CmdEnd) : State :=
  let k := (n, f)
  let hit := s.mbx.nodeReqs.filter fun q => q.left.contains k
  match e with
  | .ok _ =>
    if hit.isEmpty || s.nodeReqOpen k then s
    else
      let cut (q : NodeReq) : NodeReq := { q with left := q.left.filter (· != k) }
      let rest := s.mbx.nodeReqs.map cut
      let s : State := { s with mbx := { s.mbx with nodeReqs := rest.filter fun q => !q.left.isEmpty } }
      ((hit.map cut).filter fun q => q.left.isEmpty).foldl (fun (s : State) q => s.answer q.rid stOk []) s
  | e =>
    let s : State := { s with mbx := { s.mbx with nodeReqs := s.mbx.nodeReqs.filter fun q => !q.left.contains k } }
    hit.foldl (fun (s : State) q => s.failAnswer q.rid n node e) s

/-! ### Outcomes (R229 to R231) -/

/-- SET_DELAY has been executed: the delays held at the node, all ones keeping a held one (R185). -/
def State.delayEnd (s : State) (n k : Nat) (args : Bytes) (e : CmdEnd) : State :=
  match e with
  | .ok _ =>
    let a := field args 0 4
    let b := field args 4 4
    let s := if a = 0xFFFFFFFF then s else (s.wr Topology.DELAY_A n a k).bump RingCounters.DELAY_UPDATES n
    if b = 0xFFFFFFFF then s else (s.wr Topology.DELAY_B n b k).bump RingCounters.DELAY_UPDATES n
  | .fail _ => s.recordOpen 4 n k
  | .stale => s

/-- The outcome of a node command goes to its owner. -/
def State.ownerEnd (s : State) (n : Nat) (c : NodeCmd) (e : CmdEnd) : State :=
  let k := c.node
  match c.owner with
  | .setDelay => s.delayEnd n k c.args e
  | .closeRing =>
    let asked := s.mbx.nodeReqs.any fun q => q.left.contains (n, 0)
    let s := match e with
      | .ok _ => s
      | .fail _ =>
        let s := s.modRing n fun r => { r with closeLap := none }
        if asked then s else s.recordOpen 4 n k
      | .stale => s.modRing n fun r => { r with closeLap := none }
    s.nodeReqEnd n 0 k e
  | .restart => s.nodeReqEnd n 1 k e
  | .thresholds tries => s.thresholdsEnd n k tries c.args e
  | .status => s.statusEnd n k e
  | .balance => s.balanceEnd n k c.code c.args e
  | .wire w req => s.wireEnd n k w req e
  | .release => s.releaseEnd n k e
  | .cmpTest => s.cmpTestEnd n k e
  | .cert chunk => s.certEnd n k chunk e
  | .auth => s.authEnd n k c.epoch e
  | .arm => s.armEnd n k e
  | .freeze => s.freezeEnd n k e
  | .burst ch b => s.burstEnd n k ch b e
  | .sleep => s.sleepEnd n k e
  | .firmware => s.fwEnd n k c.code e

/-- The first command of a node that has been sent is taken off its string's queue. -/
def dropSent (node : Nat) : List NodeCmd → List NodeCmd
  | [] => []
  | c :: cs => if c.node = node ∧ c.phase ≠ 0 then cs else c :: dropSent node cs

/-- The outstanding command of a node. -/
def State.sentCmd (s : State) (n k : Nat) : Option NodeCmd :=
  (s.ring n).cmds.find? fun c => decide (c.node = k) && decide (c.phase ≠ 0)

/-- An exchange with a node is over. -/
def State.finishCmd (s : State) (n : Nat) (c : NodeCmd) (e : CmdEnd) : State :=
  (((s.modRing n fun r => { r with cmds := dropSent c.node r.cmds }).ownerEnd n c e).pump n).resumeJobs n

end Sys2Proof.Machine
end

