-- ==== Sys2Proof/Machine/StringConfig.lean ====
section
/-! DEFINITION. What a write to the objects of a string brings about when it takes effect, at once or at a lap instant (R161,
R202, R251, R282, R293, R321, R371). -/

namespace Sys2Proof.Machine

open Sys2Proof.Obj

/-! ### Configuration that applies at a lap (R161, R202, R251) -/

/-- The configured rate and the shifts of a string are derived afresh; the sprint of a TMX-S2 is held while a relay handover
is under way (R101, R200, R552). -/
def State.rateRefresh (s : State) (n : Nat) : State :=
  let s := s.sprintRefresh n (s.upd.relay && decide (s.nv.variant = 2))
  s.wr StringPower.BACKUP_SHIFT n (if s.power.supply = .backup then shiftTo 1000 16 (s.confRate n) else 0)

/-- The resolved masks and places of NODE_CONFIG have been written: a change of fitted channels opens a new epoch, a change
of thermistors alone is assigned under the epoch in force (R190, R251). -/
def State.nodeConfigured (s : State) (n : Nat) : State :=
  let ks := s.nodeList n
  let ch (k : Nat) : Nat := s.rd Topology.CHANNELS n k
  let s := ks.foldl (fun s k => s.wr NodeStatus.STACK_SLOT (nodeInst n k) (s.stackSlot n k)) s
  if ks.any fun k => decide (s.chanMask n k (ch k) ≠ s.rd NodeStatus.CHANNEL_MASK (nodeInst n k)) then s.renumber n
  else
    let th := ks.filter fun k => decide (s.thermMask n k (ch k) ≠ s.rd NodeStatus.THERM_MASK (nodeInst n k))
    let s := th.foldl (fun s k => s.wr NodeStatus.THERM_MASK (nodeInst n k) (s.thermMask n k (ch k))) s
    let out := th.filter fun k => decide (s.rd Topology.REACH n k = 3)
    let s := out.foldl (fun (s : State) k => s.modNode n k fun x => { x with maskDue := true }) s
    s.reassign n (th.filter fun k => decide (s.rd Topology.REACH n k ≠ 3))

/-- The sentinel entries are presented at the positions their serial numbers and channels now have (R344). -/
def State.sentinelsMoved (s : State) (n : Nat) : State :=
  let s := (List.range 32).foldl (fun s e =>
    if s.rd SentinelConfig.CHANNEL n e = 0xFF then s
    else
      match (s.est n).pos.findIdx? fun p => p.serial == s.rd SentinelConfig.SERIAL n e && p.chan == s.rd SentinelConfig.CHANNEL n e with
      | some i => (s.wr SentinelConfig.POSITION n i e).wrB SentinelConfig.ABSENT n false e
      | none => (s.wr SentinelConfig.POSITION n 0xFFFF e).wrB SentinelConfig.ABSENT n true e) s
  let used := (List.range 32).filter fun e => decide (s.rd SentinelConfig.POSITION n e ≠ 0xFFFF)
  s.wr SentinelConfig.SENTINEL_COUNT n used.length

/-- SENTINEL_CONFIG has been written, with the serial number and channel of each position: its entries are presented at their
positions, and the nodes that the change touches are armed (R326, R344). `o` is the state before. -/
def State.sentinelsSet (s o : State) (n : Nat) : State :=
  let s := s.sentinelsMoved n
  let ks := (s.nodeList n).filter fun k => decide (o.sentinelMask n k ≠ s.sentinelMask n k)
  ks.foldl (fun s k => s.armNode n k) s

/-- What a change of objects configuring a string brings about; `o` is the state before. Its entries are compared with a new parallel
count at once, with a new table at the first lap under it (R348). -/
def State.configured (s o : State) (n : Nat) (objs : List Nat) : State :=
  let s := if objs.contains 0x0501 then s.rateRefresh n else s
  let s := if objs.contains 0x0601 then s.nodeConfigured n else s
  let s := if objs.contains 0x0903 then s.sentinelsSet o n else s
  if objs.contains 0x0601 then s.compareEntries n else s

/-! ### Front-end configuration (R282, R293) -/

/-- The settling time of a reference after a switch (Table 10.4). -/
def settleTime (ref : Nat) : Nat := usec (if ref = 0 then 500 else if ref = 1 then 200 else 100)

/-- A reference comes into force and begins to settle (R282). -/
def State.refSwitch (s : State) (n ref : Nat) : State :=
  let s := (s.wr SequenceResults.REF_IN_FORCE n ref).wrB SequenceResults.REF_SETTLED n false
  s.modFe n fun f => { f with refIn := ref, refDue := some (s.now + settleTime ref) }

/-- Calibration coefficients of string `n` have been stored: slot 4 is extended, and event 0x0801 recorded (R119, R288,
R293). -/
def State.calStored (s : State) (n k : Nat) : State :=
  let off := toLE 4 (s.rd Calibration.CAL_OFFSET n k)
  let gain := toLE 4 (s.rd Calibration.CAL_GAIN n k)
  let s := s.stamp Calibration.LAST_CAL_TIME n
  let s := if k = 0 then s.wrB CoulombStatus.SYSTEM_CAL n true else s
  (s.extendSlot 4 ([n, k] ++ off ++ gain)).record 0x0801 1 (k :: (off ++ gain)) n

/-- The calibration entries among register values, ascending (R119). -/
def calEntries (cs : List CellW) : List Nat :=
  let es := (cs.filter fun c => decide (c.key.obj = 0x0805) && decide (128 ≤ c.key.pos)).map fun c => (c.key.pos - 128) / 64
  (List.range Calibration.CAL_OFFSET.count).filter es.contains

/-- Objects of the front-end have been written: event 0x0805 for a new SHUNT_R, the switch of the reference, the roles of the
insulation monitors, and the calibration entries. `o` is the state before. -/
def State.frontWritten (s o : State) (n : Nat) (cs : List CellW) : State :=
  let a := o.rd CoulombConfig.SHUNT_R n
  let b := s.rd CoulombConfig.SHUNT_R n
  let s := if a = b then s else (s.record 0x0805 1 (toLE 4 a ++ toLE 4 b) n).refresh n
  let r := s.rd SequenceConfig.REF_SEL n
  let s := if o.rd SequenceConfig.REF_SEL n = r then s else s.refSwitch n r
  let s := if o.rd SequenceConfig.IMD_BUS_ROLE n = s.rd SequenceConfig.IMD_BUS_ROLE n then s else s.imdSync
  (calEntries cs).foldl (fun s k => s.calStored n k) s

/-! ### Message objects in use (R406, R445, R485) -/

/-- Dispatch and the HVAC request hold the objects their fields name; an object that another function holds stays with it
(R406, R445, R485). -/
def State.ownerRefresh (s : State) : State :=
  let want (o : Nat) : Nat :=
    if o = s.rd HvacConfig.HVAC_OBJECT ∧ s.canFit o 1 (fun l => l == 16) = true then 1
    else if s.strList.any (fun n => decide (s.rd StringDispatch.PCS_OBJECT n = o)) ∧ s.canFit o 2 (fun l => l == 16) = true then 2
    else 0
  (List.range 256).foldl (fun (s : State) k =>
    let o := 128 + k
    if s.rd CanObject.OWNER o = 3 then s else s.wr CanObject.OWNER o (want o)) s

/-! ### Writes to the objects of a string -/

/-- The register values `cs` of string `n` have come into force; `o` is the state before. -/
def State.stringWritten (s o : State) (n : Nat) (cs : List CellW) : State :=
  let objs := cs.map fun c => c.key.obj
  let s := (s.configured o n objs).frontWritten o n cs
  let s := if objs.contains 0x0B03 then s.refresh n else s
  let s := if objs.contains 0x0E03 then s.ownerRefresh else s
  if objs.contains 0x1202 then s.updateRegs n else s

/-- The integrator profile comes into force on a string, and every node's thresholds are written again (R371). -/
def State.profileNow (s : State) (n : Nat) (b : Bytes) : State := ((s.setProfile n b).thresholdsAll n).refresh n

/-- The next LAP_SEQ (R204). -/
def nextSeq (q : Nat) : Nat := if 65535 ≤ q then 1 else q + 1

/-- CLOSE_RING goes to both turning nodes, naming a lap two ahead of the last (R196). -/
def State.closeRing (s : State) (n : Nat) : State :=
  let seq := nextSeq (nextSeq (s.laps n).seq)
  let a := s.rd RingStatus.SEG_A_NODES n
  let b := s.rd RingStatus.SEG_B_NODES n
  let cnt := s.rd RingStatus.NODE_COUNT n
  let args := toLE 2 seq ++ [0, 0]
  let s := s.modRing n fun r => { r with closeLap := some seq }
  let s := if a = 0 then s else s.queueCmd n (a - 1) 3 args .closeRing
  if b = 0 then s else s.queueCmd n (cnt - b) 3 args .closeRing

/-- START_REQUEST: NODE_FW_RESTART to every node whose copy would be eligible (R532). -/
def State.restartNodes (s : State) (n : Nat) : State :=
  ((s.nodeList n).filter fun k => s.copyOk n k).foldl (fun (s : State) k => s.queueCmd n k 0x65 [] .restart) s

/-- CLOSE_REQUEST of a string: the ring is closed at a coming lap, unless that is under way (R196). -/
def State.closeRequested (s : State) (n : Nat) : State := if (s.ring n).closeLap.isSome then s else s.closeRing n

/-- A W1C or WO touch that waited for a string's lap acts. -/
def State.touchDue (s : State) (n : Nat) (c : CellW) : State :=
  if c.key = nodeReqKey (n, 0) then if c.val = 0 then s else s.closeRequested n
  else if c.key = nodeReqKey (n, 1) then if c.val = 0 then s else s.restartNodes n
  else
    let old := (s.objs.get? c.key).getD c.reset
    s.putCells [⟨c.key, c.reset, old - Nat.land old c.val⟩]

/-- What waits for a string's lap comes into force (R161, R371). -/
def State.applyWait (s : State) (n : Nat) : State :=
  let s := match (s.str n).profWait with
    | some b => s.profileNow n b
    | none => s
  let cs := (s.str n).cfgWait
  let ts := (s.str n).touchWait
  let s := s.modStr n fun x => { x with touchWait := [] }
  let s := if cs.isEmpty then s
    else (((s.modStr n fun x => { x with cfgWait := [] }).putCells cs).keepOld s n cs (s.str n).waitAt).stringWritten s n cs
  let s := ts.foldl (fun (s : State) c => s.touchDue n c) s
  if ts.isEmpty then s else ((s.nodeReqEnd n 0 0 (.ok [])).nodeReqEnd n 1 0 (.ok []))

/-- The requests of the epoch before are answered once the new one holds (R188). -/
def State.staleDue (s : State) (n : Nat) : State :=
  let r := s.ring n
  if r.stale.isEmpty || decide (s.base < r.epochFrom) then s
  else r.stale.foldl (fun (s : State) q => s.answer q stEpochStale (toLE 4 (s.rd RingStatus.TOPO_EPOCH n)))
    (s.modRing n fun r => { r with stale := [] })

/-- What waits for a string's lap comes into force at the first lap instant after its commit (R161, R188, R202). -/
def State.waitDue (s : State) (n : Nat) : State :=
  let s := s.staleDue n
  let x := s.str n
  if x.profWait.isNone && x.cfgWait.isEmpty && x.touchWait.isEmpty then s
  else match (s.laps n).lastPlain with
  | some a => if x.waitAt < a ∧ a ≤ s.plain then s.applyWait n else s
  | none => s

end Sys2Proof.Machine
end

