-- ==== Sys2Proof/Machine/LapEngine.lean ====
section
/-! DEFINITION. The lap engine (chapter 7): firing a lap, putting a new epoch in force at it, collecting its records, and
handing its data on; with the checks of the filter's lanes (R311 to R315). -/

namespace Sys2Proof.Machine

open Sys2Proof.Obj

/-! ### A new topology epoch (R187, R188, R218, R322) -/

/-- The results of every lap whose corrections are made are derived. -/
def State.buildAll (s : State) (n : Nat) : State :=
  ((s.laps n).cur.filter (·.handed.isSome)).foldl (fun s x => s.underOld n x.seq fun s => s.buildResult n x.seq) s

/-- The number under which a node of a new topology stands in the one in force, where it is the same node. -/
def State.oldNumber (s : State) (n : Nat) (x : TNode) : Option Nat :=
  if x.number < s.rd RingStatus.NODE_COUNT n ∧ s.rd Topology.SERIAL n x.number = x.serial then some x.number else none

/-- One instance of an object with nothing listed. -/
def Store.clearInst (s : Store) (obj inst : Nat) : Store := s.filter fun c => !(c.1.obj == obj && c.1.inst == inst)

/-- One instance of an object copied from another store to another instance. -/
def Store.copyInst (from_ into : Store) (obj a b : Nat) : Store :=
  (from_.filter fun c => c.1.obj == obj && c.1.inst == a).foldl (fun st c => st.ins { c.1 with inst := b } c.2) into

/-- A node takes its number: its registers, kept from its old number or fresh. `o` is the state before. -/
def State.placeNode (o : State) (n : Nat) (j : Job) (i : Nat) (x : TNode) (pos : Option Nat) (s : State) : State :=
  let src := o.oldNumber n x
  let a := nodeInst n i
  let keepO (f : Fld) : Nat := match src with
    | some k => o.rd f n k
    | none => 0
  let objs := match src with
    | some k => (o.objs.copyInst s.objs 0x0602 (nodeInst n k) a)
    | none => s.objs
  let objs := match src with
    | some k => o.objs.copyInst objs 0x0605 (nodeInst n k) a
    | none => objs
  let s := { s with objs := objs }
  let old := if i < o.rd RingStatus.NODE_COUNT n then o.rd Topology.SERIAL n i
    else (((o.ring n).prevSerial.find? fun p => p.1 == i).map (·.2)).getD 0
  let s := if src = some i then s else s.wr NodeAuth.PREV_SERIAL a old
  let s := if src.isSome then s else s.wrB NodeStatus.UNAUTHENTICATED a true
  let first := pos.getD 0xFFFF
  let s := (s.wr NodeStatus.SERIAL a x.serial).wr NodeStatus.CHANNELS a x.channels
  let s := (s.wr NodeStatus.HW_ISSUE a x.hw).wr NodeStatus.FW_MAJOR a x.fwMajor
  let s := (s.wr NodeStatus.FW_MINOR a x.fwMinor).wr NodeStatus.FW_PATCH a x.fwPatch
  let s := (s.wr NodeStatus.FIRST_POSITION a first).wr NodeStatus.CHANNEL_MASK a (o.chanMask n i x.channels)
  let s := (s.wr NodeStatus.THERM_MASK a (o.thermMask n i x.channels)).wr NodeStatus.STACK_SLOT a (o.stackSlot n i)
  let s := (s.wrB NodeStatus.CMD_SEQ_FAULT a false).wr NodeAuth.SERIAL a x.serial
  let s := (s.wr NodeStatus.BLEED_MASK a 0).wr NodeStatus.BLEED_REMAIN a 0
  let s := (s.wr Topology.SERIAL n x.serial i).wr Topology.FIRST_POSITION n first i
  let s := (s.wr Topology.CHANNELS n x.channels i).wrB Topology.UNAUTHENTICATED n (s.rdB NodeStatus.UNAUTHENTICATED a) i
  let s := s.wrB Topology.NODE_SILENT n (s.rdB NodeStatus.NODE_SILENT a) i
  let s := s.wr Topology.TURNING n (if j.full then x.flags / 2 % 2 else keepO Topology.TURNING) i
  let s := s.wr Topology.LINK_READY n (if j.full then x.flags % 2 else keepO Topology.LINK_READY) i
  let s := (s.wrB Topology.CMD_SEQ_FAULT n false i).wr Topology.CMD_COUNT n 0 i
  let delay (l : List Nat) (f : Fld) : Nat :=
    let d := jobDelay l
    if d = 0xFFFFFFFF ∧ src.isSome then keepO f else d
  (s.wr Topology.DELAY_A n (delay x.probesA Topology.DELAY_A) i).wr Topology.DELAY_B n (delay x.probesB Topology.DELAY_B) i

/-- What the string die keeps of a node under its new number; the wires keep their states while the serial at the number is
unchanged (R239). -/
def State.placeRNode (o : State) (n i : Nat) (x : TNode) : RNode :=
  let same := decide (i < o.rd RingStatus.NODE_COUNT n) && decide (o.rd Topology.SERIAL n i = x.serial)
  let wires := if same then (o.rnode n i).wires else []
  match o.oldNumber n x with
  | some k =>
    let r := o.rnode n k
    { r with missed := 0, sign := true, called := false, threshDue := false, maskDue := false, probesA := [], probesB := [], anchor := none
             ivals := [], bleed := 0, bleedAt := 0, frozen := false, wires := wires }
  | none => { RNode.init with cmpTested := o.now, fw := if x.number = 0xFF then 1 else 0, wires := wires }

/-- The positions of a numbering: a position whose node serial number and channel are unchanged keeps what it holds (R218,
R322); the others are seeded. -/
def State.placePositions (o : State) (n : Nat) (nums : List (TNode × Option Nat)) : List Pos :=
  let due := if (o.laps n).lastNom.isNone then 1 else 10
  (nums.zipIdx.map fun (c, i) =>
    match c.2 with
    | none => []
    | some _ => (maskList (o.chanMask n i c.1.channels)).map fun ch =>
        match (o.est n).pos.find? fun p => p.serial == c.1.serial && p.chan == ch with
        | some p => { p with node := i }
        | none => { Pos.init i ch c.1.serial o.plain with seedDue := due }).flatten

/-- Timers of positions move with them. -/
def moveTimers (old new : List Pos) (ts : List Timer) : List Timer :=
  ts.filterMap fun t =>
    match old[t.pos]? with
    | none => none
    | some p => (new.findIdx? fun q => q.serial == p.serial && q.chan == p.chan).map fun i => { t with pos := i }

/-- Commands accepted under the epoch before and not yet sent end stale, their requests at the sample instant of the new one's first
lap; automatic wire tests are asked for again (R188). -/
def State.staleCmds (s : State) (n : Nat) : State :=
  let cs := (s.ring n).cmds.filter (·.phase = 0)
  let s := s.modRing n fun r => { r with cmds := r.cmds.filter (·.phase ≠ 0) }
  cs.foldl (fun s c =>
    match c.owner with
    | .wire w none => s.modWire n c.node w fun y => { y with want := true }
    | .wire w (some i) => s.wireEnd n c.node w (some i) .stale
    | .release => s.releaseEnd n c.node .stale
    | .freeze => s.refuseStep n c.node
    | .burst _ _ => s.refuseStep n c.node
    | .sleep => s.sleepEnd n c.node .stale
    | .closeRing => (s.modRing n fun r => { r with closeLap := none }).nodeReqEnd n 0 c.node .stale
    | .restart => s.nodeReqEnd n 1 c.node .stale
    | _ => s) s

/-- The segments under a new numbering: those the enumeration found, unless the ring has broken since. -/
def State.newSegments (s : State) (n : Nat) (j : Job) (cnt : Nat) : Nat × Nat × Nat :=
  let st := s.rd RingStatus.RING_STATE n
  if j.closed && (decide (st = 0) || decide (st = 1)) then (1, cnt, 0)
  else if j.closed then
    let a := min (s.rd RingStatus.SEG_A_NODES n) cnt
    let b := min (s.rd RingStatus.SEG_B_NODES n) (cnt - a)
    (segState a b, a, b)
  else
    let a := min j.segA cnt
    let b := min j.segB (cnt - a)
    if cnt = 0 ∧ st = 1 then (1, 0, 0) else (segState a b, a, b)

/-- A new topology is put in force at the first lap under it, `nom` (R187 step 4, R188). -/
def State.applyEpoch (s : State) (n : Nat) (j : Job) (nom : Nat) : State :=
  let s := (((s.buildAll n).staleDue n).modRing n fun r => { r with epochFrom := nom }).staleCmds n
  let o := s
  let first := decide (o.rd RingStatus.TOPO_EPOCH n = 0)
  let (nums, total, ovr) := o.numbering n j.nodes
  let cnt := nums.length
  let oldCnt := o.rd RingStatus.NODE_COUNT n
  let objs := (List.range (max cnt oldCnt)).foldl (fun (a : Store) i =>
    (a.clearInst 0x0602 (nodeInst n i)).clearInst 0x0605 (nodeInst n i)) (o.objs.clearInst 0x0403 n)
  let s := { s with objs := objs }
  let s := nums.zipIdx.foldl (fun s (c, i) => o.placeNode n j i c.1 c.2 s) s
  let s := (s.wr RingStatus.NODE_COUNT n cnt).wr RingStatus.POSITION_COUNT n total
  let s := (s.wr Topology.NODE_COUNT n cnt).wr Topology.POSITION_COUNT n total
  let s := (s.wr RingStatus.TOPO_EPOCH n j.epoch).wr Topology.TOPO_EPOCH n j.epoch
  let s := (s.wr RingStatus.EPOCH_TIME n (timeVal nom)).wr Topology.EPOCH_TIME n (timeVal nom)
  let s := s.wrB RingStatus.TOPO_OVERSIZE n ovr
  let s := s.wr WireStatus.TOPO_EPOCH n j.epoch
  let prev := (List.range oldCnt).map fun k => (k, o.rd Topology.SERIAL n k)
  let rn := nums.zipIdx.map fun (c, i) => o.placeRNode n i c.1
  let s := s.modRing n fun r =>
    { r with job := none, wantAssign := (List.range cnt).filter fun i => match j.nodes[i]? with
               | some x => (match x.mask with
                 | some m => decide (m ≠ o.thermMask n i x.channels)
                 | none => false)
               | none => false
             oldEpoch := o.rd RingStatus.TOPO_EPOCH n, epochFrom := nom, nodes := rn, roll := if r.roll < cnt then r.roll else 0,
             prevSerial := prev ++ r.prevSerial.filter fun p => oldCnt ≤ p.1 }
  let ps := o.placePositions n nums
  let s := s.modEst n fun e => { e with pos := ps }
  let s := s.modProt n fun p =>
    { p with vTimers := moveTimers (o.est n).pos ps p.vTimers, tTimers := moveTimers (o.est n).pos ps p.tTimers }
  let (st, a, b) := o.newSegments n j cnt
  let un := cnt - a - b
  let same := decide (o.rd RingStatus.RING_STATE n = st) && decide (o.rd RingStatus.SEG_A_NODES n = a) &&
    decide (o.rd RingStatus.SEG_B_NODES n = b) && decide (o.rd RingStatus.UNREACHABLE_NODES n = un)
  let s := if same then
      (List.range cnt).foldl (fun s k => s.wr Topology.REACH n (if k < a then 1 else if cnt ≤ k + b then 2 else 3) k) s
    else s.setSegments n st a b 5 0xFFFF
  let lost := (nums.zipIdx.filter fun (c, _) => c.1.lost).map (·.2)
  let s := lost.foldl (fun s k => s.wr Topology.REACH n 3 k) s
  let s := s.wr RingStatus.UNREACHABLE_NODES n ((s.nodeList n).filter fun k => decide (s.rd Topology.REACH n k = 3)).length
  let s := (s.wrB RingStatus.ENUM_ACTIVE n false).setDiag n 8 ovr
  let s := if first then s else s.bump RingCounters.EPOCH_CHANGES n
  let s := s.unuseEntries n (nums.map fun c => c.1.serial)
  let s := (s.nodeList n).foldl (fun s k =>
    if s.rd NodeAuth.AUTH_STATE (nodeInst n k) = 2 then s.authEntries n (s.rd Topology.SERIAL n k) (s.fitted n k) else s) s
  let s := (s.sentinelsMoved n).wireRegs n
  let s := (s.nodeList n).foldl (fun s k =>
    if s.rd NodeAuth.AUTH_STATE (nodeInst n k) = 1 then s.wr NodeAuth.AUTH_STATE (nodeInst n k) 0 else s) s
  let s := s.modStr n fun y => { y with shot := y.shot.or (some (o.base, o.objs.ofStr n)) }
  (s.modEst n fun e => { e with step := none }).nodeDiags n

/-- The node commands of a new epoch, once the SAMPLE of its first lap has left: thresholds first, then the arming of sentinels, the
authentications and what else waits (R232, R246, R344). -/
def State.epochBegun (s : State) (n : Nat) : State :=
  let s := s.thresholdsAll n
  let s := (s.nodeList n).foldl (fun s k => if (s.rnode n k).armed then s else s.armNode n k) s
  (((s.authNext n).updateRegs n).pump n).resumeJobs n

/-! ### Firing a lap (R203 to R206) -/

/-- A step of Table 4.1 beyond step 8 is complete. -/
def State.reachPhase (s : State) (k : Nat) : State := if s.boot.phase < k then s.setPhase k else s

/-- The string may fire laps: present, enabled, the measuring engines up, and not STOPPED. -/
def State.mayLap (s : State) (n : Nat) : Bool :=
  s.enabled n && s.enginesUp && !s.rdB ModuleHealth.REFCLK_FAIL && !s.rdB DieStatus.DIE_STALLED n && !(s.laps n).halted &&
    decide (s.rd LapStatus.LAP_STATE n ≠ 2)

/-- The instants of an unchanged schedule between the last lap and `nom` that no lap was fired for. -/
def State.skippedTo (s : State) (n f j nom : Nat) : Nat :=
  let l := s.laps n
  match l.lastNom with
  | none => 0
  | some a =>
    if s.rd LapStatus.CONFIGURED_RATE n = f ∧ s.rd LapStatus.TOTAL_SHIFT n = j ∧ l.stepped = none then
      lapIndex f j nom - lapIndex f j (max a l.skipAt) - 1
    else 0

/-- A lap is fired: the SAMPLE batons leave and the instant is named to the front-end (R206). `newEpoch` is the first lap of
an epoch. -/
def State.fireLap (s : State) (n f j nom lead : Nat) (raised newEpoch : Bool) : State :=
  let l := s.laps n
  let seq := nextSeq l.seq
  let skipped := s.skippedTo n f j nom
  let plain := s.plainOf nom
  let closed := s.ringClosed n
  let joining := decide ((s.ring n).closeLap = some seq)
  let period := lapPeriod f j
  let prev := match l.lastPlain with
    | some a => if plain - a < 2 ^ 32 - 1 then plain - a else 2 ^ 32 - 1
    | none => 2 ^ 32 - 1
  let forced := newEpoch || (match l.lastNom with
    | some a =>
      let next := nextInstant (s.rd LapStatus.CONFIGURED_RATE n) (s.rd LapStatus.TOTAL_SHIFT n) a
      decide (next ≠ nom) || decide (prev ≠ next - a)
    | none => true)
  let noLock := !s.rdB TimeStatus.FIRST_LOCK_DONE
  let x : Lap := {
    seq := seq, nom := nom, plain := plain, period := period, lead := lead, shift := j
    epoch := s.rd RingStatus.TOPO_EPOCH n, raised := raised, noLock := noLock, timeStep := l.stepped.isSome
    gap := l.gap || decide (0 < skipped), enumIn := false, closed := closed, joining := joining, split := false, half := 0
    late := none, lateLead := 0, lateAny := false, nextAt := none, regs := [], learn := [], old := [], withheld := false
    records := [], recAt := 0, askedA := false, askedB := false, retries := 0, cur := none
    curLate := none, prevInterval := prev, forced := forced
    bleedFrom := (s.nodeList n).map fun k => (s.rnode n k).bleedAt, ahead := 0, seg := false, done := none, short_ := false
    checked := false, falseStart := false, handed := none, record := [], skipped := false, built := none }
  let s := s.modLaps n fun l =>
    let told (y : Lap) : Lap := { y with nextAt := some (y.nextAt.getD plain) }
    { l with seq := seq, cur := l.cur.map told ++ [x], lastNom := some nom, lastPlain := some plain, gap := false, stepped := none
             skipAt := nom, lifted := false }
  let s := (s.bump LapStatus.LAPS_SKIPPED n skipped).bump LapStatus.LAPS n
  let s := (s.wr LapStatus.LAP_STATE n 1).wr LapStatus.LAST_LAP_TIME n (timeVal nom)
  let s := (s.wr LapStatus.CONFIGURED_RATE n f).wr LapStatus.TOTAL_SHIFT n j
  let s := (s.wr LapStatus.SEGMENT_SHIFT n (s.segShift n)).wr LapStatus.LAP_PERIOD n period
  let s := (s.wr LapStatus.LEAD_IN_FORCE n lead).wrB LapStatus.LEAD_RAISED n raised
  let s := (s.wrB LapStatus.FREE_RUNNING n noLock).wrB LapStatus.SPLIT_ACTIVE n (closed && s.splits n)
  let s := if closed || joining then s.sendSample n 0 s.now x lead false true
    else (s.sendSample n 0 s.now x lead false false).sendSample n 1 s.now x lead false false
  let s := s.nameInstant n seq false nom plain
  let s := (s.nodeList n).foldl (fun s k => s.modNode n k fun r =>
    { r with bleedAt := if s.now + lead < r.bleedUntil then r.bleed else 0 }) s
  let s := if s.rd BootStatus.FIRST_LAP_TIME = timeNA then s.wr BootStatus.FIRST_LAP_TIME 0 (timeVal nom) else s
  ((s.startTelegrams.reachPhase 12).sprintCheck).restoreCheck

/-! ### Lap data complete (R214, R217, R222, R223) -/

/-- The counters and marks of a lap's record. -/
def State.lapCounts (s : State) (n : Nat) (x : Lap) (flags : Nat) : State :=
  let ps := (s.est n).pos
  let s := s.bump LapStatus.HELD_POSITIONS n (ps.filter fun p => decide (p.val = 2)).length
  let s := s.bump LapStatus.NA_POSITIONS n (ps.filter fun p => decide (p.val = 3)).length
  let s := if bitOf flags 0 then
      ((s.bump LapStatus.STITCHED_LAPS n).wrB LapStatus.STITCHED_SEEN n true).wr LapStatus.LAST_STITCHED_TIME n (timeVal x.nom)
    else s
  let s := if bitOf flags 1 then
      ((s.bump LapStatus.PARTIAL_LAPS n).wrB LapStatus.PARTIAL_SEEN n true).wr LapStatus.LAST_PARTIAL_TIME n (timeVal x.nom)
    else s
  let s := if bitOf flags 4 then s.bump LapStatus.BLANK_SHORT_LAPS n else s
  let w := worstSkew x false
  let sec := x.nom / 1000000000
  let l := s.laps n
  let s := if sec = l.skewSec then s
    else s.wr LapStatus.WORST_SKEW_1S n (if sec = l.skewSec + 1 then l.skewMax else 0)
  let s := s.modLaps n fun l => { l with skewSec := sec, skewMax := if sec = l.skewSec then max l.skewMax w else w }
  s.wr LapStatus.WORST_SKEW_RUN n (max w (s.rd LapStatus.WORST_SKEW_RUN n))

/-- Predictions that lanes made ahead into a lap and must make again (R311 to R313). -/
def State.replays (s : State) (n : Nat) (x : Lap) : State :=
  if x.falseStart || x.forced then
    let cnt := (s.est n).pos.length
    s.bump FilterStatus.POSITIONS_REPLAYED n
      (sumL ((List.range 32).map fun lane => min x.ahead ((cnt + 31 - lane) / 32)))
  else s

/-- The data of a lap is complete at `whole`: the record is built, and the lap goes to protection and to the estimation (R209,
R216, R223). RESTORE_WAIT counts from the first lap's instant (R130). -/
def State.completeLap (s : State) (str : Nat) (x : Lap) (whole : Nat) : State := s.underOld str x.seq fun s =>
  let s := s.modLap str x.seq fun y => { y with done := some whole }
  let s := s.blankAll str x
  let ps := (s.est str).pos.map fun p => s.placePos str x p
  let s := s.modEst str fun e => { e with pos := ps }
  let s := (s.nodeList str).foldl (fun s k => match x.recOf k with
    | some d => s.lapNode str x k d
    | none => s) s
  let s := (((s.wireRegs str).nodeDiags str).wireTests str).classifyTrip str
  let x := { x with done := some whole }
  let flags := s.lapFlags str x
  let s := s.lapCounts str x flags
  let rec_ := s.lapRecord str x flags
  let s := s.modLap str x.seq fun y => { y with record := rec_ }
  let s := s.checkLap str x
  let s := (s.buildAll str).learnDue str
  let s := s.stepLap str x (if x.seq = 1 then 65535 else x.seq - 1) (x.plain - x.prevInterval)
  let s := if s.power.shed || decide (s.security = 5) then s else s.filterLap str x
  let s := match s.lap? str x.seq with
    | some y => s.replays str y
    | none => s
  let s := s.modLap str x.seq fun y => { y with handed := some (s.lapNow x) }
  let first := s.now - (s.lapNow x - x.nom)
  s.modStr str fun y => { y with firstLap := some (y.firstLap.getD first) }

/-- The laps before a new epoch end with what they have before its first SAMPLE leaves: by R197 every COLLECT has left the ring
then, so that no record of them can come any more (R187). DEDUCED (log 46). -/
def State.endLaps (s : State) (n : Nat) : State :=
  ((s.laps n).cur.filter fun x => x.done.isNone).foldl (fun (s : State) x =>
    let whole := s.allRecords n x
    let s := if whole then s else s.modLap n x.seq fun y => { y with short_ := true }
    match s.lap? n x.seq with
    | some y => s.completeLap n y (if whole ∧ ¬ y.records.isEmpty then y.recAt else s.lapNow y)
    | none => s) s

/-- The SAMPLE of the lap at nominal instant `tNom` of string `str` leaves now, at `tNom` less the lead. An instant whose
SAMPLE can no longer leave is skipped and counted (R203, R206). -/
def execLapFire (t str tNom : Nat) (s : State) : Host.Outcome State Fault Refusal :=
  let s := (s.at t).waitDue str
  let job := (s.ring str).job
  let ready := match job with
    | some j => decide (j.stage = 4)
    | none => false
  let f := s.confRate str
  let j := s.totalShift str
  let period := lapPeriod f j
  let l := s.laps str
  let inOrder := match l.stepped, l.lastNom with
    | some a, _ => decide (a + period ≤ tNom)
    | none, some a => decide (a < tNom)
    | none, none => true
  .next (if !s.mayLap str || !isLapInstant f j tNom || !inOrder ||
      (decide (s.rd RingStatus.TOPO_EPOCH str = 0) && !ready) then s
  else
    let e : State := match job with
      | some jb => if ready then (s.endLaps str).applyEpoch str jb tNom else s
      | none => s
    let (lead, raised) := e.lapLead str period
    if s.base + lead < tNom then s
    else if tNom + 10 < s.base + lead then
      if tNom ≤ l.skipAt then s
      else
        let missed := s.skippedTo str f j tNom + 1
        (s.bump LapStatus.LAPS_SKIPPED str missed).modLaps str fun l => { l with gap := true, skipAt := tNom }
    else
      let s := e.fireLap str f j tNom lead raised ready
      (if ready then s.epochBegun str else s).drain str)

/-! ### Collection (R212 to R216) -/

/-- The COLLECT of a port for the lap in collection leaves: 24 µs after the instant of its records, which on a closed ring, and after
a SAMPLE that came back damaged, may be late ones from either port (R212). An ENUMERATE may take its place (R192). -/
def execCollect (t str port : Nat) (s : State) : Host.Outcome State Fault Refusal :=
  let s := (s.at t).waitDue str
  .next (match (s.laps str).cur.find? fun x => x.done.isNone && !x.short_ && !(if port = 0 then x.askedA else x.askedB) with
  | none => s
  | some x =>
    let base := match x.late with
      | some l => if port = 1 ∨ x.lateAny = true ∨ s.ringClosed str then l.1 else x.nom
      | none => x.nom
    if !s.hasStr str || !s.running || decide (1 < port) || decide (s.lapNow x < base + 24000) then s
    else
      let ks := s.collectPlan str port
      let closed := s.ringClosed str
      let split := closed && s.splits str
      let skip := if port = 0 then (s.ring str).skipA else (s.ring str).skipB
      let s := s.modLap str x.seq fun y =>
        { y with askedA := y.askedA || decide (port = 0), askedB := y.askedB || decide (port = 1)
                 split := split, half := if split ∧ port = 1 then ks.headD 0 else y.half
                 seg := !closed, enumIn := y.enumIn || skip }
      let s := s.modRing str fun r =>
        { r with skipA := r.skipA && decide (port ≠ 0), skipB := r.skipB && decide (port ≠ 1) }
      let s := s.wrB LapStatus.SPLIT_ACTIVE str split
      (if skip then s.enumerateInSlot str port else s.sendCollect str port x ks).drain str)

/-- The collection cut-off of the lap in collection is reached with records missing (R216). -/
def execCollectionCutoff (t str : Nat) (s : State) : Host.Outcome State Fault Refusal :=
  let s := s.at t
  .next (match (s.laps str).cur.find? fun x => x.done.isNone with
  | none => s
  | some x =>
    if s.hasStr str && s.running && decide (s.cutOff str x ≤ s.lapNow x) && !s.allRecords str x then
      s.modLap str x.seq fun y => { y with short_ := true }
    else s)

/-! ### Charge (R209, R311) -/

/-- A lap-current frame arrives over the front-end link: the lap takes its current and charge, and the run-ahead check is
made once the lap before has been corrected. `ahead` is how far the lanes have run ahead (R310). -/
def execChargeArrival (t str ahead : Nat) (s : State) : Host.Outcome State Fault Refusal :=
  let s := s.at t
  .next (match (s.str str).fe.frames with
  | [] => s
  | (seq, late, i, q) :: rest =>
    let s := s.modStr str fun x => { x with fe := { x.fe with frames := rest } }
    match s.lap? str seq with
    | none => s
    | some x =>
      if x.done.isSome || decide (s.cutOff str x < s.lapNow x) then s
      else if late then s.modLap str seq fun y => { y with curLate := some i }
      else
        let a := if s.rdB EstimationConfig.RUN_AHEAD_EN str then min 4 ahead else 0
        let s := s.modLap str seq fun y => { y with cur := some (i, q), ahead := a }
        let s := s.modEst str fun e => { e with secDepth := max e.secDepth a }
        if ((s.laps str).cur.takeWhile fun y => y.seq ≠ seq).all (·.handed.isSome) then
          match s.lap? str seq with
          | some x => s.lapCheck str x
          | none => s
        else s)

/-! ### The second (R314, R315, R325) -/

/-- LANE_LOAD_MAX of a second in 0.1 %: the laps updated in it, each with the work of Table 11.4 for every position of the busiest
lane, 7.8 µs at the floor rate's pace of 62.0 % and more by 1 / effective pace, as a share of its lap periods; none while no pace has
been measured (R325; DEDUCED, log 55). -/
def State.laneLoad (s : State) (n : Nat) : Option Nat :=
  let e := s.est n
  let eff := s.rd DieStatus.EFFECTIVE_PACE n
  if eff = 0 ∨ eff = 0xFFFF then none
  else if e.secSpan = 0 then some 0
  else
    let work := e.secLaps * ((e.pos.length + 31) / 32) * 7800 * 620
    some (min 0xFFFF (roundDiv (1000 * work) (eff * e.secSpan)).toNat)

/-- At a whole second the false-start ratio decides the next second. -/
def execFalseStartSecond (t str : Nat) (s : State) : Host.Outcome State Fault Refusal :=
  let s := s.at t
  let e := s.est str
  let sec := s.base / 1000000000
  .next (if !s.hasStr str || !s.enginesUp || decide (sec = e.secIdx) then s
  else
    let ratio := if e.secLaps = 0 then 0 else min 0xFFFF (1000 * e.secFalse / e.secLaps)
    let half := decide (e.secLaps < 4 * e.secFalse)
    let load := s.laneLoad str
    let s := s.wr FilterStatus.FALSE_START_RATIO_1S str ratio
    let s := s.wr FilterStatus.LANE_POSITIONS_MAX str ((e.pos.length + 31) / 32)
    let s := s.wr FilterStatus.RUN_AHEAD_DEPTH_MAX str e.secDepth
    let s := match load with
      | some v => s.wr FilterStatus.LANE_LOAD_MAX str v
      | none => s
    let s := if half then s.bump FilterStatus.HALF_RATE_SECONDS str else s
    let s := if half && !e.half then s.record 0x0901 2 (toLE 2 ratio) str
      else if e.half && !half then s.record 0x0902 1 [] str else s
    let s := if s.rd FilterStatus.FILTER_STATE str = 0 then s else s.wr FilterStatus.FILTER_STATE str (if half then 2 else 1)
    s.modEst str fun e =>
      { e with secIdx := sec, secLaps := 0, secFalse := 0, secDepth := 0, secSpan := 0, half := half, phase := false })

/-- Once per second the spare cluster recomputes one position: `same` tells whether every bit agrees. It pauses while the die hands
over (R315). -/
def execShadowCheck (t str : Nat) (same : Bool) (s : State) : Host.Outcome State Fault Refusal :=
  let s := s.at t
  let e := s.est str
  .next (if !s.hasStr str || !s.enginesUp || e.pos.isEmpty || !s.filterOn str ||
      (s.upd.relay && decide (s.rd UpdateStatus.HANDOVER_DIE = str)) || decide (e.shadowSec = s.base / 1000000000 + 1) then s
  else
    let i := if e.shadow < e.pos.length then e.shadow else 0
    let s := s.modEst str fun e => { e with shadow := i + 1, shadowSec := s.base / 1000000000 + 1 }
    let s := s.bump FilterStatus.SHADOW_CHECKS str
    if same then s
    else
      let s := (s.bump FilterStatus.SHADOW_MISMATCHES str).wrB DieStatus.SELF_TEST_FAIL str true
      s.record 0x0905 3 (toLE 2 i ++ toLE 2 (s.laps str).seq) str 0xFFFF (s.rd RingStatus.TOPO_EPOCH str))

end Sys2Proof.Machine
end

