-- ==== Sys2Proof/Machine/RingRecv.lean ====
section
/-! DEFINITION. What the ring master does with what its ports receive (chapter 6): batons and their blocks, missing returns,
lines lost and ready, rounds, enumerations, and the closing of the ring. -/

namespace Sys2Proof.Machine

open Sys2Proof.Obj

/-! ### Responses and results (R180, R181, R230) -/

/-- The commands whose result is fetched: those with result data, and those that run long. -/
def fetches (code : Nat) : Bool := [0x10, 0x11, 0x14, 0x16, 0x17, 0x18, 0x1B, 0x61, 0x62, 0x63].contains code

/-- The outstanding command of a node is changed. -/
def State.modCmd (s : State) (n k : Nat) (f : NodeCmd → NodeCmd) : State :=
  s.modRing n fun r => { r with cmds := r.cmds.map fun c => if c.node = k ∧ c.phase ≠ 0 then f c else c }

/-- A RESPONSE to a node's outstanding command: OUTCOME and CMD_COUNT_NOW (R181). A REPEAT carries the CODE stored at the node
(Table 6.9). -/
def State.takeResponse (s : State) (n k : Nat) (d : Bytes) : State :=
  match s.sentCmd n k with
  | none => s
  | some c =>
    if c.phase ≠ 1 then s
    else
      let outcome := field d 1 1
      let s := s.wr NodeStatus.LAST_OUTCOME (nodeInst n k) outcome
      let counted (s : State) : State := s.wr Topology.CMD_COUNT n ((s.rd Topology.CMD_COUNT n k + 1) % 256) k
      match outcome with
      | 3 => ((s.wr Topology.CMD_COUNT n (field d 2 1) k).setSeqFault n k |>.nodeDiags n).finishCmd n c (.fail 0x0602)
      | 4 => (s.bump RingCounters.EPOCH_MISMATCHES n).finishCmd n c .stale
      | 5 => (counted s).finishCmd n c (.fail 0x0603)
      | _ =>
        let s := if outcome = 2 then s.bump RingCounters.CMD_REPEATS n else s
        let s := counted s
        if fetches c.code then (s.modCmd n k fun c => { c with phase := 2, attempt := 0, fetchAt := 0 }).sendFetch n k
        else s.finishCmd n c (.ok [])

/-- A RESULT of a node's outstanding command (Table 6.7). DESIGN CHOICE (log 53): a failed result ends the exchange with condition
0x0603, as a refused command does; R231 names none for it. -/
def State.takeResult (s : State) (n k : Nat) (d : Bytes) : State :=
  match s.sentCmd n k with
  | none => s
  | some c =>
    if c.phase ≠ 2 ∨ field d 0 1 ≠ c.code then s
    else
      match field d 1 1 with
      | 0 => s.finishCmd n c (.ok (slice d 4 (field d 2 2)))
      | 1 => s.modCmd n k fun c => { c with fetchAt := s.now + msec 1 }
      | _ => s.finishCmd n c (.fail 0x0603)

/-- The reply window of a node is open: a baton towards it waits, or has not come back and is expected still (R181, R194). -/
def State.inFlight (s : State) (n k : Nat) : Bool :=
  let cmd (kind node : Nat) : Bool := (decide (kind = 3) || decide (kind = 4)) && decide (node = k)
  (s.ring n).waiting.any (fun w => cmd w.kind w.node) ||
    (s.ring n).flights.any fun f => cmd f.kind f.node && decide (s.now + 400 < f.due)

/-- The flights towards a node are taken off. -/
def State.dropNodeFlights (s : State) (n k : Nat) : State :=
  s.modRing n fun r => { r with flights := r.flights.filter fun f => !((decide (f.kind = 3) || decide (f.kind = 4)) && decide (f.node = k)) }

/-- The node a topology is being assigned to has not responded: the ASSIGN is repeated, or the node is UNREACHABLE in the
new topology (R187). -/
def State.assignMissing (s : State) (n : Nat) (j : Job) : State :=
  match j.todo with
  | [] => s
  | i :: rest =>
    if j.tries < s.rd RingConfig.CMD_RETRIES n then (s.modJob n fun j => { j with tries := j.tries + 1 }).nextAssign n
    else
      (s.modJob n fun j => { j with
        tries := 0, todo := rest
        nodes := match j.nodes[i]? with
          | some x => setNth { x with lost := true } j.nodes i
          | none => j.nodes }).nextAssign n

/-- The reply window of a node's command closes without a response: the command, or the FETCH of its result, is sent again
under the same counter, and fails after CMD_RETRIES (R181). Node 0xFF is the node being assigned. -/
def execCmdTimeout (t str node : Nat) (s : State) : Host.Outcome State Fault Refusal :=
  let s := (s.at t).drain str
  .next (if !s.hasStr str || !s.running || s.inFlight str node then s
  else if node = 0xFF then
    match (s.ring str).job with
    | some j => if j.stage = 3 then (s.dropNodeFlights str 0xFF).assignMissing str j else s
    | none => s
  else
    match s.sentCmd str node with
    | none => s
    | some c =>
      if c.phase = 2 ∧ c.fetchAt ≠ 0 then s
      else
        let s := s.dropNodeFlights str node
        if c.attempt < s.rd RingConfig.CMD_RETRIES str then
          let s := s.modCmd str node fun c => { c with attempt := c.attempt + 1 }
          if c.phase = 1 then s.sendCmd str c else s.sendFetch str node
        else (s.bump RingCounters.CMD_TIMEOUTS str).finishCmd str c (.fail 0x0601))

/-- FETCH is sent again, 1 ms after a result still running (R230). -/
def execResultFetch (t str node : Nat) (s : State) : Host.Outcome State Fault Refusal :=
  let s := s.at t
  .next (match s.sentCmd str node with
  | none => s
  | some c =>
    if s.hasStr str && s.running && decide (c.phase = 2) && decide (c.fetchAt ≠ 0) && decide (c.fetchAt ≤ s.now) then
      (s.modCmd str node fun c => { c with fetchAt := 0 }).sendFetch str node
    else s)

/-! ### Enumerations (R186, R189 to R191) -/

/-- The enumeration in progress has heard from every port it was sent from. -/
def Job.heard (j : Job) : Bool := (!j.wantA || j.fromA.isSome) && (!j.wantB || j.fromB.isSome)

/-- The ENUMERATE of a port is lost: at the start it has found no node there; later it finds nothing out, and the enumeration
ends without a decision (R190). -/
def State.enumLost (s : State) (n : Nat) : State :=
  match (s.ring n).job with
  | none => s
  | some j =>
    if j.stage ≠ 0 then s
    else ((s.modRing n fun r => { r with job := none }).wrB RingStatus.ENUM_ACTIVE n false).resumeJobs n

/-- An enumeration has heard from a port; one that is not the start's is decided when it is complete. -/
def State.enumHeard (s : State) (n port : Nat) (l : List TNode) (through : Bool) : State :=
  match (s.ring n).job with
  | none => s
  | some j =>
    if j.stage ≠ 0 then s
    else
      let j := if port = 0 then { j with fromA := some l, closed := j.closed || through }
        else { j with fromB := some l, closed := j.closed || through }
      let s := s.modRing n fun r => { r with job := some j }
      if j.heard && decide (s.rd RingStatus.TOPO_EPOCH n ≠ 0) then s.decideEnum n j else s

/-- A full enumeration of the segment a port reaches, unless a change is in progress (R191). -/
def State.enumFrom (s : State) (n port : Nat) : State :=
  if (s.ring n).job.isSome then s
  else if s.ringClosed n then s.startEnum n true true
  else s.startEnum n (decide (port = 0)) (decide (port = 1))

/-- An IDENTITY appended to a ROLL_CALL by a numbered node (R189, R190, R530). -/
def State.takeIdentity (s : State) (n k : Nat) (d : Bytes) : State :=
  let x := identity d 0
  if s.rd RingStatus.NODE_COUNT n ≤ k then s
  else if x.serial ≠ s.rd Topology.SERIAL n k ∨ x.channels ≠ s.rd Topology.CHANNELS n k then
    s.enumFrom n ((s.portOf n k).getD 0)
  else
    let i := nodeInst n k
    let s := s.modNode n k fun r => { r with sign := true, missed := 0, fwCause := if r.fw = 7 then 1 else r.fwCause }
    let s := (s.wr Topology.LINK_READY n (x.flags % 2) k).wr Topology.TURNING n (x.flags / 2 % 2) k
    let s := (s.wr NodeStatus.FW_MAJOR i x.fwMajor).wr NodeStatus.FW_MINOR i x.fwMinor
    let s := (s.wr NodeStatus.FW_PATCH i x.fwPatch).linkBreak n k (bitOf x.flags 3) (bitOf x.flags 2)
    let s := s.jointCheck n
    if field d 0x18 4 = s.rd RingStatus.TOPO_EPOCH n then s else s.reassign n [k]

/-! ### Delays (R183, R185) -/

/-- Probes of a delay are complete once three lie within DELAY_TOLERANCE of their median. -/
def probeStep (tol : Nat) (l : List Nat) (d : Nat) : List Nat × Bool :=
  let l := l ++ [d]
  if l.length < 3 then (l, false)
  else
    let w := withinTol tol l
    (w, decide (3 ≤ w.length))

/-- A probe of a change of topology has come back. -/
def State.jobProbed (s : State) (n : Nat) (j : Job) (d : Nat) : State :=
  match j.todo with
  | [] => s
  | c :: rest =>
    match j.nodes[c / 2]? with
    | none => s
    | some x =>
      let tol := s.rd RingConfig.DELAY_TOLERANCE n
      let (l, full) := probeStep tol (if c % 2 = 0 then x.probesA else x.probesB) d
      let x := if c % 2 = 0 then { x with probesA := l } else { x with probesB := l }
      let j := { j with nodes := setNth x j.nodes (c / 2), todo := if full then rest else c :: rest, tries := 0 }
      let s := s.modRing n fun r => { r with job := some j }
      if j.todo.isEmpty then s.beginAssign n else s.jobProbe n j

/-- A probe of a change of topology is lost: it is repeated, and after CMD_RETRIES the port is taken not to reach it. -/
def State.jobProbeLost (s : State) (n : Nat) (j : Job) : State :=
  let j := if j.tries < s.rd RingConfig.CMD_RETRIES n then { j with tries := j.tries + 1 }
    else { j with tries := 0, todo := j.todo.drop 1 }
  let s := s.modRing n fun r => { r with job := some j }
  if j.todo.isEmpty then s.beginAssign n else s.jobProbe n j

/-- A probe of an incremental round has come back: a median beyond DELAY_TOLERANCE is written with SET_DELAY (R185). -/
def State.roundProbed (s : State) (n port k d : Nat) : State :=
  let tol := s.rd RingConfig.DELAY_TOLERANCE n
  let r := s.rnode n k
  let (l, full) := probeStep tol (if port = 0 then r.probesA else r.probesB) d
  let put (l : List Nat) (r : RNode) : RNode := if port = 0 then { r with probesA := l } else { r with probesB := l }
  if !full then (s.modNode n k (put l)).sendProbe n port k
  else
    let m := median3 l
    let held := s.rd (if port = 0 then Topology.DELAY_A else Topology.DELAY_B) n k
    let s := s.modNode n k (put [])
    if held ≤ m + tol ∧ m ≤ held + tol then s
    else
      let na := toLE 4 0xFFFFFFFF
      s.queueCmd n k 2 (if port = 0 then toLE 4 m ++ na else na ++ toLE 4 m) .setDelay

/-- A PROBE has come back to the port it left, turned by its node (R183): it measures the delay of the change of topology in
progress, where that is waiting for it, else of the round. -/
def State.takeProbe (s : State) (n port k rtt : Nat) : State :=
  let due (j : Job) : Bool := decide (j.stage = 2) && (match j.todo.head? with
    | some c => decide (c % 2 = port) && decide ((j.nodes[c / 2]?).map (·.number) = some k)
    | none => false)
  match (s.ring n).job with
  | some j => if due j then s.jobProbed n j (probeDelay rtt)
      else if k < s.rd RingStatus.NODE_COUNT n then s.roundProbed n port k (probeDelay rtt) else s
  | none => if k < s.rd RingStatus.NODE_COUNT n then s.roundProbed n port k (probeDelay rtt) else s

/-- A PROBE measures nothing: it is missing, or has passed its node by, or has been turned by a break (R183). -/
def State.probeLost (s : State) (n port k : Nat) : State :=
  let due (j : Job) : Bool := decide (j.stage = 2) && (match j.todo.head? with
    | some c => decide (c % 2 = port) && decide ((j.nodes[c / 2]?).map (·.number) = some k)
    | none => false)
  match (s.ring n).job with
  | some j => if due j then s.jobProbeLost n j
      else s.modNode n k fun r => if port = 0 then { r with probesA := [] } else { r with probesB := [] }
  | none => s.modNode n k fun r => if port = 0 then { r with probesA := [] } else { r with probesB := [] }

/-! ### Batons (R179) -/

/-- A node has answered its ASSIGN: its counter is 0 again, and CMD_SEQ_FAULT is clear (R180, R182); under the epoch in force its
blanking starts afresh, and thresholds that it could not take before are its next command (R232). -/
def State.assignAnswered (s : State) (n : Nat) (j : Job) : State :=
  let x := (j.todo.head?).bind fun i => j.nodes[i]?
  let s := match x with
    | some x =>
      let k := x.number
      if s.rd RingStatus.NODE_COUNT n ≤ k then s
      else
        let s := ((s.wr Topology.CMD_COUNT n 0 k).wrB Topology.CMD_SEQ_FAULT n false k).wrB NodeStatus.CMD_SEQ_FAULT
          (nodeInst n k) false
        if j.same then
          let due := (s.rnode n k).threshDue
          let s := s.modNode n k fun r => { r with anchor := none, ivals := [], threshDue := false, maskDue := false }
          if due then s.sendThresholds n k 0 else s
        else s
    | none => s
  ((s.modJob n fun j => { j with todo := j.todo.drop 1, tries := 0 }).nextAssign n).nodeDiags n

/-- Blocks of a kind. -/
def blocksOf (kind : Nat) (bs : List (Nat × Nat × Bytes)) : List (Nat × Bytes) :=
  (bs.filter fun b => b.2.1 == kind).map fun b => (b.1, b.2.2)

/-- What a baton of a type brings; `left` is the port it left, `rtt` the time from its SOB leaving to its SOB arriving, `timely`
whether it has come by its expected arrival plus 400 ns, and `cut` whether it was aborted or a block of it failed its check. A full
ENUMERATE that comes back cut after the start is lost: what it does not hold is missing for no other reason (R190). -/
def State.takeBaton (s : State) (n left port : Nat) (bytes : Bytes) (bs : List (Nat × Nat × Bytes)) (rtt : Nat)
    (timely cut : Bool) : State :=
  let first := field bytes 2 1
  let last := field bytes 3 1
  match field bytes 0 1 with
  | 1 =>
    if left = 0 ∧ port = 1 ∧ timely = true ∧ (s.ring n).closeLap = some (field bytes 8 2) then
      (s.modRing n fun r => { r with closeLap := none }).setSegments n 1 (s.rd RingStatus.NODE_COUNT n) 0 4 0xFFFF
    else s
  | 2 =>
    let seq := field bytes 8 2
    let s := (blocksOf 1 bs).foldl (fun s b => s.takeRecord n seq b.1 b.2) s
    s.retryCollect n seq first last
  | 3 =>
    if first = 0xFF then
      match (s.ring n).job, blocksOf 3 bs with
      | some j, (_, d) :: _ => if j.stage = 3 ∧ field d 0 1 = 1 then s.assignAnswered n j else s
      | _, _ => s
    else (blocksOf 3 bs).foldl (fun s b => s.takeResponse n b.1 b.2) s
  | 4 => (blocksOf 4 bs).foldl (fun s b => s.takeResult n b.1 b.2) s
  | 5 =>
    let ids := (blocksOf 5 bs).map fun b => identity b.2 (left + 1)
    if bitOf (field bytes 1 1) 5 then
      if cut ∧ s.rd RingStatus.TOPO_EPOCH n ≠ 0 then s.enumLost n else s.enumHeard n left ids (decide (left ≠ port))
    else if ids.isEmpty then s else s.enumFrom n left
  | 6 => (blocksOf 5 bs).foldl (fun s b => s.takeIdentity n b.1 b.2) s
  | 7 => if left = port ∧ (blocksOf 7 bs).isEmpty then s.takeProbe n left first rtt else s.probeLost n left first
  | _ => s

/-- A baton arrives at a port of the ring master: its checks, its TURN blocks, and what its blocks bring (R179, R194). -/
def execBatonReceived (t str port : Nat) (bytes : Bytes) (aborted : Bool) (rtt : Nat) (s : State) :
    Host.Outcome State Fault Refusal :=
  let s := s.at t
  .next (if !s.hasStr str || !s.running || decide (1 < port) then s
  else
    let s := if aborted then s.bump RingCounters.BATONS_ABORTED str else s
    let sampleOut := (s.ring str).flights.any fun f => decide (f.kind = 1) && decide (f.port = 0)
    if !headerOk bytes then
      let s := s.bump RingCounters.HEADER_CRC_ERRORS str
      if port = 1 ∧ sampleOut = true then s.lateSample str true else s
    else
      let kind := field bytes 0 1
      let left := field bytes 1 1 / 128
      let seq := field bytes 8 2
      let node := field bytes 2 1
      let lap := s.lap? str seq
      let through := decide (left ≠ port)
      let num := if kind ≤ 2 then seq else if kind = 5 then b2n (bitOf (field bytes 1 1) 5) else 0
      let timely := (s.ring str).flights.any fun f => decide (f.port = left) && decide (f.kind = kind) && decide (f.seq = num) &&
        decide (s.now ≤ f.due)
      -- a SAMPLE of a closed ring that comes back to its own port, or too late, is still missing at the other
      let keep := decide (kind = 1) && (!through || !timely) && (match lap with
        | some x => (x.closed || x.joining) && decide (left = 0)
        | none => false)
      let s := if keep then s else s.modRing str fun r =>
        { r with flights :=
            if kind = 3 ∧ node = 0xFF then r.flights.filter (fun f => !(decide (f.kind = 3) && decide (f.node = 0xFF)))
            else dropFlight left kind (if kind = 1 then 0 else if kind = 5 then 0xFF else node) num r.flights }
      let s := if through ∧ left = 0 then
          (s.wr RingStatus.T_AB str rtt).modRing str fun r => { r with tAB := some rtt }
        else if through then s.wr RingStatus.T_BA str rtt else s
      let s := if kind = 1 ∧ aborted = true ∧ port = 1 ∧ left = 0 then s.lateSample str true else s
      let (bs, bad) := parseBlocks bytes.length (bytes.drop 20)
      let s := s.bump RingCounters.BLOCK_CRC_ERRORS str bad
      let s := (blocksOf 7 bs).foldl (fun s b => s.turnBreak str (field b.2 0 1) (field b.2 1 1)) s
      (s.takeBaton str left port bytes bs rtt timely (aborted || decide (0 < bad))).drain str)

/-- A baton that left a port has not arrived by its expected arrival plus 400 ns: a break of a closed ring, a late SAMPLE,
or what its type was waiting for is lost (R194, R219). -/
def execReturnMissing (t str port kind : Nat) (s : State) : Host.Outcome State Fault Refusal :=
  let s := s.at t
  .next (match (s.ring str).flights.find? fun f => decide (f.port = port) && decide (f.kind = kind) && decide (f.due ≤ s.now) with
  | none => s
  | some f =>
    if !s.hasStr str || !s.running then s
    else
      let first := decide (s.rd RingStatus.TOPO_EPOCH str = 0)
      let s := s.modRing str fun r => { r with flights := dropFlight f.port f.kind f.node f.seq r.flights }
      let s := s.bump RingCounters.RETURN_MISSING str
      let s := if kind = 1 ∧ port = 0 then s.lateSample str false else s
      let s := if kind = 1 ∧ (s.ring str).closeLap = some f.seq then
          s.modRing str fun r => { r with closeLap := none } else s
      let s := if f.closed && decide (kind ≠ 7) && s.ringClosed str then s.missingBreak str else s
      let s : State := match kind with
        | 2 => s.retryCollect str f.seq f.node f.last
        | 5 => if f.seq = 0 then s else if first then s.enumHeard str port [] false else s.enumLost str
        | 7 => s.probeLost str port f.node
        | _ => s
      s.drain str)

/-! ### Ports (R174, R193) -/

/-- What a port sees loses it its incoming line (R174). -/
def lineLost : LineSign → Bool
  | .silent ns => decide (1000 ≤ ns)
  | .unlocked => true
  | .codes inWindow => decide (4 ≤ inWindow)
  | .brk => true

/-- A port of the ring master reports what it sees of its incoming line, and its code violations are counted. Where it loses its
line, it sends BREAK, and its segment is empty; a SAMPLE in flight from port A is followed by a late one (R172, R174, R194,
R219). -/
def execRingPortLineLost (t str port : Nat) (seen : LineSeen) (s : State) : Host.Outcome State Fault Refusal :=
  let s := s.at t
  .next (if !s.hasStr str || !s.running || decide (1 < port) then s
  else
    let s := s.bump (if port = 0 then RingCounters.CODE_VIOLATIONS_A else RingCounters.CODE_VIOLATIONS_B) str seen.violations
    if !lineLost seen.sign then s
    else
      let s := s.modRing str fun r =>
        if port = 0 then { r with readyA := false, brkA := true } else { r with readyB := false, brkB := true }
      let s := s.wrB (if port = 0 then RingStatus.PORT_A_LINK else RingStatus.PORT_B_LINK) str false
      let s := s.send (.brk str port)
      let s := if port = 0 then s.lateSample str false else s
      (s.portBreak str port).jointCheck str)

/-- A port has decoded valid code groups without interruption: its line is valid; after 10 ms it sends IDLE again, and after 10 ms
of IDLE it is LINK_READY (R174). -/
def execRingPortLinkReady (t str : Nat) (line : PortLine) (s : State) : Host.Outcome State Fault Refusal :=
  let s := s.at t
  .next (if !s.hasStr str || !s.running || decide (1 < line.port) || decide (line.valid = 0) then s
  else
    let brk := if line.port = 0 then (s.ring str).brkA else (s.ring str).brkB
    let s := s.wrB (if line.port = 0 then RingStatus.PORT_A_LINK else RingStatus.PORT_B_LINK) str true
    let s := if brk ∧ msec 10 ≤ line.valid then
        (s.modRing str fun r => if line.port = 0 then { r with brkA := false } else { r with brkB := false }).send (.idle str line.port)
      else s
    let s := if msec 10 ≤ line.idle then
        s.modRing str fun r => if line.port = 0 then { r with readyA := true } else { r with readyB := true }
      else s
    s.jointCheck str)

/-! ### Rounds, epochs and closing (R187, R189, R196) -/

/-- A ROLL_CALL leaves for a node. -/
def State.sendRollCall (s : State) (n k : Nat) : State :=
  match s.portOf n k with
  | none => s
  | some port => s.sendBaton n port 6 k 0 (batonHeader 6 port 0 k k (s.rd RingStatus.TOPO_EPOCH n) 0 0 0) 36 (s.ringClosed n)

/-- The nodes of a round: four in turn. -/
def roundNodes (roll cnt : Nat) : List Nat := (List.range (min 4 cnt)).map fun i => (roll + i) % cnt

/-- The count of the rounds without a sign of a node (R191): every round for a node that appends records, the rounds that call it
for one that is silent, and none while its segment is not reachable. -/
def RNode.roundOver (x : RNode) (out silent : Bool) : RNode :=
  if out then { x with missed := 0, called := false }
  else if silent then
    { x with missed := if x.sign then 0 else if x.called then x.missed + 1 else x.missed, sign := false, called := false }
  else { x with missed := if x.sign then 0 else x.missed + 1, sign := false, called := false }

/-- Every 100 ms: ENUMERATE, ROLL_CALL, READ_STATUS and PROBE batons, a full enumeration where a node is missing, and the epoch
published (R185, R189, R191, R227). -/
def execIncrementalRound (t str : Nat) (s : State) : Host.Outcome State Fault Refusal :=
  let s := s.at t
  let r := s.ring str
  .next (if !s.hasStr str || !s.running || decide (s.security = 5) || decide (s.rd RingStatus.TOPO_EPOCH str = 0) ||
      decide (s.now < r.roundAt + msec 100) then s
  else
    let cnt := s.rd RingStatus.NODE_COUNT str
    let lim := s.rd RingConfig.MISSING_ROUNDS str
    let s := s.modRing str fun r => { r with roundAt := s.now }
    let s := (s.nodeList str).foldl (fun s k =>
      let out := decide (s.rd Topology.REACH str k = 3)
      let silent := s.rdB Topology.NODE_SILENT str k
      s.modNode str k fun x => x.roundOver out silent) s
    let s : State := match (s.nodeList str).find? fun k => decide (lim ≤ (s.rnode str k).missed) with
      | some k => s.enumFrom str ((s.portOf str k).getD 0)
      | none => s
    let closed := s.ringClosed str
    let s := if closed ∨ r.readyA = true then s.sendEnumerate str 0 false else s
    let s := if closed ∨ r.readyB = true then s.sendEnumerate str 1 false else s
    let ks := (roundNodes r.roll cnt).filter fun k => decide (s.rd Topology.REACH str k ≠ 3)
    let s := ks.foldl (fun (s : State) k =>
      ((s.modNode str k fun x => { x with called := true }).sendRollCall str k).readStatus str k) s
    let s := ks.foldl (fun (s : State) k =>
      let s := if closed ∨ s.portOf str k = some 0 then s.sendProbe str 0 k else s
      if closed ∨ s.portOf str k = some 1 then s.sendProbe str 1 k else s) s
    let due := (s.nodeList str).filter fun k => (s.rnode str k).maskDue && decide (s.rd Topology.REACH str k ≠ 3)
    let s := due.foldl (fun (s : State) k => s.modNode str k fun x => { x with maskDue := false }) s
    let s := s.reassign str due
    let s := s.modRing str fun r => { r with roll := if cnt = 0 then 0 else (r.roll + 4) % cnt }
    (((s.jointCheck str).stamp RingStatus.LAST_ROUND_TIME str).thresholdsDue str).drain str)

/-- The start enumeration of a string is complete, and its first topology is to be put in force (R115, R186). -/
def execEnumerationComplete (t str : Nat) (s : State) : Host.Outcome State Fault Refusal :=
  let s := s.at t
  .next (match (s.ring str).job with
  | none => s
  | some j =>
    if !s.hasStr str || !s.running || decide (s.rd RingStatus.TOPO_EPOCH str ≠ 0) || decide (j.stage ≠ 0) || !j.heard then s
    else
      let s : State := { s with boot := { s.boot with enumDone := setNth true s.boot.enumDone str } }
      let s := s.decideEnum str j
      if s.enumComplete then s.reachPhase 11 else s)

/-- A new topology is put in force once no command is outstanding: the delays of its reachable nodes are measured, and those nodes
assigned (R187). -/
def execNewEpoch (t str : Nat) (s : State) : Host.Outcome State Fault Refusal :=
  let s := s.at t
  .next (match (s.ring str).job with
  | none => s
  | some j =>
    if !s.hasStr str || !s.running || decide (j.stage ≠ 1) || (s.ring str).cmds.any fun c => decide (c.phase ≠ 0) then s
    else
      let j := { j with stage := 2, tries := 0, todo := probePlan j.closed j.nodes }
      let s := s.modRing str fun r => { r with job := some j }
      if j.todo.isEmpty then s.beginAssign str else s.jobProbe str j)

/-- The joint has qualified and AUTO_CLOSE is 1: the ring is closed (R196). -/
def execRingClose (t str : Nat) (s : State) : Host.Outcome State Fault Refusal :=
  let s := s.at t
  .next (if !s.hasStr str || !s.running then s
  else
    let s := s.jointCheck str
    if s.rdB RingStatus.JOINT_READY str && s.rdB RingConfig.AUTO_CLOSE str && (s.ring str).closeLap.isNone &&
        (s.ring str).job.isNone then s.closeRing str
    else s)

end Sys2Proof.Machine
end

