-- ==== Sys2Proof/Machine/FrontEnd.lean ====
section
/-! DEFINITION. The string front-end (chapter 10): coulomb converter, lap current, sequencing converter, references,
system calibration and insulation monitor. -/

namespace Sys2Proof.Machine

open Sys2Proof.Obj

/-! ### Coulomb converter (R272 to R276) -/

/-- The time between two output samples, in ns. -/
def samplePeriod : Nat := 15625

/-- An output sample is ready this long after its centre: half its window and 2 µs, in ns, rounded up (R272). -/
def sampleReady : Nat := 25438

/-- The temperature the shunt resistance is taken at, in 0.01 °C (R273). -/
def State.shuntTemp (s : State) (n : Nat) : Int :=
  (s.fe n).tShunt.getD (s.rdI CoulombConfig.SHUNT_TREF n)

/-- 10^8 times the temperature term of R273. -/
def State.shuntTerm (s : State) (n : Nat) : Int :=
  if s.rdB CoulombConfig.TEMP_COMP_EN n then
    100000000 + s.rdI CoulombConfig.SHUNT_TC n * (s.shuntTemp n - s.rdI CoulombConfig.SHUNT_TREF n)
  else 100000000

/-- The current of a converter code in µA, to the nearest (R273). -/
def State.coulombI (s : State) (n : Nat) (raw : Int) : Int :=
  let g : Int := s.rd Calibration.CAL_GAIN n 0
  let num := (raw - s.rdI Calibration.CAL_OFFSET n 0) * g * 75000000000000 * 100000000
  roundDiv num (2 ^ 53 * s.rd CoulombConfig.SHUNT_R n * (s.shuntTerm n).toNat)

/-- The shunt voltage of a converter code in nV. -/
def State.shuntV (s : State) (n : Nat) (raw : Int) : Int :=
  let g : Int := s.rd Calibration.CAL_GAIN n 0
  roundDiv ((raw - s.rdI Calibration.CAL_OFFSET n 0) * g * 75000000) (2 ^ 53)

/-- The charge of a current held over `dt` ns, twice: the trapezoid of two currents in 2^-16 µA·s (R274). -/
def trapezoid (i j : Int) (dt : Nat) : Int := roundDiv ((i + j) * dt * 32768) 1000000000

/-- A charge as reported: rounded downwards to the next µA·s (R274). -/
def chargeOut (q : Int) : Int := q / 65536

/-- The overcurrent condition of one direction moves at a sample beyond or within its limit; true when it trips (R363). -/
def ocStep (beyond : Bool) (since : Option Nat) (at_ delay : Nat) : Option Nat × Bool :=
  if beyond then
    let f := since.getD at_
    (some f, decide (f + delay ≤ at_))
  else (none, false)

/-- The overcurrent condition is evaluated on a sample of `i` µA (R363). -/
def State.overCurrent (s : State) (n : Nat) (i : Int) (clip : Bool) (at_ : Nat) : State :=
  if !s.hasProf n then s
  else
    let c : Int := s.prof n 0x34 4
    let d : Int := s.prof n 0x38 4
    let delay := msec (s.prof n 0x3C 2)
    let p := s.prot n
    let (c1, t1) := ocStep (clip || decide (c * 1000 < i)) p.ocChg at_ delay
    let (c2, t2) := ocStep (clip || decide (i < -(d * 1000))) p.ocDis at_ delay
    let s := s.modProt n fun p => { p with ocChg := c1, ocDis := c2 }
    if (t1 || t2) && !p.feLatch.contains 3 then
      let lim := if t1 && (!t2 || decide (0 ≤ i)) then c else -d
      let s := s.modProt n fun p => { p with feLatch := p.feLatch ++ [3] }
      s.trip n 3 { TripInfo.plain with value := tripVal (roundDiv i 1000), limit := tripVal lim }
    else s

/-- The mean of a full second of the time base, as its samples arrive (Table 10.6). -/
def State.secondMean (s : State) (n : Nat) (centre : Nat) (i : Int) : State :=
  let f := s.fe n
  let k := centre / 1000000000
  if f.secIdx = k then s.modFe n fun f => { f with secSum := f.secSum + i, secCnt := f.secCnt + 1 }
  else
    let s := if f.secIdx + 1 = k ∧ 0 < f.secCnt then
        s.wrI CoulombStatus.CURRENT_AVG_1S n (roundDiv f.secSum (f.secCnt * 1000))
      else s
    s.modFe n fun f => { f with secIdx := k, secSum := i, secCnt := 1 }

/-- A code enters the capture of a calibration step (R286). -/
def Fe.capture (f : Fe) (target : Nat) (code : Int) : Fe :=
  match f.cal with
  | none => f
  | some c =>
    match c.capture with
    | none => f
    | some k =>
      if c.target = target then
        { f with cal := some { c with capture := some { k with n := k.n + 1, sum := k.sum + code,
                                                                sumSq := k.sumSq + code * code } } }
      else f

/-- Current and charge referred to an instant between two sample centres, on the scale without steps (R278): µA and 2^-16
µA·s; none where the samples are not at hand. Samples are newest first. -/
def referTo (t : Nat) : List CSample → Option (Int × Int)
  | [] => none
  | x :: xs =>
    match xs with
    | [] => if x.at_ = t then some (x.i, x.q) else none
    | y :: _ =>
      if y.at_ ≤ t ∧ t < x.at_ then
        let i := y.i + roundDiv ((x.i - y.i) * ((t - y.at_ : Nat) : Int)) (x.at_ - y.at_)
        some (i, y.q + trapezoid y.i i (t - y.at_))
      else if x.at_ = t then some (x.i, x.q)
      else referTo t xs

/-- CURRENT and CHARGE of a captured status are referred to its READ_TIME once the samples on both sides of it are there; until then
they are those of the last sample (Table 10.6; DEDUCED, log 51). -/
def State.shotRefer (s : State) (n : Nat) : State :=
  match (s.str n).shotDue, (s.fe n).samples with
  | some p, x :: xs =>
    if x.at_ < p then s
    else
      let s := s.modStr n fun y => { y with shotDue := none }
      match referTo p (x :: xs) with
      | none => s
      | some (i, q) => s.modStr n fun y => { y with shot := y.shot.map fun z =>
          (z.1, (z.2.wr CoulombStatus.CURRENT n (satInt 32 (roundDiv i 1000))).wr CoulombStatus.CHARGE n (ofInt 64 (chargeOut q))) }
  | _, _ => s

/-- A coulomb output sample is ready: the newest centre whose window has ended and whose 2 µs have passed. `raw` is the
code of the window before clipping (R272 to R275). -/
def execCoulombSample (t str : Nat) (raw : Int) (s : State) : Host.Outcome State Fault Refusal :=
  let s := s.at t
  let f := s.fe str
  let centre := (s.plain - sampleReady) / samplePeriod * samplePeriod
  let prev := f.samples.head?
  let due := decide (sampleReady ≤ s.plain) && (match prev with
    | some x => decide (x.at_ < centre)
    | none => true)
  .next (if s.hasStr str = true ∧ f.up = true ∧ due = true then
    let clip := decide (2 ^ 23 < raw.natAbs)
    let code := clampI (-(2 ^ 23)) (2 ^ 23) raw
    let i := s.coulombI str code
    let q := match prev with
      | some x => x.q + trapezoid x.i i (centre - x.at_)
      | none => 0
    let x : CSample := ⟨centre, i, q, clip⟩
    let keep := (x :: f.samples).filter fun y => decide (centre ≤ y.at_ + msec 4)
    let s := s.modFe str fun f =>
      { f.capture 0 code with samples := keep, acc := q, clipOn := clip, clips := if clip then centre :: f.clips else f.clips }
    let s := (s.wrI CoulombStatus.CURRENT str (roundDiv i 1000)).wr CoulombStatus.CHARGE str (ofInt 64 (chargeOut q))
    let s := s.wrI CoulombStatus.SHUNT_V str (s.shuntV str code)
    let s := s.wrB CoulombStatus.TEMP_COMP_LOST str f.tShunt.isNone
    let s := s.wrI CoulombStatus.SHUNT_TEMP_USED str (s.shuntTemp str)
    let s := s.wrB CoulombStatus.OVERRANGE str clip
    let s := if clip then (s.wrB CoulombStatus.OVERRANGE_SEEN str true).bump CoulombStatus.OVERRANGE_COUNT str else s
    let s := if clip && !f.clipOn then s.record 0x0804 2 (toLE 4 (ofInt 32 (roundDiv i 1000))) str else s
    let s := s.secondMean str ((centre : Int) + s.clk.steps).toNat i
    (s.overCurrent str i clip centre).shotRefer str
  else s)

/-- The frame of the next instant named crosses the link in two copies; `ok1` and `ok2` say whose CRC is correct (R278). -/
def execLapCurrentFrame (t str : Nat) (ok1 ok2 : Bool) (s : State) : Host.Outcome State Fault Refusal :=
  let s := s.at t
  let f := s.fe str
  .next (match f.named with
  | [] => s
  | (lap, late, p) :: rest =>
    let drop (s : State) : State := s.modFe str fun f => { f with named := rest }
    if !s.hasStr str || !f.up then s
    else if p + msec 4 < s.plain then drop s
    else
      match referTo p f.samples with
      | none => s
      | some (i, q) =>
        if ok1 || ok2 then
          (drop s).modFe str fun f => { f with frames := f.frames ++ [(lap, late, i, chargeOut q)] }
        else (drop s).bump CoulombStatus.LINK_FRAMES_LOST str)

/-- WARMUP clears 20 min after the start (R276). -/
def execWarmupEnd (t str : Nat) (s : State) : Host.Outcome State Fault Refusal :=
  let s := s.at t
  .next (if s.hasStr str = true ∧ (s.fe str).up = true ∧ (s.fe str).warmEnd ≤ s.now then
    (s.wrB CoulombStatus.WARMUP str false).wr CoulombStatus.WARMUP_REMAIN str 0
  else s)

/-! ### Sequencing converter (R279 to R284) -/

/-- The settling time of the reference in force has passed (R282). -/
def execRefSettled (t str : Nat) (s : State) : Host.Outcome State Fault Refusal :=
  let s := s.at t
  .next (match (s.fe str).refDue with
  | some d =>
    if s.hasStr str = true ∧ d ≤ s.now then
      (s.wrB SequenceResults.REF_SETTLED str true).modFe str fun f => { f with refDue := none }
    else s
  | none => s)

/-- The input is differential (Table 10.3). -/
def inputDiff (i : Nat) : Bool := [2, 3, 4, 0x0B, 0x0C, 0x0F].contains i

/-- A code within the converter's range: two's complement where the input is differential, else straight binary (R279). -/
def codeOf (input : Nat) (code : Int) : Int := if inputDiff input then clampI (-32768) 32767 code else clampI 0 65535 code

/-- The LSB of an input as a fraction of its ENG_VALUE unit, none where Table 10.3 gives none. -/
def inputLsb (i : Nat) : Option Fr :=
  match i with
  | 1 => some (fr 25)
  | 2 => some (fr 50)
  | 3 => some (fr 50)
  | 4 => some (fr 50)
  | 5 => some (fr 25)
  | 6 => some (frac 1 4)
  | 7 => some (frac 1 4)
  | 8 => some (frac 1 4)
  | 0x0B => some (frac 3052 1000)
  | 0x0F => some (fr 1)
  | _ => none

/-- The calibration entry of an input under a reference (Table 10.9). -/
def calEntry (input ref : Nat) : Nat := if input = 0 then 0 else 1 + 3 * (input - 1) + ref

/-- ENG_VALUE of a code (R281). -/
def State.engValue (s : State) (n input : Nat) (code : Int) : Int :=
  let ref := (s.fe n).refIn
  match inputLsb input with
  | none => Config.inputValue input ref (s.fe n).avdd code
  | some lsb =>
    let k := calEntry input ref
    let c : Int × Nat := if input ≤ 5 then (s.rdI Calibration.CAL_OFFSET n k, s.rd Calibration.CAL_GAIN n k)
      else Config.fixedCal input ref
    roundDiv ((code - c.1) * c.2 * lsb.n) (2 ^ 30 * lsb.d)

/-- SEQUENCE_CONFIG as a pass uses it: input, averaging and alignment of each entry in use (R280). -/
def State.seqConfig (s : State) (n : Nat) : List (Nat × Nat × Bool) :=
  (List.range (8 + s.rd SequenceConfig.USER_ENTRIES n)).map fun e =>
    let left := s.rdB SequenceConfig.ALIGN_LEFT n e
    if e < 8 then (s.rd SequenceConfig.INPUT_FIXED n e, s.rd SequenceConfig.AVG_LOG2_FIXED n e, left)
    else (s.rd SequenceConfig.INPUT_USER n (e - 8), s.rd SequenceConfig.AVG_LOG2_USER n (e - 8), left)

/-- A settled result of a fixed entry reaches its consumers: the coil currents, the dead bus of step 2 of a closing (Table 13.5),
and the precharge under way. -/
def State.seqConsumers (s : State) (n e : Nat) (v : Int) : State :=
  let s := if e = 5 then (s.wr StringTerminals.COIL_I_POS n v.toNat).coilCurrent n 0 v.toNat
    else if e = 6 then (s.wr StringTerminals.COIL_I_NEG n v.toNat).coilCurrent n 1 v.toNat
    else if e = 7 then (s.wr StringTerminals.COIL_I_PRE n v.toNat).coilCurrent n 2 v.toNat else s
  let s := if e = 1 ∧ s.negWelded n = true then s.trip n 13 else s
  s.precharged n

/-- A pass ends: the next one takes SEQUENCE_CONFIG as it stands (R280). -/
def State.seqPass (s : State) (n : Nat) : State :=
  let s := s.bump SequenceResults.PASSES n
  let s := s.wr SequenceResults.PASS_TIME n (min 0xFFFE ((s.now - (s.fe n).passFrom) / 1000))
  let cfg := s.seqConfig n
  let s := (List.range 8).foldl (fun s k =>
    if 8 + k < cfg.length then s else s.wrB SequenceResults.VALID n false (8 + k)) s
  s.modFe n fun f => { f with seqNext := 0, passFrom := s.now, seqCfg := cfg }

/-- The conversions of the sequencer's next entry are complete: their instants on the time base and their codes (R281,
R282). -/
def execSequencerEntry (t str : Nat) (convs : List (Nat × Int)) (s : State) : Host.Outcome State Fault Refusal :=
  let s := s.at t
  let f := s.fe str
  let e := f.seqNext
  .next (match f.seqCfg[e]? with
  | none => s
  | some (input, avg, left) =>
    if s.hasStr str && f.up && decide (convs.length = 2 ^ avg) then
      let code := roundDiv (sumI (convs.map fun c => codeOf input c.2)) (2 ^ avg)
      let at_ := sumL (convs.map (·.1)) / 2 ^ avg
      let settled := s.rdB SequenceResults.REF_SETTLED str
      let v := s.engValue str input code
      let s := s.wr SequenceResults.RESULT str (if left then ofInt 16 code * 65536 else ofInt 32 code) e
      let s := (s.wrI SequenceResults.ENG_VALUE str v e).wrB SequenceResults.REF_UNSETTLED str (!settled) e
      let s := s.wrB SequenceResults.VALID str true e
      let s := s.modFe str fun f => { f with seqNext := e + 1, valAt := setNth at_ f.valAt e, aborts := 0 }
      let s := if settled then
          let s := s.modFe str fun f =>
            let f := { f with vals := setNth v f.vals e, valOk := setNth true f.valOk e, okAt := setNth at_ f.okAt e
                              byInput := (input, v, at_) :: f.byInput.filter fun x => x.1 != input }
            let f := if input = 0x0E then { f with avdd := some v } else f
            if e < 5 then f.capture input code else f
          s.seqConsumers str e v
        else s
      if e + 1 < f.seqCfg.length then s else s.seqPass str
    else s)

/-- The protection requests of a queue that run while `w` further windows begin, `u` of the 8 conversions of the present one
being spent: in order of arrival, those that do not fit waiting for the next window (R284). With them, what the last window has
spent. -/
def protFit : Nat → Nat → List Inj → List Inj × Nat
  | w, u, [] => ([], if w = 0 then u else 0)
  | w, u, q :: qs =>
    if u + q.count ≤ 8 then
      let (a, k) := protFit w (u + q.count) qs
      (q :: a, k)
    else
      match w with
      | 0 => ([], u)
      | w + 1 =>
        let (a, k) := protFit w q.count qs
        (q :: a, k)

/-- An injection of `count` conversions has run: it is counted, and so is the abort where it pre-empted a conversion. A
conversion aborted 4 times is completed first, and one that had 1 µs since the injection before is complete; injections that run
together have pre-empted one conversion (R283). -/
def State.injRun (s : State) (n count : Nat) (aborted : Bool) : State :=
  let f := s.fe n
  let prior := if f.injEnd + 1000 * (count + 1) ≤ s.now then 0 else f.aborts
  let together := decide (f.injEnd = s.now)
  let ab := aborted && decide (prior < 4) && !together
  let s := s.bump SequenceResults.INJECTED n count
  let s := if ab then s.bump SequenceResults.ABORTS n else s
  s.modFe n fun f => { f with aborts := if ab then prior + 1 else if together then f.aborts else 0, injEnd := s.now }

/-- A 100 µs window of the injection budget begins where the time base has entered a new one: the protection requests that
waited for it run first (R283, R284). -/
def State.injWindow (s : State) (n : Nat) : State :=
  let k := s.base / 100000
  let f := s.fe n
  if f.winIdx = k then s
  else
    let (run, used) := protFit (k - f.winIdx - 1) 0 (f.injQ.filter fun q => q.src == 1)
    let s := s.modFe n fun f => { f with winIdx := k, winProt := used, winShared := 0
                                         injQ := run.foldl (fun l q => l.erase q) f.injQ }
    run.foldl (fun (s : State) q => s.injRun n q.count (q.who == 1)) s

/-- Protection, the insulation monitor or the housekeeping round injects `count` conversions: at once where the window's 8 allow
it and no earlier such request waits, else in a later window; it is never refused (R284). -/
def State.injProt (s : State) (n input count : Nat) (aborted : Bool) : State :=
  let s := s.injWindow n
  let f := s.fe n
  if 8 < f.winProt + count ∨ f.injQ.any (fun q => q.src == 1) = true then
    s.modFe n fun f => { f with injQ := f.injQ ++ [⟨1, b2n aborted, input, count⟩] }
  else (s.modFe n fun f => { f with winProt := f.winProt + count }).injRun n count aborted

/-- A time trigger or a control channel asks for injected conversions: refused beyond the window's budget or the queue of
its source (R284). -/
def State.injRequest (s : State) (n src who input count : Nat) : State × Bool :=
  let s := s.injWindow n
  let f := s.fe n
  if 12 < f.winShared + count ∨ 4 ≤ (f.injQ.filter fun q => q.src == src).length ∨ f.up = false then
    ((s.bump SequenceResults.INJECT_REFUSED n).wrB SequenceResults.INJECT_REFUSED_SEEN n true, false)
  else
    (s.modFe n fun f => { f with winShared := f.winShared + count, injQ := f.injQ ++ [⟨src, who, input, count⟩] }, true)

/-! ### System calibration (R285 to R288) -/

/-- The procedure of a string ends; a step still unanswered is refused with `st`. -/
def State.calEnd (s : State) (n st : Nat) : State :=
  match (s.fe n).cal with
  | none => s
  | some c => (s.modFe n fun f => { f with cal := none }).answerOpt c.rid st []

/-- A session that closes, or the end of SERVICE, abandons a procedure without effect (R285). -/
def State.calAbandon (s : State) (which : Cal → Bool) : State :=
  s.eachStr fun n s =>
    match (s.fe n).cal with
    | some c => if which c then s.calEnd n stState else s
    | none => s

/-- The full scale of a target in its APPLIED unit as a fraction: mA for the coulomb converter, mV for an input. -/
def State.calScale (s : State) (n target : Nat) : Fr :=
  if target = 0 then frac 75000000000 (s.rd CoulombConfig.SHUNT_R n)
  else if inputDiff target then fr 1638400 else fr 1638375

/-- The engineering value of one LSB of a target in 10^-6 of its base unit (R288). -/
def State.calUnit (s : State) (n target : Nat) : Fr :=
  if target = 0 then
    frac (75000000000000 * 100000000) (2 ^ 23 * s.rd CoulombConfig.SHUNT_R n * (s.shuntTerm n).toNat)
  else ((inputLsb target).getD (fr 1)).mul (fr 1000)

/-- The first condition of a target under which a step is refused: of an input at COMMIT too (R287). -/
def State.calUnmet (s : State) (n target step : Nat) (c : Option Cal) : Option Nat :=
  if target = 0 then
    if step = 1 then
      if !s.mirror n 0 || !s.mirror n 1 || !s.mirror n 2 then some 0x0801
      else if s.rdB CoulombStatus.WARMUP n then some 0x0802
      else none
    else none
  else if !s.rdB SequenceResults.REF_SETTLED n then some 0x0803
  else
    match c with
    | some k => if (k.low.isSome || k.high.isSome) && decide (k.refSel ≠ some (s.fe n).refIn) then some 0x0803 else none
    | none => none

/-- APPLIED is outside what R287 takes. -/
def State.calRange (s : State) (n target step : Nat) (applied : Int) (c : Option Cal) : Bool :=
  if step = 1 then decide (target = 0) && decide (applied ≠ 0)
  else if step = 2 then
    let low : Int := match c with
      | some k => (k.low.map (·.applied)).getD 0
      | none => 0
    (fr (applied - low)).abs.lt ((s.calScale n target).mul (frac 1 5))
  else false

/-- The coefficients of the points held: offset in LSB and gain in 2^-30; none where the gain is undefined (R288). -/
def calCoeffs (off : Int) (gain : Nat) (low high : Option CalPoint) : Option (Int × Int) :=
  let unit (p : CalPoint) : Fr := frac p.num p.den
  let a (p : CalPoint) : Fr := fr (p.applied * 1000)
  let offset (l : CalPoint) (g : Fr) (u : Fr) : Int := roundDiv ((fr l.mean).sub ((a l).div (u.mul g))).n
    ((fr l.mean).sub ((a l).div (u.mul g))).d
  match low, high with
  | some l, some h =>
    if h.mean = l.mean then none
    else
      let g := ((a h).sub (a l)).div ((fr (h.mean - l.mean)).mul (unit h))
      if g.n = 0 then none else some (offset l g (unit h), roundDiv (g.n * 2 ^ 30) g.d)
  | some l, none => some (offset l (frac gain (2 ^ 30)) (unit l), gain)
  | none, some h =>
    if h.mean = off then none
    else
      let g := (a h).div ((fr (h.mean - off)).mul (unit h))
      some (off, roundDiv (g.n * 2 ^ 30) g.d)
  | none, none => none

/-- The effect of an accepted step. -/
def State.calStep (s : State) (n target step : Nat) (applied : Int) (rid : Rid) : State × Reply :=
  let c : Cal := match (s.fe n).cal with
    | some c => c
    | none => ⟨rid.sess, target, none, none, none, s.now, none, none⟩
  if step ≤ 2 then
    -- a capture that failed has left no point: the reference of the first point kept counts
    let ref := if c.low.isSome || c.high.isSome then c.refSel else none
    let c := { c with lastStep := s.now, rid := some rid, capture := some ⟨step, applied, s.now, 0, 0, 0⟩,
                      refSel := some (ref.getD (s.fe n).refIn) }
    (s.modFe n fun f => { f with cal := some c }, .later)
  else if step = 4 then (s.calEnd n stState, .now stOk [])
  else
    let k := calEntry target (s.fe n).refIn
    match calCoeffs (s.rdI Calibration.CAL_OFFSET n k) (s.rd Calibration.CAL_GAIN n k) c.low c.high with
    | none => (s, .now stCondition (condDetail 0x0805 n))
    | some (off, gain) =>
      if gain < 0x3CCCCCCD ∨ 0x43333333 < gain then (s, .now stCondition (condDetail 0x0805 n))
      else
        let cells := [cell Calibration.CAL_OFFSET n (ofInt 32 off) k, cell Calibration.CAL_GAIN n gain.toNat k]
        let s := s.modFe n fun f => { f with cal := none }
        (s.journal rid cells [] (toLE 4 (ofInt 32 off) ++ toLE 4 gain.toNat ++ [k, 0, 0, 0]), .later)

/-- START_CALIBRATION with the step `want`; a payload with another valid step is another command (R285, R287). -/
def State.calibrate (s : State) (t : Nat) (r : Req) (p : Bytes) (want : Nat) : State :=
  let step := nth 0 p 2
  if p.length = 8 ∧ 1 ≤ step ∧ step ≤ 4 ∧ step ≠ want then s.at t
  else
    s.serve t r 0x0044 (p.length == 8) 3 fun rid _ s =>
      let n := nth 0 p 0
      let target := nth 0 p 1
      let applied := toInt 32 (field p 4 4)
      let c := (s.fe n).cal
      let unmet := s.calUnmet n target step c
      let points := match c with
        | some k => k.low.isSome || k.high.isSome
        | none => false
      guarded [(decide (s.security ≠ 2), stState, []), (!s.hasStr n, stAbsent, []),
        (decide (step = 0 ∨ 4 < step), refOff stRange 2), (decide (5 < target), refOff stRange 1),
        (s.calRange n target step applied c, refOff stRange 4),
        (decide (step ≤ 3) && unmet.isSome, refCond (unmet.getD 0) n),
        (decide (step = 3) && s.inHoldup, refCond 0x0207),
        (decide (step = 3) && !points, refCond 0x0806 n),
        ((match c with
          | some k => decide (k.sess ≠ rid.sess) || decide (k.target ≠ target) || (k.capture.isSome && decide (step ≠ 4))
          | none => false), stBusy, [])] s fun s => s.calStep n target step applied rid

/-- STEP 1: the LOW point is captured (R286). -/
def execCalLowPoint (t : Nat) (r : Req) (p : Bytes) (s : State) : Host.Outcome State Fault Refusal :=
  .next (s.calibrate t r p 1)

/-- STEP 2: the HIGH point is captured (R286). -/
def execCalHighPoint (t : Nat) (r : Req) (p : Bytes) (s : State) : Host.Outcome State Fault Refusal :=
  .next (s.calibrate t r p 2)

/-- STEP 3: the coefficients are computed and stored (R288). -/
def execCalCommit (t : Nat) (r : Req) (p : Bytes) (s : State) : Host.Outcome State Fault Refusal :=
  .next (s.calibrate t r p 3)

/-- STEP 4: the procedure ends without effect (R285). -/
def execCalAbort (t : Nat) (r : Req) (p : Bytes) (s : State) : Host.Outcome State Fault Refusal :=
  .next (s.calibrate t r p 4)

/-- A capture of 1 s ends and its step is answered; a point with too large a spread is not kept (R286, R287). -/
def execCalCaptureEnd (t str : Nat) (s : State) : Host.Outcome State Fault Refusal :=
  let s := s.at t
  .next (match (s.fe str).cal with
  | none => s
  | some c =>
    match c.capture with
    | none => s
    | some k =>
      if !s.hasStr str || decide (s.now < k.from_ + secs 1) then s
      else
        let mean := roundDiv k.sum k.n
        let dev := isqrt 44 ((k.n * k.sumSq - k.sum * k.sum).toNat) 0
        let spread := (roundDiv dev k.n).toNat
        let full := if c.target = 0 then 2 ^ 23 else if inputDiff c.target then 2 ^ 15 else 2 ^ 16
        let limit := if c.target = 0 then full else full / 2
        let rid := c.rid
        let done (c : Cal) : State := s.modFe str fun f => { f with cal := some { c with capture := none, rid := none } }
        if limit < spread * 1000 ∨ k.n = 0 then (done c).answerOpt rid stCondition (condDetail 0x0804 str)
        else
          let u := s.calUnit str c.target
          let pt : CalPoint := ⟨k.applied, mean, u.n.toNat, u.d⟩
          let c := if k.step = 1 then { c with low := some pt } else { c with high := some pt }
          (done c).answerOpt rid stOk (timeBytes (s.clk.base k.from_) ++ timeBytes s.base ++ toLE 4 (ofInt 32 mean)
            ++ toLE 4 spread))

/-- 10 min without a step abandon a procedure (R285). -/
def execCalTimeout (t str : Nat) (s : State) : Host.Outcome State Fault Refusal :=
  let s := s.at t
  .next (match (s.fe str).cal with
  | some c => if s.hasStr str = true ∧ c.lastStep + secs 600 ≤ s.now then s.calEnd str stState else s
  | none => s)

/-! ### Insulation monitor (R289 to R292, R368) -/

/-- A result is judged on a string: ISO_WARNING, and the count towards ISO_TRIP; true when it trips (R368). -/
def State.judgeIso (s : State) (n r : Nat) : State × Bool :=
  if !s.hasProf n then (s, false)
  else
    let low := decide (r < s.prof n 0x40 4)
    let was := bitOf (s.rd ProtectionStatus.WARN n) 0
    let s := s.wr ProtectionStatus.WARN n (setBit (s.rd ProtectionStatus.WARN n) 0 low)
    let s := if low && !was then s.record 0x0B07 2 (toLE 4 r) n else s
    let trip := s.prof n 0x44 4
    let run := if decide (trip ≠ 0) && decide (r < trip) then (s.prot n).isoRun + 1 else 0
    let s := s.modProt n fun p => { p with isoRun := run }
    (s, decide (0 < run) && decide (run = max 1 (s.prof n 0x48 1)))

/-- A result is reported on one string (R289, R290). -/
def State.isoResult (s : State) (n r x cy half : Nat) (group : Bool) : State :=
  let s := s.wr InsulationStatus.R_ISO n (max 10000 (min 50000000 r))
  let s := (s.wrB InsulationStatus.UNDER_RANGE n (decide (r < 10000))).wrB InsulationStatus.OVER_RANGE n (decide (50000000 < r))
  let end_ (num den : Nat) : Nat := if den = 0 then 50000000 else max 10000 (min 50000000 (num * 10000 / den))
  let s := (s.wr InsulationStatus.R_ISO_POS n (end_ r x)).wr InsulationStatus.R_ISO_NEG n (end_ r (10000 - x))
  let s := s.wr InsulationStatus.C_Y n cy
  let s := s.wr InsulationStatus.FAULT_POSITION n (if 5000000 < r then 0xFFFF else x)
  let s := (s.wrB InsulationStatus.SLOW_SETTLE n (decide (2500 < half))).wr InsulationStatus.RESULT_PERIOD n (half / 50)
  let s := (s.wrB InsulationStatus.BUS_GROUP n group).wrB InsulationStatus.VALID n true
  (s.stamp InsulationStatus.RESULT_TIME n).bump InsulationStatus.RESULTS n

/-- A measuring cycle of two halves of `half` ms ends on the string that measures: R_ISO in Ω, x in 0.01 %, C_Y in nF;
`ok` is false where the monitor fails its self-check (R289 to R291, R368). -/
def execImdCycleEnd (t str rIso x cy half : Nat) (ok : Bool) (s : State) : Host.Outcome State Fault Refusal :=
  let s := s.at t
  let q := s.rd InsulationStatus.IMD_STATE str
  .next (if s.hasStr str = true ∧ (q = 1 ∨ q = 2) ∧ 2500 ≤ half ∧ half ≤ 10000 ∧ x ≤ 10000
      ∧ (s.fe str).imdCycleAt + 2 * msec half ≤ s.now then
    let s := s.modFe str fun f => { f with imdCycleAt := s.now, imdFail := !ok }
    if !ok then s.imdSync
    else
      let members := if q = 1 then [str] else s.busGroup.filter fun n => decide (s.rd SequenceConfig.IMD_BUS_ROLE n ≠ 1)
      let r := max 10000 (min 50000000 rIso)
      let s := members.foldl (fun s n => s.isoResult n rIso x cy half (decide (q = 2))) s
      let (s, trips) := members.foldl (fun (a : State × Bool) n =>
        let (s, b) := a.1.judgeIso n r
        (s, a.2 || b)) (s, false)
      let all := if q = 1 then [str] else s.busGroup
      let s := if trips then
          all.foldl (fun s n =>
            s.trip n 9 { TripInfo.plain with value := tripVal r, limit := tripVal (s.prof n 0x44 4) }) s
        else s
      (all.foldl (fun s n => s.refresh n) s).imdSync
  else s)

/-- 10 s after the precharge relay opened, measurement resumes (R292). -/
def execImdPauseEnd (t str : Nat) (s : State) : Host.Outcome State Fault Refusal :=
  let s := s.at t
  .next (match (s.fe str).imdPauseEnd with
  | some e =>
    if s.hasStr str = true ∧ e ≤ s.now then (s.modFe str fun f => { f with imdPauseEnd := none }).imdSync else s
  | none => s)

/-! ### Start (R271) -/

/-- A front-end starts when its link comes up: the accumulator is zeroed, and everything in it runs. -/
def State.startFe (s : State) (n : Nat) : State :=
  let s := s.modFe n fun f => { f with up := true, acc := 0, samples := [], warmEnd := s.now + secs 1200, passFrom := s.now,
                                       imdCycleAt := s.now, seqNext := 0, seqCfg := s.seqConfig n }
  let s := s.modProt n fun p => { p with hbLast := s.now }
  let s := s.stamp CoulombStatus.CHARGE_ZERO_TIME n
  let s := s.wrB CoulombStatus.SYSTEM_CAL n (bitOf (s.rd Calibration.SYSTEM_CAL_MASK n) 0)
  (s.refSwitch n (s.rd SequenceConfig.REF_SEL n)).imdSync

/-! ### Values that age (R293) -/

/-- WARMUP_REMAIN counts down to now. -/
def State.warmNow (s : State) (i : Nat) : State :=
  if s.rdB CoulombStatus.WARMUP i then
    s.wr CoulombStatus.WARMUP_REMAIN i (min 1200 (((s.fe i).warmEnd - s.now + 999999999) / 1000000000))
  else s

/-- The ages of the results of the sequence are those of an instant of the time base. -/
def State.agesNow (s : State) (i at_ : Nat) : State :=
  (List.range 16).foldl (fun s e =>
    if s.rdB SequenceResults.VALID i e then
      s.wr SequenceResults.AGE i (min 0xFFFF ((at_ - nth 0 (s.fe i).valAt e) / 1000)) e
    else s) s

end Sys2Proof.Machine
end

