-- ==== Sys2Proof/Machine/Thermal.lean ====
section
/-! DEFINITION. Temperatures (chapter 14): the housekeeping round, the levels of the dies, HVAC requests and the caldera
latch. -/

namespace Sys2Proof.Machine

open Sys2Proof.Obj

/-! ### Die sensors (R391 to R396) -/

/-- The dies beside a die on the interposer (Table 14.2). -/
def dieNeighbours (d : Nat) : List Nat :=
  match d with
  | 0 => [1, 2, 5]
  | 1 => [0, 3, 4]
  | 2 => [0, 3]
  | 3 => [1, 2]
  | 4 => [1, 5, 6]
  | 5 => [0, 4, 7]
  | 6 => [4, 7]
  | 7 => [5, 6]
  | _ => []

/-- A converter reading within the range of R391. -/
def sensorReading (x : Round) (d j : Nat) : Option Int :=
  match nth none (nth [] x.dies d) j with
  | some v => if -5000 ≤ v ∧ v ≤ 15000 then some v else none
  | none => none

/-- Sensor `j` of die `d` has failed (R392). -/
def State.sensorFailed (s : State) (d j : Nat) : Bool := bitOf (s.rd ThermalStatus.SENSOR_FAILED d) j

/-- The neighbour set of a sensor: the valid readings of the other sensors of its die and of the dies beside it (R392). -/
def State.neighbourSet (s : State) (x : Round) (d j : Nat) : List Int :=
  let of_ (e k : Nat) : Option Int := if s.sensorFailed e k then none else sensorReading x e k
  let own := ([0, 1, 2, 3].filter (· ≠ j)).filterMap fun k => of_ d k
  let near := ((dieNeighbours d).filter fun e => s.hasDie e).map fun e => [0, 1, 2, 3].filterMap fun k => of_ e k
  own ++ near.flatten

/-- A sensor fails and stays failed until the next start (R392); `ref` is M_j, none where none was formed. -/
def State.failSensor (s : State) (d j : Nat) (reading ref : Option Int) : State :=
  let s := s.wr ThermalStatus.SENSOR_FAILED d (setBit (s.rd ThermalStatus.SENSOR_FAILED d) j true)
  let s := s.bump ThermalStatus.SENSOR_FAILS d
  let w (v : Option Int) : Bytes := toLE 2 (match v with
    | some i => satInt 16 i
    | none => 0x8000)
  s.record 0x0C05 3 ([d, j] ++ w reading ++ w ref)

/-- The sensors of every die are read and cross-checked (R391, R392). -/
def State.sensorRound (s : State) (x : Round) : State :=
  let all := (s.dieList.map fun d => [0, 1, 2, 3].map fun j => (d, j)).flatten
  let s := all.foldl (fun s (d, j) =>
    match sensorReading x d j with
    | some v => s.wrI ThermalStatus.SENSOR_T d v j
    | none =>
      let s := s.wr ThermalStatus.SENSOR_T d 0x8000 j
      if s.sensorFailed d j then s else s.failSensor d j none none) s
  let base := s
  all.foldl (fun s (d, j) =>
    if base.sensorFailed d j then s
    else
      let set_ := base.neighbourSet x d j
      match sensorReading x d j with
      | none => s
      | some v =>
        let m2 := median2 set_
        if !set_.isEmpty && decide (1600 < (2 * v - m2).natAbs) then s.failSensor d j (some v) (some (roundDiv m2 2)) else s) s

/-- SENSOR_USED and T_CONTROL of a die (R393). -/
def State.controlTemp (s : State) (x : Round) (d : Nat) : State :=
  let sub (j : Nat) : Int × Bool :=
    match s.neighbourSet x d j with
    | [] => (11500, true)
    | v :: vs => (vs.foldl max v + 500, false)
  let used := [0, 1, 2, 3].map fun j =>
    if s.sensorFailed d j then sub j else ((sensorReading x d j).getD 0, false)
  let s := used.zipIdx.foldl (fun s (v, j) => s.wrI ThermalStatus.SENSOR_USED d v.1 j) s
  let s := s.wrB ThermalStatus.NO_NEIGHBOUR d (used.any (·.2))
  let s := s.wrI ThermalStatus.T_CONTROL d (used.foldl (fun m v => max m v.1) (-32767))
  let good := [0, 1, 2, 3].filterMap fun j => if s.sensorFailed d j then none else sensorReading x d j
  let s := s.wr ThermalStatus.VALID_SENSORS d good.length
  match good with
  | [] => s.wr DieStatus.DIE_TEMP_MAX d 0x8000
  | v :: vs => s.wrI DieStatus.DIE_TEMP_MAX d (vs.foldl max v)

/-- The breather fraction of a temperature at the throttle level, in 0.1 % (R396). -/
def breathers (tc : Int) : Nat := min 800 (max 40 (roundDiv ((tc - 10500) * 80) 100).toNat)

/-- The levels of a die at a round; the throttle level is set and cleared by T_CONTROL while LEVEL reads 3 too (R394 to R396). -/
def State.dieLevel (s : State) (d : Nat) : State :=
  let tc := s.rdI ThermalStatus.T_CONTROL d
  let old := s.rd ThermalStatus.LEVEL d
  let lostNow := decide (s.rd ThermalStatus.VALID_SENSORS d < 2)
  let lost := old == 3 || lostNow
  let was := (s.die d).hot
  let hot := decide (10500 ≤ tc) || (was && decide (10000 ≤ tc))
  let warm := hot || decide (9500 ≤ tc) || (decide (1 ≤ old) && decide (9000 ≤ tc))
  let new := if lost then 3 else if hot then 2 else if warm then 1 else 0
  let tcB := [d] ++ toLE 2 (satInt 16 tc)
  let s := if 2 ≤ old then s.bump ThermalStatus.THROTTLE_TIME d else s
  let s := if 1 ≤ new ∧ old = 0 then s.record 0x0C01 2 tcB else s
  let s := s.modDie d fun x => { x with hot := hot }
  let s := if hot && !was then
      ((s.bump ThermalStatus.THROTTLE_ENTRIES d).modDie d fun x => { x with throttleSince := some s.now }).record 0x0C03 2 tcB
    else s
  let s := if new = 3 ∧ old < 3 then
      (s.wrB ThermalStatus.SENSORS_LOST d true).record 0x0C06 3 [d]
    else s
  let s := if was && !hot then
      let since := (s.die d).throttleSince.getD s.now
      (s.modDie d fun x => { x with throttleSince := none }).record 0x0C04 1 ([d] ++ toLE 4 ((s.now - since) / 1000000000))
    else s
  let s := if 1 ≤ old ∧ new = 0 then s.record 0x0C02 1 tcB else s
  let f := if lost then 800 else if hot then breathers tc else 0
  ((s.wr ThermalStatus.LEVEL d new).wr ThermalStatus.BREATHER_FRACTION d f).wr DieStatus.BREATHER_FRACTION d f

/-! ### Board, air and front-ends (R277, R282, R403) -/

/-- A temperature that may not be available. -/
def State.wrT (s : State) (f : Fld) (inst : Nat) (v : Option Int) : State :=
  match v with
  | some i => s.wrI f inst i
  | none => s.wr f inst 0x8000

/-- Board and air sensors (R403). -/
def State.boardRound (s : State) (x : Round) : State :=
  let b := [0, 1, 2].map fun k => nth none x.board k
  let s := ((s.wrT ThermalStatus.BOARD_PSU_T 0 (nth none b 0)).wrT ThermalStatus.BOARD_LOGIC_T 0 (nth none b 1)).wrT
    ThermalStatus.BOARD_TAP_T 0 (nth none b 2)
  let s := s.wrT ThermalStatus.AIR_INLET_T 0 x.air
  let was := s.rdB ThermalStatus.BOARD_HOT 0
  let hotAt (v : Option Int) (lim : Int) : Bool := match v with
    | some i => decide (lim ≤ i)
    | none => false
  let hot := b.any (fun v => hotAt v 9000) || (was && b.any fun v => hotAt v 8500)
  let s := s.wrB ThermalStatus.BOARD_HOT 0 hot
  let s := match b.zipIdx.find? fun p => hotAt p.1 9000 with
    | some (v, k) => if hot && !was then s.record 0x0C07 2 ([k + 1] ++ toLE 2 (satInt 16 (v.getD 0))) else s
    | none => s
  s.wrB ThermalStatus.AMBIENT_HIGH 0 (match x.air with
    | some a => decide (6000 < a) || (s.rdB ThermalStatus.AMBIENT_HIGH 0 && decide (5800 ≤ a))
    | none => s.rdB ThermalStatus.AMBIENT_HIGH 0)

/-- SHUNT_DIRECT is compared with the coulomb current at the same instant (R277). -/
def State.mismatchRound (s : State) (n : Nat) (v : Int) (at_ : Nat) : State :=
  match referTo (s.plainOf at_) (s.fe n).samples with
  | none => s
  | some (i, _) =>
    let c := roundDiv (i * s.rd CoulombConfig.SHUNT_R n * s.shuntTerm n) 100000000000000000
    let bad := decide (max c.natAbs 37500 < 100 * (v - c).natAbs)
    let f := s.fe n
    let run := if bad then f.mismRun + 1 else 0
    let ok := if bad then 0 else f.mismOk + 1
    let was := s.rdB CoulombStatus.COULOMB_MISMATCH n
    let s := s.modFe n fun f => { f with mismRun := run, mismOk := ok }
    if !was && decide (3 ≤ run) then
      ((s.wrB CoulombStatus.COULOMB_MISMATCH n true).record 0x0803 3 [] n).setDiag n 1 true
    else if was && decide (3 ≤ ok) then (s.wrB CoulombStatus.COULOMB_MISMATCH n false).setDiag n 1 false
    else s

/-- REF_CHECK under reference 0 or 1: the other reference is to read 2.500 V within 0.3 % (R282). -/
def State.refRound (s : State) (n : Nat) (v : Int) : State :=
  if 2 ≤ (s.fe n).refIn then s
  else
    let bad := decide (7500 < (v - 2500000).natAbs)
    let run := if bad then (s.fe n).refRun + 1 else 0
    let s := s.modFe n fun f => { f with refRun := run }
    if 3 ≤ run ∧ s.rdB SequenceResults.REF_FAULT n = false then
      ((s.wrB SequenceResults.REF_FAULT n true).record 0x0802 3 [] n).setDiag n 2 true
    else s

/-- The round's injections on a string's converter: four conversions of SHUNT_DIRECT, one of each of the others (R277, R284). -/
def State.feInject (s : State) (n : Nat) (x : FeRound) : State :=
  let one (s : State) (b : Bool) (input count : Nat) : State := if b then s.injProt n input count true else s
  one (one (one (one s x.direct.isSome 0x0B 4) x.refCheck.isSome 0x0D 1) x.feTemp.isSome 0x0A 1) x.shuntTemp.isSome 9 1

/-- What the round reads of a string's front-end; results of an unsettled reference reach nothing, the last settled ones
staying in use (R282). -/
def State.feRound (s : State) (n : Nat) (x : FeRound) : State :=
  if !(s.fe n).up then s
  else
    let s := s.feInject n x
    if !s.rdB SequenceResults.REF_SETTLED n then s
    else
      let s := s.modFe n fun f => { f with tShunt := x.shuntTemp }
      let s := s.wrT StringTerminals.SHUNT_TEMP n x.shuntTemp
      let s := match x.direct with
        | some (v, at_) => s.mismatchRound n v at_
        | none => s
      match x.refCheck with
      | some v => s.refRound n v
      | none => s

/-! ### HVAC (R405 to R407) -/

/-- The T_p of every present and enabled string, without the assumed ones. -/
def State.cellTemps (s : State) : List Int :=
  ((s.strList.filter fun n => s.enabled n).map fun n =>
    (s.str n).est.pos.filterMap fun p =>
      let (t, _, assumed) := s.posTemp n p.node p.chan
      if assumed then none else some t).flatten

/-- Some die is at the warning level. -/
def State.dieWarning (s : State) : Bool := s.dieList.any fun d => decide (1 ≤ s.rd ThermalStatus.LEVEL d)

/-- The data field of an HVAC request of a mode (Table 14.7). -/
def State.hvacBytes (s : State) (mode seq : Nat) : Bytes :=
  let w (v : Option Int) : Bytes := toLE 2 (match v with
    | some i => satInt 16 i
    | none => 0x8000)
  let derating := s.strList.any fun n => decide (nth 1000000000 s.thermal.fTherm n < 1000000000)
  let flags := 16 * s.rd HvacConfig.CONFLICT + 8 * s.rd HvacConfig.TEMP_UNKNOWN + 4 * b2n derating
    + 2 * s.rd ThermalStatus.BOARD_HOT 0 + b2n s.dieWarning
  let dieMax := s.dieList.foldl (fun (m : Option Int) d =>
    let v := s.rd ThermalStatus.T_CONTROL d
    if v = 0x8000 then m
    else
      let i := toInt 16 v
      some (match m with
        | some k => max k i
        | none => i)) none
  [mode, flags, seq, s.rd ModuleIdentity.BLOCK_ID] ++ w s.thermal.tMax ++ w s.thermal.tMin ++ w s.thermal.tMean
    ++ toLE 2 (s.rd ThermalStatus.AIR_INLET_T 0) ++ toLE 2 (nth 0 s.thermal.hvac 3) ++ w dieMax

/-- An HVAC request of a mode goes to CAN 1, where HVAC_OBJECT is a 16-byte transmit object (R406). -/
def State.hvacSend (s : State) (mode : Nat) : State :=
  if !s.ownersRun then s
  else
    let o := nth 0xFFFF s.thermal.hvac 1
    let fits := s.canFit o 1 fun l => l == 16
    let s := s.wrB HvacConfig.HVAC_CFG_FAULT 0 (!fits)
    let s := { s with thermal := { s.thermal with hvacLast := some s.now } }
    if !fits then s
    else
      let seq := (s.thermal.hvacSeq + 1) % 256
      let s := { s with thermal := { s.thermal with hvacSeq := seq } }
      (s.bump HvacConfig.HVAC_SENT).canContent o (s.hvacBytes mode seq)

/-- HVAC_MODE changes and is recorded (R405). -/
def State.setHvac (s : State) (mode : Nat) : State :=
  let old := s.rd HvacConfig.HVAC_MODE
  if old = mode then s
  else
    let w (v : Option Int) : Bytes := toLE 2 (match v with
      | some i => satInt 16 i
      | none => 0x8000)
    (s.wr HvacConfig.HVAC_MODE 0 mode).record 0x0C08 1 ([old, mode] ++ w s.thermal.tMax ++ w s.thermal.tMin)

/-- An enabled channel drives the HVAC request (R422). -/
def State.hvacChannel (s : State) : Bool :=
  s.chanList.any fun c => s.rdB ChannelConfig.ENABLE c && decide (s.rd ChannelConfig.OUTPUT_KIND c = 6)

/-- The HVAC mode is decided at a round (R405), and a change of it is sent at once (R406). With no valid cell temperature the mode is
kept; a demand that a die warning makes begins all the same. -/
def State.hvacRound (s : State) : State :=
  let s := s.hvacTake
  let ts := s.cellTemps
  let warn := s.dieWarning && s.rdB HvacConfig.DIE_WARN_COOL
  match ts with
  | [] =>
    let th := s.thermal
    let cool := th.cool || warn
    let s := { s with thermal := { th with cool := cool, tMax := none, tMin := none, tMean := none } }
    (s.wrB HvacConfig.TEMP_UNKNOWN 0 true).wrB HvacConfig.CONFLICT 0 (cool && th.heat)
  | v :: vs =>
    let hi := vs.foldl max v
    let lo := vs.foldl min v
    let th := s.thermal
    let cool := if th.cool then decide (s.rdI HvacConfig.COOL_OFF ≤ hi) || warn
      else decide (s.rdI HvacConfig.COOL_ON ≤ hi) || warn
    let heat := if th.heat then decide (lo ≤ s.rdI HvacConfig.HEAT_OFF) else decide (lo ≤ s.rdI HvacConfig.HEAT_ON)
    let mode := if cool then 1 else if heat then 2 else 0
    let old := s.rd HvacConfig.HVAC_MODE
    let mean := roundDiv (sumI ts) ts.length
    let s := { s with thermal := { th with cool := cool, heat := heat, tMax := some hi, tMin := some lo, tMean := some mean } }
    let s := (s.wrB HvacConfig.TEMP_UNKNOWN 0 false).wrB HvacConfig.CONFLICT 0 (cool && heat)
    if s.rd HvacConfig.HVAC_SOURCE = 1 ∧ s.hvacChannel = true then s
    else
      let s := s.setHvac mode
      if mode ≠ old ∧ s.rd HvacConfig.HVAC_SOURCE = 0 then s.hvacSend mode else s

/-! ### The commands -/

/-- The housekeeping round of a whole second of the time base (R390). -/
def execHousekeepingRound (t : Nat) (x : Round) (s : State) : Host.Outcome State Fault Refusal :=
  let s := s.at t
  let k := s.base / 1000000000
  .next (if s.running = true ∧ s.security ≠ 5 ∧ s.thermal.lastRound ≠ some k then
    let s := { s with thermal := { s.thermal with lastRound := some k } }
    let s := s.dieList.foldl (fun s d =>
      (s.wr ThermalStatus.LAST_ROUND_TIME d (timeVal (k * 1000000000))).wr DieStatus.VCORE d (nth 0xFFFF x.vcore d)) s
    let s := s.sensorRound x
    let s := s.dieList.foldl (fun s d => (s.controlTemp x d).dieLevel d) s
    let s := (s.wrB PowerStatus.THROTTLE_ACTIVE 0
      (s.dieList.any fun d => decide (2 ≤ s.rd ThermalStatus.LEVEL d))).powerDerive
    let s := s.boardRound x
    let s := s.eachStr fun n s => match x.fes[n]? with
      | some f => s.feRound n f
      | none => s
    s.hvacRound
  else s)

/-- The request of every HVAC_PERIOD (R406). -/
def execHvacRequest (t : Nat) (s : State) : Host.Outcome State Fault Refusal :=
  let s := s.at t
  let due := match s.thermal.hvacLast with
    | none => true
    | some l => decide (l + msec (nth 1000 s.thermal.hvac 2) ≤ s.now)
  .next (if s.running = true ∧ nth 2 s.thermal.hvac 0 = 0 ∧ due = true then s.hvacSend (s.rd HvacConfig.HVAC_MODE) else s)

/-- Every TPO line is driven low (R430, R474). -/
def State.linesLow (s : State) : State :=
  s.pouts.zipIdx.foldl (fun s (p, k) =>
    let s := if p.active ≠ 0 then s.send (.pulse k 0 s.base) else s
    { s with pouts := setNth { p with active := 0, pulseEnd := none } s.pouts k }) s

/-- The dies halt: the mailbox, its sessions and the ports are gone, and stored writes under way are left to the journal
(R401). -/
def State.haltDies (s : State) : State :=
  let s := s.cutSlot
  let cut := !s.mbx.journal.isEmpty
  let er := s.mbx.journal.any (·.erase)
  let s := { s with nv := { s.nv with programCut := s.nv.programCut || cut, eraseCut := s.nv.eraseCut || er },
                    boot := { s.boot with halt := true }, mbx := .init,
                    hist := { s.hist with run := false }, panel := { s.panel with lit := false } }
  s.linesLow

/-- A caldera comparator of a die trips, or at a power-up a release comparator reads 90 °C or more: the latch is set, every
coil is switched off without a trip record, SAFE LOOP OUT opens, and the dies halt (R400 to R402, Table 14.6). -/
def execCalderaTrip (t die sensor : Nat) (s : State) : Host.Outcome State Fault Refusal :=
  let s := s.at t
  .next (if s.power.powered = true ∧ s.hasDie die = true then
    let th := s.thermal
    let s := { s with thermal := { th with first := some (th.first.getD (die, sensor)), mask := setBit th.mask die true,
                                           coolSince := some s.now } }
    if th.first.isSome then s
    else
      let s := s.eachStr fun n s =>
        let q := s.seqState n
        let s := s.allOff n
        if q = seqTripped then s else s.wr ProtectionStatus.SEQ_STATE n seqOpen
      s.haltDies.loopOut
  else s)

/-- The release comparators of every die in the latch's mask have all read below 90 °C since `since`: after 60 s, and no
trip in them, the latch is released and the module starts (R402). -/
def execCalderaRelease (t since : Nat) (s : State) : Host.Outcome State Fault Refusal :=
  let s := s.at t
  .next (match s.thermal.first with
  | none => s
  | some (d, _) =>
    if s.power.powered = true ∧ s.thermal.coolSince.getD 0 ≤ since ∧ since + secs 60 ≤ s.now then
      let cover := s.panel.cover
      let s := { s with thermal := .init }
      (s.clearRun (keepMeasured s.objs measuredModule measuredString)).beginStart 4 d cover
    else s)

end Sys2Proof.Machine
end

