-- ==== Sys2Proof/Machine/Control.lean ====
section
/-! DEFINITION. The control engine (chapter 15): sample instants, inputs, the hysteretic laws, soft-start ramps, outputs,
deadlines, safe output, mode groups and hand-over, and the checks of a configuration. -/

namespace Sys2Proof.Machine

open Sys2Proof.Obj

/-! ### Instants (R411) -/

/-- PERIOD and PHASE of a channel's schedule in ns. -/
def State.chPeriod (s : State) (c : Nat) : Nat := usec (s.rd ChannelConfig.PERIOD c)
@[inherit_doc State.chPeriod] def State.chPhase (s : State) (c : Nat) : Nat := usec (s.rd ChannelConfig.PHASE c)

/-- PERIOD, DEADLINE and the age limit as a channel's samples use them, in ns. -/
def State.chPer (s : State) (c : Nat) : Nat := usec (s.cc ChannelConfig.PERIOD c)
@[inherit_doc State.chPer] def State.chDeadline (s : State) (c : Nat) : Nat :=
  let d := s.cc ChannelConfig.DEADLINE c
  if d = 0 then s.chPer c else usec d
@[inherit_doc State.chPer] def State.chAge (s : State) (c : Nat) : Nat :=
  let d := s.cc ChannelConfig.INPUT_MAX_AGE c
  if d = 0 then s.chPer c else usec d

/-- CHANNEL_STATE. -/
def State.chState (s : State) (c : Nat) : Nat := s.rd ChannelStatus.CHANNEL_STATE c

/-- The newest instant of the schedule at or before `t`, where the schedule has begun. -/
def State.chInstant (s : State) (c t : Nat) : Option Nat :=
  let p := s.chPeriod c
  let ph := s.chPhase c
  if t < ph ∨ p = 0 then none
  else
    let tm := (t - ph) / p * p + ph
    if tm < (s.chan c).from_ then none else some tm

/-- The first instant of the schedule at or after `t`. -/
def State.chFirst (s : State) (c t : Nat) : Nat :=
  let p := s.chPeriod c
  let ph := s.chPhase c
  if t ≤ ph then ph else ph + (t - ph + p - 1) / p * p

/-! ### Inputs (R412, R413) -/

/-- An input kind of a string: scalar, or a position vector (Table 15.2). -/
def stringKind (k : Nat) : Bool := (decide (1 ≤ k) && decide (k ≤ 0x0A)) || decide (k = 0x0D) || decide (k = 0x0E)
@[inherit_doc stringKind] def vectorKind (k : Nat) : Bool := decide (0x10 ≤ k) && decide (k ≤ 0x12)

/-- What an input gives at an instant: a value in 10^-6 of its unit, nothing, or not yet. -/
inductive InVal where
  | val (v : Int)
  | missing
  | waits
  deriving DecidableEq, Repr

/-- A value with its own instant is at hand at `tm` and not too old (R413). -/
def State.aged (s : State) (c tm at_ : Nat) (v : Option Int) : InVal :=
  match v with
  | some i => if at_ ≤ tm ∧ tm ≤ at_ + s.chAge c then .val (i * micro) else .missing
  | none => .missing

/-- A register that reads not available as `na`. -/
def State.regVal (s : State) (f : Fld) (inst na : Nat) : Option Int :=
  if s.rd f inst = na then none else some (if f.signed then s.rdI f inst else (s.rd f inst : Int))

/-- STRING_CURRENT at an instant: the newest sample centred at or before it, or the mean since the instant before, formed
from the charge accumulator, whether or not that instant was missed (R413). -/
def State.currentInput (s : State) (c n tm : Nat) : InVal × Option (Nat × Int) :=
  let p := s.plainOf tm
  let ss := (s.fe n).samples
  let newest : InVal := match ss.find? fun x => decide (x.at_ ≤ p) with
    | some x => if p ≤ x.at_ + s.chAge c then .val (x.i * 1000) else .missing
    | none => .missing
  if s.ccB ChannelConfig.INPUT_FILTER c then
    match referTo p ss with
    | none => (.waits, none)
    | some (_, q) =>
      let prev := (s.chan c).qPrev.bind fun x =>
        if x.1 + s.chPer c = tm then some x else (referTo (s.plainOf (tm - s.chPer c)) ss).map fun y => (tm - s.chPer c, y.2)
      match prev with
      | some (t0, q0) => (.val (roundDiv ((q - q0) * 1000000000000) (65536 * (tm - t0))), some (tm, q))
      | none => (newest, some (tm, q))
  else (newest, none)

/-- What an injected conversion of input `k` that has run gives: its own result where it is settled, else the last settled
result of that input that is at hand, the channel's own or the sequencer's, with its age (R282, R413). -/
def State.settledInput (s : State) (c n k tm : Nat) : InVal :=
  let own := match (s.chan c).injLast with
    | some (m, j, v, a) => if m = n ∧ j = k then some (v, a) else none
    | none => none
  let seq := ((s.fe n).byInput.filter fun x => x.1 == k && decide (x.2.2 ≤ tm)).map (·.2)
  let newest := seq.foldl (fun (m : Option (Int × Nat)) x => match m with
    | some y => if y.2 < x.2 then some x else some y
    | none => some x) own
  match newest with
  | some (v, a) => if tm ≤ a + s.chAge c then .val (v * micro) else .missing
  | none => .missing

/-- The scalar input of a channel at an instant (Table 15.2); those of a string that is not enabled are missing (R5). -/
def State.scalarInput (s : State) (c tm : Nat) : InVal × Option (Nat × Int) :=
  let n := s.cc ChannelConfig.INPUT_STRING c
  let k := s.cc ChannelConfig.INPUT_INDEX c
  let f := s.fe n
  let seq (e : Nat) : InVal := s.aged c tm (nth 0 f.okAt e) (if nth false f.valOk e then some (nth 0 f.vals e) else none)
  let lap (v : Option Int) : InVal := match (s.str n).relAt with
    | some a => s.aged c tm a v
    | none => .missing
  let round (v : Option Int) : InVal := match s.thermal.lastRound with
    | some r => s.aged c tm (r * 1000000000) v
    | none => .missing
  if stringKind (s.cc ChannelConfig.INPUT_KIND c) && !s.enabled n then (.missing, none)
  else match s.cc ChannelConfig.INPUT_KIND c with
  | 0x01 => s.currentInput c n tm
  | 0x02 => (seq 0, none)
  | 0x03 => (seq 1, none)
  | 0x04 => (seq k, none)
  | 0x05 => (match (s.chan c).inj with
      | some true => s.settledInput c n k tm
      | some false => .missing
      | none => .waits, none)
  | 0x06 => (lap (s.regVal StringState.STRING_SOC n 0xFFFF), none)
  | 0x07 => (lap (s.regVal StringState.SOC_MIN n 0xFFFF), none)
  | 0x08 => (lap (s.regVal StringState.SOC_MAX n 0xFFFF), none)
  | 0x09 => (lap (s.str n).relT.1, none)
  | 0x0A => (lap (s.str n).relT.2, none)
  | 0x0B => (round s.thermal.tMax, none)
  | 0x0C => (round s.thermal.tMin, none)
  | 0x0D => (lap ((s.limitOf StringState.CHARGE_LIMIT n).map fun v => (v : Int)), none)
  | 0x0E => (lap ((s.limitOf StringState.DISCHARGE_LIMIT n).map fun v => (v : Int)), none)
  | 0x0F => (round (s.regVal ThermalStatus.AIR_INLET_T 0 0x8000), none)
  | 0x13 => (round (s.regVal ThermalStatus.T_CONTROL k 0x8000), none)
  | _ => (.missing, none)

/-- The channel has a position vector input. -/
def State.isVector (s : State) (c : Nat) : Bool := vectorKind (s.cc ChannelConfig.INPUT_KIND c)

/-- The values of a vector input by position, in 10^-6 of its unit; empty where the released lap is too old. -/
def State.vectorInput (s : State) (c tm : Nat) : List (Option Int) :=
  let n := s.cc ChannelConfig.INPUT_STRING c
  let kind := s.cc ChannelConfig.INPUT_KIND c
  match (s.str n).relAt with
  | none => []
  | some a =>
    if s.enabled n = true ∧ a ≤ tm ∧ tm ≤ a + s.chAge c then
      (s.str n).rel.map fun (_, _, f, r, v) =>
        (if kind = 0x10 then f else if kind = 0x11 then r else v).map fun x => (x : Int) * micro
    else []

/-! ### Regions (R416) -/

/-- The value that selects the region, in whole units; `x` is the channel's own input. -/
def State.regionSource (s : State) (c : Nat) (x : Int) : Option Int :=
  let n := s.cc ChannelConfig.INPUT_STRING c
  let src := s.cc ChannelRegions.REGION_SOURCE c
  if src ≠ 4 ∧ s.enabled n = false then none
  else match src with
  | 1 => s.regVal StringState.STRING_SOC n 0xFFFF
  | 2 => (s.str n).relT.1
  | 3 => (s.fe n).samples.head?.map fun y => roundDiv y.i 1000
  | 4 => some (x / micro)
  | _ => none

/-- The region a value lies in: the last one that begins at or below it. -/
def State.rawRegion (s : State) (c : Nat) (v : Int) : Nat :=
  (List.range (s.cc ChannelRegions.REGION_COUNT c)).foldl (fun r k =>
    if k ≠ 0 ∧ s.ccI ChannelRegions.LOWER c k ≤ v then k else r) 0

/-- The region in force at a sample. -/
def State.regionNow (s : State) (c : Nat) (x : Int) : Nat :=
  let cur := s.rd ChannelStatus.REGION c
  if s.cc ChannelRegions.REGION_SOURCE c = 0 then 0
  else
    match s.regionSource c x with
    | none => cur
    | some v =>
      let raw := s.rawRegion c v
      let h : Int := s.cc ChannelRegions.REGION_HYST c
      if (s.chan c).reselect then raw
      else if cur < raw then
        if cur + 1 < raw ∨ s.ccI ChannelRegions.LOWER c raw + h ≤ v then raw else cur
      else if raw < cur then
        if raw + 1 < cur ∨ v ≤ s.ccI ChannelRegions.LOWER c cur - h then raw else cur
      else cur

/-- B and S of the region in force, in 10^-6. -/
def State.band (s : State) (c : Nat) : Int := (s.cc ChannelRegions.BAND c (s.rd ChannelStatus.REGION c) : Int) * micro
@[inherit_doc State.band] def State.stepS (s : State) (c : Nat) : Int :=
  (s.cc ChannelRegions.STEP c (s.rd ChannelStatus.REGION c) : Int) * micro

/-! ### The laws (R414, Table 15.3) -/

/-- The output a scalar law gives from `y` at an error `e`. -/
def lawOut (relay pol : Bool) (b st low high e y : Int) : Int :=
  match relay, pol with
  | true, false => if e < -b then high else if b ≤ e then low else y
  | true, true => if e ≤ -b then low else if b < e then high else y
  | false, false => if e < -b then y + st else if b < e then y - st else y
  | false, true => if e < -b then y - st else if b < e then y + st else y

/-- The law of a channel from an output. -/
def State.chLaw (s : State) (c : Nat) (e y : Int) : Int :=
  lawOut (decide (s.cc ChannelConfig.LAW c = 0)) (s.ccB ChannelConfig.POLARITY c) (s.band c) (s.stepS c)
    (s.ccI ChannelConfig.OUT_LOW c * micro) (s.ccI ChannelConfig.OUT_HIGH c * micro) e y

/-- OUT_MIN to OUT_MAX. -/
def State.outRange (s : State) (c : Nat) (y : Int) : Int :=
  clampI (s.ccI ChannelConfig.OUT_MIN c * micro) (s.ccI ChannelConfig.OUT_MAX c * micro) y

/-- The clamp of R419 where one applies. -/
def State.outClamp (s : State) (c : Nat) (y : Int) : Int :=
  if s.cc ChannelConfig.OUTPUT_KIND c = 3 then
    let (lo, hi) := s.convClamp (s.cc ChannelConfig.OUTPUT_STRING c)
    clampI (lo * micro) (hi * micro) y
  else y

/-- The applied output that follows from `old` when the law gives `y`: range, slew, clamp; and whether it is limited
(R414, R419). -/
def State.applied (s : State) (c : Nat) (old y : Int) : Int × Bool :=
  let y := s.outRange c y
  let slew : Int := s.cc ChannelConfig.OUTPUT_SLEW c * s.cc ChannelConfig.PERIOD c
  let y := if slew = 0 then y else clampI (old - slew) (old + slew) y
  let z := s.outClamp c y
  let was := s.rdB ChannelStatus.OUTPUT_LIMITED c
  let edge := if s.cc ChannelConfig.OUTPUT_KIND c = 3 then
      let (lo, hi) := s.convClamp (s.cc ChannelConfig.OUTPUT_STRING c)
      decide (z = lo * micro) || decide (z = hi * micro)
    else false
  (z, decide (z ≠ y) || (was && edge && decide (y = old)))

/-! ### Set-points and ramps (R417) -/

/-- The target set-point of a scalar channel. -/
def State.chTarget (s : State) (c : Nat) : Int :=
  (if s.cc ChannelConfig.SETPOINT_SOURCE c = 1 then s.rdI StringDispatch.SETPOINT (s.cc ChannelConfig.OUTPUT_STRING c)
    else s.ccI ChannelConfig.SETPOINT c) * micro

/-- The set-point in force at a sample with input `x`: a ramp begins at the input, moves by RAMP_RATE × PERIOD, and ends at
the target. -/
def State.rampStep (s : State) (c : Nat) (x : Int) : State :=
  let h := s.chan c
  let target := s.chTarget c
  let rate : Int := s.cc ChannelConfig.RAMP_RATE c * s.cc ChannelConfig.PERIOD c
  let small := decide (s.cc ChannelConfig.SETPOINT_SOURCE c = 1) && (match h.target with
    | some old => decide ((target - old).natAbs ≤ (s.band c).natAbs)
    | none => false)
  let new := h.start || (match h.target with
    | some old => decide (old ≠ target) && !small
    | none => false)
  let atEnd := decide (h.sp = h.target)
  let sp : Int := if rate = 0 then target
    else if new then x
    else match h.sp with
      | none => target
      | some p => if small && atEnd then target
        else if p ≤ target then min target (p + rate) else max target (p - rate)
  let s := s.modChan c fun h => { h with sp := some sp, target := some target, start := false }
  let s := s.wrI ChannelStatus.SETPOINT_IN_FORCE c (roundDiv sp 1000000)
  s.wrB ChannelStatus.RAMPING c (decide (sp ≠ target))

/-! ### Outputs (R418, R420 to R422) -/

/-- A DIGITAL output changes the level of its line. -/
def State.lineLevel (s : State) (k level : Nat) : State :=
  let p := nth POut.init s.pouts k
  if p.active = level then s
  else ({ s with pouts := setNth { p with active := level } s.pouts k }).send (.pulse k level s.base)

/-- A PWM output takes a new duty from its next period, and a new line or period likewise. -/
def State.linePwm (s : State) (c k duty : Nat) : State :=
  let p := usec (s.cc ChannelConfig.PWM_PERIOD c)
  if (s.chan c).train = some (k, duty, p) then s
  else
    let high := (roundDiv (duty * p) 50000).toNat * 5
    let s := { s with pouts := setNth { nth POut.init s.pouts k with active := 2 } s.pouts k }
    (s.modChan c fun h => { h with train := some (k, duty, p) }).send (.pwm k high p ((s.base / p + 1) * p))

/-- The line of a DIGITAL or PWM output that is released goes low. -/
def State.lineRest (s : State) (c kind k : Nat) : State :=
  match kind with
  | 1 => s.lineLevel k 0
  | 2 => (s.linePwm c k 0).lineLevel k 0
  | _ => s

/-- Positions of a node that are high. -/
def highOf (rel : List (Nat × Nat × Option Nat × Option Nat × Option Nat)) (high : List Nat) (node : Nat) : List Nat :=
  (rel.zipIdx.filter fun (p, i) => decide (p.1 = node) && high.contains i).map fun (p, _) => p.2.1

/-- A balancing command set: each node whose bleed set changes, or whose DURATION runs out within a period, is sent its set;
what has not been sent of an older set is replaced (R421). -/
def State.balanceOut (s : State) (c : Nat) : State :=
  let n := s.cc ChannelConfig.OUTPUT_STRING c
  let rel := (s.str n).rel
  let high := (s.chan c).high
  let period := s.chPer c
  let ms := min (s.rd BalanceConfig.MAX_DURATION n) (3 * period / 1000000)
  (s.nodeList n).foldl (fun s k =>
    let want := highOf rel high k
    let mask := s.bleedMask n k want
    let kept := (List.range 16).filter fun b => bitOf mask b
    let s := s.bump ChannelStatus.NOT_BLED c (want.length - kept.length)
    let old := (s.chan c).sent.find? fun x => x.1 == k
    let send := match old with
      | none => decide (mask ≠ 0)
      | some (_, m, end_) => decide (m ≠ mask) || (decide (mask ≠ 0) && decide (end_ < s.now + period))
    if send then
      let s := s.modRing n fun r => { r with cmds := r.cmds.filter fun q =>
        !(decide (q.node = k) && decide (q.phase = 0) && decide (q.owner = .balance)) }
      let s := s.modChan c fun h =>
        { h with sent := (h.sent.filter fun x => x.1 ≠ k) ++ [(k, mask, s.now + msec ms)] }
      s.sendBleed n k mask ms
    else s) s

/-- BALANCE_STOP goes to every node with a bleed set (R425, R426). -/
def State.balanceStop (s : State) (c : Nat) : State :=
  let n := s.cc ChannelConfig.OUTPUT_STRING c
  let ks := ((s.chan c).sent.filter fun x => x.2.1 ≠ 0).map (·.1)
  let s := s.modChan c fun h => { h with high := [], sent := [] }
  ks.foldl (fun s k => s.sendBleed n k 0 0) s

/-- The mode of an HVAC output. -/
def hvacOf (y : Int) : Nat := if 0 < y then 1 else if y < 0 then 2 else 0

/-- The applied output of an active channel goes to its target: at each sample, at a clamp and at SAFE. -/
def State.drive (s : State) (c : Nat) : State :=
  if !(s.chan c).act || !s.controlRuns then s
  else
    let k := s.cc ChannelConfig.OUTPUT_TARGET c
    let y := (s.chan c).out
    match s.cc ChannelConfig.OUTPUT_KIND c with
    | 1 => s.lineLevel k (b2n (decide (0 < y)))
    | 2 => s.linePwm c k (clampI 0 10000 y).toNat
    | 3 => s.chanFrame c
    | 4 => s.balanceOut c
    | 5 => s.chanFrame c
    | 6 => (s.setHvac (hvacOf y)).hvacSend (hvacOf y)
    | _ => s

/-- The output of a channel takes a value; the members that follow take it too. -/
def State.setOut (s : State) (c : Nat) (y : Int) (limited : Bool) : State :=
  ((s.modChan c fun h => { h with y := y }).wrB ChannelStatus.OUTPUT_LIMITED c limited).outReg c |>.followOutput c

/-! ### Samples, misses and SAFE (R424, R425) -/

/-- The trace sample of a channel at an instant; SAMPLE_INDEX counts the sample instants since the start (R266). In SAFE it holds
SAFE_OUTPUT, of a standby member too (R425). -/
def State.chTrace (s : State) (c tm : Nat) (miss : Bool) (causes : Nat) : State :=
  let n := if s.cc ChannelConfig.OUTPUT_STRING c ≠ 0 then s.cc ChannelConfig.OUTPUT_STRING c else s.cc ChannelConfig.INPUT_STRING c
  let trip := match (s.prot n).tripAt with
    | some a =>
      let at_ : Int := (s.base : Int) - ((s.now : Int) - a)
      s.hasStr n && decide (at_ ≤ tm) && decide ((tm : Int) < at_ + s.chPer c)
    | none => false
  let s := s.modTrace c fun tr => { tr with count := tr.count + 1 }
  let err := s.rdI ChannelStatus.ERROR c
  let b := (s.band c / micro).toNat
  let out := if s.chState c = 4 ∧ s.cc ChannelConfig.OUTPUT_KIND c ≠ 4 ∧ s.isVector c = false then
      roundDiv (s.outClamp c (s.outRange c (s.ccI ChannelConfig.SAFE_OUTPUT c * micro))) 1000000
    else (s.chan c).out
  let far := !miss && decide (s.rd TraceConfig.ERROR_FACTOR c * b < err.natAbs)
  let x : Sample := ⟨tm, s.rd ChannelStatus.REGION c, false, s.rdB ChannelStatus.RAMPING c, decide (s.chState c = 4), miss,
    s.rdI ChannelStatus.INPUT c, err, b, out, (s.trace c).count⟩
  s.traceSample c x (causes + 8 * b2n trip + 16 * b2n far)

/-- The channel enters SAFE: its output goes to SAFE_OUTPUT where it drives its target (R425). -/
def State.enterSafe (s : State) (c : Nat) : State :=
  let h := s.chan c
  let s := s.wr ChannelStatus.CHANNEL_STATE c 4
  let s := (s.wrB ChannelStatus.SAFE_SEEN c true).bump ChannelStatus.SAFE_ENTRIES c
  let s := s.stamp ChannelStatus.LAST_SAFE_TIME c
  let s := s.record 0x0D01 3 [c, s.rd ChannelStatus.MISS_RUN c, h.causes]
  let s := s.modChan c fun h => { h with good := 0, take := false }
  if s.cc ChannelConfig.OUTPUT_KIND c = 4 ∨ s.isVector c = true then
    ((s.balanceStop c).modChan c fun h => { h with y := 0 }).outReg c
  else if h.act then
    let y := s.outRange c (s.ccI ChannelConfig.SAFE_OUTPUT c * micro)
    let z := s.outClamp c y
    s.setOut c z (decide (z ≠ y))
  else s

/-- A channel misses a sample: its output stays, and at MISS_LIMIT it enters SAFE (R424, R425). `cause` is 1 for a deadline and
2 for a missing input. -/
def State.missSample (s : State) (c tm cause : Nat) : State :=
  let q := if s.cc ChannelConfig.INPUT_KIND c = 1 ∧ s.ccB ChannelConfig.INPUT_FILTER c = true then
      (referTo (s.plainOf tm) (s.fe (s.cc ChannelConfig.INPUT_STRING c)).samples).map fun x => (tm, x.2)
    else none
  let s := s.modChan c fun h => { h with lastM := some tm, open_ := none, inj := none, good := 0, qPrev := q.or h.qPrev
                                         causes := Nat.lor h.causes cause }
  let s := s.wr ChannelStatus.LAST_SAMPLE_TIME c (timeVal tm)
  if s.chState c = 1 then
    ((s.bump ChannelStatus.SAMPLES_SKIPPED c).wrB ChannelStatus.INPUT_MISSING c (decide (cause = 2))).modChan c fun h =>
      { h with causes := 0 }
  else
    let s := s.bump ChannelStatus.SAMPLES c
    let s := (s.wrB ChannelStatus.DEADLINE_MISS c true).wrB ChannelStatus.MISS_SEEN c true
    let s := s.wrB ChannelStatus.INPUT_MISSING c (decide (cause = 2))
    let s := (s.bump ChannelStatus.DEADLINE_MISSES c).bump ChannelStatus.MISS_RUN c
    let q := s.chState c
    let safe := (decide (q = 2) || decide (q = 3)) && decide (s.cc ChannelConfig.MISS_LIMIT c ≤ s.rd ChannelStatus.MISS_RUN c)
    let s := if safe then s.enterSafe c else s
    (s.chTrace c tm true (2 + 4 * b2n safe)).drive c

/-- WORST_LATENCY_1S is that of the last full second (Table 15.12). -/
def State.latencyNow (s : State) (c : Nat) : State :=
  let k := s.base / 1000000000
  let h := s.chan c
  if h.latSec = k then s else s.wr ChannelStatus.WORST_LATENCY_1S c (if h.latSec + 1 = k then h.latMax else 0)

/-- The latency of a release (Table 15.12). -/
def State.chLatency (s : State) (c tm : Nat) : State :=
  let k := s.base / 1000000000
  let us := min 0xFFFF ((s.base - tm) / 1000)
  let h := s.chan c
  if h.latSec = k then s.modChan c fun h => { h with latMax := max h.latMax us }
  else
    (s.latencyNow c).modChan c fun h => { h with latSec := k, latMax := us }

/-- Another member of the group drives the target. -/
def State.otherActive (s : State) (c : Nat) : Bool := (s.groupOf c).any fun d => decide (d ≠ c) && (s.chan d).act

/-- The member of a channel's group that drives its target. -/
def State.activeOf (s : State) (c : Nat) : Option Nat := (s.groupOf c).find? fun d => (s.chan d).act

/-- A sample of a channel whose input is present is taken: its region moves, and a WAITING channel becomes RUNNING or STANDBY
(Table 15.7). -/
def State.takeInput (s : State) (c tm : Nat) (x : Int) (q : Option (Nat × Int)) : State :=
  let s := s.modChan c fun h =>
    { h with lastM := some tm, open_ := none, inj := none, good := h.good + 1, causes := 0, qPrev := q }
  let s := ((s.bump ChannelStatus.SAMPLES c).wr ChannelStatus.LAST_SAMPLE_TIME c (timeVal tm)).wr ChannelStatus.MISS_RUN c 0
  let s := (s.wrB ChannelStatus.DEADLINE_MISS c false).wrB ChannelStatus.INPUT_MISSING c false
  let s := s.wrI ChannelStatus.INPUT c (roundDiv x 1000000)
  let s := (s.wr ChannelStatus.REGION c (s.regionNow c x)).modChan c fun h => { h with reselect := false }
  if s.chState c = 1 then
    if s.otherActive c then
      let y := ((s.activeOf c).map fun d => (s.chan d).y).getD 0
      ((s.wr ChannelStatus.CHANNEL_STATE c 3).modChan c fun h => { h with start := false, y := y }).outReg c
    else
      let y := if s.cc ChannelConfig.LAW c = 0 then s.ccI ChannelConfig.OUT_LOW c else s.ccI ChannelConfig.SAFE_OUTPUT c
      (s.wr ChannelStatus.CHANNEL_STATE c 2).modChan c fun h =>
        { h with act := true, start := true, y := if s.isVector c then 0 else y * micro }
  else s

/-- A channel in SAFE has had RECOVER_SAMPLES samples with its input present (R425). -/
def State.recovers (s : State) (c : Nat) : Bool :=
  let k := s.cc ChannelConfig.RECOVER_SAMPLES c
  decide (s.chState c = 4) && decide (0 < k) && decide (k ≤ (s.chan c).good)

/-- A channel that recovers leaves SAFE (R425, Table 15.7). -/
def State.leaveSafe (s : State) (c : Nat) : State :=
  if s.recovers c then
    let s := s.record 0x0D02 1 [c]
    if s.otherActive c then
      (s.wr ChannelStatus.CHANNEL_STATE c 3).modChan c fun h => { h with act := false, start := false }
    else (s.wr ChannelStatus.CHANNEL_STATE c 2).modChan c fun h => { h with act := true, start := true }
  else s

/-- The error of a scalar channel at a sample, and its set-point. -/
def State.chError (s : State) (c : Nat) (x : Int) : State × Int :=
  let s := s.rampStep c x
  let e := x - ((s.chan c).sp.getD 0)
  (s.wrI ChannelStatus.ERROR c (roundDiv e 1000000), e)

/-- A standby member wants the group's output: TAKE_OVER, unless the active member is in SAFE, or its law would reduce the output's
magnitude (R427, R428). -/
def State.wantsOutput (s : State) (c : Nat) (e : Int) : Bool :=
  let y := (s.chan c).y
  ((s.chan c).take && !(s.activeOf c).any fun d => decide (s.chState d = 4)) ||
    (s.ccB ChannelConfig.HANDOVER_ON_REACH c && decide ((s.chLaw c e y).natAbs < y.natAbs))

/-- A standby member takes over the group (R427). DESIGN CHOICE (log 61): where the member that drove the target has been disabled
none is active, and the event names the incoming channel as the outgoing one too. -/
def State.takeOver (s : State) (c : Nat) : State :=
  let outgoing := (s.activeOf c).getD c
  let s := if s.chState outgoing = 2 then s.wr ChannelStatus.CHANNEL_STATE outgoing 3 else s
  let s := s.modChan outgoing fun h => { h with act := false }
  let s := (s.wr ChannelStatus.CHANNEL_STATE c 2).modChan c fun h => { h with act := true, take := false, start := false }
  let s := s.bump ChannelStatus.HANDOVERS c
  s.record 0x0D03 1 ([s.cc ChannelConfig.GROUP c, outgoing, c] ++ toLE 4 (ofInt 32 (s.chan c).out))

/-! ### Vector channels (R415) -/

/-- The median of values that may be doubled: the reference in 10^-6. -/
def refOf (src : Nat) (vs : List Int) : Int :=
  match vs with
  | [] => 0
  | v :: rest =>
    if src = 2 then rest.foldl min v
    else if src = 3 then roundDiv (sumI vs) vs.length
    else roundDiv (median2 vs) 2

/-- The law of a vector channel applied to each of its positions; in SAFE it only reports (R415, R425). -/
def State.vectorLaw (s : State) (c : Nat) (xs : List (Option Int)) : State :=
  let vs := xs.filterMap fun x => x
  let ref := refOf (s.cc ChannelConfig.SETPOINT_SOURCE c) vs
  let b := s.band c
  let sp := ref + b + s.ccI ChannelConfig.SETPOINT c * micro
  let old := (s.chan c).high
  let high := (xs.zipIdx.filter fun (x, i) => match x with
    | none => false
    | some v => decide (b < v - sp) || (decide (-b < v - sp) && old.contains i)).map (·.2)
  let top := match vs with
    | [] => 0
    | v :: rest => rest.foldl max v
  let s := (s.wrI ChannelStatus.INPUT c (roundDiv top 1000000)).wrI ChannelStatus.ERROR c (roundDiv (top - sp) 1000000)
  let s := (s.wrI ChannelStatus.SETPOINT_IN_FORCE c (roundDiv sp 1000000)).wrB ChannelStatus.RAMPING c false
  if s.chState c = 4 then s
  else
    (s.modChan c fun h => { h with high := high, y := (high.length : Int) * micro, sp := some sp, target := some sp,
                                   start := false }).outReg c

/-! ### A sample of a channel or of its group -/

/-- The input of a channel at an instant, a vector's being its largest value. -/
def State.inputOf (s : State) (c tm : Nat) : InVal × Option (Nat × Int) :=
  if s.isVector c then
    match (s.vectorInput c tm).filterMap fun x => x with
    | [] => (.missing, none)
    | v :: vs => (.val (vs.foldl max v), none)
  else s.scalarInput c tm

/-- An injected conversion is asked for at a sample instant, once (R283, R412). -/
def State.askInjection (s : State) (c tm : Nat) : State :=
  if s.cc ChannelConfig.INPUT_KIND c = 5 ∧ (s.chan c).open_ ≠ some tm then
    let (s, ok) := s.injRequest (s.cc ChannelConfig.INPUT_STRING c) 3 c (s.cc ChannelConfig.INPUT_INDEX c) 1
    s.modChan c fun h => { h with inj := if ok then none else some false }
  else s

/-- The output of an active scalar channel after its law, or of a vector channel. -/
def State.actOn (s : State) (c tm : Nat) (e : Int) : State :=
  let s := if s.isVector c then s
    else if s.chState c = 2 then
      let y := (s.chan c).y
      let (z, lim) := s.applied c y (s.chLaw c e y)
      s.setOut c z lim
    else s
  ((s.chLatency c tm).chTrace c tm false 0).drive c

/-- The error of a member at a sample. -/
def State.errStep (s : State) (c tm : Nat) (x : Int) : State × Int :=
  if s.isVector c then (s.vectorLaw c (s.vectorInput c tm), 0) else s.chError c x

/-- The members of a group whose inputs are present are sampled at an instant: the hand-over is decided first, then recovery, then
the law of the active member applies (R426, R427). Where the law of another member has been applied at that instant the hand-over
has been decided. A missing input leaves its member open until the deadline. -/
def State.sampleNow (s : State) (members : List Nat) (tm : Nat) : State :=
  let decided := members.any fun c => (s.groupOf c).any fun d => !members.contains d && decide ((s.chan d).lastM = some tm)
  let (s, xs) := members.foldl (fun (a : State × List (Nat × Int)) c =>
    let s := a.1
    match s.inputOf c tm with
    | (.val x, q) => (s.takeInput c tm x q, a.2 ++ [(c, x)])
    | _ =>
      if s.chState c = 1 then (s.missSample c tm 2, a.2)
      else (s.modChan c fun h => { h with open_ := some tm }, a.2)) (s, [])
  let step (a : State × List (Nat × Int)) (x : Nat × Int) : State × List (Nat × Int) :=
    let (s, e) := a.1.errStep x.1 tm x.2
    (s, a.2 ++ [(x.1, e)])
  let (back, go) := xs.partition fun x => s.recovers x.1
  let (s, es) := go.foldl step (s, [])
  let s := match es.find? fun (c, e) => !decided && decide (s.chState c = 3) && s.wantsOutput c e with
    | some (c, _) => s.takeOver c
    | none => s
  let (s, es) := back.foldl (fun a x => step (a.1.leaveSafe x.1, a.2) x) (s, es)
  es.foldl (fun s (c, e) => s.actOn c tm e) s

/-- A claim of an output target is held by another enabled channel. -/
def State.heldElse (s : State) (c kind k : Nat) : Bool :=
  s.chanList.any fun d => decide (d ≠ c) && s.rdB ChannelConfig.ENABLE d && decide (s.rd ChannelConfig.OUTPUT_TARGET d = k) &&
    (decide (s.rd ChannelConfig.OUTPUT_KIND d = kind) ||
      (decide (kind = 1 ∨ kind = 2) && decide (s.rd ChannelConfig.OUTPUT_KIND d = 1 ∨ s.rd ChannelConfig.OUTPUT_KIND d = 2)) ||
      (decide (kind = 3 ∨ kind = 5) && decide (s.rd ChannelConfig.OUTPUT_KIND d = 3 ∨ s.rd ChannelConfig.OUTPUT_KIND d = 5)))

/-- The line or message object of an output kind is claimed or released (R418, R485). -/
def State.claimOf (s : State) (kind k : Nat) (on : Bool) : State :=
  match kind with
  | 1 => s.wrB PacerOutput.LINE_CLAIMED k on
  | 2 => s.wrB PacerOutput.LINE_CLAIMED k on
  | 3 => s.wr CanObject.OWNER k (if on then 3 else 0)
  | 5 => s.wr CanObject.OWNER k (if on then 3 else 0)
  | _ => s

/-- The target of a channel is claimed. -/
def State.claim (s : State) (c : Nat) : State :=
  s.claimOf (s.rd ChannelConfig.OUTPUT_KIND c) (s.rd ChannelConfig.OUTPUT_TARGET c) true

/-- A target that no other channel holds is released, a line going low. -/
def State.release (s : State) (c kind k : Nat) : State :=
  if s.heldElse c kind k then s else (s.lineRest c kind k).claimOf kind k false

/-- The clamp of a channel is reported while its output is a CONVERTER (Table 15.12). -/
def State.clampRegs (s : State) (c : Nat) : State :=
  if s.cc ChannelConfig.OUTPUT_KIND c = 3 then s.clampNow (s.cc ChannelConfig.OUTPUT_STRING c)
  else (s.wr ChannelStatus.CLAMP_HIGH c 0x80000000).wr ChannelStatus.CLAMP_LOW c 0x80000000

/-- A committed write takes effect at the first sample instant after it: the region is selected afresh where its table, band or step
changes, and a target it leaves is released (R429). -/
def State.takeWrite (s : State) (c tm : Nat) : State :=
  let h := s.chan c
  if h.old.isEmpty || decide (tm ≤ h.wroteAt) then s
  else
    let kind := s.cc ChannelConfig.OUTPUT_KIND c
    let k := s.cc ChannelConfig.OUTPUT_TARGET c
    let moved := decide (kind ≠ s.rd ChannelConfig.OUTPUT_KIND c) || decide (k ≠ s.rd ChannelConfig.OUTPUT_TARGET c) ||
      decide (s.cc ChannelConfig.OUTPUT_STRING c ≠ s.rd ChannelConfig.OUTPUT_STRING c)
    let s := if moved && decide (kind = 4) then s.balanceStop c else s
    let s := if moved then s.release c kind k else s
    let s := s.modChan c fun h => { h with old := [], reselect := h.reselect || h.old.any fun x => x.key.obj == 0x0D02 }
    if moved then (s.claim c).clampRegs c else s

/-- The members of a group that are due at an instant are sampled together once none of them waits for its input (R427). -/
def State.sampleGroup (s : State) (members : List Nat) (tm : Nat) : State :=
  let s := members.foldl (fun (s : State) c => (s.takeWrite c tm).askInjection c tm) s
  if members.any fun c => decide ((s.inputOf c tm).1 = .waits) then
    members.foldl (fun (s : State) c => s.modChan c fun h => { h with open_ := some tm }) s
  else s.sampleNow members tm

/-- The instants a channel has passed over before `tm` are counted (R411). -/
def State.countSkipped (s : State) (c tm : Nat) : State :=
  let p := s.chPeriod c
  let h := s.chan c
  let next (x : Option Nat) : Nat := x.elim 0 (· + 1)
  let a := s.chFirst c (max h.from_ (max (next h.lastM) (next h.open_)))
  s.bump ChannelStatus.SAMPLES_SKIPPED c ((tm - a + p - 1) / p)

/-- The samples of a group that are still open at their deadlines: those whose input is at hand, having waited for another's, are
sampled without it, the others are missed (R424, R427). -/
def State.settleOpen (s : State) (g : List Nat) : State :=
  let due := g.filter fun c => (s.chan c).open_.any fun tm => decide (tm + s.chDeadline c ≤ s.base)
  let ready (c : Nat) : Bool := (s.chan c).open_.any fun tm =>
    decide (tm + s.chDeadline c = s.base) && (match (s.inputOf c tm).1 with
      | .val _ => true
      | _ => false)
  let (go, gone) := due.partition ready
  let s := gone.foldl (fun (s : State) c =>
    match (s.chan c).open_ with
    | some tm => s.missSample c tm (match (s.inputOf c tm).1 with
      | .val _ => 1
      | _ => 2)
    | none => s) s
  match go.head?.bind fun c => (s.chan c).open_ with
  | some tm => s.sampleNow go tm
  | none => s

/-- The sample instant of a channel: its group is sampled together (R411 to R427). -/
def execChannelSample (t ch : Nat) (s : State) : Host.Outcome State Fault Refusal :=
  let s := s.at t
  .next (if s.hasChan ch = true ∧ s.controlRuns = true ∧ s.chState ch ≠ 0 then
    let g := (s.groupOf ch).filter fun c => decide (s.chState c ≠ 0)
    let s := s.settleOpen g
    match s.chInstant ch s.base with
    | none => s
    | some tm =>
      let due := g.filter fun c => match (s.chan c).lastM with
        | some l => decide (l < tm)
        | none => decide ((s.chan c).from_ ≤ tm)
      -- an older sample that is still open gives way to the new instant
      let s := due.foldl (fun s c =>
        let s := s.countSkipped c tm
        match (s.chan c).open_ with
        | some o => if o < tm then s.missSample c o 2 else s
        | none => s) s
      let late := due.filter fun c => decide (tm + s.chDeadline c < s.base) && decide (s.chState c ≠ 1)
      let s := late.foldl (fun s c => s.missSample c tm 1) s
      s.sampleGroup (due.filter fun c => !late.contains c) tm
  else s)

/-- The deadline of a sample has passed with its update not completed or its input missing (R424). -/
def execDeadlineMiss (t ch : Nat) (s : State) : Host.Outcome State Fault Refusal :=
  let s := s.at t
  .next (if s.hasChan ch = true ∧ s.controlRuns = true ∧ s.chState ch ≠ 0 then
    let s := s.settleOpen ((s.groupOf ch).filter fun c => decide (s.chState c ≠ 0))
    if s.chState ch = 1 then s
    else
      match s.chInstant ch (s.base - s.chDeadline ch) with
      | none => s
      | some tm =>
        if (match (s.chan ch).lastM with
            | some l => decide (l < tm)
            | none => true) && decide (s.chDeadline ch ≤ s.base) then ((s.countSkipped ch tm).takeWrite ch tm).missSample ch tm 1
        else s
  else s)

/-! ### Injected conversions (R283, R284, R473) -/

/-- The first waiting request of the highest priority among time triggers and control channels; a protection request that waits
runs when its window begins. -/
def injNext (q : List Inj) : Option Inj :=
  match q.find? fun x => x.src == 2 with
  | some x => some x
  | none => q.find? fun x => x.src == 3

/-- An injection has run on the converter of a string: of protection (source 1), the input being the insulation monitor's, or
the next request of the time triggers (2) or the control channels (3). `aborted` says that it pre-empted a conversion. A
protection request beyond the window's budget waits for the next window (R283, R284). -/
def execInjectedConversion (t str src : Nat) (aborted : Bool) (convs : List (Nat × Int)) (s : State) :
    Host.Outcome State Fault Refusal :=
  let s := s.at t
  .next (if !s.hasStr str || !(s.fe str).up then s
  else
    let s := s.injWindow str
    let settled := s.rdB SequenceResults.REF_SETTLED str
    if src = 1 then s.injProt str 0x0C convs.length aborted
    else
      match injNext (s.fe str).injQ with
      | none => s
      | some q =>
        if q.src ≠ src ∨ q.count ≠ convs.length then s
        else
          let s := (s.modFe str fun f => { f with injQ := f.injQ.erase q }).injRun str convs.length aborted
          match convs.getLast? with
          | none => s
          | some (at_, raw) =>
            let code := codeOf q.input raw
            let v := s.engValue str q.input code
            if src = 2 then
              if settled then
                (s.wrI PacerOutput.LAST_RESULT q.who v).wr PacerOutput.LAST_RESULT_TIME q.who (timeVal at_)
              else s
            else
              let s := s.modChan q.who fun h =>
                { h with inj := some true, injLast := if settled then some (str, q.input, v, at_) else h.injLast }
              match (s.chan q.who).open_ with
              | some tm => s.sampleGroup ((s.groupOf q.who).filter fun c => decide ((s.chan c).open_ = some tm)) tm
              | none => s)

/-! ### Enabling and disabling (R426) -/

/-- ENABLE becomes 1: the channel waits for its first sample. -/
def State.chanStart (s : State) (c : Nat) : State :=
  let s := { s with chans := setNth { Chan.init with from_ := s.base + 1 } s.chans c }
  let s := (s.wr ChannelStatus.CHANNEL_STATE c 1).wr ChannelStatus.MISS_RUN c 0
  (s.claim c).clampRegs c

/-- ENABLE becomes 0: the output goes to SAFE_OUTPUT, where the channel drives its target, and a target that no member of its group
holds is released. `g` are the other members of its group. What is in force of its configuration decides, and what waits of a write
is in force from then on (R426, R429). -/
def State.chanStop (s : State) (c : Nat) (g : List Nat) : State :=
  let kind := s.cc ChannelConfig.OUTPUT_KIND c
  let y := s.outRange c (s.ccI ChannelConfig.SAFE_OUTPUT c * micro)
  let s := if (s.chan c).act then
      let s := s.setOut c (s.outClamp c y) (decide (s.outClamp c y ≠ y))
      if kind = 4 then s.balanceStop c else s.drive c
    else s
  let s := if g.isEmpty then s.release c kind (s.cc ChannelConfig.OUTPUT_TARGET c) else s
  let s := s.wr ChannelStatus.CHANNEL_STATE c 0
  let s := s.modChan c fun h => { h with act := false, open_ := none, lastM := none, old := [] }
  (s.wr ChannelStatus.CLAMP_HIGH c 0x80000000).wr ChannelStatus.CLAMP_LOW c 0x80000000

/-- The schedules after a step of the time base: a backward step or a re-origin begins them afresh at least one PERIOD later; the
instants a forward step passes over are skipped (R411, R457). -/
def State.chanStep (s : State) (afresh : Bool) : State :=
  s.chanList.foldl (fun s c =>
    if afresh then s.modChan c fun h => { h with from_ := s.base + s.chPeriod c, lastM := none, open_ := none }
    else if s.chState c = 0 then s
    else (s.countSkipped c s.base).modChan c fun h => { h with from_ := max h.from_ s.base }) s

/-! ### Checks of a configuration at commit (R410, R416, R418, R423, R427) -/

/-- The cost of a channel's update in ns at floor rate (Table 15.6). -/
def State.chCost (s : State) (c : Nat) : Nat :=
  let n := s.rd ChannelConfig.INPUT_STRING c
  let k := s.rd ChannelConfig.INPUT_KIND c
  let base := if vectorKind k then 8000 + 250 * s.rd RingStatus.POSITION_COUNT n
    else if c < 4 ∧ stringKind k = true then 2100 else 1600
  base + (if k = 5 then 3000 else 0)

/-- The enabled channels of a die. -/
def State.dieChans (s : State) (d : Nat) : List Nat :=
  (s.chanList.filter fun c => c / 4 == d).filter fun c => s.rdB ChannelConfig.ENABLE c

/-- The load of a die's control engine in 0.1 % (R423). -/
def State.dieLoad (s : State) (d : Nat) : Nat :=
  ((s.dieChans d).foldl (fun (a : Fr) c => a.add (frac (1000 * s.chCost c) (max 1 (s.chPeriod c)))) (fr 0)).floor.toNat

/-- LOAD_FLOOR of the channels of every die. -/
def State.loadRegs (s : State) : State :=
  s.chanList.foldl (fun s c => s.wr ChannelStatus.LOAD_FLOOR c (s.dieLoad (c / 4))) s

/-- Table 15.1 and Table 15.2: the field of the channel's configuration that breaks the placement, as its offset; of the fields a
relation relates, the lowest (R160). -/
def State.placementBad (s : State) (c : Nat) : Option Nat :=
  let d := c / 4
  let k := s.rd ChannelConfig.INPUT_KIND c
  let n := s.rd ChannelConfig.INPUT_STRING c
  let i := s.rd ChannelConfig.INPUT_INDEX c
  let per := s.rd ChannelConfig.PERIOD c
  let reg := s.rd ChannelRegions.REGION_SOURCE c
  let str := stringKind k = true ∨ reg = 1 ∨ reg = 2 ∨ reg = 3
  let vec := vectorKind k
  let out := s.rd ChannelConfig.OUTPUT_KIND c
  let os := s.rd ChannelConfig.OUTPUT_STRING c
  let src := s.rd ChannelConfig.SETPOINT_SOURCE c
  let least := per < (match out with
      | 2 => max 10 (s.rd ChannelConfig.PWM_PERIOD c)
      | 3 => 1000
      | 4 => 100000
      | 5 => 1000
      | 6 => 100000
      | _ => 10)
  let timing := per ≤ s.rd ChannelConfig.PHASE c ∨ per < s.rd ChannelConfig.DEADLINE c
  let span := s.rdI ChannelConfig.OUT_MAX c < s.rdI ChannelConfig.OUT_MIN c
  if str ∧ (s.hasStr n = false ∨ (d ≠ 0 ∧ n ≠ d)) then some 0
  else if str ∧ d = 0 ∧ per < 1000 then some 8
  else if vec = true ∧ (d = 0 ∨ n ≠ d) then some 0
  else if k = 4 ∧ (i < 8 ∨ 15 < i) then some 0
  else if k = 5 ∧ (i = 0 ∨ i = 0x0C ∨ 0x0F < i) then some 0
  else if k = 5 ∧ per < 100 then some 8
  else if k = 0x13 ∧ s.hasDie i = false then some 0
  else if s.rdB ChannelConfig.INPUT_FILTER c = true ∧ k ≠ 0 ∧ k ≠ 1 then some 0
  else if out = 3 ∧ (s.hasStr os = false ∨ (d ≠ 0 ∧ os ≠ d)) then some 7
  else if out = 4 ∧ (d = 0 ∨ os ≠ d ∨ vec = false) then some 7
  else if out = 6 ∧ d ≠ 0 then some 7
  else if vec = true ∧ out ≠ 4 ∧ out ≠ 0 then some 0
  else if vec = true ∧ s.rd ChannelConfig.LAW c ≠ 0 then some 0
  else if out = 1 ∧ s.rd ChannelConfig.LAW c ≠ 0 then some 4
  else if out = 3 ∧ s.rd ChannelConfig.LAW c ≠ 1 then some 4
  else if least then some 8
  else if out = 4 ∧ s.rd BalanceConfig.MAX_DURATION os * 1000 < per then some 4
  else if timing then some 8
  else if src = 1 ∧ out ≠ 3 then some 7
  else if (2 ≤ src) ≠ (vec = true) then some 0
  else if span then some 0x20
  else none

/-- Two channels claim the same target (R418): a TPO line, a message object, the converter or the balancing of a string, or the
HVAC request. -/
def State.sameTarget (s : State) (c d : Nat) : Bool :=
  let a := s.rd ChannelConfig.OUTPUT_KIND c
  let b := s.rd ChannelConfig.OUTPUT_KIND d
  let tgt := decide (s.rd ChannelConfig.OUTPUT_TARGET c = s.rd ChannelConfig.OUTPUT_TARGET d)
  let str := decide (s.rd ChannelConfig.OUTPUT_STRING c = s.rd ChannelConfig.OUTPUT_STRING d)
  let line (k : Nat) : Bool := decide (k = 1) || decide (k = 2)
  let msg (k : Nat) : Bool := decide (k = 3) || decide (k = 5)
  (line a && line b && tgt) || (msg a && msg b && tgt) || (decide (a = 3) && decide (b = 3) && str)
    || (decide (a = 4) && decide (b = 4) && str) || (decide (a = 6) && decide (b = 6))

/-- The refusal of an enabled channel's claim (R418). -/
def State.claimBad (s : State) (c : Nat) : Option (Nat × Bytes) :=
  let out := s.rd ChannelConfig.OUTPUT_KIND c
  let k := s.rd ChannelConfig.OUTPUT_TARGET c
  let g := s.rd ChannelConfig.GROUP c
  let fellow (d : Nat) : Bool := decide (g ≠ 0) && decide (s.rd ChannelConfig.GROUP d = g)
  if s.chanList.any fun d => decide (d ≠ c) && s.rdB ChannelConfig.ENABLE d && !fellow d && s.sameTarget c d then
    some (refCond 0x0D01)
  else if (out = 1 ∨ out = 2) ∧ s.rd PacerOutput.MODE k ≠ 0 ∧ s.rdB PacerOutput.PULSE_EN k = true then some (refCond 0x0D02)
  else if out = 3 ∧ (s.canFit k 2 fun l => decide (8 ≤ l)) = false then some (refCond 0x0D04)
  else if out = 5 ∧ (s.canFit k (k / 128) fun l => decide (8 ≤ l)) = false then some (refCond 0x0D04)
  else if (out = 3 ∨ out = 5) ∧ (s.rd CanObject.OWNER k = 1 ∨ s.rd CanObject.OWNER k = 2) then some (refCond 0x0D01)
  else if out = 6 ∧ s.rd HvacConfig.HVAC_SOURCE ≠ 1 then some (refCond 0x0D03)
  else if out = 6 ∧ (s.canFit (s.rd HvacConfig.HVAC_OBJECT) 1 fun l => l == 16) = false then some (refCond 0x0D04)
  else none

/-- A group that breaks R427, whether or not its members are enabled. -/
def State.groupBad (s : State) (c : Nat) : Bool :=
  let g := s.rd ChannelConfig.GROUP c
  decide (g ≠ 0) && s.chanList.any fun d =>
    decide (d ≠ c) && decide (s.rd ChannelConfig.GROUP d = g) && (decide (d / 4 ≠ c / 4) || [ChannelConfig.OUTPUT_KIND, ChannelConfig.OUTPUT_TARGET, ChannelConfig.OUTPUT_STRING,
        ChannelConfig.PERIOD, ChannelConfig.PHASE].any fun f => decide (s.rd f d ≠ s.rd f c))

/-- LOWER values that do not ascend (R416): the place of the lower one of the first such pair. -/
def State.regionsBad (s : State) (c : Nat) : Option Nat :=
  (((List.range (s.rd ChannelRegions.REGION_COUNT c)).drop 2).find? fun k =>
    decide (s.rdI ChannelRegions.LOWER c k ≤ s.rdI ChannelRegions.LOWER c (k - 1))).map fun k =>
      ChannelRegions.LOWER.byteAt (k - 1)

/-- The cost of a die's channels breaks R423, as the offset of the field: together more than 75.0 % of the die at floor rate, or
more than a DEADLINE. -/
def State.dieOverload (s : State) (d : Nat) : Option Nat :=
  let cs := s.dieChans d
  let sum := (cs.map fun d => s.chCost d).foldl (· + ·) 0
  if (fr 750).lt (cs.foldl (fun (a : Fr) d => a.add (frac (1000 * s.chCost d) (max 1 (s.chPeriod d)))) (fr 0)) then some 8
  else if cs.any fun d =>
      let dl := s.rd ChannelConfig.DEADLINE d
      decide ((if dl = 0 then s.chPeriod d else usec dl) < sum) then some 0x10
  else none

/-- The refusal of a configuration of channel `c` as it would stand after the commit (R431): ranges before claims (R148). -/
def State.chanCheck (s : State) (c : Nat) : Option (Nat × Bytes) :=
  let out := s.rd ChannelConfig.OUTPUT_KIND c
  let on := s.rdB ChannelConfig.ENABLE c
  match s.placementBad c, s.regionsBad c with
  | some off, _ => some (refOff stRange off)
  | none, some off => some (refOff stRange off)
  | none, none =>
    if s.groupBad c then some (refOff stRange 6)
    else if !on then none
    else if (out = 1 ∨ out = 2) ∧ 3 < s.rd ChannelConfig.OUTPUT_TARGET c then some (refOff stRange 7)
    else
      match s.dieOverload (c / 4) with
      | some off => some (refOff stRange off)
      | none => s.claimBad c

/-- What a committed write changes of a channel's configuration or regions is kept for the samples before its first instant after the
commit (R429). `o` is the state before. -/
def State.keepChan (s o : State) (c : Nat) (fs : List Fld) : State :=
  if s.chState c = 0 then s
  else
    let cells := fs.flatMap fun f => (List.range f.count).filterMap fun i =>
      if f = ChannelConfig.ENABLE ∨ o.rd f c i = s.rd f c i then none else some (⟨f.key c i, f.resetAt i, o.rd f c i⟩ : CellW)
    if cells.isEmpty then s
    else s.modChan c fun h =>
      { h with old := h.old ++ cells.filter fun x => !(h.old.any fun y => decide (y.key = x.key)), wroteAt := s.base }

/-- A committed write to a channel: it is enabled or disabled, its target is claimed, a new schedule begins, and the rest takes effect
at its first instant after the commit (R429). `o` is the state before. -/
def State.chanWritten (s o : State) (c : Nat) : State :=
  let was := o.rdB ChannelConfig.ENABLE c
  let on := s.rdB ChannelConfig.ENABLE c
  let s := s.keepChan o c ChannelConfig.flds
  let s := if !was && on then s.chanStart c
    else if was && !on then s.chanStop c ((o.groupOf c).filter fun d => decide (d ≠ c))
    else if was && (decide (o.chPeriod c ≠ s.chPeriod c) || decide (o.chPhase c ≠ s.chPhase c)) then
      s.modChan c fun h => { h with from_ := s.base + 1 }
    else s
  (if was && on then s.claim c else s).loadRegs

end Sys2Proof.Machine
end

