-- ==== Sys2Proof/Machine/Block.lean ====
section
/-! DEFINITION. The block hierarchy (chapter 16): peer messages received and sent, the election of the block manager, the
dispatch cycle, the apportioning of block power, and the role-addressed commands. -/

namespace Sys2Proof.Machine

open Sys2Proof.Obj

/-! ### Receiving a peer message (R432, R438) -/

/-- The members of an ALLOCATION: BLOCK_ID, and the set-point of each string in its mask; none where they do not fill the
body exactly. -/
def allocMembers : Nat → Bytes → Option (List (Nat × List (Nat × Int)))
  | _, [] => some []
  | 0, _ => none
  | fuel + 1, b =>
    let ss := maskList (field b 1 1)
    let len := 4 + 4 * ss.length
    if b.length < len then none
    else
      let sps := ss.zipIdx.map fun (n, i) => (n, toInt 32 (field b (4 + 4 * i) 4))
      (allocMembers fuel (b.drop len)).map fun r => (field b 0 1, sps) :: r

/-- LENGTH is one the kind can have (Table 16.2). -/
def peerLenOk (kind : Nat) (body : Bytes) : Bool :=
  match kind with
  | 1 => body.length == 28
  | 2 => body.length == 4
  | 3 => decide (12 ≤ body.length) && decide ((body.length - 12) % 20 = 0)
  | 4 => decide (12 ≤ body.length) && (allocMembers 16 (body.drop 12)).isSome
  | _ => true

/-- A message passes every test of R432 but that of PEER_SEQ. -/
def State.peerGood (s : State) (m : Bytes) : Bool :=
  let len := field m 0x0A 2
  decide (field m 0 4 = 0x50454552) && decide (field m 4 1 = 1) && decide (m.length = 48 + len) && decide (len % 4 = 0)
    && decide (len ≤ 1024) && peerLenOk (field m 5 1) ((m.drop 32).take len) && decide (field m 6 2 = s.bc BlockConfig.BLOCK_NUMBER)
    && decide (m.drop (32 + len) = s.peerMac (m.take (32 + len)))

/-- The sender's entry with a network's address noted. -/
def noteAddr (net src : Nat) (e : Nat × Nat × Nat × Nat) : Nat × Nat × Nat × Nat :=
  if net = 1 then (e.1, e.2.1, src, e.2.2.2) else (e.1, e.2.1, e.2.2.1, src)

/-- A valid message carries the module's own BLOCK_ID (R438). -/
def State.conflict (s : State) : State :=
  let s := { s with blk := { s.blk with conflictAt := some s.now } }
  if s.rdB BlockStatus.BLOCK_ID_CONFLICT then s
  else
    let s := (s.wrB BlockStatus.BLOCK_ID_CONFLICT 0 true).record 0x0E06 3 [s.rd ModuleIdentity.BLOCK_ID]
    (if s.blk.known then s.forgetManager else s).roleCheck

/-- A role epoch is heard in a peer message, 0 being none (R437). -/
def State.hearEpoch (s : State) (ep : Nat) : State :=
  let heard := s.blk.heard.filter fun h => decide (h.1 ≠ ep) && decide (s.now ≤ h.2 + secs 5)
  { s with blk := { s.blk with heard := if ep = 0 then heard else (ep, s.now) :: heard } }

/-- A datagram arrives on PEER_UDP_PORT from a network: it is accepted, discarded as the second copy, or counted as invalid
(R432). True where it is accepted. -/
def State.peerIn (s : State) (net src : Nat) (m : Bytes) : State × Bool :=
  if !s.ownersRun then (s, false)
  else if !s.peerGood m then (s.bump CollectorStatus.PEER_REJECTED, false)
  else
    let id := field m 8 1
    let seq := field m 0x10 4
    let old := s.blk.senders.find? fun e => e.1 == id
    let d := match old with
      | none => 1
      | some e => (seq + 2 ^ 32 - e.2.1) % 2 ^ 32
    let rest := s.blk.senders.filter fun e => e.1 ≠ id
    if d = 0 then
      ({ s with blk := { s.blk with senders := (old.toList.map (noteAddr net src)) ++ rest } }, false)
    else if 2 ^ 31 ≤ d then (s.bump CollectorStatus.PEER_REJECTED, false)
    else
      let e := noteAddr net src (match old with
        | none => (id, seq, 0, 0)
        | some e => (id, seq, e.2.2.1, e.2.2.2))
      let s := { s with blk := { s.blk with senders := e :: rest } }.hearEpoch (field m 0x0C 4)
      (if id = s.rd ModuleIdentity.BLOCK_ID then s.conflict else s, true)

/-- KIND of a message. -/
def peerKind (m : Bytes) : Nat := field m 5 1

/-- Body of a message. -/
def peerBody (m : Bytes) : Bytes := (m.drop 32).take (field m 0x0A 2)

/-! ### The role (Table 16.3) -/

/-- What an ANNOUNCE of the manager followed says (R440, R447). -/
def State.learn (s : State) (b : Bytes) : State :=
  let timing := (List.range 5).map fun i => field b (16 + 2 * i) 2
  let s := { s with blk := { s.blk with
    timing := timing, ramp := field b 4 4, mgrAt := s.now, target := toInt 32 (field b 0 4), applied := toInt 32 (field b 8 4) } }
  let s := (s.wr BlockStatus.BLOCK_POWER_TARGET 0 (field b 0 4)).wr BlockStatus.BLOCK_POWER_APPLIED 0 (field b 8 4)
  s.wrB BlockStatus.CONFIG_MISMATCH 0 (decide (timing ≠ s.ownTiming))

/-- A valid ANNOUNCE is heard (Table 16.3): a manager and a member take one of better rank whether or not it says RESIGNING. DEDUCED
(log 62): the RESIGNING by which a member loses its manager is that of the manager it follows. -/
def State.hearAnnounce (s : State) (id pref epoch : Nat) (b : Bytes) : State :=
  let resigning := decide (field b 12 1 ≠ 0)
  if s.role = roleManager then
    if s.outranked pref id then (s.adopt id pref epoch).learn b
    else if betterRank (s.bc BlockConfig.PREFERENCE) (s.rd ModuleIdentity.BLOCK_ID) pref id then
      { s with blk := { s.blk with reopen := true } }
    else s
  else if s.role = roleMember then
    match s.blk.mgr with
    | none => s
    | some (mid, mpref) =>
      if id = mid then (if resigning then s.loseManager else (s.adopt id pref epoch).learn b)
      else if betterRank pref id mpref mid then (s.adopt id pref epoch).learn b
      else s
  else if resigning then { s with blk := { s.blk with listenFrom := s.now } }
  else (s.adopt id pref epoch).learn b

/-- A CANDIDATE is heard with the last role epoch its sender knew: one of better rank ends a candidacy (Table 16.3, R437). -/
def State.hearCandidate (s : State) (id pref last : Nat) : State :=
  let s := s.hearEpoch last
  if s.role = roleCandidate ∧ s.outranked pref id = true then s.discover (secs 1) else s

/-! ### Reports (R441, R442) -/

/-- The records of a REPORT. -/
def reportRecs (b : Bytes) : List MRec :=
  (List.range ((b.length - 12) / 20)).map fun i =>
    let r := b.drop (12 + 20 * i)
    ⟨field r 0 1, decide (field r 1 1 ≠ 0), field r 2 2, field r 4 4, field r 8 4, field r 12 4, toInt 16 (field r 16 2)⟩

/-- A report of a member in time for the cycle is fresh; a late one stands for the next use. -/
def State.takeReport (s : State) (id cycle : Nat) (rs : List MRec) : State :=
  let intime := decide (cycle = s.blk.cycle) && decide (s.base ≤ s.blk.cycle + usec (nth 0 s.timing 3))
  let old := (s.blk.members.find? fun x => x.id == id).getD ⟨id, [], false, 0, 0, 0, 0, 0⟩
  let m := { old with recs := rs, fresh := old.fresh || intime }
  { s with blk := { s.blk with members := m :: s.blk.members.filter fun x => x.id ≠ id } }

/-- A REPORT is heard: the manager uses it under its own epoch or 0 (R439). -/
def State.hearReport (s : State) (id epoch : Nat) (b : Bytes) : State :=
  if s.role ≠ roleManager then s
  else if epoch = 0 ∨ epoch = s.roleEpoch then s.takeReport id (timeNs (field b 0 10)) (reportRecs b)
  else s.bump BlockStatus.STALE_ALLOCATIONS

/-! ### Allocations (R439) -/

/-- MEMBER_MASK of the last allocation; a change is recorded. -/
def State.setMembers (s : State) (ids : List Nat) : State :=
  let mask := ((List.range 16).filter fun b => ids.contains b).foldl (fun m b => m + 2 ^ b) 0
  let old := s.rd BlockStatus.MEMBER_MASK
  let s := (s.wr BlockStatus.MEMBER_MASK 0 mask).wr BlockStatus.MEMBER_COUNT 0 ids.length
  if old = mask then s else s.record 0x0E04 1 (toLE 2 old ++ toLE 2 mask)

/-- An allocation is accepted and waits for its apply instant. -/
def State.acceptAlloc (s : State) (b : Bytes) : State :=
  let ms := (allocMembers 16 (b.drop 12)).getD []
  let own := ((ms.find? fun x => x.1 == s.rd ModuleIdentity.BLOCK_ID).map (·.2)).getD []
  let s := { s with blk := { s.blk with alloc := some (timeNs (field b 0 10), s.roleEpoch, own) } }
  s.setMembers (ms.map (·.1))

/-- An ALLOCATION is heard: it counts only from the manager followed, under the epoch followed. -/
def State.hearAllocation (s : State) (id epoch : Nat) (b : Bytes) : State :=
  if s.role = roleMember ∧ s.blk.mgr.map (·.1) = some id ∧ epoch = s.roleEpoch then s.acceptAlloc b
  else s.bump BlockStatus.STALE_ALLOCATIONS

/-- A peer message arrives; what is accepted is served by its own kind, whichever command brings it. -/
def State.hearPeer (s : State) (net src : Nat) (m : Bytes) : State :=
  let (s, ok) := s.peerIn net src m
  if !ok then s
  else
    let id := field m 8 1
    let pref := field m 9 1
    let epoch := field m 0x0C 4
    match peerKind m with
    | 1 => s.hearAnnounce id pref epoch (peerBody m)
    | 2 => s.hearCandidate id pref (field (peerBody m) 0 4)
    | 3 => s.hearReport id epoch (peerBody m)
    | 4 => s.hearAllocation id epoch (peerBody m)
    | _ => s

/-- A valid ANNOUNCE arrives from address `src` on network `net` (Table 16.3). -/
def execAnnounceReceived (t net src : Nat) (msg : Bytes) (s : State) : Host.Outcome State Fault Refusal :=
  .next ((s.at t).hearPeer net src msg)

/-- A CANDIDATE arrives (Table 16.3). -/
def execCandidateReceived (t net src : Nat) (msg : Bytes) (s : State) : Host.Outcome State Fault Refusal :=
  .next ((s.at t).hearPeer net src msg)

/-- A REPORT arrives (R441). -/
def execReportReceived (t net src : Nat) (msg : Bytes) (s : State) : Host.Outcome State Fault Refusal :=
  .next ((s.at t).hearPeer net src msg)

/-- An ALLOCATION arrives (R439). -/
def execAllocationReceived (t net src : Nat) (msg : Bytes) (s : State) : Host.Outcome State Fault Refusal :=
  .next ((s.at t).hearPeer net src msg)

/-- A peer message that R432 finds invalid is counted in PEER_REJECTED. -/
def execPeerRejected (t net src : Nat) (msg : Bytes) (s : State) : Host.Outcome State Fault Refusal :=
  .next ((s.at t).hearPeer net src msg)

/-- The block manager sends ANNOUNCE every 100 ms; a new epoch is opened where it has heard one of worse rank (R436). -/
def execAnnounce (t : Nat) (s : State) : Host.Outcome State Fault Refusal :=
  let s := (s.at t).roleCheck
  .next (if s.role = roleManager ∧ s.ownersRun = true ∧ s.blk.nextSend ≤ s.now then
    let s := if s.blk.reopen then s.openEpoch else s
    ({ s with blk := { s.blk with nextSend := s.blk.nextSend + msec 100 } }).sendAnnounce false
  else s)

/-- A candidate sends CANDIDATE again every 100 ms. -/
def execCandidate (t : Nat) (s : State) : Host.Outcome State Fault Refusal :=
  let s := s.at t
  .next (if s.role = roleCandidate ∧ s.ownersRun = true ∧ s.blk.nextSend ≤ s.now then
    ({ s with blk := { s.blk with nextSend := s.blk.nextSend + msec 100 } }).sendCandidate
  else s)

/-- No ANNOUNCE for the listening time: an eligible module becomes CANDIDATE (Table 16.3). -/
def execRoleListen (t : Nat) (s : State) : Host.Outcome State Fault Refusal :=
  let s := (s.at t).roleCheck
  .next (if s.role = roleDiscovering ∧ s.ownersRun = true ∧ s.eligible = true ∧ s.blk.listenFrom + s.blk.listen ≤ s.now then
    let s := { s with blk := { s.blk with candAt := some s.now, nextSend := s.now + msec 100 } }
    ((s.setRole roleCandidate).bump BlockStatus.ELECTIONS).sendCandidate
  else s)

/-- 500 ms since the first CANDIDATE with no better rank heard: the module is manager under a new role epoch (R437). -/
def execRoleGained (t : Nat) (s : State) : Host.Outcome State Fault Refusal :=
  let s := (s.at t).roleCheck
  .next (match s.blk.candAt with
  | none => s
  | some a =>
    if s.role = roleCandidate ∧ s.ownersRun = true ∧ s.eligible = true ∧ a + msec 500 ≤ s.now then s.gainRole else s)

/-- No valid ANNOUNCE from its manager for MANAGER_TIMEOUT (R446, R447). -/
def execManagerLost (t : Nat) (s : State) : Host.Outcome State Fault Refusal :=
  let s := s.at t
  .next (if s.role = roleMember ∧ s.ownersRun = true ∧ s.blk.mgrAt + msec (s.bc BlockConfig.MANAGER_TIMEOUT) ≤ s.now then
    s.loseManager
  else s)

/-- ALLOC_HOLD ends with no new allocation applied: the module knows no manager (R447). -/
def execAllocHold (t : Nat) (s : State) : Host.Outcome State Fault Refusal :=
  let s := s.at t
  .next (match s.blk.holdUntil with
  | none => s
  | some e =>
    if e ≤ s.now then
      let s := { s with blk := { s.blk with holdUntil := none, known := false } }
      (s.wrB BlockStatus.HOLDING 0 false).forgetManager
    else s)

/-- A peer message with the module's own BLOCK_ID arrives, or BLOCK_ID_CONFLICT clears 5 s after the last one (R438). -/
def execBlockIdConflict (t : Nat) (msg : Option (Nat × Nat × Bytes)) (s : State) : Host.Outcome State Fault Refusal :=
  let s := s.at t
  .next (match msg with
  | some (net, src, m) => s.hearPeer net src m
  | none =>
    match s.blk.conflictAt with
    | none => s
    | some a =>
      if a + secs 5 ≤ s.now then
        let s := { s with blk := { s.blk with conflictAt := none } }
        ((s.wrB BlockStatus.BLOCK_ID_CONFLICT 0 false).clampAll).roleCheck
      else s)

/-! ### The dispatch cycle (R440 to R442) -/

/-- A string is AVAILABLE to dispatch (R441). -/
def State.strAvailable (s : State) (n : Nat) : Bool :=
  s.enabled n && s.isClosed n && !s.rdB StringDispatch.EXCLUDED n && s.filterOn n
    && !s.rdB BlockStatus.BLOCK_ID_CONFLICT && s.ptpLocked

/-- The report content of a string (R441). -/
def State.strReport (s : State) (n : Nat) : MRec :=
  let v := if nth false (s.fe n).valOk 0 then (s.stringV n).toNat else 0xFFFFFFFF
  ⟨n, s.strAvailable n, s.rd StringState.STRING_SOC n, v, s.chgLimit n, s.disLimit n, ((s.str n).relT.1).getD (-32768)⟩

/-- One record of a REPORT. -/
def MRec.bytes (r : MRec) : Bytes :=
  [r.str, b2n r.avail] ++ toLE 2 r.soc ++ toLE 4 r.v ++ toLE 4 r.chg ++ toLE 4 r.dis ++ toLE 2 (ofInt 16 r.t) ++ [0, 0]

/-- The cycle instant at or before the time base. -/
def State.cycleAt (s : State) : Nat :=
  let p := msec (nth 100 s.timing 0)
  s.base / p * p

/-- A cycle instant: BLOCK_CONFIG as written applies, report content is captured (R440, R453). -/
def execDispatchCycle (t : Nat) (s : State) : Host.Outcome State Fault Refusal :=
  let s := s.at t
  let c := s.cycleAt
  .next (if !s.ownersRun || decide (c = s.blk.cycle) then s
  else
    let s := { s with blk := { s.blk with cfg := s.objBytes BlockConfig.desc 0, cycle := c, reported := false, allocated := false } }
    let s := if s.role = roleMember then s.wrB BlockStatus.CONFIG_MISMATCH 0 (decide (s.timing ≠ s.ownTiming))
      else { s with blk := { s.blk with timing := s.ownTiming } }
    let s := match s.blk.waits with
      | some (p, r) => { s with blk := { s.blk with target := p, ramp := r, waits := none } }
      | none => s
    let rs := s.strList.map s.strReport
    let s := rs.foldl (fun s r => s.wrB StringDispatch.AVAILABLE r.str r.avail) s
    let ms := s.blk.members.map fun m => { m with fresh := false }
    ({ s with blk := { s.blk with captured := rs, members := ms } }).roleCheck)

/-- At its slot each module sends REPORT; the manager takes its own (R440, R441). -/
def execReport (t : Nat) (s : State) : Host.Outcome State Fault Refusal :=
  let s := s.at t
  let id := s.rd ModuleIdentity.BLOCK_ID
  let due := s.blk.cycle + usec (nth 0 s.timing 1 + id * nth 0 s.timing 2)
  .next (if s.blk.reported || !s.ownersRun || s.inHoldup || decide (s.base < due) || decide (15 < id) then s
  else
    let s := s.sendPeer 3 (timeBytes s.blk.cycle ++ [0, 0] ++ (s.blk.captured.map MRec.bytes).flatten)
    let s := { s with blk := { s.blk with reported := true } }
    if s.role = roleManager then s.takeReport id s.blk.cycle s.blk.captured else s)

/-! ### Apportioning (R443) -/

/-- A string as the apportioning sees it: its member, voltage in mV, the limit of the direction in mA, its weight, and its
set-point in mA once it is fixed at its limit. -/
structure Share where
  id : Nat
  str : Nat
  v : Nat
  lim : Nat
  w : Nat
  fixed : Option Int
  deriving DecidableEq, Repr

/-- Sign of a power. -/
def signOf (p : Int) : Int := if 0 < p then 1 else if p < 0 then -1 else 0

/-- The power left after the fixed strings, in µW, and the weights of the free ones. -/
def restOf (p : Int) (xs : List Share) : Int := p - sumI (xs.filterMap fun x => x.fixed.map fun i => i * x.v)
@[inherit_doc restOf] def freeWeight (xs : List Share) : Nat := sumL ((xs.filter (·.fixed.isNone)).map (·.w))

/-- A free string whose share exceeds its limit is fixed there. -/
def Share.clip (p rest : Int) (sum : Nat) (x : Share) : Share :=
  if x.fixed.isNone ∧ x.lim * (sum * x.v) < rest.natAbs * x.w then { x with fixed := some (signOf p * x.lim) } else x

/-- The passes of the apportioning, until none fixes a string. -/
def apportion (p : Int) : Nat → List Share → List Share
  | 0, xs => xs
  | fuel + 1, xs =>
    let sum := freeWeight xs
    let ys := xs.map (Share.clip p (restOf p xs) sum)
    if sum = 0 ∨ ys = xs then xs else apportion p fuel ys

/-- The set-point of a string once the passes have ended, cut towards zero to 1 mA. -/
def Share.setpoint (p rest : Int) (sum : Nat) (x : Share) : Int :=
  if p = 0 then 0
  else match x.fixed with
    | some i => i
    | none => if sum * x.v = 0 then 0 else Int.tdiv (rest * x.w) (sum * x.v : Nat)

/-- The weights of the AVAILABLE strings: member, record, weight in units of 10^-7 %. -/
def State.weights (s : State) (p : Int) (xs : List (Nat × MRec)) : List (Nat × MRec × Nat) :=
  let ts := (xs.filter fun x => x.2.t ≠ -32768).map fun x => x.2.t
  let tMin := match ts with
    | [] => 0
    | a :: as => as.foldl (fun m v => if v < m then v else m) a
  let hi := s.bc BlockConfig.DISPATCH_SOC_HIGH
  let lo := s.bc BlockConfig.DISPATCH_SOC_LOW
  let ws := xs.map fun (id, r) =>
    let soc := if r.soc = 0xFFFF then 0 else if 0 < p then hi - r.soc else r.soc - lo
    let hot := if r.t = -32768 then 0 else (r.t - tMin).toNat
    (id, r, soc * max 10000 (100000 - s.bc BlockConfig.TEMP_BIAS * hot))
  if sumL (ws.map fun x => x.2.2) = 0 then ws.map fun x => (x.1, x.2.1, 10000000) else ws

/-- Reports late by ALLOC_OFFSET: the previous one is used, twice; then the member is left out (R442). -/
def State.judgeReports (s : State) : State :=
  let late := s.blk.members.filter fun m => !m.fresh
  let gone := late.filter fun m => decide (2 ≤ m.missed)
  let s := s.bump CollectorStatus.REPORTS_LATE 0 late.length
  let s := s.bump CollectorStatus.REPORTS_MISSING 0 gone.length
  let ms := (s.blk.members.filter fun m => m.fresh || decide (m.missed < 2)).map fun m =>
    { m with missed := if m.fresh then 0 else m.missed + 1 }
  let stale := (ms.filter fun m => !m.fresh).foldl (fun k m => k + 2 ^ (m.id % 16)) 0
  ({ s with blk := { s.blk with members := ms } }).wr BlockStatus.STALE_MASK 0 stale

/-- Set-point × STRING_V in W, cut towards zero. -/
def watts (i : Int) (v : Nat) : Int := Int.tdiv (i * v) 1000000

/-- Members in ascending block ID. -/
def State.membersUp (s : State) : List Member := (List.range 16).flatMap fun b => s.blk.members.filter fun m => m.id = b

/-- The manager ramps and limits the block power and divides it among the AVAILABLE strings (R443). -/
def State.allocate (s : State) : State :=
  let s := s.judgeReports
  let ms := s.membersUp
  let avail := ms.flatMap fun m => (m.recs.filter (·.avail)).map fun r => (m.id, r)
  let chg : Nat := sumL (avail.map fun x => x.2.chg * x.2.v)
  let dis : Nat := sumL (avail.map fun x => x.2.dis * x.2.v)
  let step : Int := s.blk.ramp * nth 100 s.timing 0 * 1000
  let ramped := clampI (s.blk.p - step) (s.blk.p + step) (s.blk.target * micro)
  let p := clampI (-(dis : Int)) chg ramped
  let ws := s.weights p avail
  let xs := apportion p (ws.length + 1) (ws.map fun (id, r, w) => ⟨id, r.str, r.v, if 0 < p then r.chg else r.dis, w, none⟩)
  let rest := restOf p xs
  let sum := freeWeight xs
  let sp (id str : Nat) : Int :=
    ((xs.find? fun x => decide (x.id = id) && decide (x.str = str)).map (Share.setpoint p rest sum)).getD 0
  let applied := sumI (avail.map fun (id, r) => watts (sp id r.str) r.v)
  let ms' := ms.map fun m =>
    let a := m.recs.filter (·.avail)
    { m with
      mask := a.foldl (fun k r => k + 2 ^ r.str) 0
      chg := sumL (a.map fun r => r.chg * r.v) / 1000000
      dis := sumL (a.map fun r => r.dis * r.v) / 1000000
      applied := sumI (a.map fun r => watts (sp m.id r.str) r.v) }
  let at_ := s.blk.cycle + usec (nth 0 s.timing 4)
  let body := ms.flatMap fun m =>
    [m.id, m.recs.foldl (fun k r => k + 2 ^ r.str) 0, 0, 0] ++ (m.recs.map fun r => toLE 4 (ofInt 32 (sp m.id r.str))).flatten
  let me := s.rd ModuleIdentity.BLOCK_ID
  let own := (ms.filter fun m => m.id = me).flatMap fun m => m.recs.map fun r => (r.str, sp me r.str)
  let s := { s with blk := { s.blk with
    p := p, applied := applied, members := ms', allocated := true, alloc := some (at_, s.roleEpoch, own) } }
  let s := s.wrB BlockStatus.POWER_CLIPPED 0 (decide (p ≠ ramped))
  let s := (s.wr BlockStatus.BLOCK_CHG_LIMIT 0 (min (chg / 1000000) 0xFFFFFFFE)).wr BlockStatus.BLOCK_DIS_LIMIT 0
    (min (dis / 1000000) 0xFFFFFFFE)
  let s := s.wrI BlockStatus.BLOCK_POWER_APPLIED 0 applied
  let s := s.eachStr fun n s =>
    let w := (ws.find? fun (x : Nat × MRec × Nat) => decide (x.1 = me) && decide (x.2.1.str = n)).map fun x => x.2.2
    let x := xs.find? fun x => decide (x.id = me) && decide (x.str = n)
    let s := s.wr StringDispatch.WEIGHT n (min 0xFFFF ((w.getD 0 + 50000) / 100000))
    s.wrB StringDispatch.CLIPPED n (match x with
      | some x => x.fixed.isSome
      | none => false)
  (s.sendPeer 4 (timeBytes at_ ++ [0, 0] ++ body)).setMembers (ms.map (·.id))

/-- At ALLOC_OFFSET of a cycle the manager apportions and sends the ALLOCATION (R440, R443). -/
def execAllocation (t : Nat) (s : State) : Host.Outcome State Fault Refusal :=
  let s := (s.at t).roleCheck
  .next (if s.role ≠ roleManager ∨ s.ownersRun = false ∨ s.blk.allocated = true ∨
      s.base < s.blk.cycle + usec (nth 0 s.timing 3) then s
  else s.allocate)

/-! ### The apply instant (R444, R447) -/

/-- The set-point of a string at an apply instant, with the local clamp, and its dispatch frame. -/
def State.applyStr (s : State) (n : Nat) (sps : Option (List (Nat × Int))) : State :=
  let s := match sps with
    | none => s
    | some l =>
      let v : Int := match l.find? fun (x : Nat × Int) => x.1 == n with
        | some x => x.2
        | none => 0
      let s := (s.wrI StringDispatch.ALLOCATED n v).wrI StringDispatch.SETPOINT n v
      s.wrB StringDispatch.LOCAL_CLAMP n false
  let s := if s.isClosed n && s.mgrKnown && !s.inHoldup then s else s.wr StringDispatch.SETPOINT n 0
  (s.localClamp n).1.dispatchFrame n

/-- At APPLY_OFFSET of a cycle the accepted allocation is applied; a member that has none holds the last one (R444, R446,
R447). A frame of every string is sent (R445). -/
def execAllocationApply (t : Nat) (s : State) : Host.Outcome State Fault Refusal :=
  let s := s.at t
  .next (if !s.ownersRun || decide (s.blk.doneFor = s.blk.cycle) ||
      decide (s.base < s.blk.cycle + usec (nth 0 s.timing 4)) then s
  else
    let s := { s with blk := { s.blk with doneFor := s.blk.cycle } }
    let due := match s.blk.alloc with
      | some (at_, ep, sps) => if at_ ≤ s.base ∧ ep = s.roleEpoch ∧ ep ≠ 0 then some (at_, sps) else none
      | none => none
    let s := match due with
      | some (at_, _) =>
        let s := { s with blk := { s.blk with alloc := none, holdUntil := none } }
        ((s.wrB BlockStatus.HOLDING 0 false).wr BlockStatus.LAST_ALLOC_TIME 0 (timeVal at_)).knowManager
      | none => if s.role = roleMember then s.beginHold else s
    s.eachStr fun n s => s.applyStr n (due.map (·.2)))

/-- No SET_BLOCK_POWER for HOST_TIMEOUT: the manager's target becomes 0 (R446). -/
def execHostTimeout (t : Nat) (s : State) : Host.Outcome State Fault Refusal :=
  let s := s.at t
  let h := s.bc BlockConfig.HOST_TIMEOUT
  .next (if s.role = roleManager ∧ s.ownersRun = true ∧ h ≠ 0 ∧ s.blk.hostAt + secs h ≤ s.now ∧
      s.rdB BlockStatus.HOST_TIMEOUT_ACTIVE = false then
    let old := s.rd BlockStatus.BLOCK_POWER_TARGET
    let s := { s with blk := { s.blk with target := 0, waits := none } }
    let s := (s.wr BlockStatus.BLOCK_POWER_TARGET 0 0).wrB BlockStatus.HOST_TIMEOUT_ACTIVE 0 true
    s.record 0x0E07 2 (toLE 4 old)
  else s)

/-! ### Role-addressed commands (R162, R448, R449) -/

/-- The holder record of ST_ROLE_STALE (Table 5.7). -/
def State.holderRecord (s : State) (role : Nat) : Bytes :=
  let who := if role = 1 then s.blk.mgr else none
  match who with
  | none => [role, 0xFF, 0, 0] ++ List.replicate 12 0
  | some (id, _) =>
    let (a, b) := if s.role = roleManager then (s.netNow 0 1, s.netNow 0 2)
      else match s.blk.senders.find? fun e => e.1 == id with
        | some e => (e.2.2.1, e.2.2.2)
        | none => (0, 0)
    [role, id, 0, 0] ++ toLE 4 s.roleEpoch ++ toLE 4 a ++ toLE 4 b

/-- The module does not hold the role a request addresses under its epoch. -/
def State.roleStale (s : State) (p : Bytes) : Bool :=
  let e := field p 4 4
  !(decide (field p 0 1 = 1) && decide (s.role = roleManager) && (decide (e = 0) || decide (e = s.roleEpoch)))

/-- SET_BLOCK_POWER (R448). -/
def execSetBlockPower (t : Nat) (r : Req) (p : Bytes) (s : State) : Host.Outcome State Fault Refusal :=
  .next (s.serve t r 0x0050 (p.length == 16) 2 fun _ _ s =>
    guarded [(s.roleStale p, stRoleStale, s.holderRecord (field p 0 1)), (decide (field p 8 4 = 0x80000000), refOff stRange 8)] s
    fun s =>
      let ramp := if field p 12 4 = 0 then s.bc BlockConfig.BLOCK_RAMP else field p 12 4
      let power := toInt 32 (field p 8 4)
      let c := s.cycleAt
      let per := msec (nth 100 s.timing 0)
      let now := decide (s.base ≤ c + usec (nth 0 s.timing 3))
      let b := { s.blk with hostAt := s.now }
      let b := if now then { b with target := power, ramp := ramp, waits := none } else { b with waits := some (power, ramp) }
      let s := (({ s with blk := b }).wrI BlockStatus.BLOCK_POWER_TARGET 0 power).wrB BlockStatus.HOST_TIMEOUT_ACTIVE 0 false
      let first := (if now then c else c + per) + usec (nth 0 s.timing 4)
      (s, .now stOk (toLE 4 s.roleEpoch ++ timeBytes first ++ [0, 0])))

/-- GET_BLOCK_STATE (R449). -/
def execGetBlockState (t : Nat) (r : Req) (p : Bytes) (s : State) : Host.Outcome State Fault Refusal :=
  .next (s.serve t r 0x0051 (p.length == 8) 1 fun _ _ s =>
    guarded [(s.roleStale p, stRoleStale, s.holderRecord (field p 0 1))] s fun s =>
      let mask := s.rd BlockStatus.MEMBER_MASK
      let recs := (s.membersUp.filter fun m => bitOf mask m.id).flatMap fun m =>
        [m.id, m.mask, 0, 0] ++ toLE 4 m.chg ++ toLE 4 m.dis ++ toLE 4 (ofInt 32 m.applied)
      (s, .now stOk (s.objBytes BlockStatus.desc 0 ++ recs)))

/-- The link of a network port comes up or goes down; eligibility follows (R72, R433). -/
def execNetLinkChanged (t port : Nat) (up : Bool) (s : State) : Host.Outcome State Fault Refusal :=
  let s := s.at t
  .next (if !s.running || !(port == 1 || port == 2) then s
  else
    (s.wrB (if port = 1 then MailboxStatus.NET_A_LINK else MailboxStatus.NET_B_LINK) 0 up).roleCheck)

end Sys2Proof.Machine
end

