-- ==== Sys2Proof/Machine/Collector.lean ====
section
/-! DEFINITION. Results at their result instant (R47, R48), the collector (R450 to R452), and the LAP_FEED streams it serves
(R357). -/

namespace Sys2Proof.Machine

open Sys2Proof.Obj

/-! ### Release at the result instant (R47) -/

/-- What a released lap holds of each position for the control engine: node, channel, SOC_FILTER, SOC_REPORTED and CELL_V, from
its record and its position results (Tables 7.7 and 12.7); CELL_V of a fresh or late one only (Table 15.2). -/
def State.relOf (s : State) (n : Nat) (u : LapUnit) : List (Nat × Nat × Option Nat × Option Nat × Option Nat) :=
  let ps := (s.est n).pos
  let base := u.raw.length - 16 * ps.length - 32
  let opt (v : Nat) : Option Nat := if v = 0xFFFF then none else some v
  ps.zipIdx.map fun (p, i) =>
    let r := u.raw.length - 12 * (ps.length - i)
    (p.node, p.chan, opt (field u.raw (r + 2) 2), opt (field u.raw r 2), if field u.raw (base + 4 * i + 3) 1 / 2 % 4 = 0 then opt (field u.raw (base + 4 * i) 2) else none)

/-- The highest and the lowest T_p of a string without TEMP_ASSUMED (Table 15.2). -/
def State.tpRange (s : State) (n : Nat) : Option Int × Option Int :=
  let ts := ((s.est n).pos.filter fun p => !p.assumed).map (·.tp)
  (ts.foldl (fun m v => some (match m with
    | some w => if w < v then v else w
    | none => v)) none,
   ts.foldl (fun m v => some (match m with
    | some w => if v < w then v else w
    | none => v)) none)

/-- The status of a string is captured at a result instant (R155, R198, R293); not while a new epoch waits for its sample instant
(R188, log 46). -/
def State.capture (s : State) (n at_ : Nat) : State :=
  if s.base < (s.ring n).epochFrom then s
  else
    let st := ((s.warmNow n).agesNow n at_).objs.ofStr n
    (s.modStr n fun y => { y with shot := some (at_, st), shotDue := some (s.plainOf at_) }).shotRefer n

/-- The results of lap `seq`, the oldest one in progress, are released once its corrections are made: the unit leaves for the
collector, and the limits go to dispatch (R47, R48, R444). Laps are released in order. -/
def State.releaseLap (s : State) (str seq : Nat) : State :=
  match (s.laps str).cur with
  | [] => s
  | x :: _ =>
    if x.seq ≠ seq ∨ x.handed.isNone then s
    else
      let s := s.underOld str seq fun s => s.buildResult str seq
      match (s.lap? str seq).bind (·.built) with
      | none => s
      | some u =>
        let s := match s.lap? str seq with
          | some y => (s.showResults str y.regs).learnLap str y
          | none => s
        let rel := s.relOf str u
        let rt := s.tpRange str
        let s := s.modLaps str fun l => { l with cur := l.cur.filter fun y => y.seq ≠ seq }
        let s := s.modStr str fun y => { y with units := y.units ++ [u], relAt := some x.resultAt, rel := rel, relT := rt }
        (s.capture str x.resultAt).limitsReleased str

/-- The results of a lap whose result instant has passed leave as soon as they are complete (R48). -/
def State.releaseLate (s : State) (str seq : Nat) : State :=
  match s.lap? str seq with
  | some x => if s.lapNow x ≤ x.resultAt then s else s.releaseLap str seq
  | none => s

/-- The results of lap `seq` of a string are released at its result instant (R47). -/
def execResultInstant (t str seq : Nat) (s : State) : Host.Outcome State Fault Refusal :=
  let s := s.at t
  .next (match s.lap? str seq with
  | some x => if s.running = false ∨ s.lapNow x < x.resultAt then s else s.releaseLap str seq
  | none => s)

/-! ### Lap data complete (R214, R217, R222, R223) -/

/-- Lap data is complete with the last record, and is handed on once its current is there too, or at the cut-off (R209, R216). Results
that are late leave at once (R48). DESIGN CHOICE (log 12): a lap that needs no record is complete when this row says so; R216 gives
its time only from the records. -/
def execLapDataComplete (t str : Nat) (s : State) : Host.Outcome State Fault Refusal :=
  let s := s.at t
  .next (match (s.laps str).cur.find? fun x => x.done.isNone with
  | none => s
  | some x =>
    let late := decide (s.cutOff str x ≤ s.lapNow x)
    if !s.hasStr str || !s.running || !(s.allRecords str x || x.short_) || !(late || !x.curMissing) then s
    else
      let s := s.completeLap str x (if x.records.isEmpty then s.lapNow x else x.recAt)
      ((s.laps str).cur.map (·.seq)).foldl (fun s q => s.releaseLate str q) s)

/-! ### LAP_FEED (R357) -/

/-- Bytes a STREAM_DATA frame holds after its subheader (R164). -/
def frameRoom : Nat := 65528

/-- Frames that whole entries of these lengths fill. -/
def framesOf : Nat → List Nat → Nat
  | _, [] => 0
  | 0, n :: ns => 1 + framesOf (frameRoom - n) ns
  | room + 1, n :: ns => if n ≤ room + 1 then framesOf (room + 1 - n) ns else 1 + framesOf (frameRoom - n) ns

/-- The transmit allowance of a stream (R166). -/
def State.allowance (s : State) (kind : Nat) : Nat :=
  if s.rdB DieStatus.PACE_LOW 0 && decide (kind ≠ 5) && decide (kind ≠ 3) then 8 else 64

/-- Digit `n` of a stream's counts of laps per string. -/
def feedCount (aux n : Nat) : Nat := aux / 65536 ^ n % 65536

/-- A unit comes up in a LAP_FEED: every DECIMATE-th lap fired since the stream opened is queued as a whole entry. One that
cannot be queued is dropped, and the first of a run of dropped laps is replaced by a LAP_GAP entry (R357). -/
def State.feedStream (s : State) (u : LapUnit) (st : Stream) : Stream :=
  if st.kind ≠ 4 ∨ bitOf (field st.params 0 1) u.str = false ∨ u.fired < st.upto then st
  else
    let dec := max 1 (field st.params 2 2)
    let cnt := feedCount st.aux u.str
    let hit := decide (cnt + 1 = dec)
    let st := { st with aux := st.aux - cnt * 65536 ^ u.str + (if hit then 0 else cnt + 1) * 65536 ^ u.str }
    if !hit then st
    else
      let gapBytes := entryHeader 2 u.str false false 16 16 u.seq ++ timeBytes u.nom ++ [0, 0] ++ toLE 4 u.epoch
      let data := if field st.params 1 1 = 1 then u.full else u.raw
      let e := if u.gap then gapBytes else entryHeader 1 u.str false false data.length data.length u.seq ++ data
      let need := framesOf 0 ((st.queue ++ [e]).map (·.length))
      if need ≤ min st.credit (s.allowance 4) then { st with queue := st.queue ++ [e], part := setBit st.part u.str false }
      else if bitOf st.part u.str then st
      else { st with queue := st.queue ++ [gapBytes], part := setBit st.part u.str true }

/-- A unit comes up in every LAP_FEED. -/
def State.feedAll (s : State) (u : LapUnit) : State :=
  { s with mbx := { s.mbx with sess := s.mbx.sess.map fun x => { x with streams := x.streams.map (s.feedStream u) } } }

/-! ### The collector (R450 to R452) -/

/-- At a new second QUEUE_MAX and HANDOFF_MAX report the second that has ended. -/
def State.collSecond (s : State) : State :=
  let c := s.coll
  let sec := s.base / 1000000000
  if sec = c.secIdx then s
  else
    let full := decide (sec = c.secIdx + 1)
    let s := (s.wr CollectorStatus.QUEUE_MAX 0 (if full then c.qMax else 0)).wr CollectorStatus.HANDOFF_MAX 0
      (if full then min 0xFFFF (c.hMax / 1000) else 0)
    { s with coll := { c with secIdx := sec, qMax := 0, hMax := 0 } }

/-- The oldest unit of a queue becomes a gap (R452). -/
def dropOldest : List LapUnit → List LapUnit
  | [] => []
  | u :: us => if u.gap then u :: dropOldest us else { u with gap := true } :: us

/-- The laps of a queue. -/
def depthOf (q : List LapUnit) : Nat := (q.filter fun u => !u.gap).length

/-- A lap of string `n` is dropped: it is counted, and recorded at most once a second (R452). -/
def State.countGap (s : State) (n : Nat) (u : LapUnit) : State :=
  let s := (s.bump CollectorStatus.LAP_GAPS 0 1 (n - 1)).wrB CollectorStatus.GAP_SEEN 0 true
  let s := s.wr CollectorStatus.LAST_GAP_TIME 0 (timeVal u.nom)
  let k := nth 0 s.coll.gaps n + 1
  let due := match nth none s.coll.gapAt n with
    | some a => decide (a + secs 1 ≤ s.now)
    | none => true
  if due then
    ({ s with coll := { s.coll with gaps := setNth 0 s.coll.gaps n, gapAt := setNth (some s.now) s.coll.gapAt n } }).record
      0x0E05 2 ([n] ++ toLE 4 k) n
  else { s with coll := { s.coll with gaps := setNth k s.coll.gaps n } }

/-- A lap unit has been received whole over a string die's link: it enters the die's queue of 4, whose oldest lap gives way
where it is full (R450, R452). -/
def execLapUnitReceived (t str : Nat) (s : State) : Host.Outcome State Fault Refusal :=
  let s := s.at t
  .next (match (s.str str).units with
  | [] => s
  | u :: us =>
    if !s.running || !s.hasStr str then s
    else
      let s := s.collSecond
      let s := s.modStr str fun y => { y with units := us }
      if s.coll.gone.contains (str, u.seq) then
        { s with coll := { s.coll with gone := s.coll.gone.filter fun g => g ≠ (str, u.seq) } }
      else
        let q := (s.str str).queue
        let oldest := q.find? fun v => !v.gap
        let full := decide (4 ≤ depthOf q)
        let q := (if full then dropOldest q else q) ++ [u]
        let s := s.modStr str fun y => { y with queue := q }
        let s := { s with coll := { s.coll with qMax := max s.coll.qMax (depthOf q) } }
        match full, oldest with
        | true, some v => s.countGap str v
        | _, _ => s)

/-- The result instants, nominal instants, LAP_SEQ and epochs of a string's laps that have been announced and not delivered. -/
def State.announced (s : State) (n : Nat) : List (Nat × LapUnit) :=
  let live := (s.str n).units ++ (s.laps n).cur.map fun x => ⟨n, x.seq, x.nom, x.duePlain, x.epoch, x.plain - x.lead, [], [], true⟩
  (live.filter fun u => !s.coll.gone.contains (n, u.seq)).map fun u => (u.due, u)

/-- A unit is put in order of result instant and then of string. -/
def insUnit (u : LapUnit) : List LapUnit → List LapUnit
  | [] => [u]
  | v :: vs => if u.due < v.due ∨ (u.due = v.due ∧ u.str < v.str) then u :: v :: vs else v :: insUnit u vs

/-- A unit is handed on to the history store and to every LAP_FEED. -/
def State.handOn (s : State) (u : LapUnit) : State :=
  let s := if !s.hist.run then s
    else if u.gap then s.writeGap u.str u.nom u.seq u.epoch
    else s.writeLap u.str u.nom u.seq u.raw
  let s := s.feedAll u
  if u.gap then s
  else
    let s := s.bump CollectorStatus.UNITS
    { s with coll := { s.coll with hMax := max s.coll.hMax (s.plain - u.due) } }

/-- A round of the collector: every queued unit of the earliest result instant is handed on in string order, unless a die that
laps has announced a lap for an earlier instant; the announced laps of a die that does not are replaced by LAP_GAP entries
(R450). -/
def execCollectorRound (t : Nat) (s : State) : Host.Outcome State Fault Refusal :=
  let s := s.at t
  let heads := s.strList.filterMap fun n => (s.str n).queue.head?
  .next (match heads with
  | [] => s
  | h :: hs =>
    let due := hs.foldl (fun m u => min m u.due) h.due
    let early (n : Nat) : List LapUnit := ((s.announced n).filter fun a => decide (a.1 < due)).map (·.2)
    let live (n : Nat) : Bool := decide (s.rd LapStatus.LAP_STATE n = 1)
    if !s.running || s.strList.any (fun n => live n && !(early n).isEmpty) then s
    else
      let s := s.collSecond
      let gaps := (s.strList.flatMap early).foldl (fun (l : List LapUnit) u => insUnit { u with gap := true } l) []
      let s := gaps.foldl (fun (s : State) u => s.handOn u) s
      let s := { s with coll := { s.coll with gone := gaps.map (fun u => (u.str, u.seq)) ++ s.coll.gone } }
      (heads.filter fun u => decide (u.due = due)).foldl (fun (s : State) u =>
        (s.modStr u.str fun y => { y with queue := y.queue.drop 1 }).handOn u) s)

end Sys2Proof.Machine
end

