-- ==== Sys2Proof/Machine/Pacer.lean ====
section
/-! DEFINITION. The pacer's output schedules and the capture inputs (R470 to R476). -/

namespace Sys2Proof.Machine

open Sys2Proof.Obj

/-! ### Output schedules (R471, R472) -/

/-- The hidden state of output `k`. -/
def State.pout (s : State) (k : Nat) : POut := nth POut.init s.pouts k

/-- The hidden state of output `k` is changed. -/
def State.modPout (s : State) (k : Nat) (f : POut → POut) : State := { s with pouts := setNth (f (s.pout k)) s.pouts k }

/-- Output schedules run: not after step 7 of HOLDUP, not during a caldera latch, not in a halted module (R474). -/
def State.pacerUp (s : State) : Bool := s.running && !s.power.shed && decide (s.security ≠ 5) && s.thermal.first.isNone

/-- MODE, START_TIME and the period of a schedule in ns. -/
def State.outMode (s : State) (k : Nat) : Nat := s.rd PacerOutput.MODE k
@[inherit_doc State.outMode] def State.outStart (s : State) (k : Nat) : Nat := timeNs (s.rd PacerOutput.START_TIME k)
@[inherit_doc State.outMode] def State.outPeriod (s : State) (k : Nat) : Nat :=
  secs (s.rd PacerOutput.PERIOD_S k) + s.rd PacerOutput.PERIOD_NS k

/-- The level at which a schedule rests: opposite to its active level, low where no schedule drives the line (R471). -/
def State.restLevel (s : State) (k : Nat) : Nat :=
  if s.outMode k ≠ 0 ∧ s.rdB PacerOutput.PULSE_EN k = true then s.rd PacerOutput.POLARITY k else 0

/-- The first occurrence of a periodic schedule after an instant, earlier than START_TIME where that lies ahead. -/
def State.firstAfter (s : State) (k t : Nat) : Nat :=
  let p := max 1 (s.outPeriod k)
  let a := s.outStart k
  if a ≤ t then a + ((t - a) / p + 1) * p else a - (a - t - 1) / p * p

/-- NEXT_FIRE_TIME and SCHEDULE_STATE follow the schedule. -/
def State.pacerRegs (s : State) (k : Nat) : State :=
  let x := s.pout k
  let s := s.wr PacerOutput.NEXT_FIRE_TIME k (match x.next with
    | some t => timeVal t
    | none => timeNA)
  s.wr PacerOutput.SCHEDULE_STATE k
    (match s.outMode k with
    | 1 => if x.gone then 4 else if x.last.isSome then 3 else 1
    | 2 => 2
    | _ => 0)

/-- An occurrence at `at_` fires now: its pulse begins, and its injection is requested (R471, R473). -/
def State.pacerFire (s : State) (k at_ : Nat) : State :=
  let s := s.modPout k fun x => { x with last := some at_ }
  let s := (s.bump PacerOutput.FIRED k).wr PacerOutput.LAST_FIRE_TIME k (timeVal at_)
  let s := if s.rdB PacerOutput.PULSE_EN k && !s.rdB PacerOutput.LINE_CLAIMED k then
      (s.modPout k fun x => { x with pulseEnd := some (s.now + s.rd PacerOutput.PULSE_WIDTH k) }).lineLevel k
        (1 - s.rd PacerOutput.POLARITY k)
    else s
  if !s.rdB PacerOutput.INJECT_EN k then s
  else
    let (s, ok) := s.injRequest (s.rd PacerOutput.INJECT_STRING k) 2 k (s.rd PacerOutput.INJECT_INPUT k)
      (s.rd PacerOutput.INJECT_COUNT k)
    if ok then s else (s.bump PacerOutput.INJECT_REFUSED k).wrB PacerOutput.INJECT_REFUSED_SEEN k true

/-- A late occurrence fires at once (R472). -/
def State.pacerLate (s : State) (k at_ : Nat) : State :=
  ((s.pacerFire k at_).wrB PacerOutput.LATE_SEEN k true).bump PacerOutput.LATE_FIRED k

/-- A once schedule is discarded (R472). -/
def State.pacerDiscard (s : State) (k : Nat) : State := s.modPout k fun x => { x with next := none, gone := true }

/-- The lateness rule, applied when a schedule write applies and after a step (R472). -/
def State.pacerRule (s : State) (k : Nat) : State :=
  let x := s.pout k
  let a := s.outStart k
  let t := s.base
  let s := match s.outMode k with
    | 1 =>
      if x.gone || x.last.isSome then s
      else if t < a then s.modPout k fun x => { x with next := some a }
      else if t ≤ a + 1000000 then (s.modPout k fun x => { x with next := none }).pacerLate k a
      else (s.pacerDiscard k).record 0x0F09 2 ([k, 1] ++ toLE 4 1)
    | 2 =>
      let p := max 1 (s.outPeriod k)
      let from_ := match x.last with
        | some l => max a (l + p)
        | none => a
      let s := s.modPout k fun y => { y with next := some (s.firstAfter k (match x.last with
        | some l => max l t
        | none => t)) }
      if t < from_ then s
      else
        let passed := (t - from_) / p + 1
        let newest := from_ + (passed - 1) * p
        let late := decide (t ≤ newest + 1000000)
        let skipped := if late then passed - 1 else passed
        let s := s.bump PacerOutput.SKIPPED k skipped
        let s := if skipped = 0 then s else s.record 0x0F09 2 ([k, 2] ++ toLE 4 (min skipped 0xFFFFFFFF))
        if late then s.pacerLate k newest else s
    | _ => s.modPout k fun x => { x with next := none }
  s.pacerRegs k

/-- After a re-origin no occurrence counts as passed (R457, R472). -/
def State.pacerOrigin (s : State) (k : Nat) : State :=
  let x := s.pout k
  let a := s.outStart k
  let s := match s.outMode k with
    | 1 =>
      if x.gone || x.last.isSome then s
      else if s.base < a then s.modPout k fun x => { x with next := some a }
      else s.pacerDiscard k
    | 2 => s.modPout k fun x => { x with next := some (s.firstAfter k s.base) }
    | _ => s
  s.pacerRegs k

/-- A committed write to an output schedule applies; a pulse in progress completes, except that MODE 0 ends it (R474). -/
def State.pacerWritten (s : State) (k : Nat) : State :=
  let s := s.modPout k fun x => { x with next := none, last := none, gone := false }
  let s := if s.outMode k = 0 then s.modPout k fun x => { x with pulseEnd := none } else s
  let s := if s.rdB PacerOutput.LINE_CLAIMED k || (s.pout k).pulseEnd.isSome then s else s.lineLevel k (s.restLevel k)
  s.pacerRule k

/-- The refusal of an output schedule as it would stand after the commit (R471). -/
def State.pacerCheck (s : State) (k : Nat) : Option (Nat × Bytes) :=
  let m := s.outMode k
  let i := s.rd PacerOutput.INJECT_INPUT k
  let inj := s.rdB PacerOutput.INJECT_EN k
  if inj && !s.hasStr (s.rd PacerOutput.INJECT_STRING k) then some (stAbsent, [])
  else if m ≠ 0 ∧ s.rd PacerOutput.START_TIME k = timeNA then some (refOff stRange 0)
  else if m = 2 ∧ s.outPeriod k < 1000 then some (refOff stRange 0)
  else if m = 2 ∧ s.outPeriod k ≤ s.rd PacerOutput.PULSE_WIDTH k then some (refOff stRange 0)
  else if inj && (decide (i = 0x0C) || decide (i = 0) || decide (0x0F < i)) then some (refOff stRange 1)
  else if m ≠ 0 ∧ s.rdB PacerOutput.PULSE_EN k = true ∧ s.rdB PacerOutput.LINE_CLAIMED k = true then some (refCond 0x0F01)
  else none

/-- The next occurrence of an output schedule: it drives its pulse and requests its injection (R471). -/
def execPacerOccurrence (t out : Nat) (s : State) : Host.Outcome State Fault Refusal :=
  let s := s.at t
  .next (match (s.pout out).next with
  | none => s
  | some a =>
    if !s.pacerUp || decide (s.base < a) || decide (3 < out) then s
    else
      let s := s.pacerFire out a
      (s.modPout out fun x => { x with next := if s.outMode out = 2 then some (a + max 1 (s.outPeriod out)) else none }).pacerRegs out)

/-- PULSE_WIDTH has elapsed: the line returns to rest (R471). -/
def execPulseEnd (t out : Nat) (s : State) : Host.Outcome State Fault Refusal :=
  let s := s.at t
  .next (match (s.pout out).pulseEnd with
  | none => s
  | some e =>
    if s.now < e then s
    else (s.modPout out fun x => { x with pulseEnd := none }).lineLevel out (s.restLevel out))

/-! ### Capture inputs (R475, R476) -/

/-- The hidden state of capture input `k`. -/
def State.capIn (s : State) (k : Nat) : CapIn := nth CapIn.init s.caps k

/-- WINDOW_START, WINDOW_END and the period of capture input `k` in ns. -/
def State.winStart (s : State) (k : Nat) : Nat := timeNs (s.rd CaptureInput.WINDOW_START k)
@[inherit_doc State.winStart] def State.winEnd (s : State) (k : Nat) : Nat := timeNs (s.rd CaptureInput.WINDOW_END k)
@[inherit_doc State.winStart] def State.winPeriod (s : State) (k : Nat) : Nat :=
  secs (s.rd CaptureInput.WINDOW_PERIOD_S k) + s.rd CaptureInput.WINDOW_PERIOD_NS k

/-- The index of the first window whose end lies after `t` (R475). -/
def State.winIndex (s : State) (k t : Nat) : Nat :=
  if s.rd CaptureInput.CAPTURE_MODE k = 3 ∧ s.winEnd k ≤ t then (t - s.winEnd k) / max 1 (s.winPeriod k) + 1 else 0

/-- An instant lies in an open window of the input: its index. -/
def State.winOpen (s : State) (k t : Nat) : Option Nat :=
  match s.rd CaptureInput.CAPTURE_MODE k with
  | 1 => some 0
  | 2 => if s.winStart k ≤ t ∧ t < s.winEnd k ∧ s.rd CaptureInput.WINDOW_STATE k ≠ 4 then some 0 else none
  | 3 =>
    let m := s.winIndex k t
    if s.winStart k + m * s.winPeriod k ≤ t then some m else none
  | _ => none

/-- WINDOW_STATE at the present time base. -/
def State.winState (s : State) (k : Nat) : State :=
  let t := s.base
  let q := match s.rd CaptureInput.CAPTURE_MODE k with
    | 0 => 0
    | 2 => if s.rd CaptureInput.WINDOW_STATE k = 4 then 4
        else if t < s.winStart k then 1 else if t < s.winEnd k then 2 else 3
    | _ => if (s.winOpen k t).isSome then 2 else 1
  s.wr CaptureInput.WINDOW_STATE k q

/-- A committed write to a capture input applies (R475). -/
def State.captureWritten (s : State) (k : Nat) : State :=
  let t := s.base
  let m := s.rd CaptureInput.CAPTURE_MODE k
  if m = 2 ∧ s.winEnd k ≤ t then s.wr CaptureInput.WINDOW_STATE k 4
  else
    let s := (s.wr CaptureInput.WINDOW_STATE k 0).winState k
    if 2 ≤ m ∧ s.rd CaptureInput.WINDOW_STATE k = 2 ∧ s.winStart k + s.winIndex k t * s.winPeriod k < t then
      s.wrB CaptureInput.LATE_OPEN k true
    else s

/-- The refusal of a capture input as it would stand after the commit (R475). -/
def State.captureCheck (s : State) (k : Nat) : Option (Nat × Bytes) :=
  let m := s.rd CaptureInput.CAPTURE_MODE k
  if m < 2 then none
  else if s.rd CaptureInput.WINDOW_START k = timeNA ∨ s.rd CaptureInput.WINDOW_END k = timeNA then some (refOff stRange 0)
  else if s.winEnd k ≤ s.winStart k then some (refOff stRange 4)
  else if m = 3 ∧ s.winPeriod k < s.winEnd k - s.winStart k + 100 then some (refOff stRange 0)
  else none

/-- A capture window opens or closes (R475). -/
def execCaptureWindow (t input : Nat) (s : State) : Host.Outcome State Fault Refusal :=
  let s := s.at t
  .next (if !s.running || decide (1 < input) then s else s.winState input)

/-- An edge (1 rising, 2 falling) arrives on a capture input at this instant: it is captured where EDGE and a window ask for it
and 100 ns have passed since the one before (R475, R476). -/
def execCapture (t input edge : Nat) (s : State) : Host.Outcome State Fault Refusal :=
  let s := s.at t
  .next (if !s.running || decide (1 < input) || !(edge == 1 || edge == 2) then s
  else
    let s := s.wrB CaptureInput.LEVEL input (edge == 1)
    let ts := s.base
    match s.winOpen input ts with
    | none => s
    | some m =>
      let x := s.capIn input
      if !bitOf (s.rd CaptureInput.EDGE input) (edge - 1) then s
      else if (match x.last with
          | some l => decide (s.now < l + 100)
          | none => false) then s.bump CaptureInput.EDGES_MISSED input
      else
        let sec := ts / 1000000000
        let cnt := if sec = x.secIdx then x.secCnt else 0
        let rec_ := decide (cnt < s.rd CaptureInput.RECORD_LIMIT input)
        let s := { s with caps := setNth ⟨some s.now, sec, if rec_ then cnt + 1 else cnt⟩ s.caps input }
        let s := (s.bump CaptureInput.CAPTURES input).wr CaptureInput.LAST_EDGE input edge
        let s := s.stamp CaptureInput.LAST_CAPTURE_TIME input
        if rec_ then s.record 0x0F08 1 ([input, edge] ++ toLE 4 m) else s.bump CaptureInput.CAPTURES_UNRECORDED input)

/-! ### After a change of the time base -/

/-- The pacer, the laps, the channels and the windows after the time base has made a step or a re-origin (R203, R411, R457,
R472, R475). -/
def State.timeMoved (s : State) (origin backward : Bool) : State :=
  let fresh := origin || backward
  let s := if fresh then s.eachStr fun n s => s.modLaps n fun l => { l with stepped := some s.base } else s
  let s := s.chanStep fresh
  let s := if s.pacerUp then
      (List.range 4).foldl (fun (s : State) k => if origin then s.pacerOrigin k else s.pacerRule k) s
    else s
  (List.range 2).foldl (fun (s : State) k => s.winState k) s

end Sys2Proof.Machine
end

