-- ==== Sys2Proof/Machine/Time.lean ====
section
/-! DEFINITION. The time base and its two PTP domains (R454 to R469): best master selection, link delays, the servos, steps,
the first lock, and the choice of the domain in use. -/

namespace Sys2Proof.Machine

open Sys2Proof.Obj

/-! ### Domains -/

/-- The servo of domain `i`, 1 or 2. -/
def State.dom (s : State) (i : Nat) : Dom := nth Dom.init s.time.doms (i - 1)

/-- The servo of domain `i` is changed. -/
def State.modDom (s : State) (i : Nat) (f : Dom → Dom) : State :=
  { s with time := { s.time with doms := setNth (f (s.dom i)) s.time.doms (i - 1) } }

/-- DOMAIN_STATE codes of Table 17.6. -/
def domDisabled : Nat := 0
@[inherit_doc domDisabled] def domListening : Nat := 1
@[inherit_doc domDisabled] def domAcquiring : Nat := 2
@[inherit_doc domDisabled] def domLocked : Nat := 3
@[inherit_doc domDisabled] def domHoldover : Nat := 4

/-- The state of domain `i`. -/
def State.domState (s : State) (i : Nat) : Nat := s.rd PtpDomain.DOMAIN_STATE i

/-- The domain in use, 0 none. -/
def State.inUse (s : State) : Nat := s.rd TimeStatus.DOMAIN_IN_USE

/-- The servo and the PTP messages are served (R547, Table 21.5). -/
def State.ptpUp (s : State) : Bool := s.running && decide (s.security ≠ 5) && !s.dieHalted 0

/-! ### Rates (R455) -/

/-- One ppb in 10^-15. -/
def ppb : Int := 1000000

/-- What is left of a switch's remainder, in 2^-16 ns. -/
def State.slewLeft (s : State) : Int :=
  if s.clk.slewEnd ≤ s.now ∨ s.clk.slewEnd ≤ s.clk.mono0 then 0
  else s.time.slew * ((s.clk.slewEnd - s.now : Nat) : Int) / ((s.clk.slewEnd - s.clk.mono0 : Nat) : Int)

/-- The rates take effect from now on: the rate estimate `r`, the servo's slew `sv` and a remainder `left` that is slewed at
SLEW_RATE; the slew term as a whole is limited to SLEW_RATE (R455, R466). -/
def State.retime (s : State) (r sv left : Int) : State :=
  let lim := s.rd TimeStatus.SLEW_RATE * ppb
  let tot := clampI (-lim) lim (sv + (if left = 0 then 0 else if 0 < left then lim else -lim))
  let dur := if left = 0 then 0 else (left.natAbs * 1000000000000000 + 65536 * lim.toNat - 1) / (65536 * lim.toNat)
  { s with
    clk := ⟨s.now, s.clk.fine s.now, r + sv, tot - sv, s.now + dur, s.clk.steps⟩
    time := { s.time with r := r, s := sv, slew := left } }

/-- The rate correction c in force, in 10^-15. -/
def State.rateNow (s : State) : Int := s.clk.rate + (if s.now < s.clk.slewEnd then s.clk.slew else 0)

/-! ### Offsets, rates and bounds of the domains (R461, R462, R467) -/

/-- The offset of a domain from the time base, in 2^-16 ns. -/
def State.domOffset (s : State) (i : Nat) : Int := (s.dom i).pd * 65536 + (s.dom i).filt

/-- RATE of a domain, in 10^-15. -/
def State.domRate (s : State) (i : Nat) : Int := if s.inUse = i then s.time.r else s.time.r + (s.dom i).rel

/-- A magnitude in 2^-16 ns as whole ns, rounded up. -/
def nsUp (x : Int) : Nat := (x.natAbs + 65535) / 65536

/-- The error bound of a domain in ns, none before it has locked. -/
def State.domBound (s : State) (i : Nat) : Option Nat :=
  let d := s.dom i
  if s.domState i = domLocked then some (maxL d.recent + 100 + (if s.inUse = i then nsUp s.slewLeft else 0))
  else d.bound.map fun b => b + 100 * (s.now - d.leftAt) / 1000000000

/-- TIME_ERROR_EST. -/
def State.errorEst (s : State) : Nat :=
  if s.inUse = 0 then 0xFFFFFFFF else min 0xFFFFFFFE ((s.domBound s.inUse).getD 0xFFFFFFFE)

/-- 2^-16 ns as ns, to the nearest. -/
def toNs (x : Int) : Int := roundDiv x 65536

/-- A signed field takes an integer, saturating at the ends but for the not-available code. -/
def State.domRegs (s : State) (i : Nat) : State :=
  if (s.dom i).last.isNone then s
  else (s.wrI PtpDomain.OFFSET i (toNs (s.domOffset i))).wrI PtpDomain.RATE i (roundDiv (s.domRate i) 1000000)

/-- TIME_STATUS, the domains and REFCLK_DEV report the servos as they stand (R31, R455, R461, R467). -/
def State.timeRegs (s : State) : State :=
  let s := (s.domRegs 1).domRegs 2
  let s := s.wr TimeStatus.TIME_ERROR_EST 0 s.errorEst
  let s := s.wrI TimeStatus.RATE_IN_FORCE 0 (roundDiv s.rateNow 1000000)
  let s := s.wrI TimeStatus.SLEW_REMAINING 0 (toNs s.slewLeft)
  if !s.ptpLocked || (s.dom 1).last.isNone then
    (s.wr ModuleHealth.REFCLK_DEV 0 0x8000).wrB ModuleHealth.REFCLK_DRIFT 0 false
  else
    let dev := roundDiv (s.domRate 1) 100000000
    (s.wrI ModuleHealth.REFCLK_DEV 0 dev).wrB ModuleHealth.REFCLK_DRIFT 0 (decide (1000 < dev.natAbs))

/-- The timescale and the leap information of the domain in use (R457). -/
def State.timeProps (s : State) : State :=
  let i := s.inUse
  match (s.dom i).sel with
  | none => s
  | some f =>
    if i = 0 then s
    else
      let a := f.ann
      let s := (s.wr TimeStatus.UTC_OFFSET 0 a.utc).wrB TimeStatus.LEAP59 0 (bitOf a.flags 0)
      let s := (s.wrB TimeStatus.LEAP61 0 (bitOf a.flags 1)).wrB TimeStatus.TIMESCALE_ARB 0 (!bitOf a.flags 2)
      s.wrB TimeStatus.UTC_OFFSET_VALID 0 (bitOf a.flags 3)

/-! ### Steps, the first lock and switches (R456, R457, R461, R463, R466) -/

/-- The time base moves by whole ns; `steps` counts what is a step or a re-origin. -/
def State.moveBase (s : State) (d : Int) (isStep : Bool) : State :=
  let c := s.clk
  let base := ((c.fine s.now : Int) + d * 2 ^ 32).toNat
  { s with
    clk := ⟨s.now, base, c.rate, c.slew, max s.now c.slewEnd, if isStep then c.steps + d else c.steps⟩
    time := { s.time with slew := s.slewLeft } }

/-- The phase of every domain not in use changes by minus a step (R461). -/
def State.movePhases (s : State) (d : Int) : State :=
  [1, 2].foldl (fun (s : State) i => if i = s.inUse then s else s.modDom i fun x => { x with pd := x.pd - d }) s

/-- A step of the time base by `d` ns, decided for domain `i` by `cause`; beyond 1 s it is a re-origin (R456, R457). -/
def State.stepTime (s : State) (i : Nat) (d : Int) (cause : Nat) : State :=
  let origin := decide (1000000000 < d.natAbs)
  let s := (s.moveBase d true).movePhases d
  let s := (s.bump TimeStatus.STEPS).wrI TimeStatus.LAST_STEP 0 d
  let s := s.stamp TimeStatus.LAST_STEP_TIME
  let s := s.record 0x0F02 2 ([i] ++ toLE 8 (satInt 64 d) ++ [cause, b2n origin])
  s.timeMoved origin (decide (d < 0))

/-- The first lock: the time base is set to the domain clock of the domain that has locked (R457). -/
def State.firstLock (s : State) (i : Nat) : State :=
  let before := timeBytes s.base
  let r := s.domRate i
  let d := (s.dom i).pd
  let s := s.wr TimeStatus.DOMAIN_IN_USE 0 i
  let s := (s.moveBase d true).movePhases d
  let s := (s.modDom i fun x => { x with pd := 0, rel := 0 }).retime r 0 0
  let s := s.modDom (3 - i) fun x => { x with rel := x.rel - r }
  let s := (s.wrB TimeStatus.FIRST_LOCK_DONE 0 true).stamp TimeStatus.FIRST_LOCK_TIME
  ((s.record 0x0F01 1 ([i] ++ before)).timeMoved true false).timeProps

/-- The module switches to domain `j` (R466). -/
def State.switchTo (s : State) (j : Nat) : State :=
  let i := s.inUse
  let x := s.dom j
  let el : Int := s.now - x.last.getD s.now
  let delta := s.domOffset j + x.rel * el * 65536 / 1000000000000000
  let r := s.domRate j
  let rOld := s.time.r
  let dNs := toNs delta
  let ptp (k : Nat) : Bool := match (s.dom k).sel with
    | some f => bitOf f.ann.flags 2
    | none => s.rdB PtpDomain.PTP_TIMESCALE k
  let both := ptp i && ptp j
  let smooth := both && decide (delta.natAbs ≤ s.rd TimeStatus.SWITCH_SLEW_LIMIT * 65536)
  let out := roundDiv (s.domOffset i) 65536
  let s := s.wr TimeStatus.DOMAIN_IN_USE 0 j
  let s := s.modDom i fun y => { y with pd := out, filt := 0, rel := rOld - r }
  let s := s.modDom j fun y => { y with pd := 0, rel := 0, filt := delta }
  let s := s.retime r 0 0
  let ph := if smooth then clampI (-50) 50 dNs else dNs
  let stepped := !smooth && decide (50 < dNs.natAbs)
  let s := s.modDom j fun y => { y with filt := y.filt - ph * 65536 }
  let s := if stepped then s.stepTime j dNs (if both then 2 else 3) else s.moveBase ph false
  let left := if smooth then delta - ph * 65536 else 0
  let slews := decide (65536 ≤ left.natAbs)
  let s := (s.retime r 0 (if slews then left else 0)).wrB TimeStatus.SLEWING 0 slews
  let s := s.bump TimeStatus.SWITCHES
  (s.record 0x0F03 2 ([i, j] ++ toLE 4 (satInt 32 dNs) ++ [b2n stepped])).timeProps

/-! ### States of the domains and of the time base (R464, R465, R467, R469) -/

/-- A domain changes its state (Table 17.2). -/
def State.setDom (s : State) (i new : Nat) : State :=
  let old := s.domState i
  if old = new then s
  else
    let b := s.domBound i
    let used := decide (s.inUse = i)
    let s := s.wr PtpDomain.DOMAIN_STATE i new
    let s := s.modDom i fun x =>
      { x with
        okRun := 0, badRun := 0
        bound := if old = domLocked then b else x.bound
        leftAt := if old = domLocked then s.now else x.leftAt
        lockedAt := if new = domLocked then s.now else x.lockedAt
        acquire := if new = domAcquiring then !used else x.acquire }
    let s := if new = domLocked then s.stamp PtpDomain.LOCK_TIME i else s
    let s := if used && decide (new = domHoldover) then s.retime s.time.r 0 s.slewLeft else s
    s.record 0x0F04 (if old = domLocked then 2 else 1) [i, old, new]

/-- The domain in use is chosen (R465). -/
def State.chooseDomain (s : State) : State :=
  let u := s.inUse
  let l (i : Nat) : Bool := decide (s.domState i = domLocked)
  if u = 0 then (if l 1 then s.firstLock 1 else if l 2 then s.firstLock 2 else s)
  else if !l u && l (3 - u) then s.switchTo (3 - u)
  else if s.rdB TimeStatus.REVERTIVE && decide (u = 2) && l 2 && l 1 &&
      decide ((s.dom 1).lockedAt + secs (s.rd TimeStatus.RETURN_QUAL) ≤ s.now) then s.switchTo 1
  else s

/-- TIME_STATE follows the domain in use and its bound (R467); eligibility follows it (R433). -/
def State.timeState (s : State) : State :=
  let old := s.rd TimeStatus.TIME_STATE
  let u := s.inUse
  let est := s.errorEst
  let new := if u = 0 then 0 else if s.domState u = domLocked then 1
    else if est ≤ s.rd TimeStatus.HOLDOVER_MAX_ERROR then 2 else 3
  if old = new then s
  else
    let s := s.wr TimeStatus.TIME_STATE 0 new
    let s := if new = 3 then s.retime s.time.r 0 s.slewLeft else s
    (s.record 0x0F05 2 ([old, new] ++ toLE 4 est)).roleCheck

/-- The filtered offsets of two LOCKED domains are compared (R469). -/
def State.compareDoms (s : State) : State :=
  if s.domState 1 = domLocked ∧ s.domState 2 = domLocked then
    let diff := toNs (s.domOffset 1 - s.domOffset 2)
    let bad := decide (s.rd TimeStatus.DISAGREE_LIMIT < diff.natAbs)
    let since (o : Option Nat) : Option Nat := some (o.getD s.now)
    let s := { s with time := { s.time with
      disFrom := if bad then since s.time.disFrom else none, okFrom := if bad then none else since s.time.okFrom } }
    let long (o : Option Nat) : Bool := match o with
      | some a => decide (a + secs 10 ≤ s.now)
      | none => false
    let set := s.rdB TimeStatus.DOMAIN_DISAGREE
    if !set && long s.time.disFrom then
      (s.wrB TimeStatus.DOMAIN_DISAGREE 0 true).record 0x0F07 3 (toLE 4 (satInt 32 diff))
    else if set && long s.time.okFrom then s.wrB TimeStatus.DOMAIN_DISAGREE 0 false
    else s
  else { s with time := { s.time with disFrom := none, okFrom := none } }

/-- SLEWING clears when nothing is left to slew (R466). -/
def State.slewCheck (s : State) : State :=
  if s.rdB TimeStatus.SLEWING && decide (s.clk.slewEnd ≤ s.now) then
    (s.retime s.time.r s.time.s 0).wrB TimeStatus.SLEWING 0 false
  else s

/-- What follows each sample and each change of a domain. -/
def State.timeCheck (s : State) : State := (s.slewCheck.chooseDomain.timeState.compareDoms).timeRegs

/-! ### Best master selection (R458, R464) -/

/-- An interval of 2^log s in ns. -/
def logNs (log : Int) : Nat := if 0 ≤ log then 1000000000 * 2 ^ log.toNat else 1000000000 / 2 ^ (-log).toNat

/-- The Announce receipt timeout of a master has passed. -/
def Foreign.timedOut (f : Foreign) (now : Nat) : Bool :=
  match f.heard with
  | [] => true
  | a :: _ => decide (a + 3 * f.interval ≤ now)

/-- A master is qualified: two Announce messages within four intervals, and stepsRemoved below 255. -/
def Foreign.qualified (f : Foreign) (now : Nat) : Bool :=
  decide (2 ≤ (f.heard.filter fun a => decide (now ≤ a + 4 * f.interval)).length) && !f.timedOut now && decide (f.ann.steps < 255)

/-- The order of the default data set comparison. -/
def announceKey (a : PtpAnnounce) (same : Bool) : List Nat :=
  if same then [a.steps, a.ident, a.pnum] else [a.prio1, a.cls, a.acc, a.varr, a.prio2, a.gm]

/-- Lists of one length in lexicographic order. -/
def lexLt : List Nat → List Nat → Bool
  | a :: as, b :: bs => decide (a < b) || (decide (a = b) && lexLt as bs)
  | _, _ => false

/-- One master comes before another. -/
def betterMaster (a b : PtpAnnounce) : Bool :=
  let same := decide (a.gm = b.gm)
  lexLt (announceKey a same) (announceKey b same)

/-- The best of the qualified masters. -/
def bestMaster (now : Nat) (ms : List Foreign) : Option Foreign :=
  (ms.filter fun f => f.qualified now).foldl (fun b f => match b with
    | none => some f
    | some g => if betterMaster f.ann g.ann then some f else some g) none

/-- The identity and the properties of the selected master are recorded. -/
def State.masterRegs (s : State) (i : Nat) (a : PtpAnnounce) : State :=
  let s := (s.wr PtpDomain.GM_CLOCK_CLASS i a.cls).wr PtpDomain.GM_PRIORITY1 i a.prio1
  let s := (s.wr PtpDomain.GM_ACCURACY i a.acc).wr PtpDomain.GM_IDENTITY i (ofLE (toBE 8 a.gm))
  let s := (s.wr PtpDomain.STEPS_REMOVED i a.steps).wr PtpDomain.UTC_OFFSET i a.utc
  let s := (s.wrB PtpDomain.PTP_TIMESCALE i (bitOf a.flags 2)).wrB PtpDomain.LEAP61 i (bitOf a.flags 1)
  s.wrB PtpDomain.LEAP59 i (bitOf a.flags 0)

/-- The best master algorithm is run for a domain. -/
def State.selectMaster (s : State) (i : Nat) : State :=
  let d := s.dom i
  match bestMaster s.now d.masters with
  | none => s
  | some b =>
    let q := s.domState i
    let newGm := match d.sel with
      | some f => decide (f.ann.gm ≠ b.ann.gm)
      | none => false
    let newSrc := match d.sel with
      | some f => decide (f.ann.ident ≠ b.ann.ident ∨ f.ann.pnum ≠ b.ann.pnum)
      | none => true
    let s := (s.modDom i fun x => { x with sel := some b, okRun := if newSrc then 0 else x.okRun }).masterRegs i b.ann
    let s := if q = domListening then s.setDom i domAcquiring
      else if newGm && (decide (q = domLocked) || decide (q = domHoldover)) then
        ((s.bump PtpDomain.GM_CHANGES i).record 0x0F06 2 ([i] ++ toBE 8 b.ann.gm)).setDom i domAcquiring
      else s
    s.timeProps

/-- A domain begins anew in LISTENING, or is DISABLED; its servo state is discarded (R464, R477). The bound of a domain in use
grows on from its last LOCKED value (R467). -/
def State.domStart (s : State) (i : Nat) : State :=
  let s := s.setDom i (if s.rdB PtpDomain.DOMAIN_EN i then domListening else domDisabled)
  s.modDom i fun x => { Dom.init with bound := x.bound, leftAt := x.leftAt }

/-- A committed write to a domain takes effect (R477). `o` is the state before. -/
def State.domWritten (s o : State) (i : Nat) : State :=
  let moved := decide (o.rd PtpDomain.DOMAIN_NUMBER i ≠ s.rd PtpDomain.DOMAIN_NUMBER i) ||
    decide (o.rd PtpDomain.PORT i ≠ s.rd PtpDomain.PORT i)
  if moved || decide (o.rdB PtpDomain.DOMAIN_EN i ≠ s.rdB PtpDomain.DOMAIN_EN i) then (s.domStart i).timeCheck else s

/-- The refusal of a domain as it would stand after the commit (R477). -/
def State.domCheck (s : State) : Option (Nat × Bytes) :=
  if s.rdB PtpDomain.DOMAIN_EN 1 ∧ s.rdB PtpDomain.DOMAIN_EN 2 ∧ s.rd PtpDomain.PORT 1 = s.rd PtpDomain.PORT 2 ∧
      s.rd PtpDomain.DOMAIN_NUMBER 1 = s.rd PtpDomain.DOMAIN_NUMBER 2 then some (refOff stRange 0)
  else none

/-- The domains that a message of a port and a domain number concerns. -/
def State.domsOf (s : State) (port dom : Nat) : List Nat :=
  [1, 2].filter fun i => decide (s.rd PtpDomain.PORT i = port) && decide (s.rd PtpDomain.DOMAIN_NUMBER i = dom) &&
    decide (s.domState i ≠ domDisabled)

/-- An Announce of a domain arrives at a port (R458). -/
def execAnnouncePtp (t port dom : Nat) (m : PtpAnnounce) (s : State) : Host.Outcome State Fault Refusal :=
  let s := s.at t
  .next (if !s.ptpUp then s
  else
    ((s.domsOf port dom).foldl (fun (s : State) i =>
      let is (f : Foreign) : Bool := decide (f.ann.ident = m.ident) && decide (f.ann.pnum = m.pnum)
      let old := ((s.dom i).masters.find? is).map (·.heard)
      let f : Foreign := ⟨m, logNs m.log, (s.now :: old.getD []).take 4⟩
      (s.modDom i fun d => { d with masters := f :: d.masters.filter fun g => !is g }).selectMaster i) s).timeCheck)

/-! ### Link delay (R459, R460) -/

/-- An enabled domain on a port, the primary first. -/
def State.portDomain (s : State) (port : Nat) : Option Nat :=
  [1, 2].find? fun i => decide (s.rd PtpDomain.PORT i = port) && s.rdB PtpDomain.DOMAIN_EN i

/-- The 802.1Q tag of the PTP frames of domain `i` on a port, none where VLAN_ID is 0 (Table 17.1). -/
def State.ptpTag (s : State) (port i : Nat) : Option (Nat × Nat) :=
  (s.netTag port).map fun v => (v.1, s.rd PtpDomain.PTP_PCP i)

/-- A Pdelay_Req is answered with a one-step Pdelay_Resp that carries the turnaround time `turn` in 2^-16 ns (R459). -/
def execPdelayReq (t port dom seq ident pnum turn : Nat) (s : State) : Host.Outcome State Fault Refusal :=
  let s := s.at t
  .next (match s.portDomain port with
  | none => s
  | some i => if s.ptpUp = true ∧ dom ≤ 127 then s.send (.ptp port (s.ptpTag port i) dom 3 [seq, ident, pnum, turn]) else s)

/-- The median of a list in rising order; the mean of the middle two where their number is even (DESIGN CHOICE, log 19: R460 does
not say how a median of an even number is formed). -/
def median (l : List Int) : Int :=
  let n := l.length
  if n % 2 = 1 then nth 0 l (n / 2) else (nth 0 l (n / 2 - 1) + nth 0 l (n / 2)) / 2

/-- An integer put into a rising list. -/
def insInt (x : Int) : List Int → List Int
  | [] => [x]
  | y :: ys => if x ≤ y then x :: y :: ys else y :: insInt x ys

/-- The mean link delay of a port in 2^-16 ns, once 3 valid exchanges exist. -/
def State.linkDelay (s : State) (port : Nat) : Option Int :=
  let ds := (nth PLink.init s.time.links (port - 1)).delays
  if ds.length < 3 then none else some (median (ds.foldl (fun l x => insInt x l) []))

/-- A peer-delay exchange of a port, once a second: a Pdelay_Req left at `resp.1` and its response arrived at `resp.2.1` of the
reference clock after a turnaround in 2^-16 ns; none where no response came (R460). -/
def execPdelayExchange (t port : Nat) (resp : Option (Nat × Nat × Int)) (s : State) : Host.Outcome State Fault Refusal :=
  let s := s.at t
  let k := nth PLink.init s.time.links (port - 1)
  let due := match k.reqAt with
    | some a => decide (a + secs 1 ≤ s.now)
    | none => true
  .next (match s.portDomain port with
  | none => s
  | some i =>
    if !s.ptpUp || !due || !(port == 1 || port == 2) then s
    else
      let seq := (k.reqSeq + 1) % 65536
      let s := s.send (.ptp port (s.ptpTag port i) (s.rd PtpDomain.DOMAIN_NUMBER i) 2 [seq])
      let new := match resp with
        | none => none
        | some (a, b, turn) =>
          if b ≤ a + secs 1 ∧ turn ≤ 10000000 * 65536 then
            some ((((s.clk.fine b / 65536 : Nat) : Int) - (s.clk.fine a / 65536 : Nat) - turn) / 2)
          else none
      let k := { k with reqAt := some s.now, reqSeq := seq, delays := (new.toList ++ k.delays).take 8 }
      let s := { s with time := { s.time with links := setNth k s.time.links (port - 1) } }
      match s.linkDelay port with
      | none => s
      | some d =>
        [1, 2].foldl (fun (s : State) i => if s.rd PtpDomain.PORT i = port then
          s.wr PtpDomain.MEAN_LINK_DELAY i (min 0xFFFFFFFE (toNs d).toNat) else s) s)

/-! ### The servo (R461 to R463) -/

/-- `o` × dt / (4 τ²) as a rate in 10^-15, with dt in ns and τ in s. -/
def rateStep (o : Int) (dt tau : Nat) : Int := roundDiv (o * dt) (65536 * 1000 * 4 * tau * tau)

/-- An accepted sample `o` of a domain updates its servo (R462) and its state (R464). -/
def State.acceptSample (s : State) (i rx : Nat) (o pred : Int) (dt : Nat) (steer : Bool) : State :=
  let d := s.dom i
  let used := decide (s.inUse = i)
  let tau := max 2 (s.rd PtpDomain.SERVO_TAU i)
  let q := s.domState i
  let s := s.bump PtpDomain.SYNC_ACCEPTED i
  let s := if used then
      let s := s.modDom i fun x => { x with filt := o }
      if steer && decide (q ≠ domHoldover) && decide (s.rd TimeStatus.TIME_STATE ≠ 3) then
        let lim := s.rd TimeStatus.SLEW_RATE * ppb
        let r := clampI (-500000 * ppb) (500000 * ppb) (s.time.r + rateStep o dt tau)
        s.retime r (clampI (-lim) lim (roundDiv (o * ppb) (65536 * tau))) s.slewLeft
      else s
    else
      let err := o - pred
      s.modDom i fun x =>
        { x with
          rel := x.rel + rateStep err dt tau
          filt := if d.last.isNone then o else pred + err * (min dt (secs tau) : Nat) / (secs tau : Nat) }
  let thr : Nat := s.rd PtpDomain.LOCK_THRESHOLD i * 65536
  let ok := if o.natAbs ≤ thr then d.okRun + 1 else 0
  let bad := if 10 * thr < o.natAbs then d.badRun + 1 else 0
  let s := s.modDom i fun x =>
    { x with last := some rx, rejRun := 0, okRun := ok, badRun := bad, recent := (nsUp o :: x.recent).take 16 }
  if q = domHoldover then s.setDom i domAcquiring
  else if q = domAcquiring ∧ 4 ≤ ok then s.setDom i domLocked
  else if q = domLocked ∧ 4 ≤ bad then s.setDom i domAcquiring
  else s

/-- A Sync of the selected master, received at `rx` of the reference clock, gives a sample (R461 to R463). -/
def State.syncSample (s : State) (i rx t1 : Nat) (corr mld : Int) : State :=
  let d := s.dom i
  let used := decide (s.inUse = i)
  let master : Int := t1 * 65536 + corr + mld + s.rdI PtpDomain.DELAY_ASYMMETRY i * 65536
  let c : Int := (s.clk.fine rx / 65536 : Nat)
  if d.acquire && !used && decide (s.domState i = domAcquiring) then
    let s := s.modDom i fun x =>
      { x with pd := roundDiv (master - c) 65536, acquire := false, filt := 0, last := none, bigRun := 0 }
    s.acceptSample i rx 0 0 0 false
  else
    let o := master - (c + d.pd * 65536)
    let dt : Nat := match d.last with
      | some l => rx - l
      | none => 0
    let pred := d.filt + (if used then 0 else d.rel * dt * 65536 / 1000000000000000)
    let big := decide (s.rd PtpDomain.STEP_THRESHOLD i * 65536 < o.natAbs)
    let run := if big then d.bigRun + 1 else 0
    let s := s.modDom i fun x => { x with bigRun := if run = 3 then 0 else run }
    let out := d.last.isSome && decide (s.rd PtpDomain.OUTLIER_LIMIT i * 65536 < (o - pred).natAbs)
    if run = 3 then
      if used then
        let s := s.acceptSample i rx o pred dt false
        let n := toNs o
        let s := s.modDom i fun x => { x with filt := x.filt - n * 65536 }
        (s.retime s.time.r 0 s.slewLeft).stepTime i n 1
      else
        let n := toNs o
        (s.modDom i fun x => { x with pd := x.pd + n, filt := 0, last := none }).acceptSample i rx (o - n * 65536) 0 0 false
    else if out && !(used && big) && decide (d.rejRun < 3) then
      (s.bump PtpDomain.SAMPLES_REJECTED i).modDom i fun x => { x with rejRun := x.rejRun + 1 }
    else s.acceptSample i rx o pred dt d.last.isSome

/-- A Sync, with its Follow_Up where one is used, arrives from source port `ident`, `pnum`: `t1` in ns and the correction in
2^-16 ns. It is sampled when it comes from the selected master at an interval of 62.5 ms to 1 s, and the port knows its link
delay (R458, R460, R462). -/
def execPtpSync (t rx port dom ident pnum t1 : Nat) (corr : Int) (twoStep : Bool) (log : Int) (s : State) :
    Host.Outcome State Fault Refusal :=
  let s := s.at t
  .next (if !s.ptpUp || !(decide (-4 ≤ log) && decide (log ≤ 0)) then s
  else
    match s.linkDelay port with
    | none => s
    | some mld =>
      ((s.domsOf port dom).foldl (fun (s : State) i =>
        match (s.dom i).sel with
        | none => s
        | some f =>
          if f.ann.ident ≠ ident ∨ f.ann.pnum ≠ pnum ∨ f.timedOut s.now = true ∨ s.domState i < 2 then s
          else
            let s := (s.wrB PtpDomain.TWO_STEP_MASTER i twoStep).wr PtpDomain.SYNC_LOG_INTERVAL i (ofInt 8 log)
            s.syncSample i rx t1 corr mld) s).timeCheck)

/-! ### Timers of the time base -/

/-- A timeout of a domain: Announce receipt, three Sync intervals without a sample, or its error bound (Table 17.2). -/
def execDomainState (t dom : Nat) (s : State) : Host.Outcome State Fault Refusal :=
  let s := s.at t
  .next (if !s.ptpUp || !(dom == 1 || dom == 2) then s
  else
    let q := s.domState dom
    let d := s.dom dom
    let lost := match d.sel with
      | some f => !f.heard.isEmpty && f.timedOut s.now && decide (2 ≤ q)
      | none => false
    let s := if lost then
        let s := s.bump PtpDomain.ANNOUNCE_TIMEOUTS dom
        let s := s.modDom dom fun x =>
          { x with masters := x.masters.filter (fun f => !f.timedOut s.now), sel := x.sel.map fun f => { f with heard := [] } }
        s.selectMaster dom
      else s
    let still := match (s.dom dom).sel with
      | some f => f.heard.isEmpty
      | none => true
    let log := s.rdI PtpDomain.SYNC_LOG_INTERVAL dom
    let quiet := match d.last with
      | some l => decide (l + 3 * logNs (if log = 127 then 0 else log) ≤ s.now)
      | none => true
    let s := if s.domState dom = domLocked ∧ ((lost && still) || quiet) = true then s.setDom dom domHoldover else s
    let ovr := match s.domBound dom with
      | some b => decide (s.rd TimeStatus.HOLDOVER_MAX_ERROR < b)
      | none => false
    let s := if s.domState dom = domHoldover ∧ ovr = true then
        (s.setDom dom domListening).modDom dom fun x => { x with sel := none }
      else s
    s.timeCheck)

/-- The primary has been LOCKED for RETURN_QUAL (R465 rule 4). -/
def execReturnQual (t : Nat) (s : State) : Host.Outcome State Fault Refusal :=
  let s := s.at t
  .next (if s.ptpUp then s.timeCheck else s)

/-- The remainder of a switch has been slewed (R466). -/
def execSlewComplete (t : Nat) (s : State) : Host.Outcome State Fault Refusal :=
  let s := s.at t
  .next (if s.running then s.slewCheck.timeRegs else s)

/-- TIME_ERROR_EST has grown: TIME_STATE follows it (R467). -/
def execTimeState (t : Nat) (s : State) : Host.Outcome State Fault Refusal :=
  let s := s.at t
  .next (if s.running then s.timeState.timeRegs else s)

/-- The domains have differed, or agreed, for 10 s (R469). -/
def execDomainDisagree (t : Nat) (s : State) : Host.Outcome State Fault Refusal :=
  let s := s.at t
  .next (if s.ptpUp then s.compareDoms else s)

end Sys2Proof.Machine
end

