-- ==== Sys2Proof/Machine/Can.lean ====
section
/-! DEFINITION. The CAN FD channels (chapter 18): transmissions and receptions, error confinement, bus-off, the lone node,
fallback, and the checks of a configuration. -/

namespace Sys2Proof.Machine

open Sys2Proof.Obj

/-! ### Error confinement (R491 to R493) -/

/-- CHANNEL_STATE follows TEC and REC between ERROR_ACTIVE and ERROR_PASSIVE (R491). -/
def State.canConfine (s : State) (ch : Nat) : State :=
  if !s.canOn ch then s
  else
    let tec := s.rd CanChannel.TEC ch
    let rec_ := s.rd CanChannel.REC ch
    let passive := decide (128 ≤ tec) || decide (128 ≤ rec_)
    let was := decide (s.rd CanChannel.CHANNEL_STATE ch = canErrorPassive)
    let s := s.wr CanChannel.CHANNEL_STATE ch (if passive then canErrorPassive else canErrorActive)
    if passive && !was then
      (s.wrB CanChannel.ERROR_PASSIVE_SEEN ch true).record 0x1003 2 ([ch] ++ toLE 2 tec ++ toLE 2 rec_)
    else s

/-- A partner has shown itself (R493). -/
def State.partnerSeen (s : State) (ch : Nat) : State :=
  let s := s.wr CanChannel.ACK_ERROR_RUN ch 0
  if s.rdB CanChannel.NO_PARTNER ch then
    let s := (s.wrB CanChannel.NO_PARTNER ch false).record 0x1005 1 [ch]
    if s.fallback ch then s else s.modBus ch fun b => { b with fbq := [] }
  else s

/-- A one-shot attempt of an object has failed (R489); the event comes at most once a second. -/
def State.txFailed (s : State) (ch o cause : Nat) : State :=
  let s := (s.wrB CanObject.TX_FAILED o true).wr CanObject.FAIL_CAUSE o cause
  let s := s.undelivered o
  let b := s.bus ch
  let due := match b.failAt with
    | some a => decide (a + secs 1 ≤ s.now)
    | none => true
  if due then
    (s.modBus ch fun b => { b with failAt := some s.now, fails := 0 }).record 0x1006 2 ([ch, o % 128, cause] ++ toLE 4 (b.fails + 1))
  else s.modBus ch fun b => { b with fails := b.fails + 1 }

/-- TX_PENDING of an object is set while content of it is pending. -/
def State.pendReg (s : State) (ch o : Nat) : State := s.wrB CanObject.TX_PENDING o ((s.bus ch).content o).isSome

/-- The attempt under way has failed: a one-shot object gives up, another retries with its newest content (R488, R489). -/
def State.attemptFailed (s : State) (ch o cause : Nat) (d : Bytes) : State :=
  let newer := (s.bus ch).pend.any fun x => x.1 == o
  let s := s.modBus ch fun b => { b with busy := none }
  let s := if s.rdB CanObject.ONE_SHOT o then s.txFailed ch o cause
    else if newer then (s.bump CanObject.TX_REPLACED o).undelivered o
    else s.modBus ch fun b => { b with pend := (o, d) :: b.pend }
  s.pendReg ch o

/-- The channel enters BUS_OFF, and with AUTO_RECOVER recovers at once (R492). -/
def State.busOff (s : State) (ch : Nat) : State :=
  let was := s.fallback ch
  let s := s.wr CanChannel.CHANNEL_STATE ch canBusOff
  let shots := (s.bus ch).pend.filter fun x => s.rdB CanObject.ONE_SHOT x.1
  let s := s.modBus ch fun b => { b with offAt := s.now, recAt := s.now, pend := b.pend.filter fun x => !s.rdB CanObject.ONE_SHOT x.1 }
  let s := shots.foldl (fun (s : State) x => (s.txFailed ch x.1 7).pendReg ch x.1) s
  let s := ((s.wrB CanChannel.BUS_OFF_SEEN ch true).bump CanChannel.BUS_OFF_COUNT ch).stamp CanChannel.LAST_BUS_OFF_TIME ch
  let low := ((List.range 128).find? fun k => ((s.bus ch).content (ch * 128 + k)).isSome).getD 0xFF
  let s := s.record 0x1001 3 ([ch, low] ++ toLE 4 (s.rd CanChannel.BUS_OFF_COUNT ch))
  let s := if was then s else s.fallbackEnter ch
  if (s.bus ch).leaving then s.canLeave ch
  else if s.rdB CanChannel.AUTO_RECOVER ch then s.wr CanChannel.CHANNEL_STATE ch canRecovering else s

/-- The 100th consecutive ACK error (R493). -/
def State.ackRun (s : State) (ch : Nat) : State :=
  let s := s.bump CanChannel.ACK_ERROR_RUN ch
  if 100 ≤ s.rd CanChannel.ACK_ERROR_RUN ch ∧ s.rdB CanChannel.NO_PARTNER ch = false then
    let was := s.fallback ch
    let s := (s.wrB CanChannel.NO_PARTNER ch true).record 0x1004 3 [ch]
    if was then s else s.fallbackEnter ch
  else s

/-- After an attempt the channel leaves, or offers its next object. -/
def State.canNext (s : State) (ch : Nat) : State := if (s.bus ch).leaving then s.canLeave ch else s.canOffer ch

/-- The attempt under way ends: 0 success, 1 arbitration lost, 2 bit, 3 stuff, 4 form, 5 ACK, 6 CRC error; `loop` is the loop
delay measured in its data phase, in protocol clocks (R481, R488, R489, R491 to R493). -/
def execCanTxComplete (t ch outcome loop : Nat) (s : State) : Host.Outcome State Fault Refusal :=
  let s := s.at t
  .next (match (s.bus ch).busy with
  | none => s
  | some (o, d) =>
    if !s.canUp || !s.canOn ch || decide (6 < outcome) then s
    else
      let s := if s.rdB CanChannel.TDC_EN ch && s.rdB CanObject.FDF o && s.rdB CanObject.BRS o && decide (outcome ≠ 1) then
          s.wr CanChannel.LOOP_DELAY ch (min loop 254)
        else s
      if outcome = 0 then
        let s := s.modBus ch fun b => { b with busy := none }
        let s := s.wr CanChannel.TEC ch (s.rd CanChannel.TEC ch - 1)
        let s := (s.bump CanChannel.TX_FRAMES ch).bump CanObject.TX_COUNT o
        let s := (s.stamp CanObject.FRAME_TIME o).pendReg ch o
        ((s.partnerSeen ch).canConfine ch).canNext ch
      else if outcome = 1 then (s.attemptFailed ch o 1 d).canNext ch
      else
        let passive := decide (s.rd CanChannel.CHANNEL_STATE ch = canErrorPassive)
        let s := s.bump CanChannel.ERROR_FRAMES ch
        let s := if outcome = 5 ∧ passive = true then s else s.wr CanChannel.TEC ch (s.rd CanChannel.TEC ch + 8)
        let s := s.attemptFailed ch o outcome d
        let s := if outcome = 5 then s.ackRun ch else s.wr CanChannel.ACK_ERROR_RUN ch 0
        if 255 < s.rd CanChannel.TEC ch then s.busOff ch else (s.canConfine ch).canNext ch)

/-! ### Receiving (R486) -/

/-- Overwrites are recorded at most once a second. -/
def State.msgLost (s : State) (ch o : Nat) : State :=
  let b := s.bus ch
  let due := match b.lostAt with
    | some a => decide (a + secs 1 ≤ s.now)
    | none => true
  if due then
    (s.modBus ch fun b => { b with lostAt := some s.now, losts := 0 }).record 0x1007 2 ([ch, o % 128] ++ toLE 4 (b.losts + 1))
  else s.modBus ch fun b => { b with losts := b.losts + 1 }

/-- The receive object of a channel with an identifier in a format. -/
def State.rxObject (s : State) (ch ident : Nat) (xtd : Bool) : Option Nat :=
  ((List.range 128).map fun k => ch * 128 + k).find? fun o =>
    decide (s.rd CanObject.DIRECTION o = 1) && decide (s.rd CanObject.IDENTIFIER o = ident) && s.rdB CanObject.XTD o == xtd

/-- A valid frame has been received: it is stored in the object it matches, or counted (R486). The row's instant is that at which
firmware serves the frame, which FRAME_TIME takes (R490; DESIGN CHOICE, log 18). REC falls, from above 127
to a value the standard leaves open between 119 and 127. -/
def execCanFrameReceived (t ch ident : Nat) (xtd remote brs esi : Bool) (data : Bytes) (s : State) :
    Host.Outcome State Fault Refusal :=
  let s := s.at t
  .next (if !s.canUp || !s.canOn ch || decide (64 < data.length) then s
  else
    let s := s.bump CanChannel.RX_FRAMES ch
    let r := s.rd CanChannel.REC ch
    let s := if 127 < r then
        let (v, s) := s.fresh 32
        s.wr CanChannel.REC ch (119 + v % 9)
      else s.wr CanChannel.REC ch (r - 1)
    let s := (s.partnerSeen ch).canConfine ch
    match if remote then none else s.rxObject ch ident xtd with
    | none => s.bump CanChannel.RX_UNMATCHED ch
    | some o =>
      let old := s.rdB CanObject.NEW_DATA o
      let s := (s.wr CanObject.DATA o (ofLE (padTo 64 data))).wr CanObject.RX_LEN o data.length
      let s := ((s.wrB CanObject.RX_BRS o brs).wrB CanObject.RX_ESI o esi).stamp CanObject.FRAME_TIME o
      let s := s.wr CanObject.RX_COUNT o ((s.rd CanObject.RX_COUNT o + 1) % 2 ^ 32)
      let s := s.wrB CanObject.NEW_DATA o true
      if old then (s.wrB CanObject.MSG_LOST o true).msgLost ch o else s)

/-- An error is detected while the channel receives: REC rises by 1, or by 8 (R491). -/
def execCanBusError (t ch : Nat) (by8 : Bool) (s : State) : Host.Outcome State Fault Refusal :=
  let s := s.at t
  .next (if !s.canUp || !s.canOn ch then s
  else
    let s := s.bump CanChannel.ERROR_FRAMES ch
    let s := s.bump CanChannel.REC ch (if by8 then 8 else 1)
    (s.wr CanChannel.ACK_ERROR_RUN ch 0).canConfine ch)

/-! ### Starting, recovering, fallback (R482, R492, R494) -/

/-- Bus integration ends (R482). -/
def execBusIntegrationComplete (t ch : Nat) (s : State) : Host.Outcome State Fault Refusal :=
  let s := s.at t
  .next (if s.canUp = true ∧ s.rd CanChannel.CHANNEL_STATE ch = canIntegrating then
    (((s.wr CanChannel.CHANNEL_STATE ch canErrorActive).wr CanChannel.TEC ch 0).wr CanChannel.REC ch 0).canNext ch
  else s)

/-- Time quanta of 25 ns in a nominal and in a data bit (R479). -/
def State.nomQuanta (s : State) (ch : Nat) : Nat :=
  s.rd CanChannel.NOMINAL_BRP ch * (1 + s.rd CanChannel.NOMINAL_TSEG1 ch + s.rd CanChannel.NOMINAL_TSEG2 ch)
@[inherit_doc State.nomQuanta] def State.dataQuanta (s : State) (ch : Nat) : Nat :=
  s.rd CanChannel.DATA_BRP ch * (1 + s.rd CanChannel.DATA_TSEG1 ch + s.rd CanChannel.DATA_TSEG2 ch)

/-- 128 occurrences of 11 recessive bits have been counted, which takes at least 1,408 nominal bit times: the channel is
ERROR_ACTIVE again (R492). -/
def execBusOffRecovered (t ch : Nat) (s : State) : Host.Outcome State Fault Refusal :=
  let s := s.at t
  let b := s.bus ch
  .next (if s.canUp = true ∧ s.rd CanChannel.CHANNEL_STATE ch = canRecovering ∧ b.recAt + 1408 * 25 * s.nomQuanta ch ≤ s.now then
    let s := ((s.wr CanChannel.CHANNEL_STATE ch canErrorActive).wr CanChannel.TEC ch 0).wr CanChannel.REC ch 0
    let s := if s.fallback ch then s else s.modBus ch fun b => { b with fbq := [] }
    (s.record 0x1002 1 ([ch] ++ toLE 4 (min 0xFFFFFFFF ((s.now - b.offAt) / 1000)))).canNext ch
  else s)

/-- RECOVER is written: recovery begins (R492). -/
def State.canRecover (s : State) (ch : Nat) : State :=
  (s.modBus ch fun b => { b with recAt := s.now }).wr CanChannel.CHANNEL_STATE ch canRecovering

/-- The oldest new content of a channel in fallback goes out as a datagram (R494). -/
def execFallbackDatagram (t ch : Nat) (s : State) : Host.Outcome State Fault Refusal :=
  let s := s.at t
  .next (match (s.bus ch).fbq with
  | [] => s
  | (o, d) :: rest =>
    if s.canUp && s.fallback ch then (s.modBus ch fun b => { b with fbq := rest }).fallbackSend o d else s)

/-! ### Claims, checks and writes (R480, R484, R485, R496) -/

/-- The timing fields that only a disabled channel takes (R480). -/
def canTiming : List Fld := [
  CanChannel.NOMINAL_BRP, CanChannel.NOMINAL_TSEG1, CanChannel.NOMINAL_TSEG2, CanChannel.NOMINAL_SJW, CanChannel.DATA_BRP,
  CanChannel.DATA_TSEG1, CanChannel.DATA_TSEG2, CanChannel.DATA_SJW, CanChannel.TDC_EN, CanChannel.TDC_OFFSET]

/-- The refusal of a CAN_CHANNEL as it would stand after the commit (R480). -/
def State.canChanCheck (s : State) (ch : Nat) : Option (Nat × Bytes) :=
  let n := s.nomQuanta ch
  let d := s.dataQuanta ch
  if n < 40 ∨ 4000 < n then some (refOff stRange 2)
  else if n < d then some (refOff stRange 2)
  else if d < 8 then some (refOff stRange 8)
  else if s.rd CanChannel.NOMINAL_TSEG2 ch < s.rd CanChannel.NOMINAL_SJW ch then some (refOff stRange 6)
  else if s.rd CanChannel.DATA_TSEG2 ch < s.rd CanChannel.DATA_SJW ch then some (refOff stRange 0x0A)
  else if s.rdB CanChannel.TDC_EN ch = true ∧ 2 < s.rd CanChannel.DATA_BRP ch then some (refOff stRange 1)
  else if ch = 2 ∧ d < 20 ∧ s.rdB CanChannel.TDC_EN ch = false then some (refCond 0x1001)
  else none

/-- A committed write to a channel applies; `o` is the state before (R482). New timing takes effect by a new integration. -/
def State.canChanWritten (s o : State) (ch : Nat) : State :=
  let was := o.rdB CanChannel.CHANNEL_EN ch
  let on := s.rdB CanChannel.CHANNEL_EN ch
  let retimed := canTiming.any fun f => decide (o.rd f ch ≠ s.rd f ch)
  let s := if was && (!on || retimed) then s.canStop ch else s
  let s := if on && decide (s.rd CanChannel.CHANNEL_STATE ch = canStopped) && s.canUp then s.canStart ch else s
  if o.rdB CanChannel.LISTEN_ONLY ch && !s.rdB CanChannel.LISTEN_ONLY ch then s.canOffer ch else s

/-- An object no longer suits its owner (R485). -/
def State.ownerUnfit (s : State) (o : Nat) : Bool :=
  let l := s.rd CanObject.DATA_LEN o
  match s.rd CanObject.OWNER o with
  | 0 => false
  | 3 => decide (s.rd CanObject.DIRECTION o ≠ 2) || decide (l < 8)
  | _ => decide (s.rd CanObject.DIRECTION o ≠ 2) || decide (l ≠ 16)

/-- Another object of the channel in use has the same identifier in the same format (R484). -/
def State.identTaken (s : State) (o : Nat) : Bool :=
  decide (s.rd CanObject.DIRECTION o ≠ 0) && (List.range 128).any fun k =>
    let p := o / 128 * 128 + k
    decide (p ≠ o) && decide (s.rd CanObject.DIRECTION p ≠ 0) && decide (s.rd CanObject.IDENTIFIER p = s.rd CanObject.IDENTIFIER o)
      && decide (s.rd CanObject.XTD p = s.rd CanObject.XTD o)

/-- The refusal of a CAN_OBJECT as it would stand after the commit (R484, R485). -/
def State.canObjCheck (s : State) (o : Nat) : Option (Nat × Bytes) :=
  if (if s.rdB CanObject.XTD o then 0x1FFFFFFF else 0x7FF) < s.rd CanObject.IDENTIFIER o then some (refOff stRange 1)
  else if s.identTaken o then some (refOff stRange 0)
  else if s.rd CanObject.DIRECTION o = 2 ∧ s.rdB CanObject.FDF o = false ∧ 8 < s.rd CanObject.DATA_LEN o then
    some (refOff stRange 0)
  else if s.rdB CanObject.BRS o = true ∧ s.rdB CanObject.FDF o = false then some (refOff stRange 1)
  else if s.ownerUnfit o then some (refCond 0x1004)
  else none

/-- The channels start at step 8 (R482), but for a decommissioned module (Table 21.5). -/
def State.canBegin (s : State) : State :=
  [1, 2].foldl (fun (s : State) ch =>
    if s.rdB CanChannel.CHANNEL_EN ch && decide (s.security ≠ 5) then s.canStart ch else s) s.ownerRefresh

end Sys2Proof.Machine
end

