-- ==== Sys2Proof/Machine/I2c.lean ====
section
/-! DEFINITION. The two-wire service port (chapter 19): windows, sleep, attention writes and faults on the lines. A
transaction is one command; so is an attempt of the module as controller (log 21). -/

namespace Sys2Proof.Machine

open Sys2Proof.Obj

/-! ### When the port is served (R498, Table 21.5) -/

/-- The boot ROM holds the module in BOOT_HALT (R117). -/
def State.bootHalt (s : State) : Bool :=
  s.boot.halt && decide (s.rd BootStatus.START_PHASE = 0xFF) && s.power.powered && !s.caldera

/-- The port is served by the manager die. -/
def State.portUp (s : State) : Bool :=
  s.running && !s.caldera && !(s.inHoldup && s.power.shed) && !s.dieHalted 0 && s.rdB I2cConfig.PORT_EN
    && decide (s.i2c.enableAt ≤ s.now)

/-- The port answers what is addressed to it. -/
def State.portServes (s : State) : Bool := (s.portUp && !s.rdB I2cStatus.PORT_DISABLED) || s.bootHalt

/-- PORT_STATE as it stands (Table 19.6). -/
def State.portRegs (s : State) : State :=
  let p := s.i2c
  s.wr I2cStatus.PORT_STATE 0 (
    if !(s.portUp || s.bootHalt) then 0
    else if s.rdB I2cStatus.PORT_DISABLED then 5
    else if p.recovering ≠ 0 then 4
    else if p.asleep then 2
    else 1)

/-- The port begins at step 8: it is awake, its selection is 0x10, and a restart is a cause of attention (R498, R499,
R504). -/
def State.portStart (s : State) : State :=
  let s := { s with i2c := { s.i2c with lastTrans := s.now, awakeAt := s.now, enableAt := s.now } }
  (s.attention 3).portRegs

/-- Traffic on the bus shows both lines high, so BUS_STUCK clears and a recovery ends (R508). -/
def State.linesHigh (s : State) : State :=
  if s.rdB I2cStatus.BUS_STUCK then
    ({ s with i2c := { s.i2c with recovering := 0 } }).wrB I2cStatus.BUS_STUCK 0 false
  else s

/-! ### Windows (R499, R500, Tables 19.1 to 19.3) -/

/-- The module's 7-bit target address (R497); the boot ROM takes it from the switch as read. -/
def State.targetAddr (s : State) : Nat :=
  if s.bootHalt then 0x3A + nth 0 s.panel.sw 3 else s.rd I2cStatus.TARGET_ADDR

/-- Bytes 0x00 to 0x23 of MODULE_IDENTITY; in BOOT_HALT the factory fields, with the image fields 0xFF. -/
def State.identityWindow (s : State) : Bytes :=
  if s.bootHalt then
    let b := s.factoryRegs.objBytes ModuleIdentity.desc 0
    b.zipIdx.map fun (x, i) => if (24 ≤ i ∧ i < 28) ∨ i = 32 then 0xFF else x
  else s.objBytes ModuleIdentity.desc 0

/-- A mask of the present strings. -/
def State.stringBits (s : State) (f : Nat → Bool) : Nat := (s.strList.map fun n => b2n (f n) * 2 ^ n).foldl (· + ·) 0

/-- Bytes 0x00 to 0x1F of STATUS (Table 19.2). In BOOT_HALT the fields without a value read all ones, reserved bits 0. -/
def State.statusWindow (s : State) : Bytes :=
  if s.bootHalt then
    [0xFF, 0xFF, s.rd BootStatus.RESTART_CAUSE] ++ List.replicate 9 0xFF ++ [0x1F, 0, 0, 0] ++ toLE 4 s.nv.bootCount
      ++ List.replicate 10 0xFF ++ [0, 0]
  else
    let low := s.dieList.any fun d => s.rdB DieStatus.PACE_LOW d
    let flags := 16 * b2n (s.rdB ModuleTerminals.SEAL_OPEN) + 8 * b2n (s.rdB PowerStatus.THROTTLE_ACTIVE) + 4 * b2n low
      + 2 * b2n s.i2c.recPending
    [1, s.rd BootStatus.START_PHASE, s.rd BootStatus.RESTART_CAUSE, s.rd PowerStatus.POWER_STATE, s.security,
      s.rd TimeStatus.TIME_STATE, s.role, s.rd BootStatus.LEDGER_STATE, s.stringBits fun n => s.seqState n == seqClosed,
      s.stringBits fun n => s.seqState n == seqTripped, s.stringBits fun n => decide (s.rd ProtectionStatus.INHIBIT n ≠ 0),
      s.rd ModuleIdentity.STRING_ENABLE, flags, 0, 0, 0]
      ++ toLE 4 (s.rd BootStatus.BOOT_COUNT) ++ timeBytes s.base ++ [0, 0]

/-- The attention record (Table 19.3). -/
def State.attnRecord (s : State) : Bytes := [s.targetAddr, s.i2c.recSeq] ++ toLE 2 s.i2c.recCause

/-- A window ends in the CRC-32 of the bytes before it (R500). -/
def withCrc (b : Bytes) : Bytes := b ++ toLE 4 (crc32 b)

/-- A window code the port acknowledges. -/
def State.windowOk (s : State) (code : Nat) : Bool :=
  code == 0x00 || code == 0x10 || (code == 0x20 && !s.bootHalt && decide (s.security ≠ 5))

/-- The selected window as captured. -/
def State.window (s : State) : Bytes :=
  match s.rd I2cStatus.WINDOW with
  | 0x00 => withCrc s.identityWindow
  | 0x20 => withCrc s.attnRecord
  | _ => withCrc s.statusWindow

/-- The pending record is cleared (R505, R506). -/
def State.clearRecord (s : State) : State :=
  ({ s with i2c := { s.i2c with recPending := false, recCause := 0, tries := 0, retryAt := none, lost := false
                                failed := false } }).wrB I2cStatus.ATTN_PENDING 0 false

/-! ### Being addressed (R497, R502, R503) -/

/-- An address byte arrives. Another address is not the module's. The byte is refused while the port wakes, in sleep, and
on the first transaction after a presence event; the first refusal of each is counted and starts the 200 µs of the
wake. The truth value says whether the byte is acknowledged. -/
def State.addressed (s : State) (addr : Nat) : State × Bool :=
  let s := s.linesHigh
  if !s.portServes || decide (addr ≠ s.targetAddr) then (s, false)
  else
    let p := s.i2c
    let s := { s with i2c := { p with lastTrans := s.now } }
    let s := s.bump I2cStatus.TRANSACTIONS
    if s.now < p.awakeAt then (s.send (.i2c 3 addr []), false)
    else if p.asleep || p.refuseNext then
      let s := { s with i2c := { s.i2c with asleep := false, refuseNext := false, awakeAt := s.now + usec 200 } }
      ((s.bump I2cStatus.WAKE_NACKS).send (.i2c 3 addr []), false)
    else (s.send (.i2c 4 addr []), true)

/-- The data bytes of a write: the first selects a window or is not acknowledged, a second is refused and counted. -/
def State.selectWindow (s : State) (addr : Nat) : Bytes → State
  | [] => s
  | c :: rest =>
    let s := if s.windowOk c then (s.wr I2cStatus.WINDOW 0 c).send (.i2c 4 addr [c]) else s.send (.i2c 3 addr [c])
    match rest with
    | [] => s
    | d :: _ => (s.bump I2cStatus.REFUSED_WRITES).send (.i2c 3 addr [d])

/-- `n` bytes of a captured window leave; past its end 0xFF is sent. A complete read of ATTENTION that ends in STOP clears
the pending record (R500, R506). -/
def State.sendWindow (s : State) (addr n : Nat) (stop : Bool) : State :=
  let w := s.window
  let s := s.send (.i2c 0 addr ((List.range n).map fun i => nth 0xFF w i))
  if s.rd I2cStatus.WINDOW = 0x20 ∧ 8 ≤ n ∧ stop = true ∧ s.i2c.recPending = true then s.clearRecord else s

/-- A write transaction with an address and its data bytes selects a window (R497, R499). -/
def execI2cWrite (t addr : Nat) (data : Bytes) (s : State) : Host.Outcome State Fault Refusal :=
  let (s, ok) := (s.at t).addressed addr
  .next (if ok then s.selectWindow addr data else s).portRegs

/-- A read transaction of `n` bytes captures the selected window at its address byte and sends it; `stop` is whether it
ends in STOP (R500, R506). -/
def execI2cRead (t addr n : Nat) (stop : Bool) (s : State) : Host.Outcome State Fault Refusal :=
  let (s, ok) := (s.at t).addressed addr
  .next (if ok then s.sendWindow addr n stop else s).portRegs

/-- A read whose capture is not ready within 10 ms, which the manager die in PACE_LOW can bring: every byte is 0xFF, and
the event is counted (R501). At full pace the capture is ready. -/
def execStretchLimits (t addr n : Nat) (stop : Bool) (s : State) : Host.Outcome State Fault Refusal :=
  let (s, ok) := (s.at t).addressed addr
  .next (if !ok then s
  else if s.rdB DieStatus.PACE_LOW 0 then
    (s.bump I2cStatus.STRETCH_LIMITS).send (.i2c 0 addr (List.replicate n 0xFF))
  else s.sendWindow addr n stop).portRegs

/-- No transaction has addressed the port for SLEEP_AFTER, so it sleeps (R502). -/
def execI2cSleep (t : Nat) (s : State) : Host.Outcome State Fault Refusal :=
  let s := s.at t
  let p := s.i2c
  .next (if s.portServes = true ∧ p.recovering = 0 ∧ max p.lastTrans p.awakeAt + secs (s.rd I2cConfig.SLEEP_AFTER) ≤ s.now then
    ({ s with i2c := { p with asleep := true } }).portRegs
  else s)

/-- The address byte of a transaction arrives and nothing follows it: asleep, or first after a presence event, the port
refuses it and is awake within 200 µs (R502, R503). -/
def execI2cWake (t addr : Nat) (s : State) : Host.Outcome State Fault Refusal :=
  .next ((s.at t).addressed addr).1.portRegs

/-! ### Attention writes (R504, R505) -/

/-- An attempt may start: a record waits, its time has come, and the port can drive the bus. -/
def State.attnDue (s : State) : Bool :=
  let p := s.i2c
  s.portUp && !s.rdB I2cStatus.PORT_DISABLED && decide (s.security ≠ 5) && s.rdB I2cConfig.ATTN_EN
    && decide (s.rd I2cConfig.ATTN_ADDR ≠ 0xFF) && p.recPending && !p.failed && !s.rdB I2cStatus.BUS_STUCK
    && (match p.retryAt with
        | some a => decide (a ≤ s.now)
        | none => false)

/-- An attempt is refused: it is counted and retried after ATTN_RETRY, or given up after ATTN_TRIES (R505). -/
def State.attnRefused (s : State) : State :=
  let n := s.i2c.tries + 1
  let s := s.bump I2cStatus.ATTN_NACKED
  if n < s.rd I2cConfig.ATTN_TRIES then
    { s with i2c := { s.i2c with tries := n, lost := false, retryAt := some (s.now + msec (s.rd I2cConfig.ATTN_RETRY)) } }
  else
    let s := { s with i2c := { s.i2c with tries := n, lost := false, retryAt := none, failed := true } }
    (s.wrB I2cStatus.ATTN_FAILED_SEEN 0 true).record 0x1103 2 ([s.i2c.recSeq] ++ toLE 2 s.i2c.recCause)

/-- The module wakes its own port and writes the record to ATTN_ADDR. `outcome`: 0 all bytes acknowledged, 1 a byte not
acknowledged, 2 the target held SCL for more than 10 ms, 3 the arbitration lost (R505). -/
def State.attempt (s : State) (outcome : Nat) : State :=
  let s := { s with i2c := { s.i2c with asleep := false, awakeAt := s.now } }
  let s := s.send (.i2c 1 (s.rd I2cConfig.ATTN_ADDR) s.attnRecord)
  match outcome with
  | 0 => (s.bump I2cStatus.ATTN_SENT).clearRecord
  | 3 =>
    let s := { s with i2c := { s.i2c with lost := true, retryAt := some (s.now + msec 1) } }
    s.bump I2cStatus.ARB_LOST
  | _ => s.attnRefused

/-- An attention write attempt is made: the first of a record, or the one that follows a lost arbitration (R505). -/
def execAttentionWrite (t outcome : Nat) (s : State) : Host.Outcome State Fault Refusal :=
  let s := s.at t
  .next (if s.attnDue = true ∧ (s.i2c.tries = 0 ∨ s.i2c.lost = true) then (s.attempt outcome).portRegs else s)

/-- ATTN_RETRY has passed since a refused attempt, and the attention write is retried (R505). -/
def execAttnRetry (t outcome : Nat) (s : State) : Host.Outcome State Fault Refusal :=
  let s := s.at t
  .next (if s.attnDue = true ∧ s.i2c.tries ≠ 0 ∧ s.i2c.lost = false then (s.attempt outcome).portRegs else s)

/-! ### Faults on the lines (R507, R508) -/

/-- A repeated START comes where an acknowledge was due in a transfer that addressed the module: the transfer is aborted,
the byte just received is not committed, and the abort is counted (R507). -/
def execAbortsRstart (t addr : Nat) (s : State) : Host.Outcome State Fault Refusal :=
  let (s, ok) := (s.at t).addressed addr
  .next (if ok then s.bump I2cStatus.ABORTS_RSTART else s).portRegs

/-- A transaction that addressed the module has seen no SCL edge for 35 ms: it ends and SDA is released (R507). -/
def execI2cIdleRelease (t addr : Nat) (s : State) : Host.Outcome State Fault Refusal :=
  let (s, ok) := (s.at t).addressed addr
  .next (if ok then s.send (.i2c 5 addr []) else s).portRegs

/-- One recovery: pulses until SDA is high, at most nine; `pulses` is the pulse with SDA high, 0 where none. SCL held low
(line 2) cannot be clocked out. `rep` counts the repetitions made. The truth value says whether the bus is free. -/
def State.recover (s : State) (line pulses rep : Nat) : State × Bool :=
  if line = 1 then
    let ok := decide (1 ≤ pulses) && decide (pulses ≤ 9)
    let s := (s.bump I2cStatus.RECOVERIES).send (.i2c 2 (if ok then pulses else 9) [])
    if ok then (s.wrB I2cStatus.BUS_STUCK 0 false, true)
    else ((s.wrB I2cStatus.BUS_STUCK 0 true).record 0x1101 3 [1, rep], false)
  else ((s.wrB I2cStatus.BUS_STUCK 0 true).record 0x1101 3 [2, rep], false)

/-- With RECOVERY_EN 1 the bus has been stuck for STUCK_TIME, SDA low (line 1) or SCL low (line 2): the module recovers it,
or sets BUS_STUCK and repeats (R508). -/
def execBusStuck (t line pulses : Nat) (s : State) : Host.Outcome State Fault Refusal :=
  let s := s.at t
  .next (if s.portUp = true ∧ s.rdB I2cStatus.PORT_DISABLED = false ∧ s.rdB I2cConfig.RECOVERY_EN = true
      ∧ s.i2c.recovering = 0 ∧ (line = 1 ∨ line = 2) then
    let (s, ok) := s.recover line pulses 0
    (if ok then s else { s with i2c := { s.i2c with recovering := 3, nextRecovery := s.now + msec 10 } }).portRegs
  else s)

/-- 10 ms after a recovery that failed: it is repeated, three times at most, then the port is disabled and releases both
lines. `line` 0: both lines are found high (R508). -/
def execRecoveryRepeat (t line pulses : Nat) (s : State) : Host.Outcome State Fault Refusal :=
  let s := s.at t
  let p := s.i2c
  .next (if s.portUp = true ∧ s.rdB I2cStatus.PORT_DISABLED = false ∧ p.recovering ≠ 0 ∧ p.nextRecovery ≤ s.now then
    if line = 0 then s.linesHigh.portRegs
    else
      let (s, ok) := s.recover line pulses (4 - p.recovering)
      let left := if ok then 0 else p.recovering - 1
      let s := { s with i2c := { s.i2c with recovering := left, nextRecovery := s.now + msec 10 } }
      (if !ok && decide (left = 0) then
        (s.wrB I2cStatus.PORT_DISABLED 0 true).record 0x1102 3 []
      else s).portRegs
  else s)

/-! ### PORT_EN (R508, R509) -/

/-- I2C_CONFIG has been written: a PORT_EN that becomes 1 enables the port after the lines are released for 1 ms and ends
PORT_DISABLED; one that becomes 0 releases both lines. -/
def State.portWritten (s old : State) : State :=
  let was := old.rdB I2cConfig.PORT_EN
  let is := s.rdB I2cConfig.PORT_EN
  let s := if is && !was then
      let s := { s with i2c := { s.i2c with enableAt := s.now + msec 1, awakeAt := s.now + msec 1, lastTrans := s.now
                                            asleep := false, recovering := 0 } }
      (s.wrB I2cStatus.PORT_DISABLED 0 false).wrB I2cStatus.BUS_STUCK 0 false
    else if was && !is then { s with i2c := { s.i2c with recovering := 0 } }
    else s
  s.portRegs

/-- ATTN_ADDR may not be the module's own target address (R504); FIELD_OFFSET 0x01. -/
def State.i2cCheck (s : State) : Option (Nat × Bytes) :=
  if s.rd I2cConfig.ATTN_ADDR = s.rd I2cStatus.TARGET_ADDR then some (refOff stRange 1) else none

end Sys2Proof.Machine
end

