-- ==== Sys2Proof/Machine/Power.lean ====
section
/-! DEFINITION. AUX MAINS, TAP IN, the hold-up bank and the supply states (chapter 3): BACKUP, the last-gasp sequence, and
the transport state. -/

namespace Sys2Proof.Machine

open Sys2Proof.Obj

/-! ### BACKUP (R97, R100, R101) -/

/-- The lap rates of every string follow the supply. -/
def State.ratesFollow (s : State) : State := if s.running then s.eachStr fun n s => s.rateRefresh n else s

/-- BACKUP is entered. -/
def State.enterBackup (s : State) : State :=
  let s := { s with power := { s.power with backupFrom := some s.now } }
  (((s.bump PowerStatus.BACKUP_ENTRIES).setSupply .backup).ratesFollow).roleCheck

/-- BACKUP_TIME as it stands. -/
def State.backupRegs (s : State) : State :=
  let p := s.power
  let run := match p.backupFrom with
    | some a => s.now - a
    | none => 0
  s.wr PowerStatus.BACKUP_TIME 0 (min (2 ^ 32 - 1) ((p.backupNs + run) / 1000000000))

/-- The time in BACKUP that ends now is added up, and the backup shifts are 0 (R101, Table 3.10). -/
def State.endBackup (s : State) : State :=
  let p := s.power
  let run := match p.backupFrom with
    | some a => s.now - a
    | none => 0
  let s := { s with power := { p with backupFrom := none, backupNs := p.backupNs + run } }
  let s := s.eachStr fun n s => s.wr StringPower.BACKUP_SHIFT n 0
  (s.wrB PowerStatus.AUX_QUALIFYING 0 false).backupRegs

/-- The tap converter runs in BACKUP; in NORMAL in warm standby where TAP_STANDBY_EN is 1, and else while AUX MAINS is
interrupted. It starts at 200 V only, and after the ST_OK of ENTER_TRANSPORT no more (R91, R92, R106). In BACKUP with AUX MAINS
present again it runs on until the return is qualified, also where TAP_STANDBY_EN is 0. DESIGN CHOICE (log 16): R92 does not say
when it stops then. -/
def State.tapFollows (s : State) : State :=
  let want := s.power.transOffAt.isNone && match s.power.supply with
    | .backup => true
    | .normal => s.rdB PowerConfig.TAP_STANDBY_EN || decide (s.power.belowCount ≠ 0)
    | _ => false
  let on := want && (s.rdB PowerStatus.TAP_RUNNING || s.rdB PowerStatus.TAP_START_OK)
  s.wrB PowerStatus.TAP_RUNNING 0 on

/-- SPRINT_ACTIVE as the rates that the supply state now allows give it, until each string's next lap (R96, R201). -/
def State.sprintAhead (s : State) : State :=
  let s := s.eachStr fun n s => s.modLaps n fun l => { l with lifted := true }
  s.wrB PowerStatus.SPRINT_ACTIVE 0 s.sprints

/-- BACKUP is left for NORMAL, and its limits are lifted: POWER_STATE is SPRINT at once where a string then laps above 2 kHz (R96,
Table 3.7). -/
def State.leaveBackup (s : State) : State :=
  let s := s.endBackup
  let s := (({ s with power := { s.power with supply := .normal } }).tapFollows.ratesFollow).sprintAhead
  (s.powerChange .backup).roleCheck

/-! ### HOLDUP entry (R102, Table 3.4 steps 1 to 4) -/

/-- Stored writes whose final journal record is not programmed are answered 0x0207 and left to the replay (R157), and so is a
slot write (R36). -/
def State.cutJournal (s : State) : State :=
  let s := s.cutSlot
  let js := s.mbx.journal
  let s := { s with mbx := { s.mbx with journal := [] },
                    nv := { s.nv with programCut := s.nv.programCut || !js.isEmpty,
                                      eraseCut := s.nv.eraseCut || js.any (·.erase) } }
  js.foldl (fun s j => s.answer j.rid stCondition (condDetail 0x0207)) s

/-- HOLDUP is entered with its last-gasp CAUSE. Laps stop after the lap in progress; no flash program starts; streams stop
without END; zero set-points go to the PCS for every string; the telegrams carry HOLDUP; a manager resigns. A command
ENTER_TRANSPORT under way ends with 0x0205; the TRANSPORT flag it has stored stays set (DESIGN CHOICE, log 16: R106 says
nothing of it). -/
def State.enterHoldup (s : State) (cause : Nat) : State :=
  let r := s.power.transRid
  let isOpen := decide (s.rd LedgerStatus.EXPORT_STATE = 1) || decide (s.rd LedgerStatus.EXPORT_STATE = 2)
  let s := s.endBackup
  let p := { s.power with transEnum := none, holdupAt := s.now, gaspCause := cause, exportOpen := isOpen, transRid := none, transLeft := [],
                          transOffAt := none }
  let s := { s with power := p }
  let s := (s.setSupply .holdup).wrB PowerStatus.TAP_RUNNING 0 false
  if s.running then
    let s := s.eachStr fun n s => s.stopLaps n
    let s := (s.answerOpt r stCondition (condDetail 0x0205)).cutJournal
    let s := s.stopStreams
    let s := s.eachStr fun n s => ((s.zeroSetpoint n).clampNow n).dispatchFrame n
    s.roleCheck
  else s

/-! ### Entry into TRANSPORT (R106, R107) -/

/-- The module halts without power: what stays is in flash, at the terminals, and outside. -/
def State.powerOff (s : State) (new : Supply) : State :=
  let s := { s with power := { s.power with supply := new } }
  let s := { s.clearRun (keepMeasured s.objs measuredModule measuredString) with thermal := .init }
  let s := { s with panel := { s.panel with lit := false } }
  ((s.wrB PowerStatus.HOLDUP_READY 0 false).wr PowerStatus.HOLDUP_ENERGY 0 0).wrB PowerStatus.TAP_RUNNING 0 false

/-- ENTER_TRANSPORT is completed: the 1 s after its ST_OK has passed (R106, Table 3.2). Its row of Table 3.2 comes before every
other that applies at the same evaluation (R97). DESIGN CHOICE (log 16): the command is completed when the dies are switched off,
not at its ST_OK; in BACKUP the module stays there in between, and the rows of a tap converter that stops are not taken for the one
that the command has stopped. -/
def State.transDue (s : State) : Bool :=
  match s.power.transOffAt with
  | some a => decide (a ≤ s.now)
  | none => false

/-- The dies are switched off and the supply state is TRANSPORT: the change is recorded, and what the mailbox holds open is closed
(R99, R106, R107): the stored writes still outstanding are completed, and an unfinished write of an image is left to the replay
(R36, R139). -/
def State.diesOff (s : State) : State :=
  let s := s.settleJournal.cutSlot
  let s := s.setSupply .transport
  (s.mbx.conns.foldl (fun s c => s.send (.close c.id)) s).powerOff .transport

/-! ### AUX MAINS (R86, R87) -/

/-- The 1 ms evaluation of AUX MAINS: `mv` is its rms or mean value, `hz` its frequency in 0.01 Hz, `pw` the draw at the
source in 0.1 W. AUX_PRESENT follows the thresholds, an interruption starts or ends, and one of 20 evaluations or fewer is
counted. -/
def execAuxMainsEvaluation (t mv hz pw : Nat) (dc : Bool) (s : State) : Host.Outcome State Fault Refusal :=
  let s := s.at t
  let p := s.power
  let up := if dc then 110000 else 80000
  let down := if dc then 100000 else 75000
  let was := s.rdB PowerStatus.AUX_PRESENT
  let is := if was then decide (down ≤ mv) else decide (up ≤ mv)
  let s := ((s.wrB PowerStatus.AUX_PRESENT 0 is).wrB PowerStatus.AUX_DC 0 dc).wr PowerStatus.AUX_V 0 (min 65534 (mv / 100))
  let s := s.wr PowerStatus.AUX_FREQ 0 (if dc then 0 else hz)
  let s := if p.powered then s.wr PowerStatus.INPUT_POWER 0 pw else s
  let s := if is ∧ 1 ≤ p.belowCount ∧ p.belowCount ≤ 20 ∧ p.powered = true then s.bump PowerStatus.AUX_INTERRUPTIONS else s
  let q := { p with belowCount := if is then 0 else p.belowCount + 1,
                    auxSince := if is then some (p.auxSince.getD s.now) else none }
  let s := { s with power := q }
  let s := s.wrB PowerStatus.AUX_QUALIFYING 0 (is && p.supply == .backup)
  .next (s.tapFollows.sourceRegs)

/-- The interruption of AUX MAINS is still in progress at its 21st evaluation: NORMAL ends in BACKUP with the tap converter
running, else in HOLDUP (R87, Table 3.2). -/
def execAuxInterruptionExceeded (t : Nat) (s : State) : Host.Outcome State Fault Refusal :=
  let s := s.at t
  .next (if s.power.supply = .normal ∧ 21 ≤ s.power.belowCount then
    if s.transDue then s.diesOff else if s.rdB PowerStatus.TAP_RUNNING then s.enterBackup else s.enterHoldup 1
  else s)

/-- AUX_PRESENT has stood without interruption for AUX_RETURN_QUAL, which ends BACKUP (Table 3.2). -/
def execAuxReturnQual (t : Nat) (s : State) : Host.Outcome State Fault Refusal :=
  let s := s.at t
  .next (match s.power.auxSince with
  | some a =>
    if s.power.supply = .backup ∧ s.rdB PowerStatus.AUX_PRESENT = true
        ∧ a + secs (s.rd PowerConfig.AUX_RETURN_QUAL) ≤ s.now then
      if s.transDue then s.diesOff else s.leaveBackup
    else s
  | none => s)

/-! ### TAP IN (R91 to R93) -/

/-- TAP_V and TAP_START_OK follow a measurement of TAP IN in mV. -/
def State.tapRegs (s : State) (mv : Nat) : State :=
  (s.wr PowerStatus.TAP_V 0 (min 65534 (mv / 100))).wrB PowerStatus.TAP_START_OK 0 (decide (200000 ≤ mv))

/-- TAP IN is measured, in mV: below 150 V the converter stops, and BACKUP ends in NORMAL with AUX_PRESENT, else in HOLDUP; at
200 V or more a stopped converter starts again (R91, R92, Table 3.2). After the ST_OK of ENTER_TRANSPORT it stands already. -/
def State.tapMeasured (s : State) (mv : Nat) : State :=
  let s := s.tapRegs mv
  if 150000 ≤ mv then s.tapFollows
  else
    let s := s.wrB PowerStatus.TAP_RUNNING 0 false
    if s.power.supply = .backup then
      if s.transDue then s.diesOff else if s.power.transOffAt.isSome then s else if s.rdB PowerStatus.AUX_PRESENT then s.leaveBackup else s.enterHoldup 2
    else s

/-- TAP IN rises: TAP_START_OK follows its measurement, and a stopped converter starts again (R91, R92). -/
def execTapStartOk (t mv : Nat) (s : State) : Host.Outcome State Fault Refusal := .next ((s.at t).tapMeasured mv)

/-- TAP IN falls below 150 V and the converter stops (R91, Table 3.2). -/
def execTapConverterStop (t mv : Nat) (s : State) : Host.Outcome State Fault Refusal := .next ((s.at t).tapMeasured mv)

/-- The tap converter has carried more than 70 W since `since` for 1 s: it limits its output and sets TAP_OVERLOAD
(R93). -/
def execTapOverload (t since : Nat) (s : State) : Host.Outcome State Fault Refusal :=
  let s := s.at t
  .next (if s.power.powered = true ∧ s.rdB PowerStatus.TAP_RUNNING = true ∧ since + secs 1 ≤ s.now then
    s.wrB PowerStatus.TAP_OVERLOAD 0 true
  else s)

/-! ### Hold-up bank (R94, R95) -/

/-- The bank falls below 12 J: HOLDUP_READY clears, which is recorded. `energy` is in 0.1 J. -/
def execHoldupReadyCleared (t energy : Nat) (s : State) : Host.Outcome State Fault Refusal :=
  let s := s.at t
  .next (if s.power.powered = true ∧ energy < 120 then
    let was := s.rdB PowerStatus.HOLDUP_READY
    let s := (s.wr PowerStatus.HOLDUP_ENERGY 0 energy).wrB PowerStatus.HOLDUP_READY 0 false
    if was then s.record 0x0201 2 (toLE 2 energy ++ [s.rd PowerStatus.SUPPLY_SOURCE]) else s
  else s)

/-- The bank holds 12 J or more, and HOLDUP_READY is set; step 10 of the start is complete with it. -/
def execHoldupReadySet (t energy : Nat) (s : State) : Host.Outcome State Fault Refusal :=
  let s := s.at t
  .next (if s.power.powered = true ∧ 120 ≤ energy then
    let s := (s.wr PowerStatus.HOLDUP_ENERGY 0 energy).wrB PowerStatus.HOLDUP_READY 0 true
    if 9 ≤ s.boot.phase then s.reachPhase 10 else s
  else s)

/-! ### The last-gasp sequence (R102 to R104, Table 3.4) -/

/-- A step of Table 3.4 `d` ns into HOLDUP is due. -/
def State.gaspDue (s : State) (d : Nat) : Bool := s.inHoldup && decide (s.power.holdupAt + d ≤ s.now)

/-- The last-gasp notice (Table 3.5), with the epoch of the last export committed in the run. -/
def State.gaspNotice (s : State) : Bytes :=
  let b := toLE 16 (s.rd ModuleIdentity.SERIAL) ++ toLE 4 s.ledger.committed
    ++ [2 * b2n s.power.exportOpen + s.rd LedgerStatus.LEDGER_DIRTY, s.power.gaspCause, 0, 0]
    ++ timeBytes (s.clk.base s.power.holdupAt) ++ List.replicate 26 0
  b ++ toLE 4 (crc32 b)

/-- At 5 ms the notice goes to every open session (step 6). -/
def execLastGasp (t : Nat) (s : State) : Host.Outcome State Fault Refusal :=
  let s := s.at t
  .next (if s.gaspDue (msec 5) = true ∧ s.power.gaspSent = false then
    let b := s.gaspNotice
    let s := { s with power := { s.power with gaspSent := true } }
    s.mbx.sess.foldl (fun s x => s.unsolicited x.num 0x00F2 b) s
  else s)

/-- At 10 ms estimation, the control engine and compression halt, TPO lines are driven low, and the two-wire port is
released (step 7, R430, R474, R498). -/
def execHoldupShed (t : Nat) (s : State) : Host.Outcome State Fault Refusal :=
  let s := s.at t
  .next (if s.gaspDue (msec 10) = true ∧ s.power.shed = false then
    (({ s with power := { s.power with shed := true } }).linesLow).portRegs
  else s)

/-- After HOLDUP_OPEN_DELAY every closed contactor and precharge relay is opened through the protection path (step 8). -/
def execHoldupOpenDelay (t : Nat) (s : State) : Host.Outcome State Fault Refusal :=
  let s := s.at t
  .next (if s.gaspDue (msec (s.rd PowerConfig.HOLDUP_OPEN_DELAY)) = true ∧ s.power.opened = false then
    let s := s.openAll 3
    { s with power := { s.power with opened := true } }
  else s)

/-- At 60 ms the history writer closes its open blocks (step 9, R254). -/
def execHoldupClosed (t : Nat) (s : State) : Host.Outcome State Fault Refusal :=
  let s := s.at t
  .next (if s.gaspDue (msec 60) = true then (s.closeLapBlock false true).closeEventBlock false true else s)

/-- 300 ms after HOLDUP entry, or when the bank is exhausted, the module halts; with a supply present it starts at once with
cause 2 (step 10, R98). -/
def execHoldupHalt (t : Nat) (gasp : GaspEnd) (s : State) : Host.Outcome State Fault Refusal :=
  let s := s.at t
  .next (if s.gaspDue (msec 300) = true ∨ (s.inHoldup = true ∧ gasp.exhausted = true) then
    let s := if gasp.exhausted then s else s.tellClosing 4
    let cause := s.power.gaspCause
    let cover := s.panel.cover
    let jumper := s.rdB ModuleTerminals.J_SVC_FITTED
    let button := s.panel.pressAt.isSome
    let s := s.powerOff .off
    let aux := s.rdB PowerStatus.AUX_PRESENT
    if s.nv.transport then
      if aux then { s with power := { s.power with supply := .transport } } else s
    else if aux || s.rdB PowerStatus.TAP_START_OK then s.powerUp aux 2 cause s.panel.sw cover jumper button gasp.hot
    else s
  else s)

/-! ### Transport state (R105 to R109, R249) -/

/-- The nodes TRANSPORT_SLEEP goes to, in its order: the farthest from its port first; nodes no port reaches last. -/
def State.sleepOrder (s : State) : List (Nat × Nat) :=
  ((s.strList.filter fun n => s.enabled n).map fun n =>
    let ks := if s.ringClosed n then (s.nodeList n).reverse
      else (s.reached n 0).reverse ++ s.reached n 1 ++ (s.nodeList n).filter fun k => (s.portOf n k).isNone
    ks.map fun k => (n, k)).flatten

/-- A firmware activation or a node firmware copy is in progress (R105). -/
def State.updating (s : State) : Bool :=
  s.upd.relay || s.upd.convert || s.strList.any fun n => s.copying n

/-- TRANSPORT_WAKE_V of some enabled string is set (R105). -/
def State.wakeSet (s : State) : Bool :=
  s.strList.any fun n => s.enabled n && decide (s.rd StringPower.TRANSPORT_WAKE_V n ≠ 0xFFFFFFFF)

/-- The first string with a contactor or precharge relay that is not open, 0 where there is none. -/
def State.notOpen (s : State) : Nat :=
  (s.strList.find? fun n => (List.range 3).any fun c => ((s.prot n).coil c).on || !s.mirror n c).getD 0

/-- ENTER_TRANSPORT: the TRANSPORT flag is stored, and TRANSPORT_SLEEP goes to every node of every enabled string (R105,
R106). DESIGN CHOICE (log 16): while an ENTER_TRANSPORT is under way or completed another is refused with condition 0x0202; R149 has
no code for it. -/
def execEnterTransport (t : Nat) (r : Req) (p : Bytes) (s : State) : Host.Outcome State Fault Refusal :=
  .next (s.serve t r 0x74 (decide (p.length = 0)) 3 fun rid x s =>
    guarded [
      (decide (s.security = 3) || decide (s.security = 4), stState, []),
      (s.noPresence x.num false, stPresence, []),
      (decide (s.notOpen ≠ 0), refCond 0x0201 s.notOpen),
      (s.updating || s.power.transRid.isSome || s.power.transOffAt.isSome, refCond 0x0202),
      (!s.wakeSet, refCond 0x0203),
      (s.inHoldup, refCond 0x0205)] s fun s =>
      let s := s.useToken x.num
      let p := { s.power with transRid := some rid, transTries := 0, transAnswers := [], transLeft := s.sleepOrder,
                              transEnum := none }
      let s := { s with nv := { s.nv with transport := true }, power := p }
      (s.nextSleep, .later))

/-- Every TRANSPORT_SLEEP of the try has ended. -/
def State.sleepSent (s : State) : Bool :=
  s.power.transLeft.isEmpty && s.strList.all fun n => (s.ring n).cmds.all fun c => decide (c.code ≠ 0x1C)

/-- A full enumeration of every enabled string from both ports, for the check of R106. -/
def State.sleepEnum (s : State) : State :=
  (s.strList.filter fun n => s.enabled n).foldl (fun s n =>
    [0, 1].foldl (fun s port => s.send (.baton n port
      (batonHeader 5 port 32 0xFF 0xFF (s.rd RingStatus.TOPO_EPOCH n) 0 0 0))) s) s

/-- Both enumerations of the try have been answered, by the nodes `awake`: all asleep, the command is answered ST_OK and the tap
converter stops; else TRANSPORT_SLEEP is repeated, up to 3 times, and then the command is aborted (R106). -/
def State.sleepJudged (s : State) (awake : List (Nat × Nat)) : State :=
  let p := { s.power with transEnum := none }
  let left := (s.sleepOrder.filter fun x => !p.transAnswers.contains x || awake.contains x)
  let others := awake.filter fun x => !left.contains x
  match left ++ others with
  | [] =>
    let s := s.answerOpt p.transRid stOk []
    let s := { s with power := { s.power with transRid := none, transEnum := none, transOffAt := some (s.now + secs 1) } }
    s.wrB PowerStatus.TAP_RUNNING 0 false
  | (n, k) :: _ =>
    if p.transTries < 3 then
      let keep := p.transAnswers.filter fun x => !left.contains x
      ({ s with power := { p with transTries := p.transTries + 1, transAnswers := keep, transLeft := left } }).nextSleep
    else
      let s := { s with nv := { s.nv with transport := false }, power := { p with transRid := none } }
      (s.wrB PowerStatus.TRANSPORT_ABORT 0 true).answerOpt p.transRid stCondition
        (condDetail 0x0204 n k (s.rd RingStatus.TOPO_EPOCH n))

/-- One of the two full enumerations of a try (R106), the first 250 ms after the last TRANSPORT_SLEEP, the second 100 ms after the
first: `awake` lists the nodes that append to it, 0xFFFF an unnumbered one. After the second the check is judged. -/
def execTransportConfirm (t : Nat) (awake : List (Nat × Nat)) (s : State) : Host.Outcome State Fault Refusal :=
  let s := s.at t
  let p := s.power
  .next (if p.transRid.isSome = true ∧ s.sleepSent = true ∧ p.transAt + msec 250 ≤ s.now then
    match p.transEnum with
    | none => { s.sleepEnum with power := { s.sleepEnum.power with transEnum := some (s.now, awake) } }
    | some (a, first) => if a + msec 100 ≤ s.now then s.sleepEnum.sleepJudged (first ++ awake) else s
  else s)

/-- 1 s after ST_OK the module switches off its dies and is in TRANSPORT (R106, R107). -/
def execTransportDiesOff (t : Nat) (s : State) : Host.Outcome State Fault Refusal :=
  let s := s.at t
  .next (if s.transDue then s.diesOff else s)

/-- The wake condition: AUX_PRESENT, and an enabled string held since `since` for 5 s at `mv` or more, its TRANSPORT_WAKE_V
or above. The flag is cleared and the module starts with cause 5 (R108, R109). The other operands are those of
START_FROM_OFF. -/
def execTransportWake (t str mv since profile block mask addr : Nat) (cover jumper : Bool) (seen : StartSeen) (s : State) :
    Host.Outcome State Fault Refusal :=
  let s := s.at t
  let v := s.nv.store.rd StringPower.TRANSPORT_WAKE_V str
  let held (a : Nat) : Bool := decide (a + secs 5 ≤ s.now)
  let aux := s.rdB PowerStatus.AUX_PRESENT && (match s.power.auxSince with
    | some a => held a
    | none => false)
  .next (if s.power.supply = .transport ∧ aux = true ∧ held since = true ∧ s.hasStr str = true ∧ bitOf mask str = true
      ∧ v ≠ 0xFFFFFFFF ∧ v ≤ mv then
    let s := { s with nv := { s.nv with transport := false }, power := { s.power with supply := .off } }
    s.powerUp true 5 str [profile, block, mask, addr] cover jumper seen.button seen.hot
  else s)

end Sys2Proof.Machine
end

