-- ==== Sys2Proof/Machine/Update.lean ====
section
/-! DEFINITION. Firmware and configuration update (chapter 20): headers and their checks, the slots, activation with a restart
or by relay handover, the recovery loader, and the configuration formats. -/

namespace Sys2Proof.Machine

open Sys2Proof.Obj

/-! ### Uploads under way -/

/-- The stream of a kind that admits one holder, open or with its END frame not yet dealt with, and its session. -/
def State.holder (s : State) (kind : Nat) : Option (Nat × Stream) :=
  (s.mbx.inbox.find? fun x => x.2.kind == kind).orElse fun _ =>
    s.mbx.sess.findSome? fun (x : Sess) => (x.streams.find? fun (q : Stream) => q.kind == kind).map fun q => (x.num, q)

/-- An upload of a kind whose END frame has arrived. -/
def State.ended (s : State) (kind : Nat) : Option (Nat × Stream) := s.mbx.inbox.find? fun x => x.2.kind == kind

/-- An upload of a kind has been dealt with. -/
def State.dropEnded (s : State) (kind : Nat) : State :=
  { s with mbx := { s.mbx with inbox := s.mbx.inbox.filter fun x => decide (x.2.kind ≠ kind) } }

/-- UPDATE_STATE and BYTES_RECEIVED as they stand (Table 20.9). -/
def State.updRegs (s : State) : State :=
  let up := (s.holder 7).orElse fun _ => s.holder 8
  let s := s.wr UpdateStatus.UPDATE_STATE 0
    (if s.upd.relay then s.upd.phase else if s.upd.convert then 7 else if s.upd.write.isSome then 2 else if up.isSome then 1 else 0)
  s.wr UpdateStatus.BYTES_RECEIVED 0 (match up with
    | some x => x.2.body.length
    | none => 0)

/-- A node copy is in progress on some string. -/
def State.nodeCopy (s : State) : Bool := s.strList.any fun n => s.copying n

/-- An update operation of Table 20.7 is in progress. -/
def State.updateBusy (s : State) : Bool := s.upd.relay || s.upd.convert || s.upd.write.isSome || s.nodeCopy

/-! ### Header checks (R511, Table 20.2) -/

/-- The code of the first check a header fails, 0 where it passes; `kind` 1 module image, 2 node image. -/
def State.imageCheck (s : State) (kind : Nat) (h : Bytes) : Nat :=
  let size := field h 0x18 4
  let major := field h 0x13 1
  if field h 0 4 ≠ 0x4858494D ∨ field h 4 1 ≠ 1 then 1
  else if field h 5 1 ≠ kind then 2
  else if field h 8 4 ≠ (if kind = 1 then 0x544D5853 else 0x42535641) then 3
  else if kind = 1 ∧ bitOf (field h 0x0C 1) (if s.nv.variant = 2 then 1 else if s.nv.variant = 4 then 2 else 3) = false then 4
  else if !Config.verifies (kind - 1) (slice h 0 0xA0) (slice h 0xA0 96) then 5
  else if kind = 1 ∧ field h 0x14 4 < s.nv.fuseIndex then 6
  else if size = 0 ∨ (if kind = 1 then 67108608 else 1048576) < size then 7
  else if kind = 1 ∧ s.nv.romVersion < field h 0x1C 4 then 8
  else if kind = 2 ∧ (major < field s.runHdr 0x28 1 ∨ field s.runHdr 0x29 1 < major) then 9
  else if kind = 1 ∧ s.nv.format < field h 0x22 2 then 11
  else 0

/-- Check 10: the body's length and digest. -/
def bodyPasses (h body : Bytes) : Bool :=
  decide (body.length = field h 0x18 4) && decide (Config.sha384 body = slice h 0x30 48)

/-- Slot `k` holds something else. -/
def State.setSlot (s : State) (k : Nat) (x : Slot) : State :=
  { s with nv := if k = 0 then { s.nv with slotA := x } else { s.nv with slotB := x } }

/-- The END frame of an IMAGE_UPLOAD has arrived: the body is checked, and the inactive slot is erased for it (R512). -/
def execImageUploadEnd (t : Nat) (s : State) : Host.Outcome State Fault Refusal :=
  let s := s.at t
  .next (match s.ended 7 with
  | none => s
  | some (_, q) =>
    let s := s.dropEnded 7
    if bodyPasses q.params q.body then
      let k := 1 - s.nv.active
      let s := s.setSlot k ⟨none, false, []⟩
      ({ s with upd := { s.upd with write := some k, hdr := q.params, body := q.body } }).slotRegs.updRegs
    else (s.wr UpdateStatus.LAST_CHECK 0 10).updRegs)

/-- The slot has been programmed and read back and its header written: it reads VALID (R512). Nothing is programmed in HOLDUP
or after a halt. -/
def execImageStaged (t : Nat) (s : State) : Host.Outcome State Fault Refusal :=
  let s := s.at t
  .next (match s.upd.write with
  | none => s
  | some k =>
    if s.running = true ∧ s.inHoldup = false then
      let h := s.upd.hdr
      let s := s.setSlot k ⟨some h, true, s.upd.body⟩
      let s := ({ s with upd := { s.upd with write := none, hdr := [], body := [] } }).slotRegs.updRegs
      s.record 0x1201 1 ([1, k] ++ slice h 0x10 4)
    else s)

/-- The END frame of a NODE_IMAGE_UPLOAD has arrived: an image that passes check 10 replaces the staged one, and copies from
the replaced image stop (R527). -/
def execNodeImageUpload (t : Nat) (s : State) : Host.Outcome State Fault Refusal :=
  let s := s.at t
  .next (match s.ended 8 with
  | none => s
  | some (_, q) =>
    let s := s.dropEnded 8
    if bodyPasses q.params q.body then
      let s := s.eachStr fun n s => if s.copying n then s.modRing n fun r => { r with copyStop := true } else s
      let s := { s with nv := { s.nv with nodeImage := some (q.params ++ q.body) } }
      let s := (s.slotRegs.updRegs).record 0x1201 1 ([2, 0xFF] ++ slice q.params 0x10 4)
      s.eachStr fun n s => s.updateRegs n
    else (s.wr UpdateStatus.LAST_CHECK 0 10).updRegs)

/-! ### Configuration formats (R522 to R525) -/

/-- The stored configuration converted from a format to another by the conversion the new image carries. -/
def convertStore (a b : Nat) (st : Store) : Store :=
  st.map fun c => (c.1, Config.convertCell a b c.1.obj c.1.inst c.1.pos c.2)

/-- The format of the image in a slot. -/
def State.slotFormat (s : State) (k : Nat) : Nat := field (s.slotHdr k) 0x20 2

/-- The activation of the image in a slot needs a conversion: its format is neither the running one nor that of the kept
copy, which it would use (R523, R525). -/
def State.needsConvert (s : State) (k : Nat) : Bool :=
  decide (s.slotFormat k ≠ s.nv.format) && !(decide (s.nv.keptFormat ≠ 0) && decide (s.nv.keptFormat = s.slotFormat k))

/-- The stored registers take the values of another copy: what was stored and is not in it returns to its reset value. -/
def State.reload (s : State) (old : Store) : State :=
  let cleared := old.foldl (fun a c => a.put c.1 (resetOf c.1) (resetOf c.1)) s.objs
  let s := ({ s with objs := cleared }).factoryRegs
  { s with objs := s.objs.load s.nv.store }

/-- The configuration copy of the image in a slot is in force: converted with the old copy kept, the kept one with the other
erased, or the present one (R523, R525). -/
def State.switchConfig (s : State) (k keptAt : Nat) : State :=
  let f := s.slotFormat k
  let n := s.nv
  if s.needsConvert k then
    { s with nv := { n with store := convertStore n.format f n.store, format := f, kept := n.store,
                            keptFormat := n.format, keptTime := keptAt } }
  else if f ≠ n.format then
    let s := { s with nv := { n with store := n.kept, format := n.keptFormat, kept := [], keptFormat := 0, keptTime := 0 } }
    (s.reload n.store).wrB ConfigFormat.CONFIG_REVERTED 0 true
  else s

/-! ### Activation (R513, R514, R519) -/

/-- A numbered node runs a FW_MAJOR outside an image's node window. -/
def State.nodeOutside (s : State) (hdr : Bytes) : Bool :=
  s.strList.any fun n => (s.nodeList n).any fun k => !s.inWindow hdr n k

/-- A die is at the throttle level or has lost its sensors (R399). -/
def State.hotDie (s : State) : Bool :=
  s.dieList.any fun d => decide (2 ≤ s.rd ThermalStatus.LEVEL d) || s.rdB ThermalStatus.SENSORS_LOST d

/-- The commit of an activation: the slot is stored as active with its configuration (R514, R515). -/
def State.commitSlot (s : State) (k mode : Nat) (rollback : Bool) : State :=
  let s := s.switchConfig k (timeVal s.base)
  let s := { s with nv := { s.nv with active := k } }
  let s := (s.bump UpdateStatus.ACTIVATIONS).stamp UpdateStatus.LAST_ACTIVATION_TIME
  s.record 0x1202 1 ([k, mode, b2n rollback] ++ slice (s.slotHdr k) 0x10 4)

/-- ACTIVATE_IMAGE and ROLLBACK_IMAGE (R513 to R519). -/
def State.activate (s : State) (rollback : Bool) (p : Bytes) (rid : Rid) (sess : Nat) : State × Reply :=
  let k := field p 0 1
  let mode := field p 1 1
  let h := s.slotHdr k
  let relay := decide (mode = 1)
  guarded [
    (decide (s.security = 3) || decide (s.security = 4), stState, []),
    (rollback && s.noPresence sess false, stPresence, []),
    (decide (k ≠ 1 - s.nv.active), refOff stRange 0),
    (decide (mode ≠ 1) && decide (mode ≠ 2), refOff stRange 1),
    (decide (s.slotState k ≠ 2), refCond 0x1201),
    (s.updateBusy, refCond 0x1203),
    (!rollback && decide (field h 0x10 4 < field s.runHdr 0x10 4), refCond 0x1206),
    (s.nodeOutside h, refCond 0x1205),
    (relay && s.power.supply == .backup, refCond 0x0206),
    (relay && s.hotDie, refCond 0x0C01),
    (relay && decide (s.nv.variant = 2) && decide (s.rd PowerStatus.POWER_STATE = 2), refCond 0x1202),
    (relay && decide (field s.runHdr 0x24 2 < field h 0x26 2), refCond 0x1204),
    s.holdupRef] s fun s =>
    let s := if rollback then s.useToken sess else s
    if relay then
      let conv := s.needsConvert k
      let u := { s.upd with relay := true, rid := some rid, slot := k, rollback := rollback, at_ := s.now, convert := conv,
                            handed := [], back := [], phase := if conv then 7 else 3, stepAt := s.base }
      (({ s with upd := u }).updRegs, .later)
    else
      let s := (s.commitSlot k mode rollback).answerLast rid stOk []
      (s.restart 8 (if rollback then 2 else 1), .later)

/-- ACTIVATE_IMAGE: the inactive slot is activated by relay handover or with a restart. -/
def execActivateImage (t : Nat) (r : Req) (p : Bytes) (s : State) : Host.Outcome State Fault Refusal :=
  .next (s.serve t r 0x60 (decide (p.length = 4)) 3 fun rid x s => s.activate false p rid x.num)

/-- ROLLBACK_IMAGE: the same for an older image, with a presence token (R519). -/
def execRollbackImage (t : Nat) (r : Req) (p : Bytes) (s : State) : Host.Outcome State Fault Refusal :=
  .next (s.serve t r 0x61 (decide (p.length = 4)) 3 fun rid x s => s.activate true p rid x.num)

/-! ### Relay handover (R515 to R518) -/

/-- The dies in the order of their handover: the string dies ascending, then the manager die. -/
def State.relayOrder (s : State) : List Nat := s.strList ++ [0]

/-- The die that hands over next, 0xFF when all have. -/
def State.nextDie (s : State) : Nat := nth 0xFF s.relayOrder s.upd.handed.length

/-- The string at whose lap boundary a die hands over; none where the boundary is a whole millisecond. -/
def State.boundaryStr (s : State) (die : Nat) : Option Nat :=
  let live (n : Nat) : Bool := decide (s.rd LapStatus.LAP_STATE n = 1)
  if die = 0 then s.strList.find? live else if live die then some die else none

/-- A lap boundary of a die has been reached since the handover before (R516). -/
def State.atBoundary (s : State) (die : Nat) : Bool :=
  match s.boundaryStr die with
  | some n =>
    match (s.str n).relAt with
    | some r => decide (s.upd.stepAt < r) && decide (r ≤ s.base)
    | none => false
  | none => decide (s.upd.stepAt / 1000000 < s.base / 1000000)

/-- The lead of a die moves to its other cluster. -/
def State.swapLead (s : State) (die : Nat) : State :=
  s.wr DieStatus.LEAD_CLUSTER die (1 - s.rd DieStatus.LEAD_CLUSTER die)

/-- The spare clusters of every fitted die report the new runtime ready; the handovers begin (Table 20.3 step 3). -/
def execSpareReady (t : Nat) (s : State) : Host.Outcome State Fault Refusal :=
  let s := s.at t
  .next (if s.running = true ∧ s.upd.relay = true ∧ (s.upd.phase = 3 ∨ s.upd.phase = 7) then
    let s := { s with upd := { s.upd with phase := 4, stepAt := s.base } }
    (s.wr UpdateStatus.HANDOVER_DIE 0 s.nextDie).updRegs
  else s)

/-- The handover has ended, committed or handed back; a sprint it held may come into force (R552). -/
def State.endRelay (s : State) : State :=
  let s := { s with upd := { s.upd with relay := false, convert := false, rid := none, handed := [], back := [], phase := 0 } }
  ((s.wr UpdateStatus.HANDOVER_DIE 0 0xFF).updRegs).ratesFollow

/-- At its lap boundary a die hands its firmware state over to its spare cluster, or, after an abandonment, back to its former
lead (R516, R518). -/
def execDieHandover (t die : Nat) (s : State) : Host.Outcome State Fault Refusal :=
  let s := s.at t
  let u := s.upd
  .next (if s.running = false ∨ u.relay = false ∨ s.atBoundary die = false then s
  else if u.phase = 4 ∧ die = s.nextDie then
    let s := { s.swapLead die with upd := { u with handed := die :: u.handed, stepAt := s.base } }
    let n := s.nextDie
    let s := { s with upd := { s.upd with phase := if n = 0xFF then 5 else 4 } }
    (s.wr UpdateStatus.HANDOVER_DIE 0 n).updRegs
  else if u.phase = 6 ∧ u.back.head? = some die then
    let rest := u.back.drop 1
    let s := { s.swapLead die with upd := { u with back := rest, stepAt := s.base } }
    let s := (s.wrB UpdateStatus.HANDBACK_SEEN 0 true).wr UpdateStatus.HANDOVER_DIE 0 (nth 0xFF rest 0)
    if rest.isEmpty then s.endRelay else s.updRegs
  else s)

/-- The commit of step 6: the slot is stored as active, slot 6 is extended with the runtime image, and the command is
answered. -/
def execImageActivated (t : Nat) (s : State) : Host.Outcome State Fault Refusal :=
  let s := s.at t
  let u := s.upd
  .next (if s.running = true ∧ s.inHoldup = false ∧ u.relay = true ∧ u.phase = 5 then
    let s := s.commitSlot u.slot 1 u.rollback
    let s := { s with upd := { s.upd with run := some u.slot } }
    let s := s.extendSlot 6 (Config.runtimeOf (s.slotImage u.slot))
    (s.imageRegs.endRelay).answerOpt u.rid stOk []
  else s)

/-- The cause of an abandonment at a die holds (R518): 1 a die not ready 10 s after acceptance, 2 the transfer record of the die
being handed over failing, 3 the self-check of the last new lead failing within 1 s, 4 the die being handed over stalled, 5
BACKUP. -/
def State.abandonCause (s : State) (die cause : Nat) : Bool :=
  let u := s.upd
  match cause with
  | 1 => (decide (u.phase = 3) || decide (u.phase = 7)) && decide (u.at_ + secs 10 ≤ s.now)
  | 2 => decide (u.phase = 4) && decide (die = s.nextDie)
  | 3 => (decide (u.phase = 4) || decide (u.phase = 5)) && decide (u.handed.head? = some die) &&
      decide (s.base ≤ u.stepAt + secs 1)
  | 4 => decide (u.phase = 4) && decide (die = s.nextDie) && s.rdB DieStatus.DIE_STALLED die
  | 5 => s.power.supply == .backup
  | _ => false

/-- A relay handover is abandoned at a die: the dies handed over hand back, and the command is answered 0x120A. A hand-back
that fails opens the strings and restarts the module (R518). -/
def execHandoverAbandoned (t die cause : Nat) (s : State) : Host.Outcome State Fault Refusal :=
  let s := s.at t
  let u := s.upd
  .next (if s.running = false ∨ u.relay = false then s
  else if u.phase = 6 then (if u.back.head? = some die then s.restart 8 3 else s)
  else if s.abandonCause die cause then
    let s := s.record 0x1203 3 [die, cause]
    let s := s.bump UpdateStatus.HANDOVERS_ABANDONED
    let s := s.answerOpt u.rid stCondition (condDetail 0x120A die)
    let s := { s with upd := { s.upd with rid := none, convert := false, back := u.handed, handed := [], phase := 6
                                          stepAt := s.base } }
    let s := s.wr UpdateStatus.HANDOVER_DIE 0 (nth 0xFF u.handed 0)
    if u.handed.isEmpty then s.endRelay else s.updRegs
  else s)

/-! ### Fuses, the recovery loader, confirmation (R520, R521, R524) -/

/-- A write of 1 to ADVANCE_FUSES raises the anti-rollback counter to the running image's index (R520). -/
def State.advanceFuses (s : State) : State :=
  let i := field s.runHdr 0x14 4
  if i ≤ s.nv.fuseIndex then s
  else
    let s := { s with nv := { s.nv with fuseIndex := i } }
    let k := 1 - s.nv.active
    let s := if (s.slot k).hdr.isSome ∧ field (s.slotHdr k) 0x14 4 < i then s.setSlot k ⟨none, false, []⟩ else s
    s.slotRegs.record 0x1207 2 (toLE 4 i)

/-- In BOOT_HALT with J-SVC fitted the loader takes one module image, checks it, writes it to the slot named active and
restarts; a refused one leaves everything as it was, and its check code is reported at the SERVICE port (R521). -/
def execRecoveryLoader (t : Nat) (image : Bytes) (s : State) : Host.Outcome State Fault Refusal :=
  let s := s.at t
  let h := padTo 256 image
  let body := image.drop 256
  .next (if s.bootHalt = true ∧ s.rdB ModuleTerminals.J_SVC_FITTED = true then
    let c := s.imageCheck 1 h
    let c := if c ≠ 0 ∧ c ≠ 11 then c else if bodyPasses h body then c else 10
    if c = 0 then (s.setSlot s.nv.active ⟨some h, true, body⟩).restart 8 4 else s.send (.service c)
  else s)

/-- CONFIRM_CONFIG: the kept copy is erased, and the header of an inactive image of another format (R524). -/
def execConfirmConfig (t : Nat) (r : Req) (p : Bytes) (s : State) : Host.Outcome State Fault Refusal :=
  .next (s.serve t r 0x62 (decide (p.length = 4)) 3 fun _ _ s =>
    let f := field p 0 2
    guarded [
      (decide (s.security = 3) || decide (s.security = 4), stState, []),
      (decide (f ≠ s.rd ConfigFormat.FORMAT_RUNNING) || decide (s.nv.keptFormat = 0), refCond 0x1207),
      s.holdupRef] s fun s =>
      let s := { s with nv := { s.nv with kept := [], keptFormat := 0, keptTime := 0 } }
      let k := 1 - s.nv.active
      let s := if (s.slot k).hdr.isSome ∧ s.slotFormat k ≠ f then s.setSlot k ⟨none, false, []⟩ else s
      let s := (s.slotRegs.wr ConfigFormat.WRITES_SINCE_KEPT 0 0).stamp ConfigFormat.CONFIRM_TIME
      (s.record 0x1206 1 (toLE 2 f), .now stOk []))

end Sys2Proof.Machine
end

