-- ==== Sys2Proof/Machine/LedgerLink.lean ====
section
/-! DEFINITION. Export and restore of the cell ledger over its streams (R349 to R355). -/

namespace Sys2Proof.Machine

open Sys2Proof.Obj

/-! ### Entries and records (Tables 12.3 and 12.4) -/

/-- µA·s of one Ah. -/
def uasPerAh : Nat := 3600000000

/-- The 48 bytes of a ledger entry. -/
def Entry.bytes (e : Entry) : Bytes :=
  toLE 16 e.serial ++ [e.chan, b2n e.dflt, e.str, e.parallel] ++ toLE 4 e.cap ++ toLE 2 e.rOhm ++ toLE 2 e.rFast
    ++ toLE 2 e.rSlow ++ toLE 2 e.soh ++ toLE 2 e.capUpd ++ toLE 2 e.rUpd
    ++ toLE 4 (min 0xFFFFFFFF (e.through / uasPerAh)) ++ toLE 4 e.rated ++ [0, 0, 0, 0]

/-- The entry 48 bytes spell. -/
def entryOfBytes (b : Bytes) : Entry :=
  ⟨field b 0 16, field b 16 1, bitOf (field b 17 1) 0, field b 18 1, field b 19 1, field b 20 4, field b 24 2, field b 26 2,
   field b 28 2, field b 30 2, field b 32 2, field b 34 2, field b 36 4 * uasPerAh, field b 40 4⟩

/-- The ranges of Table 12.3; SOH is not available in a default entry and from 0.01 % to 100.00 % in any other (R15). -/
def Entry.inRange (e : Entry) : Bool :=
  let scale (r : Nat) : Bool := decide (500 ≤ r) && decide (r ≤ 4000)
  decide (e.chan ≤ 15) && decide (e.str ≤ 7) && decide (1 ≤ e.parallel) && decide (e.parallel ≤ 4) && decide (1 ≤ e.cap) &&
    scale e.rOhm && scale e.rFast && scale e.rSlow &&
    (if e.dflt then decide (e.soh = 0xFFFF) else decide (1 ≤ e.soh) && decide (e.soh ≤ 10000))

/-- A list cut into pieces of `n`. -/
def piecesOf {α : Type} (n : Nat) : Nat → List α → List (List α)
  | 0, _ => []
  | _, [] => []
  | fuel + 1, xs => xs.take n :: piecesOf n fuel (xs.drop n)

/-- Entries a chunk frame holds. -/
def chunkEntries : Nat := 1364

/-- A chunk frame's data. -/
def chunkFrame (epoch i : Nat) (es : List Entry) : Bytes :=
  [1, 0] ++ toLE 2 es.length ++ toLE 4 i ++ toLE 4 epoch ++ [0, 0, 0, 0] ++ es.flatMap Entry.bytes

/-- The commit record. -/
def commitRecord (epoch chunks total sum capture serial : Nat) : Bytes :=
  let b := [2, 0, 0, 0] ++ toLE 4 epoch ++ toLE 4 chunks ++ toLE 4 total ++ toLE 4 sum ++ [0, 0] ++ toLE 10 capture
    ++ toLE 16 serial
  b ++ toLE 4 (crc32 b)

/-! ### Export (R350 to R352) -/

/-- The entries are copied at one instant, and the chunk frames and the commit frame wait on the stream. -/
def execLedgerExport (t : Nat) (s : State) : Host.Outcome State Fault Refusal :=
  let s := s.at t
  .next (match s.holder 5 with
  | none => s
  | some (n, q) =>
    if q.part ≠ 0 ∨ s.running = false ∨ s.inHoldup = true then s
    else
      let epoch := s.rd LedgerStatus.EXPORT_EPOCH
      let es := s.ledger.entries
      let chunks := (piecesOf chunkEntries es.length es).zipIdx.map fun (c, i) => chunkFrame epoch i c
      let sum := crc32 (es.flatMap Entry.bytes)
      let commit := commitRecord epoch chunks.length es.length sum (timeVal s.base) (s.rd ModuleIdentity.SERIAL)
      let s := { s with ledger := { s.ledger with copy := es } }
      let s := (s.wr LedgerStatus.EXPORT_CHECKSUM 0 sum).stamp LedgerStatus.LAST_CAPTURE_TIME
      s.modSess n fun x => { x with streams := x.streams.map fun r =>
        if r.num = q.num then { r with part := 1, queue := chunks ++ [commit] } else r })

/-- The END frame of an export has been sent. -/
def State.exportSent (s : State) : State :=
  (s.wr LedgerStatus.EXPORT_STATE 0 2).record 0x0A09 1
    (toLE 4 (s.rd LedgerStatus.EXPORT_EPOCH) ++ toLE 4 s.ledger.copy.length)

/-- A write of ACK_EPOCH commits the export (R352). -/
def State.ackEpoch (s : State) : State :=
  let e := s.rd LedgerStatus.EXPORT_EPOCH
  let s := { s with ledger := { s.ledger with committed := e } }
  let s := (s.wr LedgerStatus.LEDGER_EPOCH 0 e).wr LedgerStatus.EXPORT_STATE 0 3
  (s.stamp LedgerStatus.LAST_COMMIT_TIME).record 0x0A0A 1 (toLE 4 e)

/-! ### Restore (R353) -/

/-- The entries of a chunk frame; none where its length does not fit its count. -/
def chunkOf (b : Bytes) : Option (List Entry) :=
  let n := field b 2 2
  if field b 0 1 = 1 ∧ b.length = 16 + 48 * n then some ((List.range n).map fun i => entryOfBytes (slice b (16 + 48 * i) 48))
  else none

/-- The chunk frames carry consecutive indices from 0 and one epoch. -/
def chunksInOrder (epoch : Nat) (cs : List Bytes) : Bool :=
  cs.zipIdx.all fun (b, i) => decide (field b 4 4 = i) && decide (field b 8 4 = epoch) && (chunkOf b).isSome

/-- No serial number and channel appears twice. -/
def noTwice : List Entry → Bool
  | [] => true
  | e :: es => !(es.any fun x => x.serial == e.serial && x.chan == e.chan) && noTwice es

/-- The RESTORE_RESULT of a set of frames, 2 where it passes every check, with its epoch and entries. -/
def checkRestore (frames : List Bytes) : Nat × Nat × List Entry :=
  let c := frames.getLast?.getD []
  let cs := frames.dropLast
  let es := cs.flatMap fun b => (chunkOf b).getD []
  let epoch := field c 4 4
  let total := field c 12 4
  let code :=
    if c.length ≠ 52 ∨ field c 0 1 ≠ 2 ∨ field c 0x30 4 ≠ crc32 (slice c 0 0x30) then 4
    else if epoch = 0 then 9
    else if 8192 < total then 7
    else if !chunksInOrder epoch cs || decide (field c 8 4 ≠ cs.length) || decide (total ≠ es.length) then 3
    else if field c 16 4 ≠ crc32 (cs.flatMap fun b => b.drop 16) then 4
    else if !es.all Entry.inRange then 5
    else if !noTwice es then 6
    else 2
  (code, epoch, es)

/-- The commit frame of a restore has arrived: the set is accepted or refused (R353, R354). -/
def execLedgerRestoreCommit (t : Nat) (s : State) : Host.Outcome State Fault Refusal :=
  let s := s.at t
  .next (match s.ended 6 with
  | none => s
  | some (_, q) =>
    if s.running = false ∨ s.inHoldup = true then s
    else
      let s := s.dropEnded 6
      let (code, epoch, es) := checkRestore q.queue
      let s := s.wr LedgerStatus.RESTORE_RESULT 0 code
      if code = 2 then
        let s := s.wr BootStatus.LEDGER_STATE 0 1
        let s := (s.wr LedgerStatus.LEDGER_EPOCH 0 epoch).wr LedgerStatus.EXPORT_EPOCH 0 epoch
        let s := s.record 0x0A0B 1 (toLE 4 epoch ++ [code])
        State.restoreCheck { s with ledger := { s.ledger with restore := some es, accepted := true } }
      else s.record 0x0A0B 2 (toLE 4 epoch ++ [code]))

end Sys2Proof.Machine
end

