-- ==== Sys2Proof/Machine/Security.lean ====
section
/-! DEFINITION. Security states, debug access and decommissioning as commands (chapter 21). -/

namespace Sys2Proof.Machine

open Sys2Proof.Obj

/-! ### Changes of the security state (Table 21.3) -/

/-- The security state changes for a cause of event 0x1301; calibration procedures end with SERVICE (R285), and a manager
that is no longer eligible resigns. -/
def State.moveSecurity (s : State) (new cause sess : Nat) : State :=
  let s := if s.security = 2 ∧ new ≠ 2 then s.calAbandon fun _ => true else s
  (s.setSecurity new cause sess).roleCheck

/-- FIELD is entered; an ENABLE_DEBUG that waits for the strings ends with ST_STATE. -/
def State.toField (s : State) (cause sess : Nat) : State :=
  let r := s.sec.dbgRid
  let s := { s with sec := { s.sec with dbgWait := false, dbgRid := none } }
  (s.moveSecurity 1 cause sess).answerOpt r stState []

/-- ENTER_SERVICE: FIELD to SERVICE with a presence token of either source. -/
def execEnterService (t : Nat) (r : Req) (p : Bytes) (s : State) : Host.Outcome State Fault Refusal :=
  .next (s.serve t r 0x70 (decide (p.length = 0)) 3 fun _ x s =>
    guarded [
      (decide (s.security ≠ 1) && decide (s.security ≠ 2), stState, []),
      (s.noPresence x.num true, stPresence, []),
      (s.inHoldup, refCond 0x1301)] s fun s =>
      if s.security = 2 then (s, .now stOk [])
      else ((s.useToken x.num).moveSecurity 2 1 x.num, .now stOk []))

/-- LEAVE_SERVICE: back to FIELD. -/
def execLeaveService (t : Nat) (r : Req) (p : Bytes) (s : State) : Host.Outcome State Fault Refusal :=
  .next (s.serve t r 0x71 (decide (p.length = 0)) 3 fun _ x s =>
    guarded [(s.inHoldup, refCond 0x1301)] s fun s =>
      if s.security = 1 then (s, .now stOk []) else (s.toField 1 x.num, .now stOk []))

/-- The state an ENABLE_DEBUG leads to. -/
def debugTarget (level : Nat) : Nat := if level = 0 then 2 else if level = 1 then 3 else 4

/-- The strings are opened for DEBUG_FULL: a CLOSING string as by OPEN_STRING, a CLOSED one by the commanded opening
(R541). -/
def State.openForDebug (s : State) : State :=
  s.eachStr fun n s =>
    let q := s.seqState n
    if q = seqClosing then s.openNow n 1 else if q = seqClosed then s.startOpening n else s

/-- ENABLE_DEBUG with LEVEL 0, 1 or 2 (R539, R541). -/
def execEnableDebug (t : Nat) (r : Req) (p : Bytes) (s : State) : Host.Outcome State Fault Refusal :=
  .next (s.serve t r 0x72 (decide (p.length = 4)) 3 fun rid x s =>
    let level := field p 0 1
    let target := debugTarget level
    let allowed := s.rd DebugConfig.DEBUG_ALLOWED
    guarded [
      (decide (s.security = 1) || decide (s.security = 5), stState, []),
      ((decide (level = 1) || decide (level = 2)) && s.noPresence x.num true, stPresence, []),
      (decide (2 < level), refOff stRange 0),
      (s.inHoldup, refCond 0x1301),
      (decide (level ≠ 0) && !bitOf allowed (level - 1), refCond 0x1302),
      (s.updateBusy, refCond 0x1305),
      (s.sec.dbgWait, stBusy, [])] s fun s =>
      if s.security = target then (s, .now stOk [])
      else
        let s := if level = 0 then s else s.useToken x.num
        if level = 2 then
          let s := { s with sec := { s.sec with dbgWait := true, dbgRid := some rid } }
          let s := if s.security = 2 then s.calAbandon fun _ => true else s
          ((s.openForDebug).debugSettle, .later)
        else (s.moveSecurity target 1 x.num, .now stOk []))

/-- No MAINTAIN session has been open for SERVICE_IDLE (Table 21.3); the timer stands while the lead cluster of the manager
die is halted. -/
def execServiceIdle (t : Nat) (s : State) : Host.Outcome State Fault Refusal :=
  let s := s.at t
  let sec := s.security
  .next (if s.running && (decide (sec = 2) || decide (sec = 3) || decide (sec = 4)) && !s.dieHalted 0 &&
      !(s.mbx.sess.any fun x => decide (x.cls = 3)) &&
      decide (s.sec.idleSince + secs (s.rd DebugConfig.SERVICE_IDLE) ≤ s.now) && !s.inHoldup then s.toField 2 0
  else s)

/-! ### The probe (R536, R547) -/

/-- HALT_TIME as it stands. -/
def State.haltRegs (s : State) : State :=
  let run := match s.sec.haltFrom with
    | some a => s.now - a
    | none => 0
  s.wr DebugConfig.HALT_TIME 0 (min (2 ^ 32 - 1) ((s.sec.haltNs + run) / 1000000))

/-- The lead cluster of a die is held halted or runs on. What waited goes on where it was (R547). -/
def State.haltDie (s : State) (die : Nat) (halt : Bool) : State :=
  let x := s.sec
  let h := setNth halt x.halted die
  let any := h.any id
  let s := { s with sec := { x with
    halted := h
    haltNs := if any then x.haltNs else x.haltNs + (match x.haltFrom with
      | some a => s.now - a
      | none => 0)
    haltFrom := if any then some (x.haltFrom.getD s.now) else none
    mgrHalt := if nth false h 0 then some (x.mgrHalt.getD s.now) else none
    idleSince := match x.mgrHalt with
      | some a => if nth false h 0 then x.idleSince else x.idleSince + (s.now - a)
      | none => x.idleSince } }
  let s := s.haltRegs
  if !halt && s.hasStr die then s.pump die else s

/-- What a probe asks of the SERVICE port (Table 21.2). -/
inductive DebugAccess where
  | boundaryScan
  | identityRead
  /-- A register of a die; the firmware runtime, state and trace regions; an instruction trace. -/
  | registerRead
  | memoryRead
  | instructionTrace
  /-- Halt and single step of a processor cluster; a write of its registers; of the runtime, state and staging regions. -/
  | halt
  | step
  | registerWrite
  | memoryWrite
  /-- The key store and private keys, the fuses, the front-end trip logic with the fault loops and the caldera latch, the
  configuration of the safe telegram engine. -/
  | keys
  | fuses
  | tripLogic
  | telegramConfig
  deriving DecidableEq, Repr

/-- The lowest debug level that grants an access, none for what no level grants (Table 21.2). -/
def DebugAccess.level : DebugAccess → Option Nat
  | .boundaryScan | .identityRead => some 0
  | .registerRead | .memoryRead | .instructionTrace => some 1
  | .halt | .step | .registerWrite | .memoryWrite => some 2
  | .keys | .fuses | .tripLogic | .telegramConfig => none

/-- The SERVICE port grants an access now: boundary scan and the identity registers in every state, all else by the debug level
(R76, R536). -/
def State.debugGrants (s : State) (a : DebugAccess) : Bool :=
  match a.level with
  | none => false
  | some k => decide (k ≤ s.rd SecurityStatus.DEBUG_LEVEL)

/-- A probe halts the lead cluster of a die at debug level 2, or lets it run (R547). -/
def execClusterHalt (t die : Nat) (halt : Bool) (s : State) : Host.Outcome State Fault Refusal :=
  let s := s.at t
  .next (if s.running = true ∧ s.hasDie die = true ∧ s.dieHalted die ≠ halt
      ∧ (halt = false ∨ s.debugGrants .halt = true) then s.haltDie die halt
  else s)

/-- VTREF, at `mv` now, has read 1.5 V or more, or below 1.0 V, since `since` for 100 ms: the probe is attached or detached,
and the debug level follows. A detached probe holds no cluster (R536). -/
def execProbeAttached (t mv since : Nat) (s : State) : Host.Outcome State Fault Refusal :=
  let s := s.at t
  let was := s.rdB SecurityStatus.PROBE_ATTACHED
  .next (if s.power.powered = true ∧ since + msec 100 ≤ s.now then
    if !was && decide (1500 ≤ mv) then
      let s := (s.wrB SecurityStatus.PROBE_ATTACHED 0 true).bump DebugConfig.PROBE_ATTACHES
      s.setSecurity s.security 3 0
    else if was && decide (mv < 1000) then
      let s := s.wrB SecurityStatus.PROBE_ATTACHED 0 false
      let s := s.dieList.foldl (fun s d => if s.dieHalted d then s.haltDie d false else s) s
      s.setSecurity s.security 3 0
    else s
  else s)

/-! ### Decommissioning (R548) -/

/-- DECOMMISSION_MODULE: the sessions are closed, the configuration store, the keys and the rings are erased, the fuse is
blown and the module restarts. -/
def execDecommissionModule (t : Nat) (r : Req) (p : Bytes) (s : State) : Host.Outcome State Fault Refusal :=
  .next (s.serve t r 0x73 (decide (p.length = 16)) 3 fun rid x s =>
    guarded [
      (decide (s.security ≠ 2), stState, []),
      (s.noPresence x.num false, stPresence, []),
      (s.inHoldup, refCond 0x1301),
      (decide (ofLE p ≠ s.rd ModuleIdentity.SERIAL), refCond 0x1304),
      (!s.allResting, refCond 0x1303),
      (s.updateBusy, refCond 0x1305)] s fun s =>
      let s := ((s.useToken x.num).answerLast rid stOk []).tellClosing 3
      let s := { s with mbx := .init }
      let s := { s with nv := { s.nv with
        store := [], kept := [], keptFormat := 0, keptTime := 0, causes := List.replicate 8 [], transport := false
        keysPresent := false } }
      let s := s.record 0x1305 3 []
      let s := { s with nv := { s.nv with decommissioned := true } }
      (s.restart 7 x.num, .later))

end Sys2Proof.Machine
end

