-- ==== Sys2Proof/Machine/Mailbox.lean ====
section
/-! DEFINITION. Connections, sessions and the plain requests of the mailbox (chapter 5), and the admission of clients
(R544, R545). -/

namespace Sys2Proof.Machine

open Sys2Proof.Obj

/-! ### Connections (R133 to R135) -/

/-- A connection is no more. -/
def State.dropConn (s : State) (id : Nat) : State :=
  { s with mbx := { s.mbx with conns := s.mbx.conns.filter fun c => decide (c.id ≠ id) } }

/-- A connection is changed. -/
def State.modConn (s : State) (id : Nat) (f : Conn → Conn) : State :=
  { s with mbx := { s.mbx with conns := s.mbx.conns.map fun c => if c.id = id then f c else c } }

/-- A handshake has failed or is abandoned. -/
def State.failTls (s : State) (id : Nat) : State := ((s.dropConn id).bump MailboxStatus.TLS_FAILURES).send (.tlsFail id)

/-! ### Sessions that end (R137 to R139) -/

/-- A session ends: its transaction is aborted, its streams close, replies still due are discarded, a calibration procedure it
holds is abandoned, and a presence token bound to it serves nobody. It ends in one step, so that SESSION_STATE never reads 2
(closing): DESIGN CHOICE (log 44). -/
def State.endSession (s : State) (num : Nat) : State :=
  match s.sess? num with
  | none => s
  | some x =>
    let s := x.streams.foldl (fun (s : State) q => s.closeStream num q) s
    let s := { s with mbx := { s.mbx with sess := s.mbx.sess.filter fun y => decide (y.num ≠ num) } }
    let s := SessionStatus.desc.flds.foldl (fun (s : State) f => s.wr f num f.reset) s
    let s := s.calAbandon fun c => c.sess == num
    let s := s.modConn x.conn fun c => { c with reqs := x.next }
    { s with sec := { s.sec with bound := if s.sec.bound = num then 255 else s.sec.bound
                                 idleSince := if x.cls = 3 then s.now else s.sec.idleSince } }

/-- The connection with a number ends, and its session with it. -/
def State.endConn (s : State) (id : Nat) : State :=
  let s := match s.mbx.sess.find? fun x => x.conn == id with
    | some x => s.endSession x.num
    | none => s
  s.dropConn id

/-- The module closes a session with a reason of R152, and the connection with it: DESIGN CHOICE (log 42), R139 names the session
only. -/
def State.shutSession (s : State) (num reason : Nat) : State :=
  match s.sess? num with
  | none => s
  | some x => ((s.unsolicited num 0x00F3 [reason]).endConn x.conn).send (.close x.conn)

/-! ### Admission (R134, R544, R545) -/

/-- The DIGEST of a certificate. -/
def digestOf (c : Bytes) : Nat := ofLE (Config.sha384 c) % 2 ^ 384

/-- An entry matches a chain in its pass: kind 1 by the leaf, kind 2 by an issuer up to which the chain verifies. -/
def State.entryMatches (s : State) (kind e : Nat) (chain : List Bytes) : Bool :=
  let d := s.rd TrustList.DIGEST e
  s.rdB TrustList.ENABLED e && decide (s.rd TrustList.KIND e = kind) &&
    if kind = 1 then decide (digestOf (chain.headD []) = d)
    else (List.range chain.length).any fun i =>
      decide (1 ≤ i) && decide (digestOf (nth [] chain i) = d) && Config.chainOk chain i

/-- The first entry that matches a chain, in two passes. -/
def State.trustMatch (s : State) (chain : List Bytes) : Option Nat :=
  let es := List.range 32
  (es.find? fun e => s.entryMatches 1 e chain).orElse fun _ => es.find? fun e => s.entryMatches 2 e chain

/-- Every open session is checked again after a change of the trust list. -/
def State.trustRecheck (s : State) : State :=
  s.mbx.sess.foldl (fun (s : State) x =>
    match s.conn? x.conn with
    | none => s
    | some c =>
      match s.trustMatch c.chain with
      | some e => if s.rd TrustList.CLASS e = x.cls then s else s.shutSession x.num 3
      | none => s.shutSession x.num 3) s

/-- The commissioning window is open: a button token lives and TRUST_EMPTY was set at its event. -/
def State.windowOpen (s : State) : Bool :=
  s.sec.window && decide (s.sec.token = 1) && decide (s.now < s.sec.tokenAt + tokenLife)

/-- What a client offers meets the options of Table 5.1, by their code points of RFC 8446: TLS 1.3, a cipher suite, a key exchange
group and a signature algorithm of those supported. A PSK, a session to resume and early data are refused without ending the
handshake, which goes on as a full one. -/
def helloOk (h : Hello) : Bool :=
  h.tls13 && (h.suites.contains 0x1302 || h.suites.contains 0x1301) && (h.groups.contains 0x0018 || h.groups.contains 0x0017)
    && (h.sigs.contains 0x0503 || h.sigs.contains 0x0403)

/-- The cipher suite chosen: TLS_AES_256_GCM_SHA384 where it is offered (Table 5.1). -/
def helloSuite (h : Hello) : Nat := if h.suites.contains 0x1302 then 0x1302 else 0x1301

/-- The plaintext bytes of the module's records at most: 16,384, or fewer where the client's record size limit, which in TLS 1.3
counts the content type too, is lower (Table 5.1). -/
def helloRecord (h : Hello) : Nat :=
  match h.recordLimit with
  | some n => min 16384 (n - 1)
  | none => 16384

/-- A client is admitted with a class. -/
def State.grantSession (s : State) (id cls entry : Nat) (h : Hello) (bind : Bool) : State :=
  let un := !s.rdB TimeStatus.FIRST_LOCK_DONE
  let s := s.modConn id fun c =>
    { c with up := true, since := s.now, cls := cls, entry := entry, chain := h.chain, unchecked := un, bind := bind,
             suite := helloSuite h, recMax := helloRecord h }
  s.send (.tls id (helloSuite h) (helloRecord h))

/-- The entry that commissioning writes: the lowest that is empty, else the lowest that is not enabled. -/
def State.freeEntry (s : State) : Option Nat :=
  let es := List.range 32
  (es.find? fun e => decide (s.rd TrustList.KIND e = 0)).orElse fun _ => es.find? fun e => !s.rdB TrustList.ENABLED e

/-- Values take effect and are stored at once. -/
def State.setStored (s : State) (cs : List CellW) : State := (s.putCells cs).storeCells cs

/-- The first client of the commissioning window is admitted as MAINTAIN. -/
def State.commission (s : State) (id : Nat) (h : Hello) : State :=
  let s := ({ s with sec := { s.sec with window := false } }).wrB SecurityStatus.COMMISSIONING_OPEN 0 false
  let e := s.freeEntry
  let s := match e with
    | some e =>
      let s := s.setStored [cell TrustList.KIND e 1, cell TrustList.CLASS e 3, cell TrustList.ENABLED e 1,
        cell TrustList.DIGEST e (digestOf (h.chain.headD []))]
      (s.trustRegs.record 0x1304 2 [e]).trustRecheck
    | none => s
  s.grantSession id 3 (e.getD 0xFF) h true

/-- A client completes its part of a handshake with what it offers and shows, and whether its key signs the handshake. -/
def State.finishHandshake (s : State) (id : Nat) (h : Hello) (signed : Bool) : State :=
  let chain := h.chain
  match s.conn? id with
  | none => s
  | some c =>
    if c.up then s
    else if !helloOk h || !signed || chain.isEmpty || decide (4 < chain.length) || !s.nv.keysPresent ||
        (s.rdB TimeStatus.FIRST_LOCK_DONE && !Config.datesOk chain s.base) then s.failTls id
    else if s.windowOpen then s.commission id h
    else
      match s.trustMatch chain with
      | none => s.failTls id
      | some e =>
        let s := (s.bump TrustList.USE_COUNT e).stamp TrustList.LAST_USED_TIME e
        s.grantSession id (s.rd TrustList.CLASS e) e h false

/-- A packet at NET A or NET B; none is seen under another VLAN tag than the port's (R135). -/
def State.netSeen (s : State) (port tag : Nat) : Bool :=
  (decide (port = 1) || decide (port = 2)) && decide (tag = s.netNow 4 port)

/-- A TCP connection is accepted, or reset where its TCP port is not MAILBOX_PORT or 4 handshakes are in progress (R133, R135). -/
def State.tcpArrives (s : State) (id port addr : Nat) (tcp : TcpPorts) : State :=
  if tcp.dst ≠ s.netNow 3 port then s.send (.close id)
  else if 4 ≤ (s.mbx.conns.filter fun c => !c.up).length then s.send (.close id)
  else
    let c : Conn := ⟨id, port, addr, tcp.src, s.now, false, 0, 0xFF, [], false, false, false, 0, 0, 0, 0, 0⟩
    ({ s with mbx := { s.mbx with conns := s.mbx.conns ++ [c] } }).send (.accept id port (s.netTag port))

/-- A KeyUpdate of the client's sending keys, answered by one of the module's where it asks for it (Table 5.1, RFC 8446). -/
def State.keysUpdated (s : State) (id : Nat) (asks : Bool) : State :=
  let s := s.modConn id fun c => { c with rxKeys := c.rxKeys + 1, txKeys := c.txKeys + b2n asks }
  if asks then s.send (.keyUpdate id) else s

/-- What arrives at NET A or NET B from an address: a TCP connection; the end of a connection's handshake, with what the client
offered; a KeyUpdate, or a record, of which one above 16,384 bytes of plaintext ends the connection; or a packet that the network
layer answers by itself or leaves alone (R133 to R135, R544). -/
def execTcpConnection (t id port addr : Nat) (tcp : TcpPorts) (what : NetEvent) (s : State) :
    Host.Outcome State Fault Refusal :=
  let s := s.at t
  let open_ := match s.conn? id with
    | some c => c.up
    | none => false
  .next (if !s.mailboxUp then s
  else
    match what with
    | .connect => if (s.conn? id).isSome || !s.netSeen port tcp.tag then s else s.tcpArrives id port addr tcp
    | .finished h signed => s.finishHandshake id h signed
    | .keyUpdate asks => if open_ then s.keysUpdated id asks else s
    | .record n => if open_ && decide (16384 < n) then (s.endConn id).send (.close id) else s
    | .query q => if s.netSeen port tcp.tag && s.netAnswers port q then s.send (.netReply port (s.netTag port) q) else s)

/-- The first client that completes a handshake in the commissioning window is admitted as MAINTAIN and entered in the trust
list; the options of Table 5.1 bind it like every client (R133, R545). -/
def execCommissioned (t id : Nat) (hello : Hello) (signed : Bool) (s : State) : Host.Outcome State Fault Refusal :=
  let s := s.at t
  .next (if s.mailboxUp = true ∧ s.windowOpen = true then s.finishHandshake id hello signed else s)

/-- A handshake not complete within 10 s is abandoned (R135). -/
def execHandshakeTimeout (t id : Nat) (s : State) : Host.Outcome State Fault Refusal :=
  let s := s.at t
  .next (match s.conn? id with
  | none => s
  | some c => if s.mailboxUp && !c.up && decide (c.since + secs 10 ≤ s.now) then s.failTls id else s)

/-- A connection that sends no OPEN_SESSION within 10 s of its handshake is closed and counted (R137). -/
def execOpenSessionTimeout (t id : Nat) (s : State) : Host.Outcome State Fault Refusal :=
  let s := s.at t
  .next (match s.conn? id with
  | none => s
  | some c =>
    if s.mailboxUp && c.up && !c.opened && decide (c.since + secs 10 ≤ s.now) then
      ((s.endConn id).bump MailboxStatus.SESSIONS_REFUSED).send (.close id)
    else s)

/-- The TCP or TLS connection ends, and its session closes (R137, R139). -/
def execConnectionEnd (t id : Nat) (s : State) : Host.Outcome State Fault Refusal :=
  let s := s.at t
  .next (if s.running then s.endConn id else s)

/-! ### Sessions (R137 to R139, R151) -/

/-- The lowest free session number. -/
def State.freeSession (s : State) : Option Nat :=
  ((List.range 17).drop 1).find? fun n => (s.sess? n).isNone

/-- A session is opened on a connection. -/
def State.newSession (s : State) (c : Conn) (num : Nat) : State :=
  let x : Sess := ⟨num, c.id, c.cls, s.now, 0, [], none, [], c.reqs⟩
  let s := { s with mbx := { s.mbx with sess := s.mbx.sess ++ [x] } }
  let s := (s.wr SessionStatus.SESSION_STATE num 1).wr SessionStatus.PORT num c.port
  let s := (s.wr SessionStatus.CLASS num c.cls).wrB SessionStatus.TIME_UNCHECKED num c.unchecked
  let s := (s.wr SessionStatus.PEER_ADDR num c.addr).wr SessionStatus.PEER_PORT num c.tcp
  let s := s.stamp SessionStatus.OPEN_TIME num
  if c.bind ∧ s.sec.token = 1 ∧ s.sec.bound = 0 then
    let s := { s with sec := { s.sec with bound := num } }
    (s.wr PresenceStatus.TOKEN_STATE 0 2).wr PresenceStatus.BOUND_SESSION 0 num
  else s

/-- The payload of the answer to OPEN_SESSION (R151). -/
def State.openReply (s : State) (c : Conn) (num : Nat) : Bytes := [num, c.cls, s.security, 0] ++ toLE 4 65536

/-- OPEN_SESSION: the lowest free number is assigned; the seventeenth session is refused and its connection closed; a second one
on a connection is refused (R137, R138, R151). -/
def execOpenSession (t : Nat) (r : Req) (p : Bytes) (s : State) : Host.Outcome State Fault Refusal :=
  let s := s.at t
  .next (if !s.mailboxUp then s
  else
    match s.conn? r.conn with
    | none => s
    | some c =>
      if !c.up then s
      else
        match s.mbx.sess.find? fun x => x.conn == r.conn with
        | some x =>
          let n := if r.sess = 0 then x.num else r.sess
          s.serve t { r with sess := n } 0x0010 (decide (p.length = 0)) 1 fun _ _ s =>
            (s, .now stCondition (condDetail 0x0102))
        | none =>
          let s := s.modConn r.conn fun c => { c with opened := true }
          if r.ver ≠ 1 then s.answerRaw r 0x0010 stVersion [1]
          else if r.sess ≠ 0 then s.answerRaw r 0x0010 stSession []
          else if p.length ≠ 0 then s.answerRaw r 0x0010 stLength []
          else
            match s.freeSession with
            | none =>
              let s := (s.answerRaw r 0x0010 stBusy []).bump MailboxStatus.SESSIONS_REFUSED
              (s.endConn r.conn).send (.close r.conn)
            | some n =>
              (s.newSession c n).send (.frame r.conn flagResponse 0x0010 stOk r.seq n (s.openReply c n)))

/-- CLOSE_SESSION: it is answered and the session closes (R139). -/
def execCloseSession (t : Nat) (r : Req) (p : Bytes) (s : State) : Host.Outcome State Fault Refusal :=
  .next (s.serve t r 0x0011 (decide (p.length = 0)) 1 fun rid x s =>
    ((s.answer rid stOk []).endSession x.num, .later))

/-- PING_SESSION keeps a session open without other effect (R139). -/
def execPingSession (t : Nat) (r : Req) (p : Bytes) (s : State) : Host.Outcome State Fault Refusal :=
  .next (s.serve t r 0x0012 (decide (p.length = 0)) 1 fun _ _ s => (s, .now stOk []))

/-- A session that has received no frame for SESSION_IDLE of its port is closed with reason 1 (R139, R152). -/
def execSessionIdle (t num : Nat) (s : State) : Host.Outcome State Fault Refusal :=
  let s := s.at t
  .next (match s.sess? num with
  | none => s
  | some x =>
    let idle := match s.conn? x.conn with
      | some c => s.netNow 2 c.port
      | none => 0
    if s.mailboxUp = true ∧ x.lastFrame + secs idle ≤ s.now then s.shutSession num 1 else s)

/-! ### Frames that name no request (R142, R150) -/

/-- A frame header leaves the stream of frames unreadable (R142). DESIGN CHOICE (log 23): RESPONSE or UNSOLICITED set by the host is
not among R142's causes, and such a frame is served as the request it would be without them. -/
def unreadable (h : Bytes) : Bool :=
  let cmd := field h 4 2
  decide (field h 0 2 ≠ 0x4D54) || decide (65536 < field h 0x0C 4) || decide (8 ≤ field h 3 1) ||
    decide (field h 0x0B 1 ≠ 0) || (bitOf (field h 3 1) 2 != decide (cmd = 0x0023)) ||
    (decide (cmd = 0x0023) && decide (field h 0x0C 4 < 8))

/-- The commands a host may send (Table 5.4). -/
def hostCommands : List Nat := [0x01, 0x02, 0x03, 0x04, 0x05, 0x06, 0x10, 0x11, 0x12, 0x20, 0x21, 0x22, 0x23, 0x30, 0x31, 0x32,
  0x40, 0x41, 0x42, 0x43, 0x44, 0x45, 0x50, 0x51, 0x60, 0x61, 0x62, 0x70, 0x71, 0x72, 0x73, 0x74, 0x80]

/-- An unreadable frame is counted and its connection closed without a reply. -/
def State.badFrame (s : State) (conn : Nat) : State :=
  match s.conn? conn with
  | none => s
  | some c =>
    if s.mailboxUp && c.up then ((s.endConn conn).bump MailboxStatus.FRAME_ERRORS).send (.close conn) else s

/-- A frame with this 16-byte header arrives that is no request of another row: unreadable ones close the connection; a readable
one with a COMMAND outside Table 5.4 is answered ST_UNKNOWN (R142, R150). -/
def execUnreadableFrame (t conn : Nat) (hdr : Bytes) (s : State) : Host.Outcome State Fault Refusal :=
  let cmd := field hdr 4 2
  .next (if unreadable hdr then (s.at t).badFrame conn
  else if hostCommands.contains cmd then s.at t
  else s.serve t (headerReq conn hdr) cmd true 0 fun _ _ s => (s, .now stUnknown []))

/-! ### Transactions (R159, R160) -/

/-- BEGIN_TXN opens a transaction. -/
def execBeginTxn (t : Nat) (r : Req) (p : Bytes) (s : State) : Host.Outcome State Fault Refusal :=
  .next (s.serve t r 0x0003 (decide (p.length = 0)) 2 fun _ x s =>
    guarded [(x.txn.isSome, refCond 0x0101)] s fun s =>
      (s.modSess x.num fun y => { y with txn := some ⟨[], [], s.now⟩ }, .now stOk []))

/-- ABORT_TXN discards the transaction. -/
def execAbortTxn (t : Nat) (r : Req) (p : Bytes) (s : State) : Host.Outcome State Fault Refusal :=
  .next (s.serve t r 0x0005 (decide (p.length = 0)) 2 fun _ x s =>
    guarded [(x.txn.isNone, stTxnNone, [])] s fun s => (s.modSess x.num fun y => { y with txn := none }, .now stOk []))

/-- A transaction with no frame from its session for 60 s is aborted. -/
def execTxnTimeout (t num : Nat) (s : State) : Host.Outcome State Fault Refusal :=
  let s := s.at t
  .next (match (s.sess? num).bind (·.txn) with
  | none => s
  | some q =>
    if s.mailboxUp = true ∧ q.lastFrame + secs 60 ≤ s.now then s.modSess num fun y => { y with txn := none } else s)

/-! ### Identity, quotes, the object list and the restart (R121, R122, R151, R152, R158) -/

/-- GET_IDENTITY returns MODULE_IDENTITY and the number of certificates. -/
def execGetIdentity (t : Nat) (r : Req) (p : Bytes) (s : State) : Host.Outcome State Fault Refusal :=
  .next (s.serve t r 0x0030 (decide (p.length = 0)) 1 fun _ _ s =>
    (s, .now stOk (s.objBytes ModuleIdentity.desc 0 ++ [Config.certCount % 256])))

/-- GET_CERT returns a certificate of the device identity chain. -/
def execGetCert (t : Nat) (r : Req) (p : Bytes) (s : State) : Host.Outcome State Fault Refusal :=
  .next (s.serve t r 0x0031 (decide (p.length = 1)) 1 fun _ _ s =>
    guarded [(decide (Config.certCount ≤ field p 0 1), refOff stRange 0)] s fun s =>
      (s, .now stOk (Config.cert (field p 0 1))))

/-- The quote over the slots of a mask, without its signature (Table 4.3). -/
def State.quoteBody (s : State) (nonce : Bytes) (mask : Nat) : Bytes :=
  toLE 4 0x4D585154 ++ toLE 2 1 ++ [mask, 0] ++ toLE 16 (s.rd ModuleIdentity.SERIAL) ++ toLE 4 (s.rd BootStatus.BOOT_COUNT)
    ++ [s.security, 0, 0, 0] ++ timeBytes s.base ++ [0, 0, 0, 0, 0, 0] ++ padTo 32 nonce
    ++ ((List.range 8).filter fun n => bitOf mask n).flatMap fun n => toLE 48 (s.rd MeasurementSlot.SLOT_VALUE n)

/-- GET_QUOTE captures the slots at one instant and returns the signed quote. -/
def execGetQuote (t : Nat) (r : Req) (p : Bytes) (s : State) : Host.Outcome State Fault Refusal :=
  .next (s.serve t r 0x0032 (decide (p.length = 33)) 1 fun _ _ s =>
    let mask := field p 32 1
    guarded [(decide (mask = 0), refOff stRange 32)] s fun s =>
      let b := s.quoteBody (p.take 32) mask
      ({ s with free := s.free + 1 }, .now stOk (b ++ padTo 96 (Config.sign s.free b))))

/-- RESTART_MODULE is answered, opens the strings and restarts the module with cause 7. -/
def execRestartModule (t : Nat) (r : Req) (p : Bytes) (s : State) : Host.Outcome State Fault Refusal :=
  .next (s.serve t r 0x0080 (decide (p.length = 0)) 3 fun rid x s =>
    ((s.answerLast rid stOk []).restart 7 x.num, .later))

/-- The lowest and the highest instance of an object in the variant (R158). -/
def State.instRange (s : State) : InstKind → Nat × Nat
  | .module => (0, 0)
  | .die => (0, s.strings)
  | .string => (1, s.strings)
  | .port => (1, 2)
  | .session => (1, 16)
  | .slot => (0, 7)
  | .stringNode => (64, 64 * s.strings + 39)
  | .channel => (0, 4 * s.strings + 3)
  | .table => (1, 4)
  | .entry => (0, 31)
  | .output => (0, 3)
  | .capture => (0, 1)
  | .canChannel => (1, 2)
  | .canObject => (128, 383)
  | .domain => (1, 2)

/-- One object of the answer to LIST_OBJ. -/
def State.listEntry (s : State) (d : ObjDesc) : Bytes :=
  let i := s.instRange d.inst
  toLE 2 d.id ++ toLE 2 d.size ++ toLE 2 i.1 ++ toLE 2 i.2
    ++ [b2n d.stored + 2 * b2n d.epochBound + 4 * b2n d.roleBound, 0]

/-- LIST_OBJ lists the objects of a subject byte, or all. -/
def execListObj (t : Nat) (r : Req) (p : Bytes) (s : State) : Host.Outcome State Fault Refusal :=
  .next (s.serve t r 0x0006 (decide (p.length = 1)) 1 fun _ _ s =>
    let k := field p 0 1
    (s, .now stOk ((Obj.all.filter fun d => decide (k = 0) || decide (d.id / 256 = k)).flatMap s.listEntry)))

end Sys2Proof.Machine
end

