-- ==== Sys2Proof/Machine/Readout.lean ====
section
/-! DEFINITION. What the outbound streams of the history store and the trace buffers send next (R263 to R265, R269). -/

namespace Sys2Proof.Machine

open Sys2Proof.Obj

/-- What a stream sends next: SFLAGS, the data after the subheader, and the stream after it; none where it has nothing to send,
with the stream as it moves on. -/
abbrev Next := Option (Nat × Bytes) × Stream

/-- SFLAGS of the frame that ends a stream (R164). -/
def sEnd : Nat := 1

/-- A GAP unit: the first and the last number lost, and their instants (Table 9.5, R264). -/
def gapUnit (a b ta tb : Nat) : Bytes :=
  [2, 0, 0, 0, 0, 0, 0, 0] ++ toLE 8 a ++ toLE 8 b ++ timeBytes ta ++ timeBytes tb ++ [0, 0, 0, 0]

/-! ### HISTORY_READ (R263, R264) -/

/-- A closed block as stored (Table 9.1): its header with the CRC, and its items, each on a multiple of 4 bytes. -/
def State.ringBlock (s : State) (ring flags count seq used first last : Nat) (body : Bytes) : Bytes :=
  let head := toLE 4 0x4B4C4248 ++ [ring, flags] ++ toLE 2 count ++ toLE 8 seq ++ toLE 4 used
    ++ toLE 4 s.nv.bootCount ++ timeBytes first ++ timeBytes last ++ List.replicate 16 0
  head ++ toLE 4 (crc32 (head ++ body)) ++ body

/-- A closed block of the lap ring. -/
def State.blockImage (s : State) (b : Blk) : Bytes :=
  s.ringBlock 1 (b2n b.damaged + 2 * b2n b.pinned + 4 * b2n b.holdup + 8 * b2n b.timeout) b.items.length b.seq b.used b.first
    b.last (b.items.flatMap fun i => i ++ List.replicate ((4 - i.length % 4) % 4) 0)

/-- A closed block of the event ring, as it stands in the store (R253, R260). -/
def State.eventBlockImage (s : State) (b : EvBlk) : Bytes :=
  let time (e : Option Event) : Nat := (e.map (·.time)).getD 0
  s.ringBlock 2 (b2n (decide (b.damaged ≠ 0)) + 4 * b2n b.holdup + 8 * b2n b.timeout) b.events.length b.seq (64 + 48 * b.events.length)
    (time b.events.getLast?) (time b.events.head?) (b.events.reverse.flatMap Event.bytes)

/-- Bytes of a block that one BLOCK_PART unit carries. -/
def partBytes : Nat := 65520

/-- A BLOCK_PART unit of a block; a damaged block is its header alone. -/
def State.blockPart (s : State) (b : Blk) (k : Nat) : Bytes × Bool :=
  let img := if b.damaged then (s.blockImage b).take 64 else s.blockImage b
  let last := decide (img.length ≤ (k + 1) * partBytes)
  ([1, 2 * k + b2n last, 0, 0, 0, 0, 0, 0] ++ (img.drop (k * partBytes)).take partBytes, last)

/-- A time that is not the not-set value lies at or before an instant. -/
def timeReached (v at_ : Nat) : Bool := decide (v ≠ timeNA) && decide (timeNs v ≤ at_)

/-- No lap with an instant before `t` can still come into a block: `t` has passed, no such lap is on its way, and the open block
begins at `t` or later. -/
def State.writtenTo (s : State) (t : Nat) : Bool :=
  decide (t ≤ s.base) && (match s.hist.lapOpen with
    | some o => o.items.isEmpty || decide (t ≤ o.first)
    | none => true) &&
  !(s.strs.any fun x => x.laps.cur.any (fun l => decide (l.nom < t)) || x.units.any (fun u => decide (u.nom < t)) ||
    x.queue.any fun u => decide (u.nom < t))

/-- The block a HISTORY_READ goes on with: until it has begun, the first that ends at FROM_TIME or later; behind blocks that were gone
before it opened, the next that there is or that it has lost (R263, R264). `aux` tells that it has begun. -/
def histSeek (from_ : Nat) (ring : List Blk) (q : Stream) : Stream :=
  if q.part ≠ 0 then q
  else
    let cur := if q.aux ≠ 0 then q.cursor
      else ring.foldl (fun c (b : Blk) => if b.seq = c ∧ b.last < from_ then c + 1 else c) q.cursor
    let known := (ring.map (·.seq)).filter (fun k => decide (cur ≤ k)) ++ q.lost.filterMap fun r =>
      if cur ≤ r.last ∧ (q.aux ≠ 0 ∨ from_ ≤ r.toT) then some (max cur r.first) else none
    let cur := known.foldl min (known.headD cur)
    { q with cursor := cur, aux := b2n (decide (q.aux ≠ 0) || known.contains cur) }

/-- The next unit of a HISTORY_READ. Lost blocks are reported up to the oldest surviving one that is pinned or lies no more than
seven eighths of the ring behind the newest; the stream ends once no block with a FIRST_TIME before TO_TIME is left or can come
(R263, R264). -/
def State.histNext (s : State) (q : Stream) : Next :=
  let from_ := timeNs (field q.params 0 10)
  let upTo := field q.params 10 10
  let ring := s.hist.lapRing.reverse
  let q := histSeek from_ ring q
  let cur := q.cursor
  match ring.find? fun b => b.seq == cur with
  | some b =>
    let later := ring.any fun x => decide (cur ≤ x.seq) && !timeReached upTo x.first
    if q.part = 0 ∧ later = false then (if s.writtenTo (timeNs upTo) then (some (sEnd, []), q) else (none, q))
    else
      let (d, last) := s.blockPart b q.part
      (some (0, d), if last then { q with cursor := cur + 1, part := 0 } else { q with part := q.part + 1 })
  | none =>
    let rest : Next := if decide (upTo ≠ timeNA) && s.writtenTo (timeNs upTo) then (some (sEnd, []), q) else (none, q)
    match ring.getLast? with
    | none => rest
    | some newest =>
      if newest.seq < cur then rest
      else
        let near (b : Blk) : Bool := decide (newest.seq ≤ b.seq + s.lapRingBlocks * 7 / 8)
        let target := (ring.find? fun b => decide (cur ≤ b.seq) && (b.pinned || near b)).getD newest
        let at_ (k : Nat) : Option Blk := ring.find? fun b => b.seq == k
        let run (k : Nat) : LostRun :=
          (q.lost.find? fun r => decide (r.first ≤ k) && decide (k ≤ r.last)).getD ⟨k, k, newest.first, newest.first⟩
        let tb := ((at_ (target.seq - 1)).map (·.last)).getD (run (target.seq - 1)).toT
        (some (0, gapUnit cur (target.seq - 1) (run cur).fromT tb), { q with
          cursor := target.seq, part := 0, lost := q.lost.filter fun r => decide (target.seq ≤ r.last) })

/-- A unit of a HISTORY_READ that is a GAP unit: how many blocks the stream has lost by it, overwritten and passed over; 0 for another
(R264). -/
def State.gapBlocks (s : State) (q : Stream) (d : Bytes) : Nat :=
  if field d 0 1 = 2 then
    let a := field d 8 8
    let b := field d 16 8
    sumL (q.lost.map fun r => min b r.last + 1 - max a r.first) +
      (s.hist.lapRing.filter fun x => decide (a ≤ x.seq) && decide (x.seq ≤ b)).length
  else 0

/-! ### EVENT_FEED (R265) -/

/-- The events of the ring, oldest first, and whether each can be read: those that an error has spoilt cannot. -/
def Hist.events (h : Hist) : List (Event × Bool) :=
  let marked (l : List Event) (bad : Nat) : List (Event × Bool) := l.reverse.zipIdx.map fun (e, i) => (e, decide (bad ≤ i))
  (h.evRing.reverse.flatMap fun b => marked b.events b.damaged) ++ marked h.evOpen h.evDamaged

/-- An event is one a feed asks for: MIN_SEVERITY and SUBJECTS. -/
def feedWants (p : Bytes) (e : Event) : Bool :=
  decide (field p 10 1 ≤ e.sev) && bitOf (field p 12 4) (e.code / 256)

/-- The wanted ones among consecutive events, at most `n`, and the EVENT_SEQ after the last one looked at. -/
def takeEvents (p : Bytes) : Nat → Nat → List (Event × Bool) → List Event × Nat
  | cur, _, [] => ([], cur)
  | cur, 0, _ => ([], cur)
  | cur, n + 1, (e, ok) :: es =>
    if e.seq ≠ cur then ([], cur)
    else if ok && feedWants p e then
      let (l, c) := takeEvents p (cur + 1) n es
      (e :: l, c)
    else takeEvents p (cur + 1) (n + 1) es

/-- The next unit of an EVENT_FEED; it never ends by itself. DESIGN CHOICE (log 54): events that an error has spoilt are left out, and
only overwritten ones are reported by a GAP unit. -/
def State.eventNext (s : State) (q : Stream) : Next :=
  let es := s.hist.events.filter fun e => decide (q.cursor ≤ e.1.seq)
  let first := (es.head?.map (·.1.seq)).getD s.hist.evSeq
  if q.cursor < first then
    let ta := if q.aux = 0 then q.upto else q.aux - 1
    (some (0, gapUnit q.cursor (first - 1) ta q.upto), { q with cursor := first, aux := 0 })
  else
    let (l, c) := takeEvents q.params q.cursor 1364 es
    let q := { q with cursor := c }
    if l.isEmpty then (none, q)
    else (some (0, [4, 0] ++ toLE 2 l.length ++ [0, 0, 0, 0] ++ l.flatMap Event.bytes), q)

/-! ### TRACE_READ (R269) -/

/-- The 32 bytes of a trace sample (Table 9.6). -/
def Sample.bytes (x : Sample) : Bytes :=
  timeBytes x.time ++ [x.region, b2n x.miss + 2 * b2n x.safe + 4 * b2n x.ramping + 8 * b2n x.trigger]
    ++ toLE 4 (ofInt 32 x.input) ++ toLE 4 (ofInt 32 x.err) ++ toLE 4 x.band ++ toLE 4 (ofInt 32 x.output) ++ toLE 4 x.index

/-- The samples of a source, oldest first: the rolling part (0) or a frozen capture. -/
def State.traceSource (s : State) (ch src : Nat) : List Sample :=
  let tr := s.trace ch
  if src = 0 then tr.rolling.reverse
  else ((tr.frozen.find? fun k => k.slot == src).map fun k => k.samples.reverse).getD []

/-- The longest run of consecutive samples, at most `n`. -/
def takeRun : Nat → Nat → List Sample → List Sample
  | 0, _, _ => []
  | _, _, [] => []
  | n + 1, cur, x :: xs => if x.index = cur then x :: takeRun n (cur + 1) xs else []

/-- The next unit of a TRACE_READ: up to 2,047 samples, a GAP unit for samples overwritten or marked invalid, then END; samples that a
capture has taken out of the rolling part are left out (R269). -/
def State.traceNext (s : State) (q : Stream) : Next :=
  if q.part ≤ q.cursor then (some (sEnd, []), q)
  else
    let ch := field q.params 0 1
    let all := s.traceSource ch (field q.params 1 1)
    let ok := all.filter fun x =>
      decide (q.cursor ≤ x.index) && decide (x.index < q.part) && !(s.trace ch).invalid.contains x.time
    let first := (ok.head?.map (·.index)).getD q.part
    let spoilt := (all.filter fun x => decide (q.cursor ≤ x.index) && decide (x.index < first)).map fun x =>
      (⟨x.index, x.index, x.time, x.time⟩ : LostRun)
    let gone := q.lost.filter (fun r => decide (q.cursor ≤ r.first) && decide (r.last < first)) ++ spoilt
    match gone with
    | g :: gs =>
      let a := gs.foldl (fun (m : LostRun) r => if r.first < m.first then r else m) g
      let b := gs.foldl (fun (m : LostRun) r => if m.last < r.last then r else m) g
      let num (k : Nat) : Nat := k % 2 ^ 32
      (some (0, gapUnit (num a.first) (num b.last) a.fromT b.toT), { q with cursor := first, lost := q.lost.filter (first ≤ ·.first) })
    | [] =>
      if q.part ≤ first then (some (sEnd, []), { q with cursor := first })
      else
        let l := takeRun 2047 first ok
        (some (0, [3, 0] ++ toLE 2 l.length ++ [0, 0, 0, 0] ++ l.flatMap Sample.bytes), { q with cursor := first + l.length })

/-! ### LAP_FEED and LEDGER_EXPORT -/

/-- As many whole entries as fit in one frame, and the rest. -/
def fillFrame : Nat → List Bytes → Bytes × List Bytes
  | _, [] => ([], [])
  | room, e :: es =>
    if e.length ≤ room then
      let (d, r) := fillFrame (room - e.length) es
      (e ++ d, r)
    else ([], e :: es)

/-- The next frame of a LAP_FEED (R357). -/
def lapNext (q : Stream) : Next :=
  if q.queue.isEmpty then (none, q)
  else
    let (d, r) := fillFrame 65528 q.queue
    (some (0, d), { q with queue := r })

/-- The next frame of a LEDGER_EXPORT: its chunks, and the commit frame with END (R351). -/
def exportNext (q : Stream) : Next :=
  match q.queue with
  | [] => (none, q)
  | [d] => (some (sEnd, d), { q with queue := [] })
  | d :: r => (some (0, d), { q with queue := r })

/-- What an outbound stream sends next. -/
def State.nextUnit (s : State) (q : Stream) : Next :=
  match q.kind with
  | 1 => s.histNext q
  | 2 => s.traceNext q
  | 3 => s.eventNext q
  | 4 => lapNext q
  | 5 => exportNext q
  | _ => (none, q)

/-! ### Where a stream starts -/

/-- A stream of a kind as it opens: the oldest block, event or sample it is to send, and for a LAP_FEED the instant from which it
counts laps. -/
def State.startStream (s : State) (kind num credit : Nat) (p : Bytes) : Stream :=
  let q : Stream := ⟨num, kind, credit, 0, p, 0, 0, 0, 0, [], [], []⟩
  match kind with
  | 1 =>
    let from_ := timeNs (field p 0 10)
    let next := (s.hist.lapOpen.map (·.seq)).getD s.hist.lapSeq
    let found := (s.hist.lapRing.reverse.find? fun b => decide (from_ ≤ b.last)).map (·.seq)
    { q with cursor := found.getD next, aux := b2n found.isSome }
  | 2 =>
    let xs := s.traceSource (field p 0 1) (field p 1 1)
    { q with cursor := (xs.head?.map (·.index)).getD 0, part := (xs.getLast?.map fun x => x.index + 1).getD 0 }
  | 3 =>
    let from_ := field p 0 10
    let old := if from_ = timeNA then none else s.hist.events.find? fun e => decide (timeNs from_ ≤ e.1.time)
    { q with cursor := (old.map (·.1.seq)).getD s.hist.evSeq }
  | 4 => { q with upto := s.plain }
  | _ => q

end Sys2Proof.Machine
end

