-- ==== Sys2Proof/Machine/Streams.lean ====
section
/-! DEFINITION. Streams: opening, credit, and frames in both directions (R163 to R167). -/

namespace Sys2Proof.Machine

open Sys2Proof.Obj

/-- A stream kind is inbound (Table 5.8). -/
def inbound (kind : Nat) : Bool := decide (6 ≤ kind)

/-- The lowest class of a stream kind. -/
def kindClass (kind : Nat) : Nat := if kind ≤ 4 then 1 else if kind ≤ 6 then 2 else 3

/-- Bytes of parameters of a kind; none for a kind outside Table 5.8. -/
def paramLen (kind : Nat) : Option Nat :=
  match kind with
  | 1 => some 24
  | 2 => some 4
  | 3 => some 16
  | 4 => some 4
  | 5 => some 0
  | 6 => some 0
  | 7 => some 256
  | 8 => some 256
  | 9 => some 8
  | _ => none

/-- Frames that the staging region still has room for beside what is staged and granted. -/
def State.stagingFree (s : State) : Nat :=
  let qs := (s.mbx.sess.flatMap fun (x : Sess) => x.streams.filter fun q => inbound q.kind) ++ s.mbx.inbox.map (·.2)
  let used := (qs.map fun q => q.body.length + sumL (q.queue.map List.length) + q.credit * 65528).foldl (· + ·) 0
  (268435456 - used) / 65528

/-- The lowest free stream number of a session, 1 to 4: DESIGN CHOICE (log 43), R163 names no order. -/
def freeStream (x : Sess) : Option Nat := [1, 2, 3, 4].find? fun n => !(x.streams.any fun q => q.num == n)

/-- The refusals of a kind's parameters, in the order of R148 (R263, R265, R269, R350, R353, R357, R512, R526). -/
def State.kindRefusals (s : State) (kind : Nat) (p : Bytes) : List (Bool × Nat × Bytes) :=
  match kind with
  | 1 => [(timeBad (field p 0 10), refOff stRange 4), (timeBad (field p 10 10), refOff stRange 14)]
  | 2 => [(!s.hasChan (field p 0 1), stAbsent, []), (decide (3 < field p 1 1), refOff stRange 5)]
  | 3 => [(timeBad (field p 0 10), refOff stRange 4)]
  | 4 => [
    ((List.range 8).any fun n => bitOf (field p 0 1) n && !s.hasStr n, stAbsent, []),
    (decide (1 < field p 1 1), refOff stRange 5),
    (decide (field p 2 2 = 0) || decide (8000 < field p 2 2), refOff stRange 6)]
  | 5 => [(decide (s.rd BootStatus.LEDGER_STATE ≠ 2), refCond 0x0A01)]
  | 6 => [(decide (s.rd BootStatus.LEDGER_STATE ≠ 0), refCond 0x0A02), (s.inHoldup, refCond 0x0A03)]
  | 7 => [(s.updateBusy, refCond 0x1203)]
  | 9 => [(decide (field p 0 2 ≠ s.rd ConfigFormat.FORMAT_RUNNING), refCond 0x1208)]
  | _ => []

/-- The check code of an upload's header, 0 for a kind without one. -/
def State.headerCode (s : State) (kind : Nat) (p : Bytes) : Nat :=
  if kind = 7 then s.imageCheck 1 p else if kind = 8 then s.imageCheck 2 p else 0

/-- A stream is opened: what it starts, beside itself. -/
def State.openKind (s : State) (kind : Nat) : State :=
  match kind with
  | 5 => (s.wr LedgerStatus.EXPORT_EPOCH 0 (nextEpoch (s.rd LedgerStatus.EXPORT_EPOCH))).wr LedgerStatus.EXPORT_STATE 0 1
  | 6 => s.wr LedgerStatus.RESTORE_RESULT 0 1
  | 9 => (s.wr ConfigFormat.UPLOAD_RESULT 0 1).wrB ConfigFormat.UPLOAD_ACTIVE 0 true
  | _ => s

/-- OPEN_STREAM (R163). -/
def execOpenStream (t : Nat) (r : Req) (p : Bytes) (s : State) : Host.Outcome State Fault Refusal :=
  let kind := field p 0 1
  let par := p.drop 4
  let lenOk := decide (4 ≤ p.length) && decide (p.length ≤ 260) && (match paramLen kind with
    | some n => decide (par.length = n)
    | none => true)
  .next (s.serve t r 0x0020 lenOk 1 fun _ x s =>
    let known := (paramLen kind).isSome
    let code := s.headerCode kind par
    let debug := decide (s.security = 3) || decide (s.security = 4)
    let refs := [
      (known && decide (x.cls < kindClass kind), stClass, []),
      (known && decide (7 ≤ kind) && debug, stState, []),
      (!known, refOff stRange 0)] ++ s.kindRefusals kind par ++ [
      (decide (5 ≤ kind) && (s.holder kind).isSome, stBusy, []),
      ((freeStream x).isNone, stBusy, []),
      (decide (code ≠ 0), stImage, [code])]
    let s := match firstRef refs with
      | some (st, _) => if st = stImage then s.wr UpdateStatus.LAST_CHECK 0 code else s
      | none => s
    guarded refs s fun s =>
      let n := (freeStream x).getD 1
      let credit := if inbound kind then min (Config.initialCredit kind) (min 65535 s.stagingFree) else 0
      let s := (s.openKind kind)
      let q := s.startStream kind n credit par
      let s := s.modSess x.num fun y => { y with streams := y.streams ++ [q] }
      (s, .now stOk ([n] ++ if inbound kind then toLE 2 credit else [])))

/-- The stream a session has open under a number. -/
def Sess.stream? (x : Sess) (n : Nat) : Option Stream := x.streams.find? fun q => q.num == n

/-- CLOSE_STREAM closes an outbound stream and aborts an inbound one (R167). -/
def execCloseStream (t : Nat) (r : Req) (p : Bytes) (s : State) : Host.Outcome State Fault Refusal :=
  .next (s.serve t r 0x0021 (decide (p.length = 4)) 1 fun _ x s =>
    match x.stream? (field p 0 1) with
    | none => (s, .now stStream [field p 0 1])
    | some q => (s.closeStream x.num q, .now stOk []))

/-- A stream of a session is changed. -/
def State.modStream (s : State) (sess num : Nat) (f : Stream → Stream) : State :=
  s.modSess sess fun x => { x with streams := x.streams.map fun q => if q.num = num then f q else q }

/-- GRANT_CREDIT raises the credit of an outbound stream, to 1,024 frames at most (R165). -/
def execGrantCredit (t : Nat) (r : Req) (p : Bytes) (s : State) : Host.Outcome State Fault Refusal :=
  .next (s.serve t r 0x0022 (decide (p.length = 4)) 1 fun _ x s =>
    let n := field p 0 1
    match x.stream? n with
    | none => (s, .now stStream [n])
    | some q =>
      if inbound q.kind then (s, .now stStream [n])
      else
        let c := q.credit + field p 2 2
        let s := s.modStream x.num n fun q => { q with credit := min 1024 c }
        if 1024 < c then (s, .now stStream [n]) else (s, .now stOk []))

/-- A STREAM_DATA frame arrives on a stream: it is staged, it ends the stream, or it aborts it. DESIGN CHOICE (log 24): R164 does
not say what an inbound BLOCK_SEQ out of sequence means, and the frame is taken like any other. -/
def State.takeFrame (s : State) (x : Sess) (p : Bytes) : State :=
  match x.stream? (field p 0 1) with
  | none => s.bump MailboxStatus.STREAM_DATA_DISCARDED
  | some q =>
    if !inbound q.kind then s.bump MailboxStatus.STREAM_DATA_DISCARDED
    else if q.credit = 0 then (s.streamFrame x q 2 []).closeStream x.num q
    else if bitOf (field p 1 1) 1 then s.closeStream x.num q
    else
      let d := p.drop 8
      let q := { q with credit := q.credit - 1, frames := q.frames + 1
                        queue := if q.kind = 6 then q.queue ++ [d] else q.queue
                        body := if q.kind = 6 then q.body else q.body ++ d }
      if bitOf (field p 1 1) 0 then
        let s := s.modSess x.num fun y => { y with streams := y.streams.filter fun z => decide (z.num ≠ q.num) }
        { s with mbx := { s.mbx with inbox := s.mbx.inbox ++ [(x.num, { q with credit := 0 })] } }
      else s.modStream x.num q.num fun _ => q

/-- A STREAM_DATA frame from the host, which is never answered where its header fits its session (R142, R164, R165). -/
def execStreamDataIn (t : Nat) (r : Req) (p : Bytes) (s : State) : Host.Outcome State Fault Refusal :=
  let s := s.at t
  .next (if p.length < 8 then s.badFrame r.conn
  else if !s.mailboxUp then s
  else
    match s.conn? r.conn with
    | none => s
    | some c =>
      if !c.up then s
      else if r.ver ≠ 1 then s.refuseFrame r 0x0023 stVersion [1]
      else
        match s.mbx.sess.find? fun x => x.conn == r.conn with
        | none => s.answerRaw r 0x0023 stSession []
        | some x =>
          if x.num ≠ r.sess then s.refuseFrame r 0x0023 stSession []
          else if 8 ≤ x.outst.length then s
          else
            let s := s.modSess x.num fun y =>
              { y with lastFrame := s.now, txn := y.txn.map fun q => { q with lastFrame := s.now } }
            s.takeFrame x p)

/-- Staging space frees, and the module grants an inbound stream credit for as many frames (R165). -/
def execStreamCredit (t sess num frames : Nat) (s : State) : Host.Outcome State Fault Refusal :=
  let s := s.at t
  .next (match (s.sess? sess).bind fun x => x.stream? num with
  | none => s
  | some q =>
    let n := min frames (min (65535 - q.credit) s.stagingFree)
    if s.mailboxUp && inbound q.kind && !s.inHoldup && decide (n ≠ 0) then
      (s.modStream sess num fun q => { q with credit := q.credit + n }).unsolicited sess 0x00F1 ([num, 0] ++ toLE 2 n)
    else s)

/-- A frame of an outbound stream has been sent; with END the stream closes. -/
def State.sentFrame (s : State) (sess : Nat) (q : Stream) (ended : Bool) : State :=
  if ended then
    let s := s.modSess sess fun x => { x with streams := x.streams.filter fun r => decide (r.num ≠ q.num) }
    if q.kind = 5 then s.exportSent else s
  else s.modStream sess q.num fun _ => { q with credit := q.credit - 1, frames := q.frames + 1 }

/-- The outbound streams of NET B, which together carry at most 400 Mbit/s while PERIOD of SAFE_TELEGRAM_CONFIG is 2 ms, are
ready for another frame: what they have sent has had its time at that rate (R551). -/
def State.netBReady (s : State) (port : Nat) : Bool :=
  decide (port ≠ 2) || decide (s.rd SafeTelegramConfig.PERIOD ≠ 2) || decide (s.mbx.netBFree ≤ s.now)

/-- Stream data leaves on a port: on NET B 400 Mbit/s are 2.5 ns a bit (R551), of the data alone (DEDUCED, log 45). -/
def State.netBSent (s : State) (port bytes : Nat) : State :=
  if port = 2 then { s with mbx := { s.mbx with netBFree := max s.now s.mbx.netBFree + 20 * bytes } } else s

/-- An outbound stream sends its next frame: it holds credit, and fewer frames than its allowance, `ahead`, are queued ahead of the
network (R165, R166, R551). -/
def execStreamDataOut (t sess num ahead : Nat) (s : State) : Host.Outcome State Fault Refusal :=
  let s := s.at t
  .next (match s.sess? sess with
  | none => s
  | some x =>
    match x.stream? num with
    | none => s
    | some q =>
      let port := ((s.conn? x.conn).map (·.port)).getD 0
      if !s.mailboxUp || s.inHoldup || decide (q.credit = 0) || decide (s.allowance q.kind ≤ ahead) ||
          !s.netBReady port then s
      else
        match s.nextUnit q with
        | (none, q') => s.modStream sess num fun _ => q'
        | (some (fl, d), q') =>
          let s := (s.streamFrame x q fl d).netBSent port d.length
          let lost := if q.kind = 1 then s.gapBlocks q d else 0
          let s := if lost = 0 then s
            else (s.bump HistoryStatus.READ_GAPS).bump HistoryStatus.BLOCKS_LOST_UNREAD 0 lost
          let s := s.sentFrame sess q' (decide (fl = sEnd))
          if q.kind = 1 then s.markSending else s)

end Sys2Proof.Machine
end

