-- ==== Sys2Proof/Machine/Dram.lean ====
section
/-! DEFINITION. Uncorrectable errors of the LPDDR5 array (R34). -/

namespace Sys2Proof.Machine

open Sys2Proof.Obj

/-- A block of a ring is marked damaged: the lap ring (1) or the event ring (2). -/
def State.damageBlock (s : State) (ring seq : Nat) : State :=
  let h := s.hist
  let mark (b : Blk) : Blk := if b.seq = seq then { b with damaged := true } else b
  let h := if ring = 1 then { h with lapRing := h.lapRing.map mark, lapOpen := h.lapOpen.map mark }
    else if seq = h.evBlk ∧ h.evOpen.isEmpty = false then { h with evDamaged := h.evOpen.length }
    else { h with evRing := h.evRing.map fun b => if b.seq = seq then { b with damaged := b.events.length } else b }
  (({ s with hist := h }).histRegs).record 0x0701 3 (toLE 8 seq ++ [ring])

/-- A sample of a trace buffer is marked invalid. -/
def State.spoilSample (s : State) (ch index : Nat) : State :=
  let tr := s.trace ch
  let all := tr.rolling ++ tr.frozen.flatMap (·.samples) ++ (tr.pending.map (·.samples)).getD []
  match all.find? fun x => x.index % 2 ^ 32 == index with
  | some x => s.modTrace ch fun tr => { tr with invalid := x.time :: tr.invalid }
  | none => s

/-- Transfers of images and of configuration in progress are refused. -/
def State.refuseTransfers (s : State) : State :=
  let busy := (s.holder 9).isSome
  let s := s.abortStreams fun q => decide (7 ≤ q.kind)
  let s := { s with mbx := { s.mbx with inbox := s.mbx.inbox.filter fun x => decide (x.2.kind < 7) } }
  if busy then (s.wr ConfigFormat.UPLOAD_RESULT 0 6).wrB ConfigFormat.UPLOAD_ACTIVE 0 false else s

/-- An uncorrectable error is found in a region of Table 1.3: 1 firmware runtime, 2 state, 3 staging, 4 trace buffers at sample
`b` of channel `a`, 5 history store at block `b` of ring `a`. -/
def execDramUncorrectableError (t region a b : Nat) (s : State) : Host.Outcome State Fault Refusal :=
  let s := s.at t
  .next (if s.running = false ∨ region = 0 ∨ 5 < region then s
  else
    let s := (s.bump ModuleHealth.DRAM_UE_COUNT).wr ModuleHealth.DRAM_UE_REGION 0 region
    let s := if 3 ≤ region then s.wrB ModuleHealth.DRAM_UE_SEEN 0 true else s
    if region ≤ 2 then s.restart 3 region
    else if region = 3 then s.refuseTransfers
    else if region = 4 then s.spoilSample a b
    else s.damageBlock a b)

end Sys2Proof.Machine
end

