-- ==== Sys2Proof/Machine/RuntimeStart.lean ====
section
/-! DEFINITION. Step 8 of Table 4.1, where the runtime starts, and step 13 (R112, R113, R123, R131). -/

namespace Sys2Proof.Machine

open Sys2Proof.Obj

/-- The run is recorded: RUN_STARTED first, then the changes of power state since the start began, each with its own time: the
first is the one from OFF (R99, R131). -/
def State.recordStart (s : State) : State :=
  let c := s.boot.cause
  let sev := if c = 1 ∨ c = 5 ∨ c = 7 ∨ c = 8 then 1 else 2
  let s := s.record 0x0301 sev ([c, s.rd BootStatus.BOOT_SLOT, s.rd BootStatus.BOOT_FALLBACK, 0] ++ toLE 4 s.boot.detail
    ++ toLE 4 s.nv.bootCount)
  let es := s.boot.changes
  let s := { s with boot := { s.boot with changes := [] } }
  if es.isEmpty then s else (es.foldl (fun s e => s.putLater e) s).attention 1

/-- Every string die starts: the front-end link, the configured lap rate, and a full enumeration from both ports. -/
def State.stringsStart (s : State) : State :=
  s.eachStr fun n s => (((s.startFe n).rateRefresh n).startEnum n true true)

/-- The manager die starts its engines: PTP domains, CAN channels, pacer outputs, captures and control channels. -/
def State.enginesStart (s : State) : State :=
  let s := ((s.domStart 1).domStart 2).canBegin
  let s := (List.range 4).foldl (fun (s : State) k => s.pacerRule k) s
  let s := (List.range 2).foldl (fun (s : State) k => s.captureWritten k) s
  (((List.range 32).filter fun c => s.hasChan c && s.rdB ChannelConfig.ENABLE c).foldl (fun (s : State) c => s.chanStart c) s).loadRegs

/-- Role discovery begins with ROLE_LISTEN (R123), under BLOCK_CONFIG as it stands. -/
def State.rolesStart (s : State) : State :=
  let s := { s with blk := { s.blk with cfg := s.objBytes BlockConfig.desc 0, peerPort := s.rd BlockConfig.PEER_UDP_PORT } }
  (s.discover (msec (100 * s.rd StartConfig.ROLE_LISTEN))).roleCheck

/-- Step 8 of the start: the phase, the time of the start and the capacity of the lap ring. -/
def State.runtimeRegs (s : State) : State :=
  let s := (s.setPhase 8).stamp BootStatus.START_TIME
  let s := { s with boot := { s.boot with enumDone := List.replicate 8 false } }
  s.wr HistoryStatus.LAP_RING_BLOCKS 0 s.lapRingBlocks

/-- The engines of the runtime, with the links of NET A and NET B as they come up. Steps 10 and 13, which wait for no replay, may be
complete already (R112). -/
def State.runtimeRun (s : State) (netA netB : Bool) : State :=
  let s := { s with hist := { s.hist with run := true } }
  let s := (s.wrB MailboxStatus.NET_A_LINK 0 netA).wrB MailboxStatus.NET_B_LINK 0 netB
  let s := s.recordStart.trustRegs.stringsStart.enginesStart.rolesStart.refreshAll.portStart
  let s := s.reachPhase 9
  let s := if s.rdB PowerStatus.HOLDUP_READY then s.reachPhase 10 else s
  if s.rdB HistoryStatus.INIT_PENDING then s else s.reachPhase 13

/-- The runtime starts on every die at step 8, with the links of NET A and NET B as they come up. In DECOMMISSIONED only the
two-wire port answers (Table 21.5). -/
def execRuntimeStart (t : Nat) (netA netB : Bool) (s : State) : Host.Outcome State Fault Refusal :=
  let s := s.at t
  .next (if s.boot.phase ≠ 7 ∨ s.boot.halt = true ∨ s.power.powered = false then s
  else
    let s := s.runtimeRegs
    if s.security = 5 then s.portStart else s.runtimeRun netA netB)

/-! ### Reading the switches again (R79, R80) -/

/-- The switches are read again: SWITCH_CHANGED follows, and a reading that differs from the one before it is recorded (R80). After
an invalid reading at start the first valid one is applied, and SET_THRESHOLDS follows the profile (R79, R232). -/
def State.readSwitches (s : State) (new : List Nat) : State :=
  let differs := decide (new ≠ s.panel.sw)
  let s := ({ s with panel := { s.panel with sw := new } }).switchRegs
  let s := if s.panel.retry && s.switchesValid then
      let s := ({ s with panel := { s.panel with retry := false } }).applySwitches
      if 8 ≤ s.boot.phase then (s.eachStr fun n s => s.thresholdsAll n).refreshAll else s
    else s
  if s.running then
    let changed := decide (new ≠ s.panel.applied) || !s.switchesValid
    let s := s.wrB ModuleTerminals.SWITCH_CHANGED 0 changed
    if differs then s.record 0x0103 2 (s.switchBytes ++ [b2n changed]) else s
  else s

/-- The 1 s reading of the switches while the module runs (R80). Otherwise the positions named are those that the reading of the
next step 6 finds (R79): a row of a start carries a reading of its own only where the start begins with it. -/
def execSwitchReading (t profile block mask addr : Nat) (s : State) : Host.Outcome State Fault Refusal :=
  let s := s.at t
  .next (if s.running then s.readSwitches [profile, block, mask, addr]
  else if s.boot.halt = true ∨ s.boot.phase < 6 then
    { s with panel := { s.panel with sw := [profile, block, mask, addr] } }
  else s)

/-- After an invalid reading at start the switches are read again every 1 s until both rotary switches read valid; that
reading is applied, and SWITCH_FAULT stays (R79). -/
def execSwitchFaultRetry (t profile block mask addr : Nat) (s : State) : Host.Outcome State Fault Refusal :=
  let s := s.at t
  .next (if s.panel.retry = true ∧ 6 ≤ s.boot.phase then s.readSwitches [profile, block, mask, addr] else s)

/-- The ECC initialisation of the trace buffers and the history store is complete (step 13). -/
def execHistoryInitComplete (t : Nat) (s : State) : Host.Outcome State Fault Refusal :=
  let s := s.at t
  .next (if s.power.powered = true ∧ s.boot.halt = false ∧ 4 ≤ s.boot.phase then
    let s := s.wrB HistoryStatus.INIT_PENDING 0 false
    if 9 ≤ s.boot.phase then s.reachPhase 13 else s
  else s)

end Sys2Proof.Machine
end

