-- ==== Sys2Proof/Machine/WriteOps.lean ====
section
/-! DEFINITION. Reading and writing a byte range of a configuration object: the request prefix, the fields a write touches, and
the checks made on arrival (R153 to R159). -/

namespace Sys2Proof.Machine

open Sys2Proof.Obj

/-! ### Instances (R20, R158) -/

/-- An instance is present: a string, die or channel of the variant, a node number in use. Before a string has an epoch no number
is in use, and R154 answers. -/
def State.instPresent (s : State) (k : InstKind) (i : Nat) : Bool :=
  let r := s.instRange k
  decide (r.1 ≤ i) && decide (i ≤ r.2) && match k with
    | .stringNode => s.hasStr (i / 64) && (decide (s.epochNow (i / 64) = 0) || (s.nodeList (i / 64)).contains (i % 64))
    | _ => true

/-! ### Byte ranges (R153) -/

/-- No field straddles byte offset `o`. -/
def ObjDesc.clean (d : ObjDesc) (o : Nat) : Bool :=
  d.places.all fun (f, _, p) => decide (8 * o ≤ p) || decide (p + f.width ≤ 8 * o)

/-- A range lies in the object and begins and ends with whole fields. -/
def ObjDesc.rangeOk (d : ObjDesc) (off cnt : Nat) : Bool :=
  decide (0 < cnt) && decide (off + cnt ≤ d.size) && d.clean off && d.clean (off + cnt)

/-! ### Writes (R156) -/

/-- The write a PUT_OBJ payload asks for. -/
def writeOf (p : Bytes) : Write :=
  let n := field p 6 2
  ⟨field p 0 2, field p 2 2, field p 4 2, field p 8 4, slice p 12 n, slice p (12 + n) n⟩

/-- The length of a PUT_OBJ payload fits its COUNT. -/
def putLenOk (p : Bytes) : Bool := decide (p.length = 12 + 2 * field p 6 2)

/-- A PUT_OBJ payload that sets `width` bits from bit `pos` of an object to `v`. -/
def putBits (obj inst epoch pos width v : Nat) : Bytes :=
  let o := pos / 8
  let n := (pos % 8 + width + 7) / 8
  toLE 2 obj ++ toLE 2 inst ++ toLE 2 o ++ toLE 2 n ++ toLE 4 epoch ++ toLE n (v % 2 ^ width * 2 ^ (pos % 8))
    ++ toLE n ((2 ^ width - 1) * 2 ^ (pos % 8))

/-- A PUT_OBJ payload that writes a field of an instance of a module-wide, string, channel or other object that is not
epoch-bound. -/
def putField (f : Fld) (inst v : Nat) : Bytes := putBits f.obj inst 0 f.pos f.width v

/-- The lowest byte among those of the touched copies a check refuses. -/
def firstAt (bad : Touch → Bool) (l : List Touch) : Option Nat :=
  (l.filter bad).foldl (fun b x => match b with
    | none => some x.at_
    | some k => some (min k x.at_)) none

/-- ST_ACCESS: an RO field, or an RWL field outside SERVICE (R156). -/
def State.accessBad (s : State) (x : Touch) : Bool :=
  match x.f.access with
  | .ro => true
  | .rwl => decide (s.security ≠ 2)
  | .wol => decide (s.security ≠ 2)
  | _ => false

/-- ST_RANGE of one field: a reserved field, a value its Meaning does not permit (R554), a time that is none (R553), a threshold
that is no multiple of 10 (Table 13.11). -/
def State.rangeBad (s : State) (inst : Nat) (x : Touch) : Bool :=
  match x.f.access with
  | .rsv => true
  | .rw | .rwl =>
    let v := s.merged inst x
    !x.f.permits v || (x.f.isTime && timeBad v) ||
      ((decide (x.f = IntegratorProfile.CMP_OV_THRESH) || decide (x.f = IntegratorProfile.CMP_UV_THRESH)) && decide (v % 10 ≠ 0))
  | _ => false

/-- A refusal with the offset a check names, where it names one. -/
def refAt (st : Nat) (o : Option Nat) : Bool × Nat × Bytes := (o.isSome, refOff st (o.getD 0))

/-- The checks of a request's prefix up to the epoch: object and instance present, and the string's current epoch (R148, R154,
R169). -/
def State.prefixChecks (s : State) (d : ObjDesc) (inst epoch : Nat) : List (Bool × Nat × Bytes) :=
  let now := s.epochNow (strOf d.inst inst)
  [(!s.instPresent d.inst inst, stAbsent, []),
   (d.epochBound && (decide (epoch ≠ now) || decide (now = 0)), stEpochStale, toLE 4 now)]

/-- The first refusal of a write on arrival, against the values it would be merged with in `s` (R148, R153 to R157, R523). -/
def State.writeRef (s : State) (w : Write) : Option (Nat × Bytes) :=
  match find w.obj with
  | none => some (stAbsent, [])
  | some d =>
    let ts := w.touches d
    firstRef (s.prefixChecks d w.inst w.epoch ++ [
      refAt stAccess (firstAt s.accessBad ts),
      (!d.rangeOk w.off w.data.length || (!d.epochBound && decide (w.epoch ≠ 0)), refOff stRange 0xFFFF),
      refAt stRange (firstAt (s.rangeBad w.inst) ts),
      (s.inHoldup && ts.any Touch.stores, refCond 0x0207),
      (s.upd.convert && ts.any Touch.stores, refCond 0x1203)])

/-- The registers as they will stand when everything committed has taken effect: what waits for a lap, and what waits for its
journal record. -/
def State.expected (s : State) : State :=
  s.mbx.journal.foldl (fun a j => (a.putCells j.cells).runWrites j.writes |>.1) s.withWait

end Sys2Proof.Machine
end

