-- ==== Sys2Proof/Machine/WriteChecks.lean ====
section
/-! DEFINITION. The checks of a commit that relate several fields or objects, and the conditions of the module's state on a write
(R160 and the rules of the single objects). -/

namespace Sys2Proof.Machine

open Sys2Proof.Obj

/-- A refusal of a commit, where there is one. -/
abbrev Ref := Option (Nat × Bytes)

/-- ST_RANGE at an offset where a check fails. -/
def rangeIf (bad : Bool) (off : Nat) : Ref := if bad then some (refOff stRange off) else none

/-- ST_CONDITION where a condition fails. -/
def condIf (bad : Bool) (code : Nat) (str : Nat := 0) : Ref := if bad then some (refCond code str) else none

/-- ST_RANGE at the first of a list of places that fails. -/
def rangeFind (l : List Nat) (bad : Nat → Bool) (off : Nat → Nat) : Ref := (l.find? bad).map fun k => refOff stRange (off k)

/-! ### Single objects -/

/-- The UDP and TCP ports differ as Tables 13.13, 16.9 and 18.6 ask; a clash is named in the object of lowest ID (R160). -/
def State.portRefs (c : State) : List Ref :=
  let mb := [c.rd NetConfig.MAILBOX_PORT 1, c.rd NetConfig.MAILBOX_PORT 2]
  let safe := c.rd SafeTelegramConfig.SAFE_UDP_PORT
  let peer := c.rd BlockConfig.PEER_UDP_PORT
  let fb := [c.rd CanChannel.FALLBACK_UDP_PORT 1, c.rd CanChannel.FALLBACK_UDP_PORT 2]
  [rangeIf (mb.contains safe || mb.contains peer || fb.any fun p => mb.contains p) 0x0C,
   rangeIf (decide (safe = peer) || fb.contains safe) 0x02,
   rangeIf (fb.contains peer) 0x0E]

/-- Two ring slots with the same resolved STACK_SLOT (R251). -/
def State.slotClash (c : State) (n : Nat) : Ref :=
  rangeFind (List.range 40) (fun k => (List.range 40).any fun j => decide (k < j) && decide (c.stackSlot n k = c.stackSlot n j))
    fun k => NodeConfig.STACK_SLOT.byteAt k

/-- A chemistry table as it would stand (R300): ranges first, then the relations. -/
def State.tableRefs (c : State) (i : Nat) : List Ref :=
  let t (k : Nat) : Int := c.rdI ChemistryTable.T_POINT i k
  let soc (k : Nat) : Nat := c.rd ChemistryTable.SOC_POINT i k
  let ocv (k : Nat) : Nat := c.rd ChemistryTable.OCV i k
  let tau (f : Fld) (k : Nat) : Bool := decide (c.rd f i k < 1000) || decide (4000000000 < c.rd f i k)
  let cap := c.rd ChemistryTable.RATED_CAP i
  [rangeIf (decide (cap = 0) || decide (2000000 < cap)) (ChemistryTable.RATED_CAP.byteAt 0),
   rangeFind (List.range 8) (fun k => decide (t k < -4000) || decide (8500 < t k)) ChemistryTable.T_POINT.byteAt,
   rangeIf (decide (soc 0 ≠ 0)) (ChemistryTable.SOC_POINT.byteAt 0),
   rangeIf (decide (soc 63 ≠ 10000)) (ChemistryTable.SOC_POINT.byteAt 63),
   rangeFind (List.range 512) (fun k => decide (51000 < ocv k)) ChemistryTable.OCV.byteAt]
  ++ ((List.range 8).flatMap fun k =>
    [rangeIf (tau ChemistryTable.TAU_FAST k) (ChemistryTable.TAU_FAST.byteAt k),
     rangeIf (tau ChemistryTable.TAU_SLOW k) (ChemistryTable.TAU_SLOW.byteAt k),
     rangeIf (decide (50000 < c.rd ChemistryTable.ETA_LOSS i k)) (ChemistryTable.ETA_LOSS.byteAt k)])
  ++ [rangeFind (List.range 7) (fun k => decide (t (k + 1) ≤ t k)) ChemistryTable.T_POINT.byteAt,
      rangeFind (List.range 63) (fun k => decide (soc (k + 1) ≤ soc k)) ChemistryTable.SOC_POINT.byteAt,
      rangeFind (List.range 511) (fun k => decide (k % 64 ≠ 63) && decide (ocv (k + 1) < ocv k)) ChemistryTable.OCV.byteAt,
      rangeIf (decide (crc32 ((c.objBytes ChemistryTable.desc i).take 0x5A8) ≠ c.rd ChemistryTable.TABLE_CRC i))
        (ChemistryTable.TABLE_CRC.byteAt 0)]

/-- The sentinel positions of a string as they would stand (R326): each assigned in the current epoch, none twice, and no more
than 4 to a node. -/
def State.sentinelRefs (c : State) (n : Nat) : List Ref :=
  let at_ (e : Nat) : Nat := c.rd SentinelConfig.POSITION n e
  let ps := (c.str n).est.pos
  let used (e : Nat) : Bool := decide (at_ e ≠ 0xFFFF)
  let node (e : Nat) : Nat := (ps[at_ e]?.map (·.serial)).getD 0
  let es := (List.range 32).filter used
  [rangeFind es (fun e => decide (ps.length ≤ at_ e)) SentinelConfig.POSITION.byteAt,
   rangeFind es (fun e => es.any fun d => decide (e < d) && decide (at_ d = at_ e)) SentinelConfig.POSITION.byteAt,
   rangeFind es (fun e => decide (4 < (es.filter fun d => decide (node d = node e)).length)) SentinelConfig.POSITION.byteAt]

/-- The ranges of the integrator profile as it would stand, in ascending offset (R371), the reserved fields that writes touch
among them. -/
def State.profileRanges (c : State) (ws : List Write) : Ref :=
  let v (f : Fld) : Nat := c.rd f 0
  let bad := (IntegratorProfile.flds.filter fun f => f.access == .rwl && (!f.permits (v f) ||
      ((decide (f = IntegratorProfile.CMP_OV_THRESH) || decide (f = IntegratorProfile.CMP_UV_THRESH)) && decide (v f % 10 ≠ 0)) ||
      (decide (f = IntegratorProfile.CELL_UT_TRIP) &&
        decide (c.rdI IntegratorProfile.CELL_OT_TRIP 0 ≤ c.rdI IntegratorProfile.CELL_UT_TRIP 0)))).map (·.byteAt 0)
  let ps := ws.filter fun w => decide (w.obj = 0x0B02)
  let rsv := ps.flatMap fun w => (w.touched.filter fun x => x.f.access == .rsv).map (·.at_)
  if ps.isEmpty then none
  else ((bad ++ rsv).foldl (fun (b : Option Nat) k => some (b.elim k (min k))) none).map fun k => refOff stRange k

/-- The relations of the integrator profile as it would stand, in the order written, and the CRC (R371). -/
def State.profileRefs (c : State) : List Ref :=
  let v (f : Fld) : Nat := c.rd f 0
  let rel (ok : Bool) (f : Fld) : Ref := rangeIf (!ok) (f.byteAt 0)
  [rel (decide (v IntegratorProfile.CMP_UV_THRESH < v IntegratorProfile.CELL_UV_TRIP)) IntegratorProfile.CELL_UV_TRIP,
      rel (decide (v IntegratorProfile.CELL_UV_TRIP ≤ v IntegratorProfile.V_LOW)) IntegratorProfile.CELL_UV_TRIP,
      rel (decide (v IntegratorProfile.V_LOW < v IntegratorProfile.V_HIGH)) IntegratorProfile.V_HIGH,
      rel (decide (v IntegratorProfile.V_HIGH ≤ v IntegratorProfile.CELL_OV_TRIP)) IntegratorProfile.CELL_OV_TRIP,
      rel (decide (v IntegratorProfile.CELL_OV_TRIP < v IntegratorProfile.CMP_OV_THRESH)) IntegratorProfile.CELL_OV_TRIP,
      rel (decide (v IntegratorProfile.CMP_UV_THRESH + v IntegratorProfile.CMP_UV_HYST < v IntegratorProfile.CELL_UV_TRIP))
        IntegratorProfile.CELL_UV_TRIP,
      rel (decide (v IntegratorProfile.CELL_OV_TRIP + v IntegratorProfile.CMP_OV_HYST < v IntegratorProfile.CMP_OV_THRESH))
        IntegratorProfile.CELL_OV_TRIP,
      rel (decide (v IntegratorProfile.CHARGE_LIMIT_PROF ≤ v IntegratorProfile.OC_TRIP_CHG)) IntegratorProfile.CHARGE_LIMIT_PROF,
      rel (decide (v IntegratorProfile.DISCHARGE_LIMIT_PROF ≤ v IntegratorProfile.OC_TRIP_DIS))
        IntegratorProfile.DISCHARGE_LIMIT_PROF,
      rel (decide (v IntegratorProfile.ISO_TRIP ≤ v IntegratorProfile.ISO_WARN)) IntegratorProfile.ISO_WARN,
      rel (decide (v IntegratorProfile.PROFILE_CRC = profileCrc (c.objBytes IntegratorProfile.desc 0)))
        IntegratorProfile.PROFILE_CRC]

/-- THERMAL_CONFIG and HVAC_CONFIG in their order (R408), and the timing of BLOCK_CONFIG (R440, Table 16.9). -/
def State.thermalRefs (c : State) : List Ref :=
  let v (f : Fld) : Int := c.rdI f 0
  [rangeIf (decide (v ThermalConfig.DERATE_COLD_START ≤ v ThermalConfig.DERATE_COLD_END)) 0x04,
   rangeIf (decide (v ThermalConfig.DERATE_HOT_START ≤ v ThermalConfig.DERATE_COLD_START)) 0x00,
   rangeIf (decide (v ThermalConfig.DERATE_HOT_END ≤ v ThermalConfig.DERATE_HOT_START)) 0x00]

@[inherit_doc State.thermalRefs] def State.hvacRefs (c : State) : List Ref :=
  let v (f : Fld) : Int := c.rdI f 0
  [rangeIf (decide (v HvacConfig.HEAT_OFF ≤ v HvacConfig.HEAT_ON)) 0x0A,
   rangeIf (decide (v HvacConfig.COOL_OFF < v HvacConfig.HEAT_OFF)) 0x08,
   rangeIf (decide (v HvacConfig.COOL_ON ≤ v HvacConfig.COOL_OFF)) 0x06]

@[inherit_doc State.thermalRefs] def State.blockRefs (c : State) : List Ref :=
  let v (f : Fld) : Nat := c.rd f 0
  [rangeIf (decide (v BlockConfig.ALLOC_OFFSET < v BlockConfig.REPORT_OFFSET + 16 * v BlockConfig.SLOT_SPACING + 500)) 0x06,
   rangeIf (decide (v BlockConfig.APPLY_OFFSET < v BlockConfig.ALLOC_OFFSET + 2000)) 0x0A,
   rangeIf (decide (v BlockConfig.DISPATCH_PERIOD * 1000 ≤ v BlockConfig.APPLY_OFFSET)) 0x04,
   rangeIf (decide (v BlockConfig.DISPATCH_SOC_HIGH ≤ v BlockConfig.DISPATCH_SOC_LOW)) 0x16]

/-- A sequencer entry in use takes an input of Table 10.3 other than 0x0C (R280); an entry in use without an input is a relation of
USER_ENTRIES and INPUT_USER, named by the lower offset (R160). -/
def State.seqRefs (c : State) (n : Nat) : List Ref :=
  let x (k : Nat) : Nat := c.rd SequenceConfig.INPUT_USER n k
  [rangeFind (List.range 8) (fun k => decide (x k = 0x0C) || decide (0x0F < x k)) SequenceConfig.INPUT_USER.byteAt,
   rangeIf ((List.range (c.rd SequenceConfig.USER_ENTRIES n)).any fun k => decide (x k = 0)) (SequenceConfig.USER_ENTRIES.byteAt 0)]

/-- What a commit that touches an instance of an object must meet beyond its single fields. `c` holds the values as they would
stand, `s` is the module now. -/
def State.relations (c s : State) (obj i : Nat) : List Ref :=
  match obj with
  | 0x0106 => c.portRefs
  | 0x0501 => [rangeIf (decide (c.rd LapConfig.SPRINT_RATE i ≤ c.rd LapConfig.LAP_RATE i)) 0x00]
  | 0x0601 => [c.slotClash i]
  | 0x0703 => [rangeIf (decide (524288 < c.rd TraceConfig.PRE_SAMPLES i + c.rd TraceConfig.POST_SAMPLES i)) 0x00]
  | 0x0803 => c.seqRefs i
  | 0x0901 => c.tableRefs i
  | 0x0603 => [rangeIf (c.chanList.any fun k => decide (c.rd ChannelConfig.OUTPUT_KIND k = 4) &&
      decide (c.rd ChannelConfig.OUTPUT_STRING k = i) && decide (c.rd BalanceConfig.MAX_DURATION i * 1000 < c.rd ChannelConfig.PERIOD k))
      (BalanceConfig.MAX_DURATION.byteAt 0)]
  | 0x0903 => c.sentinelRefs i
  | 0x0B02 => c.profileRefs ++ [condIf (!s.allResting) 0x0B0D]
  | 0x0B03 => [rangeIf (decide (c.rd ContactorConfig.WELD_V i < c.rd ContactorConfig.PRECHARGE_DV i)) 0x08,
               condIf (decide (s.seqState i = seqClosing)) 0x0B0C i]
  | 0x0B04 => c.portRefs
  | 0x0C02 => c.thermalRefs
  | 0x0C03 => c.hvacRefs
  | 0x0D01 => [c.chanCheck i]
  | 0x0D02 => [c.chanCheck i]
  | 0x0E01 => c.portRefs ++ c.blockRefs
  | 0x0F02 => [c.domCheck]
  | 0x0F03 => [c.pacerCheck i]
  | 0x0F04 => [c.captureCheck i]
  | 0x1001 => c.portRefs ++ [c.canChanCheck i]
  | 0x1002 => [c.canObjCheck i]
  | 0x1101 => [c.i2cCheck]
  | 0x1302 => [rangeIf (c.rdB TrustList.ENABLED i && decide (c.rd TrustList.KIND i = 0)) 0x00,
               rangeIf (c.rdB TrustList.ENABLED i && decide (c.rd TrustList.CLASS i = 0)) 0x01]
  | _ => []

/-! ### Requests made by a write of 1, and values checked against the module (WO fields) -/

/-- The condition that a write's touch of a field sets on the module; `c` holds the values as they would stand. -/
def State.touchRef (c s : State) (i : Nat) (x : Touch) : Ref :=
  let one := decide (Nat.land x.data x.mask ≠ 0)
  let f := x.f
  if f = RingConfig.CLOSE_REQUEST ∧ one = true then
    if s.rd RingStatus.RING_STATE i ≠ 2 then some (refCond 0x0401 i)
    else condIf (!(s.jointCheck i).rdB RingStatus.JOINT_READY i) 0x0402 i
  else if f = LedgerStatus.ACK_EPOCH then
    rangeIf (decide (s.rd LedgerStatus.EXPORT_STATE ≠ 2) || decide (Nat.land x.data x.mask ≠ s.rd LedgerStatus.EXPORT_EPOCH))
      (f.byteAt 0)
  else if f = EstimationConfig.CHEMISTRY then
    condIf (!c.rdB ChemistryTable.TABLE_VALID (c.rd EstimationConfig.CHEMISTRY i)) 0x0901 i
  else if f = ChannelConfig.TAKE_OVER ∧ one = true then condIf (decide (s.chState i ≠ 3)) 0x0D05
  else if f = CanChannel.RECOVER ∧ one = true then condIf (decide (s.rd CanChannel.CHANNEL_STATE i ≠ canBusOff)) 0x1006
  else if f = CanObject.DATA ∨ (f = CanObject.TX_REQUEST ∧ one = true) then
    if decide (c.rd CanObject.DIRECTION i ≠ 2) || decide (c.rd CanObject.OWNER i ≠ 0) then some (refCond 0x1004)
    else condIf (decide (f = CanObject.TX_REQUEST) && !c.rdB CanChannel.CHANNEL_EN (i / 128)) 0x1005
  else if f = CanObject.ACK_COUNT then
    condIf (decide (Nat.land x.data x.mask ≠ s.rd CanObject.RX_COUNT i)) 0x1003
  else if f = UpdateStatus.ADVANCE_FUSES ∧ one = true then condIf s.updateBusy 0x1203
  else if f = NodeUpdate.START_REQUEST ∧ one = true then
    condIf (!(decide (s.seqState i = seqOpen) || decide (s.seqState i = seqTripped)) || !c.rdB NodeUpdate.ARMED i ||
      s.nv.nodeImage.isNone || !((c.nodeList i).any fun k => c.copyOk i k)) 0x1209 i
  else none

/-- A write of a timing field while CHANNEL_EN is 1 as the writes before it leave it (R480). -/
def State.timingRef (s : State) (w : Write) : Ref :=
  condIf (decide (w.obj = 0x1001) && s.rdB CanChannel.CHANNEL_EN w.inst && w.touched.any fun x => canTiming.contains x.f) 0x1002

/-! ### The refusal of a commit (R148, R160) -/

/-- The place of a status in the order of R148. -/
def rank (st : Nat) : Nat :=
  if st = stAbsent then 7 else if st = stEpochStale then 8 else if st = stAccess then 9 else if st = stRange then 10
  else if st = stCondition then 11 else 12

/-- The refusal that comes first in the order of R148; among equals the first in the list. -/
def worst (l : List Ref) : Ref :=
  l.foldl (fun b r => match b, r with
    | none, r => r
    | some a, some x => if rank x.1 < rank a.1 then some x else some a
    | b, none => b) none

/-- The order of instances: object, then instance. -/
def instLe (a b : Nat × Nat) : Bool := decide (a.1 < b.1) || (decide (a.1 = b.1) && decide (a.2 ≤ b.2))

/-- An instance put into an ascending list without repeats. -/
def instIns (a : Nat × Nat) : List (Nat × Nat) → List (Nat × Nat)
  | [] => [a]
  | b :: l => if a = b then b :: l else if instLe a b then a :: b :: l else b :: instIns a l

/-- The instances that writes touch, ascending. -/
def instances (ws : List Write) : List (Nat × Nat) := ws.foldl (fun l w => instIns (w.obj, w.inst) l) []

/-- The refusals of the writes one by one, each against what the ones before it leave. -/
def State.eachRef (e : State) : List Write → List Ref
  | [] => []
  | w :: ws => e.writeRef w :: e.timingRef w :: State.eachRef (e.runWrites [w]).1 ws

/-- The refusal of writes that are to take effect together, none where they may: the ranges of a profile are checked over the whole
profile that would result (R371). -/
def State.commitRef (s : State) (ws : List Write) : Ref :=
  let e := s.expected
  let c := (e.runWrites ws).1
  let each := e.eachRef ws
  worst (each.filter (· == some (refOff stRange 0xFFFF)) ++ c.profileRanges ws :: each ++ ((instances ws).flatMap fun (o, i) => c.relations s o i)
    ++ ws.flatMap fun w => w.touched.map fun x => c.touchRef s w.inst x)

end Sys2Proof.Machine
end

