-- ==== Sys2Proof/Machine/Writes.lean ====
section
/-! DEFINITION. GET_OBJ, PUT_OBJ, transactions, configuration uploads, and the writes that have rows of their own (R153 to R161,
R526): how accepted writes take effect. -/

namespace Sys2Proof.Machine

open Sys2Proof.Obj

/-! ### GET_OBJ (R155) -/

/-- Registers that follow the clock or the mailbox itself are brought up to the instant of a read. -/
def State.freshen (s : State) (obj i : Nat) : State :=
  match obj with
  | 0x0107 =>
    let s := s.wr MailboxStatus.SESSIONS_OPEN 0 s.mbx.sess.length
    let s := s.wr MailboxStatus.STREAMS_OPEN 0 (sumL (s.mbx.sess.map fun x => x.streams.length))
    s.wr MailboxStatus.TXN_OPEN 0 (s.mbx.sess.filter fun x => x.txn.isSome).length
  | 0x0108 =>
    match s.sess? i with
    | some x => (s.wr SessionStatus.STREAMS i x.streams.length).wrB SessionStatus.TXN_ACTIVE i x.txn.isSome
    | none => s
  | 0x0201 => s.backupRegs
  | 0x0702 => s.intakeSecond
  | 0x0802 => s.warmNow i
  | 0x0804 => s.agesNow i s.base
  | 0x0D03 => s.latencyNow i
  | 0x0E02 => s.wrB BlockStatus.ELIGIBLE 0 s.eligible
  | 0x0F01 => s.timeRegs
  | 0x1001 => s.wr CanChannel.TS_UNCERTAINTY i (if s.rdB DieStatus.PACE_LOW 0 then 0xFFFF else 50)
  | 0x1102 => s.portRegs
  | 0x1201 => s.updRegs
  | 0x1303 => s.wr PresenceStatus.TOKEN_REMAIN 0
      (if s.rd PresenceStatus.TOKEN_STATE = 0 then 0 else (s.sec.tokenAt + tokenLife - s.now) / 100000000)
  | 0x1304 => s.haltRegs
  | _ => s

/-- The captured status of a string that laps (R155). From the sample instant of a new epoch on, the one of the epoch before shows
no more (R188). -/
def State.shotOf (s : State) (d : ObjDesc) (i : Nat) : Option (Nat × Store) :=
  let n := strOf d.inst i
  let from_ := (s.ring n).epochFrom
  if n ≠ 0 ∧ d.stored = false ∧ s.rd LapStatus.LAP_STATE n = 1 then
    (s.str n).shot.filter fun x => decide (s.base < from_) || decide (from_ ≤ x.1)
  else none

/-- The fields of a string's objects that hold a measurement or an estimate of what the string is now, in the sense of R5: the
counts, times, identities and flags beside them go on being shown. -/
def liveFlds : List Fld := [
  RingStatus.T_AB, RingStatus.T_BA, Topology.DELAY_A, Topology.DELAY_B,
  NodeStatus.STACK_V, NodeStatus.CELL_SUM, NodeStatus.SUM_DIFF, NodeStatus.NODE_TEMP, NodeStatus.CELL_V, NodeStatus.THERM_T,
  CoulombStatus.CURRENT, CoulombStatus.CURRENT_AVG_1S, CoulombStatus.CHARGE, CoulombStatus.SHUNT_V, CoulombStatus.SHUNT_TEMP_USED,
  SequenceResults.RESULT, SequenceResults.ENG_VALUE, SequenceResults.AGE, SequenceResults.VALID,
  InsulationStatus.R_ISO, InsulationStatus.R_ISO_POS, InsulationStatus.R_ISO_NEG, InsulationStatus.C_Y,
  InsulationStatus.FAULT_POSITION, InsulationStatus.VALID,
  StringState.STRING_SOC, StringState.SOC_MIN, StringState.SOC_MAX, StringState.SOH_MEAN, StringState.SOH_MIN,
  StringState.CHARGE_LIMIT, StringState.DISCHARGE_LIMIT, StringState.CELL_CHARGE_LIMIT, StringState.CELL_DISCHARGE_LIMIT,
  StringState.F_LEDGER, StringState.CAPACITY_MIN, DivergeStatus.Z_CC, DivergeStatus.Z_OCV]

/-- A field holds a live measurement or estimate (R5). -/
def Fld.live (f : Fld) : Bool := liveFlds.contains f

/-- The live measurements and estimates of an instance read as not available. -/
def State.maskLive (s : State) (d : ObjDesc) (i : Nat) : State :=
  (d.flds.filter Fld.live).foldl (fun s f => (List.range f.count).foldl (fun s k => s.wr f i (f.resetAt k) k) s) s

/-- A read shows an instance: as captured for a string that laps (R155); with its live values not available for a string that is
not enabled, but for STRING_TERMINALS (R5, R82). -/
def State.shown (s : State) (d : ObjDesc) (i : Nat) : State :=
  let n := strOf d.inst i
  if n ≠ 0 ∧ d.stored = false ∧ d.id ≠ 0x0105 ∧ s.enabled n = false then s.maskLive d i
  else match s.shotOf d i with
  | some x => { s with objs := x.2 }
  | none => s

/-- The bytes a read returns, with what a lap instant has brought into force since the last command (R161): PEER_KEY reads 0
(Table 21.8). -/
def State.readBytes (s : State) (d : ObjDesc) (i : Nat) : Bytes :=
  let s := (s.waitDue (strOf d.inst i)).shown d i
  if d.id = 0x1301 then (s.wr SecurityStatus.PEER_KEY i 0).objBytes d i else s.objBytes d i

/-- The instant a read gives: that of the last released lap results for the status of a string that laps, else now (R155). -/
def State.readTime (s : State) (d : ObjDesc) (i : Nat) : Nat := ((s.shotOf d i).map (·.1)).getD s.base

/-- The answer to a GET_OBJ. -/
def State.getObj (s : State) (p : Bytes) : State × Reply :=
  let obj := field p 0 2
  let i := field p 2 2
  let off := field p 4 2
  let epoch := field p 8 4
  match find obj with
  | none => (s, .now stAbsent [])
  | some d =>
    let n := if field p 6 2 = 0 then d.size - off else field p 6 2
    guarded (s.prefixChecks d i epoch ++ [
      (!d.rangeOk off n || (!d.epochBound && decide (epoch ≠ 0)), refOff stRange 0xFFFF)]) s fun s =>
      let s := s.freshen obj i
      (s, .now stOk (toLE 2 obj ++ toLE 2 i ++ toLE 2 off ++ toLE 2 n ++ toLE 4 epoch ++ timeBytes (s.readTime d i) ++ [0, 0]
        ++ slice (s.readBytes d i) off n))

/-- GET_OBJ (R153 to R155). -/
def execGetObj (t : Nat) (r : Req) (p : Bytes) (s : State) : Host.Outcome State Fault Refusal :=
  .next (s.serve t r 0x0001 (decide (p.length = 12)) 1 fun _ _ s => s.getObj p)

/-! ### Accepted writes take effect (R161) -/

/-- The objects that configure a string's lap engine, ring master or estimation array. -/
def lapObjects : List Nat := [0x0401, 0x0501, 0x0601, 0x0603, 0x0902, 0x0903, 0x0A02]

/-- The string whose object a place belongs to, 0 for none. -/
def cellStr (c : CellW) : Nat := ((find c.key.obj).map fun d => if d.inst = .string then c.key.inst else 0).getD 0

/-- A chemistry table has been written: event 0x0906, and the strings that use it take it from their next lap (R300, R321). -/
def State.tableWritten (s : State) (i : Nat) : State :=
  let s := s.record 0x0906 1 ([i] ++ toLE 4 (s.rd ChemistryTable.TABLE_CRC i))
  s.eachStr fun n s =>
    if s.rd EstimationConfig.CHEMISTRY n = i then s.modStr n fun x => { x with est := { x.est with newTable := some s.plain } } else s

/-- The integrator profile has been written: slot 4 and event 0x0B0A; where profile 15 is in force each string takes it at its
first lap, or at once where it does not lap (R371). -/
def State.profileWritten (s : State) : State :=
  let b := s.objBytes IntegratorProfile.desc 0
  let s := (s.extendSlot 4 b).record 0x0B0A 1 (toLE 4 (s.rd IntegratorProfile.PROFILE_CRC))
  if s.rd ModuleTerminals.PROFILE_APPLIED = 15 then
    s.eachStr fun n s =>
      if s.rd LapStatus.LAP_STATE n = 1 then s.modStr n fun x => { x with profWait := some b, waitAt := s.plain }
      else s.profileNow n b
  else s

/-- A message object that is no transmit object any more keeps nothing pending. -/
def State.canObjWritten (s o : State) (i : Nat) : State :=
  let s := if o.rd CanObject.DIRECTION i = 2 ∧ s.rd CanObject.DIRECTION i ≠ 2 then
      (s.modBus (i / 128) fun b => { b with pend := b.pend.filter fun x => decide (x.1 ≠ i) }).pendReg (i / 128) i
    else s
  s.ownerRefresh

/-- What a write to an instance of a module-wide object, a channel, a port or a table brings about once its values stand; `o` is
the state before, `sess` the session that commits it. -/
def State.objWritten (s o : State) (sess obj i : Nat) : State :=
  match obj with
  | 0x0202 => s.tapFollows
  | 0x0701 => s.refitPins.compressCheck
  | 0x0901 => s.tableWritten i
  | 0x0B02 => s.profileWritten
  | 0x0B04 => s.loopOut
  | 0x0C03 => s.ownerRefresh
  | 0x0D01 => s.chanWritten o i
  | 0x0D02 => (s.keepChan o i ChannelRegions.flds).loadRegs
  | 0x0F02 => s.domWritten o i
  | 0x0F03 => s.pacerWritten i
  | 0x0F04 => s.captureWritten i
  | 0x1001 => s.canChanWritten o i
  | 0x1002 => s.canObjWritten o i
  | 0x1101 => s.portWritten o
  | 0x1301 => s.trustRegs
  | 0x1302 => s.trustRegs.record 0x1303 2 [i, sess]
  | _ => s

/-- A touched WO field acts, and a touched W1C field is cleared where data and mask are 1 (R156). -/
def State.touchAct (s : State) (i : Nat) (x : Touch) : State :=
  let bits := Nat.land x.data x.mask
  let f := x.f
  if f.access = .w1c then
    if f = TraceStatus.CAPTURE_VALID then
      ([0, 1, 2].filter fun k => bitOf bits k).foldl (fun (s : State) k => s.releaseCapture i (k + 1)) s
    else
      let old := s.rd f i x.idx
      s.wr f i (old - Nat.land old bits) x.idx
  else if f = CanObject.ACK_COUNT then (s.wrB CanObject.NEW_DATA i false).wrB CanObject.MSG_LOST i false
  else if f = LedgerStatus.ACK_EPOCH then s.ackEpoch
  else if bits = 0 then s
  else if f = RingConfig.CLOSE_REQUEST then s.closeRequested i
  else if f = HistoryConfig.PIN_REQUEST then s.pinAround s.base
  else if f = HistoryConfig.RELEASE_PINS then s.releasePins
  else if f = ChannelConfig.TAKE_OVER then s.modChan i fun h => { h with take := true }
  else if f = CanChannel.RECOVER then s.canRecover i
  else if f = CanObject.TX_REQUEST then s.canContent i (toLE 64 (s.rd CanObject.DATA i))
  else if f = UpdateStatus.ADVANCE_FUSES then s.advanceFuses
  else if f = NodeUpdate.START_REQUEST then s.restartNodes i
  else s

/-- Open transactions of other sessions that have written one of these instances will find it changed (R160). -/
def State.markStale (s : State) (sess : Nat) (is : List (Nat × Nat)) : State :=
  let hit (q : Txn) : List (Nat × Nat) := is.filter fun k => q.writes.any fun w => w.obj == k.1 && w.inst == k.2
  let mark (x : Sess) : Sess :=
    if x.num = sess then x
    else { x with txn := x.txn.map fun q => { q with stale := (hit q).foldl (fun l k => instIns k l) q.stale } }
  { s with mbx := { s.mbx with sess := s.mbx.sess.map mark } }

/-- A transaction configures the lap engine, ring master or estimation array of a string that laps (R161): an object of the
string's own, or the chemistry table its filter uses. -/
def State.lapBound (s : State) (ws : List Write) (n : Nat) : Bool :=
  decide (n ≠ 0) && decide (s.rd LapStatus.LAP_STATE n = 1) && ws.any fun w =>
    (lapObjects.contains w.obj && decide (w.inst = n)) || (w.obj == 0x0901 && decide (w.inst = s.rd FilterStatus.TABLE_IN_USE n))

/-- A touched W1C or WO field acts at once, or at the string's first lap instant with the rest of its transaction. -/
def State.touchNow (s o : State) (ws : List Write) (w : Write) (x : Touch) : State :=
  let n := ((find w.obj).map fun d => strOf d.inst w.inst).getD 0
  if o.lapBound ws n && (x.f.access == .w1c || x.f == RingConfig.CLOSE_REQUEST || x.f == NodeUpdate.START_REQUEST) then
    s.modStr n fun y => { y with
      touchWait := y.touchWait ++ [⟨x.f.key w.inst x.idx, x.f.resetAt x.idx, Nat.land x.data x.mask⟩], waitAt := s.plain }
  else s.touchAct w.inst x

/-- Values come into force on a string, or wait with all else of their transaction `ws` for its first lap instant after the
commit (R161). -/
def State.putString (s o : State) (ws : List Write) (n : Nat) (cs : List CellW) : State :=
  if cs.isEmpty then s
  else if o.lapBound ws n then
    s.modStr n fun x => { x with cfgWait := x.cfgWait ++ cs, waitAt := s.plain }
  else
    let s := s.modStr n fun x => { x with cfgWait := x.cfgWait.filter fun c => !(cs.any fun d => decide (d.key = c.key)) }
    (s.putCells cs).stringWritten o n cs

/-- Accepted writes take effect together: their values, what follows from them, then the W1C and WO fields in the order
written. -/
def State.applyWrites (s : State) (sess : Nat) (ws : List Write) : State :=
  let s := s.eachStr fun n s => s.waitDue n
  let o := s
  let vs := (s.withWait.runWrites ws).2
  let s := s.storeCells ((vs.filter (·.stored)).map (·.cell))
  let s := if s.nv.keptFormat = 0 then s else s.bump ConfigFormat.WRITES_SINCE_KEPT 0 (ws.filter Write.stored).length
  let cs := vs.map (·.cell)
  let s := s.putCells (cs.filter fun c => decide (cellStr c = 0))
  let s := s.eachStr fun n s => s.keepOld o n (cs.filter fun c =>
    decide (c.key.obj = 0x0901) && decide (c.key.inst = o.rd EstimationConfig.CHEMISTRY n)) s.plain
  let s := s.eachStr fun n s => s.putString o ws n (cs.filter fun c => decide (cellStr c = n))
  let held := (instances (ws.filter fun w => w.touched.any Touch.holds))
  let s := held.foldl (fun (s : State) k => s.objWritten o sess k.1 k.2) s
  let s := ws.foldl (fun (s : State) w => w.touched.foldl (fun (s : State) x => s.touchNow o ws w x) s) s
  let s := s.markStale sess (instances ws)
  if held.any fun k => k.1 == 0x1302 then s.trustRecheck else s

/-! ### PUT_OBJ and COMMIT_TXN (R156 to R160) -/

/-- The exchanges that writes wait for (R231). -/
def State.nodeWaits (s : State) (ws : List Write) : List (Nat × Nat) :=
  (ws.flatMap fun w => w.touched.flatMap fun x =>
    if Nat.land x.data x.mask = 0 then [] else if x.f == RingConfig.CLOSE_REQUEST then [(w.inst, 0)]
    else if x.f == NodeUpdate.START_REQUEST then [(w.inst, 1)] else []).eraseDups.filter s.nodeReqOpen

/-- Writes that have taken effect are answered, at once or once their node exchanges have ended. -/
def State.awaitNodes (s : State) (rid : Rid) (ws : List Write) : State × Reply :=
  let left := s.nodeWaits ws
  if left.isEmpty then (s, .now stOk [])
  else ({ s with mbx := { s.mbx with nodeReqs := s.mbx.nodeReqs ++ [⟨rid, left⟩] } }, .later)

/-- Writes that have passed every check: applied and answered at once, or journaled where they touch a stored object (R157), or
answered after the node exchanges they need (R231). -/
def State.accept (s : State) (rid : Rid) (ws : List Write) : State × Reply :=
  if ws.any Write.stored then (s.journal rid [] ws [], .later) else (s.applyWrites rid.sess ws).awaitNodes rid ws

/-- A write to the integrator profile uses the presence token (R543). -/
def State.useFor (s : State) (sess : Nat) (w : Write) : State := if w.obj = 0x0B02 then s.useToken sess else s

/-- A PUT_OBJ: outside a transaction it is a transaction of one write; inside one it joins (R156, R159). -/
def State.putObj (s : State) (rid : Rid) (x : Sess) (p : Bytes) : State × Reply :=
  let w := writeOf p
  let full := match x.txn with
    | some q => decide (64 ≤ q.writes.length) ||
        decide (16384 < sumL (q.writes.map fun v => v.data.length) + w.data.length)
    | none => false
  let presence := decide (w.obj = 0x0B02) && s.noPresence x.num false
  guarded [(full, stLength, []), (presence, stPresence, [])] s fun s =>
    match x.txn with
    | some q =>
      let e := (s.expected.runWrites q.writes).1
      match e.writeRef w with
      | some r => (s, .now r.1 r.2)
      | none =>
        ((s.useFor x.num w).modSess x.num fun y =>
          { y with txn := y.txn.map fun q => { q with writes := q.writes ++ [w] } }, .now stOk [])
    | none =>
      match s.commitRef [w] with
      | some r => (s, .now r.1 r.2)
      | none => (s.useFor x.num w).accept rid [w]

/-- A request with a PUT_OBJ payload. -/
def State.servePut (s : State) (t : Nat) (r : Req) (p : Bytes) : State :=
  s.serve t r 0x0002 (putLenOk p) 2 fun rid x s => s.putObj rid x p

/-- PUT_OBJ to registers without a row of their own (R156). -/
def execPutObj (t : Nat) (r : Req) (p : Bytes) (s : State) : Host.Outcome State Fault Refusal := .next (s.servePut t r p)

/-- COMMIT_TXN applies every write of the transaction or none, and closes it (R160). -/
def State.commitTxn (s : State) (rid : Rid) (x : Sess) : State × Reply :=
  match x.txn with
  | none => (s, .now stTxnNone [])
  | some q =>
    let s := s.modSess x.num fun y => { y with txn := none }
    match s.commitRef q.writes, q.stale with
    | some r, _ => (s, .now r.1 r.2)
    | none, k :: _ => (s.bump MailboxStatus.TXN_CONFLICTS, .now stTxnConflict (toLE 2 k.1 ++ toLE 2 k.2))
    | none, [] => s.accept rid q.writes

/-- COMMIT_TXN. -/
def execCommitTxn (t : Nat) (r : Req) (p : Bytes) (s : State) : Host.Outcome State Fault Refusal :=
  .next (s.serve t r 0x0004 (decide (p.length = 0)) 2 fun rid x s => s.commitTxn rid x)

/-! ### CONFIG_UPLOAD (R526) -/

/-- The records of an upload, and whether the body ends with a whole record; `fuel` bounds their number. -/
def uploadRecords : Nat → Bytes → List Write × Bool
  | 0, b => ([], b.isEmpty)
  | fuel + 1, b =>
    if b.isEmpty then ([], true)
    else
      let len := (12 + 2 * field b 6 2 + 3) / 4 * 4
      if b.length < 12 ∨ b.length < len then ([], false)
      else
        let (ws, ok) := uploadRecords fuel (b.drop len)
        (writeOf (b.take len) :: ws, ok)

/-- The refusal of an upload whose END has arrived: UPLOAD_RESULT, and the DATA of event 0x1208. -/
def State.uploadRef (s : State) (sess : Nat) (ws : List Write) (whole : Bool) (count : Nat) : Option (Nat × Bytes) :=
  let data (w : Write) (st : Nat) : Bytes := toLE 2 w.obj ++ toLE 2 w.inst ++ toLE 2 w.off ++ toLE 2 st
  let bound (w : Write) : Bool := ((find w.obj).map fun d => d.epochBound).getD false
  let e := s.expected
  let c := (e.runWrites ws).1
  let one (w : Write) : Ref :=
    if w.obj = 0x0B02 ∧ s.noPresence sess false = true then some (stPresence, [])
    else worst ([e.writeRef w, e.timingRef w] ++ c.relations s w.obj w.inst ++ w.touched.map fun x => c.touchRef s w.inst x)
  if !whole then some (4, data ⟨0xFFFF, 0xFFFF, 0xFFFF, 0, [], []⟩ stLength)
  else if ws.length ≠ count then some (3, data ⟨0xFFFF, 0xFFFF, 0xFFFF, 0, [], []⟩ stRange)
  else
    match ws.find? bound with
    | some w => some (5, data w stEpochStale)
    | none =>
      match s.commitRef ws, ws.findSome? fun w => (one w).map fun r => (w, r.1) with
      | some r, none => (ws.head?).map fun w => (4, data w r.1)
      | _, some (w, st) => some (4, data w st)
      | none, none => none

/-- An upload ends: UPLOAD_RESULT and UPLOAD_ACTIVE. -/
def State.uploadDone (s : State) (code : Nat) : State :=
  (s.wr ConfigFormat.UPLOAD_RESULT 0 code).wrB ConfigFormat.UPLOAD_ACTIVE 0 false

/-- The END frame of a CONFIG_UPLOAD has arrived: its records are applied as one transaction, or the upload is refused whole. -/
def execConfigUpload (t : Nat) (s : State) : Host.Outcome State Fault Refusal :=
  let s := s.at t
  .next (match s.ended 9 with
  | none => s
  | some (num, q) =>
    if !s.running then s
    else
      let s := s.dropEnded 9
      let (ws, whole) := uploadRecords (q.body.length + 1) q.body
      let s := s.wr ConfigFormat.UPLOAD_RECORDS 0 ws.length
      match s.uploadRef num ws whole (field q.params 4 4) with
      | some (code, data) => (s.uploadDone code).record 0x1208 2 data
      | none =>
        let s := ws.foldl (fun (s : State) w => s.useFor num w) s
        if ws.any Write.stored then
          (s.wrB ConfigFormat.UPLOAD_ACTIVE 0 false).journal ⟨0, num, 0x0023, 0, 0⟩ [] ws []
        else (s.applyWrites num ws).uploadDone 2)

/-! ### The final journal record (R157) -/

/-- The oldest stored write is complete: it takes effect and is answered. -/
def State.storedDone (s : State) (j : Journal) : State :=
  let kept (s : State) : State := if s.nv.keptFormat = 0 then s else s.bump ConfigFormat.WRITES_SINCE_KEPT
  let n := (j.cells.head?.map fun c => c.key.inst).getD 0
  if j.rid.cmd = 0x0042 then (kept s).finishClear (j.payload.headD 0) j.rid j.cells
  else if j.rid.cmd = 0x0044 then
    let k := nth 0 j.payload 8
    let cs := s.calCells j.cells k
    ((((kept s).putCells cs).storeCells cs).calStored n k).answer j.rid stOk j.payload
  else if j.rid.cmd = 0x0023 then (s.applyWrites j.rid.sess j.writes).uploadDone 2
  else
    match (s.applyWrites j.rid.sess j.writes).awaitNodes j.rid j.writes with
    | (s, .now st p) => s.answer j.rid st p
    | (s, .later) => s

/-- The final journal record of the oldest stored write is programmed. -/
def execStoredWriteComplete (t : Nat) (s : State) : Host.Outcome State Fault Refusal :=
  let s := s.at t
  .next (match s.mbx.journal with
  | [] => s
  | j :: js => if s.mailboxUp then ({ s with mbx := { s.mbx with journal := js } }).storedDone j else s)

/-! ### Writes with rows of their own -/

/-- A write of CLOSE_REQUEST of a string (R196). -/
def execCloseRequest (t : Nat) (r : Req) (str : Nat) (s : State) : Host.Outcome State Fault Refusal :=
  .next (s.servePut t r (putField RingConfig.CLOSE_REQUEST str 1))

/-- A write of the integrator profile: 80 bytes of which the RWL fields are written (R371). -/
def execIntegratorProfile (t : Nat) (r : Req) (data : Bytes) (s : State) : Host.Outcome State Fault Refusal :=
  .next (s.servePut t r (toLE 2 0x0B02 ++ toLE 2 0 ++ toLE 2 0 ++ toLE 2 80 ++ toLE 4 0 ++ padTo 80 data
    ++ List.replicate 73 0xFF ++ [0, 0, 0, 0xFF, 0xFF, 0xFF, 0xFF]))

/-- A write of TAKE_OVER of a channel (R428). -/
def execTakeOver (t : Nat) (r : Req) (ch : Nat) (s : State) : Host.Outcome State Fault Refusal :=
  .next (s.servePut t r (putField ChannelConfig.TAKE_OVER ch 1))

/-- A write of ENABLE of a channel (R426). -/
def execChannelEnable (t : Nat) (r : Req) (ch : Nat) (on : Bool) (s : State) : Host.Outcome State Fault Refusal :=
  .next (s.servePut t r (putField ChannelConfig.ENABLE ch (b2n on)))

/-- A write of PIN_REQUEST (R261). -/
def execPinRequest (t : Nat) (r : Req) (s : State) : Host.Outcome State Fault Refusal :=
  .next (s.servePut t r (putField HistoryConfig.PIN_REQUEST 0 1))

/-- A write of RELEASE_PINS (R262). -/
def execReleasePins (t : Nat) (r : Req) (s : State) : Host.Outcome State Fault Refusal :=
  .next (s.servePut t r (putField HistoryConfig.RELEASE_PINS 0 1))

/-- A write of 1 to the CAPTURE_VALID bits of `mask` of a channel: bit k - 1 is capture k (R267). -/
def execCaptureValid (t : Nat) (r : Req) (ch mask : Nat) (s : State) : Host.Outcome State Fault Refusal :=
  .next (s.servePut t r (putField TraceStatus.CAPTURE_VALID ch mask))

/-- A write of RECOVER of a CAN channel (R492). -/
def execRecover (t : Nat) (r : Req) (ch : Nat) (s : State) : Host.Outcome State Fault Refusal :=
  .next (s.servePut t r (putField CanChannel.RECOVER ch 1))

/-- A write of TX_REQUEST of a message object together with its first data bytes (R488). -/
def execTxRequest (t : Nat) (r : Req) (obj : Nat) (data : Bytes) (s : State) : Host.Outcome State Fault Refusal :=
  let n := min 64 data.length
  .next (s.servePut t r (toLE 2 0x1002 ++ toLE 2 obj ++ toLE 2 8 ++ toLE 2 96 ++ toLE 4 0
    ++ padTo 32 [0x10] ++ padTo 64 data ++ padTo 32 [0x10] ++ padTo 64 (List.replicate n 0xFF)))

/-- A write of ACK_COUNT of a message object (R487). -/
def execAckCount (t : Nat) (r : Req) (obj count : Nat) (s : State) : Host.Outcome State Fault Refusal :=
  .next (s.servePut t r (putField CanObject.ACK_COUNT obj count))

/-- A write of CHANNEL_EN of a CAN channel (R482). -/
def execChannelEn (t : Nat) (r : Req) (ch : Nat) (on : Bool) (s : State) : Host.Outcome State Fault Refusal :=
  .next (s.servePut t r (putField CanChannel.CHANNEL_EN ch (b2n on)))

/-- A write of PORT_EN of the two-wire port (R509). -/
def execPortEn (t : Nat) (r : Req) (on : Bool) (s : State) : Host.Outcome State Fault Refusal :=
  .next (s.servePut t r (putField I2cConfig.PORT_EN 0 (b2n on)))

/-- A write of ACK_EPOCH (R352). -/
def execAckEpoch (t : Nat) (r : Req) (epoch : Nat) (s : State) : Host.Outcome State Fault Refusal :=
  .next (s.servePut t r (putField LedgerStatus.ACK_EPOCH 0 epoch))

/-- A write of ADVANCE_FUSES (R520). -/
def execAdvanceFuses (t : Nat) (r : Req) (s : State) : Host.Outcome State Fault Refusal :=
  .next (s.servePut t r (putField UpdateStatus.ADVANCE_FUSES 0 1))

/-- A write of START_REQUEST of a string (R532). -/
def execStartRequest (t : Nat) (r : Req) (str : Nat) (s : State) : Host.Outcome State Fault Refusal :=
  .next (s.servePut t r (putField NodeUpdate.START_REQUEST str 1))

/-- A write of an entry of the trust list: KIND, CLASS, ENABLED, a reserved byte, DIGEST and LABEL, 68 bytes (R544, R549). -/
def execTrustList (t : Nat) (r : Req) (entry : Nat) (data : Bytes) (s : State) : Host.Outcome State Fault Refusal :=
  .next (s.servePut t r (toLE 2 0x1302 ++ toLE 2 entry ++ toLE 2 0 ++ toLE 2 68 ++ toLE 4 0 ++ padTo 68 data
    ++ [0xFF, 0xFF, 1, 0] ++ List.replicate 64 0xFF))

end Sys2Proof.Machine
end

