-- ==== Sys2Proof/Machine/Dispatch.lean ====
section
/-! DEFINITION. The one case split over the commands: each arm calls the meaning of its row. -/

namespace Sys2Proof.Machine

def exec (i : Instr) (s : State) : Host.Outcome State Fault Refusal :=
  match i with
  | .auxMainsEvaluation t mv hz pw dc => Sys2Proof.Machine.execAuxMainsEvaluation t mv hz pw dc s
  | .auxInterruptionExceeded t => Sys2Proof.Machine.execAuxInterruptionExceeded t s
  | .startFromOff t profile block mask addr cover jumper seen => Sys2Proof.Machine.execStartFromOff t profile block mask addr cover jumper seen s
  | .auxReturnQual t => Sys2Proof.Machine.execAuxReturnQual t s
  | .tapConverterStop t mv => Sys2Proof.Machine.execTapConverterStop t mv s
  | .tapOverload t since => Sys2Proof.Machine.execTapOverload t since s
  | .lastGasp t => Sys2Proof.Machine.execLastGasp t s
  | .holdupShed t => Sys2Proof.Machine.execHoldupShed t s
  | .holdupOpenDelay t => Sys2Proof.Machine.execHoldupOpenDelay t s
  | .holdupClosed t => Sys2Proof.Machine.execHoldupClosed t s
  | .holdupHalt t exhausted => Sys2Proof.Machine.execHoldupHalt t exhausted s
  | .holdupReadyCleared t energy => Sys2Proof.Machine.execHoldupReadyCleared t energy s
  | .holdupReadySet t energy => Sys2Proof.Machine.execHoldupReadySet t energy s
  | .enterTransport t r p => Sys2Proof.Machine.execEnterTransport t r p s
  | .transportConfirm t awake => Sys2Proof.Machine.execTransportConfirm t awake s
  | .transportDiesOff t => Sys2Proof.Machine.execTransportDiesOff t s
  | .transportWake t str mv since profile block mask addr cover jumper seen => Sys2Proof.Machine.execTransportWake t str mv since profile block mask addr cover jumper seen s
  | .coilSupplyThreshold t mv => Sys2Proof.Machine.execCoilSupplyThreshold t mv s
  | .connOpenChanged t str isOpen => Sys2Proof.Machine.execConnOpenChanged t str isOpen s
  | .switchReading t profile block mask addr => Sys2Proof.Machine.execSwitchReading t profile block mask addr s
  | .switchFaultRetry t profile block mask addr => Sys2Proof.Machine.execSwitchFaultRetry t profile block mask addr s
  | .sealOpen t => Sys2Proof.Machine.execSealOpen t s
  | .presenceButtonPress t held => Sys2Proof.Machine.execPresenceButtonPress t held s
  | .presenceEvent t since => Sys2Proof.Machine.execPresenceEvent t since s
  | .presenceStuck t since => Sys2Proof.Machine.execPresenceStuck t since s
  | .jSvcFitted t since => Sys2Proof.Machine.execJSvcFitted t since s
  | .tokenExpired t => Sys2Proof.Machine.execTokenExpired t s
  | .displayBlank t => Sys2Proof.Machine.execDisplayBlank t s
  | .journalReplayed t => Sys2Proof.Machine.execJournalReplayed t s
  | .runtimeStart t netA netB => Sys2Proof.Machine.execRuntimeStart t netA netB s
  | .enumerationComplete t str => Sys2Proof.Machine.execEnumerationComplete t str s
  | .historyInitComplete t => Sys2Proof.Machine.execHistoryInitComplete t s
  | .watchdogRestart t die => Sys2Proof.Machine.execWatchdogRestart t die s
  | .refclkFail t => Sys2Proof.Machine.execRefclkFail t s
  | .paceMeasurement t die pace => Sys2Proof.Machine.execPaceMeasurement t die pace s
  | .dieStalled t die pace => Sys2Proof.Machine.execDieStalled t die pace s
  | .managerHeartbeatMissing t str last => Sys2Proof.Machine.execManagerHeartbeatMissing t str last s
  | .dramCorrectedError t => Sys2Proof.Machine.execDramCorrectedError t s
  | .dramUncorrectableError t region a b => Sys2Proof.Machine.execDramUncorrectableError t region a b s
  | .scrubPass t => Sys2Proof.Machine.execScrubPass t s
  | .lapFire t str tNom => Sys2Proof.Machine.execLapFire t str tNom s
  | .returnMissing t str port kind => Sys2Proof.Machine.execReturnMissing t str port kind s
  | .ringPortLineLost t str port seen => Sys2Proof.Machine.execRingPortLineLost t str port seen s
  | .ringPortLinkReady t str line => Sys2Proof.Machine.execRingPortLinkReady t str line s
  | .batonReceived t str port bytes aborted rtt => Sys2Proof.Machine.execBatonReceived t str port bytes aborted rtt s
  | .collectionCutoff t str => Sys2Proof.Machine.execCollectionCutoff t str s
  | .lapDataComplete t str => Sys2Proof.Machine.execLapDataComplete t str s
  | .chargeArrival t str ahead => Sys2Proof.Machine.execChargeArrival t str ahead s
  | .resultInstant t str seq => Sys2Proof.Machine.execResultInstant t str seq s
  | .sentinelFit t str => Sys2Proof.Machine.execSentinelFit t str s
  | .falseStartSecond t str => Sys2Proof.Machine.execFalseStartSecond t str s
  | .shadowCheck t str same => Sys2Proof.Machine.execShadowCheck t str same s
  | .incrementalRound t str => Sys2Proof.Machine.execIncrementalRound t str s
  | .newEpoch t str => Sys2Proof.Machine.execNewEpoch t str s
  | .cmdTimeout t str node => Sys2Proof.Machine.execCmdTimeout t str node s
  | .resultFetch t str node => Sys2Proof.Machine.execResultFetch t str node s
  | .ringClose t str => Sys2Proof.Machine.execRingClose t str s
  | .closeRequest t r str => Sys2Proof.Machine.execCloseRequest t r str s
  | .cmpTest t str => Sys2Proof.Machine.execCmpTest t str s
  | .routineWireTest t str => Sys2Proof.Machine.execRoutineWireTest t str s
  | .runWireTest t r p => Sys2Proof.Machine.execRunWireTest t r p s
  | .authRetry t str node => Sys2Proof.Machine.execAuthRetry t str node s
  | .coulombSample t str raw => Sys2Proof.Machine.execCoulombSample t str raw s
  | .lapCurrentFrame t str ok1 ok2 => Sys2Proof.Machine.execLapCurrentFrame t str ok1 ok2 s
  | .warmupEnd t str => Sys2Proof.Machine.execWarmupEnd t str s
  | .sequencerEntry t str convs => Sys2Proof.Machine.execSequencerEntry t str convs s
  | .injectedConversion t str src aborted convs => Sys2Proof.Machine.execInjectedConversion t str src aborted convs s
  | .refSettled t str => Sys2Proof.Machine.execRefSettled t str s
  | .calLowPoint t r p => Sys2Proof.Machine.execCalLowPoint t r p s
  | .calHighPoint t r p => Sys2Proof.Machine.execCalHighPoint t r p s
  | .calCaptureEnd t str => Sys2Proof.Machine.execCalCaptureEnd t str s
  | .calCommit t r p => Sys2Proof.Machine.execCalCommit t r p s
  | .calAbort t r p => Sys2Proof.Machine.execCalAbort t r p s
  | .calTimeout t str => Sys2Proof.Machine.execCalTimeout t str s
  | .imdCycleEnd t str rIso x cy half ok => Sys2Proof.Machine.execImdCycleEnd t str rIso x cy half ok s
  | .imdPauseEnd t str => Sys2Proof.Machine.execImdPauseEnd t str s
  | .housekeepingRound t x => Sys2Proof.Machine.execHousekeepingRound t x s
  | .hvacRequest t => Sys2Proof.Machine.execHvacRequest t s
  | .calderaTrip t die sensor => Sys2Proof.Machine.execCalderaTrip t die sensor s
  | .calderaRelease t since => Sys2Proof.Machine.execCalderaRelease t since s
  | .closeString t r p => Sys2Proof.Machine.execCloseString t r p s
  | .closingStep t str => Sys2Proof.Machine.execClosingStep t str s
  | .prechargeFail t str => Sys2Proof.Machine.execPrechargeFail t str s
  | .openString t r p => Sys2Proof.Machine.execOpenString t r p s
  | .openWait t str => Sys2Proof.Machine.execOpenWait t str s
  | .negCoilOff t str => Sys2Proof.Machine.execNegCoilOff t str s
  | .fbTime t str => Sys2Proof.Machine.execFbTime t str s
  | .mirrorContactChange t str mirrors iPos iNeg iPre => Sys2Proof.Machine.execMirrorContactChange t str mirrors iPos iNeg iPre s
  | .clearTrip t r p readOk => Sys2Proof.Machine.execClearTrip t r p readOk s
  | .faultLoopOpen t str loop => Sys2Proof.Machine.execFaultLoopOpen t str loop s
  | .fastOc t str v => Sys2Proof.Machine.execFastOc t str v s
  | .heartbeat t str last => Sys2Proof.Machine.execHeartbeat t str last s
  | .safeLoopInOpen t loop => Sys2Proof.Machine.execSafeLoopInOpen t loop s
  | .safeLoopOriginHold t => Sys2Proof.Machine.execSafeLoopOriginHold t s
  | .pulseTests t str coil ok => Sys2Proof.Machine.execPulseTests t str coil ok s
  | .offCoilReadback t str reads => Sys2Proof.Machine.execOffCoilReadback t str reads s
  | .safeStatusTelegram t => Sys2Proof.Machine.execSafeStatusTelegram t s
  | .safeCommand t net src port b => Sys2Proof.Machine.execSafeCommand t net src port b s
  | .safeCmdSingle t net => Sys2Proof.Machine.execSafeCmdSingle t net s
  | .enableMissing t str => Sys2Proof.Machine.execEnableMissing t str s
  | .integratorProfile t r data => Sys2Proof.Machine.execIntegratorProfile t r data s
  | .channelSample t ch => Sys2Proof.Machine.execChannelSample t ch s
  | .deadlineMiss t ch => Sys2Proof.Machine.execDeadlineMiss t ch s
  | .takeOver t r ch => Sys2Proof.Machine.execTakeOver t r ch s
  | .channelEnable t r ch on => Sys2Proof.Machine.execChannelEnable t r ch on s
  | .announceReceived t net src msg => Sys2Proof.Machine.execAnnounceReceived t net src msg s
  | .candidateReceived t net src msg => Sys2Proof.Machine.execCandidateReceived t net src msg s
  | .reportReceived t net src msg => Sys2Proof.Machine.execReportReceived t net src msg s
  | .allocationReceived t net src msg => Sys2Proof.Machine.execAllocationReceived t net src msg s
  | .peerRejected t net src msg => Sys2Proof.Machine.execPeerRejected t net src msg s
  | .announce t => Sys2Proof.Machine.execAnnounce t s
  | .roleListen t => Sys2Proof.Machine.execRoleListen t s
  | .roleGained t => Sys2Proof.Machine.execRoleGained t s
  | .managerLost t => Sys2Proof.Machine.execManagerLost t s
  | .allocHold t => Sys2Proof.Machine.execAllocHold t s
  | .blockIdConflict t msg => Sys2Proof.Machine.execBlockIdConflict t msg s
  | .dispatchCycle t => Sys2Proof.Machine.execDispatchCycle t s
  | .report t => Sys2Proof.Machine.execReport t s
  | .allocation t => Sys2Proof.Machine.execAllocation t s
  | .allocationApply t => Sys2Proof.Machine.execAllocationApply t s
  | .hostTimeout t => Sys2Proof.Machine.execHostTimeout t s
  | .setBlockPower t r p => Sys2Proof.Machine.execSetBlockPower t r p s
  | .getBlockState t r p => Sys2Proof.Machine.execGetBlockState t r p s
  | .lapUnitReceived t str => Sys2Proof.Machine.execLapUnitReceived t str s
  | .collectorRound t => Sys2Proof.Machine.execCollectorRound t s
  | .blockMaxAge t => Sys2Proof.Machine.execBlockMaxAge t s
  | .pinRequest t r => Sys2Proof.Machine.execPinRequest t r s
  | .releasePins t r => Sys2Proof.Machine.execReleasePins t r s
  | .triggerTrace t r p => Sys2Proof.Machine.execTriggerTrace t r p s
  | .captureFrozen t ch => Sys2Proof.Machine.execCaptureFrozen t ch s
  | .captureValid t r ch mask => Sys2Proof.Machine.execCaptureValid t r ch mask s
  | .tcpConnection t id port addr tcp what => Sys2Proof.Machine.execTcpConnection t id port addr tcp what s
  | .handshakeTimeout t id => Sys2Proof.Machine.execHandshakeTimeout t id s
  | .openSessionTimeout t id => Sys2Proof.Machine.execOpenSessionTimeout t id s
  | .connectionEnd t id => Sys2Proof.Machine.execConnectionEnd t id s
  | .openSession t r p => Sys2Proof.Machine.execOpenSession t r p s
  | .closeSession t r p => Sys2Proof.Machine.execCloseSession t r p s
  | .pingSession t r p => Sys2Proof.Machine.execPingSession t r p s
  | .sessionIdle t num => Sys2Proof.Machine.execSessionIdle t num s
  | .unreadableFrame t conn hdr => Sys2Proof.Machine.execUnreadableFrame t conn hdr s
  | .getObj t r p => Sys2Proof.Machine.execGetObj t r p s
  | .putObj t r p => Sys2Proof.Machine.execPutObj t r p s
  | .beginTxn t r p => Sys2Proof.Machine.execBeginTxn t r p s
  | .commitTxn t r p => Sys2Proof.Machine.execCommitTxn t r p s
  | .abortTxn t r p => Sys2Proof.Machine.execAbortTxn t r p s
  | .txnTimeout t num => Sys2Proof.Machine.execTxnTimeout t num s
  | .listObj t r p => Sys2Proof.Machine.execListObj t r p s
  | .openStream t r p => Sys2Proof.Machine.execOpenStream t r p s
  | .closeStream t r p => Sys2Proof.Machine.execCloseStream t r p s
  | .grantCredit t r p => Sys2Proof.Machine.execGrantCredit t r p s
  | .streamDataIn t r p => Sys2Proof.Machine.execStreamDataIn t r p s
  | .streamDataOut t sess num ahead => Sys2Proof.Machine.execStreamDataOut t sess num ahead s
  | .streamCredit t sess num frames => Sys2Proof.Machine.execStreamCredit t sess num frames s
  | .getIdentity t r p => Sys2Proof.Machine.execGetIdentity t r p s
  | .getCert t r p => Sys2Proof.Machine.execGetCert t r p s
  | .getQuote t r p => Sys2Proof.Machine.execGetQuote t r p s
  | .restartModule t r p => Sys2Proof.Machine.execRestartModule t r p s
  | .ledgerExport t => Sys2Proof.Machine.execLedgerExport t s
  | .ackEpoch t r epoch => Sys2Proof.Machine.execAckEpoch t r epoch s
  | .ledgerRestoreCommit t => Sys2Proof.Machine.execLedgerRestoreCommit t s
  | .ptpSync t rx port dom ident pnum t1 corr twoStep log => Sys2Proof.Machine.execPtpSync t rx port dom ident pnum t1 corr twoStep log s
  | .announcePtp t port dom m => Sys2Proof.Machine.execAnnouncePtp t port dom m s
  | .pdelayReq t port dom seq ident pnum turn => Sys2Proof.Machine.execPdelayReq t port dom seq ident pnum turn s
  | .pdelayExchange t port resp => Sys2Proof.Machine.execPdelayExchange t port resp s
  | .domainState t dom => Sys2Proof.Machine.execDomainState t dom s
  | .returnQual t => Sys2Proof.Machine.execReturnQual t s
  | .slewComplete t => Sys2Proof.Machine.execSlewComplete t s
  | .timeState t => Sys2Proof.Machine.execTimeState t s
  | .domainDisagree t => Sys2Proof.Machine.execDomainDisagree t s
  | .pacerOccurrence t out => Sys2Proof.Machine.execPacerOccurrence t out s
  | .pulseEnd t out => Sys2Proof.Machine.execPulseEnd t out s
  | .captureWindow t input => Sys2Proof.Machine.execCaptureWindow t input s
  | .capture t input edge => Sys2Proof.Machine.execCapture t input edge s
  | .canFrameReceived t ch ident xtd remote brs esi data => Sys2Proof.Machine.execCanFrameReceived t ch ident xtd remote brs esi data s
  | .canTxComplete t ch outcome loop => Sys2Proof.Machine.execCanTxComplete t ch outcome loop s
  | .recover t r ch => Sys2Proof.Machine.execRecover t r ch s
  | .busOffRecovered t ch => Sys2Proof.Machine.execBusOffRecovered t ch s
  | .txRequest t r obj data => Sys2Proof.Machine.execTxRequest t r obj data s
  | .ackCount t r obj count => Sys2Proof.Machine.execAckCount t r obj count s
  | .channelEn t r ch on => Sys2Proof.Machine.execChannelEn t r ch on s
  | .fallbackDatagram t ch => Sys2Proof.Machine.execFallbackDatagram t ch s
  | .i2cWrite t addr data => Sys2Proof.Machine.execI2cWrite t addr data s
  | .i2cRead t addr n stop => Sys2Proof.Machine.execI2cRead t addr n stop s
  | .stretchLimits t addr n stop => Sys2Proof.Machine.execStretchLimits t addr n stop s
  | .i2cSleep t => Sys2Proof.Machine.execI2cSleep t s
  | .i2cWake t addr => Sys2Proof.Machine.execI2cWake t addr s
  | .attentionWrite t outcome => Sys2Proof.Machine.execAttentionWrite t outcome s
  | .attnRetry t outcome => Sys2Proof.Machine.execAttnRetry t outcome s
  | .abortsRstart t addr => Sys2Proof.Machine.execAbortsRstart t addr s
  | .i2cIdleRelease t addr => Sys2Proof.Machine.execI2cIdleRelease t addr s
  | .busStuck t line pulses => Sys2Proof.Machine.execBusStuck t line pulses s
  | .recoveryRepeat t line pulses => Sys2Proof.Machine.execRecoveryRepeat t line pulses s
  | .portEn t r on => Sys2Proof.Machine.execPortEn t r on s
  | .imageUploadEnd t => Sys2Proof.Machine.execImageUploadEnd t s
  | .imageStaged t => Sys2Proof.Machine.execImageStaged t s
  | .activateImage t r p => Sys2Proof.Machine.execActivateImage t r p s
  | .spareReady t => Sys2Proof.Machine.execSpareReady t s
  | .dieHandover t die => Sys2Proof.Machine.execDieHandover t die s
  | .imageActivated t => Sys2Proof.Machine.execImageActivated t s
  | .handoverAbandoned t die cause => Sys2Proof.Machine.execHandoverAbandoned t die cause s
  | .rollbackImage t r p => Sys2Proof.Machine.execRollbackImage t r p s
  | .advanceFuses t r => Sys2Proof.Machine.execAdvanceFuses t r s
  | .recoveryLoader t image => Sys2Proof.Machine.execRecoveryLoader t image s
  | .confirmConfig t r p => Sys2Proof.Machine.execConfirmConfig t r p s
  | .configUpload t => Sys2Proof.Machine.execConfigUpload t s
  | .nodeImageUpload t => Sys2Proof.Machine.execNodeImageUpload t s
  | .nodeUpdated t str node => Sys2Proof.Machine.execNodeUpdated t str node s
  | .nodeCopyFailed t str node => Sys2Proof.Machine.execNodeCopyFailed t str node s
  | .startRequest t r str => Sys2Proof.Machine.execStartRequest t r str s
  | .enterService t r p => Sys2Proof.Machine.execEnterService t r p s
  | .enableDebug t r p => Sys2Proof.Machine.execEnableDebug t r p s
  | .leaveService t r p => Sys2Proof.Machine.execLeaveService t r p s
  | .serviceIdle t => Sys2Proof.Machine.execServiceIdle t s
  | .decommissionModule t r p => Sys2Proof.Machine.execDecommissionModule t r p s
  | .probeAttached t mv since => Sys2Proof.Machine.execProbeAttached t mv since s
  | .clusterHalt t die halt => Sys2Proof.Machine.execClusterHalt t die halt s
  | .trustList t r entry data => Sys2Proof.Machine.execTrustList t r entry data s
  | .commissioned t id hello signed => Sys2Proof.Machine.execCommissioned t id hello signed s
  | .tapStartOk t mv => Sys2Proof.Machine.execTapStartOk t mv s
  | .coverClosed t => Sys2Proof.Machine.execCoverClosed t s
  | .presenceButtonReleased t held => Sys2Proof.Machine.execPresenceButtonReleased t held s
  | .jSvcRemoved t => Sys2Proof.Machine.execJSvcRemoved t s
  | .coilShort t str coil => Sys2Proof.Machine.execCoilShort t str coil s
  | .faultLoopClosed t str loop => Sys2Proof.Machine.execFaultLoopClosed t str loop s
  | .netLinkChanged t port up => Sys2Proof.Machine.execNetLinkChanged t port up s
  | .candidate t => Sys2Proof.Machine.execCandidate t s
  | .canBusError t ch by8 => Sys2Proof.Machine.execCanBusError t ch by8 s
  | .busIntegrationComplete t ch => Sys2Proof.Machine.execBusIntegrationComplete t ch s
  | .spareSelfTest t die failed => Sys2Proof.Machine.execSpareSelfTest t die failed s
  | .storedWriteComplete t => Sys2Proof.Machine.execStoredWriteComplete t s
  | .collect t str port => Sys2Proof.Machine.execCollect t str port s
  | .wireRetest t str node wire => Sys2Proof.Machine.execWireRetest t str node wire s

end Sys2Proof.Machine
end

