-- ==== Sys2Proof/Safety.lean ====
section
/-! DEFINITION. What a sound state of the module is, and what every command respects: the terms the claims about whole runs
use. -/

namespace Sys2Proof.Machine

/-- The numbers of a session list: each from 1 to 16 (R137, R138), no two alike. -/
def numsOk (ss : List Sess) : Bool :=
  ss.all (fun x => decide (1 ≤ x.num) && decide (x.num ≤ 16)) && decide ((ss.map Sess.num).Nodup)

/-- No session of a list has more than 8 requests outstanding (R144). -/
def outstOk (ss : List Sess) : Bool := ss.all fun x => decide (x.outst.length ≤ 8)

/-- The number of instances of everything that comes in a fixed number: 7 strings (and index 0), 8 dies, 32 control channels
with their trace buffers, 3 CAN channels, 4 pacer outputs, 2 capture inputs. -/
def State.sized (s : State) : Bool :=
  s.strs.length == 8 && s.dies.length == 8 && s.traces.length == 32 && s.chans.length == 32 && s.can.length == 3 &&
    s.pouts.length == 4 && s.caps.length == 2

/-- A sound state: the registers, the stored configuration and its kept copy are each in their canonical order, so that equal
contents are equal data; instances are in their numbers; sessions are numbered as R137 says and hold at most 8 requests. -/
def State.inv (s : State) : Bool :=
  s.objs.sorted && s.nv.store.sorted && s.nv.kept.sorted && s.sized && numsOk s.mbx.sess && outstOk s.mbx.sess

/-- What no command takes back or touches: the queue is not the command's; the clock and what has been sent only grow; what the
factory left in the module stays (R1, R97); fuses only rise (R520) and a decommissioned module stays so (R548). A sound state
stays sound. -/
structure Keeps (s u : State) : Prop where
  pending : u.pending = s.pending
  now : s.now ≤ u.now
  free : s.free ≤ u.free
  out : s.out <:+ u.out
  variant : u.nv.variant = s.nv.variant
  serial : u.nv.serial = s.nv.serial
  hwIssue : u.nv.hwIssue = s.nv.hwIssue
  romVersion : u.nv.romVersion = s.nv.romVersion
  macA : u.nv.macA = s.nv.macA
  macB : u.nv.macB = s.nv.macB
  fuse : s.nv.fuseIndex ≤ u.nv.fuseIndex
  dead : s.nv.decommissioned = true → u.nv.decommissioned = true
  boots : s.nv.bootCount ≤ u.nv.bootCount
  inv : s.inv = true → u.inv = true

/-- A set of register places: one field of every instance with its copies, or a whole object. -/
structure Area where
  obj : Nat
  pos : Nat
  stride : Nat
  all : Bool
  deriving DecidableEq, Repr

/-- The places of a field. -/
def Fld.area (f : Fld) : Area := ⟨f.obj, f.pos, f.stride, false⟩

/-- The places of an object. -/
def Area.whole (obj : Nat) : Area := ⟨obj, 0, 0, true⟩

/-- Two areas are one. -/
def Area.same (a b : Area) : Bool := a.obj == b.obj && a.pos == b.pos && a.stride == b.stride && a.all == b.all

/-- A place lies in an area. -/
def Area.covers (a : Area) (k : Key) : Bool :=
  k.obj == a.obj && (a.all || k.pos == a.pos || (a.stride != 0 && decide (a.pos ≤ k.pos) && (k.pos - a.pos) % (8 * a.stride) == 0))

end Sys2Proof.Machine
end

