-- ==== Sys2Proof/Reach.lean ====
section
/-! DEFINITION. What each command may change: registers, field by field, and the hidden parts of the state. Every command is
held to its row by a statement of Certificates/Slice0/Obligations.lean. -/

namespace Sys2Proof.Machine

open Obj

/-- A hidden part of the state: everything beside the registers, the clock and the queue. -/
inductive Part where
  | clk | nv | power | panel | boot | sec | mbx | hist | i2c | safe | strs | traces | dies
  | thermal | ledger | upd | can | chans | blk | coll | time | pouts | caps | free | out
  deriving DecidableEq, Repr

/-- A part is the same in two states. -/
def Part.same (p : Part) (s u : State) : Prop :=
  match p with
  | .clk => u.clk = s.clk
  | .nv => u.nv = s.nv
  | .power => u.power = s.power
  | .panel => u.panel = s.panel
  | .boot => u.boot = s.boot
  | .sec => u.sec = s.sec
  | .mbx => u.mbx = s.mbx
  | .hist => u.hist = s.hist
  | .i2c => u.i2c = s.i2c
  | .safe => u.safe = s.safe
  | .strs => u.strs = s.strs
  | .traces => u.traces = s.traces
  | .dies => u.dies = s.dies
  | .thermal => u.thermal = s.thermal
  | .ledger => u.ledger = s.ledger
  | .upd => u.upd = s.upd
  | .can => u.can = s.can
  | .chans => u.chans = s.chans
  | .blk => u.blk = s.blk
  | .coll => u.coll = s.coll
  | .time => u.time = s.time
  | .pouts => u.pouts = s.pouts
  | .caps => u.caps = s.caps
  | .free => u.free = s.free
  | .out => u.out = s.out

/-- What may change: any register or those of some areas, and some parts. -/
structure Reach where
  any : Bool
  regs : List Area
  parts : List Part
  deriving DecidableEq, Repr

/-- Nothing changes but the clock and what a reach names. -/
def Only (r : Reach) (s u : State) : Prop :=
  u.pending = s.pending ∧ (∀ k, r.any = false → r.regs.any (fun a => a.covers k) = false → u.objs.get? k = s.objs.get? k) ∧
    ∀ p, p ∉ r.parts → p.same s u

/-- The registers that change where: an event is recorded. -/
def byRecord : List Area :=
  [HistoryStatus.DAMAGED_BLOCKS.area, HistoryStatus.EVENTS_RECORDED.area, I2cStatus.ATTN_PENDING.area]

/-- The registers that change where: an address byte arrives. -/
def byAddressed : List Area :=
  [I2cStatus.BUS_STUCK.area, I2cStatus.TRANSACTIONS.area, I2cStatus.WAKE_NACKS.area]

/-- The registers that change where: the configured rate and the shifts of a string are derived afresh; the sprint of a TMX-S2 is held while a relay handover is under way (R101, R200, R552). -/
def byRateRefresh : List Area :=
  [StringPower.BACKUP_SHIFT.area, LapStatus.SPRINT_IN_FORCE.area, LapStatus.SPRINT_HELD.area]

/-- The registers that change where: content is dropped because the channel does not run (R482). -/
def byCanDrop : List Area :=
  [StringDispatch.FRAME_FAILED.area, CanObject.TX_PENDING.area, CanObject.FAIL_CAUSE.area]

/-- The registers that change where: NODE_UPDATE follows (Table 20.10). -/
def byUpdateRegs : List Area :=
  [NodeUpdate.NODE_UPDATE_STATE.area, NodeUpdate.NODES_CURRENT.area, NodeUpdate.NODES_PENDING.area,
    NodeUpdate.NODES_INCOMPATIBLE.area, NodeUpdate.NODES_FAILED.area]

/-- The registers that change where: A session ends: its transaction is aborted, its streams close, replies still due are discarded, a calibration procedure it holds is abandoned, and a presence token bound to it serves nobody. -/
def byEndSession : List Area :=
  [.whole 0x108, SessionStatus.REQUESTS.area, LedgerStatus.EXPORT_STATE.area, LedgerStatus.RESTORE_RESULT.area,
    ConfigFormat.UPLOAD_ACTIVE.area, ConfigFormat.UPLOAD_RESULT.area]

/-- The registers that change where: HISTORY_STATUS follows the rings. -/
def byHistRegs : List Area :=
  [HistoryStatus.PINNED_BLOCKS.area, HistoryStatus.DAMAGED_BLOCKS.area, HistoryStatus.HEAD_SEQ.area,
    HistoryStatus.OLDEST_SEQ.area, HistoryStatus.OLDEST_TIME.area, HistoryStatus.PIN_COUNT.area]

/-- The registers that change where: TIME_STATUS, the domains and REFCLK_DEV report the servos as they stand (R31, R455, R461, R467). -/
def byTimeRegs : List Area :=
  [ModuleHealth.REFCLK_DEV.area, ModuleHealth.REFCLK_DRIFT.area, TimeStatus.TIME_ERROR_EST.area,
    TimeStatus.RATE_IN_FORCE.area, TimeStatus.SLEW_REMAINING.area, PtpDomain.OFFSET.area, PtpDomain.RATE.area]

/-- The registers that change where: A presence event creates a token of its source: 1 button, 2 jumper. -/
def byPresenceEvent : List Area :=
  byRecord ++ [SecurityStatus.COMMISSIONING_OPEN.area, PresenceStatus.TOKEN_STATE.area, PresenceStatus.TOKEN_SOURCE.area,
    PresenceStatus.BOUND_SESSION.area, PresenceStatus.PRESENCE_EVENTS.area, PresenceStatus.LAST_PRESENCE_TIME.area]

/-- The registers that change where: A coil picks up. -/
def byCoilOn : List Area :=
  [InsulationStatus.R_ISO.area, InsulationStatus.R_ISO_POS.area, InsulationStatus.R_ISO_NEG.area,
    InsulationStatus.PAUSED_PRECHARGE.area, InsulationStatus.BUS_PASSIVE.area, InsulationStatus.IMD_STATE.area,
    ProtectionStatus.POS_ON.area, ProtectionStatus.NEG_ON.area, ProtectionStatus.PRE_ON.area]

/-- The registers that change where: the identity and the properties of the selected master are recorded. -/
def byMasterRegs : List Area :=
  [PtpDomain.GM_CLOCK_CLASS.area, PtpDomain.GM_PRIORITY1.area, PtpDomain.GM_ACCURACY.area, PtpDomain.GM_IDENTITY.area,
    PtpDomain.STEPS_REMOVED.area, PtpDomain.UTC_OFFSET.area, PtpDomain.LEAP59.area, PtpDomain.LEAP61.area,
    PtpDomain.PTP_TIMESCALE.area]

/-- The registers that change where: UPDATE_STATUS and CONFIG_FORMAT follow the slots, the fuses, the staged node image and the configuration copies. -/
def bySlotRegs : List Area :=
  [UpdateStatus.SLOT_A_STATE.area, UpdateStatus.SLOT_B_STATE.area, UpdateStatus.SLOT_A_VERSION.area,
    UpdateStatus.SLOT_B_VERSION.area, UpdateStatus.SLOT_A_ROLLBACK_INDEX.area, UpdateStatus.SLOT_B_ROLLBACK_INDEX.area,
    UpdateStatus.FUSE_ROLLBACK_INDEX.area, UpdateStatus.STAGED_NODE_VERSION.area, UpdateStatus.STAGED_NODE_SIZE.area,
    ConfigFormat.FORMAT_KEPT.area, ConfigFormat.KEPT_TIME.area]

/-- The registers that change where: A string's laps stop after the lap in progress (Table 7.1); a restore no longer awaits it (R354). -/
def byStopLaps : List Area :=
  byRecord ++ [PowerStatus.POWER_STATE.area, PowerStatus.SUPPLY_SOURCE.area, PowerStatus.SPRINT_ACTIVE.area,
    PowerStatus.LAST_CHANGE_TIME.area, BootStatus.LEDGER_STATE.area, BootStatus.RESTORE_TIME.area, LapStatus.LAP_STATE.area,
    HistoryStatus.COMPRESSION_PAUSED.area, LedgerStatus.RESTORE_DISCARDED.area]

/-- The registers that change where: ELIGIBLE follows R433, and a manager that is not eligible resigns. -/
def byRoleCheck : List Area :=
  byRecord ++ [BlockStatus.ROLE.area, BlockStatus.MANAGER_BLOCK_ID.area, BlockStatus.ELIGIBLE.area,
    BlockStatus.HOLDING.area, BlockStatus.POWER_CLIPPED.area, BlockStatus.HOST_TIMEOUT_ACTIVE.area,
    BlockStatus.ROLE_EPOCH.area, BlockStatus.STALE_MASK.area, BlockStatus.BLOCK_CHG_LIMIT.area,
    BlockStatus.BLOCK_DIS_LIMIT.area]

/-- The registers that change where: the ring's state and segments become those given; a change is recorded as event 0x0401, with the node and the cause, and counted (R194). -/
def bySetSegments : List Area :=
  byRecord ++ [RingStatus.RING_STATE.area, RingStatus.SEG_A_NODES.area, RingStatus.SEG_B_NODES.area,
    RingStatus.UNREACHABLE_NODES.area, RingStatus.JOINT_READY.area, RingStatus.T_AB.area, RingStatus.LAST_BREAK_TIME.area,
    RingStatus.LAST_CLOSE_TIME.area, Topology.REACH.area, RingCounters.TURNAROUNDS.area, RingCounters.RING_CLOSURES.area]

/-- The registers that change where: no manager is known: set-points and limits to the PCS go to 0 (R123, R438, R447). -/
def byForgetManager : List Area :=
  byCanDrop ++ [ChannelStatus.OUTPUT_LIMITED.area, ChannelStatus.OUTPUT.area, ChannelStatus.CLAMP_HIGH.area,
    ChannelStatus.CLAMP_LOW.area, StringDispatch.SETPOINT.area, StringDispatch.CHARGE_LIMIT_SENT.area,
    StringDispatch.DISCHARGE_LIMIT_SENT.area, StringDispatch.VIA_CHANNEL.area, StringDispatch.PCS_CFG_FAULT.area,
    StringDispatch.DISPATCH_SEQ.area, StringDispatch.FRAMES_SENT.area, StringDispatch.LAST_SENT_TIME.area,
    CanObject.TX_REPLACED.area, CanObject.DATA.area]

/-- The registers that change where: A channel misses a sample: its output stays, and at MISS_LIMIT it enters SAFE (R424, R425). -/
def byMissSample : List Area :=
  byRecord ++ byCanDrop ++ [TraceStatus.SAMPLES_HELD.area, TraceStatus.CAPTURE_PENDING.area, TraceStatus.CAPTURE_VALID.area,
    TraceStatus.TRIGGERS.area, TraceStatus.TRIGGERS_MERGED.area, TraceStatus.CAPTURES_REFUSED.area,
    HvacConfig.HVAC_MODE.area, HvacConfig.HVAC_CFG_FAULT.area, HvacConfig.HVAC_SENT.area, ChannelStatus.CHANNEL_STATE.area,
    ChannelStatus.DEADLINE_MISS.area, ChannelStatus.SAFE_SEEN.area, ChannelStatus.MISS_SEEN.area,
    ChannelStatus.INPUT_MISSING.area, ChannelStatus.OUTPUT_LIMITED.area, ChannelStatus.MISS_RUN.area,
    ChannelStatus.OUTPUT.area, ChannelStatus.SAMPLES.area, ChannelStatus.DEADLINE_MISSES.area,
    ChannelStatus.SAFE_ENTRIES.area, ChannelStatus.SAMPLES_SKIPPED.area, ChannelStatus.NOT_BLED.area,
    ChannelStatus.LAST_SAMPLE_TIME.area, ChannelStatus.LAST_SAFE_TIME.area, CanObject.TX_REPLACED.area, CanObject.DATA.area]

/-- The registers that change where: the results of a lap are derived once its corrections are made: anchors, divergence, STRING_STATE and the result set (R47, R328 to R340, R356). -/
def byBuildResult : List Area :=
  byRecord ++ [DieStatus.RESULT_LATE.area, DieStatus.RESULT_LATE_COUNT.area, StringState.STRING_SOC.area,
    StringState.SOC_MIN.area, StringState.SOC_MAX.area, StringState.SOH_MEAN.area, StringState.SOH_MIN.area,
    StringState.SENTINELS_IDLE.area, StringState.RESTING.area, StringState.REST_CAL_REQUEST.area,
    StringState.DIVERGE_ACTIVE.area, StringState.LEDGER_DERATED.area, StringState.NA_LIMITED.area,
    StringState.CHARGE_LIMIT.area, StringState.DISCHARGE_LIMIT.area, StringState.CELL_CHARGE_LIMIT.area,
    StringState.CELL_DISCHARGE_LIMIT.area, StringState.F_LEDGER.area, StringState.F_DIVERGE.area,
    StringState.F_THERMAL.area, StringState.DEFAULT_POSITIONS.area, StringState.DIVERGE_POSITIONS.area,
    StringState.CAPACITY_MIN.area, StringState.REST_ELAPSED.area, StringState.LAST_ANCHOR_TIME.area,
    DivergeStatus.TOPO_EPOCH.area, DivergeStatus.ENTRY_COUNT.area, DivergeStatus.DIVERGE_OVERFLOW.area,
    DivergeStatus.POSITION.area, DivergeStatus.KIND.area, DivergeStatus.STATE.area, DivergeStatus.Z_CC.area,
    DivergeStatus.Z_OCV.area, DivergeStatus.DETAIL.area, DivergeStatus.TIMER.area]

/-- The registers that change where: A peer message arrives; what is accepted is served by its own kind, whichever command brings it. -/
def byHearPeer : List Area :=
  byForgetManager ++ byRoleCheck ++ [BlockStatus.MEMBER_COUNT.area, BlockStatus.BLOCK_ID_CONFLICT.area,
    BlockStatus.CONFIG_MISMATCH.area, BlockStatus.MEMBER_MASK.area, BlockStatus.BLOCK_POWER_TARGET.area,
    BlockStatus.BLOCK_POWER_APPLIED.area, BlockStatus.MANAGER_LOSSES.area, BlockStatus.STALE_ALLOCATIONS.area,
    BlockStatus.ROLE_TIME.area, CollectorStatus.PEER_REJECTED.area]

/-- The registers that change where: A string is opened at once: every coil off, OPEN, what is under way answered, and event 0x0B05 with its cause where the string was CLOSED or OPENING (or CLOSING, for the protection path, R44). -/
def byOpenNow : List Area :=
  byForgetManager ++ byCoilOn ++ byRecord ++ [SessionStatus.REQUESTS.area, MeasurementSlot.SLOT_VALUE.area,
    MeasurementSlot.EXTEND_COUNT.area, MeasurementSlot.LAST_EXTEND_TIME.area, WireStatus.TEST_DEFERRED.area,
    ProtectionStatus.SEQ_STATE.area, ProtectionStatus.CLOSING_STEP.area, ProtectionStatus.INHIBIT.area,
    SecurityStatus.SECURITY_STATE.area, SecurityStatus.DEBUG_LEVEL.area, SecurityStatus.DEBUG_TAINTED.area,
    SecurityStatus.LAST_CHANGE_SESSION.area, SecurityStatus.STATE_CHANGES.area, SecurityStatus.LAST_CHANGE_TIME.area]

/-- The registers that change where: the members of a group that are due at an instant are sampled: a missing input leaves its member open until the deadline; the hand-over is decided first, then the law of the active member applies (R426, R427). -/
def bySampleGroup : List Area :=
  byMissSample ++ [SequenceResults.INJECT_REFUSED_SEEN.area, SequenceResults.INJECTED.area,
    SequenceResults.INJECT_REFUSED.area, SequenceResults.ABORTS.area, ChannelStatus.REGION.area, ChannelStatus.RAMPING.area,
    ChannelStatus.INPUT.area, ChannelStatus.SETPOINT_IN_FORCE.area, ChannelStatus.ERROR.area, ChannelStatus.CLAMP_HIGH.area,
    ChannelStatus.CLAMP_LOW.area, ChannelStatus.HANDOVERS.area, ChannelStatus.WORST_LATENCY_1S.area,
    PacerOutput.LINE_CLAIMED.area, CanObject.OWNER.area]

/-- The registers that change where: HOLDUP is entered with its last-gasp CAUSE. -/
def byEnterHoldup : List Area :=
  byForgetManager ++ byRoleCheck ++ byStopLaps ++ [SessionStatus.REQUESTS.area, PowerStatus.AUX_QUALIFYING.area,
    PowerStatus.TAP_RUNNING.area, PowerStatus.BACKUP_TIME.area, StringPower.BACKUP_SHIFT.area,
    LedgerStatus.EXPORT_STATE.area, LedgerStatus.RESTORE_RESULT.area, ConfigFormat.UPLOAD_ACTIVE.area,
    ConfigFormat.UPLOAD_RESULT.area]

/-- The registers that change where: what follows each sample and each change of a domain. -/
def byTimeCheck : List Area :=
  byRoleCheck ++ byTimeRegs ++ [SequenceResults.INJECT_REFUSED_SEEN.area, SequenceResults.INJECTED.area,
    SequenceResults.INJECT_REFUSED.area, SequenceResults.ABORTS.area, ChannelStatus.SAMPLES_SKIPPED.area,
    TimeStatus.TIME_STATE.area, TimeStatus.DOMAIN_IN_USE.area, TimeStatus.UTC_OFFSET_VALID.area, TimeStatus.LEAP59.area,
    TimeStatus.LEAP61.area, TimeStatus.TIMESCALE_ARB.area, TimeStatus.SLEWING.area, TimeStatus.DOMAIN_DISAGREE.area,
    TimeStatus.FIRST_LOCK_DONE.area, TimeStatus.UTC_OFFSET.area, TimeStatus.STEPS.area, TimeStatus.SWITCHES.area,
    TimeStatus.LAST_STEP.area, TimeStatus.LAST_STEP_TIME.area, TimeStatus.FIRST_LOCK_TIME.area,
    PacerOutput.SCHEDULE_STATE.area, PacerOutput.LATE_SEEN.area, PacerOutput.INJECT_REFUSED_SEEN.area,
    PacerOutput.FIRED.area, PacerOutput.SKIPPED.area, PacerOutput.LATE_FIRED.area, PacerOutput.INJECT_REFUSED.area,
    PacerOutput.LAST_FIRE_TIME.area, PacerOutput.NEXT_FIRE_TIME.area, CaptureInput.WINDOW_STATE.area]

/-- The registers that change where: the security state changes for a cause of event 0x1301; calibration procedures end with SERVICE (R285), and a manager that is no longer eligible resigns. -/
def byMoveSecurity : List Area :=
  byOpenNow ++ byRoleCheck

/-- The registers that change where: A string trips: every coil off, TRIPPED, the entry, event 0x0B01, and what is under way answered (Table 13.3). -/
def byTrip : List Area :=
  byOpenNow ++ byHistRegs ++ [ModuleTerminals.SAFE_LOOP_OUT_OPEN.area, HistoryStatus.PINS_RELEASED_EARLY.area,
    ProtectionStatus.LATCH_CAUSE.area, ProtectionStatus.LATCH_TIME.area, ProtectionStatus.LATCH_ENTRY.area,
    ProtectionStatus.TRIPS.area, TripLog.STRING.area, TripLog.CAUSE.area, TripLog.LATCHED.area, TripLog.SECONDARY.area,
    TripLog.CLEARED.area, TripLog.COIL_SUPPLY_LOW.area, TripLog.CONN_OPEN.area, TripLog.COMPARATOR_ORIGIN.area,
    TripLog.LOOP_BREAK.area, TripLog.WIRE_CORRELATED.area, TripLog.NODE.area, TripLog.CHANNEL.area, TripLog.TOPO_EPOCH.area,
    TripLog.VALUE.area, TripLog.LIMIT.area, TripLog.TRIP_TIME.area, TripLog.CLEAR_TIME.area, TripLog.CLEAR_SESSION.area,
    TripLog.BOOT_COUNT.area]

/-- The registers that change where: WIRE_STATUS and the diagnostic flag of a wire state follow the wires (Table 8.8, Table 13.2). -/
def byWireRegs : List Area :=
  byTrip ++ [WireStatus.ENTRY_COUNT.area, WireStatus.WIRE_OVERFLOW.area, WireStatus.NODE.area, WireStatus.WIRE.area,
    WireStatus.STATE.area, WireStatus.LAST_RESULT.area, WireStatus.BOUND.area, ProtectionStatus.WARN.area]

/-- The registers that change where: the outcome of a node command goes to its owner. -/
def byOwnerEnd : List Area :=
  byWireRegs ++ byUpdateRegs ++ [Topology.UNAUTHENTICATED.area, Topology.DELAY_A.area, Topology.DELAY_B.area,
    RingCounters.DELAY_UPDATES.area, NodeStatus.NODE_FAULT.area, NodeStatus.CMP_LATCHED.area,
    NodeStatus.UNAUTHENTICATED.area, NodeStatus.AUTH_FAILED.area, NodeStatus.CMP_CONFIG_FAULT.area,
    NodeStatus.CMP_OV_MASK.area, NodeStatus.CMP_UV_MASK.area, NodeStatus.OV_THRESH.area, NodeStatus.UV_THRESH.area,
    NodeStatus.BLEED_MASK.area, NodeStatus.BLEED_REMAIN.area, NodeStatus.NODE_TEMP.area, NodeStatus.CMP_TEST_FAIL.area,
    NodeStatus.THERM_T.area, NodeStatus.WIRE_TESTS.area, NodeAuth.AUTH_STATE.area, NodeAuth.FAIL_REASON.area,
    NodeAuth.ATTEMPTS.area, NodeAuth.CERT_DIGEST.area, NodeAuth.AUTH_TIME.area, LedgerStatus.ENTRIES_HELD.area,
    LedgerStatus.ENTRIES_UNUSED.area, LedgerStatus.ENTRIES_PENDING.area, NodeUpdate.COPY_SERIAL.area,
    NodeUpdate.COPY_BYTES.area, NodeUpdate.REVERTS.area]

/-- Parts that several commands may change. -/
def parts0 : List Part := [.clk, .nv, .panel, .sec, .mbx, .hist, .i2c, .safe, .strs, .traces, .thermal, .ledger, .can,
    .chans, .blk, .time, .pouts, .free, .out]

/-- Parts that several commands may change. -/
def parts1 : List Part := [.nv, .panel, .sec, .mbx, .hist, .i2c, .safe, .strs, .can, .chans, .out]

/-- Parts that several commands may change. -/
def parts2 : List Part := [.clk, .nv, .power, .panel, .boot, .sec, .mbx, .hist, .i2c, .safe, .strs, .traces, .dies,
    .thermal, .ledger, .upd, .can, .chans, .blk, .coll, .time, .pouts, .caps, .free, .out]

/-- Parts that several commands may change. -/
def parts3 : List Part := [.panel, .mbx, .hist, .i2c, .out]

/-- Parts that several commands may change. -/
def parts4 : List Part := [.panel, .sec, .mbx, .hist, .i2c, .strs, .can, .chans, .out]

/-- Parts that several commands may change. -/
def parts5 : List Part := [.panel, .mbx, .hist, .i2c, .can, .chans, .blk, .out]

/-- Parts that several commands may change. -/
def parts6 : List Part := [.panel, .mbx, .hist, .i2c, .blk, .out]

/-- Parts that several commands may change. -/
def parts7 : List Part := [.sec, .mbx, .hist, .strs, .out]

/-- Parts that several commands may change. -/
def parts8 : List Part := [.panel, .mbx, .hist, .i2c, .strs, .out]

/-- Parts that several commands may change. -/
def parts9 : List Part := [.clk, .nv, .power, .panel, .boot, .sec, .mbx, .hist, .i2c, .safe, .strs, .traces, .dies,
    .thermal, .ledger, .upd, .can, .chans, .blk, .coll, .time, .pouts, .caps, .out]

/-- Parts that several commands may change. -/
def parts10 : List Part := [.clk, .panel, .mbx, .hist, .i2c, .strs, .chans, .blk, .time, .pouts, .out]

/-- Parts that several commands may change. -/
def parts11 : List Part := [.panel, .sec, .mbx, .hist, .i2c, .strs, .can, .chans, .blk, .out]

/-- Parts that several commands may change. -/
def parts12 : List Part := [.panel, .mbx, .hist, .i2c, .strs, .traces, .thermal, .can, .chans, .pouts, .free, .out]

/-- Parts that several commands may change. -/
def parts13 : List Part := [.power, .panel, .boot, .sec, .mbx, .hist, .i2c, .strs, .ledger, .can, .chans, .out]

/-- Parts that several commands may change. -/
def parts14 : List Part := [.nv, .power, .panel, .sec, .mbx, .hist, .i2c, .safe, .strs, .ledger, .can, .chans, .free, .out]

/-- Parts that several commands may change. -/
def parts15 : List Part := [.panel, .sec, .mbx, .hist, .i2c, .safe, .strs, .can, .chans, .out]

/-- What a command may change. -/
def reachOf (c : Instr) : Reach :=
  match c with
  | .auxMainsEvaluation _ _ _ _ _ => ⟨false, [PowerStatus.SUPPLY_SOURCE.area, PowerStatus.AUX_QUALIFYING.area,
      PowerStatus.AUX_DC.area, PowerStatus.AUX_PRESENT.area, PowerStatus.TAP_RUNNING.area, PowerStatus.AUX_V.area,
      PowerStatus.AUX_FREQ.area, PowerStatus.INPUT_POWER.area, PowerStatus.AUX_INTERRUPTIONS.area], [.power]⟩
  | .auxInterruptionExceeded _ => ⟨true, [], parts2⟩
  | .startFromOff _ _ _ _ _ _ _ _ => ⟨true, [], parts9⟩
  | .auxReturnQual _ => ⟨true, [], parts2⟩
  | .tapConverterStop _ _ => ⟨true, [], parts2⟩
  | .tapOverload _ _ => ⟨false, [PowerStatus.TAP_OVERLOAD.area], []⟩
  | .lastGasp _ => ⟨false, [], [.power, .mbx, .out]⟩
  | .holdupShed _ => ⟨false, [I2cStatus.PORT_STATE.area], [.power, .pouts, .out]⟩
  | .holdupOpenDelay _ => ⟨false, byOpenNow, [.power, .panel, .sec, .mbx, .hist, .i2c, .strs, .can, .chans, .out]⟩
  | .holdupClosed _ => ⟨false, byHistRegs ++ [HistoryStatus.PINS_RELEASED_EARLY.area, HistoryStatus.EVENTS_RECORDED.area,
      I2cStatus.ATTN_PENDING.area], parts3⟩
  | .holdupHalt _ _ => ⟨true, [], parts9⟩
  | .holdupReadyCleared _ _ => ⟨false, byRecord ++ [PowerStatus.HOLDUP_READY.area, PowerStatus.HOLDUP_ENERGY.area], parts3⟩
  | .holdupReadySet _ _ => ⟨false, [PowerStatus.HOLDUP_READY.area, PowerStatus.HOLDUP_ENERGY.area,
      BootStatus.START_PHASE.area], [.boot]⟩
  | .enterTransport _ _ _ => ⟨false, [SessionStatus.REQUESTS.area, PresenceStatus.TOKEN_STATE.area,
      PresenceStatus.BOUND_SESSION.area, PresenceStatus.TOKENS_USED.area], [.nv, .power, .sec, .mbx, .strs, .out]⟩
  | .transportConfirm _ _ => ⟨false, [SessionStatus.REQUESTS.area, PowerStatus.TAP_RUNNING.area,
      PowerStatus.TRANSPORT_ABORT.area], [.nv, .power, .mbx, .strs, .out]⟩
  | .transportDiesOff _ => ⟨true, [], parts2⟩
  | .transportWake _ _ _ _ _ _ _ _ _ _ _ => ⟨true, [], parts9⟩
  | .coilSupplyThreshold _ _ => ⟨false, byOpenNow ++ [ModuleTerminals.COIL_SUPPLY_LOW.area,
      ModuleTerminals.COIL_SUPPLY_HIGH.area, ModuleTerminals.COIL_SUPPLY_V.area], parts4⟩
  | .connOpenChanged _ _ _ => ⟨false, byOpenNow ++ [StringTerminals.CONN_OPEN.area, StringTerminals.CONN_OPEN_COUNT.area],
      parts4⟩
  | .switchReading _ _ _ _ _ => ⟨false, byOpenNow ++ [ModuleIdentity.STRING_ENABLE.area, ModuleIdentity.BLOCK_ID.area,
      ModuleTerminals.PROFILE_APPLIED.area, ModuleTerminals.PROFILE_SWITCH.area, ModuleTerminals.BLOCK_SWITCH.area,
      ModuleTerminals.I2C_ADDR_SWITCH.area, ModuleTerminals.MASK_SWITCH.area, ModuleTerminals.SWITCH_CHANGED.area,
      StringState.CHARGE_LIMIT.area, StringState.DISCHARGE_LIMIT.area, ProtectionStatus.PROFILE_CRC_IN_FORCE.area,
      I2cStatus.TARGET_ADDR.area], parts4⟩
  | .switchFaultRetry _ _ _ _ _ => ⟨false, byOpenNow ++ [ModuleIdentity.STRING_ENABLE.area, ModuleIdentity.BLOCK_ID.area,
      ModuleTerminals.PROFILE_APPLIED.area, ModuleTerminals.PROFILE_SWITCH.area, ModuleTerminals.BLOCK_SWITCH.area,
      ModuleTerminals.I2C_ADDR_SWITCH.area, ModuleTerminals.MASK_SWITCH.area, ModuleTerminals.SWITCH_CHANGED.area,
      StringState.CHARGE_LIMIT.area, StringState.DISCHARGE_LIMIT.area, ProtectionStatus.PROFILE_CRC_IN_FORCE.area,
      I2cStatus.TARGET_ADDR.area], parts4⟩
  | .sealOpen _ => ⟨false, [ModuleTerminals.SEAL_OPENED.area, ModuleTerminals.SEAL_OPEN.area,
      ModuleTerminals.SEAL_OPEN_COUNT.area, ModuleTerminals.SEAL_OPEN_TIME.area, I2cStatus.ATTN_PENDING.area], [.panel,
      .i2c]⟩
  | .presenceButtonPress _ _ => ⟨false, [], [.panel]⟩
  | .presenceEvent _ _ => ⟨false, byPresenceEvent ++ [ModuleTerminals.PRESENCE_STUCK.area], [.panel, .sec, .mbx, .hist,
      .i2c, .out]⟩
  | .presenceStuck _ _ => ⟨false, [ModuleTerminals.PRESENCE_STUCK.area], [.panel]⟩
  | .jSvcFitted _ _ => ⟨false, byPresenceEvent ++ [ModuleTerminals.J_SVC_FITTED.area], [.panel, .sec, .mbx, .hist, .i2c,
      .out]⟩
  | .tokenExpired _ => ⟨false, [SecurityStatus.COMMISSIONING_OPEN.area, PresenceStatus.TOKEN_STATE.area,
      PresenceStatus.TOKEN_SOURCE.area, PresenceStatus.BOUND_SESSION.area, PresenceStatus.TOKENS_EXPIRED.area], [.sec]⟩
  | .displayBlank _ => ⟨false, [], [.panel]⟩
  | .journalReplayed _ => ⟨true, [], [.nv, .panel, .boot, .safe, .strs, .thermal]⟩
  | .runtimeStart _ _ _ => ⟨false, byMoveSecurity ++ byRateRefresh ++ [MailboxStatus.NET_A_LINK.area,
      MailboxStatus.NET_B_LINK.area, PowerStatus.POWER_STATE.area, PowerStatus.SUPPLY_SOURCE.area,
      PowerStatus.LAST_CHANGE_TIME.area, BootStatus.START_PHASE.area, BootStatus.START_TIME.area,
      RingStatus.ENUM_ACTIVE.area, RingCounters.FULL_ENUMERATIONS.area, HistoryStatus.LAP_RING_BLOCKS.area,
      CoulombStatus.SYSTEM_CAL.area, CoulombStatus.CHARGE_ZERO_TIME.area, SequenceResults.REF_SETTLED.area,
      SequenceResults.INJECT_REFUSED_SEEN.area, SequenceResults.REF_IN_FORCE.area, SequenceResults.INJECTED.area,
      SequenceResults.INJECT_REFUSED.area, SequenceResults.ABORTS.area, ChannelStatus.CHANNEL_STATE.area,
      ChannelStatus.MISS_RUN.area, ChannelStatus.LOAD_FLOOR.area, PtpDomain.DOMAIN_STATE.area, PtpDomain.LOCK_TIME.area,
      PacerOutput.SCHEDULE_STATE.area, PacerOutput.LINE_CLAIMED.area, PacerOutput.LATE_SEEN.area,
      PacerOutput.INJECT_REFUSED_SEEN.area, PacerOutput.FIRED.area, PacerOutput.SKIPPED.area, PacerOutput.LATE_FIRED.area,
      PacerOutput.INJECT_REFUSED.area, PacerOutput.LAST_FIRE_TIME.area, PacerOutput.NEXT_FIRE_TIME.area,
      CaptureInput.WINDOW_STATE.area, CaptureInput.LATE_OPEN.area, CanChannel.CHANNEL_STATE.area, CanChannel.TEC.area,
      CanChannel.REC.area, CanObject.OWNER.area, I2cStatus.PORT_STATE.area, SecurityStatus.TRUST_EMPTY.area,
      SecurityStatus.PEER_KEY_SET.area, SecurityStatus.PEER_KEY_ID.area], [.clk, .power, .panel, .boot, .sec, .mbx, .hist,
      .i2c, .strs, .can, .chans, .blk, .time, .pouts, .out]⟩
  | .enumerationComplete _ _ => ⟨false, [BootStatus.START_PHASE.area, RingStatus.ENUM_ACTIVE.area,
      Topology.NODE_SILENT.area, NodeStatus.NODE_SILENT.area], [.boot, .strs, .out]⟩
  | .historyInitComplete _ => ⟨false, [BootStatus.START_PHASE.area, HistoryStatus.INIT_PENDING.area], [.boot]⟩
  | .watchdogRestart _ _ => ⟨true, [], parts2⟩
  | .refclkFail _ => ⟨false, byOpenNow ++ byStopLaps ++ [ModuleHealth.REFCLK_FAIL.area], parts13⟩
  | .paceMeasurement _ _ _ => ⟨false, byRoleCheck ++ byStopLaps ++ [DieStatus.PACE.area, DieStatus.PACE_MIN_1S.area,
      DieStatus.EFFECTIVE_PACE.area, DieStatus.PACE_LOW.area, DieStatus.DIE_STALLED.area, DieStatus.RATE_SHIFT.area,
      DieStatus.RATE_SHIFT_CHANGES.area, DieStatus.PACE_LOW_TIME.area], [.power, .panel, .boot, .mbx, .hist, .i2c, .strs,
      .dies, .ledger, .blk, .out]⟩
  | .dieStalled _ _ _ => ⟨false, byStopLaps ++ [DieStatus.DIE_STALLED.area], [.power, .panel, .boot, .mbx, .hist, .i2c,
      .strs, .dies, .ledger, .out]⟩
  | .managerHeartbeatMissing _ _ _ => ⟨false, byOpenNow ++ byStopLaps, parts13⟩
  | .dramCorrectedError _ => ⟨false, [ModuleHealth.DRAM_CE_COUNT.area], []⟩
  | .dramUncorrectableError _ _ _ _ => ⟨true, [], parts2⟩
  | .scrubPass _ => ⟨false, [ModuleHealth.SCRUB_PASSES.area], []⟩
  | .lapFire _ _ _ => ⟨true, [], [.nv, .power, .panel, .boot, .sec, .mbx, .hist, .i2c, .safe, .strs, .thermal, .ledger,
      .can, .chans, .free, .out]⟩
  | .returnMissing _ _ _ _ => ⟨false, bySetSegments ++ [RingStatus.ENUM_ACTIVE.area, Topology.NODE_SILENT.area,
      RingCounters.RETURN_MISSING.area, LapStatus.LATE_SAMPLES_SENT.area, LapStatus.LATE_SAMPLES_WITHHELD.area,
      LapStatus.COLLECT_RETRIES.area, NodeStatus.NODE_SILENT.area], parts8⟩
  | .ringPortLineLost _ _ _ _ => ⟨false, bySetSegments ++ [RingStatus.PORT_A_LINK.area, RingStatus.PORT_B_LINK.area,
      RingCounters.CODE_VIOLATIONS_A.area, RingCounters.CODE_VIOLATIONS_B.area, LapStatus.LATE_SAMPLES_SENT.area,
      LapStatus.LATE_SAMPLES_WITHHELD.area], parts8⟩
  | .ringPortLinkReady _ _ _ => ⟨false, [RingStatus.PORT_A_LINK.area, RingStatus.PORT_B_LINK.area,
      RingStatus.JOINT_READY.area], [.strs, .out]⟩
  | .batonReceived _ _ _ _ _ _ => ⟨false, byOwnerEnd ++ bySetSegments ++ [RingStatus.ENUM_ACTIVE.area, RingStatus.T_BA.area,
      Topology.CMD_SEQ_FAULT.area, Topology.LINK_READY.area, Topology.TURNING.area, Topology.NODE_SILENT.area,
      Topology.CMD_COUNT.area, RingCounters.HEADER_CRC_ERRORS.area, RingCounters.BLOCK_CRC_ERRORS.area,
      RingCounters.BATONS_ABORTED.area, RingCounters.CMD_REPEATS.area, RingCounters.CMD_MISMATCHES.area,
      RingCounters.EPOCH_MISMATCHES.area, RingCounters.FULL_ENUMERATIONS.area, LapStatus.LATE_SAMPLES_SENT.area,
      LapStatus.LATE_SAMPLES_WITHHELD.area, LapStatus.COLLECT_RETRIES.area, NodeStatus.FW_MAJOR.area,
      NodeStatus.FW_MINOR.area, NodeStatus.FW_PATCH.area, NodeStatus.WIRE_TEST_ACTIVE.area, NodeStatus.BALANCE_ACTIVE.area,
      NodeStatus.NODE_SILENT.area, NodeStatus.CMD_SEQ_FAULT.area, NodeStatus.FLOOP_OPENED.area, NodeStatus.LAST_OUTCOME.area],
      parts14⟩
  | .collectionCutoff _ _ => ⟨false, [], [.strs]⟩
  | .lapDataComplete _ _ => ⟨false, byWireRegs ++ byBuildResult ++ [BootStatus.LEDGER_STATE.area,
      BootStatus.RESTORE_TIME.area, LapStatus.PARTIAL_SEEN.area, LapStatus.STITCHED_SEEN.area, LapStatus.WORST_SKEW_1S.area,
      LapStatus.WORST_SKEW_RUN.area, LapStatus.STITCHED_LAPS.area, LapStatus.PARTIAL_LAPS.area,
      LapStatus.HELD_POSITIONS.area, LapStatus.NA_POSITIONS.area, LapStatus.BLANK_SHORT_LAPS.area,
      LapStatus.LAST_STITCHED_TIME.area, LapStatus.LAST_PARTIAL_TIME.area, NodeStatus.SUM_MISMATCH.area,
      NodeStatus.STACK_V.area, NodeStatus.CELL_SUM.area, NodeStatus.SUM_DIFF.area, NodeStatus.CELL_V.area,
      NodeStatus.THERM_T.area, NodeStatus.LAST_RECORD_TIME.area, CoulombStatus.WARMUP_REMAIN.area, SequenceResults.AGE.area,
      FilterStatus.FILTER_STATE.area, FilterStatus.TABLE_IN_USE.area, FilterStatus.LAPS_UPDATED.area,
      FilterStatus.FALSE_STARTS.area, FilterStatus.POSITIONS_REPLAYED.area, FilterStatus.UPDATES_SKIPPED.area,
      FilterStatus.GATED_MEASUREMENTS.area, FilterStatus.RESEATS.area, FilterStatus.NUMERIC_RESETS.area,
      FilterStatus.LAST_FALSE_START_TIME.area, StringState.STEPS_DETECTED.area, StringState.STEPS_IGNORED.area,
      StringState.CAP_UPDATES.area, LedgerStatus.LEDGER_DIRTY.area, LedgerStatus.ENTRIES_HELD.area,
      LedgerStatus.ENTRIES_UNUSED.area, LedgerStatus.ENTRIES_PENDING.area, LedgerStatus.RESTORE_DISCARDED.area,
      ThermalConfig.DERATE_HOT_START.area, ThermalConfig.DERATE_HOT_END.area, ThermalConfig.DERATE_COLD_START.area,
      ThermalConfig.DERATE_COLD_END.area, StringDispatch.LOCAL_CLAMP.area, StringDispatch.CLAMP_EVENTS.area], [.nv, .panel,
      .sec, .mbx, .hist, .i2c, .safe, .strs, .thermal, .ledger, .can, .chans, .free, .out]⟩
  | .chargeArrival _ _ _ => ⟨false, [FilterStatus.FALSE_STARTS.area, FilterStatus.LAST_FALSE_START_TIME.area], [.strs]⟩
  | .resultInstant _ _ _ => ⟨false, byBuildResult ++ byForgetManager ++ [CoulombStatus.WARMUP_REMAIN.area,
      SequenceResults.AGE.area, StringState.CAP_UPDATES.area, StringDispatch.LOCAL_CLAMP.area,
      StringDispatch.CLAMP_EVENTS.area], [.panel, .mbx, .hist, .i2c, .strs, .ledger, .can, .chans, .free, .out]⟩
  | .sentinelFit _ _ => ⟨false, byRecord ++ [StringState.FITS_ACCEPTED.area, StringState.FITS_REJECTED.area], [.panel, .mbx,
      .hist, .i2c, .strs, .ledger, .free, .out]⟩
  | .falseStartSecond _ _ => ⟨false, byRecord ++ [FilterStatus.FILTER_STATE.area, FilterStatus.FALSE_START_RATIO_1S.area,
      FilterStatus.LANE_POSITIONS_MAX.area, FilterStatus.RUN_AHEAD_DEPTH_MAX.area, FilterStatus.LANE_LOAD_MAX.area,
      FilterStatus.HALF_RATE_SECONDS.area], parts8⟩
  | .shadowCheck _ _ _ => ⟨false, byRecord ++ [DieStatus.SELF_TEST_FAIL.area, FilterStatus.SHADOW_CHECKS.area,
      FilterStatus.SHADOW_MISMATCHES.area], parts8⟩
  | .incrementalRound _ _ => ⟨false, [RingStatus.JOINT_READY.area, RingStatus.ENUM_ACTIVE.area,
      RingStatus.LAST_ROUND_TIME.area, RingCounters.FULL_ENUMERATIONS.area], [.strs, .out]⟩
  | .newEpoch _ _ => ⟨false, [RingStatus.ENUM_ACTIVE.area], [.strs, .out]⟩
  | .cmdTimeout _ _ _ => ⟨false, byOwnerEnd ++ [RingStatus.ENUM_ACTIVE.area, RingCounters.CMD_TIMEOUTS.area], parts14⟩
  | .resultFetch _ _ _ => ⟨false, [], [.strs, .out]⟩
  | .ringClose _ _ => ⟨false, [RingStatus.JOINT_READY.area], [.strs, .out]⟩
  | .closeRequest _ _ _ => ⟨true, [], parts0⟩
  | .cmpTest _ _ => ⟨false, [], [.strs, .out]⟩
  | .routineWireTest _ _ => ⟨false, byWireRegs, parts1⟩
  | .runWireTest _ _ _ => ⟨false, [SessionStatus.REQUESTS.area], [.mbx, .strs, .out]⟩
  | .authRetry _ _ _ => ⟨false, [NodeAuth.AUTH_STATE.area, NodeAuth.ATTEMPTS.area], [.strs, .free, .out]⟩
  | .coulombSample _ _ _ => ⟨false, byTrip ++ [CoulombStatus.CURRENT.area, CoulombStatus.CURRENT_AVG_1S.area,
      CoulombStatus.CHARGE.area, CoulombStatus.SHUNT_V.area, CoulombStatus.OVERRANGE.area,
      CoulombStatus.OVERRANGE_SEEN.area, CoulombStatus.TEMP_COMP_LOST.area, CoulombStatus.SHUNT_TEMP_USED.area,
      CoulombStatus.OVERRANGE_COUNT.area], parts1⟩
  | .lapCurrentFrame _ _ _ _ => ⟨false, [CoulombStatus.LINK_FRAMES_LOST.area], [.strs]⟩
  | .warmupEnd _ _ => ⟨false, [CoulombStatus.WARMUP.area, CoulombStatus.WARMUP_REMAIN.area], []⟩
  | .sequencerEntry _ _ _ => ⟨false, byTrip ++ [StringTerminals.COIL_I_POS.area, StringTerminals.COIL_I_NEG.area,
      StringTerminals.COIL_I_PRE.area, SequenceResults.PASS_TIME.area, SequenceResults.PASSES.area,
      SequenceResults.RESULT.area, SequenceResults.ENG_VALUE.area, SequenceResults.VALID.area,
      SequenceResults.REF_UNSETTLED.area], parts1⟩
  | .injectedConversion _ _ _ _ _ => ⟨false, bySampleGroup ++ [PacerOutput.LAST_RESULT.area,
      PacerOutput.LAST_RESULT_TIME.area], parts12⟩
  | .refSettled _ _ => ⟨false, [SequenceResults.REF_SETTLED.area], [.strs]⟩
  | .calLowPoint _ _ _ => ⟨false, [SessionStatus.REQUESTS.area], [.mbx, .strs, .free, .out]⟩
  | .calHighPoint _ _ _ => ⟨false, [SessionStatus.REQUESTS.area], [.mbx, .strs, .free, .out]⟩
  | .calCaptureEnd _ _ => ⟨false, [SessionStatus.REQUESTS.area], [.mbx, .strs, .out]⟩
  | .calCommit _ _ _ => ⟨false, [SessionStatus.REQUESTS.area], [.mbx, .strs, .free, .out]⟩
  | .calAbort _ _ _ => ⟨false, [SessionStatus.REQUESTS.area], [.mbx, .strs, .free, .out]⟩
  | .calTimeout _ _ => ⟨false, [SessionStatus.REQUESTS.area], [.mbx, .strs, .out]⟩
  | .imdCycleEnd _ _ _ _ _ _ _ => ⟨false, byTrip ++ [InsulationStatus.C_Y.area, InsulationStatus.FAULT_POSITION.area,
      InsulationStatus.VALID.area, InsulationStatus.UNDER_RANGE.area, InsulationStatus.OVER_RANGE.area,
      InsulationStatus.SLOW_SETTLE.area, InsulationStatus.BUS_GROUP.area, InsulationStatus.RESULT_PERIOD.area,
      InsulationStatus.RESULT_TIME.area, InsulationStatus.RESULTS.area, ProtectionStatus.WARN.area], parts1⟩
  | .imdPauseEnd _ _ => ⟨false, [InsulationStatus.R_ISO.area, InsulationStatus.R_ISO_POS.area,
      InsulationStatus.R_ISO_NEG.area, InsulationStatus.PAUSED_PRECHARGE.area, InsulationStatus.BUS_PASSIVE.area,
      InsulationStatus.IMD_STATE.area], [.strs]⟩
  | .housekeepingRound _ _ => ⟨false, byTrip ++ [DieStatus.BREATHER_FRACTION.area, DieStatus.VCORE.area,
      DieStatus.DIE_TEMP_MAX.area, StringTerminals.SHUNT_TEMP.area, PowerStatus.POWER_STATE.area,
      PowerStatus.SUPPLY_SOURCE.area, PowerStatus.THROTTLE_ACTIVE.area, PowerStatus.LAST_CHANGE_TIME.area,
      HistoryStatus.COMPRESSION_PAUSED.area, CoulombStatus.COULOMB_MISMATCH.area, SequenceResults.REF_FAULT.area,
      SequenceResults.INJECTED.area, SequenceResults.ABORTS.area, ProtectionStatus.WARN.area, ThermalStatus.LEVEL.area,
      ThermalStatus.VALID_SENSORS.area, ThermalStatus.SENSOR_FAILED.area, ThermalStatus.NO_NEIGHBOUR.area,
      ThermalStatus.SENSORS_LOST.area, ThermalStatus.SENSOR_T.area, ThermalStatus.SENSOR_USED.area,
      ThermalStatus.T_CONTROL.area, ThermalStatus.BREATHER_FRACTION.area, ThermalStatus.THROTTLE_ENTRIES.area,
      ThermalStatus.THROTTLE_TIME.area, ThermalStatus.SENSOR_FAILS.area, ThermalStatus.BOARD_PSU_T.area,
      ThermalStatus.BOARD_LOGIC_T.area, ThermalStatus.BOARD_TAP_T.area, ThermalStatus.AIR_INLET_T.area,
      ThermalStatus.BOARD_HOT.area, ThermalStatus.AMBIENT_HIGH.area, ThermalStatus.LAST_ROUND_TIME.area,
      HvacConfig.HVAC_MODE.area, HvacConfig.TEMP_UNKNOWN.area, HvacConfig.CONFLICT.area, HvacConfig.HVAC_CFG_FAULT.area,
      HvacConfig.HVAC_SENT.area], [.nv, .power, .panel, .boot, .sec, .mbx, .hist, .i2c, .safe, .strs, .dies, .thermal, .can,
      .chans, .out]⟩
  | .hvacRequest _ => ⟨false, byCanDrop ++ [HvacConfig.HVAC_CFG_FAULT.area, HvacConfig.HVAC_SENT.area,
      CanObject.TX_REPLACED.area, CanObject.DATA.area], [.thermal, .can, .out]⟩
  | .calderaTrip _ _ _ => ⟨false, byCoilOn ++ [ModuleTerminals.SAFE_LOOP_OUT_OPEN.area, WireStatus.TEST_DEFERRED.area,
      ProtectionStatus.SEQ_STATE.area], [.nv, .panel, .boot, .mbx, .hist, .safe, .strs, .thermal, .pouts, .free, .out]⟩
  | .calderaRelease _ _ => ⟨true, [], parts9⟩
  | .closeString _ _ _ => ⟨false, [SessionStatus.REQUESTS.area, ProtectionStatus.SEQ_STATE.area,
      ProtectionStatus.CLOSING_STEP.area], [.mbx, .strs, .out]⟩
  | .closingStep _ _ => ⟨false, byTrip ++ [ProtectionStatus.WARN.area, ProtectionStatus.CLOSINGS.area,
      ProtectionStatus.WELD_UNCHECKED_COUNT.area, ProtectionStatus.PRECHARGE_TIME.area,
      ProtectionStatus.LAST_CLOSE_TIME.area], parts1⟩
  | .prechargeFail _ _ => ⟨false, byTrip, parts1⟩
  | .openString _ _ _ => ⟨false, byOpenNow ++ [ProtectionStatus.OPEN_UNDER_LOAD.area], parts4⟩
  | .openWait _ _ => ⟨false, byCoilOn, [.strs, .out]⟩
  | .negCoilOff _ _ => ⟨false, byCoilOn ++ byRecord ++ [SessionStatus.REQUESTS.area, MeasurementSlot.SLOT_VALUE.area,
      MeasurementSlot.EXTEND_COUNT.area, MeasurementSlot.LAST_EXTEND_TIME.area, ProtectionStatus.SEQ_STATE.area,
      ProtectionStatus.INHIBIT.area, SecurityStatus.SECURITY_STATE.area, SecurityStatus.DEBUG_LEVEL.area,
      SecurityStatus.DEBUG_TAINTED.area, SecurityStatus.LAST_CHANGE_SESSION.area, SecurityStatus.STATE_CHANGES.area,
      SecurityStatus.LAST_CHANGE_TIME.area], [.panel, .sec, .mbx, .hist, .i2c, .strs, .out]⟩
  | .fbTime _ _ => ⟨false, byWireRegs, parts1⟩
  | .mirrorContactChange _ _ _ _ _ _ => ⟨false, byTrip ++ [StringTerminals.FB_POS.area, StringTerminals.FB_NEG.area,
      StringTerminals.FB_PRE.area, StringTerminals.COIL_I_POS.area, StringTerminals.COIL_I_NEG.area,
      StringTerminals.COIL_I_PRE.area], parts1⟩
  | .clearTrip _ _ _ _ => ⟨false, [SessionStatus.REQUESTS.area], [.mbx, .strs, .free, .out]⟩
  | .faultLoopOpen _ _ _ => ⟨false, byTrip ++ [StringTerminals.FLOOP_OPEN.area, StringTerminals.FLOOP_I.area], parts1⟩
  | .fastOc _ _ _ => ⟨false, byTrip, parts1⟩
  | .heartbeat _ _ _ => ⟨false, byTrip, parts1⟩
  | .safeLoopInOpen _ _ => ⟨false, byOpenNow ++ [ModuleTerminals.SAFE_LOOP_OUT_OPEN.area,
      ModuleTerminals.SAFE_LOOP_IN_OPEN.area, ModuleTerminals.SAFE_LOOP_IN_I.area], parts15⟩
  | .safeLoopOriginHold _ => ⟨false, [ModuleTerminals.SAFE_LOOP_OUT_OPEN.area], [.safe]⟩
  | .pulseTests _ _ _ _ => ⟨false, byTrip ++ [ProtectionStatus.PULSE_TESTS.area], parts1⟩
  | .offCoilReadback _ _ _ => ⟨false, byTrip, parts1⟩
  | .safeStatusTelegram _ => ⟨false, [], [.safe, .out]⟩
  | .safeCommand _ _ _ _ _ => ⟨false, byOpenNow ++ [ModuleTerminals.SAFE_LOOP_OUT_OPEN.area,
      SafeTelegramConfig.SENDER_A.area, SafeTelegramConfig.SENDER_B.area, SafeTelegramConfig.SAFE_CMD_SINGLE.area,
      SafeTelegramConfig.SAFE_CMD_DIFFER.area, SafeTelegramConfig.SAFE_CMD_STALE.area,
      SafeTelegramConfig.SAFE_CMD_ACCEPTED.area], parts15⟩
  | .safeCmdSingle _ _ => ⟨false, byRecord ++ [SafeTelegramConfig.SAFE_CMD_SINGLE.area], [.panel, .mbx, .hist, .i2c, .safe,
      .out]⟩
  | .enableMissing _ _ => ⟨false, byOpenNow, parts4⟩
  | .integratorProfile _ _ _ => ⟨true, [], parts0⟩
  | .channelSample _ _ => ⟨false, bySampleGroup, parts12⟩
  | .deadlineMiss _ _ => ⟨false, byMissSample ++ [ChannelStatus.REGION.area, ChannelStatus.RAMPING.area,
      ChannelStatus.INPUT.area, ChannelStatus.SETPOINT_IN_FORCE.area, ChannelStatus.ERROR.area,
      ChannelStatus.CLAMP_HIGH.area, ChannelStatus.CLAMP_LOW.area, ChannelStatus.HANDOVERS.area,
      ChannelStatus.WORST_LATENCY_1S.area, PacerOutput.LINE_CLAIMED.area, CanObject.OWNER.area], parts12⟩
  | .takeOver _ _ _ => ⟨true, [], parts0⟩
  | .channelEnable _ _ _ _ => ⟨true, [], parts0⟩
  | .announceReceived _ _ _ _ => ⟨false, byHearPeer, parts5⟩
  | .candidateReceived _ _ _ _ => ⟨false, byHearPeer, parts5⟩
  | .reportReceived _ _ _ _ => ⟨false, byHearPeer, parts5⟩
  | .allocationReceived _ _ _ _ => ⟨false, byHearPeer, parts5⟩
  | .peerRejected _ _ _ _ => ⟨false, byHearPeer, parts5⟩
  | .announce _ => ⟨false, byRoleCheck ++ [BlockStatus.ROLE_TIME.area], parts6⟩
  | .roleListen _ => ⟨false, byRoleCheck ++ [BlockStatus.ELECTIONS.area], parts6⟩
  | .roleGained _ => ⟨false, byRoleCheck ++ byCanDrop ++ [ChannelStatus.OUTPUT_LIMITED.area, ChannelStatus.OUTPUT.area,
      ChannelStatus.CLAMP_HIGH.area, ChannelStatus.CLAMP_LOW.area, BlockStatus.CONFIG_MISMATCH.area,
      BlockStatus.BLOCK_POWER_TARGET.area, BlockStatus.BLOCK_POWER_APPLIED.area, BlockStatus.ROLE_TIME.area,
      CanObject.TX_REPLACED.area, CanObject.DATA.area], parts5⟩
  | .managerLost _ => ⟨false, byRecord ++ [BlockStatus.ROLE.area, BlockStatus.MANAGER_BLOCK_ID.area,
      BlockStatus.HOLDING.area, BlockStatus.POWER_CLIPPED.area, BlockStatus.HOST_TIMEOUT_ACTIVE.area,
      BlockStatus.ROLE_EPOCH.area, BlockStatus.STALE_MASK.area, BlockStatus.BLOCK_CHG_LIMIT.area,
      BlockStatus.BLOCK_DIS_LIMIT.area, BlockStatus.MANAGER_LOSSES.area], parts6⟩
  | .allocHold _ => ⟨false, byForgetManager ++ [BlockStatus.HOLDING.area], [.can, .chans, .blk, .out]⟩
  | .blockIdConflict _ _ => ⟨false, byHearPeer, parts5⟩
  | .dispatchCycle _ => ⟨false, byRoleCheck ++ [BlockStatus.CONFIG_MISMATCH.area, StringDispatch.AVAILABLE.area], parts6⟩
  | .report _ => ⟨false, [], [.blk, .out]⟩
  | .allocation _ => ⟨false, byRoleCheck ++ [BlockStatus.MEMBER_COUNT.area, BlockStatus.MEMBER_MASK.area,
      BlockStatus.BLOCK_POWER_APPLIED.area, StringDispatch.WEIGHT.area, StringDispatch.CLIPPED.area,
      CollectorStatus.REPORTS_LATE.area, CollectorStatus.REPORTS_MISSING.area], parts6⟩
  | .allocationApply _ => ⟨false, byForgetManager ++ [BlockStatus.HOLDING.area, BlockStatus.LAST_ALLOC_TIME.area,
      StringDispatch.ALLOCATED.area, StringDispatch.LOCAL_CLAMP.area, StringDispatch.CLAMP_EVENTS.area], [.can, .chans,
      .blk, .out]⟩
  | .hostTimeout _ => ⟨false, byRecord ++ [BlockStatus.HOST_TIMEOUT_ACTIVE.area, BlockStatus.BLOCK_POWER_TARGET.area],
      parts6⟩
  | .setBlockPower _ _ _ => ⟨false, [SessionStatus.REQUESTS.area, BlockStatus.HOST_TIMEOUT_ACTIVE.area,
      BlockStatus.BLOCK_POWER_TARGET.area], [.mbx, .blk, .out]⟩
  | .getBlockState _ _ _ => ⟨false, [SessionStatus.REQUESTS.area], [.mbx, .out]⟩
  | .lapUnitReceived _ _ => ⟨false, byRecord ++ [CollectorStatus.QUEUE_MAX.area, CollectorStatus.GAP_SEEN.area,
      CollectorStatus.HANDOFF_MAX.area, CollectorStatus.LAP_GAPS.area, CollectorStatus.LAST_GAP_TIME.area], [.panel, .mbx,
      .hist, .i2c, .strs, .coll, .out]⟩
  | .collectorRound _ => ⟨false, byHistRegs ++ [HistoryStatus.COMPRESSION_PAUSED.area, HistoryStatus.INTAKE_RATE.area,
      HistoryStatus.STORED_RATIO.area, HistoryStatus.PINS_RELEASED_EARLY.area, HistoryStatus.EVENTS_RECORDED.area,
      CollectorStatus.QUEUE_MAX.area, CollectorStatus.HANDOFF_MAX.area, CollectorStatus.UNITS.area,
      I2cStatus.ATTN_PENDING.area], [.panel, .mbx, .hist, .i2c, .strs, .coll, .out]⟩
  | .blockMaxAge _ => ⟨false, byHistRegs ++ [HistoryStatus.PINS_RELEASED_EARLY.area, HistoryStatus.EVENTS_RECORDED.area,
      I2cStatus.ATTN_PENDING.area], parts3⟩
  | .pinRequest _ _ => ⟨true, [], parts0⟩
  | .releasePins _ _ => ⟨true, [], parts0⟩
  | .triggerTrace _ _ _ => ⟨false, [SessionStatus.REQUESTS.area], [.mbx, .traces, .out]⟩
  | .captureFrozen _ _ => ⟨false, byRecord ++ [TraceStatus.SAMPLES_HELD.area, TraceStatus.CAPTURE_PENDING.area,
      TraceStatus.CAPTURE_VALID.area, TraceStatus.TRIGGER_TIME.area, TraceStatus.CAUSE.area, TraceStatus.SAMPLES.area], [
      .panel, .mbx, .hist, .i2c, .traces, .out]⟩
  | .captureValid _ _ _ _ => ⟨true, [], parts0⟩
  | .tcpConnection _ _ _ _ _ _ => ⟨true, [], [.nv, .panel, .sec, .mbx, .hist, .i2c, .strs, .out]⟩
  | .handshakeTimeout _ _ => ⟨false, [MailboxStatus.TLS_FAILURES.area], [.mbx, .out]⟩
  | .openSessionTimeout _ _ => ⟨false, byEndSession ++ [MailboxStatus.SESSIONS_REFUSED.area], parts7⟩
  | .connectionEnd _ _ => ⟨false, byEndSession, parts7⟩
  | .openSession _ _ _ => ⟨false, byEndSession ++ [MailboxStatus.SESSIONS_REFUSED.area, SessionStatus.SESSION_STATE.area,
      SessionStatus.PORT.area, SessionStatus.CLASS.area, SessionStatus.TIME_UNCHECKED.area, SessionStatus.PEER_ADDR.area,
      SessionStatus.PEER_PORT.area, SessionStatus.OPEN_TIME.area, PresenceStatus.TOKEN_STATE.area,
      PresenceStatus.BOUND_SESSION.area], parts7⟩
  | .closeSession _ _ _ => ⟨false, byEndSession, parts7⟩
  | .pingSession _ _ _ => ⟨false, [SessionStatus.REQUESTS.area], [.mbx, .out]⟩
  | .sessionIdle _ _ => ⟨false, byEndSession, parts7⟩
  | .unreadableFrame _ _ _ => ⟨false, byEndSession ++ [MailboxStatus.FRAME_ERRORS.area], parts7⟩
  | .getObj _ _ _ => ⟨false, byTimeRegs ++ [MailboxStatus.SESSIONS_OPEN.area, MailboxStatus.STREAMS_OPEN.area,
      MailboxStatus.TXN_OPEN.area, SessionStatus.TXN_ACTIVE.area, SessionStatus.STREAMS.area, SessionStatus.REQUESTS.area,
      PowerStatus.BACKUP_TIME.area, HistoryStatus.INTAKE_RATE.area, HistoryStatus.STORED_RATIO.area,
      CoulombStatus.WARMUP_REMAIN.area, SequenceResults.AGE.area, ChannelStatus.WORST_LATENCY_1S.area,
      BlockStatus.ELIGIBLE.area, CanChannel.TS_UNCERTAINTY.area, I2cStatus.PORT_STATE.area, UpdateStatus.UPDATE_STATE.area,
      UpdateStatus.BYTES_RECEIVED.area, PresenceStatus.TOKEN_REMAIN.area, DebugConfig.HALT_TIME.area], [.mbx, .hist, .out]⟩
  | .putObj _ _ _ => ⟨true, [], parts0⟩
  | .beginTxn _ _ _ => ⟨false, [SessionStatus.REQUESTS.area], [.mbx, .out]⟩
  | .commitTxn _ _ _ => ⟨true, [], parts0⟩
  | .abortTxn _ _ _ => ⟨false, [SessionStatus.REQUESTS.area], [.mbx, .out]⟩
  | .txnTimeout _ _ => ⟨false, [], [.mbx]⟩
  | .listObj _ _ _ => ⟨false, [SessionStatus.REQUESTS.area], [.mbx, .out]⟩
  | .openStream _ _ _ => ⟨false, [SessionStatus.REQUESTS.area, LedgerStatus.EXPORT_EPOCH.area,
      LedgerStatus.EXPORT_STATE.area, LedgerStatus.RESTORE_RESULT.area, UpdateStatus.LAST_CHECK.area,
      ConfigFormat.UPLOAD_ACTIVE.area, ConfigFormat.UPLOAD_RESULT.area], [.mbx, .out]⟩
  | .closeStream _ _ _ => ⟨false, [SessionStatus.REQUESTS.area, LedgerStatus.EXPORT_STATE.area,
      LedgerStatus.RESTORE_RESULT.area, ConfigFormat.UPLOAD_ACTIVE.area, ConfigFormat.UPLOAD_RESULT.area], [.mbx, .hist,
      .out]⟩
  | .grantCredit _ _ _ => ⟨false, [SessionStatus.REQUESTS.area], [.mbx, .out]⟩
  | .streamDataIn _ _ _ => ⟨false, byEndSession ++ [MailboxStatus.FRAME_ERRORS.area,
      MailboxStatus.STREAM_DATA_DISCARDED.area], [.sec, .mbx, .hist, .strs, .free, .out]⟩
  | .streamDataOut _ _ _ _ => ⟨false, byRecord ++ [HistoryStatus.READ_GAPS.area, HistoryStatus.BLOCKS_LOST_UNREAD.area,
      LedgerStatus.EXPORT_STATE.area], [.panel, .mbx, .hist, .i2c, .free, .out]⟩
  | .streamCredit _ _ _ _ => ⟨false, [], [.mbx, .out]⟩
  | .getIdentity _ _ _ => ⟨false, [SessionStatus.REQUESTS.area], [.mbx, .out]⟩
  | .getCert _ _ _ => ⟨false, [SessionStatus.REQUESTS.area], [.mbx, .out]⟩
  | .getQuote _ _ _ => ⟨false, [SessionStatus.REQUESTS.area], [.mbx, .free, .out]⟩
  | .restartModule _ _ _ => ⟨true, [], parts2⟩
  | .ledgerExport _ => ⟨false, [LedgerStatus.EXPORT_CHECKSUM.area, LedgerStatus.LAST_CAPTURE_TIME.area], [.mbx, .ledger]⟩
  | .ackEpoch _ _ _ => ⟨true, [], parts0⟩
  | .ledgerRestoreCommit _ => ⟨false, byRecord ++ [BootStatus.LEDGER_STATE.area, BootStatus.RESTORE_TIME.area,
      LedgerStatus.LEDGER_EPOCH.area, LedgerStatus.EXPORT_EPOCH.area, LedgerStatus.RESTORE_RESULT.area,
      LedgerStatus.RESTORE_DISCARDED.area], [.panel, .mbx, .hist, .i2c, .ledger, .out]⟩
  | .ptpSync _ _ _ _ _ _ _ _ _ _ => ⟨false, byTimeCheck ++ [PtpDomain.DOMAIN_STATE.area, PtpDomain.TWO_STEP_MASTER.area,
      PtpDomain.SYNC_LOG_INTERVAL.area, PtpDomain.SYNC_ACCEPTED.area, PtpDomain.SAMPLES_REJECTED.area,
      PtpDomain.LOCK_TIME.area], parts10⟩
  | .announcePtp _ _ _ _ => ⟨false, byTimeCheck ++ byMasterRegs ++ [PtpDomain.DOMAIN_STATE.area, PtpDomain.GM_CHANGES.area,
      PtpDomain.LOCK_TIME.area], parts10⟩
  | .pdelayReq _ _ _ _ _ _ _ => ⟨false, [], [.out]⟩
  | .pdelayExchange _ _ _ => ⟨false, [PtpDomain.MEAN_LINK_DELAY.area], [.time, .out]⟩
  | .domainState _ _ => ⟨false, byTimeCheck ++ byMasterRegs ++ [PtpDomain.DOMAIN_STATE.area,
      PtpDomain.ANNOUNCE_TIMEOUTS.area, PtpDomain.GM_CHANGES.area, PtpDomain.LOCK_TIME.area], parts10⟩
  | .returnQual _ => ⟨false, byTimeCheck, parts10⟩
  | .slewComplete _ => ⟨false, byTimeRegs ++ [TimeStatus.SLEWING.area], [.clk, .time]⟩
  | .timeState _ => ⟨false, byRoleCheck ++ byTimeRegs ++ [TimeStatus.TIME_STATE.area], [.clk, .panel, .mbx, .hist, .i2c,
      .blk, .time, .out]⟩
  | .domainDisagree _ => ⟨false, byRecord ++ [TimeStatus.DOMAIN_DISAGREE.area], [.panel, .mbx, .hist, .i2c, .time, .out]⟩
  | .pacerOccurrence _ _ => ⟨false, [SequenceResults.INJECT_REFUSED_SEEN.area, SequenceResults.INJECTED.area,
      SequenceResults.INJECT_REFUSED.area, SequenceResults.ABORTS.area, PacerOutput.SCHEDULE_STATE.area,
      PacerOutput.INJECT_REFUSED_SEEN.area, PacerOutput.FIRED.area, PacerOutput.INJECT_REFUSED.area,
      PacerOutput.LAST_FIRE_TIME.area, PacerOutput.NEXT_FIRE_TIME.area], [.strs, .pouts, .out]⟩
  | .pulseEnd _ _ => ⟨false, [], [.pouts, .out]⟩
  | .captureWindow _ _ => ⟨false, [CaptureInput.WINDOW_STATE.area], []⟩
  | .capture _ _ _ => ⟨false, byRecord ++ [CaptureInput.LEVEL.area, CaptureInput.CAPTURES.area,
      CaptureInput.EDGES_MISSED.area, CaptureInput.CAPTURES_UNRECORDED.area, CaptureInput.LAST_EDGE.area,
      CaptureInput.LAST_CAPTURE_TIME.area], [.panel, .mbx, .hist, .i2c, .caps, .out]⟩
  | .canFrameReceived _ _ _ _ _ _ _ _ => ⟨false, byRecord ++ [CanChannel.CHANNEL_STATE.area, CanChannel.REC.area,
      CanChannel.ERROR_PASSIVE_SEEN.area, CanChannel.NO_PARTNER.area, CanChannel.ACK_ERROR_RUN.area,
      CanChannel.RX_FRAMES.area, CanChannel.RX_UNMATCHED.area, CanObject.NEW_DATA.area, CanObject.MSG_LOST.area,
      CanObject.RX_LEN.area, CanObject.RX_BRS.area, CanObject.RX_ESI.area, CanObject.RX_COUNT.area,
      CanObject.FRAME_TIME.area, CanObject.DATA.area], [.panel, .mbx, .hist, .i2c, .can, .free, .out]⟩
  | .canTxComplete _ _ _ _ => ⟨false, byRecord ++ byCanDrop ++ [CanChannel.CHANNEL_STATE.area, CanChannel.TEC.area,
      CanChannel.REC.area, CanChannel.ERROR_PASSIVE_SEEN.area, CanChannel.BUS_OFF_SEEN.area, CanChannel.NO_PARTNER.area,
      CanChannel.LOOP_DELAY.area, CanChannel.ACK_ERROR_RUN.area, CanChannel.BUS_OFF_COUNT.area, CanChannel.TX_FRAMES.area,
      CanChannel.ERROR_FRAMES.area, CanChannel.FALLBACK_SENT.area, CanChannel.LAST_BUS_OFF_TIME.area,
      CanObject.TX_FAILED.area, CanObject.TX_COUNT.area, CanObject.TX_REPLACED.area, CanObject.FRAME_TIME.area], [.panel,
      .mbx, .hist, .i2c, .can, .out]⟩
  | .recover _ _ _ => ⟨true, [], parts0⟩
  | .busOffRecovered _ _ => ⟨false, byRecord ++ byCanDrop ++ [CanChannel.CHANNEL_STATE.area, CanChannel.TEC.area,
      CanChannel.REC.area], [.panel, .mbx, .hist, .i2c, .can, .out]⟩
  | .txRequest _ _ _ _ => ⟨true, [], parts0⟩
  | .ackCount _ _ _ _ => ⟨true, [], parts0⟩
  | .channelEn _ _ _ _ => ⟨true, [], parts0⟩
  | .fallbackDatagram _ _ => ⟨false, [CanChannel.FALLBACK_SENT.area], [.can, .out]⟩
  | .i2cWrite _ _ _ => ⟨false, byAddressed ++ [I2cStatus.PORT_STATE.area, I2cStatus.WINDOW.area,
      I2cStatus.REFUSED_WRITES.area], [.i2c, .out]⟩
  | .i2cRead _ _ _ _ => ⟨false, byAddressed ++ [I2cStatus.PORT_STATE.area, I2cStatus.ATTN_PENDING.area], [.i2c, .out]⟩
  | .stretchLimits _ _ _ _ => ⟨false, byAddressed ++ [I2cStatus.PORT_STATE.area, I2cStatus.ATTN_PENDING.area,
      I2cStatus.STRETCH_LIMITS.area], [.i2c, .out]⟩
  | .i2cSleep _ => ⟨false, [I2cStatus.PORT_STATE.area], [.i2c]⟩
  | .i2cWake _ _ => ⟨false, byAddressed ++ [I2cStatus.PORT_STATE.area], [.i2c, .out]⟩
  | .attentionWrite _ _ => ⟨false, byRecord ++ [I2cStatus.PORT_STATE.area, I2cStatus.ATTN_FAILED_SEEN.area,
      I2cStatus.ATTN_SENT.area, I2cStatus.ATTN_NACKED.area, I2cStatus.ARB_LOST.area], parts3⟩
  | .attnRetry _ _ => ⟨false, byRecord ++ [I2cStatus.PORT_STATE.area, I2cStatus.ATTN_FAILED_SEEN.area,
      I2cStatus.ATTN_SENT.area, I2cStatus.ATTN_NACKED.area, I2cStatus.ARB_LOST.area], parts3⟩
  | .abortsRstart _ _ => ⟨false, byAddressed ++ [I2cStatus.PORT_STATE.area, I2cStatus.ABORTS_RSTART.area], [.i2c, .out]⟩
  | .i2cIdleRelease _ _ => ⟨false, byAddressed ++ [I2cStatus.PORT_STATE.area], [.i2c, .out]⟩
  | .busStuck _ _ _ => ⟨false, byRecord ++ [I2cStatus.PORT_STATE.area, I2cStatus.BUS_STUCK.area, I2cStatus.RECOVERIES.area],
      parts3⟩
  | .recoveryRepeat _ _ _ => ⟨false, byRecord ++ [I2cStatus.PORT_STATE.area, I2cStatus.BUS_STUCK.area,
      I2cStatus.PORT_DISABLED.area, I2cStatus.RECOVERIES.area], parts3⟩
  | .portEn _ _ _ => ⟨true, [], parts0⟩
  | .imageUploadEnd _ => ⟨false, bySlotRegs ++ [UpdateStatus.UPDATE_STATE.area, UpdateStatus.LAST_CHECK.area,
      UpdateStatus.BYTES_RECEIVED.area], [.nv, .mbx, .upd]⟩
  | .imageStaged _ => ⟨false, bySlotRegs ++ byRecord ++ [UpdateStatus.UPDATE_STATE.area, UpdateStatus.BYTES_RECEIVED.area], [
      .nv, .panel, .mbx, .hist, .i2c, .upd, .out]⟩
  | .activateImage _ _ _ => ⟨true, [], parts2⟩
  | .spareReady _ => ⟨false, [UpdateStatus.UPDATE_STATE.area, UpdateStatus.HANDOVER_DIE.area,
      UpdateStatus.BYTES_RECEIVED.area], [.upd]⟩
  | .dieHandover _ _ => ⟨false, byRateRefresh ++ [DieStatus.LEAD_CLUSTER.area, UpdateStatus.UPDATE_STATE.area,
      UpdateStatus.HANDOVER_DIE.area, UpdateStatus.HANDBACK_SEEN.area, UpdateStatus.BYTES_RECEIVED.area], [.upd]⟩
  | .imageActivated _ => ⟨true, [], [.nv, .panel, .mbx, .hist, .i2c, .upd, .out]⟩
  | .handoverAbandoned _ _ _ => ⟨true, [], parts2⟩
  | .rollbackImage _ _ _ => ⟨true, [], parts2⟩
  | .advanceFuses _ _ => ⟨true, [], parts0⟩
  | .recoveryLoader _ _ => ⟨true, [], parts2⟩
  | .confirmConfig _ _ _ => ⟨false, bySlotRegs ++ byRecord ++ [SessionStatus.REQUESTS.area,
      ConfigFormat.WRITES_SINCE_KEPT.area, ConfigFormat.CONFIRM_TIME.area], [.nv, .panel, .mbx, .hist, .i2c, .out]⟩
  | .configUpload _ => ⟨true, [], parts0⟩
  | .nodeImageUpload _ => ⟨false, bySlotRegs ++ byUpdateRegs ++ byRecord ++ [UpdateStatus.UPDATE_STATE.area,
      UpdateStatus.LAST_CHECK.area, UpdateStatus.BYTES_RECEIVED.area], [.nv, .panel, .mbx, .hist, .i2c, .strs, .out]⟩
  | .nodeUpdated _ _ _ => ⟨false, byUpdateRegs ++ byRecord ++ [NodeAuth.AUTH_STATE.area, NodeAuth.ATTEMPTS.area,
      NodeUpdate.COPY_SERIAL.area, NodeUpdate.COPY_BYTES.area, NodeUpdate.COPIES_DONE.area, NodeUpdate.LAST_COPY_TIME.area], [
      .panel, .mbx, .hist, .i2c, .strs, .free, .out]⟩
  | .nodeCopyFailed _ _ _ => ⟨false, byUpdateRegs ++ byRecord ++ [NodeUpdate.COPY_SERIAL.area, NodeUpdate.COPY_BYTES.area,
      NodeUpdate.COPIES_FAILED.area, NodeUpdate.LAST_COPY_TIME.area], parts8⟩
  | .startRequest _ _ _ => ⟨true, [], parts0⟩
  | .enterService _ _ _ => ⟨false, byMoveSecurity ++ [PresenceStatus.TOKEN_STATE.area, PresenceStatus.BOUND_SESSION.area,
      PresenceStatus.TOKENS_USED.area], parts11⟩
  | .enableDebug _ _ _ => ⟨false, byMoveSecurity ++ [ProtectionStatus.OPEN_UNDER_LOAD.area, PresenceStatus.TOKEN_STATE.area,
      PresenceStatus.BOUND_SESSION.area, PresenceStatus.TOKENS_USED.area], parts11⟩
  | .leaveService _ _ _ => ⟨false, byMoveSecurity, parts11⟩
  | .serviceIdle _ => ⟨false, byMoveSecurity, parts11⟩
  | .decommissionModule _ _ _ => ⟨true, [], parts2⟩
  | .probeAttached _ _ _ => ⟨false, byOpenNow ++ [SecurityStatus.PROBE_ATTACHED.area, DebugConfig.PROBE_ATTACHES.area,
      DebugConfig.HALT_TIME.area], parts4⟩
  | .clusterHalt _ _ _ => ⟨false, [DebugConfig.HALT_TIME.area], [.sec, .strs, .out]⟩
  | .trustList _ _ _ _ => ⟨true, [], parts0⟩
  | .commissioned _ _ _ _ => ⟨true, [], [.nv, .panel, .sec, .mbx, .hist, .i2c, .strs, .out]⟩
  | .tapStartOk _ _ => ⟨true, [], parts2⟩
  | .coverClosed _ => ⟨false, [ModuleTerminals.SEAL_OPEN.area], [.panel]⟩
  | .presenceButtonReleased _ _ => ⟨false, [ModuleTerminals.PRESENCE_STUCK.area], [.panel]⟩
  | .jSvcRemoved _ => ⟨false, [ModuleTerminals.J_SVC_FITTED.area], []⟩
  | .coilShort _ _ _ => ⟨false, byTrip, parts1⟩
  | .faultLoopClosed _ _ _ => ⟨false, byTrip ++ [StringTerminals.FLOOP_OPEN.area, StringTerminals.FLOOP_I.area], parts1⟩
  | .netLinkChanged _ _ _ => ⟨false, byRoleCheck ++ [MailboxStatus.NET_A_LINK.area, MailboxStatus.NET_B_LINK.area], parts6⟩
  | .candidate _ => ⟨false, [], [.blk, .out]⟩
  | .canBusError _ _ _ => ⟨false, byRecord ++ [CanChannel.CHANNEL_STATE.area, CanChannel.REC.area,
      CanChannel.ERROR_PASSIVE_SEEN.area, CanChannel.ACK_ERROR_RUN.area, CanChannel.ERROR_FRAMES.area], parts3⟩
  | .busIntegrationComplete _ _ => ⟨false, byCanDrop ++ [CanChannel.CHANNEL_STATE.area, CanChannel.TEC.area,
      CanChannel.REC.area], [.can, .out]⟩
  | .spareSelfTest _ _ _ => ⟨false, [DieStatus.SELF_TEST_FAIL.area], []⟩
  | .storedWriteComplete _ => ⟨true, [], parts0⟩
  | .collect _ _ _ => ⟨true, [], [.panel, .sec, .mbx, .hist, .i2c, .strs, .ledger, .can, .chans, .out]⟩
  | .wireRetest _ _ _ _ => ⟨false, byWireRegs, parts1⟩

end Sys2Proof.Machine
end

