-- ==== Sys2Proof/Claims.lean ====
section
/-! DEFINITION. Terms the statements use: a request that the mailbox passes to its command, and the state in which that
command is served. -/

namespace Sys2Proof.Machine

open Sys2Proof.Obj

/-- The mailbox passes a request to its command: it is up, the request comes on an open connection, in version 1, names the
session of that connection, which has no request outstanding, and its class suffices (R120, R133, R139, R144, R148). -/
structure Served (r : Req) (cls : Nat) (s : State) (x : Sess) : Prop where
  up : s.mailboxUp = true
  conn : ∃ c, s.conn? r.conn = some c ∧ c.up = true
  ver : r.ver = 1
  sess : s.mbx.sess.find? (·.conn == r.conn) = some x
  num : x.num = r.sess
  nums : numsOk s.mbx.sess = true
  idle : x.outst = []
  cls : cls ≤ x.cls

/-- A session with one more request outstanding, numbered `no`, its idle times counted from this frame. -/
def Sess.taken (y : Sess) (now cmd seq no : Nat) : Sess :=
  { y with lastFrame := now, outst := y.outst ++ [⟨cmd, seq, none, no⟩], next := no + 1
           txn := y.txn.map fun q => { q with lastFrame := now } }

/-- The state in which the command of a request is served: its instant is reached and the request is outstanding. -/
def State.admitted (s : State) (t : Nat) (r : Req) (cmd : Nat) (x : Sess) : State :=
  (s.at t).modSess x.num fun y => y.taken (max s.now t) cmd r.seq x.next

/-- The newest thing the module has sent is the response to a request. -/
def Responds (u : State) (r : Req) (cmd st : Nat) (p : Bytes) : Prop :=
  u.out.head? = some (.frame r.conn flagResponse cmd st r.seq r.sess p)

/-- A counter of an instance has counted one more, saturating at all ones. -/
abbrev Counts (f : Fld) (i : Nat) (s u : State) : Prop := u.rd f i = satAdd f.width (s.rd f i) 1 % 2 ^ f.width

/-- No coil of a string is energised. -/
abbrev CoilsOff (n : Nat) (u : State) : Prop :=
  (u.prot n).cpos.on = false ∧ (u.prot n).cneg.on = false ∧ (u.prot n).cpre.on = false

/-- A string has tripped: TRIPPED, every coil off, and counted (Table 13.3). -/
abbrev Tripped (n : Nat) (s u : State) : Prop :=
  u.seqState n = seqTripped ∧ CoilsOff n u ∧ Counts ProtectionStatus.TRIPS n s u

/-- A start of an unpowered module: with no release comparator of a fitted die hot it begins its steps with a cause at this
instant; else the caldera latch is set with the first of them and the dies are held in reset (R402, log 60). -/
abbrev Starts (hot : List (Nat × Nat)) (cause t : Nat) (s u : State) : Prop :=
  ((hot.filter fun x => s.hasDie x.1) = [] → u.boot.cause = cause ∧ u.boot.t0 = max s.now t) ∧
    ((hot.filter fun x => s.hasDie x.1) ≠ [] →
      u.thermal.first = (hot.filter fun x => s.hasDie x.1).head? ∧ u.boot.halt = true)

/-- The service port is awake and a transaction addresses it (R497, R502). -/
abbrev PortAwake (s : State) (t addr : Nat) : Prop :=
  s.portServes = true ∧ addr = s.targetAddr ∧ s.rdB I2cStatus.BUS_STUCK = false ∧ s.i2c.asleep = false ∧
    s.i2c.refuseNext = false ∧ s.i2c.awakeAt ≤ t

/-- Outside a transaction, a write's payload passes every check of R148 and R153 to R157 in the state in which it is served. -/
abbrev Accepted (r : Req) (s : State) (x : Sess) (t : Nat) (p : Bytes) : Prop :=
  x.txn = none ∧ (s.admitted t r 2 x).commitRef [writeOf p] = none

/-- The payloads of the rows that write an entry of the trust list, the integrator profile, and a message object's data with
TX_REQUEST. -/
def trustPut (entry : Nat) (data : Bytes) : Bytes :=
  toLE 2 0x1302 ++ toLE 2 entry ++ toLE 2 0 ++ toLE 2 68 ++ toLE 4 0 ++ padTo 68 data ++ [0xFF, 0xFF, 1, 0] ++
    List.replicate 64 0xFF

@[inherit_doc trustPut] def profilePut (data : Bytes) : Bytes :=
  toLE 2 0x0B02 ++ toLE 2 0 ++ toLE 2 0 ++ toLE 2 80 ++ toLE 4 0 ++ padTo 80 data ++ List.replicate 73 0xFF ++
    [0, 0, 0, 0xFF, 0xFF, 0xFF, 0xFF]

@[inherit_doc trustPut] def txPut (obj : Nat) (data : Bytes) : Bytes :=
  toLE 2 0x1002 ++ toLE 2 obj ++ toLE 2 8 ++ toLE 2 96 ++ toLE 4 0 ++ padTo 32 [0x10] ++ padTo 64 data ++ padTo 32 [0x10] ++
    padTo 64 (List.replicate (min 64 data.length) 0xFF)

/-- Two fields have no place in common at two copies. -/
def apart (f : Fld) (x : Nat) (g : Fld) (y : Nat) : Bool :=
  f.obj != g.obj || f.pos + 8 * f.stride * x != g.pos + 8 * g.stride * y

/-- A transaction addresses the port while it is served (R498). -/
abbrev PortAddressed (s : State) (addr : Nat) : Prop := s.portServes = true ∧ addr = s.targetAddr

/-- A command is a transaction at an instant: a row in which the address byte of one arrives. -/
def Transaction (t addr : Nat) (c : Instr) : Prop :=
  (∃ d, c = .i2cWrite t addr d) ∨ (∃ n stop, c = .i2cRead t addr n stop) ∨ (∃ n stop, c = .stretchLimits t addr n stop) ∨
    c = .abortsRstart t addr ∨ c = .i2cIdleRelease t addr ∨ c = .i2cWake t addr

/-- The port acknowledges the address byte of a transaction at an instant: it is awake, and no presence event is owed a
refusal (R502, R503). -/
abbrev PortReady (s : State) (t : Nat) : Prop :=
  s.i2c.asleep = false ∧ s.i2c.refuseNext = false ∧ s.i2c.awakeAt ≤ max s.now t

/-- The newest event: of the event ring, or of those that wait while the manager die is stalled (R44). -/
def State.lastEvent (u : State) : Option Event :=
  if u.managerStalled then u.hist.owed.getLast?
  else match u.hist.evOpen with
    | e :: _ => some e
    | [] => u.hist.evRing.head?.bind (·.events.head?)

/-- The newest event has a code and data, and the time base of this instant as its TIME. -/
def Recorded (u : State) (code : Nat) (data : Bytes) : Prop :=
  ∃ e, u.lastEvent = some e ∧ e.code = code ∧ e.time = u.base ∧ e.data = padTo 20 data

/-- Every contactor and precharge relay of every string is open: its coil is off and its mirror contact reads open. -/
abbrev State.allOpen (s : State) : Prop :=
  ∀ n ∈ s.strList, ∀ c < 3, ((s.prot n).coil c).on = false ∧ s.mirror n c = true

/-- No firmware activation and no node firmware copy is in progress. -/
abbrev State.noUpdate (s : State) : Prop :=
  s.upd.relay = false ∧ s.upd.convert = false ∧ ∀ n ∈ s.strList, s.copying n = false

/-- TRANSPORT_WAKE_V of at least one enabled string is set. -/
abbrev State.wakes (s : State) : Prop :=
  ∃ n ∈ s.strList, s.enabled n = true ∧ s.rd StringPower.TRANSPORT_WAKE_V n ≠ 0xFFFFFFFF

/-- A request was answered with a status and nothing else came of it. -/
def Refused (s u : State) (r : Req) (cmd st : Nat) (p : Bytes) : Prop :=
  Responds u r cmd st p ∧ Only ⟨false, [SessionStatus.REQUESTS.area], [.mbx, .out]⟩ s u

/-- A peer message of a kind that passes the checks of R432, is new and comes from another module. -/
abbrev Heard (s : State) (t net src : Nat) (msg : Bytes) (kind : Nat) : Prop :=
  s.peerGood msg = true ∧ ((s.at t).peerIn net src msg).2 = true ∧ peerKind msg = kind ∧
    field msg 8 1 ≠ s.rd ModuleIdentity.BLOCK_ID

/-- No write writes START_REQUEST, whose answer waits for exchanges with the nodes (R231). -/
abbrev PlainWrite (ws : List Write) : Prop := ∀ w ∈ ws, ∀ x ∈ w.touched, x.f ≠ NodeUpdate.START_REQUEST

end Sys2Proof.Machine
end

