-- ==== Sys2Proof/Certificates/Slice0/Obligations.lean ====
section
/-! DEFINITION. The statements for the provers, from the rules of spec/ (OBLIGATIONS.json lists them). -/

section Statements

open Sys2Proof Sys2Proof.Machine Sys2Proof.Obj

/-- For every command c and every state s whose queue is c followed by q, the step of s is exec of c on s with the queue q
and nothing else added; on an empty queue the block idles and the step answers the state unchanged, which is the
model's choice (log 2). -/
def Obligations.StepRunsFrontCommand : Prop :=
  (∀ (c : Instr) (q : List Instr) (s : State), s.pending = c :: q → step s = exec c { s with pending := q }) ∧
    ∀ s : State, s.pending = [] → step s = .next s

/-- For every command with any operands and every state, exec answers a next state: no command of the table faults or is
refused. A request the module turns away is answered with a status code instead. -/
def Obligations.EveryCommandAnswers : Prop :=
  ∀ (c : Instr) (s : State), ∃ u, exec c s = .next u

/-- The registers, the stored configuration and its kept copy of the state after reset are in canonical order, every list
of instances has its length, no session is open, the supply state is OFF, and every register field of every instance
reads as the reset value of its field map (the values where the spec names a source instead of a value are the model's
choice, log 4). -/
def Obligations.ResetIsSound : Prop :=
  State.reset.inv = true ∧ State.reset.power.supply = .off ∧ State.reset.mbx.sess = [] ∧
    ∀ (f : Fld) (i x : Nat), State.reset.rd f i x = f.resetAt x

/-- From every sound state, whatever command stands in front, a step that answers a next state leaves a sound state:
registers, stored configuration and kept copy stay in canonical order, so that equal contents are equal data; the
strings, dies, channels and outputs keep their number; sessions keep distinct numbers 1 to 16 and at most 8
outstanding requests each (R137, R144). -/
def Obligations.EveryStepKeepsSoundness : Prop :=
  ∀ s u : State, s.inv = true → step s = .next u → u.inv = true

/-- For every command and every state: if exec answers a next state u, then the queue is the same, every register place
that the row of the command in reachOf does not name reads the same in u, and every part of the hidden state that the
row does not name is the same in u. reachOf names, for each of the 232 commands, the register fields and the parts of
the hidden state that the command may change; the clock may always move. -/
def Obligations.FrameOfEveryCommand : Prop :=
  ∀ (c : Instr) (s u : State), exec c s = .next u → Only (reachOf c) s u

/-- For every command and every state, the next state's reference clock is not before the state's and not before the
command's own reading of it, what has been sent stays sent (the new frames, batons, telegrams and edges stand before
the old ones), the queue is untouched and the count of free values does not fall. -/
def Obligations.CommandsOnlyAdd : Prop :=
  ∀ (c : Instr) (s u : State), exec c s = .next u →
    s.now ≤ u.now ∧ s.out <:+ u.out ∧ u.pending = s.pending ∧ s.free ≤ u.free

/-- For every command and every state, variant, serial number, hardware issue, boot ROM version and both network addresses
stay; the rollback fuses only rise (R520), BOOT_COUNT does not fall (R115), and a module that is decommissioned stays
decommissioned (R548). -/
def Obligations.FactoryAndFusesStay : Prop :=
  ∀ (c : Instr) (s u : State), exec c s = .next u →
    u.nv.variant = s.nv.variant ∧ u.nv.serial = s.nv.serial ∧ u.nv.hwIssue = s.nv.hwIssue ∧
    u.nv.romVersion = s.nv.romVersion ∧ u.nv.macA = s.nv.macA ∧ u.nv.macB = s.nv.macB ∧
    s.nv.fuseIndex ≤ u.nv.fuseIndex ∧ s.nv.bootCount ≤ u.nv.bootCount ∧
    (s.nv.decommissioned = true → u.nv.decommissioned = true)

/-- In a sound state, a field of an instance that is given a value reads that value modulo two to its width, every
register at another place reads as before, nothing but the registers changes, and the state stays sound. -/
def Obligations.RegisterWriteIsReadBack : Prop :=
  ∀ (s : State) (f : Fld) (i v x : Nat), s.inv = true →
    (s.wr f i v x).rd f i x = v % 2 ^ f.width ∧ (s.wr f i v x).inv = true ∧
    (∀ (g : Fld) (j y : Nat), g.key j y ≠ f.key i x → (s.wr f i v x).rd g j y = s.rd g j y) ∧
    ∀ p : Part, p.same s (s.wr f i v x)

/-- Each row answers a next state with its effect. AUX_MAINS_EVALUATION sets AUX_PRESENT by the thresholds 80 V AC or 110
V DC to start and 75 V or 100 V to stop, reports AUX_V and counts the evaluations below the threshold. While no
ENTER_TRANSPORT has been answered, the 21st evaluation below it leaves NORMAL for BACKUP where the tap converter runs,
else for HOLDUP; BACKUP ends in NORMAL after AUX_RETURN_QUAL of AUX MAINS; in BACKUP a measurement of TAP IN of 150 V or
more is shown, sets TAP_START_OK from 200 V on and lets the tap converter run where it runs or has TAP_START_OK; one
below 150 V stops it and leaves BACKUP for NORMAL with AUX MAINS and for HOLDUP without. TAP_OVERLOAD is set after 1 s
of overload and no other register changes. -/
def Obligations.SupplyChangesFollowTable : Prop :=
  (∀ (t mv hz pw : Nat) (dc : Bool) (s : State), s.inv = true → ∃ u, exec (.auxMainsEvaluation t mv hz pw dc) s = .next u ∧
    u.rdB PowerStatus.AUX_PRESENT = decide ((if s.rdB PowerStatus.AUX_PRESENT then (if dc then 100000 else 75000)
      else if dc then 110000 else 80000) ≤ mv) ∧
    u.rd PowerStatus.AUX_V = min 65534 (mv / 100) ∧
    u.power.belowCount = if u.rdB PowerStatus.AUX_PRESENT then 0 else s.power.belowCount + 1) ∧
  (∀ (t : Nat) (s : State), s.power.supply = .normal → 21 ≤ s.power.belowCount → s.power.transOffAt = none →
    ∃ u, exec (.auxInterruptionExceeded t) s = .next u ∧
      u.power.supply = if s.rdB PowerStatus.TAP_RUNNING then .backup else .holdup) ∧
  (∀ (t a : Nat) (s : State), s.power.supply = .backup → s.power.auxSince = some a → s.rdB PowerStatus.AUX_PRESENT = true →
    a + secs (s.rd PowerConfig.AUX_RETURN_QUAL) ≤ t → s.power.transOffAt = none →
    ∃ u, exec (.auxReturnQual t) s = .next u ∧ u.power.supply = .normal) ∧
  (∀ (t mv : Nat) (s : State), s.inv = true → s.power.supply = .backup → 150000 ≤ mv → s.power.transOffAt = none →
    ∃ u, exec (.tapStartOk t mv) s = .next u ∧ u.rd PowerStatus.TAP_V = min 65534 (mv / 100) ∧
      u.rdB PowerStatus.TAP_START_OK = decide (200000 ≤ mv) ∧
      u.rdB PowerStatus.TAP_RUNNING = (s.rdB PowerStatus.TAP_RUNNING || decide (200000 ≤ mv))) ∧
  (∀ (t mv : Nat) (s : State), s.inv = true → mv < 150000 → s.power.supply = .backup → s.power.transOffAt = none →
    ∃ u, exec (.tapConverterStop t mv) s = .next u ∧ u.rdB PowerStatus.TAP_RUNNING = false ∧
      u.power.supply = if s.rdB PowerStatus.AUX_PRESENT then .normal else .holdup) ∧
  (∀ (t since : Nat) (s : State), s.inv = true → s.power.powered = true → s.rdB PowerStatus.TAP_RUNNING = true →
    since + secs 1 ≤ t → ∃ u, exec (.tapOverload t since) s = .next u ∧ u.rdB PowerStatus.TAP_OVERLOAD = true ∧
      ∀ (f : Fld) (i x : Nat), f.key i x ≠ PowerStatus.TAP_OVERLOAD.key 0 0 → u.rd f i x = s.rd f i x)

/-- While powered, HOLDUP_READY_CLEARED with less than 12 J shows the energy and clears HOLDUP_READY, and HOLDUP_READY_SET
with 12 J or more shows it and sets HOLDUP_READY; a start that has reached step 9 is then at step 10 or later. In
HOLDUP, LAST_GASP from 5 ms after its entry, where the notice has not left, sends it to every open session, and it is
marked as sent; HOLDUP_SHED from 10 ms on marks the draw as shed and drives every output line low; HOLDUP_CLOSED from
60 ms on leaves neither ring of the history an open block; HOLDUP_HALT from 300 ms on, or with the bank exhausted, ends
the run: with the TRANSPORT flag set the module is in TRANSPORT where AUX MAINS is present, else OFF; without the flag
it starts at once with cause 2, in NORMAL with AUX MAINS and in BACKUP with TAP_START_OK alone, and with neither it is
OFF. Where a release comparator of a fitted die reads hot, the start sets the caldera latch with the first of them (which is
first is the model's choice, log 60) and holds the dies. Where it does not start, nothing of the start and of the mailbox is left. -/
def Obligations.HoldupRunsItsSequence : Prop :=
  (∀ (t e : Nat) (s : State), s.inv = true → s.power.powered = true → e < 120 →
    ∃ u, exec (.holdupReadyCleared t e) s = .next u ∧ u.rdB PowerStatus.HOLDUP_READY = false ∧
      u.rd PowerStatus.HOLDUP_ENERGY = e) ∧
  (∀ (t e : Nat) (s : State), s.inv = true → s.power.powered = true → 120 ≤ e → e < 65536 →
    ∃ u, exec (.holdupReadySet t e) s = .next u ∧ u.rdB PowerStatus.HOLDUP_READY = true ∧ u.rd PowerStatus.HOLDUP_ENERGY = e ∧
      (9 ≤ s.boot.phase → 10 ≤ u.boot.phase)) ∧
  (∀ (t : Nat) (s : State), s.power.supply = .holdup → s.power.holdupAt + msec 5 ≤ t → s.power.gaspSent = false →
    ∃ u, exec (.lastGasp t) s = .next u ∧ u.power.gaspSent = true ∧
      ∀ x ∈ s.mbx.sess, s.sess? x.num = some x →
        ∃ q, Out.frame x.conn flagUnsolicited 0x00F2 0 q x.num (s.at t).gaspNotice ∈ u.out) ∧
  (∀ (t : Nat) (s : State), s.inv = true → s.power.supply = .holdup → s.power.holdupAt + msec 10 ≤ t → s.power.shed = false →
    ∃ u, exec (.holdupShed t) s = .next u ∧ u.power.shed = true ∧ ∀ k < 4, (u.pout k).active = 0) ∧
  (∀ (t : Nat) (s : State), s.power.supply = .holdup → s.power.holdupAt + msec 60 ≤ t →
    ∃ u, exec (.holdupClosed t) s = .next u ∧ u.hist.lapOpen = none ∧ u.hist.evOpen = []) ∧
  (∀ (t : Nat) (g : GaspEnd) (s : State), s.inv = true → s.power.supply = .holdup →
    (s.power.holdupAt + msec 300 ≤ t ∨ g.exhausted = true) →
    ∃ u, exec (.holdupHalt t g) s = .next u ∧
      (s.nv.transport = true →
        u.power.supply = (if s.rdB PowerStatus.AUX_PRESENT then .transport else .off) ∧ u.boot = .init ∧ u.mbx = .init) ∧
      (s.nv.transport = false → s.rdB PowerStatus.AUX_PRESENT = true ∨ s.rdB PowerStatus.TAP_START_OK = true →
        u.power.supply = (if s.rdB PowerStatus.AUX_PRESENT then .normal else .backup) ∧ Starts g.hot 2 t s u) ∧
      (s.nv.transport = false → s.rdB PowerStatus.AUX_PRESENT = false → s.rdB PowerStatus.TAP_START_OK = false →
        u.power.supply = .off ∧ u.boot = .init ∧ u.mbx = .init))

/-- ENTER_TRANSPORT with the button token, every contactor open, no update, no ENTER_TRANSPORT under way and TRANSPORT_WAKE_V
of some enabled string set writes the TRANSPORT flag, binds the token to the session and waits for its answer. 250 ms
after the last TRANSPORT_SLEEP has gone out the first of two enumerations is noted with the nodes that it finds awake;
after the second, 100 ms on, with an answer of every node and none awake in either, TRANSPORT_CONFIRM answers ST_OK, the
tap converter is off, and the dies are to go off 1 s later; TRANSPORT_DIES_OFF then puts the module in TRANSPORT, with
nothing of the run and of the mailbox left. In TRANSPORT an enabled string at or above its TRANSPORT_WAKE_V for 5 s with
AUX MAINS for 5 s clears the flag and starts the module in NORMAL with cause 5 at that instant. In OFF without the flag,
AUX MAINS for 100 ms starts it in NORMAL, and TAP_START_OK without AUX MAINS in BACKUP, with cause 1 at that instant; with
the flag, AUX MAINS brings TRANSPORT. Where a release comparator of a fitted die reads hot, such a start sets the caldera
latch with the first of them (which is first is the model's choice, log 60) and holds the dies instead of beginning its
steps. -/
def Obligations.TransportAndStart : Prop :=
  (∀ (t : Nat) (r : Req) (s : State) (x : Sess), s.inv = true → Served r 3 s x → s.security ≠ 3 → s.security ≠ 4 →
    (s.at t).tokenOk x.num false = true → s.notOpen = 0 → s.updating = false → s.power.transRid = none →
    s.power.transOffAt = none → s.wakeSet = true → s.inHoldup = false →
    ∃ u, exec (.enterTransport t r []) s = .next u ∧ u.nv.transport = true ∧ u.sec.bound = x.num ∧
      u.rd PresenceStatus.TOKEN_STATE = 2 ∧ u.power.transRid = some ⟨r.conn, x.num, 0x74, r.seq, x.next⟩) ∧
  (∀ (t : Nat) (rid : Rid) (awake : List (Nat × Nat)) (s : State), s.power.transRid = some rid → s.sleepSent = true →
    s.power.transAt + msec 250 ≤ t → s.power.transEnum = none →
    ∃ u, exec (.transportConfirm t awake) s = .next u ∧ u.power.transEnum = some (max s.now t, awake) ∧
      u.power.transRid = some rid) ∧
  (∀ (t a : Nat) (rid : Rid) (s : State) (x : Sess), s.inv = true → s.power.transRid = some rid → s.sleepSent = true →
    s.power.transAt + msec 250 ≤ t → s.power.transEnum = some (a, []) → a + msec 100 ≤ t → (∀ n ∈ s.sleepOrder, s.power.transAnswers.contains n = true) →
    s.sess? rid.sess = some x → x.conn = rid.conn → x.outst = [⟨rid.cmd, rid.seq, none, rid.no⟩] →
    ∃ u, exec (.transportConfirm t []) s = .next u ∧ u.power.transRid = none ∧
      u.power.transOffAt = some (max s.now t + secs 1) ∧ u.rdB PowerStatus.TAP_RUNNING = false ∧
      Out.frame rid.conn flagResponse rid.cmd stOk rid.seq rid.sess [] ∈ u.out) ∧
  (∀ (t a : Nat) (s : State), s.power.transOffAt = some a → a ≤ t →
    ∃ u, exec (.transportDiesOff t) s = .next u ∧ u.power.supply = .transport ∧ u.boot = .init ∧ u.mbx = .init) ∧
  (∀ (t str mv since a b m d : Nat) (x y : Bool) (z : StartSeen) (s : State) (q : Nat), s.power.supply = .transport → s.rdB PowerStatus.AUX_PRESENT = true →
    s.power.auxSince = some q → q + secs 5 ≤ t → since + secs 5 ≤ t → s.hasStr str = true → bitOf m str = true →
    s.nv.store.rd StringPower.TRANSPORT_WAKE_V str ≠ 0xFFFFFFFF → s.nv.store.rd StringPower.TRANSPORT_WAKE_V str ≤ mv →
    ∃ u, exec (.transportWake t str mv since a b m d x y z) s = .next u ∧ u.nv.transport = false ∧ u.power.supply = .normal ∧
      Starts z.hot 5 t s u) ∧
  (∀ (t a b m d : Nat) (x y : Bool) (z : StartSeen) (s : State), s.power.supply = .off →
    ((∃ q, s.nv.transport = false ∧ s.rdB PowerStatus.AUX_PRESENT = true ∧ s.power.auxSince = some q ∧ q + msec 100 ≤ t) →
      ∃ u, exec (.startFromOff t a b m d x y z) s = .next u ∧ u.power.supply = .normal ∧
        Starts z.hot 1 t s u) ∧
    (s.nv.transport = false → s.rdB PowerStatus.AUX_PRESENT = false → s.rdB PowerStatus.TAP_START_OK = true →
      ∃ u, exec (.startFromOff t a b m d x y z) s = .next u ∧ u.power.supply = .backup ∧
        Starts z.hot 1 t s u) ∧
    (s.nv.transport = true → s.rdB PowerStatus.AUX_PRESENT = true →
      ∃ u, exec (.startFromOff t a b m d x y z) s = .next u ∧ u.power.supply = .transport))

/-- With an unfinished erase or program, the replay at step 4 clears both, counts the start and brings step 7. After an
invalid reading of the switches at the start, SWITCH_FAULT_RETRY with both rotary switches valid applies the reading:
BLOCK_ID and PROFILE_APPLIED are those positions, and no further retry is due. The runtime starts at step 7: step 8
alone in DECOMMISSIONED, else step 9 or later. The end of the history store's initialisation clears INIT_PENDING. -/
def Obligations.StartSequenceSteps : Prop :=
  (∀ (t : Nat) (s : State), s.boot.phase = 4 → s.boot.halt = false → (s.nv.eraseCut = true ∨ s.nv.programCut = true) →
    ∃ u, exec (.journalReplayed t) s = .next u ∧ u.boot.phase = 7 ∧ u.nv.bootCount = s.nv.bootCount + 1 ∧
      u.nv.eraseCut = false ∧ u.nv.programCut = false) ∧
  (∀ (t a b m d : Nat) (s : State), s.inv = true → s.panel.retry = true → 6 ≤ s.boot.phase → a < 16 → b < 16 →
    ∃ u, exec (.switchFaultRetry t a b m d) s = .next u ∧ u.rd ModuleIdentity.BLOCK_ID = b ∧
      u.rd ModuleTerminals.PROFILE_APPLIED = a ∧ u.panel.retry = false ∧ u.panel.applied = [a, b, m, d]) ∧
  (∀ (t : Nat) (a b : Bool) (s : State), s.inv = true → s.boot.phase = 7 → s.boot.halt = false → s.power.powered = true →
    ∃ u, exec (.runtimeStart t a b) s = .next u ∧
      (s.security = 5 → u.boot.phase = 8) ∧ (s.security ≠ 5 → 9 ≤ u.boot.phase)) ∧
  (∀ (t : Nat) (s : State), s.inv = true → s.power.powered = true → s.boot.halt = false → 4 ≤ s.boot.phase →
    ∃ u, exec (.historyInitComplete t) s = .next u ∧ u.rdB HistoryStatus.INIT_PENDING = false)

/-- While powered, COIL_SUPPLY_V shows the voltage measured; COIL_SUPPLY_LOW sets below 16.5 V and clears above 17.5 V,
COIL_SUPPLY_HIGH sets above 34 V and clears below 33 V. A change of a detection bridge is shown in CONN_OPEN and counts
in CONN_OPEN_COUNT. While the module runs, a reading of the switches is kept, and SWITCH_CHANGED, where both rotary
switches read valid and the reading at the start was valid, is set exactly where it differs from the one applied. From
the first reading of the switches on, the opening of the cover sets SEAL_OPEN and SEAL_OPENED and its time; before it, while
the dies are halted and unpowered it changes no register and the next start finds the cover open; its closing clears
SEAL_OPEN and changes no other register. -/
def Obligations.TerminalReadings : Prop :=
  (∀ (t mv : Nat) (s : State), s.inv = true → s.power.powered = true → mv < 65536 →
    ∃ u, exec (.coilSupplyThreshold t mv) s = .next u ∧ u.rd ModuleTerminals.COIL_SUPPLY_V = mv ∧
      u.rdB ModuleTerminals.COIL_SUPPLY_LOW = (decide (mv < 16500) || (s.rdB ModuleTerminals.COIL_SUPPLY_LOW && decide (mv ≤ 17500))) ∧
      u.rdB ModuleTerminals.COIL_SUPPLY_HIGH = (decide (34000 < mv) || (s.rdB ModuleTerminals.COIL_SUPPLY_HIGH && decide (33000 ≤ mv)))) ∧
  (∀ (t n : Nat) (b : Bool) (s : State), s.inv = true → s.power.powered = true → s.hasStr n = true → s.rdB StringTerminals.CONN_OPEN n ≠ b →
    ∃ u, exec (.connOpenChanged t n b) s = .next u ∧ u.rdB StringTerminals.CONN_OPEN n = b ∧
      u.rd StringTerminals.CONN_OPEN_COUNT n = satAdd 32 (s.rd StringTerminals.CONN_OPEN_COUNT n) 1 % 2 ^ 32) ∧
  (∀ (t a b m d : Nat) (s : State), s.inv = true → s.running = true →
    ∃ u, exec (.switchReading t a b m d) s = .next u ∧ u.panel.sw = [a, b, m, d] ∧
      (s.panel.retry = false → a < 16 → b < 16 → u.rdB ModuleTerminals.SWITCH_CHANGED = decide ([a, b, m, d] ≠ s.panel.applied))) ∧
  (∀ (t : Nat) (s : State), s.inv = true → s.power.powered = true → 6 ≤ s.boot.phase → s.boot.halt = false →
    s.rdB ModuleTerminals.SEAL_OPEN = false →
    ∃ u, exec (.sealOpen t) s = .next u ∧ u.panel.cover = true ∧ u.rdB ModuleTerminals.SEAL_OPEN = true ∧ u.rdB ModuleTerminals.SEAL_OPENED = true ∧
      u.rd ModuleTerminals.SEAL_OPEN_TIME = timeVal (s.at t).base % 2 ^ 80) ∧
  (∀ (t : Nat) (s : State), s.power.powered = false ∨ s.boot.phase < 6 ∨ s.boot.halt = true →
    ∃ u, exec (.sealOpen t) s = .next u ∧ u.panel.cover = true ∧ u.objs = s.objs) ∧
  (∀ (t : Nat) (s : State), s.inv = true → s.power.powered = true →
    ∃ u, exec (.coverClosed t) s = .next u ∧ u.rdB ModuleTerminals.SEAL_OPEN = false ∧
      ∀ (f : Fld) (i x : Nat), f.key i x ≠ ModuleTerminals.SEAL_OPEN.key 0 0 → u.rd f i x = s.rd f i x)

/-- While the module runs, a press of 50 ms to less than 2 s advances the page and lights the display; 10 min without a press
blank it; neither changes a register. A hold of 2 s that did not begin before the start, where presence is accepted and
the button has made no event yet, creates the button token. A hold above 10 s, or one that began before the start, sets
PRESENCE_STUCK; the release clears it. The jumper fitted and stable for 50 ms shows in J_SVC_FITTED and creates the
jumper token where presence is accepted; its removal clears J_SVC_FITTED and changes no other register. 120 s end a
token. -/
def Obligations.PresenceAndPanel : Prop :=
  (∀ (t held : Nat) (s : State), s.running = true → msec 50 ≤ held → held < secs 2 →
    ∃ u, exec (.presenceButtonPress t held) s = .next u ∧ u.panel.page = (s.panel.page + 1) % 4 ∧ u.panel.lit = true ∧
      u.objs = s.objs) ∧
  (∀ (t : Nat) (s : State), s.panel.lastPress + secs 600 ≤ t →
    ∃ u, exec (.displayBlank t) s = .next u ∧ u.panel.lit = false ∧ u.objs = s.objs) ∧
  (∀ (t since : Nat) (s : State), s.inv = true → s.presenceOk = true → s.panel.fired = false → since + secs 2 ≤ t →
    (s.at t).heldAtStart since = false →
    ∃ u, exec (.presenceEvent t since) s = .next u ∧ u.sec.token = 1 ∧ u.sec.tokenAt = max s.now t ∧
      u.rd PresenceStatus.TOKEN_STATE = 1 ∧ u.rd PresenceStatus.TOKEN_SOURCE = 1) ∧
  (∀ (t since : Nat) (s : State), s.inv = true → s.running = true →
    (since + secs 10 < t ∨ (s.at t).heldAtStart since = true) →
    ∃ u, exec (.presenceStuck t since) s = .next u ∧ u.rdB ModuleTerminals.PRESENCE_STUCK = true) ∧
  (∀ (t held : Nat) (s : State), s.inv = true →
    ∃ u, exec (.presenceButtonReleased t held) s = .next u ∧ u.rdB ModuleTerminals.PRESENCE_STUCK = false) ∧
  (∀ (t since : Nat) (s : State), s.inv = true → s.power.powered = true → s.rdB ModuleTerminals.J_SVC_FITTED = false →
    since + msec 50 ≤ t →
    ∃ u, exec (.jSvcFitted t since) s = .next u ∧ u.rdB ModuleTerminals.J_SVC_FITTED = true ∧
      (s.presenceOk = true → u.sec.token = 2 ∧ u.rd PresenceStatus.TOKEN_SOURCE = 2)) ∧
  (∀ (t : Nat) (s : State), s.inv = true → s.power.powered = true →
    ∃ u, exec (.jSvcRemoved t) s = .next u ∧ u.rdB ModuleTerminals.J_SVC_FITTED = false ∧
      ∀ (f : Fld) (i x : Nat), f.key i x ≠ ModuleTerminals.J_SVC_FITTED.key 0 0 → u.rd f i x = s.rd f i x) ∧
  (∀ (t : Nat) (s : State), s.inv = true → s.sec.token ≠ 0 → s.sec.tokenAt + tokenLife ≤ t →
    ∃ u, exec (.tokenExpired t) s = .next u ∧ u.sec.token = 0 ∧ u.rd PresenceStatus.TOKEN_STATE = 0)

/-- A TCP connection to MAILBOX_PORT of its port, under the port's VLAN, with fewer than four handshakes under way, is accepted
under the port's 802.1Q tag and entered with its handshake under way, and nothing else changes; with four it is reset and
not entered. A handshake completed outside the commissioning window with the options of Table 5.1 and certificates that
a trust list entry matches opens the connection with the entry's class, under the cipher suite and the record size of the
table. In the window the first client admitted opens its connection with MAINTAIN and closes the window. A handshake not
complete after 10 s is abandoned: it is counted in TLS_FAILURES and its connection is removed. A connection without
OPEN_SESSION for 10 s is closed and counted in SESSIONS_REFUSED. The end of a connection removes it. On an open connection
a KeyUpdate counts for the client's keys, and where it asks for one is answered and counts for the module's; a record
above 16,384 bytes of plaintext ends the connection. A packet under the port's VLAN is answered exactly where the network
layer answers it: an ARP request or a whole ICMP echo request for the port's address. -/
def Obligations.ConnectionsComeAndGo : Prop :=
  (∀ (t id port dst tag addr tcp : Nat) (s : State), s.mailboxUp = true → s.conn? id = none → (port = 1 ∨ port = 2) →
    tag = s.netNow 4 port → dst = s.netNow 3 port →
    ((s.mbx.conns.filter fun c => !c.up).length < 4 →
      ∃ u, exec (.tcpConnection t id port addr ⟨tcp, dst, tag⟩ .connect) s = .next u ∧ Only ⟨false, [], [.mbx, .out]⟩ s u ∧
        u.out = .accept id port (s.netTag port) :: s.out ∧
        u.mbx.conns = s.mbx.conns ++
          [⟨id, port, addr, tcp, max s.now t, false, 0, 0xFF, [], false, false, false, 0, 0, 0, 0, 0⟩]) ∧
    (4 ≤ (s.mbx.conns.filter fun c => !c.up).length →
      ∃ u, exec (.tcpConnection t id port addr ⟨tcp, dst, tag⟩ .connect) s = .next u ∧ u.out = .close id :: s.out ∧
        u.mbx.conns = s.mbx.conns)) ∧
  (∀ (t id port dst tag addr tcp e : Nat) (h : Hello) (s : State) (c : Conn), s.inv = true → s.mailboxUp = true →
    s.conn? id = some c → c.up = false → helloOk h = true → h.chain ≠ [] → h.chain.length ≤ 4 →
    s.nv.keysPresent = true → (s.rdB TimeStatus.FIRST_LOCK_DONE = true → Config.datesOk h.chain (s.at t).base = true) →
    (s.at t).windowOpen = false → (s.at t).trustMatch h.chain = some e →
    ∃ u c', exec (.tcpConnection t id port addr ⟨tcp, dst, tag⟩ (.finished h true)) s = .next u ∧
      u.out = .tls id (helloSuite h) (helloRecord h) :: s.out ∧ u.conn? id = some c' ∧ c'.up = true ∧
      c'.cls = s.rd TrustList.CLASS e ∧ c'.chain = h.chain ∧ c'.suite = helloSuite h ∧ c'.recMax = helloRecord h) ∧
  (∀ (t id : Nat) (s : State) (c : Conn), s.inv = true → s.mailboxUp = true → s.conn? id = some c → c.up = false → c.since + secs 10 ≤ t →
    ∃ u, exec (.handshakeTimeout t id) s = .next u ∧ u.conn? id = none ∧ u.out = .tlsFail id :: s.out ∧
      Counts MailboxStatus.TLS_FAILURES 0 s u) ∧
  (∀ (t id : Nat) (s : State) (c : Conn), s.inv = true → s.mailboxUp = true → s.conn? id = some c → c.up = true → c.opened = false →
    c.since + secs 10 ≤ t →
    ∃ u, exec (.openSessionTimeout t id) s = .next u ∧ u.conn? id = none ∧ u.out.head? = some (.close id) ∧
      Counts MailboxStatus.SESSIONS_REFUSED 0 s u) ∧
  (∀ (t id : Nat) (s : State), s.running = true →
    ∃ u, exec (.connectionEnd t id) s = .next u ∧ u.conn? id = none) ∧
  (∀ (t id : Nat) (h : Hello) (s : State) (c : Conn), s.inv = true → s.mailboxUp = true → s.conn? id = some c → c.up = false →
    (s.at t).windowOpen = true → helloOk h = true → h.chain ≠ [] → h.chain.length ≤ 4 → s.nv.keysPresent = true →
    (s.rdB TimeStatus.FIRST_LOCK_DONE = true → Config.datesOk h.chain (s.at t).base = true) →
    (∀ x ∈ s.mbx.sess, x.conn ≠ id) →
    ∃ u c', exec (.commissioned t id h true) s = .next u ∧ u.conn? id = some c' ∧ c'.up = true ∧ c'.cls = 3 ∧
      c'.chain = h.chain ∧ u.sec.window = false ∧ u.rdB SecurityStatus.COMMISSIONING_OPEN = false) ∧
  (∀ (t id port addr n : Nat) (tcp : TcpPorts) (asks : Bool) (s : State) (c : Conn), s.mailboxUp = true →
    s.conn? id = some c → c.up = true →
    (∃ u c', exec (.tcpConnection t id port addr tcp (.keyUpdate asks)) s = .next u ∧ u.conn? id = some c' ∧
      c'.rxKeys = c.rxKeys + 1 ∧ c'.txKeys = (if asks then c.txKeys + 1 else c.txKeys) ∧
      u.out = (if asks then [.keyUpdate id] else []) ++ s.out) ∧
    (16384 < n → ∃ u, exec (.tcpConnection t id port addr tcp (.record n)) s = .next u ∧ u.conn? id = none ∧
      u.out.head? = some (.close id)) ∧
    (n ≤ 16384 → exec (.tcpConnection t id port addr tcp (.record n)) s = .next (s.at t))) ∧
  (∀ (t id port addr a k : Nat) (f : Bool) (tcp : TcpPorts) (q : NetQuery) (s : State), s.mailboxUp = true →
    (port = 1 ∨ port = 2) → tcp.tag = s.netNow 4 port →
    (q = .arp (s.netNow 0 port) ∨ q = .echo (s.netNow 0 port) false k ∧ k ≤ 1500 →
      ∃ u, exec (.tcpConnection t id port addr tcp (.query q)) s = .next u ∧
        u.out = .netReply port (s.netTag port) q :: s.out ∧ Only ⟨false, [], [.out]⟩ s u) ∧
    (q = .other ∨ q = .arp a ∧ a ≠ s.netNow 0 port ∨ q = .echo a f k ∧ (a ≠ s.netNow 0 port ∨ f = true ∨ 1500 < k) →
      exec (.tcpConnection t id port addr tcp (.query q)) s = .next (s.at t)))

/-- OPEN_SESSION on an open connection without a session takes the lowest free number with the connection's class, sets
SESSION_STATE to 1 and answers it; where no number is free it is answered ST_BUSY, counted in SESSIONS_REFUSED, and the
connection is closed. PING_SESSION answers ST_OK and changes only the session, REQUESTS and the output. CLOSE_SESSION
answers ST_OK and ends the session. A session idle for SESSION_IDLE of its port is told so with reason 1 and its
connection closed (that the connection goes too is the model's choice, log 42). A readable frame with a command outside Table 5.4 is answered ST_UNKNOWN; an unreadable one ends the
connection. -/
def Obligations.SessionsOpenAndClose : Prop :=
  (∀ (t : Nat) (r : Req) (s : State) (c : Conn), s.inv = true → s.mailboxUp = true → s.conn? r.conn = some c → c.up = true →
    (s.mbx.sess.find? fun x => x.conn == r.conn) = none → r.ver = 1 → r.sess = 0 →
    (∀ n, s.freeSession = some n →
      ∃ u x, exec (.openSession t r []) s = .next u ∧ u.sess? n = some x ∧ x.conn = r.conn ∧ x.cls = c.cls ∧ x.outst = [] ∧
        u.out.head? = some (.frame r.conn flagResponse 0x10 stOk r.seq n ([n, c.cls, s.security, 0] ++ toLE 4 65536)) ∧
        u.rd SessionStatus.SESSION_STATE n = 1) ∧
    (s.freeSession = none →
      ∃ u, exec (.openSession t r []) s = .next u ∧ u.conn? r.conn = none ∧ Counts MailboxStatus.SESSIONS_REFUSED 0 s u ∧
        Out.frame r.conn flagResponse 0x10 stBusy r.seq 0 [] ∈ u.out ∧ u.out.head? = some (.close r.conn))) ∧
  (∀ (t : Nat) (r : Req) (s : State) (x : Sess), Served r 1 s x →
    ∃ u, exec (.pingSession t r []) s = .next u ∧ Responds u r 0x12 stOk [] ∧
      Only ⟨false, [SessionStatus.REQUESTS.area], [.mbx, .out]⟩ s u) ∧
  (∀ (t : Nat) (r : Req) (s : State) (x : Sess), Served r 1 s x →
    ∃ u, exec (.closeSession t r []) s = .next u ∧ u.sess? x.num = none ∧
      Out.frame r.conn flagResponse 0x11 stOk r.seq r.sess [] ∈ u.out) ∧
  (∀ (t num : Nat) (s : State) (x : Sess) (c : Conn), s.mailboxUp = true → s.sess? num = some x → s.conn? x.conn = some c →
    x.lastFrame + secs (s.netNow 2 c.port) ≤ t →
    ∃ u, exec (.sessionIdle t num) s = .next u ∧ u.conn? x.conn = none ∧ u.out.head? = some (.close x.conn) ∧
      ∃ q, Out.frame x.conn flagUnsolicited 0xF3 0 q num [1] ∈ u.out) ∧
  (∀ (t conn : Nat) (hdr : Bytes) (s : State) (x : Sess), unreadable hdr = false → hostCommands.contains (field hdr 4 2) = false →
    Served ⟨conn, field hdr 2 1, field hdr 0x0A 1, field hdr 8 2⟩ 0 s x →
    ∃ u, exec (.unreadableFrame t conn hdr) s = .next u ∧
      Responds u ⟨conn, field hdr 2 1, field hdr 0x0A 1, field hdr 8 2⟩ (field hdr 4 2) stUnknown [] ∧
      Only ⟨false, [SessionStatus.REQUESTS.area], [.mbx, .out]⟩ s u) ∧
  (∀ (t conn : Nat) (hdr : Bytes) (s : State) (c : Conn), unreadable hdr = true → s.mailboxUp = true → s.conn? conn = some c → c.up = true →
    ∃ u, exec (.unreadableFrame t conn hdr) s = .next u ∧ u.conn? conn = none ∧ u.out.head? = some (.close conn))

/-- GET_IDENTITY answers MODULE_IDENTITY and the number of certificates; GET_CERT the certificate named, or ST_RANGE with
offset 0 where there is none; GET_QUOTE with slots named the quote over them with its signature, padded to 96 bytes,
and ST_RANGE with offset 32 where none is named; LIST_OBJ an entry for every object of the subject named, or of all for
subject 0. Each answer is the newest output, and nothing changes but the session, REQUESTS, the output and, for the
quote, the count of free values. -/
def Obligations.IdentityReads : Prop :=
  (∀ (t : Nat) (r : Req) (s : State) (x : Sess), Served r 1 s x →
    ∃ u, exec (.getIdentity t r []) s = .next u ∧
      Responds u r 0x30 stOk (s.objBytes ModuleIdentity.desc 0 ++ [Config.certCount % 256]) ∧
      Only ⟨false, [SessionStatus.REQUESTS.area], [.mbx, .out]⟩ s u) ∧
  (∀ (t : Nat) (r : Req) (p : Bytes) (s : State) (x : Sess), Served r 1 s x → p.length = 1 →
    ∃ u, exec (.getCert t r p) s = .next u ∧
      (field p 0 1 < Config.certCount → Responds u r 0x31 stOk (Config.cert (field p 0 1))) ∧
      (Config.certCount ≤ field p 0 1 → Responds u r 0x31 stRange (toLE 2 0)) ∧
      Only ⟨false, [SessionStatus.REQUESTS.area], [.mbx, .out]⟩ s u) ∧
  (∀ (t : Nat) (r : Req) (p : Bytes) (s : State) (x : Sess), Served r 1 s x → p.length = 33 →
    ∃ u, exec (.getQuote t r p) s = .next u ∧
      (field p 32 1 ≠ 0 → Responds u r 0x32 stOk ((s.at t).quoteBody (p.take 32) (field p 32 1) ++
        padTo 96 (Config.sign s.free ((s.at t).quoteBody (p.take 32) (field p 32 1))))) ∧
      (field p 32 1 = 0 → Responds u r 0x32 stRange (toLE 2 32)) ∧
      Only ⟨false, [SessionStatus.REQUESTS.area], [.mbx, .out, .free]⟩ s u) ∧
  (∀ (t : Nat) (r : Req) (p : Bytes) (s : State) (x : Sess), Served r 1 s x → p.length = 1 →
    ∃ u, exec (.listObj t r p) s = .next u ∧
      Responds u r 0x06 stOk ((Obj.all.filter fun d => decide (field p 0 1 = 0) || decide (d.id / 256 = field p 0 1)).flatMap s.listEntry) ∧
      Only ⟨false, [SessionStatus.REQUESTS.area], [.mbx, .out]⟩ s u)

/-- BEGIN_TXN on a session without a transaction opens an empty one and answers ST_OK; ABORT_TXN discards the open one and
answers ST_OK; a transaction without a frame for 60 s is discarded. Only the session changes, and for the requests
REQUESTS and the output. -/
def Obligations.TransactionsOpenAndEnd : Prop :=
  (∀ (t : Nat) (r : Req) (s : State) (x : Sess), Served r 2 s x → x.txn = none →
    ∃ u y, exec (.beginTxn t r []) s = .next u ∧ Responds u r 0x03 stOk [] ∧ u.sess? x.num = some y ∧
      y.txn = some ⟨[], [], max s.now t⟩ ∧ Only ⟨false, [SessionStatus.REQUESTS.area], [.mbx, .out]⟩ s u) ∧
  (∀ (t : Nat) (r : Req) (s : State) (x : Sess) (q : Txn), Served r 2 s x → x.txn = some q →
    ∃ u y, exec (.abortTxn t r []) s = .next u ∧ Responds u r 0x05 stOk [] ∧ u.sess? x.num = some y ∧ y.txn = none ∧
      Only ⟨false, [SessionStatus.REQUESTS.area], [.mbx, .out]⟩ s u) ∧
  (∀ (t num : Nat) (s : State) (x : Sess) (q : Txn), s.mailboxUp = true → s.sess? num = some x → x.txn = some q → q.lastFrame + secs 60 ≤ t →
    ∃ u, exec (.txnTimeout t num) s = .next u ∧ u.sess? num = some { x with txn := none } ∧ Only ⟨false, [], [.mbx]⟩ s u)

/-- Outside HOLDUP: ENTER_SERVICE with a token of either source, while no ENABLE_DEBUG waits, moves FIELD to SERVICE, binds
the token and answers ST_OK; after LEAVE_SERVICE the state is FIELD, and where no ENABLE_DEBUG waits it is answered ST_OK.
ENABLE_DEBUG outside FIELD and DECOMMISSIONED, with no update running and no other one waiting, moves to SERVICE for LEVEL
0 and, with a token and its bit of DEBUG_ALLOWED set, to DEBUG_OBSERVE for LEVEL 1; for LEVEL 2 it waits for its answer,
or the state is DEBUG_FULL at once. SERVICE and the debug states without a MAINTAIN session for SERVICE_IDLE, the lead
cluster of the manager die running, move to FIELD. RESTART_MODULE answers ST_OK, ends every session and starts afresh with
cause 7. DECOMMISSION_MODULE in SERVICE with the button token, the module's serial number, every string at rest and no
update erases what is stored and the keys, blows the fuse, ends every session and starts with cause 7. A probe attached
for 100 ms while no ENABLE_DEBUG waits leaves the state and counts; it halts a lead cluster at debug level 2 and lets it
run at any. -/
def Obligations.SecurityStatesChange : Prop :=
  (∀ (t : Nat) (r : Req) (s : State) (x : Sess), s.inv = true → Served r 3 s x → s.security = 1 → (s.at t).tokenOk x.num true = true → s.inHoldup = false →
    s.sec.dbgWait = false →
    ∃ u, exec (.enterService t r []) s = .next u ∧ u.security = 2 ∧ u.sec.bound = x.num ∧
      Out.frame r.conn flagResponse 0x70 stOk r.seq r.sess [] ∈ u.out) ∧
  (∀ (t : Nat) (r : Req) (s : State) (x : Sess), s.inv = true → Served r 3 s x → s.inHoldup = false →
    ∃ u, exec (.leaveService t r []) s = .next u ∧ u.security = 1 ∧
      (s.sec.dbgRid = none → Out.frame r.conn flagResponse 0x71 stOk r.seq r.sess [] ∈ u.out)) ∧
  (∀ (t : Nat) (r : Req) (p : Bytes) (s : State) (x : Sess), s.inv = true → Served r 3 s x → p.length = 4 → (s.security = 2 ∨ s.security = 3 ∨ s.security = 4) →
    s.inHoldup = false → s.updateBusy = false → s.sec.dbgWait = false →
    (field p 0 1 = 0 → ∃ u, exec (.enableDebug t r p) s = .next u ∧ u.security = 2) ∧
    (field p 0 1 = 1 → (s.at t).tokenOk x.num true = true → bitOf (s.rd DebugConfig.DEBUG_ALLOWED) 0 = true →
      ∃ u, exec (.enableDebug t r p) s = .next u ∧ u.security = 3) ∧
    (field p 0 1 = 2 → (s.at t).tokenOk x.num true = true → bitOf (s.rd DebugConfig.DEBUG_ALLOWED) 1 = true →
      ∃ u, exec (.enableDebug t r p) s = .next u ∧
        (u.security = 4 ∨ (u.sec.dbgWait = true ∧ u.sec.dbgRid = some ⟨r.conn, x.num, 0x72, r.seq, x.next⟩)))) ∧
  (∀ (t : Nat) (s : State), s.inv = true → s.running = true → (s.security = 2 ∨ s.security = 3 ∨ s.security = 4) → s.dieHalted 0 = false →
    (∀ x ∈ s.mbx.sess, x.cls ≠ 3) → s.sec.idleSince + secs (s.rd DebugConfig.SERVICE_IDLE) ≤ t → s.inHoldup = false →
    ∃ u, exec (.serviceIdle t) s = .next u ∧ u.security = 1) ∧
  (∀ (t d : Nat) (b : Bool) (s : State), s.inv = true → s.running = true → s.hasDie d = true → d < s.sec.halted.length →
    (b = false ∨ s.rd SecurityStatus.DEBUG_LEVEL = 2) →
    ∃ u, exec (.clusterHalt t d b) s = .next u ∧ u.dieHalted d = b) ∧
  (∀ (t mv since : Nat) (s : State), s.inv = true → s.power.powered = true → s.rdB SecurityStatus.PROBE_ATTACHED = false → 1500 ≤ mv →
    since + msec 100 ≤ t → s.sec.dbgWait = false → s.security < 256 →
    ∃ u, exec (.probeAttached t mv since) s = .next u ∧ u.rdB SecurityStatus.PROBE_ATTACHED = true ∧ u.security = s.security ∧
      Counts DebugConfig.PROBE_ATTACHES 0 s u) ∧
  (∀ (t : Nat) (r : Req) (s : State) (x : Sess), s.inHoldup = false → Served r 3 s x →
    ∃ u, exec (.restartModule t r []) s = .next u ∧ u.boot.cause = 7 ∧ u.boot.t0 = max s.now t ∧ u.mbx.sess = [] ∧
      Out.frame r.conn flagResponse 0x80 stOk r.seq r.sess [] ∈ u.out) ∧
  (∀ (t : Nat) (r : Req) (p : Bytes) (s : State) (x : Sess), s.inv = true → Served r 3 s x → p.length = 16 → s.security = 2 → (s.at t).tokenOk x.num false = true →
    s.inHoldup = false → ofLE p = s.rd ModuleIdentity.SERIAL → s.allResting = true → s.updateBusy = false →
    ∃ u, exec (.decommissionModule t r p) s = .next u ∧ u.nv.decommissioned = true ∧ u.nv.store = [] ∧ u.nv.keysPresent = false ∧
      u.mbx.sess = [] ∧ u.boot.cause = 7)

/-- While the module runs: the loss of the reference sets REFCLK_FAIL and switches every coil off. A pace measurement of a die
below 6,553.6 % is shown as PACE and, less the breather fraction, as EFFECTIVE_PACE; one below 20.0 %, or no count for 2
ms, sets DIE_STALLED. A manager heartbeat missing for 10 ms switches the string's coils off. A corrected error and a
scrub pass each count one and no other register changes; a failed self-test of the spare sets SELF_TEST_FAIL alone, and
a good one changes no register. The watchdog, below debug level 2 and outside HOLDUP, restarts the module with cause 6,
every session ended. -/
def Obligations.DiesAndClocksSupervised : Prop :=
  (∀ (t : Nat) (s : State), s.inv = true → s.running = true → s.rdB ModuleHealth.REFCLK_FAIL = false →
    ∃ u, exec (.refclkFail t) s = .next u ∧ u.rdB ModuleHealth.REFCLK_FAIL = true ∧ ∀ n, s.hasStr n = true → CoilsOff n u) ∧
  (∀ (t die pace : Nat) (s : State), s.inv = true → s.running = true → s.hasDie die = true → pace < 65536 →
    ∃ u, exec (.paceMeasurement t die pace) s = .next u ∧ u.rd DieStatus.PACE die = pace ∧
      u.rd DieStatus.EFFECTIVE_PACE die = pace * (1000 - s.rd DieStatus.BREATHER_FRACTION die) / 1000) ∧
  (∀ (t die : Nat) (p : Option Nat) (s : State), s.inv = true → s.running = true → s.hasDie die = true →
    ((∃ v, p = some v ∧ v < 200) ∨ (p = none ∧ (s.die die).lastCount + msec 2 ≤ t)) →
    ∃ u, exec (.dieStalled t die p) s = .next u ∧ u.rdB DieStatus.DIE_STALLED die = true) ∧
  (∀ (t str last : Nat) (s : State), s.inv = true → s.running = true → s.hasStr str = true → last + msec 10 ≤ t →
    ∃ u, exec (.managerHeartbeatMissing t str last) s = .next u ∧ CoilsOff str u) ∧
  (∀ (t : Nat) (s : State), s.inv = true → s.running = true →
    ∃ u, exec (.dramCorrectedError t) s = .next u ∧ Counts ModuleHealth.DRAM_CE_COUNT 0 s u ∧
      Only ⟨false, [ModuleHealth.DRAM_CE_COUNT.area], []⟩ s u) ∧
  (∀ (t : Nat) (s : State), s.inv = true → s.running = true →
    ∃ u, exec (.scrubPass t) s = .next u ∧ Counts ModuleHealth.SCRUB_PASSES 0 s u ∧
      Only ⟨false, [ModuleHealth.SCRUB_PASSES.area], []⟩ s u) ∧
  (∀ (t die : Nat) (s : State), s.inv = true → s.running = true → s.hasDie die = true →
    (∃ u, exec (.spareSelfTest t die true) s = .next u ∧ u.rdB DieStatus.SELF_TEST_FAIL die = true ∧
      Only ⟨false, [DieStatus.SELF_TEST_FAIL.area], []⟩ s u) ∧
    ∃ u, exec (.spareSelfTest t die false) s = .next u ∧ Only ⟨false, [], []⟩ s u) ∧
  (∀ (t die : Nat) (s : State), s.running = true → s.hasDie die = true → s.rd SecurityStatus.DEBUG_LEVEL ≠ 2 →
    s.inHoldup = false →
    ∃ u, exec (.watchdogRestart t die) s = .next u ∧ u.boot.cause = 6 ∧ u.boot.t0 = max s.now t ∧ u.mbx.sess = [])

/-- While the firmware of the manager die serves the block, a peer message of any row that fails a check of R432 counts in
PEER_REJECTED, and nothing else changes. One that passes them, new and from another module, is heard by its kind: an
ANNOUNCE that does not resign makes a DISCOVERING module a MEMBER of its sender; a CANDIDATE of better rank sends a
CANDIDATE back to DISCOVERING; a REPORT under epoch 0 or the manager's own puts its sender's record first among the
manager's members; an ALLOCATION that a MEMBER hears from the manager it follows, under the epoch it follows, waits for its
apply instant with the module's own setpoints, and its members are those of MEMBER_MASK and MEMBER_COUNT; one heard by a
module that is neither member nor manager counts in STALE_ALLOCATIONS. -/
def Obligations.PeersAreHeard : Prop :=
  (∀ (t net src : Nat) (msg : Bytes) (s : State) (c : Instr), s.inv = true → s.ownersRun = true → s.peerGood msg = false →
    (c = .announceReceived t net src msg ∨ c = .candidateReceived t net src msg ∨ c = .reportReceived t net src msg ∨
      c = .allocationReceived t net src msg ∨ c = .peerRejected t net src msg) →
    ∃ u, exec c s = .next u ∧ Counts CollectorStatus.PEER_REJECTED 0 s u ∧ Only ⟨false, [CollectorStatus.PEER_REJECTED.area], []⟩ s u) ∧
  (∀ (t net src : Nat) (msg : Bytes) (s : State), s.inv = true → s.ownersRun = true → Heard s t net src msg 1 →
    s.role = roleDiscovering → field (peerBody msg) 12 1 = 0 →
    ∃ u, exec (.announceReceived t net src msg) s = .next u ∧ u.role = roleMember ∧ u.blk.mgr = some (field msg 8 1, field msg 9 1)) ∧
  (∀ (t net src : Nat) (msg : Bytes) (s : State), s.inv = true → s.ownersRun = true → Heard s t net src msg 2 →
    s.role = roleCandidate → s.outranked (field msg 9 1) (field msg 8 1) = true →
    ∃ u, exec (.candidateReceived t net src msg) s = .next u ∧ u.role = roleDiscovering ∧ u.blk.candAt = none) ∧
  (∀ (t net src : Nat) (msg : Bytes) (s : State), s.inv = true → s.ownersRun = true → Heard s t net src msg 3 →
    s.role = roleManager → (field msg 0x0C 4 = 0 ∨ field msg 0x0C 4 = s.roleEpoch) →
    ∃ u m, exec (.reportReceived t net src msg) s = .next u ∧ u.blk.members.head? = some m ∧ m.id = field msg 8 1 ∧
      m.recs = reportRecs (peerBody msg)) ∧
  (∀ (t net src : Nat) (msg : Bytes) (s : State), s.inv = true → s.ownersRun = true → Heard s t net src msg 4 →
    s.role = roleMember → s.blk.mgr.map (·.1) = some (field msg 8 1) → field msg 0x0C 4 = s.roleEpoch →
    ∀ ms own, allocMembers 16 ((peerBody msg).drop 12) = some ms →
      own = ((ms.find? fun x => x.1 == s.rd ModuleIdentity.BLOCK_ID).map (·.2)).getD [] →
      ∃ u, exec (.allocationReceived t net src msg) s = .next u ∧
        u.blk.alloc = some (timeNs (field (peerBody msg) 0 10), s.roleEpoch, own) ∧
        (∀ b < 16, bitOf (u.rd BlockStatus.MEMBER_MASK) b = (ms.map (·.1)).contains b) ∧
        u.rd BlockStatus.MEMBER_COUNT = ms.length ∧ u.role = roleMember) ∧
  (∀ (t net src : Nat) (msg : Bytes) (s : State), s.inv = true → s.ownersRun = true → Heard s t net src msg 4 →
    s.role ≠ roleMember → s.role ≠ roleManager →
    ∃ u, exec (.allocationReceived t net src msg) s = .next u ∧ Counts BlockStatus.STALE_ALLOCATIONS 0 s u)

/-- Each row, due in its role with the firmware serving the block: an eligible DISCOVERING module that has listened becomes
CANDIDATE and counts the election; 500 ms after that an eligible candidate is MANAGER under its own BLOCK_ID; every 100
ms the eligible manager sends an ANNOUNCE, and a candidate a CANDIDATE, on both networks; a member without ANNOUNCE for
MANAGER_TIMEOUT counts the loss and is DISCOVERING. The end of ALLOC_HOLD forgets the manager. A good new peer message with
the module's own BLOCK_ID sets BLOCK_ID_CONFLICT, which 5 s after the last one clears. A port's link is shown. -/
def Obligations.RolesAreTakenAndLost : Prop :=
  (∀ (t : Nat) (s : State), s.inv = true → (s.at t).eligible = true → s.role = roleDiscovering → s.ownersRun = true →
    s.blk.listenFrom + s.blk.listen ≤ t →
    ∃ u, exec (.roleListen t) s = .next u ∧ u.role = roleCandidate ∧ u.blk.candAt = some (max s.now t) ∧
      Counts BlockStatus.ELECTIONS 0 s u) ∧
  (∀ (t a : Nat) (s : State), s.inv = true → (s.at t).eligible = true → s.role = roleCandidate → s.ownersRun = true →
    s.blk.candAt = some a → a + msec 500 ≤ t →
    ∃ u, exec (.roleGained t) s = .next u ∧ u.role = roleManager ∧ u.blk.candAt = none ∧
      u.rd BlockStatus.MANAGER_BLOCK_ID = s.rd ModuleIdentity.BLOCK_ID % 2 ^ 8) ∧
  (∀ (t : Nat) (s : State), s.inv = true → (s.at t).eligible = true → s.role = roleManager → s.ownersRun = true → s.blk.nextSend ≤ t →
    ∃ u m, exec (.announce t) s = .next u ∧ u.blk.nextSend = s.blk.nextSend + msec 100 ∧ peerKind m = 1 ∧
      u.out = .udp 2 (s.broadcast 2) s.blk.peerPort m :: .udp 1 (s.broadcast 1) s.blk.peerPort m :: s.out) ∧
  (∀ (t : Nat) (s : State), s.role = roleCandidate → s.ownersRun = true → s.blk.nextSend ≤ t →
    ∃ u m, exec (.candidate t) s = .next u ∧ u.blk.nextSend = s.blk.nextSend + msec 100 ∧ peerKind m = 2 ∧
      u.out = .udp 2 (s.broadcast 2) s.blk.peerPort m :: .udp 1 (s.broadcast 1) s.blk.peerPort m :: s.out) ∧
  (∀ (t : Nat) (s : State), s.inv = true → s.role = roleMember → s.ownersRun = true →
    s.blk.mgrAt + msec (s.bc BlockConfig.MANAGER_TIMEOUT) ≤ t →
    ∃ u, exec (.managerLost t) s = .next u ∧ u.role = roleDiscovering ∧ u.blk.mgr = none ∧ Counts BlockStatus.MANAGER_LOSSES 0 s u) ∧
  (∀ (t e : Nat) (s : State), s.inv = true → s.blk.holdUntil = some e → e ≤ t →
    ∃ u, exec (.allocHold t) s = .next u ∧ u.blk.holdUntil = none ∧ u.blk.known = false ∧ u.rdB BlockStatus.HOLDING = false) ∧
  (∀ (t net src : Nat) (msg : Bytes) (s : State), s.inv = true → s.ownersRun = true → s.peerGood msg = true →
    ((s.at t).peerIn net src msg).2 = true → field msg 8 1 = s.rd ModuleIdentity.BLOCK_ID →
    ∃ u, exec (.blockIdConflict t (some (net, src, msg))) s = .next u ∧ u.rdB BlockStatus.BLOCK_ID_CONFLICT = true ∧
      u.blk.conflictAt = some (max s.now t)) ∧
  (∀ (t a : Nat) (s : State), s.inv = true → s.blk.conflictAt = some a → a + secs 5 ≤ t →
    ∃ u, exec (.blockIdConflict t none) s = .next u ∧ u.blk.conflictAt = none ∧ u.rdB BlockStatus.BLOCK_ID_CONFLICT = false) ∧
  (∀ (t port : Nat) (up : Bool) (s : State), s.inv = true → s.running = true → (port = 1 ∨ port = 2) →
    ∃ u, exec (.netLinkChanged t port up) s = .next u ∧
      u.rdB (if port = 1 then MailboxStatus.NET_A_LINK else MailboxStatus.NET_B_LINK) = up)

/-- With the firmware serving the block: a new cycle instant takes up BLOCK_CONFIG and opens the cycle's report and
allocation. Outside HOLDUP, for a BLOCK_ID up to 15, a REPORT that has not left leaves once its slot is due, on both
networks. The eligible manager that has not allocated allocates at ALLOC_OFFSET, for the cycle's apply instant under its
epoch. The cycle is applied once at APPLY_OFFSET: an allocation due under the epoch followed is taken, and a holding ends.
Without SET_BLOCK_POWER for HOST_TIMEOUT, where that is not 0, the manager's target is 0. SET_BLOCK_POWER for the role held
sets BLOCK_POWER_TARGET and answers the epoch and the apply instant of this cycle, or of the next after ALLOC_OFFSET;
GET_BLOCK_STATE for it answers BLOCK_STATUS and 16 bytes for each member in MEMBER_MASK, and changes nothing but the
session. -/
def Obligations.DispatchCycleRuns : Prop :=
  (∀ (t : Nat) (s : State), s.ownersRun = true → (s.at t).cycleAt ≠ s.blk.cycle →
    ∃ u, exec (.dispatchCycle t) s = .next u ∧ u.blk.cycle = (s.at t).cycleAt ∧ u.blk.cfg = s.objBytes BlockConfig.desc 0 ∧
      u.blk.reported = false ∧ u.blk.allocated = false) ∧
  (∀ (t : Nat) (s : State), s.blk.reported = false → s.ownersRun = true → s.inHoldup = false →
    s.blk.cycle + usec (nth 0 s.timing 1 + s.rd ModuleIdentity.BLOCK_ID * nth 0 s.timing 2) ≤ (s.at t).base →
    s.rd ModuleIdentity.BLOCK_ID ≤ 15 →
    ∃ u m, exec (.report t) s = .next u ∧ u.blk.reported = true ∧ peerKind m = 3 ∧
      u.out = .udp 2 (s.broadcast 2) s.blk.peerPort m :: .udp 1 (s.broadcast 1) s.blk.peerPort m :: s.out) ∧
  (∀ (t : Nat) (s : State), s.inv = true → (s.at t).eligible = true → s.role = roleManager → s.ownersRun = true → s.blk.allocated = false →
    s.blk.cycle + usec (nth 0 s.timing 3) ≤ (s.at t).base →
    ∃ u, exec (.allocation t) s = .next u ∧ u.blk.allocated = true ∧
      u.blk.alloc.map (fun a => (a.1, a.2.1)) = some (s.blk.cycle + usec (nth 0 s.timing 4), s.roleEpoch)) ∧
  (∀ (t : Nat) (s : State), s.ownersRun = true → s.blk.doneFor ≠ s.blk.cycle →
    s.blk.cycle + usec (nth 0 s.timing 4) ≤ (s.at t).base →
    ∃ u, exec (.allocationApply t) s = .next u ∧ u.blk.doneFor = s.blk.cycle ∧
      ∀ a e sps, s.blk.alloc = some (a, e, sps) → a ≤ (s.at t).base → e = s.roleEpoch → e ≠ 0 → u.blk.alloc = none ∧ u.blk.holdUntil = none) ∧
  (∀ (t : Nat) (s : State), s.inv = true → s.role = roleManager → s.ownersRun = true → s.bc BlockConfig.HOST_TIMEOUT ≠ 0 →
    s.blk.hostAt + secs (s.bc BlockConfig.HOST_TIMEOUT) ≤ t → s.rdB BlockStatus.HOST_TIMEOUT_ACTIVE = false →
    ∃ u, exec (.hostTimeout t) s = .next u ∧ u.blk.target = 0 ∧ u.rd BlockStatus.BLOCK_POWER_TARGET = 0 ∧
      u.rdB BlockStatus.HOST_TIMEOUT_ACTIVE = true) ∧
  (∀ (t : Nat) (r : Req) (p : Bytes) (s : State) (x : Sess), s.inv = true → Served r 2 s x → p.length = 16 →
    s.roleStale p = false → field p 8 4 ≠ 0x80000000 →
    ∃ u, exec (.setBlockPower t r p) s = .next u ∧
      Responds u r 0x50 stOk (toLE 4 s.roleEpoch ++ timeBytes ((s.at t).cycleAt + usec (nth 0 s.timing 4) +
        (if (s.at t).base ≤ (s.at t).cycleAt + usec (nth 0 s.timing 3) then 0 else msec (nth 100 s.timing 0))) ++ [0, 0]) ∧
      u.rd BlockStatus.BLOCK_POWER_TARGET = satInt 32 (toInt 32 (field p 8 4)) % 2 ^ 32 ∧
      u.rdB BlockStatus.HOST_TIMEOUT_ACTIVE = false ∧ u.blk.hostAt = max s.now t) ∧
  (∀ (t : Nat) (r : Req) (p : Bytes) (s : State) (x : Sess), Served r 1 s x → p.length = 8 → s.roleStale p = false →
    ∃ u recs, exec (.getBlockState t r p) s = .next u ∧ Responds u r 0x51 stOk (s.objBytes BlockStatus.desc 0 ++ recs) ∧
      recs.length = 16 * (s.membersUp.filter fun m => bitOf (s.rd BlockStatus.MEMBER_MASK) m.id).length ∧
      Only ⟨false, [SessionStatus.REQUESTS.area], [.mbx, .out]⟩ s u)

/-- CLOSE_STRING on an OPEN string whose start and closing conditions all hold makes it CLOSING at step 1 with precharge or 3
without, and waits for its answer. While those conditions hold, CLOSING_STEP makes the transition that is due: the first
step with precharge picks the precharge relay up; the first without, no coil being in its pick-up, the negative
contactor, and then the positive one; the last, its contact having followed, makes the string CLOSED, counts the closing
and leaves step 0. With precharge the relay is dropped PRECHARGE_OVERLAP after the positive contact, and with its contact
open the string is CLOSED. A precharge that has not reached PRECHARGE_DV by PRECHARGE_TIMEOUT, or at half of it has left
half the difference or more, a switch that reads on of a coil that is off at a read-back that is due, a failed off-pulse
and a coil current above 12 A trip the string, unless step 8 of HOLDUP is done or the caldera latch is set. Of an energised
coil the off-pulse that is due (from when on is the model's choice, log 57), with the pulses of the others ended, is sent
for OFF_PULSE and noted: first that of the
high-side switch, and after it that of the low-side switch, which counts the test; a failed one opens the other switch.
Mirror contacts and coil currents are shown. -/
def Obligations.ContactorsClose : Prop :=
  (∀ (t : Nat) (r : Req) (p : Bytes) (s : State) (x : Sess), s.inv = true → Served r 2 s x → p.length = 4 →
    s.hasStr (nth 0 p 0) = true → nth 0 p 0 ≤ 7 → s.seqState (nth 0 p 0) = seqOpen → (s.at t).startUnmet (nth 0 p 0) = none →
    (s.at t).closeUnmet (nth 0 p 0) (decide (s.rd ContactorConfig.PRECHARGE_DV (nth 0 p 0) < s.deltaV (nth 0 p 0))) true = none →
    ∃ u, exec (.closeString t r p) s = .next u ∧ u.seqState (nth 0 p 0) = seqClosing ∧
      u.rd ProtectionStatus.CLOSING_STEP (nth 0 p 0) = (if s.rd ContactorConfig.PRECHARGE_DV (nth 0 p 0) < s.deltaV (nth 0 p 0) then 1 else 3) ∧
      (u.prot (nth 0 p 0)).closeRid = some ⟨r.conn, x.num, 0x40, r.seq, x.next⟩) ∧
  (∀ (t str : Nat) (s : State), s.inv = true → s.hasStr str = true → str ≤ 7 → s.running = true → s.seqState str = seqClosing →
    (s.at t).startUnmet str = none → (s.at t).closeUnmet str (s.prot str).needPre false = none →
    ((s.prot str).needPre = true → s.rd ProtectionStatus.CLOSING_STEP str = 1 → (s.prot str).cpre.on = false → (s.at t).pickBusy = false →
      ∃ u, exec (.closingStep t str) s = .next u ∧ (u.prot str).cpre.on = true) ∧
    ((s.prot str).needPre = false → s.rd ProtectionStatus.CLOSING_STEP str = 3 → (s.prot str).cneg.on = false → (s.at t).pickBusy = false →
      ∃ u, exec (.closingStep t str) s = .next u ∧ (u.prot str).cneg.on = true) ∧
    ((s.prot str).needPre = false → s.rd ProtectionStatus.CLOSING_STEP str = 3 → (s.prot str).cneg.on = true → (s.at t).pickBusy = false →
      ∃ u, exec (.closingStep t str) s = .next u ∧ (u.prot str).cpos.on = true ∧ u.rd ProtectionStatus.CLOSING_STEP str = 6) ∧
    ((s.prot str).needPre = true → s.rd ProtectionStatus.CLOSING_STEP str = 7 → (s.prot str).cpre.on = true →
      (∃ f, (s.prot str).fbAt = some f ∧ f + msec (s.rd ContactorConfig.PRECHARGE_OVERLAP str) ≤ t) →
      ∃ u, exec (.closingStep t str) s = .next u ∧ (u.prot str).cpre.on = false ∧ u.rd ProtectionStatus.CLOSING_STEP str = 8) ∧
    (((s.prot str).needPre = false ∧ s.rd ProtectionStatus.CLOSING_STEP str = 6 ∧ s.mirror str 0 = false ∨
        (s.prot str).needPre = true ∧ s.rd ProtectionStatus.CLOSING_STEP str = 8 ∧ s.mirror str 2 = true) →
      ∃ u, exec (.closingStep t str) s = .next u ∧ u.seqState str = seqClosed ∧ u.rd ProtectionStatus.CLOSING_STEP str = 0 ∧
        Counts ProtectionStatus.CLOSINGS str s u)) ∧
  (∀ (t str : Nat) (s : State), s.inv = true → s.hasStr str = true → s.seqState str = seqClosing → (s.prot str).needPre = true →
    (s.rd ProtectionStatus.CLOSING_STEP str = 4 ∨ s.rd ProtectionStatus.CLOSING_STEP str = 5) → (s.prot str).preDone = none →
    s.rd ContactorConfig.PRECHARGE_DV str < s.deltaV str → s.power.opened = false → s.caldera = false →
    ((s.prot str).step3At + msec (s.rd ContactorConfig.PRECHARGE_TIMEOUT str) ≤ t ∨
      (s.prot str).step3At + msec (s.rd ContactorConfig.PRECHARGE_TIMEOUT str) / 2 ≤ t ∧ (s.prot str).dv0 ≤ 2 * s.deltaV str) →
    ∃ u, exec (.prechargeFail t str) s = .next u ∧ Tripped str s u) ∧
  (∀ (t str coil : Nat) (s : State), s.inv = true → s.hasStr str = true → str ≤ 7 → coil < 3 → ((s.prot str).coil coil).on = true →
    (s.at t).pulseDue str coil = true → (s.at t).pulsesEnded str coil = true →
    ∀ (read : PulseRead) (side : Nat), side = (if ((s.prot str).coil coil).test.isSome then 1 else 0) →
    (pulseOk read = true →
      ∃ u, exec (.pulseTests t str coil read) s = .next u ∧ ((u.prot str).coil coil).lastPulse = max s.now t ∧
        ((u.prot str).coil coil).test = (if side = 0 then some (max s.now t) else none) ∧
        (side = 1 → Counts ProtectionStatus.PULSE_TESTS str s u) ∧
        u.out = .offPulse str coil side (s.rd ContactorConfig.OFF_PULSE str) :: s.out) ∧
    (pulseOk read = false →
      ∃ u, exec (.pulseTests t str coil read) s = .next u ∧ ((u.prot str).coil coil).lastPulse = max s.now t ∧
        Out.switchOff str coil (1 - side) ∈ u.out ∧
        (s.power.opened = false → s.caldera = false → Tripped str s u))) ∧
  (∀ (t str reads coil : Nat) (s : State), s.inv = true → s.hasStr str = true → s.running = true → (s.prot str).driveBad = false → coil < 3 →
    (s.prot str).readAt + msec 100 ≤ t → ((s.prot str).coil coil).on = false →
    (bitOf reads (2 * coil) || bitOf reads (2 * coil + 1)) = true → s.power.opened = false → s.caldera = false →
    ∃ u, exec (.offCoilReadback t str reads) s = .next u ∧ Tripped str s u) ∧
  (∀ (t str coil : Nat) (s : State), s.inv = true → s.hasStr str = true → coil < 3 → ((s.prot str).coil coil).on = true → s.power.opened = false → s.caldera = false →
    ∃ u, exec (.coilShort t str coil) s = .next u ∧ Tripped str s u) ∧
  (∀ (t str mirrors a b c : Nat) (s : State), s.inv = true → s.hasStr str = true → s.power.powered = true → a < 65536 → b < 65536 → c < 65536 →
    ∃ u, exec (.mirrorContactChange t str mirrors a b c) s = .next u ∧ u.mirror str 0 = bitOf mirrors 0 ∧
      u.mirror str 1 = bitOf mirrors 1 ∧ u.mirror str 2 = bitOf mirrors 2 ∧ u.rd StringTerminals.COIL_I_POS str = a ∧
      u.rd StringTerminals.COIL_I_NEG str = b ∧ u.rd StringTerminals.COIL_I_PRE str = c)

/-- OPEN_STRING on a CLOSED string makes it OPENING and waits for its answer; on an OPEN or a TRIPPED one it answers ST_OK
and nothing but the session changes. Of an OPENING string, with the current down to OPEN_I_MAX or OPEN_WAIT over, the
positive coil switches off; 20 ms later the negative coil, the string being OPEN where every contact reads open already;
FB_TIME, outside step 8 of HOLDUP, makes it OPEN with every contact judged and reading open. In HOLDUP, once
HOLDUP_OPEN_DELAY is over, HOLDUP_OPEN_DELAY switches every coil of every string off, once. -/
def Obligations.ContactorsOpen : Prop :=
  (∀ (t : Nat) (r : Req) (p : Bytes) (s : State) (x : Sess), s.inv = true → Served r 2 s x → p.length = 4 →
    s.hasStr (nth 0 p 0) = true → nth 0 p 0 ≤ 7 →
    (s.seqState (nth 0 p 0) = seqClosed →
      ∃ u, exec (.openString t r p) s = .next u ∧ u.seqState (nth 0 p 0) = seqOpening ∧ (u.prot (nth 0 p 0)).openPhase = 1 ∧
        (u.prot (nth 0 p 0)).openAt = max s.now t ∧ (⟨r.conn, x.num, 0x41, r.seq, x.next⟩ : Rid) ∈ (u.prot (nth 0 p 0)).openRid) ∧
    (s.seqState (nth 0 p 0) = seqOpen ∨ s.seqState (nth 0 p 0) = seqTripped →
      ∃ u, exec (.openString t r p) s = .next u ∧ Refused s u r 0x41 stOk [])) ∧
  (∀ (t str : Nat) (s : State), s.inv = true → s.hasStr str = true → str ≤ 7 → s.seqState str = seqOpening → (s.prot str).openPhase = 1 →
    ((s.rdI CoulombStatus.CURRENT str).natAbs ≤ s.rd ContactorConfig.OPEN_I_MAX str ∨
      (s.prot str).openAt + msec (s.rd ContactorConfig.OPEN_WAIT str) ≤ t) →
    ∃ u, exec (.openWait t str) s = .next u ∧ (u.prot str).cpos.on = false ∧ (u.prot str).openPhase = 2 ∧ (u.prot str).phaseAt = max s.now t) ∧
  (∀ (t str : Nat) (s : State), s.inv = true → s.hasStr str = true → s.seqState str = seqOpening → (s.prot str).openPhase = 2 →
    (s.prot str).phaseAt + msec 20 ≤ t →
    ∃ u, exec (.negCoilOff t str) s = .next u ∧ (u.prot str).cneg.on = false ∧
      ((s.mirror str 0 = true ∧ s.mirror str 1 = true ∧ s.mirror str 2 = true) → u.seqState str = seqOpen) ∧
      (¬ (s.mirror str 0 = true ∧ s.mirror str 1 = true ∧ s.mirror str 2 = true) →
        u.seqState str = seqOpening ∧ (u.prot str).openPhase = 3)) ∧
  (∀ (t str : Nat) (s : State), s.inv = true → s.hasStr str = true → s.running = true → s.power.opened = false → s.seqState str = seqOpening →
    (s.prot str).openPhase = 3 → (s.prot str).judge = [] → s.mirror str 0 = true → s.mirror str 1 = true → s.mirror str 2 = true →
    ∃ u, exec (.fbTime t str) s = .next u ∧ u.seqState str = seqOpen) ∧
  (∀ (t : Nat) (s : State), s.inv = true → s.power.supply = .holdup → s.power.opened = false →
    s.power.holdupAt + msec (s.rd PowerConfig.HOLDUP_OPEN_DELAY) ≤ t →
    ∃ u, exec (.holdupOpenDelay t) s = .next u ∧ u.power.opened = true ∧ ∀ n, s.hasStr n = true → CoilsOff n u)

/-- While powered, either fault-loop row shows FLOOP_I; at 4 mA or less the loop reads open, which on a driven string trips it,
unless step 8 of HOLDUP is done or the caldera latch is set; from 6 mA on it reads closed, and between it keeps its
reading. Outside those two cases the fast comparator beyond FAST_OC_V of the profile, not latched yet, and 5 ms without a
valid heartbeat, its front end being up and the loss not yet latched, trip the string: it is TRIPPED with every coil
off, and counted. Before those 5 ms are over a heartbeat whose CRC is correct and whose counter follows the last with
a correct CRC (which one it follows is the model's reading, log 58) is the last valid one, one with a broken CRC
leaves the last as it was, and a die that runs sends the next with its counter raised by 1 modulo 65,536. -/
def Obligations.FrontEndTrips : Prop :=
  (∀ (t str i : Nat) (c : Instr) (s : State), s.inv = true → s.hasStr str = true → s.power.powered = true → i < 65536 →
    (c = .faultLoopOpen t str i ∨ c = .faultLoopClosed t str i) →
    ∃ u, exec c s = .next u ∧ u.rd StringTerminals.FLOOP_I str = i ∧
      u.rdB StringTerminals.FLOOP_OPEN str = (if 600 ≤ i then false else if i ≤ 400 then true else s.rdB StringTerminals.FLOOP_OPEN str) ∧
      (i ≤ 400 → s.driven str = true → s.power.opened = false → s.caldera = false → Tripped str s u)) ∧
  (∀ (t str : Nat) (v : Int) (s : State), s.inv = true → s.hasStr str = true → s.power.powered = true → s.hasProf str = true →
    s.prof str 0x3E 2 < v.natAbs → (s.prot str).feLatch.contains 2 = false → s.power.opened = false → s.caldera = false →
    ∃ u, exec (.fastOc t str v) s = .next u ∧ Tripped str s u) ∧
  (∀ (t str : Nat) (b : Beat) (s : State), s.inv = true → s.hasStr str = true → (s.str str).fe.up = true →
    (s.prot str).hbLast + msec 5 ≤ max s.now t → (s.prot str).feLatch.contains 17 = false → s.power.opened = false →
    s.caldera = false → ∃ u, exec (.heartbeat t str b) s = .next u ∧ Tripped str s u) ∧
  (∀ (t str count : Nat) (ok : Bool) (s : State), s.inv = true → s.hasStr str = true → (s.str str).fe.up = true →
    max s.now t < (s.prot str).hbLast + msec 5 →
    (∃ u, exec (.heartbeat t str (.arrived count ok)) s = .next u ∧ Only ⟨false, [], [.strs]⟩ s u ∧
      (ok = true → (∀ c, (s.prot str).hbCount = some c → count = (c + 1) % 65536) → (u.prot str).hbLast = max s.now t) ∧
      (ok = false → u.prot str = s.prot str)) ∧
    (s.rdB DieStatus.DIE_STALLED str = false → s.boot.halt = false →
      ∃ u, exec (.heartbeat t str .sent) s = .next u ∧ u.out = .beat str (((s.prot str).hbSent + 1) % 65536) :: s.out ∧
        (u.prot str).hbSent = ((s.prot str).hbSent + 1) % 65536))

/-- While powered, SAFE LOOP IN reads closed from 6 mA, open to 3 mA and as before between. 100 ms after its own cause has
ended, and with none in force, the module is no longer the origin. While telegrams run, a status telegram that is due
leaves on both networks with the next number and its CRC; the first after a start is due at a whole millisecond of the
time base once the start enumeration of every string has ended. A good safe command from the sender of its network waits for the other network's copy where
none waits; the same copy on the other network within 20 ms ends the wait, and neither copy remains. A copy that has
waited 20 ms is discarded and counted. A safe enable that has run out is removed. -/
def Obligations.SafeLoopAndTelegrams : Prop :=
  (∀ (t i : Nat) (s : State), s.inv = true → s.power.powered = true → i < 65536 →
    ∃ u, exec (.safeLoopInOpen t i) s = .next u ∧ u.rd ModuleTerminals.SAFE_LOOP_IN_I = i ∧
      u.rdB ModuleTerminals.SAFE_LOOP_IN_OPEN = (if 600 ≤ i then false else if i ≤ 300 then true else s.rdB ModuleTerminals.SAFE_LOOP_IN_OPEN)) ∧
  (∀ (t e : Nat) (s : State), s.safe.ownEnd = some e → s.safe.origin = true → e + msec 100 ≤ t →
    s.loopOwn = false → s.safe.own = false →
    ∃ u, exec (.safeLoopOriginHold t) s = .next u ∧ u.safe.origin = false ∧ u.safe.ownEnd = none) ∧
  (∀ (t : Nat) (s : State), s.telegramsRun = true →
    (s.safe.running = true ∨ (s.enumComplete = true ∧ (s.at t).base % 1000000 = 0)) →
    (∀ l, s.safe.last = some l → l + msec (s.rd SafeTelegramConfig.PERIOD) ≤ t) →
    ∃ u a b q, exec (.safeStatusTelegram t) s = .next u ∧ q = (if s.safe.seq = 0xFFFFFFFF then 1 else s.safe.seq + 1) ∧
      u.safe.seq = q ∧ u.safe.last = some (max s.now t) ∧
      u.out = .telegram 2 b (s.rd SafeTelegramConfig.SAFE_UDP_PORT) ((s.at t).telegramBody q ++ toLE 4 (crc32 ((s.at t).telegramBody q))) ::
        .telegram 1 a (s.rd SafeTelegramConfig.SAFE_UDP_PORT) ((s.at t).telegramBody q ++ toLE 4 (crc32 ((s.at t).telegramBody q))) :: s.out) ∧
  (∀ (t net src port : Nat) (b : Bytes) (s : State), s.running = true → s.security ≠ 5 → (net = 1 ∨ net = 2) → src ≠ 0 →
    src = s.rd (if net = 1 then SafeTelegramConfig.SENDER_A else SafeTelegramConfig.SENDER_B) →
    port = s.rd SafeTelegramConfig.SAFE_UDP_PORT → s.safeCmdOk b = true → s.safe.copy net = none →
    (s.safe.copy (3 - net) = none →
      ∃ u, exec (.safeCommand t net src port b) s = .next u ∧ u.safe.copy net = some ⟨b, max s.now t⟩ ∧ u.safe.copy (3 - net) = none ∧
        u.objs = s.objs) ∧
    (∀ a, s.safe.copy (3 - net) = some ⟨b, a⟩ → max s.now t ≤ a + msec 20 →
      ∃ u, exec (.safeCommand t net src port b) s = .next u ∧ u.safe.copy net = none ∧ u.safe.copy (3 - net) = none)) ∧
  (∀ (t net : Nat) (c : SafeCopy) (s : State), s.inv = true → (net = 1 ∨ net = 2) → s.safe.copy net = some c → c.at_ + msec 20 ≤ t →
    ∃ u, exec (.safeCmdSingle t net) s = .next u ∧ u.safe.copy net = none ∧ Counts SafeTelegramConfig.SAFE_CMD_SINGLE 0 s u) ∧
  (∀ (t str e : Nat) (s : State), s.inv = true → s.hasStr str = true → s.running = true → (s.prot str).enableUntil = some e → e ≤ t →
    ∃ u, exec (.enableMissing t str) s = .next u ∧ (u.prot str).enableUntil = none)

/-- While a channel takes part in its bus and no change of its configuration waits: a frame sent lowers TEC by 1 and counts in
TX_FRAMES and TX_COUNT; an attempt that ends in an error of any kind counts in ERROR_FRAMES; a data frame received counts
in RX_FRAMES and is stored in the object it matches with NEW_DATA, with MSG_LOST where that was set, and one that
matches none, or a remote frame, counts in RX_UNMATCHED; a frame of either way shows a partner: ACK_ERROR_RUN is 0 and
NO_PARTNER clear. An error while receiving raises REC by 1 or 8, counts in ERROR_FRAMES and leaves
ACK_ERROR_RUN 0. The end of bus integration,
and of recovery after 1,408 nominal bit times, makes the channel ERROR_ACTIVE with both counters 0. The oldest new
content in fallback leaves the queue and counts in FALLBACK_SENT. -/
def Obligations.CanFramesAndErrors : Prop :=
  (∀ (t ch loop o : Nat) (d : Bytes) (s : State), s.inv = true → ch < 3 → s.canUp = true → s.canOn ch = true →
    (s.bus ch).busy = some (o, d) → (s.bus ch).leaving = false →
    (∃ u, exec (.canTxComplete t ch 0 loop) s = .next u ∧ Counts CanChannel.TX_FRAMES ch s u ∧ Counts CanObject.TX_COUNT o s u ∧
      u.rd CanChannel.TEC ch = s.rd CanChannel.TEC ch - 1 ∧ u.rd CanChannel.ACK_ERROR_RUN ch = 0 ∧
      u.rdB CanChannel.NO_PARTNER ch = false) ∧
    ∀ k, 2 ≤ k → k ≤ 6 → ∃ u, exec (.canTxComplete t ch k loop) s = .next u ∧ Counts CanChannel.ERROR_FRAMES ch s u) ∧
  (∀ (t ch ident : Nat) (xtd brs esi remote : Bool) (data : Bytes) (s : State), s.inv = true → s.canUp = true → s.canOn ch = true →
    data.length ≤ 64 →
    ∃ u, exec (.canFrameReceived t ch ident xtd remote brs esi data) s = .next u ∧ Counts CanChannel.RX_FRAMES ch s u ∧
      u.rd CanChannel.ACK_ERROR_RUN ch = 0 ∧ u.rdB CanChannel.NO_PARTNER ch = false ∧
      ((remote = true ∨ s.rxObject ch ident xtd = none) → Counts CanChannel.RX_UNMATCHED ch s u) ∧
      ∀ o, remote = false → s.rxObject ch ident xtd = some o →
        u.rdB CanObject.NEW_DATA o = true ∧ u.rd CanObject.RX_LEN o = data.length ∧
        u.rd CanObject.DATA o = ofLE (padTo 64 data) % 2 ^ 512 ∧ (s.rdB CanObject.NEW_DATA o = true → u.rdB CanObject.MSG_LOST o = true)) ∧
  (∀ (t ch : Nat) (by8 : Bool) (s : State), s.inv = true → s.canUp = true → s.canOn ch = true →
    ∃ u, exec (.canBusError t ch by8) s = .next u ∧ Counts CanChannel.ERROR_FRAMES ch s u ∧
      u.rd CanChannel.REC ch = satAdd 16 (s.rd CanChannel.REC ch) (if by8 then 8 else 1) % 2 ^ 16 ∧ u.rd CanChannel.ACK_ERROR_RUN ch = 0) ∧
  (∀ (t ch : Nat) (s : State), s.inv = true → s.canUp = true → s.rd CanChannel.CHANNEL_STATE ch = canIntegrating →
    (s.bus ch).leaving = false →
    ∃ u, exec (.busIntegrationComplete t ch) s = .next u ∧ u.rd CanChannel.CHANNEL_STATE ch = canErrorActive ∧
      u.rd CanChannel.TEC ch = 0 ∧ u.rd CanChannel.REC ch = 0) ∧
  (∀ (t ch : Nat) (s : State), s.inv = true → s.canUp = true → s.rd CanChannel.CHANNEL_STATE ch = canRecovering →
    (s.bus ch).leaving = false → (s.bus ch).recAt + 1408 * 25 * s.nomQuanta ch ≤ t →
    ∃ u, exec (.busOffRecovered t ch) s = .next u ∧ u.rd CanChannel.CHANNEL_STATE ch = canErrorActive ∧
      u.rd CanChannel.TEC ch = 0 ∧ u.rd CanChannel.REC ch = 0) ∧
  (∀ (t ch o : Nat) (d : Bytes) (rest : List (Nat × Bytes)) (s : State), s.inv = true → s.canUp = true → ch < 3 →
    s.fallback ch = true → o / 128 = ch → (s.bus ch).fbq = (o, d) :: rest →
    ∃ u, exec (.fallbackDatagram t ch) s = .next u ∧ (u.bus ch).fbq = rest ∧ Counts CanChannel.FALLBACK_SENT ch s u)

/-- While control runs: a WAITING channel alone in its group, with a scalar input that is not a time trigger's and is present
at its sample instant, no sample being open, no write waiting and the instant not yet served, takes the sample: it is RUNNING, counts it,
and shows the instant, no miss and its input. A channel that runs, is SAFE or stands by, with no write waiting and no sample of its group open, whose
deadline passes with the instant unserved, counts the miss and shows it, and where it runs or stands by is SAFE once
its MISS_RUN has reached MISS_LIMIT. An injected conversion, next in its queue with no protection request waiting, is counted and leaves
the queue; of a time trigger with the reference settled it gives the output that asked its LAST_RESULT and its instant.
One of protection that fits the window's 8 conversions is counted. -/
def Obligations.ControlChannelsSample : Prop :=
  (∀ (t ch tm : Nat) (v : Int) (q : Option (Nat × Int)) (s : State), s.inv = true → s.hasChan ch = true → s.controlRuns = true →
    s.chState ch = 1 → s.rd ChannelConfig.GROUP ch = 0 → s.rd ChannelConfig.INPUT_KIND ch ≠ 5 → s.isVector ch = false →
    (s.chan ch).open_ = none → (s.chan ch).old = [] → (∀ l, (s.chan ch).lastM = some l → l < tm) →
    (s.at t).chInstant ch (s.at t).base = some tm →
    (s.at t).inputOf ch tm = (.val v, q) →
    ∃ u, exec (.channelSample t ch) s = .next u ∧ u.chState ch = 2 ∧ Counts ChannelStatus.SAMPLES ch s u ∧
      u.rd ChannelStatus.LAST_SAMPLE_TIME ch = timeVal tm % 2 ^ 80 ∧ u.rd ChannelStatus.MISS_RUN ch = 0 ∧
      u.rdB ChannelStatus.DEADLINE_MISS ch = false ∧ u.rdB ChannelStatus.INPUT_MISSING ch = false) ∧
  (∀ (t ch tm : Nat) (s : State), s.inv = true → s.hasChan ch = true → s.controlRuns = true →
    2 ≤ s.chState ch → (s.chan ch).old = [] → (∀ d ∈ s.groupOf ch, (s.chan d).open_ = none) → (∀ l, (s.chan ch).lastM = some l → l < tm) → s.chDeadline ch ≤ (s.at t).base →
    (s.at t).chInstant ch ((s.at t).base - s.chDeadline ch) = some tm →
    ∃ u, exec (.deadlineMiss t ch) s = .next u ∧ Counts ChannelStatus.DEADLINE_MISSES ch s u ∧ u.rdB ChannelStatus.DEADLINE_MISS ch = true ∧
      u.rdB ChannelStatus.MISS_SEEN ch = true ∧ u.rd ChannelStatus.LAST_SAMPLE_TIME ch = timeVal tm % 2 ^ 80 ∧
      ((s.chState ch = 2 ∨ s.chState ch = 3) → s.rd ChannelConfig.MISS_LIMIT ch ≤ u.rd ChannelStatus.MISS_RUN ch → u.chState ch = 4)) ∧
  (∀ (t str src : Nat) (ab : Bool) (convs : List (Nat × Int)) (q : Inj) (s : State), s.inv = true → s.hasStr str = true →
    (s.fe str).up = true → (src = 2 ∨ src = 3) → injNext (s.fe str).injQ = some q → q.src = src → q.count = convs.length →
    (∀ y ∈ (s.fe str).injQ, y.src ≠ 1) →
    ∃ u, exec (.injectedConversion t str src ab convs) s = .next u ∧
      u.rd SequenceResults.INJECTED str = satAdd 32 (s.rd SequenceResults.INJECTED str) convs.length % 2 ^ 32 ∧
      (src = 2 → (u.fe str).injQ = (s.fe str).injQ.erase q) ∧
      ∀ a code, src = 2 → convs.getLast? = some (a, code) → s.rdB SequenceResults.REF_SETTLED str = true →
        u.rd PacerOutput.LAST_RESULT q.who = satInt 32 (s.engValue str q.input (codeOf q.input code)) % 2 ^ 32 ∧
        u.rd PacerOutput.LAST_RESULT_TIME q.who = timeVal a % 2 ^ 80) ∧
  (∀ (t str : Nat) (ab : Bool) (convs : List (Nat × Int)) (s : State), s.inv = true → s.hasStr str = true → (s.fe str).up = true →
    (∀ y ∈ (s.fe str).injQ, y.src ≠ 1) → (s.fe str).winIdx = (s.at t).base / 100000 → (s.fe str).winProt + convs.length ≤ 8 →
    ∃ u, exec (.injectedConversion t str 1 ab convs) s = .next u ∧
      u.rd SequenceResults.INJECTED str = satAdd 32 (s.rd SequenceResults.INJECTED str) convs.length % 2 ^ 32)

/-- While the module runs: at its result instant the oldest lap in progress, once handed on, leaves the string's laps and its
unit leaves for the collector. A unit received enters the die's queue, where it has not been replaced; where 4 laps stand
in it the oldest gives way. With no lap announced, a queue's head that has the earliest result instant of all queued
units leaves its queue in a round. An uncorrectable error in the staging area, the trace buffers or the history store is
counted and shown with its region; one in the runtime or the state, outside HOLDUP, restarts the module with cause 3,
every session ended. -/
def Obligations.CollectorHandsOn : Prop :=
  (∀ (t str seq : Nat) (x : Lap) (xs : List Lap) (s : State), s.inv = true → s.hasStr str = true → s.running = true →
    (s.laps str).cur = x :: xs → x.seq = seq → x.handed.isSome = true → x.resultAt ≤ (s.at t).lapNow x →
    ∃ u, exec (.resultInstant t str seq) s = .next u ∧ (u.laps str).cur.all (fun y => y.seq ≠ seq) = true ∧
      (u.str str).relAt = some x.resultAt ∧ (u.str str).units.length = (s.str str).units.length + 1) ∧
  (∀ (t str : Nat) (v : LapUnit) (vs : List LapUnit) (s : State), s.inv = true → s.hasStr str = true → s.running = true →
    (s.str str).units = v :: vs → s.coll.gone.contains (str, v.seq) = false →
    ∃ u, exec (.lapUnitReceived t str) s = .next u ∧ (u.str str).units = vs ∧
      (u.str str).queue = (if 4 ≤ depthOf (s.str str).queue then dropOldest (s.str str).queue else (s.str str).queue) ++ [v]) ∧
  (∀ (t n : Nat) (h : LapUnit) (s : State), s.inv = true → s.running = true → s.hasStr n = true →
    (∀ m ∈ s.strList, s.announced m = []) → (∀ m ∈ s.strList, ∀ v ∈ (s.str m).queue, v.str = m ∧ h.due ≤ v.due) →
    (s.str n).queue.head? = some h →
    ∃ u, exec (.collectorRound t) s = .next u ∧ (u.str n).queue = (s.str n).queue.drop 1) ∧
  (∀ (t region a b : Nat) (s : State), s.inv = true → s.running = true → 1 ≤ region → region ≤ 5 →
    ∃ u, exec (.dramUncorrectableError t region a b) s = .next u ∧
      (region ≤ 2 → s.inHoldup = false → u.boot.cause = 3 ∧ u.mbx.sess = []) ∧
      (3 ≤ region → Counts ModuleHealth.DRAM_UE_COUNT 0 s u ∧ u.rd ModuleHealth.DRAM_UE_REGION = region ∧ u.rdB ModuleHealth.DRAM_UE_SEEN = true))

/-- With the front-end link up: a coulomb sample that is due gives CURRENT in mA and OVERRANGE, counted where it clipped. The
next named lap instant whose samples are at hand is framed, or counted as lost where neither copy is good; one more than 4
ms old is dropped. WARMUP ends at its instant. A sequencer entry with all its conversions gives RESULT the mean of its
codes, held to the input's range and aligned as configured, and shows whether the reference had settled; an entry before
the last of the pass is VALID, and the last counts the pass. The settling of the reference and the pause after precharging
end at their instants. On a string that measures insulation, a cycle within the limits of its operands that passes its
self-check reports R_ISO within its range, UNDER_RANGE and the result count on each string it is for; one that fails it
is noted. -/
def Obligations.FrontEndMeasures : Prop :=
  (∀ (t str : Nat) (raw : Int) (s : State), s.inv = true → s.hasStr str = true → (s.fe str).up = true → sampleReady ≤ (s.at t).plain →
    (∀ x, (s.fe str).samples.head? = some x → x.at_ < ((s.at t).plain - sampleReady) / samplePeriod * samplePeriod) →
    ∃ u, exec (.coulombSample t str raw) s = .next u ∧
      u.rd CoulombStatus.CURRENT str = satInt 32 (roundDiv (s.coulombI str (clampI (-(2 ^ 23)) (2 ^ 23) raw)) 1000) % 2 ^ 32 ∧
      u.rdB CoulombStatus.OVERRANGE str = decide (2 ^ 23 < raw.natAbs) ∧
      (2 ^ 23 < raw.natAbs → Counts CoulombStatus.OVERRANGE_COUNT str s u)) ∧
  (∀ (t str lap p : Nat) (late ok1 ok2 : Bool) (rest : List (Nat × Bool × Nat)) (s : State), s.inv = true →
    s.hasStr str = true → (s.fe str).up = true → (s.fe str).named = (lap, late, p) :: rest →
    (p + msec 4 < (s.at t).plain →
      ∃ u, exec (.lapCurrentFrame t str ok1 ok2) s = .next u ∧ (u.fe str).named = rest ∧ (u.fe str).frames = (s.fe str).frames) ∧
    ∀ i q, (s.at t).plain ≤ p + msec 4 → referTo p (s.fe str).samples = some (i, q) →
      ∃ u, exec (.lapCurrentFrame t str ok1 ok2) s = .next u ∧ (u.fe str).named = rest ∧
        (ok1 = true ∨ ok2 = true → (u.fe str).frames = (s.fe str).frames ++ [(lap, late, i, chargeOut q)]) ∧
        (ok1 = false → ok2 = false → Counts CoulombStatus.LINK_FRAMES_LOST str s u)) ∧
  (∀ (t str : Nat) (s : State), s.inv = true → s.hasStr str = true → (s.fe str).up = true → (s.fe str).warmEnd ≤ t →
    ∃ u, exec (.warmupEnd t str) s = .next u ∧ u.rdB CoulombStatus.WARMUP str = false ∧ u.rd CoulombStatus.WARMUP_REMAIN str = 0) ∧
  (∀ (t str d : Nat) (s : State), s.inv = true → s.hasStr str = true → (s.fe str).refDue = some d → d ≤ t →
    ∃ u, exec (.refSettled t str) s = .next u ∧ u.rdB SequenceResults.REF_SETTLED str = true ∧ (u.fe str).refDue = none) ∧
  (∀ (t str input avg : Nat) (left : Bool) (convs : List (Nat × Int)) (s : State), s.inv = true → s.hasStr str = true → (s.fe str).up = true →
    (s.fe str).seqCfg[(s.fe str).seqNext]? = some (input, avg, left) → (s.fe str).seqNext < 16 → convs.length = 2 ^ avg →
    ∃ u, exec (.sequencerEntry t str convs) s = .next u ∧
      (∀ code, code = roundDiv (sumI (convs.map fun c => codeOf input c.2)) (2 ^ avg) →
        u.rd SequenceResults.RESULT str (s.fe str).seqNext = (if left then ofInt 16 code * 65536 else ofInt 32 code) % 2 ^ 32) ∧
      u.rdB SequenceResults.REF_UNSETTLED str (s.fe str).seqNext = !(s.rdB SequenceResults.REF_SETTLED str) ∧
      ((s.fe str).seqNext + 1 < (s.fe str).seqCfg.length → u.rdB SequenceResults.VALID str (s.fe str).seqNext = true) ∧
      ((s.fe str).seqCfg.length ≤ (s.fe str).seqNext + 1 → Counts SequenceResults.PASSES str s u)) ∧
  (∀ (t str rIso x cy half : Nat) (s : State), s.inv = true → s.hasStr str = true →
    (s.rd InsulationStatus.IMD_STATE str = 1 ∧ s.imdNow str ≠ 5 ∨ s.rd InsulationStatus.IMD_STATE str = 2) →
    2500 ≤ half → half ≤ 10000 → x ≤ 10000 → (s.fe str).imdCycleAt + 2 * msec half ≤ t →
    (∃ u, exec (.imdCycleEnd t str rIso x cy half true) s = .next u ∧
      ∀ n, (if s.rd InsulationStatus.IMD_STATE str = 1 then n = str
          else n ∈ s.busGroup ∧ s.rd SequenceConfig.IMD_BUS_ROLE n ≠ 1) →
        u.rd InsulationStatus.R_ISO n = max 10000 (min 50000000 rIso) ∧ Counts InsulationStatus.RESULTS n s u ∧
        u.rdB InsulationStatus.UNDER_RANGE n = decide (rIso < 10000)) ∧
    ∃ u, exec (.imdCycleEnd t str rIso x cy half false) s = .next u ∧ (u.fe str).imdFail = true) ∧
  (∀ (t str e : Nat) (s : State), s.inv = true → s.hasStr str = true → (s.fe str).imdPauseEnd = some e → e ≤ t →
    ∃ u, exec (.imdPauseEnd t str) s = .next u ∧ (u.fe str).imdPauseEnd = none)

/-- In SERVICE, for a present string and a target of Table 10.6, by the session whose procedure it is or with none open: the
LOW and the HIGH step, within range and with their conditions met, no capture being under way, begin their capture with
the point applied and wait for its answer; COMMIT outside HOLDUP with a point captured, its conditions met and
coefficients within limits ends the procedure and journals one write; ABORT ends it and answers ST_OK. The end of a
capture's 1 s ends that capture; 10 min without a step end the procedure. A lap block, and an event block, older than
BLOCK_MAX_AGE closes. A capture whose post-window has ended is frozen with its cause and its samples. TRIGGER_TRACE on
present, enabled channels asks each for a capture and answers 12 bytes. -/
def Obligations.CalibrationRuns : Prop :=
  (∀ (t n tg step : Nat) (r : Req) (p : Bytes) (c : Instr) (s : State) (x : Sess), s.inv = true → Served r 3 s x → p.length = 8 →
    n = nth 0 p 0 → tg = nth 0 p 1 → step = nth 0 p 2 → s.security = 2 → s.hasStr n = true → n ≤ 7 → tg ≤ 5 →
    (c = .calLowPoint t r p ∧ step = 1 ∨ c = .calHighPoint t r p ∧ step = 2) →
    (∀ k, (s.fe n).cal = some k → k.sess = x.num ∧ k.target = tg ∧ k.capture = none) →
    s.calRange n tg step (toInt 32 (field p 4 4)) (s.fe n).cal = false → s.calUnmet n tg step (s.fe n).cal = none →
    ∃ u, exec c s = .next u ∧ (u.fe n).cal.bind (·.capture) = some ⟨step, toInt 32 (field p 4 4), max s.now t, 0, 0, 0⟩ ∧
      (u.fe n).cal.bind (·.rid) = some ⟨r.conn, x.num, 0x44, r.seq, x.next⟩) ∧
  (∀ (t : Nat) (r : Req) (p : Bytes) (c : Cal) (s : State) (x : Sess), s.inv = true → Served r 3 s x → p.length = 8 → nth 0 p 2 = 3 →
    s.security = 2 → s.inHoldup = false → s.hasStr (nth 0 p 0) = true → nth 0 p 1 ≤ 5 → (s.fe (nth 0 p 0)).cal = some c →
    c.sess = x.num → c.target = nth 0 p 1 → c.capture = none → (c.low.isSome || c.high.isSome) = true →
    s.calUnmet (nth 0 p 0) (nth 0 p 1) 3 (some c) = none →
    (calCoeffs (s.rdI Calibration.CAL_OFFSET (nth 0 p 0) (calEntry (nth 0 p 1) (s.fe (nth 0 p 0)).refIn))
      (s.rd Calibration.CAL_GAIN (nth 0 p 0) (calEntry (nth 0 p 1) (s.fe (nth 0 p 0)).refIn)) c.low c.high).any
        (fun q => decide (0x3CCCCCCD ≤ q.2) && decide (q.2 ≤ 0x43333333)) = true →
    ∃ u, exec (.calCommit t r p) s = .next u ∧ (u.fe (nth 0 p 0)).cal = none ∧ u.mbx.journal.length = s.mbx.journal.length + 1) ∧
  (∀ (t : Nat) (r : Req) (p : Bytes) (s : State) (x : Sess), s.inv = true → Served r 3 s x → p.length = 8 → nth 0 p 2 = 4 → s.security = 2 →
    s.hasStr (nth 0 p 0) = true → nth 0 p 1 ≤ 5 →
    (∀ c, (s.fe (nth 0 p 0)).cal = some c → c.sess = x.num ∧ c.target = nth 0 p 1 ∧ c.rid = none) →
    ∃ u, exec (.calAbort t r p) s = .next u ∧ (u.fe (nth 0 p 0)).cal = none ∧ Responds u r 0x44 stOk []) ∧
  (∀ (t str : Nat) (c : Cal) (k : Capt) (s : State), s.inv = true → s.hasStr str = true → (s.fe str).cal = some c → c.capture = some k →
    k.from_ + secs 1 ≤ t →
    ∃ u, exec (.calCaptureEnd t str) s = .next u ∧ (u.fe str).cal.map (fun c => (c.capture, c.rid)) = some (none, none)) ∧
  (∀ (t str : Nat) (c : Cal) (s : State), s.inv = true → s.hasStr str = true → (s.fe str).cal = some c → c.lastStep + secs 600 ≤ t →
    ∃ u, exec (.calTimeout t str) s = .next u ∧ (u.fe str).cal = none) ∧
  (∀ (t : Nat) (s : State),
    (∀ b, s.hist.lapOpen = some b → b.opened + s.rd HistoryConfig.BLOCK_MAX_AGE * msec 100 ≤ t →
      ∃ u, exec (.blockMaxAge t) s = .next u ∧ u.hist.lapOpen = none) ∧
    ((∀ b, s.hist.lapOpen = some b → max s.now t < b.opened + s.rd HistoryConfig.BLOCK_MAX_AGE * msec 100) →
      s.hist.evOpenAt + s.rd HistoryConfig.BLOCK_MAX_AGE * msec 100 ≤ t →
      ∃ u, exec (.blockMaxAge t) s = .next u ∧ u.hist.evOpen = [])) ∧
  (∀ (t ch : Nat) (p : Capture) (s : State), s.inv = true → ch < 32 → (s.trace ch).pending = some p → p.post = 0 → 1 ≤ p.slot → p.slot ≤ 3 →
    ∃ u, exec (.captureFrozen t ch) s = .next u ∧ (u.trace ch).pending = none ∧ (u.trace ch).frozen = (s.trace ch).frozen ++ [p] ∧
      u.rd TraceStatus.CAUSE ch (p.slot - 1) = p.cause % 2 ^ TraceStatus.CAUSE.width ∧
      u.rdB TraceStatus.CAPTURE_PENDING ch = false) ∧
  (∀ (t : Nat) (r : Req) (p : Bytes) (s : State) (x : Sess), s.inv = true → Served r 2 s x → p.length = 4 →
    (∀ c < 32, bitOf (field p 0 4) c = true → s.hasChan c = true ∧ s.rdB TraceConfig.TRACE_EN c = true) →
    ∃ u a, exec (.triggerTrace t r p) s = .next u ∧ Responds u r 0x45 stOk a ∧ a.length = 12 ∧
      ∀ c < 32, bitOf (field p 0 4) c = true → (u.trace c).asked = true)

/-- With the port awake and addressed, every transaction counts in TRANSACTIONS and its address byte is acknowledged. A write
whose first byte names a window selects it, and a further byte is refused and counted; a read sends the bytes of the
window, 0xFF past its end, and a complete read of a pending ATTENTION record ending in STOP clears it; a read whose
capture the low pace delays sends only 0xFF and counts. An unexpected repeated START counts; an idle transaction ends
with SDA released. A port that is up, enabled and not recovering the bus sleeps after SLEEP_AFTER; asleep, it refuses
the address, counts that, and is awake 200 us later. -/
def Obligations.ServicePortTransactions : Prop :=
  (∀ (t addr c : Nat) (rest : Bytes) (s : State), s.inv = true → PortAwake s t addr → s.windowOk c = true → c < 256 →
    ∃ u, exec (.i2cWrite t addr (c :: rest)) s = .next u ∧ u.rd I2cStatus.WINDOW = c ∧ Counts I2cStatus.TRANSACTIONS 0 s u ∧
      (rest ≠ [] → Counts I2cStatus.REFUSED_WRITES 0 s u) ∧
      u.out = (rest.head?.map fun d => Out.i2c 3 addr [d]).toList ++ .i2c 4 addr [c] :: .i2c 4 addr [] :: s.out) ∧
  (∀ (t addr n : Nat) (stop : Bool) (s : State), s.inv = true → PortAwake s t addr →
    ∃ u, exec (.i2cRead t addr n stop) s = .next u ∧ Counts I2cStatus.TRANSACTIONS 0 s u ∧
      u.out = .i2c 0 addr ((List.range n).map fun i => nth 0xFF ((s.at t).addressed addr).1.window i) :: .i2c 4 addr [] :: s.out ∧
      (s.rd I2cStatus.WINDOW = 0x20 → 8 ≤ n → stop = true → s.i2c.recPending = true → u.i2c.recPending = false)) ∧
  (∀ (t addr n : Nat) (stop : Bool) (s : State), s.inv = true → PortAwake s t addr → s.rdB DieStatus.PACE_LOW 0 = true →
    ∃ u, exec (.stretchLimits t addr n stop) s = .next u ∧ Counts I2cStatus.TRANSACTIONS 0 s u ∧ Counts I2cStatus.STRETCH_LIMITS 0 s u ∧
      u.out = .i2c 0 addr (List.replicate n 0xFF) :: .i2c 4 addr [] :: s.out) ∧
  (∀ (t addr : Nat) (s : State), s.inv = true → PortAwake s t addr →
    ∃ u, exec (.abortsRstart t addr) s = .next u ∧ Counts I2cStatus.ABORTS_RSTART 0 s u ∧ Counts I2cStatus.TRANSACTIONS 0 s u ∧
      u.out = .i2c 4 addr [] :: s.out) ∧
  (∀ (t addr : Nat) (s : State), s.inv = true → PortAwake s t addr →
    ∃ u, exec (.i2cIdleRelease t addr) s = .next u ∧ Counts I2cStatus.TRANSACTIONS 0 s u ∧
      u.out = .i2c 5 addr [] :: .i2c 4 addr [] :: s.out ∧ u.i2c.lastTrans = max s.now t) ∧
  (∀ (t : Nat) (s : State), s.inv = true → s.portUp = true → s.rdB I2cStatus.PORT_DISABLED = false → s.i2c.recovering = 0 →
    max s.i2c.lastTrans s.i2c.awakeAt + secs (s.rd I2cConfig.SLEEP_AFTER) ≤ t →
    ∃ u, exec (.i2cSleep t) s = .next u ∧ u.i2c.asleep = true ∧ u.rd I2cStatus.PORT_STATE = 2) ∧
  (∀ (t addr : Nat) (s : State), s.inv = true → s.portServes = true → addr = s.targetAddr → s.rdB I2cStatus.BUS_STUCK = false →
    s.i2c.asleep = true → s.i2c.awakeAt ≤ t →
    ∃ u, exec (.i2cWake t addr) s = .next u ∧ u.i2c.asleep = false ∧ u.i2c.awakeAt = max s.now t + usec 200 ∧
      Counts I2cStatus.WAKE_NACKS 0 s u ∧ u.out = .i2c 3 addr [] :: s.out)

/-- An attention write that is due, the first of its record or after a lost arbitration, and acknowledged, counts in ATTN_SENT
and clears the record; a retry that is due and loses the arbitration counts in ARB_LOST and waits 1 ms. With recovery
enabled, the port up and enabled, a stuck bus with SDA low that a pulse from 1 to 9 frees counts the recovery and leaves
BUS_STUCK clear; one with SCL low sets BUS_STUCK and is repeated after 10 ms, three times at most. A repetition that is
due and frees the bus counts and ends the recovery; one with SCL low leaves one fewer, and the last disables the port. -/
def Obligations.ServicePortDrivesTheBus : Prop :=
  (∀ (t : Nat) (s : State), s.inv = true → (s.at t).attnDue = true → (s.i2c.tries = 0 ∨ s.i2c.lost = true) →
    ∃ u, exec (.attentionWrite t 0) s = .next u ∧ Counts I2cStatus.ATTN_SENT 0 s u ∧ u.i2c.recPending = false ∧
      u.out = .i2c 1 (s.rd I2cConfig.ATTN_ADDR) (s.at t).attnRecord :: s.out) ∧
  (∀ (t : Nat) (s : State), s.inv = true → (s.at t).attnDue = true → s.i2c.tries ≠ 0 → s.i2c.lost = false →
    ∃ u, exec (.attnRetry t 3) s = .next u ∧ Counts I2cStatus.ARB_LOST 0 s u ∧ u.i2c.lost = true ∧
      u.i2c.retryAt = some (max s.now t + msec 1)) ∧
  (∀ (t line pulses : Nat) (s : State), s.inv = true → s.portUp = true → s.rdB I2cStatus.PORT_DISABLED = false →
    s.rdB I2cConfig.RECOVERY_EN = true → s.i2c.recovering = 0 → (line = 1 ∨ line = 2) →
    ∃ u, exec (.busStuck t line pulses) s = .next u ∧
      (line = 1 → 1 ≤ pulses → pulses ≤ 9 → u.rdB I2cStatus.BUS_STUCK = false ∧ Counts I2cStatus.RECOVERIES 0 s u ∧ u.out = .i2c 2 pulses [] :: s.out) ∧
      (line = 2 → u.rdB I2cStatus.BUS_STUCK = true ∧ u.i2c.recovering = 3 ∧ u.i2c.nextRecovery = max s.now t + msec 10)) ∧
  (∀ (t line pulses : Nat) (s : State), s.inv = true → s.portUp = true → s.rdB I2cStatus.PORT_DISABLED = false →
    s.i2c.recovering ≠ 0 → s.i2c.nextRecovery ≤ t → (line = 1 ∨ line = 2) →
    ∃ u, exec (.recoveryRepeat t line pulses) s = .next u ∧
      (line = 1 → 1 ≤ pulses → pulses ≤ 9 → u.rdB I2cStatus.BUS_STUCK = false ∧ Counts I2cStatus.RECOVERIES 0 s u ∧ u.i2c.recovering = 0) ∧
      (line = 2 → u.rdB I2cStatus.BUS_STUCK = true ∧ u.i2c.recovering = s.i2c.recovering - 1 ∧
        (s.i2c.recovering = 1 → u.rdB I2cStatus.PORT_DISABLED = true)))

/-- On a string that may lap, with a topology in force, no ring job and no write waiting for a lap: the lap of an instant of the
schedule, after the last one and, after a step, a period on, fired at the instant less the lead, counts in LAPS and shows
RUNNING, its instant, period and lead. On a running string, for the oldest lap in progress while its data is not complete:
24 us after its instant, where no late SAMPLE was sent, a port's COLLECT is asked for, in the place of which an ENUMERATE
that waits for it leaves; at the cut-off missing records end the collection; complete lap data, with the current or at the
cut-off, is handed on, and the lap stays in progress up to its result instant and leaves at once after it. A lap-current
frame up to the cut-off gives its lap the current and charge. While the engines run, a new second gives the false-start
ratio and, above a quarter, half rate; the shadow check of a filtering string counts once in a second while its die does not
hand over, and a mismatch sets SELF_TEST_FAIL. -/
def Obligations.LapsRun : Prop :=
  (∀ (t str tNom : Nat) (s : State), s.inv = true → (s.at t).mayLap str = true → s.rd RingStatus.TOPO_EPOCH str ≠ 0 → (s.ring str).job = none →
    (s.str str).profWait = none → (s.str str).cfgWait = [] → (s.str str).touchWait = [] →
    isLapInstant (s.confRate str) (s.totalShift str) tNom = true →
    ((s.laps str).stepped = none ∧ (∀ a, (s.laps str).lastNom = some a → a < tNom) ∨
      ∃ a, (s.laps str).stepped = some a ∧ a + lapPeriod (s.confRate str) (s.totalShift str) ≤ tNom) →
    tNom ≤ (s.at t).base + (s.lapLead str (lapPeriod (s.confRate str) (s.totalShift str))).1 →
    (s.at t).base + (s.lapLead str (lapPeriod (s.confRate str) (s.totalShift str))).1 ≤ tNom + 10 →
    ∃ u, exec (.lapFire t str tNom) s = .next u ∧ Counts LapStatus.LAPS str s u ∧ u.rd LapStatus.LAP_STATE str = 1 ∧
      u.rd LapStatus.LAST_LAP_TIME str = timeVal tNom % 2 ^ 80 ∧
      u.rd LapStatus.LAP_PERIOD str = lapPeriod (s.confRate str) (s.totalShift str) % 2 ^ 32 ∧
      u.rd LapStatus.LEAD_IN_FORCE str = (s.lapLead str (lapPeriod (s.confRate str) (s.totalShift str))).1 % 2 ^ 32) ∧
  (∀ (t str port : Nat) (x : Lap) (xs : List Lap) (s : State), s.inv = true → s.hasStr str = true → s.running = true → port ≤ 1 →
    (s.laps str).cur = x :: xs → x.done = none → x.short_ = false → (if port = 0 then x.askedA else x.askedB) = false → x.late = none →
    x.nom + 24000 ≤ (s.at t).lapNow x →
    ∃ u, exec (.collect t str port) s = .next u ∧
      ((u.laps str).cur.head?).any (fun y => if port = 0 then y.askedA else y.askedB) = true ∧
      (if port = 0 then (u.ring str).skipA else (u.ring str).skipB) = false) ∧
  (∀ (t str : Nat) (x : Lap) (xs : List Lap) (s : State), s.inv = true → s.hasStr str = true → s.running = true →
    (s.laps str).cur = x :: xs → x.done = none → s.cutOff str x ≤ (s.at t).lapNow x → s.allRecords str x = false →
    ∃ u, exec (.collectionCutoff t str) s = .next u ∧ ((u.laps str).cur.head?).any (·.short_) = true) ∧
  (∀ (t str ahead seq : Nat) (late : Bool) (i q : Int) (rest : List (Nat × Bool × Int × Int)) (x : Lap) (s : State), s.inv = true →
    s.hasStr str = true → (s.fe str).frames = (seq, late, i, q) :: rest → s.lap? str seq = some x → x.done = none →
    (s.at t).lapNow x ≤ s.cutOff str x →
    ∃ u, exec (.chargeArrival t str ahead) s = .next u ∧ (u.fe str).frames = rest ∧
      (u.lap? str seq).any (fun y => if late then decide (y.curLate = some i) else decide (y.cur = some (i, q))) = true) ∧
  (∀ (t str : Nat) (x : Lap) (xs : List Lap) (s : State), s.inv = true → s.hasStr str = true → s.running = true →
    (s.laps str).cur = x :: xs → x.done = none → (s.allRecords str x = true ∨ x.short_ = true) →
    (s.cutOff str x ≤ (s.at t).lapNow x ∨ x.curMissing = false) →
    ∃ u, exec (.lapDataComplete t str) s = .next u ∧ (u.str str).firstLap.isSome = true ∧
      ((s.at t).lapNow x ≤ x.resultAt → (u.lap? str x.seq).any (fun y => y.done.isSome && y.handed.isSome) = true) ∧
      (x.resultAt < (s.at t).lapNow x → u.lap? str x.seq = none)) ∧
  (∀ (t str : Nat) (s : State), s.inv = true → s.hasStr str = true → str ≤ 7 → s.enginesUp = true →
    (s.at t).base / 1000000000 ≠ (s.est str).secIdx →
    ∃ u, exec (.falseStartSecond t str) s = .next u ∧ (u.est str).secIdx = (s.at t).base / 1000000000 ∧
      u.rd FilterStatus.FALSE_START_RATIO_1S str =
        (if (s.est str).secLaps = 0 then 0 else min 0xFFFF (1000 * (s.est str).secFalse / (s.est str).secLaps)) ∧
      (u.est str).half = decide ((s.est str).secLaps < 4 * (s.est str).secFalse) ∧
      ((s.est str).secLaps < 4 * (s.est str).secFalse → Counts FilterStatus.HALF_RATE_SECONDS str s u)) ∧
  (∀ (t str : Nat) (same : Bool) (s : State), s.inv = true → s.hasStr str = true → s.enginesUp = true → (s.est str).pos ≠ [] →
    s.filterOn str = true → (s.upd.relay = false ∨ s.rd UpdateStatus.HANDOVER_DIE ≠ str) →
    (s.est str).shadowSec ≠ (s.at t).base / 1000000000 + 1 →
    ∃ u, exec (.shadowCheck t str same) s = .next u ∧ Counts FilterStatus.SHADOW_CHECKS str s u ∧
      (same = false → Counts FilterStatus.SHADOW_MISMATCHES str s u ∧ u.rdB DieStatus.SELF_TEST_FAIL str = true))

/-- While the engines run: when its share of CMP_TEST_INTERVAL is over and none is under way, CMP_TEST is queued for the node
tested longest ago; the routine test due on a string with classifiable wires marks one of them tested; a CLEARED wire
whose retest is due returns to none; a node whose authentication failed and is due again waits for its turn or is under
way. RUN_WIRE_TEST for a numbered node in the epoch in force, with wires of its fitted channels and none of them deferred,
waits for its answer with those wires to test. CLEAR_TRIP with the button token and a good read-back of the switches, for
a trip without the fault loop among its causes, every other cause gone, outside HOLDUP and with none under way, journals
one write and waits. While the module runs, a node that has booted into its new bank counts in COPIES_DONE and one whose
copy failed in COPIES_FAILED, each with its time. -/
def Obligations.NodesAreTested : Prop :=
  (∀ (t str k : Nat) (s : State), s.inv = true → s.hasStr str = true → str ≤ 7 → s.enginesUp = true →
    maxL ((s.nodeList str).map fun m => (s.rnode str m).cmpTested) +
      s.rd NodeConfig.CMP_TEST_INTERVAL str * secs 60 / max 1 (s.nodeList str).length ≤ t →
    (s.ring str).cmds.any (fun c => decide (c.owner = .cmpTest)) = false →
    oldestNode (fun m => (s.rnode str m).cmpTested) (s.nodeList str) = some k →
    ∃ u, exec (.cmpTest t str) s = .next u ∧ (u.ring str).cmds.any (fun c => decide (c.owner = .cmpTest) && decide (c.node = k)) = true) ∧
  (∀ (t str : Nat) (s : State), s.inv = true → s.hasStr str = true → s.enginesUp = true →
    s.rd NodeConfig.WIRE_TEST_INTERVAL str ≠ 0 → s.rd RingStatus.NODE_COUNT str ≤ (s.ring str).nodes.length → s.allWires str ≠ [] →
    max s.boot.t0 (maxL ((s.allWires str).map fun x => ((s.rnode str x.1).wire x.2).tested)) +
      s.rd NodeConfig.WIRE_TEST_INTERVAL str * secs 60 / max 1 (s.allWires str).length ≤ t →
    ∃ u, exec (.routineWireTest t str) s = .next u ∧ ∃ x ∈ s.allWires str, ((u.rnode str x.1).wire x.2).tested = max s.now t) ∧
  (∀ (t str node wire a : Nat) (s : State), s.inv = true → s.hasStr str = true → s.enginesUp = true → node < s.rd RingStatus.NODE_COUNT str →
    node < (s.ring str).nodes.length → ((s.rnode str node).wire wire).retestAt = some a → a ≤ t → ((s.rnode str node).wire wire).state = 3 →
    ∃ u, exec (.wireRetest t str node wire) s = .next u ∧ ((u.rnode str node).wire wire).state = 0 ∧
      ((u.rnode str node).wire wire).retestAt = none) ∧
  (∀ (t n k : Nat) (ws : List Nat) (r : Req) (p : Bytes) (s : State) (x : Sess), s.inv = true → Served r 2 s x → p.length = 8 →
    n = field p 0 1 → k = field p 2 2 → ws = (if field p 1 1 = 0xFF then wiresOf (s.fitted n k) else [field p 1 1]) →
    s.hasStr n = true → n ≤ 7 → s.rd RingStatus.TOPO_EPOCH n ≠ 0 → (s.at t).epochNow n = s.rd RingStatus.TOPO_EPOCH n →
    s.rd RingStatus.TOPO_EPOCH n = field p 4 4 → k < s.rd RingStatus.NODE_COUNT n → ws ≠ [] →
    (∀ w ∈ ws, (wiresOf (s.fitted n k)).contains w = true ∧ s.testDeferred n k w = false) →
    ∃ u, exec (.runWireTest t r p) s = .next u ∧ (u.ring n).wireReqs.getLast? =
      some ⟨(s.ring n).nextReq, ⟨r.conn, x.num, 0x43, r.seq, x.next⟩, k, ws, []⟩) ∧
  (∀ (t str node a : Nat) (s : State), s.inv = true → s.hasStr str = true → s.enginesUp = true → node < s.rd RingStatus.NODE_COUNT str →
    s.rd NodeAuth.AUTH_STATE (nodeInst str node) = 3 → (s.rnode str node).retryAt = some a → a ≤ t →
    ∃ u, exec (.authRetry t str node) s = .next u ∧ u.rd NodeAuth.AUTH_STATE (nodeInst str node) ≤ 1) ∧
  (∀ (t : Nat) (r : Req) (p : Bytes) (s : State) (x : Sess), s.inv = true → Served r 2 s x → p.length = 4 → (s.at t).tokenOk x.num false = true →
    s.hasStr (nth 0 p 0) = true → nth 0 p 0 ≤ 7 → s.rd ProtectionStatus.LATCH_CAUSE (nth 0 p 0) ≠ 0 → s.inHoldup = false →
    (s.prot (nth 0 p 0)).clearRid = none → (s.ring (nth 0 p 0)).cmds.any (fun c => decide (c.owner = .release)) = false →
    (∀ c ∈ (s.prot (nth 0 p 0)).causes, c ≠ 1 ∧ (c = 15 ∨ (s.at t).causeStays (nth 0 p 0) c = none)) →
    ∃ u, exec (.clearTrip t r p true) s = .next u ∧ u.mbx.journal.length = s.mbx.journal.length + 1 ∧
      (u.prot (nth 0 p 0)).clearRid = some ⟨r.conn, x.num, 0x42, r.seq, x.next⟩) ∧
  (∀ (t str node : Nat) (s : State), s.inv = true → s.hasStr str = true → s.running = true → node < s.rd RingStatus.NODE_COUNT str →
    (s.rnode str node).fw = 7 → (s.rnode str node).fwCause = 1 →
    ∃ u, exec (.nodeUpdated t str node) s = .next u ∧ Counts NodeUpdate.COPIES_DONE str s u ∧
      u.rd NodeUpdate.LAST_COPY_TIME str = timeVal (s.at t).base % 2 ^ 80) ∧
  (∀ (t str node : Nat) (s : State), s.inv = true → s.hasStr str = true → s.running = true → node < s.rd RingStatus.NODE_COUNT str →
    (s.rnode str node).fw = 8 →
    ∃ u, exec (.nodeCopyFailed t str node) s = .next u ∧ Counts NodeUpdate.COPIES_FAILED str s u ∧
      u.rd NodeUpdate.LAST_COPY_TIME str = timeVal (s.at t).base % 2 ^ 80)

/-- While output schedules run, an occurrence that is due counts in FIRED with its instant, a repeating schedule has its next
occurrence one period later and another none, and the output's own pulse, where it has one, ends PULSE_WIDTH from now. The
end of a pulse returns the line to rest. While the module runs, CAPTURE_WINDOW sets WINDOW_STATE: for CAPTURE_MODE 0 it is
0; for mode 2, unless it reads MISSED, 1 before the window, 2 in it and 3 after it; for another mode 2 with a window open
and 1 with none. An edge that EDGE and an open window ask for, at 100 ns or more from the last one if there is one, is
captured: counted, with its level, direction and time. -/
def Obligations.PacerAndCaptureInputs : Prop :=
  (∀ (t out a : Nat) (s : State), s.inv = true → out ≤ 3 → s.pacerUp = true → (s.pout out).next = some a → a ≤ (s.at t).base →
    ∃ u, exec (.pacerOccurrence t out) s = .next u ∧ Counts PacerOutput.FIRED out s u ∧
      u.rd PacerOutput.LAST_FIRE_TIME out = timeVal a % 2 ^ 80 ∧
      (u.pout out).next = (if s.outMode out = 2 then some (a + max 1 (s.outPeriod out)) else none) ∧
      (s.rdB PacerOutput.PULSE_EN out = true → s.rdB PacerOutput.LINE_CLAIMED out = false →
        (u.pout out).pulseEnd = some (max s.now t + s.rd PacerOutput.PULSE_WIDTH out))) ∧
  (∀ (t out e : Nat) (s : State), s.inv = true → out ≤ 3 → (s.pout out).pulseEnd = some e → e ≤ t →
    ∃ u, exec (.pulseEnd t out) s = .next u ∧ (u.pout out).pulseEnd = none ∧ (u.pout out).active = s.restLevel out) ∧
  (∀ (t input : Nat) (s : State), s.inv = true → s.running = true → input ≤ 1 →
    ∃ u, exec (.captureWindow t input) s = .next u ∧
      (s.rd CaptureInput.CAPTURE_MODE input = 0 → u.rd CaptureInput.WINDOW_STATE input = 0) ∧
      (s.rd CaptureInput.CAPTURE_MODE input = 2 → s.rd CaptureInput.WINDOW_STATE input ≠ 4 → u.rd CaptureInput.WINDOW_STATE input =
        if (s.at t).base < s.winStart input then 1 else if (s.at t).base < s.winEnd input then 2 else 3) ∧
      (s.rd CaptureInput.CAPTURE_MODE input ≠ 0 → s.rd CaptureInput.CAPTURE_MODE input ≠ 2 → u.rd CaptureInput.WINDOW_STATE input =
        if (s.winOpen input (s.at t).base).isSome then 2 else 1)) ∧
  (∀ (t input edge m : Nat) (s : State), s.inv = true → s.running = true → input ≤ 1 → (edge = 1 ∨ edge = 2) →
    s.winOpen input (s.at t).base = some m → bitOf (s.rd CaptureInput.EDGE input) (edge - 1) = true →
    (∀ l, (s.capIn input).last = some l → l + 100 ≤ max s.now t) →
    ∃ u, exec (.capture t input edge) s = .next u ∧ Counts CaptureInput.CAPTURES input s u ∧ u.rd CaptureInput.LAST_EDGE input = edge ∧
      u.rdB CaptureInput.LEVEL input = decide (edge = 1) ∧ u.rd CaptureInput.LAST_CAPTURE_TIME input = timeVal (s.at t).base % 2 ^ 80)

/-- On a running string: a port counts the code violations reported, and one that loses its incoming line clears its link and
sends BREAK; valid code groups set the link, 10 ms of them after a BREAK bring IDLE back, and 10 ms of IDLE make the port
ready. A baton with a broken header counts in HEADER_CRC_ERRORS, and of one in good order the broken blocks count; a
SAMPLE in good order that has come through the ring from port A to port B, whole and without a TURN block, gives the
transit time. A baton that has not returned counts in RETURN_MISSING. The command of a numbered node whose reply window
has closed without a response, or whose result was asked for, is sent again, and counts in CMD_TIMEOUTS after CMD_RETRIES;
a result still running is fetched again after its 1 ms. A round due in a topology in force, not in DECOMMISSIONED, records
its time. A start enumeration that has been heard is noted and its topology prepared; once no command is outstanding a
new topology begins to be measured; with AUTO_CLOSE, no job and no closing under way, a joint qualified for CLOSE_QUAL is
closed by the lap two after the last. -/
def Obligations.RingMasterRuns : Prop :=
  (∀ (t str port v : Nat) (sign : LineSign) (s : State), s.inv = true → s.hasStr str = true → s.running = true → port ≤ 1 →
    ∃ u, exec (.ringPortLineLost t str port ⟨v, sign⟩) s = .next u ∧
      u.rd (if port = 0 then RingCounters.CODE_VIOLATIONS_A else RingCounters.CODE_VIOLATIONS_B) str =
        satAdd 32 (s.rd (if port = 0 then RingCounters.CODE_VIOLATIONS_A else RingCounters.CODE_VIOLATIONS_B) str) v % 2 ^ 32 ∧
      (lineLost sign = true → Out.brk str port ∈ u.out ∧
        u.rdB (if port = 0 then RingStatus.PORT_A_LINK else RingStatus.PORT_B_LINK) str = false)) ∧
  (∀ (t str port valid idle : Nat) (s : State), s.inv = true → s.hasStr str = true → s.running = true → str ≤ 7 → port ≤ 1 →
    1 ≤ valid →
    ∃ u, exec (.ringPortLinkReady t str ⟨port, valid, idle⟩) s = .next u ∧
      u.rdB (if port = 0 then RingStatus.PORT_A_LINK else RingStatus.PORT_B_LINK) str = true ∧
      (msec 10 ≤ idle → (if port = 0 then (u.ring str).readyA else (u.ring str).readyB) = true) ∧
      ((if port = 0 then (s.ring str).brkA else (s.ring str).brkB) = true → msec 10 ≤ valid → Out.idle str port ∈ u.out)) ∧
  (∀ (t str port rtt : Nat) (ab : Bool) (bytes : Bytes) (s : State), s.inv = true → s.hasStr str = true → s.running = true → port ≤ 1 →
    ∃ u, exec (.batonReceived t str port bytes ab rtt) s = .next u ∧
      (headerOk bytes = false → Counts RingCounters.HEADER_CRC_ERRORS str s u) ∧
      (headerOk bytes = true → u.rd RingCounters.BLOCK_CRC_ERRORS str =
        satAdd 32 (s.rd RingCounters.BLOCK_CRC_ERRORS str) (parseBlocks bytes.length (bytes.drop 20)).2 % 2 ^ 32)) ∧
  (∀ (t str rtt : Nat) (bytes : Bytes) (s : State), s.inv = true → s.hasStr str = true → s.running = true → str ≤ 7 → rtt < 4294967296 →
    headerOk bytes = true → field bytes 0 1 = 1 → field bytes 1 1 < 128 →
    blocksOf 7 (parseBlocks bytes.length (bytes.drop 20)).1 = [] →
    ∃ u, exec (.batonReceived t str 1 bytes false rtt) s = .next u ∧ u.rd RingStatus.T_AB str = rtt ∧ (u.ring str).tAB = some rtt) ∧
  (∀ (t str port kind : Nat) (f : Flight) (s : State), s.inv = true → s.hasStr str = true → s.running = true →
    (s.ring str).flights.find? (fun g => decide (g.port = port) && decide (g.kind = kind) && decide (g.due ≤ max s.now t)) = some f →
    ∃ u, exec (.returnMissing t str port kind) s = .next u ∧ Counts RingCounters.RETURN_MISSING str s u) ∧
  (∀ (t str node : Nat) (c : NodeCmd) (s : State), s.inv = true → s.hasStr str = true → s.running = true → node ≠ 0xFF →
    ((s.at t).drain str).inFlight str node = false → s.sentCmd str node = some c → (c.phase ≠ 2 ∨ c.fetchAt = 0) →
    ∃ u, exec (.cmdTimeout t str node) s = .next u ∧
      (c.attempt < s.rd RingConfig.CMD_RETRIES str → (u.sentCmd str node).map (·.attempt) = some (c.attempt + 1)) ∧
      (s.rd RingConfig.CMD_RETRIES str ≤ c.attempt → Counts RingCounters.CMD_TIMEOUTS str s u)) ∧
  (∀ (t str node : Nat) (c : NodeCmd) (s : State), s.inv = true → s.hasStr str = true → s.running = true →
    s.sentCmd str node = some c → c.phase = 2 → c.fetchAt ≠ 0 → c.fetchAt ≤ t →
    ∃ u, exec (.resultFetch t str node) s = .next u ∧ (u.sentCmd str node).map (·.fetchAt) = some 0) ∧
  (∀ (t str : Nat) (s : State), s.inv = true → s.hasStr str = true → s.running = true → str ≤ 7 → s.security ≠ 5 →
    s.rd RingStatus.TOPO_EPOCH str ≠ 0 → (s.ring str).roundAt + msec 100 ≤ t →
    ∃ u, exec (.incrementalRound t str) s = .next u ∧ u.rd RingStatus.LAST_ROUND_TIME str = timeVal (s.at t).base % 2 ^ 80 ∧
      (u.ring str).roundAt = max s.now t) ∧
  (∀ (t str : Nat) (j : Job) (s : State), s.inv = true → s.hasStr str = true → s.running = true → (s.ring str).job = some j →
    s.rd RingStatus.TOPO_EPOCH str = 0 → j.stage = 0 → j.heard = true → str < s.boot.enumDone.length →
    ∃ u, exec (.enumerationComplete t str) s = .next u ∧ nth false u.boot.enumDone str = true ∧ (u.ring str).job.map (·.stage) = some 1) ∧
  (∀ (t str : Nat) (j : Job) (s : State), s.inv = true → s.hasStr str = true → s.running = true → (s.ring str).job = some j →
    j.stage = 1 → (∀ c ∈ (s.ring str).cmds, c.phase = 0) →
    ∃ u, exec (.newEpoch t str) s = .next u ∧ (u.ring str).job.any (fun k => decide (2 ≤ k.stage)) = true) ∧
  (∀ (t str x : Nat) (s : State), s.inv = true → s.hasStr str = true → s.running = true → s.jointNow str = true →
    (s.ring str).jointSince = some x → x + s.rd RingConfig.CLOSE_QUAL str * msec 100 ≤ t → s.rdB RingConfig.AUTO_CLOSE str = true →
    (s.ring str).closeLap = none → (s.ring str).job = none →
    ∃ u, exec (.ringClose t str) s = .next u ∧ u.rdB RingStatus.JOINT_READY str = true ∧
      (u.ring str).closeLap = some (nextSeq (nextSeq (s.laps str).seq)))

/-- OPEN_STREAM of a kind of Table 5.8 with its parameters, for a session whose class it needs, which nothing of that kind and
no open update state refuses and for which a number is free, answers ST_OK with the lowest free number (that it is the
lowest is the model's choice, log 43), and two bytes of credit where the stream is inbound, and adds the stream. CLOSE_STREAM removes the stream; GRANT_CREDIT up to 1,024 adds its
credit to an outbound stream. A data frame of the host uses one credit of its inbound stream, and with END leaves it whole
for its use. Credit the module grants, outside HOLDUP, is added to an inbound stream. Outside HOLDUP, with credit, below
its allowance and with its port free to send, an outbound stream's next unit leaves with the stream's number and frame
count, and counts; the last ends it. An export copies the entries and their checksum with its instant. A restore set is
judged and its result shown, and one that is good is accepted with its epoch. -/
def Obligations.StreamsMoveData : Prop :=
  (∀ (t n : Nat) (r : Req) (p : Bytes) (s : State) (x : Sess), s.inv = true → Served r 1 s x → paramLen (field p 0 1) = some (p.length - 4) → 4 ≤ p.length →
    kindClass (field p 0 1) ≤ x.cls → (7 ≤ field p 0 1 → s.security ≠ 3 ∧ s.security ≠ 4) → firstRef ((s.admitted t r 0x20 x).kindRefusals (field p 0 1) (p.drop 4)) = none →
    (5 ≤ field p 0 1 → s.holder (field p 0 1) = none) → freeStream x = some n → s.headerCode (field p 0 1) (p.drop 4) = 0 →
    ∃ u a, exec (.openStream t r p) s = .next u ∧ Responds u r 0x20 stOk (n :: a) ∧ a.length = (if inbound (field p 0 1) then 2 else 0) ∧
      (u.sess? x.num).map (fun y => y.streams.map (·.num)) = some (x.streams.map (·.num) ++ [n])) ∧
  (∀ (t : Nat) (r : Req) (p : Bytes) (q : Stream) (s : State) (x : Sess), s.inv = true → Served r 1 s x → p.length = 4 →
    x.stream? (field p 0 1) = some q →
    ∃ u, exec (.closeStream t r p) s = .next u ∧ Responds u r 0x21 stOk [] ∧ (u.sess? x.num).bind (·.stream? (field p 0 1)) = none) ∧
  (∀ (t : Nat) (r : Req) (p : Bytes) (q : Stream) (s : State) (x : Sess), s.inv = true → Served r 1 s x → p.length = 4 →
    x.stream? (field p 0 1) = some q → inbound q.kind = false → q.credit + field p 2 2 ≤ 1024 →
    ∃ u, exec (.grantCredit t r p) s = .next u ∧ Responds u r 0x22 stOk [] ∧
      ((u.sess? x.num).bind (·.stream? (field p 0 1))).map (·.credit) = some (q.credit + field p 2 2)) ∧
  (∀ (t : Nat) (r : Req) (p : Bytes) (q : Stream) (s : State) (x : Sess), s.inv = true → Served r 0 s x → 8 ≤ p.length →
    x.stream? (field p 0 1) = some q → inbound q.kind = true → q.credit ≠ 0 → bitOf (field p 1 1) 1 = false →
    ∃ u, exec (.streamDataIn t r p) s = .next u ∧
      (bitOf (field p 1 1) 0 = false → ((u.sess? x.num).bind (·.stream? (field p 0 1))).map (fun z => (z.credit, z.frames)) = some (q.credit - 1, q.frames + 1)) ∧
      (bitOf (field p 1 1) 0 = true → (u.sess? x.num).bind (·.stream? (field p 0 1)) = none ∧ u.mbx.inbox.length = s.mbx.inbox.length + 1)) ∧
  (∀ (t sess num frames : Nat) (x : Sess) (q : Stream) (s : State), s.inv = true → s.sess? sess = some x → x.stream? num = some q →
    s.mailboxUp = true → inbound q.kind = true → s.inHoldup = false → min frames (min (65535 - q.credit) s.stagingFree) ≠ 0 →
    ∃ u, exec (.streamCredit t sess num frames) s = .next u ∧
      ((u.sess? sess).bind (·.stream? num)).map (·.credit) = some (q.credit + min frames (min (65535 - q.credit) s.stagingFree))) ∧
  (∀ (t sess num ahead fl : Nat) (d : Bytes) (x : Sess) (c : Conn) (q w : Stream) (s : State), s.inv = true → s.sess? sess = some x →
    s.conn? x.conn = some c → x.stream? num = some q → s.mailboxUp = true → s.inHoldup = false → q.credit ≠ 0 → ahead < s.allowance q.kind →
    (s.at t).netBReady c.port = true → (s.at t).nextUnit q = (some (fl, d), w) →
    ∃ u n, exec (.streamDataOut t sess num ahead) s = .next u ∧
      u.out = .frame x.conn flagStream 0x23 0 n x.num ([q.num, fl, 0, 0] ++ toLE 4 q.frames ++ d) :: s.out ∧
      ((u.sess? sess).bind (·.stream? num)).map (fun z => (z.credit, z.frames)) =
        if fl = sEnd then none else some (q.credit - 1, q.frames + 1)) ∧
  (∀ (t n : Nat) (q : Stream) (s : State), s.inv = true → s.holder 5 = some (n, q) → q.part = 0 → s.running = true → s.inHoldup = false →
    ∃ u, exec (.ledgerExport t) s = .next u ∧ u.ledger.copy = s.ledger.entries ∧
      u.rd LedgerStatus.EXPORT_CHECKSUM = crc32 (s.ledger.entries.flatMap Entry.bytes) % 2 ^ 32 ∧
      u.rd LedgerStatus.LAST_CAPTURE_TIME = timeVal (s.at t).base % 2 ^ 80) ∧
  (∀ (t n : Nat) (q : Stream) (s : State), s.inv = true → s.ended 6 = some (n, q) → s.running = true → s.inHoldup = false →
    ∃ u, exec (.ledgerRestoreCommit t) s = .next u ∧ u.ended 6 = none ∧ u.rd LedgerStatus.RESTORE_RESULT = (checkRestore q.queue).1 ∧
      ((checkRestore q.queue).1 = 2 → u.rd LedgerStatus.LEDGER_EPOCH = (checkRestore q.queue).2.1 % 2 ^ 32 ∧ u.ledger.accepted = true))

/-- While the module runs, outside DECOMMISSIONED, the first round of a whole second is noted, in each fitted die's
LAST_ROUND_TIME and VCORE too. With the HVAC_SOURCE of the last round 0 and its firmware served, an HVAC request that is due
under that round's HVAC_PERIOD is noted; HVAC_CFG_FAULT says whether its object does not fit, and where it does the request counts. While powered, the first caldera
trip of a fitted die sets the latch with its sensor, halts the dies, clears the mailbox and switches every coil off; once
the release comparators have read below for 60 s since the last trip, the latch is released and the module starts with
cause 4. A step of a string is over 105 ms after it once the windows of its nodes have been read or refused. -/
def Obligations.ThermalRowsAct : Prop :=
  (∀ (t : Nat) (x : Round) (s : State), s.inv = true → s.running = true → s.security ≠ 5 →
    s.thermal.lastRound ≠ some ((s.at t).base / 1000000000) →
    ∃ u, exec (.housekeepingRound t x) s = .next u ∧ u.thermal.lastRound = some ((s.at t).base / 1000000000) ∧
      ∀ d < 8, s.hasDie d = true → u.rd DieStatus.VCORE d = nth 0xFFFF x.vcore d % 2 ^ 16 ∧
        u.rd ThermalStatus.LAST_ROUND_TIME d = timeVal ((s.at t).base / 1000000000 * 1000000000) % 2 ^ 80) ∧
  (∀ (t : Nat) (s : State), s.inv = true → s.running = true → s.ownersRun = true → ∀ src obj per tgt, s.thermal.hvac = [src, obj, per, tgt] → src = 0 →
    (∀ l, s.thermal.hvacLast = some l → l + msec per ≤ t) →
    ∃ u, exec (.hvacRequest t) s = .next u ∧ u.thermal.hvacLast = some (max s.now t) ∧
      u.rdB HvacConfig.HVAC_CFG_FAULT = !(s.canFit obj 1 fun l => l == 16) ∧
      (s.canFit obj 1 (fun l => l == 16) = true → Counts HvacConfig.HVAC_SENT 0 s u)) ∧
  (∀ (t die sensor : Nat) (s : State), s.inv = true → s.power.powered = true → s.hasDie die = true → s.thermal.first = none →
    ∃ u, exec (.calderaTrip t die sensor) s = .next u ∧ u.thermal.first = some (die, sensor) ∧ u.boot.halt = true ∧ u.mbx = .init ∧
      ∀ n, s.hasStr n = true → CoilsOff n u) ∧
  (∀ (t since d m : Nat) (s : State), s.thermal.first = some (d, m) → s.power.powered = true → s.thermal.coolSince.getD 0 ≤ since →
    since + secs 60 ≤ t →
    ∃ u, exec (.calderaRelease t since) s = .next u ∧ u.thermal.first = none ∧ u.boot.cause = 4 ∧ u.boot.t0 = max s.now t ∧ u.mbx.sess = []) ∧
  (∀ (t str : Nat) (st : Step) (s : State), s.inv = true → s.hasStr str = true → s.enginesUp = true →
    (s.est str).step = some st → st.nomB + msec 105 ≤ (s.at t).plain →
    (∀ k ∈ st.nodes, st.refused.contains k = true ∨ ∀ c ∈ maskList (s.sentinelMask str k), (st.samples k c).isSome = true) →
    ∃ u, exec (.sentinelFit t str) s = .next u ∧ (u.est str).step = none)

/-- While time synchronisation runs: an Announce puts its sender first among the masters heard by every domain it concerns. A
Pdelay_Req for a domain number up to 127 at a port with a domain is answered under the domain's tag, and nothing else
changes; the first exchange of a port, and one 1 s after the last, sends the next request under that tag in the port's
domain. A Sync at an interval of 62.5 ms to 1 s from the
selected master of the one domain it concerns, which has acquired and is not timed out, on a port that knows its link
delay, shows the interval and whether it was two-step. A LOCKED domain whose master is heard but which has had no sample
for three intervals is HOLDOVER, or LISTENING where its error is too large. With REVERTIVE, a primary LOCKED for RETURN_QUAL beside the LOCKED
secondary in use is returned to. Domains both LOCKED that differ by more than DISAGREE_LIMIT for 10 s set DOMAIN_DISAGREE.
While the module runs, a slew that has ended clears SLEWING and SLEW_REMAINING, and TIME_STATE follows the domain in use. -/
def Obligations.TimeFollowsDomains : Prop :=
  (∀ (t port dom : Nat) (m : PtpAnnounce) (s : State), s.inv = true → s.ptpUp = true → s.time.doms.length = 2 →
    ∃ u, exec (.announcePtp t port dom m) s = .next u ∧
      ∀ i ∈ s.domsOf port dom, (u.dom i).masters.head?.map (·.ann) = some m) ∧
  (∀ (t port dom seq ident pnum turn : Nat) (s : State), s.inv = true → s.ptpUp = true → ∀ i, s.portDomain port = some i → dom ≤ 127 →
    ∃ u, exec (.pdelayReq t port dom seq ident pnum turn) s = .next u ∧
      u.out = .ptp port (s.ptpTag port i) dom 3 [seq, ident, pnum, turn] :: s.out ∧
      Only ⟨false, [], [.out]⟩ s u) ∧
  (∀ (t port dom : Nat) (resp : Option (Nat × Nat × Int)) (s : State), s.inv = true → s.ptpUp = true → (port = 1 ∨ port = 2) →
    s.portDomain port = some dom → s.time.links.length = 2 →
    (∀ a, (nth PLink.init s.time.links (port - 1)).reqAt = some a → a + secs 1 ≤ t) →
    ∃ u, exec (.pdelayExchange t port resp) s = .next u ∧
      u.out = .ptp port (s.ptpTag port dom) (s.rd PtpDomain.DOMAIN_NUMBER dom) 2 [((nth PLink.init s.time.links (port - 1)).reqSeq + 1) % 65536] :: s.out ∧
      (nth PLink.init u.time.links (port - 1)).reqAt = some (max s.now t)) ∧
  (∀ (t rx port dom ident pnum t1 i : Nat) (corr log mld : Int) (two : Bool) (f : Foreign) (s : State), s.inv = true → s.ptpUp = true →
    -4 ≤ log → log ≤ 0 → s.linkDelay port = some mld → s.domsOf port dom = [i] → (s.dom i).sel = some f → f.ann.ident = ident → f.ann.pnum = pnum →
    f.timedOut (max s.now t) = false → 2 ≤ s.domState i →
    ∃ u, exec (.ptpSync t rx port dom ident pnum t1 corr two log) s = .next u ∧ u.rdB PtpDomain.TWO_STEP_MASTER i = two ∧
      u.rd PtpDomain.SYNC_LOG_INTERVAL i = ofInt 8 log) ∧
  (∀ (t dom l : Nat) (f : Foreign) (s : State), s.inv = true → s.ptpUp = true → (dom = 1 ∨ dom = 2) → s.domState dom = domLocked →
    (s.dom dom).sel = some f → f.timedOut (max s.now t) = false → (s.dom dom).last = some l →
    l + 3 * logNs (if s.rdI PtpDomain.SYNC_LOG_INTERVAL dom = 127 then 0 else s.rdI PtpDomain.SYNC_LOG_INTERVAL dom) ≤ t →
    ∃ u, exec (.domainState t dom) s = .next u ∧ (u.domState dom = domHoldover ∨ u.domState dom = domListening)) ∧
  (∀ (t : Nat) (s : State), s.inv = true → s.ptpUp = true → s.rdB TimeStatus.REVERTIVE = true → s.inUse = 2 → s.domState 1 = domLocked →
    s.domState 2 = domLocked → (s.dom 1).lockedAt + secs (s.rd TimeStatus.RETURN_QUAL) ≤ t →
    ∃ u, exec (.returnQual t) s = .next u ∧ u.inUse = 1) ∧
  (∀ (t : Nat) (s : State), s.inv = true → s.running = true → s.rdB TimeStatus.SLEWING = true → s.clk.slewEnd ≤ t →
    ∃ u, exec (.slewComplete t) s = .next u ∧ u.rdB TimeStatus.SLEWING = false ∧ u.rd TimeStatus.SLEW_REMAINING = 0) ∧
  (∀ (t : Nat) (s : State), s.inv = true → s.running = true →
    ∃ u, exec (.timeState t) s = .next u ∧ u.rd TimeStatus.TIME_STATE =
      (if s.inUse = 0 then 0 else if s.domState s.inUse = domLocked then 1
        else if (s.at t).errorEst ≤ s.rd TimeStatus.HOLDOVER_MAX_ERROR then 2 else 3)) ∧
  (∀ (t a : Nat) (s : State), s.inv = true → s.ptpUp = true → s.domState 1 = domLocked → s.domState 2 = domLocked →
    s.rd TimeStatus.DISAGREE_LIMIT < (toNs ((s.at t).domOffset 1 - (s.at t).domOffset 2)).natAbs → s.time.disFrom = some a → a + secs 10 ≤ t →
    ∃ u, exec (.domainDisagree t) s = .next u ∧ u.rdB TimeStatus.DOMAIN_DISAGREE = true)

/-- A module image whose body passes check 10 takes the inactive slot, another sets LAST_CHECK 10; outside HOLDUP the slot
written holds the image with its header and reads VALID, or RUNNING where it is active; a node image that passes is staged,
another sets LAST_CHECK 10. Outside HOLDUP and the debug states, with no update running, of a VALID inactive slot whose node
image fits: ACTIVATE_IMAGE with mode 1, no older, in RUN or SPRINT with no hot die and a format the relay takes, begins the
handover or the conversion before it and waits; ROLLBACK_IMAGE with mode 2 and the button token names the slot and
restarts with cause 8. In a relay: the spares' readiness begins the handovers; the next die hands over at its boundary by
exchanging its lead cluster; after the last die the commit makes the slot active and counts; an abandonment before that
counts, ends the relay with no die handed over, and else begins the hand-back. CONFIRM_CONFIG of the running format erases the kept
copy. In BOOT_HALT with J-SVC fitted, the loader reports an image whose header is refused and starts one that passes with
cause 8. -/
def Obligations.ImagesAreStagedAndActivated : Prop :=
  (∀ (t n : Nat) (q : Stream) (s : State), s.inv = true → s.ended 7 = some (n, q) →
    ∃ u, exec (.imageUploadEnd t) s = .next u ∧ u.ended 7 = none ∧
      (bodyPasses q.params q.body = true → u.upd.write = some (1 - s.nv.active) ∧ u.upd.hdr = q.params) ∧
      (bodyPasses q.params q.body = false → u.rd UpdateStatus.LAST_CHECK = 10)) ∧
  (∀ (t k : Nat) (s : State), s.inv = true → s.upd.write = some k → k ≤ 1 → s.running = true → s.inHoldup = false →
    ∃ u, exec (.imageStaged t) s = .next u ∧ u.upd.write = none ∧ (u.slot k).hdr = some s.upd.hdr ∧ (u.slot k).bodyOk = true ∧
      (u.slot k).body = s.upd.body ∧
      u.rd (if k = 0 then UpdateStatus.SLOT_A_STATE else UpdateStatus.SLOT_B_STATE) = if k = s.nv.active then 3 else 2) ∧
  (∀ (t n : Nat) (q : Stream) (s : State), s.inv = true → s.ended 8 = some (n, q) →
    ∃ u, exec (.nodeImageUpload t) s = .next u ∧ u.ended 8 = none ∧
      (bodyPasses q.params q.body = true → u.nv.nodeImage = some (q.params ++ q.body)) ∧
      (bodyPasses q.params q.body = false → u.rd UpdateStatus.LAST_CHECK = 10)) ∧
  (∀ (t : Nat) (r : Req) (p : Bytes) (s : State) (x : Sess), s.inv = true → Served r 3 s x → p.length = 4 → s.security ≠ 3 → s.security ≠ 4 →
    field p 0 1 = 1 - s.nv.active → field p 1 1 = 1 → s.slotState (1 - s.nv.active) = 2 → s.updateBusy = false →
    field s.runHdr 0x10 4 ≤ field (s.slotHdr (1 - s.nv.active)) 0x10 4 → s.nodeOutside (s.slotHdr (1 - s.nv.active)) = false →
    s.power.supply ≠ .backup → s.hotDie = false → (s.nv.variant = 2 → s.rd PowerStatus.POWER_STATE ≠ 2) →
    field (s.slotHdr (1 - s.nv.active)) 0x26 2 ≤ field s.runHdr 0x24 2 → s.inHoldup = false →
    ∃ u, exec (.activateImage t r p) s = .next u ∧ u.upd.relay = true ∧ u.upd.slot = 1 - s.nv.active ∧ u.upd.rollback = false ∧
      u.upd.rid = some ⟨r.conn, x.num, 0x60, r.seq, x.next⟩ ∧ u.upd.phase = (if s.needsConvert (1 - s.nv.active) then 7 else 3)) ∧
  (∀ (t : Nat) (r : Req) (p : Bytes) (s : State) (x : Sess), s.inv = true → Served r 3 s x → p.length = 4 → s.security ≠ 3 → s.security ≠ 4 →
    (s.at t).tokenOk x.num false = true → field p 0 1 = 1 - s.nv.active → field p 1 1 = 2 → s.slotState (1 - s.nv.active) = 2 →
    s.updateBusy = false → s.nodeOutside (s.slotHdr (1 - s.nv.active)) = false → s.inHoldup = false →
    ∃ u, exec (.rollbackImage t r p) s = .next u ∧ u.nv.active = 1 - s.nv.active ∧ u.boot.cause = 8 ∧ u.boot.t0 = max s.now t ∧ u.mbx.sess = []) ∧
  (∀ (t : Nat) (s : State), s.inv = true → s.running = true → s.upd.relay = true → (s.upd.phase = 3 ∨ s.upd.phase = 7) →
    ∃ u, exec (.spareReady t) s = .next u ∧ u.upd.phase = 4 ∧ u.rd UpdateStatus.UPDATE_STATE = 4 ∧ u.rd UpdateStatus.HANDOVER_DIE = s.nextDie % 2 ^ 8) ∧
  (∀ (t die : Nat) (s : State), s.inv = true → s.running = true → s.upd.relay = true → (s.at t).atBoundary die = true → s.upd.phase = 4 →
    die = s.nextDie →
    ∃ u, exec (.dieHandover t die) s = .next u ∧ u.rd DieStatus.LEAD_CLUSTER die = 1 - s.rd DieStatus.LEAD_CLUSTER die ∧
      u.upd.handed = die :: s.upd.handed ∧ u.upd.phase = (if s.relayOrder.length ≤ s.upd.handed.length + 1 then 5 else 4)) ∧
  (∀ (t : Nat) (s : State), s.inv = true → s.running = true → s.inHoldup = false → s.upd.relay = true → s.upd.phase = 5 →
    ∃ u, exec (.imageActivated t) s = .next u ∧ u.nv.active = s.upd.slot ∧ u.upd.relay = false ∧ u.upd.run = some s.upd.slot ∧
      Counts UpdateStatus.ACTIVATIONS 0 s u) ∧
  (∀ (t die cause : Nat) (s : State), s.inv = true → s.running = true → s.upd.relay = true → s.upd.phase ≠ 6 →
    (s.at t).abandonCause die cause = true →
    ∃ u, exec (.handoverAbandoned t die cause) s = .next u ∧ Counts UpdateStatus.HANDOVERS_ABANDONED 0 s u ∧
      (s.upd.handed = [] → u.upd.relay = false) ∧ (s.upd.handed ≠ [] → u.upd.phase = 6 ∧ u.upd.back = s.upd.handed ∧ u.upd.rid = none)) ∧
  (∀ (t : Nat) (r : Req) (p : Bytes) (s : State) (x : Sess), s.inv = true → Served r 3 s x → p.length = 4 → s.security ≠ 3 → s.security ≠ 4 →
    field p 0 2 = s.rd ConfigFormat.FORMAT_RUNNING → s.nv.keptFormat ≠ 0 → s.inHoldup = false →
    ∃ u, exec (.confirmConfig t r p) s = .next u ∧ Responds u r 0x62 stOk [] ∧ u.nv.kept = [] ∧ u.nv.keptFormat = 0 ∧
      u.rd ConfigFormat.FORMAT_KEPT = 0 ∧ u.rd ConfigFormat.WRITES_SINCE_KEPT = 0) ∧
  (∀ (t : Nat) (image : Bytes) (s : State), s.inv = true → s.bootHalt = true → s.rdB ModuleTerminals.J_SVC_FITTED = true →
    ∃ u, exec (.recoveryLoader t image) s = .next u ∧
      (s.imageCheck 1 (padTo 256 image) ≠ 0 → s.imageCheck 1 (padTo 256 image) ≠ 11 → u.out = .service (s.imageCheck 1 (padTo 256 image)) :: s.out) ∧
      (s.imageCheck 1 (padTo 256 image) = 0 → bodyPasses (padTo 256 image) (image.drop 256) = true → u.boot.cause = 8))

/-- GET_OBJ of a present object, within its size and its epoch, answers the bytes of the range at one instant. Writes against
which no check finds anything are answered ST_OK at once, or, where they touch a stored object, journaled until their
record is programmed: a PUT_OBJ outside a transaction, with a presence token for the integrator profile, and a transaction
at its COMMIT_TXN, which ends it. A PUT_OBJ that its transaction takes is answered ST_OK and joins it. An upload that has
ended shows its records and is active no more. The rows that write ENABLE, CHANNEL_EN, PORT_EN, the trust list and, with
a token, the integrator profile are such stored writes. The oldest stored write completes first; where it is one of
AUX_RETURN_QUAL alone, that value then reads back and stands in the store. -/
def Obligations.WritesAreAcceptedOrStored : Prop :=
  (∀ (t : Nat) (r : Req) (p : Bytes) (d : ObjDesc) (s : State) (x : Sess), s.inv = true → Served r 1 s x → p.length = 12 → find (field p 0 2) = some d →
    firstRef ((s.admitted t r 1 x).prefixChecks d (field p 2 2) (field p 8 4)) = none → (d.epochBound = true ∨ field p 8 4 = 0) →
    d.rangeOk (field p 4 2) (if field p 6 2 = 0 then d.size - field p 4 2 else field p 6 2) = true →
    ∃ u v, exec (.getObj t r p) s = .next u ∧ v = (s.admitted t r 1 x).freshen (field p 0 2) (field p 2 2) ∧
      Responds u r 1 stOk (toLE 2 (field p 0 2) ++ toLE 2 (field p 2 2) ++ toLE 2 (field p 4 2)
        ++ toLE 2 (if field p 6 2 = 0 then d.size - field p 4 2 else field p 6 2) ++ toLE 4 (field p 8 4) ++
        timeBytes (v.readTime d (field p 2 2)) ++ [0, 0] ++
        slice (v.readBytes d (field p 2 2)) (field p 4 2) (if field p 6 2 = 0 then d.size - field p 4 2 else field p 6 2))) ∧
  (∀ (t : Nat) (r : Req) (p : Bytes) (s : State) (x : Sess), s.inv = true → Served r 2 s x → putLenOk p = true → (field p 0 2 = 0x0B02 → (s.at t).tokenOk x.num false = true) →
    (Accepted r s x t p → PlainWrite [writeOf p] →
      ∃ u, exec (.putObj t r p) s = .next u ∧
        if (writeOf p).stored then u.mbx.journal.length = s.mbx.journal.length + 1 else Responds u r 2 stOk []) ∧
    ∀ q, x.txn = some q → q.writes.length < 64 → sumL (q.writes.map fun v => v.data.length) + (writeOf p).data.length ≤ 16384 →
      ((s.admitted t r 2 x).expected.runWrites q.writes).1.writeRef (writeOf p) = none →
      ∃ u, exec (.putObj t r p) s = .next u ∧ Responds u r 2 stOk [] ∧
        ((u.sess? x.num).bind (·.txn)).map (·.writes) = some (q.writes ++ [writeOf p])) ∧
  (∀ (t : Nat) (r : Req) (q : Txn) (s : State) (x : Sess), s.inv = true → Served r 2 s x → x.txn = some q → q.stale = [] → PlainWrite q.writes →
    ((s.admitted t r 4 x).modSess x.num fun y => { y with txn := none }).commitRef q.writes = none →
    ∃ u, exec (.commitTxn t r []) s = .next u ∧ (u.sess? x.num).bind (·.txn) = none ∧
      if q.writes.any Write.stored then u.mbx.journal.length = s.mbx.journal.length + 1 else Responds u r 4 stOk []) ∧
  (∀ (t n : Nat) (q : Stream) (s : State), s.inv = true → s.ended 9 = some (n, q) → s.running = true →
    ∃ u, exec (.configUpload t) s = .next u ∧ u.ended 9 = none ∧ u.rdB ConfigFormat.UPLOAD_ACTIVE = false ∧
      u.rd ConfigFormat.UPLOAD_RECORDS = (uploadRecords (q.body.length + 1) q.body).1.length % 2 ^ ConfigFormat.UPLOAD_RECORDS.width) ∧
  (∀ (t v : Nat) (j : Journal) (js : List Journal) (s : State), s.inv = true → s.mbx.journal = j :: js → s.mailboxUp = true →
    ∃ u, exec (.storedWriteComplete t) s = .next u ∧ u.mbx.journal = js ∧
      (j.rid.cmd = 2 → v ≤ 300 → j.writes = [writeOf (putField PowerConfig.AUX_RETURN_QUAL 0 v)] → u.rd PowerConfig.AUX_RETURN_QUAL = v ∧
        u.nv.store.rd PowerConfig.AUX_RETURN_QUAL 0 = v)) ∧
  (∀ (t ch : Nat) (on : Bool) (r : Req) (s : State) (x : Sess), s.inv = true → Served r 2 s x → Accepted r s x t (putField ChannelConfig.ENABLE ch (b2n on)) →
    ∃ u, exec (.channelEnable t r ch on) s = .next u ∧ u.mbx.journal.length = s.mbx.journal.length + 1) ∧
  (∀ (t ch : Nat) (on : Bool) (r : Req) (s : State) (x : Sess), s.inv = true → Served r 2 s x → Accepted r s x t (putField CanChannel.CHANNEL_EN ch (b2n on)) →
    ∃ u, exec (.channelEn t r ch on) s = .next u ∧ u.mbx.journal.length = s.mbx.journal.length + 1) ∧
  (∀ (t : Nat) (on : Bool) (r : Req) (s : State) (x : Sess), s.inv = true → Served r 2 s x → Accepted r s x t (putField I2cConfig.PORT_EN 0 (b2n on)) →
    ∃ u, exec (.portEn t r on) s = .next u ∧ u.mbx.journal.length = s.mbx.journal.length + 1) ∧
  (∀ (t entry : Nat) (data : Bytes) (r : Req) (s : State) (x : Sess), s.inv = true → Served r 2 s x → Accepted r s x t (trustPut entry data) →
    ∃ u, exec (.trustList t r entry data) s = .next u ∧ u.mbx.journal.length = s.mbx.journal.length + 1) ∧
  (∀ (t : Nat) (data : Bytes) (r : Req) (s : State) (x : Sess), s.inv = true → Served r 2 s x → (s.at t).tokenOk x.num false = true →
    Accepted r s x t (profilePut data) →
    ∃ u, exec (.integratorProfile t r data) s = .next u ∧ u.mbx.journal.length = s.mbx.journal.length + 1 ∧
      u.rd PresenceStatus.TOKEN_STATE = 2)

/-- Each row, with no check against it: CLOSE_REQUEST is journaled as a write of a stored object, and once that write is the
oldest to be completed, on a string that does not lap and has no closing under way, it names the lap that closes the ring.
START_REQUEST queues the restart of an eligible node and waits for it. The others are answered ST_OK: TAKE_OVER marks the
channel to take over; PIN_REQUEST pins a window around now where pinning is enabled and nothing is pinned, RELEASE_PINS
releases every pin; a write of 1 to CAPTURE_VALID releases those captures; RECOVER begins recovery; TX_REQUEST takes the
object's data while its channel takes part in its bus; ACK_COUNT clears NEW_DATA and MSG_LOST; ACK_EPOCH commits the
export; ADVANCE_FUSES raises the fuses to the running image's index. -/
def Obligations.WritesOfOneActAtOnce : Prop :=
  (∀ (t str : Nat) (r : Req) (s : State) (x : Sess), s.inv = true → Served r 2 s x → str ≤ 7 →
    Accepted r s x t (putField RingConfig.CLOSE_REQUEST str 1) →
    ∃ u j, exec (.closeRequest t r str) s = .next u ∧ u.mbx.journal = s.mbx.journal ++ [j] ∧
      j.writes = [writeOf (putField RingConfig.CLOSE_REQUEST str 1)] ∧ j.rid = ⟨r.conn, x.num, 2, r.seq, x.next⟩) ∧
  (∀ (t str : Nat) (j : Journal) (js : List Journal) (s : State), s.inv = true → s.hasStr str = true → str ≤ 7 → s.mailboxUp = true →
    s.mbx.journal = j :: js → j.rid.cmd = 2 → j.writes = [writeOf (putField RingConfig.CLOSE_REQUEST str 1)] →
    s.rd LapStatus.LAP_STATE str ≠ 1 → (s.ring str).closeLap = none →
    ∃ u, exec (.storedWriteComplete t) s = .next u ∧ (u.ring str).closeLap = some (nextSeq (nextSeq (s.laps str).seq))) ∧
  (∀ (t ch : Nat) (r : Req) (s : State) (x : Sess), s.inv = true → Served r 2 s x → ch ≤ 31 →
    Accepted r s x t (putField ChannelConfig.TAKE_OVER ch 1) →
    ∃ u, exec (.takeOver t r ch) s = .next u ∧ Responds u r 2 stOk [] ∧ (u.chan ch).take = true) ∧
  (∀ (t : Nat) (r : Req) (s : State) (x : Sess), s.inv = true → Served r 2 s x → Accepted r s x t (putField HistoryConfig.PIN_REQUEST 0 1) →
    s.rd HistoryConfig.PIN_LIMIT ≠ 0 → s.hist.pins = [] →
    ∃ u, exec (.pinRequest t r) s = .next u ∧ Responds u r 2 stOk [] ∧
      u.hist.pins = [⟨(s.at t).base - secs (s.rd HistoryConfig.PIN_PRE), (s.at t).base + secs (s.rd HistoryConfig.PIN_POST)⟩]) ∧
  (∀ (t : Nat) (r : Req) (s : State) (x : Sess), s.inv = true → Served r 2 s x → Accepted r s x t (putField HistoryConfig.RELEASE_PINS 0 1) →
    ∃ u, exec (.releasePins t r) s = .next u ∧ Responds u r 2 stOk [] ∧ u.hist.pins = []) ∧
  (∀ (t ch mask : Nat) (r : Req) (s : State) (x : Sess), s.inv = true → Served r 2 s x → ch ≤ 31 → mask ≤ 7 →
    Accepted r s x t (putField TraceStatus.CAPTURE_VALID ch mask) →
    ∃ u, exec (.captureValid t r ch mask) s = .next u ∧ Responds u r 2 stOk [] ∧
      ∀ k < 3, bitOf mask k = true → (u.trace ch).frozen.all (fun c => decide (c.slot ≠ k + 1)) = true) ∧
  (∀ (t ch : Nat) (r : Req) (s : State) (x : Sess), s.inv = true → Served r 2 s x → Accepted r s x t (putField CanChannel.RECOVER ch 1) →
    ∃ u, exec (.recover t r ch) s = .next u ∧ Responds u r 2 stOk [] ∧ u.rd CanChannel.CHANNEL_STATE ch = canRecovering) ∧
  (∀ (t obj : Nat) (data : Bytes) (r : Req) (s : State) (x : Sess), s.inv = true → Served r 2 s x → obj ≤ 383 → s.canUp = true →
    (s.bus (obj / 128)).leaving = false → Accepted r s x t (txPut obj data) →
    ∃ u, exec (.txRequest t r obj data) s = .next u ∧ Responds u r 2 stOk [] ∧ u.rdB CanObject.TX_PENDING obj = true ∧
      ((u.bus (obj / 128)).pend.any (fun y => y.1 == obj) || (u.bus (obj / 128)).busy.any (fun y => y.1 == obj)) = true) ∧
  (∀ (t obj count : Nat) (r : Req) (s : State) (x : Sess), s.inv = true → Served r 2 s x → Accepted r s x t (putField CanObject.ACK_COUNT obj count) →
    ∃ u, exec (.ackCount t r obj count) s = .next u ∧ Responds u r 2 stOk [] ∧ u.rdB CanObject.NEW_DATA obj = false ∧
      u.rdB CanObject.MSG_LOST obj = false) ∧
  (∀ (t epoch : Nat) (r : Req) (s : State) (x : Sess), s.inv = true → Served r 2 s x → Accepted r s x t (putField LedgerStatus.ACK_EPOCH 0 epoch) →
    ∃ u, exec (.ackEpoch t r epoch) s = .next u ∧ Responds u r 2 stOk [] ∧ u.rd LedgerStatus.LEDGER_EPOCH = s.rd LedgerStatus.EXPORT_EPOCH ∧
      u.rd LedgerStatus.EXPORT_STATE = 3) ∧
  (∀ (t : Nat) (r : Req) (s : State) (x : Sess), s.inv = true → Served r 2 s x → Accepted r s x t (putField UpdateStatus.ADVANCE_FUSES 0 1) →
    ∃ u, exec (.advanceFuses t r) s = .next u ∧ Responds u r 2 stOk [] ∧ u.nv.fuseIndex = max s.nv.fuseIndex (field s.runHdr 0x14 4)) ∧
  (∀ (t str k : Nat) (r : Req) (s : State) (x : Sess), s.inv = true → Served r 2 s x → str ≤ 7 → k ∈ s.nodeList str →
    (s.at t).copyOk str k = true → Accepted r s x t (putField NodeUpdate.START_REQUEST str 1) →
    ∃ u, exec (.startRequest t r str) s = .next u ∧
      (u.ring str).cmds.any (fun c => decide (c.owner = .restart) && decide (c.node = k) && decide (c.code = 0x65)) = true ∧
      (⟨⟨r.conn, x.num, 2, r.seq, x.next⟩, [(str, 1)]⟩ : NodeReq) ∈ u.mbx.nodeReqs)

/-- R502 and R503, whole. No transaction for SLEEP_AFTER puts the port to sleep, and nothing less does. Asleep, or after any
presence event, of the button (a hold begun after the start, R78) or of J-SVC, whether asleep or not, the port does not
acknowledge the address byte of the first transaction, of whatever row, counts it in WAKE_NACKS, and is awake 200 us
after it; within those 200 us an address byte is not acknowledged and not counted there; after them it is acknowledged. -/
def Obligations.PortSleepsAndWakes : Prop :=
  (∀ (t : Nat) (s : State), s.portServes = true → s.i2c.recovering = 0 →
    (max s.i2c.lastTrans s.i2c.awakeAt + secs (s.rd I2cConfig.SLEEP_AFTER) ≤ max s.now t →
      ∃ u, exec (.i2cSleep t) s = .next u ∧ u.i2c.asleep = true) ∧
    (max s.now t < s.i2c.lastTrans + secs (s.rd I2cConfig.SLEEP_AFTER) → exec (.i2cSleep t) s = .next (s.at t))) ∧
  (∀ (t since : Nat) (s : State), s.inv = true → s.presenceOk = true → since + secs 2 ≤ max s.now t →
    (s.panel.fired = true → ∃ a, s.panel.releasedAt = some a ∧ a + secs 1 ≤ since) → (s.at t).heldAtStart since = false →
    ∃ u, exec (.presenceEvent t since) s = .next u ∧ Counts PresenceStatus.PRESENCE_EVENTS 0 s u ∧ u.i2c.refuseNext = true) ∧
  (∀ (t since : Nat) (s : State), s.inv = true → s.presenceOk = true → s.power.powered = true →
    s.rdB ModuleTerminals.J_SVC_FITTED = false → since + msec 50 ≤ max s.now t →
    ∃ u, exec (.jSvcFitted t since) s = .next u ∧ Counts PresenceStatus.PRESENCE_EVENTS 0 s u ∧ u.i2c.refuseNext = true) ∧
  (∀ (t addr : Nat) (c : Instr) (s : State), s.inv = true → PortAddressed s addr → Transaction t addr c →
    ((s.i2c.asleep = true ∨ s.i2c.refuseNext = true) → s.i2c.awakeAt ≤ max s.now t →
      ∃ u, exec c s = .next u ∧ u.out = .i2c 3 addr [] :: s.out ∧ Counts I2cStatus.WAKE_NACKS 0 s u ∧
        u.i2c.asleep = false ∧ u.i2c.refuseNext = false ∧ u.i2c.awakeAt = max s.now t + usec 200) ∧
    (max s.now t < s.i2c.awakeAt →
      ∃ u, exec c s = .next u ∧ u.out = .i2c 3 addr [] :: s.out ∧ u.rd I2cStatus.WAKE_NACKS = s.rd I2cStatus.WAKE_NACKS ∧
        u.i2c.awakeAt = s.i2c.awakeAt) ∧
    (PortReady s t →
      ∃ u new, exec c s = .next u ∧ u.out = new ++ .i2c 4 addr [] :: s.out ∧
        u.rd I2cStatus.WAKE_NACKS = s.rd I2cStatus.WAKE_NACKS))

/-- R506, whole. With the ATTENTION window selected and a record pending, a read of 8 bytes or more that ends in STOP clears
the record, whatever attempt is under way: no record is pending, ATTN_PENDING reads 0, no retry waits, and no later
instant brings an attention write of it. A read of fewer bytes or without STOP, an aborted transfer and one that times
out leave the record, its tries and its retry as they were. A capture that is not ready (R501) is no read of the window. -/
def Obligations.AttentionReadClears : Prop :=
  ∀ (t addr : Nat) (s : State), s.inv = true → PortAddressed s addr → PortReady s t → s.rd I2cStatus.WINDOW = 0x20 →
    s.i2c.recPending = true →
    (∀ (n : Nat) (stop : Bool) (c : Instr),
      (c = .i2cRead t addr n stop ∨ (c = .stretchLimits t addr n stop ∧ s.rdB DieStatus.PACE_LOW 0 = false)) →
      ((8 ≤ n ∧ stop = true) →
        ∃ u, exec c s = .next u ∧ u.i2c.recPending = false ∧ u.rdB I2cStatus.ATTN_PENDING = false ∧ u.i2c.retryAt = none ∧
          ∀ t' outcome, exec (.attentionWrite t' outcome) u = .next (u.at t') ∧ exec (.attnRetry t' outcome) u = .next (u.at t')) ∧
      (¬ (8 ≤ n ∧ stop = true) →
        ∃ u, exec c s = .next u ∧ u.i2c.recPending = true ∧ u.rdB I2cStatus.ATTN_PENDING = s.rdB I2cStatus.ATTN_PENDING ∧
          u.i2c.recSeq = s.i2c.recSeq ∧ u.i2c.recCause = s.i2c.recCause ∧ u.i2c.tries = s.i2c.tries ∧
          u.i2c.retryAt = s.i2c.retryAt)) ∧
    (∀ (c : Instr), (c = .abortsRstart t addr ∨ c = .i2cIdleRelease t addr) →
      ∃ u, exec c s = .next u ∧ u.i2c.recPending = true ∧ u.rdB I2cStatus.ATTN_PENDING = s.rdB I2cStatus.ATTN_PENDING ∧
        u.i2c.recSeq = s.i2c.recSeq ∧ u.i2c.recCause = s.i2c.recCause ∧ u.i2c.tries = s.i2c.tries ∧
        u.i2c.retryAt = s.i2c.retryAt)

/-- R476, whole. On an edge that EDGE and an open window ask for: within 100 ns of the last captured edge it is not captured
and counts in EDGES_MISSED alone; else LAST_CAPTURE_TIME takes the time base of this instant and LAST_EDGE the edge, and
it counts in CAPTURES. While fewer than RECORD_LIMIT captures of the input have been recorded in this second of the time
base, it is recorded as event 0x0F08 with that TIME, the input, the edge and the window, and takes one of the second's
records; else it counts in CAPTURES_UNRECORDED and the history stays as it was. -/
def Obligations.CapturesAreLimited : Prop :=
  ∀ (t input edge m : Nat) (s : State), s.inv = true → s.running = true → input ≤ 1 → (edge = 1 ∨ edge = 2) →
    s.winOpen input (s.at t).base = some m → bitOf (s.rd CaptureInput.EDGE input) (edge - 1) = true →
    ((∃ l, (s.capIn input).last = some l ∧ max s.now t < l + 100) →
      ∃ u, exec (.capture t input edge) s = .next u ∧ Counts CaptureInput.EDGES_MISSED input s u ∧
        u.rd CaptureInput.CAPTURES input = s.rd CaptureInput.CAPTURES input ∧
        u.rd CaptureInput.LAST_EDGE input = s.rd CaptureInput.LAST_EDGE input ∧
        u.rd CaptureInput.LAST_CAPTURE_TIME input = s.rd CaptureInput.LAST_CAPTURE_TIME input ∧
        u.capIn input = s.capIn input ∧ u.hist = s.hist) ∧
    ((∀ l, (s.capIn input).last = some l → l + 100 ≤ max s.now t) →
      ∀ sec cnt, sec = (s.at t).base / 1000000000 →
        cnt = (if sec = (s.capIn input).secIdx then (s.capIn input).secCnt else 0) →
        ∃ u, exec (.capture t input edge) s = .next u ∧
          u.rd CaptureInput.LAST_CAPTURE_TIME input = timeVal (s.at t).base % 2 ^ 80 ∧ u.rd CaptureInput.LAST_EDGE input = edge ∧
          Counts CaptureInput.CAPTURES input s u ∧
          u.rd CaptureInput.EDGES_MISSED input = s.rd CaptureInput.EDGES_MISSED input ∧
          (cnt < s.rd CaptureInput.RECORD_LIMIT input →
            u.capIn input = ⟨some (max s.now t), sec, cnt + 1⟩ ∧
            u.rd CaptureInput.CAPTURES_UNRECORDED input = s.rd CaptureInput.CAPTURES_UNRECORDED input ∧
            (s.hist.run = true → Recorded u 0x0F08 ([input, edge] ++ toLE 4 m) ∧ u.base = (s.at t).base)) ∧
          (s.rd CaptureInput.RECORD_LIMIT input ≤ cnt →
            u.capIn input = ⟨some (max s.now t), sec, cnt⟩ ∧ Counts CaptureInput.CAPTURES_UNRECORDED input s u ∧
            u.hist = s.hist))

/-- R524, whole. CONFIRM_CONFIG carries 4 bytes. With a FORMAT that is not FORMAT_RUNNING, or with nothing kept, it is refused
with ST_CONDITION 0x1207 and changes nothing else. Otherwise it answers ST_OK at once, the kept copy is erased, the
header of the inactive slot is erased, so that the slot reads EMPTY, where its image has another CONFIG_FORMAT and
stays where it has not, the active slot stays, and event 0x1206 is recorded: whatever image the inactive slot then holds has the
format of the configuration. -/
def Obligations.ConfirmConfigErasesTheOther : Prop :=
  ∀ (t : Nat) (r : Req) (p : Bytes) (s : State) (x : Sess), s.inv = true → Served r 3 s x →
    (p.length ≠ 4 → ∃ u, exec (.confirmConfig t r p) s = .next u ∧ Refused s u r 0x62 stLength []) ∧
    (p.length = 4 → s.security ≠ 3 → s.security ≠ 4 →
      (field p 0 2 ≠ s.rd ConfigFormat.FORMAT_RUNNING ∨ s.nv.keptFormat = 0 →
        ∃ u, exec (.confirmConfig t r p) s = .next u ∧ Refused s u r 0x62 stCondition (condDetail 0x1207)) ∧
      (field p 0 2 = s.rd ConfigFormat.FORMAT_RUNNING → s.nv.keptFormat ≠ 0 → s.inHoldup = false →
        ∀ k, k = 1 - s.nv.active →
        ∃ u, exec (.confirmConfig t r p) s = .next u ∧ Responds u r 0x62 stOk [] ∧
          u.nv.kept = [] ∧ u.nv.keptFormat = 0 ∧ u.rd ConfigFormat.FORMAT_KEPT = 0 ∧
          ((s.slot k).hdr.isSome = true → s.slotFormat k ≠ s.rd ConfigFormat.FORMAT_RUNNING →
            (u.slot k).hdr = none ∧
            (s.upd.write ≠ some k → (if k = 0 then u.rd UpdateStatus.SLOT_A_STATE else u.rd UpdateStatus.SLOT_B_STATE) = 0)) ∧
          (s.slotFormat k = s.rd ConfigFormat.FORMAT_RUNNING → u.slot k = s.slot k) ∧ u.slot (1 - k) = s.slot (1 - k) ∧
          ((u.slot k).hdr.isSome = true → u.slotFormat k = u.rd ConfigFormat.FORMAT_RUNNING) ∧ u.nv.format = s.nv.format ∧
          (s.hist.run = true → Recorded u 0x1206 (toLE 2 (field p 0 2)))))

/-- R105, whole. ENTER_TRANSPORT, where none is under way and the security state allows it, is accepted, the TRANSPORT flag
stored and the request held for its answer, where a valid presence token serves the session, every contactor and
precharge relay is open, no firmware activation or node copy is in progress, TRANSPORT_WAKE_V of some enabled string is
set and the module is not in HOLDUP. Without the token it is refused with ST_PRESENCE; with the token and any other of
these unmet, with ST_CONDITION; a refusal changes nothing else. -/
def Obligations.TransportIsGuarded : Prop :=
  ∀ (t : Nat) (r : Req) (s : State) (x : Sess), s.inv = true → Served r 3 s x → s.security ≠ 3 → s.security ≠ 4 →
    s.power.transRid = none → s.power.transOffAt = none →
    ((s.at t).tokenOk x.num false = true → s.allOpen → s.noUpdate → s.wakes → s.inHoldup = false →
      ∃ u, exec (.enterTransport t r []) s = .next u ∧ u.nv.transport = true ∧
        u.power.transRid = some ⟨r.conn, x.num, 0x74, r.seq, x.next⟩ ∧ u.sec.bound = x.num) ∧
    ((s.at t).tokenOk x.num false = false →
      ∃ u, exec (.enterTransport t r []) s = .next u ∧ Refused s u r 0x74 stPresence []) ∧
    ((s.at t).tokenOk x.num false = true → ¬ (s.allOpen ∧ s.noUpdate ∧ s.wakes ∧ s.inHoldup = false) →
      ∃ u d, exec (.enterTransport t r []) s = .next u ∧ Refused s u r 0x74 stCondition d)

/-- R396, whole. After every round of whichever readings, each fitted die's BREATHER_FRACTION, in THERMAL_STATUS and in
DIE_STATUS, follows its LEVEL and T_CONTROL of that round: with the throttle level set it is 8.0 % per K of T_CONTROL
above 105.00 degrees, to within a step of 0.1 %, at least 4.0 % and at most 80.0 %; at full throttle, LEVEL 3, it is
80.0 %; with the level clear it is 0. The fraction then in force enters the effective pace of a pace measurement,
PACE times one less the fraction to within a step of 0.1 %. -/
def Obligations.BreathersFollowTheRound : Prop :=
  (∀ (t : Nat) (x : Round) (s : State), s.inv = true → s.running = true → s.security ≠ 5 →
    s.thermal.lastRound ≠ some ((s.at t).base / 1000000000) →
    ∃ u, exec (.housekeepingRound t x) s = .next u ∧ ∀ d, s.hasDie d = true → ∀ (above : Int) (f : Nat),
      above = u.rdI ThermalStatus.T_CONTROL d - 10500 → f = u.rd ThermalStatus.BREATHER_FRACTION d →
      (u.rd ThermalStatus.LEVEL d = 2 →
        40 ≤ f ∧ f ≤ 800 ∧ (80 * above ≤ 4000 → f = 40) ∧ (80000 ≤ 80 * above → f = 800) ∧
        (4000 < 80 * above → 80 * above < 80000 → 80 * above - 100 < 100 * (f : Int) ∧ 100 * (f : Int) < 80 * above + 100)) ∧
      (u.rd ThermalStatus.LEVEL d = 3 → f = 800) ∧
      (u.rd ThermalStatus.LEVEL d < 2 → f = 0) ∧
      u.rd DieStatus.BREATHER_FRACTION d = f) ∧
  (∀ (t die pace : Nat) (s : State), s.inv = true → s.running = true → s.hasDie die = true → pace < 65536 →
    ∃ u, exec (.paceMeasurement t die pace) s = .next u ∧
      ∀ p e : Nat, p = pace * (1000 - s.rd DieStatus.BREATHER_FRACTION die) → e = u.rd DieStatus.EFFECTIVE_PACE die →
        p < 1000 * e + 1000 ∧ 1000 * e < p + 1000)

end Statements
end

