-- ==== Sys2Proof/Laws/Store.lean ====
section
/-! SUPPORT. The register store: its order, and what reading after writing gives. -/

namespace Sys2Proof.Machine

theorem Key.lt_iff (a b : Key) : Key.lt a b = true ↔
    a.obj < b.obj ∨ (a.obj = b.obj ∧ (a.inst < b.inst ∨ (a.inst = b.inst ∧ a.pos < b.pos))) := by
  simp [Key.lt]

theorem Key.lt_irrefl (a : Key) : Key.lt a a = false := by simp [Key.lt]

theorem Key.lt_trans {a b c : Key} (h : Key.lt a b = true) (k : Key.lt b c = true) : Key.lt a c = true := by
  rw [Key.lt_iff] at *; omega

theorem Key.lt_ne {a b : Key} (h : Key.lt a b = true) : a ≠ b := by
  rintro rfl; simp [Key.lt_irrefl] at h

theorem Key.lt_of_not {a b : Key} (h : a ≠ b) (k : ¬ Key.lt b a = true) : Key.lt a b = true := by
  rw [Key.lt_iff] at *
  have : a.obj ≠ b.obj ∨ a.inst ≠ b.inst ∨ a.pos ≠ b.pos := by
    by_contra hc; push Not at hc; exact h (by cases a; cases b; simp_all)
  omega

/-- The canonical order as a pairwise statement. -/
theorem Store.sorted_iff (s : Store) : s.sorted = true ↔ s.Pairwise fun a b => Key.lt a.1 b.1 = true := by
  induction s with
  | nil => simp [Store.sorted]
  | cons a s ih =>
    cases s with
    | nil => simp [Store.sorted]
    | cons b s =>
      obtain ⟨a, va⟩ := a
      obtain ⟨b, vb⟩ := b
      rw [Store.sorted, Bool.and_eq_true, ih]
      constructor
      · rintro ⟨h, p⟩
        refine List.pairwise_cons.2 ⟨?_, p⟩
        intro x hx
        rcases List.mem_cons.1 hx with rfl | hx
        · exact h
        · exact Key.lt_trans h ((List.pairwise_cons.1 p).1 x hx)
      · intro hp
        have hc := List.pairwise_cons.1 hp
        exact ⟨hc.1 (b, vb) (by simp), hc.2⟩

theorem Store.mem_ins {s : Store} {k : Key} {v : Nat} {x : Key × Nat} (h : x ∈ s.ins k v) : x = (k, v) ∨ x ∈ s := by
  induction s with
  | nil => simp [Store.ins] at h; simp [h]
  | cons a s ih =>
    obtain ⟨a, va⟩ := a
    simp only [Store.ins] at h
    split at h
    · rcases List.mem_cons.1 h with h | h <;> simp [h]
    · split at h
      · simpa using h
      · rcases List.mem_cons.1 h with h | h
        · simp [h]
        · rcases ih h with h | h <;> simp [h]

theorem Store.mem_del {s : Store} {k : Key} {x : Key × Nat} (h : x ∈ s.del k) : x ∈ s := by
  induction s with
  | nil => simp [Store.del] at h
  | cons a s ih =>
    obtain ⟨a, va⟩ := a
    simp only [Store.del] at h
    split at h
    · simp [h]
    · rcases List.mem_cons.1 h with h | h
      · simp [h]
      · simp [ih h]

theorem Store.ins_sorted {s : Store} (h : s.sorted = true) (k : Key) (v : Nat) : (s.ins k v).sorted = true := by
  rw [Store.sorted_iff] at *
  induction s with
  | nil => simp [Store.ins]
  | cons a s ih =>
    obtain ⟨a, va⟩ := a
    rw [List.pairwise_cons] at h
    simp only [Store.ins]
    split
    · next e => subst e; exact List.pairwise_cons.2 h
    · next e =>
      split
      · next l =>
        refine List.pairwise_cons.2 ⟨?_, List.pairwise_cons.2 h⟩
        intro x hx
        rcases List.mem_cons.1 hx with rfl | hx
        · exact l
        · exact Key.lt_trans l (h.1 x hx)
      · next l =>
        refine List.pairwise_cons.2 ⟨?_, ih h.2⟩
        intro x hx
        rcases Store.mem_ins hx with rfl | hx
        · exact Key.lt_of_not e l
        · exact h.1 x hx

theorem Store.del_sorted {s : Store} (h : s.sorted = true) (k : Key) : (s.del k).sorted = true := by
  rw [Store.sorted_iff] at *
  induction s with
  | nil => simp [Store.del]
  | cons a s ih =>
    obtain ⟨a, va⟩ := a
    rw [List.pairwise_cons] at h
    simp only [Store.del]
    split
    · exact h.2
    · exact List.pairwise_cons.2 ⟨fun x hx => h.1 x (Store.mem_del hx), ih h.2⟩

theorem Store.put_sorted {s : Store} (h : s.sorted = true) (k : Key) (r v : Nat) : (s.put k r v).sorted = true := by
  unfold Store.put
  split
  · exact Store.del_sorted h k
  · exact Store.ins_sorted h k v

theorem Store.wr_sorted {s : Store} (h : s.sorted = true) (f : Fld) (i v x : Nat) : (s.wr f i v x).sorted = true :=
  Store.put_sorted h _ _ _

theorem Store.filter_sorted {s : Store} (h : s.sorted = true) (p : Key × Nat → Bool) :
    Store.sorted (s.filter p) = true := by
  rw [Store.sorted_iff] at *
  exact h.filter p

/-- A fold keeps the order where every step does. -/
theorem Store.foldl_sorted {α : Type} (l : List α) (f : Store → α → Store)
    (hf : ∀ s a, Store.sorted s = true → (f s a).sorted = true) {s : Store} (h : s.sorted = true) :
    (l.foldl f s).sorted = true := by
  induction l generalizing s with
  | nil => exact h
  | cons a l ih => exact ih (hf s a h)

theorem Store.get?_ins (s : Store) (k : Key) (v : Nat) (j : Key) :
    (s.ins k v).get? j = if k = j then some v else s.get? j := by
  induction s with
  | nil => simp [Store.ins, Store.get?]
  | cons a s ih =>
    obtain ⟨a, va⟩ := a
    simp only [Store.ins]
    split
    · next e => subst e; by_cases h : a = j <;> simp [Store.get?, h]
    · next e =>
      split
      · simp [Store.get?]
      · simp only [Store.get?, ih]
        by_cases h : a = j
        · subst h; simp [Ne.symm e]
        · simp [h]

theorem Store.get?_none {s : Store} {k : Key} (h : ∀ x ∈ s, x.1 ≠ k) : s.get? k = none := by
  induction s with
  | nil => rfl
  | cons a s ih =>
    obtain ⟨a, va⟩ := a
    simp only [Store.get?]
    rw [if_neg (h (a, va) (by simp))]
    exact ih fun x hx => h x (by simp [hx])

theorem Store.get?_del {s : Store} (h : s.sorted = true) (k j : Key) :
    (s.del k).get? j = if k = j then none else s.get? j := by
  rw [Store.sorted_iff] at h
  induction s with
  | nil => simp [Store.del, Store.get?]
  | cons a s ih =>
    obtain ⟨a, va⟩ := a
    rw [List.pairwise_cons] at h
    simp only [Store.del]
    split
    · next e =>
      subst e
      by_cases hj : a = j
      · subst hj
        simp only [if_true]
        exact Store.get?_none fun x hx => (Key.lt_ne (h.1 x hx)).symm
      · simp [Store.get?, hj]
    · next e =>
      simp only [Store.get?, ih h.2]
      by_cases hj : a = j
      · subst hj; simp [Ne.symm e]
      · simp [hj]

/-- What a place reads as after another place was written, in a store in canonical order. -/
theorem Store.get?_put {s : Store} (h : s.sorted = true) (k : Key) (r v : Nat) (j : Key) :
    (s.put k r v).get? j = if k = j then (if v = r then none else some v) else s.get? j := by
  unfold Store.put
  split
  · next e => rw [Store.get?_del h]
  · next e => rw [Store.get?_ins]

/-- A field of an instance reads as last written. -/
theorem Store.rd_wr {s : Store} (h : s.sorted = true) (f : Fld) (i v x : Nat) :
    (s.wr f i v x).rd f i x = v % 2 ^ f.width := by
  unfold Store.rd Store.wr
  rw [Store.get?_put h]
  by_cases e : v % 2 ^ f.width = f.resetAt x <;> simp [e]

/-- Writing a field leaves every other place alone. -/
theorem Store.rd_wr_ne {s : Store} (h : s.sorted = true) (f g : Fld) (i j v x y : Nat) (e : f.key i x ≠ g.key j y) :
    (s.wr f i v x).rd g j y = s.rd g j y := by
  unfold Store.rd Store.wr
  rw [Store.get?_put h, if_neg e]

/-! ### Operations on whole stores -/

theorem Store.load_sorted {s : Store} (h : s.sorted = true) (f : Store) : (s.load f).sorted = true :=
  Store.foldl_sorted _ _ (fun _ _ k => Store.put_sorted k ..) h

theorem keepMeasured_sorted (old : Store) (ms ss : List Fld) : (keepMeasured old ms ss).sorted = true :=
  Store.foldl_sorted _ _ (fun _ _ k => Store.foldl_sorted _ _ (fun _ _ k => Store.wr_sorted k ..) k)
    (Store.foldl_sorted _ _ (fun _ _ k => Store.wr_sorted k ..) rfl)

theorem convertStore_sorted {s : Store} (h : s.sorted = true) (a b : Nat) : (convertStore a b s).sorted = true := by
  rw [Store.sorted_iff] at *
  unfold convertStore
  rw [List.pairwise_map]
  exact h

theorem Store.clearInst_sorted {s : Store} (h : s.sorted = true) (o i : Nat) : (s.clearInst o i).sorted = true :=
  Store.filter_sorted h _

theorem Store.copyInst_sorted {s : Store} (h : s.sorted = true) (f : Store) (o a b : Nat) : (f.copyInst s o a b).sorted = true :=
  Store.foldl_sorted _ _ (fun _ _ k => Store.ins_sorted k ..) h

theorem Store.puts_sorted {s : Store} (h : s.sorted = true) (cs : List CellW) :
    (cs.foldl (fun (a : Store) c => a.put c.key c.reset c.val) s).sorted = true :=
  Store.foldl_sorted _ _ (fun _ _ k => Store.put_sorted k ..) h

theorem Store.inss_sorted {s : Store} (h : s.sorted = true) (cs : List CellW) :
    (cs.foldl (fun (a : Store) c => a.ins c.key c.val) s).sorted = true :=
  Store.foldl_sorted _ _ (fun _ _ k => Store.ins_sorted k ..) h

theorem Store.resets_sorted {s : Store} (h : s.sorted = true) (old : Store) :
    (old.foldl (fun (a : Store) c => a.put c.1 (resetOf c.1) (resetOf c.1)) s).sorted = true :=
  Store.foldl_sorted _ _ (fun _ _ k => Store.put_sorted k ..) h

theorem Store.get?_del_ne (s : Store) (k j : Key) (e : j ≠ k) : (s.del k).get? j = s.get? j := by
  induction s with
  | nil => rfl
  | cons x s ih =>
    obtain ⟨k', v⟩ := x
    unfold Store.del
    by_cases c : k' = k
    · rw [if_pos c]
      unfold Store.get?
      rw [if_neg (by rw [c]; exact fun d => e d.symm)]
      cases s <;> rfl
    · rw [if_neg c]
      unfold Store.get?
      split
      · rfl
      · exact ih

theorem Store.get?_put_ne (s : Store) (k : Key) (r v : Nat) (j : Key) (e : j ≠ k) : (s.put k r v).get? j = s.get? j := by
  unfold Store.put
  split
  · exact Store.get?_del_ne s k j e
  · rw [Store.get?_ins, if_neg (fun c => e c.symm)]

theorem Store.get?_set (s : Store) (k : Key) (o : Option Nat) (j : Key) :
    (s.set k o).get? j = if k = j then o else s.get? j := by
  cases o with
  | some v => exact Store.get?_ins s k v j
  | none =>
    simp only [Store.set]
    induction s with
    | nil => simp [Store.get?]
    | cons a s ih =>
      obtain ⟨a, va⟩ := a
      by_cases e : a = k
      · subst e; simp only [List.filter_cons, ne_eq, not_true_eq_false, decide_false, Bool.false_eq_true, if_false, ih,
          Store.get?]; split <;> rfl
      · simp only [List.filter_cons, ne_eq, e, not_false_eq_true, decide_true, if_true, Store.get?, ih]
        by_cases h : a = j
        · subst h; simp [Ne.symm e]
        · simp [h]

theorem Store.set_sorted {s : Store} (h : s.sorted = true) (k : Key) (o : Option Nat) : (s.set k o).sorted = true := by
  cases o with
  | some v => exact Store.ins_sorted h k v
  | none => exact Store.filter_sorted h _

/-- Places taken back from a store read as they do there, the others as they stand. -/
theorem Store.get?_sets (l : List CellW) (o s : Store) (j : Key) :
    (l.foldl (fun a c => a.set c.key (o.get? c.key)) s).get? j = if ∃ c ∈ l, c.key = j then o.get? j else s.get? j := by
  induction l generalizing s with
  | nil => simp
  | cons c l ih =>
    rw [List.foldl_cons, ih, Store.get?_set]
    by_cases e : c.key = j
    · simp [e]
    · simp [e]

theorem Store.sets_sorted {s : Store} (h : s.sorted = true) (l : List CellW) (o : Store) :
    (l.foldl (fun a c => a.set c.key (o.get? c.key)) s).sorted = true :=
  Store.foldl_sorted _ _ (fun _ _ k => Store.set_sorted k _ _) h

/-- Places that no cell names keep their values. -/
theorem Store.get?_puts_ne (l : List CellW) (s : Store) (j : Key) (h : ¬ ∃ c ∈ l, c.key = j) :
    (l.foldl (fun a c => a.put c.key c.reset c.val) s).get? j = s.get? j := by
  induction l generalizing s with
  | nil => rfl
  | cons c l ih =>
    rw [List.foldl_cons, ih _ fun ⟨d, hd, e⟩ => h ⟨d, List.mem_cons_of_mem _ hd, e⟩]
    exact Store.get?_put_ne _ _ _ _ _ fun e => h ⟨c, List.mem_cons_self .., e.symm⟩

end Sys2Proof.Machine
end

