-- ==== Sys2Proof/Laws/Frame.lean ====
section
/-! SUPPORT. What an operation may change, as one number: bit 0 to 27 a part of the state, bit 32 and up a register, so that the
frame of a composed operation follows from those of its parts by arithmetic on closed numbers. -/

set_option linter.all false

namespace Sys2Proof.Machine
open Obj

/-- The registers that commands write, by object, place and spacing of copies, each with its bit. -/
inductive Tree where
  | leaf
  | node (l : Tree) (code bit : Nat) (r : Tree)

/-- The entries of a tree. -/
def Tree.entries : Tree → List (Nat × Nat)
  | .leaf => []
  | .node l c b r => l.entries ++ (c, b) :: r.entries

/-- The bit of a code in a tree, 0 where it has none. -/
def Tree.find (c : Nat) : Tree → Nat
  | .leaf => 0
  | .node l k b r => bif Nat.ble k c then (bif Nat.beq k c then b else r.find c) else l.find c

theorem Tree.find_mem (c : Nat) (t : Tree) (h : t.find c ≠ 0) : (c, t.find c) ∈ t.entries := by
  induction t with
  | leaf => exact absurd rfl h
  | node l k b r hl hr =>
    unfold Tree.find at h ⊢
    unfold Tree.entries
    cases e1 : Nat.ble k c with
    | false =>
      rw [e1] at h
      exact List.mem_append_left _ (hl h)
    | true =>
      rw [e1] at h
      cases e2 : Nat.beq k c with
      | false =>
        rw [e2] at h
        exact List.mem_append_right _ (List.mem_cons_of_mem _ (hr h))
      | true =>
        rw [Nat.eq_of_beq_eq_true e2]
        exact List.mem_append_right _ (List.mem_cons_self ..)

/-- ModuleIdentity.VARIANT to DieStatus.SELF_TEST_FAIL. -/
def regs0 : Tree :=
  .node (.node (.node (.node (.node .leaf 0x10100000000 32 .leaf) 0x10100080000 33 .leaf) 0x10100100000 34 (.node (.node
    .leaf 0x10100180000 35 .leaf) 0x10100200000 36 .leaf)) 0x10100280000 37 (.node (.node (.node .leaf 0x10100300000 38
    .leaf) 0x10100400000 39 .leaf) 0x10100c00000 40 (.node (.node .leaf 0x10100d00000 41 .leaf) 0x10100d80000 42 .leaf)))
    0x10100e00000 43 (.node (.node (.node (.node .leaf 0x10101000000 44 .leaf) 0x10200000000 45 .leaf) 0x10200100000 46
    (.node (.node .leaf 0x10200300000 47 .leaf) 0x10200400000 48 .leaf)) 0x10200500000 49 (.node (.node (.node .leaf
    0x10200600000 50 .leaf) 0x10200700000 51 .leaf) 0x10200710000 52 (.node (.node .leaf 0x10200720000 747 .leaf) 0x10200730000 53 .leaf)))

/-- DieStatus.RATE_SHIFT to ModuleTerminals.SEAL_OPENED. -/
def regs1 : Tree :=
  .node (.node (.node (.node (.node .leaf 0x10200800000 55 .leaf) 0x10200900000 56 .leaf) 0x10200a00000 57 (.node (.node
    .leaf 0x10200c00000 58 .leaf) 0x10300000000 59 .leaf)) 0x10300100000 60 (.node (.node (.node .leaf 0x10300110000 61
    .leaf) 0x10300120000 62 .leaf) 0x10300180000 63 (.node .leaf 0x10300200000 64 .leaf))) 0x10300400000 65 (.node (.node
    (.node (.node .leaf 0x10300600000 66 .leaf) 0x10400000000 67 .leaf) 0x10400080000 68 (.node (.node .leaf 0x10400100000
    69 .leaf) 0x10400180000 70 .leaf)) 0x10400190000 71 (.node (.node (.node .leaf 0x10400200000 72 .leaf) 0x10400210000
    73 .leaf) 0x10400220000 74 (.node .leaf 0x10400230000 75 .leaf)))

/-- ModuleIdentity.VARIANT to ModuleTerminals.SEAL_OPENED. -/
def regs2 : Tree :=
  .node regs0 0x10200780000 54 regs1

/-- ModuleTerminals.J_SVC_FITTED to NetConfig.IPV4_ADDR. -/
def regs3 : Tree :=
  .node (.node (.node (.node (.node .leaf 0x10400250000 77 .leaf) 0x10400260000 78 .leaf) 0x10400280000 79 (.node (.node
    .leaf 0x10400290000 80 .leaf) 0x104002a0000 81 .leaf)) 0x10400300000 82 (.node (.node (.node .leaf 0x10400400000 83
    .leaf) 0x10400600000 84 .leaf) 0x10400800000 85 (.node .leaf 0x10500000000 86 .leaf))) 0x10500010000 87 (.node (.node
    (.node (.node .leaf 0x10500020000 88 .leaf) 0x10500030000 89 .leaf) 0x10500040000 90 (.node (.node .leaf 0x10500100000
    91 .leaf) 0x10500200000 92 .leaf)) 0x10500300000 93 (.node (.node (.node .leaf 0x10500400000 94 .leaf) 0x10500500000
    95 .leaf) 0x10500600000 96 (.node .leaf 0x10600000000 97 .leaf)))

/-- MailboxStatus.SESSIONS_OPEN to PowerStatus.POWER_STATE. -/
def regs4 : Tree :=
  .node (.node (.node (.node (.node .leaf 0x10700000000 99 .leaf) 0x10700080000 100 .leaf) 0x10700100000 101 (.node
    (.node .leaf 0x10700180000 102 .leaf) 0x10700190000 103 .leaf)) 0x10700200000 104 (.node (.node (.node .leaf
    0x10700400000 105 .leaf) 0x10700600000 106 .leaf) 0x10700800000 107 (.node .leaf 0x10700a00000 108 .leaf)))
    0x10800000000 109 (.node (.node (.node (.node .leaf 0x10800080000 110 .leaf) 0x10800100000 111 .leaf) 0x10800180000
    112 (.node (.node .leaf 0x10800190000 113 .leaf) 0x10800200000 114 .leaf)) 0x10800400000 115 (.node (.node (.node
    .leaf 0x10800500000 116 .leaf) 0x10800600000 117 .leaf) 0x10800800000 118 (.node .leaf 0x20100000000 119 .leaf)))

/-- ModuleTerminals.J_SVC_FITTED to PowerStatus.POWER_STATE. -/
def regs5 : Tree :=
  .node regs3 0x10600800000 98 regs4

/-- ModuleIdentity.VARIANT to PowerStatus.POWER_STATE. -/
def regs6 : Tree :=
  .node regs2 0x10400240000 76 regs5

/-- PowerStatus.AUX_QUALIFYING to BootStatus.START_PHASE. -/
def regs7 : Tree :=
  .node (.node (.node (.node (.node .leaf 0x20100100000 121 .leaf) 0x20100110000 122 .leaf) 0x20100120000 123 (.node
    (.node .leaf 0x20100130000 124 .leaf) 0x20100140000 125 .leaf)) 0x20100150000 126 (.node (.node (.node .leaf
    0x20100160000 127 .leaf) 0x20100170000 128 .leaf) 0x20100180000 129 (.node (.node .leaf 0x20100190000 130 .leaf)
    0x20100200000 131 .leaf))) 0x20100300000 132 (.node (.node (.node (.node .leaf 0x20100400000 133 .leaf) 0x20100500000
    134 .leaf) 0x20100600000 135 (.node (.node .leaf 0x20100800000 136 .leaf) 0x20100a00000 137 .leaf)) 0x20100c00000 138
    (.node (.node (.node .leaf 0x20100e00000 139 .leaf) 0x20300200000 140 (.node .leaf 0x20300280000 751 .leaf)) 0x30100000000 141 (.node .leaf
    0x30100080000 142 .leaf)))

/-- BootStatus.LEDGER_STATE to RingStatus.ENUM_ACTIVE. -/
def regs8 : Tree :=
  .node (.node (.node (.node (.node .leaf 0x30100180000 144 .leaf) 0x30100200000 145 .leaf) 0x30100210000 146 (.node
    (.node .leaf 0x30100220000 147 .leaf) 0x30100400000 148 .leaf)) 0x30100600000 149 (.node (.node (.node .leaf
    0x30100800000 150 (.node .leaf 0x30100d00000 748 .leaf)) 0x30101200000 151 .leaf) 0x30200000000 152 (.node .leaf 0x30201800000 153 .leaf)))
    0x30201a00000 154 (.node (.node (.node (.node .leaf 0x40200000000 155 .leaf) 0x40200080000 156 .leaf) 0x40200100000
    157 (.node (.node .leaf 0x40200180000 158 .leaf) 0x40200200000 159 .leaf)) 0x40200280000 160 (.node (.node (.node
    .leaf 0x40200290000 161 .leaf) 0x402002a0000 162 .leaf) 0x402002b0000 163 (.node .leaf 0x402002c0000 164 .leaf)))

/-- PowerStatus.AUX_QUALIFYING to RingStatus.ENUM_ACTIVE. -/
def regs9 : Tree :=
  .node regs7 0x30100100000 143 regs8

/-- RingStatus.TOPO_EPOCH to Topology.CMD_COUNT. -/
def regs10 : Tree :=
  .node (.node (.node (.node (.node .leaf 0x40200400000 166 .leaf) 0x40200600000 167 .leaf) 0x40200800000 168 (.node
    (.node .leaf 0x40200d00000 169 .leaf) 0x40201200000 170 .leaf)) 0x40201700000 171 (.node (.node (.node .leaf
    0x40201c00000 172 .leaf) 0x40300000000 173 .leaf) 0x40300200000 174 (.node .leaf 0x40300300000 175 .leaf)))
    0x40300400000 176 (.node (.node (.node (.node .leaf 0x40301000020 177 .leaf) 0x40301800020 178 .leaf) 0x40301900020
    179 (.node (.node .leaf 0x40301980020 180 .leaf) 0x40301a00020 181 .leaf)) 0x40301a10020 182 (.node (.node (.node
    .leaf 0x40301a20020 183 .leaf) 0x40301a30020 184 .leaf) 0x40301a40020 185 (.node .leaf 0x40301a80020 186 .leaf)))

/-- Topology.DELAY_B to LapStatus.STITCHED_SEEN. -/
def regs11 : Tree :=
  .node (.node (.node (.node (.node .leaf 0x40301e00020 188 .leaf) 0x40400000000 189 .leaf) 0x40400200000 190 (.node
    (.node .leaf 0x40400400000 191 .leaf) 0x40400600000 192 .leaf)) 0x40400800000 193 (.node (.node (.node .leaf
    0x40400a00000 194 .leaf) 0x40400c00000 195 .leaf) 0x40400e00000 196 (.node .leaf 0x40401000000 197 .leaf)))
    0x40401200000 198 (.node (.node (.node (.node .leaf 0x40401400000 199 .leaf) 0x40401600000 200 .leaf) 0x40401800000
    201 (.node (.node .leaf 0x40401a00000 202 .leaf) 0x40401c00000 203 .leaf)) 0x50200000000 204 (.node (.node (.node
    .leaf 0x50200080000 205 .leaf) 0x50200100000 206 .leaf) 0x50200180000 207 (.node .leaf 0x50200190000 208 .leaf)))

/-- RingStatus.TOPO_EPOCH to LapStatus.STITCHED_SEEN. -/
def regs12 : Tree :=
  .node regs10 0x40301c00020 187 regs11

/-- PowerStatus.AUX_QUALIFYING to LapStatus.STITCHED_SEEN. -/
def regs13 : Tree :=
  .node regs9 0x40200300000 165 regs12

/-- ModuleIdentity.VARIANT to LapStatus.STITCHED_SEEN. -/
def regs14 : Tree :=
  .node regs6 0x20100080000 120 regs13

/-- LapStatus.SPRINT_IN_FORCE to LapStatus.LAST_PARTIAL_TIME. -/
def regs15 : Tree :=
  .node (.node (.node (.node (.node .leaf 0x502001b0000 210 .leaf) 0x502001c0000 211 .leaf) 0x502001d0000 212 (.node
    (.node .leaf 0x502001e0000 213 .leaf) 0x50200200000 214 .leaf)) 0x50200400000 215 (.node (.node (.node .leaf
    0x50200600000 216 .leaf) 0x50200800000 217 .leaf) 0x50200a00000 218 (.node (.node .leaf 0x50200c00000 219 .leaf)
    0x50200e00000 220 .leaf))) 0x50201000000 221 (.node (.node (.node (.node .leaf 0x50201200000 222 .leaf) 0x50201400000
    223 .leaf) 0x50201600000 224 (.node (.node .leaf 0x50201800000 225 .leaf) 0x50201a00000 226 .leaf)) 0x50201c00000 227
    (.node (.node (.node .leaf 0x50201e00000 228 .leaf) 0x50202000000 229 .leaf) 0x50202500000 230 (.node .leaf
    0x50202a00000 231 .leaf)))

/-- NodeStatus.CHANNELS to NodeStatus.LAST_OUTCOME. -/
def regs16 : Tree :=
  .node (.node (.node (.node (.node .leaf 0x60200800000 233 .leaf) 0x60200880000 234 .leaf) 0x60200900000 235 (.node
    (.node .leaf 0x60200980000 236 .leaf) 0x60200a00000 237 .leaf)) 0x60200b00000 238 (.node (.node (.node .leaf
    0x60200c00000 239 .leaf) 0x60200d00000 240 .leaf) 0x60200e00000 241 (.node .leaf 0x60200e10000 242 .leaf)))
    0x60200e20000 243 (.node (.node (.node (.node .leaf 0x60200e30000 244 .leaf) 0x60200e40000 245 .leaf) 0x60200e50000
    246 (.node (.node .leaf 0x60200e60000 247 .leaf) 0x60200e70000 248 .leaf)) 0x60200e80000 249 (.node (.node (.node
    .leaf 0x60200e90000 250 .leaf) 0x60200ea0000 251 .leaf) 0x60200f00000 252 (.node .leaf 0x60200f80000 253 .leaf)))

/-- LapStatus.SPRINT_IN_FORCE to NodeStatus.LAST_OUTCOME. -/
def regs17 : Tree :=
  .node regs15 0x60200000000 232 regs16

/-- NodeStatus.CMP_UV_MASK to WireStatus.LAST_RESULT. -/
def regs18 : Tree :=
  .node (.node (.node (.node (.node .leaf 0x60201100000 255 .leaf) 0x60201200000 256 .leaf) 0x60201300000 257 (.node
    (.node .leaf 0x60201400000 258 .leaf) 0x60201500000 259 .leaf)) 0x60201600000 260 (.node (.node (.node .leaf
    0x60201800000 261 .leaf) 0x60201a00000 262 .leaf) 0x60201c00000 263 (.node .leaf 0x60201d00000 264 .leaf)))
    0x60201e00002 265 (.node (.node (.node (.node .leaf 0x60202e00002 266 .leaf) 0x60203e00000 267 .leaf) 0x60204000000
    268 (.node (.node .leaf 0x60400000000 269 .leaf) 0x60400200000 270 .leaf)) 0x60400280000 271 (.node (.node (.node
    .leaf 0x60400400008 272 .leaf) 0x60400480008 273 .leaf) 0x60400500008 274 (.node .leaf 0x60400580008 275 .leaf)))

/-- WireStatus.TEST_DEFERRED to HistoryStatus.EVENTS_RECORDED. -/
def regs19 : Tree :=
  .node (.node (.node (.node (.node .leaf 0x60400700008 277 .leaf) 0x60500000000 278 .leaf) 0x60500800000 279 (.node
    (.node .leaf 0x60500880000 280 .leaf) 0x60500900000 281 .leaf)) 0x60500a00000 282 (.node (.node (.node .leaf
    0x60501200000 283 .leaf) 0x60502200000 284 .leaf) 0x70200000000 285 (.node .leaf 0x70200400000 286 .leaf)))
    0x70200600000 287 (.node (.node (.node (.node .leaf 0x70200800000 288 .leaf) 0x70200c00000 289 .leaf) 0x70201000000
    290 (.node (.node .leaf 0x70201500000 291 .leaf) 0x70201510000 292 .leaf)) 0x70201580000 293 (.node (.node (.node
    (.node .leaf 0x70201600000 749 (.node .leaf 0x70201800000 750 .leaf)) 0x70201a00000 294 .leaf) 0x70201c00000 295 .leaf) 0x70201e00000 296 (.node .leaf 0x70202000000 297 .leaf)))

/-- NodeStatus.CMP_UV_MASK to HistoryStatus.EVENTS_RECORDED. -/
def regs20 : Tree :=
  .node regs18 0x60400600008 276 regs19

/-- LapStatus.SPRINT_IN_FORCE to HistoryStatus.EVENTS_RECORDED. -/
def regs21 : Tree :=
  .node regs17 0x60201000000 254 regs20

/-- TraceStatus.CAPTURE_PENDING to CoulombStatus.CHARGE_ZERO_TIME. -/
def regs22 : Tree :=
  .node (.node (.node (.node (.node .leaf 0x70400200000 299 .leaf) 0x70400210000 300 .leaf) 0x70400400000 301 (.node
    (.node .leaf 0x70400600000 302 .leaf) 0x70400800000 303 .leaf)) 0x70400c00010 304 (.node (.node (.node .leaf
    0x70401100010 305 .leaf) 0x70401200010 306 .leaf) 0x80200000000 307 (.node (.node .leaf 0x80200200000 308 .leaf)
    0x80200400000 309 .leaf))) 0x80200800000 310 (.node (.node (.node (.node .leaf 0x80200a00000 311 .leaf) 0x80200a10000
    312 .leaf) 0x80200a20000 313 (.node (.node .leaf 0x80200a30000 314 .leaf) 0x80200a40000 315 .leaf)) 0x80200a50000 316
    (.node (.node (.node .leaf 0x80200b00000 317 .leaf) 0x80200c00000 318 .leaf) 0x80200e00000 319 (.node .leaf
    0x80201000000 320 .leaf)))

/-- SequenceResults.REF_SETTLED to InsulationStatus.C_Y. -/
def regs23 : Tree :=
  .node (.node (.node (.node (.node .leaf 0x80400000000 322 .leaf) 0x80400010000 323 .leaf) 0x80400020000 324 (.node
    (.node .leaf 0x80400080000 325 .leaf) 0x80400100000 326 .leaf)) 0x80400200000 327 (.node (.node (.node .leaf
    0x80400400000 328 .leaf) 0x80400600000 329 .leaf) 0x80400800000 330 (.node .leaf 0x80400a0000c 331 .leaf)))
    0x80400c0000c 332 (.node (.node (.node (.node .leaf 0x80400e0000c 333 .leaf) 0x80400f0000c 334 .leaf) 0x80400f1000c
    335 (.node (.node .leaf 0x80500200000 336 .leaf) 0x80500800008 337 .leaf)) 0x80500a00008 338 (.node (.node (.node
    .leaf 0x80600000000 339 .leaf) 0x80600200000 340 .leaf) 0x80600400000 341 (.node .leaf 0x80600600000 342 .leaf)))

/-- TraceStatus.CAPTURE_PENDING to InsulationStatus.C_Y. -/
def regs24 : Tree :=
  .node regs22 0x80201500000 321 regs23

/-- InsulationStatus.VALID to FilterStatus.LAPS_UPDATED. -/
def regs25 : Tree :=
  .node (.node (.node (.node (.node .leaf 0x80600900000 344 .leaf) 0x80600910000 345 .leaf) 0x80600920000 346 (.node
    (.node .leaf 0x80600930000 347 .leaf) 0x80600940000 348 .leaf)) 0x80600950000 349 (.node (.node (.node .leaf
    0x80600960000 350 .leaf) 0x80600980000 351 .leaf) 0x80600a00000 352 (.node .leaf 0x80600c00000 353 .leaf)))
    0x80601200000 354 (.node (.node (.node (.node .leaf 0x90300300000 355 .leaf) 0x90300400018 356 .leaf) 0x90300500018
    357 (.node (.node .leaf 0x90400000000 358 .leaf) 0x90400080000 359 .leaf)) 0x90400100000 360 (.node (.node (.node
    .leaf 0x90400200000 361 .leaf) 0x90400280000 362 .leaf) 0x90400300000 363 (.node .leaf 0x90400400000 364 .leaf)))

/-- FilterStatus.POSITIONS_REPLAYED to StringState.CHARGE_LIMIT. -/
def regs26 : Tree :=
  .node (.node (.node (.node (.node .leaf 0x90400800000 366 .leaf) 0x90400a00000 367 .leaf) 0x90400c00000 368 (.node
    (.node .leaf 0x90400e00000 369 .leaf) 0x90401000000 370 .leaf)) 0x90401200000 371 (.node (.node (.node .leaf
    0x90401400000 372 .leaf) 0x90401600000 373 .leaf) 0x90401800000 374 (.node .leaf 0xa0100000000 375 .leaf)))
    0xa0100100000 376 (.node (.node (.node (.node .leaf 0xa0100200000 377 .leaf) 0xa0100300000 378 .leaf) 0xa0100400000
    379 (.node (.node .leaf 0xa0100500000 380 .leaf) 0xa0100510000 381 .leaf)) 0xa0100520000 382 (.node (.node (.node
    .leaf 0xa0100530000 383 .leaf) 0xa0100540000 384 .leaf) 0xa0100550000 385 (.node .leaf 0xa0100600000 386 .leaf)))

/-- InsulationStatus.VALID to StringState.CHARGE_LIMIT. -/
def regs27 : Tree :=
  .node regs25 0x90400600000 365 regs26

/-- TraceStatus.CAPTURE_PENDING to StringState.CHARGE_LIMIT. -/
def regs28 : Tree :=
  .node regs24 0x80600800000 343 regs27

/-- LapStatus.SPRINT_IN_FORCE to StringState.CHARGE_LIMIT. -/
def regs29 : Tree :=
  .node regs21 0x70400000000 298 regs28

/-- ModuleIdentity.VARIANT to StringState.CHARGE_LIMIT. -/
def regs30 : Tree :=
  .node regs14 0x502001a0000 209 regs29

/-- StringState.CELL_CHARGE_LIMIT to LedgerStatus.ENTRIES_UNUSED. -/
def regs31 : Tree :=
  .node (.node (.node (.node (.node .leaf 0xa0100a00000 388 .leaf) 0xa0100c00000 389 .leaf) 0xa0100e00000 390 (.node
    (.node .leaf 0xa0100f00000 391 .leaf) 0xa0101000000 392 .leaf)) 0xa0101100000 393 (.node (.node (.node .leaf
    0xa0101200000 394 .leaf) 0xa0101400000 395 .leaf) 0xa0101600000 396 (.node (.node .leaf 0xa0101800000 397 .leaf)
    0xa0101a00000 398 .leaf))) 0xa0101c00000 399 (.node (.node (.node (.node .leaf 0xa0101e00000 400 .leaf) 0xa0102000000
    401 .leaf) 0xa0102200000 402 (.node (.node .leaf 0xa0300000000 403 .leaf) 0xa0300200000 404 .leaf)) 0xa0300600000 405
    (.node (.node (.node .leaf 0xa0300680000 406 .leaf) 0xa0300700000 407 .leaf) 0xa0300800000 408 (.node .leaf
    0xa0300a00000 409 .leaf)))

/-- LedgerStatus.RESTORE_DISCARDED to ProtectionStatus.INHIBIT. -/
def regs32 : Tree :=
  .node (.node (.node (.node (.node .leaf 0xa0300e00000 411 .leaf) 0xa0301000000 412 .leaf) 0xa0301200000 413 (.node
    (.node .leaf 0xa0301800000 414 .leaf) 0xa0400000000 415 .leaf)) 0xa0400200000 416 (.node (.node (.node .leaf
    0xa0400280000 417 .leaf) 0xa0400400010 418 .leaf) 0xa0400500010 419 (.node .leaf 0xa0400580010 420 .leaf)))
    0xa0400600010 421 (.node (.node (.node (.node .leaf 0xa0400700010 422 .leaf) 0xa0400800010 423 .leaf) 0xa0400a00010
    424 (.node (.node .leaf 0xb0100000000 425 .leaf) 0xb0100080000 426 .leaf)) 0xb0100100000 427 (.node (.node (.node
    .leaf 0xb0100110000 428 .leaf) 0xb0100120000 429 .leaf) 0xb0100180000 430 (.node .leaf 0xb0100200000 431 .leaf)))

/-- StringState.CELL_CHARGE_LIMIT to ProtectionStatus.INHIBIT. -/
def regs33 : Tree :=
  .node regs31 0xa0300c00000 410 regs32

/-- ProtectionStatus.LATCH_TIME to TripLog.LATCHED. -/
def regs34 : Tree :=
  .node (.node (.node (.node (.node .leaf 0xb0100400000 433 .leaf) 0xb0100900000 434 .leaf) 0xb0100a00000 435 (.node
    (.node .leaf 0xb0100c00000 436 .leaf) 0xb0100e00000 437 .leaf)) 0xb0101000000 438 (.node (.node (.node .leaf
    0xb0101200000 439 .leaf) 0xb0101300000 440 .leaf) 0xb0101400000 441 (.node .leaf 0xb0101600000 442 .leaf)))
    0xb0400200000 443 (.node (.node (.node (.node .leaf 0xb0400400000 444 .leaf) 0xb0400600000 445 .leaf) 0xb0400800000
    446 (.node (.node .leaf 0xb0400c00000 447 .leaf) 0xb0400e00000 448 .leaf)) 0xb0401000000 449 (.node (.node (.node
    .leaf 0xb0401200000 450 .leaf) 0xb0500000000 451 .leaf) 0xb0500080000 452 (.node .leaf 0xb0500100000 453 .leaf)))

/-- TripLog.CLEARED to ThermalStatus.SENSOR_T. -/
def regs35 : Tree :=
  .node (.node (.node (.node (.node .leaf 0xb0500120000 455 .leaf) 0xb0500180000 456 .leaf) 0xb0500190000 457 (.node
    (.node .leaf 0xb05001a0000 458 .leaf) 0xb05001b0000 459 .leaf)) 0xb05001c0000 460 (.node (.node (.node .leaf
    0xb0500200000 461 .leaf) 0xb0500300000 462 .leaf) 0xb0500400000 463 (.node .leaf 0xb0500600000 464 .leaf)))
    0xb0500800000 465 (.node (.node (.node (.node .leaf 0xb0500a00000 466 .leaf) 0xb0501000000 467 .leaf) 0xb0501500000
    468 (.node (.node .leaf 0xb0501600000 469 .leaf) 0xc0100000000 470 .leaf)) 0xc0100080000 471 (.node (.node (.node
    .leaf 0xc0100100000 472 .leaf) 0xc0100140000 473 .leaf) 0xc0100150000 474 (.node .leaf 0xc0100200002 475 .leaf)))

/-- ProtectionStatus.LATCH_TIME to ThermalStatus.SENSOR_T. -/
def regs36 : Tree :=
  .node regs34 0xb0500110000 454 regs35

/-- StringState.CELL_CHARGE_LIMIT to ThermalStatus.SENSOR_T. -/
def regs37 : Tree :=
  .node regs33 0xb0100300000 432 regs36

/-- ThermalStatus.T_CONTROL to ChannelStatus.CHANNEL_STATE. -/
def regs38 : Tree :=
  .node (.node (.node (.node (.node .leaf 0xc0100a00000 477 .leaf) 0xc0100b00000 478 .leaf) 0xc0100c00000 479 (.node
    (.node .leaf 0xc0100e00000 480 .leaf) 0xc0101000000 481 .leaf)) 0xc0101200000 482 (.node (.node (.node .leaf
    0xc0101300000 483 .leaf) 0xc0101400000 484 .leaf) 0xc0101500000 485 (.node (.node .leaf 0xc0101600000 486 .leaf)
    0xc0101610000 487 .leaf))) 0xc0101800000 488 (.node (.node (.node (.node .leaf 0xc0200000000 489 .leaf) 0xc0200100000
    490 .leaf) 0xc0200200000 491 (.node (.node .leaf 0xc0200300000 492 .leaf) 0xc0300800000 493 .leaf)) 0xc0300880000 494
    (.node (.node (.node .leaf 0xc0300890000 495 .leaf) 0xc03008a0000 496 .leaf) 0xc0300a00000 497 (.node .leaf
    0xd0300000000 498 .leaf)))

/-- ChannelStatus.DEADLINE_MISS to ChannelStatus.WORST_LATENCY_1S. -/
def regs39 : Tree :=
  .node (.node (.node (.node (.node .leaf 0xd0300100000 500 .leaf) 0xd0300110000 501 .leaf) 0xd0300120000 502 (.node
    (.node .leaf 0xd0300130000 503 .leaf) 0xd0300140000 504 .leaf)) 0xd0300150000 505 (.node (.node (.node .leaf
    0xd0300180000 506 .leaf) 0xd0300200000 507 .leaf) 0xd0300400000 508 (.node .leaf 0xd0300600000 509 .leaf)))
    0xd0300800000 510 (.node (.node (.node (.node .leaf 0xd0300a00000 511 .leaf) 0xd0300c00000 512 .leaf) 0xd0300e00000
    513 (.node (.node .leaf 0xd0301000000 514 .leaf) 0xd0301200000 515 .leaf)) 0xd0301400000 516 (.node (.node (.node
    .leaf 0xd0301600000 517 .leaf) 0xd0301800000 518 .leaf) 0xd0301a00000 519 (.node .leaf 0xd0301b00000 520 .leaf)))

/-- ThermalStatus.T_CONTROL to ChannelStatus.WORST_LATENCY_1S. -/
def regs40 : Tree :=
  .node regs38 0xd0300080000 499 regs39

/-- ChannelStatus.LAST_SAFE_TIME to BlockStatus.ROLE_TIME. -/
def regs41 : Tree :=
  .node (.node (.node (.node (.node .leaf 0xd0302200000 522 .leaf) 0xe0200000000 523 .leaf) 0xe0200080000 524 (.node
    (.node .leaf 0xe0200100000 525 .leaf) 0xe0200180000 526 .leaf)) 0xe0200190000 527 (.node (.node (.node .leaf
    0xe02001a0000 528 .leaf) 0xe02001b0000 529 .leaf) 0xe02001c0000 530 (.node .leaf 0xe02001d0000 531 .leaf)))
    0xe0200200000 532 (.node (.node (.node (.node .leaf 0xe0200400000 533 .leaf) 0xe0200500000 534 .leaf) 0xe0200600000
    535 (.node (.node .leaf 0xe0200800000 536 .leaf) 0xe0200a00000 537 .leaf)) 0xe0200c00000 538 (.node (.node (.node
    .leaf 0xe0200e00000 539 .leaf) 0xe0201000000 540 .leaf) 0xe0201200000 541 (.node .leaf 0xe0201400000 542 .leaf)))

/-- StringDispatch.SETPOINT to CollectorStatus.REPORTS_LATE. -/
def regs42 : Tree :=
  .node (.node (.node (.node (.node .leaf 0xe0300000000 544 .leaf) 0xe0300200000 545 .leaf) 0xe0300400000 546 (.node
    (.node .leaf 0xe0300600000 547 .leaf) 0xe0300800000 548 .leaf)) 0xe0300900000 549 (.node (.node (.node .leaf
    0xe0300910000 550 .leaf) 0xe0300930000 551 .leaf) 0xe0300940000 552 (.node .leaf 0xe0300950000 553 .leaf)))
    0xe0300960000 554 (.node (.node (.node (.node .leaf 0xe0300b00000 555 .leaf) 0xe0300c00000 556 .leaf) 0xe0300e00000
    557 (.node (.node .leaf 0xe0301000000 558 .leaf) 0xe0400000000 559 .leaf)) 0xe0400080000 560 (.node (.node (.node
    .leaf 0xe0400100000 561 .leaf) 0xe0400200000 562 .leaf) 0xe0400400004 563 (.node .leaf 0xe0401200000 564 .leaf)))

/-- ChannelStatus.LAST_SAFE_TIME to CollectorStatus.REPORTS_LATE. -/
def regs43 : Tree :=
  .node regs41 0xe0201a00000 543 regs42

/-- ThermalStatus.T_CONTROL to CollectorStatus.REPORTS_LATE. -/
def regs44 : Tree :=
  .node regs40 0xd0301c00000 521 regs43

/-- StringState.CELL_CHARGE_LIMIT to CollectorStatus.REPORTS_LATE. -/
def regs45 : Tree :=
  .node regs37 0xc0100600002 476 regs44

/-- CollectorStatus.PEER_REJECTED to PtpDomain.DOMAIN_STATE. -/
def regs46 : Tree :=
  .node (.node (.node (.node (.node .leaf 0xe0401600000 566 .leaf) 0xe0401800000 567 .leaf) 0xf0100000000 568 (.node
    (.node .leaf 0xf0100080000 569 .leaf) 0xf0100100000 570 .leaf)) 0xf0100110000 571 (.node (.node (.node .leaf
    0xf0100120000 572 .leaf) 0xf0100130000 573 .leaf) 0xf0100140000 574 (.node (.node .leaf 0xf0100150000 575 .leaf)
    0xf0100160000 576 .leaf))) 0xf0100200000 577 (.node (.node (.node (.node .leaf 0xf0100400000 578 .leaf) 0xf0100600000
    579 .leaf) 0xf0100800000 580 (.node (.node .leaf 0xf0100a00000 581 .leaf) 0xf0100c00000 582 .leaf)) 0xf0100e00000 583
    (.node (.node (.node .leaf 0xf0101000000 584 .leaf) 0xf0101600000 585 .leaf) 0xf0200100000 586 (.node .leaf
    0xf0200a00000 587 .leaf)))

/-- PtpDomain.GM_PRIORITY1 to PacerOutput.LATE_SEEN. -/
def regs47 : Tree :=
  .node (.node (.node (.node (.node .leaf 0xf0200b00000 589 .leaf) 0xf0200b80000 590 .leaf) 0xf0200c00000 591 (.node
    (.node .leaf 0xf0201000000 592 .leaf) 0xf0201100000 593 .leaf)) 0xf0201200000 594 (.node (.node (.node .leaf
    0xf0201210000 595 .leaf) 0xf0201220000 596 .leaf) 0xf0201230000 597 (.node .leaf 0xf0201280000 598 .leaf)))
    0xf0201400000 599 (.node (.node (.node (.node .leaf 0xf0201600000 600 .leaf) 0xf0201800000 601 .leaf) 0xf0201a00000
    602 (.node (.node .leaf 0xf0201c00000 603 .leaf) 0xf0201e00000 604 .leaf)) 0xf0202000000 605 (.node (.node (.node
    .leaf 0xf0202200000 606 .leaf) 0xf0300e00000 607 .leaf) 0xf0300e80000 608 (.node .leaf 0xf0300e90000 609 .leaf)))

/-- CollectorStatus.PEER_REJECTED to PacerOutput.LATE_SEEN. -/
def regs48 : Tree :=
  .node regs46 0xf0200a80000 588 regs47

/-- PacerOutput.FIRED to CanChannel.NOMINAL_SJW. -/
def regs49 : Tree :=
  .node (.node (.node (.node (.node .leaf 0xf0301000000 611 .leaf) 0xf0301200000 612 .leaf) 0xf0301400000 613 (.node
    (.node .leaf 0xf0301600000 614 .leaf) 0xf0301800000 615 .leaf)) 0xf0301e00000 616 (.node (.node (.node .leaf
    0xf0302000000 617 .leaf) 0xf0302600000 618 .leaf) 0xf0401200000 619 (.node .leaf 0xf0401280000 620 .leaf)))
    0xf0401290000 621 (.node (.node (.node (.node .leaf 0xf0401400000 622 .leaf) 0xf0401600000 623 .leaf) 0xf0401800000
    624 (.node (.node .leaf 0xf0401a00000 625 .leaf) 0xf0401c00000 626 .leaf)) 0x1001000a0000 627 (.node (.node (.node
    .leaf 0x100100100000 628 .leaf) 0x100100200000 629 .leaf) 0x100100300000 630 (.node .leaf 0x100100380000 631 .leaf)))

/-- CanChannel.DATA_TSEG1 to CanObject.OWNER. -/
def regs50 : Tree :=
  .node (.node (.node (.node (.node .leaf 0x100100480000 633 .leaf) 0x100100500000 634 .leaf) 0x100100580000 635 (.node
    (.node .leaf 0x100100600000 636 .leaf) 0x100100680000 637 .leaf)) 0x100100700000 638 (.node (.node (.node .leaf
    0x100100800000 639 .leaf) 0x100100900000 640 .leaf) 0x100100910000 641 (.node .leaf 0x100100920000 642 .leaf)))
    0x100100980000 643 (.node (.node (.node (.node .leaf 0x100100a00000 644 .leaf) 0x100100b00000 645 .leaf)
    0x100100c00000 646 (.node (.node .leaf 0x100100e00000 647 .leaf) 0x100101000000 648 .leaf)) 0x100101200000 649 (.node
    (.node (.node .leaf 0x100101400000 650 .leaf) 0x100101600000 651 .leaf) 0x100101e00000 652 (.node .leaf 0x100200180000
    653 .leaf)))

/-- PacerOutput.FIRED to CanObject.OWNER. -/
def regs51 : Tree :=
  .node regs49 0x100100400000 632 regs50

/-- CollectorStatus.PEER_REJECTED to CanObject.OWNER. -/
def regs52 : Tree :=
  .node regs48 0xf0300ea0000 610 regs51

/-- CanObject.MSG_LOST to I2cStatus.REFUSED_WRITES. -/
def regs53 : Tree :=
  .node (.node (.node (.node (.node .leaf 0x100200410000 655 .leaf) 0x100200420000 656 .leaf) 0x100200430000 657 (.node
    (.node .leaf 0x100200480000 658 .leaf) 0x100200500000 659 .leaf)) 0x100200580000 660 (.node (.node (.node .leaf
    0x100200590000 661 .leaf) 0x100200600000 662 .leaf) 0x100200a00000 663 (.node (.node .leaf 0x100200c00000 664 .leaf)
    0x100200e00000 665 .leaf))) 0x100201400000 666 (.node (.node (.node (.node .leaf 0x110200000000 667 .leaf)
    0x110200080000 668 .leaf) 0x110200110000 669 (.node (.node .leaf 0x110200120000 670 .leaf) 0x110200130000 671 .leaf))
    0x110200140000 672 (.node (.node (.node .leaf 0x110200180000 673 .leaf) 0x110200200000 674 .leaf) 0x110200400000 675
    (.node .leaf 0x110200600000 676 .leaf)))

/-- I2cStatus.ABORTS_RSTART to UpdateStatus.STAGED_NODE_VERSION. -/
def regs54 : Tree :=
  .node (.node (.node (.node (.node .leaf 0x110200a00000 678 .leaf) 0x110200c00000 679 .leaf) 0x110200e00000 680 (.node
    (.node .leaf 0x110201000000 681 .leaf) 0x110201200000 682 .leaf)) 0x120100000000 683 (.node (.node (.node .leaf
    0x120100080000 684 .leaf) 0x120100100000 685 .leaf) 0x120100180000 686 (.node .leaf 0x120100210000 687 .leaf)))
    0x120100280000 688 (.node (.node (.node (.node .leaf 0x120100400000 689 .leaf) 0x120100600000 690 .leaf)
    0x120100800000 691 (.node (.node .leaf 0x120100a00000 692 .leaf) 0x120100c00000 693 .leaf)) 0x120100e00000 694 (.node
    (.node (.node .leaf 0x120101000000 695 .leaf) 0x120101200000 696 .leaf) 0x120101400000 697 (.node .leaf 0x120101a00000
    698 .leaf)))

/-- CanObject.MSG_LOST to UpdateStatus.STAGED_NODE_VERSION. -/
def regs55 : Tree :=
  .node regs53 0x110200800000 677 regs54

/-- NodeUpdate.NODE_UPDATE_STATE to SecurityStatus.SECURITY_STATE. -/
def regs56 : Tree :=
  .node (.node (.node (.node (.node .leaf 0x120200000000 700 .leaf) 0x120200100000 701 .leaf) 0x120200180000 702 (.node
    (.node .leaf 0x120200200000 703 .leaf) 0x120200280000 704 .leaf)) 0x120200400000 705 (.node (.node (.node .leaf
    0x120200c00000 706 .leaf) 0x120200e00000 707 .leaf) 0x120201000000 708 (.node .leaf 0x120201200000 709 .leaf)))
    0x120201400000 710 (.node (.node (.node (.node .leaf 0x120300000000 711 .leaf) 0x120300100000 712 .leaf)
    0x120300200000 713 (.node (.node .leaf 0x120300210000 714 .leaf) 0x120300280000 715 .leaf)) 0x120300400000 716 (.node
    (.node (.node .leaf 0x120300600000 717 .leaf) 0x120300800000 718 .leaf) 0x120300e00000 719 (.node .leaf 0x130100000000
    720 .leaf)))

/-- SecurityStatus.PROBE_ATTACHED to DebugConfig.HALT_TIME. -/
def regs57 : Tree :=
  .node (.node (.node (.node (.node .leaf 0x130100100000 722 .leaf) 0x130100110000 723 .leaf) 0x130100120000 724 (.node
    (.node .leaf 0x130100130000 725 .leaf) 0x130100140000 726 .leaf)) 0x130100180000 727 (.node (.node (.node .leaf
    0x130100200000 728 .leaf) 0x130100400000 729 .leaf) 0x130100a00000 730 (.node .leaf 0x130202200000 731 .leaf)))
    0x130202400000 732 (.node (.node (.node (.node .leaf 0x130300000000 733 .leaf) 0x130300080000 734 .leaf)
    0x130300100000 735 (.node (.node .leaf 0x130300200000 736 .leaf) 0x130300400000 737 .leaf)) 0x130300600000 738 (.node
    (.node (.node .leaf 0x130300800000 739 .leaf) 0x130300a00000 740 .leaf) 0x130400200000 741 (.node .leaf 0x130400400000
    742 .leaf)))

/-- NodeUpdate.NODE_UPDATE_STATE to DebugConfig.HALT_TIME. -/
def regs58 : Tree :=
  .node regs56 0x130100080000 721 regs57

/-- CanObject.MSG_LOST to DebugConfig.HALT_TIME. -/
def regs59 : Tree :=
  .node regs55 0x120101c00000 699 regs58

/-- CollectorStatus.PEER_REJECTED to DebugConfig.HALT_TIME. -/
def regs60 : Tree :=
  .node regs52 0x100200400000 654 regs59

/-- StringState.CELL_CHARGE_LIMIT to DebugConfig.HALT_TIME. -/
def regs61 : Tree :=
  .node regs45 0xe0401400000 565 regs60

/-- ModuleIdentity.VARIANT to DebugConfig.HALT_TIME. -/
def regs62 : Tree :=
  .node regs30 0xa0100800000 387 regs61

/-- Every register that some command writes one by one. -/
def regTree : Tree := regs62

/-- The objects some command clears whole, each with its bit. -/
def wholeObjs : List (Nat × Nat) := [(0x403, 743), (0x602, 744), (0x605, 745), (0x108, 746)]

/-- The area a code stands for. -/
def codeArea (c : Nat) : Area := ⟨c / 2 ^ 32, c / 2 ^ 16 % 2 ^ 16, c % 2 ^ 16, false⟩

/-- The code of a field; 0 where its place does not fit one. -/
def Fld.code (f : Fld) : Nat :=
  bif Nat.ble f.pos 65535 && Nat.ble f.stride 65535 then f.obj * 2 ^ 32 + f.pos * 2 ^ 16 + f.stride else 0

/-- A register place lies in what a number allows to change. -/
def hit (m : Nat) (k : Key) : Bool :=
  m.testBit 2 || regTree.entries.any (fun p => m.testBit p.2 && (codeArea p.1).covers k) ||
    wholeObjs.any fun p => m.testBit p.2 && (Area.whole p.1).covers k

/-- A number allows a register to change. -/
def hasFld (m : Nat) (f : Fld) : Bool :=
  m.testBit 2 || (let b := regTree.find f.code; bif Nat.beq b 0 then false else m.testBit b && !Nat.beq f.code 0)

/-- Nothing changes but what a number allows, and the clock. -/
structure Frame (m : Nat) (s u : State) : Prop where
  pending : u.pending = s.pending
  now : m.testBit 0 = true ∨ u.now = s.now
  objs : ∀ k, hit m k = false → u.objs.get? k = s.objs.get? k
  clk : m.testBit 1 = true ∨ u.clk = s.clk
  nv : m.testBit 3 = true ∨ u.nv = s.nv
  power : m.testBit 4 = true ∨ u.power = s.power
  panel : m.testBit 5 = true ∨ u.panel = s.panel
  boot : m.testBit 6 = true ∨ u.boot = s.boot
  sec : m.testBit 7 = true ∨ u.sec = s.sec
  mbx : m.testBit 8 = true ∨ u.mbx = s.mbx
  hist : m.testBit 9 = true ∨ u.hist = s.hist
  i2c : m.testBit 10 = true ∨ u.i2c = s.i2c
  safe : m.testBit 11 = true ∨ u.safe = s.safe
  strs : m.testBit 12 = true ∨ u.strs = s.strs
  traces : m.testBit 13 = true ∨ u.traces = s.traces
  dies : m.testBit 14 = true ∨ u.dies = s.dies
  thermal : m.testBit 15 = true ∨ u.thermal = s.thermal
  ledger : m.testBit 16 = true ∨ u.ledger = s.ledger
  upd : m.testBit 17 = true ∨ u.upd = s.upd
  can : m.testBit 18 = true ∨ u.can = s.can
  chans : m.testBit 19 = true ∨ u.chans = s.chans
  blk : m.testBit 20 = true ∨ u.blk = s.blk
  coll : m.testBit 21 = true ∨ u.coll = s.coll
  time : m.testBit 22 = true ∨ u.time = s.time
  pouts : m.testBit 23 = true ∨ u.pouts = s.pouts
  caps : m.testBit 24 = true ∨ u.caps = s.caps
  free : m.testBit 25 = true ∨ u.free = s.free
  out : m.testBit 26 = true ∨ u.out = s.out

theorem orTrans {α : Type} {p : Prop} {a b c : α} (h : p ∨ b = a) (k : p ∨ c = b) : p ∨ c = a := by
  rcases h with h | rfl
  · exact .inl h
  · exact k

theorem Frame.refl {m : Nat} (s : State) : Frame m s s :=
  ⟨rfl, .inr rfl, fun _ _ => rfl, .inr rfl, .inr rfl, .inr rfl, .inr rfl, .inr rfl, .inr rfl, .inr rfl, .inr rfl, .inr rfl,
    .inr rfl, .inr rfl, .inr rfl, .inr rfl, .inr rfl, .inr rfl, .inr rfl, .inr rfl, .inr rfl, .inr rfl, .inr rfl, .inr rfl,
    .inr rfl, .inr rfl, .inr rfl, .inr rfl⟩

theorem Frame.trans {m : Nat} {a b c : State} (h : Frame m a b) (k : Frame m b c) : Frame m a c :=
  ⟨k.pending.trans h.pending, orTrans h.now k.now, fun x hx => (k.objs x hx).trans (h.objs x hx),
    orTrans h.clk k.clk, orTrans h.nv k.nv, orTrans h.power k.power, orTrans h.panel k.panel, orTrans h.boot k.boot,
      orTrans h.sec k.sec, orTrans h.mbx k.mbx, orTrans h.hist k.hist, orTrans h.i2c k.i2c, orTrans h.safe k.safe,
      orTrans h.strs k.strs, orTrans h.traces k.traces, orTrans h.dies k.dies, orTrans h.thermal k.thermal,
      orTrans h.ledger k.ledger, orTrans h.upd k.upd, orTrans h.can k.can, orTrans h.chans k.chans, orTrans h.blk k.blk,
      orTrans h.coll k.coll, orTrans h.time k.time, orTrans h.pouts k.pouts, orTrans h.caps k.caps, orTrans h.free k.free,
      orTrans h.out k.out⟩

theorem testBit_mono {m n : Nat} (h : Nat.lor m n = n) (i : Nat) (k : m.testBit i = true) : n.testBit i = true := by
  rw [← h]
  exact (Nat.testBit_or m n i).trans (by rw [k]; rfl)

theorem hit_mono {m n : Nat} (h : Nat.lor m n = n) (k : Key) (e : hit n k = false) : hit m k = false := by
  by_contra c
  rw [Bool.not_eq_false] at c
  have : hit n k = true := by
    simp only [hit, Bool.or_eq_true, List.any_eq_true, Bool.and_eq_true] at c ⊢
    rcases c with (c | ⟨p, hp, c1, c2⟩) | ⟨p, hp, c1, c2⟩
    · exact .inl (.inl (testBit_mono h _ c))
    · exact .inl (.inr ⟨p, hp, testBit_mono h _ c1, c2⟩)
    · exact .inr ⟨p, hp, testBit_mono h _ c1, c2⟩
  rw [e] at this
  exact absurd this (by decide)

theorem Frame.mono {m n : Nat} {s u : State} (h : Nat.lor m n = n) (k : Frame m s u) : Frame n s u :=
  have f {i : Nat} {q : Prop} (c : m.testBit i = true ∨ q) : n.testBit i = true ∨ q := c.imp_left (testBit_mono h i)
  ⟨k.pending, f k.now, fun x hx => k.objs x (hit_mono h x hx), f k.clk, f k.nv, f k.power, f k.panel, f k.boot, f k.sec,
    f k.mbx, f k.hist, f k.i2c, f k.safe, f k.strs, f k.traces, f k.dies, f k.thermal, f k.ledger, f k.upd, f k.can, f k.chans,
    f k.blk, f k.coll, f k.time, f k.pouts, f k.caps, f k.free, f k.out⟩

theorem Frame.ite {m : Nat} {a u v : State} {c : Prop} {d : Decidable c} (h : Frame m a u) (k : Frame m a v) :
    Frame m a (if c then u else v) := by
  split <;> assumption

theorem Frame.cutTo {m : Nat} {a u : State} (x : State) (k : Frame m a x → Frame m a u) (h : Frame m a x) : Frame m a u := k h

theorem Frame.foldl {α : Type} {m : Nat} {a u : State} (l : List α) (f : State → α → State) (h : Frame m a u)
    (hf : ∀ v x, Frame m v (f v x)) : Frame m a (l.foldl f u) := by
  induction l generalizing u with
  | nil => exact h
  | cons x l ih => exact ih (h.trans (hf u x))

theorem Frame.foldl_mem {α : Type} {m : Nat} {a u : State} (l : List α) (f : State → α → State) (h : Frame m a u)
    (hf : ∀ v, ∀ x ∈ l, Frame m v (f v x)) : Frame m a (l.foldl f u) := by
  induction l generalizing u with
  | nil => exact h
  | cons x l ih => exact ih (h.trans (hf u x (List.mem_cons_self ..))) fun v y hy => hf v y (List.mem_cons_of_mem _ hy)

theorem Frame.foldlP {α β : Type} {m : Nat} {a : State} (l : List α) (f : State × β → α → State × β) {p : State × β}
    (h : Frame m a p.1) (hf : ∀ q x, Frame m q.1 (f q x).1) : Frame m a (l.foldl f p).1 := by
  induction l generalizing p with
  | nil => exact h
  | cons x l ih => exact ih (h.trans (hf p x))

theorem Frame.snd {α : Type} {m : Nat} {a v : State} {p : α × State} {n : α} (e : p = (n, v)) (h : Frame m a p.2) :
    Frame m a v := by
  rw [e] at h; exact h

theorem Frame.fst {α : Type} {m : Nat} {a v : State} {p : State × α} {n : α} (e : p = (v, n)) (h : Frame m a p.1) :
    Frame m a v := by
  rw [e] at h; exact h

/-- A change of the hidden parts a number allows. -/
theorem Frame.mk' {m : Nat} {a u : State} {clk_ : Clock} {nv_ : Nonvol} {power_ : Power} {panel_ : Panel} {boot_ : Boot}
    {sec_ : Security} {mbx_ : Mbx} {hist_ : Hist} {i2c_ : I2cPort} {safe_ : Safe} {strs_ : List Str} {traces_ : List Trace}
    {dies_ : List Die} {thermal_ : Thermal} {ledger_ : Ledger} {upd_ : Upd} {can_ : List CanBus} {chans_ : List Chan}
    {blk_ : Block} {coll_ : Collector} {time_ : TimeSt} {pouts_ : List POut} {caps_ : List CapIn} {free_ : Nat} {out_ : List Out}
    (h : Frame m a u) (h_clk : m.testBit 1 = true ∨ clk_ = u.clk := by first | exact .inr rfl | exact .inl (by decide +kernel))
      (h_nv : m.testBit 3 = true ∨ nv_ = u.nv := by first | exact .inr rfl | exact .inl (by decide +kernel))
      (h_power : m.testBit 4 = true ∨ power_ = u.power := by first | exact .inr rfl | exact .inl (by decide +kernel))
      (h_panel : m.testBit 5 = true ∨ panel_ = u.panel := by first | exact .inr rfl | exact .inl (by decide +kernel))
      (h_boot : m.testBit 6 = true ∨ boot_ = u.boot := by first | exact .inr rfl | exact .inl (by decide +kernel))
      (h_sec : m.testBit 7 = true ∨ sec_ = u.sec := by first | exact .inr rfl | exact .inl (by decide +kernel))
      (h_mbx : m.testBit 8 = true ∨ mbx_ = u.mbx := by first | exact .inr rfl | exact .inl (by decide +kernel))
      (h_hist : m.testBit 9 = true ∨ hist_ = u.hist := by first | exact .inr rfl | exact .inl (by decide +kernel))
      (h_i2c : m.testBit 10 = true ∨ i2c_ = u.i2c := by first | exact .inr rfl | exact .inl (by decide +kernel))
      (h_safe : m.testBit 11 = true ∨ safe_ = u.safe := by first | exact .inr rfl | exact .inl (by decide +kernel))
      (h_strs : m.testBit 12 = true ∨ strs_ = u.strs := by first | exact .inr rfl | exact .inl (by decide +kernel))
      (h_traces : m.testBit 13 = true ∨ traces_ = u.traces := by first | exact .inr rfl | exact .inl (by decide +kernel))
      (h_dies : m.testBit 14 = true ∨ dies_ = u.dies := by first | exact .inr rfl | exact .inl (by decide +kernel))
      (h_thermal : m.testBit 15 = true ∨ thermal_ = u.thermal := by first | exact .inr rfl | exact .inl (by decide +kernel))
      (h_ledger : m.testBit 16 = true ∨ ledger_ = u.ledger := by first | exact .inr rfl | exact .inl (by decide +kernel))
      (h_upd : m.testBit 17 = true ∨ upd_ = u.upd := by first | exact .inr rfl | exact .inl (by decide +kernel))
      (h_can : m.testBit 18 = true ∨ can_ = u.can := by first | exact .inr rfl | exact .inl (by decide +kernel))
      (h_chans : m.testBit 19 = true ∨ chans_ = u.chans := by first | exact .inr rfl | exact .inl (by decide +kernel))
      (h_blk : m.testBit 20 = true ∨ blk_ = u.blk := by first | exact .inr rfl | exact .inl (by decide +kernel))
      (h_coll : m.testBit 21 = true ∨ coll_ = u.coll := by first | exact .inr rfl | exact .inl (by decide +kernel))
      (h_time : m.testBit 22 = true ∨ time_ = u.time := by first | exact .inr rfl | exact .inl (by decide +kernel))
      (h_pouts : m.testBit 23 = true ∨ pouts_ = u.pouts := by first | exact .inr rfl | exact .inl (by decide +kernel))
      (h_caps : m.testBit 24 = true ∨ caps_ = u.caps := by first | exact .inr rfl | exact .inl (by decide +kernel))
      (h_free : m.testBit 25 = true ∨ free_ = u.free := by first | exact .inr rfl | exact .inl (by decide +kernel))
      (h_out : m.testBit 26 = true ∨ out_ = u.out := by first | exact .inr rfl | exact .inl (by decide +kernel)) :
    Frame m a { u with
      clk := clk_, nv := nv_, power := power_, panel := panel_, boot := boot_, sec := sec_, mbx := mbx_,
      hist := hist_, i2c := i2c_, safe := safe_, strs := strs_, traces := traces_, dies := dies_, thermal := thermal_,
      ledger := ledger_, upd := upd_, can := can_, chans := chans_, blk := blk_, coll := coll_, time := time_, pouts := pouts_,
      caps := caps_, free := free_, out := out_ } :=
  h.trans ⟨rfl, .inr rfl, fun _ _ => rfl, h_clk, h_nv, h_power, h_panel, h_boot, h_sec, h_mbx, h_hist, h_i2c, h_safe, h_strs,
    h_traces, h_dies, h_thermal, h_ledger, h_upd, h_can, h_chans, h_blk, h_coll, h_time, h_pouts, h_caps, h_free, h_out⟩

/-- A change of the registers. -/
theorem Frame.objs' {m : Nat} {a u : State} (h : Frame m a u) (o : Store) (ho : ∀ k, hit m k = false → o.get? k = u.objs.get? k) :
    Frame m a { u with objs := o } :=
  h.trans ⟨rfl, .inr rfl, ho, .inr rfl, .inr rfl, .inr rfl, .inr rfl, .inr rfl, .inr rfl, .inr rfl, .inr rfl, .inr rfl,
    .inr rfl, .inr rfl, .inr rfl, .inr rfl, .inr rfl, .inr rfl, .inr rfl, .inr rfl, .inr rfl, .inr rfl, .inr rfl, .inr rfl,
    .inr rfl, .inr rfl, .inr rfl, .inr rfl⟩

/-- Any change of the registers, where the number allows every one. -/
theorem Frame.any {m : Nat} {a u : State} (h : Frame m a u) (o : Store) (hm : m.testBit 2 = true := by decide +kernel) :
    Frame m a { u with objs := o } :=
  h.objs' o fun k e => by simp [hit, hm] at e

theorem Area.covers_key (f : Fld) (i x : Nat) : f.area.covers (f.key i x) = true := by
  by_cases hs : f.stride = 0
  · simp [Area.covers, Fld.area, Fld.key, hs]
  · simp [Area.covers, Fld.area, Fld.key, hs]

theorem codeArea_code {f : Fld} (h : f.code ≠ 0) : codeArea f.code = f.area := by
  unfold Fld.code at h ⊢
  cases e : (Nat.ble f.pos 65535 && Nat.ble f.stride 65535) with
  | false => rw [e] at h; exact absurd rfl h
  | true =>
    simp only [Bool.and_eq_true, Nat.ble_eq] at e
    simp only [cond_true, codeArea, Fld.area, Area.mk.injEq, and_true]
    omega

theorem hit_of_hasFld {m : Nat} {f : Fld} (h : hasFld m f = true) (i x : Nat) : hit m (f.key i x) = true := by
  simp only [hasFld, Bool.or_eq_true] at h
  simp only [hit, Bool.or_eq_true, List.any_eq_true, Bool.and_eq_true]
  rcases h with h | h
  · exact .inl (.inl h)
  · cases e : Nat.beq (regTree.find f.code) 0 with
    | true => rw [e] at h; exact absurd h Bool.false_ne_true
    | false =>
      rw [e] at h
      simp only [cond_false, Bool.and_eq_true, Bool.not_eq_true'] at h
      have hc : f.code ≠ 0 := fun c => by rw [c] at h; exact absurd h.2 (by decide)
      have hb : regTree.find f.code ≠ 0 := fun c => by rw [c] at e; exact absurd e (by decide)
      exact .inl (.inr ⟨_, Tree.find_mem _ _ hb, h.1, by rw [codeArea_code hc]; exact Area.covers_key f i x⟩)

theorem hit_of_whole {m o : Nat} (h : (wholeObjs.any fun p => m.testBit p.2 && Nat.beq p.1 o) = true) {k : Key} (e : k.obj = o) :
    hit m k = true := by
  simp only [hit, Bool.or_eq_true, List.any_eq_true, Bool.and_eq_true] at h ⊢
  obtain ⟨p, hp, h1, h2⟩ := h
  exact .inr ⟨p, hp, h1, by simp [Area.covers, Area.whole, e, Nat.eq_of_beq_eq_true h2]⟩

theorem not_obj {m o : Nat} {k : Key} (e : hit m k = false)
    (h : (wholeObjs.any fun p => m.testBit p.2 && Nat.beq p.1 o) = true := by decide +kernel) : k.obj ≠ o := fun c => by
  rw [hit_of_whole h c] at e
  exact absurd e (by decide)

/-- What a part of an operation may change, the operation may. -/
theorem sub {a b m : Nat} (hm : Nat.lor b m = m) (h : Nat.lor a b = b := by decide +kernel) : Nat.lor a m = m := by
  rw [← hm]
  exact (Nat.or_assoc a b m).symm.trans (congrArg (Nat.lor · m) h)

theorem hasFld_mono {m n : Nat} {f : Fld} (hm : Nat.lor m n = n) (h : hasFld m f = true := by decide +kernel) :
    hasFld n f = true := by
  simp only [hasFld, Bool.or_eq_true] at h ⊢
  rcases h with h | h
  · exact .inl (testBit_mono hm _ h)
  · refine .inr ?_
    cases e : Nat.beq (regTree.find f.code) 0 with
    | true => rw [e] at h; exact absurd h Bool.false_ne_true
    | false =>
      rw [e] at h
      simp only [cond_false, Bool.and_eq_true] at h ⊢
      exact ⟨testBit_mono hm _ h.1, h.2⟩

theorem Store.get?_filter (s : Store) (p : Key × Nat → Bool) (k : Key) (h : ∀ v, p (k, v) = true) :
    Store.get? (s.filter p) k = s.get? k := by
  induction s with
  | nil => rfl
  | cons x s ih =>
    obtain ⟨j, v⟩ := x
    rw [List.filter_cons]
    by_cases e : j = k
    · subst e
      rw [if_pos (h v)]
      unfold Store.get?
      rw [if_pos rfl, if_pos rfl]
    · split
      · unfold Store.get?
        rw [if_neg e, if_neg e]; exact ih
      · rw [ih]
        conv_rhs => unfold Store.get?
        rw [if_neg e]

theorem Store.get?_clearInst (s : Store) {o i : Nat} {k : Key} (h : k.obj ≠ o) : (s.clearInst o i).get? k = s.get? k :=
  Store.get?_filter _ _ _ fun _ => by simp [h]

theorem Store.get?_copyInst (s t : Store) {o a b : Nat} {k : Key} (h : k.obj ≠ o) : (s.copyInst t o a b).get? k = t.get? k := by
  unfold Store.copyInst
  have hl : ∀ c ∈ s.filter (fun c => c.1.obj == o && c.1.inst == a), c.1.obj = o := fun c hc => by
    have := (List.mem_filter.1 hc).2
    simp at this
    exact this.1
  revert hl
  generalize s.filter (fun c => c.1.obj == o && c.1.inst == a) = l
  intro hl
  induction l generalizing t with
  | nil => rfl
  | cons c l ih =>
    rw [List.foldl_cons, ih _ fun x hx => hl x (List.mem_cons_of_mem _ hx), Store.get?_ins, if_neg]
    intro e
    have := hl c (List.mem_cons_self ..)
    rw [← e] at h
    exact h this

theorem State.wr_frame {m : Nat} {a u : State} (h : Frame m a u) (f : Fld) (i v x : Nat) (hm : hasFld m f = true := by decide +kernel) :
    Frame m a (u.wr f i v x) :=
  h.objs' _ fun k e => Store.get?_put_ne _ _ _ _ _ fun c => by
    rw [c, hit_of_hasFld hm] at e
    exact absurd e (by decide)

theorem State.wrB_frame {m : Nat} {a u : State} (h : Frame m a u) (f : Fld) (i : Nat) (b : Bool) (x : Nat)
    (hm : hasFld m f = true := by decide +kernel) : Frame m a (u.wrB f i b x) := State.wr_frame h _ _ _ _ hm

theorem State.wrI_frame {m : Nat} {a u : State} (h : Frame m a u) (f : Fld) (i : Nat) (b : Int) (x : Nat)
    (hm : hasFld m f = true := by decide +kernel) : Frame m a (u.wrI f i b x) := State.wr_frame h _ _ _ _ hm

theorem State.bump_frame {m : Nat} {a u : State} (h : Frame m a u) (f : Fld) (i d x : Nat)
    (hm : hasFld m f = true := by decide +kernel) : Frame m a (u.bump f i d x) := State.wr_frame h _ _ _ _ hm

theorem State.stamp_frame {m : Nat} {a u : State} (h : Frame m a u) (f : Fld) (i : Nat)
    (hm : hasFld m f = true := by decide +kernel) : Frame m a (u.stamp f i) := State.wr_frame h _ _ _ _ hm

theorem State.at_frame {m : Nat} {a u : State} (h : Frame m a u) (t : Nat) (hm : m.testBit 0 = true := by decide +kernel) :
    Frame m a (u.at t) :=
  h.trans ⟨rfl, .inl hm, fun _ _ => rfl, .inr rfl, .inr rfl, .inr rfl, .inr rfl, .inr rfl, .inr rfl, .inr rfl, .inr rfl,
    .inr rfl, .inr rfl, .inr rfl, .inr rfl, .inr rfl, .inr rfl, .inr rfl, .inr rfl, .inr rfl, .inr rfl, .inr rfl, .inr rfl,
    .inr rfl, .inr rfl, .inr rfl, .inr rfl, .inr rfl⟩

theorem State.fresh_frame {m : Nat} {a u : State} (h : Frame m a u) (w : Nat) (hm : m.testBit 25 = true := by decide +kernel) :
    Frame m a (u.fresh w).2 :=
  h.trans ⟨rfl, .inr rfl, fun _ _ => rfl, .inr rfl, .inr rfl, .inr rfl, .inr rfl, .inr rfl, .inr rfl, .inr rfl, .inr rfl,
    .inr rfl, .inr rfl, .inr rfl, .inr rfl, .inr rfl, .inr rfl, .inr rfl, .inr rfl, .inr rfl, .inr rfl, .inr rfl, .inr rfl,
    .inr rfl, .inr rfl, .inr rfl, .inl hm, .inr rfl⟩

theorem State.send_frame {m : Nat} {a u : State} (h : Frame m a u) (o : Out) (hm : m.testBit 26 = true := by decide +kernel) :
    Frame m a (u.send o) :=
  h.trans ⟨rfl, .inr rfl, fun _ _ => rfl, .inr rfl, .inr rfl, .inr rfl, .inr rfl, .inr rfl, .inr rfl, .inr rfl, .inr rfl,
    .inr rfl, .inr rfl, .inr rfl, .inr rfl, .inr rfl, .inr rfl, .inr rfl, .inr rfl, .inr rfl, .inr rfl, .inr rfl, .inr rfl,
    .inr rfl, .inr rfl, .inr rfl, .inr rfl, .inl hm⟩

theorem State.modStr_frame {m : Nat} {a u : State} (h : Frame m a u) (n : Nat) (f : Str → Str) (hm : m.testBit 12 = true := by decide +kernel) :
    Frame m a (u.modStr n f) :=
  h.trans ⟨rfl, .inr rfl, fun _ _ => rfl, .inr rfl, .inr rfl, .inr rfl, .inr rfl, .inr rfl, .inr rfl, .inr rfl, .inr rfl,
    .inr rfl, .inr rfl, .inl hm, .inr rfl, .inr rfl, .inr rfl, .inr rfl, .inr rfl, .inr rfl, .inr rfl, .inr rfl, .inr rfl,
    .inr rfl, .inr rfl, .inr rfl, .inr rfl, .inr rfl⟩

theorem State.modProt_frame {m : Nat} {a u : State} (h : Frame m a u) (n : Nat) (f : Prot → Prot) (hm : m.testBit 12 = true := by decide +kernel) :
    Frame m a (u.modProt n f) :=
  h.trans ⟨rfl, .inr rfl, fun _ _ => rfl, .inr rfl, .inr rfl, .inr rfl, .inr rfl, .inr rfl, .inr rfl, .inr rfl, .inr rfl,
    .inr rfl, .inr rfl, .inl hm, .inr rfl, .inr rfl, .inr rfl, .inr rfl, .inr rfl, .inr rfl, .inr rfl, .inr rfl, .inr rfl,
    .inr rfl, .inr rfl, .inr rfl, .inr rfl, .inr rfl⟩

theorem State.modSess_frame {m : Nat} {a u : State} (h : Frame m a u) (n : Nat) (f : Sess → Sess) (hm : m.testBit 8 = true := by decide +kernel) :
    Frame m a (u.modSess n f) :=
  h.trans ⟨rfl, .inr rfl, fun _ _ => rfl, .inr rfl, .inr rfl, .inr rfl, .inr rfl, .inr rfl, .inr rfl, .inl hm, .inr rfl,
    .inr rfl, .inr rfl, .inr rfl, .inr rfl, .inr rfl, .inr rfl, .inr rfl, .inr rfl, .inr rfl, .inr rfl, .inr rfl, .inr rfl,
    .inr rfl, .inr rfl, .inr rfl, .inr rfl, .inr rfl⟩

theorem State.mapStreams_frame {m : Nat} {a u : State} (h : Frame m a u) (f : Stream → Stream) (hm : m.testBit 8 = true := by decide +kernel) :
    Frame m a (u.mapStreams f) :=
  h.trans ⟨rfl, .inr rfl, fun _ _ => rfl, .inr rfl, .inr rfl, .inr rfl, .inr rfl, .inr rfl, .inr rfl, .inl hm, .inr rfl,
    .inr rfl, .inr rfl, .inr rfl, .inr rfl, .inr rfl, .inr rfl, .inr rfl, .inr rfl, .inr rfl, .inr rfl, .inr rfl, .inr rfl,
    .inr rfl, .inr rfl, .inr rfl, .inr rfl, .inr rfl⟩

theorem State.eachStr_frame {m : Nat} {a u : State} (h : Frame m a u) (f : Nat → State → State) (hf : ∀ n v, Frame m v (f n v)) :
    Frame m a (u.eachStr f) := h.foldl _ _ fun v x => hf x v

theorem guarded_frame {m : Nat} {a u : State} (h : Frame m a u) (cs : List (Bool × Nat × Bytes)) (eff : State → State × Reply)
    (he : ∀ v, Frame m v (eff v).1) : Frame m a (guarded cs u eff).1 := by
  unfold guarded
  split
  · exact h
  · exact h.trans (he u)
theorem Frame.on_clk {m : Nat} {a u : State} (h : Frame m a u) (x : Clock) (hm : m.testBit 1 = true := by decide +kernel) :
    Frame m a { u with clk := x } :=
  h.trans ⟨rfl, .inr rfl, fun _ _ => rfl, .inl hm, .inr rfl, .inr rfl, .inr rfl, .inr rfl, .inr rfl, .inr rfl, .inr rfl,
    .inr rfl, .inr rfl, .inr rfl, .inr rfl, .inr rfl, .inr rfl, .inr rfl, .inr rfl, .inr rfl, .inr rfl, .inr rfl, .inr rfl,
    .inr rfl, .inr rfl, .inr rfl, .inr rfl, .inr rfl⟩

theorem Frame.on_nv {m : Nat} {a u : State} (h : Frame m a u) (x : Nonvol) (hm : m.testBit 3 = true := by decide +kernel) :
    Frame m a { u with nv := x } :=
  h.trans ⟨rfl, .inr rfl, fun _ _ => rfl, .inr rfl, .inl hm, .inr rfl, .inr rfl, .inr rfl, .inr rfl, .inr rfl, .inr rfl,
    .inr rfl, .inr rfl, .inr rfl, .inr rfl, .inr rfl, .inr rfl, .inr rfl, .inr rfl, .inr rfl, .inr rfl, .inr rfl, .inr rfl,
    .inr rfl, .inr rfl, .inr rfl, .inr rfl, .inr rfl⟩

theorem Frame.on_power {m : Nat} {a u : State} (h : Frame m a u) (x : Power) (hm : m.testBit 4 = true := by decide +kernel) :
    Frame m a { u with power := x } :=
  h.trans ⟨rfl, .inr rfl, fun _ _ => rfl, .inr rfl, .inr rfl, .inl hm, .inr rfl, .inr rfl, .inr rfl, .inr rfl, .inr rfl,
    .inr rfl, .inr rfl, .inr rfl, .inr rfl, .inr rfl, .inr rfl, .inr rfl, .inr rfl, .inr rfl, .inr rfl, .inr rfl, .inr rfl,
    .inr rfl, .inr rfl, .inr rfl, .inr rfl, .inr rfl⟩

theorem Frame.on_panel {m : Nat} {a u : State} (h : Frame m a u) (x : Panel) (hm : m.testBit 5 = true := by decide +kernel) :
    Frame m a { u with panel := x } :=
  h.trans ⟨rfl, .inr rfl, fun _ _ => rfl, .inr rfl, .inr rfl, .inr rfl, .inl hm, .inr rfl, .inr rfl, .inr rfl, .inr rfl,
    .inr rfl, .inr rfl, .inr rfl, .inr rfl, .inr rfl, .inr rfl, .inr rfl, .inr rfl, .inr rfl, .inr rfl, .inr rfl, .inr rfl,
    .inr rfl, .inr rfl, .inr rfl, .inr rfl, .inr rfl⟩

theorem Frame.on_boot {m : Nat} {a u : State} (h : Frame m a u) (x : Boot) (hm : m.testBit 6 = true := by decide +kernel) :
    Frame m a { u with boot := x } :=
  h.trans ⟨rfl, .inr rfl, fun _ _ => rfl, .inr rfl, .inr rfl, .inr rfl, .inr rfl, .inl hm, .inr rfl, .inr rfl, .inr rfl,
    .inr rfl, .inr rfl, .inr rfl, .inr rfl, .inr rfl, .inr rfl, .inr rfl, .inr rfl, .inr rfl, .inr rfl, .inr rfl, .inr rfl,
    .inr rfl, .inr rfl, .inr rfl, .inr rfl, .inr rfl⟩

theorem Frame.on_sec {m : Nat} {a u : State} (h : Frame m a u) (x : Security) (hm : m.testBit 7 = true := by decide +kernel) :
    Frame m a { u with sec := x } :=
  h.trans ⟨rfl, .inr rfl, fun _ _ => rfl, .inr rfl, .inr rfl, .inr rfl, .inr rfl, .inr rfl, .inl hm, .inr rfl, .inr rfl,
    .inr rfl, .inr rfl, .inr rfl, .inr rfl, .inr rfl, .inr rfl, .inr rfl, .inr rfl, .inr rfl, .inr rfl, .inr rfl, .inr rfl,
    .inr rfl, .inr rfl, .inr rfl, .inr rfl, .inr rfl⟩

theorem Frame.on_mbx {m : Nat} {a u : State} (h : Frame m a u) (x : Mbx) (hm : m.testBit 8 = true := by decide +kernel) :
    Frame m a { u with mbx := x } :=
  h.trans ⟨rfl, .inr rfl, fun _ _ => rfl, .inr rfl, .inr rfl, .inr rfl, .inr rfl, .inr rfl, .inr rfl, .inl hm, .inr rfl,
    .inr rfl, .inr rfl, .inr rfl, .inr rfl, .inr rfl, .inr rfl, .inr rfl, .inr rfl, .inr rfl, .inr rfl, .inr rfl, .inr rfl,
    .inr rfl, .inr rfl, .inr rfl, .inr rfl, .inr rfl⟩

theorem Frame.on_hist {m : Nat} {a u : State} (h : Frame m a u) (x : Hist) (hm : m.testBit 9 = true := by decide +kernel) :
    Frame m a { u with hist := x } :=
  h.trans ⟨rfl, .inr rfl, fun _ _ => rfl, .inr rfl, .inr rfl, .inr rfl, .inr rfl, .inr rfl, .inr rfl, .inr rfl, .inl hm,
    .inr rfl, .inr rfl, .inr rfl, .inr rfl, .inr rfl, .inr rfl, .inr rfl, .inr rfl, .inr rfl, .inr rfl, .inr rfl, .inr rfl,
    .inr rfl, .inr rfl, .inr rfl, .inr rfl, .inr rfl⟩

theorem Frame.on_i2c {m : Nat} {a u : State} (h : Frame m a u) (x : I2cPort) (hm : m.testBit 10 = true := by decide +kernel) :
    Frame m a { u with i2c := x } :=
  h.trans ⟨rfl, .inr rfl, fun _ _ => rfl, .inr rfl, .inr rfl, .inr rfl, .inr rfl, .inr rfl, .inr rfl, .inr rfl, .inr rfl,
    .inl hm, .inr rfl, .inr rfl, .inr rfl, .inr rfl, .inr rfl, .inr rfl, .inr rfl, .inr rfl, .inr rfl, .inr rfl, .inr rfl,
    .inr rfl, .inr rfl, .inr rfl, .inr rfl, .inr rfl⟩

theorem Frame.on_safe {m : Nat} {a u : State} (h : Frame m a u) (x : Safe) (hm : m.testBit 11 = true := by decide +kernel) :
    Frame m a { u with safe := x } :=
  h.trans ⟨rfl, .inr rfl, fun _ _ => rfl, .inr rfl, .inr rfl, .inr rfl, .inr rfl, .inr rfl, .inr rfl, .inr rfl, .inr rfl,
    .inr rfl, .inl hm, .inr rfl, .inr rfl, .inr rfl, .inr rfl, .inr rfl, .inr rfl, .inr rfl, .inr rfl, .inr rfl, .inr rfl,
    .inr rfl, .inr rfl, .inr rfl, .inr rfl, .inr rfl⟩

theorem Frame.on_strs {m : Nat} {a u : State} (h : Frame m a u) (x : List Str) (hm : m.testBit 12 = true := by decide +kernel) :
    Frame m a { u with strs := x } :=
  h.trans ⟨rfl, .inr rfl, fun _ _ => rfl, .inr rfl, .inr rfl, .inr rfl, .inr rfl, .inr rfl, .inr rfl, .inr rfl, .inr rfl,
    .inr rfl, .inr rfl, .inl hm, .inr rfl, .inr rfl, .inr rfl, .inr rfl, .inr rfl, .inr rfl, .inr rfl, .inr rfl, .inr rfl,
    .inr rfl, .inr rfl, .inr rfl, .inr rfl, .inr rfl⟩

theorem Frame.on_traces {m : Nat} {a u : State} (h : Frame m a u) (x : List Trace) (hm : m.testBit 13 = true := by decide +kernel) :
    Frame m a { u with traces := x } :=
  h.trans ⟨rfl, .inr rfl, fun _ _ => rfl, .inr rfl, .inr rfl, .inr rfl, .inr rfl, .inr rfl, .inr rfl, .inr rfl, .inr rfl,
    .inr rfl, .inr rfl, .inr rfl, .inl hm, .inr rfl, .inr rfl, .inr rfl, .inr rfl, .inr rfl, .inr rfl, .inr rfl, .inr rfl,
    .inr rfl, .inr rfl, .inr rfl, .inr rfl, .inr rfl⟩

theorem Frame.on_dies {m : Nat} {a u : State} (h : Frame m a u) (x : List Die) (hm : m.testBit 14 = true := by decide +kernel) :
    Frame m a { u with dies := x } :=
  h.trans ⟨rfl, .inr rfl, fun _ _ => rfl, .inr rfl, .inr rfl, .inr rfl, .inr rfl, .inr rfl, .inr rfl, .inr rfl, .inr rfl,
    .inr rfl, .inr rfl, .inr rfl, .inr rfl, .inl hm, .inr rfl, .inr rfl, .inr rfl, .inr rfl, .inr rfl, .inr rfl, .inr rfl,
    .inr rfl, .inr rfl, .inr rfl, .inr rfl, .inr rfl⟩

theorem Frame.on_thermal {m : Nat} {a u : State} (h : Frame m a u) (x : Thermal) (hm : m.testBit 15 = true := by decide +kernel) :
    Frame m a { u with thermal := x } :=
  h.trans ⟨rfl, .inr rfl, fun _ _ => rfl, .inr rfl, .inr rfl, .inr rfl, .inr rfl, .inr rfl, .inr rfl, .inr rfl, .inr rfl,
    .inr rfl, .inr rfl, .inr rfl, .inr rfl, .inr rfl, .inl hm, .inr rfl, .inr rfl, .inr rfl, .inr rfl, .inr rfl, .inr rfl,
    .inr rfl, .inr rfl, .inr rfl, .inr rfl, .inr rfl⟩

theorem Frame.on_ledger {m : Nat} {a u : State} (h : Frame m a u) (x : Ledger) (hm : m.testBit 16 = true := by decide +kernel) :
    Frame m a { u with ledger := x } :=
  h.trans ⟨rfl, .inr rfl, fun _ _ => rfl, .inr rfl, .inr rfl, .inr rfl, .inr rfl, .inr rfl, .inr rfl, .inr rfl, .inr rfl,
    .inr rfl, .inr rfl, .inr rfl, .inr rfl, .inr rfl, .inr rfl, .inl hm, .inr rfl, .inr rfl, .inr rfl, .inr rfl, .inr rfl,
    .inr rfl, .inr rfl, .inr rfl, .inr rfl, .inr rfl⟩

theorem Frame.on_upd {m : Nat} {a u : State} (h : Frame m a u) (x : Upd) (hm : m.testBit 17 = true := by decide +kernel) :
    Frame m a { u with upd := x } :=
  h.trans ⟨rfl, .inr rfl, fun _ _ => rfl, .inr rfl, .inr rfl, .inr rfl, .inr rfl, .inr rfl, .inr rfl, .inr rfl, .inr rfl,
    .inr rfl, .inr rfl, .inr rfl, .inr rfl, .inr rfl, .inr rfl, .inr rfl, .inl hm, .inr rfl, .inr rfl, .inr rfl, .inr rfl,
    .inr rfl, .inr rfl, .inr rfl, .inr rfl, .inr rfl⟩

theorem Frame.on_can {m : Nat} {a u : State} (h : Frame m a u) (x : List CanBus) (hm : m.testBit 18 = true := by decide +kernel) :
    Frame m a { u with can := x } :=
  h.trans ⟨rfl, .inr rfl, fun _ _ => rfl, .inr rfl, .inr rfl, .inr rfl, .inr rfl, .inr rfl, .inr rfl, .inr rfl, .inr rfl,
    .inr rfl, .inr rfl, .inr rfl, .inr rfl, .inr rfl, .inr rfl, .inr rfl, .inr rfl, .inl hm, .inr rfl, .inr rfl, .inr rfl,
    .inr rfl, .inr rfl, .inr rfl, .inr rfl, .inr rfl⟩

theorem Frame.on_chans {m : Nat} {a u : State} (h : Frame m a u) (x : List Chan) (hm : m.testBit 19 = true := by decide +kernel) :
    Frame m a { u with chans := x } :=
  h.trans ⟨rfl, .inr rfl, fun _ _ => rfl, .inr rfl, .inr rfl, .inr rfl, .inr rfl, .inr rfl, .inr rfl, .inr rfl, .inr rfl,
    .inr rfl, .inr rfl, .inr rfl, .inr rfl, .inr rfl, .inr rfl, .inr rfl, .inr rfl, .inr rfl, .inl hm, .inr rfl, .inr rfl,
    .inr rfl, .inr rfl, .inr rfl, .inr rfl, .inr rfl⟩

theorem Frame.on_blk {m : Nat} {a u : State} (h : Frame m a u) (x : Block) (hm : m.testBit 20 = true := by decide +kernel) :
    Frame m a { u with blk := x } :=
  h.trans ⟨rfl, .inr rfl, fun _ _ => rfl, .inr rfl, .inr rfl, .inr rfl, .inr rfl, .inr rfl, .inr rfl, .inr rfl, .inr rfl,
    .inr rfl, .inr rfl, .inr rfl, .inr rfl, .inr rfl, .inr rfl, .inr rfl, .inr rfl, .inr rfl, .inr rfl, .inl hm, .inr rfl,
    .inr rfl, .inr rfl, .inr rfl, .inr rfl, .inr rfl⟩

theorem Frame.on_coll {m : Nat} {a u : State} (h : Frame m a u) (x : Collector) (hm : m.testBit 21 = true := by decide +kernel) :
    Frame m a { u with coll := x } :=
  h.trans ⟨rfl, .inr rfl, fun _ _ => rfl, .inr rfl, .inr rfl, .inr rfl, .inr rfl, .inr rfl, .inr rfl, .inr rfl, .inr rfl,
    .inr rfl, .inr rfl, .inr rfl, .inr rfl, .inr rfl, .inr rfl, .inr rfl, .inr rfl, .inr rfl, .inr rfl, .inr rfl, .inl hm,
    .inr rfl, .inr rfl, .inr rfl, .inr rfl, .inr rfl⟩

theorem Frame.on_time {m : Nat} {a u : State} (h : Frame m a u) (x : TimeSt) (hm : m.testBit 22 = true := by decide +kernel) :
    Frame m a { u with time := x } :=
  h.trans ⟨rfl, .inr rfl, fun _ _ => rfl, .inr rfl, .inr rfl, .inr rfl, .inr rfl, .inr rfl, .inr rfl, .inr rfl, .inr rfl,
    .inr rfl, .inr rfl, .inr rfl, .inr rfl, .inr rfl, .inr rfl, .inr rfl, .inr rfl, .inr rfl, .inr rfl, .inr rfl, .inr rfl,
    .inl hm, .inr rfl, .inr rfl, .inr rfl, .inr rfl⟩

theorem Frame.on_pouts {m : Nat} {a u : State} (h : Frame m a u) (x : List POut) (hm : m.testBit 23 = true := by decide +kernel) :
    Frame m a { u with pouts := x } :=
  h.trans ⟨rfl, .inr rfl, fun _ _ => rfl, .inr rfl, .inr rfl, .inr rfl, .inr rfl, .inr rfl, .inr rfl, .inr rfl, .inr rfl,
    .inr rfl, .inr rfl, .inr rfl, .inr rfl, .inr rfl, .inr rfl, .inr rfl, .inr rfl, .inr rfl, .inr rfl, .inr rfl, .inr rfl,
    .inr rfl, .inl hm, .inr rfl, .inr rfl, .inr rfl⟩

theorem Frame.on_caps {m : Nat} {a u : State} (h : Frame m a u) (x : List CapIn) (hm : m.testBit 24 = true := by decide +kernel) :
    Frame m a { u with caps := x } :=
  h.trans ⟨rfl, .inr rfl, fun _ _ => rfl, .inr rfl, .inr rfl, .inr rfl, .inr rfl, .inr rfl, .inr rfl, .inr rfl, .inr rfl,
    .inr rfl, .inr rfl, .inr rfl, .inr rfl, .inr rfl, .inr rfl, .inr rfl, .inr rfl, .inr rfl, .inr rfl, .inr rfl, .inr rfl,
    .inr rfl, .inr rfl, .inl hm, .inr rfl, .inr rfl⟩

theorem Frame.on_free {m : Nat} {a u : State} (h : Frame m a u) (x : Nat) (hm : m.testBit 25 = true := by decide +kernel) :
    Frame m a { u with free := x } :=
  h.trans ⟨rfl, .inr rfl, fun _ _ => rfl, .inr rfl, .inr rfl, .inr rfl, .inr rfl, .inr rfl, .inr rfl, .inr rfl, .inr rfl,
    .inr rfl, .inr rfl, .inr rfl, .inr rfl, .inr rfl, .inr rfl, .inr rfl, .inr rfl, .inr rfl, .inr rfl, .inr rfl, .inr rfl,
    .inr rfl, .inr rfl, .inr rfl, .inl hm, .inr rfl⟩

theorem Frame.on_out {m : Nat} {a u : State} (h : Frame m a u) (x : List Out) (hm : m.testBit 26 = true := by decide +kernel) :
    Frame m a { u with out := x } :=
  h.trans ⟨rfl, .inr rfl, fun _ _ => rfl, .inr rfl, .inr rfl, .inr rfl, .inr rfl, .inr rfl, .inr rfl, .inr rfl, .inr rfl,
    .inr rfl, .inr rfl, .inr rfl, .inr rfl, .inr rfl, .inr rfl, .inr rfl, .inr rfl, .inr rfl, .inr rfl, .inr rfl, .inr rfl,
    .inr rfl, .inr rfl, .inr rfl, .inr rfl, .inl hm⟩


theorem State.flushSess_frame {M : Nat} {a s : State} (h : Frame M a s) (x : Sess) (os : List Outst)
    (hm : Nat.lor 0x200000000000000000000004000100 M = M := by decide +kernel) : Frame M a (s.flushSess x os) := by
  refine h.trans (Frame.mono hm ?_)
  unfold State.flushSess
  exact Frame.on_out (State.bump_frame (State.modSess_frame (Frame.refl _) ..) ..) _

theorem State.answer_frame {M : Nat} {a s : State} (h : Frame M a s) (r : Rid) (st : Nat) (p : Bytes)
    (hm : Nat.lor 0x200000000000000000000004000100 M = M := by decide +kernel) : Frame M a (s.answer r st p) := by
  unfold State.answer
  split
  · exact h
  · exact Frame.ite h (State.flushSess_frame h _ _ hm)

theorem State.answerRaw_frame {M : Nat} {a s : State} (h : Frame M a s) (r : Req) (cmd : Nat) (st : Nat) (p : Bytes)
    (hm : Nat.lor 0x4000000 M = M := by decide +kernel) : Frame M a (s.answerRaw r cmd st p) :=
  State.send_frame h _ (testBit_mono hm _ (by decide +kernel))

theorem State.refuseFrame_frame {M : Nat} {a s : State} (h : Frame M a s) (r : Req) (cmd st : Nat) (p : Bytes)
    (hm : Nat.lor 0x200000000000000000000004000100 M = M := by decide +kernel) : Frame M a (s.refuseFrame r cmd st p) := by
  unfold State.refuseFrame
  split
  · exact State.answerRaw_frame h _ _ _ _ (sub hm)
  · exact Frame.ite h (State.flushSess_frame (State.modSess_frame h _ _ (testBit_mono hm _ (by decide +kernel))) _ _ hm)

theorem State.serve_frame {M : Nat} {a s : State} (h : Frame M a s) (t : Nat) (r : Req) (cmd : Nat) (lenOk : Bool) (cls : Nat)
    (body : Rid → Sess → State → State × Reply) (hb : ∀ rid x v, Frame M v (body rid x v).1)
    (hm : Nat.lor 0x200000000000000000000004000101 M = M := by decide +kernel) : Frame M a (s.serve t r cmd lenOk cls body) := by
  unfold State.serve
  have m0 : Nat.lor 0x200000000000000000000004000100 M = M := by
    rw [← hm]
    exact (Nat.or_assoc _ _ _).symm.trans (congrArg (Nat.lor · M) (by decide +kernel))
  have h0 := State.at_frame h t (testBit_mono hm 0 (by decide +kernel))
  have hs : M.testBit 8 = true := testBit_mono hm _ (by decide +kernel)
  have ho : M.testBit 26 = true := testBit_mono hm _ (by decide +kernel)
  generalize s.at t = s at h0 ⊢
  dsimp only
  split
  · exact h0
  split
  · exact h0
  split
  · exact h0
  split
  · exact State.refuseFrame_frame h0 _ _ _ _ m0
  split
  · exact State.send_frame h0 _ ho
  next x hx =>
  split
  · exact State.refuseFrame_frame h0 _ _ _ _ m0
  split
  · exact h0
  split
  · exact State.answer_frame (State.modSess_frame h0 _ _ hs) _ _ _ m0
  split
  · exact State.answer_frame (State.modSess_frame h0 _ _ hs) _ _ _ m0
  have h2 := fun f => (State.modSess_frame h0 x.num f hs).trans (hb ⟨r.conn, x.num, cmd, r.seq, x.next⟩ x _)
  split
  · next e => exact State.answer_frame (Frame.fst e (h2 _)) _ _ _ m0
  · next e => exact Frame.fst e (h2 _)

end Sys2Proof.Machine
end

