-- ==== Sys2Proof/Laws/Frame/Ops.lean ====
section
/-! SUPPORT. What the operations of Machine/Ops.lean may change (`Frame`). -/

namespace Sys2Proof.Machine
open Obj

set_option linter.all false
set_option Elab.async false

theorem State.cutSlot_frame {M : Nat} {a s : State} (h : Frame M a s)  (hm : Nat.lor 0x2000008 M = M := by decide +kernel) :
    Frame M a (State.cutSlot s) := by
  refine h.trans (Frame.mono hm ?_)
  unfold State.cutSlot
  repeat' with_reducible first
    | exact Frame.refl _ | apply Frame.ite | apply State.fresh_frame | decide +kernel | intro _ | split
    | fail_if_no_progress refine Frame.on_nv ?_ _ | fail_if_no_progress refine Frame.mk' ?_
    | refine Frame.snd (by assumption) ?_

theorem State.modRing_frame {M : Nat} {a s : State} (h : Frame M a s) (n : Nat) (f : Ring → Ring) (hm : Nat.lor 0x1000 M = M := by decide +kernel) :
    Frame M a (State.modRing s n f) := by
  refine h.trans (Frame.mono hm ?_)
  unfold State.modRing
  repeat' with_reducible first
    | exact Frame.refl _ | apply State.modStr_frame | decide +kernel | intro _ | split

theorem State.modLaps_frame {M : Nat} {a s : State} (h : Frame M a s) (n : Nat) (f : Laps → Laps) (hm : Nat.lor 0x1000 M = M := by decide +kernel) :
    Frame M a (State.modLaps s n f) := by
  refine h.trans (Frame.mono hm ?_)
  unfold State.modLaps
  repeat' with_reducible first
    | exact Frame.refl _ | apply State.modStr_frame | decide +kernel | split

theorem State.modEst_frame {M : Nat} {a s : State} (h : Frame M a s) (n : Nat) (f : Est → Est) (hm : Nat.lor 0x1000 M = M := by decide +kernel) :
    Frame M a (State.modEst s n f) := by
  refine h.trans (Frame.mono hm ?_)
  unfold State.modEst
  repeat' with_reducible first
    | exact Frame.refl _ | apply State.modStr_frame | decide +kernel | split

theorem State.modFe_frame {M : Nat} {a s : State} (h : Frame M a s) (n : Nat) (f : Fe → Fe) (hm : Nat.lor 0x1000 M = M := by decide +kernel) :
    Frame M a (State.modFe s n f) := by
  refine h.trans (Frame.mono hm ?_)
  unfold State.modFe
  repeat' with_reducible first
    | exact Frame.refl _ | apply State.modStr_frame | decide +kernel | intro _ | split

theorem State.answerLast_frame {M : Nat} {a s : State} (h : Frame M a s) (r : Rid) (st : Nat) (p : Bytes) (hm : Nat.lor 0x200000000000000000000004000100 M = M := by decide +kernel) :
    Frame M a (State.answerLast s r st p) := by
  refine h.trans (Frame.mono hm ?_)
  unfold State.answerLast
  repeat' with_reducible first
    | exact Frame.refl _ | apply Frame.ite | apply State.answer_frame | apply State.modSess_frame | decide +kernel | intro _
    | split

theorem State.answerOpt_frame {M : Nat} {a s : State} (h : Frame M a s) (r : Option Rid) (st : Nat) (p : Bytes) (hm : Nat.lor 0x200000000000000000000004000100 M = M := by decide +kernel) :
    Frame M a (State.answerOpt s r st p) := by
  refine h.trans (Frame.mono hm ?_)
  unfold State.answerOpt
  repeat' with_reducible first
    | exact Frame.refl _ | apply State.answer_frame | decide +kernel | split

theorem State.unsolicited_frame {M : Nat} {a s : State} (h : Frame M a s) (num : Nat) (cmd : Nat) (p : Bytes) (hm : Nat.lor 0x4000100 M = M := by decide +kernel) :
    Frame M a (State.unsolicited s num cmd p) := by
  refine h.trans (Frame.mono hm ?_)
  unfold State.unsolicited
  repeat' with_reducible first
    | exact Frame.refl _ | apply State.send_frame | apply State.modSess_frame | decide +kernel | intro _ | split

theorem State.streamFrame_frame {M : Nat} {a s : State} (h : Frame M a s) (x : Sess) (q : Stream) (sflags : Nat) (data : Bytes) (hm : Nat.lor 0x6000000 M = M := by decide +kernel) :
    Frame M a (State.streamFrame s x q sflags data) := by
  refine h.trans (Frame.mono hm ?_)
  unfold State.streamFrame
  repeat' with_reducible first
    | exact Frame.refl _ | apply State.fresh_frame | apply State.send_frame | decide +kernel | split
    | refine Frame.snd (by assumption) ?_

theorem State.loseSample_frame {M : Nat} {a s : State} (h : Frame M a s) (ch : Nat) (x : Sample) (hm : Nat.lor 0x100 M = M := by decide +kernel) :
    Frame M a (State.loseSample s ch x) := by
  refine h.trans (Frame.mono hm ?_)
  unfold State.loseSample
  repeat' with_reducible first
    | exact Frame.refl _ | apply Frame.ite | apply State.mapStreams_frame | decide +kernel | intro _ | split

theorem State.loseBlock_frame {M : Nat} {a s : State} (h : Frame M a s) (o : Blk) (hm : Nat.lor 0x100 M = M := by decide +kernel) :
    Frame M a (State.loseBlock s o) := by
  refine h.trans (Frame.mono hm ?_)
  unfold State.loseBlock
  repeat' with_reducible first
    | exact Frame.refl _ | apply Frame.ite | apply State.mapStreams_frame | decide +kernel | intro _ | split

theorem State.abortStreams_frame {M : Nat} {a s : State} (h : Frame M a s) (hit : Stream → Bool) (hm : Nat.lor 0x6000100 M = M := by decide +kernel) :
    Frame M a (State.abortStreams s hit) := by
  refine h.trans (Frame.mono hm ?_)
  unfold State.abortStreams
  repeat' with_reducible first
    | exact Frame.refl _ | apply State.streamFrame_frame | decide +kernel | apply Frame.foldl | intro _ | split
    | fail_if_no_progress refine Frame.on_mbx ?_ _

theorem State.attention_frame {M : Nat} {a s : State} (h : Frame M a s) (b : Nat) (hm : Nat.lor 0x800000000000000000000000000000000000000000000000000000000000000000000000000000000000000000000000000000000000000000000000000000000000000000000000000000000000000000000400 M = M := by decide +kernel) :
    Frame M a (State.attention s b) := by
  refine h.trans (Frame.mono hm ?_)
  unfold State.attention
  repeat' with_reducible first
    | exact Frame.refl _ | apply Frame.ite | apply State.wrB_frame | decide +kernel | split
    | fail_if_no_progress refine Frame.on_i2c ?_ _

theorem State.notify_frame {M : Nat} {a s : State} (h : Frame M a s) (e : Event) (hm : Nat.lor 0x4000100 M = M := by decide +kernel) :
    Frame M a (State.notify s e) := by
  refine h.trans (Frame.mono hm ?_)
  unfold State.notify
  repeat' with_reducible first
    | exact Frame.refl _ | apply Frame.ite | apply State.unsolicited_frame | decide +kernel | apply Frame.foldl | intro _
    | split

theorem State.damagedReg_frame {M : Nat} {a s : State} (h : Frame M a s)  (hm : Nat.lor 0x800000000000000000000000000000000000000000000000000000000000000000000000 M = M := by decide +kernel) :
    Frame M a (State.damagedReg s) := by
  refine h.trans (Frame.mono hm ?_)
  unfold State.damagedReg
  repeat' with_reducible first
    | exact Frame.refl _ | apply Frame.ite | apply State.wr_frame | decide +kernel | intro _ | split

theorem State.loseEvents_frame {M : Nat} {a s : State} (h : Frame M a s)  (hm : Nat.lor 0x100 M = M := by decide +kernel) :
    Frame M a (State.loseEvents s) := by
  refine h.trans (Frame.mono hm ?_)
  unfold State.loseEvents
  repeat' with_reducible first
    | exact Frame.refl _ | apply Frame.ite | apply State.mapStreams_frame | decide +kernel | intro _ | split

theorem State.closeEventBlock_frame {M : Nat} {a s : State} (h : Frame M a s) (timeout : Bool) (holdup : Bool) (hm : Nat.lor 0x800000000000000000000000000000000000000000000000000000000000000000000300 M = M := by decide +kernel) :
    Frame M a (State.closeEventBlock s timeout holdup) := by
  refine h.trans (Frame.mono hm ?_)
  unfold State.closeEventBlock
  repeat' with_reducible first
    | exact Frame.refl _ | apply Frame.ite | apply State.loseEvents_frame | apply State.damagedReg_frame | decide +kernel
    | intro _ | split | fail_if_no_progress refine Frame.on_hist ?_ _ | fail_if_no_progress refine Frame.mk' ?_

theorem State.putEvent_frame {M : Nat} {a s : State} (h : Frame M a s) (e : Event) (hm : Nat.lor 0x800000000000000000000000000000000000000000000000000000000000000000000000000000000000000000000200800000000000000000000000000000000000000000000000000000000000000004000720 M = M := by decide +kernel) :
    Frame M a (State.putEvent s e) := by
  refine h.trans (Frame.mono hm ?_)
  unfold State.putEvent
  repeat' with_reducible first
    | exact Frame.refl _ | apply Frame.ite | apply State.closeEventBlock_frame | apply State.bump_frame
    | apply State.notify_frame | apply State.attention_frame | decide +kernel | intro _ | split
    | fail_if_no_progress refine Frame.on_hist ?_ _ | fail_if_no_progress refine Frame.on_panel ?_ _
    | fail_if_no_progress refine Frame.mk' ?_

theorem State.putLater_frame {M : Nat} {a s : State} (h : Frame M a s) (e : Event) (hm : Nat.lor 0x800000000000000000000000000000000000000000000000000000000000000000000000000000000000000000000200800000000000000000000000000000000000000000000000000000000000000004000720 M = M := by decide +kernel) :
    Frame M a (State.putLater s e) := by
  refine h.trans (Frame.mono hm ?_)
  unfold State.putLater
  repeat' with_reducible first
    | exact Frame.refl _ | apply Frame.ite | apply State.putEvent_frame | decide +kernel | intro _ | split
    | fail_if_no_progress refine Frame.on_hist ?_ _ | fail_if_no_progress refine Frame.mk' ?_

theorem State.record_frame {M : Nat} {a s : State} (h : Frame M a s) (code : Nat) (sev : Nat) (data : Bytes) (str : optParam Nat 0) (node : optParam Nat 65535) (epoch : optParam Nat 0) (hm : Nat.lor 0x800000000000000000000000000000000000000000000000000000000000000000000000000000000000000000000200800000000000000000000000000000000000000000000000000000000000000004000720 M = M := by decide +kernel) :
    Frame M a (State.record s code sev data str node epoch) := by
  refine h.trans (Frame.mono hm ?_)
  unfold State.record
  repeat' with_reducible first
    | exact Frame.refl _ | apply Frame.ite | apply State.putLater_frame | decide +kernel | intro _ | split

theorem State.settleOwed_frame {M : Nat} {a s : State} (h : Frame M a s)  (hm : Nat.lor 0x800000000000000000000000000000000000000000000000000000000000000000000000000000000000000000000200800000000000000000000000000000000000000000000000000000000000000004000720 M = M := by decide +kernel) :
    Frame M a (State.settleOwed s) := by
  refine h.trans (Frame.mono hm ?_)
  unfold State.settleOwed
  repeat' with_reducible first
    | exact Frame.refl _ | apply State.putEvent_frame | decide +kernel | apply Frame.foldl | intro _ | split
    | fail_if_no_progress refine Frame.on_hist ?_ _

theorem State.useToken_frame {M : Nat} {a s : State} (h : Frame M a s) (sess : Nat) (hm : Nat.lor 0x4a000000000000000000000000000000000000000000000000000000000000000000000000000000000000000000000000000000000000000000000000000000000000000000000000000000000000000000000000000000000000080 M = M := by decide +kernel) :
    Frame M a (State.useToken s sess) := by
  refine h.trans (Frame.mono hm ?_)
  unfold State.useToken
  repeat' with_reducible first
    | exact Frame.refl _ | apply State.wr_frame | apply State.bump_frame | decide +kernel | split
    | fail_if_no_progress refine Frame.on_sec ?_ _

end Sys2Proof.Machine
end

