-- ==== Sys2Proof/Laws/Frame/History.lean ====
section
/-! SUPPORT. What the operations of Machine/History.lean may change (`Frame`). -/

namespace Sys2Proof.Machine
open Obj

set_option linter.all false
set_option Elab.async false

theorem State.histRegs_frame {M : Nat} {a s : State} (h : Frame M a s)  (hm : Nat.lor 0x27c00000000000000000000000000000000000000000000000000000000000000000000000 M = M := by decide +kernel) :
    Frame M a (State.histRegs s) := by
  refine h.trans (Frame.mono hm ?_)
  unfold State.histRegs
  repeat' with_reducible first
    | exact Frame.refl _ | apply Frame.ite | apply State.wr_frame | apply State.damagedReg_frame | decide +kernel | intro _
    | split | dsimp only

theorem State.refitPins_frame {M : Nat} {a s : State} (h : Frame M a s)  (hm : Nat.lor 0x800000000000000000000000000000000000000000000000000000000000000000000000000000000000000000000327c00000000000000000000000000000000000000000000000000000000000000004000720 M = M := by decide +kernel) :
    Frame M a (State.refitPins s) := by
  refine h.trans (Frame.mono hm ?_)
  unfold State.refitPins
  repeat' with_reducible first
    | exact Frame.refl _ | apply State.bump_frame | apply State.histRegs_frame | apply State.record_frame | decide +kernel
    | apply Frame.foldl | intro _ | split | fail_if_no_progress refine Frame.on_hist ?_ _

theorem State.closeLapBlock_frame {M : Nat} {a s : State} (h : Frame M a s) (timeout : Bool) (holdup : Bool) (hm : Nat.lor 0x800000000000000000000000000000000000000000000000000000000000000000000000000000000000000000000327c00000000000000000000000000000000000000000000000000000000000000004000720 M = M := by decide +kernel) :
    Frame M a (State.closeLapBlock s timeout holdup) := by
  refine h.trans (Frame.mono hm ?_)
  unfold State.closeLapBlock
  repeat' with_reducible first
    | exact Frame.refl _ | apply Frame.ite | apply State.loseBlock_frame | apply State.refitPins_frame | decide +kernel
    | intro _ | split | fail_if_no_progress refine Frame.on_hist ?_ _ | fail_if_no_progress refine Frame.mk' ?_

theorem State.compressCheck_frame {M : Nat} {a s : State} (h : Frame M a s)  (hm : Nat.lor 0x800000000000000000000000000000000000000000000000000000000000000000000000000000000000000000000210800000000000000000000000000000000000000000000000000000000000000004000720 M = M := by decide +kernel) :
    Frame M a (State.compressCheck s) := by
  refine h.trans (Frame.mono hm ?_)
  unfold State.compressCheck
  repeat' with_reducible first
    | exact Frame.refl _ | apply Frame.ite | apply State.wrB_frame | apply State.record_frame | decide +kernel | intro _
    | split | fail_if_no_progress refine Frame.on_hist ?_ _ | fail_if_no_progress refine Frame.mk' ?_

theorem State.pushItem_frame {M : Nat} {a s : State} (h : Frame M a s) (item : Bytes) (time : Nat) (hm : Nat.lor 0x200 M = M := by decide +kernel) :
    Frame M a (State.pushItem s item time) := by
  refine h.trans (Frame.mono hm ?_)
  unfold State.pushItem
  repeat' with_reducible first
    | exact Frame.refl _ | apply Frame.ite | split | fail_if_no_progress refine Frame.on_hist ?_ _

theorem State.intakeSecond_frame {M : Nat} {a s : State} (h : Frame M a s)  (hm : Nat.lor 0x60000000000000000000000000000000000000000000000000000000000000000000000000000000000000000000000000000000000000000000000000000000000000000000000000000000000000000000000000000000000000000200 M = M := by decide +kernel) :
    Frame M a (State.intakeSecond s) := by
  refine h.trans (Frame.mono hm ?_)
  unfold State.intakeSecond
  repeat' with_reducible first
    | exact Frame.refl _ | apply Frame.ite | apply State.wr_frame | decide +kernel | intro _ | split
    | fail_if_no_progress refine Frame.on_hist ?_ _ | fail_if_no_progress refine Frame.mk' ?_

theorem State.countIntake_frame {M : Nat} {a s : State} (h : Frame M a s) (stored : Nat) (raw : Nat) (hm : Nat.lor 0x60000000000000000000000000000000000000000000000000000000000000000000000000000000000000000000000000000000000000000000000000000000000000000000000000000000000000000000000000000000000000000200 M = M := by decide +kernel) :
    Frame M a (State.countIntake s stored raw) := by
  refine h.trans (Frame.mono hm ?_)
  unfold State.countIntake
  repeat' with_reducible first
    | exact Frame.refl _ | apply Frame.ite | apply State.intakeSecond_frame | decide +kernel | intro _ | split
    | fail_if_no_progress refine Frame.on_hist ?_ _ | fail_if_no_progress refine Frame.mk' ?_

theorem State.writeLap_frame {M : Nat} {a s : State} (h : Frame M a s) (str : Nat) (time : Nat) (seq : Nat) (raw : Bytes) (hm : Nat.lor 0x60000000000000000000800000000000000000000000000000000000000000000000000000000000000000000000000000000000000000000337c00000000000000000000000000000000000000000000000000000000000000004000720 M = M := by decide +kernel) :
    Frame M a (State.writeLap s str time seq raw) := by
  refine h.trans (Frame.mono hm ?_)
  unfold State.writeLap
  repeat' with_reducible first
    | exact Frame.refl _ | apply Frame.ite | apply State.compressCheck_frame | apply State.closeLapBlock_frame
    | apply State.pushItem_frame | apply State.countIntake_frame | decide +kernel | split
    | fail_if_no_progress refine Frame.on_hist ?_ _

theorem State.writeGap_frame {M : Nat} {a s : State} (h : Frame M a s) (str : Nat) (time : Nat) (seq : Nat) (epoch : Nat) (hm : Nat.lor 0x60000000000000000000800000000000000000000000000000000000000000000000000000000000000000000000000000000000000000000327c00000000000000000000000000000000000000000000000000000000000000004000720 M = M := by decide +kernel) :
    Frame M a (State.writeGap s str time seq epoch) := by
  refine h.trans (Frame.mono hm ?_)
  unfold State.writeGap
  repeat' with_reducible first
    | exact Frame.refl _ | apply Frame.ite | apply State.closeLapBlock_frame | apply State.pushItem_frame
    | apply State.countIntake_frame | decide +kernel | split

theorem State.pinAround_frame {M : Nat} {a s : State} (h : Frame M a s) (at_ : Nat) (hm : Nat.lor 0x800000000000000000000000000000000000000000000000000000000000000000000000000000000000000000000327c00000000000000000000000000000000000000000000000000000000000000004000720 M = M := by decide +kernel) :
    Frame M a (State.pinAround s at_) := by
  refine h.trans (Frame.mono hm ?_)
  unfold State.pinAround
  repeat' with_reducible first
    | exact Frame.refl _ | apply Frame.ite | apply State.closeLapBlock_frame | apply State.closeEventBlock_frame
    | apply State.refitPins_frame | apply State.record_frame | decide +kernel | intro _ | split
    | fail_if_no_progress refine Frame.on_hist ?_ _ | fail_if_no_progress refine Frame.mk' ?_

theorem State.releasePins_frame {M : Nat} {a s : State} (h : Frame M a s)  (hm : Nat.lor 0x800000000000000000000000000000000000000000000000000000000000000000000000000000000000000000000227c00000000000000000000000000000000000000000000000000000000000000004000720 M = M := by decide +kernel) :
    Frame M a (State.releasePins s) := by
  refine h.trans (Frame.mono hm ?_)
  unfold State.releasePins
  repeat' with_reducible first
    | exact Frame.refl _ | apply State.histRegs_frame | apply State.record_frame | decide +kernel | apply Frame.foldl
    | intro _ | split | fail_if_no_progress refine Frame.on_hist ?_ _

theorem State.modTrace_frame0 (s : State) (c : Nat) (f : Trace → Trace) : Frame 0x2000 s (State.modTrace s c f) := by
  have h : Frame 0x2000 s s := Frame.refl s
  exact Frame.mk' h

theorem State.modTrace_frame {M : Nat} {a s : State} (h : Frame M a s) (c : Nat) (f : Trace → Trace) (hm : Nat.lor 0x2000 M = M := by decide +kernel) :
    Frame M a (State.modTrace s c f) := h.trans (Frame.mono hm (State.modTrace_frame0 s c f))

theorem State.traceRegs_frame {M : Nat} {a s : State} (h : Frame M a s) (c : Nat) (hm : Nat.lor 0x1c00000000000000000000000000000000000000000000000000000000000000000000000000 M = M := by decide +kernel) :
    Frame M a (State.traceRegs s c) := by
  refine h.trans (Frame.mono hm ?_)
  unfold State.traceRegs
  repeat' with_reducible first
    | exact Frame.refl _ | apply State.wr_frame | apply State.wrB_frame | decide +kernel | apply Frame.foldl | intro _ | split

theorem State.abortReads_frame {M : Nat} {a s : State} (h : Frame M a s) (c : Nat) (slot : Nat) (hm : Nat.lor 0x6000100 M = M := by decide +kernel) :
    Frame M a (State.abortReads s c slot) := by
  refine h.trans (Frame.mono hm ?_)
  unfold State.abortReads
  repeat' with_reducible first
    | exact Frame.refl _ | apply State.abortStreams_frame | decide +kernel | intro _ | split

theorem State.traceTrigger_frame {M : Nat} {a s : State} (h : Frame M a s) (c : Nat) (cause : Nat) (x : Sample) (hm : Nat.lor 0xe000000000000000000000000000000000000000000000000000000000000000000006002100 M = M := by decide +kernel) :
    Frame M a (State.traceTrigger s c cause x) := by
  refine h.trans (Frame.mono hm ?_)
  unfold State.traceTrigger
  repeat' with_reducible first
    | exact Frame.refl _ | apply Frame.ite | apply State.modTrace_frame | apply State.bump_frame
    | apply State.abortReads_frame | decide +kernel | apply Frame.foldl | intro _ | split | dsimp only

theorem State.traceSample_frame {M : Nat} {a s : State} (h : Frame M a s) (c : Nat) (x : Sample) (causes : Nat) (hm : Nat.lor 0xfc00000000000000000000000000000000000000000000000000000000000000000006002100 M = M := by decide +kernel) :
    Frame M a (State.traceSample s c x causes) := by
  refine h.trans (Frame.mono hm ?_)
  unfold State.traceSample
  repeat' with_reducible first
    | exact Frame.refl _ | apply Frame.ite | apply State.loseSample_frame | apply State.modTrace_frame
    | apply State.traceTrigger_frame | apply State.traceRegs_frame | decide +kernel | apply Frame.foldl | intro _ | split

theorem State.freezeCapture_frame {M : Nat} {a s : State} (h : Frame M a s) (c : Nat) (hm : Nat.lor 0x800000000000000000000000000000000000000000000000000000000000000000000000000000000000000000071e00800000000000000000000000000000000000000000000000000000000000000004002720 M = M := by decide +kernel) :
    Frame M a (State.freezeCapture s c) := by
  refine h.trans (Frame.mono hm ?_)
  unfold State.freezeCapture
  repeat' with_reducible first
    | exact Frame.refl _ | apply Frame.ite | apply State.modTrace_frame | apply State.wr_frame | apply State.record_frame
    | apply State.traceRegs_frame | decide +kernel | intro _ | split

theorem State.releaseCapture_frame {M : Nat} {a s : State} (h : Frame M a s) (c : Nat) (slot : Nat) (hm : Nat.lor 0x1c00000000000000000000000000000000000000000000000000000000000000000006002100 M = M := by decide +kernel) :
    Frame M a (State.releaseCapture s c slot) := by
  refine h.trans (Frame.mono hm ?_)
  unfold State.releaseCapture
  repeat' with_reducible first
    | exact Frame.refl _ | apply State.traceRegs_frame | apply State.modTrace_frame | apply State.abortReads_frame
    | decide +kernel | intro _ | split

theorem execBlockMaxAge_frame (t : Nat) (s : State) : ∃ u, execBlockMaxAge t s = .next u ∧ Frame 0x800000000000000000000000000000000000000000000000000000000000000000000000000000000000000000000327c00000000000000000000000000000000000000000000000000000000000000004000721 s u := by
  refine ⟨_, rfl, ?_⟩
  repeat' with_reducible first
    | exact Frame.refl _ | apply Frame.ite | apply State.at_frame | apply State.closeLapBlock_frame
    | apply State.closeEventBlock_frame | decide +kernel | intro _ | split

theorem execCaptureFrozen_frame (t : Nat) (ch : Nat) (s : State) : ∃ u, execCaptureFrozen t ch s = .next u ∧ Frame 0x800000000000000000000000000000000000000000000000000000000000000000000000000000000000000000071e00800000000000000000000000000000000000000000000000000000000000000004002721 s u := by
  refine ⟨_, rfl, ?_⟩
  repeat' with_reducible first
    | exact Frame.refl _ | apply State.freezeCapture_frame | apply State.at_frame | decide +kernel | split

theorem execTriggerTrace_frame (t : Nat) (r : Req) (p : Bytes) (s : State) : ∃ u, execTriggerTrace t r p s = .next u ∧ Frame 0x200000000000000000000004002101 s u := by
  refine ⟨_, rfl, ?_⟩
  repeat' with_reducible first
    | exact Frame.refl _ | apply Frame.ite | apply State.serve_frame | apply guarded_frame | apply State.modTrace_frame
    | decide +kernel | apply Frame.foldl | intro _ | split | refine Frame.fst (by assumption) ?_

end Sys2Proof.Machine
end

