-- ==== Sys2Proof/Laws/Frame/SecurityOps.lean ====
section
/-! SUPPORT. What the operations of Machine/SecurityOps.lean may change (`Frame`). -/

namespace Sys2Proof.Machine
open Obj

set_option linter.all false
set_option Elab.async false

theorem State.extendSlot_frame {M : Nat} {a s : State} (h : Frame M a s) (n : Nat) (item : Bytes) (hm : Nat.lor 0x700000000000000000000000000000000000000 M = M := by decide +kernel) :
    Frame M a (State.extendSlot s n item) := by
  refine h.trans (Frame.mono hm ?_)
  unfold State.extendSlot
  repeat' with_reducible first
    | exact Frame.refl _ | apply Frame.ite | apply State.wr_frame | apply State.bump_frame | apply State.stamp_frame
    | decide +kernel | split

theorem State.secChange_frame {M : Nat} {a s : State} (h : Frame M a s) (new : Nat) (cause : Nat) (sess : Nat) (hm : Nat.lor 0x38b000000000000800000000000000000000000000000000000000000000000000000000000000000000000000000000000000000000200800000000000000000000000000000000700000000000000000000000000000004000720 M = M := by decide +kernel) :
    Frame M a (State.secChange s new cause sess) := by
  refine h.trans (Frame.mono hm ?_)
  unfold State.secChange
  repeat' with_reducible first
    | exact Frame.refl _ | apply Frame.ite | apply State.wr_frame | apply State.wrB_frame | apply State.stamp_frame
    | apply State.bump_frame | apply State.extendSlot_frame | apply State.record_frame | apply State.attention_frame
    | decide +kernel | intro _ | split

end Sys2Proof.Machine
end

