-- ==== Sys2Proof/Laws/Frame/CanOps.lean ====
section
/-! SUPPORT. What the operations of Machine/CanOps.lean may change (`Frame`). -/

namespace Sys2Proof.Machine
open Obj

set_option linter.all false
set_option Elab.async false

theorem State.modBus_frame0 (s : State) (ch : Nat) (f : CanBus → CanBus) : Frame 0x40000 s (State.modBus s ch f) := by
  have h : Frame 0x40000 s s := Frame.refl s
  exact Frame.mk' h

theorem State.modBus_frame {M : Nat} {a s : State} (h : Frame M a s) (ch : Nat) (f : CanBus → CanBus) (hm : Nat.lor 0x40000 M = M := by decide +kernel) :
    Frame M a (State.modBus s ch f) := h.trans (Frame.mono hm (State.modBus_frame0 s ch f))

theorem State.canOffer_frame {M : Nat} {a s : State} (h : Frame M a s) (ch : Nat) (hm : Nat.lor 0x4040000 M = M := by decide +kernel) :
    Frame M a (State.canOffer s ch) := by
  refine h.trans (Frame.mono hm ?_)
  unfold State.canOffer
  repeat' with_reducible first
    | exact Frame.refl _ | apply Frame.ite | apply State.modBus_frame | apply State.send_frame | decide +kernel | intro _
    | split

theorem State.undelivered_frame {M : Nat} {a s : State} (h : Frame M a s) (o : Nat) (hm : Nat.lor 0x400000000000000000000000000000000000000000000000000000000000000000000000000000000000000000000000000000000000000000000000000000000000000000 M = M := by decide +kernel) :
    Frame M a (State.undelivered s o) := by
  refine h.trans (Frame.mono hm ?_)
  unfold State.undelivered
  repeat' with_reducible first
    | exact Frame.refl _ | apply Frame.ite | apply State.eachStr_frame | apply State.wrB_frame | decide +kernel | intro _
    | split

theorem State.canDrop_frame {M : Nat} {a s : State} (h : Frame M a s) (o : Nat) (hm : Nat.lor 0x600000000000000000000000000400000000000000000000000000000000000000000000000000000000000000000000000000000000000000000000000000000000000000000000000000000000000000000 M = M := by decide +kernel) :
    Frame M a (State.canDrop s o) := by
  refine h.trans (Frame.mono hm ?_)
  unfold State.canDrop
  repeat' with_reducible first
    | exact Frame.refl _ | apply State.undelivered_frame | apply State.wr_frame | apply State.wrB_frame | decide +kernel
    | split

theorem State.canIntegrate_frame {M : Nat} {a s : State} (h : Frame M a s) (ch : Nat) (hm : Nat.lor 0xe000000000000000000000000000000000000000000000000000000000000000000000000000000000000000000000000000000000000000000000000000000000000000000000000000000000000000 M = M := by decide +kernel) :
    Frame M a (State.canIntegrate s ch) := by
  refine h.trans (Frame.mono hm ?_)
  unfold State.canIntegrate
  repeat' with_reducible first
    | exact Frame.refl _ | apply Frame.ite | apply State.wr_frame | decide +kernel | intro _ | split

theorem State.canLeave_frame {M : Nat} {a s : State} (h : Frame M a s) (ch : Nat) (hm : Nat.lor 0x60000e000000000000000000000400000000000000000000000000000000000000000000000000000000000000000000000000000000000000000000000000000000000000000000000000000000000040000 M = M := by decide +kernel) :
    Frame M a (State.canLeave s ch) := by
  refine h.trans (Frame.mono hm ?_)
  unfold State.canLeave
  repeat' with_reducible first
    | exact Frame.refl _ | apply Frame.ite | apply State.modBus_frame | apply State.canDrop_frame | apply State.wr_frame
    | apply State.canIntegrate_frame | decide +kernel | apply Frame.foldl | intro _ | split

theorem State.canStop_frame {M : Nat} {a s : State} (h : Frame M a s) (ch : Nat) (hm : Nat.lor 0x60000e000000000000000000000400000000000000000000000000000000000000000000000000000000000000000000000000000000000000000000000000000000000000000000000000000000000040000 M = M := by decide +kernel) :
    Frame M a (State.canStop s ch) := by
  refine h.trans (Frame.mono hm ?_)
  unfold State.canStop
  repeat' with_reducible first
    | exact Frame.refl _ | apply Frame.ite | apply State.modBus_frame | apply State.canLeave_frame | decide +kernel | intro _
    | split

theorem State.canStart_frame {M : Nat} {a s : State} (h : Frame M a s) (ch : Nat) (hm : Nat.lor 0xe000000000000000000000000000000000000000000000000000000000000000000000000000000000000000000000000000000000000000000000000000000000000000000000000000000000000000 M = M := by decide +kernel) :
    Frame M a (State.canStart s ch) := by
  refine h.trans (Frame.mono hm ?_)
  unfold State.canStart
  repeat' with_reducible first
    | exact Frame.refl _ | apply Frame.ite | apply State.canIntegrate_frame | decide +kernel | intro _ | split

theorem State.bothNets_frame {M : Nat} {a s : State} (h : Frame M a s) (a_ : Nat) (b : Nat) (port : Nat) (bytes : Bytes) (hm : Nat.lor 0x4000000 M = M := by decide +kernel) :
    Frame M a (State.bothNets s a_ b port bytes) := by
  refine h.trans (Frame.mono hm ?_)
  unfold State.bothNets
  repeat' with_reducible first
    | exact Frame.refl _ | apply Frame.ite | apply State.send_frame | decide +kernel | split

theorem State.fallbackSend_frame {M : Nat} {a s : State} (h : Frame M a s) (o : Nat) (d : Bytes) (hm : Nat.lor 0x8000000000000000000000000000000000000000000000000000000000000000000000000000000000000000000000000000000000000000000000000000000000000000000000000000000000004040000 M = M := by decide +kernel) :
    Frame M a (State.fallbackSend s o d) := by
  refine h.trans (Frame.mono hm ?_)
  unfold State.fallbackSend
  repeat' with_reducible first
    | exact Frame.refl _ | apply Frame.ite | apply State.modBus_frame | apply State.bothNets_frame | apply State.bump_frame
    | decide +kernel | intro _ | split

theorem State.fallbackEnter_frame {M : Nat} {a s : State} (h : Frame M a s) (ch : Nat) (hm : Nat.lor 0x8000000000000000000000000000000000000000000000000000000000000000000000000000000000000000000000000000000000000000000000000000000000000000000000000000000000004040000 M = M := by decide +kernel) :
    Frame M a (State.fallbackEnter s ch) := by
  refine h.trans (Frame.mono hm ?_)
  unfold State.fallbackEnter
  repeat' with_reducible first
    | exact Frame.refl _ | apply State.modBus_frame | apply State.fallbackSend_frame | decide +kernel | apply Frame.foldl
    | intro _ | split

theorem State.canContent_frame {M : Nat} {a s : State} (h : Frame M a s) (o : Nat) (data : Bytes) (hm : Nat.lor 0x50600000000000000000000000000400000000000000000000000000000000000000000000000000000000000000000000000000000000000000000000000000000000000000000000000000000000004040000 M = M := by decide +kernel) :
    Frame M a (State.canContent s o data) := by
  refine h.trans (Frame.mono hm ?_)
  unfold State.canContent
  repeat' with_reducible first
    | exact Frame.refl _ | apply Frame.ite | apply State.wr_frame | apply State.canDrop_frame | apply State.undelivered_frame
    | apply State.bump_frame | apply State.modBus_frame | apply State.wrB_frame | apply State.canOffer_frame | decide +kernel
    | intro _ | split

end Sys2Proof.Machine
end

