-- ==== Sys2Proof/Laws/Frame/Pcs.lean ====
section
/-! SUPPORT. What the operations of Machine/Pcs.lean may change (`Frame`). -/

namespace Sys2Proof.Machine
open Obj

set_option linter.all false
set_option Elab.async false

theorem State.modChan_frame0 (s : State) (c : Nat) (f : Chan → Chan) : Frame 0x80000 s (State.modChan s c f) := by
  have h : Frame 0x80000 s s := Frame.refl s
  exact Frame.mk' h

theorem State.modChan_frame {M : Nat} {a s : State} (h : Frame M a s) (c : Nat) (f : Chan → Chan) (hm : Nat.lor 0x80000 M = M := by decide +kernel) :
    Frame M a (State.modChan s c f) := h.trans (Frame.mono hm (State.modChan_frame0 s c f))

theorem State.outReg_frame {M : Nat} {a s : State} (h : Frame M a s) (c : Nat) (hm : Nat.lor 0x40000000000000000000000000000000000000000000000000000000000000000000000000000000000000000000000000000000000000000000000000000000 M = M := by decide +kernel) :
    Frame M a (State.outReg s c) := by
  refine h.trans (Frame.mono hm ?_)
  unfold State.outReg
  repeat' with_reducible first
    | exact Frame.refl _ | apply State.wrI_frame | decide +kernel | split

theorem State.chanFrame_frame {M : Nat} {a s : State} (h : Frame M a s) (c : Nat) (hm : Nat.lor 0x506000000000000000000000000004000000000000000000000000000000000000000000000000000000000000000000000000000000000000000000000000000000000000000000000000000000000040c0000 M = M := by decide +kernel) :
    Frame M a (State.chanFrame s c) := by
  refine h.trans (Frame.mono hm ?_)
  unfold State.chanFrame
  repeat' with_reducible first
    | exact Frame.refl _ | apply Frame.ite | apply State.modChan_frame | apply State.canContent_frame | decide +kernel
    | intro _ | split

theorem State.followOutput_frame {M : Nat} {a s : State} (h : Frame M a s) (c : Nat) (hm : Nat.lor 0x40000000000000000000000000000000000000000000000000000000000000000000000000000000000000000000000000000000000000000000000000080000 M = M := by decide +kernel) :
    Frame M a (State.followOutput s c) := by
  refine h.trans (Frame.mono hm ?_)
  unfold State.followOutput
  repeat' with_reducible first
    | exact Frame.refl _ | apply State.outReg_frame | apply State.modChan_frame | decide +kernel | apply Frame.foldl | intro _
    | split

theorem State.clampNow_frame {M : Nat} {a s : State} (h : Frame M a s) (n : Nat) (hm : Nat.lor 0x506000000000000000000000000004000000001c20000000000000000000000000000000000000000000000000000000000000000000000000000000000000000000000000000000000000000000000040c0000 M = M := by decide +kernel) :
    Frame M a (State.clampNow s n) := by
  refine h.trans (Frame.mono hm ?_)
  unfold State.clampNow
  repeat' with_reducible first
    | exact Frame.refl _ | apply Frame.ite | apply State.wrI_frame | apply State.followOutput_frame | apply State.outReg_frame
    | apply State.wrB_frame | apply State.modChan_frame | apply State.chanFrame_frame | decide +kernel | apply Frame.foldl
    | intro _ | split

theorem State.dispatchFrame_frame {M : Nat} {a s : State} (h : Frame M a s) (n : Nat) (hm : Nat.lor 0x5060000000000000000000000005e4c0000000000000000000000000000000000000000000000000000000000000000000000000000000000000000000000000000000000000000000000000000000004040000 M = M := by decide +kernel) :
    Frame M a (State.dispatchFrame s n) := by
  refine h.trans (Frame.mono hm ?_)
  unfold State.dispatchFrame
  repeat' with_reducible first
    | exact Frame.refl _ | apply Frame.ite | apply State.wrB_frame | apply State.bump_frame | apply State.wr_frame
    | apply State.stamp_frame | apply State.canContent_frame | apply State.bothNets_frame | decide +kernel | intro _ | split

theorem State.localClamp_frame {M : Nat} {a s : State} (h : Frame M a s) (n : Nat) (hm : Nat.lor 0x21010000000000000000000000000000000000000000000000000000000000000000000000000000000000000000000000000000000000000000000000000000000000000000 M = M := by decide +kernel) :
    Frame M a (State.localClamp s n).1 := by
  refine h.trans (Frame.mono hm ?_)
  unfold State.localClamp
  dsimp only
  repeat' with_reducible first
    | exact Frame.refl _ | apply Frame.ite | apply State.bump_frame | apply State.wrB_frame | apply State.wrI_frame
    | decide +kernel | split

theorem State.limitsReleased_frame {M : Nat} {a s : State} (h : Frame M a s) (n : Nat) (hm : Nat.lor 0x5060000000000000000000000007f4d00000001c20000000000000000000000000000000000000000000000000000000000000000000000000000000000000000000000000000000000000000000000040c0000 M = M := by decide +kernel) :
    Frame M a (State.limitsReleased s n) := by
  refine h.trans (Frame.mono hm ?_)
  unfold State.limitsReleased
  repeat' with_reducible first
    | exact Frame.refl _ | apply Frame.ite | apply State.clampNow_frame | apply State.localClamp_frame
    | apply State.dispatchFrame_frame | decide +kernel | split | refine Frame.fst (by assumption) ?_

theorem State.pcsClosed_frame {M : Nat} {a s : State} (h : Frame M a s) (n : Nat) (hm : Nat.lor 0x5060000000000000000000000005e4c00000001c20000000000000000000000000000000000000000000000000000000000000000000000000000000000000000000000000000000000000000000000040c0000 M = M := by decide +kernel) :
    Frame M a (State.pcsClosed s n) := by
  refine h.trans (Frame.mono hm ?_)
  unfold State.pcsClosed
  repeat' with_reducible first
    | exact Frame.refl _ | apply State.dispatchFrame_frame | apply State.clampNow_frame | decide +kernel | split

end Sys2Proof.Machine
end

