-- ==== Sys2Proof/Laws/Frame/RoleOps.lean ====
section
/-! SUPPORT. What the operations of Machine/RoleOps.lean may change (`Frame`). -/

namespace Sys2Proof.Machine
open Obj

set_option linter.all false
set_option Elab.async false

theorem State.sendPeer_frame {M : Nat} {a s : State} (h : Frame M a s) (kind : Nat) (body : Bytes) (hm : Nat.lor 0x4100000 M = M := by decide +kernel) :
    Frame M a (State.sendPeer s kind body) := by
  refine h.trans (Frame.mono hm ?_)
  unfold State.sendPeer
  repeat' with_reducible first
    | exact Frame.refl _ | apply Frame.ite | apply State.bothNets_frame | decide +kernel | split
    | fail_if_no_progress refine Frame.on_blk ?_ _

theorem State.sendAnnounce_frame {M : Nat} {a s : State} (h : Frame M a s) (resigning : Bool) (hm : Nat.lor 0x4100000 M = M := by decide +kernel) :
    Frame M a (State.sendAnnounce s resigning) := by
  refine h.trans (Frame.mono hm ?_)
  unfold State.sendAnnounce
  repeat' with_reducible first
    | exact Frame.refl _ | apply State.sendPeer_frame | decide +kernel | intro _ | split

theorem State.sendCandidate_frame {M : Nat} {a s : State} (h : Frame M a s)  (hm : Nat.lor 0x4100000 M = M := by decide +kernel) :
    Frame M a (State.sendCandidate s) := by
  refine h.trans (Frame.mono hm ?_)
  unfold State.sendCandidate
  repeat' with_reducible first
    | exact Frame.refl _ | apply State.sendPeer_frame | decide +kernel | split

theorem State.clampAll_frame {M : Nat} {a s : State} (h : Frame M a s)  (hm : Nat.lor 0x506000000000000000000000000004000000001c20000000000000000000000000000000000000000000000000000000000000000000000000000000000000000000000000000000000000000000000040c0000 M = M := by decide +kernel) :
    Frame M a (State.clampAll s) := by
  refine h.trans (Frame.mono hm ?_)
  unfold State.clampAll
  repeat' with_reducible first
    | exact Frame.refl _ | apply State.eachStr_frame | apply State.clampNow_frame | decide +kernel | intro _ | split

theorem State.forgetManager_frame {M : Nat} {a s : State} (h : Frame M a s)  (hm : Nat.lor 0x5060000000000000000000000005e4d00000001c20000000000000000000000000000000000000000000000000000000000000000000000000000000000000000000000000000000000000000000000040c0000 M = M := by decide +kernel) :
    Frame M a (State.forgetManager s) := by
  refine h.trans (Frame.mono hm ?_)
  unfold State.forgetManager
  repeat' with_reducible first
    | exact Frame.refl _ | apply State.eachStr_frame | apply State.dispatchFrame_frame | apply State.clampNow_frame
    | apply State.wr_frame | decide +kernel | intro _ | split

theorem State.beginHold_frame {M : Nat} {a s : State} (h : Frame M a s)  (hm : Nat.lor 0x800000000000000000000000000000000000000000000000000000000000000000000000000000000000000000000000000000000000000000000000000000100000 M = M := by decide +kernel) :
    Frame M a (State.beginHold s) := by
  refine h.trans (Frame.mono hm ?_)
  unfold State.beginHold
  repeat' with_reducible first
    | exact Frame.refl _ | apply Frame.ite | apply State.wrB_frame | decide +kernel | split
    | fail_if_no_progress refine Frame.on_blk ?_ _

theorem State.knowManager_frame {M : Nat} {a s : State} (h : Frame M a s)  (hm : Nat.lor 0x506000000000000000000000000004000000001c20000000000000000000000000000000000000000000000000000000000000000000000000000000000000000000000000000000000000000000000041c0000 M = M := by decide +kernel) :
    Frame M a (State.knowManager s) := by
  refine h.trans (Frame.mono hm ?_)
  unfold State.knowManager
  repeat' with_reducible first
    | exact Frame.refl _ | apply Frame.ite | apply State.clampAll_frame | decide +kernel | split
    | fail_if_no_progress refine Frame.on_blk ?_ _

theorem State.clearManagerRegs_frame {M : Nat} {a s : State} (h : Frame M a s)  (hm : Nat.lor 0x646000000000000000000000000000000000000000000000000000000000000000000000000000000000000000000000000000000000000000000000000000000000000 M = M := by decide +kernel) :
    Frame M a (State.clearManagerRegs s) := by
  refine h.trans (Frame.mono hm ?_)
  unfold State.clearManagerRegs
  repeat' with_reducible first
    | exact Frame.refl _ | apply State.wrB_frame | apply State.wr_frame | decide +kernel | split

theorem State.setRole_frame {M : Nat} {a s : State} (h : Frame M a s) (r : Nat) (hm : Nat.lor 0x800000000000000000000000000000000000080000000000000000000000000000000000000000000000000000000000000000000000000000000000000000000000000000000000000000000000000000000400 M = M := by decide +kernel) :
    Frame M a (State.setRole s r) := by
  refine h.trans (Frame.mono hm ?_)
  unfold State.setRole
  repeat' with_reducible first
    | exact Frame.refl _ | apply Frame.ite | apply State.attention_frame | apply State.wr_frame | decide +kernel | split

theorem State.discover_frame {M : Nat} {a s : State} (h : Frame M a s) (listen : Nat) (hm : Nat.lor 0x800000000000000000000000000000000656180000000000000000000000000000000000000000000000000000000000000000000000000000000000000000000000000000000000000000000000000000100400 M = M := by decide +kernel) :
    Frame M a (State.discover s listen) := by
  refine h.trans (Frame.mono hm ?_)
  unfold State.discover
  repeat' with_reducible first
    | exact Frame.refl _ | apply State.wr_frame | apply State.setRole_frame | apply State.clearManagerRegs_frame
    | decide +kernel | split | fail_if_no_progress refine Frame.on_blk ?_ _

theorem State.loseManager_frame {M : Nat} {a s : State} (h : Frame M a s)  (hm : Nat.lor 0x800000000000000000000000000000001656980000000000000000000000000000000000000000000000000000000200800000000000000000000000000000000000000000000000000000000000000004100720 M = M := by decide +kernel) :
    Frame M a (State.loseManager s) := by
  refine h.trans (Frame.mono hm ?_)
  unfold State.loseManager
  repeat' with_reducible first
    | exact Frame.refl _ | apply State.record_frame | apply State.discover_frame | apply State.beginHold_frame
    | apply State.bump_frame | decide +kernel | split

theorem State.resign_frame {M : Nat} {a s : State} (h : Frame M a s)  (hm : Nat.lor 0x800000000000000000000000000000000656980000000000000000000000000000000000000000000000000000000200800000000000000000000000000000000000000000000000000000000000000004100720 M = M := by decide +kernel) :
    Frame M a (State.resign s) := by
  refine h.trans (Frame.mono hm ?_)
  unfold State.resign
  repeat' with_reducible first
    | exact Frame.refl _ | apply State.sendAnnounce_frame | apply State.record_frame | apply State.discover_frame
    | apply State.beginHold_frame | decide +kernel | split

theorem State.roleCheck_frame {M : Nat} {a s : State} (h : Frame M a s)  (hm : Nat.lor 0x800000000000000000000000000000000656d80000000000000000000000000000000000000000000000000000000200800000000000000000000000000000000000000000000000000000000000000004100720 M = M := by decide +kernel) :
    Frame M a (State.roleCheck s) := by
  refine h.trans (Frame.mono hm ?_)
  unfold State.roleCheck
  repeat' with_reducible first
    | exact Frame.refl _ | apply Frame.ite | apply State.wrB_frame | apply State.resign_frame | decide +kernel | split

theorem State.adopt_frame {M : Nat} {a s : State} (h : Frame M a s) (id : Nat) (pref : Nat) (epoch : Nat) (hm : Nat.lor 0x8506000000000000000000000000004046561801c20000000000000000000000000000000000000000000000000002008000000000000000000000000000000000000000000000000000000000000000041c0720 M = M := by decide +kernel) :
    Frame M a (State.adopt s id pref epoch) := by
  refine h.trans (Frame.mono hm ?_)
  unfold State.adopt
  repeat' with_reducible first
    | exact Frame.refl _ | apply Frame.ite | apply State.clearManagerRegs_frame | apply State.record_frame
    | apply State.stamp_frame | apply State.wr_frame | apply State.setRole_frame | apply State.knowManager_frame
    | decide +kernel | split | fail_if_no_progress refine Frame.on_blk ?_ _

theorem State.openEpoch_frame {M : Nat} {a s : State} (h : Frame M a s)  (hm : Nat.lor 0x4010000000000000000000000000000000000000000000000000000000000000000000000000000000000000000000000000000000000000000000000000000000100000 M = M := by decide +kernel) :
    Frame M a (State.openEpoch s) := by
  refine h.trans (Frame.mono hm ?_)
  unfold State.openEpoch
  repeat' with_reducible first
    | exact Frame.refl _ | apply State.stamp_frame | apply State.wr_frame | decide +kernel | split
    | fail_if_no_progress refine Frame.on_blk ?_ _

theorem State.gainRole_frame {M : Nat} {a s : State} (h : Frame M a s)  (hm : Nat.lor 0x8506000000000000000000000000004041981801c20000000000000000000000000000000000000000000000000002008000000000000000000000000000000000000000000000000000000000000000041c0720 M = M := by decide +kernel) :
    Frame M a (State.gainRole s) := by
  refine h.trans (Frame.mono hm ?_)
  unfold State.gainRole
  repeat' with_reducible first
    | exact Frame.refl _ | apply Frame.ite | apply State.openEpoch_frame | apply State.wr_frame | apply State.setRole_frame
    | apply State.wrB_frame | apply State.knowManager_frame | apply State.sendAnnounce_frame | apply State.record_frame
    | decide +kernel | split | fail_if_no_progress refine Frame.on_blk ?_ _

end Sys2Proof.Machine
end

