-- ==== Sys2Proof/Laws/Frame/Protection.lean ====
section
/-! SUPPORT. What the operations of Machine/Protection.lean may change (`Frame`). -/

namespace Sys2Proof.Machine
open Obj

set_option linter.all false
set_option Elab.async false

theorem State.imdOne_frame {M : Nat} {a s : State} (h : Frame M a s) (n : Nat) (hm : Nat.lor 0xa838000000000000000000000000000000000000000000000000000000000000000000000000000000001000 M = M := by decide +kernel) :
    Frame M a (State.imdOne s n) := by
  refine h.trans (Frame.mono hm ?_)
  unfold State.imdOne
  repeat' with_reducible first
    | exact Frame.refl _ | apply Frame.ite | apply State.wrB_frame | apply State.wr_frame | apply State.modStr_frame
    | decide +kernel | intro _ | split

theorem State.imdSync_frame {M : Nat} {a s : State} (h : Frame M a s)  (hm : Nat.lor 0xa838000000000000000000000000000000000000000000000000000000000000000000000000000000001000 M = M := by decide +kernel) :
    Frame M a (State.imdSync s) := by
  refine h.trans (Frame.mono hm ?_)
  unfold State.imdSync
  repeat' with_reducible first
    | exact Frame.refl _ | apply State.eachStr_frame | apply State.imdOne_frame | decide +kernel | intro _ | split

theorem State.coilRegs_frame {M : Nat} {a s : State} (h : Frame M a s) (n : Nat) (hm : Nat.lor 0x380000000000000000000000000000000000000000000000000000000000000000000000000000000000000000000000000000000000 M = M := by decide +kernel) :
    Frame M a (State.coilRegs s n) := by
  refine h.trans (Frame.mono hm ?_)
  unfold State.coilRegs
  repeat' with_reducible first
    | exact Frame.refl _ | apply State.wrB_frame | decide +kernel | split

theorem State.coilOn_frame {M : Nat} {a s : State} (h : Frame M a s) (n : Nat) (c : Nat) (hm : Nat.lor 0x38000000000000000000a838000000000000000000000000000000000000000000000000000000000000000000000000000004001000 M = M := by decide +kernel) :
    Frame M a (State.coilOn s n c) := by
  refine h.trans (Frame.mono hm ?_)
  unfold State.coilOn
  repeat' with_reducible first
    | exact Frame.refl _ | apply Frame.ite | apply State.modProt_frame | apply State.modStr_frame | apply State.imdSync_frame
    | apply State.coilRegs_frame | apply State.send_frame | decide +kernel | intro _ | split

theorem State.coilOff_frame {M : Nat} {a s : State} (h : Frame M a s) (n : Nat) (c : Nat) (hm : Nat.lor 0x38000000000000000000a838000000000000000000000000000000000000000000000000000000000000000000000000000004001000 M = M := by decide +kernel) :
    Frame M a (State.coilOff s n c) := by
  refine h.trans (Frame.mono hm ?_)
  unfold State.coilOff
  repeat' with_reducible first
    | exact Frame.refl _ | apply Frame.ite | apply State.modProt_frame | apply State.modStr_frame | apply State.imdSync_frame
    | apply State.coilRegs_frame | apply State.send_frame | decide +kernel | intro _ | split

theorem State.testsOpened_frame {M : Nat} {a s : State} (h : Frame M a s) (n : Nat) (hm : Nat.lor 0x2000000000000000000000000000000000000000000000000000000000000000001000 M = M := by decide +kernel) :
    Frame M a (State.testsOpened s n) := by
  refine h.trans (Frame.mono hm ?_)
  unfold State.testsOpened
  repeat' with_reducible first
    | exact Frame.refl _ | apply Frame.ite | apply State.wrB_frame | apply State.modRing_frame | decide +kernel
    | apply Frame.foldl | intro _ | split

theorem State.allOff_frame {M : Nat} {a s : State} (h : Frame M a s) (n : Nat) (hm : Nat.lor 0x38000000000000000000a838000000000000002000000000000000000000000000000000000000000000000000000000000004001000 M = M := by decide +kernel) :
    Frame M a (State.allOff s n) := by
  refine h.trans (Frame.mono hm ?_)
  unfold State.allOff
  repeat' with_reducible first
    | exact Frame.refl _ | apply Frame.ite | apply State.coilOff_frame | apply State.testsOpened_frame | decide +kernel
    | intro _ | split

theorem State.loopOut_frame {M : Nat} {a s : State} (h : Frame M a s)  (hm : Nat.lor 0x80000000000000000800 M = M := by decide +kernel) :
    Frame M a (State.loopOut s) := by
  refine h.trans (Frame.mono hm ?_)
  unfold State.loopOut
  repeat' with_reducible first
    | exact Frame.refl _ | apply Frame.ite | apply State.wrB_frame | decide +kernel | split
    | fail_if_no_progress refine Frame.on_safe ?_ _

theorem State.zeroSetpoint_frame {M : Nat} {a s : State} (h : Frame M a s) (n : Nat) (hm : Nat.lor 0x10000000000000000000000000000000000000000000000000000000000000000000000000000000000000000000000000000000000000000000000000000000000000000 M = M := by decide +kernel) :
    Frame M a (State.zeroSetpoint s n) := by
  refine h.trans (Frame.mono hm ?_)
  unfold State.zeroSetpoint
  repeat' with_reducible first
    | exact Frame.refl _ | apply State.wr_frame | decide +kernel | split

theorem State.noteInhibit_frame {M : Nat} {a s : State} (h : Frame M a s) (n : Nat) (hm : Nat.lor 0x800000000000000000000000000000000000000000000000000000000000800000000000000000000000000000000200800000000000000000000000000000000000000000000000000000000000000004000720 M = M := by decide +kernel) :
    Frame M a (State.noteInhibit s n) := by
  refine h.trans (Frame.mono hm ?_)
  unfold State.noteInhibit
  repeat' with_reducible first
    | exact Frame.refl _ | apply Frame.ite | apply State.record_frame | apply State.wr_frame | decide +kernel | split

theorem State.debugSettle_frame {M : Nat} {a s : State} (h : Frame M a s)  (hm : Nat.lor 0x38b0000000000008000000000000000000000000000000000000000000000000000000000008000000000000000000000000000000002008000000000000000000000000000000007000000002000000000000000000000040007a0 M = M := by decide +kernel) :
    Frame M a (State.debugSettle s) := by
  refine h.trans (Frame.mono hm ?_)
  unfold State.debugSettle
  repeat' with_reducible first
    | exact Frame.refl _ | apply Frame.ite | apply State.secChange_frame | apply State.answerOpt_frame
    | apply State.eachStr_frame | apply State.noteInhibit_frame | decide +kernel | intro _ | split
    | fail_if_no_progress refine Frame.on_sec ?_ _

theorem State.endClosing_frame {M : Nat} {a s : State} (h : Frame M a s) (n : Nat) (st : Nat) (p : Bytes) (hm : Nat.lor 0x40000000000000000000000000000000000000000000000000000000000000000000000000000200000000000000000000004001100 M = M := by decide +kernel) :
    Frame M a (State.endClosing s n st p) := by
  refine h.trans (Frame.mono hm ?_)
  unfold State.endClosing
  repeat' with_reducible first
    | exact Frame.refl _ | apply State.modProt_frame | apply State.answerOpt_frame | apply State.wr_frame | decide +kernel
    | intro _ | split

theorem State.endOpening_frame {M : Nat} {a s : State} (h : Frame M a s) (n : Nat) (st : Nat) (p : Bytes) (hm : Nat.lor 0x200000000000000000000004001100 M = M := by decide +kernel) :
    Frame M a (State.endOpening s n st p) := by
  refine h.trans (Frame.mono hm ?_)
  unfold State.endOpening
  repeat' with_reducible first
    | exact Frame.refl _ | apply State.modProt_frame | apply State.answer_frame | decide +kernel | apply Frame.foldl | intro _
    | split

theorem State.openNow_frame {M : Nat} {a s : State} (h : Frame M a s) (n : Nat) (cause : Nat) (hm : Nat.lor 0x38b00000000000085060000000000000000000000005e4d00000001c2000000000000000000be000000000000000000a8380000000002008020000000000000000000000000000007000000002000000000000000000000040c17a0 M = M := by decide +kernel) :
    Frame M a (State.openNow s n cause) := by
  refine h.trans (Frame.mono hm ?_)
  unfold State.openNow
  repeat' with_reducible first
    | exact Frame.refl _ | apply Frame.ite | apply State.allOff_frame | apply State.zeroSetpoint_frame | apply State.wr_frame
    | apply State.pcsClosed_frame | apply State.endClosing_frame | apply State.endOpening_frame | apply State.modProt_frame
    | apply State.record_frame | apply State.debugSettle_frame | decide +kernel | intro _ | split

theorem State.openAll_frame {M : Nat} {a s : State} (h : Frame M a s) (cause : Nat) (hm : Nat.lor 0x38b00000000000085060000000000000000000000005e4d00000001c2000000000000000000be000000000000000000a8380000000002008020000000000000000000000000000007000000002000000000000000000000040c17a0 M = M := by decide +kernel) :
    Frame M a (State.openAll s cause) := by
  refine h.trans (Frame.mono hm ?_)
  unfold State.openAll
  repeat' with_reducible first
    | exact Frame.refl _ | apply State.eachStr_frame | apply State.openNow_frame | decide +kernel | intro _ | split

theorem State.refresh_frame {M : Nat} {a s : State} (h : Frame M a s) (n : Nat) (hm : Nat.lor 0x38b00000000000085060000000000000000000000005e4d00000001c2000000000000000000be000000000000000000a8380000000002008020000000000000000000000000000007000000002000000000000000000000040c17a0 M = M := by decide +kernel) :
    Frame M a (State.refresh s n) := by
  refine h.trans (Frame.mono hm ?_)
  unfold State.refresh
  repeat' with_reducible first
    | exact Frame.refl _ | apply Frame.ite | apply State.noteInhibit_frame | apply State.openNow_frame | decide +kernel
    | split

theorem State.refreshAll_frame {M : Nat} {a s : State} (h : Frame M a s)  (hm : Nat.lor 0x38b00000000000085060000000000000000000000005e4d00000001c2000000000000000000be000000000000000000a8380000000002008020000000000000000000000000000007000000002000000000000000000000040c17a0 M = M := by decide +kernel) :
    Frame M a (State.refreshAll s) := by
  refine h.trans (Frame.mono hm ?_)
  unfold State.refreshAll
  repeat' with_reducible first
    | exact Frame.refl _ | apply State.eachStr_frame | apply State.refresh_frame | decide +kernel | intro _ | split

theorem State.setSecurity_frame {M : Nat} {a s : State} (h : Frame M a s) (new : Nat) (cause : Nat) (sess : Nat) (hm : Nat.lor 0x38b00000000000085060000000000000000000000005e4d00000001c2000000000000000000be000000000000000000a8380000000002008020000000000000000000000000000007000000002000000000000000000000040c17a0 M = M := by decide +kernel) :
    Frame M a (State.setSecurity s new cause sess) := by
  refine h.trans (Frame.mono hm ?_)
  unfold State.setSecurity
  repeat' with_reducible first
    | exact Frame.refl _ | apply State.refreshAll_frame | apply State.secChange_frame | decide +kernel | split

theorem State.writeTrip_frame {M : Nat} {a s : State} (h : Frame M a s) (e : Nat) (n : Nat) (cause : Nat) (i : TripInfo) (second : Bool) (hm : Nat.lor 0x3ffff80000000000000000000000000000000000000000000000000000000000000000000000000000000000000000000000000000000000000000 M = M := by decide +kernel) :
    Frame M a (State.writeTrip s e n cause i second) := by
  refine h.trans (Frame.mono hm ?_)
  unfold State.writeTrip
  repeat' with_reducible first
    | exact Frame.refl _ | apply Frame.ite | apply State.wr_frame | apply State.wrB_frame | apply State.stamp_frame
    | decide +kernel | split

theorem State.storeTrips_frame0 (s : State) (e : Nat) : Frame 0x8 s (State.storeTrips s e) := by
  have h : Frame 0x8 s s := Frame.refl s
  unfold State.storeTrips
  split
  · exact h
  · exact Frame.mk' h

theorem State.storeTrips_frame {M : Nat} {a s : State} (h : Frame M a s) (e : Nat) (hm : Nat.lor 0x8 M = M := by decide +kernel) :
    Frame M a (State.storeTrips s e) := h.trans (Frame.mono hm (State.storeTrips_frame0 s e))

theorem State.trip_frame {M : Nat} {a s : State} (h : Frame M a s) (n : Nat) (cause : Nat) (i : optParam TripInfo TripInfo.plain) (hm : Nat.lor 0x38b00000000000085060000000000000000000000005e4d00000001c2000000003ffff80016fe000000000000000000a838000000000327c020000000000000000000000000000007000000002000000000800000000000040c1fa8 M = M := by decide +kernel) :
    Frame M a (State.trip s n cause i) := by
  refine h.trans (Frame.mono hm ?_)
  unfold State.trip
  repeat' with_reducible first
    | exact Frame.refl _ | apply Frame.ite | apply State.allOff_frame | apply State.zeroSetpoint_frame | apply State.wr_frame
    | apply State.writeTrip_frame | apply State.pcsClosed_frame | apply State.bump_frame | apply State.stamp_frame
    | apply State.modProt_frame | apply State.storeTrips_frame | apply State.record_frame | apply State.endClosing_frame
    | apply State.endOpening_frame | apply State.pinAround_frame | apply State.attention_frame | apply State.loopOut_frame
    | apply State.debugSettle_frame | decide +kernel | intro _ | split

theorem State.setDiag_frame {M : Nat} {a s : State} (h : Frame M a s) (n : Nat) (flag : Nat) (b : Bool) (node : optParam Nat 65535) (hm : Nat.lor 0x38b00000000000085060000000000000000000000005e4d00000001c2000000003ffff80017fe000000000000000000a838000000000327c020000000000000000000000000000007000000002000000000800000000000040c1fa8 M = M := by decide +kernel) :
    Frame M a (State.setDiag s n flag b node) := by
  refine h.trans (Frame.mono hm ?_)
  unfold State.setDiag
  repeat' with_reducible first
    | exact Frame.refl _ | apply Frame.ite | apply State.modProt_frame | apply State.wr_frame | apply State.trip_frame
    | apply State.refresh_frame | decide +kernel | intro _ | split

end Sys2Proof.Machine
end

