-- ==== Sys2Proof/Laws/Frame/Contactors.lean ====
section
/-! SUPPORT. What the operations of Machine/Contactors.lean may change (`Frame`). -/

namespace Sys2Proof.Machine
open Obj

set_option linter.all false
set_option Elab.async false

theorem State.weldUnchecked_frame {M : Nat} {a s : State} (h : Frame M a s) (n : Nat) (contactor : Nat) (hm : Nat.lor 0x800000000000000000000000000000000000000000000000000000000040000000000000000000000000000000000200800000000000000000000000000000000000000000000000000000000000000004001720 M = M := by decide +kernel) :
    Frame M a (State.weldUnchecked s n contactor) := by
  refine h.trans (Frame.mono hm ?_)
  unfold State.weldUnchecked
  repeat' with_reducible first
    | exact Frame.refl _ | apply State.modProt_frame | apply State.record_frame | apply State.bump_frame | decide +kernel
    | intro _ | split

theorem State.enterClosed_frame {M : Nat} {a s : State} (h : Frame M a s) (n : Nat) (hm : Nat.lor 0x85060000000000000000000000005e4c00000001c20000000000000004890600000000000000000000000000000002008000000000000000000000000000000000000000002000000000000000000000040c1720 M = M := by decide +kernel) :
    Frame M a (State.enterClosed s n) := by
  refine h.trans (Frame.mono hm ?_)
  unfold State.enterClosed
  repeat' with_reducible first
    | exact Frame.refl _ | apply Frame.ite | apply State.wr_frame | apply State.bump_frame | apply State.stamp_frame
    | apply State.pcsClosed_frame | apply State.record_frame | apply State.modProt_frame | apply State.answerOpt_frame
    | decide +kernel | intro _ | split

theorem State.precharged_frame {M : Nat} {a s : State} (h : Frame M a s) (n : Nat) (hm : Nat.lor 0x1000 M = M := by decide +kernel) :
    Frame M a (State.precharged s n) := by
  refine h.trans (Frame.mono hm ?_)
  unfold State.precharged
  repeat' with_reducible first
    | exact Frame.refl _ | apply Frame.ite | apply State.modProt_frame | decide +kernel | intro _ | split

theorem State.closingGo_frame {M : Nat} {a s : State} (h : Frame M a s) (n : Nat) (k : Nat) (act : State → State)
    (ha : ∀ v, Frame M v (act v)) (hm : Nat.lor 0x38b00000000000085060000000000000000000000005e4d00000001c2000000000000000000be000000000000000000a8380000000002008020000000000000000000000000000007000000002000000000000000000000040c17a0 M = M := by decide +kernel) : Frame M a (State.closingGo s n k act) := by
  unfold State.closingGo
  exact Frame.ite (State.openNow_frame h _ _ (sub hm)) ((State.wr_frame h _ _ _ _ (hasFld_mono hm)).trans (ha _))

theorem State.pickUp_frame {M : Nat} {a s : State} (h : Frame M a s) (n : Nat) (c : Nat) (hm : Nat.lor 0x38000000000000000000a838000000000000000000000000000000000000000000000000000000000000000000000000000004001000 M = M := by decide +kernel) :
    Frame M a (State.pickUp s n c) := by
  refine h.trans (Frame.mono hm ?_)
  unfold State.pickUp
  repeat' with_reducible first
    | exact Frame.refl _ | apply Frame.ite | apply State.coilOn_frame | apply State.modProt_frame | decide +kernel | intro _
    | split

theorem State.closeWithPre_frame {M : Nat} {a s : State} (h : Frame M a s) (n : Nat) (hm : Nat.lor 0x38b00000000000085060000000000000000000000005e4d00000001c2000000003ffff804dffe000000000000000000a838000000000327c020000000000000000000000000000007000000002000000000800000000000040c1fa8 M = M := by decide +kernel) :
    Frame M a (State.closeWithPre s n) := by
  refine h.trans (Frame.mono hm ?_)
  unfold State.closeWithPre
  repeat' with_reducible first
    | exact Frame.refl _ | apply Frame.ite | apply State.closingGo_frame | apply State.pickUp_frame
    | apply State.modProt_frame | apply State.trip_frame | apply State.weldUnchecked_frame | apply State.precharged_frame
    | apply State.coilOff_frame | apply State.enterClosed_frame | decide +kernel | intro _ | split | dsimp only

theorem State.closeNoPre_frame {M : Nat} {a s : State} (h : Frame M a s) (n : Nat) (hm : Nat.lor 0x38b00000000000085060000000000000000000000005e4d00000001c20000000000000004c9be000000000000000000a8380000000002008020000000000000000000000000000007000000002000000000000000000000040c17a0 M = M := by decide +kernel) :
    Frame M a (State.closeNoPre s n) := by
  refine h.trans (Frame.mono hm ?_)
  unfold State.closeNoPre
  repeat' with_reducible first
    | exact Frame.refl _ | apply Frame.ite | apply State.closingGo_frame | apply State.weldUnchecked_frame
    | apply State.pickUp_frame | apply State.enterClosed_frame | decide +kernel | intro _ | split

theorem execCloseString_frame (t : Nat) (r : Req) (p : Bytes) (s : State) : ∃ u, execCloseString t r p s = .next u ∧ Frame 0x60000000000000000000000000000000000000000000000000000000000000000000000000000200000000000000000000004001101 s u := by
  refine ⟨_, rfl, ?_⟩
  dsimp only
  repeat' with_reducible first
    | exact Frame.refl _ | apply Frame.ite | apply State.serve_frame | apply State.wr_frame | apply State.modProt_frame
    | decide +kernel | intro _ | split

theorem execClosingStep_frame (t : Nat) (str : Nat) (s : State) : ∃ u, execClosingStep t str s = .next u ∧ Frame 0x38b00000000000085060000000000000000000000005e4d00000001c2000000003ffff804dffe000000000000000000a838000000000327c020000000000000000000000000000007000000002000000000800000000000040c1fa9 s u := by
  refine ⟨_, rfl, ?_⟩
  repeat' with_reducible first
    | exact Frame.refl _ | apply Frame.ite | apply State.at_frame | apply State.closeWithPre_frame
    | apply State.closeNoPre_frame | decide +kernel | split

theorem execPrechargeFail_frame (t : Nat) (str : Nat) (s : State) : ∃ u, execPrechargeFail t str s = .next u ∧ Frame 0x38b00000000000085060000000000000000000000005e4d00000001c2000000003ffff80016fe000000000000000000a838000000000327c020000000000000000000000000000007000000002000000000800000000000040c1fa9 s u := by
  refine ⟨_, rfl, ?_⟩
  repeat' with_reducible first
    | exact Frame.refl _ | apply Frame.ite | apply State.precharged_frame | apply State.at_frame | apply State.trip_frame
    | decide +kernel | split

theorem State.startOpening_frame {M : Nat} {a s : State} (h : Frame M a s) (n : Nat) (hm : Nat.lor 0x5060000000000000000000000005e4d00000001c20000000000000001000200000000000000000000000000000000000000000000000000000000000000000000000000000000000000000000000000040c1000 M = M := by decide +kernel) :
    Frame M a (State.startOpening s n) := by
  refine h.trans (Frame.mono hm ?_)
  unfold State.startOpening
  repeat' with_reducible first
    | exact Frame.refl _ | apply Frame.ite | apply State.zeroSetpoint_frame | apply State.pcsClosed_frame
    | apply State.wr_frame | apply State.bump_frame | apply State.modProt_frame | decide +kernel | intro _ | split

theorem State.openingDone_frame {M : Nat} {a s : State} (h : Frame M a s) (n : Nat) (hm : Nat.lor 0x38b0000000000008000000000000000000000000000000000000000000000000000000000008200000000000000000000000000000002008000000000000000000000000000000007000000002000000000000000000000040017a0 M = M := by decide +kernel) :
    Frame M a (State.openingDone s n) := by
  refine h.trans (Frame.mono hm ?_)
  unfold State.openingDone
  repeat' with_reducible first
    | exact Frame.refl _ | apply Frame.ite | apply State.wr_frame | apply State.modProt_frame | apply State.record_frame
    | apply State.debugSettle_frame | apply State.endOpening_frame | decide +kernel | intro _ | split

theorem execOpenString_frame (t : Nat) (r : Req) (p : Bytes) (s : State) : ∃ u, execOpenString t r p s = .next u ∧ Frame 0x38b00000000000085060000000000000000000000005e4d00000001c2000000000000000100be000000000000000000a8380000000002008020000000000000000000000000000007000000002000000000000000000000040c17a1 s u := by
  refine ⟨_, rfl, ?_⟩
  dsimp only
  repeat' with_reducible first
    | exact Frame.refl _ | apply Frame.ite | apply State.serve_frame | apply State.openNow_frame
    | apply State.startOpening_frame | apply State.modProt_frame | decide +kernel | intro _ | split

theorem execOpenWait_frame (t : Nat) (str : Nat) (s : State) : ∃ u, execOpenWait t str s = .next u ∧ Frame 0x38000000000000000000a838000000000000000000000000000000000000000000000000000000000000000000000000000004001001 s u := by
  refine ⟨_, rfl, ?_⟩
  repeat' with_reducible first
    | exact Frame.refl _ | apply Frame.ite | apply State.at_frame | apply State.modProt_frame | apply State.coilOff_frame
    | decide +kernel | intro _ | split

theorem execNegCoilOff_frame (t : Nat) (str : Nat) (s : State) : ∃ u, execNegCoilOff t str s = .next u ∧ Frame 0x38b000000000000800000000000000000000000000000000000000000000000000000000000ba000000000000000000a8380000000002008000000000000000000000000000000007000000002000000000000000000000040017a1 s u := by
  refine ⟨_, rfl, ?_⟩
  repeat' with_reducible first
    | exact Frame.refl _ | apply Frame.ite | apply State.at_frame | apply State.openingDone_frame | apply State.modProt_frame
    | apply State.coilOff_frame | decide +kernel | intro _ | split

theorem State.judgeCoil_frame {M : Nat} {a s : State} (h : Frame M a s) (n : Nat) (c : Nat) (hm : Nat.lor 0x38b00000000000085060000000000000000000000005e4d00000001c2000000003ffff80016fe000000000000000000a838000000000327c020000000000000000000000000000007000000002000000000800000000000040c1fa8 M = M := by decide +kernel) :
    Frame M a (State.judgeCoil s n c) := by
  refine h.trans (Frame.mono hm ?_)
  unfold State.judgeCoil
  repeat' with_reducible first
    | exact Frame.refl _ | apply Frame.ite | apply State.modProt_frame | apply State.trip_frame | decide +kernel | intro _
    | split

theorem State.coilCurrent_frame {M : Nat} {a s : State} (h : Frame M a s) (n : Nat) (c : Nat) (ma : Nat) (hm : Nat.lor 0x38b00000000000085060000000000000000000000005e4d00000001c2000000003ffff80016fe000000000000000000a838000000000327c020000000000000000000000000000007000000002000000000800000000000040c1fa8 M = M := by decide +kernel) :
    Frame M a (State.coilCurrent s n c ma) := by
  refine h.trans (Frame.mono hm ?_)
  unfold State.coilCurrent
  repeat' with_reducible first
    | exact Frame.refl _ | apply Frame.ite | apply State.modProt_frame | apply State.trip_frame | decide +kernel | intro _
    | split

theorem State.superviseCoil_frame {M : Nat} {a s : State} (h : Frame M a s) (n : Nat) (c : Nat) (ma : Nat) (hm : Nat.lor 0x38b00000000000085060000000000000000000000005e4d00000001c2000000003ffff80016fe000000000000000000a838000000000327c020000000000000000000000000000007000000002000000000800000000000040c1fa8 M = M := by decide +kernel) :
    Frame M a (State.superviseCoil s n c ma) := by
  refine h.trans (Frame.mono hm ?_)
  unfold State.superviseCoil
  repeat' with_reducible first
    | exact Frame.refl _ | apply Frame.ite | apply State.coilCurrent_frame | apply State.modProt_frame
    | apply State.trip_frame | decide +kernel | intro _ | split

theorem execMirrorContactChange_frame (t : Nat) (str : Nat) (mirrors : Nat) (iPos : Nat) (iNeg : Nat) (iPre : Nat) (s : State) : ∃ u, execMirrorContactChange t str mirrors iPos iNeg iPre s = .next u ∧ Frame 0x38b00000000000085060000000000000000000000005e4d00000001c2000000003ffff80016fe000000000000000000a838000000000327c020000000000000000000000000000007000000002000007700800000000000040c1fa9 s u := by
  refine ⟨_, rfl, ?_⟩
  repeat' with_reducible first
    | exact Frame.refl _ | apply Frame.ite | apply State.at_frame | apply State.wrB_frame | apply State.wr_frame
    | apply State.imdSync_frame | apply State.superviseCoil_frame | apply State.openingDone_frame | decide +kernel | split

theorem execPulseTests_frame (t : Nat) (str : Nat) (coil : Nat) (read : PulseRead) (s : State) : ∃ u, execPulseTests t str coil read s = .next u ∧ Frame 0x38b00000000000085060000000000000000000000005e4d00000001c2000000003ffff80036fe000000000000000000a838000000000327c020000000000000000000000000000007000000002000000000800000000000040c1fa9 s u := by
  refine ⟨_, rfl, ?_⟩
  repeat' with_reducible first
    | exact Frame.refl _ | apply Frame.ite | apply State.at_frame | apply State.modProt_frame | apply State.send_frame
    | apply State.trip_frame | apply State.bump_frame | decide +kernel | intro _ | split

theorem execOffCoilReadback_frame (t : Nat) (str : Nat) (reads : Nat) (s : State) : ∃ u, execOffCoilReadback t str reads s = .next u ∧ Frame 0x38b00000000000085060000000000000000000000005e4d00000001c2000000003ffff80016fe000000000000000000a838000000000327c020000000000000000000000000000007000000002000000000800000000000040c1fa9 s u := by
  refine ⟨_, rfl, ?_⟩
  repeat' with_reducible first
    | exact Frame.refl _ | apply Frame.ite | apply State.at_frame | apply State.modProt_frame | apply State.trip_frame
    | decide +kernel | intro _ | split

theorem execCoilShort_frame (t : Nat) (str : Nat) (coil : Nat) (s : State) : ∃ u, execCoilShort t str coil s = .next u ∧ Frame 0x38b00000000000085060000000000000000000000005e4d00000001c2000000003ffff80016fe000000000000000000a838000000000327c020000000000000000000000000000007000000002000000000800000000000040c1fa9 s u := by
  refine ⟨_, rfl, ?_⟩
  repeat' with_reducible first
    | exact Frame.refl _ | apply Frame.ite | apply State.at_frame | apply State.trip_frame | apply State.coilOff_frame
    | decide +kernel | split

end Sys2Proof.Machine
end

