-- ==== Sys2Proof/Laws/Frame/FrontTrips.lean ====
section
/-! SUPPORT. What the operations of Machine/FrontTrips.lean may change (`Frame`). -/

namespace Sys2Proof.Machine
open Obj

set_option linter.all false
set_option Elab.async false

theorem State.classifyTrip_frame {M : Nat} {a s : State} (h : Frame M a s) (str : Nat) (hm : Nat.lor 0xfc000000000000000000000000000000000000000000000000000000000000000000000000000000000000000000000000000000000000001008 M = M := by decide +kernel) :
    Frame M a (State.classifyTrip s str) := by
  refine h.trans (Frame.mono hm ?_)
  unfold State.classifyTrip
  repeat' with_reducible first
    | exact Frame.refl _ | apply Frame.ite | apply State.modProt_frame | apply State.wr_frame | apply State.wrB_frame
    | apply State.storeTrips_frame | decide +kernel | intro _ | split

theorem State.loopCurrent_frame {M : Nat} {a s : State} (h : Frame M a s) (str : Nat) (i : Nat) (hm : Nat.lor 0x38b00000000000085060000000000000000000000005e4d00000001c2000000003ffff80016fe000000000000000000a838000000000327c020000000000000000000000000000007000000002000000880800000000000040c1fa8 M = M := by decide +kernel) :
    Frame M a (State.loopCurrent s str i) := by
  refine h.trans (Frame.mono hm ?_)
  unfold State.loopCurrent
  repeat' with_reducible first
    | exact Frame.refl _ | apply Frame.ite | apply State.wr_frame | apply State.wrB_frame | apply State.refresh_frame
    | apply State.trip_frame | apply State.modProt_frame | decide +kernel | intro _ | split

theorem execFaultLoopOpen_frame (t : Nat) (str : Nat) (i : Nat) (s : State) : ∃ u, execFaultLoopOpen t str i s = .next u ∧ Frame 0x38b00000000000085060000000000000000000000005e4d00000001c2000000003ffff80016fe000000000000000000a838000000000327c020000000000000000000000000000007000000002000000880800000000000040c1fa9 s u := by
  refine ⟨_, rfl, ?_⟩
  repeat' with_reducible first
    | exact Frame.refl _ | apply Frame.ite | apply State.at_frame | apply State.loopCurrent_frame | decide +kernel | intro _
    | split

theorem execFaultLoopClosed_frame (t : Nat) (str : Nat) (i : Nat) (s : State) : ∃ u, execFaultLoopClosed t str i s = .next u ∧ Frame 0x38b00000000000085060000000000000000000000005e4d00000001c2000000003ffff80016fe000000000000000000a838000000000327c020000000000000000000000000000007000000002000000880800000000000040c1fa9 s u := by
  refine ⟨_, rfl, ?_⟩
  repeat' with_reducible first
    | exact Frame.refl _ | apply Frame.ite | apply State.at_frame | apply State.loopCurrent_frame | decide +kernel | intro _
    | split

theorem execFastOc_frame (t : Nat) (str : Nat) (v : Int) (s : State) : ∃ u, execFastOc t str v s = .next u ∧ Frame 0x38b00000000000085060000000000000000000000005e4d00000001c2000000003ffff80016fe000000000000000000a838000000000327c020000000000000000000000000000007000000002000000000800000000000040c1fa9 s u := by
  refine ⟨_, rfl, ?_⟩
  repeat' with_reducible first
    | exact Frame.refl _ | apply Frame.ite | apply State.at_frame | apply State.modProt_frame | apply State.trip_frame
    | decide +kernel | intro _ | split

theorem State.beatTrip_frame {M : Nat} {a s : State} (h : Frame M a s) (n : Nat) (hm : Nat.lor 0x38b00000000000085060000000000000000000000005e4d00000001c2000000003ffff80016fe000000000000000000a838000000000327c020000000000000000000000000000007000000002000000000800000000000040c1fa8 M = M := by decide +kernel) :
    Frame M a (State.beatTrip s n) := by
  refine h.trans (Frame.mono hm ?_)
  unfold State.beatTrip
  repeat' with_reducible first
    | exact Frame.refl _ | apply Frame.ite | apply State.modProt_frame | apply State.trip_frame | decide +kernel | intro _
    | split

theorem State.sendBeat_frame {M : Nat} {a s : State} (h : Frame M a s) (n : Nat) (hm : Nat.lor 0x4001000 M = M := by decide +kernel) :
    Frame M a (State.sendBeat s n) := by
  refine h.trans (Frame.mono hm ?_)
  unfold State.sendBeat
  repeat' with_reducible first
    | exact Frame.refl _ | apply Frame.ite | apply State.send_frame | apply State.modProt_frame | decide +kernel | intro _
    | split

theorem execHeartbeat_frame (t : Nat) (str : Nat) (beat : Beat) (s : State) : ∃ u, execHeartbeat t str beat s = .next u ∧ Frame 0x38b00000000000085060000000000000000000000005e4d00000001c2000000003ffff80016fe000000000000000000a838000000000327c020000000000000000000000000000007000000002000000000800000000000040c1fa9 s u := by
  refine ⟨_, rfl, ?_⟩
  repeat' with_reducible first
    | exact Frame.refl _ | apply Frame.ite | apply State.at_frame | apply State.beatTrip_frame | apply State.sendBeat_frame
    | apply State.modProt_frame | decide +kernel | intro _ | split

end Sys2Proof.Machine
end

