-- ==== Sys2Proof/Laws/Frame/Ledger.lean ====
section
/-! SUPPORT. What the operations of Machine/Ledger.lean may change (`Frame`). -/

namespace Sys2Proof.Machine
open Obj

set_option linter.all false
set_option Elab.async false

theorem State.ledgerRegs_frame {M : Nat} {a s : State} (h : Frame M a s)  (hm : Nat.lor 0x7000000000000000000000000000000000000000000000000000000000000000000000000000000000000000000000000000000 M = M := by decide +kernel) :
    Frame M a (State.ledgerRegs s) := by
  refine h.trans (Frame.mono hm ?_)
  unfold State.ledgerRegs
  repeat' with_reducible first
    | exact Frame.refl _ | apply State.wr_frame | decide +kernel | intro _ | split

theorem State.putEntry_frame {M : Nat} {a s : State} (h : Frame M a s) (e : Entry) (hm : Nat.lor 0x10000 M = M := by decide +kernel) :
    Frame M a (State.putEntry s e) := by
  refine h.trans (Frame.mono hm ?_)
  unfold State.putEntry
  repeat' with_reducible first
    | exact Frame.refl _ | split | fail_if_no_progress refine Frame.on_ledger ?_ _

theorem State.applyEntry_frame {M : Nat} {a s : State} (h : Frame M a s) (n : Nat) (e : Entry) (hm : Nat.lor 0x800000000000000000000000000000000000000000000000000000000000000000000000000000000000000000000200800000000000000000000000000000000000000000000000000000000000000004010720 M = M := by decide +kernel) :
    Frame M a (State.applyEntry s n e) := by
  refine h.trans (Frame.mono hm ?_)
  unfold State.applyEntry
  repeat' with_reducible first
    | exact Frame.refl _ | apply Frame.ite | apply State.putEntry_frame | apply State.record_frame | decide +kernel | split

theorem State.compareEntries_frame {M : Nat} {a s : State} (h : Frame M a s) (n : Nat) (hm : Nat.lor 0x800000000000000000000000000000000000000000000000000000000000000007000000000000000000000000000200800000000000000000000000000000000000000000000000000000000000000004010720 M = M := by decide +kernel) :
    Frame M a (State.compareEntries s n) := by
  refine h.trans (Frame.mono hm ?_)
  unfold State.compareEntries
  repeat' with_reducible first
    | exact Frame.refl _ | apply State.ledgerRegs_frame | apply State.applyEntry_frame | decide +kernel | apply Frame.foldl
    | intro _ | split

theorem State.authEntries_frame {M : Nat} {a s : State} (h : Frame M a s) (n : Nat) (serial : Nat) (chans : List Nat) (hm : Nat.lor 0x800000000000000000000000000000000000000000000000000000000000000007000000000000000000000000000200800000000000000000000000000000000000000000000000000000000000000004010720 M = M := by decide +kernel) :
    Frame M a (State.authEntries s n serial chans) := by
  refine h.trans (Frame.mono hm ?_)
  unfold State.authEntries
  repeat' with_reducible first
    | exact Frame.refl _ | apply Frame.ite | apply State.ledgerRegs_frame | apply State.applyEntry_frame
    | apply State.putEntry_frame | decide +kernel | apply Frame.foldl | intro _ | split

theorem State.unuseEntries_frame {M : Nat} {a s : State} (h : Frame M a s) (n : Nat) (serials : List Nat) (hm : Nat.lor 0x7000000000000000000000000000000000000000000000000000000000000000000000000000000000000000000000000010000 M = M := by decide +kernel) :
    Frame M a (State.unuseEntries s n serials) := by
  refine h.trans (Frame.mono hm ?_)
  unfold State.unuseEntries
  repeat' with_reducible first
    | exact Frame.refl _ | apply Frame.ite | apply State.ledgerRegs_frame | decide +kernel | split
    | fail_if_no_progress refine Frame.on_ledger ?_ _

theorem State.failEntries_frame {M : Nat} {a s : State} (h : Frame M a s) (serial : Nat) (hm : Nat.lor 0x7000000000000000000000000000000000000000000000000000000000000000000000000000000000000000000000000010000 M = M := by decide +kernel) :
    Frame M a (State.failEntries s serial) := by
  refine h.trans (Frame.mono hm ?_)
  unfold State.failEntries
  repeat' with_reducible first
    | exact Frame.refl _ | apply State.ledgerRegs_frame | apply State.putEntry_frame | decide +kernel | apply Frame.foldl
    | intro _ | split | fail_if_no_progress refine Frame.on_ledger ?_ _

theorem State.restoreCheck_frame {M : Nat} {a s : State} (h : Frame M a s)  (hm : Nat.lor 0x8000000000000000000000000000000000000000000000000000000000000000081000000000000000000000000000000010000 M = M := by decide +kernel) :
    Frame M a (State.restoreCheck s) := by
  refine h.trans (Frame.mono hm ?_)
  unfold State.restoreCheck
  repeat' with_reducible first
    | exact Frame.refl _ | apply Frame.ite | apply State.stamp_frame | apply State.wr_frame | apply State.bump_frame
    | decide +kernel | intro _ | split | fail_if_no_progress refine Frame.on_ledger ?_ _

theorem State.pendingLap_frame {M : Nat} {a s : State} (h : Frame M a s) (n : Nat) (hm : Nat.lor 0x800000000000000000000000000000000000000000000000000000000000000007000000000000000000000000000200800000000000000000000000000000000000000000000000000000000000000004010720 M = M := by decide +kernel) :
    Frame M a (State.pendingLap s n) := by
  refine h.trans (Frame.mono hm ?_)
  unfold State.pendingLap
  repeat' with_reducible first
    | exact Frame.refl _ | apply Frame.ite | apply State.ledgerRegs_frame | apply State.applyEntry_frame | decide +kernel
    | apply Frame.foldl | intro _ | split | fail_if_no_progress refine Frame.on_ledger ?_ _

theorem State.restoreLap_frame {M : Nat} {a s : State} (h : Frame M a s) (n : Nat) (at_ : Nat) (hm : Nat.lor 0x80000000000000000000000000000000000000000000000000000000000000000f000000000000000000000000000200800000000000000000000000000000000081000000000000000000000000000004011720 M = M := by decide +kernel) :
    Frame M a (State.restoreLap s n at_) := by
  refine h.trans (Frame.mono hm ?_)
  unfold State.restoreLap
  repeat' with_reducible first
    | exact Frame.refl _ | apply Frame.ite | apply State.modStr_frame | apply State.applyEntry_frame
    | apply State.restoreCheck_frame | apply State.ledgerRegs_frame | decide +kernel | apply Frame.foldl | intro _ | split
    | fail_if_no_progress refine Frame.on_ledger ?_ _

end Sys2Proof.Machine
end

