-- ==== Sys2Proof/Laws/Frame/SafeTelegram.lean ====
section
/-! SUPPORT. What the operations of Machine/SafeTelegram.lean may change (`Frame`). -/

namespace Sys2Proof.Machine
open Obj

set_option linter.all false
set_option Elab.async false

theorem execSafeLoopInOpen_frame (t : Nat) (i : Nat) (s : State) : ∃ u, execSafeLoopInOpen t i s = .next u ∧ Frame 0x38b00000000000085060000000000000000000000005e4d00000001c2000000000000000000be000000000000000000a8380000000002008020000000000000000000000000000007000000002000000009800000000000040c1fa1 s u := by
  refine ⟨_, rfl, ?_⟩
  repeat' with_reducible first
    | exact Frame.refl _ | apply Frame.ite | apply State.at_frame | apply State.wrB_frame | apply State.wr_frame
    | apply State.refreshAll_frame | apply State.loopOut_frame | decide +kernel | split

theorem execSafeLoopOriginHold_frame (t : Nat) (s : State) : ∃ u, execSafeLoopOriginHold t s = .next u ∧ Frame 0x80000000000000000801 s u := by
  refine ⟨_, rfl, ?_⟩
  repeat' with_reducible first
    | exact Frame.refl _ | apply Frame.ite | apply State.at_frame | apply State.loopOut_frame | decide +kernel | split
    | fail_if_no_progress refine Frame.on_safe ?_ _

theorem State.startTelegrams_frame {M : Nat} {a s : State} (h : Frame M a s)  (hm : Nat.lor 0x800 M = M := by decide +kernel) :
    Frame M a (State.startTelegrams s) := by
  refine h.trans (Frame.mono hm ?_)
  unfold State.startTelegrams
  repeat' with_reducible first
    | exact Frame.refl _ | apply Frame.ite | split | fail_if_no_progress refine Frame.on_safe ?_ _

theorem execSafeStatusTelegram_frame (t : Nat) (s : State) : ∃ u, execSafeStatusTelegram t s = .next u ∧ Frame 0x4000801 s u := by
  refine ⟨_, rfl, ?_⟩
  repeat' with_reducible first
    | exact Frame.refl _ | apply Frame.ite | apply State.at_frame | apply State.send_frame | decide +kernel | intro _ | split
    | fail_if_no_progress refine Frame.on_safe ?_ _ | fail_if_no_progress refine Frame.mk' ?_

theorem State.discardEvent_frame {M : Nat} {a s : State} (h : Frame M a s)  (hm : Nat.lor 0x800000000000000000000000000000000000000000000000000000000000000000000000000000000000000000000200800000000000000000000000000000000000000000000000000000000000000004000f20 M = M := by decide +kernel) :
    Frame M a (State.discardEvent s) := by
  refine h.trans (Frame.mono hm ?_)
  unfold State.discardEvent
  repeat' with_reducible first
    | exact Frame.refl _ | apply Frame.ite | apply State.record_frame | decide +kernel | split
    | fail_if_no_progress refine Frame.on_safe ?_ _

theorem State.countSingle_frame {M : Nat} {a s : State} (h : Frame M a s)  (hm : Nat.lor 0x800000000000000000000000000000000000000000000000000000008000000000000000000000000000000000000200800000000000000000000000000000000000000000000000000000000000000004000f20 M = M := by decide +kernel) :
    Frame M a (State.countSingle s) := by
  refine h.trans (Frame.mono hm ?_)
  unfold State.countSingle
  repeat' with_reducible first
    | exact Frame.refl _ | apply State.bump_frame | apply State.discardEvent_frame | decide +kernel | split
    | fail_if_no_progress refine Frame.on_safe ?_ _

theorem State.expireCopy_frame {M : Nat} {a s : State} (h : Frame M a s) (net : Nat) (at20 : Bool) (hm : Nat.lor 0x800000000000000000000000000000000000000000000000000000008000000000000000000000000000000000000200800000000000000000000000000000000000000000000000000000000000000004000f20 M = M := by decide +kernel) :
    Frame M a (State.expireCopy s net at20) := by
  refine h.trans (Frame.mono hm ?_)
  unfold State.expireCopy
  repeat' with_reducible first
    | exact Frame.refl _ | apply Frame.ite | apply State.countSingle_frame | decide +kernel | split
    | fail_if_no_progress refine Frame.on_safe ?_ _

theorem State.safeCmdString_frame {M : Nat} {a s : State} (h : Frame M a s) (n : Nat) (trips : Nat) (enables : Nat) (hm : Nat.lor 0x38b00000000000085060000000000000000000000005e4d00000001c2000000000000000000be000000000000000000a8380000000002008020000000000000000000000000000007000000002000000000000000000000040c17a0 M = M := by decide +kernel) :
    Frame M a (State.safeCmdString s n trips enables) := by
  refine h.trans (Frame.mono hm ?_)
  unfold State.safeCmdString
  repeat' with_reducible first
    | exact Frame.refl _ | apply Frame.ite | apply State.modProt_frame | apply State.refresh_frame | decide +kernel | intro _
    | split

theorem State.acceptSafeCmd_frame {M : Nat} {a s : State} (h : Frame M a s) (b : Bytes) (hm : Nat.lor 0x38b00000000000085060000000000000000000000005e4d00000001c2000000000000060000be000000000000000000a8380000000002008020000000000000000000000000000007000000002000000000800000000000040c1fa0 M = M := by decide +kernel) :
    Frame M a (State.acceptSafeCmd s b) := by
  refine h.trans (Frame.mono hm ?_)
  unfold State.acceptSafeCmd
  repeat' with_reducible first
    | exact Frame.refl _ | apply Frame.ite | apply State.bump_frame | apply State.discardEvent_frame
    | apply State.record_frame | apply State.loopOut_frame | apply State.eachStr_frame | apply State.safeCmdString_frame
    | decide +kernel | intro _ | split | fail_if_no_progress refine Frame.on_safe ?_ _

theorem execSafeCommand_frame (t : Nat) (net : Nat) (src : Nat) (port : Nat) (b : Bytes) (s : State) : ∃ u, execSafeCommand t net src port b s = .next u ∧ Frame 0x38b00000000000085060000000000000000000000005e4d00000001c200000000000007e000be000000000000000000a8380000000002008020000000000000000000000000000007000000002000000000800000000000040c1fa1 s u := by
  refine ⟨_, rfl, ?_⟩
  dsimp only
  repeat' with_reducible first
    | exact Frame.refl _ | apply Frame.ite | apply State.at_frame | apply State.expireCopy_frame
    | apply State.countSingle_frame | apply State.acceptSafeCmd_frame | apply State.bump_frame
    | apply State.discardEvent_frame | decide +kernel | split | fail_if_no_progress refine Frame.on_safe ?_ _

theorem execSafeCmdSingle_frame (t : Nat) (net : Nat) (s : State) : ∃ u, execSafeCmdSingle t net s = .next u ∧ Frame 0x800000000000000000000000000000000000000000000000000000008000000000000000000000000000000000000200800000000000000000000000000000000000000000000000000000000000000004000f21 s u := by
  refine ⟨_, rfl, ?_⟩
  repeat' with_reducible first
    | exact Frame.refl _ | apply Frame.ite | apply State.at_frame | apply State.discardEvent_frame
    | apply State.expireCopy_frame | decide +kernel | split

theorem execEnableMissing_frame (t : Nat) (str : Nat) (s : State) : ∃ u, execEnableMissing t str s = .next u ∧ Frame 0x38b00000000000085060000000000000000000000005e4d00000001c2000000000000000000be000000000000000000a8380000000002008020000000000000000000000000000007000000002000000000000000000000040c17a1 s u := by
  refine ⟨_, rfl, ?_⟩
  repeat' with_reducible first
    | exact Frame.refl _ | apply Frame.ite | apply State.at_frame | apply State.refresh_frame | apply State.modProt_frame
    | decide +kernel | intro _ | split

end Sys2Proof.Machine
end

