-- ==== Sys2Proof/Laws/Frame/PowerOps.lean ====
section
/-! SUPPORT. What the operations of Machine/PowerOps.lean may change (`Frame`). -/

namespace Sys2Proof.Machine
open Obj

set_option linter.all false
set_option Elab.async false

theorem State.sourceRegs_frame {M : Nat} {a s : State} (h : Frame M a s)  (hm : Nat.lor 0x1000000000000000000000000000000 M = M := by decide +kernel) :
    Frame M a (State.sourceRegs s) := by
  refine h.trans (Frame.mono hm ?_)
  unfold State.sourceRegs
  repeat' with_reducible first
    | exact Frame.refl _ | apply Frame.ite | apply State.wr_frame | decide +kernel | split

theorem State.powerChange_frame {M : Nat} {a s : State} (h : Frame M a s) (old : Supply) (hm : Nat.lor 0x800000000000000000000000000000000000000000000000000000000000000000000000000000000000000000000210800000000000000000000000000000000000080001800000000000000000000004000770 M = M := by decide +kernel) :
    Frame M a (State.powerChange s old) := by
  refine h.trans (Frame.mono hm ?_)
  unfold State.powerChange
  repeat' with_reducible first
    | exact Frame.refl _ | apply Frame.ite | apply State.wr_frame | apply State.sourceRegs_frame | apply State.stamp_frame
    | apply State.record_frame | apply State.compressCheck_frame | apply State.attention_frame | decide +kernel | intro _
    | split | fail_if_no_progress refine Frame.on_power ?_ _ | fail_if_no_progress refine Frame.on_boot ?_ _
    | fail_if_no_progress refine Frame.mk' ?_

theorem State.setSupply_frame {M : Nat} {a s : State} (h : Frame M a s) (new : Supply) (hm : Nat.lor 0x800000000000000000000000000000000000000000000000000000000000000000000000000000000000000000000210800000000000000000000000000000000000080001800000000000000000000004000770 M = M := by decide +kernel) :
    Frame M a (State.setSupply s new) := by
  refine h.trans (Frame.mono hm ?_)
  unfold State.setSupply
  repeat' with_reducible first
    | exact Frame.refl _ | apply State.powerChange_frame | decide +kernel | split
    | fail_if_no_progress refine Frame.on_power ?_ _

theorem State.powerDerive_frame {M : Nat} {a s : State} (h : Frame M a s)  (hm : Nat.lor 0x800000000000000000000000000000000000000000000000000000000000000000000000000000000000000000000210800000000000000000000000000000000000080001800000000000000000000004000770 M = M := by decide +kernel) :
    Frame M a (State.powerDerive s) := by
  refine h.trans (Frame.mono hm ?_)
  unfold State.powerDerive
  repeat' with_reducible first
    | exact Frame.refl _ | apply State.powerChange_frame | decide +kernel | split

end Sys2Proof.Machine
end

