-- ==== Sys2Proof/Laws/Frame/StoreOps.lean ====
section
/-! SUPPORT. What the operations of Machine/StoreOps.lean may change (`Frame`). -/

namespace Sys2Proof.Machine
open Obj

set_option linter.all false
set_option Elab.async false

theorem State.journal_frame {M : Nat} {a s : State} (h : Frame M a s) (rid : Rid) (cells : List CellW) (ws : List Write) (payload : Bytes) (hm : Nat.lor 0x2000100 M = M := by decide +kernel) :
    Frame M a (State.journal s rid cells ws payload) := by
  refine h.trans (Frame.mono hm ?_)
  unfold State.journal
  repeat' with_reducible first
    | exact Frame.refl _ | apply State.fresh_frame | decide +kernel | split | refine Frame.snd (by assumption) ?_
    | fail_if_no_progress refine Frame.on_mbx ?_ _

theorem State.keepOld_frame {M : Nat} {a s : State} (h : Frame M a s) (o : State) (n : Nat) (cs : List CellW) (at_ : Nat) (hm : Nat.lor 0x1000 M = M := by decide +kernel) :
    Frame M a (State.keepOld s o n cs at_) := by
  refine h.trans (Frame.mono hm ?_)
  unfold State.keepOld
  repeat' with_reducible first
    | exact Frame.refl _ | apply Frame.ite | apply State.modLaps_frame | decide +kernel | intro _ | split

theorem State.putCells_frame0 (s : State) (cs : List CellW) : Frame 0x4 s (State.putCells s cs) := by
  exact Frame.any (Frame.refl _) _

theorem State.putCells_frame {M : Nat} {a s : State} (h : Frame M a s) (cs : List CellW) (hm : Nat.lor 0x4 M = M := by decide +kernel) :
    Frame M a (State.putCells s cs) := h.trans (Frame.mono hm (State.putCells_frame0 s cs))

theorem State.storeCells_frame0 (s : State) (cs : List CellW) : Frame 0x8 s (State.storeCells s cs) := by
  have h : Frame 0x8 s s := Frame.refl s
  exact Frame.mk' h

theorem State.storeCells_frame {M : Nat} {a s : State} (h : Frame M a s) (cs : List CellW) (hm : Nat.lor 0x8 M = M := by decide +kernel) :
    Frame M a (State.storeCells s cs) := h.trans (Frame.mono hm (State.storeCells_frame0 s cs))

theorem State.putVals_frame {M : Nat} {a s : State} (h : Frame M a s) (vs : List NewVal) (hm : Nat.lor 0x4 M = M := by decide +kernel) :
    Frame M a (State.putVals s vs) := by
  refine h.trans (Frame.mono hm ?_)
  unfold State.putVals
  repeat' with_reducible first
    | exact Frame.refl _ | apply State.putCells_frame | decide +kernel | split

theorem State.runWrites_frame0 (s : State) (ws : List Write) : Frame 0x4 s (State.runWrites s ws).1 := by
  have h : Frame 0x4 s s := Frame.refl s
  unfold State.runWrites
  suffices ∀ (l : List Write) (x : State × List NewVal), Frame 0x4 s x.1 → Frame 0x4 s (l.foldl (fun (a : State × List NewVal) w =>
      ((a.1.putVals (a.1.valsOf w)).putVals ((a.1.putVals (a.1.valsOf w)).derived w),
        a.2 ++ a.1.valsOf w ++ (a.1.putVals (a.1.valsOf w)).derived w)) x).1 from this ws (s, []) h
  intro l
  induction l with
  | nil => intro x hx; exact hx
  | cons w l ih => intro x hx; exact ih _ (State.putVals_frame (State.putVals_frame hx ..) ..)

theorem State.runWrites_frame {M : Nat} {a s : State} (h : Frame M a s) (ws : List Write) (hm : Nat.lor 0x4 M = M := by decide +kernel) :
    Frame M a (State.runWrites s ws).1 := h.trans (Frame.mono hm (State.runWrites_frame0 s ws))

theorem State.withWait_frame {M : Nat} {a s : State} (h : Frame M a s)  (hm : Nat.lor 0x4 M = M := by decide +kernel) :
    Frame M a (State.withWait s) := by
  refine h.trans (Frame.mono hm ?_)
  unfold State.withWait
  repeat' with_reducible first
    | exact Frame.refl _ | apply State.eachStr_frame | apply State.putCells_frame | decide +kernel | intro _ | split

theorem State.keepJournal_frame {M : Nat} {a s : State} (h : Frame M a s) (j : Journal) (hm : Nat.lor 0xc M = M := by decide +kernel) :
    Frame M a (State.keepJournal s j) := by
  refine h.trans (Frame.mono hm ?_)
  unfold State.keepJournal
  repeat' with_reducible first
    | exact Frame.refl _ | apply Frame.ite | apply State.storeCells_frame | apply State.withWait_frame
    | apply State.runWrites_frame | decide +kernel | intro _ | split | fail_if_no_progress refine Frame.on_nv ?_ _
    | fail_if_no_progress refine Frame.mk' ?_ | refine Frame.fst (by assumption) ?_

theorem State.settleJournal_frame {M : Nat} {a s : State} (h : Frame M a s)  (hm : Nat.lor 0x10c M = M := by decide +kernel) :
    Frame M a (State.settleJournal s) := by
  refine h.trans (Frame.mono hm ?_)
  unfold State.settleJournal
  repeat' with_reducible first
    | exact Frame.refl _ | apply Frame.ite | apply State.keepJournal_frame | decide +kernel | apply Frame.foldl | intro _
    | split | fail_if_no_progress refine Frame.on_mbx ?_ _ | fail_if_no_progress refine Frame.mk' ?_

end Sys2Proof.Machine
end

