-- ==== Sys2Proof/Laws/Frame/Start.lean ====
section
/-! SUPPORT. What the operations of Machine/Start.lean may change (`Frame`). -/

namespace Sys2Proof.Machine
open Obj

set_option linter.all false
set_option Elab.async false

theorem State.clearRun_frame0 (s : State) (objs : Store) : Frame 0x1fffff6 s (State.clearRun s objs) := by
  exact ⟨rfl, .inr rfl, fun k e => absurd e (by rw [hit, show Nat.testBit 0x1fffff6 2 = true by decide +kernel]; simp),
    .inl (by decide +kernel), .inr rfl, .inl (by decide +kernel), .inl (by decide +kernel), .inl (by decide +kernel), .inl (by decide +kernel), .inl (by decide +kernel), .inl (by decide +kernel), .inl (by decide +kernel), .inl (by decide +kernel), .inl (by decide +kernel), .inl (by decide +kernel), .inl (by decide +kernel), .inl (by decide +kernel), .inl (by decide +kernel), .inl (by decide +kernel), .inl (by decide +kernel), .inl (by decide +kernel), .inl (by decide +kernel), .inl (by decide +kernel), .inl (by decide +kernel), .inl (by decide +kernel), .inl (by decide +kernel), .inr rfl, .inr rfl⟩

theorem State.clearRun_frame {M : Nat} {a s : State} (h : Frame M a s) (objs : Store) (hm : Nat.lor 0x1fffff6 M = M := by decide +kernel) :
    Frame M a (State.clearRun s objs) := h.trans (Frame.mono hm (State.clearRun_frame0 s objs))

theorem State.slotRegs_frame {M : Nat} {a s : State} (h : Frame M a s)  (hm : Nat.lor 0x41000c3e1800000000000000000000000000000000000000000000000000000000000000000000000000000000000000000000000000000000000000000000000000000000000000000000000000000000000000000000000000 M = M := by decide +kernel) :
    Frame M a (State.slotRegs s) := by
  refine h.trans (Frame.mono hm ?_)
  unfold State.slotRegs
  repeat' with_reducible first
    | exact Frame.refl _ | apply Frame.ite | apply State.wr_frame | decide +kernel | split

theorem State.setProfile_frame {M : Nat} {a s : State} (h : Frame M a s) (n : Nat) (b : Bytes) (hm : Nat.lor 0x20000000000000c000000000000000000000000000000000000000000000000000000000000000000000000000000000000000000001000 M = M := by decide +kernel) :
    Frame M a (State.setProfile s n b) := by
  refine h.trans (Frame.mono hm ?_)
  unfold State.setProfile
  repeat' with_reducible first
    | exact Frame.refl _ | apply Frame.ite | apply State.wr_frame | apply State.modStr_frame | decide +kernel | intro _
    | split

theorem State.switchRegs_frame {M : Nat} {a s : State} (h : Frame M a s)  (hm : Nat.lor 0xf00000000000000000 M = M := by decide +kernel) :
    Frame M a (State.switchRegs s) := by
  refine h.trans (Frame.mono hm ?_)
  unfold State.switchRegs
  repeat' with_reducible first
    | exact Frame.refl _ | apply Frame.ite | apply State.wr_frame | decide +kernel | split

theorem State.applyMask_frame {M : Nat} {a s : State} (h : Frame M a s)  (hm : Nat.lor 0x80000000000000000000000000000000000000000000000000000000000000000000000000000000000000000000000000000000000000000000000000000000000000000000000000000000000000800000020 M = M := by decide +kernel) :
    Frame M a (State.applyMask s) := by
  refine h.trans (Frame.mono hm ?_)
  unfold State.applyMask
  repeat' with_reducible first
    | exact Frame.refl _ | apply State.wr_frame | decide +kernel | split | fail_if_no_progress refine Frame.on_panel ?_ _

theorem State.applySwitches_frame {M : Nat} {a s : State} (h : Frame M a s)  (hm : Nat.lor 0x8000000000000000000000000000000000000000000000000000000020000000000000c000000000000000000000000000000000000000000000000000000000000000000000000000000080000002800001020 M = M := by decide +kernel) :
    Frame M a (State.applySwitches s) := by
  refine h.trans (Frame.mono hm ?_)
  unfold State.applySwitches
  repeat' with_reducible first
    | exact Frame.refl _ | apply State.applyMask_frame | apply State.wr_frame | apply State.eachStr_frame
    | apply State.setProfile_frame | decide +kernel | intro _ | split

theorem State.factoryRegs_frame {M : Nat} {a s : State} (h : Frame M a s)  (hm : Nat.lor 0x40000000000000000000000000000000000000000000000000000000000000600000000000000000000000000000000000000000000000000000000000600000000000008d700000000 M = M := by decide +kernel) :
    Frame M a (State.factoryRegs s) := by
  refine h.trans (Frame.mono hm ?_)
  unfold State.factoryRegs
  repeat' with_reducible first
    | exact Frame.refl _ | apply State.wr_frame | apply State.eachStr_frame | decide +kernel | apply Frame.foldl | intro _
    | split

theorem State.imageRegs_frame {M : Nat} {a s : State} (h : Frame M a s)  (hm : Nat.lor 0x41800c3e1800000000000000000000000000000000000000000000000000000000000000000000000000000000000000000000000000000000000000000000000000000000000000000000000000000000000000170000000000 M = M := by decide +kernel) :
    Frame M a (State.imageRegs s) := by
  refine h.trans (Frame.mono hm ?_)
  unfold State.imageRegs
  repeat' with_reducible first
    | exact Frame.refl _ | apply State.wr_frame | apply State.slotRegs_frame | decide +kernel | split

theorem State.chooseConfig_frame {M : Nat} {a s : State} (h : Frame M a s)  (hm : Nat.lor 0x40000000000000000000000000000000000000000000000000000000000000000000000000000000000000000000000000000000000000000000000000000000000000000000000000000000000000000000000000000000008 M = M := by decide +kernel) :
    Frame M a (State.chooseConfig s) := by
  refine h.trans (Frame.mono hm ?_)
  unfold State.chooseConfig
  repeat' with_reducible first
    | exact Frame.refl _ | apply Frame.ite | apply State.wrB_frame | decide +kernel | split
    | fail_if_no_progress refine Frame.on_nv ?_ _

theorem State.latchAtStart_frame {M : Nat} {a s : State} (h : Frame M a s) (n : Nat) (hm : Nat.lor 0x6420000000000000000000000000000000000000000000000000000000000000000000000000000000000000000000000000000000000 M = M := by decide +kernel) :
    Frame M a (State.latchAtStart s n) := by
  refine h.trans (Frame.mono hm ?_)
  unfold State.latchAtStart
  repeat' with_reducible first
    | exact Frame.refl _ | apply State.wr_frame | decide +kernel | intro _ | split

theorem State.hvacTake_frame {M : Nat} {a s : State} (h : Frame M a s)  (hm : Nat.lor 0x8000 M = M := by decide +kernel) :
    Frame M a (State.hvacTake s) := by
  refine h.trans (Frame.mono hm ?_)
  unfold State.hvacTake
  repeat' with_reducible first
    | exact Frame.refl _ | apply Frame.ite | decide +kernel | intro _ | split
    | fail_if_no_progress refine Frame.on_thermal ?_ _ | fail_if_no_progress refine Frame.mk' ?_

theorem State.setPhase_frame {M : Nat} {a s : State} (h : Frame M a s) (k : Nat) (hm : Nat.lor 0x400000000000000000000000000000000040 M = M := by decide +kernel) :
    Frame M a (State.setPhase s k) := by
  refine h.trans (Frame.mono hm ?_)
  unfold State.setPhase
  repeat' with_reducible first
    | exact Frame.refl _ | apply State.wr_frame | decide +kernel | split | fail_if_no_progress refine Frame.on_boot ?_ _

theorem State.trustRegs_frame {M : Nat} {a s : State} (h : Frame M a s)  (hm : Nat.lor 0x450000000000000000000000000000000000000000000000000000000000000000000000000000000000000000000000000000000000000000000000000000000000000000000000000000000000000000000000000000000000000 M = M := by decide +kernel) :
    Frame M a (State.trustRegs s) := by
  refine h.trans (Frame.mono hm ?_)
  unfold State.trustRegs
  repeat' with_reducible first
    | exact Frame.refl _ | apply Frame.ite | apply State.wrB_frame | apply State.wr_frame | decide +kernel | intro _ | split

theorem State.coverAtStart_frame {M : Nat} {a s : State} (h : Frame M a s) (open_ : Bool) (hm : Nat.lor 0x3018000000000000000000 M = M := by decide +kernel) :
    Frame M a (State.coverAtStart s open_) := by
  refine h.trans (Frame.mono hm ?_)
  unfold State.coverAtStart
  repeat' with_reducible first
    | exact Frame.refl _ | apply Frame.ite | apply State.wrB_frame | apply State.stamp_frame | apply State.bump_frame
    | decide +kernel | split

theorem State.wakeRegs_frame {M : Nat} {a s : State} (h : Frame M a s)  (hm : Nat.lor 0x80000000000000000000000000000000000000000000000000000000000000000000000000000000000000000000000000000000000000000000000000000000000000000000000000000000000000000000000000000000000000000000 M = M := by decide +kernel) :
    Frame M a (State.wakeRegs s) := by
  refine h.trans (Frame.mono hm ?_)
  unfold State.wakeRegs
  repeat' with_reducible first
    | exact Frame.refl _ | apply Frame.ite | apply State.eachStr_frame | apply State.wrB_frame | decide +kernel | intro _
    | split

theorem State.finishStart_frame0 (s : State)  : Frame 0x8000045145800c3e180008000000000000000000040000000000000000000000000000000000020642000000000c0000000000060000000000000000000000000000000000000000000007204000000000060030dcf800001fff0000986c s (State.finishStart s ) := by
  unfold State.finishStart
  extract_lets s1 src s2 s3 s4 s5 s6 s7 s8 s9 s10 y src11 s11 s12 sec s13 s14 s15 s16 src17 s17 s18
  have h1 : Frame 0x8000045145800c3e180008000000000000000000040000000000000000000000000000000000020642000000000c0000000000060000000000000000000000000000000000000000000007204000000000060030dcf800001fff0000986c s s1 := State.chooseConfig_frame (Frame.refl _) ..
  have h2 : Frame 0x8000045145800c3e180008000000000000000000040000000000000000000000000000000000020642000000000c0000000000060000000000000000000000000000000000000000000007204000000000060030dcf800001fff0000986c s s2 := Frame.on_nv h1 _
  have h3 : Frame 0x8000045145800c3e180008000000000000000000040000000000000000000000000000000000020642000000000c0000000000060000000000000000000000000000000000000000000007204000000000060030dcf800001fff0000986c s s3 := State.factoryRegs_frame h2 ..
  have h4 : Frame 0x8000045145800c3e180008000000000000000000040000000000000000000000000000000000020642000000000c0000000000060000000000000000000000000000000000000000000007204000000000060030dcf800001fff0000986c s s4 := Frame.any h3 _
  have h5 : Frame 0x8000045145800c3e180008000000000000000000040000000000000000000000000000000000020642000000000c0000000000060000000000000000000000000000000000000000000007204000000000060030dcf800001fff0000986c s s5 := State.wr_frame h4 ..
  have h6 : Frame 0x8000045145800c3e180008000000000000000000040000000000000000000000000000000000020642000000000c0000000000060000000000000000000000000000000000000000000007204000000000060030dcf800001fff0000986c s s6 := State.extendSlot_frame (State.extendSlot_frame h5 ..) ..
  have h7 : Frame 0x8000045145800c3e180008000000000000000000040000000000000000000000000000000000020642000000000c0000000000060000000000000000000000000000000000000000000007204000000000060030dcf800001fff0000986c s s7 := State.setPhase_frame h6 ..
  have h8 : Frame 0x8000045145800c3e180008000000000000000000040000000000000000000000000000000000020642000000000c0000000000060000000000000000000000000000000000000000000007204000000000060030dcf800001fff0000986c s s8 := State.wakeRegs_frame (State.imageRegs_frame h7 ..) ..
  have h9 : Frame 0x8000045145800c3e180008000000000000000000040000000000000000000000000000000000020642000000000c0000000000060000000000000000000000000000000000000000000007204000000000060030dcf800001fff0000986c s s9 := State.coverAtStart_frame (State.switchRegs_frame h8 ..) ..
  have h10 : Frame 0x8000045145800c3e180008000000000000000000040000000000000000000000000000000000020642000000000c0000000000060000000000000000000000000000000000000000000007204000000000060030dcf800001fff0000986c s s10 := State.wr_frame h9 ..
  have h11 : Frame 0x8000045145800c3e180008000000000000000000040000000000000000000000000000000000020642000000000c0000000000060000000000000000000000000000000000000000000007204000000000060030dcf800001fff0000986c s s11 := Frame.ite (State.applySwitches_frame h10 ..) (State.wrB_frame (Frame.on_panel ((State.applyMask_frame h10 ..).foldl _ _ fun v n => State.setProfile_frame (Frame.refl _) ..) _) ..)
  have h12 : Frame 0x8000045145800c3e180008000000000000000000040000000000000000000000000000000000020642000000000c0000000000060000000000000000000000000000000000000000000007204000000000060030dcf800001fff0000986c s s12 := State.extendSlot_frame h11 ..
  have h13 : Frame 0x8000045145800c3e180008000000000000000000040000000000000000000000000000000000020642000000000c0000000000060000000000000000000000000000000000000000000007204000000000060030dcf800001fff0000986c s s13 := State.wr_frame h12 ..
  have h14 : Frame 0x8000045145800c3e180008000000000000000000040000000000000000000000000000000000020642000000000c0000000000060000000000000000000000000000000000000000000007204000000000060030dcf800001fff0000986c s s14 := State.extendSlot_frame h13 ..
  have h15 : Frame 0x8000045145800c3e180008000000000000000000040000000000000000000000000000000000020642000000000c0000000000060000000000000000000000000000000000000000000007204000000000060030dcf800001fff0000986c s s15 := State.trustRegs_frame h14 ..
  have h16 : Frame 0x8000045145800c3e180008000000000000000000040000000000000000000000000000000000020642000000000c0000000000060000000000000000000000000000000000000000000007204000000000060030dcf800001fff0000986c s s16 := State.hvacTake_frame (State.loopOut_frame (h15.foldl _ _ fun v n => State.latchAtStart_frame (Frame.refl _) ..) ..) ..
  have h17 : Frame 0x8000045145800c3e180008000000000000000000040000000000000000000000000000000000020642000000000c0000000000060000000000000000000000000000000000000000000007204000000000060030dcf800001fff0000986c s s17 := Frame.on_boot h16 _
  have h18 : Frame 0x8000045145800c3e180008000000000000000000040000000000000000000000000000000000020642000000000c0000000000060000000000000000000000000000000000000000000007204000000000060030dcf800001fff0000986c s s18 := State.setPhase_frame h17 ..
  exact State.setPhase_frame (State.extendSlot_frame h18 ..) ..

theorem State.finishStart_frame {M : Nat} {a s : State} (h : Frame M a s)  (hm : Nat.lor 0x8000045145800c3e180008000000000000000000040000000000000000000000000000000000020642000000000c0000000000060000000000000000000000000000000000000000000007204000000000060030dcf800001fff0000986c M = M := by decide +kernel) :
    Frame M a (State.finishStart s ) := h.trans (Frame.mono hm (State.finishStart_frame0 s ))

theorem State.beginStart_frame {M : Nat} {a s : State} (h : Frame M a s) (cause : Nat) (detail : Nat) (open_ : Bool) (hm : Nat.lor 0x8000045145800c3e180088000000000000000000040000000000000000000000000000000000020642000000000c000000000006000000000210800000000000000000000000000000000732e8000180000600b1dcf800001fff04009f7c M = M := by decide +kernel) :
    Frame M a (State.beginStart s cause detail open_) := by
  refine h.trans (Frame.mono hm ?_)
  unfold State.beginStart
  repeat' with_reducible first
    | exact Frame.refl _ | apply Frame.ite | apply State.powerChange_frame | apply State.wr_frame | apply State.wrB_frame
    | apply State.eachStr_frame | apply State.extendSlot_frame | apply State.loopOut_frame | apply State.setPhase_frame
    | apply State.finishStart_frame | decide +kernel | intro _ | split | fail_if_no_progress refine Frame.on_power ?_ _
    | fail_if_no_progress refine Frame.on_panel ?_ _ | fail_if_no_progress refine Frame.on_boot ?_ _
    | fail_if_no_progress refine Frame.mk' ?_

theorem State.tellClosing_frame {M : Nat} {a s : State} (h : Frame M a s) (reason : Nat) (hm : Nat.lor 0x4000100 M = M := by decide +kernel) :
    Frame M a (State.tellClosing s reason) := by
  refine h.trans (Frame.mono hm ?_)
  unfold State.tellClosing
  repeat' with_reducible first
    | exact Frame.refl _ | apply State.unsolicited_frame | apply State.send_frame | decide +kernel | apply Frame.foldl
    | intro _ | split

theorem State.restart_frame {M : Nat} {a s : State} (h : Frame M a s) (cause : Nat) (detail : Nat) (hm : Nat.lor 0x800007db45800c3e18008d060000000000000000040000005e4d00000001c2000000000000000206fe000000000c00000000a83e000000000210802000000000000000000000000000000732e80001a0000600b1dcf800001fff07fffffe M = M := by decide +kernel) :
    Frame M a (State.restart s cause detail) := by
  refine h.trans (Frame.mono hm ?_)
  unfold State.restart
  repeat' with_reducible first
    | exact Frame.refl _ | apply Frame.ite | apply State.openAll_frame | apply State.tellClosing_frame
    | apply State.settleJournal_frame | apply State.cutSlot_frame | apply State.clearRun_frame | apply State.beginStart_frame
    | decide +kernel | intro _ | split

theorem State.powerUp_frame {M : Nat} {a s : State} (h : Frame M a s) (normal : Bool) (cause : Nat) (detail : Nat) (sw : List Nat) (cover : Bool) (jumper : Bool) (button : Bool) (hot : List (Nat × Nat)) (hm : Nat.lor 0x8000045145800c3e180088000000000000000000040000000000000000000000000000000000020642000000000c000000000006000000000210800000000000000000000000000000000732ea002180000600b1fcf800001fff05fffffe M = M := by decide +kernel) :
    Frame M a (State.powerUp s normal cause detail sw cover jumper button hot) := by
  refine h.trans (Frame.mono hm ?_)
  unfold State.powerUp
  repeat' with_reducible first
    | exact Frame.refl _ | apply Frame.ite | apply State.clearRun_frame | apply State.wr_frame | apply State.wrB_frame
    | apply State.sourceRegs_frame | apply State.beginStart_frame | apply State.loopOut_frame | decide +kernel
    | apply Frame.foldl | intro _ | split | fail_if_no_progress refine Frame.on_power ?_ _
    | fail_if_no_progress refine Frame.on_panel ?_ _ | fail_if_no_progress refine Frame.on_boot ?_ _
    | fail_if_no_progress refine Frame.on_thermal ?_ _ | fail_if_no_progress refine Frame.mk' ?_

theorem execStartFromOff_frame (t : Nat) (profile : Nat) (block : Nat) (mask : Nat) (addr : Nat) (cover : Bool) (jumper : Bool) (seen : StartSeen) (s : State) : ∃ u, execStartFromOff t profile block mask addr cover jumper seen s = .next u ∧ Frame 0x8000045145800c3e180088000000000000000000040000000000000000000000000000000000020642000000000c000000000006000000000210800000000000000000000000000000000732ea002180000600b1fcf800001fff05ffffff s u := by
  refine ⟨_, rfl, ?_⟩
  repeat' with_reducible first
    | exact Frame.refl _ | apply Frame.ite | apply State.at_frame | apply State.powerUp_frame | decide +kernel | intro _
    | split | fail_if_no_progress refine Frame.on_power ?_ _ | fail_if_no_progress refine Frame.mk' ?_

theorem execJournalReplayed_frame (t : Nat) (s : State) : ∃ u, execJournalReplayed t s = .next u ∧ Frame 0x8000045145800c3e180008000000000000000000040000000000000000000000000000000000020642000000000c00000000000600000000000000000000000000000000000000000000072c4000000000060030dcf800001fff0000986d s u := by
  refine ⟨_, rfl, ?_⟩
  repeat' with_reducible first
    | exact Frame.refl _ | apply Frame.ite | apply State.at_frame | apply State.wrB_frame | apply State.finishStart_frame
    | decide +kernel | split | fail_if_no_progress refine Frame.on_nv ?_ _

end Sys2Proof.Machine
end

