-- ==== Sys2Proof/Laws/Frame/Arch.lean ====
section
/-! SUPPORT. What the operations of Machine/Arch.lean may change (`Frame`). -/

namespace Sys2Proof.Machine
open Obj

set_option linter.all false
set_option Elab.async false

theorem State.modDie_frame0 (s : State) (d : Nat) (f : Die → Die) : Frame 0x4000 s (State.modDie s d f) := by
  have h : Frame 0x4000 s s := Frame.refl s
  exact Frame.mk' h

theorem State.modDie_frame {M : Nat} {a s : State} (h : Frame M a s) (d : Nat) (f : Die → Die) (hm : Nat.lor 0x4000 M = M := by decide +kernel) :
    Frame M a (State.modDie s d f) := h.trans (Frame.mono hm (State.modDie_frame0 s d f))

theorem State.sprintRefresh_frame {M : Nat} {a s : State} (h : Frame M a s) (n : Nat) (hold : Bool) (hm : Nat.lor 0xc0000000000000000000000000000000000000000000000000000 M = M := by decide +kernel) :
    Frame M a (State.sprintRefresh s n hold) := by
  refine h.trans (Frame.mono hm ?_)
  unfold State.sprintRefresh
  repeat' with_reducible first
    | exact Frame.refl _ | apply Frame.ite | apply State.wrB_frame | decide +kernel | split

theorem State.sprintCheck_frame {M : Nat} {a s : State} (h : Frame M a s)  (hm : Nat.lor 0x800000000000000000000000000000000000000000000000000000000000000000000000000000000000000000000210800000000000000000000000000000000000080081800000000000000000000004000770 M = M := by decide +kernel) :
    Frame M a (State.sprintCheck s) := by
  refine h.trans (Frame.mono hm ?_)
  unfold State.sprintCheck
  repeat' with_reducible first
    | exact Frame.refl _ | apply Frame.ite | apply State.wrB_frame | apply State.powerDerive_frame | decide +kernel | intro _
    | split

theorem State.stopLaps_frame {M : Nat} {a s : State} (h : Frame M a s) (n : Nat) (hm : Nat.lor 0x800000000000000000000000000000000000000000000000000000000000000008000000000000000000000000000210800000000000000000001000000000000081080081800000000000000000000004011770 M = M := by decide +kernel) :
    Frame M a (State.stopLaps s n) := by
  refine h.trans (Frame.mono hm ?_)
  unfold State.stopLaps
  repeat' with_reducible first
    | exact Frame.refl _ | apply Frame.ite | apply State.modLaps_frame | apply State.wr_frame | apply State.sprintCheck_frame
    | apply State.restoreCheck_frame | decide +kernel | intro _ | split

theorem execRefclkFail_frame (t : Nat) (s : State) : ∃ u, execRefclkFail t s = .next u ∧ Frame 0x38b00000000000085060000000000000000000000005e4d00000001c2000000000000000000be000800000000000000a838000000000210802000000000000000001000000000000781080081a000000000000010000000040d17f1 s u := by
  refine ⟨_, rfl, ?_⟩
  repeat' with_reducible first
    | exact Frame.refl _ | apply Frame.ite | apply State.at_frame | apply State.openAll_frame | apply State.eachStr_frame
    | apply State.wrB_frame | apply State.stopLaps_frame | decide +kernel | intro _ | split

theorem State.stall_frame {M : Nat} {a s : State} (h : Frame M a s) (d : Nat) (hm : Nat.lor 0x800000000000000000000000000000000000000000000000000000000000000008000000000000000000000000000210800000000000000000001000000000000081080081800000000000000010000004015770 M = M := by decide +kernel) :
    Frame M a (State.stall s d) := by
  refine h.trans (Frame.mono hm ?_)
  unfold State.stall
  repeat' with_reducible first
    | exact Frame.refl _ | apply Frame.ite | apply State.modDie_frame | apply State.wrB_frame | apply State.stopLaps_frame
    | decide +kernel | intro _ | split

theorem State.paceLow_frame {M : Nat} {a s : State} (h : Frame M a s) (d : Nat) (eff : Nat) (hm : Nat.lor 0x8000000004000 M = M := by decide +kernel) :
    Frame M a (State.paceLow s d eff) := by
  refine h.trans (Frame.mono hm ?_)
  unfold State.paceLow
  repeat' with_reducible first
    | exact Frame.refl _ | apply Frame.ite | apply State.modDie_frame | apply State.wrB_frame | decide +kernel | intro _
    | split

theorem State.setShift_frame {M : Nat} {a s : State} (h : Frame M a s) (n : Nat) (k : Nat) (eff : Nat) (hm : Nat.lor 0x800000000000000000000000000000000000000000000000000000000000000000000000000000000000000000000200800000000000000000000000000000000000000000000000000000000180000004000720 M = M := by decide +kernel) :
    Frame M a (State.setShift s n k eff) := by
  refine h.trans (Frame.mono hm ?_)
  unfold State.setShift
  repeat' with_reducible first
    | exact Frame.refl _ | apply Frame.ite | apply State.wr_frame | apply State.bump_frame | apply State.record_frame
    | decide +kernel | split

theorem State.paceRate_frame {M : Nat} {a s : State} (h : Frame M a s) (n : Nat) (eff : Nat) (hm : Nat.lor 0x800000000000000000000000000000000000000000000000000000000000000000000000000000000000000000000200800000000000000000000000000000000000000000000000000000000180000004004720 M = M := by decide +kernel) :
    Frame M a (State.paceRate s n eff) := by
  refine h.trans (Frame.mono hm ?_)
  unfold State.paceRate
  repeat' with_reducible first
    | exact Frame.refl _ | apply Frame.ite | apply State.setShift_frame | apply State.modDie_frame | decide +kernel | intro _
    | split

theorem State.shedMore_frame {M : Nat} {a s : State} (h : Frame M a s) (was : Bool) (eff : Nat) (hm : Nat.lor 0x4000 M = M := by decide +kernel) :
    Frame M a (State.shedMore s was eff) := by
  refine h.trans (Frame.mono hm ?_)
  unfold State.shedMore
  repeat' with_reducible first
    | exact Frame.refl _ | apply Frame.ite | apply State.modDie_frame | decide +kernel | intro _ | split

theorem execPaceMeasurement_frame (t : Nat) (die : Nat) (pace : Nat) (s : State) : ∃ u, execPaceMeasurement t die pace s = .next u ∧ Frame 0x800000000000000000000000000000000656d80000000000000000000000000008000000000000000000000000000210800000000000000000001000000000000081080081800000000000000599600004115771 s u := by
  refine ⟨_, rfl, ?_⟩
  repeat' with_reducible first
    | exact Frame.refl _ | apply Frame.ite | apply State.at_frame | apply State.wr_frame | apply State.modDie_frame
    | apply State.stall_frame | apply State.settleOwed_frame | apply State.paceLow_frame | apply State.shedMore_frame
    | apply State.compressCheck_frame | apply State.roleCheck_frame | apply State.paceRate_frame | decide +kernel | intro _
    | split

theorem execDieStalled_frame (t : Nat) (die : Nat) (pace : Option Nat) (s : State) : ∃ u, execDieStalled t die pace s = .next u ∧ Frame 0x800000000000000000000000000000000000000000000000000000000000000008000000000000000000000000000210800000000000000000001000000000000081080081800000000000000010000004015771 s u := by
  refine ⟨_, rfl, ?_⟩
  repeat' with_reducible first
    | exact Frame.refl _ | apply Frame.ite | apply State.at_frame | apply State.stall_frame | decide +kernel | split

theorem execManagerHeartbeatMissing_frame (t : Nat) (str : Nat) (last : Nat) (s : State) : ∃ u, execManagerHeartbeatMissing t str last s = .next u ∧ Frame 0x38b00000000000085060000000000000000000000005e4d00000001c2000000000000000000be000800000000000000a838000000000210802000000000000000001000000000000781080081a000000000000000000000040d17f1 s u := by
  refine ⟨_, rfl, ?_⟩
  repeat' with_reducible first
    | exact Frame.refl _ | apply Frame.ite | apply State.at_frame | apply State.openNow_frame | apply State.stopLaps_frame
    | decide +kernel | split

theorem execDramCorrectedError_frame (t : Nat) (s : State) : ∃ u, execDramCorrectedError t s = .next u ∧ Frame 0x10000000000000001 s u := by
  refine ⟨_, rfl, ?_⟩
  repeat' with_reducible first
    | exact Frame.refl _ | apply Frame.ite | apply State.at_frame | apply State.bump_frame | decide +kernel | split

theorem execScrubPass_frame (t : Nat) (s : State) : ∃ u, execScrubPass t s = .next u ∧ Frame 0x40000000000000001 s u := by
  refine ⟨_, rfl, ?_⟩
  repeat' with_reducible first
    | exact Frame.refl _ | apply Frame.ite | apply State.at_frame | apply State.bump_frame | decide +kernel | split

theorem execSpareSelfTest_frame (t : Nat) (die : Nat) (failed : Bool) (s : State) : ∃ u, execSpareSelfTest t die failed s = .next u ∧ Frame 0x20000000000001 s u := by
  refine ⟨_, rfl, ?_⟩
  repeat' with_reducible first
    | exact Frame.refl _ | apply Frame.ite | apply State.at_frame | apply State.wrB_frame | decide +kernel | split

theorem execWatchdogRestart_frame (t : Nat) (die : Nat) (s : State) : ∃ u, execWatchdogRestart t die s = .next u ∧ Frame 0x800007df45800c3e18008d060000000000000000040000005e4d00000001c2000000000000000206fe000000000c00000000a83e000000000210802000000000000000000000000000000732e8b93da000060ffffdf800001fff07ffffff s u := by
  refine ⟨_, rfl, ?_⟩
  repeat' with_reducible first
    | exact Frame.refl _ | apply Frame.ite | apply State.at_frame | apply State.restart_frame | decide +kernel | split

end Sys2Proof.Machine
end

