-- ==== Sys2Proof/Laws/Frame/Hardware.lean ====
section
/-! SUPPORT. What the operations of Machine/Hardware.lean may change (`Frame`). -/

namespace Sys2Proof.Machine
open Obj

set_option linter.all false
set_option Elab.async false

theorem execCoilSupplyThreshold_frame (t : Nat) (mv : Nat) (s : State) : ∃ u, execCoilSupplyThreshold t mv s = .next u ∧ Frame 0x38b00000000000085060000000000000000000000005e4d00000001c2000000000000000000be000000000000000000a8380000000002008020000000000000000000000000000007000000002000000006010000000000040c17a1 s u := by
  refine ⟨_, rfl, ?_⟩
  repeat' with_reducible first
    | exact Frame.refl _ | apply Frame.ite | apply State.at_frame | apply State.refreshAll_frame | apply State.wrB_frame
    | apply State.wr_frame | decide +kernel | split

theorem execConnOpenChanged_frame (t : Nat) (str : Nat) (isOpen : Bool) (s : State) : ∃ u, execConnOpenChanged t str isOpen s = .next u ∧ Frame 0x38b00000000000085060000000000000000000000005e4d00000001c2000000000000000000be000000000000000000a8380000000002008020000000000000000000000000000007000000002000010040000000000000040c17a1 s u := by
  refine ⟨_, rfl, ?_⟩
  repeat' with_reducible first
    | exact Frame.refl _ | apply Frame.ite | apply State.at_frame | apply State.bump_frame | apply State.wrB_frame
    | apply State.record_frame | apply State.refresh_frame | decide +kernel | split

theorem execSealOpen_frame (t : Nat) (s : State) : ∃ u, execSealOpen t s = .next u ∧ Frame 0x800000000000000000000000000000000000000000000000000000000000000000000000000000000000000000000000000000000000000000000000000000000000000000000000003018000000000000000421 s u := by
  refine ⟨_, rfl, ?_⟩
  repeat' with_reducible first
    | exact Frame.refl _ | apply Frame.ite | apply State.at_frame | apply State.coverAtStart_frame
    | apply State.attention_frame | decide +kernel | intro _ | split | fail_if_no_progress refine Frame.on_panel ?_ _
    | fail_if_no_progress refine Frame.mk' ?_

theorem execCoverClosed_frame (t : Nat) (s : State) : ∃ u, execCoverClosed t s = .next u ∧ Frame 0x10000000000000000021 s u := by
  refine ⟨_, rfl, ?_⟩
  repeat' with_reducible first
    | exact Frame.refl _ | apply Frame.ite | apply State.at_frame | apply State.wrB_frame | decide +kernel | intro _ | split
    | fail_if_no_progress refine Frame.on_panel ?_ _ | fail_if_no_progress refine Frame.mk' ?_

theorem execPresenceButtonPress_frame (t : Nat) (held : Nat) (s : State) : ∃ u, execPresenceButtonPress t held s = .next u ∧ Frame 0x21 s u := by
  refine ⟨_, rfl, ?_⟩
  repeat' with_reducible first
    | exact Frame.refl _ | apply Frame.ite | apply State.at_frame | decide +kernel | split
    | fail_if_no_progress refine Frame.on_panel ?_ _

theorem execDisplayBlank_frame (t : Nat) (s : State) : ∃ u, execDisplayBlank t s = .next u ∧ Frame 0x21 s u := by
  refine ⟨_, rfl, ?_⟩
  repeat' with_reducible first
    | exact Frame.refl _ | apply Frame.ite | apply State.at_frame | decide +kernel | split
    | fail_if_no_progress refine Frame.on_panel ?_ _

theorem State.presenceEvent_frame {M : Nat} {a s : State} (h : Frame M a s) (source : Nat) (hm : Nat.lor 0x12e0200000000000008000000000000000000000000000000000000000000000000000000000000000000000000000000000000000000002008000000000000000000000000000000000000000000000000000000000000000040007a0 M = M := by decide +kernel) :
    Frame M a (State.presenceEvent s source) := by
  refine h.trans (Frame.mono hm ?_)
  unfold State.presenceEvent
  repeat' with_reducible first
    | exact Frame.refl _ | apply Frame.ite | apply State.wr_frame | apply State.wrB_frame | apply State.stamp_frame
    | apply State.bump_frame | apply State.record_frame | decide +kernel | split
    | fail_if_no_progress refine Frame.on_sec ?_ _ | fail_if_no_progress refine Frame.on_i2c ?_ _
    | fail_if_no_progress refine Frame.mk' ?_

theorem State.stuckAtStart_frame {M : Nat} {a s : State} (h : Frame M a s) (since : Nat) (hm : Nat.lor 0x40000000000000000020 M = M := by decide +kernel) :
    Frame M a (State.stuckAtStart s since) := by
  refine h.trans (Frame.mono hm ?_)
  unfold State.stuckAtStart
  repeat' with_reducible first
    | exact Frame.refl _ | apply Frame.ite | apply State.wrB_frame | decide +kernel | intro _ | split
    | fail_if_no_progress refine Frame.on_panel ?_ _ | fail_if_no_progress refine Frame.mk' ?_

theorem execPresenceEvent_frame (t : Nat) (since : Nat) (s : State) : ∃ u, execPresenceEvent t since s = .next u ∧ Frame 0x12e0200000000000008000000000000000000000000000000000000000000000000000000000000000000000000000000000000000000002008000000000000000000000000000000000000000000000000000400000000000040007a1 s u := by
  refine ⟨_, rfl, ?_⟩
  repeat' with_reducible first
    | exact Frame.refl _ | apply Frame.ite | apply State.at_frame | apply State.stuckAtStart_frame
    | apply State.presenceEvent_frame | decide +kernel | intro _ | split | fail_if_no_progress refine Frame.on_panel ?_ _
    | fail_if_no_progress refine Frame.mk' ?_

theorem execPresenceStuck_frame (t : Nat) (since : Nat) (s : State) : ∃ u, execPresenceStuck t since s = .next u ∧ Frame 0x40000000000000000021 s u := by
  refine ⟨_, rfl, ?_⟩
  repeat' with_reducible first
    | exact Frame.refl _ | apply Frame.ite | apply State.at_frame | apply State.stuckAtStart_frame | apply State.wrB_frame
    | decide +kernel | intro _ | split

theorem execPresenceButtonReleased_frame (t : Nat) (held : Nat) (s : State) : ∃ u, execPresenceButtonReleased t held s = .next u ∧ Frame 0x40000000000000000021 s u := by
  refine ⟨_, rfl, ?_⟩
  repeat' with_reducible first
    | exact Frame.refl _ | apply State.at_frame | apply State.wrB_frame | decide +kernel | split
    | fail_if_no_progress refine Frame.on_panel ?_ _

theorem execJSvcFitted_frame (t : Nat) (since : Nat) (s : State) : ∃ u, execJSvcFitted t since s = .next u ∧ Frame 0x12e0200000000000008000000000000000000000000000000000000000000000000000000000000000000000000000000000000000000002008000000000000000000000000000000000000000000000000000200000000000040007a1 s u := by
  refine ⟨_, rfl, ?_⟩
  repeat' with_reducible first
    | exact Frame.refl _ | apply Frame.ite | apply State.at_frame | apply State.wrB_frame | apply State.presenceEvent_frame
    | decide +kernel | split

theorem execJSvcRemoved_frame (t : Nat) (s : State) : ∃ u, execJSvcRemoved t s = .next u ∧ Frame 0x20000000000000000001 s u := by
  refine ⟨_, rfl, ?_⟩
  repeat' with_reducible first
    | exact Frame.refl _ | apply Frame.ite | apply State.at_frame | apply State.wrB_frame | decide +kernel | split

theorem State.endToken_frame {M : Nat} {a s : State} (h : Frame M a s)  (hm : Nat.lor 0x8e020000000000000000000000000000000000000000000000000000000000000000000000000000000000000000000000000000000000000000000000000000000000000000000000000000000000000000000000000000000000080 M = M := by decide +kernel) :
    Frame M a (State.endToken s) := by
  refine h.trans (Frame.mono hm ?_)
  unfold State.endToken
  repeat' with_reducible first
    | exact Frame.refl _ | apply Frame.ite | apply State.bump_frame | apply State.wrB_frame | apply State.wr_frame
    | decide +kernel | split | fail_if_no_progress refine Frame.on_sec ?_ _

theorem execTokenExpired_frame (t : Nat) (s : State) : ∃ u, execTokenExpired t s = .next u ∧ Frame 0x8e020000000000000000000000000000000000000000000000000000000000000000000000000000000000000000000000000000000000000000000000000000000000000000000000000000000000000000000000000000000000081 s u := by
  refine ⟨_, rfl, ?_⟩
  repeat' with_reducible first
    | exact Frame.refl _ | apply Frame.ite | apply State.at_frame | apply State.endToken_frame | decide +kernel | split

end Sys2Proof.Machine
end

