-- ==== Sys2Proof/Laws/Frame/RingOps.lean ====
section
/-! SUPPORT. What the operations of Machine/RingOps.lean may change (`Frame`). -/

namespace Sys2Proof.Machine
open Obj

set_option linter.all false
set_option Elab.async false

theorem State.modNode_frame {M : Nat} {a s : State} (h : Frame M a s) (n : Nat) (k : Nat) (f : RNode → RNode) (hm : Nat.lor 0x1000 M = M := by decide +kernel) :
    Frame M a (State.modNode s n k f) := by
  refine h.trans (Frame.mono hm ?_)
  unfold State.modNode
  repeat' with_reducible first
    | exact Frame.refl _ | apply State.modRing_frame | decide +kernel | intro _ | split

theorem State.modLap_frame {M : Nat} {a s : State} (h : Frame M a s) (n : Nat) (seq : Nat) (f : Lap → Lap) (hm : Nat.lor 0x1000 M = M := by decide +kernel) :
    Frame M a (State.modLap s n seq f) := by
  refine h.trans (Frame.mono hm ?_)
  unfold State.modLap
  repeat' with_reducible first
    | exact Frame.refl _ | apply Frame.ite | apply State.modLaps_frame | decide +kernel | intro _ | split

theorem State.launch_frame {M : Nat} {a s : State} (h : Frame M a s) (n : Nat) (dep : Nat) (w : Wait) (hm : Nat.lor 0x4001000 M = M := by decide +kernel) :
    Frame M a (State.launch s n dep w) := by
  refine h.trans (Frame.mono hm ?_)
  unfold State.launch
  repeat' with_reducible first
    | exact Frame.refl _ | apply Frame.ite | apply State.modRing_frame | apply State.send_frame | decide +kernel | intro _
    | split

theorem State.drainPort_frame0 (s : State) (n port : Nat) : Frame 0x4001000 s (State.drainPort s n port) := by
  have key : ∀ (fuel : Nat) (v : State), Frame 0x4001000 s v → Frame 0x4001000 s (State.drainPort.go n port fuel v) := by
    intro fuel
    induction fuel with
    | zero => intro v h; exact h
    | succ k ih =>
      intro v h
      unfold State.drainPort.go
      split
      · exact h
      · exact Frame.ite (ih _ (State.launch_frame (State.modRing_frame h ..) ..)) h
  exact key _ _ (Frame.refl s)

theorem State.drainPort_frame {M : Nat} {a s : State} (h : Frame M a s) (n port : Nat) (hm : Nat.lor 0x4001000 M = M := by decide +kernel) :
    Frame M a (State.drainPort s n port) := h.trans (Frame.mono hm (State.drainPort_frame0 s n port))

theorem State.drain_frame {M : Nat} {a s : State} (h : Frame M a s) (n : Nat) (hm : Nat.lor 0x4001000 M = M := by decide +kernel) :
    Frame M a (State.drain s n) := by
  refine h.trans (Frame.mono hm ?_)
  unfold State.drain
  repeat' with_reducible first
    | exact Frame.refl _ | apply Frame.ite | apply State.drainPort_frame | decide +kernel | intro _ | split

theorem State.sendBaton_frame {M : Nat} {a s : State} (h : Frame M a s) (n : Nat) (port : Nat) (kind : Nat) (node : Nat) (seq : Nat) (bytes : Bytes) (grow : Nat) (closed : Bool) (last : optParam Nat node) (hm : Nat.lor 0x4001000 M = M := by decide +kernel) :
    Frame M a (State.sendBaton s n port kind node seq bytes grow closed last) := by
  refine h.trans (Frame.mono hm ?_)
  unfold State.sendBaton
  repeat' with_reducible first
    | exact Frame.refl _ | apply Frame.ite | apply State.modRing_frame | apply State.drain_frame | decide +kernel | intro _
    | split

theorem State.sendCmd_frame {M : Nat} {a s : State} (h : Frame M a s) (n : Nat) (c : NodeCmd) (hm : Nat.lor 0x4001000 M = M := by decide +kernel) :
    Frame M a (State.sendCmd s n c) := by
  refine h.trans (Frame.mono hm ?_)
  unfold State.sendCmd
  repeat' with_reducible first
    | exact Frame.refl _ | apply State.sendBaton_frame | decide +kernel | split

theorem State.pump_frame0 (s : State) (n : Nat) : Frame 0x4001000 s (State.pump s n) := by
  have hg : ∀ (fuel : Nat) {s : State} {a : State}, Frame 0x4001000 a s → Frame 0x4001000 a (State.pump.go n fuel s) := by
    intro fuel
    induction fuel with
    | zero => intro s a h; exact h
    | succ m ih =>
      intro s a h
      unfold State.pump.go
      split
      · exact h
      · exact ih (State.sendCmd_frame (State.modRing_frame h ..) ..)
  unfold State.pump
  exact Frame.ite (Frame.refl _) (hg _ (Frame.refl _))

theorem State.pump_frame {M : Nat} {a s : State} (h : Frame M a s) (n : Nat) (hm : Nat.lor 0x4001000 M = M := by decide +kernel) :
    Frame M a (State.pump s n) := h.trans (Frame.mono hm (State.pump_frame0 s n))

theorem State.queueCmd_frame {M : Nat} {a s : State} (h : Frame M a s) (n : Nat) (node : Nat) (code : Nat) (args : Bytes) (owner : Owner) (hm : Nat.lor 0x4001000 M = M := by decide +kernel) :
    Frame M a (State.queueCmd s n node code args owner) := by
  refine h.trans (Frame.mono hm ?_)
  unfold State.queueCmd
  repeat' with_reducible first
    | exact Frame.refl _ | apply Frame.ite | apply State.pump_frame | apply State.modRing_frame | decide +kernel | intro _
    | split

theorem State.sendFetch_frame {M : Nat} {a s : State} (h : Frame M a s) (n : Nat) (node : Nat) (hm : Nat.lor 0x4001000 M = M := by decide +kernel) :
    Frame M a (State.sendFetch s n node) := by
  refine h.trans (Frame.mono hm ?_)
  unfold State.sendFetch
  repeat' with_reducible first
    | exact Frame.refl _ | apply Frame.ite | apply State.sendBaton_frame | decide +kernel | intro _ | split

theorem State.sendProbe_frame {M : Nat} {a s : State} (h : Frame M a s) (n : Nat) (port : Nat) (node : Nat) (hm : Nat.lor 0x4001000 M = M := by decide +kernel) :
    Frame M a (State.sendProbe s n port node) := by
  refine h.trans (Frame.mono hm ?_)
  unfold State.sendProbe
  repeat' with_reducible first
    | exact Frame.refl _ | apply State.sendBaton_frame | decide +kernel | split

theorem State.sendEnumerate_frame {M : Nat} {a s : State} (h : Frame M a s) (n : Nat) (port : Nat) (full : Bool) (hm : Nat.lor 0x4001000 M = M := by decide +kernel) :
    Frame M a (State.sendEnumerate s n port full) := by
  refine h.trans (Frame.mono hm ?_)
  unfold State.sendEnumerate
  repeat' with_reducible first
    | exact Frame.refl _ | apply Frame.ite | apply State.sendBaton_frame | decide +kernel | intro _ | split

theorem State.enumerateInSlot_frame {M : Nat} {a s : State} (h : Frame M a s) (n : Nat) (port : Nat) (hm : Nat.lor 0x4001000 M = M := by decide +kernel) :
    Frame M a (State.enumerateInSlot s n port) := by
  refine h.trans (Frame.mono hm ?_)
  unfold State.enumerateInSlot
  repeat' with_reducible first
    | exact Frame.refl _ | apply Frame.ite | apply State.launch_frame | decide +kernel | intro _ | split

theorem State.setSeqFault_frame {M : Nat} {a s : State} (h : Frame M a s) (n : Nat) (k : Nat) (hm : Nat.lor 0x38b00000000000085060000000000000000000000005e4d00000001c2000000003ffff80017fe000000000000000000a838000000000327c020000000100000000000800020000007000000002000000000800000000000040c1fa8 M = M := by decide +kernel) :
    Frame M a (State.setSeqFault s n k) := by
  refine h.trans (Frame.mono hm ?_)
  unfold State.setSeqFault
  repeat' with_reducible first
    | exact Frame.refl _ | apply State.wrB_frame | apply State.setDiag_frame | apply State.bump_frame | decide +kernel | split

theorem State.nodeDiags_frame {M : Nat} {a s : State} (h : Frame M a s) (n : Nat) (hm : Nat.lor 0x38b00000000000085060000000000000000000000005e4d00000001c2000000003ffff80017fe000000000000000000a838000000000327c020000000000000000000000000000007000000002000000000800000000000040c1fa8 M = M := by decide +kernel) :
    Frame M a (State.nodeDiags s n) := by
  refine h.trans (Frame.mono hm ?_)
  unfold State.nodeDiags
  repeat' with_reducible first
    | exact Frame.refl _ | apply State.setDiag_frame | decide +kernel | split

theorem State.recordOpen_frame {M : Nat} {a s : State} (h : Frame M a s) (subject : Nat) (str : Nat) (node : Nat) (hm : Nat.lor 0x800000000000000000000000000000000000000000000000000000000000000000000000000000000000000000000200800000000000000000000000000000000000000000000000000000000000000006000720 M = M := by decide +kernel) :
    Frame M a (State.recordOpen s subject str node) := by
  refine h.trans (Frame.mono hm ?_)
  unfold State.recordOpen
  repeat' with_reducible first
    | exact Frame.refl _ | apply State.fresh_frame | apply State.record_frame | decide +kernel | split
    | refine Frame.snd (by assumption) ?_

theorem State.lapsReached_frame {M : Nat} {a s : State} (h : Frame M a s) (o : State) (n : Nat) (hm : Nat.lor 0x1000 M = M := by decide +kernel) :
    Frame M a (State.lapsReached s o n) := by
  refine h.trans (Frame.mono hm ?_)
  unfold State.lapsReached
  repeat' with_reducible first
    | exact Frame.refl _ | apply Frame.ite | apply State.modLaps_frame | decide +kernel | intro _ | split

theorem State.setSegments_frame {M : Nat} {a s : State} (h : Frame M a s) (n : Nat) (st : Nat) (a_ : Nat) (b : Nat) (cause : Nat) (node : Nat) (hm : Nat.lor 0x80000000000000000000000000000000000000000000000000000000000000000000000000000000000000000000020080000000000000000000001800100c84e800000000000000000000000000000004001720 M = M := by decide +kernel) :
    Frame M a (State.setSegments s n st a_ b cause node) := by
  refine h.trans (Frame.mono hm ?_)
  unfold State.setSegments
  repeat' with_reducible first
    | exact Frame.refl _ | apply Frame.ite | apply State.wr_frame | apply State.lapsReached_frame | apply State.wrB_frame
    | apply State.modRing_frame | apply State.bump_frame | apply State.stamp_frame | apply State.record_frame | decide +kernel
    | apply Frame.foldl | intro _ | split

theorem State.portBreak_frame {M : Nat} {a s : State} (h : Frame M a s) (n : Nat) (port : Nat) (hm : Nat.lor 0x80000000000000000000000000000000000000000000000000000000000000000000000000000000000000000000020080000000000000000000001800100c84e800000000000000000000000000000004001720 M = M := by decide +kernel) :
    Frame M a (State.portBreak s n port) := by
  refine h.trans (Frame.mono hm ?_)
  unfold State.portBreak
  repeat' with_reducible first
    | exact Frame.refl _ | apply Frame.ite | apply State.setSegments_frame | decide +kernel | split

theorem State.turnBreak_frame {M : Nat} {a s : State} (h : Frame M a s) (n : Nat) (node : Nat) (side : Nat) (hm : Nat.lor 0x80000000000000000000000000000000000000000000000000000000000000000000000000000000000000000000020080000000000000000000001800100c84e800000000000000000000000000000004001720 M = M := by decide +kernel) :
    Frame M a (State.turnBreak s n node side) := by
  refine h.trans (Frame.mono hm ?_)
  unfold State.turnBreak
  repeat' with_reducible first
    | exact Frame.refl _ | apply Frame.ite | apply State.setSegments_frame | decide +kernel | split

theorem State.linkBreak_frame {M : Nat} {a s : State} (h : Frame M a s) (n : Nat) (node : Nat) (aDown : Bool) (bDown : Bool) (hm : Nat.lor 0x80000000000000000000000000000000000000000000000000000000000000000000000000000000000000000000020080000000000000000000001800100c84e800000000000000000000000000000004001720 M = M := by decide +kernel) :
    Frame M a (State.linkBreak s n node aDown bDown) := by
  refine h.trans (Frame.mono hm ?_)
  unfold State.linkBreak
  repeat' with_reducible first
    | exact Frame.refl _ | apply Frame.ite | apply State.turnBreak_frame | decide +kernel | intro _ | split

theorem State.missingBreak_frame {M : Nat} {a s : State} (h : Frame M a s) (n : Nat) (hm : Nat.lor 0x80000000000000000000000000000000000000000000000000000000000000000000000000000000000000000000020080000000000000000000001800100c84e800000000000000000000000000000004001720 M = M := by decide +kernel) :
    Frame M a (State.missingBreak s n) := by
  refine h.trans (Frame.mono hm ?_)
  unfold State.missingBreak
  repeat' with_reducible first
    | exact Frame.refl _ | apply State.setSegments_frame | decide +kernel | split

theorem State.jointCheck_frame {M : Nat} {a s : State} (h : Frame M a s) (n : Nat) (hm : Nat.lor 0x40000000000000000000000000000000000001000 M = M := by decide +kernel) :
    Frame M a (State.jointCheck s n) := by
  refine h.trans (Frame.mono hm ?_)
  unfold State.jointCheck
  repeat' with_reducible first
    | exact Frame.refl _ | apply Frame.ite | apply State.modRing_frame | apply State.wrB_frame | decide +kernel | intro _
    | split

theorem State.startEnum_frame {M : Nat} {a s : State} (h : Frame M a s) (n : Nat) (a_ : Bool) (b : Bool) (hm : Nat.lor 0x400000000100000000000000000000000000000000004001000 M = M := by decide +kernel) :
    Frame M a (State.startEnum s n a_ b) := by
  refine h.trans (Frame.mono hm ?_)
  unfold State.startEnum
  repeat' with_reducible first
    | exact Frame.refl _ | apply Frame.ite | apply State.modRing_frame | apply State.wrB_frame | apply State.bump_frame
    | apply State.sendEnumerate_frame | decide +kernel | intro _ | split

theorem State.epochJob_frame {M : Nat} {a s : State} (h : Frame M a s) (n : Nat) (hm : Nat.lor 0x100000000000000000000000000000000000001000 M = M := by decide +kernel) :
    Frame M a (State.epochJob s n) := by
  refine h.trans (Frame.mono hm ?_)
  unfold State.epochJob
  repeat' with_reducible first
    | exact Frame.refl _ | apply Frame.ite | apply State.modRing_frame | apply State.wrB_frame | decide +kernel | intro _
    | split

theorem State.modJob_frame {M : Nat} {a s : State} (h : Frame M a s) (n : Nat) (f : Job → Job) (hm : Nat.lor 0x1000 M = M := by decide +kernel) :
    Frame M a (State.modJob s n f) := by
  refine h.trans (Frame.mono hm ?_)
  unfold State.modJob
  repeat' with_reducible first
    | exact Frame.refl _ | apply State.modRing_frame | decide +kernel | intro _ | split

theorem State.sendAssign_frame {M : Nat} {a s : State} (h : Frame M a s) (n : Nat) (j : Job) (i : Nat) (hm : Nat.lor 0x4001000 M = M := by decide +kernel) :
    Frame M a (State.sendAssign s n j i) := by
  refine h.trans (Frame.mono hm ?_)
  unfold State.sendAssign
  repeat' with_reducible first
    | exact Frame.refl _ | apply Frame.ite | apply State.modJob_frame | apply State.sendBaton_frame | decide +kernel | intro _
    | split

theorem State.resumeJobs_frame {M : Nat} {a s : State} (h : Frame M a s) (n : Nat) (hm : Nat.lor 0x100000000000000000000000000000000004001000 M = M := by decide +kernel) :
    Frame M a (State.resumeJobs s n) := by
  refine h.trans (Frame.mono hm ?_)
  unfold State.resumeJobs
  repeat' with_reducible first
    | exact Frame.refl _ | apply Frame.ite | apply State.epochJob_frame | apply State.modRing_frame
    | apply State.sendAssign_frame | decide +kernel | intro _ | split | dsimp only

theorem State.reassign_frame {M : Nat} {a s : State} (h : Frame M a s) (n : Nat) (nodes : List Nat) (hm : Nat.lor 0x100000000000000000000000000000000004001000 M = M := by decide +kernel) :
    Frame M a (State.reassign s n nodes) := by
  refine h.trans (Frame.mono hm ?_)
  unfold State.reassign
  repeat' with_reducible first
    | exact Frame.refl _ | apply Frame.ite | apply State.modRing_frame | apply State.resumeJobs_frame | decide +kernel
    | intro _ | split

theorem State.renumber_frame {M : Nat} {a s : State} (h : Frame M a s) (n : Nat) (hm : Nat.lor 0x100000000000000000000000000000000004001000 M = M := by decide +kernel) :
    Frame M a (State.renumber s n) := by
  refine h.trans (Frame.mono hm ?_)
  unfold State.renumber
  repeat' with_reducible first
    | exact Frame.refl _ | apply Frame.ite | apply State.modRing_frame | apply State.resumeJobs_frame | decide +kernel
    | intro _ | split

theorem State.decideEnum_frame {M : Nat} {a s : State} (h : Frame M a s) (n : Nat) (j : Job) (hm : Nat.lor 0x8000000000000010000100000000000000000000000000000000004001000 M = M := by decide +kernel) :
    Frame M a (State.decideEnum s n j) := by
  refine h.trans (Frame.mono hm ?_)
  unfold State.decideEnum
  repeat' with_reducible first
    | exact Frame.refl _ | apply Frame.ite | apply State.modRing_frame | apply State.wrB_frame | apply State.modNode_frame
    | apply State.resumeJobs_frame | decide +kernel | apply Frame.foldl | intro _ | split

theorem State.jobProbe_frame {M : Nat} {a s : State} (h : Frame M a s) (n : Nat) (j : Job) (hm : Nat.lor 0x4001000 M = M := by decide +kernel) :
    Frame M a (State.jobProbe s n j) := by
  refine h.trans (Frame.mono hm ?_)
  unfold State.jobProbe
  repeat' with_reducible first
    | exact Frame.refl _ | apply State.sendProbe_frame | decide +kernel | split

theorem State.assigned_frame {M : Nat} {a s : State} (h : Frame M a s) (n : Nat) (j : Job) (hm : Nat.lor 0x100000000000000000000000000000000004001000 M = M := by decide +kernel) :
    Frame M a (State.assigned s n j) := by
  refine h.trans (Frame.mono hm ?_)
  unfold State.assigned
  repeat' with_reducible first
    | exact Frame.refl _ | apply Frame.ite | apply State.modRing_frame | apply State.resumeJobs_frame | apply State.pump_frame
    | apply State.modJob_frame | decide +kernel | intro _ | split

theorem State.nextAssign_frame {M : Nat} {a s : State} (h : Frame M a s) (n : Nat) (hm : Nat.lor 0x100000000000000000000000000000000004001000 M = M := by decide +kernel) :
    Frame M a (State.nextAssign s n) := by
  refine h.trans (Frame.mono hm ?_)
  unfold State.nextAssign
  repeat' with_reducible first
    | exact Frame.refl _ | apply State.assigned_frame | apply State.sendAssign_frame | decide +kernel | split

theorem State.beginAssign_frame {M : Nat} {a s : State} (h : Frame M a s) (n : Nat) (hm : Nat.lor 0x100000000000000000000000000000000004001000 M = M := by decide +kernel) :
    Frame M a (State.beginAssign s n) := by
  refine h.trans (Frame.mono hm ?_)
  unfold State.beginAssign
  repeat' with_reducible first
    | exact Frame.refl _ | apply Frame.ite | apply State.modJob_frame | apply State.nextAssign_frame | decide +kernel
    | intro _ | split

end Sys2Proof.Machine
end

