-- ==== Sys2Proof/Laws/Frame/LapOps.lean ====
section
/-! SUPPORT. What the operations of Machine/LapOps.lean may change (`Frame`). -/

namespace Sys2Proof.Machine
open Obj

set_option linter.all false
set_option Elab.async false

theorem State.sendSample_frame {M : Nat} {a s : State} (h : Frame M a s) (n : Nat) (port : Nat) (dep : Nat) (x : Lap) (lead : Nat) (late : Bool) (closed : Bool) (hm : Nat.lor 0x4001000 M = M := by decide +kernel) :
    Frame M a (State.sendSample s n port dep x lead late closed) := by
  refine h.trans (Frame.mono hm ?_)
  unfold State.sendSample
  repeat' with_reducible first
    | exact Frame.refl _ | apply Frame.ite | apply State.launch_frame | decide +kernel | intro _ | split

theorem State.nameInstant_frame {M : Nat} {a s : State} (h : Frame M a s) (n : Nat) (seq : Nat) (late : Bool) (at_ : Nat) (plain : Nat) (hm : Nat.lor 0x4001000 M = M := by decide +kernel) :
    Frame M a (State.nameInstant s n seq late at_ plain) := by
  refine h.trans (Frame.mono hm ?_)
  unfold State.nameInstant
  repeat' with_reducible first
    | exact Frame.refl _ | apply Frame.ite | apply State.modStr_frame | apply State.send_frame | decide +kernel | intro _
    | split

theorem State.underOld_frame {M : Nat} {a s : State} (h : Frame M a s) (n seq : Nat) (f : State → State)
    (hf : ∀ v, Frame M v (f v)) : Frame M a (s.underOld n seq f) := by
  refine h.trans ?_
  unfold State.underOld
  dsimp only
  split
  · exact hf s
  have k := hf (s.putCells (((s.lap? n seq).map (·.old)).getD []))
  refine ⟨k.pending, k.now, fun j hj => ?_, k.clk, k.nv, k.power, k.panel, k.boot, k.sec, k.mbx, k.hist, k.i2c, k.safe, k.strs,
    k.traces, k.dies, k.thermal, k.ledger, k.upd, k.can, k.chans, k.blk, k.coll, k.time, k.pouts, k.caps, k.free, k.out⟩
  dsimp only
  rw [Store.get?_sets]
  split
  · rfl
  · next e => rw [k.objs j hj]; exact Store.get?_puts_ne _ _ _ e

theorem State.lateSample_frame {M : Nat} {a s : State} (h : Frame M a s) (n : Nat) (damaged : Bool) (hm : Nat.lor 0x300000000000000000000000000000000000000000000000004001000 M = M := by decide +kernel) :
    Frame M a (State.lateSample s n damaged) := by
  refine h.trans (Frame.mono hm ?_)
  unfold State.lateSample
  repeat' with_reducible first
    | exact Frame.refl _ | apply Frame.ite | apply State.bump_frame | apply State.modLap_frame | apply State.sendSample_frame
    | apply State.nameInstant_frame | decide +kernel | intro _ | split

theorem State.sendCollect_frame {M : Nat} {a s : State} (h : Frame M a s) (n : Nat) (port : Nat) (x : Lap) (ks : List Nat) (hm : Nat.lor 0x4001000 M = M := by decide +kernel) :
    Frame M a (State.sendCollect s n port x ks) := by
  refine h.trans (Frame.mono hm ?_)
  unfold State.sendCollect
  repeat' with_reducible first
    | exact Frame.refl _ | apply Frame.ite | apply State.sendBaton_frame | decide +kernel | intro _ | split

theorem State.retryCollect_frame {M : Nat} {a s : State} (h : Frame M a s) (n : Nat) (seq : Nat) (a_ : Nat) (b : Nat) (hm : Nat.lor 0x800000000000000000000000000000000000000000000000004001000 M = M := by decide +kernel) :
    Frame M a (State.retryCollect s n seq a_ b) := by
  refine h.trans (Frame.mono hm ?_)
  unfold State.retryCollect
  repeat' with_reducible first
    | exact Frame.refl _ | apply Frame.ite | apply State.sendCollect_frame | apply State.bump_frame | apply State.modLap_frame
    | decide +kernel | intro _ | split

theorem State.recFlags_frame {M : Nat} {a s : State} (h : Frame M a s) (n : Nat) (k : Nat) (d : Bytes) (hm : Nat.lor 0x16e00000000000001c000000000000000000000000000000000000000001000 M = M := by decide +kernel) :
    Frame M a (State.recFlags s n k d) := by
  refine h.trans (Frame.mono hm ?_)
  unfold State.recFlags
  repeat' with_reducible first
    | exact Frame.refl _ | apply State.wrB_frame | apply State.modNode_frame | decide +kernel | intro _ | split

theorem State.recCounter_frame {M : Nat} {a s : State} (h : Frame M a s) (n : Nat) (k : Nat) (d : Bytes) (hm : Nat.lor 0x38b00000000000085060000000000000000000000005e4d00000001c2000000003ffff80017fe000000000000000000a838000000000327c020000000100000000000800420000007000000002000000000800000000000040c1fa8 M = M := by decide +kernel) :
    Frame M a (State.recCounter s n k d) := by
  refine h.trans (Frame.mono hm ?_)
  unfold State.recCounter
  repeat' with_reducible first
    | exact Frame.refl _ | apply Frame.ite | apply State.setSeqFault_frame | apply State.wr_frame | decide +kernel | intro _
    | split

theorem State.takeRecord_frame {M : Nat} {a s : State} (h : Frame M a s) (n : Nat) (seq : Nat) (k : Nat) (d : Bytes) (hm : Nat.lor 0x38b00000000000085060000000000000000000000005e4d00000001c2000000003ffff80017fe000000000000000000a838000000000327c0200000017e00000000019805f00c94ef000000002000000000800000000000040c1fa8 M = M := by decide +kernel) :
    Frame M a (State.takeRecord s n seq k d) := by
  refine h.trans (Frame.mono hm ?_)
  unfold State.takeRecord
  repeat' with_reducible first
    | exact Frame.refl _ | apply Frame.ite | apply State.bump_frame | apply State.reassign_frame | apply State.modLap_frame
    | apply State.recCounter_frame | apply State.recFlags_frame | apply State.nodeDiags_frame | apply State.classifyTrip_frame
    | apply State.linkBreak_frame | apply State.jointCheck_frame | decide +kernel | intro _ | split

theorem State.blankAll_frame {M : Nat} {a s : State} (h : Frame M a s) (n : Nat) (x : Lap) (hm : Nat.lor 0x1000 M = M := by decide +kernel) :
    Frame M a (State.blankAll s n x) := by
  refine h.trans (Frame.mono hm ?_)
  unfold State.blankAll
  repeat' with_reducible first
    | exact Frame.refl _ | apply Frame.ite | apply State.modNode_frame | decide +kernel | apply Frame.foldl | intro _ | split

end Sys2Proof.Machine
end

