-- ==== Sys2Proof/Laws/Frame/NodeOps.lean ====
section
/-! SUPPORT. What the operations of Machine/NodeOps.lean may change (`Frame`). -/

namespace Sys2Proof.Machine
open Obj

set_option linter.all false
set_option Elab.async false

theorem State.modWire_frame {M : Nat} {a s : State} (h : Frame M a s) (n : Nat) (k : Nat) (w : Nat) (f : Wire → Wire) (hm : Nat.lor 0x1000 M = M := by decide +kernel) :
    Frame M a (State.modWire s n k w f) := by
  refine h.trans (Frame.mono hm ?_)
  unfold State.modWire
  repeat' with_reducible first
    | exact Frame.refl _ | apply State.modNode_frame | decide +kernel | split

theorem State.wireRegs_frame {M : Nat} {a s : State} (h : Frame M a s) (n : Nat) (hm : Nat.lor 0x38b00000000000085060000000000000000000000005e4d00000001c2000000003ffff80017fe000000000000000000a838000000000327c03fc00000000000000000000000000007000000002000000000800000000000040c1fa8 M = M := by decide +kernel) :
    Frame M a (State.wireRegs s n) := by
  refine h.trans (Frame.mono hm ?_)
  unfold State.wireRegs
  repeat' with_reducible first
    | exact Frame.refl _ | apply Frame.ite | apply State.wrB_frame | apply State.wr_frame | apply State.setDiag_frame
    | decide +kernel | apply Frame.foldl | intro _ | split

theorem State.wireTests_frame {M : Nat} {a s : State} (h : Frame M a s) (n : Nat) (hm : Nat.lor 0x4001000 M = M := by decide +kernel) :
    Frame M a (State.wireTests s n) := by
  refine h.trans (Frame.mono hm ?_)
  unfold State.wireTests
  repeat' with_reducible first
    | exact Frame.refl _ | apply Frame.ite | apply State.modWire_frame | apply State.queueCmd_frame | decide +kernel
    | apply Frame.foldl | intro _ | split

theorem State.wireResult_frame {M : Nat} {a s : State} (h : Frame M a s) (n : Nat) (k : Nat) (w : Nat) (result : Nat) (hm : Nat.lor 0x38b00000000000085060000000000000000000000005e4d00000001c2000000003ffff80017fe000000000000000000a838000000000327c03fc80000000000000000000000000007000000002000000000800000000000060c1fa8 M = M := by decide +kernel) :
    Frame M a (State.wireResult s n k w result) := by
  refine h.trans (Frame.mono hm ?_)
  unfold State.wireResult
  repeat' with_reducible first
    | exact Frame.refl _ | apply Frame.ite | apply State.bump_frame | apply State.modWire_frame | apply State.recordOpen_frame
    | apply State.wireRegs_frame | apply State.classifyTrip_frame | decide +kernel | intro _ | split

theorem State.classifyWires_frame {M : Nat} {a s : State} (h : Frame M a s) (n : Nat) (k : Nat) (d : Bytes) (hm : Nat.lor 0x800000000000000000000000000000000000000000000000000000000000000000000000000000000000000000000200800000000000000000000000000000000000000000000000000000000000000006001720 M = M := by decide +kernel) :
    Frame M a (State.classifyWires s n k d) := by
  refine h.trans (Frame.mono hm ?_)
  unfold State.classifyWires
  repeat' with_reducible first
    | exact Frame.refl _ | apply Frame.ite | apply State.recordOpen_frame | apply State.modWire_frame | decide +kernel
    | apply Frame.foldl | intro _ | split

theorem State.sumCheck_frame {M : Nat} {a s : State} (h : Frame M a s) (n : Nat) (k : Nat) (diff : Int) (hm : Nat.lor 0x80000000000000000000000000000000000000000000000000000000001000 M = M := by decide +kernel) :
    Frame M a (State.sumCheck s n k diff) := by
  refine h.trans (Frame.mono hm ?_)
  unfold State.sumCheck
  repeat' with_reducible first
    | exact Frame.refl _ | apply Frame.ite | apply State.modNode_frame | apply State.wrB_frame | decide +kernel | intro _
    | split

theorem State.lapNode_frame {M : Nat} {a s : State} (h : Frame M a s) (n : Nat) (x : Lap) (k : Nat) (d : Bytes) (hm : Nat.lor 0x800000000000000000000000000000000000000000000000000000000000000000000000000000000000000000000200800016700080000000000000000000000000000000000000000000000000000006001720 M = M := by decide +kernel) :
    Frame M a (State.lapNode s n x k d) := by
  refine h.trans (Frame.mono hm ?_)
  unfold State.lapNode
  repeat' with_reducible first
    | exact Frame.refl _ | apply Frame.ite | apply State.modNode_frame | apply State.wr_frame | apply State.wrI_frame
    | apply State.sumCheck_frame | apply State.classifyWires_frame | decide +kernel | apply Frame.foldl | intro _ | split

theorem State.tempUnknown_frame {M : Nat} {a s : State} (h : Frame M a s) (n : Nat) (hm : Nat.lor 0x38b00000000000085060000000000000000000000005e4d00000001c2000000003ffff80017fe000000000000000000a838000000000327c020000000000000000000000000000007000000002000000000800000000000040c1fa8 M = M := by decide +kernel) :
    Frame M a (State.tempUnknown s n) := by
  refine h.trans (Frame.mono hm ?_)
  unfold State.tempUnknown
  repeat' with_reducible first
    | exact Frame.refl _ | apply Frame.ite | apply State.modNode_frame | apply State.setDiag_frame | decide +kernel
    | apply Frame.foldl | intro _ | split

end Sys2Proof.Machine
end

