-- ==== Sys2Proof/Laws/Frame/ProtCheck.lean ====
section
/-! SUPPORT. What the operations of Machine/ProtCheck.lean may change (`Frame`). -/

namespace Sys2Proof.Machine
open Obj

set_option linter.all false
set_option Elab.async false

theorem State.judge_frame {M : Nat} {a s : State} (h : Frame M a s) (n : Nat) (pos : Nat) (at_ : Nat) (kind : Nat) (v : Nat) (lo : Nat) (hi : Nat) (node : Nat) (chan : Nat) (hm : Nat.lor 0x38b00000000000085060000000000000000000000005e4d00000001c2000000003ffff80016fe000000000000000000a838000000000327c020000000000000000000000000000007000000002000000000800000000000040c1fa8 M = M := by decide +kernel) :
    Frame M a (State.judge s n pos at_ kind v lo hi node chan) := by
  refine h.trans (Frame.mono hm ?_)
  unfold State.judge
  repeat' with_reducible first
    | exact Frame.refl _ | apply Frame.ite | apply State.modProt_frame | apply State.trip_frame | decide +kernel | intro _
    | split

theorem State.dropTimers_frame {M : Nat} {a s : State} (h : Frame M a s) (n : Nat) (pos : Nat) (kinds : List Nat) (hm : Nat.lor 0x1000 M = M := by decide +kernel) :
    Frame M a (State.dropTimers s n pos kinds) := by
  refine h.trans (Frame.mono hm ?_)
  unfold State.dropTimers
  repeat' with_reducible first
    | exact Frame.refl _ | apply Frame.ite | apply State.modProt_frame | decide +kernel | intro _ | split

theorem State.checkVolt_frame {M : Nat} {a s : State} (h : Frame M a s) (n : Nat) (at_ : Nat) (pos : Nat) (p : Pos) (hm : Nat.lor 0x38b00000000000085060000000000000000000000005e4d00000001c2000000003ffff80016fe000000000000000000a838000000000327c020000000000000000000000000000007000000002000000000800000000000040c1fa8 M = M := by decide +kernel) :
    Frame M a (State.checkVolt s n at_ pos p) := by
  refine h.trans (Frame.mono hm ?_)
  unfold State.checkVolt
  repeat' with_reducible first
    | exact Frame.refl _ | apply Frame.ite | apply State.dropTimers_frame | apply State.judge_frame
    | apply State.modProt_frame | apply State.trip_frame | decide +kernel | apply Frame.foldl | intro _ | split

theorem State.checkTemp_frame {M : Nat} {a s : State} (h : Frame M a s) (n : Nat) (at_ : Nat) (pos : Nat) (p : Pos) (hm : Nat.lor 0x38b00000000000085060000000000000000000000005e4d00000001c2000000003ffff80016fe000000000000000000a838000000000327c020000000000000000000000000000007000000002000000000800000000000040c1fa8 M = M := by decide +kernel) :
    Frame M a (State.checkTemp s n at_ pos p) := by
  refine h.trans (Frame.mono hm ?_)
  unfold State.checkTemp
  repeat' with_reducible first
    | exact Frame.refl _ | apply Frame.ite | apply State.modProt_frame | apply State.trip_frame | decide +kernel | intro _
    | split

theorem State.checkTemps_frame {M : Nat} {a s : State} (h : Frame M a s) (n : Nat) (sel : Nat → Nat → Bool) (hm : Nat.lor 0x38b00000000000085060000000000000000000000005e4d00000001c2000000003ffff80017fe000000000000000000a838000000000327c020000000000000000000000000000007000000002000000000800000000000040c1fa8 M = M := by decide +kernel) :
    Frame M a (State.checkTemps s n sel) := by
  refine h.trans (Frame.mono hm ?_)
  unfold State.checkTemps
  repeat' with_reducible first
    | exact Frame.refl _ | apply Frame.ite | apply State.checkTemp_frame | apply State.tempUnknown_frame | decide +kernel
    | apply Frame.foldl | intro _ | split

theorem State.checkLap_frame {M : Nat} {a s : State} (h : Frame M a s) (n : Nat) (x : Lap) (hm : Nat.lor 0x38b00000000000085060000000000000000000000005e4d00000001c2000000003ffff80017fe000000000000000000a838000000000327c020000000000000000000000000000007000000002000000000800000000000040c1fa8 M = M := by decide +kernel) :
    Frame M a (State.checkLap s n x) := by
  refine h.trans (Frame.mono hm ?_)
  unfold State.checkLap
  repeat' with_reducible first
    | exact Frame.refl _ | apply Frame.ite | apply State.checkVolt_frame | apply State.checkTemps_frame
    | apply State.modProt_frame | apply State.refresh_frame | decide +kernel | apply Frame.foldl | intro _ | split

end Sys2Proof.Machine
end

