-- ==== Sys2Proof/Laws/Frame/NodeUpdate.lean ====
section
/-! SUPPORT. What the operations of Machine/NodeUpdate.lean may change (`Frame`). -/

namespace Sys2Proof.Machine
open Obj

set_option linter.all false
set_option Elab.async false

theorem State.updateRegs_frame {M : Nat} {a s : State} (h : Frame M a s) (n : Nat) (hm : Nat.lor 0x1f0000000000000000000000000000000000000000000000000000000000000000000000000000000000000000000000000000000000000000000000000000000000000000000000000000000000000000000000000000000 M = M := by decide +kernel) :
    Frame M a (State.updateRegs s n) := by
  refine h.trans (Frame.mono hm ?_)
  unfold State.updateRegs
  repeat' with_reducible first
    | exact Frame.refl _ | apply Frame.ite | apply State.wr_frame | decide +kernel | intro _ | split

theorem State.copyChunk_frame {M : Nat} {a s : State} (h : Frame M a s) (n : Nat) (k : Nat) (hm : Nat.lor 0x4001000 M = M := by decide +kernel) :
    Frame M a (State.copyChunk s n k) := by
  refine h.trans (Frame.mono hm ?_)
  unfold State.copyChunk
  repeat' with_reducible first
    | exact Frame.refl _ | apply Frame.ite | apply State.queueCmd_frame | decide +kernel | split

theorem State.bootNode_frame {M : Nat} {a s : State} (h : Frame M a s) (n : Nat) (k : Nat) (bank : Nat) (hm : Nat.lor 0x4001000 M = M := by decide +kernel) :
    Frame M a (State.bootNode s n k bank) := by
  refine h.trans (Frame.mono hm ?_)
  unfold State.bootNode
  repeat' with_reducible first
    | exact Frame.refl _ | apply Frame.ite | apply State.queueCmd_frame | apply State.modNode_frame | decide +kernel | intro _
    | split

theorem State.startCopy_frame {M : Nat} {a s : State} (h : Frame M a s) (n : Nat) (k : Nat) (hm : Nat.lor 0x600000000000000000000000000000000000000000000000000000000000000000000000000000000000000000000000000000000000000000000000000000000000000000000000000000000000000000000000004001000 M = M := by decide +kernel) :
    Frame M a (State.startCopy s n k) := by
  refine h.trans (Frame.mono hm ?_)
  unfold State.startCopy
  repeat' with_reducible first
    | exact Frame.refl _ | apply State.modNode_frame | apply State.wr_frame | apply State.queueCmd_frame
    | apply State.modRing_frame | decide +kernel | intro _ | split

theorem State.treatRow_frame {M : Nat} {a s : State} (h : Frame M a s) (n : Nat) (k : Nat) (held : Bool) (hm : Nat.lor 0x600000000000000000000000000000000000000000000000000000000000000000000000000000000000000000000000000000000000000000000000000000000000000000000000000000000000000000000000004001000 M = M := by decide +kernel) :
    Frame M a (State.treatRow s n k held) := by
  refine h.trans (Frame.mono hm ?_)
  unfold State.treatRow
  repeat' with_reducible first
    | exact Frame.refl _ | apply Frame.ite | apply State.modNode_frame | apply State.queueCmd_frame
    | apply State.startCopy_frame | apply State.bootNode_frame | decide +kernel | intro _ | split

theorem State.treatNode_frame {M : Nat} {a s : State} (h : Frame M a s) (n : Nat) (k : Nat) (hm : Nat.lor 0x27f0000000800000000000000000000000000000000000000000000000000000000000000000000000000000000000000000000200800000000000000000000000000000000000000000000000000000000000000004001720 M = M := by decide +kernel) :
    Frame M a (State.treatNode s n k) := by
  refine h.trans (Frame.mono hm ?_)
  unfold State.treatNode
  repeat' with_reducible first
    | exact Frame.refl _ | apply State.modRing_frame | apply State.record_frame | apply State.bump_frame
    | apply State.updateRegs_frame | apply State.treatRow_frame | decide +kernel | intro _ | split

theorem State.copyNext_frame {M : Nat} {a s : State} (h : Frame M a s) (n : Nat) (hm : Nat.lor 0x7f0000000000000000000000000000000000000000000000000000000000000000000000000000000000000000000000000000000000000000000000000000000000000000000000000000000000000000000000004001000 M = M := by decide +kernel) :
    Frame M a (State.copyNext s n) := by
  refine h.trans (Frame.mono hm ?_)
  unfold State.copyNext
  repeat' with_reducible first
    | exact Frame.refl _ | apply Frame.ite | apply State.updateRegs_frame | apply State.treatRow_frame | decide +kernel
    | apply Frame.foldl | intro _ | split

end Sys2Proof.Machine
end

