-- ==== Sys2Proof/Laws/Frame/FilterLap.lean ====
section
/-! SUPPORT. What the operations of Machine/FilterLap.lean may change (`Frame`). -/

namespace Sys2Proof.Machine
open Obj

set_option linter.all false
set_option Elab.async false

theorem State.lapCheck_frame {M : Nat} {a s : State} (h : Frame M a s) (n : Nat) (x : Lap) (hm : Nat.lor 0x4020000000000000000000000000000000000000000000000000000000000000000000000000000000000000001000 M = M := by decide +kernel) :
    Frame M a (State.lapCheck s n x) := by
  refine h.trans (Frame.mono hm ?_)
  unfold State.lapCheck
  repeat' with_reducible first
    | exact Frame.refl _ | apply Frame.ite | apply State.modLap_frame | apply State.bump_frame | apply State.wr_frame
    | apply State.modEst_frame | decide +kernel | intro _ | split

theorem State.thermalLap_frame {M : Nat} {a s : State} (h : Frame M a s) (n : Nat) (dt : Nat) (hm : Nat.lor 0x800000000000000000000000000000000000000000001e00000000000000000000000000000000000000000000000200800000000000000000000000000000000000000000000000000000000000000004008720 M = M := by decide +kernel) :
    Frame M a (State.thermalLap s n dt) := by
  refine h.trans (Frame.mono hm ?_)
  unfold State.thermalLap
  repeat' with_reducible first
    | exact Frame.refl _ | apply Frame.ite | apply State.record_frame | decide +kernel | apply Frame.foldl | intro _ | split
    | fail_if_no_progress refine Frame.on_thermal ?_ _

theorem State.restLap_frame {M : Nat} {a s : State} (h : Frame M a s) (n : Nat) (x : Lap) (hm : Nat.lor 0x1000 M = M := by decide +kernel) :
    Frame M a (State.restLap s n x) := by
  refine h.trans (Frame.mono hm ?_)
  unfold State.restLap
  repeat' with_reducible first
    | exact Frame.refl _ | apply Frame.ite | apply State.modEst_frame | decide +kernel | intro _ | split

theorem State.tableLap_frame {M : Nat} {a s : State} (h : Frame M a s) (n : Nat) (x : Lap) (hm : Nat.lor 0x800000000000000000000000000000000000000000000000000000000000000007000000000000000000000000000200800000000000000000000000000000000000000000000000000000000000000004011720 M = M := by decide +kernel) :
    Frame M a (State.tableLap s n x) := by
  refine h.trans (Frame.mono hm ?_)
  unfold State.tableLap
  repeat' with_reducible first
    | exact Frame.refl _ | apply Frame.ite | apply State.modEst_frame | apply State.compareEntries_frame
    | apply State.record_frame | decide +kernel | intro _ | split

theorem State.throughput_frame {M : Nat} {a s : State} (h : Frame M a s) (n : Nat) (x : Lap) (hm : Nat.lor 0x11000 M = M := by decide +kernel) :
    Frame M a (State.throughput s n x) := by
  refine h.trans (Frame.mono hm ?_)
  unfold State.throughput
  repeat' with_reducible first
    | exact Frame.refl _ | apply Frame.ite | apply State.modEst_frame | decide +kernel | intro _ | split
    | fail_if_no_progress refine Frame.on_ledger ?_ _ | fail_if_no_progress refine Frame.mk' ?_

theorem State.filterEvents_frame {M : Nat} {a s : State} (h : Frame M a s) (n : Nat) (ps : List Pos) (hm : Nat.lor 0x800000000000000000000000000000000000000000000000000000000000000000000000000e00000000000000000200800000000000000000000000000000000000000000000000000000000000000004000720 M = M := by decide +kernel) :
    Frame M a (State.filterEvents s n ps) := by
  refine h.trans (Frame.mono hm ?_)
  unfold State.filterEvents
  repeat' with_reducible first
    | exact Frame.refl _ | apply Frame.ite | apply State.bump_frame | apply State.record_frame | decide +kernel
    | apply Frame.foldl | intro _ | split

theorem State.seedLap_frame {M : Nat} {a s : State} (h : Frame M a s) (n : Nat) (tb : Nat) (x : Lap) (ps : List Pos) (hm : Nat.lor 0x800000000000000000000000000000000000000000000000000000000000000000000000000000000000000000000200800000000000000000000000000000000000000000000000000000000000000004000720 M = M := by decide +kernel) :
    Frame M a (State.seedLap s n tb x ps).2 := by
  refine h.trans (Frame.mono hm ?_)
  unfold State.seedLap
  dsimp only
  repeat' with_reducible first
    | exact Frame.refl _ | apply Frame.ite | apply State.record_frame | decide +kernel | apply Frame.foldl | intro _ | split

theorem State.clipLap_frame {M : Nat} {a s : State} (h : Frame M a s) (n : Nat) (x : Lap) (hm : Nat.lor 0x1000 M = M := by decide +kernel) :
    Frame M a (State.clipLap s n x) := by
  refine h.trans (Frame.mono hm ?_)
  unfold State.clipLap
  repeat' with_reducible first
    | exact Frame.refl _ | apply Frame.ite | apply State.modFe_frame | apply State.modEst_frame | decide +kernel | intro _
    | split

theorem State.skipLap_frame {M : Nat} {a s : State} (h : Frame M a s) (n : Nat) (x : Lap) (hm : Nat.lor 0x100000000000000000000000000000000000000000000000000000000000000000000000000000000000000001000 M = M := by decide +kernel) :
    Frame M a (State.skipLap s n x) := by
  refine h.trans (Frame.mono hm ?_)
  unfold State.skipLap
  repeat' with_reducible first
    | exact Frame.refl _ | apply Frame.ite | apply State.modLap_frame | apply State.bump_frame | apply State.modEst_frame
    | decide +kernel | intro _ | split

theorem State.updateLap_frame {M : Nat} {a s : State} (h : Frame M a s) (n : Nat) (x : Lap) (hm : Nat.lor 0x800000000000000000000000000000000000000000000000000000000000000007000000000e10c00000000000000200800000000000000000000000000000000000000000000000000000000000000006011720 M = M := by decide +kernel) :
    Frame M a (State.updateLap s n x) := by
  refine h.trans (Frame.mono hm ?_)
  unfold State.updateLap
  repeat' with_reducible first
    | exact Frame.refl _ | apply Frame.ite | apply State.modEst_frame | apply State.tableLap_frame
    | apply State.filterEvents_frame | apply State.seedLap_frame | apply State.bump_frame | apply State.wr_frame
    | decide +kernel | intro _ | split | fail_if_no_progress refine Frame.on_free ?_ _
    | fail_if_no_progress refine Frame.mk' ?_ | refine Frame.snd (by assumption) ?_

theorem State.filterLap_frame {M : Nat} {a s : State} (h : Frame M a s) (n : Nat) (x : Lap) (hm : Nat.lor 0x800000000000000000000000000000000000000000001e0000000000000000000f800000004f30c00000000000000200800000000000000000000000000000000081000000000000000000000000000006019720 M = M := by decide +kernel) :
    Frame M a (State.filterLap s n x) := by
  refine h.trans (Frame.mono hm ?_)
  unfold State.filterLap
  repeat' with_reducible first
    | exact Frame.refl _ | apply Frame.ite | apply State.restLap_frame | apply State.clipLap_frame | apply State.modEst_frame
    | apply State.throughput_frame | apply State.thermalLap_frame | apply State.restoreLap_frame
    | apply State.pendingLap_frame | apply State.wrB_frame | apply State.skipLap_frame | apply State.lapCheck_frame
    | apply State.updateLap_frame | decide +kernel | intro _ | split

end Sys2Proof.Machine
end

