-- ==== Sys2Proof/Laws/Frame/Outputs.lean ====
section
/-! SUPPORT. What the operations of Machine/Outputs.lean may change (`Frame`). -/

namespace Sys2Proof.Machine
open Obj

set_option linter.all false
set_option Elab.async false

theorem State.outliers_frame {M : Nat} {a s : State} (h : Frame M a s) (n : Nat) (hm : Nat.lor 0x800000000000000000000000000000000000000000000000000000000000000000000000000000000000000000000200800000000000000000000000000000000000000000000000000000000000000004001720 M = M := by decide +kernel) :
    Frame M a (State.outliers s n) := by
  refine h.trans (Frame.mono hm ?_)
  unfold State.outliers
  repeat' with_reducible first
    | exact Frame.refl _ | apply Frame.ite | apply State.modEst_frame | apply State.record_frame | decide +kernel
    | apply Frame.foldl | intro _ | split

theorem State.anchorLap_frame {M : Nat} {a s : State} (h : Frame M a s) (n : Nat) (x : Lap) (hm : Nat.lor 0x800000000000000000000000000000000000000000000000000000000000000000040000000000000000000000000200800000000000000000000000000000000000000000000000000000000000000004001720 M = M := by decide +kernel) :
    Frame M a (State.anchorLap s n x).2 := by
  refine h.trans (Frame.mono hm ?_)
  unfold State.anchorLap
  dsimp only
  repeat' with_reducible first
    | exact Frame.refl _ | apply Frame.ite | apply State.wr_frame | apply State.modEst_frame | apply State.record_frame
    | decide +kernel | intro _ | split

theorem State.learnLap_frame {M : Nat} {a s : State} (h : Frame M a s) (n : Nat) (x : Lap) (hm : Nat.lor 0x800000000000000000000000000000000000000000000000000000000000000000020000000000000000000000000200800000000000000000000000000000000000000000000000000000000000000004011720 M = M := by decide +kernel) :
    Frame M a (State.learnLap s n x) := by
  refine h.trans (Frame.mono hm ?_)
  unfold State.learnLap
  repeat' with_reducible first
    | exact Frame.refl _ | apply Frame.ite | apply State.modLap_frame | apply State.putEntry_frame | apply State.bump_frame
    | apply State.record_frame | apply State.outliers_frame | decide +kernel | apply Frame.foldl | intro _ | split

theorem State.learnDue_frame {M : Nat} {a s : State} (h : Frame M a s) (n : Nat) (hm : Nat.lor 0x800000000000000000000000000000000000000000000000000000000000000000020000000000000000000000000200800000000000000000000000000000000000000000000000000000000000000004011720 M = M := by decide +kernel) :
    Frame M a (State.learnDue s n) := by
  refine h.trans (Frame.mono hm ?_)
  unfold State.learnDue
  repeat' with_reducible first
    | exact Frame.refl _ | apply Frame.ite | apply State.learnLap_frame | decide +kernel | apply Frame.foldl | intro _ | split

theorem State.divergeLap_frame {M : Nat} {a s : State} (h : Frame M a s) (n : Nat) (x : Lap) (dt : Nat) (hm : Nat.lor 0x800000000000000000000000000000000000000000000000000000000000000000000400c00000000000000000000200800000000000000000000000000000000000000000000000000000000000000004001720 M = M := by decide +kernel) :
    Frame M a (State.divergeLap s n x dt) := by
  refine h.trans (Frame.mono hm ?_)
  unfold State.divergeLap
  repeat' with_reducible first
    | exact Frame.refl _ | apply Frame.ite | apply State.modEst_frame | apply State.record_frame | apply State.wr_frame
    | apply State.wrB_frame | apply State.attention_frame | decide +kernel | apply Frame.foldl | intro _ | split

theorem State.divergeRegs_frame {M : Nat} {a s : State} (h : Frame M a s) (n : Nat) (at_ : Nat) (hm : Nat.lor 0x1ff80000000000000000000000000000000000000000000000000000000000000000000000000000000000000000000000000000000 M = M := by decide +kernel) :
    Frame M a (State.divergeRegs s n at_) := by
  refine h.trans (Frame.mono hm ?_)
  unfold State.divergeRegs
  repeat' with_reducible first
    | exact Frame.refl _ | apply Frame.ite | apply State.wr_frame | apply State.wrB_frame | decide +kernel | apply Frame.foldl
    | intro _ | split

theorem State.stringRegs_frame {M : Nat} {a s : State} (h : Frame M a s) (n : Nat) (x : Lap) (hm : Nat.lor 0x1bff3f8000000000000000000000000000000000000000000000000000000000000000000000000000000000000000000000 M = M := by decide +kernel) :
    Frame M a (State.stringRegs s n x) := by
  refine h.trans (Frame.mono hm ?_)
  unfold State.stringRegs
  dsimp only
  repeat' with_reducible first
    | exact Frame.refl _ | apply Frame.ite | apply State.wr_frame | apply State.wrB_frame | decide +kernel | apply Frame.foldl
    | intro _ | split

theorem State.showResults_frame {M : Nat} {a s : State} (h : Frame M a s) (n : Nat) (cs : List CellW)
    (hm : Nat.lor 0x1ff80041fffff8000000000000000000000000000000000000000000000000000000000000000000000000000000000000000000000 M = M := by decide +kernel) : Frame M a (s.showResults n cs) := by
  refine h.trans (Frame.mono hm ?_)
  unfold State.showResults
  refine Frame.foldl_mem _ _ (Frame.refl _) fun v f hf => (Frame.refl _).foldl _ _ fun w i => ?_
  split
  · exact State.wr_frame (Frame.refl _) _ _ _ _ (hm := List.all_eq_true.1 (by decide +kernel : resultFlds.all (hasFld 0x1ff80041fffff8000000000000000000000000000000000000000000000000000000000000000000000000000000000000000000000) = true) f hf)
  · exact Frame.refl _

theorem State.hideLap_frame {M : Nat} {a s : State} (h : Frame M a s) (o : State) (n : Nat) (seq : Nat) (wait : List CellW) (hm : Nat.lor 0x1ff80041fffff8000000000000000000000000000000000000000000000000000000000000000000000000000000000000000001000 M = M := by decide +kernel) :
    Frame M a (State.hideLap s o n seq wait) := by
  refine h.trans (Frame.mono hm ?_)
  unfold State.hideLap
  repeat' with_reducible first
    | exact Frame.refl _ | apply Frame.ite | apply State.showResults_frame | apply State.modLap_frame | decide +kernel
    | intro _ | split

theorem State.buildResult_frame {M : Nat} {a s : State} (h : Frame M a s) (n : Nat) (seq : Nat) (hm : Nat.lor 0x800000000000000000080000000000000000000000000000000000000000000000000000000000001ff80041fffff8000000000000000000200800000000000000000000000000000000000000000000000000000000200000006001720 M = M := by decide +kernel) :
    Frame M a (State.buildResult s n seq) := by
  refine h.trans (Frame.mono hm ?_)
  unfold State.buildResult
  repeat' with_reducible first
    | exact Frame.refl _ | apply Frame.ite | apply State.showResults_frame | apply State.anchorLap_frame
    | apply State.divergeLap_frame | apply State.divergeRegs_frame | apply State.stringRegs_frame | apply State.bump_frame
    | apply State.wrB_frame | apply State.modEst_frame | apply State.modLap_frame | apply State.hideLap_frame | decide +kernel
    | intro _ | split | fail_if_no_progress refine Frame.on_free ?_ _ | fail_if_no_progress refine Frame.mk' ?_
    | refine Frame.snd (by assumption) ?_

end Sys2Proof.Machine
end

