-- ==== Sys2Proof/Laws/Frame/Nodes.lean ====
section
/-! SUPPORT. What the operations of Machine/Nodes.lean may change (`Frame`). -/

namespace Sys2Proof.Machine
open Obj

set_option linter.all false
set_option Elab.async false

theorem State.failAnswer_frame {M : Nat} {a s : State} (h : Frame M a s) (r : Rid) (n : Nat) (node : Nat) (e : CmdEnd) (hm : Nat.lor 0x200000000000000000000004001100 M = M := by decide +kernel) :
    Frame M a (State.failAnswer s r n node e) := by
  refine h.trans (Frame.mono hm ?_)
  unfold State.failAnswer
  repeat' with_reducible first
    | exact Frame.refl _ | apply Frame.ite | apply State.answer_frame | apply State.modRing_frame | decide +kernel | intro _
    | split

theorem State.sendThresholds_frame {M : Nat} {a s : State} (h : Frame M a s) (n : Nat) (k : Nat) (tries : Nat) (hm : Nat.lor 0x4001000 M = M := by decide +kernel) :
    Frame M a (State.sendThresholds s n k tries) := by
  refine h.trans (Frame.mono hm ?_)
  unfold State.sendThresholds
  repeat' with_reducible first
    | exact Frame.refl _ | apply Frame.ite | apply State.queueCmd_frame | decide +kernel | split

theorem State.thresholdsAll_frame {M : Nat} {a s : State} (h : Frame M a s) (n : Nat) (hm : Nat.lor 0x4001000 M = M := by decide +kernel) :
    Frame M a (State.thresholdsAll s n) := by
  refine h.trans (Frame.mono hm ?_)
  unfold State.thresholdsAll
  repeat' with_reducible first
    | exact Frame.refl _ | apply Frame.ite | apply State.modNode_frame | apply State.sendThresholds_frame | decide +kernel
    | apply Frame.foldl | intro _ | split

theorem State.thresholdsDue_frame {M : Nat} {a s : State} (h : Frame M a s) (n : Nat) (hm : Nat.lor 0x4001000 M = M := by decide +kernel) :
    Frame M a (State.thresholdsDue s n) := by
  refine h.trans (Frame.mono hm ?_)
  unfold State.thresholdsDue
  repeat' with_reducible first
    | exact Frame.refl _ | apply Frame.ite | apply State.modNode_frame | apply State.sendThresholds_frame | decide +kernel
    | apply Frame.foldl | intro _ | split

theorem State.thresholdsEnd_frame {M : Nat} {a s : State} (h : Frame M a s) (n : Nat) (k : Nat) (tries : Nat) (sent : Bytes) (e : CmdEnd) (hm : Nat.lor 0x38b0027f000000085060000000000000000000000005e4d00000001c2000000003ffff80017fe000000000000000000a838000000000327c020000308000000000000000000000007000000002000000000800000000000060c1fa8 M = M := by decide +kernel) :
    Frame M a (State.thresholdsEnd s n k tries sent e) := by
  refine h.trans (Frame.mono hm ?_)
  unfold State.thresholdsEnd
  repeat' with_reducible first
    | exact Frame.refl _ | apply Frame.ite | apply State.wr_frame | apply State.wrB_frame | apply State.nodeDiags_frame
    | apply State.treatNode_frame | apply State.recordOpen_frame | apply State.modNode_frame
    | apply State.sendThresholds_frame | decide +kernel | intro _ | split

theorem State.readStatus_frame {M : Nat} {a s : State} (h : Frame M a s) (n : Nat) (k : Nat) (hm : Nat.lor 0x4001000 M = M := by decide +kernel) :
    Frame M a (State.readStatus s n k) := by
  refine h.trans (Frame.mono hm ?_)
  unfold State.readStatus
  repeat' with_reducible first
    | exact Frame.refl _ | apply Frame.ite | apply State.queueCmd_frame | decide +kernel | intro _ | split

theorem State.statusEnd_frame {M : Nat} {a s : State} (h : Frame M a s) (n : Nat) (k : Nat) (e : CmdEnd) (hm : Nat.lor 0x38b00000000000085060000000000000000000000005e4d00000001c2000000003ffff80017fe000000000000000000a838000000000327c020058fc1200000000000000000000007000000002000000000800000000000060c1fa8 M = M := by decide +kernel) :
    Frame M a (State.statusEnd s n k e) := by
  refine h.trans (Frame.mono hm ?_)
  unfold State.statusEnd
  repeat' with_reducible first
    | exact Frame.refl _ | apply Frame.ite | apply State.recordOpen_frame | apply State.wr_frame | apply State.wrB_frame
    | apply State.modNode_frame | apply State.checkTemps_frame | apply State.classifyTrip_frame | apply State.nodeDiags_frame
    | decide +kernel | apply Frame.foldl | intro _ | split

theorem State.sendBleed_frame {M : Nat} {a s : State} (h : Frame M a s) (n : Nat) (k : Nat) (mask : Nat) (ms : Nat) (hm : Nat.lor 0x4001000 M = M := by decide +kernel) :
    Frame M a (State.sendBleed s n k mask ms) := by
  refine h.trans (Frame.mono hm ?_)
  unfold State.sendBleed
  repeat' with_reducible first
    | exact Frame.refl _ | apply Frame.ite | apply State.queueCmd_frame | decide +kernel | split

theorem State.balanceEnd_frame {M : Nat} {a s : State} (h : Frame M a s) (n : Nat) (k : Nat) (code : Nat) (args : Bytes) (e : CmdEnd) (hm : Nat.lor 0x8000000000000000000000000000000000000000000000000000000000000000000000000000000000000000000002008000000c0000000000000000000000000000000000000000000000000000000006001720 M = M := by decide +kernel) :
    Frame M a (State.balanceEnd s n k code args e) := by
  refine h.trans (Frame.mono hm ?_)
  unfold State.balanceEnd
  repeat' with_reducible first
    | exact Frame.refl _ | apply Frame.ite | apply State.wr_frame | apply State.modNode_frame | apply State.recordOpen_frame
    | decide +kernel | intro _ | split

theorem State.cmpTestEnd_frame {M : Nat} {a s : State} (h : Frame M a s) (n : Nat) (k : Nat) (e : CmdEnd) (hm : Nat.lor 0x38b00000000000085060000000000000000000000005e4d00000001c2000000003ffff80017fe000000000000000000a838000000000327c020010000200000000000000000000007000000002000000000800000000000060c1fa8 M = M := by decide +kernel) :
    Frame M a (State.cmpTestEnd s n k e) := by
  refine h.trans (Frame.mono hm ?_)
  unfold State.cmpTestEnd
  repeat' with_reducible first
    | exact Frame.refl _ | apply State.wr_frame | apply State.nodeDiags_frame | apply State.wrB_frame
    | apply State.recordOpen_frame | decide +kernel | split

theorem execCmpTest_frame (t : Nat) (str : Nat) (s : State) : ∃ u, execCmpTest t str s = .next u ∧ Frame 0x4001001 s u := by
  refine ⟨_, rfl, ?_⟩
  repeat' with_reducible first
    | exact Frame.refl _ | apply Frame.ite | apply State.at_frame | apply State.queueCmd_frame | apply State.modNode_frame
    | decide +kernel | intro _ | split

theorem State.wireRequest_frame {M : Nat} {a s : State} (h : Frame M a s) (n : Nat) (k : Nat) (w : Nat) (id : Nat) (e : CmdEnd) (hm : Nat.lor 0x200000000000000000000004001100 M = M := by decide +kernel) :
    Frame M a (State.wireRequest s n k w id e) := by
  refine h.trans (Frame.mono hm ?_)
  unfold State.wireRequest
  repeat' with_reducible first
    | exact Frame.refl _ | apply Frame.ite | apply State.answer_frame | apply State.modRing_frame
    | apply State.failAnswer_frame | decide +kernel | intro _ | split

theorem State.wireEnd_frame {M : Nat} {a s : State} (h : Frame M a s) (n : Nat) (k : Nat) (w : Nat) (req : Option Nat) (e : CmdEnd) (hm : Nat.lor 0x38b00000000000085060000000000000000000000005e4d00000001c2000000003ffff80017fe000000000000000000a838000000000327c03fc80000000000000000000000000007000000002000000000800000000000060c1fa8 M = M := by decide +kernel) :
    Frame M a (State.wireEnd s n k w req e) := by
  refine h.trans (Frame.mono hm ?_)
  unfold State.wireEnd
  repeat' with_reducible first
    | exact Frame.refl _ | apply Frame.ite | apply State.wireResult_frame | apply State.modWire_frame
    | apply State.recordOpen_frame | apply State.wireRequest_frame | decide +kernel | intro _ | split

theorem execRoutineWireTest_frame (t : Nat) (str : Nat) (s : State) : ∃ u, execRoutineWireTest t str s = .next u ∧ Frame 0x38b00000000000085060000000000000000000000005e4d00000001c2000000003ffff80017fe000000000000000000a838000000000327c03fc00000000000000000000000000007000000002000000000800000000000040c1fa9 s u := by
  refine ⟨_, rfl, ?_⟩
  repeat' with_reducible first
    | exact Frame.refl _ | apply Frame.ite | apply State.at_frame | apply State.wireRegs_frame | apply State.wireTests_frame
    | apply State.modWire_frame | decide +kernel | apply Frame.foldl | intro _ | split

theorem execWireRetest_frame (t : Nat) (str : Nat) (node : Nat) (wire : Nat) (s : State) : ∃ u, execWireRetest t str node wire s = .next u ∧ Frame 0x38b00000000000085060000000000000000000000005e4d00000001c2000000003ffff80017fe000000000000000000a838000000000327c03fc00000000000000000000000000007000000002000000000800000000000040c1fa9 s u := by
  refine ⟨_, rfl, ?_⟩
  repeat' with_reducible first
    | exact Frame.refl _ | apply Frame.ite | apply State.at_frame | apply State.wireRegs_frame | apply State.modWire_frame
    | apply State.wireTests_frame | decide +kernel | intro _ | split

theorem execRunWireTest_frame (t : Nat) (r : Req) (p : Bytes) (s : State) : ∃ u, execRunWireTest t r p s = .next u ∧ Frame 0x200000000000000000000004001101 s u := by
  refine ⟨_, rfl, ?_⟩
  repeat' with_reducible first
    | exact Frame.refl _ | apply Frame.ite | apply State.serve_frame | apply guarded_frame | apply State.modRing_frame
    | apply State.queueCmd_frame | decide +kernel | apply Frame.foldl | intro _ | split | refine Frame.fst (by assumption) ?_

theorem State.armNode_frame {M : Nat} {a s : State} (h : Frame M a s) (n : Nat) (k : Nat) (hm : Nat.lor 0x4001000 M = M := by decide +kernel) :
    Frame M a (State.armNode s n k) := by
  refine h.trans (Frame.mono hm ?_)
  unfold State.armNode
  repeat' with_reducible first
    | exact Frame.refl _ | apply Frame.ite | apply State.modNode_frame | apply State.queueCmd_frame | decide +kernel | intro _
    | split

theorem State.challenge_frame {M : Nat} {a s : State} (h : Frame M a s) (n : Nat) (k : Nat) (chain : Bytes) (hm : Nat.lor 0x6001000 M = M := by decide +kernel) :
    Frame M a (State.challenge s n k chain) := by
  refine h.trans (Frame.mono hm ?_)
  unfold State.challenge
  repeat' with_reducible first
    | exact Frame.refl _ | apply State.queueCmd_frame | apply State.modNode_frame | decide +kernel | intro _ | split
    | fail_if_no_progress refine Frame.on_free ?_ _

theorem State.authBegin_frame {M : Nat} {a s : State} (h : Frame M a s) (n : Nat) (k : Nat) (hm : Nat.lor 0x28000000000000000000000000000000000000000000000000000000000000006001000 M = M := by decide +kernel) :
    Frame M a (State.authBegin s n k) := by
  refine h.trans (Frame.mono hm ?_)
  unfold State.authBegin
  dsimp only
  repeat' with_reducible first
    | exact Frame.refl _ | apply State.bump_frame | apply State.wr_frame | apply State.modNode_frame
    | apply State.challenge_frame | apply State.queueCmd_frame | decide +kernel | intro _ | split

theorem State.authNext_frame {M : Nat} {a s : State} (h : Frame M a s) (n : Nat) (hm : Nat.lor 0x28000000000000000000000000000000000000000000000000000000000000006001000 M = M := by decide +kernel) :
    Frame M a (State.authNext s n) := by
  refine h.trans (Frame.mono hm ?_)
  unfold State.authNext
  repeat' with_reducible first
    | exact Frame.refl _ | apply State.authBegin_frame | decide +kernel | apply Frame.foldl | intro _ | split

theorem State.authFail_frame {M : Nat} {a s : State} (h : Frame M a s) (n : Nat) (k : Nat) (reason : Nat) (hm : Nat.lor 0x7000000000000000000000000000000138000000400000000000000000000000000000000000000000000000000000006011000 M = M := by decide +kernel) :
    Frame M a (State.authFail s n k reason) := by
  refine h.trans (Frame.mono hm ?_)
  unfold State.authFail
  repeat' with_reducible first
    | exact Frame.refl _ | apply Frame.ite | apply State.stamp_frame | apply State.wr_frame | apply State.failEntries_frame
    | apply State.wrB_frame | apply State.modNode_frame | apply State.authNext_frame | decide +kernel | intro _ | split

theorem State.authPass_frame {M : Nat} {a s : State} (h : Frame M a s) (n : Nat) (k : Nat) (leaf : Bytes) (hm : Nat.lor 0x8000000000000000000000000000000000000000000000000000000000000000070000000000000000000000000002009b8000000600000000000000020000000000000000000000000000000000000006011720 M = M := by decide +kernel) :
    Frame M a (State.authPass s n k leaf) := by
  refine h.trans (Frame.mono hm ?_)
  unfold State.authPass
  repeat' with_reducible first
    | exact Frame.refl _ | apply Frame.ite | apply State.stamp_frame | apply State.wr_frame | apply State.wrB_frame
    | apply State.modRing_frame | apply State.record_frame | apply State.authEntries_frame | apply State.authNext_frame
    | apply State.armNode_frame | decide +kernel | intro _ | split

theorem State.authNoStep_frame {M : Nat} {a s : State} (h : Frame M a s) (n : Nat) (k : Nat) (e : CmdEnd) (hm : Nat.lor 0x800000000000000000000000000000000000000000000000000000000000000007000000000000000000000000000200938000000400000000000000000000000000000000000000000000000000000006011720 M = M := by decide +kernel) :
    Frame M a (State.authNoStep s n k e) := by
  refine h.trans (Frame.mono hm ?_)
  unfold State.authNoStep
  repeat' with_reducible first
    | exact Frame.refl _ | apply State.authNext_frame | apply State.wr_frame | apply State.authFail_frame
    | apply State.recordOpen_frame | decide +kernel | split

theorem State.certEnd_frame {M : Nat} {a s : State} (h : Frame M a s) (n : Nat) (k : Nat) (chunk : Nat) (e : CmdEnd) (hm : Nat.lor 0x800000000000000000000000000000000000000000000000000000000000000007000000000000000000000000000200938000000400000000000000000000000000000000000000000000000000000006011720 M = M := by decide +kernel) :
    Frame M a (State.certEnd s n k chunk e) := by
  refine h.trans (Frame.mono hm ?_)
  unfold State.certEnd
  dsimp only
  repeat' with_reducible first
    | exact Frame.refl _ | apply Frame.ite | apply State.authFail_frame | apply State.challenge_frame
    | apply State.queueCmd_frame | apply State.modNode_frame | apply State.authNoStep_frame | decide +kernel | intro _ | split

theorem State.forgetChain_frame {M : Nat} {a s : State} (h : Frame M a s) (serial : Nat) (hm : Nat.lor 0x1000 M = M := by decide +kernel) :
    Frame M a (State.forgetChain s serial) := by
  refine h.trans (Frame.mono hm ?_)
  unfold State.forgetChain
  repeat' with_reducible first
    | exact Frame.refl _ | apply Frame.ite | apply State.eachStr_frame | apply State.modRing_frame | decide +kernel | intro _
    | split

theorem State.authEnd_frame {M : Nat} {a s : State} (h : Frame M a s) (n : Nat) (k : Nat) (epoch : Nat) (e : CmdEnd) (hm : Nat.lor 0x8000000000000000000000000000000000000000000000000000000000000000070000000000000000000000000002009b8000000600000000000000020000000000000000000000000000000000000006011720 M = M := by decide +kernel) :
    Frame M a (State.authEnd s n k epoch e) := by
  refine h.trans (Frame.mono hm ?_)
  unfold State.authEnd
  repeat' with_reducible first
    | exact Frame.refl _ | apply Frame.ite | apply State.authFail_frame | apply State.authPass_frame
    | apply State.forgetChain_frame | apply State.modNode_frame | apply State.queueCmd_frame | apply State.authNoStep_frame
    | decide +kernel | intro _ | split | dsimp only

theorem execAuthRetry_frame (t : Nat) (str : Nat) (node : Nat) (s : State) : ∃ u, execAuthRetry t str node s = .next u ∧ Frame 0x28000000000000000000000000000000000000000000000000000000000000006001001 s u := by
  refine ⟨_, rfl, ?_⟩
  repeat' with_reducible first
    | exact Frame.refl _ | apply Frame.ite | apply State.at_frame | apply State.authNext_frame | apply State.modNode_frame
    | apply State.wr_frame | decide +kernel | intro _ | split

theorem State.tryClear_frame {M : Nat} {a s : State} (h : Frame M a s) (n : Nat) (hm : Nat.lor 0x200000000000000000000006001100 M = M := by decide +kernel) :
    Frame M a (State.tryClear s n) := by
  refine h.trans (Frame.mono hm ?_)
  unfold State.tryClear
  repeat' with_reducible first
    | exact Frame.refl _ | apply Frame.ite | apply State.modProt_frame | apply State.answer_frame | apply State.journal_frame
    | decide +kernel | intro _ | split

theorem State.releaseEnd_frame {M : Nat} {a s : State} (h : Frame M a s) (n : Nat) (k : Nat) (e : CmdEnd) (hm : Nat.lor 0xc100000000000000000000000000000000200000000000000000000006001100 M = M := by decide +kernel) :
    Frame M a (State.releaseEnd s n k e) := by
  refine h.trans (Frame.mono hm ?_)
  unfold State.releaseEnd
  repeat' with_reducible first
    | exact Frame.refl _ | apply State.wrB_frame | apply State.wr_frame | apply State.tryClear_frame
    | apply State.failAnswer_frame | apply State.modProt_frame | decide +kernel | intro _ | split

theorem execClearTrip_frame (t : Nat) (r : Req) (p : Bytes) (readOk : Bool) (s : State) : ∃ u, execClearTrip t r p readOk s = .next u ∧ Frame 0x200000000000000000000006001101 s u := by
  refine ⟨_, rfl, ?_⟩
  repeat' with_reducible first
    | exact Frame.refl _ | apply Frame.ite | apply State.serve_frame | apply guarded_frame | apply State.modProt_frame
    | apply State.tryClear_frame | apply State.queueCmd_frame | decide +kernel | apply Frame.foldl | intro _ | split
    | refine Frame.fst (by assumption) ?_

theorem State.finishClear_frame {M : Nat} {a s : State} (h : Frame M a s) (n : Nat) (rid : Rid) (cs : List CellW) (hm : Nat.lor 0x4a38b00000000000085060000000000000000000000005e4d00000001c2000000000000000000fe000000000000000000a8380000000002008020000000000000000000000000000007000000002000000000800000000000040c1fac M = M := by decide +kernel) :
    Frame M a (State.finishClear s n rid cs) := by
  refine h.trans (Frame.mono hm ?_)
  unfold State.finishClear
  repeat' with_reducible first
    | exact Frame.refl _ | apply Frame.ite | apply State.modProt_frame | apply State.answer_frame | apply State.putCells_frame
    | apply State.storeCells_frame | apply State.wr_frame | apply State.record_frame | apply State.useToken_frame
    | apply State.loopOut_frame | apply State.refresh_frame | decide +kernel | apply Frame.foldl | intro _ | split
    | fail_if_no_progress refine Frame.on_nv ?_ _ | fail_if_no_progress refine Frame.mk' ?_

end Sys2Proof.Machine
end

