-- ==== Sys2Proof/Laws/Frame/Sentinels.lean ====
section
/-! SUPPORT. What the operations of Machine/Sentinels.lean may change (`Frame`). -/

namespace Sys2Proof.Machine
open Obj

set_option linter.all false
set_option Elab.async false

theorem State.freezeAll_frame {M : Nat} {a s : State} (h : Frame M a s) (n : Nat) (seq : Nat) (ks : List Nat) (hm : Nat.lor 0x4001000 M = M := by decide +kernel) :
    Frame M a (State.freezeAll s n seq ks) := by
  refine h.trans (Frame.mono hm ?_)
  unfold State.freezeAll
  repeat' with_reducible first
    | exact Frame.refl _ | apply State.queueCmd_frame | decide +kernel | apply Frame.foldl | intro _ | split

theorem State.stepLap_frame {M : Nat} {a s : State} (h : Frame M a s) (n : Nat) (x : Lap) (prevSeq : Nat) (prevPlain : Nat) (hm : Nat.lor 0x6000000000000000000000000000000000000000000000000000000000000000000000000000000000000000000004001000 M = M := by decide +kernel) :
    Frame M a (State.stepLap s n x prevSeq prevPlain) := by
  refine h.trans (Frame.mono hm ?_)
  unfold State.stepLap
  repeat' with_reducible first
    | exact Frame.refl _ | apply Frame.ite | apply State.modEst_frame | apply State.bump_frame | apply State.freezeAll_frame
    | decide +kernel | intro _ | split | dsimp only

theorem State.modStep_frame {M : Nat} {a s : State} (h : Frame M a s) (n : Nat) (f : Step → Step) (hm : Nat.lor 0x1000 M = M := by decide +kernel) :
    Frame M a (State.modStep s n f) := by
  refine h.trans (Frame.mono hm ?_)
  unfold State.modStep
  repeat' with_reducible first
    | exact Frame.refl _ | apply State.modEst_frame | decide +kernel | intro _ | split

theorem State.refuseStep_frame {M : Nat} {a s : State} (h : Frame M a s) (n : Nat) (k : Nat) (hm : Nat.lor 0x4001000 M = M := by decide +kernel) :
    Frame M a (State.refuseStep s n k) := by
  refine h.trans (Frame.mono hm ?_)
  unfold State.refuseStep
  repeat' with_reducible first
    | exact Frame.refl _ | apply Frame.ite | apply State.modNode_frame | apply State.modStep_frame | apply State.armNode_frame
    | decide +kernel | intro _ | split

theorem State.readBlock_frame {M : Nat} {a s : State} (h : Frame M a s) (n : Nat) (k : Nat) (c : Nat) (b : Nat) (hm : Nat.lor 0x4001000 M = M := by decide +kernel) :
    Frame M a (State.readBlock s n k c b) := by
  refine h.trans (Frame.mono hm ?_)
  unfold State.readBlock
  repeat' with_reducible first
    | exact Frame.refl _ | apply State.queueCmd_frame | decide +kernel | split

theorem State.armEnd_frame {M : Nat} {a s : State} (h : Frame M a s) (n : Nat) (k : Nat) (e : CmdEnd) (hm : Nat.lor 0x800000000000000000000000000000000000000000000000000000000000000000000000000000000000000000000200800000000000000000000000000000000000000000000000000000000000000006001720 M = M := by decide +kernel) :
    Frame M a (State.armEnd s n k e) := by
  refine h.trans (Frame.mono hm ?_)
  unfold State.armEnd
  repeat' with_reducible first
    | exact Frame.refl _ | apply State.modNode_frame | apply State.recordOpen_frame | decide +kernel | intro _ | split

theorem State.freezeEnd_frame {M : Nat} {a s : State} (h : Frame M a s) (n : Nat) (k : Nat) (e : CmdEnd) (hm : Nat.lor 0x800000000000000000000000000000000000000000000000000000000000000000000000000000000000000000000200800000000000000000000000000000000000000000000000000000000000000006001720 M = M := by decide +kernel) :
    Frame M a (State.freezeEnd s n k e) := by
  refine h.trans (Frame.mono hm ?_)
  unfold State.freezeEnd
  dsimp only
  repeat' with_reducible first
    | exact Frame.refl _ | apply State.modNode_frame | apply State.readBlock_frame | apply State.refuseStep_frame
    | apply State.recordOpen_frame | decide +kernel | intro _ | split

theorem State.burstEnd_frame {M : Nat} {a s : State} (h : Frame M a s) (n : Nat) (k : Nat) (c : Nat) (b : Nat) (e : CmdEnd) (hm : Nat.lor 0x800000000000000000000000000000000000000000000000000000000000000000000000000000000000000000000200800000000000000000000000000000000000000000000000000000000000000006001720 M = M := by decide +kernel) :
    Frame M a (State.burstEnd s n k c b e) := by
  refine h.trans (Frame.mono hm ?_)
  unfold State.burstEnd
  repeat' with_reducible first
    | exact Frame.refl _ | apply Frame.ite | apply State.modStep_frame | apply State.readBlock_frame
    | apply State.armNode_frame | apply State.modNode_frame | apply State.refuseStep_frame | apply State.recordOpen_frame
    | decide +kernel | intro _ | split

theorem State.learnR_frame {M : Nat} {a s : State} (h : Frame M a s) (n : Nat) (p : Pos) (fit : Fr × Fr × Fr) (hm : Nat.lor 0x10000 M = M := by decide +kernel) :
    Frame M a (State.learnR s n p fit) := by
  refine h.trans (Frame.mono hm ?_)
  unfold State.learnR
  repeat' with_reducible first
    | exact Frame.refl _ | apply Frame.ite | apply State.putEntry_frame | decide +kernel | apply Frame.foldl | intro _ | split

theorem execSentinelFit_frame (t : Nat) (str : Nat) (s : State) : ∃ u, execSentinelFit t str s = .next u ∧ Frame 0x800000000000000000000000000000000000000000000000000000000000000000018000000000000000000000000200800000000000000000000000000000000000000000000000000000000000000006011721 s u := by
  refine ⟨_, rfl, ?_⟩
  repeat' with_reducible first
    | exact Frame.refl _ | apply Frame.ite | apply State.at_frame | apply State.fresh_frame | apply State.record_frame
    | apply State.bump_frame | apply State.learnR_frame | apply State.outliers_frame | apply State.modEst_frame
    | decide +kernel | apply Frame.foldl | intro _ | split | refine Frame.snd (by assumption) ?_

end Sys2Proof.Machine
end

