-- ==== Sys2Proof/Laws/Frame/NodeEnd.lean ====
section
/-! SUPPORT. What the operations of Machine/NodeEnd.lean may change (`Frame`). -/

namespace Sys2Proof.Machine
open Obj

set_option linter.all false
set_option Elab.async false

theorem execFbTime_frame (t : Nat) (str : Nat) (s : State) : ∃ u, execFbTime t str s = .next u ∧ Frame 0x38b00000000000085060000000000000000000000005e4d00000001c2000000003ffff80017fe000000000000000000a838000000000327c03fc00000000000000000000000000007000000002000000000800000000000040c1fa9 s u := by
  refine ⟨_, rfl, ?_⟩
  repeat' with_reducible first
    | exact Frame.refl _ | apply Frame.ite | apply State.at_frame | apply State.judgeCoil_frame
    | apply State.openingDone_frame | apply State.debugSettle_frame | apply State.wireTests_frame | apply State.wireRegs_frame
    | decide +kernel | intro _ | split

theorem State.copyFail_frame {M : Nat} {a s : State} (h : Frame M a s) (n : Nat) (k : Nat) (cause : Nat) (hm : Nat.lor 0x1000 M = M := by decide +kernel) :
    Frame M a (State.copyFail s n k cause) := by
  refine h.trans (Frame.mono hm ?_)
  unfold State.copyFail
  repeat' with_reducible first
    | exact Frame.refl _ | apply State.modNode_frame | decide +kernel | intro _ | split

theorem State.fwEnd_frame {M : Nat} {a s : State} (h : Frame M a s) (n : Nat) (k : Nat) (code : Nat) (e : CmdEnd) (hm : Nat.lor 0x7f0000000800000000000000000000000000000000000000000000000000000000000000000000000000000000000000000000200828000000000000000000000000000000000000000000000000000000000000006001720 M = M := by decide +kernel) :
    Frame M a (State.fwEnd s n k code e) := by
  refine h.trans (Frame.mono hm ?_)
  unfold State.fwEnd
  repeat' with_reducible first
    | exact Frame.refl _ | apply Frame.ite | apply State.bootNode_frame | apply State.copyChunk_frame
    | apply State.modNode_frame | apply State.wr_frame | apply State.copyFail_frame | apply State.sendBaton_frame
    | apply State.copyNext_frame | apply State.updateRegs_frame | apply State.authNext_frame | apply State.recordOpen_frame
    | decide +kernel | intro _ | split | dsimp only

theorem execNodeUpdated_frame (t : Nat) (str : Nat) (node : Nat) (s : State) : ∃ u, execNodeUpdated t str node s = .next u ∧ Frame 0x4ff0000000800000000000000000000000000000000000000000000000000000000000000000000000000000000000000000000200828000000000000000000000000000000000000000000000000000000000000006001721 s u := by
  refine ⟨_, rfl, ?_⟩
  repeat' with_reducible first
    | exact Frame.refl _ | apply Frame.ite | apply State.at_frame | apply State.modNode_frame | apply State.modRing_frame
    | apply State.stamp_frame | apply State.bump_frame | apply State.wr_frame | apply State.record_frame
    | apply State.authNext_frame | apply State.updateRegs_frame | apply State.copyNext_frame | decide +kernel | intro _
    | split

theorem execNodeCopyFailed_frame (t : Nat) (str : Nat) (node : Nat) (s : State) : ∃ u, execNodeCopyFailed t str node s = .next u ∧ Frame 0x57f0000000800000000000000000000000000000000000000000000000000000000000000000000000000000000000000000000200800000000000000000000000000000000000000000000000000000000000000004001721 s u := by
  refine ⟨_, rfl, ?_⟩
  repeat' with_reducible first
    | exact Frame.refl _ | apply Frame.ite | apply State.at_frame | apply State.queueCmd_frame | apply State.modNode_frame
    | apply State.bootNode_frame | apply State.modRing_frame | apply State.stamp_frame | apply State.bump_frame
    | apply State.wr_frame | apply State.record_frame | apply State.updateRegs_frame | apply State.copyNext_frame
    | decide +kernel | intro _ | split

theorem State.nextSleep_frame0 (s : State)  : Frame 0x4001010 s (State.nextSleep s) := by
  have hg : ∀ (l : List (Nat × Nat)) {a s : State}, Frame 0x4001010 a s → Frame 0x4001010 a (State.nextSleep.go l s) := by
    intro l
    induction l with
    | nil => intro a s h; exact Frame.on_power h _
    | cons x l ih =>
      intro a s h
      unfold State.nextSleep.go
      exact Frame.ite (ih h) (State.queueCmd_frame (Frame.on_power h _) ..)
  exact hg _ (Frame.refl _)

theorem State.nextSleep_frame {M : Nat} {a s : State} (h : Frame M a s)  (hm : Nat.lor 0x4001010 M = M := by decide +kernel) :
    Frame M a (State.nextSleep s) := h.trans (Frame.mono hm (State.nextSleep_frame0 s ))

theorem State.sleepEnd_frame {M : Nat} {a s : State} (h : Frame M a s) (n : Nat) (k : Nat) (e : CmdEnd) (hm : Nat.lor 0x4001010 M = M := by decide +kernel) :
    Frame M a (State.sleepEnd s n k e) := by
  refine h.trans (Frame.mono hm ?_)
  unfold State.sleepEnd
  repeat' with_reducible first
    | exact Frame.refl _ | apply Frame.ite | apply State.nextSleep_frame | decide +kernel | split
    | fail_if_no_progress refine Frame.on_power ?_ _

theorem State.nodeReqEnd_frame {M : Nat} {a s : State} (h : Frame M a s) (n : Nat) (f : Nat) (node : Nat) (e : CmdEnd) (hm : Nat.lor 0x200000000000000000000004001100 M = M := by decide +kernel) :
    Frame M a (State.nodeReqEnd s n f node e) := by
  refine h.trans (Frame.mono hm ?_)
  unfold State.nodeReqEnd
  repeat' with_reducible first
    | exact Frame.refl _ | apply Frame.ite | apply State.answer_frame | apply State.failAnswer_frame | decide +kernel
    | apply Frame.foldl | intro _ | split | fail_if_no_progress refine Frame.on_mbx ?_ _
    | fail_if_no_progress refine Frame.mk' ?_

theorem State.delayEnd_frame {M : Nat} {a s : State} (h : Frame M a s) (n : Nat) (k : Nat) (args : Bytes) (e : CmdEnd) (hm : Nat.lor 0x800000000000000000000000000000000000000000000000000000000000000000000000000000000000000000000200800000000000000000000200180000000000000000000000000000000000000006000720 M = M := by decide +kernel) :
    Frame M a (State.delayEnd s n k args e) := by
  refine h.trans (Frame.mono hm ?_)
  unfold State.delayEnd
  repeat' with_reducible first
    | exact Frame.refl _ | apply Frame.ite | apply State.bump_frame | apply State.wr_frame | apply State.recordOpen_frame
    | decide +kernel | split

theorem State.ownerEnd_frame {M : Nat} {a s : State} (h : Frame M a s) (n : Nat) (c : NodeCmd) (e : CmdEnd) (hm : Nat.lor 0x38b0027f000000085060000000000000000000000005e4d00000001c2000000003ffff80017fe000700000000000000a838000000000327dbbfcd8fcf200000000002001a00000007000000002000000000800000000000060d1fb8 M = M := by decide +kernel) :
    Frame M a (State.ownerEnd s n c e) := by
  refine h.trans (Frame.mono hm ?_)
  unfold State.ownerEnd
  repeat' with_reducible first
    | exact Frame.refl _ | apply Frame.ite | apply State.delayEnd_frame | apply State.modRing_frame
    | apply State.recordOpen_frame | apply State.nodeReqEnd_frame | apply State.thresholdsEnd_frame
    | apply State.statusEnd_frame | apply State.balanceEnd_frame | apply State.wireEnd_frame | apply State.releaseEnd_frame
    | apply State.cmpTestEnd_frame | apply State.certEnd_frame | apply State.authEnd_frame | apply State.armEnd_frame
    | apply State.freezeEnd_frame | apply State.burstEnd_frame | apply State.sleepEnd_frame | apply State.fwEnd_frame
    | decide +kernel | intro _ | split

theorem State.finishCmd_frame {M : Nat} {a s : State} (h : Frame M a s) (n : Nat) (c : NodeCmd) (e : CmdEnd) (hm : Nat.lor 0x38b0027f000000085060000000000000000000000005e4d00000001c2000000003ffff80017fe000700000000000000a838000000000327dbbfcd8fcf200000000002001a00001007000000002000000000800000000000060d1fb8 M = M := by decide +kernel) :
    Frame M a (State.finishCmd s n c e) := by
  refine h.trans (Frame.mono hm ?_)
  unfold State.finishCmd
  repeat' with_reducible first
    | exact Frame.refl _ | apply Frame.ite | apply State.modRing_frame | apply State.ownerEnd_frame | apply State.pump_frame
    | apply State.resumeJobs_frame | decide +kernel | intro _ | split

end Sys2Proof.Machine
end

