-- ==== Sys2Proof/Laws/Frame/StringConfig.lean ====
section
/-! SUPPORT. What the operations of Machine/StringConfig.lean may change (`Frame`). -/

namespace Sys2Proof.Machine
open Obj

set_option linter.all false
set_option Elab.async false

theorem State.rateRefresh_frame {M : Nat} {a s : State} (h : Frame M a s) (n : Nat) (hm : Nat.lor 0xc0000000000000000100000000000000000000000000000000000 M = M := by decide +kernel) :
    Frame M a (State.rateRefresh s n) := by
  refine h.trans (Frame.mono hm ?_)
  unfold State.rateRefresh
  repeat' with_reducible first
    | exact Frame.refl _ | apply Frame.ite | apply State.sprintRefresh_frame | apply State.wr_frame | decide +kernel | split

theorem State.nodeConfigured_frame {M : Nat} {a s : State} (h : Frame M a s) (n : Nat) (hm : Nat.lor 0x1001000000000000000000100000000000000000000000000000000004001000 M = M := by decide +kernel) :
    Frame M a (State.nodeConfigured s n) := by
  refine h.trans (Frame.mono hm ?_)
  unfold State.nodeConfigured
  repeat' with_reducible first
    | exact Frame.refl _ | apply Frame.ite | apply State.wr_frame | apply State.renumber_frame | apply State.modNode_frame
    | apply State.reassign_frame | decide +kernel | apply Frame.foldl | intro _ | split

theorem State.sentinelsMoved_frame {M : Nat} {a s : State} (h : Frame M a s) (n : Nat) (hm : Nat.lor 0x380000000000000000000000000000000000000000000000000000000000000000000000000000000000000000 M = M := by decide +kernel) :
    Frame M a (State.sentinelsMoved s n) := by
  refine h.trans (Frame.mono hm ?_)
  unfold State.sentinelsMoved
  repeat' with_reducible first
    | exact Frame.refl _ | apply Frame.ite | apply State.wr_frame | apply State.wrB_frame | decide +kernel | apply Frame.foldl
    | intro _ | split

theorem State.sentinelsSet_frame {M : Nat} {a s : State} (h : Frame M a s) (o : State) (n : Nat) (hm : Nat.lor 0x380000000000000000000000000000000000000000000000000000000000000000000000000000000004001000 M = M := by decide +kernel) :
    Frame M a (State.sentinelsSet s o n) := by
  refine h.trans (Frame.mono hm ?_)
  unfold State.sentinelsSet
  repeat' with_reducible first
    | exact Frame.refl _ | apply Frame.ite | apply State.sentinelsMoved_frame | apply State.armNode_frame | decide +kernel
    | apply Frame.foldl | intro _ | split

theorem State.configured_frame {M : Nat} {a s : State} (h : Frame M a s) (o : State) (n : Nat) (objs : List Nat) (hm : Nat.lor 0x8000000000000000000000000000000000000000000000000000000000000000070000000000003800000000000002008000000010010000000c0000000000100000100000000000000000000000000004011720 M = M := by decide +kernel) :
    Frame M a (State.configured s o n objs) := by
  refine h.trans (Frame.mono hm ?_)
  unfold State.configured
  repeat' with_reducible first
    | exact Frame.refl _ | apply Frame.ite | apply State.rateRefresh_frame | apply State.nodeConfigured_frame
    | apply State.sentinelsSet_frame | apply State.compareEntries_frame | decide +kernel | intro _ | split

theorem State.refSwitch_frame {M : Nat} {a s : State} (h : Frame M a s) (n : Nat) (ref : Nat) (hm : Nat.lor 0x2400000000000000000000000000000000000000000000000000000000000000000000000000001000 M = M := by decide +kernel) :
    Frame M a (State.refSwitch s n ref) := by
  refine h.trans (Frame.mono hm ?_)
  unfold State.refSwitch
  repeat' with_reducible first
    | exact Frame.refl _ | apply State.wrB_frame | apply State.wr_frame | apply State.modFe_frame | decide +kernel | intro _
    | split

theorem State.calStored_frame {M : Nat} {a s : State} (h : Frame M a s) (n : Nat) (k : Nat) (hm : Nat.lor 0x800000000000000000000000000000000000000000000000000000000000000000000000000000000001000001000200800000000000000000000000000000000700000000000000000000000000000004000720 M = M := by decide +kernel) :
    Frame M a (State.calStored s n k) := by
  refine h.trans (Frame.mono hm ?_)
  unfold State.calStored
  repeat' with_reducible first
    | exact Frame.refl _ | apply Frame.ite | apply State.stamp_frame | apply State.wrB_frame | apply State.record_frame
    | apply State.extendSlot_frame | decide +kernel | split

theorem State.frontWritten_frame {M : Nat} {a s : State} (h : Frame M a s) (o : State) (n : Nat) (cs : List CellW) (hm : Nat.lor 0x38b00000000000085060000000000000000000000005e4d00000001c2000000000000000000be000000000000000000a8390024010002008020000000000000000000000000000007000000002000000000000000000000040c17a0 M = M := by decide +kernel) :
    Frame M a (State.frontWritten s o n cs) := by
  refine h.trans (Frame.mono hm ?_)
  unfold State.frontWritten
  repeat' with_reducible first
    | exact Frame.refl _ | apply Frame.ite | apply State.refresh_frame | apply State.record_frame
    | apply State.refSwitch_frame | apply State.imdSync_frame | apply State.calStored_frame | decide +kernel
    | apply Frame.foldl | intro _ | split

theorem State.ownerRefresh_frame {M : Nat} {a s : State} (h : Frame M a s)  (hm : Nat.lor 0x20000000000000000000000000000000000000000000000000000000000000000000000000000000000000000000000000000000000000000000000000000000000000000000000000000000000000000000 M = M := by decide +kernel) :
    Frame M a (State.ownerRefresh s) := by
  refine h.trans (Frame.mono hm ?_)
  unfold State.ownerRefresh
  repeat' with_reducible first
    | exact Frame.refl _ | apply Frame.ite | apply State.wr_frame | decide +kernel | apply Frame.foldl | intro _ | split

theorem State.stringWritten_frame {M : Nat} {a s : State} (h : Frame M a s) (o : State) (n : Nat) (cs : List CellW) (hm : Nat.lor 0x38b0001f000000085062000000000000000000000005e4d00000001c2000000000000000000be000700000000000038a8390024010002008020000010010000000c00000000001007001000002000000000000000000000040d17a0 M = M := by decide +kernel) :
    Frame M a (State.stringWritten s o n cs) := by
  refine h.trans (Frame.mono hm ?_)
  unfold State.stringWritten
  repeat' with_reducible first
    | exact Frame.refl _ | apply Frame.ite | apply State.configured_frame | apply State.frontWritten_frame
    | apply State.refresh_frame | apply State.ownerRefresh_frame | apply State.updateRegs_frame | decide +kernel | intro _
    | split

theorem State.profileNow_frame {M : Nat} {a s : State} (h : Frame M a s) (n : Nat) (b : Bytes) (hm : Nat.lor 0x38b00000000000085060000000000000000000000005e4d00000001c2000000000000000200be000000000c00000000a8380000000002008020000000000000000000000000000007000000002000000000000000000000040c17a0 M = M := by decide +kernel) :
    Frame M a (State.profileNow s n b) := by
  refine h.trans (Frame.mono hm ?_)
  unfold State.profileNow
  repeat' with_reducible first
    | exact Frame.refl _ | apply State.refresh_frame | apply State.thresholdsAll_frame | apply State.setProfile_frame
    | decide +kernel | split

theorem State.closeRing_frame {M : Nat} {a s : State} (h : Frame M a s) (n : Nat) (hm : Nat.lor 0x4001000 M = M := by decide +kernel) :
    Frame M a (State.closeRing s n) := by
  refine h.trans (Frame.mono hm ?_)
  unfold State.closeRing
  repeat' with_reducible first
    | exact Frame.refl _ | apply Frame.ite | apply State.modRing_frame | apply State.queueCmd_frame | decide +kernel | intro _
    | split

theorem State.restartNodes_frame {M : Nat} {a s : State} (h : Frame M a s) (n : Nat) (hm : Nat.lor 0x4001000 M = M := by decide +kernel) :
    Frame M a (State.restartNodes s n) := by
  refine h.trans (Frame.mono hm ?_)
  unfold State.restartNodes
  repeat' with_reducible first
    | exact Frame.refl _ | apply Frame.ite | apply State.queueCmd_frame | decide +kernel | apply Frame.foldl | intro _ | split

theorem State.closeRequested_frame {M : Nat} {a s : State} (h : Frame M a s) (n : Nat) (hm : Nat.lor 0x4001000 M = M := by decide +kernel) :
    Frame M a (State.closeRequested s n) := by
  refine h.trans (Frame.mono hm ?_)
  unfold State.closeRequested
  repeat' with_reducible first
    | exact Frame.refl _ | apply Frame.ite | apply State.closeRing_frame | decide +kernel | intro _ | split

theorem State.touchDue_frame {M : Nat} {a s : State} (h : Frame M a s) (n : Nat) (c : CellW) (hm : Nat.lor 0x4001004 M = M := by decide +kernel) :
    Frame M a (State.touchDue s n c) := by
  refine h.trans (Frame.mono hm ?_)
  unfold State.touchDue
  repeat' with_reducible first
    | exact Frame.refl _ | apply Frame.ite | apply State.closeRequested_frame | apply State.restartNodes_frame
    | apply State.putCells_frame | decide +kernel | intro _ | split

theorem State.applyWait_frame {M : Nat} {a s : State} (h : Frame M a s) (n : Nat) (hm : Nat.lor 0x38b0001f000000085062000000000000000000000005e4d00000001c2000000000000000200be000700000c00000038a8390024010002008020000010010000000c00000000001007001000002000000000000000000000040d17a4 M = M := by decide +kernel) :
    Frame M a (State.applyWait s n) := by
  refine h.trans (Frame.mono hm ?_)
  unfold State.applyWait
  repeat' with_reducible first
    | exact Frame.refl _ | apply Frame.ite | apply State.profileNow_frame | apply State.modStr_frame
    | apply State.putCells_frame | apply State.keepOld_frame | apply State.stringWritten_frame | apply State.touchDue_frame
    | apply State.nodeReqEnd_frame | decide +kernel | apply Frame.foldl | intro _ | split

theorem State.staleDue_frame {M : Nat} {a s : State} (h : Frame M a s) (n : Nat) (hm : Nat.lor 0x200000000000000000000004001100 M = M := by decide +kernel) :
    Frame M a (State.staleDue s n) := by
  refine h.trans (Frame.mono hm ?_)
  unfold State.staleDue
  repeat' with_reducible first
    | exact Frame.refl _ | apply Frame.ite | apply State.answer_frame | apply State.modRing_frame | decide +kernel
    | apply Frame.foldl | intro _ | split

theorem State.waitDue_frame {M : Nat} {a s : State} (h : Frame M a s) (n : Nat) (hm : Nat.lor 0x38b0001f000000085062000000000000000000000005e4d00000001c2000000000000000200be000700000c00000038a8390024010002008020000010010000000c00000000001007001000002000000000000000000000040d17a4 M = M := by decide +kernel) :
    Frame M a (State.waitDue s n) := by
  refine h.trans (Frame.mono hm ?_)
  unfold State.waitDue
  repeat' with_reducible first
    | exact Frame.refl _ | apply Frame.ite | apply State.staleDue_frame | apply State.applyWait_frame | decide +kernel
    | intro _ | split

end Sys2Proof.Machine
end

