-- ==== Sys2Proof/Laws/Frame/LapEngine.lean ====
section
/-! SUPPORT. What the operations of Machine/LapEngine.lean may change (`Frame`). -/

namespace Sys2Proof.Machine
open Obj

set_option linter.all false
set_option Elab.async false

theorem State.buildAll_frame {M : Nat} {a s : State} (h : Frame M a s) (n : Nat) (hm : Nat.lor 0x800000000000000000080000000000000000000000000000000000000000000000000000000000001ff80041fffff8000000000000000000200800000000000000000000000000000000000000000000000000000000200000006001720 M = M := by decide +kernel) :
    Frame M a (State.buildAll s n) := by
  refine h.trans (Frame.mono hm ?_)
  unfold State.buildAll
  repeat' with_reducible first
    | exact Frame.refl _ | apply Frame.ite | apply State.underOld_frame | apply State.buildResult_frame | decide +kernel
    | apply Frame.foldl | intro _ | split

theorem State.placeNode_frame0 (s : State) (o : State) (n : Nat) (j : Job) (i : Nat) (x : TNode) (pos : Option Nat) : Frame 0x30000000000000000000000000000000000000000000000000000000000000000000000000000000000000000000000000000000000000000000440000c1211ff00000000001fee00000000000000000000000000000000000000000000 s (State.placeNode o n j i x pos s) := by
  unfold State.placeNode
  extract_lets src c keepO objs1 objs2 s1 old s2 s3 first s4 s5 s6 s7 s8 s9 s10 s11 s12 s13 s14 s15 s16 delay
  clear_value src
  have h1 : Frame 0x30000000000000000000000000000000000000000000000000000000000000000000000000000000000000000000000000000000000000000000440000c1211ff00000000001fee00000000000000000000000000000000000000000000 s s1 := Frame.objs' (Frame.refl s) objs2 fun k e => by
    have k1 : objs1.get? k = s.objs.get? k := by
      unfold objs1; split
      · exact Store.get?_copyInst _ _ (not_obj e)
      · rfl
    unfold objs2; split
    · exact (Store.get?_copyInst _ _ (not_obj e)).trans k1
    · exact k1
  have h2 : Frame 0x30000000000000000000000000000000000000000000000000000000000000000000000000000000000000000000000000000000000000000000440000c1211ff00000000001fee00000000000000000000000000000000000000000000 s s2 := Frame.ite h1 (State.wr_frame h1 ..)
  have h3 : Frame 0x30000000000000000000000000000000000000000000000000000000000000000000000000000000000000000000000000000000000000000000440000c1211ff00000000001fee00000000000000000000000000000000000000000000 s s3 := Frame.ite h2 (State.wrB_frame h2 ..)
  have h4 : Frame 0x30000000000000000000000000000000000000000000000000000000000000000000000000000000000000000000000000000000000000000000440000c1211ff00000000001fee00000000000000000000000000000000000000000000 s s4 := State.wr_frame (State.wr_frame h3 ..) ..
  have h5 : Frame 0x30000000000000000000000000000000000000000000000000000000000000000000000000000000000000000000000000000000000000000000440000c1211ff00000000001fee00000000000000000000000000000000000000000000 s s5 := State.wr_frame (State.wr_frame h4 ..) ..
  have h6 : Frame 0x30000000000000000000000000000000000000000000000000000000000000000000000000000000000000000000000000000000000000000000440000c1211ff00000000001fee00000000000000000000000000000000000000000000 s s6 := State.wr_frame (State.wr_frame h5 ..) ..
  have h7 : Frame 0x30000000000000000000000000000000000000000000000000000000000000000000000000000000000000000000000000000000000000000000440000c1211ff00000000001fee00000000000000000000000000000000000000000000 s s7 := State.wr_frame (State.wr_frame h6 ..) ..
  have h8 : Frame 0x30000000000000000000000000000000000000000000000000000000000000000000000000000000000000000000000000000000000000000000440000c1211ff00000000001fee00000000000000000000000000000000000000000000 s s8 := State.wr_frame (State.wr_frame h7 ..) ..
  have h9 : Frame 0x30000000000000000000000000000000000000000000000000000000000000000000000000000000000000000000000000000000000000000000440000c1211ff00000000001fee00000000000000000000000000000000000000000000 s s9 := State.wr_frame (State.wrB_frame h8 ..) ..
  have h10 : Frame 0x30000000000000000000000000000000000000000000000000000000000000000000000000000000000000000000000000000000000000000000440000c1211ff00000000001fee00000000000000000000000000000000000000000000 s s10 := State.wr_frame (State.wr_frame h9 ..) ..
  have h11 : Frame 0x30000000000000000000000000000000000000000000000000000000000000000000000000000000000000000000000000000000000000000000440000c1211ff00000000001fee00000000000000000000000000000000000000000000 s s11 := State.wr_frame (State.wr_frame h10 ..) ..
  have h12 : Frame 0x30000000000000000000000000000000000000000000000000000000000000000000000000000000000000000000000000000000000000000000440000c1211ff00000000001fee00000000000000000000000000000000000000000000 s s12 := State.wrB_frame (State.wr_frame h11 ..) ..
  have h13 : Frame 0x30000000000000000000000000000000000000000000000000000000000000000000000000000000000000000000000000000000000000000000440000c1211ff00000000001fee00000000000000000000000000000000000000000000 s s13 := State.wrB_frame h12 ..
  have h14 : Frame 0x30000000000000000000000000000000000000000000000000000000000000000000000000000000000000000000000000000000000000000000440000c1211ff00000000001fee00000000000000000000000000000000000000000000 s s14 := State.wr_frame h13 ..
  have h15 : Frame 0x30000000000000000000000000000000000000000000000000000000000000000000000000000000000000000000000000000000000000000000440000c1211ff00000000001fee00000000000000000000000000000000000000000000 s s15 := State.wr_frame h14 ..
  have h16 : Frame 0x30000000000000000000000000000000000000000000000000000000000000000000000000000000000000000000000000000000000000000000440000c1211ff00000000001fee00000000000000000000000000000000000000000000 s s16 := State.wr_frame (State.wrB_frame h15 ..) ..
  exact State.wr_frame (State.wr_frame h16 ..) ..

theorem State.placeNode_frame {M : Nat} {a s : State} (h : Frame M a s) (o : State) (n : Nat) (j : Job) (i : Nat) (x : TNode) (pos : Option Nat) (hm : Nat.lor 0x30000000000000000000000000000000000000000000000000000000000000000000000000000000000000000000000000000000000000000000440000c1211ff00000000001fee00000000000000000000000000000000000000000000 M = M := by decide +kernel) :
    Frame M a (State.placeNode o n j i x pos s) := h.trans (Frame.mono hm (State.placeNode_frame0 s o n j i x pos))

theorem State.staleCmds_frame {M : Nat} {a s : State} (h : Frame M a s) (n : Nat) (hm : Nat.lor 0x38b00000000000085060000000000000000000000005e4d00000001c2000000003ffff80017fe000000000000000000a838000000000327c03fc800c1000000000000000000000007000000002000000000800000000000060c1fb8 M = M := by decide +kernel) :
    Frame M a (State.staleCmds s n) := by
  refine h.trans (Frame.mono hm ?_)
  unfold State.staleCmds
  repeat' with_reducible first
    | exact Frame.refl _ | apply Frame.ite | apply State.modRing_frame | apply State.modWire_frame | apply State.wireEnd_frame
    | apply State.releaseEnd_frame | apply State.refuseStep_frame | apply State.sleepEnd_frame | apply State.nodeReqEnd_frame
    | decide +kernel | apply Frame.foldl | intro _ | split

theorem State.applyEpoch_frame0 (s : State) (n : Nat) (j : Job) (nom : Nat) : Frame 0xb80038b00000000000085060000000000000000000000005e4d00000001c2000000003ffff80017ffff87041fffff800038a838000000000327c4ffe80cd311ff00000008181fffedfcff000000002000000000800002000000060d1fb8 s (State.applyEpoch s n j nom) := by
  unfold State.applyEpoch
  extract_lets s1 o first oldCnt prev
  have h1 : Frame 0xb80038b00000000000085060000000000000000000000005e4d00000001c2000000003ffff80017ffff87041fffff800038a838000000000327c4ffe80cd311ff00000008181fffedfcff000000002000000000800002000000060d1fb8 s s1 := State.staleCmds_frame (State.modRing_frame (State.staleDue_frame (State.buildAll_frame (Frame.refl s) ..) ..) ..) ..
  split
  next nums total ov hnum =>
  extract_lets cnt objs s2 s3 s4 s5 s6 s7 s8 s9 rn s10 ps s11 s12 lost
  have h2 : Frame 0xb80038b00000000000085060000000000000000000000005e4d00000001c2000000003ffff80017ffff87041fffff800038a838000000000327c4ffe80cd311ff00000008181fffedfcff000000002000000000800002000000060d1fb8 s s2 := Frame.objs' h1 objs fun k e => by
    have hf : ∀ (l : List Nat) (st : Store), (l.foldl (fun (a : Store) i =>
        (a.clearInst 0x0602 (nodeInst n i)).clearInst 0x0605 (nodeInst n i)) st).get? k = st.get? k := by
      intro l
      induction l with
      | nil => intro st; rfl
      | cons x l ih =>
        intro st
        rw [List.foldl_cons, ih, Store.get?_clearInst _ (not_obj e), Store.get?_clearInst _ (not_obj e)]
    exact (hf _ _).trans (Store.get?_clearInst _ (not_obj e))
  have h3 : Frame 0xb80038b00000000000085060000000000000000000000005e4d00000001c2000000003ffff80017ffff87041fffff800038a838000000000327c4ffe80cd311ff00000008181fffedfcff000000002000000000800002000000060d1fb8 s s3 := h2.foldl _ _ fun v x => State.placeNode_frame (Frame.refl _) ..
  have h4 : Frame 0xb80038b00000000000085060000000000000000000000005e4d00000001c2000000003ffff80017ffff87041fffff800038a838000000000327c4ffe80cd311ff00000008181fffedfcff000000002000000000800002000000060d1fb8 s s4 := State.wr_frame (State.wr_frame h3 ..) ..
  have h5 : Frame 0xb80038b00000000000085060000000000000000000000005e4d00000001c2000000003ffff80017ffff87041fffff800038a838000000000327c4ffe80cd311ff00000008181fffedfcff000000002000000000800002000000060d1fb8 s s5 := State.wr_frame (State.wr_frame h4 ..) ..
  have h6 : Frame 0xb80038b00000000000085060000000000000000000000005e4d00000001c2000000003ffff80017ffff87041fffff800038a838000000000327c4ffe80cd311ff00000008181fffedfcff000000002000000000800002000000060d1fb8 s s6 := State.wr_frame (State.wr_frame h5 ..) ..
  have h7 : Frame 0xb80038b00000000000085060000000000000000000000005e4d00000001c2000000003ffff80017ffff87041fffff800038a838000000000327c4ffe80cd311ff00000008181fffedfcff000000002000000000800002000000060d1fb8 s s7 := State.wr_frame (State.wr_frame h6 ..) ..
  have h8 : Frame 0xb80038b00000000000085060000000000000000000000005e4d00000001c2000000003ffff80017ffff87041fffff800038a838000000000327c4ffe80cd311ff00000008181fffedfcff000000002000000000800002000000060d1fb8 s s8 := State.wrB_frame h7 ..
  have h9 : Frame 0xb80038b00000000000085060000000000000000000000005e4d00000001c2000000003ffff80017ffff87041fffff800038a838000000000327c4ffe80cd311ff00000008181fffedfcff000000002000000000800002000000060d1fb8 s s9 := State.wr_frame h8 ..
  have h10 : Frame 0xb80038b00000000000085060000000000000000000000005e4d00000001c2000000003ffff80017ffff87041fffff800038a838000000000327c4ffe80cd311ff00000008181fffedfcff000000002000000000800002000000060d1fb8 s s10 := State.modRing_frame h9 ..
  have h11 : Frame 0xb80038b00000000000085060000000000000000000000005e4d00000001c2000000003ffff80017ffff87041fffff800038a838000000000327c4ffe80cd311ff00000008181fffedfcff000000002000000000800002000000060d1fb8 s s11 := State.modEst_frame h10 ..
  have h12 : Frame 0xb80038b00000000000085060000000000000000000000005e4d00000001c2000000003ffff80017ffff87041fffff800038a838000000000327c4ffe80cd311ff00000008181fffedfcff000000002000000000800002000000060d1fb8 s s12 := State.modProt_frame h11 ..
  clear_value s12 s2
  split
  next st a b hseg =>
  extract_lets un same t1 t2 t3 t4 t5 t6 t6b t7 t8 t9
  have g1 : Frame 0xb80038b00000000000085060000000000000000000000005e4d00000001c2000000003ffff80017ffff87041fffff800038a838000000000327c4ffe80cd311ff00000008181fffedfcff000000002000000000800002000000060d1fb8 _ t1 := Frame.ite (h12.foldl _ _ fun v x => State.wr_frame (Frame.refl _) ..) (State.setSegments_frame h12 ..)
  have g2 : Frame 0xb80038b00000000000085060000000000000000000000005e4d00000001c2000000003ffff80017ffff87041fffff800038a838000000000327c4ffe80cd311ff00000008181fffedfcff000000002000000000800002000000060d1fb8 _ t2 := g1.foldl _ _ fun v x => State.wr_frame (Frame.refl _) ..
  have g3 : Frame 0xb80038b00000000000085060000000000000000000000005e4d00000001c2000000003ffff80017ffff87041fffff800038a838000000000327c4ffe80cd311ff00000008181fffedfcff000000002000000000800002000000060d1fb8 _ t3 := State.wr_frame g2 ..
  have g4 : Frame 0xb80038b00000000000085060000000000000000000000005e4d00000001c2000000003ffff80017ffff87041fffff800038a838000000000327c4ffe80cd311ff00000008181fffedfcff000000002000000000800002000000060d1fb8 _ t4 := State.setDiag_frame (State.wrB_frame g3 ..) ..
  have g5 : Frame 0xb80038b00000000000085060000000000000000000000005e4d00000001c2000000003ffff80017ffff87041fffff800038a838000000000327c4ffe80cd311ff00000008181fffedfcff000000002000000000800002000000060d1fb8 _ t5 := Frame.ite g4 (State.bump_frame g4 ..)
  have g6 : Frame 0xb80038b00000000000085060000000000000000000000005e4d00000001c2000000003ffff80017ffff87041fffff800038a838000000000327c4ffe80cd311ff00000008181fffedfcff000000002000000000800002000000060d1fb8 _ t6 := State.unuseEntries_frame g5 ..
  have g6b : Frame 0xb80038b00000000000085060000000000000000000000005e4d00000001c2000000003ffff80017ffff87041fffff800038a838000000000327c4ffe80cd311ff00000008181fffedfcff000000002000000000800002000000060d1fb8 _ t6b := g6.foldl _ _ fun v x => Frame.ite (State.authEntries_frame (Frame.refl _) ..) (Frame.refl _)
  have g7 : Frame 0xb80038b00000000000085060000000000000000000000005e4d00000001c2000000003ffff80017ffff87041fffff800038a838000000000327c4ffe80cd311ff00000008181fffedfcff000000002000000000800002000000060d1fb8 _ t7 := State.wireRegs_frame (State.sentinelsMoved_frame g6b ..) ..
  have g8 : Frame 0xb80038b00000000000085060000000000000000000000005e4d00000001c2000000003ffff80017ffff87041fffff800038a838000000000327c4ffe80cd311ff00000008181fffedfcff000000002000000000800002000000060d1fb8 _ t8 := g7.foldl _ _ fun v x => Frame.ite (State.wr_frame (Frame.refl _) ..) (Frame.refl _)
  have g9 : Frame 0xb80038b00000000000085060000000000000000000000005e4d00000001c2000000003ffff80017ffff87041fffff800038a838000000000327c4ffe80cd311ff00000008181fffedfcff000000002000000000800002000000060d1fb8 _ t9 := State.modStr_frame g8 ..
  exact State.nodeDiags_frame (State.modEst_frame g9 ..) ..

theorem State.applyEpoch_frame {M : Nat} {a s : State} (h : Frame M a s) (n : Nat) (j : Job) (nom : Nat) (hm : Nat.lor 0xb80038b00000000000085060000000000000000000000005e4d00000001c2000000003ffff80017ffff87041fffff800038a838000000000327c4ffe80cd311ff00000008181fffedfcff000000002000000000800002000000060d1fb8 M = M := by decide +kernel) :
    Frame M a (State.applyEpoch s n j nom) := h.trans (Frame.mono hm (State.applyEpoch_frame0 s n j nom))

theorem State.epochBegun_frame {M : Nat} {a s : State} (h : Frame M a s) (n : Nat) (hm : Nat.lor 0x1f0000000000000000000000000000000000000000000000000000000000000000000000000000000000000000000000000000000028000000000000000000000000000100000000000000000000000000000000006001000 M = M := by decide +kernel) :
    Frame M a (State.epochBegun s n) := by
  refine h.trans (Frame.mono hm ?_)
  unfold State.epochBegun
  repeat' with_reducible first
    | exact Frame.refl _ | apply Frame.ite | apply State.thresholdsAll_frame | apply State.armNode_frame
    | apply State.authNext_frame | apply State.updateRegs_frame | apply State.pump_frame | apply State.resumeJobs_frame
    | decide +kernel | apply Frame.foldl | intro _ | split

theorem State.reachPhase_frame {M : Nat} {a s : State} (h : Frame M a s) (k : Nat) (hm : Nat.lor 0x400000000000000000000000000000000040 M = M := by decide +kernel) :
    Frame M a (State.reachPhase s k) := by
  refine h.trans (Frame.mono hm ?_)
  unfold State.reachPhase
  repeat' with_reducible first
    | exact Frame.refl _ | apply Frame.ite | apply State.setPhase_frame | decide +kernel | split

theorem State.fireLap_frame {M : Nat} {a s : State} (h : Frame M a s) (n : Nat) (f : Nat) (j : Nat) (nom : Nat) (lead : Nat) (raised : Bool) (newEpoch : Bool) (hm : Nat.lor 0x10000000000000000000800000000000000000000000000000000000000000000000000000000000000008000000000000000000000000000210800000000000002409f27000000000000081480081800000000000000000000004011f70 M = M := by decide +kernel) :
    Frame M a (State.fireLap s n f j nom lead raised newEpoch) := by
  refine h.trans (Frame.mono hm ?_)
  unfold State.fireLap
  repeat' with_reducible first
    | exact Frame.refl _ | apply Frame.ite | apply State.modLaps_frame | apply State.bump_frame | apply State.wr_frame
    | apply State.wrB_frame | apply State.sendSample_frame | apply State.nameInstant_frame | apply State.modNode_frame
    | apply State.startTelegrams_frame | apply State.reachPhase_frame | apply State.sprintCheck_frame
    | apply State.restoreCheck_frame | decide +kernel | apply Frame.foldl | intro _ | split

theorem State.lapCounts_frame {M : Nat} {a s : State} (h : Frame M a s) (n : Nat) (x : Lap) (flags : Nat) (hm : Nat.lor 0xd0f6018000000000000000000000000000000000000000000000001000 M = M := by decide +kernel) :
    Frame M a (State.lapCounts s n x flags) := by
  refine h.trans (Frame.mono hm ?_)
  unfold State.lapCounts
  repeat' with_reducible first
    | exact Frame.refl _ | apply Frame.ite | apply State.bump_frame | apply State.wr_frame | apply State.wrB_frame
    | apply State.modLaps_frame | decide +kernel | intro _ | split

theorem State.replays_frame {M : Nat} {a s : State} (h : Frame M a s) (n : Nat) (x : Lap) (hm : Nat.lor 0x40000000000000000000000000000000000000000000000000000000000000000000000000000000000000000000 M = M := by decide +kernel) :
    Frame M a (State.replays s n x) := by
  refine h.trans (Frame.mono hm ?_)
  unfold State.replays
  repeat' with_reducible first
    | exact Frame.refl _ | apply Frame.ite | apply State.bump_frame | decide +kernel | intro _ | split

theorem State.completeLap_frame {M : Nat} {a s : State} (h : Frame M a s) (str : Nat) (x : Lap) (whole : Nat) (hm : Nat.lor 0x800038b00000000000085060000000000000000000000005e4d00000001c2001e00003ffff80017ffff8f867fffffcf70c0a838000000000327c03fd670008000d0f60180000000000007810000002000000000800002000000060d9fa8 M = M := by decide +kernel) :
    Frame M a (State.completeLap s str x whole) := by
  refine h.trans (Frame.mono hm ?_)
  unfold State.completeLap
  repeat' with_reducible first
    | exact Frame.refl _ | apply Frame.ite | apply State.underOld_frame | apply State.modLap_frame
    | apply State.blankAll_frame | apply State.modEst_frame | apply State.lapNode_frame | apply State.wireRegs_frame
    | apply State.nodeDiags_frame | apply State.wireTests_frame | apply State.classifyTrip_frame | apply State.lapCounts_frame
    | apply State.checkLap_frame | apply State.buildAll_frame | apply State.learnDue_frame | apply State.stepLap_frame
    | apply State.filterLap_frame | apply State.replays_frame | apply State.modStr_frame | decide +kernel | apply Frame.foldl
    | intro _ | split

theorem State.endLaps_frame {M : Nat} {a s : State} (h : Frame M a s) (n : Nat) (hm : Nat.lor 0x800038b00000000000085060000000000000000000000005e4d00000001c2001e00003ffff80017ffff8f867fffffcf70c0a838000000000327c03fd670008000d0f60180000000000007810000002000000000800002000000060d9fa8 M = M := by decide +kernel) :
    Frame M a (State.endLaps s n) := by
  refine h.trans (Frame.mono hm ?_)
  unfold State.endLaps
  repeat' with_reducible first
    | exact Frame.refl _ | apply Frame.ite | apply State.modLap_frame | apply State.completeLap_frame | decide +kernel
    | apply Frame.foldl | intro _ | split | dsimp only

theorem execLapFire_frame (t : Nat) (str : Nat) (tNom : Nat) (s : State) : ∃ u, execLapFire t str tNom s = .next u ∧ Frame 0x1b80038b0001f000000085062000000000000000000000005e4d00000001c2001e00003ffff80217ffff8f867fffffcf70f8a839002401000337c6fffe7cd391fff4fffff8181fffedfcff81580081a000000000800002000000060d9ffd s u := by
  refine ⟨_, rfl, ?_⟩
  repeat' with_reducible first
    | exact Frame.refl _ | apply Frame.ite | apply State.at_frame | apply State.waitDue_frame | apply State.endLaps_frame
    | apply State.applyEpoch_frame | apply State.bump_frame | apply State.modLaps_frame | apply State.fireLap_frame
    | apply State.epochBegun_frame | apply State.drain_frame | decide +kernel | intro _ | split

theorem execCollect_frame (t : Nat) (str : Nat) (port : Nat) (s : State) : ∃ u, execCollect t str port s = .next u ∧ Frame 0x38b0001f000000085062000000000000000000000005e4d00000001c2000000000000000200be000700000c00000038a8390024010002008020000010010000000e00000000001007001000002000000000000000000000040d17a5 s u := by
  refine ⟨_, rfl, ?_⟩
  repeat' with_reducible first
    | exact Frame.refl _ | apply Frame.ite | apply State.at_frame | apply State.waitDue_frame | apply State.modLap_frame
    | apply State.modRing_frame | apply State.wrB_frame | apply State.enumerateInSlot_frame | apply State.sendCollect_frame
    | apply State.drain_frame | decide +kernel | intro _ | split

theorem execCollectionCutoff_frame (t : Nat) (str : Nat) (s : State) : ∃ u, execCollectionCutoff t str s = .next u ∧ Frame 0x1001 s u := by
  refine ⟨_, rfl, ?_⟩
  repeat' with_reducible first
    | exact Frame.refl _ | apply Frame.ite | apply State.at_frame | apply State.modLap_frame | decide +kernel | intro _
    | split

theorem execChargeArrival_frame (t : Nat) (str : Nat) (ahead : Nat) (s : State) : ∃ u, execChargeArrival t str ahead s = .next u ∧ Frame 0x4020000000000000000000000000000000000000000000000000000000000000000000000000000000000000001001 s u := by
  refine ⟨_, rfl, ?_⟩
  dsimp only
  repeat' with_reducible first
    | exact Frame.refl _ | apply Frame.ite | apply State.at_frame | apply State.modStr_frame | apply State.modLap_frame
    | apply State.modEst_frame | apply State.lapCheck_frame | decide +kernel | intro _ | split

theorem execFalseStartSecond_frame (t : Nat) (str : Nat) (s : State) : ∃ u, execFalseStartSecond t str s = .next u ∧ Frame 0x80000000000000000000000000000000000000000000000000000000000000000000000000008f400000000000000200800000000000000000000000000000000000000000000000000000000000000004001721 s u := by
  refine ⟨_, rfl, ?_⟩
  repeat' with_reducible first
    | exact Frame.refl _ | apply Frame.ite | apply State.at_frame | apply State.wr_frame | apply State.bump_frame
    | apply State.record_frame | apply State.modEst_frame | decide +kernel | intro _ | split

theorem execShadowCheck_frame (t : Nat) (str : Nat) (same : Bool) (s : State) : ∃ u, execShadowCheck t str same s = .next u ∧ Frame 0x800000000000000000000000000000000000000000000000000000000000000000000000003000000000000000000200800000000000000000000000000000000000000000000000000000000020000004001721 s u := by
  refine ⟨_, rfl, ?_⟩
  repeat' with_reducible first
    | exact Frame.refl _ | apply Frame.ite | apply State.at_frame | apply State.modEst_frame | apply State.bump_frame
    | apply State.wrB_frame | apply State.record_frame | decide +kernel | intro _ | split

end Sys2Proof.Machine
end

