-- ==== Sys2Proof/Laws/Frame/RingRecv.lean ====
section
/-! SUPPORT. What the operations of Machine/RingRecv.lean may change (`Frame`). -/

namespace Sys2Proof.Machine
open Obj

set_option linter.all false
set_option Elab.async false

theorem State.modCmd_frame {M : Nat} {a s : State} (h : Frame M a s) (n : Nat) (k : Nat) (f : NodeCmd → NodeCmd) (hm : Nat.lor 0x1000 M = M := by decide +kernel) :
    Frame M a (State.modCmd s n k f) := by
  refine h.trans (Frame.mono hm ?_)
  unfold State.modCmd
  repeat' with_reducible first
    | exact Frame.refl _ | apply Frame.ite | apply State.modRing_frame | decide +kernel | intro _ | split

theorem State.takeResponse_frame {M : Nat} {a s : State} (h : Frame M a s) (n : Nat) (k : Nat) (d : Bytes) (hm : Nat.lor 0x38b0027f000000085060000000000000000000000005e4d00000001c2000000003ffff80017fe000700000000000000a838000000000327dbbfcd8fef300000000003c01e20001007000000002000000000800000000000060d1fb8 M = M := by decide +kernel) :
    Frame M a (State.takeResponse s n k d) := by
  refine h.trans (Frame.mono hm ?_)
  unfold State.takeResponse
  repeat' with_reducible first
    | exact Frame.refl _ | apply Frame.ite | apply State.wr_frame | apply State.setSeqFault_frame
    | apply State.nodeDiags_frame | apply State.finishCmd_frame | apply State.bump_frame | apply State.modCmd_frame
    | apply State.sendFetch_frame | decide +kernel | intro _ | split | dsimp only

theorem State.takeResult_frame {M : Nat} {a s : State} (h : Frame M a s) (n : Nat) (k : Nat) (d : Bytes) (hm : Nat.lor 0x38b0027f000000085060000000000000000000000005e4d00000001c2000000003ffff80017fe000700000000000000a838000000000327dbbfcd8fcf200000000002001a00001007000000002000000000800000000000060d1fb8 M = M := by decide +kernel) :
    Frame M a (State.takeResult s n k d) := by
  refine h.trans (Frame.mono hm ?_)
  unfold State.takeResult
  repeat' with_reducible first
    | exact Frame.refl _ | apply Frame.ite | apply State.finishCmd_frame | apply State.modCmd_frame | decide +kernel | intro _
    | split

theorem State.dropNodeFlights_frame {M : Nat} {a s : State} (h : Frame M a s) (n : Nat) (k : Nat) (hm : Nat.lor 0x1000 M = M := by decide +kernel) :
    Frame M a (State.dropNodeFlights s n k) := by
  refine h.trans (Frame.mono hm ?_)
  unfold State.dropNodeFlights
  repeat' with_reducible first
    | exact Frame.refl _ | apply State.modRing_frame | decide +kernel | intro _ | split

theorem State.assignMissing_frame {M : Nat} {a s : State} (h : Frame M a s) (n : Nat) (j : Job) (hm : Nat.lor 0x100000000000000000000000000000000004001000 M = M := by decide +kernel) :
    Frame M a (State.assignMissing s n j) := by
  refine h.trans (Frame.mono hm ?_)
  unfold State.assignMissing
  repeat' with_reducible first
    | exact Frame.refl _ | apply Frame.ite | apply State.nextAssign_frame | apply State.modJob_frame | decide +kernel
    | intro _ | split

theorem execCmdTimeout_frame (t : Nat) (str : Nat) (node : Nat) (s : State) : ∃ u, execCmdTimeout t str node s = .next u ∧ Frame 0x38b0027f000000085060000000000000000000000005e4d00000001c2000000003ffff80017fe000700000000000000a838000000000327dbbfcd8fcf200000000002201a00001007000000002000000000800000000000060d1fb9 s u := by
  refine ⟨_, rfl, ?_⟩
  repeat' with_reducible first
    | exact Frame.refl _ | apply Frame.ite | apply State.at_frame | apply State.drain_frame
    | apply State.dropNodeFlights_frame | apply State.assignMissing_frame | apply State.modCmd_frame
    | apply State.sendCmd_frame | apply State.sendFetch_frame | apply State.bump_frame | apply State.finishCmd_frame
    | decide +kernel | intro _ | split

theorem execResultFetch_frame (t : Nat) (str : Nat) (node : Nat) (s : State) : ∃ u, execResultFetch t str node s = .next u ∧ Frame 0x4001001 s u := by
  refine ⟨_, rfl, ?_⟩
  repeat' with_reducible first
    | exact Frame.refl _ | apply Frame.ite | apply State.at_frame | apply State.sendFetch_frame | apply State.modCmd_frame
    | decide +kernel | intro _ | split

theorem State.enumLost_frame {M : Nat} {a s : State} (h : Frame M a s) (n : Nat) (hm : Nat.lor 0x100000000000000000000000000000000004001000 M = M := by decide +kernel) :
    Frame M a (State.enumLost s n) := by
  refine h.trans (Frame.mono hm ?_)
  unfold State.enumLost
  repeat' with_reducible first
    | exact Frame.refl _ | apply Frame.ite | apply State.modRing_frame | apply State.wrB_frame | apply State.resumeJobs_frame
    | decide +kernel | intro _ | split

theorem State.enumHeard_frame {M : Nat} {a s : State} (h : Frame M a s) (n : Nat) (port : Nat) (l : List TNode) (through : Bool) (hm : Nat.lor 0x8000000000000010000100000000000000000000000000000000004001000 M = M := by decide +kernel) :
    Frame M a (State.enumHeard s n port l through) := by
  refine h.trans (Frame.mono hm ?_)
  unfold State.enumHeard
  repeat' with_reducible first
    | exact Frame.refl _ | apply Frame.ite | apply State.modRing_frame | apply State.decideEnum_frame | decide +kernel
    | intro _ | split

theorem State.enumFrom_frame {M : Nat} {a s : State} (h : Frame M a s) (n : Nat) (port : Nat) (hm : Nat.lor 0x400000000100000000000000000000000000000000004001000 M = M := by decide +kernel) :
    Frame M a (State.enumFrom s n port) := by
  refine h.trans (Frame.mono hm ?_)
  unfold State.enumFrom
  repeat' with_reducible first
    | exact Frame.refl _ | apply Frame.ite | apply State.startEnum_frame | decide +kernel | split

theorem State.takeIdentity_frame {M : Nat} {a s : State} (h : Frame M a s) (n : Nat) (k : Nat) (d : Bytes) (hm : Nat.lor 0x80000000000000000000000000000000000000000000000000000000000000000000000000000000000000000000020080000000000038000000041800d00c94e800000000000000000000000000000004001720 M = M := by decide +kernel) :
    Frame M a (State.takeIdentity s n k d) := by
  refine h.trans (Frame.mono hm ?_)
  unfold State.takeIdentity
  repeat' with_reducible first
    | exact Frame.refl _ | apply Frame.ite | apply State.enumFrom_frame | apply State.modNode_frame | apply State.wr_frame
    | apply State.linkBreak_frame | apply State.jointCheck_frame | apply State.reassign_frame | decide +kernel | intro _
    | split

theorem State.jobProbed_frame {M : Nat} {a s : State} (h : Frame M a s) (n : Nat) (j : Job) (d : Nat) (hm : Nat.lor 0x100000000000000000000000000000000004001000 M = M := by decide +kernel) :
    Frame M a (State.jobProbed s n j d) := by
  refine h.trans (Frame.mono hm ?_)
  unfold State.jobProbed
  repeat' with_reducible first
    | exact Frame.refl _ | apply Frame.ite | apply State.modRing_frame | apply State.beginAssign_frame
    | apply State.jobProbe_frame | decide +kernel | intro _ | split

theorem State.jobProbeLost_frame {M : Nat} {a s : State} (h : Frame M a s) (n : Nat) (j : Job) (hm : Nat.lor 0x100000000000000000000000000000000004001000 M = M := by decide +kernel) :
    Frame M a (State.jobProbeLost s n j) := by
  refine h.trans (Frame.mono hm ?_)
  unfold State.jobProbeLost
  repeat' with_reducible first
    | exact Frame.refl _ | apply Frame.ite | apply State.modRing_frame | apply State.beginAssign_frame
    | apply State.jobProbe_frame | decide +kernel | intro _ | split

theorem State.roundProbed_frame {M : Nat} {a s : State} (h : Frame M a s) (n : Nat) (port : Nat) (k : Nat) (d : Nat) (hm : Nat.lor 0x180000000000000000000000000000000000000004001000 M = M := by decide +kernel) :
    Frame M a (State.roundProbed s n port k d) := by
  refine h.trans (Frame.mono hm ?_)
  unfold State.roundProbed
  repeat' with_reducible first
    | exact Frame.refl _ | apply Frame.ite | apply State.sendProbe_frame | apply State.modNode_frame
    | apply State.queueCmd_frame | decide +kernel | split

theorem State.takeProbe_frame {M : Nat} {a s : State} (h : Frame M a s) (n : Nat) (port : Nat) (k : Nat) (rtt : Nat) (hm : Nat.lor 0x180000100000000000000000000000000000000004001000 M = M := by decide +kernel) :
    Frame M a (State.takeProbe s n port k rtt) := by
  refine h.trans (Frame.mono hm ?_)
  unfold State.takeProbe
  repeat' with_reducible first
    | exact Frame.refl _ | apply Frame.ite | apply State.jobProbed_frame | apply State.roundProbed_frame | decide +kernel
    | intro _ | split

theorem State.probeLost_frame {M : Nat} {a s : State} (h : Frame M a s) (n : Nat) (port : Nat) (k : Nat) (hm : Nat.lor 0x100000000000000000000000000000000004001000 M = M := by decide +kernel) :
    Frame M a (State.probeLost s n port k) := by
  refine h.trans (Frame.mono hm ?_)
  unfold State.probeLost
  repeat' with_reducible first
    | exact Frame.refl _ | apply Frame.ite | apply State.jobProbeLost_frame | apply State.modNode_frame | decide +kernel
    | intro _ | split

theorem State.assignAnswered_frame {M : Nat} {a s : State} (h : Frame M a s) (n : Nat) (j : Job) (hm : Nat.lor 0x38b00000000000085060000000000000000000000005e4d00000001c2000000003ffff80017fe000000000000000000a838000000000327c020000000100000000000000420001007000000002000000000800000000000040c1fa8 M = M := by decide +kernel) :
    Frame M a (State.assignAnswered s n j) := by
  refine h.trans (Frame.mono hm ?_)
  unfold State.assignAnswered
  repeat' with_reducible first
    | exact Frame.refl _ | apply Frame.ite | apply State.wr_frame | apply State.wrB_frame | apply State.modNode_frame
    | apply State.sendThresholds_frame | apply State.modJob_frame | apply State.nextAssign_frame | apply State.nodeDiags_frame
    | decide +kernel | intro _ | split

theorem State.takeBaton_frame {M : Nat} {a s : State} (h : Frame M a s) (n : Nat) (left : Nat) (port : Nat) (bytes : Bytes) (bs : List (Nat × Nat × Bytes)) (rtt : Nat) (timely : Bool) (cut : Bool) (hm : Nat.lor 0x38b0027f000000085060000000000000000000000005e4d00000001c2000000003ffff80017fe000700000000000000a838000000000327dbbfcd8fef7e3808000007d81ff00c94ef000000002000000000800000000000060d1fb8 M = M := by decide +kernel) :
    Frame M a (State.takeBaton s n left port bytes bs rtt timely cut) := by
  refine h.trans (Frame.mono hm ?_)
  unfold State.takeBaton
  repeat' with_reducible first
    | exact Frame.refl _ | apply Frame.ite | apply State.modRing_frame | apply State.setSegments_frame
    | apply State.takeRecord_frame | apply State.retryCollect_frame | apply State.assignAnswered_frame
    | apply State.takeResponse_frame | apply State.takeResult_frame | apply State.enumLost_frame | apply State.enumHeard_frame
    | apply State.enumFrom_frame | apply State.takeIdentity_frame | apply State.takeProbe_frame | apply State.probeLost_frame
    | decide +kernel | apply Frame.foldl | intro _ | split

theorem execBatonReceived_frame (t : Nat) (str : Nat) (port : Nat) (bytes : Bytes) (aborted : Bool) (rtt : Nat) (s : State) : ∃ u, execBatonReceived t str port bytes aborted rtt s = .next u ∧ Frame 0x38b0027f000000085060000000000000000000000005e4d00000001c2000000003ffff80017fe000700000000000000a838000000000327dbbfcd8fef7e380b000007d8fff01c94ef000000002000000000800000000000060d1fb9 s u := by
  refine ⟨_, rfl, ?_⟩
  repeat' with_reducible first
    | exact Frame.refl _ | apply Frame.ite | apply State.at_frame | apply State.bump_frame | apply State.lateSample_frame
    | apply State.modRing_frame | apply State.wr_frame | apply State.turnBreak_frame | apply State.takeBaton_frame
    | apply State.drain_frame | decide +kernel | apply Frame.foldl | intro _ | split

theorem execReturnMissing_frame (t : Nat) (str : Nat) (port : Nat) (kind : Nat) (s : State) : ∃ u, execReturnMissing t str port kind s = .next u ∧ Frame 0x800000000000000000000000000000000000000000000000000000000000000000000000000000000000000000000200800000000008000b0000001c01100c94e800000000000000000000000000000004001721 s u := by
  refine ⟨_, rfl, ?_⟩
  repeat' with_reducible first
    | exact Frame.refl _ | apply Frame.ite | apply State.at_frame | apply State.modRing_frame | apply State.bump_frame
    | apply State.lateSample_frame | apply State.missingBreak_frame | apply State.retryCollect_frame
    | apply State.enumHeard_frame | apply State.enumLost_frame | apply State.probeLost_frame | apply State.drain_frame
    | decide +kernel | intro _ | split

theorem execRingPortLineLost_frame (t : Nat) (str : Nat) (port : Nat) (seen : LineSeen) (s : State) : ∃ u, execRingPortLineLost t str port seen s = .next u ∧ Frame 0x80000000000000000000000000000000000000000000000000000000000000000000000000000000000000000000020080000000000000030000001b00100c87e800000000000000000000000000000004001721 s u := by
  refine ⟨_, rfl, ?_⟩
  repeat' with_reducible first
    | exact Frame.refl _ | apply Frame.ite | apply State.at_frame | apply State.bump_frame | apply State.modRing_frame
    | apply State.wrB_frame | apply State.send_frame | apply State.lateSample_frame | apply State.portBreak_frame
    | apply State.jointCheck_frame | decide +kernel | intro _ | split

theorem execRingPortLinkReady_frame (t : Nat) (str : Nat) (line : PortLine) (s : State) : ∃ u, execRingPortLinkReady t str line s = .next u ∧ Frame 0x70000000000000000000000000000000004001001 s u := by
  refine ⟨_, rfl, ?_⟩
  repeat' with_reducible first
    | exact Frame.refl _ | apply Frame.ite | apply State.at_frame | apply State.wrB_frame | apply State.modRing_frame
    | apply State.send_frame | apply State.jointCheck_frame | decide +kernel | intro _ | split

theorem State.sendRollCall_frame {M : Nat} {a s : State} (h : Frame M a s) (n : Nat) (k : Nat) (hm : Nat.lor 0x4001000 M = M := by decide +kernel) :
    Frame M a (State.sendRollCall s n k) := by
  refine h.trans (Frame.mono hm ?_)
  unfold State.sendRollCall
  repeat' with_reducible first
    | exact Frame.refl _ | apply Frame.ite | apply State.sendBaton_frame | decide +kernel | intro _ | split

theorem execIncrementalRound_frame (t : Nat) (str : Nat) (s : State) : ∃ u, execIncrementalRound t str s = .next u ∧ Frame 0x400000002140000000000000000000000000000000004001001 s u := by
  refine ⟨_, rfl, ?_⟩
  repeat' with_reducible first
    | exact Frame.refl _ | apply Frame.ite | apply State.at_frame | apply State.modRing_frame | apply State.modNode_frame
    | apply State.enumFrom_frame | apply State.sendEnumerate_frame | apply State.sendRollCall_frame
    | apply State.readStatus_frame | apply State.sendProbe_frame | apply State.reassign_frame | apply State.jointCheck_frame
    | apply State.stamp_frame | apply State.thresholdsDue_frame | apply State.drain_frame | decide +kernel | apply Frame.foldl
    | intro _ | split

theorem execEnumerationComplete_frame (t : Nat) (str : Nat) (s : State) : ∃ u, execEnumerationComplete t str s = .next u ∧ Frame 0x8000000000000010000100000400000000000000000000000000004001041 s u := by
  refine ⟨_, rfl, ?_⟩
  repeat' with_reducible first
    | exact Frame.refl _ | apply Frame.ite | apply State.at_frame | apply State.decideEnum_frame
    | apply State.reachPhase_frame | decide +kernel | intro _ | split | fail_if_no_progress refine Frame.on_boot ?_ _
    | fail_if_no_progress refine Frame.mk' ?_

theorem execNewEpoch_frame (t : Nat) (str : Nat) (s : State) : ∃ u, execNewEpoch t str s = .next u ∧ Frame 0x100000000000000000000000000000000004001001 s u := by
  refine ⟨_, rfl, ?_⟩
  repeat' with_reducible first
    | exact Frame.refl _ | apply Frame.ite | apply State.at_frame | apply State.modRing_frame | apply State.beginAssign_frame
    | apply State.jobProbe_frame | decide +kernel | intro _ | split

theorem execRingClose_frame (t : Nat) (str : Nat) (s : State) : ∃ u, execRingClose t str s = .next u ∧ Frame 0x40000000000000000000000000000000004001001 s u := by
  refine ⟨_, rfl, ?_⟩
  repeat' with_reducible first
    | exact Frame.refl _ | apply Frame.ite | apply State.at_frame | apply State.jointCheck_frame | apply State.closeRing_frame
    | decide +kernel | split

end Sys2Proof.Machine
end

