-- ==== Sys2Proof/Laws/Frame/FrontEnd.lean ====
section
/-! SUPPORT. What the operations of Machine/FrontEnd.lean may change (`Frame`). -/

namespace Sys2Proof.Machine
open Obj

set_option linter.all false
set_option Elab.async false

theorem State.overCurrent_frame {M : Nat} {a s : State} (h : Frame M a s) (n : Nat) (i : Int) (clip : Bool) (at_ : Nat) (hm : Nat.lor 0x38b00000000000085060000000000000000000000005e4d00000001c2000000003ffff80016fe000000000000000000a838000000000327c020000000000000000000000000000007000000002000000000800000000000040c1fa8 M = M := by decide +kernel) :
    Frame M a (State.overCurrent s n i clip at_) := by
  refine h.trans (Frame.mono hm ?_)
  unfold State.overCurrent
  repeat' with_reducible first
    | exact Frame.refl _ | apply Frame.ite | apply State.modProt_frame | apply State.trip_frame | decide +kernel | intro _
    | split

theorem State.secondMean_frame {M : Nat} {a s : State} (h : Frame M a s) (n : Nat) (centre : Nat) (i : Int) (hm : Nat.lor 0x100000000000000000000000000000000000000000000000000000000000000000000000001000 M = M := by decide +kernel) :
    Frame M a (State.secondMean s n centre i) := by
  refine h.trans (Frame.mono hm ?_)
  unfold State.secondMean
  repeat' with_reducible first
    | exact Frame.refl _ | apply Frame.ite | apply State.modFe_frame | apply State.wrI_frame | decide +kernel | intro _
    | split

theorem State.shotRefer_frame {M : Nat} {a s : State} (h : Frame M a s) (n : Nat) (hm : Nat.lor 0x1000 M = M := by decide +kernel) :
    Frame M a (State.shotRefer s n) := by
  refine h.trans (Frame.mono hm ?_)
  unfold State.shotRefer
  repeat' with_reducible first
    | exact Frame.refl _ | apply Frame.ite | apply State.modStr_frame | decide +kernel | intro _ | split

theorem execCoulombSample_frame (t : Nat) (str : Nat) (raw : Int) (s : State) : ∃ u, execCoulombSample t str raw s = .next u ∧ Frame 0x38b00000000000085060000000000000000000000005e4d00000001c2000000003ffff80016fe000000000000000000a838000076780327c020000000000000000000000000000007000000002000000000800000000000040c1fa9 s u := by
  refine ⟨_, rfl, ?_⟩
  repeat' with_reducible first
    | exact Frame.refl _ | apply Frame.ite | apply State.at_frame | apply State.modFe_frame | apply State.wr_frame
    | apply State.wrI_frame | apply State.wrB_frame | apply State.bump_frame | apply State.record_frame
    | apply State.secondMean_frame | apply State.overCurrent_frame | apply State.shotRefer_frame | decide +kernel | intro _
    | split

theorem execLapCurrentFrame_frame (t : Nat) (str : Nat) (ok1 : Bool) (ok2 : Bool) (s : State) : ∃ u, execLapCurrentFrame t str ok1 ok2 s = .next u ∧ Frame 0x80000000000000000000000000000000000000000000000000000000000000000000000000001001 s u := by
  refine ⟨_, rfl, ?_⟩
  repeat' with_reducible first
    | exact Frame.refl _ | apply Frame.ite | apply State.at_frame | apply State.modFe_frame | apply State.bump_frame
    | decide +kernel | intro _ | split

theorem execWarmupEnd_frame (t : Nat) (str : Nat) (s : State) : ∃ u, execWarmupEnd t str s = .next u ∧ Frame 0x200800000000000000000000000000000000000000000000000000000000000000000000000000001 s u := by
  refine ⟨_, rfl, ?_⟩
  repeat' with_reducible first
    | exact Frame.refl _ | apply Frame.ite | apply State.at_frame | apply State.wr_frame | apply State.wrB_frame
    | decide +kernel | split

theorem execRefSettled_frame (t : Nat) (str : Nat) (s : State) : ∃ u, execRefSettled t str s = .next u ∧ Frame 0x400000000000000000000000000000000000000000000000000000000000000000000000000001001 s u := by
  refine ⟨_, rfl, ?_⟩
  repeat' with_reducible first
    | exact Frame.refl _ | apply Frame.ite | apply State.at_frame | apply State.modFe_frame | apply State.wrB_frame
    | decide +kernel | intro _ | split

theorem State.seqConsumers_frame {M : Nat} {a s : State} (h : Frame M a s) (n : Nat) (e : Nat) (v : Int) (hm : Nat.lor 0x38b00000000000085060000000000000000000000005e4d00000001c2000000003ffff80016fe000000000000000000a838000000000327c020000000000000000000000000000007000000002000007000800000000000040c1fa8 M = M := by decide +kernel) :
    Frame M a (State.seqConsumers s n e v) := by
  refine h.trans (Frame.mono hm ?_)
  unfold State.seqConsumers
  repeat' with_reducible first
    | exact Frame.refl _ | apply Frame.ite | apply State.wr_frame | apply State.coilCurrent_frame | apply State.trip_frame
    | apply State.precharged_frame | decide +kernel | intro _ | split

theorem State.seqPass_frame {M : Nat} {a s : State} (h : Frame M a s) (n : Nat) (hm : Nat.lor 0x40c000000000000000000000000000000000000000000000000000000000000000000000000000001000 M = M := by decide +kernel) :
    Frame M a (State.seqPass s n) := by
  refine h.trans (Frame.mono hm ?_)
  unfold State.seqPass
  repeat' with_reducible first
    | exact Frame.refl _ | apply Frame.ite | apply State.bump_frame | apply State.wr_frame | apply State.wrB_frame
    | apply State.modFe_frame | decide +kernel | apply Frame.foldl | intro _ | split

theorem execSequencerEntry_frame (t : Nat) (str : Nat) (convs : List (Nat × Int)) (s : State) : ∃ u, execSequencerEntry t str convs s = .next u ∧ Frame 0x38b00000000000085060000000000000000000000005e4d00000001c2000000003ffff80016fe000000000000000000a838d8c000000327c020000000000000000000000000000007000000002000007000800000000000040c1fa9 s u := by
  refine ⟨_, rfl, ?_⟩
  repeat' with_reducible first
    | exact Frame.refl _ | apply Frame.ite | apply State.at_frame | apply State.wr_frame | apply State.wrI_frame
    | apply State.wrB_frame | apply State.modFe_frame | apply State.seqConsumers_frame | apply State.seqPass_frame
    | decide +kernel | intro _ | split

theorem State.injRun_frame {M : Nat} {a s : State} (h : Frame M a s) (n : Nat) (count : Nat) (aborted : Bool) (hm : Nat.lor 0x50000000000000000000000000000000000000000000000000000000000000000000000000000001000 M = M := by decide +kernel) :
    Frame M a (State.injRun s n count aborted) := by
  refine h.trans (Frame.mono hm ?_)
  unfold State.injRun
  repeat' with_reducible first
    | exact Frame.refl _ | apply Frame.ite | apply State.bump_frame | apply State.modFe_frame | decide +kernel | intro _
    | split

theorem State.injWindow_frame {M : Nat} {a s : State} (h : Frame M a s) (n : Nat) (hm : Nat.lor 0x50000000000000000000000000000000000000000000000000000000000000000000000000000001000 M = M := by decide +kernel) :
    Frame M a (State.injWindow s n) := by
  refine h.trans (Frame.mono hm ?_)
  unfold State.injWindow
  repeat' with_reducible first
    | exact Frame.refl _ | apply Frame.ite | apply State.modFe_frame | apply State.injRun_frame | decide +kernel
    | apply Frame.foldl | intro _ | split

theorem State.injProt_frame {M : Nat} {a s : State} (h : Frame M a s) (n : Nat) (input : Nat) (count : Nat) (aborted : Bool) (hm : Nat.lor 0x50000000000000000000000000000000000000000000000000000000000000000000000000000001000 M = M := by decide +kernel) :
    Frame M a (State.injProt s n input count aborted) := by
  refine h.trans (Frame.mono hm ?_)
  unfold State.injProt
  repeat' with_reducible first
    | exact Frame.refl _ | apply Frame.ite | apply State.injWindow_frame | apply State.modFe_frame | apply State.injRun_frame
    | decide +kernel | intro _ | split

theorem State.injRequest_frame {M : Nat} {a s : State} (h : Frame M a s) (n : Nat) (src : Nat) (who : Nat) (input : Nat) (count : Nat) (hm : Nat.lor 0x71000000000000000000000000000000000000000000000000000000000000000000000000000001000 M = M := by decide +kernel) :
    Frame M a (State.injRequest s n src who input count).1 := by
  refine h.trans (Frame.mono hm ?_)
  unfold State.injRequest
  dsimp only
  repeat' with_reducible first
    | exact Frame.refl _ | apply Frame.ite | apply State.injWindow_frame | apply State.wrB_frame | apply State.bump_frame
    | apply State.modFe_frame | decide +kernel | intro _ | split

theorem State.calEnd_frame {M : Nat} {a s : State} (h : Frame M a s) (n : Nat) (st : Nat) (hm : Nat.lor 0x200000000000000000000004001100 M = M := by decide +kernel) :
    Frame M a (State.calEnd s n st) := by
  refine h.trans (Frame.mono hm ?_)
  unfold State.calEnd
  repeat' with_reducible first
    | exact Frame.refl _ | apply State.answerOpt_frame | apply State.modFe_frame | decide +kernel | intro _ | split

theorem State.calAbandon_frame {M : Nat} {a s : State} (h : Frame M a s) (which : Cal → Bool) (hm : Nat.lor 0x200000000000000000000004001100 M = M := by decide +kernel) :
    Frame M a (State.calAbandon s which) := by
  refine h.trans (Frame.mono hm ?_)
  unfold State.calAbandon
  repeat' with_reducible first
    | exact Frame.refl _ | apply Frame.ite | apply State.eachStr_frame | apply State.calEnd_frame | decide +kernel | intro _
    | split

theorem State.calStep_frame {M : Nat} {a s : State} (h : Frame M a s) (n : Nat) (target : Nat) (step : Nat) (applied : Int) (rid : Rid) (hm : Nat.lor 0x200000000000000000000006001100 M = M := by decide +kernel) :
    Frame M a (State.calStep s n target step applied rid).1 := by
  refine h.trans (Frame.mono hm ?_)
  unfold State.calStep
  dsimp only
  repeat' with_reducible first
    | exact Frame.refl _ | apply Frame.ite | apply State.modFe_frame | apply State.calEnd_frame | apply State.journal_frame
    | decide +kernel | intro _ | split

theorem State.calibrate_frame {M : Nat} {a s : State} (h : Frame M a s) (t : Nat) (r : Req) (p : Bytes) (want : Nat) (hm : Nat.lor 0x200000000000000000000006001101 M = M := by decide +kernel) :
    Frame M a (State.calibrate s t r p want) := by
  refine h.trans (Frame.mono hm ?_)
  unfold State.calibrate
  repeat' with_reducible first
    | exact Frame.refl _ | apply Frame.ite | apply State.at_frame | apply State.serve_frame | apply guarded_frame
    | apply State.calStep_frame | decide +kernel | intro _ | split | refine Frame.fst (by assumption) ?_

theorem execCalLowPoint_frame (t : Nat) (r : Req) (p : Bytes) (s : State) : ∃ u, execCalLowPoint t r p s = .next u ∧ Frame 0x200000000000000000000006001101 s u := by
  refine ⟨_, rfl, ?_⟩
  repeat' with_reducible first
    | exact Frame.refl _ | apply State.calibrate_frame | decide +kernel | split

theorem execCalHighPoint_frame (t : Nat) (r : Req) (p : Bytes) (s : State) : ∃ u, execCalHighPoint t r p s = .next u ∧ Frame 0x200000000000000000000006001101 s u := by
  refine ⟨_, rfl, ?_⟩
  repeat' with_reducible first
    | exact Frame.refl _ | apply State.calibrate_frame | decide +kernel | split

theorem execCalCommit_frame (t : Nat) (r : Req) (p : Bytes) (s : State) : ∃ u, execCalCommit t r p s = .next u ∧ Frame 0x200000000000000000000006001101 s u := by
  refine ⟨_, rfl, ?_⟩
  repeat' with_reducible first
    | exact Frame.refl _ | apply State.calibrate_frame | decide +kernel | split

theorem execCalAbort_frame (t : Nat) (r : Req) (p : Bytes) (s : State) : ∃ u, execCalAbort t r p s = .next u ∧ Frame 0x200000000000000000000006001101 s u := by
  refine ⟨_, rfl, ?_⟩
  repeat' with_reducible first
    | exact Frame.refl _ | apply State.calibrate_frame | decide +kernel | split

theorem execCalCaptureEnd_frame (t : Nat) (str : Nat) (s : State) : ∃ u, execCalCaptureEnd t str s = .next u ∧ Frame 0x200000000000000000000004001101 s u := by
  unfold execCalCaptureEnd
  extract_lets b
  have h0 : Frame 0x200000000000000000000004001101 s b := State.at_frame (Frame.refl s) t
  clear_value b
  refine ⟨_, rfl, ?_⟩
  split
  · exact h0
  split
  · exact h0
  extract_lets mean dev spread full limit rid done u pt c
  split
  · exact h0
  clear_value limit full
  split
  · exact State.answerOpt_frame (State.modFe_frame h0 ..) ..
  · exact State.answerOpt_frame (State.modFe_frame h0 ..) ..

theorem execCalTimeout_frame (t : Nat) (str : Nat) (s : State) : ∃ u, execCalTimeout t str s = .next u ∧ Frame 0x200000000000000000000004001101 s u := by
  refine ⟨_, rfl, ?_⟩
  repeat' with_reducible first
    | exact Frame.refl _ | apply Frame.ite | apply State.at_frame | apply State.calEnd_frame | decide +kernel | split

theorem State.judgeIso_frame {M : Nat} {a s : State} (h : Frame M a s) (n : Nat) (r : Nat) (hm : Nat.lor 0x800000000000000000000000000000000000000000000000000000000001000000000000000000000000000000000200800000000000000000000000000000000000000000000000000000000000000004001720 M = M := by decide +kernel) :
    Frame M a (State.judgeIso s n r).1 := by
  refine h.trans (Frame.mono hm ?_)
  unfold State.judgeIso
  repeat' with_reducible first
    | exact Frame.refl _ | apply Frame.ite | apply State.wr_frame | apply State.record_frame | apply State.modProt_frame
    | decide +kernel | intro _ | split

theorem State.isoResult_frame {M : Nat} {a s : State} (h : Frame M a s) (n : Nat) (r : Nat) (x : Nat) (cy : Nat) (half : Nat) (group : Bool) (hm : Nat.lor 0x757f8000000000000000000000000000000000000000000000000000000000000000000000000000000000000 M = M := by decide +kernel) :
    Frame M a (State.isoResult s n r x cy half group) := by
  refine h.trans (Frame.mono hm ?_)
  unfold State.isoResult
  repeat' with_reducible first
    | exact Frame.refl _ | apply Frame.ite | apply State.wr_frame | apply State.wrB_frame | apply State.stamp_frame
    | apply State.bump_frame | decide +kernel | intro _ | split

theorem execImdCycleEnd_frame (t str rIso x cy half : Nat) (ok : Bool) (s : State) :
    ∃ u, execImdCycleEnd t str rIso x cy half ok s = .next u ∧ Frame 0x38b00000000000085060000000000000000000000005e4d00000001c2000000003ffff80017fe000000000000000007fff8000000000327c020000000000000000000000000000007000000002000000000800000000000040c1fa9 s u := by
  unfold execImdCycleEnd
  extract_lets b q s1 members r s2
  have h0 : Frame 0x38b00000000000085060000000000000000000000005e4d00000001c2000000003ffff80017fe000000000000000007fff8000000000327c020000000000000000000000000000007000000002000000000800000000000040c1fa9 s b := State.at_frame (Frame.refl s) t
  clear_value b
  have h1 : Frame 0x38b00000000000085060000000000000000000000005e4d00000001c2000000003ffff80017fe000000000000000007fff8000000000327c020000000000000000000000000000007000000002000000000800000000000040c1fa9 s s1 := State.modFe_frame h0 ..
  clear_value s1
  have h2 : Frame 0x38b00000000000085060000000000000000000000005e4d00000001c2000000003ffff80017fe000000000000000007fff8000000000327c020000000000000000000000000000007000000002000000000800000000000040c1fa9 s s2 := h1.foldl _ _ fun v x => State.isoResult_frame (Frame.refl _) ..
  clear_value s2 members r
  refine ⟨_, rfl, ?_⟩
  split
  swap
  · exact h0
  split
  · exact State.imdSync_frame h1
  have hg : ∀ (l : List Nat) (y : State × Bool), Frame 0x38b00000000000085060000000000000000000000005e4d00000001c2000000003ffff80017fe000000000000000007fff8000000000327c020000000000000000000000000000007000000002000000000800000000000040c1fa9 s y.1 → Frame 0x38b00000000000085060000000000000000000000005e4d00000001c2000000003ffff80017fe000000000000000007fff8000000000327c020000000000000000000000000000007000000002000000000800000000000040c1fa9 s (l.foldl (fun (a : State × Bool) n =>
        ((a.1.judgeIso n r).1, a.2 || (a.1.judgeIso n r).2)) y).1 := by
    intro l
    induction l with
    | nil => intro y k; exact k
    | cons n l ih => intro y k; exact ih _ (State.judgeIso_frame k ..)
  split
  next v trips e =>
  have hp : Frame 0x38b00000000000085060000000000000000000000005e4d00000001c2000000003ffff80017fe000000000000000007fff8000000000327c020000000000000000000000000000007000000002000000000800000000000040c1fa9 s v := Frame.fst e (hg members (s2, false) h2)
  extract_lets all s3
  have h3 : Frame 0x38b00000000000085060000000000000000000000005e4d00000001c2000000003ffff80017fe000000000000000007fff8000000000327c020000000000000000000000000000007000000002000000000800000000000040c1fa9 s s3 := by
    unfold s3; split
    · apply hp.foldl
      intro v x
      exact State.trip_frame (Frame.refl v) x 9 _
    · exact hp
  exact State.imdSync_frame (h3.foldl _ _ fun v x => State.refresh_frame (Frame.refl _) _)

theorem execImdPauseEnd_frame (t : Nat) (str : Nat) (s : State) : ∃ u, execImdPauseEnd t str s = .next u ∧ Frame 0xa838000000000000000000000000000000000000000000000000000000000000000000000000000000001001 s u := by
  refine ⟨_, rfl, ?_⟩
  repeat' with_reducible first
    | exact Frame.refl _ | apply Frame.ite | apply State.at_frame | apply State.imdSync_frame | apply State.modFe_frame
    | decide +kernel | intro _ | split

theorem State.startFe_frame {M : Nat} {a s : State} (h : Frame M a s) (n : Nat) (hm : Nat.lor 0xa838002501000000000000000000000000000000000000000000000000000000000000000000000000001000 M = M := by decide +kernel) :
    Frame M a (State.startFe s n) := by
  refine h.trans (Frame.mono hm ?_)
  unfold State.startFe
  repeat' with_reducible first
    | exact Frame.refl _ | apply Frame.ite | apply State.modFe_frame | apply State.modProt_frame | apply State.stamp_frame
    | apply State.wrB_frame | apply State.refSwitch_frame | apply State.imdSync_frame | decide +kernel | intro _ | split

theorem State.warmNow_frame {M : Nat} {a s : State} (h : Frame M a s) (i : Nat) (hm : Nat.lor 0x200000000000000000000000000000000000000000000000000000000000000000000000000000000 M = M := by decide +kernel) :
    Frame M a (State.warmNow s i) := by
  refine h.trans (Frame.mono hm ?_)
  unfold State.warmNow
  repeat' with_reducible first
    | exact Frame.refl _ | apply Frame.ite | apply State.wr_frame | decide +kernel | intro _ | split

theorem State.agesNow_frame {M : Nat} {a s : State} (h : Frame M a s) (i : Nat) (at_ : Nat) (hm : Nat.lor 0x200000000000000000000000000000000000000000000000000000000000000000000000000000000000 M = M := by decide +kernel) :
    Frame M a (State.agesNow s i at_) := by
  refine h.trans (Frame.mono hm ?_)
  unfold State.agesNow
  repeat' with_reducible first
    | exact Frame.refl _ | apply Frame.ite | apply State.wr_frame | decide +kernel | apply Frame.foldl | intro _ | split

end Sys2Proof.Machine
end

