-- ==== Sys2Proof/Laws/Frame/Thermal.lean ====
section
/-! SUPPORT. What the operations of Machine/Thermal.lean may change (`Frame`). -/

namespace Sys2Proof.Machine
open Obj

set_option linter.all false
set_option Elab.async false

theorem State.failSensor_frame {M : Nat} {a s : State} (h : Frame M a s) (d : Nat) (j : Nat) (reading : Option Int) (ref : Option Int) (hm : Nat.lor 0x800000000000000000000000000000000000000000000002010000000000000000000000000000000000000000000200800000000000000000000000000000000000000000000000000000000000000004000720 M = M := by decide +kernel) :
    Frame M a (State.failSensor s d j reading ref) := by
  refine h.trans (Frame.mono hm ?_)
  unfold State.failSensor
  repeat' with_reducible first
    | exact Frame.refl _ | apply State.wr_frame | apply State.bump_frame | apply State.record_frame | decide +kernel | split

theorem State.sensorRound_frame {M : Nat} {a s : State} (h : Frame M a s) (x : Round) (hm : Nat.lor 0x800000000000000000000000000000000000000000000002090000000000000000000000000000000000000000000200800000000000000000000000000000000000000000000000000000000000000004000720 M = M := by decide +kernel) :
    Frame M a (State.sensorRound s x) := by
  refine h.trans (Frame.mono hm ?_)
  unfold State.sensorRound
  repeat' with_reducible first
    | exact Frame.refl _ | apply Frame.ite | apply State.wrI_frame | apply State.wr_frame | apply State.failSensor_frame
    | decide +kernel | apply Frame.foldl | intro _ | split

theorem State.controlTemp_frame {M : Nat} {a s : State} (h : Frame M a s) (x : Round) (d : Nat) (hm : Nat.lor 0x328000000000000000000000000000000000000000000000000000000000000000000000000000000000000000000000000000000004000000000000 M = M := by decide +kernel) :
    Frame M a (State.controlTemp s x d) := by
  refine h.trans (Frame.mono hm ?_)
  unfold State.controlTemp
  dsimp only
  repeat' with_reducible first
    | exact Frame.refl _ | apply Frame.ite | apply State.wrI_frame | apply State.wrB_frame | apply State.wr_frame
    | decide +kernel | apply Frame.foldl | intro _ | split

theorem State.dieLevel_frame {M : Nat} {a s : State} (h : Frame M a s) (d : Nat) (hm : Nat.lor 0x800000000000000000000000000000000000000000000001c44000000000000000000000000000000000000000000200800000000000000000000000000000000000000000000000000000000000800004004720 M = M := by decide +kernel) :
    Frame M a (State.dieLevel s d) := by
  refine h.trans (Frame.mono hm ?_)
  unfold State.dieLevel
  repeat' with_reducible first
    | exact Frame.refl _ | apply Frame.ite | apply State.bump_frame | apply State.record_frame | apply State.modDie_frame
    | apply State.wr_frame | apply State.wrB_frame | decide +kernel | intro _ | split

theorem State.wrT_frame {M : Nat} {a s : State} (h : Frame M a s) (f : Fld) (inst : Nat) (v : Option Int)
    (hm : hasFld M f = true := by decide +kernel) : Frame M a (State.wrT s f inst v) := by
  unfold State.wrT
  split
  · exact State.wrI_frame h _ _ _ _ hm
  · exact State.wr_frame h _ _ _ _ hm

theorem State.boardRound_frame {M : Nat} {a s : State} (h : Frame M a s) (x : Round) (hm : Nat.lor 0x8000000000000000000000000000000000000000000000fc000000000000000000000000000000000000000000000200800000000000000000000000000000000000000000000000000000000000000004000720 M = M := by decide +kernel) :
    Frame M a (State.boardRound s x) := by
  refine h.trans (Frame.mono hm ?_)
  unfold State.boardRound
  repeat' with_reducible first
    | exact Frame.refl _ | apply Frame.ite | apply State.wrT_frame | apply State.wrB_frame | apply State.record_frame
    | decide +kernel | intro _ | split

theorem State.mismatchRound_frame {M : Nat} {a s : State} (h : Frame M a s) (n : Nat) (v : Int) (at_ : Nat) (hm : Nat.lor 0x38b00000000000085060000000000000000000000005e4d00000001c2000000003ffff80017fe000000000000000000a838000008000327c020000000000000000000000000000007000000002000000000800000000000040c1fa8 M = M := by decide +kernel) :
    Frame M a (State.mismatchRound s n v at_) := by
  refine h.trans (Frame.mono hm ?_)
  unfold State.mismatchRound
  repeat' with_reducible first
    | exact Frame.refl _ | apply Frame.ite | apply State.modFe_frame | apply State.setDiag_frame | apply State.record_frame
    | apply State.wrB_frame | decide +kernel | intro _ | split

theorem State.refRound_frame {M : Nat} {a s : State} (h : Frame M a s) (n : Nat) (v : Int) (hm : Nat.lor 0x38b00000000000085060000000000000000000000005e4d00000001c2000000003ffff80017fe000000000000000000a838000800000327c020000000000000000000000000000007000000002000000000800000000000040c1fa8 M = M := by decide +kernel) :
    Frame M a (State.refRound s n v) := by
  refine h.trans (Frame.mono hm ?_)
  unfold State.refRound
  repeat' with_reducible first
    | exact Frame.refl _ | apply Frame.ite | apply State.modFe_frame | apply State.setDiag_frame | apply State.record_frame
    | apply State.wrB_frame | decide +kernel | intro _ | split

theorem State.feInject_frame {M : Nat} {a s : State} (h : Frame M a s) (n : Nat) (x : FeRound) (hm : Nat.lor 0x50000000000000000000000000000000000000000000000000000000000000000000000000000001000 M = M := by decide +kernel) :
    Frame M a (State.feInject s n x) := by
  refine h.trans (Frame.mono hm ?_)
  unfold State.feInject
  repeat' with_reducible first
    | exact Frame.refl _ | apply Frame.ite | apply State.injProt_frame | decide +kernel | intro _ | split

theorem State.feRound_frame {M : Nat} {a s : State} (h : Frame M a s) (n : Nat) (x : FeRound) (hm : Nat.lor 0x38b00000000000085060000000000000000000000005e4d00000001c2000000003ffff80017fe000000000000000000a838050808000327c020000000000000000000000000000007000000002000008000800000000000040c1fa8 M = M := by decide +kernel) :
    Frame M a (State.feRound s n x) := by
  refine h.trans (Frame.mono hm ?_)
  unfold State.feRound
  repeat' with_reducible first
    | exact Frame.refl _ | apply Frame.ite | apply State.feInject_frame | apply State.modFe_frame | apply State.wrT_frame
    | apply State.mismatchRound_frame | apply State.refRound_frame | decide +kernel | intro _ | split

theorem State.hvacSend_frame {M : Nat} {a s : State} (h : Frame M a s) (mode : Nat) (hm : Nat.lor 0x50600000000000000000000000000400000000000030000000000000000000000000000000000000000000000000000000000000000000000000000000000000000000000000000000000000000000004048000 M = M := by decide +kernel) :
    Frame M a (State.hvacSend s mode) := by
  refine h.trans (Frame.mono hm ?_)
  unfold State.hvacSend
  repeat' with_reducible first
    | exact Frame.refl _ | apply Frame.ite | apply State.wrB_frame | apply State.bump_frame | apply State.canContent_frame
    | decide +kernel | intro _ | split | fail_if_no_progress refine Frame.on_thermal ?_ _
    | fail_if_no_progress refine Frame.mk' ?_

theorem State.setHvac_frame {M : Nat} {a s : State} (h : Frame M a s) (mode : Nat) (hm : Nat.lor 0x800000000000000000000000000000000000000000002000000000000000000000000000000000000000000000000200800000000000000000000000000000000000000000000000000000000000000004000720 M = M := by decide +kernel) :
    Frame M a (State.setHvac s mode) := by
  refine h.trans (Frame.mono hm ?_)
  unfold State.setHvac
  repeat' with_reducible first
    | exact Frame.refl _ | apply Frame.ite | apply State.record_frame | apply State.wr_frame | decide +kernel | split

theorem State.hvacRound_frame {M : Nat} {a s : State} (h : Frame M a s)  (hm : Nat.lor 0x85060000000000000000000000000040000000000003e000000000000000000000000000000000000000000000000200800000000000000000000000000000000000000000000000000000000000000004048720 M = M := by decide +kernel) :
    Frame M a (State.hvacRound s) := by
  refine h.trans (Frame.mono hm ?_)
  unfold State.hvacRound
  repeat' with_reducible first
    | exact Frame.refl _ | apply Frame.ite | apply State.hvacTake_frame | apply State.wrB_frame | apply State.setHvac_frame
    | apply State.hvacSend_frame | decide +kernel | apply Frame.foldl | intro _ | split
    | fail_if_no_progress refine Frame.on_thermal ?_ _ | fail_if_no_progress refine Frame.mk' ?_ | dsimp only

theorem execHousekeepingRound_frame (t : Nat) (x : Round) (s : State) : ∃ u, execHousekeepingRound t x s = .next u ∧ Frame 0x38b00000000000085060000000000000000000000005e4d00000001c203e1fffffffff80017fe000000000000000000a838050808000337c02000000000000000000000000000000700080041a000008000800000068000040cdff9 s u := by
  refine ⟨_, rfl, ?_⟩
  repeat' with_reducible first
    | exact Frame.refl _ | apply Frame.ite | apply State.at_frame | apply State.wr_frame | apply State.sensorRound_frame
    | apply State.dieLevel_frame | apply State.controlTemp_frame | apply State.powerDerive_frame | apply State.wrB_frame
    | apply State.boardRound_frame | apply State.eachStr_frame | apply State.feRound_frame | apply State.hvacRound_frame
    | decide +kernel | apply Frame.foldl | intro _ | split | fail_if_no_progress refine Frame.on_thermal ?_ _

theorem execHvacRequest_frame (t : Nat) (s : State) : ∃ u, execHvacRequest t s = .next u ∧ Frame 0x50600000000000000000000000000400000000000030000000000000000000000000000000000000000000000000000000000000000000000000000000000000000000000000000000000000000000004048001 s u := by
  refine ⟨_, rfl, ?_⟩
  repeat' with_reducible first
    | exact Frame.refl _ | apply Frame.ite | apply State.at_frame | apply State.hvacSend_frame | decide +kernel | intro _
    | split

theorem State.linesLow_frame {M : Nat} {a s : State} (h : Frame M a s)  (hm : Nat.lor 0x4800000 M = M := by decide +kernel) :
    Frame M a (State.linesLow s) := by
  refine h.trans (Frame.mono hm ?_)
  unfold State.linesLow
  repeat' with_reducible first
    | exact Frame.refl _ | apply Frame.ite | apply State.send_frame | decide +kernel | apply Frame.foldl | intro _ | split
    | fail_if_no_progress refine Frame.on_pouts ?_ _ | fail_if_no_progress refine Frame.mk' ?_

theorem State.haltDies_frame {M : Nat} {a s : State} (h : Frame M a s)  (hm : Nat.lor 0x6800368 M = M := by decide +kernel) :
    Frame M a (State.haltDies s) := by
  refine h.trans (Frame.mono hm ?_)
  unfold State.haltDies
  repeat' with_reducible first
    | exact Frame.refl _ | apply Frame.ite | apply State.cutSlot_frame | apply State.linesLow_frame | decide +kernel | intro _
    | split | fail_if_no_progress refine Frame.on_hist ?_ _ | fail_if_no_progress refine Frame.on_mbx ?_ _
    | fail_if_no_progress refine Frame.on_panel ?_ _ | fail_if_no_progress refine Frame.on_boot ?_ _
    | fail_if_no_progress refine Frame.on_nv ?_ _ | fail_if_no_progress refine Frame.mk' ?_

theorem execCalderaTrip_frame (t : Nat) (die : Nat) (sensor : Nat) (s : State) : ∃ u, execCalderaTrip t die sensor s = .next u ∧ Frame 0x3a000000000000000000a838000000000000002000000000000000000000000000000000000000000000000080000000000006809b69 s u := by
  refine ⟨_, rfl, ?_⟩
  repeat' with_reducible first
    | exact Frame.refl _ | apply Frame.ite | apply State.at_frame | apply State.eachStr_frame | apply State.allOff_frame
    | apply State.wr_frame | apply State.loopOut_frame | apply State.haltDies_frame | decide +kernel | intro _ | split
    | fail_if_no_progress refine Frame.on_thermal ?_ _

theorem execCalderaRelease_frame (t : Nat) (since : Nat) (s : State) : ∃ u, execCalderaRelease t since s = .next u ∧ Frame 0x8000045145800c3e180088000000000000000000040000000000000000000000000000000000020642000000000c000000000006000000000210800000000000000000000000000000000732e8000180000600b1dcf800001fff05ffffff s u := by
  refine ⟨_, rfl, ?_⟩
  repeat' with_reducible first
    | exact Frame.refl _ | apply Frame.ite | apply State.at_frame | apply State.clearRun_frame | apply State.beginStart_frame
    | decide +kernel | intro _ | split | fail_if_no_progress refine Frame.on_thermal ?_ _
    | fail_if_no_progress refine Frame.mk' ?_

end Sys2Proof.Machine
end

