-- ==== Sys2Proof/Laws/Frame/Control.lean ====
section
/-! SUPPORT. What the operations of Machine/Control.lean may change (`Frame`). -/

namespace Sys2Proof.Machine
open Obj

set_option linter.all false
set_option Elab.async false

theorem State.rampStep_frame {M : Nat} {a s : State} (h : Frame M a s) (c : Nat) (x : Int) (hm : Nat.lor 0x10800000000000000000000000000000000000000000000000000000000000000000000000000000000000000000000000000000000000000000000000080000 M = M := by decide +kernel) :
    Frame M a (State.rampStep s c x) := by
  refine h.trans (Frame.mono hm ?_)
  unfold State.rampStep
  repeat' with_reducible first
    | exact Frame.refl _ | apply Frame.ite | apply State.modChan_frame | apply State.wrI_frame | apply State.wrB_frame
    | decide +kernel | intro _ | split

theorem State.lineLevel_frame {M : Nat} {a s : State} (h : Frame M a s) (k : Nat) (level : Nat) (hm : Nat.lor 0x4800000 M = M := by decide +kernel) :
    Frame M a (State.lineLevel s k level) := by
  refine h.trans (Frame.mono hm ?_)
  unfold State.lineLevel
  repeat' with_reducible first
    | exact Frame.refl _ | apply Frame.ite | apply State.send_frame | decide +kernel | split
    | fail_if_no_progress refine Frame.on_pouts ?_ _

theorem State.linePwm_frame {M : Nat} {a s : State} (h : Frame M a s) (c : Nat) (k : Nat) (duty : Nat) (hm : Nat.lor 0x4880000 M = M := by decide +kernel) :
    Frame M a (State.linePwm s c k duty) := by
  refine h.trans (Frame.mono hm ?_)
  unfold State.linePwm
  repeat' with_reducible first
    | exact Frame.refl _ | apply Frame.ite | apply State.modChan_frame | apply State.send_frame | decide +kernel | intro _
    | split | fail_if_no_progress refine Frame.on_pouts ?_ _ | fail_if_no_progress refine Frame.mk' ?_

theorem State.lineRest_frame {M : Nat} {a s : State} (h : Frame M a s) (c : Nat) (kind : Nat) (k : Nat) (hm : Nat.lor 0x4880000 M = M := by decide +kernel) :
    Frame M a (State.lineRest s c kind k) := by
  refine h.trans (Frame.mono hm ?_)
  unfold State.lineRest
  repeat' with_reducible first
    | exact Frame.refl _ | apply Frame.ite | apply State.lineLevel_frame | apply State.linePwm_frame | decide +kernel
    | intro _ | split

theorem State.balanceOut_frame {M : Nat} {a s : State} (h : Frame M a s) (c : Nat) (hm : Nat.lor 0x4000000000000000000000000000000000000000000000000000000000000000000000000000000000000000000000000000000000000000000000000004081000 M = M := by decide +kernel) :
    Frame M a (State.balanceOut s c) := by
  refine h.trans (Frame.mono hm ?_)
  unfold State.balanceOut
  repeat' with_reducible first
    | exact Frame.refl _ | apply Frame.ite | apply State.bump_frame | apply State.modRing_frame | apply State.modChan_frame
    | apply State.sendBleed_frame | decide +kernel | apply Frame.foldl | intro _ | split

theorem State.balanceStop_frame {M : Nat} {a s : State} (h : Frame M a s) (c : Nat) (hm : Nat.lor 0x4081000 M = M := by decide +kernel) :
    Frame M a (State.balanceStop s c) := by
  refine h.trans (Frame.mono hm ?_)
  unfold State.balanceStop
  repeat' with_reducible first
    | exact Frame.refl _ | apply Frame.ite | apply State.modChan_frame | apply State.sendBleed_frame | decide +kernel
    | apply Frame.foldl | intro _ | split

theorem State.drive_frame {M : Nat} {a s : State} (h : Frame M a s) (c : Nat) (hm : Nat.lor 0x8506000000000000000000000000004000000040000320000000000000000000000000000000000000000000000002008000000000000000000000000000000000000000000000000000000000000000048c9720 M = M := by decide +kernel) :
    Frame M a (State.drive s c) := by
  refine h.trans (Frame.mono hm ?_)
  unfold State.drive
  repeat' with_reducible first
    | exact Frame.refl _ | apply Frame.ite | apply State.lineLevel_frame | apply State.linePwm_frame
    | apply State.chanFrame_frame | apply State.balanceOut_frame | apply State.setHvac_frame | apply State.hvacSend_frame
    | decide +kernel | intro _ | split

theorem State.setOut_frame {M : Nat} {a s : State} (h : Frame M a s) (c : Nat) (y : Int) (limited : Bool) (hm : Nat.lor 0x42000000000000000000000000000000000000000000000000000000000000000000000000000000000000000000000000000000000000000000000000080000 M = M := by decide +kernel) :
    Frame M a (State.setOut s c y limited) := by
  refine h.trans (Frame.mono hm ?_)
  unfold State.setOut
  repeat' with_reducible first
    | exact Frame.refl _ | apply State.followOutput_frame | apply State.outReg_frame | apply State.wrB_frame
    | apply State.modChan_frame | decide +kernel | intro _ | split

theorem State.chTrace_frame {M : Nat} {a s : State} (h : Frame M a s) (c : Nat) (tm : Nat) (miss : Bool) (causes : Nat) (hm : Nat.lor 0xfc00000000000000000000000000000000000000000000000000000000000000000006002100 M = M := by decide +kernel) :
    Frame M a (State.chTrace s c tm miss causes) := by
  refine h.trans (Frame.mono hm ?_)
  unfold State.chTrace
  repeat' with_reducible first
    | exact Frame.refl _ | apply Frame.ite | apply State.modTrace_frame | apply State.traceSample_frame | decide +kernel
    | intro _ | split

theorem State.enterSafe_frame {M : Nat} {a s : State} (h : Frame M a s) (c : Nat) (hm : Nat.lor 0x800000000000000000000000000000000000040842240000000000000000000000000000000000000000000000000200800000000000000000000000000000000000000000000000000000000000000004081720 M = M := by decide +kernel) :
    Frame M a (State.enterSafe s c) := by
  refine h.trans (Frame.mono hm ?_)
  unfold State.enterSafe
  repeat' with_reducible first
    | exact Frame.refl _ | apply Frame.ite | apply State.wr_frame | apply State.wrB_frame | apply State.bump_frame
    | apply State.stamp_frame | apply State.record_frame | apply State.modChan_frame | apply State.balanceStop_frame
    | apply State.outReg_frame | apply State.setOut_frame | decide +kernel | intro _ | split

theorem State.missSample_frame {M : Nat} {a s : State} (h : Frame M a s) (c : Nat) (tm : Nat) (cause : Nat) (hm : Nat.lor 0x850600000000000000000000000000400000065e4777200000000000000000000000000000000000000000000000fe008000000000000000000000000000000000000000000000000000000000000000068cb720 M = M := by decide +kernel) :
    Frame M a (State.missSample s c tm cause) := by
  refine h.trans (Frame.mono hm ?_)
  unfold State.missSample
  repeat' with_reducible first
    | exact Frame.refl _ | apply Frame.ite | apply State.modChan_frame | apply State.wr_frame | apply State.bump_frame
    | apply State.wrB_frame | apply State.enterSafe_frame | apply State.chTrace_frame | apply State.drive_frame
    | decide +kernel | intro _ | split

theorem State.latencyNow_frame {M : Nat} {a s : State} (h : Frame M a s) (c : Nat) (hm : Nat.lor 0x10000000000000000000000000000000000000000000000000000000000000000000000000000000000000000000000000000000000000000000000000000000000 M = M := by decide +kernel) :
    Frame M a (State.latencyNow s c) := by
  refine h.trans (Frame.mono hm ?_)
  unfold State.latencyNow
  repeat' with_reducible first
    | exact Frame.refl _ | apply Frame.ite | apply State.wr_frame | decide +kernel | intro _ | split

theorem State.chLatency_frame {M : Nat} {a s : State} (h : Frame M a s) (c : Nat) (tm : Nat) (hm : Nat.lor 0x10000000000000000000000000000000000000000000000000000000000000000000000000000000000000000000000000000000000000000000000000000080000 M = M := by decide +kernel) :
    Frame M a (State.chLatency s c tm) := by
  refine h.trans (Frame.mono hm ?_)
  unfold State.chLatency
  repeat' with_reducible first
    | exact Frame.refl _ | apply Frame.ite | apply State.modChan_frame | apply State.latencyNow_frame | decide +kernel
    | intro _ | split

theorem State.takeInput_frame {M : Nat} {a s : State} (h : Frame M a s) (c : Nat) (tm : Nat) (x : Int) (q : Option (Nat × Int)) (hm : Nat.lor 0x2024d1c0000000000000000000000000000000000000000000000000000000000000000000000000000000000000000000000000000000000000000000000080000 M = M := by decide +kernel) :
    Frame M a (State.takeInput s c tm x q) := by
  refine h.trans (Frame.mono hm ?_)
  unfold State.takeInput
  repeat' with_reducible first
    | exact Frame.refl _ | apply Frame.ite | apply State.modChan_frame | apply State.bump_frame | apply State.wr_frame
    | apply State.wrB_frame | apply State.wrI_frame | apply State.outReg_frame | decide +kernel | intro _ | split

theorem State.leaveSafe_frame {M : Nat} {a s : State} (h : Frame M a s) (c : Nat) (hm : Nat.lor 0x800000000000000000000000000000000000000000040000000000000000000000000000000000000000000000000200800000000000000000000000000000000000000000000000000000000000000004080720 M = M := by decide +kernel) :
    Frame M a (State.leaveSafe s c) := by
  refine h.trans (Frame.mono hm ?_)
  unfold State.leaveSafe
  repeat' with_reducible first
    | exact Frame.refl _ | apply Frame.ite | apply State.record_frame | apply State.wr_frame | apply State.modChan_frame
    | decide +kernel | intro _ | split

theorem State.chError_frame {M : Nat} {a s : State} (h : Frame M a s) (c : Nat) (x : Int) (hm : Nat.lor 0x30800000000000000000000000000000000000000000000000000000000000000000000000000000000000000000000000000000000000000000000000080000 M = M := by decide +kernel) :
    Frame M a (State.chError s c x).1 := by
  refine h.trans (Frame.mono hm ?_)
  unfold State.chError
  repeat' with_reducible first
    | exact Frame.refl _ | apply State.rampStep_frame | apply State.wrI_frame | decide +kernel | split

theorem State.takeOver_frame {M : Nat} {a s : State} (h : Frame M a s) (c : Nat) (hm : Nat.lor 0x800000000000000000000000000000000000002000040000000000000000000000000000000000000000000000000200800000000000000000000000000000000000000000000000000000000000000004080720 M = M := by decide +kernel) :
    Frame M a (State.takeOver s c) := by
  refine h.trans (Frame.mono hm ?_)
  unfold State.takeOver
  repeat' with_reducible first
    | exact Frame.refl _ | apply Frame.ite | apply State.wr_frame | apply State.modChan_frame | apply State.bump_frame
    | apply State.record_frame | decide +kernel | intro _ | split

theorem State.vectorLaw_frame {M : Nat} {a s : State} (h : Frame M a s) (c : Nat) (xs : List (Option Int)) (hm : Nat.lor 0x78800000000000000000000000000000000000000000000000000000000000000000000000000000000000000000000000000000000000000000000000080000 M = M := by decide +kernel) :
    Frame M a (State.vectorLaw s c xs) := by
  refine h.trans (Frame.mono hm ?_)
  unfold State.vectorLaw
  repeat' with_reducible first
    | exact Frame.refl _ | apply Frame.ite | apply State.wrI_frame | apply State.wrB_frame | apply State.modChan_frame
    | apply State.outReg_frame | decide +kernel | apply Frame.foldl | intro _ | split

theorem State.askInjection_frame {M : Nat} {a s : State} (h : Frame M a s) (c : Nat) (tm : Nat) (hm : Nat.lor 0x71000000000000000000000000000000000000000000000000000000000000000000000000000081000 M = M := by decide +kernel) :
    Frame M a (State.askInjection s c tm) := by
  refine h.trans (Frame.mono hm ?_)
  unfold State.askInjection
  repeat' with_reducible first
    | exact Frame.refl _ | apply Frame.ite | apply State.injRequest_frame | apply State.modChan_frame | decide +kernel
    | intro _ | split | refine Frame.fst (by assumption) ?_

theorem State.actOn_frame {M : Nat} {a s : State} (h : Frame M a s) (c : Nat) (tm : Nat) (e : Int) (hm : Nat.lor 0x85060000000000000000000000000040000001404203200000000000000000000000000000000000000000000000fe008000000000000000000000000000000000000000000000000000000000000000068cb720 M = M := by decide +kernel) :
    Frame M a (State.actOn s c tm e) := by
  refine h.trans (Frame.mono hm ?_)
  unfold State.actOn
  repeat' with_reducible first
    | exact Frame.refl _ | apply Frame.ite | apply State.setOut_frame | apply State.drive_frame | apply State.chTrace_frame
    | apply State.chLatency_frame | decide +kernel | split

theorem State.errStep_frame {M : Nat} {a s : State} (h : Frame M a s) (c : Nat) (tm : Nat) (x : Int) (hm : Nat.lor 0x78800000000000000000000000000000000000000000000000000000000000000000000000000000000000000000000000000000000000000000000000080000 M = M := by decide +kernel) :
    Frame M a (State.errStep s c tm x).1 := by
  refine h.trans (Frame.mono hm ?_)
  unfold State.errStep
  repeat' with_reducible first
    | exact Frame.refl _ | apply Frame.ite | apply State.vectorLaw_frame | apply State.chError_frame | decide +kernel
    | intro _ | split | refine Frame.fst (by assumption) ?_

theorem State.sampleNow_frame0 (s : State) (members : List Nat) (tm : Nat) : Frame 0x850600000000000000000000000000400000077e7fff200000000000000000000000000000000000000000000000fe008000000000000000000000000000000000000000000000000000000000000000068cb720 s (State.sampleNow s members tm) := by
  unfold State.sampleNow
  extract_lets decided step
  split
  next u xs e1 =>
  have h1 : Frame 0x850600000000000000000000000000400000077e7fff200000000000000000000000000000000000000000000000fe008000000000000000000000000000000000000000000000000000000000000000068cb720 s u := Frame.fst e1 (Frame.foldlP _ _ (Frame.refl s) fun p c => by
    dsimp only
    repeat' with_reducible first
      | exact Frame.refl _ | apply State.takeInput_frame | apply State.missSample_frame | apply State.modChan_frame
      | decide +kernel | split)
  have hs : ∀ p x, Frame 0x850600000000000000000000000000400000077e7fff200000000000000000000000000000000000000000000000fe008000000000000000000000000000000000000000000000000000000000000000068cb720 p.1 (step p x).1 := fun p x =>
    (State.errStep_frame (M := 0x850600000000000000000000000000400000077e7fff200000000000000000000000000000000000000000000000fe008000000000000000000000000000000000000000000000000000000000000000068cb720) (Frame.refl p.1) x.1 tm x.2 : Frame _ _ (p.1.errStep x.1 tm x.2).1)
  clear_value step
  split
  split
  next v es e2 =>
  have h2 : Frame 0x850600000000000000000000000000400000077e7fff200000000000000000000000000000000000000000000000fe008000000000000000000000000000000000000000000000000000000000000000068cb720 s v := Frame.fst e2 (Frame.foldlP _ _ h1 hs)
  extract_lets s2
  have h3 : Frame 0x850600000000000000000000000000400000077e7fff200000000000000000000000000000000000000000000000fe008000000000000000000000000000000000000000000000000000000000000000068cb720 s s2 := by
    unfold s2
    split
    · exact State.takeOver_frame h2 _
    · exact h2
  clear_value s2
  split
  next w fs e3 =>
  have h4 : Frame 0x850600000000000000000000000000400000077e7fff200000000000000000000000000000000000000000000000fe008000000000000000000000000000000000000000000000000000000000000000068cb720 s w := Frame.fst e3 (Frame.foldlP _ _ h3 fun p x =>
    (State.leaveSafe_frame (Frame.refl p.1) x.1).trans (hs (p.1.leaveSafe x.1, p.2) x))
  exact h4.foldl _ _ fun v x => State.actOn_frame (Frame.refl v) x.1 tm x.2

theorem State.sampleNow_frame {M : Nat} {a s : State} (h : Frame M a s) (members : List Nat) (tm : Nat) (hm : Nat.lor 0x850600000000000000000000000000400000077e7fff200000000000000000000000000000000000000000000000fe008000000000000000000000000000000000000000000000000000000000000000068cb720 M = M := by decide +kernel) :
    Frame M a (State.sampleNow s members tm) := h.trans (Frame.mono hm (State.sampleNow_frame0 s members tm))

theorem State.claimOf_frame {M : Nat} {a s : State} (h : Frame M a s) (kind : Nat) (k : Nat) (on : Bool) (hm : Nat.lor 0x20000000000100000000000000000000000000000000000000000000000000000000000000000000000000000000000000000000000000000000000000000000000000000000000000000000000000000000 M = M := by decide +kernel) :
    Frame M a (State.claimOf s kind k on) := by
  refine h.trans (Frame.mono hm ?_)
  unfold State.claimOf
  repeat' with_reducible first
    | exact Frame.refl _ | apply Frame.ite | apply State.wrB_frame | apply State.wr_frame | decide +kernel | split

theorem State.claim_frame {M : Nat} {a s : State} (h : Frame M a s) (c : Nat) (hm : Nat.lor 0x20000000000100000000000000000000000000000000000000000000000000000000000000000000000000000000000000000000000000000000000000000000000000000000000000000000000000000000 M = M := by decide +kernel) :
    Frame M a (State.claim s c) := by
  refine h.trans (Frame.mono hm ?_)
  unfold State.claim
  repeat' with_reducible first
    | exact Frame.refl _ | apply Frame.ite | apply State.claimOf_frame | decide +kernel | intro _ | split

theorem State.release_frame {M : Nat} {a s : State} (h : Frame M a s) (c : Nat) (kind : Nat) (k : Nat) (hm : Nat.lor 0x20000000000100000000000000000000000000000000000000000000000000000000000000000000000000000000000000000000000000000000000000000000000000000000000000000000000004880000 M = M := by decide +kernel) :
    Frame M a (State.release s c kind k) := by
  refine h.trans (Frame.mono hm ?_)
  unfold State.release
  repeat' with_reducible first
    | exact Frame.refl _ | apply Frame.ite | apply State.lineRest_frame | apply State.claimOf_frame | decide +kernel | intro _
    | split

theorem State.clampRegs_frame {M : Nat} {a s : State} (h : Frame M a s) (c : Nat) (hm : Nat.lor 0x506000000000000000000000000004000000001c20000000000000000000000000000000000000000000000000000000000000000000000000000000000000000000000000000000000000000000000040c0000 M = M := by decide +kernel) :
    Frame M a (State.clampRegs s c) := by
  refine h.trans (Frame.mono hm ?_)
  unfold State.clampRegs
  repeat' with_reducible first
    | exact Frame.refl _ | apply Frame.ite | apply State.clampNow_frame | apply State.wr_frame | decide +kernel | intro _
    | split

theorem State.takeWrite_frame {M : Nat} {a s : State} (h : Frame M a s) (c : Nat) (tm : Nat) (hm : Nat.lor 0x506200000000001000000000000004000000001c20000000000000000000000000000000000000000000000000000000000000000000000000000000000000000000000000000000000000000000000048c1000 M = M := by decide +kernel) :
    Frame M a (State.takeWrite s c tm) := by
  refine h.trans (Frame.mono hm ?_)
  unfold State.takeWrite
  repeat' with_reducible first
    | exact Frame.refl _ | apply Frame.ite | apply State.balanceStop_frame | apply State.release_frame
    | apply State.modChan_frame | apply State.claim_frame | apply State.clampRegs_frame | decide +kernel | intro _ | split

theorem State.sampleGroup_frame {M : Nat} {a s : State} (h : Frame M a s) (members : List Nat) (tm : Nat) (hm : Nat.lor 0x850620000000000100000000000000400000077fffff200000000000000000000000000000000000000007100000fe008000000000000000000000000000000000000000000000000000000000000000068cb720 M = M := by decide +kernel) :
    Frame M a (State.sampleGroup s members tm) := by
  refine h.trans (Frame.mono hm ?_)
  unfold State.sampleGroup
  repeat' with_reducible first
    | exact Frame.refl _ | apply Frame.ite | apply State.takeWrite_frame | apply State.askInjection_frame
    | apply State.modChan_frame | apply State.sampleNow_frame | decide +kernel | apply Frame.foldl | intro _ | split

theorem State.countSkipped_frame {M : Nat} {a s : State} (h : Frame M a s) (c : Nat) (tm : Nat) (hm : Nat.lor 0x1000000000000000000000000000000000000000000000000000000000000000000000000000000000000000000000000000000000000000000000000000000000 M = M := by decide +kernel) :
    Frame M a (State.countSkipped s c tm) := by
  refine h.trans (Frame.mono hm ?_)
  unfold State.countSkipped
  repeat' with_reducible first
    | exact Frame.refl _ | apply Frame.ite | apply State.bump_frame | decide +kernel | intro _ | split

theorem State.settleOpen_frame {M : Nat} {a s : State} (h : Frame M a s) (g : List Nat) (hm : Nat.lor 0x850600000000000000000000000000400000077e7fff200000000000000000000000000000000000000000000000fe008000000000000000000000000000000000000000000000000000000000000000068cb720 M = M := by decide +kernel) :
    Frame M a (State.settleOpen s g) := by
  refine h.trans (Frame.mono hm ?_)
  unfold State.settleOpen
  repeat' with_reducible first
    | exact Frame.refl _ | apply Frame.ite | apply State.missSample_frame | apply State.sampleNow_frame | decide +kernel
    | apply Frame.foldl | intro _ | split | dsimp only

theorem execChannelSample_frame (t : Nat) (ch : Nat) (s : State) : ∃ u, execChannelSample t ch s = .next u ∧ Frame 0x850620000000000100000000000000400000077fffff200000000000000000000000000000000000000007100000fe008000000000000000000000000000000000000000000000000000000000000000068cb721 s u := by
  refine ⟨_, rfl, ?_⟩
  repeat' with_reducible first
    | exact Frame.refl _ | apply Frame.ite | apply State.at_frame | apply State.settleOpen_frame
    | apply State.countSkipped_frame | apply State.missSample_frame | apply State.sampleGroup_frame | decide +kernel
    | apply Frame.foldl | intro _ | split | dsimp only

theorem execDeadlineMiss_frame (t : Nat) (ch : Nat) (s : State) : ∃ u, execDeadlineMiss t ch s = .next u ∧ Frame 0x850620000000000100000000000000400000077fffff200000000000000000000000000000000000000000000000fe008000000000000000000000000000000000000000000000000000000000000000068cb721 s u := by
  refine ⟨_, rfl, ?_⟩
  repeat' with_reducible first
    | exact Frame.refl _ | apply Frame.ite | apply State.at_frame | apply State.settleOpen_frame
    | apply State.countSkipped_frame | apply State.takeWrite_frame | apply State.missSample_frame | decide +kernel | intro _
    | split

theorem execInjectedConversion_frame (t : Nat) (str : Nat) (src : Nat) (aborted : Bool) (convs : List (Nat × Int)) (s : State) : ∃ u, execInjectedConversion t str src aborted convs s = .next u ∧ Frame 0x850620000000030100000000000000400000077fffff200000000000000000000000000000000000000007100000fe008000000000000000000000000000000000000000000000000000000000000000068cb721 s u := by
  refine ⟨_, rfl, ?_⟩
  repeat' with_reducible first
    | exact Frame.refl _ | apply Frame.ite | apply State.at_frame | apply State.injWindow_frame | apply State.injProt_frame
    | apply State.modFe_frame | apply State.injRun_frame | apply State.wr_frame | apply State.wrI_frame
    | apply State.modChan_frame | apply State.sampleGroup_frame | decide +kernel | intro _ | split | dsimp only

theorem State.chanStart_frame {M : Nat} {a s : State} (h : Frame M a s) (c : Nat) (hm : Nat.lor 0x506200000000001000000000000004000000001c60400000000000000000000000000000000000000000000000000000000000000000000000000000000000000000000000000000000000000000000040c0000 M = M := by decide +kernel) :
    Frame M a (State.chanStart s c) := by
  refine h.trans (Frame.mono hm ?_)
  unfold State.chanStart
  repeat' with_reducible first
    | exact Frame.refl _ | apply Frame.ite | apply State.wr_frame | apply State.claim_frame | apply State.clampRegs_frame
    | decide +kernel | intro _ | split | fail_if_no_progress refine Frame.on_chans ?_ _
    | fail_if_no_progress refine Frame.mk' ?_

theorem State.chanStop_frame {M : Nat} {a s : State} (h : Frame M a s) (c : Nat) (g : List Nat) (hm : Nat.lor 0x8506200000000001000000000000004000000041c20720000000000000000000000000000000000000000000000002008000000000000000000000000000000000000000000000000000000000000000048c9720 M = M := by decide +kernel) :
    Frame M a (State.chanStop s c g) := by
  refine h.trans (Frame.mono hm ?_)
  unfold State.chanStop
  repeat' with_reducible first
    | exact Frame.refl _ | apply Frame.ite | apply State.setOut_frame | apply State.balanceStop_frame
    | apply State.drive_frame | apply State.release_frame | apply State.wr_frame | apply State.modChan_frame | decide +kernel
    | intro _ | split

theorem State.chanStep_frame {M : Nat} {a s : State} (h : Frame M a s) (afresh : Bool) (hm : Nat.lor 0x1000000000000000000000000000000000000000000000000000000000000000000000000000000000000000000000000000000000000000000000000000080000 M = M := by decide +kernel) :
    Frame M a (State.chanStep s afresh) := by
  refine h.trans (Frame.mono hm ?_)
  unfold State.chanStep
  repeat' with_reducible first
    | exact Frame.refl _ | apply Frame.ite | apply State.modChan_frame | apply State.countSkipped_frame | decide +kernel
    | apply Frame.foldl | intro _ | split

theorem State.loadRegs_frame {M : Nat} {a s : State} (h : Frame M a s)  (hm : Nat.lor 0x8000000000000000000000000000000000000000000000000000000000000000000000000000000000000000000000000000000000000000000000000000000000 M = M := by decide +kernel) :
    Frame M a (State.loadRegs s) := by
  refine h.trans (Frame.mono hm ?_)
  unfold State.loadRegs
  repeat' with_reducible first
    | exact Frame.refl _ | apply State.wr_frame | decide +kernel | apply Frame.foldl | intro _ | split

theorem State.keepChan_frame {M : Nat} {a s : State} (h : Frame M a s) (o : State) (c : Nat) (fs : List Fld) (hm : Nat.lor 0x80000 M = M := by decide +kernel) :
    Frame M a (State.keepChan s o c fs) := by
  refine h.trans (Frame.mono hm ?_)
  unfold State.keepChan
  repeat' with_reducible first
    | exact Frame.refl _ | apply Frame.ite | apply State.modChan_frame | decide +kernel | intro _ | split

theorem State.chanWritten_frame {M : Nat} {a s : State} (h : Frame M a s) (o : State) (c : Nat) (hm : Nat.lor 0x85062000000000010000000000000040000000c1c60720000000000000000000000000000000000000000000000002008000000000000000000000000000000000000000000000000000000000000000048c9720 M = M := by decide +kernel) :
    Frame M a (State.chanWritten s o c) := by
  refine h.trans (Frame.mono hm ?_)
  unfold State.chanWritten
  repeat' with_reducible first
    | exact Frame.refl _ | apply Frame.ite | apply State.keepChan_frame | apply State.chanStart_frame
    | apply State.chanStop_frame | apply State.modChan_frame | apply State.claim_frame | apply State.loadRegs_frame
    | decide +kernel | intro _ | split

end Sys2Proof.Machine
end

