-- ==== Sys2Proof/Laws/Frame/Block.lean ====
section
/-! SUPPORT. What the operations of Machine/Block.lean may change (`Frame`). -/

namespace Sys2Proof.Machine
open Obj

set_option linter.all false
set_option Elab.async false

theorem State.conflict_frame {M : Nat} {a s : State} (h : Frame M a s)  (hm : Nat.lor 0x85060000000000000000000000005e4d0657d801c20000000000000000000000000000000000000000000000000002008000000000000000000000000000000000000000000000000000000000000000041c0720 M = M := by decide +kernel) :
    Frame M a (State.conflict s) := by
  refine h.trans (Frame.mono hm ?_)
  unfold State.conflict
  repeat' with_reducible first
    | exact Frame.refl _ | apply Frame.ite | apply State.record_frame | apply State.wrB_frame | apply State.roleCheck_frame
    | apply State.forgetManager_frame | decide +kernel | split | fail_if_no_progress refine Frame.on_blk ?_ _

theorem State.hearEpoch_frame {M : Nat} {a s : State} (h : Frame M a s) (ep : Nat) (hm : Nat.lor 0x100000 M = M := by decide +kernel) :
    Frame M a (State.hearEpoch s ep) := by
  refine h.trans (Frame.mono hm ?_)
  unfold State.hearEpoch
  repeat' with_reducible first
    | exact Frame.refl _ | apply Frame.ite | decide +kernel | intro _ | split | fail_if_no_progress refine Frame.on_blk ?_ _
    | fail_if_no_progress refine Frame.mk' ?_

theorem State.peerIn_frame {M : Nat} {a s : State} (h : Frame M a s) (net : Nat) (src : Nat) (m : Bytes) (hm : Nat.lor 0x85060000000000000000000000405e4d0657d801c20000000000000000000000000000000000000000000000000002008000000000000000000000000000000000000000000000000000000000000000041c0720 M = M := by decide +kernel) :
    Frame M a (State.peerIn s net src m).1 := by
  refine h.trans (Frame.mono hm ?_)
  unfold State.peerIn
  dsimp only
  repeat' with_reducible first
    | exact Frame.refl _ | apply Frame.ite | apply State.bump_frame | apply State.hearEpoch_frame | apply State.conflict_frame
    | decide +kernel | intro _ | split | fail_if_no_progress refine Frame.on_blk ?_ _
    | fail_if_no_progress refine Frame.mk' ?_

theorem State.learn_frame {M : Nat} {a s : State} (h : Frame M a s) (b : Bytes) (hm : Nat.lor 0x188000000000000000000000000000000000000000000000000000000000000000000000000000000000000000000000000000000000000000000000000000000100000 M = M := by decide +kernel) :
    Frame M a (State.learn s b) := by
  refine h.trans (Frame.mono hm ?_)
  unfold State.learn
  repeat' with_reducible first
    | exact Frame.refl _ | apply State.wr_frame | apply State.wrB_frame | decide +kernel | intro _ | split
    | fail_if_no_progress refine Frame.on_blk ?_ _

theorem State.hearAnnounce_frame {M : Nat} {a s : State} (h : Frame M a s) (id : Nat) (pref : Nat) (epoch : Nat) (b : Bytes) (hm : Nat.lor 0x8506000000000000000000000000004057de9801c20000000000000000000000000000000000000000000000000002008000000000000000000000000000000000000000000000000000000000000000041c0720 M = M := by decide +kernel) :
    Frame M a (State.hearAnnounce s id pref epoch b) := by
  refine h.trans (Frame.mono hm ?_)
  unfold State.hearAnnounce
  repeat' with_reducible first
    | exact Frame.refl _ | apply Frame.ite | apply State.adopt_frame | apply State.learn_frame | apply State.loseManager_frame
    | decide +kernel | intro _ | split | fail_if_no_progress refine Frame.on_blk ?_ _
    | fail_if_no_progress refine Frame.mk' ?_

theorem State.hearCandidate_frame {M : Nat} {a s : State} (h : Frame M a s) (id : Nat) (pref : Nat) (last : Nat) (hm : Nat.lor 0x800000000000000000000000000000000656180000000000000000000000000000000000000000000000000000000000000000000000000000000000000000000000000000000000000000000000000000100400 M = M := by decide +kernel) :
    Frame M a (State.hearCandidate s id pref last) := by
  refine h.trans (Frame.mono hm ?_)
  unfold State.hearCandidate
  repeat' with_reducible first
    | exact Frame.refl _ | apply Frame.ite | apply State.hearEpoch_frame | apply State.discover_frame | decide +kernel
    | intro _ | split

theorem State.takeReport_frame {M : Nat} {a s : State} (h : Frame M a s) (id : Nat) (cycle : Nat) (rs : List MRec) (hm : Nat.lor 0x100000 M = M := by decide +kernel) :
    Frame M a (State.takeReport s id cycle rs) := by
  refine h.trans (Frame.mono hm ?_)
  unfold State.takeReport
  repeat' with_reducible first
    | exact Frame.refl _ | intro _ | split | fail_if_no_progress refine Frame.on_blk ?_ _

theorem State.hearReport_frame {M : Nat} {a s : State} (h : Frame M a s) (id : Nat) (epoch : Nat) (b : Bytes) (hm : Nat.lor 0x2000000000000000000000000000000000000000000000000000000000000000000000000000000000000000000000000000000000000000000000000000000000100000 M = M := by decide +kernel) :
    Frame M a (State.hearReport s id epoch b) := by
  refine h.trans (Frame.mono hm ?_)
  unfold State.hearReport
  repeat' with_reducible first
    | exact Frame.refl _ | apply Frame.ite | apply State.takeReport_frame | apply State.bump_frame | decide +kernel | split

theorem State.setMembers_frame {M : Nat} {a s : State} (h : Frame M a s) (ids : List Nat) (hm : Nat.lor 0x800000000000000000000000000000000020200000000000000000000000000000000000000000000000000000000200800000000000000000000000000000000000000000000000000000000000000004000720 M = M := by decide +kernel) :
    Frame M a (State.setMembers s ids) := by
  refine h.trans (Frame.mono hm ?_)
  unfold State.setMembers
  repeat' with_reducible first
    | exact Frame.refl _ | apply Frame.ite | apply State.wr_frame | apply State.record_frame | decide +kernel
    | apply Frame.foldl | intro _ | split

theorem State.acceptAlloc_frame {M : Nat} {a s : State} (h : Frame M a s) (b : Bytes) (hm : Nat.lor 0x800000000000000000000000000000000020200000000000000000000000000000000000000000000000000000000200800000000000000000000000000000000000000000000000000000000000000004100720 M = M := by decide +kernel) :
    Frame M a (State.acceptAlloc s b) := by
  refine h.trans (Frame.mono hm ?_)
  unfold State.acceptAlloc
  repeat' with_reducible first
    | exact Frame.refl _ | apply State.setMembers_frame | decide +kernel | intro _ | split
    | fail_if_no_progress refine Frame.on_blk ?_ _

theorem State.hearAllocation_frame {M : Nat} {a s : State} (h : Frame M a s) (id : Nat) (epoch : Nat) (b : Bytes) (hm : Nat.lor 0x800000000000000000000000000000002020200000000000000000000000000000000000000000000000000000000200800000000000000000000000000000000000000000000000000000000000000004100720 M = M := by decide +kernel) :
    Frame M a (State.hearAllocation s id epoch b) := by
  refine h.trans (Frame.mono hm ?_)
  unfold State.hearAllocation
  repeat' with_reducible first
    | exact Frame.refl _ | apply Frame.ite | apply State.acceptAlloc_frame | apply State.bump_frame | decide +kernel | split

theorem State.hearPeer_frame {M : Nat} {a s : State} (h : Frame M a s) (net : Nat) (src : Nat) (m : Bytes) (hm : Nat.lor 0x85060000000000000000000000405e4d77fff801c20000000000000000000000000000000000000000000000000002008000000000000000000000000000000000000000000000000000000000000000041c0720 M = M := by decide +kernel) :
    Frame M a (State.hearPeer s net src m) := by
  refine h.trans (Frame.mono hm ?_)
  unfold State.hearPeer
  repeat' with_reducible first
    | exact Frame.refl _ | apply Frame.ite | apply State.peerIn_frame | apply State.hearAnnounce_frame
    | apply State.hearCandidate_frame | apply State.hearReport_frame | apply State.hearAllocation_frame | decide +kernel
    | intro _ | split | refine Frame.fst (by assumption) ?_

theorem execAnnounceReceived_frame (t : Nat) (net : Nat) (src : Nat) (msg : Bytes) (s : State) : ∃ u, execAnnounceReceived t net src msg s = .next u ∧ Frame 0x85060000000000000000000000405e4d77fff801c20000000000000000000000000000000000000000000000000002008000000000000000000000000000000000000000000000000000000000000000041c0721 s u := by
  refine ⟨_, rfl, ?_⟩
  repeat' with_reducible first
    | exact Frame.refl _ | apply State.hearPeer_frame | apply State.at_frame | decide +kernel | split

theorem execCandidateReceived_frame (t : Nat) (net : Nat) (src : Nat) (msg : Bytes) (s : State) : ∃ u, execCandidateReceived t net src msg s = .next u ∧ Frame 0x85060000000000000000000000405e4d77fff801c20000000000000000000000000000000000000000000000000002008000000000000000000000000000000000000000000000000000000000000000041c0721 s u := by
  refine ⟨_, rfl, ?_⟩
  repeat' with_reducible first
    | exact Frame.refl _ | apply State.hearPeer_frame | apply State.at_frame | decide +kernel | split

theorem execReportReceived_frame (t : Nat) (net : Nat) (src : Nat) (msg : Bytes) (s : State) : ∃ u, execReportReceived t net src msg s = .next u ∧ Frame 0x85060000000000000000000000405e4d77fff801c20000000000000000000000000000000000000000000000000002008000000000000000000000000000000000000000000000000000000000000000041c0721 s u := by
  refine ⟨_, rfl, ?_⟩
  repeat' with_reducible first
    | exact Frame.refl _ | apply State.hearPeer_frame | apply State.at_frame | decide +kernel | split

theorem execAllocationReceived_frame (t : Nat) (net : Nat) (src : Nat) (msg : Bytes) (s : State) : ∃ u, execAllocationReceived t net src msg s = .next u ∧ Frame 0x85060000000000000000000000405e4d77fff801c20000000000000000000000000000000000000000000000000002008000000000000000000000000000000000000000000000000000000000000000041c0721 s u := by
  refine ⟨_, rfl, ?_⟩
  repeat' with_reducible first
    | exact Frame.refl _ | apply State.hearPeer_frame | apply State.at_frame | decide +kernel | split

theorem execPeerRejected_frame (t : Nat) (net : Nat) (src : Nat) (msg : Bytes) (s : State) : ∃ u, execPeerRejected t net src msg s = .next u ∧ Frame 0x85060000000000000000000000405e4d77fff801c20000000000000000000000000000000000000000000000000002008000000000000000000000000000000000000000000000000000000000000000041c0721 s u := by
  refine ⟨_, rfl, ?_⟩
  repeat' with_reducible first
    | exact Frame.refl _ | apply State.hearPeer_frame | apply State.at_frame | decide +kernel | split

theorem execAnnounce_frame (t : Nat) (s : State) : ∃ u, execAnnounce t s = .next u ∧ Frame 0x800000000000000000000000000000004656d80000000000000000000000000000000000000000000000000000000200800000000000000000000000000000000000000000000000000000000000000004100721 s u := by
  refine ⟨_, rfl, ?_⟩
  repeat' with_reducible first
    | exact Frame.refl _ | apply Frame.ite | apply State.roleCheck_frame | apply State.at_frame | apply State.openEpoch_frame
    | apply State.sendAnnounce_frame | decide +kernel | split | fail_if_no_progress refine Frame.on_blk ?_ _

theorem execCandidate_frame (t : Nat) (s : State) : ∃ u, execCandidate t s = .next u ∧ Frame 0x4100001 s u := by
  refine ⟨_, rfl, ?_⟩
  repeat' with_reducible first
    | exact Frame.refl _ | apply Frame.ite | apply State.at_frame | apply State.sendCandidate_frame | decide +kernel | split
    | fail_if_no_progress refine Frame.on_blk ?_ _

theorem execRoleListen_frame (t : Nat) (s : State) : ∃ u, execRoleListen t s = .next u ∧ Frame 0x800000000000000000000000000000000e56d80000000000000000000000000000000000000000000000000000000200800000000000000000000000000000000000000000000000000000000000000004100721 s u := by
  refine ⟨_, rfl, ?_⟩
  repeat' with_reducible first
    | exact Frame.refl _ | apply Frame.ite | apply State.roleCheck_frame | apply State.at_frame
    | apply State.sendCandidate_frame | apply State.bump_frame | apply State.setRole_frame | decide +kernel | split
    | fail_if_no_progress refine Frame.on_blk ?_ _

theorem execRoleGained_frame (t : Nat) (s : State) : ∃ u, execRoleGained t s = .next u ∧ Frame 0x8506000000000000000000000000004047ded801c20000000000000000000000000000000000000000000000000002008000000000000000000000000000000000000000000000000000000000000000041c0721 s u := by
  refine ⟨_, rfl, ?_⟩
  repeat' with_reducible first
    | exact Frame.refl _ | apply Frame.ite | apply State.roleCheck_frame | apply State.at_frame | apply State.gainRole_frame
    | decide +kernel | split

theorem execManagerLost_frame (t : Nat) (s : State) : ∃ u, execManagerLost t s = .next u ∧ Frame 0x800000000000000000000000000000001656980000000000000000000000000000000000000000000000000000000200800000000000000000000000000000000000000000000000000000000000000004100721 s u := by
  refine ⟨_, rfl, ?_⟩
  repeat' with_reducible first
    | exact Frame.refl _ | apply Frame.ite | apply State.at_frame | apply State.loseManager_frame | decide +kernel | split

theorem execAllocHold_frame (t : Nat) (s : State) : ∃ u, execAllocHold t s = .next u ∧ Frame 0x5060000000000000000000000005e4d00008001c20000000000000000000000000000000000000000000000000000000000000000000000000000000000000000000000000000000000000000000000041c0001 s u := by
  refine ⟨_, rfl, ?_⟩
  repeat' with_reducible first
    | exact Frame.refl _ | apply Frame.ite | apply State.at_frame | apply State.forgetManager_frame | apply State.wrB_frame
    | decide +kernel | split | fail_if_no_progress refine Frame.on_blk ?_ _

theorem execBlockIdConflict_frame (t : Nat) (msg : Option (Nat × Nat × Bytes)) (s : State) : ∃ u, execBlockIdConflict t msg s = .next u ∧ Frame 0x85060000000000000000000000405e4d77fff801c20000000000000000000000000000000000000000000000000002008000000000000000000000000000000000000000000000000000000000000000041c0721 s u := by
  refine ⟨_, rfl, ?_⟩
  repeat' with_reducible first
    | exact Frame.refl _ | apply Frame.ite | apply State.at_frame | apply State.hearPeer_frame | apply State.roleCheck_frame
    | apply State.clampAll_frame | apply State.wrB_frame | decide +kernel | split
    | fail_if_no_progress refine Frame.on_blk ?_ _

theorem execDispatchCycle_frame (t : Nat) (s : State) : ∃ u, execDispatchCycle t s = .next u ∧ Frame 0x80000000000000000000000000000020065ed80000000000000000000000000000000000000000000000000000000200800000000000000000000000000000000000000000000000000000000000000004100721 s u := by
  refine ⟨_, rfl, ?_⟩
  repeat' with_reducible first
    | exact Frame.refl _ | apply Frame.ite | apply State.at_frame | apply State.wrB_frame | apply State.roleCheck_frame
    | decide +kernel | apply Frame.foldl | intro _ | split | fail_if_no_progress refine Frame.on_blk ?_ _

theorem execReport_frame (t : Nat) (s : State) : ∃ u, execReport t s = .next u ∧ Frame 0x4100001 s u := by
  refine ⟨_, rfl, ?_⟩
  repeat' with_reducible first
    | exact Frame.refl _ | apply Frame.ite | apply State.at_frame | apply State.sendPeer_frame | apply State.takeReport_frame
    | decide +kernel | split | fail_if_no_progress refine Frame.on_blk ?_ _

theorem State.judgeReports_frame {M : Nat} {a s : State} (h : Frame M a s)  (hm : Nat.lor 0x3000000040000000000000000000000000000000000000000000000000000000000000000000000000000000000000000000000000000000000000000000000000000000100000 M = M := by decide +kernel) :
    Frame M a (State.judgeReports s) := by
  refine h.trans (Frame.mono hm ?_)
  unfold State.judgeReports
  repeat' with_reducible first
    | exact Frame.refl _ | apply Frame.ite | apply State.bump_frame | apply State.wr_frame | decide +kernel
    | apply Frame.foldl | intro _ | split | fail_if_no_progress refine Frame.on_blk ?_ _

theorem State.allocate_frame {M : Nat} {a s : State} (h : Frame M a s)  (hm : Nat.lor 0x800000000000000000000000003000900762200000000000000000000000000000000000000000000000000000000200800000000000000000000000000000000000000000000000000000000000000004100720 M = M := by decide +kernel) :
    Frame M a (State.allocate s) := by
  refine h.trans (Frame.mono hm ?_)
  unfold State.allocate
  repeat' with_reducible first
    | exact Frame.refl _ | apply Frame.ite | apply State.judgeReports_frame | apply State.wrB_frame | apply State.wr_frame
    | apply State.wrI_frame | apply State.eachStr_frame | apply State.setMembers_frame | apply State.sendPeer_frame
    | decide +kernel | apply Frame.foldl | intro _ | split | fail_if_no_progress refine Frame.on_blk ?_ _

theorem execAllocation_frame (t : Nat) (s : State) : ∃ u, execAllocation t s = .next u ∧ Frame 0x800000000000000000000000003000900776f80000000000000000000000000000000000000000000000000000000200800000000000000000000000000000000000000000000000000000000000000004100721 s u := by
  refine ⟨_, rfl, ?_⟩
  repeat' with_reducible first
    | exact Frame.refl _ | apply Frame.ite | apply State.roleCheck_frame | apply State.at_frame | apply State.allocate_frame
    | decide +kernel | split

theorem State.applyStr_frame {M : Nat} {a s : State} (h : Frame M a s) (n : Nat) (sps : Option (List (Nat × Int))) (hm : Nat.lor 0x5060000000000000000000000007f4f0000000000000000000000000000000000000000000000000000000000000000000000000000000000000000000000000000000000000000000000000000000004040000 M = M := by decide +kernel) :
    Frame M a (State.applyStr s n sps) := by
  refine h.trans (Frame.mono hm ?_)
  unfold State.applyStr
  repeat' with_reducible first
    | exact Frame.refl _ | apply Frame.ite | apply State.wrI_frame | apply State.wrB_frame | apply State.wr_frame
    | apply State.dispatchFrame_frame | apply State.localClamp_frame | decide +kernel | intro _ | split
    | refine Frame.fst (by assumption) ?_

theorem execAllocationApply_frame (t : Nat) (s : State) : ∃ u, execAllocationApply t s = .next u ∧ Frame 0x5060000000000000000000000007f4f80008001c20000000000000000000000000000000000000000000000000000000000000000000000000000000000000000000000000000000000000000000000041c0001 s u := by
  refine ⟨_, rfl, ?_⟩
  repeat' with_reducible first
    | exact Frame.refl _ | apply Frame.ite | apply State.at_frame | apply State.knowManager_frame | apply State.wr_frame
    | apply State.wrB_frame | apply State.beginHold_frame | apply State.eachStr_frame | apply State.applyStr_frame
    | decide +kernel | intro _ | split | fail_if_no_progress refine Frame.on_blk ?_ _

theorem execHostTimeout_frame (t : Nat) (s : State) : ∃ u, execHostTimeout t s = .next u ∧ Frame 0x800000000000000000000000000000000084000000000000000000000000000000000000000000000000000000000200800000000000000000000000000000000000000000000000000000000000000004100721 s u := by
  refine ⟨_, rfl, ?_⟩
  repeat' with_reducible first
    | exact Frame.refl _ | apply Frame.ite | apply State.at_frame | apply State.wrB_frame | apply State.wr_frame
    | apply State.record_frame | decide +kernel | split | fail_if_no_progress refine Frame.on_blk ?_ _

theorem execSetBlockPower_frame (t : Nat) (r : Req) (p : Bytes) (s : State) : ∃ u, execSetBlockPower t r p s = .next u ∧ Frame 0x84000000000000000000000000000000000000000000000000000000000000000000000000000000000000000000000000000000200000000000000000000004100101 s u := by
  refine ⟨_, rfl, ?_⟩
  repeat' with_reducible first
    | exact Frame.refl _ | apply Frame.ite | apply State.serve_frame | apply guarded_frame | apply State.wrB_frame
    | apply State.wrI_frame | decide +kernel | intro _ | split | refine Frame.fst (by assumption) ?_
    | fail_if_no_progress refine Frame.on_blk ?_ _

theorem execGetBlockState_frame (t : Nat) (r : Req) (p : Bytes) (s : State) : ∃ u, execGetBlockState t r p s = .next u ∧ Frame 0x200000000000000000000004000101 s u := by
  refine ⟨_, rfl, ?_⟩
  repeat' with_reducible first
    | exact Frame.refl _ | apply State.serve_frame | apply guarded_frame | decide +kernel | intro _ | split
    | refine Frame.fst (by assumption) ?_

theorem execNetLinkChanged_frame (t : Nat) (port : Nat) (up : Bool) (s : State) : ∃ u, execNetLinkChanged t port up s = .next u ∧ Frame 0x800000000000000000000000000000000656d800000000000000000000000000000000000000000000000000000002008000000000000000000000000000000000000000000000c0000000000000000004100721 s u := by
  refine ⟨_, rfl, ?_⟩
  repeat' with_reducible first
    | exact Frame.refl _ | apply Frame.ite | apply State.at_frame | apply State.roleCheck_frame | apply State.wrB_frame
    | decide +kernel | split

end Sys2Proof.Machine
end

