-- ==== Sys2Proof/Laws/Frame/Collector.lean ====
section
/-! SUPPORT. What the operations of Machine/Collector.lean may change (`Frame`). -/

namespace Sys2Proof.Machine
open Obj

set_option linter.all false
set_option Elab.async false

theorem State.capture_frame {M : Nat} {a s : State} (h : Frame M a s) (n : Nat) (at_ : Nat) (hm : Nat.lor 0x200200000000000000000000000000000000000000000000000000000000000000000000000000001000 M = M := by decide +kernel) :
    Frame M a (State.capture s n at_) := by
  refine h.trans (Frame.mono hm ?_)
  unfold State.capture
  repeat' with_reducible first
    | exact Frame.refl _ | apply Frame.ite | apply State.warmNow_frame | apply State.agesNow_frame | apply State.modStr_frame
    | apply State.shotRefer_frame | decide +kernel | intro _ | split

theorem State.releaseLap_frame {M : Nat} {a s : State} (h : Frame M a s) (str : Nat) (seq : Nat) (hm : Nat.lor 0x800000000000000000085060000000000000000000000007f4d00000001c200000000000000000001ff80061fffff80000000002002000002008000000000000000000000000000000000000000000000000000000002000000060d1720 M = M := by decide +kernel) :
    Frame M a (State.releaseLap s str seq) := by
  refine h.trans (Frame.mono hm ?_)
  unfold State.releaseLap
  repeat' with_reducible first
    | exact Frame.refl _ | apply Frame.ite | apply State.underOld_frame | apply State.buildResult_frame
    | apply State.showResults_frame | apply State.learnLap_frame | apply State.modLaps_frame | apply State.modStr_frame
    | apply State.capture_frame | apply State.limitsReleased_frame | decide +kernel | intro _ | split | dsimp only

theorem State.releaseLate_frame {M : Nat} {a s : State} (h : Frame M a s) (str : Nat) (seq : Nat) (hm : Nat.lor 0x800000000000000000085060000000000000000000000007f4d00000001c200000000000000000001ff80061fffff80000000002002000002008000000000000000000000000000000000000000000000000000000002000000060d1720 M = M := by decide +kernel) :
    Frame M a (State.releaseLate s str seq) := by
  refine h.trans (Frame.mono hm ?_)
  unfold State.releaseLate
  repeat' with_reducible first
    | exact Frame.refl _ | apply Frame.ite | apply State.releaseLap_frame | decide +kernel | intro _ | split

theorem execResultInstant_frame (t : Nat) (str : Nat) (seq : Nat) (s : State) : ∃ u, execResultInstant t str seq s = .next u ∧ Frame 0x800000000000000000085060000000000000000000000007f4d00000001c200000000000000000001ff80061fffff80000000002002000002008000000000000000000000000000000000000000000000000000000002000000060d1721 s u := by
  refine ⟨_, rfl, ?_⟩
  repeat' with_reducible first
    | exact Frame.refl _ | apply Frame.ite | apply State.at_frame | apply State.releaseLap_frame | decide +kernel | intro _
    | split

theorem execLapDataComplete_frame (t : Nat) (str : Nat) (s : State) : ∃ u, execLapDataComplete t str s = .next u ∧ Frame 0x800038b00000000000085060000000000000000000000007f4d00000001c2001e00003ffff80017ffff8f867fffffcf70c0a838200200000327c03fd670008000d0f60180000000000007810000002000000000800002000000060d9fa9 s u := by
  refine ⟨_, rfl, ?_⟩
  repeat' with_reducible first
    | exact Frame.refl _ | apply Frame.ite | apply State.at_frame | apply State.completeLap_frame
    | apply State.releaseLate_frame | decide +kernel | apply Frame.foldl | intro _ | split

theorem State.feedAll_frame {M : Nat} {a s : State} (h : Frame M a s) (u : LapUnit) (hm : Nat.lor 0x100 M = M := by decide +kernel) :
    Frame M a (State.feedAll s u) := by
  refine h.trans (Frame.mono hm ?_)
  unfold State.feedAll
  repeat' with_reducible first
    | exact Frame.refl _ | intro _ | split | fail_if_no_progress refine Frame.on_mbx ?_ _

theorem State.collSecond_frame {M : Nat} {a s : State} (h : Frame M a s)  (hm : Nat.lor 0x280000000000000000000000000000000000000000000000000000000000000000000000000000000000000000000000000000000000000000000000000000000000000200000 M = M := by decide +kernel) :
    Frame M a (State.collSecond s) := by
  refine h.trans (Frame.mono hm ?_)
  unfold State.collSecond
  repeat' with_reducible first
    | exact Frame.refl _ | apply Frame.ite | apply State.wr_frame | decide +kernel | split
    | fail_if_no_progress refine Frame.on_coll ?_ _

theorem State.countGap_frame {M : Nat} {a s : State} (h : Frame M a s) (n : Nat) (u : LapUnit) (hm : Nat.lor 0x800000000000000000000000008900000000000000000000000000000000000000000000000000000000000000000200800000000000000000000000000000000000000000000000000000000000000004200720 M = M := by decide +kernel) :
    Frame M a (State.countGap s n u) := by
  refine h.trans (Frame.mono hm ?_)
  unfold State.countGap
  repeat' with_reducible first
    | exact Frame.refl _ | apply Frame.ite | apply State.wrB_frame | apply State.bump_frame | apply State.wr_frame
    | apply State.record_frame | decide +kernel | split | fail_if_no_progress refine Frame.on_coll ?_ _

theorem execLapUnitReceived_frame (t : Nat) (str : Nat) (s : State) : ∃ u, execLapUnitReceived t str s = .next u ∧ Frame 0x800000000000000000000000008b80000000000000000000000000000000000000000000000000000000000000000200800000000000000000000000000000000000000000000000000000000000000004201721 s u := by
  refine ⟨_, rfl, ?_⟩
  dsimp only
  repeat' with_reducible first
    | exact Frame.refl _ | apply Frame.ite | apply State.at_frame | apply State.collSecond_frame | apply State.modStr_frame
    | apply State.countGap_frame | decide +kernel | intro _ | split | fail_if_no_progress refine Frame.on_coll ?_ _

theorem State.handOn_frame {M : Nat} {a s : State} (h : Frame M a s) (u : LapUnit) (hm : Nat.lor 0x60000000000000000000800000000000000000000000000400000000000000000000000000000000000000000000000000000000000000000337c00000000000000000000000000000000000000000000000000000000000000004200720 M = M := by decide +kernel) :
    Frame M a (State.handOn s u) := by
  refine h.trans (Frame.mono hm ?_)
  unfold State.handOn
  repeat' with_reducible first
    | exact Frame.refl _ | apply Frame.ite | apply State.writeGap_frame | apply State.writeLap_frame
    | apply State.feedAll_frame | apply State.bump_frame | decide +kernel | split
    | fail_if_no_progress refine Frame.on_coll ?_ _

theorem execCollectorRound_frame (t : Nat) (s : State) : ∃ u, execCollectorRound t s = .next u ∧ Frame 0x60000000000000000000800000000000000000000000000680000000000000000000000000000000000000000000000000000000000000000337c00000000000000000000000000000000000000000000000000000000000000004201721 s u := by
  refine ⟨_, rfl, ?_⟩
  repeat' with_reducible first
    | exact Frame.refl _ | apply Frame.ite | apply State.at_frame | apply State.collSecond_frame | apply State.handOn_frame
    | apply State.modStr_frame | decide +kernel | apply Frame.foldl | intro _ | split
    | fail_if_no_progress refine Frame.on_coll ?_ _

end Sys2Proof.Machine
end

