-- ==== Sys2Proof/Laws/Frame/Pacer.lean ====
section
/-! SUPPORT. What the operations of Machine/Pacer.lean may change (`Frame`). -/

namespace Sys2Proof.Machine
open Obj

set_option linter.all false
set_option Elab.async false

theorem State.modPout_frame0 (s : State) (k : Nat) (f : POut → POut) : Frame 0x800000 s (State.modPout s k f) := by
  have h : Frame 0x800000 s s := Frame.refl s
  exact Frame.mk' h

theorem State.modPout_frame {M : Nat} {a s : State} (h : Frame M a s) (k : Nat) (f : POut → POut) (hm : Nat.lor 0x800000 M = M := by decide +kernel) :
    Frame M a (State.modPout s k f) := h.trans (Frame.mono hm (State.modPout_frame0 s k f))

theorem State.pacerRegs_frame {M : Nat} {a s : State} (h : Frame M a s) (k : Nat) (hm : Nat.lor 0x40080000000000000000000000000000000000000000000000000000000000000000000000000000000000000000000000000000000000000000000000000000000000000000000000000000000 M = M := by decide +kernel) :
    Frame M a (State.pacerRegs s k) := by
  refine h.trans (Frame.mono hm ?_)
  unfold State.pacerRegs
  repeat' with_reducible first
    | exact Frame.refl _ | apply Frame.ite | apply State.wr_frame | decide +kernel | split

theorem State.pacerFire_frame0 (s : State) (k : Nat) (at_ : Nat) : Frame 0xcc00000000000000000000000000000000000000000000000000000000000000000000071000000000000000000000000000000000000000000000000000000000000000000000000004801000 s (State.pacerFire s k at_) := by
  unfold State.pacerFire
  extract_lets s1 s2 s3
  have h1 : Frame 0xcc00000000000000000000000000000000000000000000000000000000000000000000071000000000000000000000000000000000000000000000000000000000000000000000000004801000 s s1 := State.modPout_frame (Frame.refl s) ..
  have h2 : Frame 0xcc00000000000000000000000000000000000000000000000000000000000000000000071000000000000000000000000000000000000000000000000000000000000000000000000004801000 s s2 := State.wr_frame (State.bump_frame h1 ..) ..
  have h3 : Frame 0xcc00000000000000000000000000000000000000000000000000000000000000000000071000000000000000000000000000000000000000000000000000000000000000000000000004801000 s s3 := Frame.ite (State.lineLevel_frame (State.modPout_frame h2 ..) ..) h2
  clear_value s3
  have h4 := State.injRequest_frame h3 (s3.rd PacerOutput.INJECT_STRING k) 2 k (s3.rd PacerOutput.INJECT_INPUT k)
      (s3.rd PacerOutput.INJECT_COUNT k)
  refine Frame.ite h3 ?_
  split
  next v ok e =>
  have h5 : Frame 0xcc00000000000000000000000000000000000000000000000000000000000000000000071000000000000000000000000000000000000000000000000000000000000000000000000004801000 s v := Frame.fst e h4
  exact Frame.ite h5 (State.wrB_frame (State.bump_frame h5 ..) ..)

theorem State.pacerFire_frame {M : Nat} {a s : State} (h : Frame M a s) (k : Nat) (at_ : Nat) (hm : Nat.lor 0xcc00000000000000000000000000000000000000000000000000000000000000000000071000000000000000000000000000000000000000000000000000000000000000000000000004801000 M = M := by decide +kernel) :
    Frame M a (State.pacerFire s k at_) := h.trans (Frame.mono hm (State.pacerFire_frame0 s k at_))

theorem State.pacerLate_frame {M : Nat} {a s : State} (h : Frame M a s) (k : Nat) (at_ : Nat) (hm : Nat.lor 0xee00000000000000000000000000000000000000000000000000000000000000000000071000000000000000000000000000000000000000000000000000000000000000000000000004801000 M = M := by decide +kernel) :
    Frame M a (State.pacerLate s k at_) := by
  refine h.trans (Frame.mono hm ?_)
  unfold State.pacerLate
  repeat' with_reducible first
    | exact Frame.refl _ | apply State.bump_frame | apply State.wrB_frame | apply State.pacerFire_frame | decide +kernel
    | split

theorem State.pacerDiscard_frame {M : Nat} {a s : State} (h : Frame M a s) (k : Nat) (hm : Nat.lor 0x800000 M = M := by decide +kernel) :
    Frame M a (State.pacerDiscard s k) := by
  refine h.trans (Frame.mono hm ?_)
  unfold State.pacerDiscard
  repeat' with_reducible first
    | exact Frame.refl _ | apply State.modPout_frame | decide +kernel | intro _ | split

theorem State.pacerRule_frame {M : Nat} {a s : State} (h : Frame M a s) (k : Nat) (hm : Nat.lor 0x80000000000004fe80000000000000000000000000000000000000000000000000000000000000000000071000000200800000000000000000000000000000000000000000000000000000000000000004801720 M = M := by decide +kernel) :
    Frame M a (State.pacerRule s k) := by
  refine h.trans (Frame.mono hm ?_)
  unfold State.pacerRule
  repeat' with_reducible first
    | exact Frame.refl _ | apply Frame.ite | apply State.modPout_frame | apply State.pacerLate_frame
    | apply State.record_frame | apply State.pacerDiscard_frame | apply State.bump_frame | apply State.pacerRegs_frame
    | decide +kernel | intro _ | split

theorem State.pacerOrigin_frame {M : Nat} {a s : State} (h : Frame M a s) (k : Nat) (hm : Nat.lor 0x40080000000000000000000000000000000000000000000000000000000000000000000000000000000000000000000000000000000000000000000000000000000000000000000000000800000 M = M := by decide +kernel) :
    Frame M a (State.pacerOrigin s k) := by
  refine h.trans (Frame.mono hm ?_)
  unfold State.pacerOrigin
  repeat' with_reducible first
    | exact Frame.refl _ | apply Frame.ite | apply State.modPout_frame | apply State.pacerDiscard_frame
    | apply State.pacerRegs_frame | decide +kernel | intro _ | split

theorem State.pacerWritten_frame {M : Nat} {a s : State} (h : Frame M a s) (k : Nat) (hm : Nat.lor 0x80000000000004fe80000000000000000000000000000000000000000000000000000000000000000000071000000200800000000000000000000000000000000000000000000000000000000000000004801720 M = M := by decide +kernel) :
    Frame M a (State.pacerWritten s k) := by
  refine h.trans (Frame.mono hm ?_)
  unfold State.pacerWritten
  repeat' with_reducible first
    | exact Frame.refl _ | apply Frame.ite | apply State.modPout_frame | apply State.lineLevel_frame
    | apply State.pacerRule_frame | decide +kernel | intro _ | split

theorem execPacerOccurrence_frame (t : Nat) (out : Nat) (s : State) : ∃ u, execPacerOccurrence t out s = .next u ∧ Frame 0x4cc80000000000000000000000000000000000000000000000000000000000000000000071000000000000000000000000000000000000000000000000000000000000000000000000004801001 s u := by
  refine ⟨_, rfl, ?_⟩
  repeat' with_reducible first
    | exact Frame.refl _ | apply Frame.ite | apply State.at_frame | apply State.pacerFire_frame | apply State.pacerRegs_frame
    | apply State.modPout_frame | decide +kernel | intro _ | split

theorem execPulseEnd_frame (t : Nat) (out : Nat) (s : State) : ∃ u, execPulseEnd t out s = .next u ∧ Frame 0x4800001 s u := by
  refine ⟨_, rfl, ?_⟩
  repeat' with_reducible first
    | exact Frame.refl _ | apply Frame.ite | apply State.at_frame | apply State.lineLevel_frame | apply State.modPout_frame
    | decide +kernel | intro _ | split

theorem State.winState_frame {M : Nat} {a s : State} (h : Frame M a s) (k : Nat) (hm : Nat.lor 0x80000000000000000000000000000000000000000000000000000000000000000000000000000000000000000000000000000000000000000000000000000000000000000000000000000000000 M = M := by decide +kernel) :
    Frame M a (State.winState s k) := by
  refine h.trans (Frame.mono hm ?_)
  unfold State.winState
  repeat' with_reducible first
    | exact Frame.refl _ | apply Frame.ite | apply State.wr_frame | decide +kernel | split

theorem State.captureWritten_frame {M : Nat} {a s : State} (h : Frame M a s) (k : Nat) (hm : Nat.lor 0x280000000000000000000000000000000000000000000000000000000000000000000000000000000000000000000000000000000000000000000000000000000000000000000000000000000000 M = M := by decide +kernel) :
    Frame M a (State.captureWritten s k) := by
  refine h.trans (Frame.mono hm ?_)
  unfold State.captureWritten
  repeat' with_reducible first
    | exact Frame.refl _ | apply Frame.ite | apply State.wr_frame | apply State.winState_frame | apply State.wrB_frame
    | decide +kernel | split

theorem execCaptureWindow_frame (t : Nat) (input : Nat) (s : State) : ∃ u, execCaptureWindow t input s = .next u ∧ Frame 0x80000000000000000000000000000000000000000000000000000000000000000000000000000000000000000000000000000000000000000000000000000000000000000000000000000000001 s u := by
  refine ⟨_, rfl, ?_⟩
  repeat' with_reducible first
    | exact Frame.refl _ | apply Frame.ite | apply State.at_frame | apply State.winState_frame | decide +kernel | split

theorem execCapture_frame (t : Nat) (input : Nat) (edge : Nat) (s : State) : ∃ u, execCapture t input edge s = .next u ∧ Frame 0x800000000007d00000000000000000000000000000000000000000000000000000000000000000000000000000000200800000000000000000000000000000000000000000000000000000000000000005000721 s u := by
  refine ⟨_, rfl, ?_⟩
  dsimp only
  repeat' with_reducible first
    | exact Frame.refl _ | apply Frame.ite | apply State.at_frame | apply State.wrB_frame | apply State.bump_frame
    | apply State.wr_frame | apply State.stamp_frame | apply State.record_frame | decide +kernel | split
    | fail_if_no_progress refine Frame.on_caps ?_ _

theorem State.timeMoved_frame {M : Nat} {a s : State} (h : Frame M a s) (origin : Bool) (backward : Bool) (hm : Nat.lor 0x8000000000000cfe80000000000000000000001000000000000000000000000000000000000000000000071000000200800000000000000000000000000000000000000000000000000000000000000004881720 M = M := by decide +kernel) :
    Frame M a (State.timeMoved s origin backward) := by
  refine h.trans (Frame.mono hm ?_)
  unfold State.timeMoved
  repeat' with_reducible first
    | exact Frame.refl _ | apply Frame.ite | apply State.eachStr_frame | apply State.modLaps_frame
    | apply State.chanStep_frame | apply State.pacerOrigin_frame | apply State.pacerRule_frame | apply State.winState_frame
    | decide +kernel | apply Frame.foldl | intro _ | split

end Sys2Proof.Machine
end

