-- ==== Sys2Proof/Laws/Frame/Time.lean ====
section
/-! SUPPORT. What the operations of Machine/Time.lean may change (`Frame`). -/

namespace Sys2Proof.Machine
open Obj

set_option linter.all false
set_option Elab.async false

theorem State.modDom_frame {M : Nat} {a s : State} (h : Frame M a s) (i : Nat) (f : Dom → Dom) (hm : Nat.lor 0x400000 M = M := by decide +kernel) :
    Frame M a (State.modDom s i f) := by
  refine h.trans (Frame.mono hm ?_)
  unfold State.modDom
  repeat' with_reducible first
    | exact Frame.refl _ | split | fail_if_no_progress refine Frame.on_time ?_ _

theorem State.retime_frame {M : Nat} {a s : State} (h : Frame M a s) (r : Int) (sv : Int) (left : Int) (hm : Nat.lor 0x400002 M = M := by decide +kernel) :
    Frame M a (State.retime s r sv left) := by
  refine h.trans (Frame.mono hm ?_)
  unfold State.retime
  repeat' with_reducible first
    | exact Frame.refl _ | apply Frame.ite | split | fail_if_no_progress refine Frame.on_clk ?_ _
    | fail_if_no_progress refine Frame.on_time ?_ _ | fail_if_no_progress refine Frame.mk' ?_

theorem State.domRegs_frame {M : Nat} {a s : State} (h : Frame M a s) (i : Nat) (hm : Nat.lor 0x2800000000000000000000000000000000000000000000000000000000000000000000000000000000000000000000000000000000000000000000000000000000000000000000000000000 M = M := by decide +kernel) :
    Frame M a (State.domRegs s i) := by
  refine h.trans (Frame.mono hm ?_)
  unfold State.domRegs
  repeat' with_reducible first
    | exact Frame.refl _ | apply Frame.ite | apply State.wrI_frame | decide +kernel | split

theorem State.timeRegs_frame {M : Nat} {a s : State} (h : Frame M a s)  (hm : Nat.lor 0x280001c000000000000000000000000000000000000000000000000000000000000000000000000000000000000000000000000000000000000000000000000000000002800000000000000 M = M := by decide +kernel) :
    Frame M a (State.timeRegs s) := by
  refine h.trans (Frame.mono hm ?_)
  unfold State.timeRegs
  repeat' with_reducible first
    | exact Frame.refl _ | apply Frame.ite | apply State.domRegs_frame | apply State.wr_frame | apply State.wrI_frame
    | apply State.wrB_frame | decide +kernel | split

theorem State.timeProps_frame {M : Nat} {a s : State} (h : Frame M a s)  (hm : Nat.lor 0x23c0000000000000000000000000000000000000000000000000000000000000000000000000000000000000000000000000000000000000000000000000000000000000000000000 M = M := by decide +kernel) :
    Frame M a (State.timeProps s) := by
  refine h.trans (Frame.mono hm ?_)
  unfold State.timeProps
  dsimp only
  repeat' with_reducible first
    | exact Frame.refl _ | apply Frame.ite | apply State.wrB_frame | apply State.wr_frame | decide +kernel | split

theorem State.moveBase_frame {M : Nat} {a s : State} (h : Frame M a s) (d : Int) (isStep : Bool) (hm : Nat.lor 0x400002 M = M := by decide +kernel) :
    Frame M a (State.moveBase s d isStep) := by
  refine h.trans (Frame.mono hm ?_)
  unfold State.moveBase
  repeat' with_reducible first
    | exact Frame.refl _ | apply Frame.ite | split | fail_if_no_progress refine Frame.on_clk ?_ _
    | fail_if_no_progress refine Frame.on_time ?_ _ | fail_if_no_progress refine Frame.mk' ?_

theorem State.movePhases_frame {M : Nat} {a s : State} (h : Frame M a s) (d : Int) (hm : Nat.lor 0x400000 M = M := by decide +kernel) :
    Frame M a (State.movePhases s d) := by
  refine h.trans (Frame.mono hm ?_)
  unfold State.movePhases
  repeat' with_reducible first
    | exact Frame.refl _ | apply Frame.ite | apply State.modDom_frame | decide +kernel | apply Frame.foldl | intro _ | split

theorem State.stepTime_frame {M : Nat} {a s : State} (h : Frame M a s) (i : Nat) (d : Int) (cause : Nat) (hm : Nat.lor 0x8000000000000cfe800001a0000000000000001000000000000000000000000000000000000000000000071000000200800000000000000000000000000000000000000000000000000000000000000004c81722 M = M := by decide +kernel) :
    Frame M a (State.stepTime s i d cause) := by
  refine h.trans (Frame.mono hm ?_)
  unfold State.stepTime
  repeat' with_reducible first
    | exact Frame.refl _ | apply State.movePhases_frame | apply State.moveBase_frame | apply State.wrI_frame
    | apply State.bump_frame | apply State.stamp_frame | apply State.record_frame | apply State.timeMoved_frame
    | decide +kernel | split

theorem State.firstLock_frame {M : Nat} {a s : State} (h : Frame M a s) (i : Nat) (hm : Nat.lor 0x8000000000000cfe800002033e0000000000001000000000000000000000000000000000000000000000071000000200800000000000000000000000000000000000000000000000000000000000000004c81722 M = M := by decide +kernel) :
    Frame M a (State.firstLock s i) := by
  refine h.trans (Frame.mono hm ?_)
  unfold State.firstLock
  repeat' with_reducible first
    | exact Frame.refl _ | apply State.wr_frame | apply State.movePhases_frame | apply State.moveBase_frame
    | apply State.retime_frame | apply State.modDom_frame | apply State.stamp_frame | apply State.wrB_frame
    | apply State.timeProps_frame | apply State.timeMoved_frame | apply State.record_frame | decide +kernel | intro _ | split

theorem State.switchTo_frame {M : Nat} {a s : State} (h : Frame M a s) (j : Nat) (hm : Nat.lor 0x8000000000000cfe800001e27e0000000000001000000000000000000000000000000000000000000000071000000200800000000000000000000000000000000000000000000000000000000000000004c81722 M = M := by decide +kernel) :
    Frame M a (State.switchTo s j) := by
  refine h.trans (Frame.mono hm ?_)
  unfold State.switchTo
  repeat' with_reducible first
    | exact Frame.refl _ | apply Frame.ite | apply State.wr_frame | apply State.modDom_frame | apply State.retime_frame
    | apply State.stepTime_frame | apply State.moveBase_frame | apply State.wrB_frame | apply State.bump_frame
    | apply State.timeProps_frame | apply State.record_frame | decide +kernel | intro _ | split

theorem State.setDom_frame {M : Nat} {a s : State} (h : Frame M a s) (i : Nat) (new : Nat) (hm : Nat.lor 0x800000000000000040000800000000000000000000000000000000000000000000000000000000000000000000000200800000000000000000000000000000000000000000000000000000000000000004400722 M = M := by decide +kernel) :
    Frame M a (State.setDom s i new) := by
  refine h.trans (Frame.mono hm ?_)
  unfold State.setDom
  repeat' with_reducible first
    | exact Frame.refl _ | apply Frame.ite | apply State.wr_frame | apply State.modDom_frame | apply State.stamp_frame
    | apply State.retime_frame | apply State.record_frame | decide +kernel | intro _ | split

theorem State.chooseDomain_frame {M : Nat} {a s : State} (h : Frame M a s)  (hm : Nat.lor 0x8000000000000cfe800003e37e0000000000001000000000000000000000000000000000000000000000071000000200800000000000000000000000000000000000000000000000000000000000000004c81722 M = M := by decide +kernel) :
    Frame M a (State.chooseDomain s) := by
  refine h.trans (Frame.mono hm ?_)
  unfold State.chooseDomain
  repeat' with_reducible first
    | exact Frame.refl _ | apply Frame.ite | apply State.firstLock_frame | apply State.switchTo_frame | decide +kernel | split

theorem State.timeState_frame {M : Nat} {a s : State} (h : Frame M a s)  (hm : Nat.lor 0x800000000000000000000000010000000656d80000000000000000000000000000000000000000000000000000000200800000000000000000000000000000000000000000000000000000000000000004500722 M = M := by decide +kernel) :
    Frame M a (State.timeState s) := by
  refine h.trans (Frame.mono hm ?_)
  unfold State.timeState
  repeat' with_reducible first
    | exact Frame.refl _ | apply Frame.ite | apply State.wr_frame | apply State.retime_frame | apply State.roleCheck_frame
    | apply State.record_frame | decide +kernel | split

theorem State.compareDoms_frame {M : Nat} {a s : State} (h : Frame M a s)  (hm : Nat.lor 0x800000000000000000000000800000000000000000000000000000000000000000000000000000000000000000000200800000000000000000000000000000000000000000000000000000000000000004400720 M = M := by decide +kernel) :
    Frame M a (State.compareDoms s) := by
  refine h.trans (Frame.mono hm ?_)
  unfold State.compareDoms
  repeat' with_reducible first
    | exact Frame.refl _ | apply Frame.ite | apply State.record_frame | apply State.wrB_frame | decide +kernel | split
    | fail_if_no_progress refine Frame.on_time ?_ _

theorem State.slewCheck_frame {M : Nat} {a s : State} (h : Frame M a s)  (hm : Nat.lor 0x400000000000000000000000000000000000000000000000000000000000000000000000000000000000000000000000000000000000000000000000000000000000000000400002 M = M := by decide +kernel) :
    Frame M a (State.slewCheck s) := by
  refine h.trans (Frame.mono hm ?_)
  unfold State.slewCheck
  repeat' with_reducible first
    | exact Frame.refl _ | apply Frame.ite | apply State.wrB_frame | apply State.retime_frame | decide +kernel | split

theorem State.timeCheck_frame {M : Nat} {a s : State} (h : Frame M a s)  (hm : Nat.lor 0x8000000000000cfe828003ffff0000000656d81000000000000000000000000000000000000000000000071000000200800000000000000000000000000000000000000000000000000000002800000004d81722 M = M := by decide +kernel) :
    Frame M a (State.timeCheck s) := by
  refine h.trans (Frame.mono hm ?_)
  unfold State.timeCheck
  repeat' with_reducible first
    | exact Frame.refl _ | apply State.timeRegs_frame | apply State.compareDoms_frame | apply State.timeState_frame
    | apply State.chooseDomain_frame | apply State.slewCheck_frame | decide +kernel | split

theorem State.masterRegs_frame {M : Nat} {a s : State} (h : Frame M a s) (i : Nat) (a_ : PtpAnnounce) (hm : Nat.lor 0x1ff000000000000000000000000000000000000000000000000000000000000000000000000000000000000000000000000000000000000000000000000000000000000000000000000000 M = M := by decide +kernel) :
    Frame M a (State.masterRegs s i a_) := by
  refine h.trans (Frame.mono hm ?_)
  unfold State.masterRegs
  repeat' with_reducible first
    | exact Frame.refl _ | apply State.wr_frame | apply State.wrB_frame | decide +kernel | split

theorem State.selectMaster_frame {M : Nat} {a s : State} (h : Frame M a s) (i : Nat) (hm : Nat.lor 0x8000000000000000601ff8023c0000000000000000000000000000000000000000000000000000000000000000000200800000000000000000000000000000000000000000000000000000000000000004400722 M = M := by decide +kernel) :
    Frame M a (State.selectMaster s i) := by
  refine h.trans (Frame.mono hm ?_)
  unfold State.selectMaster
  dsimp only
  repeat' with_reducible first
    | exact Frame.refl _ | apply Frame.ite | apply State.masterRegs_frame | apply State.modDom_frame
    | apply State.setDom_frame | apply State.record_frame | apply State.bump_frame | apply State.timeProps_frame
    | decide +kernel | intro _ | split

theorem State.domStart_frame {M : Nat} {a s : State} (h : Frame M a s) (i : Nat) (hm : Nat.lor 0x800000000000000040000800000000000000000000000000000000000000000000000000000000000000000000000200800000000000000000000000000000000000000000000000000000000000000004400722 M = M := by decide +kernel) :
    Frame M a (State.domStart s i) := by
  refine h.trans (Frame.mono hm ?_)
  unfold State.domStart
  repeat' with_reducible first
    | exact Frame.refl _ | apply Frame.ite | apply State.setDom_frame | apply State.modDom_frame | decide +kernel | intro _
    | split

theorem State.domWritten_frame {M : Nat} {a s : State} (h : Frame M a s) (o : State) (i : Nat) (hm : Nat.lor 0x8000000000000cfec2800bffff0000000656d81000000000000000000000000000000000000000000000071000000200800000000000000000000000000000000000000000000000000000002800000004d81722 M = M := by decide +kernel) :
    Frame M a (State.domWritten s o i) := by
  refine h.trans (Frame.mono hm ?_)
  unfold State.domWritten
  repeat' with_reducible first
    | exact Frame.refl _ | apply Frame.ite | apply State.timeCheck_frame | apply State.domStart_frame | decide +kernel | split

theorem execAnnouncePtp_frame (t : Nat) (port : Nat) (dom : Nat) (m : PtpAnnounce) (s : State) : ∃ u, execAnnouncePtp t port dom m s = .next u ∧ Frame 0x8000000000000cfee29ffbffff0000000656d81000000000000000000000000000000000000000000000071000000200800000000000000000000000000000000000000000000000000000002800000004d81723 s u := by
  refine ⟨_, rfl, ?_⟩
  repeat' with_reducible first
    | exact Frame.refl _ | apply Frame.ite | apply State.at_frame | apply State.timeCheck_frame
    | apply State.selectMaster_frame | apply State.modDom_frame | decide +kernel | apply Frame.foldl | intro _ | split

theorem execPdelayReq_frame (t : Nat) (port : Nat) (dom : Nat) (seq : Nat) (ident : Nat) (pnum : Nat) (turn : Nat) (s : State) : ∃ u, execPdelayReq t port dom seq ident pnum turn s = .next u ∧ Frame 0x4000001 s u := by
  refine ⟨_, rfl, ?_⟩
  repeat' with_reducible first
    | exact Frame.refl _ | apply Frame.ite | apply State.at_frame | apply State.send_frame | decide +kernel | intro _ | split

theorem execPdelayExchange_frame (t : Nat) (port : Nat) (resp : Option (Nat × Nat × Int)) (s : State) : ∃ u, execPdelayExchange t port resp s = .next u ∧ Frame 0x1000000000000000000000000000000000000000000000000000000000000000000000000000000000000000000000000000000000000000000000000000000000000000000000004400001 s u := by
  refine ⟨_, rfl, ?_⟩
  repeat' with_reducible first
    | exact Frame.refl _ | apply Frame.ite | apply State.at_frame | apply State.send_frame | apply State.wr_frame
    | decide +kernel | apply Frame.foldl | intro _ | split | fail_if_no_progress refine Frame.on_time ?_ _
    | fail_if_no_progress refine Frame.mk' ?_ | dsimp only

theorem State.acceptSample_frame {M : Nat} {a s : State} (h : Frame M a s) (i : Nat) (rx : Nat) (o : Int) (pred : Int) (dt : Nat) (steer : Bool) (hm : Nat.lor 0x800000000000000044000800000000000000000000000000000000000000000000000000000000000000000000000200800000000000000000000000000000000000000000000000000000000000000004400722 M = M := by decide +kernel) :
    Frame M a (State.acceptSample s i rx o pred dt steer) := by
  refine h.trans (Frame.mono hm ?_)
  unfold State.acceptSample
  repeat' with_reducible first
    | exact Frame.refl _ | apply Frame.ite | apply State.bump_frame | apply State.modDom_frame | apply State.retime_frame
    | apply State.setDom_frame | decide +kernel | intro _ | split

theorem State.syncSample_frame {M : Nat} {a s : State} (h : Frame M a s) (i : Nat) (rx : Nat) (t1 : Nat) (corr : Int) (mld : Int) (hm : Nat.lor 0x8000000000000cfecc0009a0000000000000001000000000000000000000000000000000000000000000071000000200800000000000000000000000000000000000000000000000000000000000000004c81722 M = M := by decide +kernel) :
    Frame M a (State.syncSample s i rx t1 corr mld) := by
  refine h.trans (Frame.mono hm ?_)
  unfold State.syncSample
  repeat' with_reducible first
    | exact Frame.refl _ | apply Frame.ite | apply State.modDom_frame | apply State.acceptSample_frame
    | apply State.stepTime_frame | apply State.retime_frame | apply State.bump_frame | decide +kernel | intro _ | split

theorem execPtpSync_frame (t : Nat) (rx : Nat) (port : Nat) (dom : Nat) (ident : Nat) (pnum : Nat) (t1 : Nat) (corr : Int) (twoStep : Bool) (log : Int) (s : State) : ∃ u, execPtpSync t rx port dom ident pnum t1 corr twoStep log s = .next u ∧ Frame 0x8000000000000cfecee00bffff0000000656d81000000000000000000000000000000000000000000000071000000200800000000000000000000000000000000000000000000000000000002800000004d81723 s u := by
  refine ⟨_, rfl, ?_⟩
  repeat' with_reducible first
    | exact Frame.refl _ | apply Frame.ite | apply State.at_frame | apply State.timeCheck_frame | apply State.wr_frame
    | apply State.wrB_frame | apply State.syncSample_frame | decide +kernel | apply Frame.foldl | intro _ | split

theorem execDomainState_frame (t : Nat) (dom : Nat) (s : State) : ∃ u, execDomainState t dom s = .next u ∧ Frame 0x8000000000000cfef29ffbffff0000000656d81000000000000000000000000000000000000000000000071000000200800000000000000000000000000000000000000000000000000000002800000004d81723 s u := by
  refine ⟨_, rfl, ?_⟩
  repeat' with_reducible first
    | exact Frame.refl _ | apply Frame.ite | apply State.at_frame | apply State.bump_frame | apply State.modDom_frame
    | apply State.selectMaster_frame | apply State.setDom_frame | apply State.timeCheck_frame | decide +kernel | intro _
    | split

theorem execReturnQual_frame (t : Nat) (s : State) : ∃ u, execReturnQual t s = .next u ∧ Frame 0x8000000000000cfe828003ffff0000000656d81000000000000000000000000000000000000000000000071000000200800000000000000000000000000000000000000000000000000000002800000004d81723 s u := by
  refine ⟨_, rfl, ?_⟩
  repeat' with_reducible first
    | exact Frame.refl _ | apply Frame.ite | apply State.at_frame | apply State.timeCheck_frame | decide +kernel | split

theorem execSlewComplete_frame (t : Nat) (s : State) : ∃ u, execSlewComplete t s = .next u ∧ Frame 0x280001c400000000000000000000000000000000000000000000000000000000000000000000000000000000000000000000000000000000000000000000000000000002800000000400003 s u := by
  refine ⟨_, rfl, ?_⟩
  repeat' with_reducible first
    | exact Frame.refl _ | apply Frame.ite | apply State.at_frame | apply State.timeRegs_frame | apply State.slewCheck_frame
    | decide +kernel | split

theorem execTimeState_frame (t : Nat) (s : State) : ∃ u, execTimeState t s = .next u ∧ Frame 0x80000000000000000280001c010000000656d80000000000000000000000000000000000000000000000000000000200800000000000000000000000000000000000000000000000000000002800000004500723 s u := by
  refine ⟨_, rfl, ?_⟩
  repeat' with_reducible first
    | exact Frame.refl _ | apply Frame.ite | apply State.at_frame | apply State.timeRegs_frame | apply State.timeState_frame
    | decide +kernel | split

theorem execDomainDisagree_frame (t : Nat) (s : State) : ∃ u, execDomainDisagree t s = .next u ∧ Frame 0x800000000000000000000000800000000000000000000000000000000000000000000000000000000000000000000200800000000000000000000000000000000000000000000000000000000000000004400721 s u := by
  refine ⟨_, rfl, ?_⟩
  repeat' with_reducible first
    | exact Frame.refl _ | apply Frame.ite | apply State.at_frame | apply State.compareDoms_frame | decide +kernel | split

end Sys2Proof.Machine
end

