-- ==== Sys2Proof/Laws/Frame/Can.lean ====
section
/-! SUPPORT. What the operations of Machine/Can.lean may change (`Frame`). -/

namespace Sys2Proof.Machine
open Obj

set_option linter.all false
set_option Elab.async false

theorem State.canConfine_frame {M : Nat} {a s : State} (h : Frame M a s) (ch : Nat) (hm : Nat.lor 0x800000012000000000000000000000000000000000000000000000000000000000000000000000000000000000000200800000000000000000000000000000000000000000000000000000000000000004000720 M = M := by decide +kernel) :
    Frame M a (State.canConfine s ch) := by
  refine h.trans (Frame.mono hm ?_)
  unfold State.canConfine
  repeat' with_reducible first
    | exact Frame.refl _ | apply Frame.ite | apply State.wr_frame | apply State.record_frame | apply State.wrB_frame
    | decide +kernel | split

theorem State.partnerSeen_frame {M : Nat} {a s : State} (h : Frame M a s) (ch : Nat) (hm : Nat.lor 0x800000240000000000000000000000000000000000000000000000000000000000000000000000000000000000000200800000000000000000000000000000000000000000000000000000000000000004040720 M = M := by decide +kernel) :
    Frame M a (State.partnerSeen s ch) := by
  refine h.trans (Frame.mono hm ?_)
  unfold State.partnerSeen
  repeat' with_reducible first
    | exact Frame.refl _ | apply Frame.ite | apply State.wr_frame | apply State.record_frame | apply State.wrB_frame
    | apply State.modBus_frame | decide +kernel | intro _ | split

theorem State.txFailed_frame {M : Nat} {a s : State} (h : Frame M a s) (ch : Nat) (o : Nat) (cause : Nat) (hm : Nat.lor 0x800500000000000000000000000000400000000000000000000000000000000000000000000000000000000000000200800000000000000000000000000000000000000000000000000000000000000004040720 M = M := by decide +kernel) :
    Frame M a (State.txFailed s ch o cause) := by
  refine h.trans (Frame.mono hm ?_)
  unfold State.txFailed
  repeat' with_reducible first
    | exact Frame.refl _ | apply Frame.ite | apply State.wr_frame | apply State.wrB_frame | apply State.undelivered_frame
    | apply State.record_frame | apply State.modBus_frame | decide +kernel | intro _ | split

theorem State.pendReg_frame {M : Nat} {a s : State} (h : Frame M a s) (ch : Nat) (o : Nat) (hm : Nat.lor 0x200000000000000000000000000000000000000000000000000000000000000000000000000000000000000000000000000000000000000000000000000000000000000000000000000000000000000000000 M = M := by decide +kernel) :
    Frame M a (State.pendReg s ch o) := by
  refine h.trans (Frame.mono hm ?_)
  unfold State.pendReg
  repeat' with_reducible first
    | exact Frame.refl _ | apply State.wrB_frame | decide +kernel | split

theorem State.attemptFailed_frame {M : Nat} {a s : State} (h : Frame M a s) (ch : Nat) (o : Nat) (cause : Nat) (d : Bytes) (hm : Nat.lor 0x810700000000000000000000000000400000000000000000000000000000000000000000000000000000000000000200800000000000000000000000000000000000000000000000000000000000000004040720 M = M := by decide +kernel) :
    Frame M a (State.attemptFailed s ch o cause d) := by
  refine h.trans (Frame.mono hm ?_)
  unfold State.attemptFailed
  repeat' with_reducible first
    | exact Frame.refl _ | apply Frame.ite | apply State.modBus_frame | apply State.txFailed_frame
    | apply State.undelivered_frame | apply State.bump_frame | apply State.pendReg_frame | decide +kernel | intro _ | split

theorem State.busOff_frame {M : Nat} {a s : State} (h : Frame M a s) (ch : Nat) (hm : Nat.lor 0x80071842e000000000000000000000400000000000000000000000000000000000000000000000000000000000000200800000000000000000000000000000000000000000000000000000000000000004040720 M = M := by decide +kernel) :
    Frame M a (State.busOff s ch) := by
  refine h.trans (Frame.mono hm ?_)
  unfold State.busOff
  repeat' with_reducible first
    | exact Frame.refl _ | apply Frame.ite | apply State.wr_frame | apply State.modBus_frame | apply State.pendReg_frame
    | apply State.txFailed_frame | apply State.stamp_frame | apply State.bump_frame | apply State.wrB_frame
    | apply State.record_frame | apply State.fallbackEnter_frame | apply State.canLeave_frame | decide +kernel
    | apply Frame.foldl | intro _ | split

theorem State.ackRun_frame {M : Nat} {a s : State} (h : Frame M a s) (ch : Nat) (hm : Nat.lor 0x800008240000000000000000000000000000000000000000000000000000000000000000000000000000000000000200800000000000000000000000000000000000000000000000000000000000000004040720 M = M := by decide +kernel) :
    Frame M a (State.ackRun s ch) := by
  refine h.trans (Frame.mono hm ?_)
  unfold State.ackRun
  repeat' with_reducible first
    | exact Frame.refl _ | apply Frame.ite | apply State.bump_frame | apply State.record_frame | apply State.wrB_frame
    | apply State.fallbackEnter_frame | decide +kernel | split

theorem State.canNext_frame {M : Nat} {a s : State} (h : Frame M a s) (ch : Nat) (hm : Nat.lor 0x60000e000000000000000000000400000000000000000000000000000000000000000000000000000000000000000000000000000000000000000000000000000000000000000000000000000000004040000 M = M := by decide +kernel) :
    Frame M a (State.canNext s ch) := by
  refine h.trans (Frame.mono hm ?_)
  unfold State.canNext
  repeat' with_reducible first
    | exact Frame.refl _ | apply Frame.ite | apply State.canLeave_frame | apply State.canOffer_frame | decide +kernel | split

theorem execCanTxComplete_frame (t : Nat) (ch : Nat) (outcome : Nat) (loop : Nat) (s : State) : ∃ u, execCanTxComplete t ch outcome loop s = .next u ∧ Frame 0x83871cefe000000000000000000000400000000000000000000000000000000000000000000000000000000000000200800000000000000000000000000000000000000000000000000000000000000004040721 s u := by
  refine ⟨_, rfl, ?_⟩
  repeat' with_reducible first
    | exact Frame.refl _ | apply Frame.ite | apply State.at_frame | apply State.wr_frame | apply State.modBus_frame
    | apply State.bump_frame | apply State.pendReg_frame | apply State.stamp_frame | apply State.canNext_frame
    | apply State.canConfine_frame | apply State.partnerSeen_frame | apply State.attemptFailed_frame
    | apply State.ackRun_frame | apply State.busOff_frame | decide +kernel | intro _ | split

theorem State.msgLost_frame {M : Nat} {a s : State} (h : Frame M a s) (ch : Nat) (o : Nat) (hm : Nat.lor 0x800000000000000000000000000000000000000000000000000000000000000000000000000000000000000000000200800000000000000000000000000000000000000000000000000000000000000004040720 M = M := by decide +kernel) :
    Frame M a (State.msgLost s ch o) := by
  refine h.trans (Frame.mono hm ?_)
  unfold State.msgLost
  repeat' with_reducible first
    | exact Frame.refl _ | apply Frame.ite | apply State.record_frame | apply State.modBus_frame | decide +kernel | intro _
    | split

theorem execCanFrameReceived_frame (t : Nat) (ch : Nat) (ident : Nat) (xtd : Bool) (remote : Bool) (brs : Bool) (esi : Bool) (data : Bytes) (s : State) : ∃ u, execCanFrameReceived t ch ident xtd remote brs esi data s = .next u ∧ Frame 0x8678c325a000000000000000000000000000000000000000000000000000000000000000000000000000000000000200800000000000000000000000000000000000000000000000000000000000000006040721 s u := by
  refine ⟨_, rfl, ?_⟩
  dsimp only
  repeat' with_reducible first
    | exact Frame.refl _ | apply Frame.ite | apply State.at_frame | apply State.bump_frame | apply State.fresh_frame
    | apply State.wr_frame | apply State.canConfine_frame | apply State.partnerSeen_frame | apply State.stamp_frame
    | apply State.wrB_frame | apply State.msgLost_frame | decide +kernel | split | refine Frame.snd (by assumption) ?_

theorem execCanBusError_frame (t : Nat) (ch : Nat) (by8 : Bool) (s : State) : ∃ u, execCanBusError t ch by8 s = .next u ∧ Frame 0x80000421a000000000000000000000000000000000000000000000000000000000000000000000000000000000000200800000000000000000000000000000000000000000000000000000000000000004000721 s u := by
  refine ⟨_, rfl, ?_⟩
  repeat' with_reducible first
    | exact Frame.refl _ | apply Frame.ite | apply State.at_frame | apply State.bump_frame | apply State.canConfine_frame
    | apply State.wr_frame | decide +kernel | split

theorem execBusIntegrationComplete_frame (t : Nat) (ch : Nat) (s : State) : ∃ u, execBusIntegrationComplete t ch s = .next u ∧ Frame 0x60000e000000000000000000000400000000000000000000000000000000000000000000000000000000000000000000000000000000000000000000000000000000000000000000000000000000004040001 s u := by
  refine ⟨_, rfl, ?_⟩
  repeat' with_reducible first
    | exact Frame.refl _ | apply Frame.ite | apply State.at_frame | apply State.canNext_frame | apply State.wr_frame
    | decide +kernel | split

theorem execBusOffRecovered_frame (t : Nat) (ch : Nat) (s : State) : ∃ u, execBusOffRecovered t ch s = .next u ∧ Frame 0x80060000e000000000000000000000400000000000000000000000000000000000000000000000000000000000000200800000000000000000000000000000000000000000000000000000000000000004040721 s u := by
  refine ⟨_, rfl, ?_⟩
  repeat' with_reducible first
    | exact Frame.refl _ | apply Frame.ite | apply State.at_frame | apply State.wr_frame | apply State.modBus_frame
    | apply State.canNext_frame | apply State.record_frame | decide +kernel | intro _ | split

theorem State.canRecover_frame {M : Nat} {a s : State} (h : Frame M a s) (ch : Nat) (hm : Nat.lor 0x2000000000000000000000000000000000000000000000000000000000000000000000000000000000000000000000000000000000000000000000000000000000000000000000000000000000040000 M = M := by decide +kernel) :
    Frame M a (State.canRecover s ch) := by
  refine h.trans (Frame.mono hm ?_)
  unfold State.canRecover
  repeat' with_reducible first
    | exact Frame.refl _ | apply State.wr_frame | apply State.modBus_frame | decide +kernel | intro _ | split

theorem execFallbackDatagram_frame (t : Nat) (ch : Nat) (s : State) : ∃ u, execFallbackDatagram t ch s = .next u ∧ Frame 0x8000000000000000000000000000000000000000000000000000000000000000000000000000000000000000000000000000000000000000000000000000000000000000000000000000000000004040001 s u := by
  refine ⟨_, rfl, ?_⟩
  repeat' with_reducible first
    | exact Frame.refl _ | apply Frame.ite | apply State.at_frame | apply State.fallbackSend_frame | apply State.modBus_frame
    | decide +kernel | intro _ | split

theorem State.canChanWritten_frame {M : Nat} {a s : State} (h : Frame M a s) (o : State) (ch : Nat) (hm : Nat.lor 0x60000e000000000000000000000400000000000000000000000000000000000000000000000000000000000000000000000000000000000000000000000000000000000000000000000000000000004040000 M = M := by decide +kernel) :
    Frame M a (State.canChanWritten s o ch) := by
  refine h.trans (Frame.mono hm ?_)
  unfold State.canChanWritten
  repeat' with_reducible first
    | exact Frame.refl _ | apply Frame.ite | apply State.canStop_frame | apply State.canStart_frame
    | apply State.canOffer_frame | decide +kernel | intro _ | split

theorem State.canBegin_frame {M : Nat} {a s : State} (h : Frame M a s)  (hm : Nat.lor 0x2000e000000000000000000000000000000000000000000000000000000000000000000000000000000000000000000000000000000000000000000000000000000000000000000000000000000000000000 M = M := by decide +kernel) :
    Frame M a (State.canBegin s) := by
  refine h.trans (Frame.mono hm ?_)
  unfold State.canBegin
  repeat' with_reducible first
    | exact Frame.refl _ | apply Frame.ite | apply State.canStart_frame | apply State.ownerRefresh_frame | decide +kernel
    | apply Frame.foldl | intro _ | split

end Sys2Proof.Machine
end

