-- ==== Sys2Proof/Laws/Frame/StreamOps.lean ====
section
/-! SUPPORT. What the operations of Machine/StreamOps.lean may change (`Frame`). -/

namespace Sys2Proof.Machine
open Obj

set_option linter.all false
set_option Elab.async false

theorem State.markSending_frame {M : Nat} {a s : State} (h : Frame M a s)  (hm : Nat.lor 0x200 M = M := by decide +kernel) :
    Frame M a (State.markSending s) := by
  refine h.trans (Frame.mono hm ?_)
  unfold State.markSending
  repeat' with_reducible first
    | exact Frame.refl _ | intro _ | split | fail_if_no_progress refine Frame.on_hist ?_ _

theorem State.strayStream_frame {M : Nat} {a s : State} (h : Frame M a s) (q : Stream) (hm : Nat.lor 0xa0000000000000000000000000000000000000000000000000000000000000000000000000000600000000000000000000000000000000000000000000000000000000000000000000000000000000000000000000000000000 M = M := by decide +kernel) :
    Frame M a (State.strayStream s q) := by
  refine h.trans (Frame.mono hm ?_)
  unfold State.strayStream
  repeat' with_reducible first
    | exact Frame.refl _ | apply Frame.ite | apply State.wr_frame | apply State.wrB_frame | decide +kernel | split

theorem State.closeStream_frame {M : Nat} {a s : State} (h : Frame M a s) (num : Nat) (q : Stream) (hm : Nat.lor 0xa0000000000000000000000000000000000000000000000000000000000000000000000000000600000000000000000000000000000000000000000000000000000000000000000000000000000000000000000000000000300 M = M := by decide +kernel) :
    Frame M a (State.closeStream s num q) := by
  refine h.trans (Frame.mono hm ?_)
  unfold State.closeStream
  repeat' with_reducible first
    | exact Frame.refl _ | apply Frame.ite | apply State.modSess_frame | apply State.strayStream_frame
    | apply State.markSending_frame | decide +kernel | intro _ | split

theorem State.stopStreams_frame {M : Nat} {a s : State} (h : Frame M a s)  (hm : Nat.lor 0xa0000000000000000000000000000000000000000000000000000000000000000000000000000600000000000000000000000000000000000000000000000000000000000000000000000000000000000000000000000000300 M = M := by decide +kernel) :
    Frame M a (State.stopStreams s) := by
  refine h.trans (Frame.mono hm ?_)
  unfold State.stopStreams
  repeat' with_reducible first
    | exact Frame.refl _ | apply State.closeStream_frame | decide +kernel | apply Frame.foldl | intro _ | split
    | fail_if_no_progress refine Frame.on_mbx ?_ _

end Sys2Proof.Machine
end

