-- ==== Sys2Proof/Laws/Frame/I2c.lean ====
section
/-! SUPPORT. What the operations of Machine/I2c.lean may change (`Frame`). -/

namespace Sys2Proof.Machine
open Obj

set_option linter.all false
set_option Elab.async false

theorem State.portRegs_frame {M : Nat} {a s : State} (h : Frame M a s)  (hm : Nat.lor 0x100000000000000000000000000000000000000000000000000000000000000000000000000000000000000000000000000000000000000000000000000000000000000000000000000000000000000000000000 M = M := by decide +kernel) :
    Frame M a (State.portRegs s) := by
  refine h.trans (Frame.mono hm ?_)
  unfold State.portRegs
  repeat' with_reducible first
    | exact Frame.refl _ | apply Frame.ite | apply State.wr_frame | decide +kernel | split

theorem State.portStart_frame {M : Nat} {a s : State} (h : Frame M a s)  (hm : Nat.lor 0x900000000000000000000000000000000000000000000000000000000000000000000000000000000000000000000000000000000000000000000000000000000000000000000000000000000000000000000400 M = M := by decide +kernel) :
    Frame M a (State.portStart s) := by
  refine h.trans (Frame.mono hm ?_)
  unfold State.portStart
  repeat' with_reducible first
    | exact Frame.refl _ | apply State.portRegs_frame | apply State.attention_frame | decide +kernel | split
    | fail_if_no_progress refine Frame.on_i2c ?_ _

theorem State.linesHigh_frame {M : Nat} {a s : State} (h : Frame M a s)  (hm : Nat.lor 0x200000000000000000000000000000000000000000000000000000000000000000000000000000000000000000000000000000000000000000000000000000000000000000000000000000000000000000000400 M = M := by decide +kernel) :
    Frame M a (State.linesHigh s) := by
  refine h.trans (Frame.mono hm ?_)
  unfold State.linesHigh
  repeat' with_reducible first
    | exact Frame.refl _ | apply Frame.ite | apply State.wrB_frame | decide +kernel | split
    | fail_if_no_progress refine Frame.on_i2c ?_ _

theorem State.clearRecord_frame {M : Nat} {a s : State} (h : Frame M a s)  (hm : Nat.lor 0x800000000000000000000000000000000000000000000000000000000000000000000000000000000000000000000000000000000000000000000000000000000000000000000000000000000000000000000400 M = M := by decide +kernel) :
    Frame M a (State.clearRecord s) := by
  refine h.trans (Frame.mono hm ?_)
  unfold State.clearRecord
  repeat' with_reducible first
    | exact Frame.refl _ | apply State.wrB_frame | decide +kernel | split | fail_if_no_progress refine Frame.on_i2c ?_ _

theorem State.addressed_frame {M : Nat} {a s : State} (h : Frame M a s) (addr : Nat) (hm : Nat.lor 0xc200000000000000000000000000000000000000000000000000000000000000000000000000000000000000000000000000000000000000000000000000000000000000000000000000000000000000004000400 M = M := by decide +kernel) :
    Frame M a (State.addressed s addr).1 := by
  refine h.trans (Frame.mono hm ?_)
  unfold State.addressed
  dsimp only
  repeat' with_reducible first
    | exact Frame.refl _ | apply Frame.ite | apply State.linesHigh_frame | apply State.bump_frame | apply State.send_frame
    | decide +kernel | split | fail_if_no_progress refine Frame.on_i2c ?_ _

theorem State.selectWindow_frame {M : Nat} {a s : State} (h : Frame M a s) (addr : Nat) (z2 : Bytes) (hm : Nat.lor 0x12000000000000000000000000000000000000000000000000000000000000000000000000000000000000000000000000000000000000000000000000000000000000000000000000000000000000000004000000 M = M := by decide +kernel) :
    Frame M a (State.selectWindow s addr z2) := by
  refine h.trans (Frame.mono hm ?_)
  unfold State.selectWindow
  repeat' with_reducible first
    | exact Frame.refl _ | apply Frame.ite | apply State.send_frame | apply State.wr_frame | apply State.bump_frame
    | decide +kernel | split

theorem State.sendWindow_frame {M : Nat} {a s : State} (h : Frame M a s) (addr : Nat) (n : Nat) (stop : Bool) (hm : Nat.lor 0x800000000000000000000000000000000000000000000000000000000000000000000000000000000000000000000000000000000000000000000000000000000000000000000000000000000000000004000400 M = M := by decide +kernel) :
    Frame M a (State.sendWindow s addr n stop) := by
  refine h.trans (Frame.mono hm ?_)
  unfold State.sendWindow
  repeat' with_reducible first
    | exact Frame.refl _ | apply Frame.ite | apply State.send_frame | apply State.clearRecord_frame | decide +kernel | intro _
    | split

theorem execI2cWrite_frame (t : Nat) (addr : Nat) (data : Bytes) (s : State) : ∃ u, execI2cWrite t addr data s = .next u ∧ Frame 0x1e300000000000000000000000000000000000000000000000000000000000000000000000000000000000000000000000000000000000000000000000000000000000000000000000000000000000000004000401 s u := by
  unfold execI2cWrite
  have h : Frame 0x1e300000000000000000000000000000000000000000000000000000000000000000000000000000000000000000000000000000000000000000000000000000000000000000000000000000000000000004000401 s ((s.at t).addressed addr).1 := State.addressed_frame (State.at_frame (Frame.refl s) t) ..
  generalize (s.at t).addressed addr = p at h ⊢
  obtain ⟨v, ok⟩ := p
  refine ⟨_, rfl, State.portRegs_frame ?_ ..⟩
  split
  · exact State.selectWindow_frame h ..
  · exact h

theorem execI2cRead_frame (t : Nat) (addr : Nat) (n : Nat) (stop : Bool) (s : State) : ∃ u, execI2cRead t addr n stop s = .next u ∧ Frame 0xcb00000000000000000000000000000000000000000000000000000000000000000000000000000000000000000000000000000000000000000000000000000000000000000000000000000000000000004000401 s u := by
  unfold execI2cRead
  have h : Frame 0xcb00000000000000000000000000000000000000000000000000000000000000000000000000000000000000000000000000000000000000000000000000000000000000000000000000000000000000004000401 s ((s.at t).addressed addr).1 := State.addressed_frame (State.at_frame (Frame.refl s) t) ..
  generalize (s.at t).addressed addr = p at h ⊢
  obtain ⟨v, ok⟩ := p
  refine ⟨_, rfl, State.portRegs_frame ?_ ..⟩
  split
  · exact State.sendWindow_frame h ..
  · exact h

theorem execStretchLimits_frame (t : Nat) (addr : Nat) (n : Nat) (stop : Bool) (s : State) : ∃ u, execStretchLimits t addr n stop s = .next u ∧ Frame 0x2cb00000000000000000000000000000000000000000000000000000000000000000000000000000000000000000000000000000000000000000000000000000000000000000000000000000000000000004000401 s u := by
  unfold execStretchLimits
  have h : Frame 0x2cb00000000000000000000000000000000000000000000000000000000000000000000000000000000000000000000000000000000000000000000000000000000000000000000000000000000000000004000401 s ((s.at t).addressed addr).1 := State.addressed_frame (State.at_frame (Frame.refl s) t) ..
  generalize (s.at t).addressed addr = p at h ⊢
  obtain ⟨v, ok⟩ := p
  refine ⟨_, rfl, State.portRegs_frame ?_ ..⟩
  split
  · exact h
  split
  · exact State.send_frame (State.bump_frame h ..) ..
  · exact State.sendWindow_frame h ..

theorem execI2cSleep_frame (t : Nat) (s : State) : ∃ u, execI2cSleep t s = .next u ∧ Frame 0x100000000000000000000000000000000000000000000000000000000000000000000000000000000000000000000000000000000000000000000000000000000000000000000000000000000000000000000401 s u := by
  refine ⟨_, rfl, ?_⟩
  repeat' with_reducible first
    | exact Frame.refl _ | apply Frame.ite | apply State.at_frame | apply State.portRegs_frame | decide +kernel | split
    | fail_if_no_progress refine Frame.on_i2c ?_ _

theorem execI2cWake_frame (t : Nat) (addr : Nat) (s : State) : ∃ u, execI2cWake t addr s = .next u ∧ Frame 0xc300000000000000000000000000000000000000000000000000000000000000000000000000000000000000000000000000000000000000000000000000000000000000000000000000000000000000004000401 s u := by
  refine ⟨_, rfl, ?_⟩
  repeat' with_reducible first
    | exact Frame.refl _ | apply State.portRegs_frame | apply State.addressed_frame | apply State.at_frame | decide +kernel
    | split | refine Frame.fst (by assumption) ?_

theorem State.attnRefused_frame {M : Nat} {a s : State} (h : Frame M a s)  (hm : Nat.lor 0x101800000000000000000000000000000000000000000000000000000000000000000000000000000000000000000000200800000000000000000000000000000000000000000000000000000000000000004000720 M = M := by decide +kernel) :
    Frame M a (State.attnRefused s) := by
  refine h.trans (Frame.mono hm ?_)
  unfold State.attnRefused
  repeat' with_reducible first
    | exact Frame.refl _ | apply Frame.ite | apply State.bump_frame | apply State.record_frame | apply State.wrB_frame
    | decide +kernel | split | fail_if_no_progress refine Frame.on_i2c ?_ _

theorem State.attempt_frame {M : Nat} {a s : State} (h : Frame M a s) (outcome : Nat) (hm : Nat.lor 0x381800000000000000000000000000000000000000000000000000000000000000000000000000000000000000000000200800000000000000000000000000000000000000000000000000000000000000004000720 M = M := by decide +kernel) :
    Frame M a (State.attempt s outcome) := by
  refine h.trans (Frame.mono hm ?_)
  unfold State.attempt
  repeat' with_reducible first
    | exact Frame.refl _ | apply State.send_frame | apply State.clearRecord_frame | apply State.bump_frame
    | apply State.attnRefused_frame | decide +kernel | split | fail_if_no_progress refine Frame.on_i2c ?_ _

theorem execAttentionWrite_frame (t : Nat) (outcome : Nat) (s : State) : ∃ u, execAttentionWrite t outcome s = .next u ∧ Frame 0x381900000000000000000000000000000000000000000000000000000000000000000000000000000000000000000000200800000000000000000000000000000000000000000000000000000000000000004000721 s u := by
  refine ⟨_, rfl, ?_⟩
  repeat' with_reducible first
    | exact Frame.refl _ | apply Frame.ite | apply State.at_frame | apply State.portRegs_frame | apply State.attempt_frame
    | decide +kernel | split

theorem execAttnRetry_frame (t : Nat) (outcome : Nat) (s : State) : ∃ u, execAttnRetry t outcome s = .next u ∧ Frame 0x381900000000000000000000000000000000000000000000000000000000000000000000000000000000000000000000200800000000000000000000000000000000000000000000000000000000000000004000721 s u := by
  refine ⟨_, rfl, ?_⟩
  repeat' with_reducible first
    | exact Frame.refl _ | apply Frame.ite | apply State.at_frame | apply State.portRegs_frame | apply State.attempt_frame
    | decide +kernel | split

theorem execAbortsRstart_frame (t : Nat) (addr : Nat) (s : State) : ∃ u, execAbortsRstart t addr s = .next u ∧ Frame 0x4c300000000000000000000000000000000000000000000000000000000000000000000000000000000000000000000000000000000000000000000000000000000000000000000000000000000000000004000401 s u := by
  unfold execAbortsRstart
  have h : Frame 0x4c300000000000000000000000000000000000000000000000000000000000000000000000000000000000000000000000000000000000000000000000000000000000000000000000000000000000000004000401 s ((s.at t).addressed addr).1 := State.addressed_frame (State.at_frame (Frame.refl s) t) ..
  generalize (s.at t).addressed addr = p at h ⊢
  obtain ⟨v, ok⟩ := p
  refine ⟨_, rfl, State.portRegs_frame ?_ ..⟩
  split
  · exact State.bump_frame h ..
  · exact h

theorem execI2cIdleRelease_frame (t : Nat) (addr : Nat) (s : State) : ∃ u, execI2cIdleRelease t addr s = .next u ∧ Frame 0xc300000000000000000000000000000000000000000000000000000000000000000000000000000000000000000000000000000000000000000000000000000000000000000000000000000000000000004000401 s u := by
  unfold execI2cIdleRelease
  have h : Frame 0xc300000000000000000000000000000000000000000000000000000000000000000000000000000000000000000000000000000000000000000000000000000000000000000000000000000000000000004000401 s ((s.at t).addressed addr).1 := State.addressed_frame (State.at_frame (Frame.refl s) t) ..
  generalize (s.at t).addressed addr = p at h ⊢
  obtain ⟨v, ok⟩ := p
  refine ⟨_, rfl, State.portRegs_frame ?_ ..⟩
  split
  · exact State.send_frame h ..
  · exact h

theorem State.recover_frame {M : Nat} {a s : State} (h : Frame M a s) (line : Nat) (pulses : Nat) (rep : Nat) (hm : Nat.lor 0x400a00000000000000000000000000000000000000000000000000000000000000000000000000000000000000000000200800000000000000000000000000000000000000000000000000000000000000004000720 M = M := by decide +kernel) :
    Frame M a (State.recover s line pulses rep).1 := by
  refine h.trans (Frame.mono hm ?_)
  unfold State.recover
  dsimp only
  repeat' with_reducible first
    | exact Frame.refl _ | apply Frame.ite | apply State.send_frame | apply State.bump_frame | apply State.wrB_frame
    | apply State.record_frame | decide +kernel | split

theorem execBusStuck_frame (t : Nat) (line : Nat) (pulses : Nat) (s : State) : ∃ u, execBusStuck t line pulses s = .next u ∧ Frame 0x400b00000000000000000000000000000000000000000000000000000000000000000000000000000000000000000000200800000000000000000000000000000000000000000000000000000000000000004000721 s u := by
  refine ⟨_, rfl, ?_⟩
  repeat' with_reducible first
    | exact Frame.refl _ | apply Frame.ite | apply State.at_frame | apply State.recover_frame | apply State.portRegs_frame
    | decide +kernel | split | refine Frame.fst (by assumption) ?_ | fail_if_no_progress refine Frame.on_i2c ?_ _

theorem execRecoveryRepeat_frame (t : Nat) (line : Nat) (pulses : Nat) (s : State) : ∃ u, execRecoveryRepeat t line pulses s = .next u ∧ Frame 0x400f00000000000000000000000000000000000000000000000000000000000000000000000000000000000000000000200800000000000000000000000000000000000000000000000000000000000000004000721 s u := by
  refine ⟨_, rfl, ?_⟩
  repeat' with_reducible first
    | exact Frame.refl _ | apply Frame.ite | apply State.at_frame | apply State.portRegs_frame | apply State.linesHigh_frame
    | apply State.recover_frame | apply State.record_frame | apply State.wrB_frame | decide +kernel | split
    | refine Frame.fst (by assumption) ?_ | fail_if_no_progress refine Frame.on_i2c ?_ _

theorem State.portWritten_frame {M : Nat} {a s : State} (h : Frame M a s) (old : State) (hm : Nat.lor 0x700000000000000000000000000000000000000000000000000000000000000000000000000000000000000000000000000000000000000000000000000000000000000000000000000000000000000000000400 M = M := by decide +kernel) :
    Frame M a (State.portWritten s old) := by
  refine h.trans (Frame.mono hm ?_)
  unfold State.portWritten
  repeat' with_reducible first
    | exact Frame.refl _ | apply Frame.ite | apply State.wrB_frame | apply State.portRegs_frame | decide +kernel | split
    | fail_if_no_progress refine Frame.on_i2c ?_ _

end Sys2Proof.Machine
end

