-- ==== Sys2Proof/Laws/Frame/Power.lean ====
section
/-! SUPPORT. What the operations of Machine/Power.lean may change (`Frame`). -/

namespace Sys2Proof.Machine
open Obj

set_option linter.all false
set_option Elab.async false

theorem State.ratesFollow_frame {M : Nat} {a s : State} (h : Frame M a s)  (hm : Nat.lor 0xc0000000000000000100000000000000000000000000000000000 M = M := by decide +kernel) :
    Frame M a (State.ratesFollow s) := by
  refine h.trans (Frame.mono hm ?_)
  unfold State.ratesFollow
  repeat' with_reducible first
    | exact Frame.refl _ | apply Frame.ite | apply State.eachStr_frame | apply State.rateRefresh_frame | decide +kernel
    | intro _ | split

theorem State.enterBackup_frame {M : Nat} {a s : State} (h : Frame M a s)  (hm : Nat.lor 0x800000000000000000000000000000000656d800000000000000000000000000000000000000000000000000000002108000000000000000000c00000000000000001a0001800000000000000000000004100770 M = M := by decide +kernel) :
    Frame M a (State.enterBackup s) := by
  refine h.trans (Frame.mono hm ?_)
  unfold State.enterBackup
  repeat' with_reducible first
    | exact Frame.refl _ | apply State.roleCheck_frame | apply State.ratesFollow_frame | apply State.setSupply_frame
    | apply State.bump_frame | decide +kernel | split | fail_if_no_progress refine Frame.on_power ?_ _

theorem State.backupRegs_frame {M : Nat} {a s : State} (h : Frame M a s)  (hm : Nat.lor 0x40000000000000000000000000000000000 M = M := by decide +kernel) :
    Frame M a (State.backupRegs s) := by
  refine h.trans (Frame.mono hm ?_)
  unfold State.backupRegs
  repeat' with_reducible first
    | exact Frame.refl _ | apply State.wr_frame | decide +kernel | split

theorem State.endBackup_frame {M : Nat} {a s : State} (h : Frame M a s)  (hm : Nat.lor 0x140002000000000000000000000000000010 M = M := by decide +kernel) :
    Frame M a (State.endBackup s) := by
  refine h.trans (Frame.mono hm ?_)
  unfold State.endBackup
  repeat' with_reducible first
    | exact Frame.refl _ | apply Frame.ite | apply State.eachStr_frame | apply State.wr_frame | apply State.wrB_frame
    | apply State.backupRegs_frame | decide +kernel | intro _ | split | fail_if_no_progress refine Frame.on_power ?_ _
    | fail_if_no_progress refine Frame.mk' ?_

theorem State.tapFollows_frame {M : Nat} {a s : State} (h : Frame M a s)  (hm : Nat.lor 0x20000000000000000000000000000000 M = M := by decide +kernel) :
    Frame M a (State.tapFollows s) := by
  refine h.trans (Frame.mono hm ?_)
  unfold State.tapFollows
  repeat' with_reducible first
    | exact Frame.refl _ | apply Frame.ite | apply State.wrB_frame | decide +kernel | intro _ | split

theorem State.sprintAhead_frame {M : Nat} {a s : State} (h : Frame M a s)  (hm : Nat.lor 0x80000000000000000000000000001000 M = M := by decide +kernel) :
    Frame M a (State.sprintAhead s) := by
  refine h.trans (Frame.mono hm ?_)
  unfold State.sprintAhead
  repeat' with_reducible first
    | exact Frame.refl _ | apply Frame.ite | apply State.eachStr_frame | apply State.modLaps_frame | apply State.wrB_frame
    | decide +kernel | intro _ | split

theorem State.leaveBackup_frame {M : Nat} {a s : State} (h : Frame M a s)  (hm : Nat.lor 0x800000000000000000000000000000000656d800000000000000000000000000000000000000000000000000000002108000000000000000000c00000000000000001c00a3800000000000000000000004101770 M = M := by decide +kernel) :
    Frame M a (State.leaveBackup s) := by
  refine h.trans (Frame.mono hm ?_)
  unfold State.leaveBackup
  repeat' with_reducible first
    | exact Frame.refl _ | apply Frame.ite | apply State.endBackup_frame | apply State.tapFollows_frame
    | apply State.ratesFollow_frame | apply State.sprintAhead_frame | apply State.powerChange_frame
    | apply State.roleCheck_frame | decide +kernel | intro _ | split | fail_if_no_progress refine Frame.on_power ?_ _
    | fail_if_no_progress refine Frame.mk' ?_

theorem State.cutJournal_frame {M : Nat} {a s : State} (h : Frame M a s)  (hm : Nat.lor 0x200000000000000000000006000108 M = M := by decide +kernel) :
    Frame M a (State.cutJournal s) := by
  refine h.trans (Frame.mono hm ?_)
  unfold State.cutJournal
  repeat' with_reducible first
    | exact Frame.refl _ | apply Frame.ite | apply State.cutSlot_frame | apply State.answer_frame | decide +kernel
    | apply Frame.foldl | intro _ | split | fail_if_no_progress refine Frame.on_mbx ?_ _
    | fail_if_no_progress refine Frame.on_nv ?_ _ | fail_if_no_progress refine Frame.mk' ?_

theorem State.enterHoldup_frame {M : Nat} {a s : State} (h : Frame M a s) (cause : Nat) (hm : Nat.lor 0xa000000000085060000000000000000000000005e4d0656d801c20000000000000000000000086000000000000000000000000002108000000000000000000010000000000000811c00a3a000000000000000000000061d1778 M = M := by decide +kernel) :
    Frame M a (State.enterHoldup s cause) := by
  refine h.trans (Frame.mono hm ?_)
  unfold State.enterHoldup
  repeat' with_reducible first
    | exact Frame.refl _ | apply Frame.ite | apply State.endBackup_frame | apply State.setSupply_frame | apply State.wrB_frame
    | apply State.eachStr_frame | apply State.stopLaps_frame | apply State.answerOpt_frame | apply State.cutJournal_frame
    | apply State.stopStreams_frame | apply State.zeroSetpoint_frame | apply State.clampNow_frame
    | apply State.dispatchFrame_frame | apply State.roleCheck_frame | decide +kernel | intro _ | split
    | fail_if_no_progress refine Frame.on_power ?_ _ | fail_if_no_progress refine Frame.mk' ?_

theorem State.powerOff_frame {M : Nat} {a s : State} (h : Frame M a s) (new : Supply) (hm : Nat.lor 0x400000000000000000000000000000000000000000000000000000000000000000000000000000000000000000000000000000000000000000000000000000000000000000000000000b93c0000000f4e21000000000001fffff6 M = M := by decide +kernel) :
    Frame M a (State.powerOff s new) := by
  refine h.trans (Frame.mono hm ?_)
  unfold State.powerOff
  repeat' with_reducible first
    | exact Frame.refl _ | apply State.clearRun_frame | apply State.wrB_frame | apply State.wr_frame | decide +kernel | split
    | fail_if_no_progress refine Frame.on_power ?_ _ | fail_if_no_progress refine Frame.on_panel ?_ _
    | fail_if_no_progress refine Frame.on_thermal ?_ _ | fail_if_no_progress refine Frame.mk' ?_

theorem State.diesOff_frame {M : Nat} {a s : State} (h : Frame M a s)  (hm : Nat.lor 0x400000000000080000000000000000000000000000000000000000000000000000000000000000000000000000000000000000000021080000000000000000000000000000000000008b93d8000000f4e21000000000007fffffe M = M := by decide +kernel) :
    Frame M a (State.diesOff s) := by
  refine h.trans (Frame.mono hm ?_)
  unfold State.diesOff
  repeat' with_reducible first
    | exact Frame.refl _ | apply Frame.ite | apply State.settleJournal_frame | apply State.cutSlot_frame
    | apply State.setSupply_frame | apply State.send_frame | apply State.powerOff_frame | decide +kernel | apply Frame.foldl
    | intro _ | split

theorem execAuxMainsEvaluation_frame (t : Nat) (mv : Nat) (hz : Nat) (pw : Nat) (dc : Bool) (s : State) : ∃ u, execAuxMainsEvaluation t mv hz pw dc s = .next u ∧ Frame 0x1582f000000000000000000000000000011 s u := by
  refine ⟨_, rfl, ?_⟩
  repeat' with_reducible first
    | exact Frame.refl _ | apply Frame.ite | apply State.at_frame | apply State.wr_frame | apply State.wrB_frame
    | apply State.bump_frame | apply State.sourceRegs_frame | apply State.tapFollows_frame | decide +kernel | split
    | fail_if_no_progress refine Frame.on_power ?_ _

theorem execAuxInterruptionExceeded_frame (t : Nat) (s : State) : ∃ u, execAuxInterruptionExceeded t s = .next u ∧ Frame 0x40a000000000085060000000000000000000000005e4d0656d801c20000000000000000000000086000000000000000000000000002108000000000000000000c10000000000000811eb9bfa000000f4e21000000000007ffffff s u := by
  refine ⟨_, rfl, ?_⟩
  repeat' with_reducible first
    | exact Frame.refl _ | apply Frame.ite | apply State.at_frame | apply State.diesOff_frame | apply State.enterBackup_frame
    | apply State.enterHoldup_frame | decide +kernel | intro _ | split

theorem execAuxReturnQual_frame (t : Nat) (s : State) : ∃ u, execAuxReturnQual t s = .next u ∧ Frame 0x4000000000000800000000000000000000000000000000656d800000000000000000000000000000000000000000000000000000002108000000000000000000c00000000000000001cb9bf8000000f4e21000000000007ffffff s u := by
  refine ⟨_, rfl, ?_⟩
  repeat' with_reducible first
    | exact Frame.refl _ | apply Frame.ite | apply State.at_frame | apply State.diesOff_frame | apply State.leaveBackup_frame
    | decide +kernel | intro _ | split

theorem State.tapRegs_frame {M : Nat} {a s : State} (h : Frame M a s) (mv : Nat) (hm : Nat.lor 0x2010000000000000000000000000000000 M = M := by decide +kernel) :
    Frame M a (State.tapRegs s mv) := by
  refine h.trans (Frame.mono hm ?_)
  unfold State.tapRegs
  repeat' with_reducible first
    | exact Frame.refl _ | apply State.wrB_frame | apply State.wr_frame | decide +kernel | split

theorem State.tapMeasured_frame {M : Nat} {a s : State} (h : Frame M a s) (mv : Nat) (hm : Nat.lor 0x40a000000000085060000000000000000000000005e4d0656d801c20000000000000000000000086000000000000000000000000002108000000000000000000c10000000000000811cb9bfa000000f4e21000000000007fffffe M = M := by decide +kernel) :
    Frame M a (State.tapMeasured s mv) := by
  refine h.trans (Frame.mono hm ?_)
  unfold State.tapMeasured
  repeat' with_reducible first
    | exact Frame.refl _ | apply Frame.ite | apply State.tapRegs_frame | apply State.tapFollows_frame | apply State.wrB_frame
    | apply State.diesOff_frame | apply State.leaveBackup_frame | apply State.enterHoldup_frame | decide +kernel | intro _
    | split

theorem execTapStartOk_frame (t : Nat) (mv : Nat) (s : State) : ∃ u, execTapStartOk t mv s = .next u ∧ Frame 0x40a000000000085060000000000000000000000005e4d0656d801c20000000000000000000000086000000000000000000000000002108000000000000000000c10000000000000811cb9bfa000000f4e21000000000007ffffff s u := by
  refine ⟨_, rfl, ?_⟩
  repeat' with_reducible first
    | exact Frame.refl _ | apply Frame.ite | apply State.at_frame | apply State.tapMeasured_frame | decide +kernel | intro _
    | split

theorem execTapConverterStop_frame (t : Nat) (mv : Nat) (s : State) : ∃ u, execTapConverterStop t mv s = .next u ∧ Frame 0x40a000000000085060000000000000000000000005e4d0656d801c20000000000000000000000086000000000000000000000000002108000000000000000000c10000000000000811cb9bfa000000f4e21000000000007ffffff s u := by
  refine ⟨_, rfl, ?_⟩
  repeat' with_reducible first
    | exact Frame.refl _ | apply Frame.ite | apply State.at_frame | apply State.tapMeasured_frame | decide +kernel | intro _
    | split

theorem execTapOverload_frame (t : Nat) (since : Nat) (s : State) : ∃ u, execTapOverload t since s = .next u ∧ Frame 0x200000000000000000000000000000001 s u := by
  refine ⟨_, rfl, ?_⟩
  repeat' with_reducible first
    | exact Frame.refl _ | apply Frame.ite | apply State.at_frame | apply State.wrB_frame | decide +kernel | split

theorem execHoldupReadyCleared_frame (t : Nat) (energy : Nat) (s : State) : ∃ u, execHoldupReadyCleared t energy s = .next u ∧ Frame 0x800000000000000000000000000000000000000000000000000000000000000000000000000000000000000000000200800000000000000000000000000000000000008100000000000000000000000004000721 s u := by
  refine ⟨_, rfl, ?_⟩
  repeat' with_reducible first
    | exact Frame.refl _ | apply Frame.ite | apply State.at_frame | apply State.wrB_frame | apply State.wr_frame
    | apply State.record_frame | decide +kernel | split

theorem execHoldupReadySet_frame (t : Nat) (energy : Nat) (s : State) : ∃ u, execHoldupReadySet t energy s = .next u ∧ Frame 0x408100000000000000000000000000000041 s u := by
  refine ⟨_, rfl, ?_⟩
  repeat' with_reducible first
    | exact Frame.refl _ | apply Frame.ite | apply State.at_frame | apply State.wrB_frame | apply State.wr_frame
    | apply State.reachPhase_frame | decide +kernel | split

theorem execLastGasp_frame (t : Nat) (s : State) : ∃ u, execLastGasp t s = .next u ∧ Frame 0x4000111 s u := by
  refine ⟨_, rfl, ?_⟩
  repeat' with_reducible first
    | exact Frame.refl _ | apply Frame.ite | apply State.at_frame | apply State.unsolicited_frame | decide +kernel
    | apply Frame.foldl | intro _ | split | fail_if_no_progress refine Frame.on_power ?_ _

theorem execHoldupShed_frame (t : Nat) (s : State) : ∃ u, execHoldupShed t s = .next u ∧ Frame 0x100000000000000000000000000000000000000000000000000000000000000000000000000000000000000000000000000000000000000000000000000000000000000000000000000000000000000004800011 s u := by
  refine ⟨_, rfl, ?_⟩
  repeat' with_reducible first
    | exact Frame.refl _ | apply Frame.ite | apply State.at_frame | apply State.portRegs_frame | apply State.linesLow_frame
    | decide +kernel | split | fail_if_no_progress refine Frame.on_power ?_ _

theorem execHoldupOpenDelay_frame (t : Nat) (s : State) : ∃ u, execHoldupOpenDelay t s = .next u ∧ Frame 0x38b00000000000085060000000000000000000000005e4d00000001c2000000000000000000be000000000000000000a8380000000002008020000000000000000000000000000007000000002000000000000000000000040c17b1 s u := by
  refine ⟨_, rfl, ?_⟩
  repeat' with_reducible first
    | exact Frame.refl _ | apply Frame.ite | apply State.at_frame | apply State.openAll_frame | decide +kernel | split
    | fail_if_no_progress refine Frame.on_power ?_ _

theorem execHoldupClosed_frame (t : Nat) (s : State) : ∃ u, execHoldupClosed t s = .next u ∧ Frame 0x800000000000000000000000000000000000000000000000000000000000000000000000000000000000000000000327c00000000000000000000000000000000000000000000000000000000000000004000721 s u := by
  refine ⟨_, rfl, ?_⟩
  repeat' with_reducible first
    | exact Frame.refl _ | apply Frame.ite | apply State.at_frame | apply State.closeLapBlock_frame
    | apply State.closeEventBlock_frame | decide +kernel | intro _ | split

theorem execHoldupHalt_frame (t : Nat) (gasp : GaspEnd) (s : State) : ∃ u, execHoldupHalt t gasp s = .next u ∧ Frame 0x8000045545800c3e180088000000000000000000040000000000000000000000000000000000020642000000000c000000000006000000000210800000000000000000000000000000000732eab93d8000060ffffdf800001fff05ffffff s u := by
  refine ⟨_, rfl, ?_⟩
  repeat' with_reducible first
    | exact Frame.refl _ | apply Frame.ite | apply State.at_frame | apply State.tellClosing_frame | apply State.powerOff_frame
    | apply State.powerUp_frame | decide +kernel | intro _ | split | fail_if_no_progress refine Frame.on_power ?_ _
    | fail_if_no_progress refine Frame.mk' ?_

theorem execEnterTransport_frame (t : Nat) (r : Req) (p : Bytes) (s : State) : ∃ u, execEnterTransport t r p s = .next u ∧ Frame 0x4a000000000000000000000000000000000000000000000000000000000000000000000000000000000000000000000000000000000000000000000000000000000000000000000000000000000200000000000000000000004001199 s u := by
  refine ⟨_, rfl, ?_⟩
  repeat' with_reducible first
    | exact Frame.refl _ | apply Frame.ite | apply State.serve_frame | apply guarded_frame | apply State.useToken_frame
    | apply State.nextSleep_frame | decide +kernel | intro _ | split | fail_if_no_progress refine Frame.on_power ?_ _
    | fail_if_no_progress refine Frame.on_nv ?_ _ | fail_if_no_progress refine Frame.mk' ?_
    | refine Frame.fst (by assumption) ?_

theorem State.sleepEnum_frame {M : Nat} {a s : State} (h : Frame M a s)  (hm : Nat.lor 0x4000000 M = M := by decide +kernel) :
    Frame M a (State.sleepEnum s) := by
  refine h.trans (Frame.mono hm ?_)
  unfold State.sleepEnum
  repeat' with_reducible first
    | exact Frame.refl _ | apply Frame.ite | apply State.send_frame | decide +kernel | apply Frame.foldl | intro _ | split

theorem State.sleepJudged_frame {M : Nat} {a s : State} (h : Frame M a s) (awake : List (Nat × Nat)) (hm : Nat.lor 0x420200000000000000000000004001118 M = M := by decide +kernel) :
    Frame M a (State.sleepJudged s awake) := by
  refine h.trans (Frame.mono hm ?_)
  unfold State.sleepJudged
  repeat' with_reducible first
    | exact Frame.refl _ | apply Frame.ite | apply State.answerOpt_frame | apply State.wrB_frame | apply State.nextSleep_frame
    | decide +kernel | intro _ | split | fail_if_no_progress refine Frame.on_power ?_ _
    | fail_if_no_progress refine Frame.on_nv ?_ _ | fail_if_no_progress refine Frame.mk' ?_ | dsimp only

theorem execTransportConfirm_frame (t : Nat) (awake : List (Nat × Nat)) (s : State) : ∃ u, execTransportConfirm t awake s = .next u ∧ Frame 0x420200000000000000000000004001119 s u := by
  refine ⟨_, rfl, ?_⟩
  repeat' with_reducible first
    | exact Frame.refl _ | apply Frame.ite | apply State.at_frame | apply State.sleepEnum_frame
    | apply State.sleepJudged_frame | decide +kernel | intro _ | split | fail_if_no_progress refine Frame.on_power ?_ _
    | fail_if_no_progress refine Frame.mk' ?_

theorem execTransportDiesOff_frame (t : Nat) (s : State) : ∃ u, execTransportDiesOff t s = .next u ∧ Frame 0x400000000000080000000000000000000000000000000000000000000000000000000000000000000000000000000000000000000021080000000000000000000000000000000000008b93d8000000f4e21000000000007ffffff s u := by
  refine ⟨_, rfl, ?_⟩
  repeat' with_reducible first
    | exact Frame.refl _ | apply Frame.ite | apply State.at_frame | apply State.diesOff_frame | decide +kernel | intro _
    | split

theorem execTransportWake_frame (t : Nat) (str : Nat) (mv : Nat) (since : Nat) (profile : Nat) (block : Nat) (mask : Nat) (addr : Nat) (cover : Bool) (jumper : Bool) (seen : StartSeen) (s : State) : ∃ u, execTransportWake t str mv since profile block mask addr cover jumper seen s = .next u ∧ Frame 0x8000045145800c3e180088000000000000000000040000000000000000000000000000000000020642000000000c000000000006000000000210800000000000000000000000000000000732ea002180000600b1fcf800001fff05ffffff s u := by
  refine ⟨_, rfl, ?_⟩
  repeat' with_reducible first
    | exact Frame.refl _ | apply Frame.ite | apply State.at_frame | apply State.powerUp_frame | decide +kernel | intro _
    | split | fail_if_no_progress refine Frame.on_power ?_ _ | fail_if_no_progress refine Frame.on_nv ?_ _
    | fail_if_no_progress refine Frame.mk' ?_

end Sys2Proof.Machine
end

