-- ==== Sys2Proof/Laws/Frame/Update.lean ====
section
/-! SUPPORT. What the operations of Machine/Update.lean may change (`Frame`). -/

namespace Sys2Proof.Machine
open Obj

set_option linter.all false
set_option Elab.async false

theorem State.dropEnded_frame {M : Nat} {a s : State} (h : Frame M a s) (kind : Nat) (hm : Nat.lor 0x100 M = M := by decide +kernel) :
    Frame M a (State.dropEnded s kind) := by
  refine h.trans (Frame.mono hm ?_)
  unfold State.dropEnded
  repeat' with_reducible first
    | exact Frame.refl _ | intro _ | split | fail_if_no_progress refine Frame.on_mbx ?_ _

theorem State.updRegs_frame {M : Nat} {a s : State} (h : Frame M a s)  (hm : Nat.lor 0x402000000000000000000000000000000000000000000000000000000000000000000000000000000000000000000000000000000000000000000000000000000000000000000000000000000000000000000000000000 M = M := by decide +kernel) :
    Frame M a (State.updRegs s) := by
  refine h.trans (Frame.mono hm ?_)
  unfold State.updRegs
  repeat' with_reducible first
    | exact Frame.refl _ | apply Frame.ite | apply State.wr_frame | decide +kernel | intro _ | split

theorem State.setSlot_frame {M : Nat} {a s : State} (h : Frame M a s) (k : Nat) (x : Slot) (hm : Nat.lor 0x8 M = M := by decide +kernel) :
    Frame M a (State.setSlot s k x) := by
  refine h.trans (Frame.mono hm ?_)
  unfold State.setSlot
  repeat' with_reducible first
    | exact Frame.refl _ | apply Frame.ite | split | fail_if_no_progress refine Frame.on_nv ?_ _

theorem execImageUploadEnd_frame (t : Nat) (s : State) : ∃ u, execImageUploadEnd t s = .next u ∧ Frame 0x41000c7f3800000000000000000000000000000000000000000000000000000000000000000000000000000000000000000000000000000000000000000000000000000000000000000000000000000000000000000000020109 s u := by
  refine ⟨_, rfl, ?_⟩
  repeat' with_reducible first
    | exact Frame.refl _ | apply Frame.ite | apply State.at_frame | apply State.dropEnded_frame | apply State.setSlot_frame
    | apply State.wr_frame | apply State.slotRegs_frame | apply State.updRegs_frame | decide +kernel | intro _ | split
    | fail_if_no_progress refine Frame.on_upd ?_ _ | fail_if_no_progress refine Frame.mk' ?_

theorem execImageStaged_frame (t : Nat) (s : State) : ∃ u, execImageStaged t s = .next u ∧ Frame 0x41000c7e3800800000000000000000000000000000000000000000000000000000000000000000000000000000000000000000000200800000000000000000000000000000000000000000000000000000000000000004020729 s u := by
  refine ⟨_, rfl, ?_⟩
  repeat' with_reducible first
    | exact Frame.refl _ | apply Frame.ite | apply State.at_frame | apply State.setSlot_frame | apply State.slotRegs_frame
    | apply State.updRegs_frame | apply State.record_frame | decide +kernel | intro _ | split
    | fail_if_no_progress refine Frame.on_upd ?_ _ | fail_if_no_progress refine Frame.mk' ?_

theorem execNodeImageUpload_frame (t : Nat) (s : State) : ∃ u, execNodeImageUpload t s = .next u ∧ Frame 0x4101fc7f3800800000000000000000000000000000000000000000000000000000000000000000000000000000000000000000000200800000000000000000000000000000000000000000000000000000000000000004001729 s u := by
  refine ⟨_, rfl, ?_⟩
  repeat' with_reducible first
    | exact Frame.refl _ | apply Frame.ite | apply State.at_frame | apply State.dropEnded_frame | apply State.eachStr_frame
    | apply State.modRing_frame | apply State.record_frame | apply State.updRegs_frame | apply State.slotRegs_frame
    | apply State.updateRegs_frame | apply State.wr_frame | decide +kernel | intro _ | split
    | fail_if_no_progress refine Frame.on_nv ?_ _

theorem State.reload_frame0 (s : State) (old : Store) : Frame 0x40000000000000000000000000000000000000000000000000000000000000600000000000000000000000000000000000000000000000000000000000600000000000008d700000004 s (State.reload s old) := by
  exact Frame.any (State.factoryRegs_frame (Frame.any (Frame.refl _) _) ..) _

theorem State.reload_frame {M : Nat} {a s : State} (h : Frame M a s) (old : Store) (hm : Nat.lor 0x40000000000000000000000000000000000000000000000000000000000000600000000000000000000000000000000000000000000000000000000000600000000000008d700000004 M = M := by decide +kernel) :
    Frame M a (State.reload s old) := h.trans (Frame.mono hm (State.reload_frame0 s old))

theorem State.switchConfig_frame0 (s : State) (k : Nat) (keptAt : Nat) : Frame 0x4000000000000000000000000000000040000000000000000000000000000000000000000000000000000000000000600000000000000000000000000000000000000000000000000000000000600000000000008d70000000c s (State.switchConfig s k keptAt) := by
  have h : Frame 0x4000000000000000000000000000000040000000000000000000000000000000000000000000000000000000000000600000000000000000000000000000000000000000000000000000000000600000000000008d70000000c s s := Frame.refl s
  unfold State.switchConfig
  extract_lets f n s1
  split
  · exact Frame.mk' h
  split
  · exact State.wrB_frame (State.reload_frame (Frame.mk' h) _) ..
  · exact h

theorem State.switchConfig_frame {M : Nat} {a s : State} (h : Frame M a s) (k : Nat) (keptAt : Nat) (hm : Nat.lor 0x4000000000000000000000000000000040000000000000000000000000000000000000000000000000000000000000600000000000000000000000000000000000000000000000000000000000600000000000008d70000000c M = M := by decide +kernel) :
    Frame M a (State.switchConfig s k keptAt) := h.trans (Frame.mono hm (State.switchConfig_frame0 s k keptAt))

theorem State.commitSlot_frame0 (s : State) (k : Nat) (mode : Nat) (rollback : Bool) : Frame 0x4000280000080000000000000000000040000000000000000000000000000000000000000000000000000000000000600000000020080000000000000000000000000000000000000000000000600000000000008d70400072c s (State.commitSlot s k mode rollback) := by
  have h : Frame 0x4000280000080000000000000000000040000000000000000000000000000000000000000000000000000000000000600000000020080000000000000000000000000000000000000000000000600000000000008d70400072c s s := Frame.refl s
  unfold State.commitSlot
  extract_lets s1 src s2 s3
  have h1 : Frame 0x4000280000080000000000000000000040000000000000000000000000000000000000000000000000000000000000600000000020080000000000000000000000000000000000000000000000600000000000008d70400072c s s1 := State.switchConfig_frame h ..
  have h2 : Frame 0x4000280000080000000000000000000040000000000000000000000000000000000000000000000000000000000000600000000020080000000000000000000000000000000000000000000000600000000000008d70400072c s s2 := Frame.mk' h1
  exact State.record_frame (State.stamp_frame (State.bump_frame h2 ..) ..) ..

theorem State.commitSlot_frame {M : Nat} {a s : State} (h : Frame M a s) (k : Nat) (mode : Nat) (rollback : Bool) (hm : Nat.lor 0x4000280000080000000000000000000040000000000000000000000000000000000000000000000000000000000000600000000020080000000000000000000000000000000000000000000000600000000000008d70400072c M = M := by decide +kernel) :
    Frame M a (State.commitSlot s k mode rollback) := h.trans (Frame.mono hm (State.commitSlot_frame0 s k mode rollback))

theorem State.activate_frame {M : Nat} {a s : State} (h : Frame M a s) (rollback : Bool) (p : Bytes) (rid : Rid) (sess : Nat) (hm : Nat.lor 0x8004a7db45800efe38008d060000000000000000040000005e4d00000001c2000000000000000206fe000000000c00000000a83e000000000210802000000000000000000000000000000732e80001a0000600b1dcf800001fff07fffffe M = M := by decide +kernel) :
    Frame M a (State.activate s rollback p rid sess).1 := by
  refine h.trans (Frame.mono hm ?_)
  unfold State.activate
  dsimp only
  repeat' with_reducible first
    | exact Frame.refl _ | apply Frame.ite | apply guarded_frame | apply State.useToken_frame | apply State.updRegs_frame
    | apply State.commitSlot_frame | apply State.answerLast_frame | apply State.restart_frame | decide +kernel | intro _
    | split | fail_if_no_progress refine Frame.on_upd ?_ _ | fail_if_no_progress refine Frame.mk' ?_
    | refine Frame.fst (by assumption) ?_

theorem execActivateImage_frame (t : Nat) (r : Req) (p : Bytes) (s : State) : ∃ u, execActivateImage t r p s = .next u ∧ Frame 0x8004a7df45800efe38008d060000000000000000040000005e4d00000001c2000000000000000206fe000000000c00000000a83e000000000210802000000000000000000000000000000732e8b93da000060ffffdf800001fff07ffffff s u := by
  refine ⟨_, rfl, ?_⟩
  repeat' with_reducible first
    | exact Frame.refl _ | apply State.serve_frame | apply State.activate_frame | decide +kernel | intro _ | split
    | refine Frame.fst (by assumption) ?_

theorem execRollbackImage_frame (t : Nat) (r : Req) (p : Bytes) (s : State) : ∃ u, execRollbackImage t r p s = .next u ∧ Frame 0x8004a7df45800efe38008d060000000000000000040000005e4d00000001c2000000000000000206fe000000000c00000000a83e000000000210802000000000000000000000000000000732e8b93da000060ffffdf800001fff07ffffff s u := by
  refine ⟨_, rfl, ?_⟩
  repeat' with_reducible first
    | exact Frame.refl _ | apply State.serve_frame | apply State.activate_frame | decide +kernel | intro _ | split
    | refine Frame.fst (by assumption) ?_

theorem State.swapLead_frame {M : Nat} {a s : State} (h : Frame M a s) (die : Nat) (hm : Nat.lor 0x40000000000000 M = M := by decide +kernel) :
    Frame M a (State.swapLead s die) := by
  refine h.trans (Frame.mono hm ?_)
  unfold State.swapLead
  repeat' with_reducible first
    | exact Frame.refl _ | apply State.wr_frame | decide +kernel | split

theorem execSpareReady_frame (t : Nat) (s : State) : ∃ u, execSpareReady t s = .next u ∧ Frame 0x406000000000000000000000000000000000000000000000000000000000000000000000000000000000000000000000000000000000000000000000000000000000000000000000000000000000000000000000020001 s u := by
  refine ⟨_, rfl, ?_⟩
  repeat' with_reducible first
    | exact Frame.refl _ | apply Frame.ite | apply State.at_frame | apply State.updRegs_frame | apply State.wr_frame
    | decide +kernel | split | fail_if_no_progress refine Frame.on_upd ?_ _

theorem State.endRelay_frame {M : Nat} {a s : State} (h : Frame M a s)  (hm : Nat.lor 0x4060000000000000000000000000000000000000000000000000000000000000000000000000000000000000000000000000000000000000000000000c0000000000000000100000000000000000000000000000020000 M = M := by decide +kernel) :
    Frame M a (State.endRelay s) := by
  refine h.trans (Frame.mono hm ?_)
  unfold State.endRelay
  repeat' with_reducible first
    | exact Frame.refl _ | apply State.ratesFollow_frame | apply State.updRegs_frame | apply State.wr_frame | decide +kernel
    | split | fail_if_no_progress refine Frame.on_upd ?_ _

theorem execDieHandover_frame (t : Nat) (die : Nat) (s : State) : ∃ u, execDieHandover t die s = .next u ∧ Frame 0x40e0000000000000000000000000000000000000000000000000000000000000000000000000000000000000000000000000000000000000000000000c0000000000000000100000000000000000000040000000020001 s u := by
  refine ⟨_, rfl, ?_⟩
  repeat' with_reducible first
    | exact Frame.refl _ | apply Frame.ite | apply State.at_frame | apply State.swapLead_frame | apply State.updRegs_frame
    | apply State.wr_frame | apply State.wrB_frame | apply State.endRelay_frame | decide +kernel | split
    | fail_if_no_progress refine Frame.on_upd ?_ _

theorem execImageActivated_frame (t : Nat) (s : State) : ∃ u, execImageActivated t s = .next u ∧ Frame 0x45800efe78008000000000000000000004000000000000000000000000000000000000000000000000000000000000060000000002008000000000000000000c00000000000007001000002000060000000000001fd70402072d s u := by
  refine ⟨_, rfl, ?_⟩
  repeat' with_reducible first
    | exact Frame.refl _ | apply Frame.ite | apply State.at_frame | apply State.commitSlot_frame
    | apply State.extendSlot_frame | apply State.imageRegs_frame | apply State.endRelay_frame | apply State.answerOpt_frame
    | decide +kernel | intro _ | split | fail_if_no_progress refine Frame.on_upd ?_ _
    | fail_if_no_progress refine Frame.mk' ?_

theorem execHandoverAbandoned_frame (t : Nat) (die : Nat) (cause : Nat) (s : State) : ∃ u, execHandoverAbandoned t die cause s = .next u ∧ Frame 0x800007df45800d7e78008d060000000000000000040000005e4d00000001c2000000000000000206fe000000000c00000000a83e0000000002108020000000000000000c0000000000000732f8b93da000060ffffdf800001fff07ffffff s u := by
  refine ⟨_, rfl, ?_⟩
  repeat' with_reducible first
    | exact Frame.refl _ | apply Frame.ite | apply State.at_frame | apply State.restart_frame | apply State.record_frame
    | apply State.bump_frame | apply State.answerOpt_frame | apply State.wr_frame | apply State.endRelay_frame
    | apply State.updRegs_frame | decide +kernel | split | fail_if_no_progress refine Frame.on_upd ?_ _

theorem State.advanceFuses_frame {M : Nat} {a s : State} (h : Frame M a s)  (hm : Nat.lor 0x41000c3e1800800000000000000000000000000000000000000000000000000000000000000000000000000000000000000000000200800000000000000000000000000000000000000000000000000000000000000004000728 M = M := by decide +kernel) :
    Frame M a (State.advanceFuses s) := by
  refine h.trans (Frame.mono hm ?_)
  unfold State.advanceFuses
  repeat' with_reducible first
    | exact Frame.refl _ | apply Frame.ite | apply State.setSlot_frame | apply State.slotRegs_frame | apply State.record_frame
    | decide +kernel | intro _ | split | fail_if_no_progress refine Frame.on_nv ?_ _ | fail_if_no_progress refine Frame.mk' ?_

theorem execRecoveryLoader_frame (t : Nat) (image : Bytes) (s : State) : ∃ u, execRecoveryLoader t image s = .next u ∧ Frame 0x800007db45800c3e18008d060000000000000000040000005e4d00000001c2000000000000000206fe000000000c00000000a83e000000000210802000000000000000000000000000000732e80001a0000600b1dcf800001fff07ffffff s u := by
  refine ⟨_, rfl, ?_⟩
  repeat' with_reducible first
    | exact Frame.refl _ | apply Frame.ite | apply State.at_frame | apply State.setSlot_frame | apply State.restart_frame
    | apply State.send_frame | decide +kernel | intro _ | split

theorem execConfirmConfig_frame (t : Nat) (r : Req) (p : Bytes) (s : State) : ∃ u, execConfirmConfig t r p s = .next u ∧ Frame 0xd1000c3e1800800000000000000000000000000000000000000000000000000000000000000000000000000000000000000000000200800000000000000000000000000000000000000000200000000000000000000004000729 s u := by
  refine ⟨_, rfl, ?_⟩
  repeat' with_reducible first
    | exact Frame.refl _ | apply Frame.ite | apply State.serve_frame | apply guarded_frame | apply State.setSlot_frame
    | apply State.slotRegs_frame | apply State.wr_frame | apply State.stamp_frame | apply State.record_frame | decide +kernel
    | intro _ | split | fail_if_no_progress refine Frame.on_nv ?_ _ | fail_if_no_progress refine Frame.mk' ?_
    | refine Frame.fst (by assumption) ?_

end Sys2Proof.Machine
end

