-- ==== Sys2Proof/Laws/Frame/LedgerLink.lean ====
section
/-! SUPPORT. What the operations of Machine/LedgerLink.lean may change (`Frame`). -/

namespace Sys2Proof.Machine
open Obj

set_option linter.all false
set_option Elab.async false

theorem execLedgerExport_frame (t : Nat) (s : State) : ∃ u, execLedgerExport t s = .next u ∧ Frame 0x30000000000000000000000000000000000000000000000000000000000000000000000000000000000000000000000000010101 s u := by
  refine ⟨_, rfl, ?_⟩
  repeat' with_reducible first
    | exact Frame.refl _ | apply Frame.ite | apply State.at_frame | apply State.stamp_frame | apply State.wr_frame
    | apply State.modSess_frame | decide +kernel | intro _ | split | fail_if_no_progress refine Frame.on_ledger ?_ _

theorem State.exportSent_frame {M : Nat} {a s : State} (h : Frame M a s)  (hm : Nat.lor 0x800000000000000000000000000000000000000000000000000000000000000000200000000000000000000000000200800000000000000000000000000000000000000000000000000000000000000004000720 M = M := by decide +kernel) :
    Frame M a (State.exportSent s) := by
  refine h.trans (Frame.mono hm ?_)
  unfold State.exportSent
  repeat' with_reducible first
    | exact Frame.refl _ | apply State.record_frame | apply State.wr_frame | decide +kernel | split

theorem State.ackEpoch_frame {M : Nat} {a s : State} (h : Frame M a s)  (hm : Nat.lor 0x800000000000000000000000000000000000000000000000000000000000000040280000000000000000000000000200800000000000000000000000000000000000000000000000000000000000000004010720 M = M := by decide +kernel) :
    Frame M a (State.ackEpoch s) := by
  refine h.trans (Frame.mono hm ?_)
  unfold State.ackEpoch
  repeat' with_reducible first
    | exact Frame.refl _ | apply Frame.ite | apply State.wr_frame | apply State.stamp_frame | apply State.record_frame
    | decide +kernel | intro _ | split | fail_if_no_progress refine Frame.on_ledger ?_ _
    | fail_if_no_progress refine Frame.mk' ?_

theorem execLedgerRestoreCommit_frame (t : Nat) (s : State) : ∃ u, execLedgerRestoreCommit t s = .next u ∧ Frame 0x800000000000000000000000000000000000000000000000000000000000000008580000000000000000000000000200800000000000000000000000000000000081000000000000000000000000000004010721 s u := by
  refine ⟨_, rfl, ?_⟩
  repeat' with_reducible first
    | exact Frame.refl _ | apply Frame.ite | apply State.at_frame | apply State.dropEnded_frame | apply State.wr_frame
    | apply State.record_frame | apply State.restoreCheck_frame | decide +kernel | split
    | fail_if_no_progress refine Frame.on_ledger ?_ _

end Sys2Proof.Machine
end

