-- ==== Sys2Proof/Laws/Frame/Security.lean ====
section
/-! SUPPORT. What the operations of Machine/Security.lean may change (`Frame`). -/

namespace Sys2Proof.Machine
open Obj

set_option linter.all false
set_option Elab.async false

theorem State.moveSecurity_frame {M : Nat} {a s : State} (h : Frame M a s) (new : Nat) (cause : Nat) (sess : Nat) (hm : Nat.lor 0x38b00000000000085060000000000000000000000005e4d0656d801c2000000000000000000be000000000000000000a8380000000002008020000000000000000000000000000007000000002000000000000000000000041c17a0 M = M := by decide +kernel) :
    Frame M a (State.moveSecurity s new cause sess) := by
  refine h.trans (Frame.mono hm ?_)
  unfold State.moveSecurity
  repeat' with_reducible first
    | exact Frame.refl _ | apply Frame.ite | apply State.calAbandon_frame | apply State.roleCheck_frame
    | apply State.setSecurity_frame | decide +kernel | intro _ | split

theorem State.toField_frame {M : Nat} {a s : State} (h : Frame M a s) (cause : Nat) (sess : Nat) (hm : Nat.lor 0x38b00000000000085060000000000000000000000005e4d0656d801c2000000000000000000be000000000000000000a8380000000002008020000000000000000000000000000007000000002000000000000000000000041c17a0 M = M := by decide +kernel) :
    Frame M a (State.toField s cause sess) := by
  refine h.trans (Frame.mono hm ?_)
  unfold State.toField
  repeat' with_reducible first
    | exact Frame.refl _ | apply State.answerOpt_frame | apply State.moveSecurity_frame | decide +kernel | split
    | fail_if_no_progress refine Frame.on_sec ?_ _

theorem execEnterService_frame (t : Nat) (r : Req) (p : Bytes) (s : State) : ∃ u, execEnterService t r p s = .next u ∧ Frame 0x4a38b00000000000085060000000000000000000000005e4d0656d801c2000000000000000000be000000000000000000a8380000000002008020000000000000000000000000000007000000002000000000000000000000041c17a1 s u := by
  refine ⟨_, rfl, ?_⟩
  repeat' with_reducible first
    | exact Frame.refl _ | apply Frame.ite | apply State.serve_frame | apply guarded_frame | apply State.moveSecurity_frame
    | apply State.useToken_frame | decide +kernel | intro _ | split | refine Frame.fst (by assumption) ?_

theorem execLeaveService_frame (t : Nat) (r : Req) (p : Bytes) (s : State) : ∃ u, execLeaveService t r p s = .next u ∧ Frame 0x38b00000000000085060000000000000000000000005e4d0656d801c2000000000000000000be000000000000000000a8380000000002008020000000000000000000000000000007000000002000000000000000000000041c17a1 s u := by
  refine ⟨_, rfl, ?_⟩
  repeat' with_reducible first
    | exact Frame.refl _ | apply Frame.ite | apply State.serve_frame | apply guarded_frame | apply State.toField_frame
    | decide +kernel | intro _ | split | refine Frame.fst (by assumption) ?_

theorem State.openForDebug_frame {M : Nat} {a s : State} (h : Frame M a s)  (hm : Nat.lor 0x38b00000000000085060000000000000000000000005e4d00000001c2000000000000000100be000000000000000000a8380000000002008020000000000000000000000000000007000000002000000000000000000000040c17a0 M = M := by decide +kernel) :
    Frame M a (State.openForDebug s) := by
  refine h.trans (Frame.mono hm ?_)
  unfold State.openForDebug
  repeat' with_reducible first
    | exact Frame.refl _ | apply Frame.ite | apply State.eachStr_frame | apply State.openNow_frame
    | apply State.startOpening_frame | decide +kernel | intro _ | split

theorem execEnableDebug_frame (t : Nat) (r : Req) (p : Bytes) (s : State) : ∃ u, execEnableDebug t r p s = .next u ∧ Frame 0x4a38b00000000000085060000000000000000000000005e4d0656d801c2000000000000000100be000000000000000000a8380000000002008020000000000000000000000000000007000000002000000000000000000000041c17a1 s u := by
  refine ⟨_, rfl, State.serve_frame (Frame.refl _) _ _ _ _ _ _ fun rid x v => guarded_frame (Frame.refl _) _ _ fun v => ?_⟩
  split
  · exact Frame.refl _
  extract_lets s1 src s2 s3
  have h1 : Frame 0x4a38b00000000000085060000000000000000000000005e4d0656d801c2000000000000000100be000000000000000000a8380000000002008020000000000000000000000000000007000000002000000000000000000000041c17a1 v s1 := by
    unfold s1; split
    · exact Frame.refl _
    · exact State.useToken_frame (Frame.refl _) ..
  split
  · have h2 : Frame 0x4a38b00000000000085060000000000000000000000005e4d0656d801c2000000000000000100be000000000000000000a8380000000002008020000000000000000000000000000007000000002000000000000000000000041c17a1 v s2 := Frame.mk' h1
    have h3 : Frame 0x4a38b00000000000085060000000000000000000000005e4d0656d801c2000000000000000100be000000000000000000a8380000000002008020000000000000000000000000000007000000002000000000000000000000041c17a1 v s3 := by
      unfold s3; split
      · exact State.calAbandon_frame h2 ..
      · exact h2
    exact State.debugSettle_frame (State.openForDebug_frame h3)
  · exact State.moveSecurity_frame h1 ..

theorem execServiceIdle_frame (t : Nat) (s : State) : ∃ u, execServiceIdle t s = .next u ∧ Frame 0x38b00000000000085060000000000000000000000005e4d0656d801c2000000000000000000be000000000000000000a8380000000002008020000000000000000000000000000007000000002000000000000000000000041c17a1 s u := by
  refine ⟨_, rfl, ?_⟩
  repeat' with_reducible first
    | exact Frame.refl _ | apply Frame.ite | apply State.at_frame | apply State.toField_frame | decide +kernel | intro _
    | split

theorem State.haltRegs_frame {M : Nat} {a s : State} (h : Frame M a s)  (hm : Nat.lor 0x400000000000000000000000000000000000000000000000000000000000000000000000000000000000000000000000000000000000000000000000000000000000000000000000000000000000000000000000000000000000000000 M = M := by decide +kernel) :
    Frame M a (State.haltRegs s) := by
  refine h.trans (Frame.mono hm ?_)
  unfold State.haltRegs
  repeat' with_reducible first
    | exact Frame.refl _ | apply State.wr_frame | decide +kernel | split

theorem State.haltDie_frame {M : Nat} {a s : State} (h : Frame M a s) (die : Nat) (halt : Bool) (hm : Nat.lor 0x400000000000000000000000000000000000000000000000000000000000000000000000000000000000000000000000000000000000000000000000000000000000000000000000000000000000000000000000000000000004001080 M = M := by decide +kernel) :
    Frame M a (State.haltDie s die halt) := by
  refine h.trans (Frame.mono hm ?_)
  unfold State.haltDie
  repeat' with_reducible first
    | exact Frame.refl _ | apply Frame.ite | apply State.haltRegs_frame | apply State.pump_frame | decide +kernel | split
    | fail_if_no_progress refine Frame.on_sec ?_ _

theorem execClusterHalt_frame (t : Nat) (die : Nat) (halt : Bool) (s : State) : ∃ u, execClusterHalt t die halt s = .next u ∧ Frame 0x400000000000000000000000000000000000000000000000000000000000000000000000000000000000000000000000000000000000000000000000000000000000000000000000000000000000000000000000000000000004001081 s u := by
  refine ⟨_, rfl, ?_⟩
  repeat' with_reducible first
    | exact Frame.refl _ | apply Frame.ite | apply State.at_frame | apply State.haltDie_frame | decide +kernel | intro _
    | split

theorem execProbeAttached_frame (t : Nat) (mv : Nat) (since : Nat) (s : State) : ∃ u, execProbeAttached t mv since s = .next u ∧ Frame 0x60038f00000000000085060000000000000000000000005e4d00000001c2000000000000000000be000000000000000000a8380000000002008020000000000000000000000000000007000000002000000000000000000000040c17a1 s u := by
  refine ⟨_, rfl, ?_⟩
  repeat' with_reducible first
    | exact Frame.refl _ | apply Frame.ite | apply State.at_frame | apply State.bump_frame | apply State.wrB_frame
    | apply State.setSecurity_frame | apply State.haltDie_frame | decide +kernel | apply Frame.foldl | intro _ | split

theorem execDecommissionModule_frame (t : Nat) (r : Req) (p : Bytes) (s : State) : ∃ u, execDecommissionModule t r p s = .next u ∧ Frame 0x8004a7db45800c3e18008d060000000000000000040000005e4d00000001c2000000000000000206fe000000000c00000000a83e000000000210802000000000000000000000000000000732e80001a0000600b1dcf800001fff07ffffff s u := by
  refine ⟨_, rfl, ?_⟩
  repeat' with_reducible first
    | exact Frame.refl _ | apply Frame.ite | apply State.serve_frame | apply guarded_frame | apply State.useToken_frame
    | apply State.answerLast_frame | apply State.tellClosing_frame | apply State.record_frame | apply State.restart_frame
    | decide +kernel | intro _ | split | fail_if_no_progress refine Frame.on_mbx ?_ _
    | fail_if_no_progress refine Frame.on_nv ?_ _ | fail_if_no_progress refine Frame.mk' ?_
    | refine Frame.fst (by assumption) ?_

end Sys2Proof.Machine
end

