-- ==== Sys2Proof/Laws/Frame/Mailbox.lean ====
section
/-! SUPPORT. What the operations of Machine/Mailbox.lean may change (`Frame`). -/

namespace Sys2Proof.Machine
open Obj

set_option linter.all false
set_option Elab.async false

theorem State.dropConn_frame {M : Nat} {a s : State} (h : Frame M a s) (id : Nat) (hm : Nat.lor 0x100 M = M := by decide +kernel) :
    Frame M a (State.dropConn s id) := by
  refine h.trans (Frame.mono hm ?_)
  unfold State.dropConn
  repeat' with_reducible first
    | exact Frame.refl _ | intro _ | split | fail_if_no_progress refine Frame.on_mbx ?_ _

theorem State.modConn_frame {M : Nat} {a s : State} (h : Frame M a s) (id : Nat) (f : Conn → Conn) (hm : Nat.lor 0x100 M = M := by decide +kernel) :
    Frame M a (State.modConn s id f) := by
  refine h.trans (Frame.mono hm ?_)
  unfold State.modConn
  repeat' with_reducible first
    | exact Frame.refl _ | apply Frame.ite | intro _ | split | fail_if_no_progress refine Frame.on_mbx ?_ _

theorem State.failTls_frame {M : Nat} {a s : State} (h : Frame M a s) (id : Nat) (hm : Nat.lor 0x200000000000000000004000100 M = M := by decide +kernel) :
    Frame M a (State.failTls s id) := by
  refine h.trans (Frame.mono hm ?_)
  unfold State.failTls
  repeat' with_reducible first
    | exact Frame.refl _ | apply Frame.ite | apply State.dropConn_frame | apply State.bump_frame | apply State.send_frame
    | decide +kernel | intro _ | split

theorem State.endSession_frame0 (s : State) (num : Nat) : Frame 0x40000000a0000000000000000000000000000000000000000000000000000000000000000000000000000600000000000000000000000000000000000000000000000000000000000000000000000200000000000000000000004001380 s (State.endSession s num) := by
  unfold State.endSession
  split
  · exact Frame.refl _
  next x _ =>
  extract_lets s1 src s2 s3 s4 s5
  have h1 : Frame 0x40000000a0000000000000000000000000000000000000000000000000000000000000000000000000000600000000000000000000000000000000000000000000000000000000000000000000000200000000000000000000004001380 s s1 := (Frame.refl s).foldl _ _ fun v q => State.closeStream_frame (Frame.refl _) ..
  have h2 : Frame 0x40000000a0000000000000000000000000000000000000000000000000000000000000000000000000000600000000000000000000000000000000000000000000000000000000000000000000000200000000000000000000004001380 s s2 := Frame.on_mbx h1 _
  have hb : ∀ (l : List Fld) (v : State), (∀ f ∈ l, f.obj = 0x0108) → Frame 0x40000000a0000000000000000000000000000000000000000000000000000000000000000000000000000600000000000000000000000000000000000000000000000000000000000000000000000200000000000000000000004001380 v (l.foldl (fun (s : State) f => s.wr f num f.reset) v) := by
    intro l v hl
    refine Frame.foldl_mem _ _ (Frame.refl v) fun w f hf => Frame.objs' (Frame.refl w) _ fun k e =>
      Store.get?_put_ne _ _ _ _ _ fun c =>
      (not_obj e : k.obj ≠ 0x0108) (by rw [c]; exact hl f hf)
  have h3 : Frame 0x40000000a0000000000000000000000000000000000000000000000000000000000000000000000000000600000000000000000000000000000000000000000000000000000000000000000000000200000000000000000000004001380 s s3 := h2.trans (hb _ _ (by decide))
  have h4 : Frame 0x40000000a0000000000000000000000000000000000000000000000000000000000000000000000000000600000000000000000000000000000000000000000000000000000000000000000000000200000000000000000000004001380 s s4 := State.calAbandon_frame h3 ..
  have h5 : Frame 0x40000000a0000000000000000000000000000000000000000000000000000000000000000000000000000600000000000000000000000000000000000000000000000000000000000000000000000200000000000000000000004001380 s s5 := State.modConn_frame h4 ..
  exact Frame.on_sec h5 _

theorem State.endSession_frame {M : Nat} {a s : State} (h : Frame M a s) (num : Nat) (hm : Nat.lor 0x40000000a0000000000000000000000000000000000000000000000000000000000000000000000000000600000000000000000000000000000000000000000000000000000000000000000000000200000000000000000000004001380 M = M := by decide +kernel) :
    Frame M a (State.endSession s num) := h.trans (Frame.mono hm (State.endSession_frame0 s num))

theorem State.endConn_frame {M : Nat} {a s : State} (h : Frame M a s) (id : Nat) (hm : Nat.lor 0x40000000a0000000000000000000000000000000000000000000000000000000000000000000000000000600000000000000000000000000000000000000000000000000000000000000000000000200000000000000000000004001380 M = M := by decide +kernel) :
    Frame M a (State.endConn s id) := by
  refine h.trans (Frame.mono hm ?_)
  unfold State.endConn
  repeat' with_reducible first
    | exact Frame.refl _ | apply State.endSession_frame | apply State.dropConn_frame | decide +kernel | intro _ | split

theorem State.shutSession_frame {M : Nat} {a s : State} (h : Frame M a s) (num : Nat) (reason : Nat) (hm : Nat.lor 0x40000000a0000000000000000000000000000000000000000000000000000000000000000000000000000600000000000000000000000000000000000000000000000000000000000000000000000200000000000000000000004001380 M = M := by decide +kernel) :
    Frame M a (State.shutSession s num reason) := by
  refine h.trans (Frame.mono hm ?_)
  unfold State.shutSession
  repeat' with_reducible first
    | exact Frame.refl _ | apply State.send_frame | apply State.endConn_frame | apply State.unsolicited_frame | decide +kernel
    | split

theorem State.trustRecheck_frame {M : Nat} {a s : State} (h : Frame M a s)  (hm : Nat.lor 0x40000000a0000000000000000000000000000000000000000000000000000000000000000000000000000600000000000000000000000000000000000000000000000000000000000000000000000200000000000000000000004001380 M = M := by decide +kernel) :
    Frame M a (State.trustRecheck s) := by
  refine h.trans (Frame.mono hm ?_)
  unfold State.trustRecheck
  repeat' with_reducible first
    | exact Frame.refl _ | apply Frame.ite | apply State.shutSession_frame | decide +kernel | apply Frame.foldl | intro _
    | split

theorem State.grantSession_frame {M : Nat} {a s : State} (h : Frame M a s) (id : Nat) (cls : Nat) (entry : Nat) (h_ : Hello) (bind : Bool) (hm : Nat.lor 0x4000100 M = M := by decide +kernel) :
    Frame M a (State.grantSession s id cls entry h_ bind) := by
  refine h.trans (Frame.mono hm ?_)
  unfold State.grantSession
  repeat' with_reducible first
    | exact Frame.refl _ | apply Frame.ite | apply State.modConn_frame | apply State.send_frame | decide +kernel | intro _
    | split

theorem State.setStored_frame {M : Nat} {a s : State} (h : Frame M a s) (cs : List CellW) (hm : Nat.lor 0xc M = M := by decide +kernel) :
    Frame M a (State.setStored s cs) := by
  refine h.trans (Frame.mono hm ?_)
  unfold State.setStored
  repeat' with_reducible first
    | exact Frame.refl _ | apply State.storeCells_frame | apply State.putCells_frame | decide +kernel | split

theorem State.commission_frame {M : Nat} {a s : State} (h : Frame M a s) (id : Nat) (h_ : Hello) (hm : Nat.lor 0x40004700a00000000008000000000000000000000000000000000000000000000000000000000000000006000000000000000000000000002008000000000000000000000000000000000000000002000000000000000000000040017ac M = M := by decide +kernel) :
    Frame M a (State.commission s id h_) := by
  refine h.trans (Frame.mono hm ?_)
  unfold State.commission
  repeat' with_reducible first
    | exact Frame.refl _ | apply Frame.ite | apply State.wrB_frame | apply State.setStored_frame | apply State.trustRegs_frame
    | apply State.record_frame | apply State.trustRecheck_frame | apply State.grantSession_frame | decide +kernel | intro _
    | split | fail_if_no_progress refine Frame.on_sec ?_ _ | fail_if_no_progress refine Frame.mk' ?_

theorem State.finishHandshake_frame {M : Nat} {a s : State} (h : Frame M a s) (id : Nat) (h_ : Hello) (signed : Bool) (hm : Nat.lor 0x4001c700a00000000008000000000000000000000000000000000000000000000000000000000000000006000000000000000000000000002008000000000000000000000000000000000000000002002000000000000000000040017ac M = M := by decide +kernel) :
    Frame M a (State.finishHandshake s id h_ signed) := by
  refine h.trans (Frame.mono hm ?_)
  unfold State.finishHandshake
  repeat' with_reducible first
    | exact Frame.refl _ | apply Frame.ite | apply State.failTls_frame | apply State.commission_frame | apply State.bump_frame
    | apply State.stamp_frame | apply State.grantSession_frame | decide +kernel | intro _ | split

theorem State.tcpArrives_frame {M : Nat} {a s : State} (h : Frame M a s) (id : Nat) (port : Nat) (addr : Nat) (tcp : TcpPorts) (hm : Nat.lor 0x4000100 M = M := by decide +kernel) :
    Frame M a (State.tcpArrives s id port addr tcp) := by
  refine h.trans (Frame.mono hm ?_)
  unfold State.tcpArrives
  repeat' with_reducible first
    | exact Frame.refl _ | apply Frame.ite | apply State.send_frame | decide +kernel | intro _ | split
    | fail_if_no_progress refine Frame.on_mbx ?_ _ | fail_if_no_progress refine Frame.mk' ?_

theorem State.keysUpdated_frame {M : Nat} {a s : State} (h : Frame M a s) (id : Nat) (asks : Bool) (hm : Nat.lor 0x4000100 M = M := by decide +kernel) :
    Frame M a (State.keysUpdated s id asks) := by
  refine h.trans (Frame.mono hm ?_)
  unfold State.keysUpdated
  repeat' with_reducible first
    | exact Frame.refl _ | apply Frame.ite | apply State.modConn_frame | apply State.send_frame | decide +kernel | intro _
    | split

theorem execTcpConnection_frame (t : Nat) (id : Nat) (port : Nat) (addr : Nat) (tcp : TcpPorts) (what : NetEvent) (s : State) : ∃ u, execTcpConnection t id port addr tcp what s = .next u ∧ Frame 0x4001c700a00000000008000000000000000000000000000000000000000000000000000000000000000006000000000000000000000000002008000000000000000000000000000000000000000002002000000000000000000040017ad s u := by
  refine ⟨_, rfl, ?_⟩
  repeat' with_reducible first
    | exact Frame.refl _ | apply Frame.ite | apply State.at_frame | apply State.tcpArrives_frame
    | apply State.finishHandshake_frame | apply State.keysUpdated_frame | apply State.endConn_frame | apply State.send_frame
    | decide +kernel | intro _ | split

theorem execCommissioned_frame (t : Nat) (id : Nat) (hello : Hello) (signed : Bool) (s : State) : ∃ u, execCommissioned t id hello signed s = .next u ∧ Frame 0x4001c700a00000000008000000000000000000000000000000000000000000000000000000000000000006000000000000000000000000002008000000000000000000000000000000000000000002002000000000000000000040017ad s u := by
  refine ⟨_, rfl, ?_⟩
  repeat' with_reducible first
    | exact Frame.refl _ | apply Frame.ite | apply State.at_frame | apply State.finishHandshake_frame | decide +kernel
    | intro _ | split

theorem execHandshakeTimeout_frame (t : Nat) (id : Nat) (s : State) : ∃ u, execHandshakeTimeout t id s = .next u ∧ Frame 0x200000000000000000004000101 s u := by
  refine ⟨_, rfl, ?_⟩
  repeat' with_reducible first
    | exact Frame.refl _ | apply Frame.ite | apply State.at_frame | apply State.failTls_frame | decide +kernel | split

theorem execOpenSessionTimeout_frame (t : Nat) (id : Nat) (s : State) : ∃ u, execOpenSessionTimeout t id s = .next u ∧ Frame 0x40000000a0000000000000000000000000000000000000000000000000000000000000000000000000000600000000000000000000000000000000000000000000000000000000000000000000000200100000000000000000004001381 s u := by
  refine ⟨_, rfl, ?_⟩
  repeat' with_reducible first
    | exact Frame.refl _ | apply Frame.ite | apply State.at_frame | apply State.send_frame | apply State.bump_frame
    | apply State.endConn_frame | decide +kernel | split

theorem execConnectionEnd_frame (t : Nat) (id : Nat) (s : State) : ∃ u, execConnectionEnd t id s = .next u ∧ Frame 0x40000000a0000000000000000000000000000000000000000000000000000000000000000000000000000600000000000000000000000000000000000000000000000000000000000000000000000200000000000000000000004001381 s u := by
  refine ⟨_, rfl, ?_⟩
  repeat' with_reducible first
    | exact Frame.refl _ | apply Frame.ite | apply State.at_frame | apply State.endConn_frame | decide +kernel | split

theorem State.newSession_frame {M : Nat} {a s : State} (h : Frame M a s) (c : Conn) (num : Nat) (hm : Nat.lor 0xa0000000000000000000000000000000000000000000000000000000000000000000000000000000000000000000000000000000000000000000000000000000000000000000000000000000004ee000000000000000000000000180 M = M := by decide +kernel) :
    Frame M a (State.newSession s c num) := by
  refine h.trans (Frame.mono hm ?_)
  unfold State.newSession
  repeat' with_reducible first
    | exact Frame.refl _ | apply Frame.ite | apply State.wr_frame | apply State.wrB_frame | apply State.stamp_frame
    | decide +kernel | intro _ | split | fail_if_no_progress refine Frame.on_mbx ?_ _
    | fail_if_no_progress refine Frame.on_sec ?_ _ | fail_if_no_progress refine Frame.mk' ?_

theorem execOpenSession_frame (t : Nat) (r : Req) (p : Bytes) (s : State) : ∃ u, execOpenSession t r p s = .next u ∧ Frame 0x400a0000a00000000000000000000000000000000000000000000000000000000000000000000000000006000000000000000000000000000000000000000000000000000000000000000000000006ee100000000000000000004001381 s u := by
  unfold execOpenSession
  have h0 := (State.at_frame (Frame.refl s) t : Frame 0x400a0000a00000000000000000000000000000000000000000000000000000000000000000000000000006000000000000000000000000000000000000000000000000000000000000000000000006ee100000000000000000004001381 s (s.at t))
  revert h0
  generalize s.at t = b
  intro h0
  refine ⟨_, rfl, ?_⟩
  split
  · exact h0
  split
  · exact h0
  split
  · exact h0
  split
  · exact State.serve_frame h0 _ _ _ _ _ _ (fun rid x v => Frame.refl _) ..
  extract_lets v
  have h1 : Frame 0x400a0000a00000000000000000000000000000000000000000000000000000000000000000000000000006000000000000000000000000000000000000000000000000000000000000000000000006ee100000000000000000004001381 s v := State.modConn_frame h0 ..
  clear_value v
  split
  · exact State.answerRaw_frame h1 ..
  split
  · exact State.answerRaw_frame h1 ..
  split
  · exact State.answerRaw_frame h1 ..
  split
  · exact State.send_frame (State.endConn_frame (State.bump_frame (State.answerRaw_frame h1 ..) ..) ..) ..
  · exact State.send_frame (State.newSession_frame h1 ..) ..

theorem execCloseSession_frame (t : Nat) (r : Req) (p : Bytes) (s : State) : ∃ u, execCloseSession t r p s = .next u ∧ Frame 0x40000000a0000000000000000000000000000000000000000000000000000000000000000000000000000600000000000000000000000000000000000000000000000000000000000000000000000200000000000000000000004001381 s u := by
  refine ⟨_, rfl, ?_⟩
  repeat' with_reducible first
    | exact Frame.refl _ | apply State.serve_frame | apply State.endSession_frame | apply State.answer_frame | decide +kernel
    | intro _ | split

theorem execPingSession_frame (t : Nat) (r : Req) (p : Bytes) (s : State) : ∃ u, execPingSession t r p s = .next u ∧ Frame 0x200000000000000000000004000101 s u := by
  refine ⟨_, rfl, ?_⟩
  repeat' with_reducible first
    | exact Frame.refl _ | apply State.serve_frame | decide +kernel | intro _ | split

theorem execSessionIdle_frame (t : Nat) (num : Nat) (s : State) : ∃ u, execSessionIdle t num s = .next u ∧ Frame 0x40000000a0000000000000000000000000000000000000000000000000000000000000000000000000000600000000000000000000000000000000000000000000000000000000000000000000000200000000000000000000004001381 s u := by
  refine ⟨_, rfl, ?_⟩
  repeat' with_reducible first
    | exact Frame.refl _ | apply Frame.ite | apply State.at_frame | apply State.shutSession_frame | decide +kernel | split

theorem State.badFrame_frame {M : Nat} {a s : State} (h : Frame M a s) (conn : Nat) (hm : Nat.lor 0x40000000a0000000000000000000000000000000000000000000000000000000000000000000000000000600000000000000000000000000000000000000000000000000000000000000000000000200400000000000000000004001380 M = M := by decide +kernel) :
    Frame M a (State.badFrame s conn) := by
  refine h.trans (Frame.mono hm ?_)
  unfold State.badFrame
  repeat' with_reducible first
    | exact Frame.refl _ | apply Frame.ite | apply State.send_frame | apply State.bump_frame | apply State.endConn_frame
    | decide +kernel | split

theorem execUnreadableFrame_frame (t : Nat) (conn : Nat) (hdr : Bytes) (s : State) : ∃ u, execUnreadableFrame t conn hdr s = .next u ∧ Frame 0x40000000a0000000000000000000000000000000000000000000000000000000000000000000000000000600000000000000000000000000000000000000000000000000000000000000000000000200400000000000000000004001381 s u := by
  refine ⟨_, rfl, ?_⟩
  repeat' with_reducible first
    | exact Frame.refl _ | apply Frame.ite | apply State.at_frame | apply State.badFrame_frame | apply State.serve_frame
    | decide +kernel | intro _ | split

theorem execBeginTxn_frame (t : Nat) (r : Req) (p : Bytes) (s : State) : ∃ u, execBeginTxn t r p s = .next u ∧ Frame 0x200000000000000000000004000101 s u := by
  refine ⟨_, rfl, ?_⟩
  repeat' with_reducible first
    | exact Frame.refl _ | apply State.serve_frame | apply guarded_frame | apply State.modSess_frame | decide +kernel
    | intro _ | split | refine Frame.fst (by assumption) ?_

theorem execAbortTxn_frame (t : Nat) (r : Req) (p : Bytes) (s : State) : ∃ u, execAbortTxn t r p s = .next u ∧ Frame 0x200000000000000000000004000101 s u := by
  refine ⟨_, rfl, ?_⟩
  repeat' with_reducible first
    | exact Frame.refl _ | apply State.serve_frame | apply guarded_frame | apply State.modSess_frame | decide +kernel
    | intro _ | split | refine Frame.fst (by assumption) ?_

theorem execTxnTimeout_frame (t : Nat) (num : Nat) (s : State) : ∃ u, execTxnTimeout t num s = .next u ∧ Frame 0x101 s u := by
  refine ⟨_, rfl, ?_⟩
  repeat' with_reducible first
    | exact Frame.refl _ | apply Frame.ite | apply State.at_frame | apply State.modSess_frame | decide +kernel | intro _
    | split

theorem execGetIdentity_frame (t : Nat) (r : Req) (p : Bytes) (s : State) : ∃ u, execGetIdentity t r p s = .next u ∧ Frame 0x200000000000000000000004000101 s u := by
  refine ⟨_, rfl, ?_⟩
  repeat' with_reducible first
    | exact Frame.refl _ | apply State.serve_frame | decide +kernel | intro _ | split

theorem execGetCert_frame (t : Nat) (r : Req) (p : Bytes) (s : State) : ∃ u, execGetCert t r p s = .next u ∧ Frame 0x200000000000000000000004000101 s u := by
  refine ⟨_, rfl, ?_⟩
  repeat' with_reducible first
    | exact Frame.refl _ | apply State.serve_frame | apply guarded_frame | decide +kernel | intro _ | split
    | refine Frame.fst (by assumption) ?_

theorem execGetQuote_frame (t : Nat) (r : Req) (p : Bytes) (s : State) : ∃ u, execGetQuote t r p s = .next u ∧ Frame 0x200000000000000000000006000101 s u := by
  refine ⟨_, rfl, ?_⟩
  repeat' with_reducible first
    | exact Frame.refl _ | apply State.serve_frame | apply guarded_frame | decide +kernel | intro _ | split
    | refine Frame.fst (by assumption) ?_ | fail_if_no_progress refine Frame.on_free ?_ _

theorem execRestartModule_frame (t : Nat) (r : Req) (p : Bytes) (s : State) : ∃ u, execRestartModule t r p s = .next u ∧ Frame 0x800007db45800c3e18008d060000000000000000040000005e4d00000001c2000000000000000206fe000000000c00000000a83e000000000210802000000000000000000000000000000732e80001a0000600b1dcf800001fff07ffffff s u := by
  refine ⟨_, rfl, ?_⟩
  repeat' with_reducible first
    | exact Frame.refl _ | apply Frame.ite | apply State.serve_frame | apply State.answerLast_frame
    | apply State.restart_frame | decide +kernel | intro _ | split

theorem execListObj_frame (t : Nat) (r : Req) (p : Bytes) (s : State) : ∃ u, execListObj t r p s = .next u ∧ Frame 0x200000000000000000000004000101 s u := by
  refine ⟨_, rfl, ?_⟩
  repeat' with_reducible first
    | exact Frame.refl _ | apply State.serve_frame | decide +kernel | intro _ | split

end Sys2Proof.Machine
end

