-- ==== Sys2Proof/Laws/Frame/Streams.lean ====
section
/-! SUPPORT. What the operations of Machine/Streams.lean may change (`Frame`). -/

namespace Sys2Proof.Machine
open Obj

set_option linter.all false
set_option Elab.async false

theorem State.openKind_frame {M : Nat} {a s : State} (h : Frame M a s) (kind : Nat) (hm : Nat.lor 0xa0000000000000000000000000000000000000000000000000000000000000000000000000000700000000000000000000000000000000000000000000000000000000000000000000000000000000000000000000000000000 M = M := by decide +kernel) :
    Frame M a (State.openKind s kind) := by
  refine h.trans (Frame.mono hm ?_)
  unfold State.openKind
  repeat' with_reducible first
    | exact Frame.refl _ | apply State.wr_frame | apply State.wrB_frame | decide +kernel | split

theorem execOpenStream_frame (t : Nat) (r : Req) (p : Bytes) (s : State) : ∃ u, execOpenStream t r p s = .next u ∧ Frame 0xa0000010000000000000000000000000000000000000000000000000000000000000000000000700000000000000000000000000000000000000000000000000000000000000000000000200000000000000000000004000101 s u := by
  refine ⟨_, rfl, ?_⟩
  repeat' with_reducible first
    | exact Frame.refl _ | apply Frame.ite | apply State.serve_frame | apply State.wr_frame | apply guarded_frame
    | apply State.openKind_frame | apply State.modSess_frame | decide +kernel | intro _ | split
    | refine Frame.fst (by assumption) ?_

theorem execCloseStream_frame (t : Nat) (r : Req) (p : Bytes) (s : State) : ∃ u, execCloseStream t r p s = .next u ∧ Frame 0xa0000000000000000000000000000000000000000000000000000000000000000000000000000600000000000000000000000000000000000000000000000000000000000000000000000200000000000000000000004000301 s u := by
  refine ⟨_, rfl, ?_⟩
  repeat' with_reducible first
    | exact Frame.refl _ | apply State.serve_frame | apply State.closeStream_frame | decide +kernel | intro _ | split

theorem State.modStream_frame {M : Nat} {a s : State} (h : Frame M a s) (sess : Nat) (num : Nat) (f : Stream → Stream) (hm : Nat.lor 0x100 M = M := by decide +kernel) :
    Frame M a (State.modStream s sess num f) := by
  refine h.trans (Frame.mono hm ?_)
  unfold State.modStream
  repeat' with_reducible first
    | exact Frame.refl _ | apply Frame.ite | apply State.modSess_frame | decide +kernel | intro _ | split

theorem execGrantCredit_frame (t : Nat) (r : Req) (p : Bytes) (s : State) : ∃ u, execGrantCredit t r p s = .next u ∧ Frame 0x200000000000000000000004000101 s u := by
  refine ⟨_, rfl, ?_⟩
  dsimp only
  repeat' with_reducible first
    | exact Frame.refl _ | apply Frame.ite | apply State.serve_frame | apply State.modStream_frame | decide +kernel | intro _
    | split

theorem State.takeFrame_frame {M : Nat} {a s : State} (h : Frame M a s) (x : Sess) (p : Bytes) (hm : Nat.lor 0xa0000000000000000000000000000000000000000000000000000000000000000000000000000600000000000000000000000000000000000000000000000000000000000000000000000001000000000000000000006000300 M = M := by decide +kernel) :
    Frame M a (State.takeFrame s x p) := by
  refine h.trans (Frame.mono hm ?_)
  unfold State.takeFrame
  repeat' with_reducible first
    | exact Frame.refl _ | apply Frame.ite | apply State.bump_frame | apply State.closeStream_frame
    | apply State.streamFrame_frame | apply State.modSess_frame | apply State.modStream_frame | decide +kernel | intro _
    | split | fail_if_no_progress refine Frame.on_mbx ?_ _

theorem execStreamDataIn_frame (t : Nat) (r : Req) (p : Bytes) (s : State) : ∃ u, execStreamDataIn t r p s = .next u ∧ Frame 0x40000000a0000000000000000000000000000000000000000000000000000000000000000000000000000600000000000000000000000000000000000000000000000000000000000000000000000201400000000000000000006001381 s u := by
  refine ⟨_, rfl, ?_⟩
  repeat' with_reducible first
    | exact Frame.refl _ | apply Frame.ite | apply State.at_frame | apply State.badFrame_frame | apply State.refuseFrame_frame
    | apply State.answerRaw_frame | apply State.modSess_frame | apply State.takeFrame_frame | decide +kernel | intro _ | split

theorem execStreamCredit_frame (t : Nat) (sess : Nat) (num : Nat) (frames : Nat) (s : State) : ∃ u, execStreamCredit t sess num frames s = .next u ∧ Frame 0x4000101 s u := by
  refine ⟨_, rfl, ?_⟩
  repeat' with_reducible first
    | exact Frame.refl _ | apply Frame.ite | apply State.at_frame | apply State.unsolicited_frame
    | apply State.modStream_frame | decide +kernel | intro _ | split

theorem State.sentFrame_frame {M : Nat} {a s : State} (h : Frame M a s) (sess : Nat) (q : Stream) (ended : Bool) (hm : Nat.lor 0x800000000000000000000000000000000000000000000000000000000000000000200000000000000000000000000200800000000000000000000000000000000000000000000000000000000000000004000720 M = M := by decide +kernel) :
    Frame M a (State.sentFrame s sess q ended) := by
  refine h.trans (Frame.mono hm ?_)
  unfold State.sentFrame
  repeat' with_reducible first
    | exact Frame.refl _ | apply Frame.ite | apply State.modSess_frame | apply State.exportSent_frame
    | apply State.modStream_frame | decide +kernel | intro _ | split

theorem State.netBSent_frame {M : Nat} {a s : State} (h : Frame M a s) (port : Nat) (bytes : Nat) (hm : Nat.lor 0x100 M = M := by decide +kernel) :
    Frame M a (State.netBSent s port bytes) := by
  refine h.trans (Frame.mono hm ?_)
  unfold State.netBSent
  repeat' with_reducible first
    | exact Frame.refl _ | apply Frame.ite | decide +kernel | intro _ | split | fail_if_no_progress refine Frame.on_mbx ?_ _
    | fail_if_no_progress refine Frame.mk' ?_

theorem execStreamDataOut_frame (t : Nat) (sess : Nat) (num : Nat) (ahead : Nat) (s : State) : ∃ u, execStreamDataOut t sess num ahead s = .next u ∧ Frame 0x8000000000000000000000000000000000000000000000000000000000000000002000000000000000000000000002c0800000000000000000000000000000000000000000000000000000000000000006000721 s u := by
  refine ⟨_, rfl, ?_⟩
  repeat' with_reducible first
    | exact Frame.refl _ | apply Frame.ite | apply State.at_frame | apply State.modStream_frame
    | apply State.streamFrame_frame | apply State.netBSent_frame | apply State.bump_frame | apply State.sentFrame_frame
    | apply State.markSending_frame | decide +kernel | intro _ | split

end Sys2Proof.Machine
end

