-- ==== Sys2Proof/Laws/Frame/Dram.lean ====
section
/-! SUPPORT. What the operations of Machine/Dram.lean may change (`Frame`). -/

namespace Sys2Proof.Machine
open Obj

set_option linter.all false
set_option Elab.async false

theorem State.damageBlock_frame {M : Nat} {a s : State} (h : Frame M a s) (ring : Nat) (seq : Nat) (hm : Nat.lor 0x800000000000000000000000000000000000000000000000000000000000000000000000000000000000000000000227c00000000000000000000000000000000000000000000000000000000000000004000720 M = M := by decide +kernel) :
    Frame M a (State.damageBlock s ring seq) := by
  refine h.trans (Frame.mono hm ?_)
  unfold State.damageBlock
  repeat' with_reducible first
    | exact Frame.refl _ | apply Frame.ite | apply State.histRegs_frame | apply State.record_frame | decide +kernel | intro _
    | split | fail_if_no_progress refine Frame.on_hist ?_ _ | fail_if_no_progress refine Frame.mk' ?_

theorem State.spoilSample_frame {M : Nat} {a s : State} (h : Frame M a s) (ch : Nat) (index : Nat) (hm : Nat.lor 0x2000 M = M := by decide +kernel) :
    Frame M a (State.spoilSample s ch index) := by
  refine h.trans (Frame.mono hm ?_)
  unfold State.spoilSample
  repeat' with_reducible first
    | exact Frame.refl _ | apply Frame.ite | apply State.modTrace_frame | decide +kernel | intro _ | split | dsimp only

theorem State.refuseTransfers_frame {M : Nat} {a s : State} (h : Frame M a s)  (hm : Nat.lor 0xa0000000000000000000000000000000000000000000000000000000000000000000000000000000000000000000000000000000000000000000000000000000000000000000000000000000000000000000000000006000100 M = M := by decide +kernel) :
    Frame M a (State.refuseTransfers s) := by
  refine h.trans (Frame.mono hm ?_)
  unfold State.refuseTransfers
  repeat' with_reducible first
    | exact Frame.refl _ | apply Frame.ite | apply State.abortStreams_frame | apply State.wrB_frame | apply State.wr_frame
    | decide +kernel | intro _ | split | fail_if_no_progress refine Frame.on_mbx ?_ _

theorem execDramUncorrectableError_frame (t : Nat) (region : Nat) (a_ : Nat) (b : Nat) (s : State) : ∃ u, execDramUncorrectableError t region a_ b s = .next u ∧ Frame 0x800007df4f800c3e18008d060000000000000000040000005e4d00000001c2000000000000000206fe000000000c00000000a83e000000000237c02000000000000000000000000000000732e8b93da000060ffffdfac0001fff07ffffff s u := by
  refine ⟨_, rfl, ?_⟩
  repeat' with_reducible first
    | exact Frame.refl _ | apply Frame.ite | apply State.at_frame | apply State.wr_frame | apply State.bump_frame
    | apply State.wrB_frame | apply State.restart_frame | apply State.refuseTransfers_frame | apply State.spoilSample_frame
    | apply State.damageBlock_frame | decide +kernel | split

end Sys2Proof.Machine
end

