-- ==== Sys2Proof/Laws/Frame/RuntimeStart.lean ====
section
/-! SUPPORT. What the operations of Machine/RuntimeStart.lean may change (`Frame`). -/

namespace Sys2Proof.Machine
open Obj

set_option linter.all false
set_option Elab.async false

theorem State.recordStart_frame {M : Nat} {a s : State} (h : Frame M a s)  (hm : Nat.lor 0x800000000000000000000000000000000000000000000000000000000000000000000000000000000000000000000200800000000000000000000000000000000000000000000000000000000000000004000760 M = M := by decide +kernel) :
    Frame M a (State.recordStart s) := by
  refine h.trans (Frame.mono hm ?_)
  unfold State.recordStart
  repeat' with_reducible first
    | exact Frame.refl _ | apply Frame.ite | apply State.record_frame | apply State.putLater_frame
    | apply State.attention_frame | decide +kernel | apply Frame.foldl | intro _ | split
    | fail_if_no_progress refine Frame.on_boot ?_ _ | fail_if_no_progress refine Frame.mk' ?_

theorem State.stringsStart_frame {M : Nat} {a s : State} (h : Frame M a s)  (hm : Nat.lor 0xa8380025010000000000000000000000000c0400000000100000100000000000000000000000000004001000 M = M := by decide +kernel) :
    Frame M a (State.stringsStart s) := by
  refine h.trans (Frame.mono hm ?_)
  unfold State.stringsStart
  repeat' with_reducible first
    | exact Frame.refl _ | apply State.eachStr_frame | apply State.startEnum_frame | apply State.rateRefresh_frame
    | apply State.startFe_frame | decide +kernel | intro _ | split

theorem State.enginesStart_frame {M : Nat} {a s : State} (h : Frame M a s)  (hm : Nat.lor 0x85062000e0002cffc00008000000004000000081c6040000000000000000000000000000000000000000071000000200800000000000000000000000000000000000000000000000000000000000000004cc1722 M = M := by decide +kernel) :
    Frame M a (State.enginesStart s) := by
  refine h.trans (Frame.mono hm ?_)
  unfold State.enginesStart
  repeat' with_reducible first
    | exact Frame.refl _ | apply Frame.ite | apply State.domStart_frame | apply State.canBegin_frame
    | apply State.pacerRule_frame | apply State.captureWritten_frame | apply State.chanStart_frame
    | apply State.loadRegs_frame | decide +kernel | apply Frame.foldl | intro _ | split

theorem State.rolesStart_frame {M : Nat} {a s : State} (h : Frame M a s)  (hm : Nat.lor 0x800000000000000000000000000000000656d80000000000000000000000000000000000000000000000000000000200800000000000000000000000000000000000000000000000000000000000000004100720 M = M := by decide +kernel) :
    Frame M a (State.rolesStart s) := by
  refine h.trans (Frame.mono hm ?_)
  unfold State.rolesStart
  repeat' with_reducible first
    | exact Frame.refl _ | apply State.roleCheck_frame | apply State.discover_frame | decide +kernel | split
    | fail_if_no_progress refine Frame.on_blk ?_ _

theorem State.runtimeRegs_frame {M : Nat} {a s : State} (h : Frame M a s)  (hm : Nat.lor 0x200000000000000000000000000000000040400000000000000000000000000000000040 M = M := by decide +kernel) :
    Frame M a (State.runtimeRegs s) := by
  refine h.trans (Frame.mono hm ?_)
  unfold State.runtimeRegs
  repeat' with_reducible first
    | exact Frame.refl _ | apply State.stamp_frame | apply State.setPhase_frame | apply State.wr_frame | decide +kernel
    | split | fail_if_no_progress refine Frame.on_boot ?_ _

theorem State.runtimeRun_frame {M : Nat} {a s : State} (h : Frame M a s) (netA : Bool) (netB : Bool) (hm : Nat.lor 0x7db00000000000095062000e0002cffc000080000005e4d0656d881c6040000000000000000be000000000000000000a8380735010002008020000000000000000c04000000001007005000002000c0000000000000000004dc17e2 M = M := by decide +kernel) :
    Frame M a (State.runtimeRun s netA netB) := by
  refine h.trans (Frame.mono hm ?_)
  unfold State.runtimeRun
  repeat' with_reducible first
    | exact Frame.refl _ | apply Frame.ite | apply State.wrB_frame | apply State.recordStart_frame
    | apply State.trustRegs_frame | apply State.stringsStart_frame | apply State.enginesStart_frame
    | apply State.rolesStart_frame | apply State.refreshAll_frame | apply State.portStart_frame | apply State.reachPhase_frame
    | decide +kernel | intro _ | split | fail_if_no_progress refine Frame.on_hist ?_ _
    | fail_if_no_progress refine Frame.mk' ?_

theorem execRuntimeStart_frame (t : Nat) (netA : Bool) (netB : Bool) (s : State) : ∃ u, execRuntimeStart t netA netB s = .next u ∧ Frame 0x7db00000000000095062000e0002cffc000080000005e4d0656d881c6040000000000000000be000000000000000000a838073501000200a020000000000000000c0400000000100740580001a000c0000000000000000004dc17f3 s u := by
  refine ⟨_, rfl, ?_⟩
  repeat' with_reducible first
    | exact Frame.refl _ | apply Frame.ite | apply State.at_frame | apply State.runtimeRegs_frame
    | apply State.portStart_frame | apply State.runtimeRun_frame | decide +kernel | split

theorem State.readSwitches_frame {M : Nat} {a s : State} (h : Frame M a s) (new : List Nat) (hm : Nat.lor 0x38b0000000000008d060000000000000000000000005e4d00000001c2000000000000000200be000000000c00000000a838000000000200802000000000000000000000000000000700000000200000000002f800000028040c17a0 M = M := by decide +kernel) :
    Frame M a (State.readSwitches s new) := by
  refine h.trans (Frame.mono hm ?_)
  unfold State.readSwitches
  repeat' with_reducible first
    | exact Frame.refl _ | apply Frame.ite | apply State.switchRegs_frame | apply State.applySwitches_frame
    | apply State.eachStr_frame | apply State.thresholdsAll_frame | apply State.refreshAll_frame | apply State.wrB_frame
    | apply State.record_frame | decide +kernel | intro _ | split | fail_if_no_progress refine Frame.on_panel ?_ _
    | fail_if_no_progress refine Frame.mk' ?_

theorem execSwitchReading_frame (t : Nat) (profile : Nat) (block : Nat) (mask : Nat) (addr : Nat) (s : State) : ∃ u, execSwitchReading t profile block mask addr s = .next u ∧ Frame 0x38b0000000000008d060000000000000000000000005e4d00000001c2000000000000000200be000000000c00000000a838000000000200802000000000000000000000000000000700000000200000000002f800000028040c17a1 s u := by
  refine ⟨_, rfl, ?_⟩
  repeat' with_reducible first
    | exact Frame.refl _ | apply Frame.ite | apply State.at_frame | apply State.readSwitches_frame | decide +kernel | intro _
    | split | fail_if_no_progress refine Frame.on_panel ?_ _ | fail_if_no_progress refine Frame.mk' ?_

theorem execSwitchFaultRetry_frame (t : Nat) (profile : Nat) (block : Nat) (mask : Nat) (addr : Nat) (s : State) : ∃ u, execSwitchFaultRetry t profile block mask addr s = .next u ∧ Frame 0x38b0000000000008d060000000000000000000000005e4d00000001c2000000000000000200be000000000c00000000a838000000000200802000000000000000000000000000000700000000200000000002f800000028040c17a1 s u := by
  refine ⟨_, rfl, ?_⟩
  repeat' with_reducible first
    | exact Frame.refl _ | apply Frame.ite | apply State.at_frame | apply State.readSwitches_frame | decide +kernel | intro _
    | split

theorem execHistoryInitComplete_frame (t : Nat) (s : State) : ∃ u, execHistoryInitComplete t s = .next u ∧ Frame 0x8000000000000000000000000000000000000400000000000000000000000000000000041 s u := by
  refine ⟨_, rfl, ?_⟩
  repeat' with_reducible first
    | exact Frame.refl _ | apply Frame.ite | apply State.at_frame | apply State.wrB_frame | apply State.reachPhase_frame
    | decide +kernel | split

end Sys2Proof.Machine
end

