-- ==== Sys2Proof/Laws/Frame/WriteOps.lean ====
section
/-! SUPPORT. What the operations of Machine/WriteOps.lean may change (`Frame`). -/

namespace Sys2Proof.Machine
open Obj

set_option linter.all false
set_option Elab.async false

theorem State.expected_frame {M : Nat} {a s : State} (h : Frame M a s)  (hm : Nat.lor 0x4 M = M := by decide +kernel) :
    Frame M a (State.expected s) := by
  refine h.trans (Frame.mono hm ?_)
  unfold State.expected
  repeat' with_reducible first
    | exact Frame.refl _ | apply Frame.ite | apply State.putCells_frame | apply State.runWrites_frame
    | apply State.withWait_frame | decide +kernel | apply Frame.foldl | intro _ | split | refine Frame.fst (by assumption) ?_

end Sys2Proof.Machine
end

