-- ==== Sys2Proof/Laws/Frame/Writes.lean ====
section
/-! SUPPORT. What the operations of Machine/Writes.lean may change (`Frame`). -/

namespace Sys2Proof.Machine
open Obj

set_option linter.all false
set_option Elab.async false

theorem State.freshen_frame {M : Nat} {a s : State} (h : Frame M a s) (obj : Nat) (i : Nat) (hm : Nat.lor 0x6041000000000040200010000010000000000280001c000000000000410000000000000000000000000000000000000000000000200200000000000000000000000000000000000000000000040000110038000000002800000000000200 M = M := by decide +kernel) :
    Frame M a (State.freshen s obj i) := by
  refine h.trans (Frame.mono hm ?_)
  unfold State.freshen
  repeat' with_reducible first
    | exact Frame.refl _ | apply Frame.ite | apply State.wr_frame | apply State.wrB_frame | apply State.backupRegs_frame
    | apply State.intakeSecond_frame | apply State.warmNow_frame | apply State.agesNow_frame | apply State.latencyNow_frame
    | apply State.timeRegs_frame | apply State.portRegs_frame | apply State.updRegs_frame | apply State.haltRegs_frame
    | decide +kernel | intro _ | split

theorem State.getObj_frame {M : Nat} {a s : State} (h : Frame M a s) (p : Bytes) (hm : Nat.lor 0x6041000000000040200010000010000000000280001c000000000000410000000000000000000000000000000000000000000000200200000000000000000000000000000000000000000000040000110038000000002800000000000200 M = M := by decide +kernel) :
    Frame M a (State.getObj s p).1 := by
  refine h.trans (Frame.mono hm ?_)
  unfold State.getObj
  dsimp only
  repeat' with_reducible first
    | exact Frame.refl _ | apply Frame.ite | apply guarded_frame | apply State.freshen_frame | decide +kernel | intro _
    | split | refine Frame.fst (by assumption) ?_

theorem execGetObj_frame (t : Nat) (r : Req) (p : Bytes) (s : State) : ∃ u, execGetObj t r p s = .next u ∧ Frame 0x6041000000000040200010000010000000000280001c000000000000410000000000000000000000000000000000000000000000200200000000000000000000000000000000000000000000040000310038000000002800000004000301 s u := by
  refine ⟨_, rfl, ?_⟩
  repeat' with_reducible first
    | exact Frame.refl _ | apply State.serve_frame | apply State.getObj_frame | decide +kernel | intro _ | split
    | refine Frame.fst (by assumption) ?_

theorem State.tableWritten_frame {M : Nat} {a s : State} (h : Frame M a s) (i : Nat) (hm : Nat.lor 0x800000000000000000000000000000000000000000000000000000000000000000000000000000000000000000000200800000000000000000000000000000000000000000000000000000000000000004001720 M = M := by decide +kernel) :
    Frame M a (State.tableWritten s i) := by
  refine h.trans (Frame.mono hm ?_)
  unfold State.tableWritten
  repeat' with_reducible first
    | exact Frame.refl _ | apply Frame.ite | apply State.record_frame | apply State.eachStr_frame | apply State.modStr_frame
    | decide +kernel | intro _ | split

theorem State.profileWritten_frame {M : Nat} {a s : State} (h : Frame M a s)  (hm : Nat.lor 0x38b00000000000085060000000000000000000000005e4d00000001c2000000000000000200be000000000c00000000a8380000000002008020000000000000000000000000000007000000002000000000000000000000040c17a0 M = M := by decide +kernel) :
    Frame M a (State.profileWritten s) := by
  refine h.trans (Frame.mono hm ?_)
  unfold State.profileWritten
  repeat' with_reducible first
    | exact Frame.refl _ | apply Frame.ite | apply State.extendSlot_frame | apply State.record_frame
    | apply State.eachStr_frame | apply State.modStr_frame | apply State.profileNow_frame | decide +kernel | intro _ | split

theorem State.canObjWritten_frame {M : Nat} {a s : State} (h : Frame M a s) (o : State) (i : Nat) (hm : Nat.lor 0x220000000000000000000000000000000000000000000000000000000000000000000000000000000000000000000000000000000000000000000000000000000000000000000000000000000000000040000 M = M := by decide +kernel) :
    Frame M a (State.canObjWritten s o i) := by
  refine h.trans (Frame.mono hm ?_)
  unfold State.canObjWritten
  repeat' with_reducible first
    | exact Frame.refl _ | apply Frame.ite | apply State.pendReg_frame | apply State.modBus_frame
    | apply State.ownerRefresh_frame | decide +kernel | intro _ | split

theorem State.objWritten_frame {M : Nat} {a s : State} (h : Frame M a s) (o : State) (sess : Nat) (obj : Nat) (i : Nat) (hm : Nat.lor 0x7db000000000000f5062000e0002cffc2800bffff005e4d0656d8d1c6072000000000000200be000000000c00000000a838071000000337c02000000000000000000000000000000700000020200000000080002800000004dc9fa2 M = M := by decide +kernel) :
    Frame M a (State.objWritten s o sess obj i) := by
  refine h.trans (Frame.mono hm ?_)
  unfold State.objWritten
  repeat' with_reducible first
    | exact Frame.refl _ | apply Frame.ite | apply State.tapFollows_frame | apply State.refitPins_frame
    | apply State.compressCheck_frame | apply State.tableWritten_frame | apply State.profileWritten_frame
    | apply State.loopOut_frame | apply State.ownerRefresh_frame | apply State.chanWritten_frame | apply State.keepChan_frame
    | apply State.loadRegs_frame | apply State.domWritten_frame | apply State.pacerWritten_frame
    | apply State.captureWritten_frame | apply State.canChanWritten_frame | apply State.canObjWritten_frame
    | apply State.portWritten_frame | apply State.trustRegs_frame | apply State.record_frame | decide +kernel | intro _
    | split

theorem State.touchAct_frame0 (s : State) (i : Nat) (x : Touch) : Frame 0x41000c3e18008506c0002000000000000000000000400000000000000000000000000000000040280000000000000000000000001f27c000000000000000000000000000000000000000000000000000000000000000060d372c s (State.touchAct s i x) := by
  unfold State.touchAct
  extract_lets bits f old
  clear_value bits f old
  refine Frame.ite (Frame.ite ((Frame.refl s).foldl _ _ fun v k => State.releaseCapture_frame (Frame.refl _) ..) (Frame.any (Frame.refl s) _)) ?_
  refine Frame.ite (State.wrB_frame (State.wrB_frame (Frame.refl s) ..) ..) ?_
  refine Frame.ite (State.ackEpoch_frame (Frame.refl s) ..) ?_
  refine Frame.ite (Frame.refl s) ?_
  refine Frame.ite (State.closeRequested_frame (Frame.refl s) ..) ?_
  refine Frame.ite (State.pinAround_frame (Frame.refl s) ..) ?_
  refine Frame.ite (State.releasePins_frame (Frame.refl s) ..) ?_
  refine Frame.ite (State.modChan_frame (Frame.refl s) ..) ?_
  refine Frame.ite (State.canRecover_frame (Frame.refl s) ..) ?_
  refine Frame.ite (State.canContent_frame (Frame.refl s) ..) ?_
  refine Frame.ite (State.advanceFuses_frame (Frame.refl s) ..) ?_
  exact Frame.ite (State.restartNodes_frame (Frame.refl s) ..) (Frame.refl s)

theorem State.touchAct_frame {M : Nat} {a s : State} (h : Frame M a s) (i : Nat) (x : Touch) (hm : Nat.lor 0x41000c3e18008506c0002000000000000000000000400000000000000000000000000000000040280000000000000000000000001f27c000000000000000000000000000000000000000000000000000000000000000060d372c M = M := by decide +kernel) :
    Frame M a (State.touchAct s i x) := h.trans (Frame.mono hm (State.touchAct_frame0 s i x))

theorem State.markStale_frame0 (s : State) (sess : Nat) (is : List (Nat × Nat)) : Frame 0x100 s (State.markStale s sess is) := by
  exact Frame.on_mbx (Frame.refl s) _

theorem State.markStale_frame {M : Nat} {a s : State} (h : Frame M a s) (sess : Nat) (is : List (Nat × Nat)) (hm : Nat.lor 0x100 M = M := by decide +kernel) :
    Frame M a (State.markStale s sess is) := h.trans (Frame.mono hm (State.markStale_frame0 s sess is))

theorem State.touchNow_frame {M : Nat} {a s : State} (h : Frame M a s) (o : State) (ws : List Write) (w : Write) (x : Touch) (hm : Nat.lor 0x41000c3e18008506c0002000000000000000000000400000000000000000000000000000000040280000000000000000000000001f27c000000000000000000000000000000000000000000000000000000000000000060d372c M = M := by decide +kernel) :
    Frame M a (State.touchNow s o ws w x) := by
  refine h.trans (Frame.mono hm ?_)
  unfold State.touchNow
  repeat' with_reducible first
    | exact Frame.refl _ | apply Frame.ite | apply State.modStr_frame | apply State.touchAct_frame | decide +kernel | intro _
    | split

theorem State.putString_frame {M : Nat} {a s : State} (h : Frame M a s) (o : State) (ws : List Write) (n : Nat) (cs : List CellW) (hm : Nat.lor 0x38b0001f000000085062000000000000000000000005e4d00000001c2000000000000000000be000700000000000038a8390024010002008020000010010000000c00000000001007001000002000000000000000000000040d17a4 M = M := by decide +kernel) :
    Frame M a (State.putString s o ws n cs) := by
  refine h.trans (Frame.mono hm ?_)
  unfold State.putString
  repeat' with_reducible first
    | exact Frame.refl _ | apply Frame.ite | apply State.modStr_frame | apply State.putCells_frame
    | apply State.stringWritten_frame | decide +kernel | intro _ | split

theorem State.applyWrites_frame {M : Nat} {a s : State} (h : Frame M a s) (sess : Nat) (ws : List Write) (hm : Nat.lor 0x40007db5b01fc3e1800f506e000e0002cffc2800bffff005e4d0656d8d1c6072000000000000200be004768000c00000038a839073401001f37c020000010010000000c0000000000100700100020200000000080002800000006ddbfae M = M := by decide +kernel) :
    Frame M a (State.applyWrites s sess ws) := by
  refine h.trans (Frame.mono hm ?_)
  unfold State.applyWrites
  repeat' with_reducible first
    | exact Frame.refl _ | apply Frame.ite | apply State.eachStr_frame | apply State.waitDue_frame
    | apply State.withWait_frame | apply State.runWrites_frame | apply State.storeCells_frame | apply State.bump_frame
    | apply State.putCells_frame | apply State.keepOld_frame | apply State.putString_frame | apply State.objWritten_frame
    | apply State.touchNow_frame | apply State.markStale_frame | apply State.trustRecheck_frame | decide +kernel
    | apply Frame.foldl | intro _ | split | refine Frame.fst (by assumption) ?_

theorem State.awaitNodes_frame {M : Nat} {a s : State} (h : Frame M a s) (rid : Rid) (ws : List Write) (hm : Nat.lor 0x100 M = M := by decide +kernel) :
    Frame M a (State.awaitNodes s rid ws).1 := by
  refine h.trans (Frame.mono hm ?_)
  unfold State.awaitNodes
  dsimp only
  repeat' with_reducible first
    | exact Frame.refl _ | apply Frame.ite | decide +kernel | intro _ | split | fail_if_no_progress refine Frame.on_mbx ?_ _
    | fail_if_no_progress refine Frame.mk' ?_

theorem State.accept_frame {M : Nat} {a s : State} (h : Frame M a s) (rid : Rid) (ws : List Write) (hm : Nat.lor 0x40007db5b01fc3e1800f506e000fff82cffc2800bffff005e4d0656d8d1c6072000000000000200be004768000c00000038a839073401001f37c020000010010000000c0000000000100700100020200000000080002800000006ddbfae M = M := by decide +kernel) :
    Frame M a (State.accept s rid ws).1 := by
  refine h.trans (Frame.mono hm ?_)
  unfold State.accept
  repeat' with_reducible first
    | exact Frame.refl _ | apply Frame.ite | apply State.journal_frame | apply State.applyWrites_frame
    | apply State.awaitNodes_frame | decide +kernel | intro _ | split | refine Frame.fst (by assumption) ?_

theorem State.useFor_frame {M : Nat} {a s : State} (h : Frame M a s) (sess : Nat) (w : Write) (hm : Nat.lor 0x4a000000000000000000000000000000000000000000000000000000000000000000000000000000000000000000000000000000000000000000000000000000000000000000000000000000000000000000000000000000000000080 M = M := by decide +kernel) :
    Frame M a (State.useFor s sess w) := by
  refine h.trans (Frame.mono hm ?_)
  unfold State.useFor
  repeat' with_reducible first
    | exact Frame.refl _ | apply Frame.ite | apply State.useToken_frame | decide +kernel | split

theorem State.putObj_frame {M : Nat} {a s : State} (h : Frame M a s) (rid : Rid) (x : Sess) (p : Bytes) (hm : Nat.lor 0x404a7db5b01fc3e1800f506e000fff82cffc2800bffff005e4d0656d8d1c6072000000000000200be004768000c00000038a839073401001f37c020000010010000000c0000000000100700100020200000000080002800000006ddbfae M = M := by decide +kernel) :
    Frame M a (State.putObj s rid x p).1 := by
  refine h.trans (Frame.mono hm ?_)
  unfold State.putObj
  dsimp only
  repeat' with_reducible first
    | exact Frame.refl _ | apply guarded_frame | apply State.runWrites_frame | apply State.expected_frame
    | apply State.modSess_frame | apply State.useFor_frame | apply State.accept_frame | decide +kernel | intro _ | split
    | refine Frame.fst (by assumption) ?_

theorem State.servePut_frame {M : Nat} {a s : State} (h : Frame M a s) (t : Nat) (r : Req) (p : Bytes) (hm : Nat.lor 0x404a7db5b01fc3e1800f506e000fff82cffc2800bffff005e4d0656d8d1c6072000000000000200be004768000c00000038a839073401001f37c020000010010000000c0000000000100700100020200000000080002800000006ddbfaf M = M := by decide +kernel) :
    Frame M a (State.servePut s t r p) := by
  refine h.trans (Frame.mono hm ?_)
  unfold State.servePut
  repeat' with_reducible first
    | exact Frame.refl _ | apply State.serve_frame | apply State.putObj_frame | decide +kernel | intro _ | split
    | refine Frame.fst (by assumption) ?_

theorem execPutObj_frame (t : Nat) (r : Req) (p : Bytes) (s : State) : ∃ u, execPutObj t r p s = .next u ∧ Frame 0x404a7db5b01fc3e1800f506e000fff82cffc2800bffff005e4d0656d8d1c6072000000000000200be004768000c00000038a839073401001f37c020000010010000000c0000000000100700100020200000000080002800000006ddbfaf s u := by
  refine ⟨_, rfl, ?_⟩
  repeat' with_reducible first
    | exact Frame.refl _ | apply State.servePut_frame | decide +kernel | split

theorem State.commitTxn_frame {M : Nat} {a s : State} (h : Frame M a s) (rid : Rid) (x : Sess) (hm : Nat.lor 0x40007db5b01fc3e1800f506e000fff82cffc2800bffff005e4d0656d8d1c6072000000000000200be004768000c00000038a839073401001f37c020000010010000000c0000000000100700100020200800000080002800000006ddbfae M = M := by decide +kernel) :
    Frame M a (State.commitTxn s rid x).1 := by
  refine h.trans (Frame.mono hm ?_)
  unfold State.commitTxn
  dsimp only
  repeat' with_reducible first
    | exact Frame.refl _ | apply State.modSess_frame | apply State.bump_frame | apply State.accept_frame | decide +kernel
    | intro _ | split | refine Frame.fst (by assumption) ?_

theorem execCommitTxn_frame (t : Nat) (r : Req) (p : Bytes) (s : State) : ∃ u, execCommitTxn t r p s = .next u ∧ Frame 0x40007db5b01fc3e1800f506e000fff82cffc2800bffff005e4d0656d8d1c6072000000000000200be004768000c00000038a839073401001f37c020000010010000000c0000000000100700100020200800000080002800000006ddbfaf s u := by
  refine ⟨_, rfl, ?_⟩
  repeat' with_reducible first
    | exact Frame.refl _ | apply State.serve_frame | apply State.commitTxn_frame | decide +kernel | intro _ | split
    | refine Frame.fst (by assumption) ?_

theorem State.uploadDone_frame {M : Nat} {a s : State} (h : Frame M a s) (code : Nat) (hm : Nat.lor 0xa0000000000000000000000000000000000000000000000000000000000000000000000000000000000000000000000000000000000000000000000000000000000000000000000000000000000000000000000000000000000 M = M := by decide +kernel) :
    Frame M a (State.uploadDone s code) := by
  refine h.trans (Frame.mono hm ?_)
  unfold State.uploadDone
  repeat' with_reducible first
    | exact Frame.refl _ | apply State.wrB_frame | apply State.wr_frame | decide +kernel | split

theorem execConfigUpload_frame (t : Nat) (s : State) : ∃ u, execConfigUpload t s = .next u ∧ Frame 0x404a7db7b01fc3e1800f506e000e0002cffc2800bffff005e4d0656d8d1c6072000000000000200be004768000c00000038a839073401001f37c020000010010000000c0000000000100700100020200000000080002800000006ddbfaf s u := by
  refine ⟨_, rfl, ?_⟩
  repeat' with_reducible first
    | exact Frame.refl _ | apply Frame.ite | apply State.at_frame | apply State.dropEnded_frame | apply State.wr_frame
    | apply State.uploadDone_frame | apply State.record_frame | apply State.useFor_frame | apply State.wrB_frame
    | apply State.journal_frame | apply State.applyWrites_frame | decide +kernel | apply Frame.foldl | intro _ | split
    | dsimp only

theorem State.storedDone_frame {M : Nat} {a s : State} (h : Frame M a s) (j : Journal) (hm : Nat.lor 0x404a7db5b01fc3e1800f506e000fff82cffc2800bffff005e4d0656d8d1c6072000000000000200fe004768000c00000038a839073401001f37c020000010010000000c0000000000100700100020200000000080002800000006ddbfae M = M := by decide +kernel) :
    Frame M a (State.storedDone s j) := by
  refine h.trans (Frame.mono hm ?_)
  unfold State.storedDone
  repeat' with_reducible first
    | exact Frame.refl _ | apply Frame.ite | apply State.bump_frame | apply State.finishClear_frame
    | apply State.putCells_frame | apply State.storeCells_frame | apply State.calStored_frame | apply State.answer_frame
    | apply State.applyWrites_frame | apply State.uploadDone_frame | apply State.awaitNodes_frame | decide +kernel | intro _
    | split | refine Frame.fst (by assumption) ?_

theorem execStoredWriteComplete_frame (t : Nat) (s : State) : ∃ u, execStoredWriteComplete t s = .next u ∧ Frame 0x404a7db5b01fc3e1800f506e000fff82cffc2800bffff005e4d0656d8d1c6072000000000000200fe004768000c00000038a839073401001f37c020000010010000000c0000000000100700100020200000000080002800000006ddbfaf s u := by
  refine ⟨_, rfl, ?_⟩
  repeat' with_reducible first
    | exact Frame.refl _ | apply Frame.ite | apply State.at_frame | apply State.storedDone_frame | decide +kernel | split
    | fail_if_no_progress refine Frame.on_mbx ?_ _

theorem execCloseRequest_frame (t : Nat) (r : Req) (str : Nat) (s : State) : ∃ u, execCloseRequest t r str s = .next u ∧ Frame 0x404a7db5b01fc3e1800f506e000fff82cffc2800bffff005e4d0656d8d1c6072000000000000200be004768000c00000038a839073401001f37c020000010010000000c0000000000100700100020200000000080002800000006ddbfaf s u := by
  refine ⟨_, rfl, ?_⟩
  repeat' with_reducible first
    | exact Frame.refl _ | apply State.servePut_frame | decide +kernel | split

theorem execIntegratorProfile_frame (t : Nat) (r : Req) (data : Bytes) (s : State) : ∃ u, execIntegratorProfile t r data s = .next u ∧ Frame 0x404a7db5b01fc3e1800f506e000fff82cffc2800bffff005e4d0656d8d1c6072000000000000200be004768000c00000038a839073401001f37c020000010010000000c0000000000100700100020200000000080002800000006ddbfaf s u := by
  refine ⟨_, rfl, ?_⟩
  repeat' with_reducible first
    | exact Frame.refl _ | apply State.servePut_frame | decide +kernel | split

theorem execTakeOver_frame (t : Nat) (r : Req) (ch : Nat) (s : State) : ∃ u, execTakeOver t r ch s = .next u ∧ Frame 0x404a7db5b01fc3e1800f506e000fff82cffc2800bffff005e4d0656d8d1c6072000000000000200be004768000c00000038a839073401001f37c020000010010000000c0000000000100700100020200000000080002800000006ddbfaf s u := by
  refine ⟨_, rfl, ?_⟩
  repeat' with_reducible first
    | exact Frame.refl _ | apply State.servePut_frame | decide +kernel | split

theorem execChannelEnable_frame (t : Nat) (r : Req) (ch : Nat) (on : Bool) (s : State) : ∃ u, execChannelEnable t r ch on s = .next u ∧ Frame 0x404a7db5b01fc3e1800f506e000fff82cffc2800bffff005e4d0656d8d1c6072000000000000200be004768000c00000038a839073401001f37c020000010010000000c0000000000100700100020200000000080002800000006ddbfaf s u := by
  refine ⟨_, rfl, ?_⟩
  repeat' with_reducible first
    | exact Frame.refl _ | apply State.servePut_frame | decide +kernel | split

theorem execPinRequest_frame (t : Nat) (r : Req) (s : State) : ∃ u, execPinRequest t r s = .next u ∧ Frame 0x404a7db5b01fc3e1800f506e000fff82cffc2800bffff005e4d0656d8d1c6072000000000000200be004768000c00000038a839073401001f37c020000010010000000c0000000000100700100020200000000080002800000006ddbfaf s u := by
  refine ⟨_, rfl, ?_⟩
  repeat' with_reducible first
    | exact Frame.refl _ | apply State.servePut_frame | decide +kernel | split

theorem execReleasePins_frame (t : Nat) (r : Req) (s : State) : ∃ u, execReleasePins t r s = .next u ∧ Frame 0x404a7db5b01fc3e1800f506e000fff82cffc2800bffff005e4d0656d8d1c6072000000000000200be004768000c00000038a839073401001f37c020000010010000000c0000000000100700100020200000000080002800000006ddbfaf s u := by
  refine ⟨_, rfl, ?_⟩
  repeat' with_reducible first
    | exact Frame.refl _ | apply State.servePut_frame | decide +kernel | split

theorem execCaptureValid_frame (t : Nat) (r : Req) (ch : Nat) (mask : Nat) (s : State) : ∃ u, execCaptureValid t r ch mask s = .next u ∧ Frame 0x404a7db5b01fc3e1800f506e000fff82cffc2800bffff005e4d0656d8d1c6072000000000000200be004768000c00000038a839073401001f37c020000010010000000c0000000000100700100020200000000080002800000006ddbfaf s u := by
  refine ⟨_, rfl, ?_⟩
  repeat' with_reducible first
    | exact Frame.refl _ | apply State.servePut_frame | decide +kernel | split

theorem execRecover_frame (t : Nat) (r : Req) (ch : Nat) (s : State) : ∃ u, execRecover t r ch s = .next u ∧ Frame 0x404a7db5b01fc3e1800f506e000fff82cffc2800bffff005e4d0656d8d1c6072000000000000200be004768000c00000038a839073401001f37c020000010010000000c0000000000100700100020200000000080002800000006ddbfaf s u := by
  refine ⟨_, rfl, ?_⟩
  repeat' with_reducible first
    | exact Frame.refl _ | apply State.servePut_frame | decide +kernel | split

theorem execTxRequest_frame (t : Nat) (r : Req) (obj : Nat) (data : Bytes) (s : State) : ∃ u, execTxRequest t r obj data s = .next u ∧ Frame 0x404a7db5b01fc3e1800f506e000fff82cffc2800bffff005e4d0656d8d1c6072000000000000200be004768000c00000038a839073401001f37c020000010010000000c0000000000100700100020200000000080002800000006ddbfaf s u := by
  refine ⟨_, rfl, ?_⟩
  repeat' with_reducible first
    | exact Frame.refl _ | apply State.servePut_frame | decide +kernel | split

theorem execAckCount_frame (t : Nat) (r : Req) (obj : Nat) (count : Nat) (s : State) : ∃ u, execAckCount t r obj count s = .next u ∧ Frame 0x404a7db5b01fc3e1800f506e000fff82cffc2800bffff005e4d0656d8d1c6072000000000000200be004768000c00000038a839073401001f37c020000010010000000c0000000000100700100020200000000080002800000006ddbfaf s u := by
  refine ⟨_, rfl, ?_⟩
  repeat' with_reducible first
    | exact Frame.refl _ | apply State.servePut_frame | decide +kernel | split

theorem execChannelEn_frame (t : Nat) (r : Req) (ch : Nat) (on : Bool) (s : State) : ∃ u, execChannelEn t r ch on s = .next u ∧ Frame 0x404a7db5b01fc3e1800f506e000fff82cffc2800bffff005e4d0656d8d1c6072000000000000200be004768000c00000038a839073401001f37c020000010010000000c0000000000100700100020200000000080002800000006ddbfaf s u := by
  refine ⟨_, rfl, ?_⟩
  repeat' with_reducible first
    | exact Frame.refl _ | apply State.servePut_frame | decide +kernel | split

theorem execPortEn_frame (t : Nat) (r : Req) (on : Bool) (s : State) : ∃ u, execPortEn t r on s = .next u ∧ Frame 0x404a7db5b01fc3e1800f506e000fff82cffc2800bffff005e4d0656d8d1c6072000000000000200be004768000c00000038a839073401001f37c020000010010000000c0000000000100700100020200000000080002800000006ddbfaf s u := by
  refine ⟨_, rfl, ?_⟩
  repeat' with_reducible first
    | exact Frame.refl _ | apply State.servePut_frame | decide +kernel | split

theorem execAckEpoch_frame (t : Nat) (r : Req) (epoch : Nat) (s : State) : ∃ u, execAckEpoch t r epoch s = .next u ∧ Frame 0x404a7db5b01fc3e1800f506e000fff82cffc2800bffff005e4d0656d8d1c6072000000000000200be004768000c00000038a839073401001f37c020000010010000000c0000000000100700100020200000000080002800000006ddbfaf s u := by
  refine ⟨_, rfl, ?_⟩
  repeat' with_reducible first
    | exact Frame.refl _ | apply State.servePut_frame | decide +kernel | split

theorem execAdvanceFuses_frame (t : Nat) (r : Req) (s : State) : ∃ u, execAdvanceFuses t r s = .next u ∧ Frame 0x404a7db5b01fc3e1800f506e000fff82cffc2800bffff005e4d0656d8d1c6072000000000000200be004768000c00000038a839073401001f37c020000010010000000c0000000000100700100020200000000080002800000006ddbfaf s u := by
  refine ⟨_, rfl, ?_⟩
  repeat' with_reducible first
    | exact Frame.refl _ | apply State.servePut_frame | decide +kernel | split

theorem execStartRequest_frame (t : Nat) (r : Req) (str : Nat) (s : State) : ∃ u, execStartRequest t r str s = .next u ∧ Frame 0x404a7db5b01fc3e1800f506e000fff82cffc2800bffff005e4d0656d8d1c6072000000000000200be004768000c00000038a839073401001f37c020000010010000000c0000000000100700100020200000000080002800000006ddbfaf s u := by
  refine ⟨_, rfl, ?_⟩
  repeat' with_reducible first
    | exact Frame.refl _ | apply State.servePut_frame | decide +kernel | split

theorem execTrustList_frame (t : Nat) (r : Req) (entry : Nat) (data : Bytes) (s : State) : ∃ u, execTrustList t r entry data s = .next u ∧ Frame 0x404a7db5b01fc3e1800f506e000fff82cffc2800bffff005e4d0656d8d1c6072000000000000200be004768000c00000038a839073401001f37c020000010010000000c0000000000100700100020200000000080002800000006ddbfaf s u := by
  refine ⟨_, rfl, ?_⟩
  repeat' with_reducible first
    | exact Frame.refl _ | apply State.servePut_frame | decide +kernel | split

end Sys2Proof.Machine
end

