-- ==== Sys2Proof/Laws/Keeps.lean ====
section
/-! SUPPORT. What every command respects (`Keeps`), shown once for each shared operation of Machine/Ops.lean. -/

namespace Sys2Proof.Machine

theorem Keeps.refl (s : State) : Keeps s s :=
  ⟨rfl, le_refl _, le_refl _, List.suffix_refl _, rfl, rfl, rfl, rfl, rfl, rfl, le_refl _, id, le_refl _, id⟩

theorem Keeps.trans {a b c : State} (h : Keeps a b) (k : Keeps b c) : Keeps a c :=
  ⟨k.pending.trans h.pending, h.now.trans k.now, h.free.trans k.free, h.out.trans k.out, k.variant.trans h.variant,
    k.serial.trans h.serial, k.hwIssue.trans h.hwIssue, k.romVersion.trans h.romVersion, k.macA.trans h.macA,
    k.macB.trans h.macB, h.fuse.trans k.fuse, fun x => k.dead (h.dead x), h.boots.trans k.boots, fun x => k.inv (h.inv x)⟩

theorem Keeps.ite {a u v : State} {c : Prop} {d : Decidable c} (h : Keeps a u) (k : Keeps a v) : Keeps a (if c then u else v) := by
  split <;> assumption

/-- A soundness statement taken apart. -/
theorem State.inv_iff (s : State) : s.inv = true ↔
    s.objs.sorted = true ∧ s.nv.store.sorted = true ∧ s.nv.kept.sorted = true ∧ s.sized = true ∧
      numsOk s.mbx.sess = true ∧ outstOk s.mbx.sess = true := by
  simp [State.inv, and_assoc]

/-- A change of anything but the registers, what is stored, the sessions, the clock, the output, the queue and the instances of
fixed number. -/
theorem Keeps.upd {a u v : State} (h : Keeps a u) (h1 : v.pending = u.pending) (h2 : v.now = u.now) (h3 : u.free ≤ v.free)
    (h4 : v.out = u.out) (h5 : v.nv = u.nv) (h6 : v.objs = u.objs) (h7 : v.mbx.sess = u.mbx.sess)
    (h8 : v.strs = u.strs) (h9 : v.dies = u.dies) (h10 : v.traces = u.traces) (h11 : v.chans = u.chans)
    (h12 : v.can = u.can) (h13 : v.pouts = u.pouts) (h14 : v.caps = u.caps) : Keeps a v := by
  refine h.trans ⟨h1, h2.ge, h3, by rw [h4], by rw [h5], by rw [h5], by rw [h5], by rw [h5], by rw [h5], by rw [h5],
    by rw [h5], by rw [h5]; exact id, by rw [h5], ?_⟩
  simp only [State.inv, State.sized, h5, h6, h7, h8, h9, h10, h11, h12, h13, h14, imp_self]

/-- The same, as a record update of any of the other fields. -/
theorem Keeps.mk' {a u : State} {clk : Clock} {power : Power} {panel : Panel} {boot : Boot} {sec : Security} {mbx : Mbx}
    {hist : Hist} {i2c : I2cPort} {safe : Safe} {thermal : Thermal} {ledger : Ledger} {upd : Upd} {blk : Block}
    {coll : Collector} {time : TimeSt} {free : Nat} (h : Keeps a u) (hf : u.free ≤ free) (hm : mbx.sess = u.mbx.sess) :
    Keeps a { u with clk := clk, power := power, panel := panel, boot := boot, sec := sec, mbx := mbx, hist := hist,
                     i2c := i2c, safe := safe, thermal := thermal, ledger := ledger, upd := upd, blk := blk, coll := coll,
                     time := time, free := free } :=
  h.upd rfl rfl hf rfl rfl rfl hm rfl rfl rfl rfl rfl rfl rfl

/-- A change of the registers that keeps their order. -/
theorem Keeps.objs {a u : State} (h : Keeps a u) (o : Store) (ho : u.objs.sorted = true → o.sorted = true) :
    Keeps a { u with objs := o } := by
  refine h.trans ⟨rfl, le_refl _, le_refl _, List.suffix_refl _, rfl, rfl, rfl, rfl, rfl, rfl, le_refl _, id, le_refl _, ?_⟩
  intro i
  rw [State.inv_iff] at *
  exact ⟨ho i.1, i.2⟩

/-- A change of what survives a loss of supply that respects it. -/
theorem Keeps.nv {a u : State} (h : Keeps a u) (n : Nonvol) (h1 : n.variant = u.nv.variant) (h2 : n.serial = u.nv.serial)
    (h3 : n.hwIssue = u.nv.hwIssue) (h4 : n.romVersion = u.nv.romVersion) (h5 : n.macA = u.nv.macA)
    (h6 : n.macB = u.nv.macB) (h7 : u.nv.fuseIndex ≤ n.fuseIndex)
    (h8 : u.nv.decommissioned = true → n.decommissioned = true) (h9 : u.nv.bootCount ≤ n.bootCount)
    (h10 : u.nv.store.sorted = true → u.nv.kept.sorted = true → n.store.sorted = true ∧ n.kept.sorted = true) :
    Keeps a { u with nv := n } := by
  refine h.trans ⟨rfl, le_refl _, le_refl _, List.suffix_refl _, h1, h2, h3, h4, h5, h6, h7, h8, h9, ?_⟩
  intro i
  rw [State.inv_iff] at *
  exact ⟨i.1, (h10 i.2.1 i.2.2.1).1, (h10 i.2.1 i.2.2.1).2, i.2.2.2⟩

@[inherit_doc Keeps.nv]
theorem Keeps.nvmk {a u : State} {clk : Clock} {power : Power} {panel : Panel} {boot : Boot} {sec : Security} {mbx : Mbx}
    {hist : Hist} {i2c : I2cPort} {safe : Safe} {thermal : Thermal} {ledger : Ledger} {upd : Upd} {n : Nonvol}
    (h : Keeps a u) (hm : mbx.sess = u.mbx.sess) (h1 : n.variant = u.nv.variant) (h2 : n.serial = u.nv.serial)
    (h3 : n.hwIssue = u.nv.hwIssue) (h4 : n.romVersion = u.nv.romVersion) (h5 : n.macA = u.nv.macA)
    (h6 : n.macB = u.nv.macB) (h7 : u.nv.fuseIndex ≤ n.fuseIndex)
    (h8 : u.nv.decommissioned = true → n.decommissioned = true) (h9 : u.nv.bootCount ≤ n.bootCount)
    (h10 : u.nv.store.sorted = true → u.nv.kept.sorted = true → n.store.sorted = true ∧ n.kept.sorted = true) :
    Keeps a { u with clk := clk, power := power, panel := panel, boot := boot, sec := sec, mbx := mbx, hist := hist,
                     i2c := i2c, safe := safe, thermal := thermal, ledger := ledger, upd := upd, nv := n } :=
  (h.nv n h1 h2 h3 h4 h5 h6 h7 h8 h9 h10).upd rfl rfl (le_refl _) rfl rfl rfl hm rfl rfl rfl rfl rfl rfl rfl

theorem numsOk_map {ss : List Sess} (f : Sess → Sess) (hf : ∀ x, (f x).num = x.num) (h : numsOk ss = true) :
    numsOk (ss.map f) = true := by
  simp only [numsOk, Bool.and_eq_true, List.all_eq_true, decide_eq_true_eq, List.mem_map, List.map_map] at *
  refine ⟨?_, ?_⟩
  · rintro y ⟨x, hx, rfl⟩
    rw [hf]; exact h.1 x hx
  · have : Sess.num ∘ f = Sess.num := funext hf
    rw [this]; exact h.2

theorem outstOk_map {ss : List Sess} (f : Sess → Sess) (hf : ∀ x ∈ ss, x.outst.length ≤ 8 → (f x).outst.length ≤ 8)
    (h : outstOk ss = true) : outstOk (ss.map f) = true := by
  simp only [outstOk, List.all_eq_true, decide_eq_true_eq, List.mem_map] at *
  rintro y ⟨x, hx, rfl⟩
  exact hf x hx (h x hx)

theorem numsOk_filter {ss : List Sess} (p : Sess → Bool) (h : numsOk ss = true) : numsOk (ss.filter p) = true := by
  simp only [numsOk, Bool.and_eq_true, List.all_eq_true, decide_eq_true_eq, List.mem_filter] at *
  exact ⟨fun x hx => h.1 x hx.1, h.2.sublist (List.filter_sublist.map _)⟩

theorem outstOk_filter {ss : List Sess} (p : Sess → Bool) (h : outstOk ss = true) : outstOk (ss.filter p) = true := by
  simp only [outstOk, List.all_eq_true, decide_eq_true_eq, List.mem_filter] at *
  exact fun x hx => h x hx.1

/-- A change of the sessions that keeps their numbers and their bounds. -/
theorem Keeps.mbx {a u : State} (h : Keeps a u) (m : Mbx)
    (hm : numsOk u.mbx.sess = true → outstOk u.mbx.sess = true → numsOk m.sess = true ∧ outstOk m.sess = true) :
    Keeps a { u with mbx := m } := by
  refine h.trans ⟨rfl, le_refl _, le_refl _, List.suffix_refl _, rfl, rfl, rfl, rfl, rfl, rfl, le_refl _, id, le_refl _, ?_⟩
  intro i
  rw [State.inv_iff] at *
  exact ⟨i.1, i.2.1, i.2.2.1, i.2.2.2.1, hm i.2.2.2.2.1 i.2.2.2.2.2⟩

/-- A change of every session that leaves its number and its outstanding requests alone. -/
theorem Keeps.mapSess {a u : State} (h : Keeps a u) (f : Sess → Sess) (hn : ∀ x, (f x).num = x.num)
    (ho : ∀ x, (f x).outst.length ≤ x.outst.length) :
    Keeps a { u with mbx := { u.mbx with sess := u.mbx.sess.map f } } :=
  h.mbx _ fun i j => ⟨numsOk_map f hn i, outstOk_map f (fun x _ l => (ho x).trans l) j⟩

theorem State.modSess_keeps {a u : State} (h : Keeps a u) (n : Nat) (f : Sess → Sess) (hn : ∀ x, (f x).num = x.num)
    (ho : ∀ x, (f x).outst.length ≤ x.outst.length) : Keeps a (u.modSess n f) := by
  refine h.mapSess _ ?_ ?_ <;> intro x <;> by_cases e : x.num = n <;> simp [e, hn, ho]

theorem setNth_length {α : Type} (a : α) (l : List α) (i : Nat) : (setNth a l i).length = l.length := by
  induction l generalizing i with
  | nil => rfl
  | cons b l ih => cases i <;> simp [setNth, ih]

/-- A change of instances of fixed number that keeps their number. -/
theorem Keeps.lists {a u v : State} (h : Keeps a u) (h1 : v.pending = u.pending) (h2 : v.now = u.now) (h3 : v.free = u.free)
    (h4 : v.out = u.out) (h5 : v.nv = u.nv) (h6 : v.objs = u.objs) (h7 : v.mbx.sess = u.mbx.sess)
    (h8 : v.strs.length = u.strs.length) (h9 : v.dies.length = u.dies.length) (h10 : v.traces.length = u.traces.length)
    (h11 : v.chans.length = u.chans.length) (h12 : v.can.length = u.can.length) (h13 : v.pouts.length = u.pouts.length)
    (h14 : v.caps.length = u.caps.length) : Keeps a v := by
  refine h.trans ⟨h1, h2.ge, h3.ge, by rw [h4], by rw [h5], by rw [h5], by rw [h5], by rw [h5], by rw [h5], by rw [h5],
    by rw [h5], by rw [h5]; exact id, by rw [h5], ?_⟩
  simp only [State.inv, State.sized, h5, h6, h7, h8, h9, h10, h11, h12, h13, h14, imp_self]

theorem Keeps.setChan {a u : State} (h : Keeps a u) (x : Chan) (k : Nat) : Keeps a { u with chans := setNth x u.chans k } :=
  h.lists rfl rfl rfl rfl rfl rfl rfl rfl rfl rfl (setNth_length _ _ _) rfl rfl rfl

theorem Keeps.setPout {a u : State} (h : Keeps a u) (x : POut) (k : Nat) : Keeps a { u with pouts := setNth x u.pouts k } :=
  h.lists rfl rfl rfl rfl rfl rfl rfl rfl rfl rfl rfl rfl (setNth_length _ _ _) rfl

theorem Keeps.setCap {a u : State} (h : Keeps a u) (x : CapIn) (k : Nat) : Keeps a { u with caps := setNth x u.caps k } :=
  h.lists rfl rfl rfl rfl rfl rfl rfl rfl rfl rfl rfl rfl rfl (setNth_length _ _ _)

/-- A fold of operations that each respect the state. -/
theorem Keeps.foldl {α : Type} {a u : State} (l : List α) (f : State → α → State) (h : Keeps a u)
    (hf : ∀ v x, Keeps v (f v x)) : Keeps a (l.foldl f u) := by
  induction l generalizing u with
  | nil => exact h
  | cons x l ih => exact ih (h.trans (hf u x))

theorem Keeps.foldlP {α β : Type} {a : State} (l : List α) (f : State × β → α → State × β) {p : State × β}
    (h : Keeps a p.1) (hf : ∀ q x, Keeps q.1 (f q x).1) : Keeps a (l.foldl f p).1 := by
  induction l generalizing p with
  | nil => exact h
  | cons x l ih => exact ih (h.trans (hf p x))

/-- A state on the way to another. -/
theorem cutTo {a u : State} (x : State) (k : Keeps a x → Keeps a u) (h : Keeps a x) : Keeps a u := k h

/-- A local function on the way. -/
theorem cutFun {a u : State} (x : State → State) (k : (∀ b v, Keeps b v → Keeps b (x v)) → Keeps a u)
    (h : ∀ v, Keeps v (x v)) : Keeps a u := k fun _ v hv => hv.trans (h v)

@[inherit_doc cutFun]
theorem cutFun2 {α : Type} {a u : State} (x : State → α → State) (k : (∀ b v y, Keeps b v → Keeps b (x v y)) → Keeps a u)
    (h : ∀ v y, Keeps v (x v y)) : Keeps a u := k fun _ v y hv => hv.trans (h v y)

@[inherit_doc cutFun]
theorem cutFun3 {α : Type} {a u : State} (x : α → State → State) (k : (∀ b v y, Keeps b v → Keeps b (x y v)) → Keeps a u)
    (h : ∀ v y, Keeps v (x y v)) : Keeps a u := k fun _ v y hv => hv.trans (h v y)

/-! ### Registers -/

theorem State.wr_keeps {a u : State} (h : Keeps a u) (f : Fld) (i v x : Nat) : Keeps a (u.wr f i v x) :=
  h.objs _ fun o => Store.wr_sorted o f i v x

theorem State.wrB_keeps {a u : State} (h : Keeps a u) (f : Fld) (i : Nat) (b : Bool) (x : Nat) :
    Keeps a (u.wrB f i b x) := State.wr_keeps h ..

theorem State.wrI_keeps {a u : State} (h : Keeps a u) (f : Fld) (i : Nat) (v : Int) (x : Nat) :
    Keeps a (u.wrI f i v x) := State.wr_keeps h ..

theorem State.bump_keeps {a u : State} (h : Keeps a u) (f : Fld) (i d x : Nat) : Keeps a (u.bump f i d x) :=
  State.wr_keeps h ..

theorem State.stamp_keeps {a u : State} (h : Keeps a u) (f : Fld) (i : Nat) : Keeps a (u.stamp f i) := State.wr_keeps h ..

theorem State.at_keeps {a u : State} (h : Keeps a u) (t : Nat) : Keeps a (u.at t) :=
  h.trans ⟨rfl, le_max_left _ _, le_refl _, List.suffix_refl _, rfl, rfl, rfl, rfl, rfl, rfl, le_refl _, id, le_refl _, id⟩

theorem State.fresh_keeps {a u : State} (h : Keeps a u) (w : Nat) : Keeps a (u.fresh w).2 :=
  h.upd rfl rfl (Nat.le_succ _) rfl rfl rfl rfl rfl rfl rfl rfl rfl rfl rfl

theorem Keeps.snd {α : Type} {a v : State} {p : α × State} {n : α} (e : p = (n, v)) (h : Keeps a p.2) : Keeps a v := by
  rw [e] at h; exact h

theorem Keeps.fst {α : Type} {a v : State} {p : State × α} {n : α} (e : p = (v, n)) (h : Keeps a p.1) : Keeps a v := by
  rw [e] at h; exact h

theorem State.modStr_keeps {a u : State} (h : Keeps a u) (n : Nat) (f : Str → Str) : Keeps a (u.modStr n f) :=
  h.lists rfl rfl rfl rfl rfl rfl rfl (setNth_length _ _ _) rfl rfl rfl rfl rfl rfl

theorem State.modProt_keeps {a u : State} (h : Keeps a u) (n : Nat) (f : Prot → Prot) : Keeps a (u.modProt n f) :=
  State.modStr_keeps h ..

theorem State.send_keeps {a u : State} (h : Keeps a u) (o : Out) : Keeps a (u.send o) :=
  h.trans ⟨rfl, le_refl _, le_refl _, List.suffix_cons _ _, rfl, rfl, rfl, rfl, rfl, rfl, le_refl _, id, le_refl _, id⟩

theorem State.eachStr_keeps {a u : State} (h : Keeps a u) (f : Nat → State → State) (hf : ∀ n v, Keeps v (f n v)) :
    Keeps a (u.eachStr f) := h.foldl _ _ fun v x => hf x v

theorem State.mapStreams_keeps {a u : State} (h : Keeps a u) (f : Stream → Stream) : Keeps a (u.mapStreams f) :=
  h.mapSess _ (fun _ => rfl) fun _ => le_refl _

theorem guarded_keeps {a u : State} (h : Keeps a u) (cs : List (Bool × Nat × Bytes)) (eff : State → State × Reply)
    (he : ∀ v, Keeps v (eff v).1) : Keeps a (guarded cs u eff).1 := by
  unfold guarded
  split
  · exact h
  · exact h.trans (he u)

/-! ### Answers -/

theorem setReply_length (no st : Nat) (p : Bytes) (os : List Outst) : (setReply no st p os).length = os.length := by
  induction os with
  | nil => rfl
  | cons o os ih => simp only [setReply]; split <;> simp [ih]

theorem flush_length (num conn : Nat) (os : List Outst) : (flush num conn os).1.length ≤ os.length := by
  induction os with
  | nil => exact le_refl _
  | cons o os ih =>
    simp only [flush]
    split
    · exact le_refl _
    · exact ih.trans (Nat.le_succ _)

theorem numsOk_inj {ss : List Sess} (h : numsOk ss = true) {x y : Sess} (hx : x ∈ ss) (hy : y ∈ ss) (e : y.num = x.num) :
    y = x := by
  simp only [numsOk, Bool.and_eq_true, decide_eq_true_eq] at h
  exact List.inj_on_of_nodup_map h.2 hy hx e

/-- One session, named by its number, takes another list of outstanding requests. -/
theorem Keeps.outst {a u : State} (h : Keeps a u) (x : Sess) (hx : x ∈ u.mbx.sess) (f : Sess → Sess)
    (hn : ∀ y, (f y).num = y.num) (ho : x.outst.length ≤ 8 → (f x).outst.length ≤ 8) : Keeps a (u.modSess x.num f) := by
  refine h.mbx _ fun i j => ⟨numsOk_map _ (fun y => ?_) i, outstOk_map _ (fun y hy l => ?_) j⟩
  · split <;> simp [hn]
  · split
    · next e =>
      obtain rfl := numsOk_inj i hx hy e
      exact ho l
    · exact l

theorem State.sess?_mem {s : State} {n : Nat} {x : Sess} (h : s.sess? n = some x) : x ∈ s.mbx.sess ∧ x.num = n := by
  unfold State.sess? at h
  exact ⟨List.mem_of_find?_eq_some h, by simpa using List.find?_some h⟩

/-- The head of a session's requests leaves where what it is given fits; `y` is the session as it stands. -/
theorem State.flushSess_keeps {a s : State} (h : Keeps a s) (x y : Sess) (hy : y ∈ s.mbx.sess) (e : y.num = x.num)
    (os : List Outst) (ho : y.outst.length ≤ 8 → os.length ≤ 8) : Keeps a (s.flushSess x os) := by
  unfold State.flushSess
  have k := flush_length x.num x.conn os
  generalize flush x.num x.conn os = z at k ⊢
  obtain ⟨rest, outs, n⟩ := z
  rw [← e]
  have h1 := h.outst y hy (fun y => { y with outst := rest }) (fun _ => rfl) fun l => le_trans k (ho l)
  have h2 := State.bump_keeps h1 Obj.SessionStatus.REQUESTS y.num n 0
  exact h2.trans ⟨rfl, le_refl _, le_refl _, List.suffix_append _ _, rfl, rfl, rfl, rfl, rfl, rfl, le_refl _, id, le_refl _, id⟩

theorem State.answer_keeps {a s : State} (h : Keeps a s) (r : Rid) (st : Nat) (p : Bytes) : Keeps a (s.answer r st p) := by
  unfold State.answer
  split
  · exact h
  · next x hx =>
    exact Keeps.ite h (State.flushSess_keeps h x x (State.sess?_mem hx).1 rfl _ fun l => by rw [setReply_length]; exact l)

theorem State.answerRaw_keeps {a s : State} (h : Keeps a s) (r : Req) (cmd st : Nat) (p : Bytes) :
    Keeps a (s.answerRaw r cmd st p) := State.send_keeps h _

theorem State.refuseFrame_keeps {a s : State} (h : Keeps a s) (r : Req) (cmd st : Nat) (p : Bytes) :
    Keeps a (s.refuseFrame r cmd st p) := by
  unfold State.refuseFrame
  split
  · exact State.answerRaw_keeps h ..
  · next x hx =>
    split
    · exact h
    · have h1 := State.modSess_keeps h x.num (fun y => { y with next := y.next + 1 }) (fun _ => rfl) fun _ => le_refl _
      refine State.flushSess_keeps h1 x { x with next := x.next + 1 }
        (List.mem_map.2 ⟨x, List.mem_of_find?_eq_some hx, if_pos rfl⟩) rfl _ fun _ => ?_
      simp only [List.length_append, List.length_singleton]; omega

theorem State.serve_keeps {a s : State} (h : Keeps a s) (t : Nat) (r : Req) (cmd : Nat) (lenOk : Bool) (cls : Nat)
    (body : Rid → Sess → State → State × Reply) (hb : ∀ rid x v, Keeps v (body rid x v).1) :
    Keeps a (s.serve t r cmd lenOk cls body) := by
  unfold State.serve
  have h0 := State.at_keeps h t
  generalize s.at t = s at h0 ⊢
  dsimp only
  split
  · exact h0
  split
  · exact h0
  split
  · exact h0
  split
  · exact State.refuseFrame_keeps h0 ..
  split
  · exact State.send_keeps h0 _
  next x hx =>
  split
  · exact State.refuseFrame_keeps h0 ..
  split
  · exact h0
  next h8 =>
  have h1 := h0.outst x (List.mem_of_find?_eq_some hx) (fun y =>
    { y with lastFrame := s.now, outst := y.outst ++ [⟨cmd, r.seq, none, x.next⟩], next := x.next + 1,
             txn := y.txn.map fun q => { q with lastFrame := s.now } }) (fun _ => rfl)
    (fun _ => by
      have := h8
      simp only [Bool.or_eq_true, decide_eq_true_eq, not_or] at this
      simp only [List.length_append, List.length_singleton]; omega)
  split
  · exact State.answer_keeps h1 ..
  split
  · exact State.answer_keeps h1 ..
  have h2 := h1.trans (hb ⟨r.conn, x.num, cmd, r.seq, x.next⟩ x _)
  split
  · next e => rw [e] at h2; exact State.answer_keeps h2 ..
  · next e => rw [e] at h2; exact h2

end Sys2Proof.Machine
end

