-- ==== Sys2Proof/Laws/Keeps/Ops.lean ====
section
/-! SUPPORT. What every command respects (`Keeps`), for the operations of Machine/Ops.lean. -/

set_option linter.all false

namespace Sys2Proof.Machine
open Obj

theorem State.cutSlot_keeps {a s : State} (h : Keeps a s) : Keeps a s.cutSlot := by
  unfold State.cutSlot
  extract_lets cut s1
  have hc : ∀ (v : State) e p, Keeps v (cut v e p) := fun v e p =>
    (Keeps.refl v).nv _ rfl rfl rfl rfl rfl rfl (le_refl _) id (le_refl _) fun i j => ⟨i, j⟩
  clear_value cut
  have h1 : Keeps a s1 := by
    unfold s1
    split
    · exact h
    · exact (State.fresh_keeps h 1).trans (hc _ _ _)
  exact Keeps.ite ((State.fresh_keeps h1 2).trans (hc _ _ _)) h1

theorem State.modRing_keeps {a s : State} (h : Keeps a s) (n : Nat) (f : Ring → Ring) : Keeps a (State.modRing s n f) := by
  unfold State.modRing
  repeat' with_reducible first
    | exact h | apply State.modStr_keeps | exact Keeps.refl _ | intro _ | exact le_refl _ | exact rfl | apply Keeps.mk'

theorem State.modLaps_keeps {a s : State} (h : Keeps a s) (n : Nat) (f : Laps → Laps) : Keeps a (State.modLaps s n f) := by
  unfold State.modLaps
  repeat' with_reducible first
    | exact h | apply State.modStr_keeps

theorem State.modEst_keeps {a s : State} (h : Keeps a s) (n : Nat) (f : Est → Est) : Keeps a (State.modEst s n f) := by
  unfold State.modEst
  repeat' with_reducible first
    | exact h | apply State.modStr_keeps

theorem State.modFe_keeps {a s : State} (h : Keeps a s) (n : Nat) (f : Fe → Fe) : Keeps a (State.modFe s n f) := by
  unfold State.modFe
  repeat' with_reducible first
    | exact h | apply State.modStr_keeps | exact Keeps.refl _ | intro _ | exact le_refl _ | exact rfl | apply Keeps.mk'

theorem State.answerLast_keeps {a s : State} (h : Keeps a s) (r : Rid) (st : Nat) (p : Bytes) :
    Keeps a (State.answerLast s r st p) :=
  State.answer_keeps (State.modSess_keeps h r.sess (fun y => { y with outst := y.outst.drop (y.outst.length - 1) })
    (fun _ => rfl) fun x => by simp) r st p

theorem State.answerOpt_keeps {a s : State} (h : Keeps a s) (r : Option Rid) (st : Nat) (p : Bytes) : Keeps a (State.answerOpt s r st p) := by
  unfold State.answerOpt
  repeat' with_reducible first
    | exact h | apply State.answer_keeps | split

theorem State.unsolicited_keeps {a s : State} (h : Keeps a s) (num : Nat) (cmd : Nat) (p : Bytes) : Keeps a (State.unsolicited s num cmd p) := by
  unfold State.unsolicited
  repeat' with_reducible first
    | exact h | apply State.send_keeps | apply State.modSess_keeps | exact Keeps.refl _ | intro _ | exact le_refl _
    | exact rfl | split | apply Keeps.mk'

theorem State.streamFrame_keeps {a s : State} (h : Keeps a s) (x : Sess) (q : Stream) (sflags : Nat) (data : Bytes) : Keeps a (State.streamFrame s x q sflags data) := by
  unfold State.streamFrame
  repeat' with_reducible first
    | exact h | apply State.fresh_keeps | apply State.send_keeps | split | refine Keeps.snd (by assumption) ?_

theorem State.loseSample_keeps {a s : State} (h : Keeps a s) (ch : Nat) (x : Sample) : Keeps a (State.loseSample s ch x) := by
  unfold State.loseSample
  repeat' with_reducible first
    | exact h | apply Keeps.ite | apply State.mapStreams_keeps | exact Keeps.refl _ | intro _ | exact le_refl _ | exact rfl
    | split

theorem State.loseBlock_keeps {a s : State} (h : Keeps a s) (o : Blk) : Keeps a (State.loseBlock s o) := by
  unfold State.loseBlock
  repeat' with_reducible first
    | exact h | apply Keeps.ite | apply State.mapStreams_keeps | exact Keeps.refl _ | intro _ | exact le_refl _ | exact rfl
    | split

theorem State.abortStreams_keeps {a s : State} (h : Keeps a s) (hit : Stream → Bool) : Keeps a (State.abortStreams s hit) := by
  unfold State.abortStreams
  repeat' with_reducible first
    | exact h | apply State.streamFrame_keeps | apply Keeps.foldl | exact Keeps.refl _ | intro _ | apply Keeps.mapSess
    | exact le_refl _ | exact rfl | apply Keeps.mk'

theorem State.attention_keeps {a s : State} (h : Keeps a s) (b : Nat) : Keeps a (State.attention s b) := by
  unfold State.attention
  repeat' with_reducible first
    | exact h | apply Keeps.ite | apply State.wrB_keeps | exact le_refl _ | exact rfl | split | apply Keeps.mk'

theorem State.notify_keeps {a s : State} (h : Keeps a s) (e : Event) : Keeps a (State.notify s e) := by
  unfold State.notify
  repeat' with_reducible first
    | exact h | apply Keeps.ite | apply State.unsolicited_keeps | apply Keeps.foldl | exact Keeps.refl _ | intro _
    | exact le_refl _ | exact rfl | split

theorem State.damagedReg_keeps {a s : State} (h : Keeps a s)  : Keeps a (State.damagedReg s) := by
  unfold State.damagedReg
  repeat' with_reducible first
    | exact h | apply Keeps.ite | apply State.wr_keeps | exact Keeps.refl _ | intro _ | exact le_refl _ | exact rfl | split

theorem State.loseEvents_keeps {a s : State} (h : Keeps a s)  : Keeps a (State.loseEvents s) := by
  unfold State.loseEvents
  repeat' with_reducible first
    | exact h | apply Keeps.ite | apply State.mapStreams_keeps | exact Keeps.refl _ | intro _ | exact le_refl _ | exact rfl
    | split

theorem State.closeEventBlock_keeps {a s : State} (h : Keeps a s) (timeout : Bool) (holdup : Bool) : Keeps a (State.closeEventBlock s timeout holdup) := by
  unfold State.closeEventBlock
  repeat' with_reducible first
    | exact h | apply Keeps.ite | apply State.loseEvents_keeps | apply State.damagedReg_keeps | exact Keeps.refl _ | intro _
    | exact le_refl _ | exact rfl | split | apply Keeps.mk'

theorem State.putEvent_keeps {a s : State} (h : Keeps a s) (e : Event) : Keeps a (State.putEvent s e) := by
  unfold State.putEvent
  repeat' with_reducible first
    | exact h | apply Keeps.ite | apply State.closeEventBlock_keeps | apply State.bump_keeps | apply State.notify_keeps
    | apply State.attention_keeps | exact Keeps.refl _ | intro _ | exact le_refl _ | exact rfl | split | apply Keeps.mk'

theorem State.putLater_keeps {a s : State} (h : Keeps a s) (e : Event) : Keeps a (State.putLater s e) := by
  unfold State.putLater
  repeat' with_reducible first
    | exact h | apply Keeps.ite | apply State.putEvent_keeps | exact Keeps.refl _ | intro _ | exact le_refl _ | exact rfl
    | split | apply Keeps.mk'

theorem State.record_keeps {a s : State} (h : Keeps a s) (code : Nat) (sev : Nat) (data : Bytes) (str : optParam Nat 0) (node : optParam Nat 65535) (epoch : optParam Nat 0) : Keeps a (State.record s code sev data str node epoch) := by
  unfold State.record
  repeat' with_reducible first
    | exact h | apply Keeps.ite | apply State.putLater_keeps | exact Keeps.refl _ | intro _ | exact le_refl _ | exact rfl
    | split

theorem State.settleOwed_keeps {a s : State} (h : Keeps a s)  : Keeps a (State.settleOwed s) := by
  unfold State.settleOwed
  repeat' with_reducible first
    | exact h | apply State.putEvent_keeps | apply Keeps.foldl | exact Keeps.refl _ | intro _ | exact le_refl _ | exact rfl
    | apply Keeps.mk'

theorem State.useToken_keeps {a s : State} (h : Keeps a s) (sess : Nat) : Keeps a (State.useToken s sess) := by
  unfold State.useToken
  repeat' with_reducible first
    | exact h | apply State.wr_keeps | apply State.bump_keeps | exact le_refl _ | exact rfl | apply Keeps.mk'

end Sys2Proof.Machine
end

