-- ==== Sys2Proof/Laws/Keeps/History.lean ====
section
/-! SUPPORT. What every command respects (`Keeps`), for the operations of Machine/History.lean. -/

set_option linter.all false

namespace Sys2Proof.Machine
open Obj

theorem State.histRegs_keeps {a s : State} (h : Keeps a s)  : Keeps a (State.histRegs s) := by
  unfold State.histRegs
  repeat' with_reducible first
    | exact h | apply Keeps.ite | apply State.wr_keeps | apply State.damagedReg_keeps | exact Keeps.refl _ | intro _
    | exact le_refl _ | exact rfl | split | dsimp only

theorem State.refitPins_keeps {a s : State} (h : Keeps a s)  : Keeps a (State.refitPins s) := by
  unfold State.refitPins
  repeat' with_reducible first
    | exact h | apply State.bump_keeps | apply State.histRegs_keeps | apply State.record_keeps | apply Keeps.foldl
    | exact Keeps.refl _ | intro _ | exact le_refl _ | exact rfl | split | apply Keeps.mk'

theorem State.closeLapBlock_keeps {a s : State} (h : Keeps a s) (timeout : Bool) (holdup : Bool) : Keeps a (State.closeLapBlock s timeout holdup) := by
  unfold State.closeLapBlock
  repeat' with_reducible first
    | exact h | apply Keeps.ite | apply State.loseBlock_keeps | apply State.refitPins_keeps | exact Keeps.refl _ | intro _
    | exact le_refl _ | exact rfl | split | apply Keeps.mk'

theorem State.compressCheck_keeps {a s : State} (h : Keeps a s)  : Keeps a (State.compressCheck s) := by
  unfold State.compressCheck
  repeat' with_reducible first
    | exact h | apply Keeps.ite | apply State.wrB_keeps | apply State.record_keeps | exact Keeps.refl _ | intro _
    | exact le_refl _ | exact rfl | split | apply Keeps.mk'

theorem State.pushItem_keeps {a s : State} (h : Keeps a s) (item : Bytes) (time : Nat) : Keeps a (State.pushItem s item time) := by
  unfold State.pushItem
  repeat' with_reducible first
    | exact h | apply Keeps.ite | exact le_refl _ | exact rfl | split | apply Keeps.mk'

theorem State.intakeSecond_keeps {a s : State} (h : Keeps a s)  : Keeps a (State.intakeSecond s) := by
  unfold State.intakeSecond
  repeat' with_reducible first
    | exact h | apply Keeps.ite | apply State.wr_keeps | exact Keeps.refl _ | intro _ | exact le_refl _ | exact rfl | split
    | apply Keeps.mk'

theorem State.countIntake_keeps {a s : State} (h : Keeps a s) (stored : Nat) (raw : Nat) : Keeps a (State.countIntake s stored raw) := by
  unfold State.countIntake
  repeat' with_reducible first
    | exact h | apply Keeps.ite | apply State.intakeSecond_keeps | exact Keeps.refl _ | intro _ | exact le_refl _ | exact rfl
    | split | apply Keeps.mk'

theorem State.writeLap_keeps {a s : State} (h : Keeps a s) (str : Nat) (time : Nat) (seq : Nat) (raw : Bytes) : Keeps a (State.writeLap s str time seq raw) := by
  unfold State.writeLap
  repeat' with_reducible first
    | exact h | apply Keeps.ite | apply State.compressCheck_keeps | apply State.closeLapBlock_keeps
    | apply State.pushItem_keeps | apply State.countIntake_keeps | exact le_refl _ | exact rfl | split | apply Keeps.mk'

theorem State.writeGap_keeps {a s : State} (h : Keeps a s) (str : Nat) (time : Nat) (seq : Nat) (epoch : Nat) : Keeps a (State.writeGap s str time seq epoch) := by
  unfold State.writeGap
  repeat' with_reducible first
    | exact h | apply Keeps.ite | apply State.closeLapBlock_keeps | apply State.pushItem_keeps | apply State.countIntake_keeps
    | split

theorem State.pinAround_keeps {a s : State} (h : Keeps a s) (at_ : Nat) : Keeps a (State.pinAround s at_) := by
  unfold State.pinAround
  repeat' with_reducible first
    | exact h | apply Keeps.ite | apply State.closeLapBlock_keeps | apply State.closeEventBlock_keeps
    | apply State.refitPins_keeps | apply State.record_keeps | exact Keeps.refl _ | intro _ | exact le_refl _ | exact rfl
    | split | apply Keeps.mk'

theorem State.releasePins_keeps {a s : State} (h : Keeps a s)  : Keeps a (State.releasePins s) := by
  unfold State.releasePins
  repeat' with_reducible first
    | exact h | apply State.histRegs_keeps | apply State.record_keeps | apply Keeps.foldl | exact Keeps.refl _ | intro _
    | exact le_refl _ | exact rfl | apply Keeps.mk'

theorem State.modTrace_keeps {a s : State} (h : Keeps a s) (c : Nat) (f : Trace → Trace) : Keeps a (State.modTrace s c f) :=
  h.lists rfl rfl rfl rfl rfl rfl rfl rfl rfl (setNth_length _ _ _) rfl rfl rfl rfl

theorem State.traceRegs_keeps {a s : State} (h : Keeps a s) (c : Nat) : Keeps a (State.traceRegs s c) := by
  unfold State.traceRegs
  repeat' with_reducible first
    | exact h | apply State.wr_keeps | apply State.wrB_keeps | apply Keeps.foldl | exact Keeps.refl _ | intro _
    | exact le_refl _ | exact rfl

theorem State.abortReads_keeps {a s : State} (h : Keeps a s) (c : Nat) (slot : Nat) : Keeps a (State.abortReads s c slot) := by
  unfold State.abortReads
  repeat' with_reducible first
    | exact h | apply State.abortStreams_keeps | exact Keeps.refl _ | intro _ | exact le_refl _ | exact rfl

theorem State.traceTrigger_keeps {a s : State} (h : Keeps a s) (c : Nat) (cause : Nat) (x : Sample) : Keeps a (State.traceTrigger s c cause x) := by
  unfold State.traceTrigger
  repeat' with_reducible first
    | exact h | apply Keeps.ite | apply State.modTrace_keeps | apply State.bump_keeps | apply State.abortReads_keeps
    | apply Keeps.foldl | exact Keeps.refl _ | intro _ | exact le_refl _ | exact rfl | split | dsimp only

theorem State.traceSample_keeps {a s : State} (h : Keeps a s) (c : Nat) (x : Sample) (causes : Nat) : Keeps a (State.traceSample s c x causes) := by
  unfold State.traceSample
  repeat' with_reducible first
    | exact h | apply Keeps.ite | apply State.loseSample_keeps | apply State.modTrace_keeps | apply State.traceTrigger_keeps
    | apply State.traceRegs_keeps | apply Keeps.foldl | exact Keeps.refl _ | intro _ | exact le_refl _ | exact rfl | split

theorem State.freezeCapture_keeps {a s : State} (h : Keeps a s) (c : Nat) : Keeps a (State.freezeCapture s c) := by
  unfold State.freezeCapture
  repeat' with_reducible first
    | exact h | apply Keeps.ite | apply State.modTrace_keeps | apply State.wr_keeps | apply State.record_keeps
    | apply State.traceRegs_keeps | exact Keeps.refl _ | intro _ | exact le_refl _ | exact rfl | split

theorem State.releaseCapture_keeps {a s : State} (h : Keeps a s) (c : Nat) (slot : Nat) : Keeps a (State.releaseCapture s c slot) := by
  unfold State.releaseCapture
  repeat' with_reducible first
    | exact h | apply State.traceRegs_keeps | apply State.modTrace_keeps | apply State.abortReads_keeps | exact Keeps.refl _
    | intro _ | exact le_refl _ | exact rfl | apply Keeps.mk'

theorem execBlockMaxAge_keeps (t : Nat) (s : State) : ∃ u, execBlockMaxAge t s = .next u ∧ Keeps s u := by
  refine ⟨_, rfl, ?_⟩
  repeat' with_reducible first
    | exact Keeps.refl _ | apply Keeps.ite | apply State.at_keeps | apply State.closeLapBlock_keeps
    | apply State.closeEventBlock_keeps | intro _ | exact le_refl _ | exact rfl | split

theorem execCaptureFrozen_keeps (t : Nat) (ch : Nat) (s : State) : ∃ u, execCaptureFrozen t ch s = .next u ∧ Keeps s u := by
  refine ⟨_, rfl, ?_⟩
  repeat' with_reducible first
    | exact Keeps.refl _ | apply State.freezeCapture_keeps | apply State.at_keeps

theorem execTriggerTrace_keeps (t : Nat) (r : Req) (p : Bytes) (s : State) : ∃ u, execTriggerTrace t r p s = .next u ∧ Keeps s u := by
  refine ⟨_, rfl, ?_⟩
  repeat' with_reducible first
    | exact Keeps.refl _ | apply Keeps.ite | apply State.serve_keeps | apply guarded_keeps | apply State.modTrace_keeps
    | apply Keeps.foldl | intro _ | exact le_refl _ | exact rfl | split | refine Keeps.fst (by assumption) ?_

end Sys2Proof.Machine
end

