-- ==== Sys2Proof/Laws/Keeps/SecurityOps.lean ====
section
/-! SUPPORT. What every command respects (`Keeps`), for the operations of Machine/SecurityOps.lean. -/

set_option linter.all false

namespace Sys2Proof.Machine
open Obj

theorem State.extendSlot_keeps {a s : State} (h : Keeps a s) (n : Nat) (item : Bytes) : Keeps a (State.extendSlot s n item) := by
  unfold State.extendSlot
  repeat' with_reducible first
    | exact h | apply Keeps.ite | apply State.wr_keeps | apply State.bump_keeps | apply State.stamp_keeps | split

theorem State.secChange_keeps {a s : State} (h : Keeps a s) (new : Nat) (cause : Nat) (sess : Nat) : Keeps a (State.secChange s new cause sess) := by
  unfold State.secChange
  repeat' with_reducible first
    | exact h | apply Keeps.ite | apply State.wr_keeps | apply State.wrB_keeps | apply State.stamp_keeps
    | apply State.bump_keeps | apply State.extendSlot_keeps | apply State.record_keeps | apply State.attention_keeps
    | exact Keeps.refl _ | intro _ | exact le_refl _ | exact rfl | split

end Sys2Proof.Machine
end

