-- ==== Sys2Proof/Laws/Keeps/CanOps.lean ====
section
/-! SUPPORT. What every command respects (`Keeps`), for the operations of Machine/CanOps.lean. -/

set_option linter.all false

namespace Sys2Proof.Machine
open Obj

theorem State.modBus_keeps {a s : State} (h : Keeps a s) (ch : Nat) (f : CanBus → CanBus) : Keeps a (State.modBus s ch f) :=
  h.lists rfl rfl rfl rfl rfl rfl rfl rfl rfl rfl rfl (setNth_length _ _ _) rfl rfl

theorem State.canOffer_keeps {a s : State} (h : Keeps a s) (ch : Nat) : Keeps a (State.canOffer s ch) := by
  unfold State.canOffer
  repeat' with_reducible first
    | exact h | apply Keeps.ite | apply State.modBus_keeps | apply State.send_keeps | exact Keeps.refl _ | intro _
    | exact le_refl _ | exact rfl | split

theorem State.undelivered_keeps {a s : State} (h : Keeps a s) (o : Nat) : Keeps a (State.undelivered s o) := by
  unfold State.undelivered
  repeat' with_reducible first
    | exact h | apply Keeps.ite | apply State.eachStr_keeps | apply State.wrB_keeps | exact Keeps.refl _ | intro _
    | exact le_refl _ | exact rfl | split

theorem State.canDrop_keeps {a s : State} (h : Keeps a s) (o : Nat) : Keeps a (State.canDrop s o) := by
  unfold State.canDrop
  repeat' with_reducible first
    | exact h | apply State.undelivered_keeps | apply State.wr_keeps | apply State.wrB_keeps

theorem State.canIntegrate_keeps {a s : State} (h : Keeps a s) (ch : Nat) : Keeps a (State.canIntegrate s ch) := by
  unfold State.canIntegrate
  repeat' with_reducible first
    | exact h | apply Keeps.ite | apply State.wr_keeps | exact Keeps.refl _ | intro _ | exact le_refl _ | exact rfl | split

theorem State.canLeave_keeps {a s : State} (h : Keeps a s) (ch : Nat) : Keeps a (State.canLeave s ch) := by
  unfold State.canLeave
  repeat' with_reducible first
    | exact h | apply Keeps.ite | apply State.modBus_keeps | apply State.canDrop_keeps | apply State.wr_keeps
    | apply State.canIntegrate_keeps | apply Keeps.foldl | exact Keeps.refl _ | intro _ | exact le_refl _ | exact rfl | split

theorem State.canStop_keeps {a s : State} (h : Keeps a s) (ch : Nat) : Keeps a (State.canStop s ch) := by
  unfold State.canStop
  repeat' with_reducible first
    | exact h | apply Keeps.ite | apply State.modBus_keeps | apply State.canLeave_keeps | exact Keeps.refl _ | intro _
    | exact le_refl _ | exact rfl | split | apply Keeps.mk'

theorem State.canStart_keeps {a s : State} (h : Keeps a s) (ch : Nat) : Keeps a (State.canStart s ch) := by
  unfold State.canStart
  repeat' with_reducible first
    | exact h | apply Keeps.ite | apply State.canIntegrate_keeps | exact Keeps.refl _ | intro _ | exact le_refl _ | exact rfl
    | split

theorem State.bothNets_keeps {a s : State} (h : Keeps a s) (a_ : Nat) (b : Nat) (port : Nat) (bytes : Bytes) : Keeps a (State.bothNets s a_ b port bytes) := by
  unfold State.bothNets
  repeat' with_reducible first
    | exact h | apply Keeps.ite | apply State.send_keeps | split

theorem State.fallbackSend_keeps {a s : State} (h : Keeps a s) (o : Nat) (d : Bytes) : Keeps a (State.fallbackSend s o d) := by
  unfold State.fallbackSend
  repeat' with_reducible first
    | exact h | apply Keeps.ite | apply State.modBus_keeps | apply State.bothNets_keeps | apply State.bump_keeps
    | exact Keeps.refl _ | intro _ | exact le_refl _ | exact rfl | split | apply Keeps.mk'

theorem State.fallbackEnter_keeps {a s : State} (h : Keeps a s) (ch : Nat) : Keeps a (State.fallbackEnter s ch) := by
  unfold State.fallbackEnter
  repeat' with_reducible first
    | exact h | apply State.modBus_keeps | apply State.fallbackSend_keeps | apply Keeps.foldl | exact Keeps.refl _ | intro _
    | exact le_refl _ | exact rfl | apply Keeps.mk'

theorem State.canContent_keeps {a s : State} (h : Keeps a s) (o : Nat) (data : Bytes) : Keeps a (State.canContent s o data) := by
  unfold State.canContent
  repeat' with_reducible first
    | exact h | apply Keeps.ite | apply State.wr_keeps | apply State.canDrop_keeps | apply State.undelivered_keeps
    | apply State.bump_keeps | apply State.modBus_keeps | apply State.wrB_keeps | apply State.canOffer_keeps
    | exact Keeps.refl _ | intro _ | exact le_refl _ | exact rfl | split | apply Keeps.mk'

end Sys2Proof.Machine
end

