-- ==== Sys2Proof/Laws/Keeps/Pcs.lean ====
section
/-! SUPPORT. What every command respects (`Keeps`), for the operations of Machine/Pcs.lean. -/

set_option linter.all false

namespace Sys2Proof.Machine
open Obj

theorem State.modChan_keeps {a s : State} (h : Keeps a s) (c : Nat) (f : Chan → Chan) : Keeps a (State.modChan s c f) :=
  h.lists rfl rfl rfl rfl rfl rfl rfl rfl rfl rfl (setNth_length _ _ _) rfl rfl rfl

theorem State.outReg_keeps {a s : State} (h : Keeps a s) (c : Nat) : Keeps a (State.outReg s c) := by
  unfold State.outReg
  repeat' with_reducible first
    | exact h | apply State.wrI_keeps

theorem State.chanFrame_keeps {a s : State} (h : Keeps a s) (c : Nat) : Keeps a (State.chanFrame s c) := by
  unfold State.chanFrame
  repeat' with_reducible first
    | exact h | apply Keeps.ite | apply State.modChan_keeps | apply State.canContent_keeps | exact Keeps.refl _ | intro _
    | exact le_refl _ | exact rfl | split

theorem State.followOutput_keeps {a s : State} (h : Keeps a s) (c : Nat) : Keeps a (State.followOutput s c) := by
  unfold State.followOutput
  repeat' with_reducible first
    | exact h | apply State.outReg_keeps | apply State.modChan_keeps | apply Keeps.foldl | exact Keeps.refl _ | intro _
    | exact le_refl _ | exact rfl | apply Keeps.mk'

theorem State.clampNow_keeps {a s : State} (h : Keeps a s) (n : Nat) : Keeps a (State.clampNow s n) := by
  unfold State.clampNow
  repeat' with_reducible first
    | exact h | apply Keeps.ite | apply State.wrI_keeps | apply State.followOutput_keeps | apply State.outReg_keeps
    | apply State.wrB_keeps | apply State.modChan_keeps | apply State.chanFrame_keeps | apply Keeps.foldl | exact Keeps.refl _
    | intro _ | exact le_refl _ | exact rfl | split | apply Keeps.mk'

theorem State.dispatchFrame_keeps {a s : State} (h : Keeps a s) (n : Nat) : Keeps a (State.dispatchFrame s n) := by
  unfold State.dispatchFrame
  repeat' with_reducible first
    | exact h | apply Keeps.ite | apply State.wrB_keeps | apply State.bump_keeps | apply State.wr_keeps
    | apply State.stamp_keeps | apply State.canContent_keeps | apply State.bothNets_keeps | exact Keeps.refl _ | intro _
    | exact le_refl _ | exact rfl | split

theorem State.localClamp_keeps {a s : State} (h : Keeps a s) (n : Nat) : Keeps a (State.localClamp s n).1 := by
  unfold State.localClamp
  dsimp only
  repeat' with_reducible first
    | exact h | apply Keeps.ite | apply State.bump_keeps | apply State.wrB_keeps | apply State.wrI_keeps | split

theorem State.limitsReleased_keeps {a s : State} (h : Keeps a s) (n : Nat) : Keeps a (State.limitsReleased s n) := by
  unfold State.limitsReleased
  repeat' with_reducible first
    | exact h | apply Keeps.ite | apply State.clampNow_keeps | apply State.localClamp_keeps | apply State.dispatchFrame_keeps
    | split | refine Keeps.fst (by assumption) ?_

theorem State.pcsClosed_keeps {a s : State} (h : Keeps a s) (n : Nat) : Keeps a (State.pcsClosed s n) := by
  unfold State.pcsClosed
  repeat' with_reducible first
    | exact h | apply State.dispatchFrame_keeps | apply State.clampNow_keeps

end Sys2Proof.Machine
end

