-- ==== Sys2Proof/Laws/Keeps/RoleOps.lean ====
section
/-! SUPPORT. What every command respects (`Keeps`), for the operations of Machine/RoleOps.lean. -/

set_option linter.all false

namespace Sys2Proof.Machine
open Obj

theorem State.sendPeer_keeps {a s : State} (h : Keeps a s) (kind : Nat) (body : Bytes) : Keeps a (State.sendPeer s kind body) := by
  unfold State.sendPeer
  repeat' with_reducible first
    | exact h | apply Keeps.ite | apply State.bothNets_keeps | exact le_refl _ | exact rfl | split | apply Keeps.mk'

theorem State.sendAnnounce_keeps {a s : State} (h : Keeps a s) (resigning : Bool) : Keeps a (State.sendAnnounce s resigning) := by
  unfold State.sendAnnounce
  repeat' with_reducible first
    | exact h | apply State.sendPeer_keeps | exact Keeps.refl _ | intro _ | exact le_refl _ | exact rfl

theorem State.sendCandidate_keeps {a s : State} (h : Keeps a s)  : Keeps a (State.sendCandidate s) := by
  unfold State.sendCandidate
  repeat' with_reducible first
    | exact h | apply State.sendPeer_keeps

theorem State.clampAll_keeps {a s : State} (h : Keeps a s)  : Keeps a (State.clampAll s) := by
  unfold State.clampAll
  repeat' with_reducible first
    | exact h | apply State.eachStr_keeps | apply State.clampNow_keeps | exact Keeps.refl _ | intro _ | exact le_refl _
    | exact rfl

theorem State.forgetManager_keeps {a s : State} (h : Keeps a s)  : Keeps a (State.forgetManager s) := by
  unfold State.forgetManager
  repeat' with_reducible first
    | exact h | apply State.eachStr_keeps | apply State.dispatchFrame_keeps | apply State.clampNow_keeps
    | apply State.wr_keeps | exact Keeps.refl _ | intro _ | exact le_refl _ | exact rfl

theorem State.beginHold_keeps {a s : State} (h : Keeps a s)  : Keeps a (State.beginHold s) := by
  unfold State.beginHold
  repeat' with_reducible first
    | exact h | apply Keeps.ite | apply State.wrB_keeps | exact le_refl _ | exact rfl | split | apply Keeps.mk'

theorem State.knowManager_keeps {a s : State} (h : Keeps a s)  : Keeps a (State.knowManager s) := by
  unfold State.knowManager
  repeat' with_reducible first
    | exact h | apply Keeps.ite | apply State.clampAll_keeps | exact le_refl _ | exact rfl | split | apply Keeps.mk'

theorem State.clearManagerRegs_keeps {a s : State} (h : Keeps a s)  : Keeps a (State.clearManagerRegs s) := by
  unfold State.clearManagerRegs
  repeat' with_reducible first
    | exact h | apply State.wrB_keeps | apply State.wr_keeps

theorem State.setRole_keeps {a s : State} (h : Keeps a s) (r : Nat) : Keeps a (State.setRole s r) := by
  unfold State.setRole
  repeat' with_reducible first
    | exact h | apply Keeps.ite | apply State.attention_keeps | apply State.wr_keeps | split

theorem State.discover_keeps {a s : State} (h : Keeps a s) (listen : Nat) : Keeps a (State.discover s listen) := by
  unfold State.discover
  repeat' with_reducible first
    | exact h | apply State.wr_keeps | apply State.setRole_keeps | apply State.clearManagerRegs_keeps | exact le_refl _
    | exact rfl | apply Keeps.mk'

theorem State.loseManager_keeps {a s : State} (h : Keeps a s)  : Keeps a (State.loseManager s) := by
  unfold State.loseManager
  repeat' with_reducible first
    | exact h | apply State.record_keeps | apply State.discover_keeps | apply State.beginHold_keeps | apply State.bump_keeps

theorem State.resign_keeps {a s : State} (h : Keeps a s)  : Keeps a (State.resign s) := by
  unfold State.resign
  repeat' with_reducible first
    | exact h | apply State.sendAnnounce_keeps | apply State.record_keeps | apply State.discover_keeps
    | apply State.beginHold_keeps

theorem State.roleCheck_keeps {a s : State} (h : Keeps a s)  : Keeps a (State.roleCheck s) := by
  unfold State.roleCheck
  repeat' with_reducible first
    | exact h | apply Keeps.ite | apply State.wrB_keeps | apply State.resign_keeps | split

theorem State.adopt_keeps {a s : State} (h : Keeps a s) (id : Nat) (pref : Nat) (epoch : Nat) : Keeps a (State.adopt s id pref epoch) := by
  unfold State.adopt
  repeat' with_reducible first
    | exact h | apply Keeps.ite | apply State.clearManagerRegs_keeps | apply State.record_keeps | apply State.stamp_keeps
    | apply State.wr_keeps | apply State.setRole_keeps | apply State.knowManager_keeps | exact le_refl _ | exact rfl | split
    | apply Keeps.mk'

theorem State.openEpoch_keeps {a s : State} (h : Keeps a s)  : Keeps a (State.openEpoch s) := by
  unfold State.openEpoch
  repeat' with_reducible first
    | exact h | apply State.stamp_keeps | apply State.wr_keeps | exact le_refl _ | exact rfl | apply Keeps.mk'

theorem State.gainRole_keeps {a s : State} (h : Keeps a s)  : Keeps a (State.gainRole s) := by
  unfold State.gainRole
  repeat' with_reducible first
    | exact h | apply Keeps.ite | apply State.openEpoch_keeps | apply State.wr_keeps | apply State.setRole_keeps
    | apply State.wrB_keeps | apply State.knowManager_keeps | apply State.sendAnnounce_keeps | apply State.record_keeps
    | exact le_refl _ | exact rfl | split | apply Keeps.mk'

end Sys2Proof.Machine
end

