-- ==== Sys2Proof/Laws/Keeps/Protection.lean ====
section
/-! SUPPORT. What every command respects (`Keeps`), for the operations of Machine/Protection.lean. -/

set_option linter.all false

namespace Sys2Proof.Machine
open Obj

theorem State.imdOne_keeps {a s : State} (h : Keeps a s) (n : Nat) : Keeps a (State.imdOne s n) := by
  unfold State.imdOne
  repeat' with_reducible first
    | exact h | apply Keeps.ite | apply State.wrB_keeps | apply State.wr_keeps | apply State.modStr_keeps | exact Keeps.refl _
    | intro _ | exact le_refl _ | exact rfl | split | apply Keeps.mk'

theorem State.imdSync_keeps {a s : State} (h : Keeps a s)  : Keeps a (State.imdSync s) := by
  unfold State.imdSync
  repeat' with_reducible first
    | exact h | apply State.eachStr_keeps | apply State.imdOne_keeps | exact Keeps.refl _ | intro _ | exact le_refl _
    | exact rfl

theorem State.coilRegs_keeps {a s : State} (h : Keeps a s) (n : Nat) : Keeps a (State.coilRegs s n) := by
  unfold State.coilRegs
  repeat' with_reducible first
    | exact h | apply State.wrB_keeps

theorem State.coilOn_keeps {a s : State} (h : Keeps a s) (n : Nat) (c : Nat) : Keeps a (State.coilOn s n c) := by
  unfold State.coilOn
  repeat' with_reducible first
    | exact h | apply Keeps.ite | apply State.modProt_keeps | apply State.modStr_keeps | apply State.imdSync_keeps
    | apply State.coilRegs_keeps | apply State.send_keeps | exact Keeps.refl _ | intro _ | exact le_refl _ | exact rfl | split

theorem State.coilOff_keeps {a s : State} (h : Keeps a s) (n : Nat) (c : Nat) : Keeps a (State.coilOff s n c) := by
  unfold State.coilOff
  repeat' with_reducible first
    | exact h | apply Keeps.ite | apply State.modProt_keeps | apply State.modStr_keeps | apply State.imdSync_keeps
    | apply State.coilRegs_keeps | apply State.send_keeps | exact Keeps.refl _ | intro _ | exact le_refl _ | exact rfl | split

theorem State.testsOpened_keeps {a s : State} (h : Keeps a s) (n : Nat) : Keeps a (State.testsOpened s n) := by
  unfold State.testsOpened
  repeat' with_reducible first
    | exact h | apply Keeps.ite | apply State.wrB_keeps | apply State.modRing_keeps | apply Keeps.foldl | exact Keeps.refl _
    | intro _ | exact le_refl _ | exact rfl | split

theorem State.allOff_keeps {a s : State} (h : Keeps a s) (n : Nat) : Keeps a (State.allOff s n) := by
  unfold State.allOff
  repeat' with_reducible first
    | exact h | apply Keeps.ite | apply State.coilOff_keeps | apply State.testsOpened_keeps | exact Keeps.refl _ | intro _
    | exact le_refl _ | exact rfl | split

theorem State.loopOut_keeps {a s : State} (h : Keeps a s)  : Keeps a (State.loopOut s) := by
  unfold State.loopOut
  repeat' with_reducible first
    | exact h | apply Keeps.ite | apply State.wrB_keeps | exact le_refl _ | exact rfl | split | apply Keeps.mk'

theorem State.zeroSetpoint_keeps {a s : State} (h : Keeps a s) (n : Nat) : Keeps a (State.zeroSetpoint s n) := by
  unfold State.zeroSetpoint
  repeat' with_reducible first
    | exact h | apply State.wr_keeps

theorem State.noteInhibit_keeps {a s : State} (h : Keeps a s) (n : Nat) : Keeps a (State.noteInhibit s n) := by
  unfold State.noteInhibit
  repeat' with_reducible first
    | exact h | apply Keeps.ite | apply State.record_keeps | apply State.wr_keeps | split

theorem State.debugSettle_keeps {a s : State} (h : Keeps a s)  : Keeps a (State.debugSettle s) := by
  unfold State.debugSettle
  repeat' with_reducible first
    | exact h | apply Keeps.ite | apply State.secChange_keeps | apply State.answerOpt_keeps | apply State.eachStr_keeps
    | apply State.noteInhibit_keeps | exact Keeps.refl _ | intro _ | exact le_refl _ | exact rfl | split | apply Keeps.mk'

theorem State.endClosing_keeps {a s : State} (h : Keeps a s) (n : Nat) (st : Nat) (p : Bytes) : Keeps a (State.endClosing s n st p) := by
  unfold State.endClosing
  repeat' with_reducible first
    | exact h | apply State.modProt_keeps | apply State.answerOpt_keeps | apply State.wr_keeps | exact Keeps.refl _ | intro _
    | exact le_refl _ | exact rfl | apply Keeps.mk'

theorem State.endOpening_keeps {a s : State} (h : Keeps a s) (n : Nat) (st : Nat) (p : Bytes) : Keeps a (State.endOpening s n st p) := by
  unfold State.endOpening
  repeat' with_reducible first
    | exact h | apply State.modProt_keeps | apply State.answer_keeps | apply Keeps.foldl | exact Keeps.refl _ | intro _
    | exact le_refl _ | exact rfl | apply Keeps.mk'

theorem State.openNow_keeps {a s : State} (h : Keeps a s) (n : Nat) (cause : Nat) : Keeps a (State.openNow s n cause) := by
  unfold State.openNow
  repeat' with_reducible first
    | exact h | apply Keeps.ite | apply State.allOff_keeps | apply State.zeroSetpoint_keeps | apply State.wr_keeps
    | apply State.pcsClosed_keeps | apply State.endClosing_keeps | apply State.endOpening_keeps | apply State.modProt_keeps
    | apply State.record_keeps | apply State.debugSettle_keeps | exact Keeps.refl _ | intro _ | exact le_refl _ | exact rfl
    | split

theorem State.openAll_keeps {a s : State} (h : Keeps a s) (cause : Nat) : Keeps a (State.openAll s cause) := by
  unfold State.openAll
  repeat' with_reducible first
    | exact h | apply State.eachStr_keeps | apply State.openNow_keeps | exact Keeps.refl _ | intro _ | exact le_refl _
    | exact rfl

theorem State.refresh_keeps {a s : State} (h : Keeps a s) (n : Nat) : Keeps a (State.refresh s n) := by
  unfold State.refresh
  repeat' with_reducible first
    | exact h | apply Keeps.ite | apply State.noteInhibit_keeps | apply State.openNow_keeps | split

theorem State.refreshAll_keeps {a s : State} (h : Keeps a s)  : Keeps a (State.refreshAll s) := by
  unfold State.refreshAll
  repeat' with_reducible first
    | exact h | apply State.eachStr_keeps | apply State.refresh_keeps | exact Keeps.refl _ | intro _ | exact le_refl _
    | exact rfl

theorem State.setSecurity_keeps {a s : State} (h : Keeps a s) (new : Nat) (cause : Nat) (sess : Nat) : Keeps a (State.setSecurity s new cause sess) := by
  unfold State.setSecurity
  repeat' with_reducible first
    | exact h | apply State.refreshAll_keeps | apply State.secChange_keeps

theorem State.writeTrip_keeps {a s : State} (h : Keeps a s) (e : Nat) (n : Nat) (cause : Nat) (i : TripInfo) (second : Bool) : Keeps a (State.writeTrip s e n cause i second) := by
  unfold State.writeTrip
  repeat' with_reducible first
    | exact h | apply Keeps.ite | apply State.wr_keeps | apply State.wrB_keeps | apply State.stamp_keeps | split

theorem State.storeTrips_keeps {a s : State} (h : Keeps a s) (e : Nat) : Keeps a (State.storeTrips s e) := by
  unfold State.storeTrips
  split
  · exact h
  · exact h.nv _ rfl rfl rfl rfl rfl rfl (le_refl _) id (le_refl _) fun i j =>
      ⟨Store.foldl_sorted _ _ (fun _ _ k => Store.ins_sorted k ..) (Store.filter_sorted i _), j⟩

theorem State.trip_keeps {a s : State} (h : Keeps a s) (n : Nat) (cause : Nat) (i : optParam TripInfo TripInfo.plain) : Keeps a (State.trip s n cause i) := by
  unfold State.trip
  repeat' with_reducible first
    | exact h | apply Keeps.ite | apply State.allOff_keeps | apply State.zeroSetpoint_keeps | apply State.wr_keeps
    | apply State.writeTrip_keeps | apply State.pcsClosed_keeps | apply State.bump_keeps | apply State.stamp_keeps
    | apply State.modProt_keeps | apply State.storeTrips_keeps | apply State.record_keeps | apply State.endClosing_keeps
    | apply State.endOpening_keeps | apply State.pinAround_keeps | apply State.attention_keeps | apply State.loopOut_keeps
    | apply State.debugSettle_keeps | exact Keeps.refl _ | intro _ | exact le_refl _ | exact rfl | split

theorem State.setDiag_keeps {a s : State} (h : Keeps a s) (n : Nat) (flag : Nat) (b : Bool) (node : optParam Nat 65535) : Keeps a (State.setDiag s n flag b node) := by
  unfold State.setDiag
  repeat' with_reducible first
    | exact h | apply Keeps.ite | apply State.modProt_keeps | apply State.wr_keeps | apply State.trip_keeps
    | apply State.refresh_keeps | exact Keeps.refl _ | intro _ | exact le_refl _ | exact rfl | split

end Sys2Proof.Machine
end

