-- ==== Sys2Proof/Laws/Keeps/Contactors.lean ====
section
/-! SUPPORT. What every command respects (`Keeps`), for the operations of Machine/Contactors.lean. -/

set_option linter.all false

namespace Sys2Proof.Machine
open Obj

theorem State.weldUnchecked_keeps {a s : State} (h : Keeps a s) (n : Nat) (contactor : Nat) : Keeps a (State.weldUnchecked s n contactor) := by
  unfold State.weldUnchecked
  repeat' with_reducible first
    | exact h | apply State.modProt_keeps | apply State.record_keeps | apply State.bump_keeps | exact Keeps.refl _ | intro _
    | exact le_refl _ | exact rfl | apply Keeps.mk'

theorem State.enterClosed_keeps {a s : State} (h : Keeps a s) (n : Nat) : Keeps a (State.enterClosed s n) := by
  unfold State.enterClosed
  repeat' with_reducible first
    | exact h | apply Keeps.ite | apply State.wr_keeps | apply State.bump_keeps | apply State.stamp_keeps
    | apply State.pcsClosed_keeps | apply State.record_keeps | apply State.modProt_keeps | apply State.answerOpt_keeps
    | exact Keeps.refl _ | intro _ | exact le_refl _ | exact rfl | split | apply Keeps.mk'

theorem State.precharged_keeps {a s : State} (h : Keeps a s) (n : Nat) : Keeps a (State.precharged s n) := by
  unfold State.precharged
  repeat' with_reducible first
    | exact h | apply Keeps.ite | apply State.modProt_keeps | exact Keeps.refl _ | intro _ | exact le_refl _ | exact rfl
    | split | apply Keeps.mk'

theorem State.closingGo_keeps {a s : State} (h : Keeps a s) (n k : Nat) (act : State → State) (ha : ∀ v, Keeps v (act v)) :
    Keeps a (State.closingGo s n k act) := by
  refine h.trans ?_
  unfold State.closingGo
  dsimp only
  split
  · exact State.openNow_keeps (Keeps.refl _) ..
  · exact (State.wr_keeps (Keeps.refl _) ..).trans (ha _)

theorem State.pickUp_keeps {a s : State} (h : Keeps a s) (n : Nat) (c : Nat) : Keeps a (State.pickUp s n c) := by
  unfold State.pickUp
  repeat' with_reducible first
    | exact h | apply Keeps.ite | apply State.coilOn_keeps | apply State.modProt_keeps | exact Keeps.refl _ | intro _
    | exact le_refl _ | exact rfl | split | apply Keeps.mk'

theorem State.closeWithPre_keeps {a s : State} (h : Keeps a s) (n : Nat) : Keeps a (State.closeWithPre s n) := by
  unfold State.closeWithPre
  repeat' with_reducible first
    | exact h | apply Keeps.ite | apply State.closingGo_keeps | apply State.pickUp_keeps | apply State.modProt_keeps
    | apply State.trip_keeps | apply State.weldUnchecked_keeps | apply State.precharged_keeps | apply State.coilOff_keeps
    | apply State.enterClosed_keeps | exact Keeps.refl _ | intro _ | exact le_refl _ | exact rfl | split | dsimp only

theorem State.closeNoPre_keeps {a s : State} (h : Keeps a s) (n : Nat) : Keeps a (State.closeNoPre s n) := by
  unfold State.closeNoPre
  repeat' with_reducible first
    | exact h | apply Keeps.ite | apply State.closingGo_keeps | apply State.weldUnchecked_keeps | apply State.pickUp_keeps
    | apply State.enterClosed_keeps | exact Keeps.refl _ | intro _ | exact le_refl _ | exact rfl | split

theorem execCloseString_keeps (t : Nat) (r : Req) (p : Bytes) (s : State) : ∃ u, execCloseString t r p s = .next u ∧ Keeps s u := by
  refine ⟨_, rfl, ?_⟩
  dsimp only
  repeat' with_reducible first
    | exact Keeps.refl _ | apply Keeps.ite | apply State.serve_keeps | apply State.wr_keeps | apply State.modProt_keeps
    | intro _ | exact le_refl _ | exact rfl | split | apply Keeps.mk'

theorem execClosingStep_keeps (t : Nat) (str : Nat) (s : State) : ∃ u, execClosingStep t str s = .next u ∧ Keeps s u := by
  refine ⟨_, rfl, ?_⟩
  repeat' with_reducible first
    | exact Keeps.refl _ | apply Keeps.ite | apply State.at_keeps | apply State.closeWithPre_keeps
    | apply State.closeNoPre_keeps | split

theorem execPrechargeFail_keeps (t : Nat) (str : Nat) (s : State) : ∃ u, execPrechargeFail t str s = .next u ∧ Keeps s u := by
  refine ⟨_, rfl, ?_⟩
  repeat' with_reducible first
    | exact Keeps.refl _ | apply Keeps.ite | apply State.precharged_keeps | apply State.at_keeps | apply State.trip_keeps
    | split

theorem State.startOpening_keeps {a s : State} (h : Keeps a s) (n : Nat) : Keeps a (State.startOpening s n) := by
  unfold State.startOpening
  repeat' with_reducible first
    | exact h | apply Keeps.ite | apply State.zeroSetpoint_keeps | apply State.pcsClosed_keeps | apply State.wr_keeps
    | apply State.bump_keeps | apply State.modProt_keeps | exact Keeps.refl _ | intro _ | exact le_refl _ | exact rfl | split
    | apply Keeps.mk'

theorem State.openingDone_keeps {a s : State} (h : Keeps a s) (n : Nat) : Keeps a (State.openingDone s n) := by
  unfold State.openingDone
  repeat' with_reducible first
    | exact h | apply Keeps.ite | apply State.wr_keeps | apply State.modProt_keeps | apply State.record_keeps
    | apply State.debugSettle_keeps | apply State.endOpening_keeps | exact Keeps.refl _ | intro _ | exact le_refl _
    | exact rfl | split | apply Keeps.mk'

theorem execOpenString_keeps (t : Nat) (r : Req) (p : Bytes) (s : State) : ∃ u, execOpenString t r p s = .next u ∧ Keeps s u := by
  refine ⟨_, rfl, ?_⟩
  dsimp only
  repeat' with_reducible first
    | exact Keeps.refl _ | apply Keeps.ite | apply State.serve_keeps | apply State.openNow_keeps
    | apply State.startOpening_keeps | apply State.modProt_keeps | intro _ | exact le_refl _ | exact rfl | split
    | apply Keeps.mk'

theorem execOpenWait_keeps (t : Nat) (str : Nat) (s : State) : ∃ u, execOpenWait t str s = .next u ∧ Keeps s u := by
  refine ⟨_, rfl, ?_⟩
  repeat' with_reducible first
    | exact Keeps.refl _ | apply Keeps.ite | apply State.at_keeps | apply State.modProt_keeps | apply State.coilOff_keeps
    | intro _ | exact le_refl _ | exact rfl | split | apply Keeps.mk'

theorem execNegCoilOff_keeps (t : Nat) (str : Nat) (s : State) : ∃ u, execNegCoilOff t str s = .next u ∧ Keeps s u := by
  refine ⟨_, rfl, ?_⟩
  repeat' with_reducible first
    | exact Keeps.refl _ | apply Keeps.ite | apply State.at_keeps | apply State.openingDone_keeps | apply State.modProt_keeps
    | apply State.coilOff_keeps | intro _ | exact le_refl _ | exact rfl | split | apply Keeps.mk'

theorem State.judgeCoil_keeps {a s : State} (h : Keeps a s) (n : Nat) (c : Nat) : Keeps a (State.judgeCoil s n c) := by
  unfold State.judgeCoil
  repeat' with_reducible first
    | exact h | apply Keeps.ite | apply State.modProt_keeps | apply State.trip_keeps | exact Keeps.refl _ | intro _
    | exact le_refl _ | exact rfl | split

theorem State.coilCurrent_keeps {a s : State} (h : Keeps a s) (n : Nat) (c : Nat) (ma : Nat) : Keeps a (State.coilCurrent s n c ma) := by
  unfold State.coilCurrent
  repeat' with_reducible first
    | exact h | apply Keeps.ite | apply State.modProt_keeps | apply State.trip_keeps | exact Keeps.refl _ | intro _
    | exact le_refl _ | exact rfl | split

theorem State.superviseCoil_keeps {a s : State} (h : Keeps a s) (n : Nat) (c : Nat) (ma : Nat) : Keeps a (State.superviseCoil s n c ma) := by
  unfold State.superviseCoil
  repeat' with_reducible first
    | exact h | apply Keeps.ite | apply State.coilCurrent_keeps | apply State.modProt_keeps | apply State.trip_keeps
    | exact Keeps.refl _ | intro _ | exact le_refl _ | exact rfl | split

theorem execMirrorContactChange_keeps (t : Nat) (str : Nat) (mirrors : Nat) (iPos : Nat) (iNeg : Nat) (iPre : Nat) (s : State) : ∃ u, execMirrorContactChange t str mirrors iPos iNeg iPre s = .next u ∧ Keeps s u := by
  refine ⟨_, rfl, ?_⟩
  repeat' with_reducible first
    | exact Keeps.refl _ | apply Keeps.ite | apply State.at_keeps | apply State.wrB_keeps | apply State.wr_keeps
    | apply State.imdSync_keeps | apply State.superviseCoil_keeps | apply State.openingDone_keeps | split

theorem execPulseTests_keeps (t : Nat) (str : Nat) (coil : Nat) (read : PulseRead) (s : State) : ∃ u, execPulseTests t str coil read s = .next u ∧ Keeps s u := by
  refine ⟨_, rfl, ?_⟩
  repeat' with_reducible first
    | exact Keeps.refl _ | apply Keeps.ite | apply State.at_keeps | apply State.modProt_keeps | apply State.send_keeps
    | apply State.trip_keeps | apply State.bump_keeps | intro _ | exact le_refl _ | exact rfl | split

theorem execOffCoilReadback_keeps (t : Nat) (str : Nat) (reads : Nat) (s : State) : ∃ u, execOffCoilReadback t str reads s = .next u ∧ Keeps s u := by
  refine ⟨_, rfl, ?_⟩
  repeat' with_reducible first
    | exact Keeps.refl _ | apply Keeps.ite | apply State.at_keeps | apply State.modProt_keeps | apply State.trip_keeps
    | intro _ | exact le_refl _ | exact rfl | split

theorem execCoilShort_keeps (t : Nat) (str : Nat) (coil : Nat) (s : State) : ∃ u, execCoilShort t str coil s = .next u ∧ Keeps s u := by
  refine ⟨_, rfl, ?_⟩
  repeat' with_reducible first
    | exact Keeps.refl _ | apply Keeps.ite | apply State.at_keeps | apply State.trip_keeps | apply State.coilOff_keeps | split

end Sys2Proof.Machine
end

