-- ==== Sys2Proof/Laws/Keeps/FrontTrips.lean ====
section
/-! SUPPORT. What every command respects (`Keeps`), for the operations of Machine/FrontTrips.lean. -/

set_option linter.all false

namespace Sys2Proof.Machine
open Obj

theorem State.classifyTrip_keeps {a s : State} (h : Keeps a s) (str : Nat) : Keeps a (State.classifyTrip s str) := by
  unfold State.classifyTrip
  repeat' with_reducible first
    | exact h | apply Keeps.ite | apply State.modProt_keeps | apply State.wr_keeps | apply State.wrB_keeps
    | apply State.storeTrips_keeps | exact Keeps.refl _ | intro _ | exact le_refl _ | exact rfl | split

theorem State.loopCurrent_keeps {a s : State} (h : Keeps a s) (str : Nat) (i : Nat) : Keeps a (State.loopCurrent s str i) := by
  unfold State.loopCurrent
  repeat' with_reducible first
    | exact h | apply Keeps.ite | apply State.wr_keeps | apply State.wrB_keeps | apply State.refresh_keeps
    | apply State.trip_keeps | apply State.modProt_keeps | exact Keeps.refl _ | intro _ | exact le_refl _ | exact rfl | split

theorem execFaultLoopOpen_keeps (t : Nat) (str : Nat) (i : Nat) (s : State) : ∃ u, execFaultLoopOpen t str i s = .next u ∧ Keeps s u := by
  refine ⟨_, rfl, ?_⟩
  repeat' with_reducible first
    | exact Keeps.refl _ | apply Keeps.ite | apply State.at_keeps | apply State.loopCurrent_keeps | intro _ | exact le_refl _
    | exact rfl | split

theorem execFaultLoopClosed_keeps (t : Nat) (str : Nat) (i : Nat) (s : State) : ∃ u, execFaultLoopClosed t str i s = .next u ∧ Keeps s u := by
  refine ⟨_, rfl, ?_⟩
  repeat' with_reducible first
    | exact Keeps.refl _ | apply Keeps.ite | apply State.at_keeps | apply State.loopCurrent_keeps | intro _ | exact le_refl _
    | exact rfl | split

theorem execFastOc_keeps (t : Nat) (str : Nat) (v : Int) (s : State) : ∃ u, execFastOc t str v s = .next u ∧ Keeps s u := by
  refine ⟨_, rfl, ?_⟩
  repeat' with_reducible first
    | exact Keeps.refl _ | apply Keeps.ite | apply State.at_keeps | apply State.modProt_keeps | apply State.trip_keeps
    | intro _ | exact le_refl _ | exact rfl | split | apply Keeps.mk'

theorem State.beatTrip_keeps {a s : State} (h : Keeps a s) (n : Nat) : Keeps a (State.beatTrip s n) := by
  unfold State.beatTrip
  repeat' with_reducible first
    | exact h | apply Keeps.ite | apply State.modProt_keeps | apply State.trip_keeps | exact Keeps.refl _ | intro _
    | exact le_refl _ | exact rfl | split

theorem State.sendBeat_keeps {a s : State} (h : Keeps a s) (n : Nat) : Keeps a (State.sendBeat s n) := by
  unfold State.sendBeat
  repeat' with_reducible first
    | exact h | apply Keeps.ite | apply State.send_keeps | apply State.modProt_keeps | exact Keeps.refl _ | intro _
    | exact le_refl _ | exact rfl | split

theorem execHeartbeat_keeps (t : Nat) (str : Nat) (beat : Beat) (s : State) : ∃ u, execHeartbeat t str beat s = .next u ∧ Keeps s u := by
  refine ⟨_, rfl, ?_⟩
  repeat' with_reducible first
    | exact Keeps.refl _ | apply Keeps.ite | apply State.at_keeps | apply State.beatTrip_keeps | apply State.sendBeat_keeps
    | apply State.modProt_keeps | intro _ | exact le_refl _ | exact rfl | split

end Sys2Proof.Machine
end

