-- ==== Sys2Proof/Laws/Keeps/Ledger.lean ====
section
/-! SUPPORT. What every command respects (`Keeps`), for the operations of Machine/Ledger.lean. -/

set_option linter.all false

namespace Sys2Proof.Machine
open Obj

theorem State.ledgerRegs_keeps {a s : State} (h : Keeps a s)  : Keeps a (State.ledgerRegs s) := by
  unfold State.ledgerRegs
  repeat' with_reducible first
    | exact h | apply State.wr_keeps | exact Keeps.refl _ | intro _ | exact le_refl _ | exact rfl

theorem State.putEntry_keeps {a s : State} (h : Keeps a s) (e : Entry) : Keeps a (State.putEntry s e) := by
  unfold State.putEntry
  repeat' with_reducible first
    | exact h | exact le_refl _ | exact rfl | apply Keeps.mk'

theorem State.applyEntry_keeps {a s : State} (h : Keeps a s) (n : Nat) (e : Entry) : Keeps a (State.applyEntry s n e) := by
  unfold State.applyEntry
  repeat' with_reducible first
    | exact h | apply Keeps.ite | apply State.putEntry_keeps | apply State.record_keeps | exact le_refl _ | exact rfl | split
    | apply Keeps.mk'

theorem State.compareEntries_keeps {a s : State} (h : Keeps a s) (n : Nat) : Keeps a (State.compareEntries s n) := by
  unfold State.compareEntries
  repeat' with_reducible first
    | exact h | apply State.ledgerRegs_keeps | apply State.applyEntry_keeps | apply Keeps.foldl | exact Keeps.refl _ | intro _
    | exact le_refl _ | exact rfl

theorem State.authEntries_keeps {a s : State} (h : Keeps a s) (n : Nat) (serial : Nat) (chans : List Nat) : Keeps a (State.authEntries s n serial chans) := by
  unfold State.authEntries
  repeat' with_reducible first
    | exact h | apply Keeps.ite | apply State.ledgerRegs_keeps | apply State.applyEntry_keeps | apply State.putEntry_keeps
    | apply Keeps.foldl | exact Keeps.refl _ | intro _ | exact le_refl _ | exact rfl | split

theorem State.unuseEntries_keeps {a s : State} (h : Keeps a s) (n : Nat) (serials : List Nat) : Keeps a (State.unuseEntries s n serials) := by
  unfold State.unuseEntries
  repeat' with_reducible first
    | exact h | apply Keeps.ite | apply State.ledgerRegs_keeps | exact le_refl _ | exact rfl | split | apply Keeps.mk'

theorem State.failEntries_keeps {a s : State} (h : Keeps a s) (serial : Nat) : Keeps a (State.failEntries s serial) := by
  unfold State.failEntries
  repeat' with_reducible first
    | exact h | apply State.ledgerRegs_keeps | apply State.putEntry_keeps | apply Keeps.foldl | exact Keeps.refl _ | intro _
    | exact le_refl _ | exact rfl | split | apply Keeps.mk'

theorem State.restoreCheck_keeps {a s : State} (h : Keeps a s)  : Keeps a (State.restoreCheck s) := by
  unfold State.restoreCheck
  repeat' with_reducible first
    | exact h | apply Keeps.ite | apply State.stamp_keeps | apply State.wr_keeps | apply State.bump_keeps | exact Keeps.refl _
    | intro _ | exact le_refl _ | exact rfl | split | apply Keeps.mk'

theorem State.pendingLap_keeps {a s : State} (h : Keeps a s) (n : Nat) : Keeps a (State.pendingLap s n) := by
  unfold State.pendingLap
  repeat' with_reducible first
    | exact h | apply Keeps.ite | apply State.ledgerRegs_keeps | apply State.applyEntry_keeps | apply Keeps.foldl
    | exact Keeps.refl _ | intro _ | exact le_refl _ | exact rfl | split | apply Keeps.mk'

theorem State.restoreLap_keeps {a s : State} (h : Keeps a s) (n : Nat) (at_ : Nat) : Keeps a (State.restoreLap s n at_) := by
  unfold State.restoreLap
  repeat' with_reducible first
    | exact h | apply Keeps.ite | apply State.modStr_keeps | apply State.applyEntry_keeps | apply State.restoreCheck_keeps
    | apply State.ledgerRegs_keeps | apply Keeps.foldl | exact Keeps.refl _ | intro _ | exact le_refl _ | exact rfl | split
    | apply Keeps.mk'

end Sys2Proof.Machine
end

