-- ==== Sys2Proof/Laws/Keeps/SafeTelegram.lean ====
section
/-! SUPPORT. What every command respects (`Keeps`), for the operations of Machine/SafeTelegram.lean. -/

set_option linter.all false

namespace Sys2Proof.Machine
open Obj

theorem execSafeLoopInOpen_keeps (t : Nat) (i : Nat) (s : State) : ∃ u, execSafeLoopInOpen t i s = .next u ∧ Keeps s u := by
  refine ⟨_, rfl, ?_⟩
  repeat' with_reducible first
    | exact Keeps.refl _ | apply Keeps.ite | apply State.at_keeps | apply State.wrB_keeps | apply State.wr_keeps
    | apply State.refreshAll_keeps | apply State.loopOut_keeps | split

theorem execSafeLoopOriginHold_keeps (t : Nat) (s : State) : ∃ u, execSafeLoopOriginHold t s = .next u ∧ Keeps s u := by
  refine ⟨_, rfl, ?_⟩
  repeat' with_reducible first
    | exact Keeps.refl _ | apply Keeps.ite | apply State.at_keeps | apply State.loopOut_keeps | exact le_refl _ | exact rfl
    | split | apply Keeps.mk'

theorem State.startTelegrams_keeps {a s : State} (h : Keeps a s)  : Keeps a (State.startTelegrams s) := by
  unfold State.startTelegrams
  repeat' with_reducible first
    | exact h | apply Keeps.ite | exact le_refl _ | exact rfl | split | apply Keeps.mk'

theorem execSafeStatusTelegram_keeps (t : Nat) (s : State) : ∃ u, execSafeStatusTelegram t s = .next u ∧ Keeps s u := by
  refine ⟨_, rfl, ?_⟩
  repeat' with_reducible first
    | exact Keeps.refl _ | apply Keeps.ite | apply State.at_keeps | apply State.send_keeps | intro _ | exact le_refl _
    | exact rfl | split | apply Keeps.mk'

theorem State.discardEvent_keeps {a s : State} (h : Keeps a s)  : Keeps a (State.discardEvent s) := by
  unfold State.discardEvent
  repeat' with_reducible first
    | exact h | apply Keeps.ite | apply State.record_keeps | exact le_refl _ | exact rfl | split | apply Keeps.mk'

theorem State.countSingle_keeps {a s : State} (h : Keeps a s)  : Keeps a (State.countSingle s) := by
  unfold State.countSingle
  repeat' with_reducible first
    | exact h | apply State.bump_keeps | apply State.discardEvent_keeps | exact le_refl _ | exact rfl | apply Keeps.mk'

theorem State.expireCopy_keeps {a s : State} (h : Keeps a s) (net : Nat) (at20 : Bool) : Keeps a (State.expireCopy s net at20) := by
  unfold State.expireCopy
  repeat' with_reducible first
    | exact h | apply Keeps.ite | apply State.countSingle_keeps | exact le_refl _ | exact rfl | split | apply Keeps.mk'

theorem State.safeCmdString_keeps {a s : State} (h : Keeps a s) (n : Nat) (trips : Nat) (enables : Nat) : Keeps a (State.safeCmdString s n trips enables) := by
  unfold State.safeCmdString
  repeat' with_reducible first
    | exact h | apply Keeps.ite | apply State.modProt_keeps | apply State.refresh_keeps | exact Keeps.refl _ | intro _
    | exact le_refl _ | exact rfl | split | apply Keeps.mk'

theorem State.acceptSafeCmd_keeps {a s : State} (h : Keeps a s) (b : Bytes) : Keeps a (State.acceptSafeCmd s b) := by
  unfold State.acceptSafeCmd
  repeat' with_reducible first
    | exact h | apply Keeps.ite | apply State.bump_keeps | apply State.discardEvent_keeps | apply State.record_keeps
    | apply State.loopOut_keeps | apply State.eachStr_keeps | apply State.safeCmdString_keeps | exact Keeps.refl _ | intro _
    | exact le_refl _ | exact rfl | split | apply Keeps.mk'

theorem execSafeCommand_keeps (t : Nat) (net : Nat) (src : Nat) (port : Nat) (b : Bytes) (s : State) : ∃ u, execSafeCommand t net src port b s = .next u ∧ Keeps s u := by
  refine ⟨_, rfl, ?_⟩
  repeat' with_reducible first
    | exact Keeps.refl _ | apply Keeps.ite | apply State.at_keeps | apply State.expireCopy_keeps
    | apply State.countSingle_keeps | apply State.acceptSafeCmd_keeps | apply State.bump_keeps
    | apply State.discardEvent_keeps | exact le_refl _ | exact rfl | split | apply Keeps.mk'

theorem execSafeCmdSingle_keeps (t : Nat) (net : Nat) (s : State) : ∃ u, execSafeCmdSingle t net s = .next u ∧ Keeps s u := by
  refine ⟨_, rfl, ?_⟩
  repeat' with_reducible first
    | exact Keeps.refl _ | apply Keeps.ite | apply State.at_keeps | apply State.discardEvent_keeps
    | apply State.expireCopy_keeps | exact le_refl _ | exact rfl | split | apply Keeps.mk'

theorem execEnableMissing_keeps (t : Nat) (str : Nat) (s : State) : ∃ u, execEnableMissing t str s = .next u ∧ Keeps s u := by
  refine ⟨_, rfl, ?_⟩
  repeat' with_reducible first
    | exact Keeps.refl _ | apply Keeps.ite | apply State.at_keeps | apply State.refresh_keeps | apply State.modProt_keeps
    | intro _ | exact le_refl _ | exact rfl | split | apply Keeps.mk'

end Sys2Proof.Machine
end

