-- ==== Sys2Proof/Laws/Keeps/PowerOps.lean ====
section
/-! SUPPORT. What every command respects (`Keeps`), for the operations of Machine/PowerOps.lean. -/

set_option linter.all false

namespace Sys2Proof.Machine
open Obj

theorem State.sourceRegs_keeps {a s : State} (h : Keeps a s)  : Keeps a (State.sourceRegs s) := by
  unfold State.sourceRegs
  repeat' with_reducible first
    | exact h | apply Keeps.ite | apply State.wr_keeps | exact le_refl _ | exact rfl | split | apply Keeps.mk'

theorem State.powerChange_keeps {a s : State} (h : Keeps a s) (old : Supply) : Keeps a (State.powerChange s old) := by
  unfold State.powerChange
  repeat' with_reducible first
    | exact h | apply Keeps.ite | apply State.wr_keeps | apply State.sourceRegs_keeps | apply State.stamp_keeps
    | apply State.record_keeps | apply State.compressCheck_keeps | apply State.attention_keeps | exact Keeps.refl _ | intro _
    | exact le_refl _ | exact rfl | split | apply Keeps.mk'

theorem State.setSupply_keeps {a s : State} (h : Keeps a s) (new : Supply) : Keeps a (State.setSupply s new) := by
  unfold State.setSupply
  repeat' with_reducible first
    | exact h | apply State.powerChange_keeps | exact le_refl _ | exact rfl | apply Keeps.mk'

theorem State.powerDerive_keeps {a s : State} (h : Keeps a s)  : Keeps a (State.powerDerive s) := by
  unfold State.powerDerive
  repeat' with_reducible first
    | exact h | apply State.powerChange_keeps

end Sys2Proof.Machine
end

