-- ==== Sys2Proof/Laws/Keeps/StoreOps.lean ====
section
/-! SUPPORT. What every command respects (`Keeps`), for the operations of Machine/StoreOps.lean. -/

set_option linter.all false

namespace Sys2Proof.Machine
open Obj

theorem State.journal_keeps {a s : State} (h : Keeps a s) (rid : Rid) (cells : List CellW) (ws : List Write) (payload : Bytes) : Keeps a (State.journal s rid cells ws payload) := by
  unfold State.journal
  repeat' with_reducible first
    | exact h | apply State.fresh_keeps | exact le_refl _ | exact rfl | split | refine Keeps.snd (by assumption) ?_
    | apply Keeps.mk'

theorem State.keepOld_keeps {a s : State} (h : Keeps a s) (o : State) (n : Nat) (cs : List CellW) (at_ : Nat) : Keeps a (State.keepOld s o n cs at_) := by
  unfold State.keepOld
  repeat' with_reducible first
    | exact h | apply Keeps.ite | apply State.modLaps_keeps | exact Keeps.refl _ | intro _ | exact le_refl _ | exact rfl
    | split

theorem State.putCells_keeps {a s : State} (h : Keeps a s) (cs : List CellW) : Keeps a (State.putCells s cs) :=
  h.objs _ fun i => Store.puts_sorted i cs

theorem State.storeCells_keeps {a s : State} (h : Keeps a s) (cs : List CellW) : Keeps a (State.storeCells s cs) :=
  h.nv _ rfl rfl rfl rfl rfl rfl (le_refl _) id (le_refl _) fun i j => ⟨Store.inss_sorted i cs, j⟩

theorem State.putVals_keeps {a s : State} (h : Keeps a s) (vs : List NewVal) : Keeps a (State.putVals s vs) := by
  unfold State.putVals
  repeat' with_reducible first
    | exact h | apply State.putCells_keeps

theorem State.runWrites_keeps {a s : State} (h : Keeps a s) (ws : List Write) : Keeps a (State.runWrites s ws).1 := by
  unfold State.runWrites
  suffices ∀ (l : List Write) (x : State × List NewVal), Keeps a x.1 → Keeps a (l.foldl (fun (a : State × List NewVal) w =>
      ((a.1.putVals (a.1.valsOf w)).putVals ((a.1.putVals (a.1.valsOf w)).derived w),
        a.2 ++ a.1.valsOf w ++ (a.1.putVals (a.1.valsOf w)).derived w)) x).1 from this ws (s, []) h
  intro l
  induction l with
  | nil => intro x hx; exact hx
  | cons w l ih => intro x hx; exact ih _ (State.putVals_keeps (State.putVals_keeps hx ..) ..)

theorem State.withWait_keeps {a s : State} (h : Keeps a s)  : Keeps a (State.withWait s) := by
  unfold State.withWait
  repeat' with_reducible first
    | exact h | apply State.eachStr_keeps | apply State.putCells_keeps | exact Keeps.refl _ | intro _ | exact le_refl _
    | exact rfl

theorem State.keepJournal_keeps {a s : State} (h : Keeps a s) (j : Journal) : Keeps a (State.keepJournal s j) := by
  unfold State.keepJournal
  extract_lets n s1 vs
  have h1 : Keeps a s1 := State.storeCells_keeps h ..
  refine Keeps.ite (Keeps.ite h ?_) (Keeps.ite (State.storeCells_keeps h ..) (State.storeCells_keeps h ..))
  exact h1.nv _ rfl rfl rfl rfl rfl rfl (le_refl _) id (le_refl _) fun i j => ⟨i, j⟩

theorem State.settleJournal_keeps {a s : State} (h : Keeps a s)  : Keeps a (State.settleJournal s) := by
  unfold State.settleJournal
  repeat' with_reducible first
    | exact h | apply Keeps.ite | apply State.keepJournal_keeps | apply Keeps.foldl | exact Keeps.refl _ | intro _
    | exact le_refl _ | exact rfl | split | apply Keeps.mk'

end Sys2Proof.Machine
end

