-- ==== Sys2Proof/Laws/Keeps/Start.lean ====
section
/-! SUPPORT. What every command respects (`Keeps`), for the operations of Machine/Start.lean. -/

set_option linter.all false

namespace Sys2Proof.Machine
open Obj

theorem State.clearRun_keeps {a s : State} (h : Keeps a s) (objs : Store) (ho : s.objs.sorted = true → objs.sorted = true) :
    Keeps a (State.clearRun s objs) := by
  refine h.trans ⟨rfl, le_refl _, le_refl _, List.suffix_refl _, rfl, rfl, rfl, rfl, rfl, rfl, le_refl _, id, le_refl _, ?_⟩
  intro i
  rw [State.inv_iff] at *
  refine ⟨ho i.1, i.2.1, i.2.2.1, ?_, rfl, rfl⟩
  simp only [State.sized, State.clearRun, List.length_map, List.length_range, List.length_replicate]
  rfl

theorem State.slotRegs_keeps {a s : State} (h : Keeps a s)  : Keeps a (State.slotRegs s) := by
  unfold State.slotRegs
  repeat' with_reducible first
    | exact h | apply Keeps.ite | apply State.wr_keeps | exact le_refl _ | exact rfl | split | apply Keeps.mk'

theorem State.setProfile_keeps {a s : State} (h : Keeps a s) (n : Nat) (b : Bytes) : Keeps a (State.setProfile s n b) := by
  unfold State.setProfile
  repeat' with_reducible first
    | exact h | apply Keeps.ite | apply State.wr_keeps | apply State.modStr_keeps | exact Keeps.refl _ | intro _
    | exact le_refl _ | exact rfl | split

theorem State.switchRegs_keeps {a s : State} (h : Keeps a s)  : Keeps a (State.switchRegs s) := by
  unfold State.switchRegs
  repeat' with_reducible first
    | exact h | apply Keeps.ite | apply State.wr_keeps | split

theorem State.applyMask_keeps {a s : State} (h : Keeps a s)  : Keeps a (State.applyMask s) := by
  unfold State.applyMask
  repeat' with_reducible first
    | exact h | apply State.wr_keeps | exact le_refl _ | exact rfl | apply Keeps.mk'

theorem State.applySwitches_keeps {a s : State} (h : Keeps a s)  : Keeps a (State.applySwitches s) := by
  unfold State.applySwitches
  repeat' with_reducible first
    | exact h | apply State.applyMask_keeps | apply State.wr_keeps | apply State.eachStr_keeps | apply State.setProfile_keeps
    | exact Keeps.refl _ | intro _ | exact le_refl _ | exact rfl

theorem State.factoryRegs_keeps {a s : State} (h : Keeps a s)  : Keeps a (State.factoryRegs s) := by
  unfold State.factoryRegs
  repeat' with_reducible first
    | exact h | apply State.wr_keeps | apply State.eachStr_keeps | apply Keeps.foldl | exact Keeps.refl _ | intro _
    | exact le_refl _ | exact rfl

theorem State.imageRegs_keeps {a s : State} (h : Keeps a s)  : Keeps a (State.imageRegs s) := by
  unfold State.imageRegs
  repeat' with_reducible first
    | exact h | apply State.wr_keeps | apply State.slotRegs_keeps

theorem State.chooseConfig_keeps {a s : State} (h : Keeps a s)  : Keeps a (State.chooseConfig s) := by
  refine h.trans ?_
  unfold State.chooseConfig
  repeat' (first
    | (extract_lets +onlyGivenNames x; first | (refine cutTo x ?_ ?_ <;> [(intro hx; try clear_value x); subst x]) | (refine cutFun x ?_ ?_ <;> [(intro hfun; try clear_value x); (intro v; subst x)]) | (refine cutFun2 x ?_ ?_ <;> [(intro hfun; try clear_value x); (intro v y; subst x)]) | (refine cutFun3 x ?_ ?_ <;> [(intro hfun; try clear_value x); (intro v y; subst x)]) | (have := (x : Mbx); clear this; subst x) | (have := (x : Nonvol); clear this; subst x) | clear_value x | subst x)
    | with_reducible first | exact Keeps.refl _ | assumption
    | with_reducible first | apply State.wrB_keeps | apply Keeps.foldl | apply Keeps.mapSess
    | with_reducible first | exact Nat.le_refl _ | exact Nat.le_succ _ | exact Nat.le_add_right _ _ | exact rfl | exact fun _ => rfl | exact fun _ => Nat.le_refl _ | exact id | exact fun i j => ⟨i, j⟩ | exact fun i j => ⟨j, rfl⟩ | exact fun i j => ⟨rfl, rfl⟩ | exact fun i => Store.load_sorted i _ | exact fun _ => keepMeasured_sorted _ _ _
    | apply hfun
    | intro _
    | split
    | dsimp -zeta only
    | with_reducible first | apply Keeps.nv | apply Keeps.nvmk | apply Keeps.mk')

theorem State.latchAtStart_keeps {a s : State} (h : Keeps a s) (n : Nat) : Keeps a (State.latchAtStart s n) := by
  unfold State.latchAtStart
  repeat' with_reducible first
    | exact h | apply State.wr_keeps | exact Keeps.refl _ | intro _ | exact le_refl _ | exact rfl | split

theorem State.hvacTake_keeps {a s : State} (h : Keeps a s)  : Keeps a (State.hvacTake s) := by
  unfold State.hvacTake
  repeat' with_reducible first
    | exact h | apply Keeps.ite | exact Keeps.refl _ | intro _ | exact le_refl _ | exact rfl | split | apply Keeps.mk'

theorem State.setPhase_keeps {a s : State} (h : Keeps a s) (k : Nat) : Keeps a (State.setPhase s k) := by
  unfold State.setPhase
  repeat' with_reducible first
    | exact h | apply State.wr_keeps | exact le_refl _ | exact rfl | apply Keeps.mk'

theorem State.trustRegs_keeps {a s : State} (h : Keeps a s)  : Keeps a (State.trustRegs s) := by
  unfold State.trustRegs
  repeat' with_reducible first
    | exact h | apply Keeps.ite | apply State.wrB_keeps | apply State.wr_keeps | exact Keeps.refl _ | intro _
    | exact le_refl _ | exact rfl | split

theorem State.coverAtStart_keeps {a s : State} (h : Keeps a s) (open_ : Bool) : Keeps a (State.coverAtStart s open_) := by
  unfold State.coverAtStart
  repeat' with_reducible first
    | exact h | apply Keeps.ite | apply State.wrB_keeps | apply State.stamp_keeps | apply State.bump_keeps | exact le_refl _
    | exact rfl | split | apply Keeps.mk'

theorem State.wakeRegs_keeps {a s : State} (h : Keeps a s)  : Keeps a (State.wakeRegs s) := by
  unfold State.wakeRegs
  repeat' with_reducible first
    | exact h | apply Keeps.ite | apply State.eachStr_keeps | apply State.wrB_keeps | exact Keeps.refl _ | intro _
    | exact le_refl _ | exact rfl | split

theorem State.finishStart_keeps {a s : State} (h : Keeps a s)  : Keeps a (State.finishStart s ) := by
  refine h.trans ?_
  unfold State.finishStart
  repeat' (first
    | (extract_lets +onlyGivenNames x; first | (refine cutTo x ?_ ?_ <;> [(intro hx; try clear_value x); subst x]) | (refine cutFun x ?_ ?_ <;> [(intro hfun; try clear_value x); (intro v; subst x)]) | (refine cutFun2 x ?_ ?_ <;> [(intro hfun; try clear_value x); (intro v y; subst x)]) | (refine cutFun3 x ?_ ?_ <;> [(intro hfun; try clear_value x); (intro v y; subst x)]) | (have := (x : Mbx); clear this; subst x) | (have := (x : Nonvol); clear this; subst x) | clear_value x | subst x)
    | with_reducible first | exact Keeps.refl _ | assumption
    | with_reducible first | apply State.chooseConfig_keeps | apply State.factoryRegs_keeps | apply State.wr_keeps | apply State.extendSlot_keeps | apply State.setPhase_keeps | apply State.imageRegs_keeps | apply State.wakeRegs_keeps | apply State.switchRegs_keeps | apply State.coverAtStart_keeps | apply State.applySwitches_keeps | apply State.applyMask_keeps | apply State.eachStr_keeps | apply State.setProfile_keeps | apply State.wrB_keeps | apply State.trustRegs_keeps | apply State.latchAtStart_keeps | apply State.loopOut_keeps | apply State.hvacTake_keeps | apply Keeps.foldl | apply Keeps.mapSess
    | with_reducible first | exact Nat.le_refl _ | exact Nat.le_succ _ | exact Nat.le_add_right _ _ | exact rfl | exact fun _ => rfl | exact fun _ => Nat.le_refl _ | exact id | exact fun i j => ⟨i, j⟩ | exact fun i j => ⟨j, rfl⟩ | exact fun i j => ⟨rfl, rfl⟩ | exact fun i => Store.load_sorted i _ | exact fun _ => keepMeasured_sorted _ _ _
    | apply hfun
    | intro _
    | split
    | dsimp -zeta only
    | refine Keeps.fst (by assumption) ?_
    | refine Keeps.snd (by assumption) ?_
    | with_reducible first | apply Keeps.nv | apply Keeps.nvmk | apply Keeps.objs | apply Keeps.mk')

theorem State.beginStart_keeps {a s : State} (h : Keeps a s) (cause : Nat) (detail : Nat) (open_ : Bool) : Keeps a (State.beginStart s cause detail open_) := by
  unfold State.beginStart
  repeat' with_reducible first
    | exact h | apply Keeps.ite | apply State.powerChange_keeps | apply State.wr_keeps | apply State.wrB_keeps
    | apply State.eachStr_keeps | apply State.extendSlot_keeps | apply State.loopOut_keeps | apply State.setPhase_keeps
    | apply State.finishStart_keeps | exact Keeps.refl _ | intro _ | exact le_refl _ | exact rfl | split | apply Keeps.mk'

theorem State.tellClosing_keeps {a s : State} (h : Keeps a s) (reason : Nat) : Keeps a (State.tellClosing s reason) := by
  unfold State.tellClosing
  repeat' with_reducible first
    | exact h | apply State.unsolicited_keeps | apply State.send_keeps | apply Keeps.foldl | exact Keeps.refl _ | intro _
    | exact le_refl _ | exact rfl

theorem State.restart_keeps {a s : State} (h : Keeps a s) (cause : Nat) (detail : Nat) : Keeps a (State.restart s cause detail) := by
  refine h.trans ?_
  unfold State.restart
  repeat' (first
    | (extract_lets +onlyGivenNames x; first | (refine cutTo x ?_ ?_ <;> [(intro hx; try clear_value x); subst x]) | (refine cutFun x ?_ ?_ <;> [(intro hfun; try clear_value x); (intro v; subst x)]) | (refine cutFun2 x ?_ ?_ <;> [(intro hfun; try clear_value x); (intro v y; subst x)]) | (refine cutFun3 x ?_ ?_ <;> [(intro hfun; try clear_value x); (intro v y; subst x)]) | (have := (x : Mbx); clear this; subst x) | (have := (x : Nonvol); clear this; subst x) | clear_value x | subst x)
    | with_reducible first | exact Keeps.refl _ | assumption
    | with_reducible first | apply State.openAll_keeps | apply State.tellClosing_keeps | apply State.settleJournal_keeps | apply State.cutSlot_keeps | apply State.clearRun_keeps | apply State.beginStart_keeps | apply Keeps.foldl | apply Keeps.mapSess
    | with_reducible first | exact Nat.le_refl _ | exact Nat.le_succ _ | exact Nat.le_add_right _ _ | exact rfl | exact fun _ => rfl | exact fun _ => Nat.le_refl _ | exact id | exact fun i j => ⟨i, j⟩ | exact fun i j => ⟨j, rfl⟩ | exact fun i j => ⟨rfl, rfl⟩ | exact fun i => Store.load_sorted i _ | exact fun _ => keepMeasured_sorted _ _ _
    | apply hfun
    | intro _
    | split
    | dsimp -zeta only
    | refine Keeps.fst (by assumption) ?_
    | refine Keeps.snd (by assumption) ?_
    | with_reducible first | apply Keeps.nv | apply Keeps.nvmk | apply Keeps.objs | apply Keeps.mk')

theorem State.powerUp_keeps {a s : State} (h : Keeps a s) (normal : Bool) (cause : Nat) (detail : Nat) (sw : List Nat) (cover : Bool) (jumper : Bool) (button : Bool) (hot : List (Nat × Nat)) : Keeps a (State.powerUp s normal cause detail sw cover jumper button hot) := by
  refine h.trans ?_
  unfold State.powerUp
  repeat' (first
    | (extract_lets +onlyGivenNames x; first | (refine cutTo x ?_ ?_ <;> [(intro hx; try clear_value x); subst x]) | (refine cutFun x ?_ ?_ <;> [(intro hfun; try clear_value x); (intro v; subst x)]) | (refine cutFun2 x ?_ ?_ <;> [(intro hfun; try clear_value x); (intro v y; subst x)]) | (refine cutFun3 x ?_ ?_ <;> [(intro hfun; try clear_value x); (intro v y; subst x)]) | (have := (x : Mbx); clear this; subst x) | (have := (x : Nonvol); clear this; subst x) | clear_value x | subst x)
    | with_reducible first | exact Keeps.refl _ | assumption
    | with_reducible first | apply State.clearRun_keeps | apply State.wr_keeps | apply State.wrB_keeps | apply State.sourceRegs_keeps | apply State.beginStart_keeps | apply State.loopOut_keeps | apply Keeps.foldl | apply Keeps.mapSess
    | with_reducible first | exact Nat.le_refl _ | exact Nat.le_succ _ | exact Nat.le_add_right _ _ | exact rfl | exact fun _ => rfl | exact fun _ => Nat.le_refl _ | exact id | exact fun i j => ⟨i, j⟩ | exact fun i j => ⟨j, rfl⟩ | exact fun i j => ⟨rfl, rfl⟩ | exact fun i => Store.load_sorted i _ | exact fun _ => keepMeasured_sorted _ _ _
    | apply hfun
    | intro _
    | split
    | dsimp -zeta only
    | refine Keeps.fst (by assumption) ?_
    | refine Keeps.snd (by assumption) ?_
    | with_reducible first | apply Keeps.nv | apply Keeps.nvmk | apply Keeps.objs | apply Keeps.mk')

theorem execStartFromOff_keeps (t : Nat) (profile : Nat) (block : Nat) (mask : Nat) (addr : Nat) (cover : Bool) (jumper : Bool) (seen : StartSeen) (s : State) : ∃ u, execStartFromOff t profile block mask addr cover jumper seen s = .next u ∧ Keeps s u := by
  refine ⟨_, rfl, ?_⟩
  repeat' with_reducible first
    | exact Keeps.refl _ | apply Keeps.ite | apply State.at_keeps | apply State.powerUp_keeps | intro _ | exact le_refl _
    | exact rfl | split | apply Keeps.mk'

theorem execJournalReplayed_keeps (t : Nat) (s : State) : ∃ u, execJournalReplayed t s = .next u ∧ Keeps s u := by
  refine ⟨_, rfl, ?_⟩
  repeat' with_reducible first
    | exact Keeps.refl _ | apply Keeps.ite | apply State.at_keeps | apply State.wrB_keeps | apply State.finishStart_keeps
    | exact le_refl _ | exact rfl | split | apply Keeps.nv | exact id | exact fun i j => ⟨i, j⟩ | apply Keeps.mk'

end Sys2Proof.Machine
end

