-- ==== Sys2Proof/Laws/Keeps/Arch.lean ====
section
/-! SUPPORT. What every command respects (`Keeps`), for the operations of Machine/Arch.lean. -/

set_option linter.all false

namespace Sys2Proof.Machine
open Obj

theorem State.modDie_keeps {a s : State} (h : Keeps a s) (d : Nat) (f : Die → Die) : Keeps a (State.modDie s d f) :=
  h.lists rfl rfl rfl rfl rfl rfl rfl rfl (setNth_length _ _ _) rfl rfl rfl rfl rfl

theorem State.sprintRefresh_keeps {a s : State} (h : Keeps a s) (n : Nat) (hold : Bool) : Keeps a (State.sprintRefresh s n hold) := by
  unfold State.sprintRefresh
  repeat' with_reducible first
    | exact h | apply Keeps.ite | apply State.wrB_keeps | split

theorem State.sprintCheck_keeps {a s : State} (h : Keeps a s)  : Keeps a (State.sprintCheck s) := by
  unfold State.sprintCheck
  repeat' with_reducible first
    | exact h | apply Keeps.ite | apply State.wrB_keeps | apply State.powerDerive_keeps | exact Keeps.refl _ | intro _
    | exact le_refl _ | exact rfl | split

theorem State.stopLaps_keeps {a s : State} (h : Keeps a s) (n : Nat) : Keeps a (State.stopLaps s n) := by
  unfold State.stopLaps
  repeat' with_reducible first
    | exact h | apply Keeps.ite | apply State.modLaps_keeps | apply State.wr_keeps | apply State.sprintCheck_keeps
    | apply State.restoreCheck_keeps | exact Keeps.refl _ | intro _ | exact le_refl _ | exact rfl | split

theorem execRefclkFail_keeps (t : Nat) (s : State) : ∃ u, execRefclkFail t s = .next u ∧ Keeps s u := by
  refine ⟨_, rfl, ?_⟩
  repeat' with_reducible first
    | exact Keeps.refl _ | apply Keeps.ite | apply State.at_keeps | apply State.openAll_keeps | apply State.eachStr_keeps
    | apply State.wrB_keeps | apply State.stopLaps_keeps | intro _ | exact le_refl _ | exact rfl | split

theorem State.stall_keeps {a s : State} (h : Keeps a s) (d : Nat) : Keeps a (State.stall s d) := by
  unfold State.stall
  repeat' with_reducible first
    | exact h | apply Keeps.ite | apply State.modDie_keeps | apply State.wrB_keeps | apply State.stopLaps_keeps
    | exact Keeps.refl _ | intro _ | exact le_refl _ | exact rfl | split | apply Keeps.mk'

theorem State.paceLow_keeps {a s : State} (h : Keeps a s) (d : Nat) (eff : Nat) : Keeps a (State.paceLow s d eff) := by
  unfold State.paceLow
  repeat' with_reducible first
    | exact h | apply Keeps.ite | apply State.modDie_keeps | apply State.wrB_keeps | exact Keeps.refl _ | intro _
    | exact le_refl _ | exact rfl | split | apply Keeps.mk'

theorem State.setShift_keeps {a s : State} (h : Keeps a s) (n : Nat) (k : Nat) (eff : Nat) : Keeps a (State.setShift s n k eff) := by
  unfold State.setShift
  repeat' with_reducible first
    | exact h | apply Keeps.ite | apply State.wr_keeps | apply State.bump_keeps | apply State.record_keeps | split

theorem State.paceRate_keeps {a s : State} (h : Keeps a s) (n : Nat) (eff : Nat) : Keeps a (State.paceRate s n eff) := by
  unfold State.paceRate
  repeat' with_reducible first
    | exact h | apply Keeps.ite | apply State.setShift_keeps | apply State.modDie_keeps | exact Keeps.refl _ | intro _
    | exact le_refl _ | exact rfl | split | apply Keeps.mk'

theorem State.shedMore_keeps {a s : State} (h : Keeps a s) (was : Bool) (eff : Nat) : Keeps a (State.shedMore s was eff) := by
  unfold State.shedMore
  repeat' with_reducible first
    | exact h | apply Keeps.ite | apply State.modDie_keeps | exact Keeps.refl _ | intro _ | exact le_refl _ | exact rfl
    | split

theorem execPaceMeasurement_keeps (t : Nat) (die : Nat) (pace : Nat) (s : State) : ∃ u, execPaceMeasurement t die pace s = .next u ∧ Keeps s u := by
  refine ⟨_, rfl, ?_⟩
  repeat' with_reducible first
    | exact Keeps.refl _ | apply Keeps.ite | apply State.at_keeps | apply State.wr_keeps | apply State.modDie_keeps
    | apply State.stall_keeps | apply State.settleOwed_keeps | apply State.paceLow_keeps | apply State.shedMore_keeps
    | apply State.compressCheck_keeps | apply State.roleCheck_keeps | apply State.paceRate_keeps | intro _ | exact le_refl _
    | exact rfl | split

theorem execDieStalled_keeps (t : Nat) (die : Nat) (pace : Option Nat) (s : State) : ∃ u, execDieStalled t die pace s = .next u ∧ Keeps s u := by
  refine ⟨_, rfl, ?_⟩
  repeat' with_reducible first
    | exact Keeps.refl _ | apply Keeps.ite | apply State.at_keeps | apply State.stall_keeps | split

theorem execManagerHeartbeatMissing_keeps (t : Nat) (str : Nat) (last : Nat) (s : State) : ∃ u, execManagerHeartbeatMissing t str last s = .next u ∧ Keeps s u := by
  refine ⟨_, rfl, ?_⟩
  repeat' with_reducible first
    | exact Keeps.refl _ | apply Keeps.ite | apply State.at_keeps | apply State.openNow_keeps | apply State.stopLaps_keeps
    | split

theorem execDramCorrectedError_keeps (t : Nat) (s : State) : ∃ u, execDramCorrectedError t s = .next u ∧ Keeps s u := by
  refine ⟨_, rfl, ?_⟩
  repeat' with_reducible first
    | exact Keeps.refl _ | apply Keeps.ite | apply State.at_keeps | apply State.bump_keeps | split

theorem execScrubPass_keeps (t : Nat) (s : State) : ∃ u, execScrubPass t s = .next u ∧ Keeps s u := by
  refine ⟨_, rfl, ?_⟩
  repeat' with_reducible first
    | exact Keeps.refl _ | apply Keeps.ite | apply State.at_keeps | apply State.bump_keeps | split

theorem execSpareSelfTest_keeps (t : Nat) (die : Nat) (failed : Bool) (s : State) : ∃ u, execSpareSelfTest t die failed s = .next u ∧ Keeps s u := by
  refine ⟨_, rfl, ?_⟩
  repeat' with_reducible first
    | exact Keeps.refl _ | apply Keeps.ite | apply State.at_keeps | apply State.wrB_keeps | exact le_refl _ | exact rfl
    | split | apply Keeps.mk'

theorem execWatchdogRestart_keeps (t : Nat) (die : Nat) (s : State) : ∃ u, execWatchdogRestart t die s = .next u ∧ Keeps s u := by
  refine ⟨_, rfl, ?_⟩
  repeat' with_reducible first
    | exact Keeps.refl _ | apply Keeps.ite | apply State.at_keeps | apply State.restart_keeps | split

end Sys2Proof.Machine
end

