-- ==== Sys2Proof/Laws/Keeps/Hardware.lean ====
section
/-! SUPPORT. What every command respects (`Keeps`), for the operations of Machine/Hardware.lean. -/

set_option linter.all false

namespace Sys2Proof.Machine
open Obj

theorem execCoilSupplyThreshold_keeps (t : Nat) (mv : Nat) (s : State) : ∃ u, execCoilSupplyThreshold t mv s = .next u ∧ Keeps s u := by
  refine ⟨_, rfl, ?_⟩
  repeat' with_reducible first
    | exact Keeps.refl _ | apply Keeps.ite | apply State.at_keeps | apply State.refreshAll_keeps | apply State.wrB_keeps
    | apply State.wr_keeps | split

theorem execConnOpenChanged_keeps (t : Nat) (str : Nat) (isOpen : Bool) (s : State) : ∃ u, execConnOpenChanged t str isOpen s = .next u ∧ Keeps s u := by
  refine ⟨_, rfl, ?_⟩
  repeat' with_reducible first
    | exact Keeps.refl _ | apply Keeps.ite | apply State.at_keeps | apply State.bump_keeps | apply State.wrB_keeps
    | apply State.record_keeps | apply State.refresh_keeps | split

theorem execSealOpen_keeps (t : Nat) (s : State) : ∃ u, execSealOpen t s = .next u ∧ Keeps s u := by
  refine ⟨_, rfl, ?_⟩
  repeat' with_reducible first
    | exact Keeps.refl _ | apply Keeps.ite | apply State.at_keeps | apply State.coverAtStart_keeps
    | apply State.attention_keeps | intro _ | exact le_refl _ | exact rfl | split | apply Keeps.mk'

theorem execCoverClosed_keeps (t : Nat) (s : State) : ∃ u, execCoverClosed t s = .next u ∧ Keeps s u := by
  refine ⟨_, rfl, ?_⟩
  repeat' with_reducible first
    | exact Keeps.refl _ | apply Keeps.ite | apply State.at_keeps | apply State.wrB_keeps | intro _ | exact le_refl _
    | exact rfl | split | apply Keeps.mk'

theorem execPresenceButtonPress_keeps (t : Nat) (held : Nat) (s : State) : ∃ u, execPresenceButtonPress t held s = .next u ∧ Keeps s u := by
  refine ⟨_, rfl, ?_⟩
  repeat' with_reducible first
    | exact Keeps.refl _ | apply Keeps.ite | apply State.at_keeps | exact le_refl _ | exact rfl | split | apply Keeps.mk'

theorem execDisplayBlank_keeps (t : Nat) (s : State) : ∃ u, execDisplayBlank t s = .next u ∧ Keeps s u := by
  refine ⟨_, rfl, ?_⟩
  repeat' with_reducible first
    | exact Keeps.refl _ | apply Keeps.ite | apply State.at_keeps | exact le_refl _ | exact rfl | split | apply Keeps.mk'

theorem State.presenceEvent_keeps {a s : State} (h : Keeps a s) (source : Nat) : Keeps a (State.presenceEvent s source) := by
  unfold State.presenceEvent
  repeat' with_reducible first
    | exact h | apply Keeps.ite | apply State.wr_keeps | apply State.wrB_keeps | apply State.stamp_keeps
    | apply State.bump_keeps | apply State.record_keeps | exact le_refl _ | exact rfl | split | apply Keeps.mk'

theorem State.stuckAtStart_keeps {a s : State} (h : Keeps a s) (since : Nat) : Keeps a (State.stuckAtStart s since) := by
  unfold State.stuckAtStart
  repeat' with_reducible first
    | exact h | apply Keeps.ite | apply State.wrB_keeps | exact Keeps.refl _ | intro _ | exact le_refl _ | exact rfl | split
    | apply Keeps.mk'

theorem execPresenceEvent_keeps (t : Nat) (since : Nat) (s : State) : ∃ u, execPresenceEvent t since s = .next u ∧ Keeps s u := by
  refine ⟨_, rfl, ?_⟩
  repeat' with_reducible first
    | exact Keeps.refl _ | apply Keeps.ite | apply State.at_keeps | apply State.stuckAtStart_keeps
    | apply State.presenceEvent_keeps | intro _ | exact le_refl _ | exact rfl | split | apply Keeps.mk'

theorem execPresenceStuck_keeps (t : Nat) (since : Nat) (s : State) : ∃ u, execPresenceStuck t since s = .next u ∧ Keeps s u := by
  refine ⟨_, rfl, ?_⟩
  repeat' with_reducible first
    | exact Keeps.refl _ | apply Keeps.ite | apply State.at_keeps | apply State.stuckAtStart_keeps | apply State.wrB_keeps
    | intro _ | exact le_refl _ | exact rfl | split

theorem execPresenceButtonReleased_keeps (t : Nat) (held : Nat) (s : State) : ∃ u, execPresenceButtonReleased t held s = .next u ∧ Keeps s u := by
  refine ⟨_, rfl, ?_⟩
  repeat' with_reducible first
    | exact Keeps.refl _ | apply State.at_keeps | apply State.wrB_keeps | exact le_refl _ | exact rfl | split
    | apply Keeps.mk'

theorem execJSvcFitted_keeps (t : Nat) (since : Nat) (s : State) : ∃ u, execJSvcFitted t since s = .next u ∧ Keeps s u := by
  refine ⟨_, rfl, ?_⟩
  repeat' with_reducible first
    | exact Keeps.refl _ | apply Keeps.ite | apply State.at_keeps | apply State.wrB_keeps | apply State.presenceEvent_keeps
    | split

theorem execJSvcRemoved_keeps (t : Nat) (s : State) : ∃ u, execJSvcRemoved t s = .next u ∧ Keeps s u := by
  refine ⟨_, rfl, ?_⟩
  repeat' with_reducible first
    | exact Keeps.refl _ | apply Keeps.ite | apply State.at_keeps | apply State.wrB_keeps | split

theorem State.endToken_keeps {a s : State} (h : Keeps a s)  : Keeps a (State.endToken s) := by
  unfold State.endToken
  repeat' with_reducible first
    | exact h | apply Keeps.ite | apply State.bump_keeps | apply State.wrB_keeps | apply State.wr_keeps | exact le_refl _
    | exact rfl | split | apply Keeps.mk'

theorem execTokenExpired_keeps (t : Nat) (s : State) : ∃ u, execTokenExpired t s = .next u ∧ Keeps s u := by
  refine ⟨_, rfl, ?_⟩
  repeat' with_reducible first
    | exact Keeps.refl _ | apply Keeps.ite | apply State.at_keeps | apply State.endToken_keeps | split

end Sys2Proof.Machine
end

