-- ==== Sys2Proof/Laws/Keeps/RingOps.lean ====
section
/-! SUPPORT. What every command respects (`Keeps`), for the operations of Machine/RingOps.lean. -/

set_option linter.all false

namespace Sys2Proof.Machine
open Obj

theorem State.modNode_keeps {a s : State} (h : Keeps a s) (n : Nat) (k : Nat) (f : RNode → RNode) : Keeps a (State.modNode s n k f) := by
  unfold State.modNode
  repeat' with_reducible first
    | exact h | apply State.modRing_keeps | exact Keeps.refl _ | intro _ | exact le_refl _ | exact rfl | apply Keeps.mk'

theorem State.modLap_keeps {a s : State} (h : Keeps a s) (n : Nat) (seq : Nat) (f : Lap → Lap) : Keeps a (State.modLap s n seq f) := by
  unfold State.modLap
  repeat' with_reducible first
    | exact h | apply Keeps.ite | apply State.modLaps_keeps | exact Keeps.refl _ | intro _ | exact le_refl _ | exact rfl
    | split | apply Keeps.mk'

theorem State.launch_keeps {a s : State} (h : Keeps a s) (n : Nat) (dep : Nat) (w : Wait) : Keeps a (State.launch s n dep w) := by
  unfold State.launch
  repeat' with_reducible first
    | exact h | apply Keeps.ite | apply State.modRing_keeps | apply State.send_keeps | exact Keeps.refl _ | intro _
    | exact le_refl _ | exact rfl | split

theorem State.drainPort_keeps {a s : State} (h : Keeps a s) (n port : Nat) : Keeps a (State.drainPort s n port) := by
  have key : ∀ (fuel : Nat) (v : State), Keeps a v → Keeps a (State.drainPort.go n port fuel v) := by
    intro fuel
    induction fuel with
    | zero => intro v h; exact h
    | succ k ih =>
      intro v h
      unfold State.drainPort.go
      split
      · exact h
      · exact Keeps.ite (ih _ (State.launch_keeps (State.modRing_keeps h ..) ..)) h
  exact key _ _ h

theorem State.drain_keeps {a s : State} (h : Keeps a s) (n : Nat) : Keeps a (State.drain s n) := by
  unfold State.drain
  repeat' with_reducible first
    | exact h | apply Keeps.ite | apply State.drainPort_keeps | exact Keeps.refl _ | intro _ | exact le_refl _ | exact rfl
    | split

theorem State.sendBaton_keeps {a s : State} (h : Keeps a s) (n : Nat) (port : Nat) (kind : Nat) (node : Nat) (seq : Nat) (bytes : Bytes) (grow : Nat) (closed : Bool) (last : optParam Nat node) : Keeps a (State.sendBaton s n port kind node seq bytes grow closed last) := by
  unfold State.sendBaton
  repeat' with_reducible first
    | exact h | apply Keeps.ite | apply State.modRing_keeps | apply State.drain_keeps | exact Keeps.refl _ | intro _
    | exact le_refl _ | exact rfl | split

theorem State.sendCmd_keeps {a s : State} (h : Keeps a s) (n : Nat) (c : NodeCmd) : Keeps a (State.sendCmd s n c) := by
  unfold State.sendCmd
  repeat' with_reducible first
    | exact h | apply State.sendBaton_keeps | split

theorem State.pump_keeps {a s : State} (h : Keeps a s) (n : Nat) : Keeps a (State.pump s n) := by
  have hg : ∀ (fuel : Nat) {a s : State}, Keeps a s → Keeps a (State.pump.go n fuel s) := by
    intro fuel
    induction fuel with
    | zero => intro a s h; exact h
    | succ m ih =>
      intro a s h
      unfold State.pump.go
      split
      · exact h
      · exact ih (State.sendCmd_keeps (State.modRing_keeps h ..) ..)
  unfold State.pump
  split
  · exact h
  · exact hg _ h

theorem State.queueCmd_keeps {a s : State} (h : Keeps a s) (n : Nat) (node : Nat) (code : Nat) (args : Bytes) (owner : Owner) : Keeps a (State.queueCmd s n node code args owner) := by
  unfold State.queueCmd
  repeat' with_reducible first
    | exact h | apply Keeps.ite | apply State.pump_keeps | apply State.modRing_keeps | exact Keeps.refl _ | intro _
    | exact le_refl _ | exact rfl | split | apply Keeps.mk'

theorem State.sendFetch_keeps {a s : State} (h : Keeps a s) (n : Nat) (node : Nat) : Keeps a (State.sendFetch s n node) := by
  unfold State.sendFetch
  repeat' with_reducible first
    | exact h | apply Keeps.ite | apply State.sendBaton_keeps | exact Keeps.refl _ | intro _ | exact le_refl _ | exact rfl
    | split

theorem State.sendProbe_keeps {a s : State} (h : Keeps a s) (n : Nat) (port : Nat) (node : Nat) : Keeps a (State.sendProbe s n port node) := by
  unfold State.sendProbe
  repeat' with_reducible first
    | exact h | apply State.sendBaton_keeps

theorem State.sendEnumerate_keeps {a s : State} (h : Keeps a s) (n : Nat) (port : Nat) (full : Bool) : Keeps a (State.sendEnumerate s n port full) := by
  unfold State.sendEnumerate
  repeat' with_reducible first
    | exact h | apply Keeps.ite | apply State.sendBaton_keeps | exact Keeps.refl _ | intro _ | exact le_refl _ | exact rfl
    | split

theorem State.enumerateInSlot_keeps {a s : State} (h : Keeps a s) (n : Nat) (port : Nat) : Keeps a (State.enumerateInSlot s n port) := by
  unfold State.enumerateInSlot
  repeat' with_reducible first
    | exact h | apply Keeps.ite | apply State.launch_keeps | exact Keeps.refl _ | intro _ | exact le_refl _ | exact rfl
    | split

theorem State.setSeqFault_keeps {a s : State} (h : Keeps a s) (n : Nat) (k : Nat) : Keeps a (State.setSeqFault s n k) := by
  unfold State.setSeqFault
  repeat' with_reducible first
    | exact h | apply State.wrB_keeps | apply State.setDiag_keeps | apply State.bump_keeps

theorem State.nodeDiags_keeps {a s : State} (h : Keeps a s) (n : Nat) : Keeps a (State.nodeDiags s n) := by
  unfold State.nodeDiags
  repeat' with_reducible first
    | exact h | apply State.setDiag_keeps

theorem State.recordOpen_keeps {a s : State} (h : Keeps a s) (subject : Nat) (str : Nat) (node : Nat) : Keeps a (State.recordOpen s subject str node) := by
  unfold State.recordOpen
  repeat' with_reducible first
    | exact h | apply State.fresh_keeps | apply State.record_keeps | exact le_refl _ | exact rfl | split
    | refine Keeps.snd (by assumption) ?_ | apply Keeps.mk'

theorem State.lapsReached_keeps {a s : State} (h : Keeps a s) (o : State) (n : Nat) : Keeps a (State.lapsReached s o n) := by
  unfold State.lapsReached
  repeat' with_reducible first
    | exact h | apply Keeps.ite | apply State.modLaps_keeps | exact Keeps.refl _ | intro _ | exact le_refl _ | exact rfl
    | split

theorem State.setSegments_keeps {a s : State} (h : Keeps a s) (n : Nat) (st : Nat) (a_ : Nat) (b : Nat) (cause : Nat) (node : Nat) : Keeps a (State.setSegments s n st a_ b cause node) := by
  unfold State.setSegments
  repeat' with_reducible first
    | exact h | apply Keeps.ite | apply State.wr_keeps | apply State.lapsReached_keeps | apply State.wrB_keeps
    | apply State.modRing_keeps | apply State.bump_keeps | apply State.stamp_keeps | apply State.record_keeps
    | apply Keeps.foldl | exact Keeps.refl _ | intro _ | exact le_refl _ | exact rfl | split

theorem State.portBreak_keeps {a s : State} (h : Keeps a s) (n : Nat) (port : Nat) : Keeps a (State.portBreak s n port) := by
  unfold State.portBreak
  repeat' with_reducible first
    | exact h | apply Keeps.ite | apply State.setSegments_keeps | exact le_refl _ | exact rfl | split | apply Keeps.mk'

theorem State.turnBreak_keeps {a s : State} (h : Keeps a s) (n : Nat) (node : Nat) (side : Nat) : Keeps a (State.turnBreak s n node side) := by
  unfold State.turnBreak
  repeat' with_reducible first
    | exact h | apply Keeps.ite | apply State.setSegments_keeps | split

theorem State.linkBreak_keeps {a s : State} (h : Keeps a s) (n : Nat) (node : Nat) (aDown : Bool) (bDown : Bool) : Keeps a (State.linkBreak s n node aDown bDown) := by
  unfold State.linkBreak
  repeat' with_reducible first
    | exact h | apply Keeps.ite | apply State.turnBreak_keeps | exact Keeps.refl _ | intro _ | exact le_refl _ | exact rfl
    | split

theorem State.missingBreak_keeps {a s : State} (h : Keeps a s) (n : Nat) : Keeps a (State.missingBreak s n) := by
  unfold State.missingBreak
  repeat' with_reducible first
    | exact h | apply State.setSegments_keeps

theorem State.jointCheck_keeps {a s : State} (h : Keeps a s) (n : Nat) : Keeps a (State.jointCheck s n) := by
  unfold State.jointCheck
  repeat' with_reducible first
    | exact h | apply Keeps.ite | apply State.modRing_keeps | apply State.wrB_keeps | exact Keeps.refl _ | intro _
    | exact le_refl _ | exact rfl | split | apply Keeps.mk'

theorem State.startEnum_keeps {a s : State} (h : Keeps a s) (n : Nat) (a_ : Bool) (b : Bool) : Keeps a (State.startEnum s n a_ b) := by
  unfold State.startEnum
  repeat' with_reducible first
    | exact h | apply Keeps.ite | apply State.modRing_keeps | apply State.wrB_keeps | apply State.bump_keeps
    | apply State.sendEnumerate_keeps | exact Keeps.refl _ | intro _ | exact le_refl _ | exact rfl | split

theorem State.epochJob_keeps {a s : State} (h : Keeps a s) (n : Nat) : Keeps a (State.epochJob s n) := by
  unfold State.epochJob
  repeat' with_reducible first
    | exact h | apply Keeps.ite | apply State.modRing_keeps | apply State.wrB_keeps | exact Keeps.refl _ | intro _
    | exact le_refl _ | exact rfl | split

theorem State.modJob_keeps {a s : State} (h : Keeps a s) (n : Nat) (f : Job → Job) : Keeps a (State.modJob s n f) := by
  unfold State.modJob
  repeat' with_reducible first
    | exact h | apply State.modRing_keeps | exact Keeps.refl _ | intro _ | exact le_refl _ | exact rfl | apply Keeps.mk'

theorem State.sendAssign_keeps {a s : State} (h : Keeps a s) (n : Nat) (j : Job) (i : Nat) : Keeps a (State.sendAssign s n j i) := by
  unfold State.sendAssign
  repeat' with_reducible first
    | exact h | apply Keeps.ite | apply State.modJob_keeps | apply State.sendBaton_keeps | exact Keeps.refl _ | intro _
    | exact le_refl _ | exact rfl | split

theorem State.resumeJobs_keeps {a s : State} (h : Keeps a s) (n : Nat) : Keeps a (State.resumeJobs s n) := by
  unfold State.resumeJobs
  repeat' with_reducible first
    | exact h | apply Keeps.ite | apply State.epochJob_keeps | apply State.modRing_keeps | apply State.sendAssign_keeps
    | exact Keeps.refl _ | intro _ | exact le_refl _ | exact rfl | split | dsimp only

theorem State.reassign_keeps {a s : State} (h : Keeps a s) (n : Nat) (nodes : List Nat) : Keeps a (State.reassign s n nodes) := by
  unfold State.reassign
  repeat' with_reducible first
    | exact h | apply Keeps.ite | apply State.modRing_keeps | apply State.resumeJobs_keeps | exact Keeps.refl _ | intro _
    | exact le_refl _ | exact rfl | split

theorem State.renumber_keeps {a s : State} (h : Keeps a s) (n : Nat) : Keeps a (State.renumber s n) := by
  unfold State.renumber
  repeat' with_reducible first
    | exact h | apply Keeps.ite | apply State.modRing_keeps | apply State.resumeJobs_keeps | exact Keeps.refl _ | intro _
    | exact le_refl _ | exact rfl | split

theorem State.decideEnum_keeps {a s : State} (h : Keeps a s) (n : Nat) (j : Job) : Keeps a (State.decideEnum s n j) := by
  unfold State.decideEnum
  repeat' with_reducible first
    | exact h | apply Keeps.ite | apply State.modRing_keeps | apply State.wrB_keeps | apply State.modNode_keeps
    | apply State.resumeJobs_keeps | apply Keeps.foldl | exact Keeps.refl _ | intro _ | exact le_refl _ | exact rfl | split

theorem State.jobProbe_keeps {a s : State} (h : Keeps a s) (n : Nat) (j : Job) : Keeps a (State.jobProbe s n j) := by
  unfold State.jobProbe
  repeat' with_reducible first
    | exact h | apply State.sendProbe_keeps | split

theorem State.assigned_keeps {a s : State} (h : Keeps a s) (n : Nat) (j : Job) : Keeps a (State.assigned s n j) := by
  unfold State.assigned
  repeat' with_reducible first
    | exact h | apply Keeps.ite | apply State.modRing_keeps | apply State.resumeJobs_keeps | apply State.pump_keeps
    | apply State.modJob_keeps | exact Keeps.refl _ | intro _ | exact le_refl _ | exact rfl | split

theorem State.nextAssign_keeps {a s : State} (h : Keeps a s) (n : Nat) : Keeps a (State.nextAssign s n) := by
  unfold State.nextAssign
  repeat' with_reducible first
    | exact h | apply State.assigned_keeps | apply State.sendAssign_keeps | split

theorem State.beginAssign_keeps {a s : State} (h : Keeps a s) (n : Nat) : Keeps a (State.beginAssign s n) := by
  unfold State.beginAssign
  repeat' with_reducible first
    | exact h | apply Keeps.ite | apply State.modJob_keeps | apply State.nextAssign_keeps | exact Keeps.refl _ | intro _
    | exact le_refl _ | exact rfl | split

end Sys2Proof.Machine
end

