-- ==== Sys2Proof/Laws/Keeps/LapOps.lean ====
section
/-! SUPPORT. What every command respects (`Keeps`), for the operations of Machine/LapOps.lean. -/

set_option linter.all false

namespace Sys2Proof.Machine
open Obj

theorem State.sendSample_keeps {a s : State} (h : Keeps a s) (n : Nat) (port : Nat) (dep : Nat) (x : Lap) (lead : Nat) (late : Bool) (closed : Bool) : Keeps a (State.sendSample s n port dep x lead late closed) := by
  unfold State.sendSample
  repeat' with_reducible first
    | exact h | apply Keeps.ite | apply State.launch_keeps | exact Keeps.refl _ | intro _ | exact le_refl _ | exact rfl
    | split

theorem State.nameInstant_keeps {a s : State} (h : Keeps a s) (n : Nat) (seq : Nat) (late : Bool) (at_ : Nat) (plain : Nat) : Keeps a (State.nameInstant s n seq late at_ plain) := by
  unfold State.nameInstant
  repeat' with_reducible first
    | exact h | apply Keeps.ite | apply State.modStr_keeps | apply State.send_keeps | exact Keeps.refl _ | intro _
    | exact le_refl _ | exact rfl | split

theorem State.underOld_keeps {a s : State} (h : Keeps a s) (n seq : Nat) (f : State → State) (hf : ∀ v, Keeps v (f v)) :
    Keeps a (s.underOld n seq f) := by
  unfold State.underOld
  dsimp only
  split
  · exact h.trans (hf s)
  · exact ((State.putCells_keeps h _).trans (hf _)).objs _ fun o => Store.sets_sorted o _ _

theorem State.lateSample_keeps {a s : State} (h : Keeps a s) (n : Nat) (damaged : Bool) : Keeps a (State.lateSample s n damaged) := by
  unfold State.lateSample
  repeat' with_reducible first
    | exact h | apply Keeps.ite | apply State.bump_keeps | apply State.modLap_keeps | apply State.sendSample_keeps
    | apply State.nameInstant_keeps | exact Keeps.refl _ | intro _ | exact le_refl _ | exact rfl | split

theorem State.sendCollect_keeps {a s : State} (h : Keeps a s) (n : Nat) (port : Nat) (x : Lap) (ks : List Nat) : Keeps a (State.sendCollect s n port x ks) := by
  unfold State.sendCollect
  repeat' with_reducible first
    | exact h | apply Keeps.ite | apply State.sendBaton_keeps | exact Keeps.refl _ | intro _ | exact le_refl _ | exact rfl
    | split

theorem State.retryCollect_keeps {a s : State} (h : Keeps a s) (n : Nat) (seq : Nat) (a_ : Nat) (b : Nat) : Keeps a (State.retryCollect s n seq a_ b) := by
  unfold State.retryCollect
  repeat' with_reducible first
    | exact h | apply Keeps.ite | apply State.sendCollect_keeps | apply State.bump_keeps | apply State.modLap_keeps
    | exact Keeps.refl _ | intro _ | exact le_refl _ | exact rfl | split

theorem State.recFlags_keeps {a s : State} (h : Keeps a s) (n : Nat) (k : Nat) (d : Bytes) : Keeps a (State.recFlags s n k d) := by
  unfold State.recFlags
  repeat' with_reducible first
    | exact h | apply State.wrB_keeps | apply State.modNode_keeps | exact Keeps.refl _ | intro _ | exact le_refl _ | exact rfl
    | apply Keeps.mk'

theorem State.recCounter_keeps {a s : State} (h : Keeps a s) (n : Nat) (k : Nat) (d : Bytes) : Keeps a (State.recCounter s n k d) := by
  unfold State.recCounter
  repeat' with_reducible first
    | exact h | apply Keeps.ite | apply State.setSeqFault_keeps | apply State.wr_keeps | exact Keeps.refl _ | intro _
    | exact le_refl _ | exact rfl | split

theorem State.takeRecord_keeps {a s : State} (h : Keeps a s) (n : Nat) (seq : Nat) (k : Nat) (d : Bytes) : Keeps a (State.takeRecord s n seq k d) := by
  unfold State.takeRecord
  repeat' with_reducible first
    | exact h | apply Keeps.ite | apply State.bump_keeps | apply State.reassign_keeps | apply State.modLap_keeps
    | apply State.recCounter_keeps | apply State.recFlags_keeps | apply State.nodeDiags_keeps | apply State.classifyTrip_keeps
    | apply State.linkBreak_keeps | apply State.jointCheck_keeps | exact Keeps.refl _ | intro _ | exact le_refl _ | exact rfl
    | split

theorem State.blankAll_keeps {a s : State} (h : Keeps a s) (n : Nat) (x : Lap) : Keeps a (State.blankAll s n x) := by
  unfold State.blankAll
  repeat' with_reducible first
    | exact h | apply Keeps.ite | apply State.modNode_keeps | apply Keeps.foldl | exact Keeps.refl _ | intro _
    | exact le_refl _ | exact rfl | split

end Sys2Proof.Machine
end

