-- ==== Sys2Proof/Laws/Keeps/NodeOps.lean ====
section
/-! SUPPORT. What every command respects (`Keeps`), for the operations of Machine/NodeOps.lean. -/

set_option linter.all false

namespace Sys2Proof.Machine
open Obj

theorem State.modWire_keeps {a s : State} (h : Keeps a s) (n : Nat) (k : Nat) (w : Nat) (f : Wire → Wire) : Keeps a (State.modWire s n k w f) := by
  unfold State.modWire
  repeat' with_reducible first
    | exact h | apply State.modNode_keeps

theorem State.wireRegs_keeps {a s : State} (h : Keeps a s) (n : Nat) : Keeps a (State.wireRegs s n) := by
  unfold State.wireRegs
  repeat' with_reducible first
    | exact h | apply Keeps.ite | apply State.wrB_keeps | apply State.wr_keeps | apply State.setDiag_keeps | apply Keeps.foldl
    | exact Keeps.refl _ | intro _ | exact le_refl _ | exact rfl | split

theorem State.wireTests_keeps {a s : State} (h : Keeps a s) (n : Nat) : Keeps a (State.wireTests s n) := by
  unfold State.wireTests
  repeat' with_reducible first
    | exact h | apply Keeps.ite | apply State.modWire_keeps | apply State.queueCmd_keeps | apply Keeps.foldl
    | exact Keeps.refl _ | intro _ | exact le_refl _ | exact rfl | split | apply Keeps.mk'

theorem State.wireResult_keeps {a s : State} (h : Keeps a s) (n : Nat) (k : Nat) (w : Nat) (result : Nat) : Keeps a (State.wireResult s n k w result) := by
  unfold State.wireResult
  repeat' with_reducible first
    | exact h | apply Keeps.ite | apply State.bump_keeps | apply State.modWire_keeps | apply State.recordOpen_keeps
    | apply State.wireRegs_keeps | apply State.classifyTrip_keeps | exact Keeps.refl _ | intro _ | exact le_refl _ | exact rfl
    | split

theorem State.classifyWires_keeps {a s : State} (h : Keeps a s) (n : Nat) (k : Nat) (d : Bytes) : Keeps a (State.classifyWires s n k d) := by
  unfold State.classifyWires
  repeat' with_reducible first
    | exact h | apply Keeps.ite | apply State.recordOpen_keeps | apply State.modWire_keeps | apply Keeps.foldl
    | exact Keeps.refl _ | intro _ | exact le_refl _ | exact rfl | split | apply Keeps.mk'

theorem State.sumCheck_keeps {a s : State} (h : Keeps a s) (n : Nat) (k : Nat) (diff : Int) : Keeps a (State.sumCheck s n k diff) := by
  unfold State.sumCheck
  repeat' with_reducible first
    | exact h | apply Keeps.ite | apply State.modNode_keeps | apply State.wrB_keeps | exact Keeps.refl _ | intro _
    | exact le_refl _ | exact rfl | split | apply Keeps.mk'

theorem State.lapNode_keeps {a s : State} (h : Keeps a s) (n : Nat) (x : Lap) (k : Nat) (d : Bytes) : Keeps a (State.lapNode s n x k d) := by
  unfold State.lapNode
  repeat' with_reducible first
    | exact h | apply Keeps.ite | apply State.modNode_keeps | apply State.wr_keeps | apply State.wrI_keeps
    | apply State.sumCheck_keeps | apply State.classifyWires_keeps | apply Keeps.foldl | exact Keeps.refl _ | intro _
    | exact le_refl _ | exact rfl | split

theorem State.tempUnknown_keeps {a s : State} (h : Keeps a s) (n : Nat) : Keeps a (State.tempUnknown s n) := by
  unfold State.tempUnknown
  repeat' with_reducible first
    | exact h | apply Keeps.ite | apply State.modNode_keeps | apply State.setDiag_keeps | apply Keeps.foldl
    | exact Keeps.refl _ | intro _ | exact le_refl _ | exact rfl | split | apply Keeps.mk'

end Sys2Proof.Machine
end

