-- ==== Sys2Proof/Laws/Keeps/ProtCheck.lean ====
section
/-! SUPPORT. What every command respects (`Keeps`), for the operations of Machine/ProtCheck.lean. -/

set_option linter.all false

namespace Sys2Proof.Machine
open Obj

theorem State.judge_keeps {a s : State} (h : Keeps a s) (n : Nat) (pos : Nat) (at_ : Nat) (kind : Nat) (v : Nat) (lo : Nat) (hi : Nat) (node : Nat) (chan : Nat) : Keeps a (State.judge s n pos at_ kind v lo hi node chan) := by
  unfold State.judge
  repeat' with_reducible first
    | exact h | apply Keeps.ite | apply State.modProt_keeps | apply State.trip_keeps | exact Keeps.refl _ | intro _
    | exact le_refl _ | exact rfl | split

theorem State.dropTimers_keeps {a s : State} (h : Keeps a s) (n : Nat) (pos : Nat) (kinds : List Nat) : Keeps a (State.dropTimers s n pos kinds) := by
  unfold State.dropTimers
  repeat' with_reducible first
    | exact h | apply Keeps.ite | apply State.modProt_keeps | exact Keeps.refl _ | intro _ | exact le_refl _ | exact rfl
    | split

theorem State.checkVolt_keeps {a s : State} (h : Keeps a s) (n : Nat) (at_ : Nat) (pos : Nat) (p : Pos) : Keeps a (State.checkVolt s n at_ pos p) := by
  unfold State.checkVolt
  repeat' with_reducible first
    | exact h | apply Keeps.ite | apply State.dropTimers_keeps | apply State.judge_keeps | apply State.modProt_keeps
    | apply State.trip_keeps | apply Keeps.foldl | exact Keeps.refl _ | intro _ | exact le_refl _ | exact rfl | split

theorem State.checkTemp_keeps {a s : State} (h : Keeps a s) (n : Nat) (at_ : Nat) (pos : Nat) (p : Pos) : Keeps a (State.checkTemp s n at_ pos p) := by
  unfold State.checkTemp
  repeat' with_reducible first
    | exact h | apply Keeps.ite | apply State.modProt_keeps | apply State.trip_keeps | exact Keeps.refl _ | intro _
    | exact le_refl _ | exact rfl | split | apply Keeps.mk'

theorem State.checkTemps_keeps {a s : State} (h : Keeps a s) (n : Nat) (sel : Nat → Nat → Bool) : Keeps a (State.checkTemps s n sel) := by
  unfold State.checkTemps
  repeat' with_reducible first
    | exact h | apply Keeps.ite | apply State.checkTemp_keeps | apply State.tempUnknown_keeps | apply Keeps.foldl
    | exact Keeps.refl _ | intro _ | exact le_refl _ | exact rfl | split

theorem State.checkLap_keeps {a s : State} (h : Keeps a s) (n : Nat) (x : Lap) : Keeps a (State.checkLap s n x) := by
  unfold State.checkLap
  repeat' with_reducible first
    | exact h | apply Keeps.ite | apply State.checkVolt_keeps | apply State.checkTemps_keeps | apply State.modProt_keeps
    | apply State.refresh_keeps | apply Keeps.foldl | exact Keeps.refl _ | intro _ | exact le_refl _ | exact rfl | split
    | apply Keeps.mk'

end Sys2Proof.Machine
end

