-- ==== Sys2Proof/Laws/Keeps/NodeUpdate.lean ====
section
/-! SUPPORT. What every command respects (`Keeps`), for the operations of Machine/NodeUpdate.lean. -/

set_option linter.all false

namespace Sys2Proof.Machine
open Obj

theorem State.updateRegs_keeps {a s : State} (h : Keeps a s) (n : Nat) : Keeps a (State.updateRegs s n) := by
  unfold State.updateRegs
  repeat' with_reducible first
    | exact h | apply Keeps.ite | apply State.wr_keeps | exact Keeps.refl _ | intro _ | exact le_refl _ | exact rfl | split

theorem State.copyChunk_keeps {a s : State} (h : Keeps a s) (n : Nat) (k : Nat) : Keeps a (State.copyChunk s n k) := by
  unfold State.copyChunk
  repeat' with_reducible first
    | exact h | apply Keeps.ite | apply State.queueCmd_keeps | split

theorem State.bootNode_keeps {a s : State} (h : Keeps a s) (n : Nat) (k : Nat) (bank : Nat) : Keeps a (State.bootNode s n k bank) := by
  unfold State.bootNode
  repeat' with_reducible first
    | exact h | apply Keeps.ite | apply State.queueCmd_keeps | apply State.modNode_keeps | exact Keeps.refl _ | intro _
    | exact le_refl _ | exact rfl | split | apply Keeps.mk'

theorem State.startCopy_keeps {a s : State} (h : Keeps a s) (n : Nat) (k : Nat) : Keeps a (State.startCopy s n k) := by
  unfold State.startCopy
  repeat' with_reducible first
    | exact h | apply State.modNode_keeps | apply State.wr_keeps | apply State.queueCmd_keeps | apply State.modRing_keeps
    | exact Keeps.refl _ | intro _ | exact le_refl _ | exact rfl | apply Keeps.mk'

theorem State.treatRow_keeps {a s : State} (h : Keeps a s) (n : Nat) (k : Nat) (held : Bool) : Keeps a (State.treatRow s n k held) := by
  unfold State.treatRow
  repeat' with_reducible first
    | exact h | apply Keeps.ite | apply State.modNode_keeps | apply State.queueCmd_keeps | apply State.startCopy_keeps
    | apply State.bootNode_keeps | exact Keeps.refl _ | intro _ | exact le_refl _ | exact rfl | split | apply Keeps.mk'

theorem State.treatNode_keeps {a s : State} (h : Keeps a s) (n : Nat) (k : Nat) : Keeps a (State.treatNode s n k) := by
  unfold State.treatNode
  repeat' with_reducible first
    | exact h | apply State.modRing_keeps | apply State.record_keeps | apply State.bump_keeps | apply State.updateRegs_keeps
    | apply State.treatRow_keeps | exact Keeps.refl _ | intro _ | exact le_refl _ | exact rfl | split | apply Keeps.mk'

theorem State.copyNext_keeps {a s : State} (h : Keeps a s) (n : Nat) : Keeps a (State.copyNext s n) := by
  unfold State.copyNext
  repeat' with_reducible first
    | exact h | apply Keeps.ite | apply State.updateRegs_keeps | apply State.treatRow_keeps | apply Keeps.foldl
    | exact Keeps.refl _ | intro _ | exact le_refl _ | exact rfl | split

end Sys2Proof.Machine
end

