-- ==== Sys2Proof/Laws/Keeps/FilterLap.lean ====
section
/-! SUPPORT. What every command respects (`Keeps`), for the operations of Machine/FilterLap.lean. -/

set_option linter.all false

namespace Sys2Proof.Machine
open Obj

theorem State.lapCheck_keeps {a s : State} (h : Keeps a s) (n : Nat) (x : Lap) : Keeps a (State.lapCheck s n x) := by
  unfold State.lapCheck
  repeat' with_reducible first
    | exact h | apply Keeps.ite | apply State.modLap_keeps | apply State.bump_keeps | apply State.wr_keeps
    | apply State.modEst_keeps | exact Keeps.refl _ | intro _ | exact le_refl _ | exact rfl | split

theorem State.thermalLap_keeps {a s : State} (h : Keeps a s) (n : Nat) (dt : Nat) : Keeps a (State.thermalLap s n dt) := by
  unfold State.thermalLap
  repeat' with_reducible first
    | exact h | apply Keeps.ite | apply State.record_keeps | apply Keeps.foldl | exact Keeps.refl _ | intro _
    | exact le_refl _ | exact rfl | split | apply Keeps.mk'

theorem State.restLap_keeps {a s : State} (h : Keeps a s) (n : Nat) (x : Lap) : Keeps a (State.restLap s n x) := by
  unfold State.restLap
  repeat' with_reducible first
    | exact h | apply Keeps.ite | apply State.modEst_keeps | exact Keeps.refl _ | intro _ | exact le_refl _ | exact rfl
    | split | apply Keeps.mk'

theorem State.tableLap_keeps {a s : State} (h : Keeps a s) (n : Nat) (x : Lap) : Keeps a (State.tableLap s n x) := by
  unfold State.tableLap
  repeat' with_reducible first
    | exact h | apply Keeps.ite | apply State.modEst_keeps | apply State.compareEntries_keeps | apply State.record_keeps
    | exact Keeps.refl _ | intro _ | exact le_refl _ | exact rfl | split

theorem State.throughput_keeps {a s : State} (h : Keeps a s) (n : Nat) (x : Lap) : Keeps a (State.throughput s n x) := by
  unfold State.throughput
  repeat' with_reducible first
    | exact h | apply Keeps.ite | apply State.modEst_keeps | exact Keeps.refl _ | intro _ | exact le_refl _ | exact rfl
    | split | apply Keeps.mk'

theorem State.filterEvents_keeps {a s : State} (h : Keeps a s) (n : Nat) (ps : List Pos) : Keeps a (State.filterEvents s n ps) := by
  unfold State.filterEvents
  repeat' with_reducible first
    | exact h | apply Keeps.ite | apply State.bump_keeps | apply State.record_keeps | apply Keeps.foldl | exact Keeps.refl _
    | intro _ | exact le_refl _ | exact rfl | split

theorem State.seedLap_keeps {a s : State} (h : Keeps a s) (n : Nat) (tb : Nat) (x : Lap) (ps : List Pos) : Keeps a (State.seedLap s n tb x ps).2 := by
  unfold State.seedLap
  dsimp only
  repeat' with_reducible first
    | exact h | apply Keeps.ite | apply State.record_keeps | apply Keeps.foldl | exact Keeps.refl _ | intro _
    | exact le_refl _ | exact rfl | split

theorem State.clipLap_keeps {a s : State} (h : Keeps a s) (n : Nat) (x : Lap) : Keeps a (State.clipLap s n x) := by
  unfold State.clipLap
  repeat' with_reducible first
    | exact h | apply Keeps.ite | apply State.modFe_keeps | apply State.modEst_keeps | exact Keeps.refl _ | intro _
    | exact le_refl _ | exact rfl | split

theorem State.skipLap_keeps {a s : State} (h : Keeps a s) (n : Nat) (x : Lap) : Keeps a (State.skipLap s n x) := by
  unfold State.skipLap
  repeat' with_reducible first
    | exact h | apply Keeps.ite | apply State.modLap_keeps | apply State.bump_keeps | apply State.modEst_keeps
    | exact Keeps.refl _ | intro _ | exact le_refl _ | exact rfl | split

theorem State.updateLap_keeps {a s : State} (h : Keeps a s) (n : Nat) (x : Lap) : Keeps a (State.updateLap s n x) := by
  refine h.trans ?_
  unfold State.updateLap
  repeat' (first
    | (extract_lets +onlyGivenNames x; first | (refine cutTo x ?_ ?_ <;> [(intro hx; try clear_value x); subst x]) | (refine cutFun x ?_ ?_ <;> [(intro hfun; try clear_value x); (intro v; subst x)]) | (refine cutFun2 x ?_ ?_ <;> [(intro hfun; try clear_value x); (intro v y; subst x)]) | (refine cutFun3 x ?_ ?_ <;> [(intro hfun; try clear_value x); (intro v y; subst x)]) | (have := (x : Mbx); clear this; subst x) | (have := (x : Nonvol); clear this; subst x) | clear_value x | subst x)
    | with_reducible first | exact Keeps.refl _ | assumption
    | with_reducible first | apply State.modEst_keeps | apply State.tableLap_keeps | apply State.filterEvents_keeps | apply State.seedLap_keeps | apply State.bump_keeps | apply State.wr_keeps | apply Keeps.foldl | apply Keeps.mapSess
    | with_reducible first | exact Nat.le_refl _ | exact Nat.le_succ _ | exact Nat.le_add_right _ _ | exact rfl | exact fun _ => rfl | exact fun _ => Nat.le_refl _ | exact id | exact fun i j => ⟨i, j⟩ | exact fun i j => ⟨j, rfl⟩ | exact fun i j => ⟨rfl, rfl⟩ | exact fun i => Store.load_sorted i _ | exact fun _ => keepMeasured_sorted _ _ _
    | apply hfun
    | intro _
    | split
    | dsimp -zeta only
    | refine Keeps.fst (by assumption) ?_
    | refine Keeps.snd (by assumption) ?_
    | with_reducible first | apply Keeps.nv | apply Keeps.nvmk | apply Keeps.objs | apply Keeps.mk')

theorem State.filterLap_keeps {a s : State} (h : Keeps a s) (n : Nat) (x : Lap) : Keeps a (State.filterLap s n x) := by
  unfold State.filterLap
  repeat' with_reducible first
    | exact h | apply Keeps.ite | apply State.restLap_keeps | apply State.clipLap_keeps | apply State.modEst_keeps
    | apply State.throughput_keeps | apply State.thermalLap_keeps | apply State.restoreLap_keeps
    | apply State.pendingLap_keeps | apply State.wrB_keeps | apply State.skipLap_keeps | apply State.lapCheck_keeps
    | apply State.updateLap_keeps | exact Keeps.refl _ | intro _ | exact le_refl _ | exact rfl | split

end Sys2Proof.Machine
end

