-- ==== Sys2Proof/Laws/Keeps/Outputs.lean ====
section
/-! SUPPORT. What every command respects (`Keeps`), for the operations of Machine/Outputs.lean. -/

set_option linter.all false

namespace Sys2Proof.Machine
open Obj

theorem State.outliers_keeps {a s : State} (h : Keeps a s) (n : Nat) : Keeps a (State.outliers s n) := by
  unfold State.outliers
  repeat' with_reducible first
    | exact h | apply Keeps.ite | apply State.modEst_keeps | apply State.record_keeps | apply Keeps.foldl | exact Keeps.refl _
    | intro _ | exact le_refl _ | exact rfl | split

theorem State.anchorLap_keeps {a s : State} (h : Keeps a s) (n : Nat) (x : Lap) : Keeps a (State.anchorLap s n x).2 := by
  unfold State.anchorLap
  dsimp only
  repeat' with_reducible first
    | exact h | apply Keeps.ite | apply State.wr_keeps | apply State.modEst_keeps | apply State.record_keeps
    | exact Keeps.refl _ | intro _ | exact le_refl _ | exact rfl | split

theorem State.learnLap_keeps {a s : State} (h : Keeps a s) (n : Nat) (x : Lap) : Keeps a (State.learnLap s n x) := by
  unfold State.learnLap
  repeat' with_reducible first
    | exact h | apply Keeps.ite | apply State.modLap_keeps | apply State.putEntry_keeps | apply State.bump_keeps
    | apply State.record_keeps | apply State.outliers_keeps | apply Keeps.foldl | exact Keeps.refl _ | intro _
    | exact le_refl _ | exact rfl | split

theorem State.learnDue_keeps {a s : State} (h : Keeps a s) (n : Nat) : Keeps a (State.learnDue s n) := by
  unfold State.learnDue
  repeat' with_reducible first
    | exact h | apply Keeps.ite | apply State.learnLap_keeps | apply Keeps.foldl | exact Keeps.refl _ | intro _
    | exact le_refl _ | exact rfl | split

theorem State.divergeLap_keeps {a s : State} (h : Keeps a s) (n : Nat) (x : Lap) (dt : Nat) : Keeps a (State.divergeLap s n x dt) := by
  unfold State.divergeLap
  repeat' with_reducible first
    | exact h | apply Keeps.ite | apply State.modEst_keeps | apply State.record_keeps | apply State.wr_keeps
    | apply State.wrB_keeps | apply State.attention_keeps | apply Keeps.foldl | exact Keeps.refl _ | intro _ | exact le_refl _
    | exact rfl | split

theorem State.divergeRegs_keeps {a s : State} (h : Keeps a s) (n : Nat) (at_ : Nat) : Keeps a (State.divergeRegs s n at_) := by
  unfold State.divergeRegs
  repeat' with_reducible first
    | exact h | apply Keeps.ite | apply State.wr_keeps | apply State.wrB_keeps | apply Keeps.foldl | exact Keeps.refl _
    | intro _ | exact le_refl _ | exact rfl | split

theorem State.stringRegs_keeps {a s : State} (h : Keeps a s) (n : Nat) (x : Lap) : Keeps a (State.stringRegs s n x) := by
  unfold State.stringRegs
  dsimp only
  repeat' with_reducible first
    | exact h | apply Keeps.ite | apply State.wr_keeps | apply State.wrB_keeps | apply Keeps.foldl | exact Keeps.refl _
    | intro _ | exact le_refl _ | exact rfl | split

theorem State.showResults_keeps {a s : State} (h : Keeps a s) (n : Nat) (cs : List CellW) : Keeps a (State.showResults s n cs) := by
  unfold State.showResults
  repeat' with_reducible first
    | exact h | apply Keeps.ite | apply State.wr_keeps | apply Keeps.foldl | exact Keeps.refl _ | intro _ | exact le_refl _
    | exact rfl | split

theorem State.hideLap_keeps {a s : State} (h : Keeps a s) (o : State) (n : Nat) (seq : Nat) (wait : List CellW) : Keeps a (State.hideLap s o n seq wait) := by
  unfold State.hideLap
  repeat' with_reducible first
    | exact h | apply Keeps.ite | apply State.showResults_keeps | apply State.modLap_keeps | exact Keeps.refl _ | intro _
    | exact le_refl _ | exact rfl | split

theorem State.buildResult_keeps {a s : State} (h : Keeps a s) (n : Nat) (seq : Nat) : Keeps a (State.buildResult s n seq) := by
  refine h.trans ?_
  unfold State.buildResult
  repeat' (first
    | (extract_lets +onlyGivenNames x; first | (refine cutTo x ?_ ?_ <;> [(intro hx; try clear_value x); subst x]) | (refine cutFun x ?_ ?_ <;> [(intro hfun; try clear_value x); (intro v; subst x)]) | (refine cutFun2 x ?_ ?_ <;> [(intro hfun; try clear_value x); (intro v y; subst x)]) | (refine cutFun3 x ?_ ?_ <;> [(intro hfun; try clear_value x); (intro v y; subst x)]) | (have := (x : Mbx); clear this; subst x) | (have := (x : Nonvol); clear this; subst x) | clear_value x | subst x)
    | with_reducible first | exact Keeps.refl _ | assumption
    | with_reducible first | apply State.showResults_keeps | apply State.anchorLap_keeps | apply State.divergeLap_keeps | apply State.divergeRegs_keeps | apply State.stringRegs_keeps | apply State.bump_keeps | apply State.wrB_keeps | apply State.modEst_keeps | apply State.modLap_keeps | apply State.hideLap_keeps | apply Keeps.foldl | apply Keeps.mapSess
    | with_reducible first | exact Nat.le_refl _ | exact Nat.le_succ _ | exact Nat.le_add_right _ _ | exact rfl | exact fun _ => rfl | exact fun _ => Nat.le_refl _ | exact id | exact fun i j => ⟨i, j⟩ | exact fun i j => ⟨j, rfl⟩ | exact fun i j => ⟨rfl, rfl⟩ | exact fun i => Store.load_sorted i _ | exact fun _ => keepMeasured_sorted _ _ _
    | apply hfun
    | intro _
    | split
    | dsimp -zeta only
    | refine Keeps.fst (by assumption) ?_
    | refine Keeps.snd (by assumption) ?_
    | with_reducible first | apply Keeps.nv | apply Keeps.nvmk | apply Keeps.objs | apply Keeps.mk')

end Sys2Proof.Machine
end

