-- ==== Sys2Proof/Laws/Keeps/Nodes.lean ====
section
/-! SUPPORT. What every command respects (`Keeps`), for the operations of Machine/Nodes.lean. -/

set_option linter.all false

namespace Sys2Proof.Machine
open Obj

theorem State.failAnswer_keeps {a s : State} (h : Keeps a s) (r : Rid) (n : Nat) (node : Nat) (e : CmdEnd) : Keeps a (State.failAnswer s r n node e) := by
  unfold State.failAnswer
  repeat' with_reducible first
    | exact h | apply Keeps.ite | apply State.answer_keeps | apply State.modRing_keeps | exact Keeps.refl _ | intro _
    | exact le_refl _ | exact rfl | split

theorem State.sendThresholds_keeps {a s : State} (h : Keeps a s) (n : Nat) (k : Nat) (tries : Nat) : Keeps a (State.sendThresholds s n k tries) := by
  unfold State.sendThresholds
  repeat' with_reducible first
    | exact h | apply Keeps.ite | apply State.queueCmd_keeps | split

theorem State.thresholdsAll_keeps {a s : State} (h : Keeps a s) (n : Nat) : Keeps a (State.thresholdsAll s n) := by
  unfold State.thresholdsAll
  repeat' with_reducible first
    | exact h | apply Keeps.ite | apply State.modNode_keeps | apply State.sendThresholds_keeps | apply Keeps.foldl
    | exact Keeps.refl _ | intro _ | exact le_refl _ | exact rfl | split

theorem State.thresholdsDue_keeps {a s : State} (h : Keeps a s) (n : Nat) : Keeps a (State.thresholdsDue s n) := by
  unfold State.thresholdsDue
  repeat' with_reducible first
    | exact h | apply Keeps.ite | apply State.modNode_keeps | apply State.sendThresholds_keeps | apply Keeps.foldl
    | exact Keeps.refl _ | intro _ | exact le_refl _ | exact rfl | split

theorem State.thresholdsEnd_keeps {a s : State} (h : Keeps a s) (n : Nat) (k : Nat) (tries : Nat) (sent : Bytes) (e : CmdEnd) : Keeps a (State.thresholdsEnd s n k tries sent e) := by
  unfold State.thresholdsEnd
  repeat' with_reducible first
    | exact h | apply Keeps.ite | apply State.wr_keeps | apply State.wrB_keeps | apply State.nodeDiags_keeps
    | apply State.treatNode_keeps | apply State.recordOpen_keeps | apply State.modNode_keeps
    | apply State.sendThresholds_keeps | exact Keeps.refl _ | intro _ | exact le_refl _ | exact rfl | split

theorem State.readStatus_keeps {a s : State} (h : Keeps a s) (n : Nat) (k : Nat) : Keeps a (State.readStatus s n k) := by
  unfold State.readStatus
  repeat' with_reducible first
    | exact h | apply Keeps.ite | apply State.queueCmd_keeps | exact Keeps.refl _ | intro _ | exact le_refl _ | exact rfl
    | split

theorem State.statusEnd_keeps {a s : State} (h : Keeps a s) (n : Nat) (k : Nat) (e : CmdEnd) : Keeps a (State.statusEnd s n k e) := by
  unfold State.statusEnd
  repeat' with_reducible first
    | exact h | apply Keeps.ite | apply State.recordOpen_keeps | apply State.wr_keeps | apply State.wrB_keeps
    | apply State.modNode_keeps | apply State.checkTemps_keeps | apply State.classifyTrip_keeps | apply State.nodeDiags_keeps
    | apply Keeps.foldl | exact Keeps.refl _ | intro _ | exact le_refl _ | exact rfl | split | apply Keeps.mk'

theorem State.sendBleed_keeps {a s : State} (h : Keeps a s) (n : Nat) (k : Nat) (mask : Nat) (ms : Nat) : Keeps a (State.sendBleed s n k mask ms) := by
  unfold State.sendBleed
  repeat' with_reducible first
    | exact h | apply Keeps.ite | apply State.queueCmd_keeps | split

theorem State.balanceEnd_keeps {a s : State} (h : Keeps a s) (n : Nat) (k : Nat) (code : Nat) (args : Bytes) (e : CmdEnd) : Keeps a (State.balanceEnd s n k code args e) := by
  unfold State.balanceEnd
  repeat' with_reducible first
    | exact h | apply Keeps.ite | apply State.wr_keeps | apply State.modNode_keeps | apply State.recordOpen_keeps
    | exact Keeps.refl _ | intro _ | exact le_refl _ | exact rfl | split

theorem State.cmpTestEnd_keeps {a s : State} (h : Keeps a s) (n : Nat) (k : Nat) (e : CmdEnd) : Keeps a (State.cmpTestEnd s n k e) := by
  unfold State.cmpTestEnd
  repeat' with_reducible first
    | exact h | apply State.wr_keeps | apply State.nodeDiags_keeps | apply State.wrB_keeps | apply State.recordOpen_keeps
    | split

theorem execCmpTest_keeps (t : Nat) (str : Nat) (s : State) : ∃ u, execCmpTest t str s = .next u ∧ Keeps s u := by
  refine ⟨_, rfl, ?_⟩
  repeat' with_reducible first
    | exact Keeps.refl _ | apply Keeps.ite | apply State.at_keeps | apply State.queueCmd_keeps | apply State.modNode_keeps
    | intro _ | exact le_refl _ | exact rfl | split | apply Keeps.mk'

theorem State.wireRequest_keeps {a s : State} (h : Keeps a s) (n : Nat) (k : Nat) (w : Nat) (id : Nat) (e : CmdEnd) : Keeps a (State.wireRequest s n k w id e) := by
  unfold State.wireRequest
  repeat' with_reducible first
    | exact h | apply Keeps.ite | apply State.answer_keeps | apply State.modRing_keeps | apply State.failAnswer_keeps
    | exact Keeps.refl _ | intro _ | exact le_refl _ | exact rfl | split | apply Keeps.mk'

theorem State.wireEnd_keeps {a s : State} (h : Keeps a s) (n : Nat) (k : Nat) (w : Nat) (req : Option Nat) (e : CmdEnd) : Keeps a (State.wireEnd s n k w req e) := by
  unfold State.wireEnd
  repeat' with_reducible first
    | exact h | apply Keeps.ite | apply State.wireResult_keeps | apply State.modWire_keeps | apply State.recordOpen_keeps
    | apply State.wireRequest_keeps | exact Keeps.refl _ | intro _ | exact le_refl _ | exact rfl | split

theorem execRoutineWireTest_keeps (t : Nat) (str : Nat) (s : State) : ∃ u, execRoutineWireTest t str s = .next u ∧ Keeps s u := by
  refine ⟨_, rfl, ?_⟩
  repeat' with_reducible first
    | exact Keeps.refl _ | apply Keeps.ite | apply State.at_keeps | apply State.wireRegs_keeps | apply State.wireTests_keeps
    | apply State.modWire_keeps | apply Keeps.foldl | intro _ | exact le_refl _ | exact rfl | split | apply Keeps.mk'

theorem execWireRetest_keeps (t : Nat) (str : Nat) (node : Nat) (wire : Nat) (s : State) : ∃ u, execWireRetest t str node wire s = .next u ∧ Keeps s u := by
  refine ⟨_, rfl, ?_⟩
  repeat' with_reducible first
    | exact Keeps.refl _ | apply Keeps.ite | apply State.at_keeps | apply State.wireRegs_keeps | apply State.modWire_keeps
    | apply State.wireTests_keeps | intro _ | exact le_refl _ | exact rfl | split | apply Keeps.mk'

theorem execRunWireTest_keeps (t : Nat) (r : Req) (p : Bytes) (s : State) : ∃ u, execRunWireTest t r p s = .next u ∧ Keeps s u := by
  refine ⟨_, rfl, ?_⟩
  repeat' with_reducible first
    | exact Keeps.refl _ | apply Keeps.ite | apply State.serve_keeps | apply guarded_keeps | apply State.modRing_keeps
    | apply State.queueCmd_keeps | apply Keeps.foldl | intro _ | exact le_refl _ | exact rfl | split
    | refine Keeps.fst (by assumption) ?_

theorem State.armNode_keeps {a s : State} (h : Keeps a s) (n : Nat) (k : Nat) : Keeps a (State.armNode s n k) := by
  unfold State.armNode
  repeat' with_reducible first
    | exact h | apply Keeps.ite | apply State.modNode_keeps | apply State.queueCmd_keeps | exact Keeps.refl _ | intro _
    | exact le_refl _ | exact rfl | split

theorem State.challenge_keeps {a s : State} (h : Keeps a s) (n : Nat) (k : Nat) (chain : Bytes) : Keeps a (State.challenge s n k chain) := by
  refine h.trans ?_
  unfold State.challenge
  repeat' (first
    | (extract_lets +onlyGivenNames x; first | (refine cutTo x ?_ ?_ <;> [(intro hx; try clear_value x); subst x]) | (refine cutFun x ?_ ?_ <;> [(intro hfun; try clear_value x); (intro v; subst x)]) | (refine cutFun2 x ?_ ?_ <;> [(intro hfun; try clear_value x); (intro v y; subst x)]) | (refine cutFun3 x ?_ ?_ <;> [(intro hfun; try clear_value x); (intro v y; subst x)]) | (have := (x : Mbx); clear this; subst x) | (have := (x : Nonvol); clear this; subst x) | clear_value x | subst x)
    | with_reducible first | exact Keeps.refl _ | assumption
    | with_reducible first | apply State.queueCmd_keeps | apply State.modNode_keeps | apply Keeps.foldl | apply Keeps.mapSess
    | with_reducible first | exact Nat.le_refl _ | exact Nat.le_succ _ | exact Nat.le_add_right _ _ | exact rfl | exact fun _ => rfl | exact fun _ => Nat.le_refl _ | exact id | exact fun i j => ⟨i, j⟩ | exact fun i j => ⟨j, rfl⟩ | exact fun i j => ⟨rfl, rfl⟩ | exact fun i => Store.load_sorted i _ | exact fun _ => keepMeasured_sorted _ _ _
    | apply hfun
    | intro _
    | split
    | dsimp -zeta only
    | with_reducible first | apply Keeps.mk')

theorem State.authBegin_keeps {a s : State} (h : Keeps a s) (n : Nat) (k : Nat) : Keeps a (State.authBegin s n k) := by
  unfold State.authBegin
  repeat' with_reducible first
    | exact h | apply State.bump_keeps | apply State.wr_keeps | apply State.modNode_keeps | apply State.challenge_keeps
    | apply State.queueCmd_keeps | exact Keeps.refl _ | intro _ | exact le_refl _ | exact rfl | split | apply Keeps.mk'

theorem State.authNext_keeps {a s : State} (h : Keeps a s) (n : Nat) : Keeps a (State.authNext s n) := by
  unfold State.authNext
  repeat' with_reducible first
    | exact h | apply State.authBegin_keeps | apply Keeps.foldl | exact Keeps.refl _ | intro _ | exact le_refl _ | exact rfl

theorem State.authFail_keeps {a s : State} (h : Keeps a s) (n : Nat) (k : Nat) (reason : Nat) : Keeps a (State.authFail s n k reason) := by
  unfold State.authFail
  repeat' with_reducible first
    | exact h | apply Keeps.ite | apply State.stamp_keeps | apply State.wr_keeps | apply State.failEntries_keeps
    | apply State.wrB_keeps | apply State.modNode_keeps | apply State.authNext_keeps | exact Keeps.refl _ | intro _
    | exact le_refl _ | exact rfl | split | apply Keeps.mk'

theorem State.authPass_keeps {a s : State} (h : Keeps a s) (n : Nat) (k : Nat) (leaf : Bytes) : Keeps a (State.authPass s n k leaf) := by
  unfold State.authPass
  repeat' with_reducible first
    | exact h | apply Keeps.ite | apply State.stamp_keeps | apply State.wr_keeps | apply State.wrB_keeps
    | apply State.modRing_keeps | apply State.record_keeps | apply State.authEntries_keeps | apply State.authNext_keeps
    | apply State.armNode_keeps | exact Keeps.refl _ | intro _ | exact le_refl _ | exact rfl | split | apply Keeps.mk'

theorem State.authNoStep_keeps {a s : State} (h : Keeps a s) (n : Nat) (k : Nat) (e : CmdEnd) : Keeps a (State.authNoStep s n k e) := by
  unfold State.authNoStep
  repeat' with_reducible first
    | exact h | apply State.authNext_keeps | apply State.wr_keeps | apply State.authFail_keeps | apply State.recordOpen_keeps
    | split

theorem State.certEnd_keeps {a s : State} (h : Keeps a s) (n : Nat) (k : Nat) (chunk : Nat) (e : CmdEnd) : Keeps a (State.certEnd s n k chunk e) := by
  unfold State.certEnd
  repeat' with_reducible first
    | exact h | apply Keeps.ite | apply State.authFail_keeps | apply State.challenge_keeps | apply State.queueCmd_keeps
    | apply State.modNode_keeps | apply State.authNoStep_keeps | exact Keeps.refl _ | intro _ | exact le_refl _ | exact rfl
    | split | apply Keeps.mk'

theorem State.forgetChain_keeps {a s : State} (h : Keeps a s) (serial : Nat) : Keeps a (State.forgetChain s serial) := by
  unfold State.forgetChain
  repeat' with_reducible first
    | exact h | apply Keeps.ite | apply State.eachStr_keeps | apply State.modRing_keeps | exact Keeps.refl _ | intro _
    | exact le_refl _ | exact rfl | split

theorem State.authEnd_keeps {a s : State} (h : Keeps a s) (n : Nat) (k : Nat) (epoch : Nat) (e : CmdEnd) : Keeps a (State.authEnd s n k epoch e) := by
  unfold State.authEnd
  repeat' with_reducible first
    | exact h | apply Keeps.ite | apply State.authFail_keeps | apply State.authPass_keeps | apply State.forgetChain_keeps
    | apply State.modNode_keeps | apply State.queueCmd_keeps | apply State.authNoStep_keeps | exact Keeps.refl _ | intro _
    | exact le_refl _ | exact rfl | split | dsimp only

theorem execAuthRetry_keeps (t : Nat) (str : Nat) (node : Nat) (s : State) : ∃ u, execAuthRetry t str node s = .next u ∧ Keeps s u := by
  refine ⟨_, rfl, ?_⟩
  repeat' with_reducible first
    | exact Keeps.refl _ | apply Keeps.ite | apply State.at_keeps | apply State.authNext_keeps | apply State.modNode_keeps
    | apply State.wr_keeps | intro _ | exact le_refl _ | exact rfl | split | apply Keeps.mk'

theorem State.tryClear_keeps {a s : State} (h : Keeps a s) (n : Nat) : Keeps a (State.tryClear s n) := by
  unfold State.tryClear
  repeat' with_reducible first
    | exact h | apply Keeps.ite | apply State.modProt_keeps | apply State.answer_keeps | apply State.journal_keeps
    | exact Keeps.refl _ | intro _ | exact le_refl _ | exact rfl | split

theorem State.releaseEnd_keeps {a s : State} (h : Keeps a s) (n : Nat) (k : Nat) (e : CmdEnd) : Keeps a (State.releaseEnd s n k e) := by
  unfold State.releaseEnd
  repeat' with_reducible first
    | exact h | apply State.wrB_keeps | apply State.wr_keeps | apply State.tryClear_keeps | apply State.failAnswer_keeps
    | apply State.modProt_keeps | exact Keeps.refl _ | intro _ | exact le_refl _ | exact rfl | split | apply Keeps.mk'

theorem execClearTrip_keeps (t : Nat) (r : Req) (p : Bytes) (readOk : Bool) (s : State) : ∃ u, execClearTrip t r p readOk s = .next u ∧ Keeps s u := by
  refine ⟨_, rfl, ?_⟩
  repeat' with_reducible first
    | exact Keeps.refl _ | apply Keeps.ite | apply State.serve_keeps | apply guarded_keeps | apply State.modProt_keeps
    | apply State.tryClear_keeps | apply State.queueCmd_keeps | apply Keeps.foldl | intro _ | exact le_refl _ | exact rfl
    | split | refine Keeps.fst (by assumption) ?_ | apply Keeps.mk'

theorem State.finishClear_keeps {a s : State} (h : Keeps a s) (n : Nat) (rid : Rid) (cs : List CellW) : Keeps a (State.finishClear s n rid cs) := by
  refine h.trans ?_
  unfold State.finishClear
  repeat' (first
    | (extract_lets +onlyGivenNames x; first | (refine cutTo x ?_ ?_ <;> [(intro hx; try clear_value x); subst x]) | (refine cutFun x ?_ ?_ <;> [(intro hfun; try clear_value x); (intro v; subst x)]) | (refine cutFun2 x ?_ ?_ <;> [(intro hfun; try clear_value x); (intro v y; subst x)]) | (refine cutFun3 x ?_ ?_ <;> [(intro hfun; try clear_value x); (intro v y; subst x)]) | (have := (x : Mbx); clear this; subst x) | (have := (x : Nonvol); clear this; subst x) | clear_value x | subst x)
    | with_reducible first | exact Keeps.refl _ | assumption
    | with_reducible first | apply State.modProt_keeps | apply State.answer_keeps | apply State.putCells_keeps | apply State.storeCells_keeps | apply State.wr_keeps | apply State.record_keeps | apply State.useToken_keeps | apply State.loopOut_keeps | apply State.refresh_keeps | apply Keeps.foldl | apply Keeps.mapSess
    | with_reducible first | exact Nat.le_refl _ | exact Nat.le_succ _ | exact Nat.le_add_right _ _ | exact rfl | exact fun _ => rfl | exact fun _ => Nat.le_refl _ | exact id | exact fun i j => ⟨i, j⟩ | exact fun i j => ⟨j, rfl⟩ | exact fun i j => ⟨rfl, rfl⟩ | exact fun i => Store.load_sorted i _ | exact fun _ => keepMeasured_sorted _ _ _
    | apply hfun
    | intro _
    | split
    | dsimp -zeta only
    | refine Keeps.fst (by assumption) ?_
    | refine Keeps.snd (by assumption) ?_
    | with_reducible first | apply Keeps.nv | apply Keeps.nvmk | apply Keeps.objs | apply Keeps.mk')

end Sys2Proof.Machine
end

