-- ==== Sys2Proof/Laws/Keeps/Sentinels.lean ====
section
/-! SUPPORT. What every command respects (`Keeps`), for the operations of Machine/Sentinels.lean. -/

set_option linter.all false

namespace Sys2Proof.Machine
open Obj

theorem State.freezeAll_keeps {a s : State} (h : Keeps a s) (n : Nat) (seq : Nat) (ks : List Nat) : Keeps a (State.freezeAll s n seq ks) := by
  unfold State.freezeAll
  repeat' with_reducible first
    | exact h | apply State.queueCmd_keeps | apply Keeps.foldl | exact Keeps.refl _ | intro _ | exact le_refl _ | exact rfl
    | apply Keeps.mk'

theorem State.stepLap_keeps {a s : State} (h : Keeps a s) (n : Nat) (x : Lap) (prevSeq : Nat) (prevPlain : Nat) : Keeps a (State.stepLap s n x prevSeq prevPlain) := by
  unfold State.stepLap
  repeat' with_reducible first
    | exact h | apply Keeps.ite | apply State.modEst_keeps | apply State.bump_keeps | apply State.freezeAll_keeps
    | exact Keeps.refl _ | intro _ | exact le_refl _ | exact rfl | split | dsimp only

theorem State.modStep_keeps {a s : State} (h : Keeps a s) (n : Nat) (f : Step → Step) : Keeps a (State.modStep s n f) := by
  unfold State.modStep
  repeat' with_reducible first
    | exact h | apply State.modEst_keeps | exact Keeps.refl _ | intro _ | exact le_refl _ | exact rfl | apply Keeps.mk'

theorem State.refuseStep_keeps {a s : State} (h : Keeps a s) (n : Nat) (k : Nat) : Keeps a (State.refuseStep s n k) := by
  unfold State.refuseStep
  repeat' with_reducible first
    | exact h | apply Keeps.ite | apply State.modNode_keeps | apply State.modStep_keeps | apply State.armNode_keeps
    | exact Keeps.refl _ | intro _ | exact le_refl _ | exact rfl | split

theorem State.readBlock_keeps {a s : State} (h : Keeps a s) (n : Nat) (k : Nat) (c : Nat) (b : Nat) : Keeps a (State.readBlock s n k c b) := by
  unfold State.readBlock
  repeat' with_reducible first
    | exact h | apply State.queueCmd_keeps

theorem State.armEnd_keeps {a s : State} (h : Keeps a s) (n : Nat) (k : Nat) (e : CmdEnd) : Keeps a (State.armEnd s n k e) := by
  unfold State.armEnd
  repeat' with_reducible first
    | exact h | apply State.modNode_keeps | apply State.recordOpen_keeps | exact Keeps.refl _ | intro _ | exact le_refl _
    | exact rfl | split | apply Keeps.mk'

theorem State.freezeEnd_keeps {a s : State} (h : Keeps a s) (n : Nat) (k : Nat) (e : CmdEnd) : Keeps a (State.freezeEnd s n k e) := by
  unfold State.freezeEnd
  repeat' with_reducible first
    | exact h | apply State.modNode_keeps | apply State.readBlock_keeps | apply State.refuseStep_keeps
    | apply State.recordOpen_keeps | exact Keeps.refl _ | intro _ | exact le_refl _ | exact rfl | split | apply Keeps.mk'

theorem State.burstEnd_keeps {a s : State} (h : Keeps a s) (n : Nat) (k : Nat) (c : Nat) (b : Nat) (e : CmdEnd) : Keeps a (State.burstEnd s n k c b e) := by
  unfold State.burstEnd
  repeat' with_reducible first
    | exact h | apply Keeps.ite | apply State.modStep_keeps | apply State.readBlock_keeps | apply State.armNode_keeps
    | apply State.modNode_keeps | apply State.refuseStep_keeps | apply State.recordOpen_keeps | exact Keeps.refl _ | intro _
    | exact le_refl _ | exact rfl | split | apply Keeps.mk'

theorem State.learnR_keeps {a s : State} (h : Keeps a s) (n : Nat) (p : Pos) (fit : Fr × Fr × Fr) : Keeps a (State.learnR s n p fit) := by
  unfold State.learnR
  repeat' with_reducible first
    | exact h | apply Keeps.ite | apply State.putEntry_keeps | apply Keeps.foldl | exact Keeps.refl _ | intro _
    | exact le_refl _ | exact rfl | split | apply Keeps.mk'

theorem execSentinelFit_keeps (t : Nat) (str : Nat) (s : State) : ∃ u, execSentinelFit t str s = .next u ∧ Keeps s u := by
  refine ⟨_, rfl, ?_⟩
  repeat' with_reducible first
    | exact Keeps.refl _ | apply Keeps.ite | apply State.at_keeps | apply State.fresh_keeps | apply State.record_keeps
    | apply State.bump_keeps | apply State.learnR_keeps | apply State.outliers_keeps | apply State.modEst_keeps
    | apply Keeps.foldl | intro _ | exact le_refl _ | exact rfl | split | refine Keeps.snd (by assumption) ?_

end Sys2Proof.Machine
end

