-- ==== Sys2Proof/Laws/Keeps/NodeEnd.lean ====
section
/-! SUPPORT. What every command respects (`Keeps`), for the operations of Machine/NodeEnd.lean. -/

set_option linter.all false

namespace Sys2Proof.Machine
open Obj

theorem execFbTime_keeps (t : Nat) (str : Nat) (s : State) : ∃ u, execFbTime t str s = .next u ∧ Keeps s u := by
  refine ⟨_, rfl, ?_⟩
  repeat' with_reducible first
    | exact Keeps.refl _ | apply Keeps.ite | apply State.at_keeps | apply State.judgeCoil_keeps
    | apply State.openingDone_keeps | apply State.debugSettle_keeps | apply State.wireTests_keeps | apply State.wireRegs_keeps
    | intro _ | exact le_refl _ | exact rfl | split

theorem State.copyFail_keeps {a s : State} (h : Keeps a s) (n : Nat) (k : Nat) (cause : Nat) : Keeps a (State.copyFail s n k cause) := by
  unfold State.copyFail
  repeat' with_reducible first
    | exact h | apply State.modNode_keeps | exact Keeps.refl _ | intro _ | exact le_refl _ | exact rfl | apply Keeps.mk'

theorem State.fwEnd_keeps {a s : State} (h : Keeps a s) (n : Nat) (k : Nat) (code : Nat) (e : CmdEnd) : Keeps a (State.fwEnd s n k code e) := by
  unfold State.fwEnd
  repeat' with_reducible first
    | exact h | apply Keeps.ite | apply State.bootNode_keeps | apply State.copyChunk_keeps | apply State.modNode_keeps
    | apply State.wr_keeps | apply State.copyFail_keeps | apply State.sendBaton_keeps | apply State.copyNext_keeps
    | apply State.updateRegs_keeps | apply State.authNext_keeps | apply State.recordOpen_keeps | exact Keeps.refl _ | intro _
    | exact le_refl _ | exact rfl | split | dsimp only

theorem execNodeUpdated_keeps (t : Nat) (str : Nat) (node : Nat) (s : State) : ∃ u, execNodeUpdated t str node s = .next u ∧ Keeps s u := by
  refine ⟨_, rfl, ?_⟩
  repeat' with_reducible first
    | exact Keeps.refl _ | apply Keeps.ite | apply State.at_keeps | apply State.modNode_keeps | apply State.modRing_keeps
    | apply State.stamp_keeps | apply State.bump_keeps | apply State.wr_keeps | apply State.record_keeps
    | apply State.authNext_keeps | apply State.updateRegs_keeps | apply State.copyNext_keeps | intro _ | exact le_refl _
    | exact rfl | split | apply Keeps.mk'

theorem execNodeCopyFailed_keeps (t : Nat) (str : Nat) (node : Nat) (s : State) : ∃ u, execNodeCopyFailed t str node s = .next u ∧ Keeps s u := by
  refine ⟨_, rfl, ?_⟩
  repeat' with_reducible first
    | exact Keeps.refl _ | apply Keeps.ite | apply State.at_keeps | apply State.queueCmd_keeps | apply State.modNode_keeps
    | apply State.bootNode_keeps | apply State.modRing_keeps | apply State.stamp_keeps | apply State.bump_keeps
    | apply State.wr_keeps | apply State.record_keeps | apply State.updateRegs_keeps | apply State.copyNext_keeps | intro _
    | exact le_refl _ | exact rfl | split | apply Keeps.mk'

theorem State.nextSleep_keeps {a s : State} (h : Keeps a s) : Keeps a (State.nextSleep s) := by
  have hg : ∀ (l : List (Nat × Nat)) {a s : State}, Keeps a s → Keeps a (State.nextSleep.go l s) := by
    intro l
    induction l with
    | nil => intro a s h; exact Keeps.mk' h (le_refl _) rfl
    | cons x l ih =>
      intro a s h
      unfold State.nextSleep.go
      split
      · exact ih h
      · exact State.queueCmd_keeps (Keeps.mk' h (le_refl _) rfl) ..
  exact hg _ h

theorem State.sleepEnd_keeps {a s : State} (h : Keeps a s) (n : Nat) (k : Nat) (e : CmdEnd) : Keeps a (State.sleepEnd s n k e) := by
  unfold State.sleepEnd
  repeat' with_reducible first
    | exact h | apply Keeps.ite | apply State.nextSleep_keeps | exact le_refl _ | exact rfl | split | apply Keeps.mk'

theorem State.nodeReqEnd_keeps {a s : State} (h : Keeps a s) (n : Nat) (f : Nat) (node : Nat) (e : CmdEnd) : Keeps a (State.nodeReqEnd s n f node e) := by
  unfold State.nodeReqEnd
  repeat' with_reducible first
    | exact h | apply Keeps.ite | apply State.answer_keeps | apply State.failAnswer_keeps | apply Keeps.foldl
    | exact Keeps.refl _ | intro _ | exact le_refl _ | exact rfl | split | apply Keeps.mk'

theorem State.delayEnd_keeps {a s : State} (h : Keeps a s) (n : Nat) (k : Nat) (args : Bytes) (e : CmdEnd) : Keeps a (State.delayEnd s n k args e) := by
  unfold State.delayEnd
  repeat' with_reducible first
    | exact h | apply Keeps.ite | apply State.bump_keeps | apply State.wr_keeps | apply State.recordOpen_keeps | split

theorem State.ownerEnd_keeps {a s : State} (h : Keeps a s) (n : Nat) (c : NodeCmd) (e : CmdEnd) : Keeps a (State.ownerEnd s n c e) := by
  unfold State.ownerEnd
  repeat' with_reducible first
    | exact h | apply Keeps.ite | apply State.delayEnd_keeps | apply State.modRing_keeps | apply State.recordOpen_keeps
    | apply State.nodeReqEnd_keeps | apply State.thresholdsEnd_keeps | apply State.statusEnd_keeps
    | apply State.balanceEnd_keeps | apply State.wireEnd_keeps | apply State.releaseEnd_keeps | apply State.cmpTestEnd_keeps
    | apply State.certEnd_keeps | apply State.authEnd_keeps | apply State.armEnd_keeps | apply State.freezeEnd_keeps
    | apply State.burstEnd_keeps | apply State.sleepEnd_keeps | apply State.fwEnd_keeps | exact Keeps.refl _ | intro _
    | exact le_refl _ | exact rfl | split

theorem State.finishCmd_keeps {a s : State} (h : Keeps a s) (n : Nat) (c : NodeCmd) (e : CmdEnd) : Keeps a (State.finishCmd s n c e) := by
  unfold State.finishCmd
  repeat' with_reducible first
    | exact h | apply Keeps.ite | apply State.modRing_keeps | apply State.ownerEnd_keeps | apply State.pump_keeps
    | apply State.resumeJobs_keeps | exact Keeps.refl _ | intro _ | exact le_refl _ | exact rfl | split

end Sys2Proof.Machine
end

