-- ==== Sys2Proof/Laws/Keeps/StringConfig.lean ====
section
/-! SUPPORT. What every command respects (`Keeps`), for the operations of Machine/StringConfig.lean. -/

set_option linter.all false

namespace Sys2Proof.Machine
open Obj

theorem State.rateRefresh_keeps {a s : State} (h : Keeps a s) (n : Nat) : Keeps a (State.rateRefresh s n) := by
  unfold State.rateRefresh
  repeat' with_reducible first
    | exact h | apply Keeps.ite | apply State.sprintRefresh_keeps | apply State.wr_keeps | split

theorem State.nodeConfigured_keeps {a s : State} (h : Keeps a s) (n : Nat) : Keeps a (State.nodeConfigured s n) := by
  unfold State.nodeConfigured
  repeat' with_reducible first
    | exact h | apply Keeps.ite | apply State.wr_keeps | apply State.renumber_keeps | apply State.modNode_keeps
    | apply State.reassign_keeps | apply Keeps.foldl | exact Keeps.refl _ | intro _ | exact le_refl _ | exact rfl | split

theorem State.sentinelsMoved_keeps {a s : State} (h : Keeps a s) (n : Nat) : Keeps a (State.sentinelsMoved s n) := by
  unfold State.sentinelsMoved
  repeat' with_reducible first
    | exact h | apply Keeps.ite | apply State.wr_keeps | apply State.wrB_keeps | apply Keeps.foldl | exact Keeps.refl _
    | intro _ | exact le_refl _ | exact rfl | split

theorem State.sentinelsSet_keeps {a s : State} (h : Keeps a s) (o : State) (n : Nat) : Keeps a (State.sentinelsSet s o n) := by
  unfold State.sentinelsSet
  repeat' with_reducible first
    | exact h | apply Keeps.ite | apply State.sentinelsMoved_keeps | apply State.armNode_keeps | apply Keeps.foldl
    | exact Keeps.refl _ | intro _ | exact le_refl _ | exact rfl | split

theorem State.configured_keeps {a s : State} (h : Keeps a s) (o : State) (n : Nat) (objs : List Nat) : Keeps a (State.configured s o n objs) := by
  unfold State.configured
  repeat' with_reducible first
    | exact h | apply Keeps.ite | apply State.rateRefresh_keeps | apply State.nodeConfigured_keeps
    | apply State.sentinelsSet_keeps | apply State.compareEntries_keeps | exact Keeps.refl _ | intro _ | exact le_refl _
    | exact rfl | split

theorem State.refSwitch_keeps {a s : State} (h : Keeps a s) (n : Nat) (ref : Nat) : Keeps a (State.refSwitch s n ref) := by
  unfold State.refSwitch
  repeat' with_reducible first
    | exact h | apply State.wrB_keeps | apply State.wr_keeps | apply State.modFe_keeps | exact Keeps.refl _ | intro _
    | exact le_refl _ | exact rfl | apply Keeps.mk'

theorem State.calStored_keeps {a s : State} (h : Keeps a s) (n : Nat) (k : Nat) : Keeps a (State.calStored s n k) := by
  unfold State.calStored
  repeat' with_reducible first
    | exact h | apply Keeps.ite | apply State.stamp_keeps | apply State.wrB_keeps | apply State.record_keeps
    | apply State.extendSlot_keeps | split

theorem State.frontWritten_keeps {a s : State} (h : Keeps a s) (o : State) (n : Nat) (cs : List CellW) : Keeps a (State.frontWritten s o n cs) := by
  unfold State.frontWritten
  repeat' with_reducible first
    | exact h | apply Keeps.ite | apply State.refresh_keeps | apply State.record_keeps | apply State.refSwitch_keeps
    | apply State.imdSync_keeps | apply State.calStored_keeps | apply Keeps.foldl | exact Keeps.refl _ | intro _
    | exact le_refl _ | exact rfl | split | apply Keeps.mk'

theorem State.ownerRefresh_keeps {a s : State} (h : Keeps a s)  : Keeps a (State.ownerRefresh s) := by
  unfold State.ownerRefresh
  repeat' with_reducible first
    | exact h | apply Keeps.ite | apply State.wr_keeps | apply Keeps.foldl | exact Keeps.refl _ | intro _ | exact le_refl _
    | exact rfl | split

theorem State.stringWritten_keeps {a s : State} (h : Keeps a s) (o : State) (n : Nat) (cs : List CellW) : Keeps a (State.stringWritten s o n cs) := by
  unfold State.stringWritten
  repeat' with_reducible first
    | exact h | apply Keeps.ite | apply State.configured_keeps | apply State.frontWritten_keeps | apply State.refresh_keeps
    | apply State.ownerRefresh_keeps | apply State.updateRegs_keeps | exact Keeps.refl _ | intro _ | exact le_refl _
    | exact rfl | split

theorem State.profileNow_keeps {a s : State} (h : Keeps a s) (n : Nat) (b : Bytes) : Keeps a (State.profileNow s n b) := by
  unfold State.profileNow
  repeat' with_reducible first
    | exact h | apply State.refresh_keeps | apply State.thresholdsAll_keeps | apply State.setProfile_keeps

theorem State.closeRing_keeps {a s : State} (h : Keeps a s) (n : Nat) : Keeps a (State.closeRing s n) := by
  unfold State.closeRing
  repeat' with_reducible first
    | exact h | apply Keeps.ite | apply State.modRing_keeps | apply State.queueCmd_keeps | exact Keeps.refl _ | intro _
    | exact le_refl _ | exact rfl | split | apply Keeps.mk'

theorem State.restartNodes_keeps {a s : State} (h : Keeps a s) (n : Nat) : Keeps a (State.restartNodes s n) := by
  unfold State.restartNodes
  repeat' with_reducible first
    | exact h | apply Keeps.ite | apply State.queueCmd_keeps | apply Keeps.foldl | exact Keeps.refl _ | intro _
    | exact le_refl _ | exact rfl | split

theorem State.closeRequested_keeps {a s : State} (h : Keeps a s) (n : Nat) : Keeps a (State.closeRequested s n) := by
  unfold State.closeRequested
  repeat' with_reducible first
    | exact h | apply Keeps.ite | apply State.closeRing_keeps | exact Keeps.refl _ | intro _ | exact le_refl _ | exact rfl
    | split

theorem State.touchDue_keeps {a s : State} (h : Keeps a s) (n : Nat) (c : CellW) : Keeps a (State.touchDue s n c) := by
  unfold State.touchDue
  repeat' with_reducible first
    | exact h | apply Keeps.ite | apply State.closeRequested_keeps | apply State.restartNodes_keeps
    | apply State.putCells_keeps | exact Keeps.refl _ | intro _ | exact le_refl _ | exact rfl | split

theorem State.applyWait_keeps {a s : State} (h : Keeps a s) (n : Nat) : Keeps a (State.applyWait s n) := by
  unfold State.applyWait
  repeat' with_reducible first
    | exact h | apply Keeps.ite | apply State.profileNow_keeps | apply State.modStr_keeps | apply State.putCells_keeps
    | apply State.keepOld_keeps | apply State.stringWritten_keeps | apply State.touchDue_keeps | apply State.nodeReqEnd_keeps
    | apply Keeps.foldl | exact Keeps.refl _ | intro _ | exact le_refl _ | exact rfl | split

theorem State.staleDue_keeps {a s : State} (h : Keeps a s) (n : Nat) : Keeps a (State.staleDue s n) := by
  unfold State.staleDue
  repeat' with_reducible first
    | exact h | apply Keeps.ite | apply State.answer_keeps | apply State.modRing_keeps | apply Keeps.foldl
    | exact Keeps.refl _ | intro _ | exact le_refl _ | exact rfl | split

theorem State.waitDue_keeps {a s : State} (h : Keeps a s) (n : Nat) : Keeps a (State.waitDue s n) := by
  unfold State.waitDue
  repeat' with_reducible first
    | exact h | apply Keeps.ite | apply State.staleDue_keeps | apply State.applyWait_keeps | exact Keeps.refl _ | intro _
    | exact le_refl _ | exact rfl | split

end Sys2Proof.Machine
end

