-- ==== Sys2Proof/Laws/Keeps/LapEngine.lean ====
section
/-! SUPPORT. What every command respects (`Keeps`), for the operations of Machine/LapEngine.lean. -/

set_option linter.all false

namespace Sys2Proof.Machine
open Obj

theorem State.buildAll_keeps {a s : State} (h : Keeps a s) (n : Nat) : Keeps a (State.buildAll s n) := by
  unfold State.buildAll
  repeat' with_reducible first
    | exact h | apply Keeps.ite | apply State.underOld_keeps | apply State.buildResult_keeps | apply Keeps.foldl
    | exact Keeps.refl _ | intro _ | exact le_refl _ | exact rfl | split

theorem State.placeNode_keeps {a s : State} (h : Keeps a s) (o : State) (n : Nat) (j : Job) (i : Nat) (x : TNode)
    (pos : Option Nat) : Keeps a (State.placeNode o n j i x pos s) := by
  unfold State.placeNode
  extract_lets src c keepO objs1 objs2 s1 old s2 s3 first s4 s5 s6 s7 s8 s9 s10 s11 s12 s13 s14 s15 s16 delay
  clear_value src
  have h1 : Keeps a s1 := h.objs _ fun i => by
    have k1 : objs1.sorted = true := by
      unfold objs1; split
      · exact Store.copyInst_sorted i ..
      · exact i
    unfold objs2; split
    · exact Store.copyInst_sorted k1 ..
    · exact k1
  have h2 : Keeps a s2 := Keeps.ite h1 (State.wr_keeps h1 ..)
  have h3 : Keeps a s3 := Keeps.ite h2 (State.wrB_keeps h2 ..)
  have h4 : Keeps a s4 := State.wr_keeps (State.wr_keeps h3 ..) ..
  have h5 : Keeps a s5 := State.wr_keeps (State.wr_keeps h4 ..) ..
  have h6 : Keeps a s6 := State.wr_keeps (State.wr_keeps h5 ..) ..
  have h7 : Keeps a s7 := State.wr_keeps (State.wr_keeps h6 ..) ..
  have h8 : Keeps a s8 := State.wr_keeps (State.wr_keeps h7 ..) ..
  have h9 : Keeps a s9 := State.wr_keeps (State.wrB_keeps h8 ..) ..
  have h10 : Keeps a s10 := State.wr_keeps (State.wr_keeps h9 ..) ..
  have h11 : Keeps a s11 := State.wr_keeps (State.wr_keeps h10 ..) ..
  have h12 : Keeps a s12 := State.wrB_keeps (State.wr_keeps h11 ..) ..
  have h13 : Keeps a s13 := State.wrB_keeps h12 ..
  have h14 : Keeps a s14 := State.wr_keeps h13 ..
  have h15 : Keeps a s15 := State.wr_keeps h14 ..
  have h16 : Keeps a s16 := State.wr_keeps (State.wrB_keeps h15 ..) ..
  exact State.wr_keeps (State.wr_keeps h16 ..) ..

theorem State.staleCmds_keeps {a s : State} (h : Keeps a s) (n : Nat) : Keeps a (State.staleCmds s n) := by
  unfold State.staleCmds
  repeat' with_reducible first
    | exact h | apply Keeps.ite | apply State.modRing_keeps | apply State.modWire_keeps | apply State.wireEnd_keeps
    | apply State.releaseEnd_keeps | apply State.refuseStep_keeps | apply State.sleepEnd_keeps | apply State.nodeReqEnd_keeps
    | apply Keeps.foldl | exact Keeps.refl _ | intro _ | exact le_refl _ | exact rfl | split

theorem State.applyEpoch_keeps {a s : State} (h : Keeps a s) (n : Nat) (j : Job) (nom : Nat) : Keeps a (State.applyEpoch s n j nom) := by
  unfold State.applyEpoch
  extract_lets s1 o first oldCnt prev
  have h1 : Keeps a s1 := State.staleCmds_keeps (State.modRing_keeps (State.staleDue_keeps (State.buildAll_keeps h ..) ..) ..) ..
  split
  next nums total ov hnum =>
  extract_lets cnt objs s2 s3 s4 s5 s6 s7 s8 s9 rn s10 ps s11 s12 lost
  have h2 : Keeps a s2 := h1.objs objs fun i => Store.foldl_sorted _ _
    (fun _ _ k => Store.clearInst_sorted (Store.clearInst_sorted k ..) ..) (Store.clearInst_sorted i ..)
  have h3 : Keeps a s3 := h2.foldl _ _ fun v x => State.placeNode_keeps (Keeps.refl _) ..
  have h4 : Keeps a s4 := State.wr_keeps (State.wr_keeps h3 ..) ..
  have h5 : Keeps a s5 := State.wr_keeps (State.wr_keeps h4 ..) ..
  have h6 : Keeps a s6 := State.wr_keeps (State.wr_keeps h5 ..) ..
  have h7 : Keeps a s7 := State.wr_keeps (State.wr_keeps h6 ..) ..
  have h8 : Keeps a s8 := State.wrB_keeps h7 ..
  have h9 : Keeps a s9 := State.wr_keeps h8 ..
  have h10 : Keeps a s10 := State.modRing_keeps h9 ..
  have h11 : Keeps a s11 := State.modEst_keeps h10 ..
  have h12 : Keeps a s12 := State.modProt_keeps h11 ..
  clear_value s12 s2
  split
  next st a b hseg =>
  extract_lets un same t1 t2 t3 t4 t5 t6 t6b t7 t8 t9
  have g1 : Keeps _ t1 := Keeps.ite (h12.foldl _ _ fun v x => State.wr_keeps (Keeps.refl _) ..) (State.setSegments_keeps h12 ..)
  have g2 : Keeps _ t2 := g1.foldl _ _ fun v x => State.wr_keeps (Keeps.refl _) ..
  have g3 : Keeps _ t3 := State.wr_keeps g2 ..
  have g4 : Keeps _ t4 := State.setDiag_keeps (State.wrB_keeps g3 ..) ..
  have g5 : Keeps _ t5 := Keeps.ite g4 (State.bump_keeps g4 ..)
  have g6 : Keeps _ t6 := State.unuseEntries_keeps g5 ..
  have g6b : Keeps _ t6b := g6.foldl _ _ fun v x => Keeps.ite (State.authEntries_keeps (Keeps.refl _) ..) (Keeps.refl _)
  have g7 : Keeps _ t7 := State.wireRegs_keeps (State.sentinelsMoved_keeps g6b ..) ..
  have g8 : Keeps _ t8 := g7.foldl _ _ fun v x => Keeps.ite (State.wr_keeps (Keeps.refl _) ..) (Keeps.refl _)
  have g9 : Keeps _ t9 := State.modStr_keeps g8 ..
  exact State.nodeDiags_keeps (State.modEst_keeps g9 ..) ..

theorem State.epochBegun_keeps {a s : State} (h : Keeps a s) (n : Nat) : Keeps a (State.epochBegun s n) := by
  unfold State.epochBegun
  repeat' with_reducible first
    | exact h | apply Keeps.ite | apply State.thresholdsAll_keeps | apply State.armNode_keeps | apply State.authNext_keeps
    | apply State.updateRegs_keeps | apply State.pump_keeps | apply State.resumeJobs_keeps | apply Keeps.foldl
    | exact Keeps.refl _ | intro _ | exact le_refl _ | exact rfl | split

theorem State.reachPhase_keeps {a s : State} (h : Keeps a s) (k : Nat) : Keeps a (State.reachPhase s k) := by
  unfold State.reachPhase
  repeat' with_reducible first
    | exact h | apply Keeps.ite | apply State.setPhase_keeps | split

theorem State.fireLap_keeps {a s : State} (h : Keeps a s) (n : Nat) (f : Nat) (j : Nat) (nom : Nat) (lead : Nat) (raised : Bool) (newEpoch : Bool) : Keeps a (State.fireLap s n f j nom lead raised newEpoch) := by
  unfold State.fireLap
  repeat' with_reducible first
    | exact h | apply Keeps.ite | apply State.modLaps_keeps | apply State.bump_keeps | apply State.wr_keeps
    | apply State.wrB_keeps | apply State.sendSample_keeps | apply State.nameInstant_keeps | apply State.modNode_keeps
    | apply State.startTelegrams_keeps | apply State.reachPhase_keeps | apply State.sprintCheck_keeps
    | apply State.restoreCheck_keeps | apply Keeps.foldl | exact Keeps.refl _ | intro _ | exact le_refl _ | exact rfl | split

theorem State.lapCounts_keeps {a s : State} (h : Keeps a s) (n : Nat) (x : Lap) (flags : Nat) : Keeps a (State.lapCounts s n x flags) := by
  unfold State.lapCounts
  repeat' with_reducible first
    | exact h | apply Keeps.ite | apply State.bump_keeps | apply State.wr_keeps | apply State.wrB_keeps
    | apply State.modLaps_keeps | exact Keeps.refl _ | intro _ | exact le_refl _ | exact rfl | split | apply Keeps.mk'

theorem State.replays_keeps {a s : State} (h : Keeps a s) (n : Nat) (x : Lap) : Keeps a (State.replays s n x) := by
  unfold State.replays
  repeat' with_reducible first
    | exact h | apply Keeps.ite | apply State.bump_keeps | exact Keeps.refl _ | intro _ | exact le_refl _ | exact rfl | split

theorem State.completeLap_keeps {a s : State} (h : Keeps a s) (str : Nat) (x : Lap) (whole : Nat) : Keeps a (State.completeLap s str x whole) := by
  unfold State.completeLap
  repeat' with_reducible first
    | exact h | apply Keeps.ite | apply State.underOld_keeps | apply State.modLap_keeps | apply State.blankAll_keeps
    | apply State.modEst_keeps | apply State.lapNode_keeps | apply State.wireRegs_keeps | apply State.nodeDiags_keeps
    | apply State.wireTests_keeps | apply State.classifyTrip_keeps | apply State.lapCounts_keeps | apply State.checkLap_keeps
    | apply State.buildAll_keeps | apply State.learnDue_keeps | apply State.stepLap_keeps | apply State.filterLap_keeps
    | apply State.replays_keeps | apply State.modStr_keeps | apply Keeps.foldl | exact Keeps.refl _ | intro _
    | exact le_refl _ | exact rfl | split

theorem State.endLaps_keeps {a s : State} (h : Keeps a s) (n : Nat) : Keeps a (State.endLaps s n) := by
  unfold State.endLaps
  repeat' with_reducible first
    | exact h | apply Keeps.ite | apply State.modLap_keeps | apply State.completeLap_keeps | apply Keeps.foldl
    | exact Keeps.refl _ | intro _ | exact le_refl _ | exact rfl | split | dsimp only

theorem execLapFire_keeps (t : Nat) (str : Nat) (tNom : Nat) (s : State) : ∃ u, execLapFire t str tNom s = .next u ∧ Keeps s u := by
  refine ⟨_, rfl, ?_⟩
  repeat' with_reducible first
    | exact Keeps.refl _ | apply Keeps.ite | apply State.at_keeps | apply State.waitDue_keeps | apply State.endLaps_keeps
    | apply State.applyEpoch_keeps | apply State.bump_keeps | apply State.modLaps_keeps | apply State.fireLap_keeps
    | apply State.epochBegun_keeps | apply State.drain_keeps | intro _ | exact le_refl _ | exact rfl | split

theorem execCollect_keeps (t : Nat) (str : Nat) (port : Nat) (s : State) : ∃ u, execCollect t str port s = .next u ∧ Keeps s u := by
  refine ⟨_, rfl, ?_⟩
  repeat' with_reducible first
    | exact Keeps.refl _ | apply Keeps.ite | apply State.at_keeps | apply State.waitDue_keeps | apply State.modLap_keeps
    | apply State.modRing_keeps | apply State.wrB_keeps | apply State.enumerateInSlot_keeps | apply State.sendCollect_keeps
    | apply State.drain_keeps | intro _ | exact le_refl _ | exact rfl | split

theorem execCollectionCutoff_keeps (t : Nat) (str : Nat) (s : State) : ∃ u, execCollectionCutoff t str s = .next u ∧ Keeps s u := by
  refine ⟨_, rfl, ?_⟩
  repeat' with_reducible first
    | exact Keeps.refl _ | apply Keeps.ite | apply State.at_keeps | apply State.modLap_keeps | intro _ | exact le_refl _
    | exact rfl | split | apply Keeps.mk'

theorem execChargeArrival_keeps (t : Nat) (str : Nat) (ahead : Nat) (s : State) : ∃ u, execChargeArrival t str ahead s = .next u ∧ Keeps s u := by
  refine ⟨_, rfl, ?_⟩
  repeat' with_reducible first
    | exact Keeps.refl _ | apply Keeps.ite | apply State.at_keeps | apply State.modStr_keeps | apply State.modLap_keeps
    | apply State.modEst_keeps | apply State.lapCheck_keeps | intro _ | exact le_refl _ | exact rfl | split | apply Keeps.mk'

theorem execFalseStartSecond_keeps (t : Nat) (str : Nat) (s : State) : ∃ u, execFalseStartSecond t str s = .next u ∧ Keeps s u := by
  refine ⟨_, rfl, ?_⟩
  repeat' with_reducible first
    | exact Keeps.refl _ | apply Keeps.ite | apply State.at_keeps | apply State.wr_keeps | apply State.bump_keeps
    | apply State.record_keeps | apply State.modEst_keeps | intro _ | exact le_refl _ | exact rfl | split

theorem execShadowCheck_keeps (t : Nat) (str : Nat) (same : Bool) (s : State) : ∃ u, execShadowCheck t str same s = .next u ∧ Keeps s u := by
  refine ⟨_, rfl, ?_⟩
  repeat' with_reducible first
    | exact Keeps.refl _ | apply Keeps.ite | apply State.at_keeps | apply State.modEst_keeps | apply State.bump_keeps
    | apply State.wrB_keeps | apply State.record_keeps | intro _ | exact le_refl _ | exact rfl | split

end Sys2Proof.Machine
end

