-- ==== Sys2Proof/Laws/Keeps/RingRecv.lean ====
section
/-! SUPPORT. What every command respects (`Keeps`), for the operations of Machine/RingRecv.lean. -/

set_option linter.all false

namespace Sys2Proof.Machine
open Obj

theorem State.modCmd_keeps {a s : State} (h : Keeps a s) (n : Nat) (k : Nat) (f : NodeCmd → NodeCmd) : Keeps a (State.modCmd s n k f) := by
  unfold State.modCmd
  repeat' with_reducible first
    | exact h | apply Keeps.ite | apply State.modRing_keeps | exact Keeps.refl _ | intro _ | exact le_refl _ | exact rfl
    | split | apply Keeps.mk'

theorem State.takeResponse_keeps {a s : State} (h : Keeps a s) (n : Nat) (k : Nat) (d : Bytes) : Keeps a (State.takeResponse s n k d) := by
  unfold State.takeResponse
  repeat' with_reducible first
    | exact h | apply Keeps.ite | apply State.wr_keeps | apply State.setSeqFault_keeps | apply State.nodeDiags_keeps
    | apply State.finishCmd_keeps | apply State.bump_keeps | apply State.modCmd_keeps | apply State.sendFetch_keeps
    | exact Keeps.refl _ | intro _ | exact le_refl _ | exact rfl | split | dsimp only

theorem State.takeResult_keeps {a s : State} (h : Keeps a s) (n : Nat) (k : Nat) (d : Bytes) : Keeps a (State.takeResult s n k d) := by
  unfold State.takeResult
  repeat' with_reducible first
    | exact h | apply Keeps.ite | apply State.finishCmd_keeps | apply State.modCmd_keeps | exact Keeps.refl _ | intro _
    | exact le_refl _ | exact rfl | split | apply Keeps.mk'

theorem State.dropNodeFlights_keeps {a s : State} (h : Keeps a s) (n : Nat) (k : Nat) : Keeps a (State.dropNodeFlights s n k) := by
  unfold State.dropNodeFlights
  repeat' with_reducible first
    | exact h | apply State.modRing_keeps | exact Keeps.refl _ | intro _ | exact le_refl _ | exact rfl | apply Keeps.mk'

theorem State.assignMissing_keeps {a s : State} (h : Keeps a s) (n : Nat) (j : Job) : Keeps a (State.assignMissing s n j) := by
  unfold State.assignMissing
  repeat' with_reducible first
    | exact h | apply Keeps.ite | apply State.nextAssign_keeps | apply State.modJob_keeps | exact Keeps.refl _ | intro _
    | exact le_refl _ | exact rfl | split | apply Keeps.mk'

theorem execCmdTimeout_keeps (t : Nat) (str : Nat) (node : Nat) (s : State) : ∃ u, execCmdTimeout t str node s = .next u ∧ Keeps s u := by
  refine ⟨_, rfl, ?_⟩
  repeat' with_reducible first
    | exact Keeps.refl _ | apply Keeps.ite | apply State.at_keeps | apply State.drain_keeps
    | apply State.dropNodeFlights_keeps | apply State.assignMissing_keeps | apply State.modCmd_keeps
    | apply State.sendCmd_keeps | apply State.sendFetch_keeps | apply State.bump_keeps | apply State.finishCmd_keeps | intro _
    | exact le_refl _ | exact rfl | split

theorem execResultFetch_keeps (t : Nat) (str : Nat) (node : Nat) (s : State) : ∃ u, execResultFetch t str node s = .next u ∧ Keeps s u := by
  refine ⟨_, rfl, ?_⟩
  repeat' with_reducible first
    | exact Keeps.refl _ | apply Keeps.ite | apply State.at_keeps | apply State.sendFetch_keeps | apply State.modCmd_keeps
    | intro _ | exact le_refl _ | exact rfl | split | apply Keeps.mk'

theorem State.enumLost_keeps {a s : State} (h : Keeps a s) (n : Nat) : Keeps a (State.enumLost s n) := by
  unfold State.enumLost
  repeat' with_reducible first
    | exact h | apply Keeps.ite | apply State.modRing_keeps | apply State.wrB_keeps | apply State.resumeJobs_keeps
    | exact Keeps.refl _ | intro _ | exact le_refl _ | exact rfl | split

theorem State.enumHeard_keeps {a s : State} (h : Keeps a s) (n : Nat) (port : Nat) (l : List TNode) (through : Bool) : Keeps a (State.enumHeard s n port l through) := by
  unfold State.enumHeard
  repeat' with_reducible first
    | exact h | apply Keeps.ite | apply State.modRing_keeps | apply State.decideEnum_keeps | exact Keeps.refl _ | intro _
    | exact le_refl _ | exact rfl | split | apply Keeps.mk'

theorem State.enumFrom_keeps {a s : State} (h : Keeps a s) (n : Nat) (port : Nat) : Keeps a (State.enumFrom s n port) := by
  unfold State.enumFrom
  repeat' with_reducible first
    | exact h | apply Keeps.ite | apply State.startEnum_keeps | split

theorem State.takeIdentity_keeps {a s : State} (h : Keeps a s) (n : Nat) (k : Nat) (d : Bytes) : Keeps a (State.takeIdentity s n k d) := by
  unfold State.takeIdentity
  repeat' with_reducible first
    | exact h | apply Keeps.ite | apply State.enumFrom_keeps | apply State.modNode_keeps | apply State.wr_keeps
    | apply State.linkBreak_keeps | apply State.jointCheck_keeps | apply State.reassign_keeps | exact Keeps.refl _ | intro _
    | exact le_refl _ | exact rfl | split

theorem State.jobProbed_keeps {a s : State} (h : Keeps a s) (n : Nat) (j : Job) (d : Nat) : Keeps a (State.jobProbed s n j d) := by
  unfold State.jobProbed
  repeat' with_reducible first
    | exact h | apply Keeps.ite | apply State.modRing_keeps | apply State.beginAssign_keeps | apply State.jobProbe_keeps
    | exact Keeps.refl _ | intro _ | exact le_refl _ | exact rfl | split | apply Keeps.mk'

theorem State.jobProbeLost_keeps {a s : State} (h : Keeps a s) (n : Nat) (j : Job) : Keeps a (State.jobProbeLost s n j) := by
  unfold State.jobProbeLost
  repeat' with_reducible first
    | exact h | apply Keeps.ite | apply State.modRing_keeps | apply State.beginAssign_keeps | apply State.jobProbe_keeps
    | exact Keeps.refl _ | intro _ | exact le_refl _ | exact rfl | split | apply Keeps.mk'

theorem State.roundProbed_keeps {a s : State} (h : Keeps a s) (n : Nat) (port : Nat) (k : Nat) (d : Nat) : Keeps a (State.roundProbed s n port k d) := by
  unfold State.roundProbed
  repeat' with_reducible first
    | exact h | apply Keeps.ite | apply State.sendProbe_keeps | apply State.modNode_keeps | apply State.queueCmd_keeps
    | exact le_refl _ | exact rfl | split | apply Keeps.mk'

theorem State.takeProbe_keeps {a s : State} (h : Keeps a s) (n : Nat) (port : Nat) (k : Nat) (rtt : Nat) : Keeps a (State.takeProbe s n port k rtt) := by
  unfold State.takeProbe
  repeat' with_reducible first
    | exact h | apply Keeps.ite | apply State.jobProbed_keeps | apply State.roundProbed_keeps | exact Keeps.refl _ | intro _
    | exact le_refl _ | exact rfl | split

theorem State.probeLost_keeps {a s : State} (h : Keeps a s) (n : Nat) (port : Nat) (k : Nat) : Keeps a (State.probeLost s n port k) := by
  unfold State.probeLost
  repeat' with_reducible first
    | exact h | apply Keeps.ite | apply State.jobProbeLost_keeps | apply State.modNode_keeps | exact Keeps.refl _ | intro _
    | exact le_refl _ | exact rfl | split

theorem State.assignAnswered_keeps {a s : State} (h : Keeps a s) (n : Nat) (j : Job) : Keeps a (State.assignAnswered s n j) := by
  unfold State.assignAnswered
  repeat' with_reducible first
    | exact h | apply Keeps.ite | apply State.wr_keeps | apply State.wrB_keeps | apply State.modNode_keeps
    | apply State.sendThresholds_keeps | apply State.modJob_keeps | apply State.nextAssign_keeps | apply State.nodeDiags_keeps
    | exact Keeps.refl _ | intro _ | exact le_refl _ | exact rfl | split

theorem State.takeBaton_keeps {a s : State} (h : Keeps a s) (n : Nat) (left : Nat) (port : Nat) (bytes : Bytes) (bs : List (Nat × Nat × Bytes)) (rtt : Nat) (timely : Bool) (cut : Bool) : Keeps a (State.takeBaton s n left port bytes bs rtt timely cut) := by
  unfold State.takeBaton
  repeat' with_reducible first
    | exact h | apply Keeps.ite | apply State.modRing_keeps | apply State.setSegments_keeps | apply State.takeRecord_keeps
    | apply State.retryCollect_keeps | apply State.assignAnswered_keeps | apply State.takeResponse_keeps
    | apply State.takeResult_keeps | apply State.enumLost_keeps | apply State.enumHeard_keeps | apply State.enumFrom_keeps
    | apply State.takeIdentity_keeps | apply State.takeProbe_keeps | apply State.probeLost_keeps | apply Keeps.foldl
    | exact Keeps.refl _ | intro _ | exact le_refl _ | exact rfl | split

theorem execBatonReceived_keeps (t : Nat) (str : Nat) (port : Nat) (bytes : Bytes) (aborted : Bool) (rtt : Nat) (s : State) : ∃ u, execBatonReceived t str port bytes aborted rtt s = .next u ∧ Keeps s u := by
  refine ⟨_, rfl, ?_⟩
  repeat' with_reducible first
    | exact Keeps.refl _ | apply Keeps.ite | apply State.at_keeps | apply State.bump_keeps | apply State.lateSample_keeps
    | apply State.modRing_keeps | apply State.wr_keeps | apply State.turnBreak_keeps | apply State.takeBaton_keeps
    | apply State.drain_keeps | apply Keeps.foldl | intro _ | exact le_refl _ | exact rfl | split

theorem execReturnMissing_keeps (t : Nat) (str : Nat) (port : Nat) (kind : Nat) (s : State) : ∃ u, execReturnMissing t str port kind s = .next u ∧ Keeps s u := by
  refine ⟨_, rfl, ?_⟩
  repeat' with_reducible first
    | exact Keeps.refl _ | apply Keeps.ite | apply State.at_keeps | apply State.modRing_keeps | apply State.bump_keeps
    | apply State.lateSample_keeps | apply State.missingBreak_keeps | apply State.retryCollect_keeps
    | apply State.enumHeard_keeps | apply State.enumLost_keeps | apply State.probeLost_keeps | apply State.drain_keeps
    | intro _ | exact le_refl _ | exact rfl | split

theorem execRingPortLineLost_keeps (t : Nat) (str : Nat) (port : Nat) (seen : LineSeen) (s : State) : ∃ u, execRingPortLineLost t str port seen s = .next u ∧ Keeps s u := by
  refine ⟨_, rfl, ?_⟩
  repeat' with_reducible first
    | exact Keeps.refl _ | apply Keeps.ite | apply State.at_keeps | apply State.bump_keeps | apply State.modRing_keeps
    | apply State.wrB_keeps | apply State.send_keeps | apply State.lateSample_keeps | apply State.portBreak_keeps
    | apply State.jointCheck_keeps | intro _ | exact le_refl _ | exact rfl | split

theorem execRingPortLinkReady_keeps (t : Nat) (str : Nat) (line : PortLine) (s : State) : ∃ u, execRingPortLinkReady t str line s = .next u ∧ Keeps s u := by
  refine ⟨_, rfl, ?_⟩
  repeat' with_reducible first
    | exact Keeps.refl _ | apply Keeps.ite | apply State.at_keeps | apply State.wrB_keeps | apply State.modRing_keeps
    | apply State.send_keeps | apply State.jointCheck_keeps | intro _ | exact le_refl _ | exact rfl | split

theorem State.sendRollCall_keeps {a s : State} (h : Keeps a s) (n : Nat) (k : Nat) : Keeps a (State.sendRollCall s n k) := by
  unfold State.sendRollCall
  repeat' with_reducible first
    | exact h | apply Keeps.ite | apply State.sendBaton_keeps | exact Keeps.refl _ | intro _ | exact le_refl _ | exact rfl
    | split

theorem execIncrementalRound_keeps (t : Nat) (str : Nat) (s : State) : ∃ u, execIncrementalRound t str s = .next u ∧ Keeps s u := by
  refine ⟨_, rfl, ?_⟩
  repeat' with_reducible first
    | exact Keeps.refl _ | apply Keeps.ite | apply State.at_keeps | apply State.modRing_keeps | apply State.modNode_keeps
    | apply State.enumFrom_keeps | apply State.sendEnumerate_keeps | apply State.sendRollCall_keeps
    | apply State.readStatus_keeps | apply State.sendProbe_keeps | apply State.reassign_keeps | apply State.jointCheck_keeps
    | apply State.stamp_keeps | apply State.thresholdsDue_keeps | apply State.drain_keeps | apply Keeps.foldl | intro _
    | exact le_refl _ | exact rfl | split

theorem execEnumerationComplete_keeps (t : Nat) (str : Nat) (s : State) : ∃ u, execEnumerationComplete t str s = .next u ∧ Keeps s u := by
  refine ⟨_, rfl, ?_⟩
  repeat' with_reducible first
    | exact Keeps.refl _ | apply Keeps.ite | apply State.at_keeps | apply State.decideEnum_keeps
    | apply State.reachPhase_keeps | intro _ | exact le_refl _ | exact rfl | split | apply Keeps.mk'

theorem execNewEpoch_keeps (t : Nat) (str : Nat) (s : State) : ∃ u, execNewEpoch t str s = .next u ∧ Keeps s u := by
  refine ⟨_, rfl, ?_⟩
  repeat' with_reducible first
    | exact Keeps.refl _ | apply Keeps.ite | apply State.at_keeps | apply State.modRing_keeps | apply State.beginAssign_keeps
    | apply State.jobProbe_keeps | intro _ | exact le_refl _ | exact rfl | split | apply Keeps.mk'

theorem execRingClose_keeps (t : Nat) (str : Nat) (s : State) : ∃ u, execRingClose t str s = .next u ∧ Keeps s u := by
  refine ⟨_, rfl, ?_⟩
  repeat' with_reducible first
    | exact Keeps.refl _ | apply Keeps.ite | apply State.at_keeps | apply State.jointCheck_keeps | apply State.closeRing_keeps
    | split

end Sys2Proof.Machine
end

