-- ==== Sys2Proof/Laws/Keeps/FrontEnd.lean ====
section
/-! SUPPORT. What every command respects (`Keeps`), for the operations of Machine/FrontEnd.lean. -/

set_option linter.all false

namespace Sys2Proof.Machine
open Obj

theorem State.overCurrent_keeps {a s : State} (h : Keeps a s) (n : Nat) (i : Int) (clip : Bool) (at_ : Nat) : Keeps a (State.overCurrent s n i clip at_) := by
  unfold State.overCurrent
  repeat' with_reducible first
    | exact h | apply Keeps.ite | apply State.modProt_keeps | apply State.trip_keeps | exact Keeps.refl _ | intro _
    | exact le_refl _ | exact rfl | split | apply Keeps.mk'

theorem State.secondMean_keeps {a s : State} (h : Keeps a s) (n : Nat) (centre : Nat) (i : Int) : Keeps a (State.secondMean s n centre i) := by
  unfold State.secondMean
  repeat' with_reducible first
    | exact h | apply Keeps.ite | apply State.modFe_keeps | apply State.wrI_keeps | exact Keeps.refl _ | intro _
    | exact le_refl _ | exact rfl | split | apply Keeps.mk'

theorem State.shotRefer_keeps {a s : State} (h : Keeps a s) (n : Nat) : Keeps a (State.shotRefer s n) := by
  unfold State.shotRefer
  repeat' with_reducible first
    | exact h | apply Keeps.ite | apply State.modStr_keeps | exact Keeps.refl _ | intro _ | exact le_refl _ | exact rfl
    | split

theorem execCoulombSample_keeps (t : Nat) (str : Nat) (raw : Int) (s : State) : ∃ u, execCoulombSample t str raw s = .next u ∧ Keeps s u := by
  refine ⟨_, rfl, ?_⟩
  repeat' with_reducible first
    | exact Keeps.refl _ | apply Keeps.ite | apply State.at_keeps | apply State.modFe_keeps | apply State.wr_keeps
    | apply State.wrI_keeps | apply State.wrB_keeps | apply State.bump_keeps | apply State.record_keeps
    | apply State.secondMean_keeps | apply State.overCurrent_keeps | apply State.shotRefer_keeps | intro _ | exact le_refl _
    | exact rfl | split

theorem execLapCurrentFrame_keeps (t : Nat) (str : Nat) (ok1 : Bool) (ok2 : Bool) (s : State) : ∃ u, execLapCurrentFrame t str ok1 ok2 s = .next u ∧ Keeps s u := by
  refine ⟨_, rfl, ?_⟩
  repeat' with_reducible first
    | exact Keeps.refl _ | apply Keeps.ite | apply State.at_keeps | apply State.modFe_keeps | apply State.bump_keeps | intro _
    | exact le_refl _ | exact rfl | split

theorem execWarmupEnd_keeps (t : Nat) (str : Nat) (s : State) : ∃ u, execWarmupEnd t str s = .next u ∧ Keeps s u := by
  refine ⟨_, rfl, ?_⟩
  repeat' with_reducible first
    | exact Keeps.refl _ | apply Keeps.ite | apply State.at_keeps | apply State.wr_keeps | apply State.wrB_keeps | split

theorem execRefSettled_keeps (t : Nat) (str : Nat) (s : State) : ∃ u, execRefSettled t str s = .next u ∧ Keeps s u := by
  refine ⟨_, rfl, ?_⟩
  repeat' with_reducible first
    | exact Keeps.refl _ | apply Keeps.ite | apply State.at_keeps | apply State.modFe_keeps | apply State.wrB_keeps | intro _
    | exact le_refl _ | exact rfl | split | apply Keeps.mk'

theorem State.seqConsumers_keeps {a s : State} (h : Keeps a s) (n : Nat) (e : Nat) (v : Int) : Keeps a (State.seqConsumers s n e v) := by
  unfold State.seqConsumers
  repeat' with_reducible first
    | exact h | apply Keeps.ite | apply State.wr_keeps | apply State.coilCurrent_keeps | apply State.trip_keeps
    | apply State.precharged_keeps | exact Keeps.refl _ | intro _ | exact le_refl _ | exact rfl | split

theorem State.seqPass_keeps {a s : State} (h : Keeps a s) (n : Nat) : Keeps a (State.seqPass s n) := by
  unfold State.seqPass
  repeat' with_reducible first
    | exact h | apply Keeps.ite | apply State.bump_keeps | apply State.wr_keeps | apply State.wrB_keeps
    | apply State.modFe_keeps | apply Keeps.foldl | exact Keeps.refl _ | intro _ | exact le_refl _ | exact rfl | split
    | apply Keeps.mk'

theorem execSequencerEntry_keeps (t : Nat) (str : Nat) (convs : List (Nat × Int)) (s : State) : ∃ u, execSequencerEntry t str convs s = .next u ∧ Keeps s u := by
  refine ⟨_, rfl, ?_⟩
  repeat' with_reducible first
    | exact Keeps.refl _ | apply Keeps.ite | apply State.at_keeps | apply State.wr_keeps | apply State.wrI_keeps
    | apply State.wrB_keeps | apply State.modFe_keeps | apply State.seqConsumers_keeps | apply State.seqPass_keeps | intro _
    | exact le_refl _ | exact rfl | split

theorem State.injRun_keeps {a s : State} (h : Keeps a s) (n : Nat) (count : Nat) (aborted : Bool) : Keeps a (State.injRun s n count aborted) := by
  unfold State.injRun
  repeat' with_reducible first
    | exact h | apply Keeps.ite | apply State.bump_keeps | apply State.modFe_keeps | exact Keeps.refl _ | intro _
    | exact le_refl _ | exact rfl | split

theorem State.injWindow_keeps {a s : State} (h : Keeps a s) (n : Nat) : Keeps a (State.injWindow s n) := by
  unfold State.injWindow
  repeat' with_reducible first
    | exact h | apply Keeps.ite | apply State.modFe_keeps | apply State.injRun_keeps | apply Keeps.foldl | exact Keeps.refl _
    | intro _ | exact le_refl _ | exact rfl | split

theorem State.injProt_keeps {a s : State} (h : Keeps a s) (n : Nat) (input : Nat) (count : Nat) (aborted : Bool) : Keeps a (State.injProt s n input count aborted) := by
  unfold State.injProt
  repeat' with_reducible first
    | exact h | apply Keeps.ite | apply State.injWindow_keeps | apply State.modFe_keeps | apply State.injRun_keeps
    | exact Keeps.refl _ | intro _ | exact le_refl _ | exact rfl | split

theorem State.injRequest_keeps {a s : State} (h : Keeps a s) (n : Nat) (src : Nat) (who : Nat) (input : Nat) (count : Nat) : Keeps a (State.injRequest s n src who input count).1 := by
  unfold State.injRequest
  dsimp only
  repeat' with_reducible first
    | exact h | apply Keeps.ite | apply State.injWindow_keeps | apply State.wrB_keeps | apply State.bump_keeps
    | apply State.modFe_keeps | exact Keeps.refl _ | intro _ | exact le_refl _ | exact rfl | split | apply Keeps.mk'

theorem State.calEnd_keeps {a s : State} (h : Keeps a s) (n : Nat) (st : Nat) : Keeps a (State.calEnd s n st) := by
  unfold State.calEnd
  repeat' with_reducible first
    | exact h | apply State.answerOpt_keeps | apply State.modFe_keeps | exact Keeps.refl _ | intro _ | exact le_refl _
    | exact rfl | split | apply Keeps.mk'

theorem State.calAbandon_keeps {a s : State} (h : Keeps a s) (which : Cal → Bool) : Keeps a (State.calAbandon s which) := by
  unfold State.calAbandon
  repeat' with_reducible first
    | exact h | apply Keeps.ite | apply State.eachStr_keeps | apply State.calEnd_keeps | exact Keeps.refl _ | intro _
    | exact le_refl _ | exact rfl | split

theorem State.calStep_keeps {a s : State} (h : Keeps a s) (n : Nat) (target : Nat) (step : Nat) (applied : Int) (rid : Rid) : Keeps a (State.calStep s n target step applied rid).1 := by
  unfold State.calStep
  dsimp only
  repeat' with_reducible first
    | exact h | apply Keeps.ite | apply State.modFe_keeps | apply State.calEnd_keeps | apply State.journal_keeps
    | exact Keeps.refl _ | intro _ | exact le_refl _ | exact rfl | split

theorem State.calibrate_keeps {a s : State} (h : Keeps a s) (t : Nat) (r : Req) (p : Bytes) (want : Nat) : Keeps a (State.calibrate s t r p want) := by
  unfold State.calibrate
  repeat' with_reducible first
    | exact h | apply Keeps.ite | apply State.at_keeps | apply State.serve_keeps | apply guarded_keeps
    | apply State.calStep_keeps | exact Keeps.refl _ | intro _ | exact le_refl _ | exact rfl | split
    | refine Keeps.fst (by assumption) ?_

theorem execCalLowPoint_keeps (t : Nat) (r : Req) (p : Bytes) (s : State) : ∃ u, execCalLowPoint t r p s = .next u ∧ Keeps s u := by
  refine ⟨_, rfl, ?_⟩
  repeat' with_reducible first
    | exact Keeps.refl _ | apply State.calibrate_keeps

theorem execCalHighPoint_keeps (t : Nat) (r : Req) (p : Bytes) (s : State) : ∃ u, execCalHighPoint t r p s = .next u ∧ Keeps s u := by
  refine ⟨_, rfl, ?_⟩
  repeat' with_reducible first
    | exact Keeps.refl _ | apply State.calibrate_keeps

theorem execCalCommit_keeps (t : Nat) (r : Req) (p : Bytes) (s : State) : ∃ u, execCalCommit t r p s = .next u ∧ Keeps s u := by
  refine ⟨_, rfl, ?_⟩
  repeat' with_reducible first
    | exact Keeps.refl _ | apply State.calibrate_keeps

theorem execCalAbort_keeps (t : Nat) (r : Req) (p : Bytes) (s : State) : ∃ u, execCalAbort t r p s = .next u ∧ Keeps s u := by
  refine ⟨_, rfl, ?_⟩
  repeat' with_reducible first
    | exact Keeps.refl _ | apply State.calibrate_keeps | exact le_refl _ | exact rfl | apply Keeps.mk'

theorem execCalCaptureEnd_keeps (t str : Nat) (s : State) : ∃ u, execCalCaptureEnd t str s = .next u ∧ Keeps s u := by
  unfold execCalCaptureEnd
  extract_lets b
  have h0 : Keeps s b := State.at_keeps (Keeps.refl s) t
  clear_value b
  refine ⟨_, rfl, ?_⟩
  split
  · exact h0
  split
  · exact h0
  extract_lets mean dev spread full limit rid done u pt c
  split
  · exact h0
  clear_value limit full
  split
  · exact State.answerOpt_keeps (State.modFe_keeps h0 ..) ..
  · exact State.answerOpt_keeps (State.modFe_keeps h0 ..) ..

theorem execCalTimeout_keeps (t : Nat) (str : Nat) (s : State) : ∃ u, execCalTimeout t str s = .next u ∧ Keeps s u := by
  refine ⟨_, rfl, ?_⟩
  repeat' with_reducible first
    | exact Keeps.refl _ | apply Keeps.ite | apply State.at_keeps | apply State.calEnd_keeps | split

theorem State.judgeIso_keeps {a s : State} (h : Keeps a s) (n : Nat) (r : Nat) : Keeps a (State.judgeIso s n r).1 := by
  unfold State.judgeIso
  repeat' with_reducible first
    | exact h | apply Keeps.ite | apply State.wr_keeps | apply State.record_keeps | apply State.modProt_keeps
    | exact Keeps.refl _ | intro _ | exact le_refl _ | exact rfl | split | apply Keeps.mk'

theorem State.isoResult_keeps {a s : State} (h : Keeps a s) (n : Nat) (r : Nat) (x : Nat) (cy : Nat) (half : Nat) (group : Bool) : Keeps a (State.isoResult s n r x cy half group) := by
  unfold State.isoResult
  repeat' with_reducible first
    | exact h | apply Keeps.ite | apply State.wr_keeps | apply State.wrB_keeps | apply State.stamp_keeps
    | apply State.bump_keeps | exact Keeps.refl _ | intro _ | exact le_refl _ | exact rfl | split

theorem execImdCycleEnd_keeps (t str rIso x cy half : Nat) (ok : Bool) (s : State) : ∃ u, execImdCycleEnd t str rIso x cy half ok s = .next u ∧ Keeps s u := by
  unfold execImdCycleEnd
  extract_lets b q s1 members r s2
  have h0 : Keeps s b := State.at_keeps (Keeps.refl s) t
  clear_value b
  have h1 : Keeps s s1 := State.modFe_keeps h0 ..
  clear_value s1
  have h2 : Keeps s s2 := h1.foldl _ _ fun v x => State.isoResult_keeps (Keeps.refl _) ..
  clear_value s2 members r
  refine ⟨_, rfl, ?_⟩
  split
  swap
  · exact h0
  split
  · exact State.imdSync_keeps h1
  have hg : ∀ (l : List Nat) (y : State × Bool), Keeps s y.1 → Keeps s (l.foldl (fun (a : State × Bool) n =>
        ((a.1.judgeIso n r).1, a.2 || (a.1.judgeIso n r).2)) y).1 := by
    intro l
    induction l with
    | nil => intro y k; exact k
    | cons n l ih => intro y k; exact ih _ (State.judgeIso_keeps k ..)
  split
  next v trips e =>
  have hp : Keeps s v := Keeps.fst e (hg members (s2, false) h2)
  extract_lets all s3
  have h3 : Keeps s s3 := by
    unfold s3; split
    · apply hp.foldl
      intro v x
      exact State.trip_keeps (Keeps.refl v) x 9 _
    · exact hp
  exact State.imdSync_keeps (h3.foldl _ _ fun v x => State.refresh_keeps (Keeps.refl _) _)

theorem execImdPauseEnd_keeps (t : Nat) (str : Nat) (s : State) : ∃ u, execImdPauseEnd t str s = .next u ∧ Keeps s u := by
  refine ⟨_, rfl, ?_⟩
  repeat' with_reducible first
    | exact Keeps.refl _ | apply Keeps.ite | apply State.at_keeps | apply State.imdSync_keeps | apply State.modFe_keeps
    | intro _ | exact le_refl _ | exact rfl | split | apply Keeps.mk'

theorem State.startFe_keeps {a s : State} (h : Keeps a s) (n : Nat) : Keeps a (State.startFe s n) := by
  unfold State.startFe
  repeat' with_reducible first
    | exact h | apply Keeps.ite | apply State.modFe_keeps | apply State.modProt_keeps | apply State.stamp_keeps
    | apply State.wrB_keeps | apply State.refSwitch_keeps | apply State.imdSync_keeps | exact Keeps.refl _ | intro _
    | exact le_refl _ | exact rfl | split

theorem State.warmNow_keeps {a s : State} (h : Keeps a s) (i : Nat) : Keeps a (State.warmNow s i) := by
  unfold State.warmNow
  repeat' with_reducible first
    | exact h | apply Keeps.ite | apply State.wr_keeps | exact Keeps.refl _ | intro _ | exact le_refl _ | exact rfl | split

theorem State.agesNow_keeps {a s : State} (h : Keeps a s) (i : Nat) (at_ : Nat) : Keeps a (State.agesNow s i at_) := by
  unfold State.agesNow
  repeat' with_reducible first
    | exact h | apply Keeps.ite | apply State.wr_keeps | apply Keeps.foldl | exact Keeps.refl _ | intro _ | exact le_refl _
    | exact rfl | split

end Sys2Proof.Machine
end

