-- ==== Sys2Proof/Laws/Keeps/Thermal.lean ====
section
/-! SUPPORT. What every command respects (`Keeps`), for the operations of Machine/Thermal.lean. -/

set_option linter.all false

namespace Sys2Proof.Machine
open Obj

theorem State.failSensor_keeps {a s : State} (h : Keeps a s) (d : Nat) (j : Nat) (reading : Option Int) (ref : Option Int) : Keeps a (State.failSensor s d j reading ref) := by
  unfold State.failSensor
  repeat' with_reducible first
    | exact h | apply State.wr_keeps | apply State.bump_keeps | apply State.record_keeps | split

theorem State.sensorRound_keeps {a s : State} (h : Keeps a s) (x : Round) : Keeps a (State.sensorRound s x) := by
  unfold State.sensorRound
  repeat' with_reducible first
    | exact h | apply Keeps.ite | apply State.wrI_keeps | apply State.wr_keeps | apply State.failSensor_keeps
    | apply Keeps.foldl | exact Keeps.refl _ | intro _ | exact le_refl _ | exact rfl | split

theorem State.controlTemp_keeps {a s : State} (h : Keeps a s) (x : Round) (d : Nat) : Keeps a (State.controlTemp s x d) := by
  unfold State.controlTemp
  dsimp only
  repeat' with_reducible first
    | exact h | apply Keeps.ite | apply State.wrI_keeps | apply State.wrB_keeps | apply State.wr_keeps | apply Keeps.foldl
    | exact Keeps.refl _ | intro _ | exact le_refl _ | exact rfl | split

theorem State.dieLevel_keeps {a s : State} (h : Keeps a s) (d : Nat) : Keeps a (State.dieLevel s d) := by
  unfold State.dieLevel
  repeat' with_reducible first
    | exact h | apply Keeps.ite | apply State.bump_keeps | apply State.record_keeps | apply State.modDie_keeps
    | apply State.wr_keeps | apply State.wrB_keeps | exact Keeps.refl _ | intro _ | exact le_refl _ | exact rfl | split

theorem State.wrT_keeps {a s : State} (h : Keeps a s) (f : Fld) (inst : Nat) (v : Option Int) : Keeps a (State.wrT s f inst v) := by
  unfold State.wrT
  repeat' with_reducible first
    | exact h | apply State.wrI_keeps | apply State.wr_keeps | split

theorem State.boardRound_keeps {a s : State} (h : Keeps a s) (x : Round) : Keeps a (State.boardRound s x) := by
  unfold State.boardRound
  repeat' with_reducible first
    | exact h | apply Keeps.ite | apply State.wrT_keeps | apply State.wrB_keeps | apply State.record_keeps
    | exact Keeps.refl _ | intro _ | exact le_refl _ | exact rfl | split | apply Keeps.mk'

theorem State.mismatchRound_keeps {a s : State} (h : Keeps a s) (n : Nat) (v : Int) (at_ : Nat) : Keeps a (State.mismatchRound s n v at_) := by
  unfold State.mismatchRound
  repeat' with_reducible first
    | exact h | apply Keeps.ite | apply State.modFe_keeps | apply State.setDiag_keeps | apply State.record_keeps
    | apply State.wrB_keeps | exact Keeps.refl _ | intro _ | exact le_refl _ | exact rfl | split | apply Keeps.mk'

theorem State.refRound_keeps {a s : State} (h : Keeps a s) (n : Nat) (v : Int) : Keeps a (State.refRound s n v) := by
  unfold State.refRound
  repeat' with_reducible first
    | exact h | apply Keeps.ite | apply State.modFe_keeps | apply State.setDiag_keeps | apply State.record_keeps
    | apply State.wrB_keeps | exact Keeps.refl _ | intro _ | exact le_refl _ | exact rfl | split | apply Keeps.mk'

theorem State.feInject_keeps {a s : State} (h : Keeps a s) (n : Nat) (x : FeRound) : Keeps a (State.feInject s n x) := by
  unfold State.feInject
  repeat' with_reducible first
    | exact h | apply Keeps.ite | apply State.injProt_keeps | exact Keeps.refl _ | intro _ | exact le_refl _ | exact rfl
    | split

theorem State.feRound_keeps {a s : State} (h : Keeps a s) (n : Nat) (x : FeRound) : Keeps a (State.feRound s n x) := by
  unfold State.feRound
  repeat' with_reducible first
    | exact h | apply Keeps.ite | apply State.feInject_keeps | apply State.modFe_keeps | apply State.wrT_keeps
    | apply State.mismatchRound_keeps | apply State.refRound_keeps | exact Keeps.refl _ | intro _ | exact le_refl _
    | exact rfl | split

theorem State.hvacSend_keeps {a s : State} (h : Keeps a s) (mode : Nat) : Keeps a (State.hvacSend s mode) := by
  unfold State.hvacSend
  repeat' with_reducible first
    | exact h | apply Keeps.ite | apply State.wrB_keeps | apply State.bump_keeps | apply State.canContent_keeps
    | exact Keeps.refl _ | intro _ | exact le_refl _ | exact rfl | split | apply Keeps.mk'

theorem State.setHvac_keeps {a s : State} (h : Keeps a s) (mode : Nat) : Keeps a (State.setHvac s mode) := by
  unfold State.setHvac
  repeat' with_reducible first
    | exact h | apply Keeps.ite | apply State.record_keeps | apply State.wr_keeps | split

theorem State.hvacRound_keeps {a s : State} (h : Keeps a s)  : Keeps a (State.hvacRound s) := by
  unfold State.hvacRound
  repeat' with_reducible first
    | exact h | apply Keeps.ite | apply State.hvacTake_keeps | apply State.wrB_keeps | apply State.setHvac_keeps
    | apply State.hvacSend_keeps | apply Keeps.foldl | exact Keeps.refl _ | intro _ | exact le_refl _ | exact rfl | split
    | apply Keeps.mk' | dsimp only

theorem execHousekeepingRound_keeps (t : Nat) (x : Round) (s : State) : ∃ u, execHousekeepingRound t x s = .next u ∧ Keeps s u := by
  refine ⟨_, rfl, ?_⟩
  repeat' with_reducible first
    | exact Keeps.refl _ | apply Keeps.ite | apply State.at_keeps | apply State.wr_keeps | apply State.sensorRound_keeps
    | apply State.dieLevel_keeps | apply State.controlTemp_keeps | apply State.powerDerive_keeps | apply State.wrB_keeps
    | apply State.boardRound_keeps | apply State.eachStr_keeps | apply State.feRound_keeps | apply State.hvacRound_keeps
    | apply Keeps.foldl | intro _ | exact le_refl _ | exact rfl | split | apply Keeps.mk'

theorem execHvacRequest_keeps (t : Nat) (s : State) : ∃ u, execHvacRequest t s = .next u ∧ Keeps s u := by
  refine ⟨_, rfl, ?_⟩
  repeat' with_reducible first
    | exact Keeps.refl _ | apply Keeps.ite | apply State.at_keeps | apply State.hvacSend_keeps | intro _ | exact le_refl _
    | exact rfl | split

theorem State.linesLow_keeps {a s : State} (h : Keeps a s) : Keeps a (State.linesLow s) := by
  unfold State.linesLow
  refine h.foldl _ _ fun v x => ?_
  obtain ⟨p, k⟩ := x
  exact (Keeps.ite (State.send_keeps (Keeps.refl v) _) (Keeps.refl v)).setPout { p with active := 0, pulseEnd := none } k

theorem State.haltDies_keeps {a s : State} (h : Keeps a s) : Keeps a (State.haltDies s) := by
  unfold State.haltDies
  extract_lets s1 cut er s2
  have h1 : Keeps a s1 := State.cutSlot_keeps h
  clear_value s1
  have h2 := h1.mbx Mbx.init fun _ _ => ⟨rfl, rfl⟩
  exact State.linesLow_keeps (h2.nvmk rfl rfl rfl rfl rfl rfl rfl (le_refl _) id (le_refl _) fun i j => ⟨i, j⟩)

theorem execCalderaTrip_keeps (t : Nat) (die : Nat) (sensor : Nat) (s : State) : ∃ u, execCalderaTrip t die sensor s = .next u ∧ Keeps s u := by
  refine ⟨_, rfl, ?_⟩
  repeat' with_reducible first
    | exact Keeps.refl _ | apply Keeps.ite | apply State.at_keeps | apply State.eachStr_keeps | apply State.allOff_keeps
    | apply State.wr_keeps | apply State.loopOut_keeps | apply State.haltDies_keeps | intro _ | exact le_refl _ | exact rfl
    | split | apply Keeps.mk'

theorem execCalderaRelease_keeps (t : Nat) (since : Nat) (s : State) : ∃ u, execCalderaRelease t since s = .next u ∧ Keeps s u := by
  refine ⟨_, rfl, ?_⟩
  repeat' (first
    | (extract_lets +onlyGivenNames x; first | (refine cutTo x ?_ ?_ <;> [(intro hx; try clear_value x); subst x]) | (refine cutFun x ?_ ?_ <;> [(intro hfun; try clear_value x); (intro v; subst x)]) | (refine cutFun2 x ?_ ?_ <;> [(intro hfun; try clear_value x); (intro v y; subst x)]) | (refine cutFun3 x ?_ ?_ <;> [(intro hfun; try clear_value x); (intro v y; subst x)]) | (have := (x : Mbx); clear this; subst x) | (have := (x : Nonvol); clear this; subst x) | clear_value x | subst x)
    | with_reducible first | exact Keeps.refl _ | assumption
    | with_reducible first | apply State.at_keeps | apply State.clearRun_keeps | apply State.beginStart_keeps | apply Keeps.foldl | apply Keeps.mapSess
    | with_reducible first | exact Nat.le_refl _ | exact Nat.le_succ _ | exact Nat.le_add_right _ _ | exact rfl | exact fun _ => rfl | exact fun _ => Nat.le_refl _ | exact id | exact fun i j => ⟨i, j⟩ | exact fun i j => ⟨j, rfl⟩ | exact fun i j => ⟨rfl, rfl⟩ | exact fun i => Store.load_sorted i _ | exact fun _ => keepMeasured_sorted _ _ _
    | apply hfun
    | intro _
    | split
    | dsimp -zeta only
    | refine Keeps.fst (by assumption) ?_
    | refine Keeps.snd (by assumption) ?_
    | with_reducible first | apply Keeps.nv | apply Keeps.nvmk | apply Keeps.objs | apply Keeps.mk')

end Sys2Proof.Machine
end

