-- ==== Sys2Proof/Laws/Keeps/Control.lean ====
section
/-! SUPPORT. What every command respects (`Keeps`), for the operations of Machine/Control.lean. -/

set_option linter.all false

namespace Sys2Proof.Machine
open Obj

theorem State.rampStep_keeps {a s : State} (h : Keeps a s) (c : Nat) (x : Int) : Keeps a (State.rampStep s c x) := by
  unfold State.rampStep
  repeat' with_reducible first
    | exact h | apply Keeps.ite | apply State.modChan_keeps | apply State.wrI_keeps | apply State.wrB_keeps
    | exact Keeps.refl _ | intro _ | exact le_refl _ | exact rfl | split

theorem State.lineLevel_keeps {a s : State} (h : Keeps a s) (k : Nat) (level : Nat) : Keeps a (State.lineLevel s k level) := by
  unfold State.lineLevel
  repeat' with_reducible first
    | exact h | apply Keeps.ite | apply State.send_keeps | exact le_refl _ | exact rfl | split | apply Keeps.setPout
    | apply Keeps.mk'

theorem State.linePwm_keeps {a s : State} (h : Keeps a s) (c k duty : Nat) : Keeps a (State.linePwm s c k duty) := by
  unfold State.linePwm
  extract_lets p high src s1
  have h1 : Keeps a s1 := h.setPout { nth POut.init s.pouts k with active := 2 } k
  exact Keeps.ite h (State.send_keeps (State.modChan_keeps h1 ..) _)

theorem State.lineRest_keeps {a s : State} (h : Keeps a s) (c : Nat) (kind : Nat) (k : Nat) : Keeps a (State.lineRest s c kind k) := by
  unfold State.lineRest
  repeat' with_reducible first
    | exact h | apply Keeps.ite | apply State.lineLevel_keeps | apply State.linePwm_keeps | exact Keeps.refl _ | intro _
    | exact le_refl _ | exact rfl | split

theorem State.balanceOut_keeps {a s : State} (h : Keeps a s) (c : Nat) : Keeps a (State.balanceOut s c) := by
  unfold State.balanceOut
  repeat' with_reducible first
    | exact h | apply Keeps.ite | apply State.bump_keeps | apply State.modRing_keeps | apply State.modChan_keeps
    | apply State.sendBleed_keeps | apply Keeps.foldl | exact Keeps.refl _ | intro _ | exact le_refl _ | exact rfl | split

theorem State.balanceStop_keeps {a s : State} (h : Keeps a s) (c : Nat) : Keeps a (State.balanceStop s c) := by
  unfold State.balanceStop
  repeat' with_reducible first
    | exact h | apply Keeps.ite | apply State.modChan_keeps | apply State.sendBleed_keeps | apply Keeps.foldl
    | exact Keeps.refl _ | intro _ | exact le_refl _ | exact rfl | split

theorem State.drive_keeps {a s : State} (h : Keeps a s) (c : Nat) : Keeps a (State.drive s c) := by
  unfold State.drive
  repeat' with_reducible first
    | exact h | apply Keeps.ite | apply State.lineLevel_keeps | apply State.linePwm_keeps | apply State.chanFrame_keeps
    | apply State.balanceOut_keeps | apply State.setHvac_keeps | apply State.hvacSend_keeps | exact Keeps.refl _ | intro _
    | exact le_refl _ | exact rfl | split

theorem State.setOut_keeps {a s : State} (h : Keeps a s) (c : Nat) (y : Int) (limited : Bool) : Keeps a (State.setOut s c y limited) := by
  unfold State.setOut
  repeat' with_reducible first
    | exact h | apply State.followOutput_keeps | apply State.outReg_keeps | apply State.wrB_keeps | apply State.modChan_keeps
    | exact Keeps.refl _ | intro _ | exact le_refl _ | exact rfl | apply Keeps.mk'

theorem State.chTrace_keeps {a s : State} (h : Keeps a s) (c : Nat) (tm : Nat) (miss : Bool) (causes : Nat) : Keeps a (State.chTrace s c tm miss causes) := by
  unfold State.chTrace
  repeat' with_reducible first
    | exact h | apply Keeps.ite | apply State.modTrace_keeps | apply State.traceSample_keeps | exact Keeps.refl _ | intro _
    | exact le_refl _ | exact rfl | split

theorem State.enterSafe_keeps {a s : State} (h : Keeps a s) (c : Nat) : Keeps a (State.enterSafe s c) := by
  unfold State.enterSafe
  repeat' with_reducible first
    | exact h | apply Keeps.ite | apply State.wr_keeps | apply State.wrB_keeps | apply State.bump_keeps
    | apply State.stamp_keeps | apply State.record_keeps | apply State.modChan_keeps | apply State.balanceStop_keeps
    | apply State.outReg_keeps | apply State.setOut_keeps | exact Keeps.refl _ | intro _ | exact le_refl _ | exact rfl | split

theorem State.missSample_keeps {a s : State} (h : Keeps a s) (c : Nat) (tm : Nat) (cause : Nat) : Keeps a (State.missSample s c tm cause) := by
  unfold State.missSample
  repeat' with_reducible first
    | exact h | apply Keeps.ite | apply State.modChan_keeps | apply State.wr_keeps | apply State.bump_keeps
    | apply State.wrB_keeps | apply State.enterSafe_keeps | apply State.chTrace_keeps | apply State.drive_keeps
    | exact Keeps.refl _ | intro _ | exact le_refl _ | exact rfl | split

theorem State.latencyNow_keeps {a s : State} (h : Keeps a s) (c : Nat) : Keeps a (State.latencyNow s c) := by
  unfold State.latencyNow
  repeat' with_reducible first
    | exact h | apply Keeps.ite | apply State.wr_keeps | exact Keeps.refl _ | intro _ | exact le_refl _ | exact rfl | split

theorem State.chLatency_keeps {a s : State} (h : Keeps a s) (c : Nat) (tm : Nat) : Keeps a (State.chLatency s c tm) := by
  unfold State.chLatency
  repeat' with_reducible first
    | exact h | apply Keeps.ite | apply State.modChan_keeps | apply State.latencyNow_keeps | exact Keeps.refl _ | intro _
    | exact le_refl _ | exact rfl | split

theorem State.takeInput_keeps {a s : State} (h : Keeps a s) (c : Nat) (tm : Nat) (x : Int) (q : Option (Nat × Int)) : Keeps a (State.takeInput s c tm x q) := by
  unfold State.takeInput
  repeat' with_reducible first
    | exact h | apply Keeps.ite | apply State.modChan_keeps | apply State.bump_keeps | apply State.wr_keeps
    | apply State.wrB_keeps | apply State.wrI_keeps | apply State.outReg_keeps | exact Keeps.refl _ | intro _
    | exact le_refl _ | exact rfl | split

theorem State.leaveSafe_keeps {a s : State} (h : Keeps a s) (c : Nat) : Keeps a (State.leaveSafe s c) := by
  unfold State.leaveSafe
  repeat' with_reducible first
    | exact h | apply Keeps.ite | apply State.record_keeps | apply State.wr_keeps | apply State.modChan_keeps
    | exact Keeps.refl _ | intro _ | exact le_refl _ | exact rfl | split

theorem State.chError_keeps {a s : State} (h : Keeps a s) (c : Nat) (x : Int) : Keeps a (State.chError s c x).1 := by
  unfold State.chError
  repeat' with_reducible first
    | exact h | apply State.rampStep_keeps | apply State.wrI_keeps

theorem State.takeOver_keeps {a s : State} (h : Keeps a s) (c : Nat) : Keeps a (State.takeOver s c) := by
  unfold State.takeOver
  repeat' with_reducible first
    | exact h | apply Keeps.ite | apply State.wr_keeps | apply State.modChan_keeps | apply State.bump_keeps
    | apply State.record_keeps | exact Keeps.refl _ | intro _ | exact le_refl _ | exact rfl | split

theorem State.vectorLaw_keeps {a s : State} (h : Keeps a s) (c : Nat) (xs : List (Option Int)) : Keeps a (State.vectorLaw s c xs) := by
  unfold State.vectorLaw
  repeat' with_reducible first
    | exact h | apply Keeps.ite | apply State.wrI_keeps | apply State.wrB_keeps | apply State.modChan_keeps
    | apply State.outReg_keeps | apply Keeps.foldl | exact Keeps.refl _ | intro _ | exact le_refl _ | exact rfl | split

theorem State.askInjection_keeps {a s : State} (h : Keeps a s) (c : Nat) (tm : Nat) : Keeps a (State.askInjection s c tm) := by
  unfold State.askInjection
  repeat' with_reducible first
    | exact h | apply Keeps.ite | apply State.injRequest_keeps | apply State.modChan_keeps | exact Keeps.refl _ | intro _
    | exact le_refl _ | exact rfl | split | refine Keeps.fst (by assumption) ?_

theorem State.actOn_keeps {a s : State} (h : Keeps a s) (c : Nat) (tm : Nat) (e : Int) : Keeps a (State.actOn s c tm e) := by
  unfold State.actOn
  repeat' with_reducible first
    | exact h | apply Keeps.ite | apply State.setOut_keeps | apply State.drive_keeps | apply State.chTrace_keeps
    | apply State.chLatency_keeps | split

theorem State.errStep_keeps {a s : State} (h : Keeps a s) (c : Nat) (tm : Nat) (x : Int) : Keeps a (State.errStep s c tm x).1 := by
  unfold State.errStep
  repeat' with_reducible first
    | exact h | apply Keeps.ite | apply State.vectorLaw_keeps | apply State.chError_keeps | exact Keeps.refl _ | intro _
    | exact le_refl _ | exact rfl | split | refine Keeps.fst (by assumption) ?_

theorem State.sampleNow_keeps {a s : State} (h : Keeps a s) (members : List Nat) (tm : Nat) : Keeps a (State.sampleNow s members tm) := by
  unfold State.sampleNow
  extract_lets decided step
  split
  next u xs e1 =>
  have h1 : Keeps a u := Keeps.fst e1 (Keeps.foldlP _ _ h fun p c => by
    dsimp only
    repeat' with_reducible first
      | exact Keeps.refl _ | apply State.takeInput_keeps | apply State.missSample_keeps | apply State.modChan_keeps  | split)
  have hs : ∀ p x, Keeps p.1 (step p x).1 := fun p x =>
    (State.errStep_keeps (Keeps.refl p.1) x.1 tm x.2 : Keeps _ (p.1.errStep x.1 tm x.2).1)
  clear_value step
  split
  split
  next v es e2 =>
  have h2 : Keeps a v := Keeps.fst e2 (Keeps.foldlP _ _ h1 hs)
  extract_lets s2
  have h3 : Keeps a s2 := by
    unfold s2
    split
    · exact State.takeOver_keeps h2 _
    · exact h2
  clear_value s2
  split
  next w fs e3 =>
  have h4 : Keeps a w := Keeps.fst e3 (Keeps.foldlP _ _ h3 fun p x =>
    (State.leaveSafe_keeps (Keeps.refl p.1) x.1).trans (hs (p.1.leaveSafe x.1, p.2) x))
  exact h4.foldl _ _ fun v x => State.actOn_keeps (Keeps.refl v) x.1 tm x.2

theorem State.claimOf_keeps {a s : State} (h : Keeps a s) (kind : Nat) (k : Nat) (on : Bool) : Keeps a (State.claimOf s kind k on) := by
  unfold State.claimOf
  repeat' with_reducible first
    | exact h | apply Keeps.ite | apply State.wrB_keeps | apply State.wr_keeps | split

theorem State.claim_keeps {a s : State} (h : Keeps a s) (c : Nat) : Keeps a (State.claim s c) := by
  unfold State.claim
  repeat' with_reducible first
    | exact h | apply Keeps.ite | apply State.claimOf_keeps | exact Keeps.refl _ | intro _ | exact le_refl _ | exact rfl
    | split

theorem State.release_keeps {a s : State} (h : Keeps a s) (c : Nat) (kind : Nat) (k : Nat) : Keeps a (State.release s c kind k) := by
  unfold State.release
  repeat' with_reducible first
    | exact h | apply Keeps.ite | apply State.lineRest_keeps | apply State.claimOf_keeps | exact Keeps.refl _ | intro _
    | exact le_refl _ | exact rfl | split

theorem State.clampRegs_keeps {a s : State} (h : Keeps a s) (c : Nat) : Keeps a (State.clampRegs s c) := by
  unfold State.clampRegs
  repeat' with_reducible first
    | exact h | apply Keeps.ite | apply State.clampNow_keeps | apply State.wr_keeps | exact Keeps.refl _ | intro _
    | exact le_refl _ | exact rfl | split

theorem State.takeWrite_keeps {a s : State} (h : Keeps a s) (c : Nat) (tm : Nat) : Keeps a (State.takeWrite s c tm) := by
  unfold State.takeWrite
  repeat' with_reducible first
    | exact h | apply Keeps.ite | apply State.balanceStop_keeps | apply State.release_keeps | apply State.modChan_keeps
    | apply State.claim_keeps | apply State.clampRegs_keeps | exact Keeps.refl _ | intro _ | exact le_refl _ | exact rfl
    | split

theorem State.sampleGroup_keeps {a s : State} (h : Keeps a s) (members : List Nat) (tm : Nat) : Keeps a (State.sampleGroup s members tm) := by
  unfold State.sampleGroup
  repeat' with_reducible first
    | exact h | apply Keeps.ite | apply State.takeWrite_keeps | apply State.askInjection_keeps | apply State.modChan_keeps
    | apply State.sampleNow_keeps | apply Keeps.foldl | exact Keeps.refl _ | intro _ | exact le_refl _ | exact rfl | split

theorem State.countSkipped_keeps {a s : State} (h : Keeps a s) (c : Nat) (tm : Nat) : Keeps a (State.countSkipped s c tm) := by
  unfold State.countSkipped
  repeat' with_reducible first
    | exact h | apply Keeps.ite | apply State.bump_keeps | exact Keeps.refl _ | intro _ | exact le_refl _ | exact rfl | split

theorem State.settleOpen_keeps {a s : State} (h : Keeps a s) (g : List Nat) : Keeps a (State.settleOpen s g) := by
  unfold State.settleOpen
  repeat' with_reducible first
    | exact h | apply Keeps.ite | apply State.missSample_keeps | apply State.sampleNow_keeps | apply Keeps.foldl
    | exact Keeps.refl _ | intro _ | exact le_refl _ | exact rfl | split | dsimp only

theorem execChannelSample_keeps (t : Nat) (ch : Nat) (s : State) : ∃ u, execChannelSample t ch s = .next u ∧ Keeps s u := by
  refine ⟨_, rfl, ?_⟩
  repeat' with_reducible first
    | exact Keeps.refl _ | apply Keeps.ite | apply State.at_keeps | apply State.settleOpen_keeps
    | apply State.countSkipped_keeps | apply State.missSample_keeps | apply State.sampleGroup_keeps | apply Keeps.foldl
    | intro _ | exact le_refl _ | exact rfl | split | dsimp only

theorem execDeadlineMiss_keeps (t : Nat) (ch : Nat) (s : State) : ∃ u, execDeadlineMiss t ch s = .next u ∧ Keeps s u := by
  refine ⟨_, rfl, ?_⟩
  repeat' with_reducible first
    | exact Keeps.refl _ | apply Keeps.ite | apply State.at_keeps | apply State.settleOpen_keeps
    | apply State.countSkipped_keeps | apply State.takeWrite_keeps | apply State.missSample_keeps | intro _ | exact le_refl _
    | exact rfl | split

theorem execInjectedConversion_keeps (t : Nat) (str : Nat) (src : Nat) (aborted : Bool) (convs : List (Nat × Int)) (s : State) : ∃ u, execInjectedConversion t str src aborted convs s = .next u ∧ Keeps s u := by
  refine ⟨_, rfl, ?_⟩
  repeat' with_reducible first
    | exact Keeps.refl _ | apply Keeps.ite | apply State.at_keeps | apply State.injWindow_keeps | apply State.injProt_keeps
    | apply State.modFe_keeps | apply State.injRun_keeps | apply State.wr_keeps | apply State.wrI_keeps
    | apply State.modChan_keeps | apply State.sampleGroup_keeps | intro _ | exact le_refl _ | exact rfl | split | dsimp only

theorem State.chanStart_keeps {a s : State} (h : Keeps a s) (c : Nat) : Keeps a (State.chanStart s c) := by
  unfold State.chanStart
  extract_lets src s1 s2
  have h1 : Keeps a s1 := h.setChan { Chan.init with from_ := s.base + 1 } c
  have h2 : Keeps a s2 := State.wr_keeps (State.wr_keeps h1 ..) ..
  exact State.clampRegs_keeps (State.claim_keeps h2 ..) ..

theorem State.chanStop_keeps {a s : State} (h : Keeps a s) (c : Nat) (g : List Nat) : Keeps a (State.chanStop s c g) := by
  unfold State.chanStop
  repeat' with_reducible first
    | exact h | apply Keeps.ite | apply State.setOut_keeps | apply State.balanceStop_keeps | apply State.drive_keeps
    | apply State.release_keeps | apply State.wr_keeps | apply State.modChan_keeps | exact Keeps.refl _ | intro _
    | exact le_refl _ | exact rfl | split

theorem State.chanStep_keeps {a s : State} (h : Keeps a s) (afresh : Bool) : Keeps a (State.chanStep s afresh) := by
  unfold State.chanStep
  repeat' with_reducible first
    | exact h | apply Keeps.ite | apply State.modChan_keeps | apply State.countSkipped_keeps | apply Keeps.foldl
    | exact Keeps.refl _ | intro _ | exact le_refl _ | exact rfl | split

theorem State.loadRegs_keeps {a s : State} (h : Keeps a s)  : Keeps a (State.loadRegs s) := by
  unfold State.loadRegs
  repeat' with_reducible first
    | exact h | apply State.wr_keeps | apply Keeps.foldl | exact Keeps.refl _ | intro _ | exact le_refl _ | exact rfl

theorem State.keepChan_keeps {a s : State} (h : Keeps a s) (o : State) (c : Nat) (fs : List Fld) : Keeps a (State.keepChan s o c fs) := by
  unfold State.keepChan
  repeat' with_reducible first
    | exact h | apply Keeps.ite | apply State.modChan_keeps | exact Keeps.refl _ | intro _ | exact le_refl _ | exact rfl
    | split

theorem State.chanWritten_keeps {a s : State} (h : Keeps a s) (o : State) (c : Nat) : Keeps a (State.chanWritten s o c) := by
  unfold State.chanWritten
  repeat' with_reducible first
    | exact h | apply Keeps.ite | apply State.keepChan_keeps | apply State.chanStart_keeps | apply State.chanStop_keeps
    | apply State.modChan_keeps | apply State.claim_keeps | apply State.loadRegs_keeps | exact Keeps.refl _ | intro _
    | exact le_refl _ | exact rfl | split

end Sys2Proof.Machine
end

