-- ==== Sys2Proof/Laws/Keeps/Block.lean ====
section
/-! SUPPORT. What every command respects (`Keeps`), for the operations of Machine/Block.lean. -/

set_option linter.all false

namespace Sys2Proof.Machine
open Obj

theorem State.conflict_keeps {a s : State} (h : Keeps a s)  : Keeps a (State.conflict s) := by
  unfold State.conflict
  repeat' with_reducible first
    | exact h | apply Keeps.ite | apply State.record_keeps | apply State.wrB_keeps | apply State.roleCheck_keeps
    | apply State.forgetManager_keeps | exact le_refl _ | exact rfl | split | apply Keeps.mk'

theorem State.hearEpoch_keeps {a s : State} (h : Keeps a s) (ep : Nat) : Keeps a (State.hearEpoch s ep) := by
  unfold State.hearEpoch
  repeat' with_reducible first
    | exact h | apply Keeps.ite | exact Keeps.refl _ | intro _ | exact le_refl _ | exact rfl | split | apply Keeps.mk'

theorem State.peerIn_keeps {a s : State} (h : Keeps a s) (net : Nat) (src : Nat) (m : Bytes) : Keeps a (State.peerIn s net src m).1 := by
  unfold State.peerIn
  dsimp only
  repeat' with_reducible first
    | exact h | apply Keeps.ite | apply State.bump_keeps | apply State.hearEpoch_keeps | apply State.conflict_keeps
    | exact Keeps.refl _ | intro _ | exact le_refl _ | exact rfl | split | apply Keeps.mk'

theorem State.learn_keeps {a s : State} (h : Keeps a s) (b : Bytes) : Keeps a (State.learn s b) := by
  unfold State.learn
  repeat' with_reducible first
    | exact h | apply State.wr_keeps | apply State.wrB_keeps | exact Keeps.refl _ | intro _ | exact le_refl _ | exact rfl
    | apply Keeps.mk'

theorem State.hearAnnounce_keeps {a s : State} (h : Keeps a s) (id : Nat) (pref : Nat) (epoch : Nat) (b : Bytes) : Keeps a (State.hearAnnounce s id pref epoch b) := by
  unfold State.hearAnnounce
  repeat' with_reducible first
    | exact h | apply Keeps.ite | apply State.adopt_keeps | apply State.learn_keeps | apply State.loseManager_keeps
    | exact Keeps.refl _ | intro _ | exact le_refl _ | exact rfl | split | apply Keeps.mk'

theorem State.hearCandidate_keeps {a s : State} (h : Keeps a s) (id : Nat) (pref : Nat) (last : Nat) : Keeps a (State.hearCandidate s id pref last) := by
  unfold State.hearCandidate
  repeat' with_reducible first
    | exact h | apply Keeps.ite | apply State.hearEpoch_keeps | apply State.discover_keeps | exact Keeps.refl _ | intro _
    | exact le_refl _ | exact rfl | split

theorem State.takeReport_keeps {a s : State} (h : Keeps a s) (id : Nat) (cycle : Nat) (rs : List MRec) : Keeps a (State.takeReport s id cycle rs) := by
  unfold State.takeReport
  repeat' with_reducible first
    | exact h | exact Keeps.refl _ | intro _ | exact le_refl _ | exact rfl | apply Keeps.mk'

theorem State.hearReport_keeps {a s : State} (h : Keeps a s) (id : Nat) (epoch : Nat) (b : Bytes) : Keeps a (State.hearReport s id epoch b) := by
  unfold State.hearReport
  repeat' with_reducible first
    | exact h | apply Keeps.ite | apply State.takeReport_keeps | apply State.bump_keeps | split

theorem State.setMembers_keeps {a s : State} (h : Keeps a s) (ids : List Nat) : Keeps a (State.setMembers s ids) := by
  unfold State.setMembers
  repeat' with_reducible first
    | exact h | apply Keeps.ite | apply State.wr_keeps | apply State.record_keeps | apply Keeps.foldl | exact Keeps.refl _
    | intro _ | exact le_refl _ | exact rfl | split

theorem State.acceptAlloc_keeps {a s : State} (h : Keeps a s) (b : Bytes) : Keeps a (State.acceptAlloc s b) := by
  unfold State.acceptAlloc
  repeat' with_reducible first
    | exact h | apply State.setMembers_keeps | exact Keeps.refl _ | intro _ | exact le_refl _ | exact rfl | apply Keeps.mk'

theorem State.hearAllocation_keeps {a s : State} (h : Keeps a s) (id : Nat) (epoch : Nat) (b : Bytes) : Keeps a (State.hearAllocation s id epoch b) := by
  unfold State.hearAllocation
  repeat' with_reducible first
    | exact h | apply Keeps.ite | apply State.acceptAlloc_keeps | apply State.bump_keeps | split

theorem State.hearPeer_keeps {a s : State} (h : Keeps a s) (net : Nat) (src : Nat) (m : Bytes) : Keeps a (State.hearPeer s net src m) := by
  unfold State.hearPeer
  repeat' with_reducible first
    | exact h | apply Keeps.ite | apply State.peerIn_keeps | apply State.hearAnnounce_keeps | apply State.hearCandidate_keeps
    | apply State.hearReport_keeps | apply State.hearAllocation_keeps | exact Keeps.refl _ | intro _ | exact le_refl _
    | exact rfl | split | refine Keeps.fst (by assumption) ?_

theorem execAnnounceReceived_keeps (t : Nat) (net : Nat) (src : Nat) (msg : Bytes) (s : State) : ∃ u, execAnnounceReceived t net src msg s = .next u ∧ Keeps s u := by
  refine ⟨_, rfl, ?_⟩
  repeat' with_reducible first
    | exact Keeps.refl _ | apply State.hearPeer_keeps | apply State.at_keeps

theorem execCandidateReceived_keeps (t : Nat) (net : Nat) (src : Nat) (msg : Bytes) (s : State) : ∃ u, execCandidateReceived t net src msg s = .next u ∧ Keeps s u := by
  refine ⟨_, rfl, ?_⟩
  repeat' with_reducible first
    | exact Keeps.refl _ | apply State.hearPeer_keeps | apply State.at_keeps

theorem execReportReceived_keeps (t : Nat) (net : Nat) (src : Nat) (msg : Bytes) (s : State) : ∃ u, execReportReceived t net src msg s = .next u ∧ Keeps s u := by
  refine ⟨_, rfl, ?_⟩
  repeat' with_reducible first
    | exact Keeps.refl _ | apply State.hearPeer_keeps | apply State.at_keeps

theorem execAllocationReceived_keeps (t : Nat) (net : Nat) (src : Nat) (msg : Bytes) (s : State) : ∃ u, execAllocationReceived t net src msg s = .next u ∧ Keeps s u := by
  refine ⟨_, rfl, ?_⟩
  repeat' with_reducible first
    | exact Keeps.refl _ | apply State.hearPeer_keeps | apply State.at_keeps

theorem execPeerRejected_keeps (t : Nat) (net : Nat) (src : Nat) (msg : Bytes) (s : State) : ∃ u, execPeerRejected t net src msg s = .next u ∧ Keeps s u := by
  refine ⟨_, rfl, ?_⟩
  repeat' with_reducible first
    | exact Keeps.refl _ | apply State.hearPeer_keeps | apply State.at_keeps

theorem execAnnounce_keeps (t : Nat) (s : State) : ∃ u, execAnnounce t s = .next u ∧ Keeps s u := by
  refine ⟨_, rfl, ?_⟩
  repeat' with_reducible first
    | exact Keeps.refl _ | apply Keeps.ite | apply State.roleCheck_keeps | apply State.at_keeps | apply State.openEpoch_keeps
    | apply State.sendAnnounce_keeps | exact le_refl _ | exact rfl | split | apply Keeps.mk'

theorem execCandidate_keeps (t : Nat) (s : State) : ∃ u, execCandidate t s = .next u ∧ Keeps s u := by
  refine ⟨_, rfl, ?_⟩
  repeat' with_reducible first
    | exact Keeps.refl _ | apply Keeps.ite | apply State.at_keeps | apply State.sendCandidate_keeps | exact le_refl _
    | exact rfl | split | apply Keeps.mk'

theorem execRoleListen_keeps (t : Nat) (s : State) : ∃ u, execRoleListen t s = .next u ∧ Keeps s u := by
  refine ⟨_, rfl, ?_⟩
  repeat' with_reducible first
    | exact Keeps.refl _ | apply Keeps.ite | apply State.roleCheck_keeps | apply State.at_keeps
    | apply State.sendCandidate_keeps | apply State.bump_keeps | apply State.setRole_keeps | exact le_refl _ | exact rfl
    | split | apply Keeps.mk'

theorem execRoleGained_keeps (t : Nat) (s : State) : ∃ u, execRoleGained t s = .next u ∧ Keeps s u := by
  refine ⟨_, rfl, ?_⟩
  repeat' with_reducible first
    | exact Keeps.refl _ | apply Keeps.ite | apply State.roleCheck_keeps | apply State.at_keeps | apply State.gainRole_keeps
    | split

theorem execManagerLost_keeps (t : Nat) (s : State) : ∃ u, execManagerLost t s = .next u ∧ Keeps s u := by
  refine ⟨_, rfl, ?_⟩
  repeat' with_reducible first
    | exact Keeps.refl _ | apply Keeps.ite | apply State.at_keeps | apply State.loseManager_keeps | exact le_refl _
    | exact rfl | split | apply Keeps.mk'

theorem execAllocHold_keeps (t : Nat) (s : State) : ∃ u, execAllocHold t s = .next u ∧ Keeps s u := by
  refine ⟨_, rfl, ?_⟩
  repeat' with_reducible first
    | exact Keeps.refl _ | apply Keeps.ite | apply State.at_keeps | apply State.forgetManager_keeps | apply State.wrB_keeps
    | exact le_refl _ | exact rfl | split | apply Keeps.mk'

theorem execBlockIdConflict_keeps (t : Nat) (msg : Option (Nat × Nat × Bytes)) (s : State) : ∃ u, execBlockIdConflict t msg s = .next u ∧ Keeps s u := by
  refine ⟨_, rfl, ?_⟩
  repeat' with_reducible first
    | exact Keeps.refl _ | apply Keeps.ite | apply State.at_keeps | apply State.hearPeer_keeps | apply State.roleCheck_keeps
    | apply State.clampAll_keeps | apply State.wrB_keeps | exact le_refl _ | exact rfl | split | apply Keeps.mk'

theorem execDispatchCycle_keeps (t : Nat) (s : State) : ∃ u, execDispatchCycle t s = .next u ∧ Keeps s u := by
  refine ⟨_, rfl, ?_⟩
  repeat' with_reducible first
    | exact Keeps.refl _ | apply Keeps.ite | apply State.at_keeps | apply State.wrB_keeps | apply State.roleCheck_keeps
    | apply Keeps.foldl | intro _ | exact le_refl _ | exact rfl | split | apply Keeps.mk'

theorem execReport_keeps (t : Nat) (s : State) : ∃ u, execReport t s = .next u ∧ Keeps s u := by
  refine ⟨_, rfl, ?_⟩
  repeat' with_reducible first
    | exact Keeps.refl _ | apply Keeps.ite | apply State.at_keeps | apply State.sendPeer_keeps | apply State.takeReport_keeps
    | exact le_refl _ | exact rfl | split | apply Keeps.mk'

theorem State.judgeReports_keeps {a s : State} (h : Keeps a s)  : Keeps a (State.judgeReports s) := by
  unfold State.judgeReports
  repeat' with_reducible first
    | exact h | apply Keeps.ite | apply State.bump_keeps | apply State.wr_keeps | apply Keeps.foldl | exact Keeps.refl _
    | intro _ | exact le_refl _ | exact rfl | split | apply Keeps.mk'

theorem State.allocate_keeps {a s : State} (h : Keeps a s)  : Keeps a (State.allocate s) := by
  unfold State.allocate
  repeat' with_reducible first
    | exact h | apply Keeps.ite | apply State.judgeReports_keeps | apply State.wrB_keeps | apply State.wr_keeps
    | apply State.wrI_keeps | apply State.eachStr_keeps | apply State.setMembers_keeps | apply State.sendPeer_keeps
    | apply Keeps.foldl | exact Keeps.refl _ | intro _ | exact le_refl _ | exact rfl | split | apply Keeps.mk'

theorem execAllocation_keeps (t : Nat) (s : State) : ∃ u, execAllocation t s = .next u ∧ Keeps s u := by
  refine ⟨_, rfl, ?_⟩
  repeat' with_reducible first
    | exact Keeps.refl _ | apply Keeps.ite | apply State.roleCheck_keeps | apply State.at_keeps | apply State.allocate_keeps
    | exact le_refl _ | exact rfl | split | apply Keeps.mk'

theorem State.applyStr_keeps {a s : State} (h : Keeps a s) (n : Nat) (sps : Option (List (Nat × Int))) : Keeps a (State.applyStr s n sps) := by
  unfold State.applyStr
  repeat' with_reducible first
    | exact h | apply Keeps.ite | apply State.wrI_keeps | apply State.wrB_keeps | apply State.wr_keeps
    | apply State.dispatchFrame_keeps | apply State.localClamp_keeps | exact Keeps.refl _ | intro _ | exact le_refl _
    | exact rfl | split | refine Keeps.fst (by assumption) ?_

theorem execAllocationApply_keeps (t : Nat) (s : State) : ∃ u, execAllocationApply t s = .next u ∧ Keeps s u := by
  refine ⟨_, rfl, ?_⟩
  repeat' with_reducible first
    | exact Keeps.refl _ | apply Keeps.ite | apply State.at_keeps | apply State.knowManager_keeps | apply State.wr_keeps
    | apply State.wrB_keeps | apply State.beginHold_keeps | apply State.eachStr_keeps | apply State.applyStr_keeps | intro _
    | exact le_refl _ | exact rfl | split | apply Keeps.mk'

theorem execHostTimeout_keeps (t : Nat) (s : State) : ∃ u, execHostTimeout t s = .next u ∧ Keeps s u := by
  refine ⟨_, rfl, ?_⟩
  repeat' with_reducible first
    | exact Keeps.refl _ | apply Keeps.ite | apply State.at_keeps | apply State.wrB_keeps | apply State.wr_keeps
    | apply State.record_keeps | exact le_refl _ | exact rfl | split | apply Keeps.mk'

theorem execSetBlockPower_keeps (t : Nat) (r : Req) (p : Bytes) (s : State) : ∃ u, execSetBlockPower t r p s = .next u ∧ Keeps s u := by
  refine ⟨_, rfl, ?_⟩
  repeat' with_reducible first
    | exact Keeps.refl _ | apply Keeps.ite | apply State.serve_keeps | apply guarded_keeps | apply State.wrB_keeps
    | apply State.wrI_keeps | intro _ | exact le_refl _ | exact rfl | split | refine Keeps.fst (by assumption) ?_
    | apply Keeps.mk'

theorem execGetBlockState_keeps (t : Nat) (r : Req) (p : Bytes) (s : State) : ∃ u, execGetBlockState t r p s = .next u ∧ Keeps s u := by
  refine ⟨_, rfl, ?_⟩
  repeat' with_reducible first
    | exact Keeps.refl _ | apply State.serve_keeps | apply guarded_keeps | intro _ | exact le_refl _ | exact rfl
    | refine Keeps.fst (by assumption) ?_

theorem execNetLinkChanged_keeps (t : Nat) (port : Nat) (up : Bool) (s : State) : ∃ u, execNetLinkChanged t port up s = .next u ∧ Keeps s u := by
  refine ⟨_, rfl, ?_⟩
  repeat' with_reducible first
    | exact Keeps.refl _ | apply Keeps.ite | apply State.at_keeps | apply State.roleCheck_keeps | apply State.wrB_keeps
    | split

end Sys2Proof.Machine
end

