-- ==== Sys2Proof/Laws/Keeps/Collector.lean ====
section
/-! SUPPORT. What every command respects (`Keeps`), for the operations of Machine/Collector.lean. -/

set_option linter.all false

namespace Sys2Proof.Machine
open Obj

theorem State.capture_keeps {a s : State} (h : Keeps a s) (n : Nat) (at_ : Nat) : Keeps a (State.capture s n at_) := by
  unfold State.capture
  repeat' with_reducible first
    | exact h | apply Keeps.ite | apply State.warmNow_keeps | apply State.agesNow_keeps | apply State.modStr_keeps
    | apply State.shotRefer_keeps | exact Keeps.refl _ | intro _ | exact le_refl _ | exact rfl | split

theorem State.releaseLap_keeps {a s : State} (h : Keeps a s) (str : Nat) (seq : Nat) : Keeps a (State.releaseLap s str seq) := by
  unfold State.releaseLap
  repeat' with_reducible first
    | exact h | apply Keeps.ite | apply State.underOld_keeps | apply State.buildResult_keeps | apply State.showResults_keeps
    | apply State.learnLap_keeps | apply State.modLaps_keeps | apply State.modStr_keeps | apply State.capture_keeps
    | apply State.limitsReleased_keeps | exact Keeps.refl _ | intro _ | exact le_refl _ | exact rfl | split | dsimp only

theorem State.releaseLate_keeps {a s : State} (h : Keeps a s) (str : Nat) (seq : Nat) : Keeps a (State.releaseLate s str seq) := by
  unfold State.releaseLate
  repeat' with_reducible first
    | exact h | apply Keeps.ite | apply State.releaseLap_keeps | exact Keeps.refl _ | intro _ | exact le_refl _ | exact rfl
    | split

theorem execResultInstant_keeps (t : Nat) (str : Nat) (seq : Nat) (s : State) : ∃ u, execResultInstant t str seq s = .next u ∧ Keeps s u := by
  refine ⟨_, rfl, ?_⟩
  repeat' with_reducible first
    | exact Keeps.refl _ | apply Keeps.ite | apply State.at_keeps | apply State.releaseLap_keeps | intro _ | exact le_refl _
    | exact rfl | split

theorem execLapDataComplete_keeps (t : Nat) (str : Nat) (s : State) : ∃ u, execLapDataComplete t str s = .next u ∧ Keeps s u := by
  refine ⟨_, rfl, ?_⟩
  repeat' with_reducible first
    | exact Keeps.refl _ | apply Keeps.ite | apply State.at_keeps | apply State.completeLap_keeps
    | apply State.releaseLate_keeps | apply Keeps.foldl | intro _ | exact le_refl _ | exact rfl | split

theorem State.feedAll_keeps {a s : State} (h : Keeps a s) (u : LapUnit) : Keeps a (State.feedAll s u) := by
  unfold State.feedAll
  repeat' with_reducible first
    | exact h | exact Keeps.refl _ | intro _ | apply Keeps.mapSess | exact le_refl _ | exact rfl | apply Keeps.mk'

theorem State.collSecond_keeps {a s : State} (h : Keeps a s)  : Keeps a (State.collSecond s) := by
  unfold State.collSecond
  repeat' with_reducible first
    | exact h | apply Keeps.ite | apply State.wr_keeps | exact le_refl _ | exact rfl | split | apply Keeps.mk'

theorem State.countGap_keeps {a s : State} (h : Keeps a s) (n : Nat) (u : LapUnit) : Keeps a (State.countGap s n u) := by
  unfold State.countGap
  repeat' with_reducible first
    | exact h | apply Keeps.ite | apply State.wrB_keeps | apply State.bump_keeps | apply State.wr_keeps
    | apply State.record_keeps | exact le_refl _ | exact rfl | split | apply Keeps.mk'

theorem execLapUnitReceived_keeps (t : Nat) (str : Nat) (s : State) : ∃ u, execLapUnitReceived t str s = .next u ∧ Keeps s u := by
  refine ⟨_, rfl, ?_⟩
  repeat' with_reducible first
    | exact Keeps.refl _ | apply Keeps.ite | apply State.at_keeps | apply State.collSecond_keeps | apply State.modStr_keeps
    | apply State.countGap_keeps | intro _ | exact le_refl _ | exact rfl | split | apply Keeps.mk'

theorem State.handOn_keeps {a s : State} (h : Keeps a s) (u : LapUnit) : Keeps a (State.handOn s u) := by
  unfold State.handOn
  repeat' with_reducible first
    | exact h | apply Keeps.ite | apply State.writeGap_keeps | apply State.writeLap_keeps | apply State.feedAll_keeps
    | apply State.bump_keeps | exact le_refl _ | exact rfl | split | apply Keeps.mk'

theorem execCollectorRound_keeps (t : Nat) (s : State) : ∃ u, execCollectorRound t s = .next u ∧ Keeps s u := by
  refine ⟨_, rfl, ?_⟩
  repeat' with_reducible first
    | exact Keeps.refl _ | apply Keeps.ite | apply State.at_keeps | apply State.collSecond_keeps | apply State.handOn_keeps
    | apply State.modStr_keeps | apply Keeps.foldl | intro _ | exact le_refl _ | exact rfl | split | apply Keeps.mk'

end Sys2Proof.Machine
end

