-- ==== Sys2Proof/Laws/Keeps/Pacer.lean ====
section
/-! SUPPORT. What every command respects (`Keeps`), for the operations of Machine/Pacer.lean. -/

set_option linter.all false

namespace Sys2Proof.Machine
open Obj

theorem State.modPout_keeps {a s : State} (h : Keeps a s) (k : Nat) (f : POut → POut) : Keeps a (State.modPout s k f) :=
  h.lists rfl rfl rfl rfl rfl rfl rfl rfl rfl rfl rfl rfl (setNth_length _ _ _) rfl

theorem State.pacerRegs_keeps {a s : State} (h : Keeps a s) (k : Nat) : Keeps a (State.pacerRegs s k) := by
  unfold State.pacerRegs
  repeat' with_reducible first
    | exact h | apply Keeps.ite | apply State.wr_keeps | split

theorem State.pacerFire_keeps {a s : State} (h : Keeps a s) (k : Nat) (at_ : Nat) : Keeps a (State.pacerFire s k at_) := by
  refine h.trans ?_
  unfold State.pacerFire
  repeat' (first
    | (extract_lets +onlyGivenNames x; first | (refine cutTo x ?_ ?_ <;> [(intro hx; try clear_value x); subst x]) | (refine cutFun x ?_ ?_ <;> [(intro hfun; try clear_value x); (intro v; subst x)]) | (refine cutFun2 x ?_ ?_ <;> [(intro hfun; try clear_value x); (intro v y; subst x)]) | (refine cutFun3 x ?_ ?_ <;> [(intro hfun; try clear_value x); (intro v y; subst x)]) | (have := (x : Mbx); clear this; subst x) | (have := (x : Nonvol); clear this; subst x) | clear_value x | subst x)
    | with_reducible first | exact Keeps.refl _ | assumption
    | with_reducible first | apply State.modPout_keeps | apply State.wr_keeps | apply State.bump_keeps | apply State.lineLevel_keeps | apply State.injRequest_keeps | apply State.wrB_keeps | apply Keeps.foldl | apply Keeps.mapSess
    | with_reducible first | exact Nat.le_refl _ | exact Nat.le_succ _ | exact Nat.le_add_right _ _ | exact rfl | exact fun _ => rfl | exact fun _ => Nat.le_refl _ | exact id | exact fun i j => ⟨i, j⟩ | exact fun i j => ⟨j, rfl⟩ | exact fun i j => ⟨rfl, rfl⟩ | exact fun i => Store.load_sorted i _ | exact fun _ => keepMeasured_sorted _ _ _
    | apply hfun
    | intro _
    | split
    | dsimp -zeta only
    | refine Keeps.fst (by assumption) ?_
    | with_reducible first | apply Keeps.mk')

theorem State.pacerLate_keeps {a s : State} (h : Keeps a s) (k : Nat) (at_ : Nat) : Keeps a (State.pacerLate s k at_) := by
  unfold State.pacerLate
  repeat' with_reducible first
    | exact h | apply State.bump_keeps | apply State.wrB_keeps | apply State.pacerFire_keeps

theorem State.pacerDiscard_keeps {a s : State} (h : Keeps a s) (k : Nat) : Keeps a (State.pacerDiscard s k) := by
  unfold State.pacerDiscard
  repeat' with_reducible first
    | exact h | apply State.modPout_keeps | exact Keeps.refl _ | intro _ | exact le_refl _ | exact rfl | apply Keeps.mk'

theorem State.pacerRule_keeps {a s : State} (h : Keeps a s) (k : Nat) : Keeps a (State.pacerRule s k) := by
  unfold State.pacerRule
  repeat' with_reducible first
    | exact h | apply Keeps.ite | apply State.modPout_keeps | apply State.pacerLate_keeps | apply State.record_keeps
    | apply State.pacerDiscard_keeps | apply State.bump_keeps | apply State.pacerRegs_keeps | exact Keeps.refl _ | intro _
    | exact le_refl _ | exact rfl | split | apply Keeps.mk'

theorem State.pacerOrigin_keeps {a s : State} (h : Keeps a s) (k : Nat) : Keeps a (State.pacerOrigin s k) := by
  unfold State.pacerOrigin
  repeat' with_reducible first
    | exact h | apply Keeps.ite | apply State.modPout_keeps | apply State.pacerDiscard_keeps | apply State.pacerRegs_keeps
    | exact Keeps.refl _ | intro _ | exact le_refl _ | exact rfl | split | apply Keeps.mk'

theorem State.pacerWritten_keeps {a s : State} (h : Keeps a s) (k : Nat) : Keeps a (State.pacerWritten s k) := by
  unfold State.pacerWritten
  repeat' with_reducible first
    | exact h | apply Keeps.ite | apply State.modPout_keeps | apply State.lineLevel_keeps | apply State.pacerRule_keeps
    | exact Keeps.refl _ | intro _ | exact le_refl _ | exact rfl | split | apply Keeps.mk'

theorem execPacerOccurrence_keeps (t : Nat) (out : Nat) (s : State) : ∃ u, execPacerOccurrence t out s = .next u ∧ Keeps s u := by
  refine ⟨_, rfl, ?_⟩
  repeat' with_reducible first
    | exact Keeps.refl _ | apply Keeps.ite | apply State.at_keeps | apply State.pacerFire_keeps | apply State.pacerRegs_keeps
    | apply State.modPout_keeps | intro _ | exact le_refl _ | exact rfl | split | apply Keeps.mk'

theorem execPulseEnd_keeps (t : Nat) (out : Nat) (s : State) : ∃ u, execPulseEnd t out s = .next u ∧ Keeps s u := by
  refine ⟨_, rfl, ?_⟩
  repeat' with_reducible first
    | exact Keeps.refl _ | apply Keeps.ite | apply State.at_keeps | apply State.lineLevel_keeps | apply State.modPout_keeps
    | intro _ | exact le_refl _ | exact rfl | split | apply Keeps.mk'

theorem State.winState_keeps {a s : State} (h : Keeps a s) (k : Nat) : Keeps a (State.winState s k) := by
  unfold State.winState
  repeat' with_reducible first
    | exact h | apply Keeps.ite | apply State.wr_keeps | split

theorem State.captureWritten_keeps {a s : State} (h : Keeps a s) (k : Nat) : Keeps a (State.captureWritten s k) := by
  unfold State.captureWritten
  repeat' with_reducible first
    | exact h | apply Keeps.ite | apply State.wr_keeps | apply State.winState_keeps | apply State.wrB_keeps | split

theorem execCaptureWindow_keeps (t : Nat) (input : Nat) (s : State) : ∃ u, execCaptureWindow t input s = .next u ∧ Keeps s u := by
  refine ⟨_, rfl, ?_⟩
  repeat' with_reducible first
    | exact Keeps.refl _ | apply Keeps.ite | apply State.at_keeps | apply State.winState_keeps | split

theorem execCapture_keeps (t : Nat) (input : Nat) (edge : Nat) (s : State) : ∃ u, execCapture t input edge s = .next u ∧ Keeps s u := by
  refine ⟨_, rfl, ?_⟩
  repeat' with_reducible first
    | exact Keeps.refl _ | apply Keeps.ite | apply State.at_keeps | apply State.wrB_keeps | apply State.bump_keeps
    | apply State.wr_keeps | apply State.stamp_keeps | apply State.record_keeps | exact le_refl _ | exact rfl | split
    | apply Keeps.setCap | apply Keeps.mk'

theorem State.timeMoved_keeps {a s : State} (h : Keeps a s) (origin : Bool) (backward : Bool) : Keeps a (State.timeMoved s origin backward) := by
  unfold State.timeMoved
  repeat' with_reducible first
    | exact h | apply Keeps.ite | apply State.eachStr_keeps | apply State.modLaps_keeps | apply State.chanStep_keeps
    | apply State.pacerOrigin_keeps | apply State.pacerRule_keeps | apply State.winState_keeps | apply Keeps.foldl
    | exact Keeps.refl _ | intro _ | exact le_refl _ | exact rfl | split | apply Keeps.mk'

end Sys2Proof.Machine
end

