-- ==== Sys2Proof/Laws/Keeps/Time.lean ====
section
/-! SUPPORT. What every command respects (`Keeps`), for the operations of Machine/Time.lean. -/

set_option linter.all false

namespace Sys2Proof.Machine
open Obj

theorem State.modDom_keeps {a s : State} (h : Keeps a s) (i : Nat) (f : Dom → Dom) : Keeps a (State.modDom s i f) := by
  unfold State.modDom
  repeat' with_reducible first
    | exact h | exact le_refl _ | exact rfl | apply Keeps.mk'

theorem State.retime_keeps {a s : State} (h : Keeps a s) (r : Int) (sv : Int) (left : Int) : Keeps a (State.retime s r sv left) := by
  unfold State.retime
  repeat' with_reducible first
    | exact h | apply Keeps.ite | exact le_refl _ | exact rfl | split | apply Keeps.mk'

theorem State.domRegs_keeps {a s : State} (h : Keeps a s) (i : Nat) : Keeps a (State.domRegs s i) := by
  unfold State.domRegs
  repeat' with_reducible first
    | exact h | apply Keeps.ite | apply State.wrI_keeps | split

theorem State.timeRegs_keeps {a s : State} (h : Keeps a s)  : Keeps a (State.timeRegs s) := by
  unfold State.timeRegs
  repeat' with_reducible first
    | exact h | apply Keeps.ite | apply State.domRegs_keeps | apply State.wr_keeps | apply State.wrI_keeps
    | apply State.wrB_keeps | split

theorem State.timeProps_keeps {a s : State} (h : Keeps a s)  : Keeps a (State.timeProps s) := by
  unfold State.timeProps
  dsimp only
  repeat' with_reducible first
    | exact h | apply Keeps.ite | apply State.wrB_keeps | apply State.wr_keeps | split

theorem State.moveBase_keeps {a s : State} (h : Keeps a s) (d : Int) (isStep : Bool) : Keeps a (State.moveBase s d isStep) := by
  unfold State.moveBase
  repeat' with_reducible first
    | exact h | apply Keeps.ite | exact le_refl _ | exact rfl | split | apply Keeps.mk'

theorem State.movePhases_keeps {a s : State} (h : Keeps a s) (d : Int) : Keeps a (State.movePhases s d) := by
  unfold State.movePhases
  repeat' with_reducible first
    | exact h | apply Keeps.ite | apply State.modDom_keeps | apply Keeps.foldl | exact Keeps.refl _ | intro _
    | exact le_refl _ | exact rfl | split | apply Keeps.mk'

theorem State.stepTime_keeps {a s : State} (h : Keeps a s) (i : Nat) (d : Int) (cause : Nat) : Keeps a (State.stepTime s i d cause) := by
  unfold State.stepTime
  repeat' with_reducible first
    | exact h | apply State.movePhases_keeps | apply State.moveBase_keeps | apply State.wrI_keeps | apply State.bump_keeps
    | apply State.stamp_keeps | apply State.record_keeps | apply State.timeMoved_keeps

theorem State.firstLock_keeps {a s : State} (h : Keeps a s) (i : Nat) : Keeps a (State.firstLock s i) := by
  unfold State.firstLock
  repeat' with_reducible first
    | exact h | apply State.wr_keeps | apply State.movePhases_keeps | apply State.moveBase_keeps | apply State.retime_keeps
    | apply State.modDom_keeps | apply State.stamp_keeps | apply State.wrB_keeps | apply State.timeProps_keeps
    | apply State.timeMoved_keeps | apply State.record_keeps | exact Keeps.refl _ | intro _ | exact le_refl _ | exact rfl
    | apply Keeps.mk'

theorem State.switchTo_keeps {a s : State} (h : Keeps a s) (j : Nat) : Keeps a (State.switchTo s j) := by
  unfold State.switchTo
  repeat' with_reducible first
    | exact h | apply Keeps.ite | apply State.wr_keeps | apply State.modDom_keeps | apply State.retime_keeps
    | apply State.stepTime_keeps | apply State.moveBase_keeps | apply State.wrB_keeps | apply State.bump_keeps
    | apply State.timeProps_keeps | apply State.record_keeps | exact Keeps.refl _ | intro _ | exact le_refl _ | exact rfl
    | split | apply Keeps.mk'

theorem State.setDom_keeps {a s : State} (h : Keeps a s) (i : Nat) (new : Nat) : Keeps a (State.setDom s i new) := by
  unfold State.setDom
  repeat' with_reducible first
    | exact h | apply Keeps.ite | apply State.wr_keeps | apply State.modDom_keeps | apply State.stamp_keeps
    | apply State.retime_keeps | apply State.record_keeps | exact Keeps.refl _ | intro _ | exact le_refl _ | exact rfl | split

theorem State.chooseDomain_keeps {a s : State} (h : Keeps a s)  : Keeps a (State.chooseDomain s) := by
  unfold State.chooseDomain
  repeat' with_reducible first
    | exact h | apply Keeps.ite | apply State.firstLock_keeps | apply State.switchTo_keeps | split

theorem State.timeState_keeps {a s : State} (h : Keeps a s)  : Keeps a (State.timeState s) := by
  unfold State.timeState
  repeat' with_reducible first
    | exact h | apply Keeps.ite | apply State.wr_keeps | apply State.retime_keeps | apply State.roleCheck_keeps
    | apply State.record_keeps | split

theorem State.compareDoms_keeps {a s : State} (h : Keeps a s)  : Keeps a (State.compareDoms s) := by
  unfold State.compareDoms
  repeat' with_reducible first
    | exact h | apply Keeps.ite | apply State.record_keeps | apply State.wrB_keeps | exact le_refl _ | exact rfl | split
    | apply Keeps.mk'

theorem State.slewCheck_keeps {a s : State} (h : Keeps a s)  : Keeps a (State.slewCheck s) := by
  unfold State.slewCheck
  repeat' with_reducible first
    | exact h | apply Keeps.ite | apply State.wrB_keeps | apply State.retime_keeps | split

theorem State.timeCheck_keeps {a s : State} (h : Keeps a s)  : Keeps a (State.timeCheck s) := by
  unfold State.timeCheck
  repeat' with_reducible first
    | exact h | apply State.timeRegs_keeps | apply State.compareDoms_keeps | apply State.timeState_keeps
    | apply State.chooseDomain_keeps | apply State.slewCheck_keeps

theorem State.masterRegs_keeps {a s : State} (h : Keeps a s) (i : Nat) (a_ : PtpAnnounce) : Keeps a (State.masterRegs s i a_) := by
  unfold State.masterRegs
  repeat' with_reducible first
    | exact h | apply State.wr_keeps | apply State.wrB_keeps

theorem State.selectMaster_keeps {a s : State} (h : Keeps a s) (i : Nat) : Keeps a (State.selectMaster s i) := by
  unfold State.selectMaster
  repeat' with_reducible first
    | exact h | apply Keeps.ite | apply State.masterRegs_keeps | apply State.modDom_keeps | apply State.setDom_keeps
    | apply State.record_keeps | apply State.bump_keeps | apply State.timeProps_keeps | exact Keeps.refl _ | intro _
    | exact le_refl _ | exact rfl | split | apply Keeps.mk'

theorem State.domStart_keeps {a s : State} (h : Keeps a s) (i : Nat) : Keeps a (State.domStart s i) := by
  unfold State.domStart
  repeat' with_reducible first
    | exact h | apply Keeps.ite | apply State.setDom_keeps | apply State.modDom_keeps | exact Keeps.refl _ | intro _
    | exact le_refl _ | exact rfl | split

theorem State.domWritten_keeps {a s : State} (h : Keeps a s) (o : State) (i : Nat) : Keeps a (State.domWritten s o i) := by
  unfold State.domWritten
  repeat' with_reducible first
    | exact h | apply Keeps.ite | apply State.timeCheck_keeps | apply State.domStart_keeps | split

theorem execAnnouncePtp_keeps (t : Nat) (port : Nat) (dom : Nat) (m : PtpAnnounce) (s : State) : ∃ u, execAnnouncePtp t port dom m s = .next u ∧ Keeps s u := by
  refine ⟨_, rfl, ?_⟩
  repeat' with_reducible first
    | exact Keeps.refl _ | apply Keeps.ite | apply State.at_keeps | apply State.timeCheck_keeps
    | apply State.selectMaster_keeps | apply State.modDom_keeps | apply Keeps.foldl | intro _ | exact le_refl _ | exact rfl
    | split | apply Keeps.mk'

theorem execPdelayReq_keeps (t : Nat) (port : Nat) (dom : Nat) (seq : Nat) (ident : Nat) (pnum : Nat) (turn : Nat) (s : State) : ∃ u, execPdelayReq t port dom seq ident pnum turn s = .next u ∧ Keeps s u := by
  refine ⟨_, rfl, ?_⟩
  repeat' with_reducible first
    | exact Keeps.refl _ | apply Keeps.ite | apply State.at_keeps | apply State.send_keeps | intro _ | exact le_refl _
    | exact rfl | split

theorem execPdelayExchange_keeps (t : Nat) (port : Nat) (resp : Option (Nat × Nat × Int)) (s : State) : ∃ u, execPdelayExchange t port resp s = .next u ∧ Keeps s u := by
  refine ⟨_, rfl, ?_⟩
  repeat' with_reducible first
    | exact Keeps.refl _ | apply Keeps.ite | apply State.at_keeps | apply State.send_keeps | apply State.wr_keeps
    | apply Keeps.foldl | intro _ | exact le_refl _ | exact rfl | split | apply Keeps.mk' | dsimp only

theorem State.acceptSample_keeps {a s : State} (h : Keeps a s) (i : Nat) (rx : Nat) (o : Int) (pred : Int) (dt : Nat) (steer : Bool) : Keeps a (State.acceptSample s i rx o pred dt steer) := by
  unfold State.acceptSample
  repeat' with_reducible first
    | exact h | apply Keeps.ite | apply State.bump_keeps | apply State.modDom_keeps | apply State.retime_keeps
    | apply State.setDom_keeps | exact Keeps.refl _ | intro _ | exact le_refl _ | exact rfl | split | apply Keeps.mk'

theorem State.syncSample_keeps {a s : State} (h : Keeps a s) (i : Nat) (rx : Nat) (t1 : Nat) (corr : Int) (mld : Int) : Keeps a (State.syncSample s i rx t1 corr mld) := by
  unfold State.syncSample
  repeat' with_reducible first
    | exact h | apply Keeps.ite | apply State.modDom_keeps | apply State.acceptSample_keeps | apply State.stepTime_keeps
    | apply State.retime_keeps | apply State.bump_keeps | exact Keeps.refl _ | intro _ | exact le_refl _ | exact rfl | split
    | apply Keeps.mk'

theorem execPtpSync_keeps (t : Nat) (rx : Nat) (port : Nat) (dom : Nat) (ident : Nat) (pnum : Nat) (t1 : Nat) (corr : Int) (twoStep : Bool) (log : Int) (s : State) : ∃ u, execPtpSync t rx port dom ident pnum t1 corr twoStep log s = .next u ∧ Keeps s u := by
  refine ⟨_, rfl, ?_⟩
  repeat' with_reducible first
    | exact Keeps.refl _ | apply Keeps.ite | apply State.at_keeps | apply State.timeCheck_keeps | apply State.wr_keeps
    | apply State.wrB_keeps | apply State.syncSample_keeps | apply Keeps.foldl | intro _ | exact le_refl _ | exact rfl | split

theorem execDomainState_keeps (t : Nat) (dom : Nat) (s : State) : ∃ u, execDomainState t dom s = .next u ∧ Keeps s u := by
  refine ⟨_, rfl, ?_⟩
  repeat' with_reducible first
    | exact Keeps.refl _ | apply Keeps.ite | apply State.at_keeps | apply State.bump_keeps | apply State.modDom_keeps
    | apply State.selectMaster_keeps | apply State.setDom_keeps | apply State.timeCheck_keeps | intro _ | exact le_refl _
    | exact rfl | split | apply Keeps.mk'

theorem execReturnQual_keeps (t : Nat) (s : State) : ∃ u, execReturnQual t s = .next u ∧ Keeps s u := by
  refine ⟨_, rfl, ?_⟩
  repeat' with_reducible first
    | exact Keeps.refl _ | apply Keeps.ite | apply State.at_keeps | apply State.timeCheck_keeps | split

theorem execSlewComplete_keeps (t : Nat) (s : State) : ∃ u, execSlewComplete t s = .next u ∧ Keeps s u := by
  refine ⟨_, rfl, ?_⟩
  repeat' with_reducible first
    | exact Keeps.refl _ | apply Keeps.ite | apply State.at_keeps | apply State.timeRegs_keeps | apply State.slewCheck_keeps
    | split

theorem execTimeState_keeps (t : Nat) (s : State) : ∃ u, execTimeState t s = .next u ∧ Keeps s u := by
  refine ⟨_, rfl, ?_⟩
  repeat' with_reducible first
    | exact Keeps.refl _ | apply Keeps.ite | apply State.at_keeps | apply State.timeRegs_keeps | apply State.timeState_keeps
    | split

theorem execDomainDisagree_keeps (t : Nat) (s : State) : ∃ u, execDomainDisagree t s = .next u ∧ Keeps s u := by
  refine ⟨_, rfl, ?_⟩
  repeat' with_reducible first
    | exact Keeps.refl _ | apply Keeps.ite | apply State.at_keeps | apply State.compareDoms_keeps | split

end Sys2Proof.Machine
end

