-- ==== Sys2Proof/Laws/Keeps/Can.lean ====
section
/-! SUPPORT. What every command respects (`Keeps`), for the operations of Machine/Can.lean. -/

set_option linter.all false

namespace Sys2Proof.Machine
open Obj

theorem State.canConfine_keeps {a s : State} (h : Keeps a s) (ch : Nat) : Keeps a (State.canConfine s ch) := by
  unfold State.canConfine
  repeat' with_reducible first
    | exact h | apply Keeps.ite | apply State.wr_keeps | apply State.record_keeps | apply State.wrB_keeps | split

theorem State.partnerSeen_keeps {a s : State} (h : Keeps a s) (ch : Nat) : Keeps a (State.partnerSeen s ch) := by
  unfold State.partnerSeen
  repeat' with_reducible first
    | exact h | apply Keeps.ite | apply State.wr_keeps | apply State.record_keeps | apply State.wrB_keeps
    | apply State.modBus_keeps | exact Keeps.refl _ | intro _ | exact le_refl _ | exact rfl | split | apply Keeps.mk'

theorem State.txFailed_keeps {a s : State} (h : Keeps a s) (ch : Nat) (o : Nat) (cause : Nat) : Keeps a (State.txFailed s ch o cause) := by
  unfold State.txFailed
  repeat' with_reducible first
    | exact h | apply Keeps.ite | apply State.wr_keeps | apply State.wrB_keeps | apply State.undelivered_keeps
    | apply State.record_keeps | apply State.modBus_keeps | exact Keeps.refl _ | intro _ | exact le_refl _ | exact rfl | split
    | apply Keeps.mk'

theorem State.pendReg_keeps {a s : State} (h : Keeps a s) (ch : Nat) (o : Nat) : Keeps a (State.pendReg s ch o) := by
  unfold State.pendReg
  repeat' with_reducible first
    | exact h | apply State.wrB_keeps | exact le_refl _ | exact rfl | apply Keeps.mk'

theorem State.attemptFailed_keeps {a s : State} (h : Keeps a s) (ch : Nat) (o : Nat) (cause : Nat) (d : Bytes) : Keeps a (State.attemptFailed s ch o cause d) := by
  unfold State.attemptFailed
  repeat' with_reducible first
    | exact h | apply Keeps.ite | apply State.modBus_keeps | apply State.txFailed_keeps | apply State.undelivered_keeps
    | apply State.bump_keeps | apply State.pendReg_keeps | exact Keeps.refl _ | intro _ | exact le_refl _ | exact rfl | split
    | apply Keeps.mk'

theorem State.busOff_keeps {a s : State} (h : Keeps a s) (ch : Nat) : Keeps a (State.busOff s ch) := by
  unfold State.busOff
  repeat' with_reducible first
    | exact h | apply Keeps.ite | apply State.wr_keeps | apply State.modBus_keeps | apply State.pendReg_keeps
    | apply State.txFailed_keeps | apply State.stamp_keeps | apply State.bump_keeps | apply State.wrB_keeps
    | apply State.record_keeps | apply State.fallbackEnter_keeps | apply State.canLeave_keeps | apply Keeps.foldl
    | exact Keeps.refl _ | intro _ | exact le_refl _ | exact rfl | split | apply Keeps.mk'

theorem State.ackRun_keeps {a s : State} (h : Keeps a s) (ch : Nat) : Keeps a (State.ackRun s ch) := by
  unfold State.ackRun
  repeat' with_reducible first
    | exact h | apply Keeps.ite | apply State.bump_keeps | apply State.record_keeps | apply State.wrB_keeps
    | apply State.fallbackEnter_keeps | split

theorem State.canNext_keeps {a s : State} (h : Keeps a s) (ch : Nat) : Keeps a (State.canNext s ch) := by
  unfold State.canNext
  repeat' with_reducible first
    | exact h | apply Keeps.ite | apply State.canLeave_keeps | apply State.canOffer_keeps | split

theorem execCanTxComplete_keeps (t : Nat) (ch : Nat) (outcome : Nat) (loop : Nat) (s : State) : ∃ u, execCanTxComplete t ch outcome loop s = .next u ∧ Keeps s u := by
  refine ⟨_, rfl, ?_⟩
  repeat' with_reducible first
    | exact Keeps.refl _ | apply Keeps.ite | apply State.at_keeps | apply State.wr_keeps | apply State.modBus_keeps
    | apply State.bump_keeps | apply State.pendReg_keeps | apply State.stamp_keeps | apply State.canNext_keeps
    | apply State.canConfine_keeps | apply State.partnerSeen_keeps | apply State.attemptFailed_keeps
    | apply State.ackRun_keeps | apply State.busOff_keeps | intro _ | exact le_refl _ | exact rfl | split | apply Keeps.mk'

theorem State.msgLost_keeps {a s : State} (h : Keeps a s) (ch : Nat) (o : Nat) : Keeps a (State.msgLost s ch o) := by
  unfold State.msgLost
  repeat' with_reducible first
    | exact h | apply Keeps.ite | apply State.record_keeps | apply State.modBus_keeps | exact Keeps.refl _ | intro _
    | exact le_refl _ | exact rfl | split | apply Keeps.mk'

theorem execCanFrameReceived_keeps (t : Nat) (ch : Nat) (ident : Nat) (xtd : Bool) (remote : Bool) (brs : Bool) (esi : Bool) (data : Bytes) (s : State) : ∃ u, execCanFrameReceived t ch ident xtd remote brs esi data s = .next u ∧ Keeps s u := by
  refine ⟨_, rfl, ?_⟩
  dsimp only
  repeat' with_reducible first
    | exact Keeps.refl _ | apply Keeps.ite | apply State.at_keeps | apply State.bump_keeps | apply State.fresh_keeps
    | apply State.wr_keeps | apply State.canConfine_keeps | apply State.partnerSeen_keeps | apply State.stamp_keeps
    | apply State.wrB_keeps | apply State.msgLost_keeps | split | refine Keeps.snd (by assumption) ?_

theorem execCanBusError_keeps (t : Nat) (ch : Nat) (by8 : Bool) (s : State) : ∃ u, execCanBusError t ch by8 s = .next u ∧ Keeps s u := by
  refine ⟨_, rfl, ?_⟩
  repeat' with_reducible first
    | exact Keeps.refl _ | apply Keeps.ite | apply State.at_keeps | apply State.bump_keeps | apply State.canConfine_keeps
    | apply State.wr_keeps | split

theorem execBusIntegrationComplete_keeps (t : Nat) (ch : Nat) (s : State) : ∃ u, execBusIntegrationComplete t ch s = .next u ∧ Keeps s u := by
  refine ⟨_, rfl, ?_⟩
  repeat' with_reducible first
    | exact Keeps.refl _ | apply Keeps.ite | apply State.at_keeps | apply State.canNext_keeps | apply State.wr_keeps | split

theorem execBusOffRecovered_keeps (t : Nat) (ch : Nat) (s : State) : ∃ u, execBusOffRecovered t ch s = .next u ∧ Keeps s u := by
  refine ⟨_, rfl, ?_⟩
  repeat' with_reducible first
    | exact Keeps.refl _ | apply Keeps.ite | apply State.at_keeps | apply State.wr_keeps | apply State.modBus_keeps
    | apply State.canNext_keeps | apply State.record_keeps | intro _ | exact le_refl _ | exact rfl | split | apply Keeps.mk'

theorem State.canRecover_keeps {a s : State} (h : Keeps a s) (ch : Nat) : Keeps a (State.canRecover s ch) := by
  unfold State.canRecover
  repeat' with_reducible first
    | exact h | apply State.wr_keeps | apply State.modBus_keeps | exact Keeps.refl _ | intro _ | exact le_refl _ | exact rfl
    | apply Keeps.mk'

theorem execFallbackDatagram_keeps (t : Nat) (ch : Nat) (s : State) : ∃ u, execFallbackDatagram t ch s = .next u ∧ Keeps s u := by
  refine ⟨_, rfl, ?_⟩
  repeat' with_reducible first
    | exact Keeps.refl _ | apply Keeps.ite | apply State.at_keeps | apply State.fallbackSend_keeps | apply State.modBus_keeps
    | intro _ | exact le_refl _ | exact rfl | split | apply Keeps.mk'

theorem State.canChanWritten_keeps {a s : State} (h : Keeps a s) (o : State) (ch : Nat) : Keeps a (State.canChanWritten s o ch) := by
  unfold State.canChanWritten
  repeat' with_reducible first
    | exact h | apply Keeps.ite | apply State.canStop_keeps | apply State.canStart_keeps | apply State.canOffer_keeps
    | exact Keeps.refl _ | intro _ | exact le_refl _ | exact rfl | split

theorem State.canBegin_keeps {a s : State} (h : Keeps a s)  : Keeps a (State.canBegin s) := by
  unfold State.canBegin
  repeat' with_reducible first
    | exact h | apply Keeps.ite | apply State.canStart_keeps | apply State.ownerRefresh_keeps | apply Keeps.foldl
    | exact Keeps.refl _ | intro _ | exact le_refl _ | exact rfl | split

end Sys2Proof.Machine
end

