-- ==== Sys2Proof/Laws/Keeps/StreamOps.lean ====
section
/-! SUPPORT. What every command respects (`Keeps`), for the operations of Machine/StreamOps.lean. -/

set_option linter.all false

namespace Sys2Proof.Machine
open Obj

theorem State.markSending_keeps {a s : State} (h : Keeps a s)  : Keeps a (State.markSending s) := by
  unfold State.markSending
  repeat' with_reducible first
    | exact h | exact Keeps.refl _ | intro _ | exact le_refl _ | exact rfl | apply Keeps.mk'

theorem State.strayStream_keeps {a s : State} (h : Keeps a s) (q : Stream) : Keeps a (State.strayStream s q) := by
  unfold State.strayStream
  repeat' with_reducible first
    | exact h | apply Keeps.ite | apply State.wr_keeps | apply State.wrB_keeps | split

theorem State.closeStream_keeps {a s : State} (h : Keeps a s) (num : Nat) (q : Stream) : Keeps a (State.closeStream s num q) := by
  unfold State.closeStream
  repeat' with_reducible first
    | exact h | apply Keeps.ite | apply State.modSess_keeps | apply State.strayStream_keeps | apply State.markSending_keeps
    | exact Keeps.refl _ | intro _ | exact le_refl _ | exact rfl | split | apply Keeps.mk'

theorem State.stopStreams_keeps {a s : State} (h : Keeps a s)  : Keeps a (State.stopStreams s) := by
  unfold State.stopStreams
  repeat' with_reducible first
    | exact h | apply State.closeStream_keeps | apply Keeps.foldl | exact Keeps.refl _ | intro _ | exact le_refl _ | exact rfl
    | apply Keeps.mk'

end Sys2Proof.Machine
end

