-- ==== Sys2Proof/Laws/Keeps/I2c.lean ====
section
/-! SUPPORT. What every command respects (`Keeps`), for the operations of Machine/I2c.lean. -/

set_option linter.all false

namespace Sys2Proof.Machine
open Obj

theorem State.portRegs_keeps {a s : State} (h : Keeps a s)  : Keeps a (State.portRegs s) := by
  unfold State.portRegs
  repeat' with_reducible first
    | exact h | apply Keeps.ite | apply State.wr_keeps | split

theorem State.portStart_keeps {a s : State} (h : Keeps a s)  : Keeps a (State.portStart s) := by
  unfold State.portStart
  repeat' with_reducible first
    | exact h | apply State.portRegs_keeps | apply State.attention_keeps | exact le_refl _ | exact rfl | apply Keeps.mk'

theorem State.linesHigh_keeps {a s : State} (h : Keeps a s)  : Keeps a (State.linesHigh s) := by
  unfold State.linesHigh
  repeat' with_reducible first
    | exact h | apply Keeps.ite | apply State.wrB_keeps | exact le_refl _ | exact rfl | split | apply Keeps.mk'

theorem State.clearRecord_keeps {a s : State} (h : Keeps a s)  : Keeps a (State.clearRecord s) := by
  unfold State.clearRecord
  repeat' with_reducible first
    | exact h | apply State.wrB_keeps | exact le_refl _ | exact rfl | apply Keeps.mk'

theorem State.addressed_keeps {a s : State} (h : Keeps a s) (addr : Nat) : Keeps a (State.addressed s addr).1 := by
  unfold State.addressed
  dsimp only
  repeat' with_reducible first
    | exact h | apply Keeps.ite | apply State.linesHigh_keeps | apply State.bump_keeps | apply State.send_keeps
    | exact le_refl _ | exact rfl | split | apply Keeps.mk'

theorem State.selectWindow_keeps {a s : State} (h : Keeps a s) (addr : Nat) (z2 : Bytes) : Keeps a (State.selectWindow s addr z2) := by
  unfold State.selectWindow
  repeat' with_reducible first
    | exact h | apply Keeps.ite | apply State.send_keeps | apply State.wr_keeps | apply State.bump_keeps | split

theorem State.sendWindow_keeps {a s : State} (h : Keeps a s) (addr : Nat) (n : Nat) (stop : Bool) : Keeps a (State.sendWindow s addr n stop) := by
  unfold State.sendWindow
  repeat' with_reducible first
    | exact h | apply Keeps.ite | apply State.send_keeps | apply State.clearRecord_keeps | exact Keeps.refl _ | intro _
    | exact le_refl _ | exact rfl | split | apply Keeps.mk'

theorem execI2cWrite_keeps (t : Nat) (addr : Nat) (data : Bytes) (s : State) : ∃ u, execI2cWrite t addr data s = .next u ∧ Keeps s u := by
  unfold execI2cWrite
  have h := State.addressed_keeps (State.at_keeps (Keeps.refl s) t) addr
  generalize (s.at t).addressed addr = p at h ⊢
  obtain ⟨v, ok⟩ := p
  refine ⟨_, rfl, State.portRegs_keeps ?_⟩
  split
  · exact State.selectWindow_keeps h ..
  · exact h

theorem execI2cRead_keeps (t : Nat) (addr : Nat) (n : Nat) (stop : Bool) (s : State) : ∃ u, execI2cRead t addr n stop s = .next u ∧ Keeps s u := by
  unfold execI2cRead
  have h := State.addressed_keeps (State.at_keeps (Keeps.refl s) t) addr
  generalize (s.at t).addressed addr = p at h ⊢
  obtain ⟨v, ok⟩ := p
  refine ⟨_, rfl, State.portRegs_keeps ?_⟩
  split
  · exact State.sendWindow_keeps h ..
  · exact h

theorem execStretchLimits_keeps (t : Nat) (addr : Nat) (n : Nat) (stop : Bool) (s : State) : ∃ u, execStretchLimits t addr n stop s = .next u ∧ Keeps s u := by
  unfold execStretchLimits
  have h := State.addressed_keeps (State.at_keeps (Keeps.refl s) t) addr
  generalize (s.at t).addressed addr = p at h ⊢
  obtain ⟨v, ok⟩ := p
  refine ⟨_, rfl, State.portRegs_keeps ?_⟩
  split
  · exact h
  split
  · exact State.send_keeps (State.bump_keeps h ..) _
  · exact State.sendWindow_keeps h ..

theorem execI2cSleep_keeps (t : Nat) (s : State) : ∃ u, execI2cSleep t s = .next u ∧ Keeps s u := by
  refine ⟨_, rfl, ?_⟩
  repeat' with_reducible first
    | exact Keeps.refl _ | apply Keeps.ite | apply State.at_keeps | apply State.portRegs_keeps | exact le_refl _ | exact rfl
    | split | apply Keeps.mk'

theorem execI2cWake_keeps (t : Nat) (addr : Nat) (s : State) : ∃ u, execI2cWake t addr s = .next u ∧ Keeps s u := by
  refine ⟨_, rfl, ?_⟩
  repeat' with_reducible first
    | exact Keeps.refl _ | apply State.portRegs_keeps | apply State.addressed_keeps | apply State.at_keeps
    | refine Keeps.fst (by assumption) ?_

theorem State.attnRefused_keeps {a s : State} (h : Keeps a s)  : Keeps a (State.attnRefused s) := by
  unfold State.attnRefused
  repeat' with_reducible first
    | exact h | apply Keeps.ite | apply State.bump_keeps | apply State.record_keeps | apply State.wrB_keeps | exact le_refl _
    | exact rfl | split | apply Keeps.mk'

theorem State.attempt_keeps {a s : State} (h : Keeps a s) (outcome : Nat) : Keeps a (State.attempt s outcome) := by
  unfold State.attempt
  repeat' with_reducible first
    | exact h | apply State.send_keeps | apply State.clearRecord_keeps | apply State.bump_keeps
    | apply State.attnRefused_keeps | exact le_refl _ | exact rfl | split | apply Keeps.mk'

theorem execAttentionWrite_keeps (t : Nat) (outcome : Nat) (s : State) : ∃ u, execAttentionWrite t outcome s = .next u ∧ Keeps s u := by
  refine ⟨_, rfl, ?_⟩
  repeat' with_reducible first
    | exact Keeps.refl _ | apply Keeps.ite | apply State.at_keeps | apply State.portRegs_keeps | apply State.attempt_keeps
    | split

theorem execAttnRetry_keeps (t : Nat) (outcome : Nat) (s : State) : ∃ u, execAttnRetry t outcome s = .next u ∧ Keeps s u := by
  refine ⟨_, rfl, ?_⟩
  repeat' with_reducible first
    | exact Keeps.refl _ | apply Keeps.ite | apply State.at_keeps | apply State.portRegs_keeps | apply State.attempt_keeps
    | split

theorem execAbortsRstart_keeps (t : Nat) (addr : Nat) (s : State) : ∃ u, execAbortsRstart t addr s = .next u ∧ Keeps s u := by
  unfold execAbortsRstart
  have h := State.addressed_keeps (State.at_keeps (Keeps.refl s) t) addr
  generalize (s.at t).addressed addr = p at h ⊢
  obtain ⟨v, ok⟩ := p
  refine ⟨_, rfl, State.portRegs_keeps ?_⟩
  split
  · exact State.bump_keeps h ..
  · exact h

theorem execI2cIdleRelease_keeps (t : Nat) (addr : Nat) (s : State) : ∃ u, execI2cIdleRelease t addr s = .next u ∧ Keeps s u := by
  unfold execI2cIdleRelease
  have h := State.addressed_keeps (State.at_keeps (Keeps.refl s) t) addr
  generalize (s.at t).addressed addr = p at h ⊢
  obtain ⟨v, ok⟩ := p
  refine ⟨_, rfl, State.portRegs_keeps ?_⟩
  split
  · exact State.send_keeps h _
  · exact h

theorem State.recover_keeps {a s : State} (h : Keeps a s) (line : Nat) (pulses : Nat) (rep : Nat) : Keeps a (State.recover s line pulses rep).1 := by
  unfold State.recover
  dsimp only
  repeat' with_reducible first
    | exact h | apply Keeps.ite | apply State.send_keeps | apply State.bump_keeps | apply State.wrB_keeps
    | apply State.record_keeps | split

theorem execBusStuck_keeps (t : Nat) (line : Nat) (pulses : Nat) (s : State) : ∃ u, execBusStuck t line pulses s = .next u ∧ Keeps s u := by
  refine ⟨_, rfl, ?_⟩
  repeat' with_reducible first
    | exact Keeps.refl _ | apply Keeps.ite | apply State.at_keeps | apply State.recover_keeps | apply State.portRegs_keeps
    | exact le_refl _ | exact rfl | split | refine Keeps.fst (by assumption) ?_ | apply Keeps.mk'

theorem execRecoveryRepeat_keeps (t : Nat) (line : Nat) (pulses : Nat) (s : State) : ∃ u, execRecoveryRepeat t line pulses s = .next u ∧ Keeps s u := by
  refine ⟨_, rfl, ?_⟩
  repeat' with_reducible first
    | exact Keeps.refl _ | apply Keeps.ite | apply State.at_keeps | apply State.portRegs_keeps | apply State.linesHigh_keeps
    | apply State.recover_keeps | apply State.record_keeps | apply State.wrB_keeps | exact le_refl _ | exact rfl | split
    | refine Keeps.fst (by assumption) ?_ | apply Keeps.mk'

theorem State.portWritten_keeps {a s : State} (h : Keeps a s) (old : State) : Keeps a (State.portWritten s old) := by
  unfold State.portWritten
  repeat' with_reducible first
    | exact h | apply Keeps.ite | apply State.wrB_keeps | apply State.portRegs_keeps | exact le_refl _ | exact rfl | split
    | apply Keeps.mk'

end Sys2Proof.Machine
end

