-- ==== Sys2Proof/Laws/Keeps/Power.lean ====
section
/-! SUPPORT. What every command respects (`Keeps`), for the operations of Machine/Power.lean. -/

set_option linter.all false

namespace Sys2Proof.Machine
open Obj

theorem State.ratesFollow_keeps {a s : State} (h : Keeps a s)  : Keeps a (State.ratesFollow s) := by
  unfold State.ratesFollow
  repeat' with_reducible first
    | exact h | apply Keeps.ite | apply State.eachStr_keeps | apply State.rateRefresh_keeps | exact Keeps.refl _ | intro _
    | exact le_refl _ | exact rfl | split

theorem State.enterBackup_keeps {a s : State} (h : Keeps a s)  : Keeps a (State.enterBackup s) := by
  unfold State.enterBackup
  repeat' with_reducible first
    | exact h | apply State.roleCheck_keeps | apply State.ratesFollow_keeps | apply State.setSupply_keeps
    | apply State.bump_keeps | exact le_refl _ | exact rfl | apply Keeps.mk'

theorem State.backupRegs_keeps {a s : State} (h : Keeps a s)  : Keeps a (State.backupRegs s) := by
  unfold State.backupRegs
  repeat' with_reducible first
    | exact h | apply State.wr_keeps | split

theorem State.endBackup_keeps {a s : State} (h : Keeps a s)  : Keeps a (State.endBackup s) := by
  unfold State.endBackup
  repeat' with_reducible first
    | exact h | apply Keeps.ite | apply State.eachStr_keeps | apply State.wr_keeps | apply State.wrB_keeps
    | apply State.backupRegs_keeps | exact Keeps.refl _ | intro _ | exact le_refl _ | exact rfl | split | apply Keeps.mk'

theorem State.tapFollows_keeps {a s : State} (h : Keeps a s)  : Keeps a (State.tapFollows s) := by
  unfold State.tapFollows
  repeat' with_reducible first
    | exact h | apply Keeps.ite | apply State.wrB_keeps | exact Keeps.refl _ | intro _ | exact le_refl _ | exact rfl | split

theorem State.sprintAhead_keeps {a s : State} (h : Keeps a s)  : Keeps a (State.sprintAhead s) := by
  unfold State.sprintAhead
  repeat' with_reducible first
    | exact h | apply Keeps.ite | apply State.eachStr_keeps | apply State.modLaps_keeps | apply State.wrB_keeps
    | exact Keeps.refl _ | intro _ | exact le_refl _ | exact rfl | split

theorem State.leaveBackup_keeps {a s : State} (h : Keeps a s)  : Keeps a (State.leaveBackup s) := by
  unfold State.leaveBackup
  repeat' with_reducible first
    | exact h | apply Keeps.ite | apply State.endBackup_keeps | apply State.tapFollows_keeps | apply State.ratesFollow_keeps
    | apply State.sprintAhead_keeps | apply State.powerChange_keeps | apply State.roleCheck_keeps | exact Keeps.refl _
    | intro _ | exact le_refl _ | exact rfl | split | apply Keeps.mk'

theorem State.cutJournal_keeps {a s : State} (h : Keeps a s)  : Keeps a (State.cutJournal s ) := by
  refine h.trans ?_
  unfold State.cutJournal
  repeat' (first
    | (extract_lets +onlyGivenNames x; first | (refine cutTo x ?_ ?_ <;> [(intro hx; try clear_value x); subst x]) | (refine cutFun x ?_ ?_ <;> [(intro hfun; try clear_value x); (intro v; subst x)]) | (refine cutFun2 x ?_ ?_ <;> [(intro hfun; try clear_value x); (intro v y; subst x)]) | (refine cutFun3 x ?_ ?_ <;> [(intro hfun; try clear_value x); (intro v y; subst x)]) | (have := (x : Mbx); clear this; subst x) | (have := (x : Nonvol); clear this; subst x) | clear_value x | subst x)
    | with_reducible first | exact Keeps.refl _ | assumption
    | with_reducible first | apply State.cutSlot_keeps | apply State.answer_keeps | apply Keeps.foldl | apply Keeps.mapSess
    | with_reducible first | exact Nat.le_refl _ | exact Nat.le_succ _ | exact Nat.le_add_right _ _ | exact rfl | exact fun _ => rfl | exact fun _ => Nat.le_refl _ | exact id | exact fun i j => ⟨i, j⟩ | exact fun i j => ⟨j, rfl⟩ | exact fun i j => ⟨rfl, rfl⟩ | exact fun i => Store.load_sorted i _ | exact fun _ => keepMeasured_sorted _ _ _
    | apply hfun
    | intro _
    | split
    | dsimp -zeta only
    | with_reducible first | apply Keeps.nv | apply Keeps.nvmk | apply Keeps.objs | apply Keeps.mk')

theorem State.enterHoldup_keeps {a s : State} (h : Keeps a s) (cause : Nat) : Keeps a (State.enterHoldup s cause) := by
  unfold State.enterHoldup
  repeat' with_reducible first
    | exact h | apply Keeps.ite | apply State.endBackup_keeps | apply State.setSupply_keeps | apply State.wrB_keeps
    | apply State.eachStr_keeps | apply State.stopLaps_keeps | apply State.answerOpt_keeps | apply State.cutJournal_keeps
    | apply State.stopStreams_keeps | apply State.zeroSetpoint_keeps | apply State.clampNow_keeps
    | apply State.dispatchFrame_keeps | apply State.roleCheck_keeps | exact Keeps.refl _ | intro _ | exact le_refl _
    | exact rfl | split | apply Keeps.mk'

theorem State.powerOff_keeps {a s : State} (h : Keeps a s) (new : Supply) : Keeps a (State.powerOff s new) := by
  refine h.trans ?_
  unfold State.powerOff
  repeat' (first
    | (extract_lets +onlyGivenNames x; first | (refine cutTo x ?_ ?_ <;> [(intro hx; try clear_value x); subst x]) | (refine cutFun x ?_ ?_ <;> [(intro hfun; try clear_value x); (intro v; subst x)]) | (refine cutFun2 x ?_ ?_ <;> [(intro hfun; try clear_value x); (intro v y; subst x)]) | (refine cutFun3 x ?_ ?_ <;> [(intro hfun; try clear_value x); (intro v y; subst x)]) | (have := (x : Mbx); clear this; subst x) | (have := (x : Nonvol); clear this; subst x) | clear_value x | subst x)
    | with_reducible first | exact Keeps.refl _ | assumption
    | with_reducible first | apply State.clearRun_keeps | apply State.wrB_keeps | apply State.wr_keeps | apply Keeps.foldl | apply Keeps.mapSess
    | with_reducible first | exact Nat.le_refl _ | exact Nat.le_succ _ | exact Nat.le_add_right _ _ | exact rfl | exact fun _ => rfl | exact fun _ => Nat.le_refl _ | exact id | exact fun i j => ⟨i, j⟩ | exact fun i j => ⟨j, rfl⟩ | exact fun i j => ⟨rfl, rfl⟩ | exact fun i => Store.load_sorted i _ | exact fun _ => keepMeasured_sorted _ _ _
    | apply hfun
    | intro _
    | split
    | dsimp -zeta only
    | with_reducible first | apply Keeps.mk')

theorem State.diesOff_keeps {a s : State} (h : Keeps a s)  : Keeps a (State.diesOff s) := by
  unfold State.diesOff
  repeat' with_reducible first
    | exact h | apply Keeps.ite | apply State.settleJournal_keeps | apply State.cutSlot_keeps | apply State.setSupply_keeps
    | apply State.send_keeps | apply State.powerOff_keeps | apply Keeps.foldl | exact Keeps.refl _ | intro _ | exact le_refl _
    | exact rfl | split

theorem execAuxMainsEvaluation_keeps (t : Nat) (mv : Nat) (hz : Nat) (pw : Nat) (dc : Bool) (s : State) : ∃ u, execAuxMainsEvaluation t mv hz pw dc s = .next u ∧ Keeps s u := by
  refine ⟨_, rfl, ?_⟩
  repeat' with_reducible first
    | exact Keeps.refl _ | apply Keeps.ite | apply State.at_keeps | apply State.wr_keeps | apply State.wrB_keeps
    | apply State.bump_keeps | apply State.sourceRegs_keeps | apply State.tapFollows_keeps | exact le_refl _ | exact rfl
    | split | apply Keeps.mk'

theorem execAuxInterruptionExceeded_keeps (t : Nat) (s : State) : ∃ u, execAuxInterruptionExceeded t s = .next u ∧ Keeps s u := by
  refine ⟨_, rfl, ?_⟩
  repeat' with_reducible first
    | exact Keeps.refl _ | apply Keeps.ite | apply State.at_keeps | apply State.diesOff_keeps | apply State.enterBackup_keeps
    | apply State.enterHoldup_keeps | intro _ | exact le_refl _ | exact rfl | split

theorem execAuxReturnQual_keeps (t : Nat) (s : State) : ∃ u, execAuxReturnQual t s = .next u ∧ Keeps s u := by
  refine ⟨_, rfl, ?_⟩
  repeat' with_reducible first
    | exact Keeps.refl _ | apply Keeps.ite | apply State.at_keeps | apply State.diesOff_keeps | apply State.leaveBackup_keeps
    | intro _ | exact le_refl _ | exact rfl | split

theorem State.tapRegs_keeps {a s : State} (h : Keeps a s) (mv : Nat) : Keeps a (State.tapRegs s mv) := by
  unfold State.tapRegs
  repeat' with_reducible first
    | exact h | apply State.wrB_keeps | apply State.wr_keeps | exact le_refl _ | exact rfl | apply Keeps.mk'

theorem State.tapMeasured_keeps {a s : State} (h : Keeps a s) (mv : Nat) : Keeps a (State.tapMeasured s mv) := by
  unfold State.tapMeasured
  repeat' with_reducible first
    | exact h | apply Keeps.ite | apply State.tapRegs_keeps | apply State.tapFollows_keeps | apply State.wrB_keeps
    | apply State.diesOff_keeps | apply State.leaveBackup_keeps | apply State.enterHoldup_keeps | exact Keeps.refl _ | intro _
    | exact le_refl _ | exact rfl | split

theorem execTapStartOk_keeps (t : Nat) (mv : Nat) (s : State) : ∃ u, execTapStartOk t mv s = .next u ∧ Keeps s u := by
  refine ⟨_, rfl, ?_⟩
  repeat' with_reducible first
    | exact Keeps.refl _ | apply Keeps.ite | apply State.at_keeps | apply State.tapMeasured_keeps | intro _ | exact le_refl _
    | exact rfl | split

theorem execTapConverterStop_keeps (t : Nat) (mv : Nat) (s : State) : ∃ u, execTapConverterStop t mv s = .next u ∧ Keeps s u := by
  refine ⟨_, rfl, ?_⟩
  repeat' with_reducible first
    | exact Keeps.refl _ | apply Keeps.ite | apply State.at_keeps | apply State.tapMeasured_keeps | intro _ | exact le_refl _
    | exact rfl | split

theorem execTapOverload_keeps (t : Nat) (since : Nat) (s : State) : ∃ u, execTapOverload t since s = .next u ∧ Keeps s u := by
  refine ⟨_, rfl, ?_⟩
  repeat' with_reducible first
    | exact Keeps.refl _ | apply Keeps.ite | apply State.at_keeps | apply State.wrB_keeps | split

theorem execHoldupReadyCleared_keeps (t : Nat) (energy : Nat) (s : State) : ∃ u, execHoldupReadyCleared t energy s = .next u ∧ Keeps s u := by
  refine ⟨_, rfl, ?_⟩
  repeat' with_reducible first
    | exact Keeps.refl _ | apply Keeps.ite | apply State.at_keeps | apply State.wrB_keeps | apply State.wr_keeps
    | apply State.record_keeps | exact le_refl _ | exact rfl | split | apply Keeps.mk'

theorem execHoldupReadySet_keeps (t : Nat) (energy : Nat) (s : State) : ∃ u, execHoldupReadySet t energy s = .next u ∧ Keeps s u := by
  refine ⟨_, rfl, ?_⟩
  repeat' with_reducible first
    | exact Keeps.refl _ | apply Keeps.ite | apply State.at_keeps | apply State.wrB_keeps | apply State.wr_keeps
    | apply State.reachPhase_keeps | split

theorem execLastGasp_keeps (t : Nat) (s : State) : ∃ u, execLastGasp t s = .next u ∧ Keeps s u := by
  refine ⟨_, rfl, ?_⟩
  repeat' with_reducible first
    | exact Keeps.refl _ | apply Keeps.ite | apply State.at_keeps | apply State.unsolicited_keeps | apply Keeps.foldl
    | intro _ | exact le_refl _ | exact rfl | split | apply Keeps.mk'

theorem execHoldupShed_keeps (t : Nat) (s : State) : ∃ u, execHoldupShed t s = .next u ∧ Keeps s u := by
  refine ⟨_, rfl, ?_⟩
  repeat' with_reducible first
    | exact Keeps.refl _ | apply Keeps.ite | apply State.at_keeps | apply State.portRegs_keeps | apply State.linesLow_keeps
    | exact le_refl _ | exact rfl | split | apply Keeps.mk'

theorem execHoldupOpenDelay_keeps (t : Nat) (s : State) : ∃ u, execHoldupOpenDelay t s = .next u ∧ Keeps s u := by
  refine ⟨_, rfl, ?_⟩
  repeat' with_reducible first
    | exact Keeps.refl _ | apply Keeps.ite | apply State.at_keeps | apply State.openAll_keeps | exact le_refl _ | exact rfl
    | split | apply Keeps.mk'

theorem execHoldupClosed_keeps (t : Nat) (s : State) : ∃ u, execHoldupClosed t s = .next u ∧ Keeps s u := by
  refine ⟨_, rfl, ?_⟩
  repeat' with_reducible first
    | exact Keeps.refl _ | apply Keeps.ite | apply State.at_keeps | apply State.closeLapBlock_keeps
    | apply State.closeEventBlock_keeps | intro _ | exact le_refl _ | exact rfl | split

theorem execHoldupHalt_keeps (t : Nat) (gasp : GaspEnd) (s : State) : ∃ u, execHoldupHalt t gasp s = .next u ∧ Keeps s u := by
  refine ⟨_, rfl, ?_⟩
  repeat' with_reducible first
    | exact Keeps.refl _ | apply Keeps.ite | apply State.at_keeps | apply State.tellClosing_keeps | apply State.powerOff_keeps
    | apply State.powerUp_keeps | intro _ | exact le_refl _ | exact rfl | split | apply Keeps.mk'

theorem execEnterTransport_keeps (t : Nat) (r : Req) (p : Bytes) (s : State) : ∃ u, execEnterTransport t r p s = .next u ∧ Keeps s u := by
  refine ⟨_, rfl, ?_⟩
  repeat' (first
    | (extract_lets +onlyGivenNames x; first | (refine cutTo x ?_ ?_ <;> [(intro hx; try clear_value x); subst x]) | (refine cutFun x ?_ ?_ <;> [(intro hfun; try clear_value x); (intro v; subst x)]) | (refine cutFun2 x ?_ ?_ <;> [(intro hfun; try clear_value x); (intro v y; subst x)]) | (refine cutFun3 x ?_ ?_ <;> [(intro hfun; try clear_value x); (intro v y; subst x)]) | (have := (x : Mbx); clear this; subst x) | (have := (x : Nonvol); clear this; subst x) | clear_value x | subst x)
    | with_reducible first | exact Keeps.refl _ | assumption
    | with_reducible first | apply State.serve_keeps | apply guarded_keeps | apply State.useToken_keeps | apply State.nextSleep_keeps | apply Keeps.foldl | apply Keeps.mapSess
    | with_reducible first | exact Nat.le_refl _ | exact Nat.le_succ _ | exact Nat.le_add_right _ _ | exact rfl | exact fun _ => rfl | exact fun _ => Nat.le_refl _ | exact id | exact fun i j => ⟨i, j⟩ | exact fun i j => ⟨j, rfl⟩ | exact fun i j => ⟨rfl, rfl⟩ | exact fun i => Store.load_sorted i _ | exact fun _ => keepMeasured_sorted _ _ _
    | apply hfun
    | intro _
    | split
    | dsimp -zeta only
    | refine Keeps.fst (by assumption) ?_
    | refine Keeps.snd (by assumption) ?_
    | with_reducible first | apply Keeps.nv | apply Keeps.nvmk | apply Keeps.objs | apply Keeps.mk')

theorem State.sleepEnum_keeps {a s : State} (h : Keeps a s)  : Keeps a (State.sleepEnum s) := by
  unfold State.sleepEnum
  repeat' with_reducible first
    | exact h | apply Keeps.ite | apply State.send_keeps | apply Keeps.foldl | exact Keeps.refl _ | intro _ | exact le_refl _
    | exact rfl | split

theorem State.sleepJudged_keeps {a s : State} (h : Keeps a s) (awake : List (Nat × Nat)) : Keeps a (State.sleepJudged s awake) := by
  refine h.trans ?_
  unfold State.sleepJudged
  repeat' (first
    | (extract_lets +onlyGivenNames x; first | (refine cutTo x ?_ ?_ <;> [(intro hx; try clear_value x); subst x]) | (refine cutFun x ?_ ?_ <;> [(intro hfun; try clear_value x); (intro v; subst x)]) | (refine cutFun2 x ?_ ?_ <;> [(intro hfun; try clear_value x); (intro v y; subst x)]) | (refine cutFun3 x ?_ ?_ <;> [(intro hfun; try clear_value x); (intro v y; subst x)]) | (have := (x : Mbx); clear this; subst x) | (have := (x : Nonvol); clear this; subst x) | clear_value x | subst x)
    | with_reducible first | exact Keeps.refl _ | assumption
    | with_reducible first | apply State.answerOpt_keeps | apply State.wrB_keeps | apply State.nextSleep_keeps | apply Keeps.foldl | apply Keeps.mapSess
    | with_reducible first | exact Nat.le_refl _ | exact Nat.le_succ _ | exact Nat.le_add_right _ _ | exact rfl | exact fun _ => rfl | exact fun _ => Nat.le_refl _ | exact id | exact fun i j => ⟨i, j⟩ | exact fun i j => ⟨j, rfl⟩ | exact fun i j => ⟨rfl, rfl⟩ | exact fun i => Store.load_sorted i _ | exact fun _ => keepMeasured_sorted _ _ _
    | apply hfun
    | intro _
    | split
    | dsimp -zeta only
    | refine Keeps.fst (by assumption) ?_
    | refine Keeps.snd (by assumption) ?_
    | with_reducible first | apply Keeps.nv | apply Keeps.nvmk | apply Keeps.objs | apply Keeps.mk')

theorem execTransportConfirm_keeps (t : Nat) (awake : List (Nat × Nat)) (s : State) : ∃ u, execTransportConfirm t awake s = .next u ∧ Keeps s u := by
  refine ⟨_, rfl, ?_⟩
  repeat' with_reducible first
    | exact Keeps.refl _ | apply Keeps.ite | apply State.at_keeps | apply State.sleepEnum_keeps
    | apply State.sleepJudged_keeps | intro _ | exact le_refl _ | exact rfl | split | apply Keeps.mk'

theorem execTransportDiesOff_keeps (t : Nat) (s : State) : ∃ u, execTransportDiesOff t s = .next u ∧ Keeps s u := by
  refine ⟨_, rfl, ?_⟩
  repeat' with_reducible first
    | exact Keeps.refl _ | apply Keeps.ite | apply State.at_keeps | apply State.diesOff_keeps | intro _ | exact le_refl _
    | exact rfl | split

theorem execTransportWake_keeps (t : Nat) (str : Nat) (mv : Nat) (since : Nat) (profile : Nat) (block : Nat) (mask : Nat) (addr : Nat) (cover : Bool) (jumper : Bool) (seen : StartSeen) (s : State) : ∃ u, execTransportWake t str mv since profile block mask addr cover jumper seen s = .next u ∧ Keeps s u := by
  refine ⟨_, rfl, ?_⟩
  repeat' (first
    | (extract_lets +onlyGivenNames x; first | (refine cutTo x ?_ ?_ <;> [(intro hx; try clear_value x); subst x]) | (refine cutFun x ?_ ?_ <;> [(intro hfun; try clear_value x); (intro v; subst x)]) | (refine cutFun2 x ?_ ?_ <;> [(intro hfun; try clear_value x); (intro v y; subst x)]) | (refine cutFun3 x ?_ ?_ <;> [(intro hfun; try clear_value x); (intro v y; subst x)]) | (have := (x : Mbx); clear this; subst x) | (have := (x : Nonvol); clear this; subst x) | clear_value x | subst x)
    | with_reducible first | exact Keeps.refl _ | assumption
    | with_reducible first | apply State.at_keeps | apply State.powerUp_keeps | apply Keeps.foldl | apply Keeps.mapSess
    | with_reducible first | exact Nat.le_refl _ | exact Nat.le_succ _ | exact Nat.le_add_right _ _ | exact rfl | exact fun _ => rfl | exact fun _ => Nat.le_refl _ | exact id | exact fun i j => ⟨i, j⟩ | exact fun i j => ⟨j, rfl⟩ | exact fun i j => ⟨rfl, rfl⟩ | exact fun i => Store.load_sorted i _ | exact fun _ => keepMeasured_sorted _ _ _
    | apply hfun
    | intro _
    | split
    | dsimp -zeta only
    | refine Keeps.fst (by assumption) ?_
    | refine Keeps.snd (by assumption) ?_
    | with_reducible first | apply Keeps.nv | apply Keeps.nvmk | apply Keeps.objs | apply Keeps.mk')

end Sys2Proof.Machine
end

