-- ==== Sys2Proof/Laws/Keeps/Update.lean ====
section
/-! SUPPORT. What every command respects (`Keeps`), for the operations of Machine/Update.lean. -/

set_option linter.all false

namespace Sys2Proof.Machine
open Obj

theorem State.dropEnded_keeps {a s : State} (h : Keeps a s) (kind : Nat) : Keeps a (State.dropEnded s kind) := by
  unfold State.dropEnded
  repeat' with_reducible first
    | exact h | exact Keeps.refl _ | intro _ | exact le_refl _ | exact rfl | apply Keeps.mk'

theorem State.updRegs_keeps {a s : State} (h : Keeps a s)  : Keeps a (State.updRegs s) := by
  unfold State.updRegs
  repeat' with_reducible first
    | exact h | apply Keeps.ite | apply State.wr_keeps | exact Keeps.refl _ | intro _ | exact le_refl _ | exact rfl | split

theorem State.setSlot_keeps {a s : State} (h : Keeps a s) (k : Nat) (x : Slot) : Keeps a (State.setSlot s k x) := by
  unfold State.setSlot
  repeat' with_reducible first
    | exact h | apply Keeps.ite | exact le_refl _ | exact rfl | split | apply Keeps.nv | exact id | exact fun i j => ⟨i, j⟩
    | apply Keeps.mk'

theorem execImageUploadEnd_keeps (t : Nat) (s : State) : ∃ u, execImageUploadEnd t s = .next u ∧ Keeps s u := by
  refine ⟨_, rfl, ?_⟩
  repeat' with_reducible first
    | exact Keeps.refl _ | apply Keeps.ite | apply State.at_keeps | apply State.dropEnded_keeps | apply State.setSlot_keeps
    | apply State.wr_keeps | apply State.slotRegs_keeps | apply State.updRegs_keeps | intro _ | exact le_refl _ | exact rfl
    | split | apply Keeps.mk'

theorem execImageStaged_keeps (t : Nat) (s : State) : ∃ u, execImageStaged t s = .next u ∧ Keeps s u := by
  refine ⟨_, rfl, ?_⟩
  repeat' with_reducible first
    | exact Keeps.refl _ | apply Keeps.ite | apply State.at_keeps | apply State.setSlot_keeps | apply State.slotRegs_keeps
    | apply State.updRegs_keeps | apply State.record_keeps | intro _ | exact le_refl _ | exact rfl | split | apply Keeps.mk'

theorem execNodeImageUpload_keeps (t : Nat) (s : State) : ∃ u, execNodeImageUpload t s = .next u ∧ Keeps s u := by
  refine ⟨_, rfl, ?_⟩
  repeat' (first
    | (extract_lets +onlyGivenNames x; first | (refine cutTo x ?_ ?_ <;> [(intro hx; try clear_value x); subst x]) | (refine cutFun x ?_ ?_ <;> [(intro hfun; try clear_value x); (intro v; subst x)]) | (refine cutFun2 x ?_ ?_ <;> [(intro hfun; try clear_value x); (intro v y; subst x)]) | (refine cutFun3 x ?_ ?_ <;> [(intro hfun; try clear_value x); (intro v y; subst x)]) | (have := (x : Mbx); clear this; subst x) | (have := (x : Nonvol); clear this; subst x) | clear_value x | subst x)
    | with_reducible first | exact Keeps.refl _ | assumption
    | with_reducible first | apply State.at_keeps | apply State.dropEnded_keeps | apply State.eachStr_keeps | apply State.modRing_keeps | apply State.record_keeps | apply State.updRegs_keeps | apply State.slotRegs_keeps | apply State.updateRegs_keeps | apply State.wr_keeps | apply Keeps.foldl | apply Keeps.mapSess
    | with_reducible first | exact Nat.le_refl _ | exact Nat.le_succ _ | exact Nat.le_add_right _ _ | exact rfl | exact fun _ => rfl | exact fun _ => Nat.le_refl _ | exact id | exact fun i j => ⟨i, j⟩ | exact fun i j => ⟨j, rfl⟩ | exact fun i j => ⟨rfl, rfl⟩ | exact fun i => Store.load_sorted i _ | exact fun _ => keepMeasured_sorted _ _ _
    | apply hfun
    | intro _
    | split
    | dsimp -zeta only
    | with_reducible first | apply Keeps.nv | apply Keeps.nvmk | apply Keeps.mk')

theorem State.reload_keeps {a s : State} (h : Keeps a s) (old : Store) : Keeps a (State.reload s old) :=
  (State.factoryRegs_keeps (h.objs _ fun i => Store.resets_sorted i old)).objs _ fun i => Store.load_sorted i _

theorem State.switchConfig_keeps {a s : State} (h : Keeps a s) (k keptAt : Nat) : Keeps a (State.switchConfig s k keptAt) := by
  unfold State.switchConfig
  extract_lets f n s1
  split
  · exact h.nv { n with store := convertStore n.format f n.store, format := f, kept := n.store,
                            keptFormat := n.format, keptTime := keptAt } rfl rfl rfl rfl rfl rfl (le_refl _) id (le_refl _) fun i j => ⟨convertStore_sorted i .., i⟩
  split
  · exact State.wrB_keeps (State.reload_keeps (h.nv { n with store := n.kept, format := n.keptFormat, kept := [], keptFormat := 0, keptTime := 0 } rfl rfl rfl rfl rfl rfl (le_refl _) id (le_refl _)
      fun i j => ⟨j, rfl⟩) _) ..
  · exact h

theorem State.commitSlot_keeps {a s : State} (h : Keeps a s) (k mode : Nat) (rollback : Bool) : Keeps a (State.commitSlot s k mode rollback) := by
  unfold State.commitSlot
  extract_lets s1 src s2 s3
  have h1 : Keeps a s1 := State.switchConfig_keeps h ..
  have h2 : Keeps a s2 := h1.nv { s1.nv with active := k } rfl rfl rfl rfl rfl rfl (le_refl _) id (le_refl _) fun i j => ⟨i, j⟩
  exact State.record_keeps (State.stamp_keeps (State.bump_keeps h2 ..) ..) ..

theorem State.activate_keeps {a s : State} (h : Keeps a s) (rollback : Bool) (p : Bytes) (rid : Rid) (sess : Nat) : Keeps a (State.activate s rollback p rid sess).1 := by
  unfold State.activate
  dsimp only
  repeat' with_reducible first
    | exact h | apply Keeps.ite | apply guarded_keeps | apply State.useToken_keeps | apply State.updRegs_keeps
    | apply State.commitSlot_keeps | apply State.answerLast_keeps | apply State.restart_keeps | exact Keeps.refl _ | intro _
    | exact le_refl _ | exact rfl | split | apply Keeps.mk' | refine Keeps.fst (by assumption) ?_

theorem execActivateImage_keeps (t : Nat) (r : Req) (p : Bytes) (s : State) : ∃ u, execActivateImage t r p s = .next u ∧ Keeps s u := by
  refine ⟨_, rfl, ?_⟩
  repeat' with_reducible first
    | exact Keeps.refl _ | apply State.serve_keeps | apply State.activate_keeps | intro _ | exact le_refl _ | exact rfl
    | refine Keeps.fst (by assumption) ?_ | apply Keeps.mk'

theorem execRollbackImage_keeps (t : Nat) (r : Req) (p : Bytes) (s : State) : ∃ u, execRollbackImage t r p s = .next u ∧ Keeps s u := by
  refine ⟨_, rfl, ?_⟩
  repeat' with_reducible first
    | exact Keeps.refl _ | apply State.serve_keeps | apply State.activate_keeps | intro _ | exact le_refl _ | exact rfl
    | refine Keeps.fst (by assumption) ?_

theorem State.swapLead_keeps {a s : State} (h : Keeps a s) (die : Nat) : Keeps a (State.swapLead s die) := by
  unfold State.swapLead
  repeat' with_reducible first
    | exact h | apply State.wr_keeps

theorem execSpareReady_keeps (t : Nat) (s : State) : ∃ u, execSpareReady t s = .next u ∧ Keeps s u := by
  refine ⟨_, rfl, ?_⟩
  repeat' with_reducible first
    | exact Keeps.refl _ | apply Keeps.ite | apply State.at_keeps | apply State.updRegs_keeps | apply State.wr_keeps
    | exact le_refl _ | exact rfl | split | apply Keeps.mk'

theorem State.endRelay_keeps {a s : State} (h : Keeps a s)  : Keeps a (State.endRelay s) := by
  unfold State.endRelay
  repeat' with_reducible first
    | exact h | apply State.ratesFollow_keeps | apply State.updRegs_keeps | apply State.wr_keeps | exact le_refl _ | exact rfl
    | apply Keeps.mk'

theorem execDieHandover_keeps (t : Nat) (die : Nat) (s : State) : ∃ u, execDieHandover t die s = .next u ∧ Keeps s u := by
  refine ⟨_, rfl, ?_⟩
  repeat' with_reducible first
    | exact Keeps.refl _ | apply Keeps.ite | apply State.at_keeps | apply State.swapLead_keeps | apply State.updRegs_keeps
    | apply State.wr_keeps | apply State.wrB_keeps | apply State.endRelay_keeps | exact le_refl _ | exact rfl | split
    | apply Keeps.mk'

theorem execImageActivated_keeps (t : Nat) (s : State) : ∃ u, execImageActivated t s = .next u ∧ Keeps s u := by
  refine ⟨_, rfl, ?_⟩
  repeat' with_reducible first
    | exact Keeps.refl _ | apply Keeps.ite | apply State.at_keeps | apply State.commitSlot_keeps
    | apply State.extendSlot_keeps | apply State.imageRegs_keeps | apply State.endRelay_keeps | apply State.answerOpt_keeps
    | intro _ | exact le_refl _ | exact rfl | split | apply Keeps.mk'

theorem execHandoverAbandoned_keeps (t : Nat) (die : Nat) (cause : Nat) (s : State) : ∃ u, execHandoverAbandoned t die cause s = .next u ∧ Keeps s u := by
  refine ⟨_, rfl, ?_⟩
  repeat' with_reducible first
    | exact Keeps.refl _ | apply Keeps.ite | apply State.at_keeps | apply State.restart_keeps | apply State.record_keeps
    | apply State.bump_keeps | apply State.answerOpt_keeps | apply State.wr_keeps | apply State.endRelay_keeps
    | apply State.updRegs_keeps | exact le_refl _ | exact rfl | split | apply Keeps.mk'

theorem State.advanceFuses_keeps {a s : State} (h : Keeps a s) : Keeps a (State.advanceFuses s) := by
  unfold State.advanceFuses
  dsimp only
  split
  · exact h
  · next e =>
    refine State.record_keeps (State.slotRegs_keeps ?_) ..
    have h1 := h.nv { s.nv with fuseIndex := field s.runHdr 0x14 4 } rfl rfl rfl rfl rfl rfl (Nat.le_of_not_le e) id (le_refl _)
      fun i j => ⟨i, j⟩
    split
    · exact State.setSlot_keeps h1 ..
    · exact h1

theorem execRecoveryLoader_keeps (t : Nat) (image : Bytes) (s : State) : ∃ u, execRecoveryLoader t image s = .next u ∧ Keeps s u := by
  refine ⟨_, rfl, ?_⟩
  repeat' with_reducible first
    | exact Keeps.refl _ | apply Keeps.ite | apply State.at_keeps | apply State.setSlot_keeps | apply State.restart_keeps
    | apply State.send_keeps | intro _ | exact le_refl _ | exact rfl | split

theorem execConfirmConfig_keeps (t : Nat) (r : Req) (p : Bytes) (s : State) : ∃ u, execConfirmConfig t r p s = .next u ∧ Keeps s u := by
  refine ⟨_, rfl, State.serve_keeps (Keeps.refl _) _ _ _ _ _ _ fun rid x v => guarded_keeps (Keeps.refl _) _ _ fun v => ?_⟩
  extract_lets src s1 k s2 s3
  have h1 : Keeps v s1 := (Keeps.refl v).nv { v.nv with kept := [], keptFormat := 0, keptTime := 0 } rfl rfl rfl rfl rfl rfl (le_refl _) id (le_refl _) fun i j => ⟨i, rfl⟩
  have h2 : Keeps v s2 := by
    unfold s2; split
    · exact State.setSlot_keeps h1 ..
    · exact h1
  exact State.record_keeps (State.stamp_keeps (State.wr_keeps (State.slotRegs_keeps h2) ..) ..) ..

end Sys2Proof.Machine
end

