-- ==== Sys2Proof/Laws/Keeps/LedgerLink.lean ====
section
/-! SUPPORT. What every command respects (`Keeps`), for the operations of Machine/LedgerLink.lean. -/

set_option linter.all false

namespace Sys2Proof.Machine
open Obj

theorem execLedgerExport_keeps (t : Nat) (s : State) : ∃ u, execLedgerExport t s = .next u ∧ Keeps s u := by
  refine ⟨_, rfl, ?_⟩
  repeat' with_reducible first
    | exact Keeps.refl _ | apply Keeps.ite | apply State.at_keeps | apply State.stamp_keeps | apply State.wr_keeps
    | apply State.modSess_keeps | intro _ | exact le_refl _ | exact rfl | split | apply Keeps.mk'

theorem State.exportSent_keeps {a s : State} (h : Keeps a s)  : Keeps a (State.exportSent s) := by
  unfold State.exportSent
  repeat' with_reducible first
    | exact h | apply State.record_keeps | apply State.wr_keeps

theorem State.ackEpoch_keeps {a s : State} (h : Keeps a s)  : Keeps a (State.ackEpoch s) := by
  unfold State.ackEpoch
  repeat' with_reducible first
    | exact h | apply Keeps.ite | apply State.wr_keeps | apply State.stamp_keeps | apply State.record_keeps
    | exact Keeps.refl _ | intro _ | exact le_refl _ | exact rfl | split | apply Keeps.mk'

theorem execLedgerRestoreCommit_keeps (t : Nat) (s : State) : ∃ u, execLedgerRestoreCommit t s = .next u ∧ Keeps s u := by
  refine ⟨_, rfl, ?_⟩
  repeat' with_reducible first
    | exact Keeps.refl _ | apply Keeps.ite | apply State.at_keeps | apply State.dropEnded_keeps | apply State.wr_keeps
    | apply State.record_keeps | apply State.restoreCheck_keeps | exact le_refl _ | exact rfl | split | apply Keeps.mk'

end Sys2Proof.Machine
end

