-- ==== Sys2Proof/Laws/Keeps/Security.lean ====
section
/-! SUPPORT. What every command respects (`Keeps`), for the operations of Machine/Security.lean. -/

set_option linter.all false

namespace Sys2Proof.Machine
open Obj

theorem State.moveSecurity_keeps {a s : State} (h : Keeps a s) (new : Nat) (cause : Nat) (sess : Nat) : Keeps a (State.moveSecurity s new cause sess) := by
  unfold State.moveSecurity
  repeat' with_reducible first
    | exact h | apply Keeps.ite | apply State.calAbandon_keeps | apply State.roleCheck_keeps | apply State.setSecurity_keeps
    | exact Keeps.refl _ | intro _ | exact le_refl _ | exact rfl | split | apply Keeps.mk'

theorem State.toField_keeps {a s : State} (h : Keeps a s) (cause : Nat) (sess : Nat) : Keeps a (State.toField s cause sess) := by
  unfold State.toField
  repeat' with_reducible first
    | exact h | apply State.answerOpt_keeps | apply State.moveSecurity_keeps | exact le_refl _ | exact rfl | apply Keeps.mk'

theorem execEnterService_keeps (t : Nat) (r : Req) (p : Bytes) (s : State) : ∃ u, execEnterService t r p s = .next u ∧ Keeps s u := by
  refine ⟨_, rfl, ?_⟩
  repeat' with_reducible first
    | exact Keeps.refl _ | apply Keeps.ite | apply State.serve_keeps | apply guarded_keeps | apply State.moveSecurity_keeps
    | apply State.useToken_keeps | intro _ | exact le_refl _ | exact rfl | split | refine Keeps.fst (by assumption) ?_

theorem execLeaveService_keeps (t : Nat) (r : Req) (p : Bytes) (s : State) : ∃ u, execLeaveService t r p s = .next u ∧ Keeps s u := by
  refine ⟨_, rfl, ?_⟩
  repeat' with_reducible first
    | exact Keeps.refl _ | apply Keeps.ite | apply State.serve_keeps | apply guarded_keeps | apply State.toField_keeps
    | intro _ | exact le_refl _ | exact rfl | split | refine Keeps.fst (by assumption) ?_

theorem State.openForDebug_keeps {a s : State} (h : Keeps a s)  : Keeps a (State.openForDebug s) := by
  unfold State.openForDebug
  repeat' with_reducible first
    | exact h | apply Keeps.ite | apply State.eachStr_keeps | apply State.openNow_keeps | apply State.startOpening_keeps
    | exact Keeps.refl _ | intro _ | exact le_refl _ | exact rfl | split | apply Keeps.mk'

theorem execEnableDebug_keeps (t : Nat) (r : Req) (p : Bytes) (s : State) : ∃ u, execEnableDebug t r p s = .next u ∧ Keeps s u := by
  refine ⟨_, rfl, State.serve_keeps (Keeps.refl _) _ _ _ _ _ _ fun rid x v => guarded_keeps (Keeps.refl _) _ _ fun v => ?_⟩
  split
  · exact Keeps.refl _
  extract_lets s1 src s2 s3
  have h1 : Keeps v s1 := by
    unfold s1; split
    · exact Keeps.refl _
    · exact State.useToken_keeps (Keeps.refl _) ..
  split
  · have h2 : Keeps v s2 := Keeps.mk' h1 (le_refl _) rfl
    have h3 : Keeps v s3 := by
      unfold s3; split
      · exact State.calAbandon_keeps h2 ..
      · exact h2
    exact State.debugSettle_keeps (State.openForDebug_keeps h3)
  · exact State.moveSecurity_keeps h1 ..

theorem execServiceIdle_keeps (t : Nat) (s : State) : ∃ u, execServiceIdle t s = .next u ∧ Keeps s u := by
  refine ⟨_, rfl, ?_⟩
  repeat' with_reducible first
    | exact Keeps.refl _ | apply Keeps.ite | apply State.at_keeps | apply State.toField_keeps | intro _ | exact le_refl _
    | exact rfl | split

theorem State.haltRegs_keeps {a s : State} (h : Keeps a s)  : Keeps a (State.haltRegs s) := by
  unfold State.haltRegs
  repeat' with_reducible first
    | exact h | apply State.wr_keeps | split

theorem State.haltDie_keeps {a s : State} (h : Keeps a s) (die : Nat) (halt : Bool) : Keeps a (State.haltDie s die halt) := by
  unfold State.haltDie
  repeat' with_reducible first
    | exact h | apply Keeps.ite | apply State.haltRegs_keeps | apply State.pump_keeps | exact le_refl _ | exact rfl | split
    | apply Keeps.mk'

theorem execClusterHalt_keeps (t : Nat) (die : Nat) (halt : Bool) (s : State) : ∃ u, execClusterHalt t die halt s = .next u ∧ Keeps s u := by
  refine ⟨_, rfl, ?_⟩
  repeat' with_reducible first
    | exact Keeps.refl _ | apply Keeps.ite | apply State.at_keeps | apply State.haltDie_keeps | intro _ | exact le_refl _
    | exact rfl | split

theorem execProbeAttached_keeps (t : Nat) (mv : Nat) (since : Nat) (s : State) : ∃ u, execProbeAttached t mv since s = .next u ∧ Keeps s u := by
  refine ⟨_, rfl, ?_⟩
  repeat' with_reducible first
    | exact Keeps.refl _ | apply Keeps.ite | apply State.at_keeps | apply State.bump_keeps | apply State.wrB_keeps
    | apply State.setSecurity_keeps | apply State.haltDie_keeps | apply Keeps.foldl | intro _ | exact le_refl _ | exact rfl
    | split

theorem execDecommissionModule_keeps (t : Nat) (r : Req) (p : Bytes) (s : State) : ∃ u, execDecommissionModule t r p s = .next u ∧ Keeps s u := by
  refine ⟨_, rfl, State.serve_keeps (Keeps.refl _) _ _ _ _ _ _ fun rid x v => guarded_keeps (Keeps.refl _) _ _ fun v => ?_⟩
  extract_lets s1 s2 src3 s3 s4 src5 s5
  have h1 : Keeps v s1 := State.tellClosing_keeps (State.answerLast_keeps (State.useToken_keeps (Keeps.refl _) ..) ..) ..
  have h2 : Keeps v s2 := h1.mbx Mbx.init fun _ _ => ⟨rfl, rfl⟩
  have h3 : Keeps v s3 := h2.nv { s2.nv with
        store := [], kept := [], keptFormat := 0, keptTime := 0, causes := List.replicate 8 [], transport := false
        keysPresent := false } rfl rfl rfl rfl rfl rfl (le_refl _) id (le_refl _) fun i j => ⟨rfl, rfl⟩
  have h4 : Keeps v s4 := State.record_keeps h3 ..
  have h5 : Keeps v s5 := h4.nv { s4.nv with decommissioned := true } rfl rfl rfl rfl rfl rfl (le_refl _) (fun _ => rfl) (le_refl _) fun i j => ⟨i, j⟩
  exact State.restart_keeps h5 ..

end Sys2Proof.Machine
end

