-- ==== Sys2Proof/Laws/Keeps/Mailbox.lean ====
section
/-! SUPPORT. What every command respects (`Keeps`), for the operations of Machine/Mailbox.lean. -/

set_option linter.all false

namespace Sys2Proof.Machine
open Obj

theorem State.dropConn_keeps {a s : State} (h : Keeps a s) (id : Nat) : Keeps a (State.dropConn s id) := by
  unfold State.dropConn
  repeat' with_reducible first
    | exact h | exact Keeps.refl _ | intro _ | exact le_refl _ | exact rfl | apply Keeps.mk'

theorem State.modConn_keeps {a s : State} (h : Keeps a s) (id : Nat) (f : Conn → Conn) : Keeps a (State.modConn s id f) := by
  unfold State.modConn
  repeat' with_reducible first
    | exact h | apply Keeps.ite | exact Keeps.refl _ | intro _ | exact le_refl _ | exact rfl | split | apply Keeps.mk'

theorem State.failTls_keeps {a s : State} (h : Keeps a s) (id : Nat) : Keeps a (State.failTls s id) := by
  unfold State.failTls
  repeat' with_reducible first
    | exact h | apply Keeps.ite | apply State.dropConn_keeps | apply State.bump_keeps | apply State.send_keeps
    | exact Keeps.refl _ | intro _ | exact le_refl _ | exact rfl | split

theorem State.endSession_keeps {a s : State} (h : Keeps a s) (num : Nat) : Keeps a (State.endSession s num) := by
  unfold State.endSession
  split
  · exact h
  next x _ =>
  extract_lets s1 src s2 s3 s4 s5
  have h1 : Keeps a s1 := h.foldl _ _ fun v q => State.closeStream_keeps (Keeps.refl _) ..
  have h2 : Keeps a s2 := h1.mbx _ fun i j => ⟨numsOk_filter _ i, outstOk_filter _ j⟩
  have h3 : Keeps a s3 := h2.foldl _ _ fun v q => State.wr_keeps (Keeps.refl _) ..
  have h4 : Keeps a s4 := State.calAbandon_keeps h3 ..
  have h5 : Keeps a s5 := State.modConn_keeps h4 ..
  exact Keeps.mk' h5 (le_refl _) rfl

theorem State.endConn_keeps {a s : State} (h : Keeps a s) (id : Nat) : Keeps a (State.endConn s id) := by
  unfold State.endConn
  repeat' with_reducible first
    | exact h | apply State.endSession_keeps | apply State.dropConn_keeps | exact Keeps.refl _ | intro _ | exact le_refl _
    | exact rfl | split | apply Keeps.mk'

theorem State.shutSession_keeps {a s : State} (h : Keeps a s) (num : Nat) (reason : Nat) : Keeps a (State.shutSession s num reason) := by
  unfold State.shutSession
  repeat' with_reducible first
    | exact h | apply State.send_keeps | apply State.endConn_keeps | apply State.unsolicited_keeps | split

theorem State.trustRecheck_keeps {a s : State} (h : Keeps a s)  : Keeps a (State.trustRecheck s) := by
  unfold State.trustRecheck
  repeat' with_reducible first
    | exact h | apply Keeps.ite | apply State.shutSession_keeps | apply Keeps.foldl | exact Keeps.refl _ | intro _
    | exact le_refl _ | exact rfl | split

theorem State.grantSession_keeps {a s : State} (h : Keeps a s) (id : Nat) (cls : Nat) (entry : Nat) (h_ : Hello) (bind : Bool) : Keeps a (State.grantSession s id cls entry h_ bind) := by
  unfold State.grantSession
  repeat' with_reducible first
    | exact h | apply Keeps.ite | apply State.modConn_keeps | apply State.send_keeps | exact Keeps.refl _ | intro _
    | exact le_refl _ | exact rfl | split

theorem State.setStored_keeps {a s : State} (h : Keeps a s) (cs : List CellW) : Keeps a (State.setStored s cs) := by
  unfold State.setStored
  repeat' with_reducible first
    | exact h | apply State.storeCells_keeps | apply State.putCells_keeps

theorem State.commission_keeps {a s : State} (h : Keeps a s) (id : Nat) (h_ : Hello) : Keeps a (State.commission s id h_) := by
  unfold State.commission
  repeat' with_reducible first
    | exact h | apply Keeps.ite | apply State.wrB_keeps | apply State.setStored_keeps | apply State.trustRegs_keeps
    | apply State.record_keeps | apply State.trustRecheck_keeps | apply State.grantSession_keeps | exact Keeps.refl _
    | intro _ | exact le_refl _ | exact rfl | split | apply Keeps.mk'

theorem State.finishHandshake_keeps {a s : State} (h : Keeps a s) (id : Nat) (h_ : Hello) (signed : Bool) : Keeps a (State.finishHandshake s id h_ signed) := by
  unfold State.finishHandshake
  repeat' with_reducible first
    | exact h | apply Keeps.ite | apply State.failTls_keeps | apply State.commission_keeps | apply State.bump_keeps
    | apply State.stamp_keeps | apply State.grantSession_keeps | exact Keeps.refl _ | intro _ | exact le_refl _ | exact rfl
    | split

theorem State.tcpArrives_keeps {a s : State} (h : Keeps a s) (id : Nat) (port : Nat) (addr : Nat) (tcp : TcpPorts) : Keeps a (State.tcpArrives s id port addr tcp) := by
  unfold State.tcpArrives
  repeat' with_reducible first
    | exact h | apply Keeps.ite | apply State.send_keeps | exact Keeps.refl _ | intro _ | exact le_refl _ | exact rfl | split
    | apply Keeps.mk'

theorem State.keysUpdated_keeps {a s : State} (h : Keeps a s) (id : Nat) (asks : Bool) : Keeps a (State.keysUpdated s id asks) := by
  unfold State.keysUpdated
  repeat' with_reducible first
    | exact h | apply Keeps.ite | apply State.modConn_keeps | apply State.send_keeps | exact Keeps.refl _ | intro _
    | exact le_refl _ | exact rfl | split

theorem execTcpConnection_keeps (t : Nat) (id : Nat) (port : Nat) (addr : Nat) (tcp : TcpPorts) (what : NetEvent) (s : State) : ∃ u, execTcpConnection t id port addr tcp what s = .next u ∧ Keeps s u := by
  refine ⟨_, rfl, ?_⟩
  repeat' with_reducible first
    | exact Keeps.refl _ | apply Keeps.ite | apply State.at_keeps | apply State.tcpArrives_keeps
    | apply State.finishHandshake_keeps | apply State.keysUpdated_keeps | apply State.endConn_keeps | apply State.send_keeps
    | intro _ | exact le_refl _ | exact rfl | split

theorem execCommissioned_keeps (t : Nat) (id : Nat) (hello : Hello) (signed : Bool) (s : State) : ∃ u, execCommissioned t id hello signed s = .next u ∧ Keeps s u := by
  refine ⟨_, rfl, ?_⟩
  repeat' with_reducible first
    | exact Keeps.refl _ | apply Keeps.ite | apply State.at_keeps | apply State.finishHandshake_keeps | intro _
    | exact le_refl _ | exact rfl | split

theorem execHandshakeTimeout_keeps (t : Nat) (id : Nat) (s : State) : ∃ u, execHandshakeTimeout t id s = .next u ∧ Keeps s u := by
  refine ⟨_, rfl, ?_⟩
  repeat' with_reducible first
    | exact Keeps.refl _ | apply Keeps.ite | apply State.at_keeps | apply State.failTls_keeps | split

theorem execOpenSessionTimeout_keeps (t : Nat) (id : Nat) (s : State) : ∃ u, execOpenSessionTimeout t id s = .next u ∧ Keeps s u := by
  refine ⟨_, rfl, ?_⟩
  repeat' with_reducible first
    | exact Keeps.refl _ | apply Keeps.ite | apply State.at_keeps | apply State.send_keeps | apply State.bump_keeps
    | apply State.endConn_keeps | split

theorem execConnectionEnd_keeps (t : Nat) (id : Nat) (s : State) : ∃ u, execConnectionEnd t id s = .next u ∧ Keeps s u := by
  refine ⟨_, rfl, ?_⟩
  repeat' with_reducible first
    | exact Keeps.refl _ | apply Keeps.ite | apply State.at_keeps | apply State.endConn_keeps | split

theorem State.newSession_keeps_aux {s : State} {n : Nat} (h : s.freeSession = some n) :
    1 ≤ n ∧ n ≤ 16 ∧ ∀ x ∈ s.mbx.sess, x.num ≠ n := by
  unfold State.freeSession at h
  have hm := List.mem_of_find?_eq_some h
  have hn := List.find?_some h
  refine ⟨?_, ?_, ?_⟩
  · clear h hn; revert n; decide
  · clear h hn; revert n; decide
  · intro x hx e
    rw [Option.isNone_iff_eq_none] at hn
    unfold State.sess? at hn
    exact absurd (List.find?_eq_none.1 hn x hx) (by simpa using e)

theorem State.newSession_keeps {a s : State} (h : Keeps a s) (c : Conn) (num : Nat) (hf : s.freeSession = some num) :
    Keeps a (State.newSession s c num) := by
  unfold State.newSession
  extract_lets x src s1 s2 s3 s4 s5 src6 s6
  obtain ⟨f1, f2, f3⟩ := State.newSession_keeps_aux hf
  have h1 : Keeps a s1 := h.mbx _ fun i j => by
    simp only [numsOk, outstOk, Bool.and_eq_true, List.all_eq_true, decide_eq_true_eq] at i j ⊢
    refine ⟨⟨?_, ?_⟩, ?_⟩
    · intro y hy
      rcases List.mem_append.1 hy with hy | hy
      · exact i.1 y hy
      · rw [List.mem_singleton] at hy; subst hy; exact ⟨f1, f2⟩
    · rw [List.map_append]
      refine List.nodup_append.2 ⟨i.2, List.nodup_singleton _, ?_⟩
      intro u hu w hw
      rw [List.map_singleton, List.mem_singleton] at hw
      obtain ⟨y, hy, rfl⟩ := List.mem_map.1 hu
      rw [hw]; exact f3 y hy
    · intro y hy
      rcases List.mem_append.1 hy with hy | hy
      · exact j y hy
      · rw [List.mem_singleton] at hy; subst hy; exact Nat.zero_le _
  have h5 : Keeps a s5 := State.stamp_keeps (State.wr_keeps (State.wr_keeps (State.wrB_keeps (State.wr_keeps (State.wr_keeps (State.wr_keeps h1 ..) ..) ..) ..) ..) ..) ..
  split
  · exact State.wr_keeps (State.wr_keeps (Keeps.mk' h5 (le_refl _) rfl : Keeps a s6) ..) ..
  · exact h5

theorem execOpenSession_keeps (t : Nat) (r : Req) (p : Bytes) (s : State) : ∃ u, execOpenSession t r p s = .next u ∧ Keeps s u := by
  unfold execOpenSession
  have h0 := State.at_keeps (Keeps.refl s) t
  revert h0
  generalize s.at t = b
  intro h0
  refine ⟨_, rfl, ?_⟩
  split
  · exact h0
  split
  · exact h0
  split
  · exact h0
  split
  · exact State.serve_keeps h0 _ _ _ _ _ _ fun rid x v => Keeps.refl _
  extract_lets v
  have h1 : Keeps s v := State.modConn_keeps h0 ..
  clear_value v
  split
  · exact State.answerRaw_keeps h1 ..
  split
  · exact State.answerRaw_keeps h1 ..
  split
  · exact State.answerRaw_keeps h1 ..
  split
  · exact State.send_keeps (State.endConn_keeps (State.bump_keeps (State.answerRaw_keeps h1 ..) ..) ..) _
  · next e => exact State.send_keeps (State.newSession_keeps h1 _ _ e) _

theorem execCloseSession_keeps (t : Nat) (r : Req) (p : Bytes) (s : State) : ∃ u, execCloseSession t r p s = .next u ∧ Keeps s u := by
  refine ⟨_, rfl, ?_⟩
  repeat' with_reducible first
    | exact Keeps.refl _ | apply State.serve_keeps | apply State.endSession_keeps | apply State.answer_keeps | intro _
    | exact le_refl _ | exact rfl

theorem execPingSession_keeps (t : Nat) (r : Req) (p : Bytes) (s : State) : ∃ u, execPingSession t r p s = .next u ∧ Keeps s u := by
  refine ⟨_, rfl, ?_⟩
  repeat' with_reducible first
    | exact Keeps.refl _ | apply State.serve_keeps | intro _ | exact le_refl _ | exact rfl | apply Keeps.mk'

theorem execSessionIdle_keeps (t : Nat) (num : Nat) (s : State) : ∃ u, execSessionIdle t num s = .next u ∧ Keeps s u := by
  refine ⟨_, rfl, ?_⟩
  repeat' with_reducible first
    | exact Keeps.refl _ | apply Keeps.ite | apply State.at_keeps | apply State.shutSession_keeps | split

theorem State.badFrame_keeps {a s : State} (h : Keeps a s) (conn : Nat) : Keeps a (State.badFrame s conn) := by
  unfold State.badFrame
  repeat' with_reducible first
    | exact h | apply Keeps.ite | apply State.send_keeps | apply State.bump_keeps | apply State.endConn_keeps
    | exact le_refl _ | exact rfl | split | apply Keeps.mk'

theorem execUnreadableFrame_keeps (t : Nat) (conn : Nat) (hdr : Bytes) (s : State) : ∃ u, execUnreadableFrame t conn hdr s = .next u ∧ Keeps s u := by
  refine ⟨_, rfl, ?_⟩
  repeat' with_reducible first
    | exact Keeps.refl _ | apply Keeps.ite | apply State.at_keeps | apply State.badFrame_keeps | apply State.serve_keeps
    | intro _ | exact le_refl _ | exact rfl | split

theorem execBeginTxn_keeps (t : Nat) (r : Req) (p : Bytes) (s : State) : ∃ u, execBeginTxn t r p s = .next u ∧ Keeps s u := by
  refine ⟨_, rfl, ?_⟩
  repeat' with_reducible first
    | exact Keeps.refl _ | apply State.serve_keeps | apply guarded_keeps | apply State.modSess_keeps | intro _
    | exact le_refl _ | exact rfl | refine Keeps.fst (by assumption) ?_ | apply Keeps.mk'

theorem execAbortTxn_keeps (t : Nat) (r : Req) (p : Bytes) (s : State) : ∃ u, execAbortTxn t r p s = .next u ∧ Keeps s u := by
  refine ⟨_, rfl, ?_⟩
  repeat' with_reducible first
    | exact Keeps.refl _ | apply State.serve_keeps | apply guarded_keeps | apply State.modSess_keeps | intro _
    | exact le_refl _ | exact rfl | refine Keeps.fst (by assumption) ?_ | apply Keeps.mk'

theorem execTxnTimeout_keeps (t : Nat) (num : Nat) (s : State) : ∃ u, execTxnTimeout t num s = .next u ∧ Keeps s u := by
  refine ⟨_, rfl, ?_⟩
  repeat' with_reducible first
    | exact Keeps.refl _ | apply Keeps.ite | apply State.at_keeps | apply State.modSess_keeps | intro _ | exact le_refl _
    | exact rfl | split | apply Keeps.mk'

theorem execGetIdentity_keeps (t : Nat) (r : Req) (p : Bytes) (s : State) : ∃ u, execGetIdentity t r p s = .next u ∧ Keeps s u := by
  refine ⟨_, rfl, ?_⟩
  repeat' with_reducible first
    | exact Keeps.refl _ | apply State.serve_keeps | intro _ | exact le_refl _ | exact rfl | split

theorem execGetCert_keeps (t : Nat) (r : Req) (p : Bytes) (s : State) : ∃ u, execGetCert t r p s = .next u ∧ Keeps s u := by
  refine ⟨_, rfl, ?_⟩
  repeat' with_reducible first
    | exact Keeps.refl _ | apply State.serve_keeps | apply guarded_keeps | intro _ | exact le_refl _ | exact rfl
    | refine Keeps.fst (by assumption) ?_

theorem execGetQuote_keeps (t : Nat) (r : Req) (p : Bytes) (s : State) : ∃ u, execGetQuote t r p s = .next u ∧ Keeps s u := by
  refine ⟨_, rfl, ?_⟩
  repeat' (first
    | (extract_lets +onlyGivenNames x; first | (refine cutTo x ?_ ?_ <;> [(intro hx; try clear_value x); subst x]) | (refine cutFun x ?_ ?_ <;> [(intro hfun; try clear_value x); (intro v; subst x)]) | (refine cutFun2 x ?_ ?_ <;> [(intro hfun; try clear_value x); (intro v y; subst x)]) | (refine cutFun3 x ?_ ?_ <;> [(intro hfun; try clear_value x); (intro v y; subst x)]) | (have := (x : Mbx); clear this; subst x) | (have := (x : Nonvol); clear this; subst x) | clear_value x | subst x)
    | with_reducible first | exact Keeps.refl _ | assumption
    | with_reducible first | apply State.serve_keeps | apply guarded_keeps | apply Keeps.foldl | apply Keeps.mapSess
    | with_reducible first | exact Nat.le_refl _ | exact Nat.le_succ _ | exact Nat.le_add_right _ _ | exact rfl | exact fun _ => rfl | exact fun _ => Nat.le_refl _ | exact id | exact fun i j => ⟨i, j⟩ | exact fun i j => ⟨j, rfl⟩ | exact fun i j => ⟨rfl, rfl⟩ | exact fun i => Store.load_sorted i _ | exact fun _ => keepMeasured_sorted _ _ _
    | apply hfun
    | intro _
    | split
    | dsimp -zeta only
    | refine Keeps.fst (by assumption) ?_
    | with_reducible first | apply Keeps.mk')

theorem execRestartModule_keeps (t : Nat) (r : Req) (p : Bytes) (s : State) : ∃ u, execRestartModule t r p s = .next u ∧ Keeps s u := by
  refine ⟨_, rfl, ?_⟩
  repeat' with_reducible first
    | exact Keeps.refl _ | apply Keeps.ite | apply State.serve_keeps | apply State.answerLast_keeps
    | apply State.restart_keeps | intro _ | exact le_refl _ | exact rfl | split

theorem execListObj_keeps (t : Nat) (r : Req) (p : Bytes) (s : State) : ∃ u, execListObj t r p s = .next u ∧ Keeps s u := by
  refine ⟨_, rfl, ?_⟩
  repeat' with_reducible first
    | exact Keeps.refl _ | apply State.serve_keeps | intro _ | exact le_refl _ | exact rfl

end Sys2Proof.Machine
end

