-- ==== Sys2Proof/Laws/Keeps/Streams.lean ====
section
/-! SUPPORT. What every command respects (`Keeps`), for the operations of Machine/Streams.lean. -/

set_option linter.all false

namespace Sys2Proof.Machine
open Obj

theorem State.openKind_keeps {a s : State} (h : Keeps a s) (kind : Nat) : Keeps a (State.openKind s kind) := by
  unfold State.openKind
  repeat' with_reducible first
    | exact h | apply State.wr_keeps | apply State.wrB_keeps | split

theorem execOpenStream_keeps (t : Nat) (r : Req) (p : Bytes) (s : State) : ∃ u, execOpenStream t r p s = .next u ∧ Keeps s u := by
  refine ⟨_, rfl, ?_⟩
  repeat' with_reducible first
    | exact Keeps.refl _ | apply Keeps.ite | apply State.serve_keeps | apply State.wr_keeps | apply guarded_keeps
    | apply State.openKind_keeps | apply State.modSess_keeps | intro _ | exact le_refl _ | exact rfl | split
    | refine Keeps.fst (by assumption) ?_ | apply Keeps.mk'

theorem execCloseStream_keeps (t : Nat) (r : Req) (p : Bytes) (s : State) : ∃ u, execCloseStream t r p s = .next u ∧ Keeps s u := by
  refine ⟨_, rfl, ?_⟩
  repeat' with_reducible first
    | exact Keeps.refl _ | apply State.serve_keeps | apply State.closeStream_keeps | intro _ | exact le_refl _ | exact rfl
    | split

theorem State.modStream_keeps {a s : State} (h : Keeps a s) (sess : Nat) (num : Nat) (f : Stream → Stream) : Keeps a (State.modStream s sess num f) := by
  unfold State.modStream
  repeat' with_reducible first
    | exact h | apply Keeps.ite | apply State.modSess_keeps | exact Keeps.refl _ | intro _ | exact le_refl _ | exact rfl
    | split | apply Keeps.mk'

theorem execGrantCredit_keeps (t : Nat) (r : Req) (p : Bytes) (s : State) : ∃ u, execGrantCredit t r p s = .next u ∧ Keeps s u := by
  refine ⟨_, rfl, ?_⟩
  dsimp only
  repeat' with_reducible first
    | exact Keeps.refl _ | apply Keeps.ite | apply State.serve_keeps | apply State.modStream_keeps | intro _ | exact le_refl _
    | exact rfl | split | apply Keeps.mk'

theorem State.takeFrame_keeps {a s : State} (h : Keeps a s) (x : Sess) (p : Bytes) : Keeps a (State.takeFrame s x p) := by
  unfold State.takeFrame
  repeat' with_reducible first
    | exact h | apply Keeps.ite | apply State.bump_keeps | apply State.closeStream_keeps | apply State.streamFrame_keeps
    | apply State.modSess_keeps | apply State.modStream_keeps | exact Keeps.refl _ | intro _ | exact le_refl _ | exact rfl
    | split | apply Keeps.mk'

theorem execStreamDataIn_keeps (t : Nat) (r : Req) (p : Bytes) (s : State) : ∃ u, execStreamDataIn t r p s = .next u ∧ Keeps s u := by
  refine ⟨_, rfl, ?_⟩
  repeat' with_reducible first
    | exact Keeps.refl _ | apply Keeps.ite | apply State.at_keeps | apply State.badFrame_keeps | apply State.refuseFrame_keeps
    | apply State.answerRaw_keeps | apply State.modSess_keeps | apply State.takeFrame_keeps | intro _ | exact le_refl _
    | exact rfl | split

theorem execStreamCredit_keeps (t : Nat) (sess : Nat) (num : Nat) (frames : Nat) (s : State) : ∃ u, execStreamCredit t sess num frames s = .next u ∧ Keeps s u := by
  refine ⟨_, rfl, ?_⟩
  repeat' with_reducible first
    | exact Keeps.refl _ | apply Keeps.ite | apply State.at_keeps | apply State.unsolicited_keeps
    | apply State.modStream_keeps | intro _ | exact le_refl _ | exact rfl | split | apply Keeps.mk'

theorem State.sentFrame_keeps {a s : State} (h : Keeps a s) (sess : Nat) (q : Stream) (ended : Bool) : Keeps a (State.sentFrame s sess q ended) := by
  unfold State.sentFrame
  repeat' with_reducible first
    | exact h | apply Keeps.ite | apply State.modSess_keeps | apply State.exportSent_keeps | apply State.modStream_keeps
    | exact Keeps.refl _ | intro _ | exact le_refl _ | exact rfl | split | apply Keeps.mk'

theorem State.netBSent_keeps {a s : State} (h : Keeps a s) (port : Nat) (bytes : Nat) : Keeps a (State.netBSent s port bytes) := by
  unfold State.netBSent
  repeat' with_reducible first
    | exact h | apply Keeps.ite | exact Keeps.refl _ | intro _ | exact le_refl _ | exact rfl | split | apply Keeps.mk'

theorem execStreamDataOut_keeps (t : Nat) (sess : Nat) (num : Nat) (ahead : Nat) (s : State) : ∃ u, execStreamDataOut t sess num ahead s = .next u ∧ Keeps s u := by
  refine ⟨_, rfl, ?_⟩
  repeat' with_reducible first
    | exact Keeps.refl _ | apply Keeps.ite | apply State.at_keeps | apply State.modStream_keeps
    | apply State.streamFrame_keeps | apply State.netBSent_keeps | apply State.bump_keeps | apply State.sentFrame_keeps
    | apply State.markSending_keeps | intro _ | exact le_refl _ | exact rfl | split

end Sys2Proof.Machine
end

