-- ==== Sys2Proof/Laws/Keeps/Dram.lean ====
section
/-! SUPPORT. What every command respects (`Keeps`), for the operations of Machine/Dram.lean. -/

set_option linter.all false

namespace Sys2Proof.Machine
open Obj

theorem State.damageBlock_keeps {a s : State} (h : Keeps a s) (ring : Nat) (seq : Nat) : Keeps a (State.damageBlock s ring seq) := by
  unfold State.damageBlock
  repeat' with_reducible first
    | exact h | apply Keeps.ite | apply State.histRegs_keeps | apply State.record_keeps | exact Keeps.refl _ | intro _
    | exact le_refl _ | exact rfl | split | apply Keeps.mk'

theorem State.spoilSample_keeps {a s : State} (h : Keeps a s) (ch : Nat) (index : Nat) : Keeps a (State.spoilSample s ch index) := by
  unfold State.spoilSample
  repeat' with_reducible first
    | exact h | apply Keeps.ite | apply State.modTrace_keeps | exact Keeps.refl _ | intro _ | exact le_refl _ | exact rfl
    | split | dsimp only

theorem State.refuseTransfers_keeps {a s : State} (h : Keeps a s)  : Keeps a (State.refuseTransfers s) := by
  unfold State.refuseTransfers
  repeat' with_reducible first
    | exact h | apply Keeps.ite | apply State.abortStreams_keeps | apply State.wrB_keeps | apply State.wr_keeps
    | exact Keeps.refl _ | intro _ | exact le_refl _ | exact rfl | split | apply Keeps.mk'

theorem execDramUncorrectableError_keeps (t : Nat) (region : Nat) (a_ : Nat) (b : Nat) (s : State) : ∃ u, execDramUncorrectableError t region a_ b s = .next u ∧ Keeps s u := by
  refine ⟨_, rfl, ?_⟩
  repeat' with_reducible first
    | exact Keeps.refl _ | apply Keeps.ite | apply State.at_keeps | apply State.wr_keeps | apply State.bump_keeps
    | apply State.wrB_keeps | apply State.restart_keeps | apply State.refuseTransfers_keeps | apply State.spoilSample_keeps
    | apply State.damageBlock_keeps | split

end Sys2Proof.Machine
end

