-- ==== Sys2Proof/Laws/Keeps/RuntimeStart.lean ====
section
/-! SUPPORT. What every command respects (`Keeps`), for the operations of Machine/RuntimeStart.lean. -/

set_option linter.all false

namespace Sys2Proof.Machine
open Obj

theorem State.recordStart_keeps {a s : State} (h : Keeps a s)  : Keeps a (State.recordStart s) := by
  unfold State.recordStart
  repeat' with_reducible first
    | exact h | apply Keeps.ite | apply State.record_keeps | apply State.putLater_keeps | apply State.attention_keeps
    | apply Keeps.foldl | exact Keeps.refl _ | intro _ | exact le_refl _ | exact rfl | split | apply Keeps.mk'

theorem State.stringsStart_keeps {a s : State} (h : Keeps a s)  : Keeps a (State.stringsStart s) := by
  unfold State.stringsStart
  repeat' with_reducible first
    | exact h | apply State.eachStr_keeps | apply State.startEnum_keeps | apply State.rateRefresh_keeps
    | apply State.startFe_keeps | exact Keeps.refl _ | intro _ | exact le_refl _ | exact rfl

theorem State.enginesStart_keeps {a s : State} (h : Keeps a s)  : Keeps a (State.enginesStart s) := by
  unfold State.enginesStart
  repeat' with_reducible first
    | exact h | apply Keeps.ite | apply State.domStart_keeps | apply State.canBegin_keeps | apply State.pacerRule_keeps
    | apply State.captureWritten_keeps | apply State.chanStart_keeps | apply State.loadRegs_keeps | apply Keeps.foldl
    | exact Keeps.refl _ | intro _ | exact le_refl _ | exact rfl | split

theorem State.rolesStart_keeps {a s : State} (h : Keeps a s)  : Keeps a (State.rolesStart s) := by
  unfold State.rolesStart
  repeat' with_reducible first
    | exact h | apply State.roleCheck_keeps | apply State.discover_keeps | exact le_refl _ | exact rfl | apply Keeps.mk'

theorem State.runtimeRegs_keeps {a s : State} (h : Keeps a s)  : Keeps a (State.runtimeRegs s) := by
  unfold State.runtimeRegs
  repeat' with_reducible first
    | exact h | apply State.stamp_keeps | apply State.setPhase_keeps | apply State.wr_keeps | exact le_refl _ | exact rfl
    | apply Keeps.mk'

theorem State.runtimeRun_keeps {a s : State} (h : Keeps a s) (netA : Bool) (netB : Bool) : Keeps a (State.runtimeRun s netA netB) := by
  unfold State.runtimeRun
  repeat' with_reducible first
    | exact h | apply Keeps.ite | apply State.wrB_keeps | apply State.recordStart_keeps | apply State.trustRegs_keeps
    | apply State.stringsStart_keeps | apply State.enginesStart_keeps | apply State.rolesStart_keeps
    | apply State.refreshAll_keeps | apply State.portStart_keeps | apply State.reachPhase_keeps | exact Keeps.refl _ | intro _
    | exact le_refl _ | exact rfl | split | apply Keeps.mk'

theorem execRuntimeStart_keeps (t : Nat) (netA : Bool) (netB : Bool) (s : State) : ∃ u, execRuntimeStart t netA netB s = .next u ∧ Keeps s u := by
  refine ⟨_, rfl, ?_⟩
  repeat' with_reducible first
    | exact Keeps.refl _ | apply Keeps.ite | apply State.at_keeps | apply State.runtimeRegs_keeps
    | apply State.portStart_keeps | apply State.runtimeRun_keeps | split

theorem State.readSwitches_keeps {a s : State} (h : Keeps a s) (new : List Nat) : Keeps a (State.readSwitches s new) := by
  unfold State.readSwitches
  repeat' with_reducible first
    | exact h | apply Keeps.ite | apply State.switchRegs_keeps | apply State.applySwitches_keeps | apply State.eachStr_keeps
    | apply State.thresholdsAll_keeps | apply State.refreshAll_keeps | apply State.wrB_keeps | apply State.record_keeps
    | exact Keeps.refl _ | intro _ | exact le_refl _ | exact rfl | split | apply Keeps.mk'

theorem execSwitchReading_keeps (t : Nat) (profile : Nat) (block : Nat) (mask : Nat) (addr : Nat) (s : State) : ∃ u, execSwitchReading t profile block mask addr s = .next u ∧ Keeps s u := by
  refine ⟨_, rfl, ?_⟩
  repeat' with_reducible first
    | exact Keeps.refl _ | apply Keeps.ite | apply State.at_keeps | apply State.readSwitches_keeps | intro _ | exact le_refl _
    | exact rfl | split | apply Keeps.mk'

theorem execSwitchFaultRetry_keeps (t : Nat) (profile : Nat) (block : Nat) (mask : Nat) (addr : Nat) (s : State) : ∃ u, execSwitchFaultRetry t profile block mask addr s = .next u ∧ Keeps s u := by
  refine ⟨_, rfl, ?_⟩
  repeat' with_reducible first
    | exact Keeps.refl _ | apply Keeps.ite | apply State.at_keeps | apply State.readSwitches_keeps | intro _ | exact le_refl _
    | exact rfl | split

theorem execHistoryInitComplete_keeps (t : Nat) (s : State) : ∃ u, execHistoryInitComplete t s = .next u ∧ Keeps s u := by
  refine ⟨_, rfl, ?_⟩
  repeat' with_reducible first
    | exact Keeps.refl _ | apply Keeps.ite | apply State.at_keeps | apply State.wrB_keeps | apply State.reachPhase_keeps
    | split

end Sys2Proof.Machine
end

