-- ==== Sys2Proof/Laws/Keeps/WriteOps.lean ====
section
/-! SUPPORT. What every command respects (`Keeps`), for the operations of Machine/WriteOps.lean. -/

set_option linter.all false

namespace Sys2Proof.Machine
open Obj

theorem State.expected_keeps {a s : State} (h : Keeps a s)  : Keeps a (State.expected s) := by
  unfold State.expected
  repeat' with_reducible first
    | exact h | apply Keeps.ite | apply State.putCells_keeps | apply State.runWrites_keeps | apply State.withWait_keeps
    | apply Keeps.foldl | exact Keeps.refl _ | intro _ | exact le_refl _ | exact rfl | split
    | refine Keeps.fst (by assumption) ?_

end Sys2Proof.Machine
end

