-- ==== Sys2Proof/Laws/Keeps/Writes.lean ====
section
/-! SUPPORT. What every command respects (`Keeps`), for the operations of Machine/Writes.lean. -/

set_option linter.all false

namespace Sys2Proof.Machine
open Obj

theorem State.freshen_keeps {a s : State} (h : Keeps a s) (obj : Nat) (i : Nat) : Keeps a (State.freshen s obj i) := by
  unfold State.freshen
  repeat' with_reducible first
    | exact h | apply Keeps.ite | apply State.wr_keeps | apply State.wrB_keeps | apply State.backupRegs_keeps
    | apply State.intakeSecond_keeps | apply State.warmNow_keeps | apply State.agesNow_keeps | apply State.latencyNow_keeps
    | apply State.timeRegs_keeps | apply State.portRegs_keeps | apply State.updRegs_keeps | apply State.haltRegs_keeps
    | exact Keeps.refl _ | intro _ | exact le_refl _ | exact rfl | split

theorem State.getObj_keeps {a s : State} (h : Keeps a s) (p : Bytes) : Keeps a (State.getObj s p).1 := by
  unfold State.getObj
  dsimp only
  repeat' with_reducible first
    | exact h | apply Keeps.ite | apply guarded_keeps | apply State.freshen_keeps | exact Keeps.refl _ | intro _
    | exact le_refl _ | exact rfl | split | refine Keeps.fst (by assumption) ?_

theorem execGetObj_keeps (t : Nat) (r : Req) (p : Bytes) (s : State) : ∃ u, execGetObj t r p s = .next u ∧ Keeps s u := by
  refine ⟨_, rfl, ?_⟩
  repeat' with_reducible first
    | exact Keeps.refl _ | apply State.serve_keeps | apply State.getObj_keeps | intro _ | exact le_refl _ | exact rfl
    | refine Keeps.fst (by assumption) ?_

theorem State.tableWritten_keeps {a s : State} (h : Keeps a s) (i : Nat) : Keeps a (State.tableWritten s i) := by
  unfold State.tableWritten
  repeat' with_reducible first
    | exact h | apply Keeps.ite | apply State.record_keeps | apply State.eachStr_keeps | apply State.modStr_keeps
    | exact Keeps.refl _ | intro _ | exact le_refl _ | exact rfl | split

theorem State.profileWritten_keeps {a s : State} (h : Keeps a s)  : Keeps a (State.profileWritten s) := by
  unfold State.profileWritten
  repeat' with_reducible first
    | exact h | apply Keeps.ite | apply State.extendSlot_keeps | apply State.record_keeps | apply State.eachStr_keeps
    | apply State.modStr_keeps | apply State.profileNow_keeps | exact Keeps.refl _ | intro _ | exact le_refl _ | exact rfl
    | split

theorem State.canObjWritten_keeps {a s : State} (h : Keeps a s) (o : State) (i : Nat) : Keeps a (State.canObjWritten s o i) := by
  unfold State.canObjWritten
  repeat' with_reducible first
    | exact h | apply Keeps.ite | apply State.pendReg_keeps | apply State.modBus_keeps | apply State.ownerRefresh_keeps
    | exact Keeps.refl _ | intro _ | exact le_refl _ | exact rfl | split | apply Keeps.mk'

theorem State.objWritten_keeps {a s : State} (h : Keeps a s) (o : State) (sess : Nat) (obj : Nat) (i : Nat) : Keeps a (State.objWritten s o sess obj i) := by
  unfold State.objWritten
  repeat' with_reducible first
    | exact h | apply Keeps.ite | apply State.tapFollows_keeps | apply State.refitPins_keeps | apply State.compressCheck_keeps
    | apply State.tableWritten_keeps | apply State.profileWritten_keeps | apply State.loopOut_keeps
    | apply State.ownerRefresh_keeps | apply State.chanWritten_keeps | apply State.keepChan_keeps | apply State.loadRegs_keeps
    | apply State.domWritten_keeps | apply State.pacerWritten_keeps | apply State.captureWritten_keeps
    | apply State.canChanWritten_keeps | apply State.canObjWritten_keeps | apply State.portWritten_keeps
    | apply State.trustRegs_keeps | apply State.record_keeps | exact Keeps.refl _ | intro _ | exact le_refl _ | exact rfl
    | split

theorem State.touchAct_keeps {a s : State} (h : Keeps a s) (i : Nat) (x : Touch) : Keeps a (State.touchAct s i x) := by
  unfold State.touchAct
  repeat' with_reducible first
    | exact h | apply Keeps.ite | apply State.releaseCapture_keeps | apply State.wr_keeps | apply State.wrB_keeps
    | apply State.ackEpoch_keeps | apply State.closeRequested_keeps | apply State.pinAround_keeps
    | apply State.releasePins_keeps | apply State.modChan_keeps | apply State.canRecover_keeps | apply State.canContent_keeps
    | apply State.advanceFuses_keeps | apply State.restartNodes_keeps | apply Keeps.foldl | exact Keeps.refl _ | intro _
    | exact le_refl _ | exact rfl | split

theorem State.markStale_keeps {a s : State} (h : Keeps a s) (sess : Nat) (is : List (Nat × Nat)) : Keeps a (State.markStale s sess is) :=
  h.mapSess _ (fun x => by dsimp only; split <;> rfl) fun x => by dsimp only; split <;> exact le_refl _

theorem State.touchNow_keeps {a s : State} (h : Keeps a s) (o : State) (ws : List Write) (w : Write) (x : Touch) : Keeps a (State.touchNow s o ws w x) := by
  unfold State.touchNow
  repeat' with_reducible first
    | exact h | apply Keeps.ite | apply State.modStr_keeps | apply State.touchAct_keeps | exact Keeps.refl _ | intro _
    | exact le_refl _ | exact rfl | split

theorem State.putString_keeps {a s : State} (h : Keeps a s) (o : State) (ws : List Write) (n : Nat) (cs : List CellW) : Keeps a (State.putString s o ws n cs) := by
  unfold State.putString
  repeat' with_reducible first
    | exact h | apply Keeps.ite | apply State.modStr_keeps | apply State.putCells_keeps | apply State.stringWritten_keeps
    | exact Keeps.refl _ | intro _ | exact le_refl _ | exact rfl | split

theorem State.applyWrites_keeps {a s : State} (h : Keeps a s) (sess : Nat) (ws : List Write) : Keeps a (State.applyWrites s sess ws) := by
  unfold State.applyWrites
  repeat' with_reducible first
    | exact h | apply Keeps.ite | apply State.eachStr_keeps | apply State.waitDue_keeps | apply State.withWait_keeps
    | apply State.runWrites_keeps | apply State.storeCells_keeps | apply State.bump_keeps | apply State.putCells_keeps
    | apply State.keepOld_keeps | apply State.putString_keeps | apply State.objWritten_keeps | apply State.touchNow_keeps
    | apply State.markStale_keeps | apply State.trustRecheck_keeps | apply Keeps.foldl | exact Keeps.refl _ | intro _
    | exact le_refl _ | exact rfl | split | refine Keeps.fst (by assumption) ?_

theorem State.awaitNodes_keeps {a s : State} (h : Keeps a s) (rid : Rid) (ws : List Write) : Keeps a (State.awaitNodes s rid ws).1 := by
  unfold State.awaitNodes
  dsimp only
  repeat' with_reducible first
    | exact h | apply Keeps.ite | exact Keeps.refl _ | intro _ | exact le_refl _ | exact rfl | split | apply Keeps.mk'

theorem State.accept_keeps {a s : State} (h : Keeps a s) (rid : Rid) (ws : List Write) : Keeps a (State.accept s rid ws).1 := by
  unfold State.accept
  repeat' with_reducible first
    | exact h | apply Keeps.ite | apply State.journal_keeps | apply State.applyWrites_keeps | apply State.awaitNodes_keeps
    | exact Keeps.refl _ | intro _ | exact le_refl _ | exact rfl | split | refine Keeps.fst (by assumption) ?_

theorem State.useFor_keeps {a s : State} (h : Keeps a s) (sess : Nat) (w : Write) : Keeps a (State.useFor s sess w) := by
  unfold State.useFor
  repeat' with_reducible first
    | exact h | apply Keeps.ite | apply State.useToken_keeps | split

theorem State.putObj_keeps {a s : State} (h : Keeps a s) (rid : Rid) (x : Sess) (p : Bytes) : Keeps a (State.putObj s rid x p).1 := by
  unfold State.putObj
  dsimp only
  repeat' with_reducible first
    | exact h | apply guarded_keeps | apply State.runWrites_keeps | apply State.expected_keeps | apply State.modSess_keeps
    | apply State.useFor_keeps | apply State.accept_keeps | exact Keeps.refl _ | intro _ | exact le_refl _ | exact rfl | split
    | refine Keeps.fst (by assumption) ?_ | apply Keeps.mk'

theorem State.servePut_keeps {a s : State} (h : Keeps a s) (t : Nat) (r : Req) (p : Bytes) : Keeps a (State.servePut s t r p) := by
  unfold State.servePut
  repeat' with_reducible first
    | exact h | apply State.serve_keeps | apply State.putObj_keeps | exact Keeps.refl _ | intro _ | exact le_refl _
    | exact rfl | refine Keeps.fst (by assumption) ?_

theorem execPutObj_keeps (t : Nat) (r : Req) (p : Bytes) (s : State) : ∃ u, execPutObj t r p s = .next u ∧ Keeps s u := by
  refine ⟨_, rfl, ?_⟩
  repeat' with_reducible first
    | exact Keeps.refl _ | apply State.servePut_keeps

theorem State.commitTxn_keeps {a s : State} (h : Keeps a s) (rid : Rid) (x : Sess) : Keeps a (State.commitTxn s rid x).1 := by
  unfold State.commitTxn
  dsimp only
  repeat' with_reducible first
    | exact h | apply State.modSess_keeps | apply State.bump_keeps | apply State.accept_keeps | exact Keeps.refl _ | intro _
    | exact le_refl _ | exact rfl | split | refine Keeps.fst (by assumption) ?_ | apply Keeps.mk'

theorem execCommitTxn_keeps (t : Nat) (r : Req) (p : Bytes) (s : State) : ∃ u, execCommitTxn t r p s = .next u ∧ Keeps s u := by
  refine ⟨_, rfl, ?_⟩
  repeat' with_reducible first
    | exact Keeps.refl _ | apply State.serve_keeps | apply State.commitTxn_keeps | intro _ | exact le_refl _ | exact rfl
    | refine Keeps.fst (by assumption) ?_ | apply Keeps.mk'

theorem State.uploadDone_keeps {a s : State} (h : Keeps a s) (code : Nat) : Keeps a (State.uploadDone s code) := by
  unfold State.uploadDone
  repeat' with_reducible first
    | exact h | apply State.wrB_keeps | apply State.wr_keeps

theorem execConfigUpload_keeps (t : Nat) (s : State) : ∃ u, execConfigUpload t s = .next u ∧ Keeps s u := by
  refine ⟨_, rfl, ?_⟩
  repeat' with_reducible first
    | exact Keeps.refl _ | apply Keeps.ite | apply State.at_keeps | apply State.dropEnded_keeps | apply State.wr_keeps
    | apply State.uploadDone_keeps | apply State.record_keeps | apply State.useFor_keeps | apply State.wrB_keeps
    | apply State.journal_keeps | apply State.applyWrites_keeps | apply Keeps.foldl | intro _ | exact le_refl _ | exact rfl
    | split | dsimp only

theorem State.storedDone_keeps {a s : State} (h : Keeps a s) (j : Journal) : Keeps a (State.storedDone s j) := by
  unfold State.storedDone
  repeat' with_reducible first
    | exact h | apply Keeps.ite | apply State.bump_keeps | apply State.finishClear_keeps | apply State.putCells_keeps
    | apply State.storeCells_keeps | apply State.calStored_keeps | apply State.answer_keeps | apply State.applyWrites_keeps
    | apply State.uploadDone_keeps | apply State.awaitNodes_keeps | exact Keeps.refl _ | intro _ | exact le_refl _ | exact rfl
    | split | refine Keeps.fst (by assumption) ?_

theorem execStoredWriteComplete_keeps (t : Nat) (s : State) : ∃ u, execStoredWriteComplete t s = .next u ∧ Keeps s u := by
  refine ⟨_, rfl, ?_⟩
  repeat' with_reducible first
    | exact Keeps.refl _ | apply Keeps.ite | apply State.at_keeps | apply State.storedDone_keeps | exact le_refl _ | exact rfl
    | split | apply Keeps.mk'

theorem execCloseRequest_keeps (t : Nat) (r : Req) (str : Nat) (s : State) : ∃ u, execCloseRequest t r str s = .next u ∧ Keeps s u := by
  refine ⟨_, rfl, ?_⟩
  repeat' with_reducible first
    | exact Keeps.refl _ | apply State.servePut_keeps

theorem execIntegratorProfile_keeps (t : Nat) (r : Req) (data : Bytes) (s : State) : ∃ u, execIntegratorProfile t r data s = .next u ∧ Keeps s u := by
  refine ⟨_, rfl, ?_⟩
  repeat' with_reducible first
    | exact Keeps.refl _ | apply State.servePut_keeps

theorem execTakeOver_keeps (t : Nat) (r : Req) (ch : Nat) (s : State) : ∃ u, execTakeOver t r ch s = .next u ∧ Keeps s u := by
  refine ⟨_, rfl, ?_⟩
  repeat' with_reducible first
    | exact Keeps.refl _ | apply State.servePut_keeps

theorem execChannelEnable_keeps (t : Nat) (r : Req) (ch : Nat) (on : Bool) (s : State) : ∃ u, execChannelEnable t r ch on s = .next u ∧ Keeps s u := by
  refine ⟨_, rfl, ?_⟩
  repeat' with_reducible first
    | exact Keeps.refl _ | apply State.servePut_keeps

theorem execPinRequest_keeps (t : Nat) (r : Req) (s : State) : ∃ u, execPinRequest t r s = .next u ∧ Keeps s u := by
  refine ⟨_, rfl, ?_⟩
  repeat' with_reducible first
    | exact Keeps.refl _ | apply State.servePut_keeps

theorem execReleasePins_keeps (t : Nat) (r : Req) (s : State) : ∃ u, execReleasePins t r s = .next u ∧ Keeps s u := by
  refine ⟨_, rfl, ?_⟩
  repeat' with_reducible first
    | exact Keeps.refl _ | apply State.servePut_keeps

theorem execCaptureValid_keeps (t : Nat) (r : Req) (ch : Nat) (mask : Nat) (s : State) : ∃ u, execCaptureValid t r ch mask s = .next u ∧ Keeps s u := by
  refine ⟨_, rfl, ?_⟩
  repeat' with_reducible first
    | exact Keeps.refl _ | apply State.servePut_keeps

theorem execRecover_keeps (t : Nat) (r : Req) (ch : Nat) (s : State) : ∃ u, execRecover t r ch s = .next u ∧ Keeps s u := by
  refine ⟨_, rfl, ?_⟩
  repeat' with_reducible first
    | exact Keeps.refl _ | apply State.servePut_keeps | exact le_refl _ | exact rfl | apply Keeps.mk'

theorem execTxRequest_keeps (t : Nat) (r : Req) (obj : Nat) (data : Bytes) (s : State) : ∃ u, execTxRequest t r obj data s = .next u ∧ Keeps s u := by
  refine ⟨_, rfl, ?_⟩
  repeat' with_reducible first
    | exact Keeps.refl _ | apply State.servePut_keeps

theorem execAckCount_keeps (t : Nat) (r : Req) (obj : Nat) (count : Nat) (s : State) : ∃ u, execAckCount t r obj count s = .next u ∧ Keeps s u := by
  refine ⟨_, rfl, ?_⟩
  repeat' with_reducible first
    | exact Keeps.refl _ | apply State.servePut_keeps

theorem execChannelEn_keeps (t : Nat) (r : Req) (ch : Nat) (on : Bool) (s : State) : ∃ u, execChannelEn t r ch on s = .next u ∧ Keeps s u := by
  refine ⟨_, rfl, ?_⟩
  repeat' with_reducible first
    | exact Keeps.refl _ | apply State.servePut_keeps

theorem execPortEn_keeps (t : Nat) (r : Req) (on : Bool) (s : State) : ∃ u, execPortEn t r on s = .next u ∧ Keeps s u := by
  refine ⟨_, rfl, ?_⟩
  repeat' with_reducible first
    | exact Keeps.refl _ | apply State.servePut_keeps

theorem execAckEpoch_keeps (t : Nat) (r : Req) (epoch : Nat) (s : State) : ∃ u, execAckEpoch t r epoch s = .next u ∧ Keeps s u := by
  refine ⟨_, rfl, ?_⟩
  repeat' with_reducible first
    | exact Keeps.refl _ | apply State.servePut_keeps

theorem execAdvanceFuses_keeps (t : Nat) (r : Req) (s : State) : ∃ u, execAdvanceFuses t r s = .next u ∧ Keeps s u := by
  refine ⟨_, rfl, ?_⟩
  repeat' with_reducible first
    | exact Keeps.refl _ | apply State.servePut_keeps

theorem execStartRequest_keeps (t : Nat) (r : Req) (str : Nat) (s : State) : ∃ u, execStartRequest t r str s = .next u ∧ Keeps s u := by
  refine ⟨_, rfl, ?_⟩
  repeat' with_reducible first
    | exact Keeps.refl _ | apply State.servePut_keeps

theorem execTrustList_keeps (t : Nat) (r : Req) (entry : Nat) (data : Bytes) (s : State) : ∃ u, execTrustList t r entry data s = .next u ∧ Keeps s u := by
  refine ⟨_, rfl, ?_⟩
  repeat' with_reducible first
    | exact Keeps.refl _ | apply State.servePut_keeps

end Sys2Proof.Machine
end

