-- ==== Sys2Proof/Laws/Reach.lean ====
section
/-! SUPPORT. From the frame of an operation, one number, to what a reach lets a command change. -/

namespace Sys2Proof.Machine

/-- The hidden parts, each with its bit. -/
def partBits : List (Nat × Part) :=
  [(1, .clk), (3, .nv), (4, .power), (5, .panel), (6, .boot), (7, .sec), (8, .mbx), (9, .hist), (10, .i2c), (11, .safe),
    (12, .strs), (13, .traces), (14, .dies), (15, .thermal), (16, .ledger), (17, .upd), (18, .can), (19, .chans), (20, .blk),
    (21, .coll), (22, .time), (23, .pouts), (24, .caps), (25, .free), (26, .out)]

/-- An area lies in one of a list. -/
def Area.isIn (a : Area) (l : List Area) : Bool :=
  l.any fun b => a.same b || (b.all && a.obj == b.obj)

/-- All that a number lets change, a reach names. -/
def covered (m : Nat) (r : Reach) : Bool :=
  partBits.all (fun p => !m.testBit p.1 || r.parts.contains p.2) &&
    (r.any || (!m.testBit 2 && regTree.entries.all (fun p => !m.testBit p.2 || (codeArea p.1).isIn r.regs) &&
      wholeObjs.all fun p => !m.testBit p.2 || (Area.whole p.1).isIn r.regs))

/-- A place in an area that lies in a list is a place of an area of the list. -/
theorem Area.covers_of_isIn {a : Area} {l : List Area} {k : Key} (h : a.isIn l = true) (c : a.covers k = true) :
    l.any (fun b => b.covers k) = true := by
  simp only [Area.isIn, List.any_eq_true, Bool.or_eq_true, Bool.and_eq_true] at h ⊢
  obtain ⟨b, hb, e | ⟨e1, e2⟩⟩ := h
  · refine ⟨b, hb, ?_⟩
    obtain ⟨o, p, st, al⟩ := a
    obtain ⟨o', p', st', al'⟩ := b
    simp only [Area.same, Bool.and_eq_true, beq_iff_eq] at e
    obtain ⟨⟨⟨rfl, rfl⟩, rfl⟩, rfl⟩ := e
    exact c
  · refine ⟨b, hb, ?_⟩
    simp only [Area.covers, Bool.and_eq_true, beq_iff_eq] at c e2 ⊢
    simp [e1, ← e2, c.1]

/-- A register that no area of a reach covers, a covered number does not let change. -/
theorem hit_of_covered {m : Nat} {r : Reach} (h : covered m r = true) {k : Key} (ha : r.any = false)
    (hk : r.regs.any (fun a => a.covers k) = false) : hit m k = false := by
  simp only [covered, ha, Bool.false_or, Bool.and_eq_true, List.all_eq_true, Bool.or_eq_true, Bool.not_eq_true'] at h
  obtain ⟨-, ⟨h2, ht⟩, hw⟩ := h
  have no {a : Area} (e : a.isIn r.regs = true) (c : a.covers k = true) : False := by
    rw [Area.covers_of_isIn e c] at hk
    exact absurd hk (by decide)
  rw [hit, Bool.or_eq_false_iff, Bool.or_eq_false_iff]
  refine ⟨⟨h2, ?_⟩, ?_⟩
  · rw [List.any_eq_false]
    intro p hp c
    rw [Bool.and_eq_true] at c
    rcases ht p hp with e | e
    · rw [e] at c; exact absurd c.1 (by decide)
    · exact no e c.2
  · rw [List.any_eq_false]
    intro p hp c
    rw [Bool.and_eq_true] at c
    rcases hw p hp with e | e
    · rw [e] at c; exact absurd c.1 (by decide)
    · exact no e c.2

/-- A part that a reach does not name, a covered number does not let change. -/
theorem Frame.part {m : Nat} {s u : State} {r : Reach} (h : Frame m s u) (c : covered m r = true) (p : Part) (hp : p ∉ r.parts) :
    p.same s u := by
  have hc : ∀ q ∈ partBits, m.testBit q.1 = true → q.2 ∈ r.parts := by
    intro q hq e
    have := List.all_eq_true.1 (Bool.and_eq_true_iff.1 c).1 q hq
    simpa [e] using this
  have pick {i : Nat} {x : Prop} (hm : (i, p) ∈ partBits) (hx : m.testBit i = true ∨ x) : x :=
    hx.resolve_left fun e => hp (hc _ hm e)
  cases p with
  | clk => exact pick (by decide) h.clk
  | nv => exact pick (by decide) h.nv
  | power => exact pick (by decide) h.power
  | panel => exact pick (by decide) h.panel
  | boot => exact pick (by decide) h.boot
  | sec => exact pick (by decide) h.sec
  | mbx => exact pick (by decide) h.mbx
  | hist => exact pick (by decide) h.hist
  | i2c => exact pick (by decide) h.i2c
  | safe => exact pick (by decide) h.safe
  | strs => exact pick (by decide) h.strs
  | traces => exact pick (by decide) h.traces
  | dies => exact pick (by decide) h.dies
  | thermal => exact pick (by decide) h.thermal
  | ledger => exact pick (by decide) h.ledger
  | upd => exact pick (by decide) h.upd
  | can => exact pick (by decide) h.can
  | chans => exact pick (by decide) h.chans
  | blk => exact pick (by decide) h.blk
  | coll => exact pick (by decide) h.coll
  | time => exact pick (by decide) h.time
  | pouts => exact pick (by decide) h.pouts
  | caps => exact pick (by decide) h.caps
  | free => exact pick (by decide) h.free
  | out => exact pick (by decide) h.out

/-- Only what a reach names changes, where it names all that the frame's number lets change. -/
theorem Frame.only {m : Nat} {s u : State} {r : Reach} (h : Frame m s u) (c : covered m r = true := by decide +kernel) :
    Only r s u :=
  ⟨h.pending, fun _ ha hk => h.objs _ (hit_of_covered c ha hk), fun p hp => h.part c p hp⟩

/-- What a meaning with a frame may change, read off its one outcome. -/
theorem only_of_frame {m : Nat} {s u : State} {r : Reach} {o : Host.Outcome State Fault Refusal}
    (h : ∃ v, o = .next v ∧ Frame m s v) (e : o = .next u) (c : covered m r = true := by decide +kernel) : Only r s u := by
  obtain ⟨v, hv, f⟩ := h
  rw [hv] at e
  cases e
  exact f.only c

/-- A field that no area of a reach names reads as before. -/
theorem Only.rd {r : Reach} {s u : State} (h : Only r s u) (f : Fld) (i x : Nat) (ha : r.any = false)
    (hk : r.regs.any (fun a => a.covers (f.key i x)) = false) : u.rd f i x = s.rd f i x := by
  unfold State.rd Store.rd
  rw [h.2.1 _ ha hk]

theorem lor_self_left (m n : Nat) : Nat.lor m (Nat.lor m n) = Nat.lor m n := by
  show m ||| (m ||| n) = m ||| n
  rw [← Nat.or_assoc, Nat.or_self]

/-- What two operations in a row may change. -/
theorem Frame.seq {m n : Nat} {a b c : State} (h : Frame m a b) (k : Frame n b c) : Frame (Nat.lor m n) a c :=
  (h.mono (lor_self_left m n)).trans (k.mono (by
    show n ||| (m ||| n) = m ||| n
    rw [Nat.or_comm m n, ← Nat.or_assoc, Nat.or_self]))

/-- The clock alone. -/
theorem Frame.clock (s : State) (t : Nat) : Frame 1 s (s.at t) := State.at_frame (Frame.refl s) t

/-- A register place of a field, copy `x`, outside what a number lets change. -/
def misses (m : Nat) (f : Fld) (x : Nat) : Bool := !hit m ⟨f.obj, 0, f.pos + 8 * f.stride * x⟩

/-- A field outside what a frame lets change reads as before, in every instance. -/
theorem Frame.rd {m : Nat} {s u : State} (h : Frame m s u) (f : Fld) (i x : Nat) (hm : misses m f x = true := by decide +kernel) :
    u.rd f i x = s.rd f i x := by
  have e : hit m (f.key i x) = hit m ⟨f.obj, 0, f.pos + 8 * f.stride * x⟩ := rfl
  unfold State.rd Store.rd
  rw [h.objs _ (by rw [e]; unfold misses at hm; rw [Bool.not_eq_true'] at hm; exact hm)]

/-- The same of a truth value and of an integer. -/
theorem Frame.rdB {m : Nat} {s u : State} (h : Frame m s u) (f : Fld) (i x : Nat) (hm : misses m f x = true := by decide +kernel) :
    u.rdB f i x = s.rdB f i x := by rw [State.rdB, State.rdB, h.rd f i x hm]

@[inherit_doc Frame.rdB] theorem Frame.rdI {m : Nat} {s u : State} (h : Frame m s u) (f : Fld) (i x : Nat)
    (hm : misses m f x = true := by decide +kernel) : u.rdI f i x = s.rdI f i x := by rw [State.rdI, State.rdI, h.rd f i x hm]

/-- A part outside what a frame lets change is as before. -/
theorem or_right {b : Bool} {p : Prop} (h : b = true ∨ p) (e : b = false) : p := h.resolve_left (by rw [e]; decide)

theorem Frame.eq_clk {m : Nat} {s u : State} (h : Frame m s u) (hm : m.testBit 1 = false := by decide +kernel) : u.clk = s.clk :=
  or_right h.clk hm
theorem Frame.eq_nv {m : Nat} {s u : State} (h : Frame m s u) (hm : m.testBit 3 = false := by decide +kernel) : u.nv = s.nv :=
  or_right h.nv hm
theorem Frame.eq_power {m : Nat} {s u : State} (h : Frame m s u) (hm : m.testBit 4 = false := by decide +kernel) : u.power = s.power :=
  or_right h.power hm
theorem Frame.eq_panel {m : Nat} {s u : State} (h : Frame m s u) (hm : m.testBit 5 = false := by decide +kernel) : u.panel = s.panel :=
  or_right h.panel hm
theorem Frame.eq_boot {m : Nat} {s u : State} (h : Frame m s u) (hm : m.testBit 6 = false := by decide +kernel) : u.boot = s.boot :=
  or_right h.boot hm
theorem Frame.eq_sec {m : Nat} {s u : State} (h : Frame m s u) (hm : m.testBit 7 = false := by decide +kernel) : u.sec = s.sec :=
  or_right h.sec hm
theorem Frame.eq_mbx {m : Nat} {s u : State} (h : Frame m s u) (hm : m.testBit 8 = false := by decide +kernel) : u.mbx = s.mbx :=
  or_right h.mbx hm
theorem Frame.eq_hist {m : Nat} {s u : State} (h : Frame m s u) (hm : m.testBit 9 = false := by decide +kernel) : u.hist = s.hist :=
  or_right h.hist hm
theorem Frame.eq_i2c {m : Nat} {s u : State} (h : Frame m s u) (hm : m.testBit 10 = false := by decide +kernel) : u.i2c = s.i2c :=
  or_right h.i2c hm
theorem Frame.eq_safe {m : Nat} {s u : State} (h : Frame m s u) (hm : m.testBit 11 = false := by decide +kernel) : u.safe = s.safe :=
  or_right h.safe hm
theorem Frame.eq_strs {m : Nat} {s u : State} (h : Frame m s u) (hm : m.testBit 12 = false := by decide +kernel) : u.strs = s.strs :=
  or_right h.strs hm
theorem Frame.eq_traces {m : Nat} {s u : State} (h : Frame m s u) (hm : m.testBit 13 = false := by decide +kernel) : u.traces = s.traces :=
  or_right h.traces hm
theorem Frame.eq_dies {m : Nat} {s u : State} (h : Frame m s u) (hm : m.testBit 14 = false := by decide +kernel) : u.dies = s.dies :=
  or_right h.dies hm
theorem Frame.eq_thermal {m : Nat} {s u : State} (h : Frame m s u) (hm : m.testBit 15 = false := by decide +kernel) : u.thermal = s.thermal :=
  or_right h.thermal hm
theorem Frame.eq_ledger {m : Nat} {s u : State} (h : Frame m s u) (hm : m.testBit 16 = false := by decide +kernel) : u.ledger = s.ledger :=
  or_right h.ledger hm
theorem Frame.eq_upd {m : Nat} {s u : State} (h : Frame m s u) (hm : m.testBit 17 = false := by decide +kernel) : u.upd = s.upd :=
  or_right h.upd hm
theorem Frame.eq_can {m : Nat} {s u : State} (h : Frame m s u) (hm : m.testBit 18 = false := by decide +kernel) : u.can = s.can :=
  or_right h.can hm
theorem Frame.eq_chans {m : Nat} {s u : State} (h : Frame m s u) (hm : m.testBit 19 = false := by decide +kernel) : u.chans = s.chans :=
  or_right h.chans hm
theorem Frame.eq_blk {m : Nat} {s u : State} (h : Frame m s u) (hm : m.testBit 20 = false := by decide +kernel) : u.blk = s.blk :=
  or_right h.blk hm
theorem Frame.eq_coll {m : Nat} {s u : State} (h : Frame m s u) (hm : m.testBit 21 = false := by decide +kernel) : u.coll = s.coll :=
  or_right h.coll hm
theorem Frame.eq_time {m : Nat} {s u : State} (h : Frame m s u) (hm : m.testBit 22 = false := by decide +kernel) : u.time = s.time :=
  or_right h.time hm
theorem Frame.eq_pouts {m : Nat} {s u : State} (h : Frame m s u) (hm : m.testBit 23 = false := by decide +kernel) : u.pouts = s.pouts :=
  or_right h.pouts hm
theorem Frame.eq_caps {m : Nat} {s u : State} (h : Frame m s u) (hm : m.testBit 24 = false := by decide +kernel) : u.caps = s.caps :=
  or_right h.caps hm
theorem Frame.eq_free {m : Nat} {s u : State} (h : Frame m s u) (hm : m.testBit 25 = false := by decide +kernel) : u.free = s.free :=
  or_right h.free hm
theorem Frame.eq_out {m : Nat} {s u : State} (h : Frame m s u) (hm : m.testBit 26 = false := by decide +kernel) : u.out = s.out :=
  or_right h.out hm
theorem Frame.eq_now {m : Nat} {s u : State} (h : Frame m s u) (hm : m.testBit 0 = false := by decide +kernel) : u.now = s.now :=
  or_right h.now hm

end Sys2Proof.Machine
end

