-- ==== Sys2Proof/Laws/State.lean ====
section
/-! SUPPORT. What each basic update of the state leaves of each field, and what a register reads as after a write. The lemmas
hold by rfl; they are written as a chain so that a simplifier cites them, and the kernel need not compare two states. -/

namespace Sys2Proof.Machine

@[simp] theorem State.at_now (s : State) (t : Nat) : (s.at t).now = max s.now t := Eq.trans rfl rfl
@[simp] theorem State.at_clk (s : State) (t : Nat) : (s.at t).clk = s.clk := Eq.trans rfl rfl
@[simp] theorem State.at_objs (s : State) (t : Nat) : (s.at t).objs = s.objs := Eq.trans rfl rfl
@[simp] theorem State.at_nv (s : State) (t : Nat) : (s.at t).nv = s.nv := Eq.trans rfl rfl
@[simp] theorem State.at_power (s : State) (t : Nat) : (s.at t).power = s.power := Eq.trans rfl rfl
@[simp] theorem State.at_panel (s : State) (t : Nat) : (s.at t).panel = s.panel := Eq.trans rfl rfl
@[simp] theorem State.at_boot (s : State) (t : Nat) : (s.at t).boot = s.boot := Eq.trans rfl rfl
@[simp] theorem State.at_sec (s : State) (t : Nat) : (s.at t).sec = s.sec := Eq.trans rfl rfl
@[simp] theorem State.at_mbx (s : State) (t : Nat) : (s.at t).mbx = s.mbx := Eq.trans rfl rfl
@[simp] theorem State.at_hist (s : State) (t : Nat) : (s.at t).hist = s.hist := Eq.trans rfl rfl
@[simp] theorem State.at_i2c (s : State) (t : Nat) : (s.at t).i2c = s.i2c := Eq.trans rfl rfl
@[simp] theorem State.at_safe (s : State) (t : Nat) : (s.at t).safe = s.safe := Eq.trans rfl rfl
@[simp] theorem State.at_strs (s : State) (t : Nat) : (s.at t).strs = s.strs := Eq.trans rfl rfl
@[simp] theorem State.at_traces (s : State) (t : Nat) : (s.at t).traces = s.traces := Eq.trans rfl rfl
@[simp] theorem State.at_dies (s : State) (t : Nat) : (s.at t).dies = s.dies := Eq.trans rfl rfl
@[simp] theorem State.at_thermal (s : State) (t : Nat) : (s.at t).thermal = s.thermal := Eq.trans rfl rfl
@[simp] theorem State.at_ledger (s : State) (t : Nat) : (s.at t).ledger = s.ledger := Eq.trans rfl rfl
@[simp] theorem State.at_upd (s : State) (t : Nat) : (s.at t).upd = s.upd := Eq.trans rfl rfl
@[simp] theorem State.at_can (s : State) (t : Nat) : (s.at t).can = s.can := Eq.trans rfl rfl
@[simp] theorem State.at_chans (s : State) (t : Nat) : (s.at t).chans = s.chans := Eq.trans rfl rfl
@[simp] theorem State.at_blk (s : State) (t : Nat) : (s.at t).blk = s.blk := Eq.trans rfl rfl
@[simp] theorem State.at_coll (s : State) (t : Nat) : (s.at t).coll = s.coll := Eq.trans rfl rfl
@[simp] theorem State.at_time (s : State) (t : Nat) : (s.at t).time = s.time := Eq.trans rfl rfl
@[simp] theorem State.at_pouts (s : State) (t : Nat) : (s.at t).pouts = s.pouts := Eq.trans rfl rfl
@[simp] theorem State.at_caps (s : State) (t : Nat) : (s.at t).caps = s.caps := Eq.trans rfl rfl
@[simp] theorem State.at_free (s : State) (t : Nat) : (s.at t).free = s.free := Eq.trans rfl rfl
@[simp] theorem State.at_out (s : State) (t : Nat) : (s.at t).out = s.out := Eq.trans rfl rfl
@[simp] theorem State.at_pending (s : State) (t : Nat) : (s.at t).pending = s.pending := Eq.trans rfl rfl

@[simp] theorem State.wr_now (s : State) (f : Fld) (i v x : Nat) : (s.wr f i v x).now = s.now := Eq.trans rfl rfl
@[simp] theorem State.wr_clk (s : State) (f : Fld) (i v x : Nat) : (s.wr f i v x).clk = s.clk := Eq.trans rfl rfl
@[simp] theorem State.wr_objs (s : State) (f : Fld) (i v x : Nat) : (s.wr f i v x).objs = s.objs.wr f i v x := Eq.trans rfl rfl
@[simp] theorem State.wr_nv (s : State) (f : Fld) (i v x : Nat) : (s.wr f i v x).nv = s.nv := Eq.trans rfl rfl
@[simp] theorem State.wr_power (s : State) (f : Fld) (i v x : Nat) : (s.wr f i v x).power = s.power := Eq.trans rfl rfl
@[simp] theorem State.wr_panel (s : State) (f : Fld) (i v x : Nat) : (s.wr f i v x).panel = s.panel := Eq.trans rfl rfl
@[simp] theorem State.wr_boot (s : State) (f : Fld) (i v x : Nat) : (s.wr f i v x).boot = s.boot := Eq.trans rfl rfl
@[simp] theorem State.wr_sec (s : State) (f : Fld) (i v x : Nat) : (s.wr f i v x).sec = s.sec := Eq.trans rfl rfl
@[simp] theorem State.wr_mbx (s : State) (f : Fld) (i v x : Nat) : (s.wr f i v x).mbx = s.mbx := Eq.trans rfl rfl
@[simp] theorem State.wr_hist (s : State) (f : Fld) (i v x : Nat) : (s.wr f i v x).hist = s.hist := Eq.trans rfl rfl
@[simp] theorem State.wr_i2c (s : State) (f : Fld) (i v x : Nat) : (s.wr f i v x).i2c = s.i2c := Eq.trans rfl rfl
@[simp] theorem State.wr_safe (s : State) (f : Fld) (i v x : Nat) : (s.wr f i v x).safe = s.safe := Eq.trans rfl rfl
@[simp] theorem State.wr_strs (s : State) (f : Fld) (i v x : Nat) : (s.wr f i v x).strs = s.strs := Eq.trans rfl rfl
@[simp] theorem State.wr_traces (s : State) (f : Fld) (i v x : Nat) : (s.wr f i v x).traces = s.traces := Eq.trans rfl rfl
@[simp] theorem State.wr_dies (s : State) (f : Fld) (i v x : Nat) : (s.wr f i v x).dies = s.dies := Eq.trans rfl rfl
@[simp] theorem State.wr_thermal (s : State) (f : Fld) (i v x : Nat) : (s.wr f i v x).thermal = s.thermal := Eq.trans rfl rfl
@[simp] theorem State.wr_ledger (s : State) (f : Fld) (i v x : Nat) : (s.wr f i v x).ledger = s.ledger := Eq.trans rfl rfl
@[simp] theorem State.wr_upd (s : State) (f : Fld) (i v x : Nat) : (s.wr f i v x).upd = s.upd := Eq.trans rfl rfl
@[simp] theorem State.wr_can (s : State) (f : Fld) (i v x : Nat) : (s.wr f i v x).can = s.can := Eq.trans rfl rfl
@[simp] theorem State.wr_chans (s : State) (f : Fld) (i v x : Nat) : (s.wr f i v x).chans = s.chans := Eq.trans rfl rfl
@[simp] theorem State.wr_blk (s : State) (f : Fld) (i v x : Nat) : (s.wr f i v x).blk = s.blk := Eq.trans rfl rfl
@[simp] theorem State.wr_coll (s : State) (f : Fld) (i v x : Nat) : (s.wr f i v x).coll = s.coll := Eq.trans rfl rfl
@[simp] theorem State.wr_time (s : State) (f : Fld) (i v x : Nat) : (s.wr f i v x).time = s.time := Eq.trans rfl rfl
@[simp] theorem State.wr_pouts (s : State) (f : Fld) (i v x : Nat) : (s.wr f i v x).pouts = s.pouts := Eq.trans rfl rfl
@[simp] theorem State.wr_caps (s : State) (f : Fld) (i v x : Nat) : (s.wr f i v x).caps = s.caps := Eq.trans rfl rfl
@[simp] theorem State.wr_free (s : State) (f : Fld) (i v x : Nat) : (s.wr f i v x).free = s.free := Eq.trans rfl rfl
@[simp] theorem State.wr_out (s : State) (f : Fld) (i v x : Nat) : (s.wr f i v x).out = s.out := Eq.trans rfl rfl
@[simp] theorem State.wr_pending (s : State) (f : Fld) (i v x : Nat) : (s.wr f i v x).pending = s.pending := Eq.trans rfl rfl

@[simp] theorem State.wrB_now (s : State) (f : Fld) (i : Nat) (b : Bool) (x : Nat) : (s.wrB f i b x).now = s.now := (State.wr_now s f i _ x).trans rfl
@[simp] theorem State.wrB_clk (s : State) (f : Fld) (i : Nat) (b : Bool) (x : Nat) : (s.wrB f i b x).clk = s.clk := (State.wr_clk s f i _ x).trans rfl
@[simp] theorem State.wrB_objs (s : State) (f : Fld) (i : Nat) (b : Bool) (x : Nat) : (s.wrB f i b x).objs = s.objs.wr f i (b2n b) x := Eq.trans rfl rfl
@[simp] theorem State.wrB_nv (s : State) (f : Fld) (i : Nat) (b : Bool) (x : Nat) : (s.wrB f i b x).nv = s.nv := (State.wr_nv s f i _ x).trans rfl
@[simp] theorem State.wrB_power (s : State) (f : Fld) (i : Nat) (b : Bool) (x : Nat) : (s.wrB f i b x).power = s.power := (State.wr_power s f i _ x).trans rfl
@[simp] theorem State.wrB_panel (s : State) (f : Fld) (i : Nat) (b : Bool) (x : Nat) : (s.wrB f i b x).panel = s.panel := (State.wr_panel s f i _ x).trans rfl
@[simp] theorem State.wrB_boot (s : State) (f : Fld) (i : Nat) (b : Bool) (x : Nat) : (s.wrB f i b x).boot = s.boot := (State.wr_boot s f i _ x).trans rfl
@[simp] theorem State.wrB_sec (s : State) (f : Fld) (i : Nat) (b : Bool) (x : Nat) : (s.wrB f i b x).sec = s.sec := (State.wr_sec s f i _ x).trans rfl
@[simp] theorem State.wrB_mbx (s : State) (f : Fld) (i : Nat) (b : Bool) (x : Nat) : (s.wrB f i b x).mbx = s.mbx := (State.wr_mbx s f i _ x).trans rfl
@[simp] theorem State.wrB_hist (s : State) (f : Fld) (i : Nat) (b : Bool) (x : Nat) : (s.wrB f i b x).hist = s.hist := (State.wr_hist s f i _ x).trans rfl
@[simp] theorem State.wrB_i2c (s : State) (f : Fld) (i : Nat) (b : Bool) (x : Nat) : (s.wrB f i b x).i2c = s.i2c := (State.wr_i2c s f i _ x).trans rfl
@[simp] theorem State.wrB_safe (s : State) (f : Fld) (i : Nat) (b : Bool) (x : Nat) : (s.wrB f i b x).safe = s.safe := (State.wr_safe s f i _ x).trans rfl
@[simp] theorem State.wrB_strs (s : State) (f : Fld) (i : Nat) (b : Bool) (x : Nat) : (s.wrB f i b x).strs = s.strs := (State.wr_strs s f i _ x).trans rfl
@[simp] theorem State.wrB_traces (s : State) (f : Fld) (i : Nat) (b : Bool) (x : Nat) : (s.wrB f i b x).traces = s.traces := (State.wr_traces s f i _ x).trans rfl
@[simp] theorem State.wrB_dies (s : State) (f : Fld) (i : Nat) (b : Bool) (x : Nat) : (s.wrB f i b x).dies = s.dies := (State.wr_dies s f i _ x).trans rfl
@[simp] theorem State.wrB_thermal (s : State) (f : Fld) (i : Nat) (b : Bool) (x : Nat) : (s.wrB f i b x).thermal = s.thermal := (State.wr_thermal s f i _ x).trans rfl
@[simp] theorem State.wrB_ledger (s : State) (f : Fld) (i : Nat) (b : Bool) (x : Nat) : (s.wrB f i b x).ledger = s.ledger := (State.wr_ledger s f i _ x).trans rfl
@[simp] theorem State.wrB_upd (s : State) (f : Fld) (i : Nat) (b : Bool) (x : Nat) : (s.wrB f i b x).upd = s.upd := (State.wr_upd s f i _ x).trans rfl
@[simp] theorem State.wrB_can (s : State) (f : Fld) (i : Nat) (b : Bool) (x : Nat) : (s.wrB f i b x).can = s.can := (State.wr_can s f i _ x).trans rfl
@[simp] theorem State.wrB_chans (s : State) (f : Fld) (i : Nat) (b : Bool) (x : Nat) : (s.wrB f i b x).chans = s.chans := (State.wr_chans s f i _ x).trans rfl
@[simp] theorem State.wrB_blk (s : State) (f : Fld) (i : Nat) (b : Bool) (x : Nat) : (s.wrB f i b x).blk = s.blk := (State.wr_blk s f i _ x).trans rfl
@[simp] theorem State.wrB_coll (s : State) (f : Fld) (i : Nat) (b : Bool) (x : Nat) : (s.wrB f i b x).coll = s.coll := (State.wr_coll s f i _ x).trans rfl
@[simp] theorem State.wrB_time (s : State) (f : Fld) (i : Nat) (b : Bool) (x : Nat) : (s.wrB f i b x).time = s.time := (State.wr_time s f i _ x).trans rfl
@[simp] theorem State.wrB_pouts (s : State) (f : Fld) (i : Nat) (b : Bool) (x : Nat) : (s.wrB f i b x).pouts = s.pouts := (State.wr_pouts s f i _ x).trans rfl
@[simp] theorem State.wrB_caps (s : State) (f : Fld) (i : Nat) (b : Bool) (x : Nat) : (s.wrB f i b x).caps = s.caps := (State.wr_caps s f i _ x).trans rfl
@[simp] theorem State.wrB_free (s : State) (f : Fld) (i : Nat) (b : Bool) (x : Nat) : (s.wrB f i b x).free = s.free := (State.wr_free s f i _ x).trans rfl
@[simp] theorem State.wrB_out (s : State) (f : Fld) (i : Nat) (b : Bool) (x : Nat) : (s.wrB f i b x).out = s.out := (State.wr_out s f i _ x).trans rfl
@[simp] theorem State.wrB_pending (s : State) (f : Fld) (i : Nat) (b : Bool) (x : Nat) : (s.wrB f i b x).pending = s.pending := (State.wr_pending s f i _ x).trans rfl

@[simp] theorem State.wrI_now (s : State) (f : Fld) (i : Nat) (v : Int) (x : Nat) : (s.wrI f i v x).now = s.now := (State.wr_now s f i _ x).trans rfl
@[simp] theorem State.wrI_clk (s : State) (f : Fld) (i : Nat) (v : Int) (x : Nat) : (s.wrI f i v x).clk = s.clk := (State.wr_clk s f i _ x).trans rfl
@[simp] theorem State.wrI_objs (s : State) (f : Fld) (i : Nat) (v : Int) (x : Nat) : (s.wrI f i v x).objs = s.objs.wr f i (satInt f.width v) x := Eq.trans rfl rfl
@[simp] theorem State.wrI_nv (s : State) (f : Fld) (i : Nat) (v : Int) (x : Nat) : (s.wrI f i v x).nv = s.nv := (State.wr_nv s f i _ x).trans rfl
@[simp] theorem State.wrI_power (s : State) (f : Fld) (i : Nat) (v : Int) (x : Nat) : (s.wrI f i v x).power = s.power := (State.wr_power s f i _ x).trans rfl
@[simp] theorem State.wrI_panel (s : State) (f : Fld) (i : Nat) (v : Int) (x : Nat) : (s.wrI f i v x).panel = s.panel := (State.wr_panel s f i _ x).trans rfl
@[simp] theorem State.wrI_boot (s : State) (f : Fld) (i : Nat) (v : Int) (x : Nat) : (s.wrI f i v x).boot = s.boot := (State.wr_boot s f i _ x).trans rfl
@[simp] theorem State.wrI_sec (s : State) (f : Fld) (i : Nat) (v : Int) (x : Nat) : (s.wrI f i v x).sec = s.sec := (State.wr_sec s f i _ x).trans rfl
@[simp] theorem State.wrI_mbx (s : State) (f : Fld) (i : Nat) (v : Int) (x : Nat) : (s.wrI f i v x).mbx = s.mbx := (State.wr_mbx s f i _ x).trans rfl
@[simp] theorem State.wrI_hist (s : State) (f : Fld) (i : Nat) (v : Int) (x : Nat) : (s.wrI f i v x).hist = s.hist := (State.wr_hist s f i _ x).trans rfl
@[simp] theorem State.wrI_i2c (s : State) (f : Fld) (i : Nat) (v : Int) (x : Nat) : (s.wrI f i v x).i2c = s.i2c := (State.wr_i2c s f i _ x).trans rfl
@[simp] theorem State.wrI_safe (s : State) (f : Fld) (i : Nat) (v : Int) (x : Nat) : (s.wrI f i v x).safe = s.safe := (State.wr_safe s f i _ x).trans rfl
@[simp] theorem State.wrI_strs (s : State) (f : Fld) (i : Nat) (v : Int) (x : Nat) : (s.wrI f i v x).strs = s.strs := (State.wr_strs s f i _ x).trans rfl
@[simp] theorem State.wrI_traces (s : State) (f : Fld) (i : Nat) (v : Int) (x : Nat) : (s.wrI f i v x).traces = s.traces := (State.wr_traces s f i _ x).trans rfl
@[simp] theorem State.wrI_dies (s : State) (f : Fld) (i : Nat) (v : Int) (x : Nat) : (s.wrI f i v x).dies = s.dies := (State.wr_dies s f i _ x).trans rfl
@[simp] theorem State.wrI_thermal (s : State) (f : Fld) (i : Nat) (v : Int) (x : Nat) : (s.wrI f i v x).thermal = s.thermal := (State.wr_thermal s f i _ x).trans rfl
@[simp] theorem State.wrI_ledger (s : State) (f : Fld) (i : Nat) (v : Int) (x : Nat) : (s.wrI f i v x).ledger = s.ledger := (State.wr_ledger s f i _ x).trans rfl
@[simp] theorem State.wrI_upd (s : State) (f : Fld) (i : Nat) (v : Int) (x : Nat) : (s.wrI f i v x).upd = s.upd := (State.wr_upd s f i _ x).trans rfl
@[simp] theorem State.wrI_can (s : State) (f : Fld) (i : Nat) (v : Int) (x : Nat) : (s.wrI f i v x).can = s.can := (State.wr_can s f i _ x).trans rfl
@[simp] theorem State.wrI_chans (s : State) (f : Fld) (i : Nat) (v : Int) (x : Nat) : (s.wrI f i v x).chans = s.chans := (State.wr_chans s f i _ x).trans rfl
@[simp] theorem State.wrI_blk (s : State) (f : Fld) (i : Nat) (v : Int) (x : Nat) : (s.wrI f i v x).blk = s.blk := (State.wr_blk s f i _ x).trans rfl
@[simp] theorem State.wrI_coll (s : State) (f : Fld) (i : Nat) (v : Int) (x : Nat) : (s.wrI f i v x).coll = s.coll := (State.wr_coll s f i _ x).trans rfl
@[simp] theorem State.wrI_time (s : State) (f : Fld) (i : Nat) (v : Int) (x : Nat) : (s.wrI f i v x).time = s.time := (State.wr_time s f i _ x).trans rfl
@[simp] theorem State.wrI_pouts (s : State) (f : Fld) (i : Nat) (v : Int) (x : Nat) : (s.wrI f i v x).pouts = s.pouts := (State.wr_pouts s f i _ x).trans rfl
@[simp] theorem State.wrI_caps (s : State) (f : Fld) (i : Nat) (v : Int) (x : Nat) : (s.wrI f i v x).caps = s.caps := (State.wr_caps s f i _ x).trans rfl
@[simp] theorem State.wrI_free (s : State) (f : Fld) (i : Nat) (v : Int) (x : Nat) : (s.wrI f i v x).free = s.free := (State.wr_free s f i _ x).trans rfl
@[simp] theorem State.wrI_out (s : State) (f : Fld) (i : Nat) (v : Int) (x : Nat) : (s.wrI f i v x).out = s.out := (State.wr_out s f i _ x).trans rfl
@[simp] theorem State.wrI_pending (s : State) (f : Fld) (i : Nat) (v : Int) (x : Nat) : (s.wrI f i v x).pending = s.pending := (State.wr_pending s f i _ x).trans rfl

@[simp] theorem State.bump_now (s : State) (f : Fld) (i d x : Nat) : (s.bump f i d x).now = s.now := (State.wr_now s f i _ x).trans rfl
@[simp] theorem State.bump_clk (s : State) (f : Fld) (i d x : Nat) : (s.bump f i d x).clk = s.clk := (State.wr_clk s f i _ x).trans rfl
@[simp] theorem State.bump_objs (s : State) (f : Fld) (i d x : Nat) : (s.bump f i d x).objs = s.objs.wr f i (satAdd f.width (s.rd f i x) d) x := Eq.trans rfl rfl
@[simp] theorem State.bump_nv (s : State) (f : Fld) (i d x : Nat) : (s.bump f i d x).nv = s.nv := (State.wr_nv s f i _ x).trans rfl
@[simp] theorem State.bump_power (s : State) (f : Fld) (i d x : Nat) : (s.bump f i d x).power = s.power := (State.wr_power s f i _ x).trans rfl
@[simp] theorem State.bump_panel (s : State) (f : Fld) (i d x : Nat) : (s.bump f i d x).panel = s.panel := (State.wr_panel s f i _ x).trans rfl
@[simp] theorem State.bump_boot (s : State) (f : Fld) (i d x : Nat) : (s.bump f i d x).boot = s.boot := (State.wr_boot s f i _ x).trans rfl
@[simp] theorem State.bump_sec (s : State) (f : Fld) (i d x : Nat) : (s.bump f i d x).sec = s.sec := (State.wr_sec s f i _ x).trans rfl
@[simp] theorem State.bump_mbx (s : State) (f : Fld) (i d x : Nat) : (s.bump f i d x).mbx = s.mbx := (State.wr_mbx s f i _ x).trans rfl
@[simp] theorem State.bump_hist (s : State) (f : Fld) (i d x : Nat) : (s.bump f i d x).hist = s.hist := (State.wr_hist s f i _ x).trans rfl
@[simp] theorem State.bump_i2c (s : State) (f : Fld) (i d x : Nat) : (s.bump f i d x).i2c = s.i2c := (State.wr_i2c s f i _ x).trans rfl
@[simp] theorem State.bump_safe (s : State) (f : Fld) (i d x : Nat) : (s.bump f i d x).safe = s.safe := (State.wr_safe s f i _ x).trans rfl
@[simp] theorem State.bump_strs (s : State) (f : Fld) (i d x : Nat) : (s.bump f i d x).strs = s.strs := (State.wr_strs s f i _ x).trans rfl
@[simp] theorem State.bump_traces (s : State) (f : Fld) (i d x : Nat) : (s.bump f i d x).traces = s.traces := (State.wr_traces s f i _ x).trans rfl
@[simp] theorem State.bump_dies (s : State) (f : Fld) (i d x : Nat) : (s.bump f i d x).dies = s.dies := (State.wr_dies s f i _ x).trans rfl
@[simp] theorem State.bump_thermal (s : State) (f : Fld) (i d x : Nat) : (s.bump f i d x).thermal = s.thermal := (State.wr_thermal s f i _ x).trans rfl
@[simp] theorem State.bump_ledger (s : State) (f : Fld) (i d x : Nat) : (s.bump f i d x).ledger = s.ledger := (State.wr_ledger s f i _ x).trans rfl
@[simp] theorem State.bump_upd (s : State) (f : Fld) (i d x : Nat) : (s.bump f i d x).upd = s.upd := (State.wr_upd s f i _ x).trans rfl
@[simp] theorem State.bump_can (s : State) (f : Fld) (i d x : Nat) : (s.bump f i d x).can = s.can := (State.wr_can s f i _ x).trans rfl
@[simp] theorem State.bump_chans (s : State) (f : Fld) (i d x : Nat) : (s.bump f i d x).chans = s.chans := (State.wr_chans s f i _ x).trans rfl
@[simp] theorem State.bump_blk (s : State) (f : Fld) (i d x : Nat) : (s.bump f i d x).blk = s.blk := (State.wr_blk s f i _ x).trans rfl
@[simp] theorem State.bump_coll (s : State) (f : Fld) (i d x : Nat) : (s.bump f i d x).coll = s.coll := (State.wr_coll s f i _ x).trans rfl
@[simp] theorem State.bump_time (s : State) (f : Fld) (i d x : Nat) : (s.bump f i d x).time = s.time := (State.wr_time s f i _ x).trans rfl
@[simp] theorem State.bump_pouts (s : State) (f : Fld) (i d x : Nat) : (s.bump f i d x).pouts = s.pouts := (State.wr_pouts s f i _ x).trans rfl
@[simp] theorem State.bump_caps (s : State) (f : Fld) (i d x : Nat) : (s.bump f i d x).caps = s.caps := (State.wr_caps s f i _ x).trans rfl
@[simp] theorem State.bump_free (s : State) (f : Fld) (i d x : Nat) : (s.bump f i d x).free = s.free := (State.wr_free s f i _ x).trans rfl
@[simp] theorem State.bump_out (s : State) (f : Fld) (i d x : Nat) : (s.bump f i d x).out = s.out := (State.wr_out s f i _ x).trans rfl
@[simp] theorem State.bump_pending (s : State) (f : Fld) (i d x : Nat) : (s.bump f i d x).pending = s.pending := (State.wr_pending s f i _ x).trans rfl

@[simp] theorem State.stamp_now (s : State) (f : Fld) (i : Nat) : (s.stamp f i).now = s.now := (State.wr_now s f i _ 0).trans rfl
@[simp] theorem State.stamp_clk (s : State) (f : Fld) (i : Nat) : (s.stamp f i).clk = s.clk := (State.wr_clk s f i _ 0).trans rfl
@[simp] theorem State.stamp_objs (s : State) (f : Fld) (i : Nat) : (s.stamp f i).objs = s.objs.wr f i (timeVal s.base) 0 := Eq.trans rfl rfl
@[simp] theorem State.stamp_nv (s : State) (f : Fld) (i : Nat) : (s.stamp f i).nv = s.nv := (State.wr_nv s f i _ 0).trans rfl
@[simp] theorem State.stamp_power (s : State) (f : Fld) (i : Nat) : (s.stamp f i).power = s.power := (State.wr_power s f i _ 0).trans rfl
@[simp] theorem State.stamp_panel (s : State) (f : Fld) (i : Nat) : (s.stamp f i).panel = s.panel := (State.wr_panel s f i _ 0).trans rfl
@[simp] theorem State.stamp_boot (s : State) (f : Fld) (i : Nat) : (s.stamp f i).boot = s.boot := (State.wr_boot s f i _ 0).trans rfl
@[simp] theorem State.stamp_sec (s : State) (f : Fld) (i : Nat) : (s.stamp f i).sec = s.sec := (State.wr_sec s f i _ 0).trans rfl
@[simp] theorem State.stamp_mbx (s : State) (f : Fld) (i : Nat) : (s.stamp f i).mbx = s.mbx := (State.wr_mbx s f i _ 0).trans rfl
@[simp] theorem State.stamp_hist (s : State) (f : Fld) (i : Nat) : (s.stamp f i).hist = s.hist := (State.wr_hist s f i _ 0).trans rfl
@[simp] theorem State.stamp_i2c (s : State) (f : Fld) (i : Nat) : (s.stamp f i).i2c = s.i2c := (State.wr_i2c s f i _ 0).trans rfl
@[simp] theorem State.stamp_safe (s : State) (f : Fld) (i : Nat) : (s.stamp f i).safe = s.safe := (State.wr_safe s f i _ 0).trans rfl
@[simp] theorem State.stamp_strs (s : State) (f : Fld) (i : Nat) : (s.stamp f i).strs = s.strs := (State.wr_strs s f i _ 0).trans rfl
@[simp] theorem State.stamp_traces (s : State) (f : Fld) (i : Nat) : (s.stamp f i).traces = s.traces := (State.wr_traces s f i _ 0).trans rfl
@[simp] theorem State.stamp_dies (s : State) (f : Fld) (i : Nat) : (s.stamp f i).dies = s.dies := (State.wr_dies s f i _ 0).trans rfl
@[simp] theorem State.stamp_thermal (s : State) (f : Fld) (i : Nat) : (s.stamp f i).thermal = s.thermal := (State.wr_thermal s f i _ 0).trans rfl
@[simp] theorem State.stamp_ledger (s : State) (f : Fld) (i : Nat) : (s.stamp f i).ledger = s.ledger := (State.wr_ledger s f i _ 0).trans rfl
@[simp] theorem State.stamp_upd (s : State) (f : Fld) (i : Nat) : (s.stamp f i).upd = s.upd := (State.wr_upd s f i _ 0).trans rfl
@[simp] theorem State.stamp_can (s : State) (f : Fld) (i : Nat) : (s.stamp f i).can = s.can := (State.wr_can s f i _ 0).trans rfl
@[simp] theorem State.stamp_chans (s : State) (f : Fld) (i : Nat) : (s.stamp f i).chans = s.chans := (State.wr_chans s f i _ 0).trans rfl
@[simp] theorem State.stamp_blk (s : State) (f : Fld) (i : Nat) : (s.stamp f i).blk = s.blk := (State.wr_blk s f i _ 0).trans rfl
@[simp] theorem State.stamp_coll (s : State) (f : Fld) (i : Nat) : (s.stamp f i).coll = s.coll := (State.wr_coll s f i _ 0).trans rfl
@[simp] theorem State.stamp_time (s : State) (f : Fld) (i : Nat) : (s.stamp f i).time = s.time := (State.wr_time s f i _ 0).trans rfl
@[simp] theorem State.stamp_pouts (s : State) (f : Fld) (i : Nat) : (s.stamp f i).pouts = s.pouts := (State.wr_pouts s f i _ 0).trans rfl
@[simp] theorem State.stamp_caps (s : State) (f : Fld) (i : Nat) : (s.stamp f i).caps = s.caps := (State.wr_caps s f i _ 0).trans rfl
@[simp] theorem State.stamp_free (s : State) (f : Fld) (i : Nat) : (s.stamp f i).free = s.free := (State.wr_free s f i _ 0).trans rfl
@[simp] theorem State.stamp_out (s : State) (f : Fld) (i : Nat) : (s.stamp f i).out = s.out := (State.wr_out s f i _ 0).trans rfl
@[simp] theorem State.stamp_pending (s : State) (f : Fld) (i : Nat) : (s.stamp f i).pending = s.pending := (State.wr_pending s f i _ 0).trans rfl

@[simp] theorem State.fresh_now (s : State) (w : Nat) : ((s.fresh w).2).now = s.now := Eq.trans rfl rfl
@[simp] theorem State.fresh_clk (s : State) (w : Nat) : ((s.fresh w).2).clk = s.clk := Eq.trans rfl rfl
@[simp] theorem State.fresh_objs (s : State) (w : Nat) : ((s.fresh w).2).objs = s.objs := Eq.trans rfl rfl
@[simp] theorem State.fresh_nv (s : State) (w : Nat) : ((s.fresh w).2).nv = s.nv := Eq.trans rfl rfl
@[simp] theorem State.fresh_power (s : State) (w : Nat) : ((s.fresh w).2).power = s.power := Eq.trans rfl rfl
@[simp] theorem State.fresh_panel (s : State) (w : Nat) : ((s.fresh w).2).panel = s.panel := Eq.trans rfl rfl
@[simp] theorem State.fresh_boot (s : State) (w : Nat) : ((s.fresh w).2).boot = s.boot := Eq.trans rfl rfl
@[simp] theorem State.fresh_sec (s : State) (w : Nat) : ((s.fresh w).2).sec = s.sec := Eq.trans rfl rfl
@[simp] theorem State.fresh_mbx (s : State) (w : Nat) : ((s.fresh w).2).mbx = s.mbx := Eq.trans rfl rfl
@[simp] theorem State.fresh_hist (s : State) (w : Nat) : ((s.fresh w).2).hist = s.hist := Eq.trans rfl rfl
@[simp] theorem State.fresh_i2c (s : State) (w : Nat) : ((s.fresh w).2).i2c = s.i2c := Eq.trans rfl rfl
@[simp] theorem State.fresh_safe (s : State) (w : Nat) : ((s.fresh w).2).safe = s.safe := Eq.trans rfl rfl
@[simp] theorem State.fresh_strs (s : State) (w : Nat) : ((s.fresh w).2).strs = s.strs := Eq.trans rfl rfl
@[simp] theorem State.fresh_traces (s : State) (w : Nat) : ((s.fresh w).2).traces = s.traces := Eq.trans rfl rfl
@[simp] theorem State.fresh_dies (s : State) (w : Nat) : ((s.fresh w).2).dies = s.dies := Eq.trans rfl rfl
@[simp] theorem State.fresh_thermal (s : State) (w : Nat) : ((s.fresh w).2).thermal = s.thermal := Eq.trans rfl rfl
@[simp] theorem State.fresh_ledger (s : State) (w : Nat) : ((s.fresh w).2).ledger = s.ledger := Eq.trans rfl rfl
@[simp] theorem State.fresh_upd (s : State) (w : Nat) : ((s.fresh w).2).upd = s.upd := Eq.trans rfl rfl
@[simp] theorem State.fresh_can (s : State) (w : Nat) : ((s.fresh w).2).can = s.can := Eq.trans rfl rfl
@[simp] theorem State.fresh_chans (s : State) (w : Nat) : ((s.fresh w).2).chans = s.chans := Eq.trans rfl rfl
@[simp] theorem State.fresh_blk (s : State) (w : Nat) : ((s.fresh w).2).blk = s.blk := Eq.trans rfl rfl
@[simp] theorem State.fresh_coll (s : State) (w : Nat) : ((s.fresh w).2).coll = s.coll := Eq.trans rfl rfl
@[simp] theorem State.fresh_time (s : State) (w : Nat) : ((s.fresh w).2).time = s.time := Eq.trans rfl rfl
@[simp] theorem State.fresh_pouts (s : State) (w : Nat) : ((s.fresh w).2).pouts = s.pouts := Eq.trans rfl rfl
@[simp] theorem State.fresh_caps (s : State) (w : Nat) : ((s.fresh w).2).caps = s.caps := Eq.trans rfl rfl
@[simp] theorem State.fresh_free (s : State) (w : Nat) : ((s.fresh w).2).free = s.free + 1 := Eq.trans rfl rfl
@[simp] theorem State.fresh_out (s : State) (w : Nat) : ((s.fresh w).2).out = s.out := Eq.trans rfl rfl
@[simp] theorem State.fresh_pending (s : State) (w : Nat) : ((s.fresh w).2).pending = s.pending := Eq.trans rfl rfl

@[simp] theorem State.send_now (s : State) (o : Out) : (s.send o).now = s.now := Eq.trans rfl rfl
@[simp] theorem State.send_clk (s : State) (o : Out) : (s.send o).clk = s.clk := Eq.trans rfl rfl
@[simp] theorem State.send_objs (s : State) (o : Out) : (s.send o).objs = s.objs := Eq.trans rfl rfl
@[simp] theorem State.send_nv (s : State) (o : Out) : (s.send o).nv = s.nv := Eq.trans rfl rfl
@[simp] theorem State.send_power (s : State) (o : Out) : (s.send o).power = s.power := Eq.trans rfl rfl
@[simp] theorem State.send_panel (s : State) (o : Out) : (s.send o).panel = s.panel := Eq.trans rfl rfl
@[simp] theorem State.send_boot (s : State) (o : Out) : (s.send o).boot = s.boot := Eq.trans rfl rfl
@[simp] theorem State.send_sec (s : State) (o : Out) : (s.send o).sec = s.sec := Eq.trans rfl rfl
@[simp] theorem State.send_mbx (s : State) (o : Out) : (s.send o).mbx = s.mbx := Eq.trans rfl rfl
@[simp] theorem State.send_hist (s : State) (o : Out) : (s.send o).hist = s.hist := Eq.trans rfl rfl
@[simp] theorem State.send_i2c (s : State) (o : Out) : (s.send o).i2c = s.i2c := Eq.trans rfl rfl
@[simp] theorem State.send_safe (s : State) (o : Out) : (s.send o).safe = s.safe := Eq.trans rfl rfl
@[simp] theorem State.send_strs (s : State) (o : Out) : (s.send o).strs = s.strs := Eq.trans rfl rfl
@[simp] theorem State.send_traces (s : State) (o : Out) : (s.send o).traces = s.traces := Eq.trans rfl rfl
@[simp] theorem State.send_dies (s : State) (o : Out) : (s.send o).dies = s.dies := Eq.trans rfl rfl
@[simp] theorem State.send_thermal (s : State) (o : Out) : (s.send o).thermal = s.thermal := Eq.trans rfl rfl
@[simp] theorem State.send_ledger (s : State) (o : Out) : (s.send o).ledger = s.ledger := Eq.trans rfl rfl
@[simp] theorem State.send_upd (s : State) (o : Out) : (s.send o).upd = s.upd := Eq.trans rfl rfl
@[simp] theorem State.send_can (s : State) (o : Out) : (s.send o).can = s.can := Eq.trans rfl rfl
@[simp] theorem State.send_chans (s : State) (o : Out) : (s.send o).chans = s.chans := Eq.trans rfl rfl
@[simp] theorem State.send_blk (s : State) (o : Out) : (s.send o).blk = s.blk := Eq.trans rfl rfl
@[simp] theorem State.send_coll (s : State) (o : Out) : (s.send o).coll = s.coll := Eq.trans rfl rfl
@[simp] theorem State.send_time (s : State) (o : Out) : (s.send o).time = s.time := Eq.trans rfl rfl
@[simp] theorem State.send_pouts (s : State) (o : Out) : (s.send o).pouts = s.pouts := Eq.trans rfl rfl
@[simp] theorem State.send_caps (s : State) (o : Out) : (s.send o).caps = s.caps := Eq.trans rfl rfl
@[simp] theorem State.send_free (s : State) (o : Out) : (s.send o).free = s.free := Eq.trans rfl rfl
@[simp] theorem State.send_out (s : State) (o : Out) : (s.send o).out = o :: s.out := Eq.trans rfl rfl
@[simp] theorem State.send_pending (s : State) (o : Out) : (s.send o).pending = s.pending := Eq.trans rfl rfl

@[simp] theorem State.modStr_now (s : State) (n : Nat) (g : Str → Str) : (s.modStr n g).now = s.now := Eq.trans rfl rfl
@[simp] theorem State.modStr_clk (s : State) (n : Nat) (g : Str → Str) : (s.modStr n g).clk = s.clk := Eq.trans rfl rfl
@[simp] theorem State.modStr_objs (s : State) (n : Nat) (g : Str → Str) : (s.modStr n g).objs = s.objs := Eq.trans rfl rfl
@[simp] theorem State.modStr_nv (s : State) (n : Nat) (g : Str → Str) : (s.modStr n g).nv = s.nv := Eq.trans rfl rfl
@[simp] theorem State.modStr_power (s : State) (n : Nat) (g : Str → Str) : (s.modStr n g).power = s.power := Eq.trans rfl rfl
@[simp] theorem State.modStr_panel (s : State) (n : Nat) (g : Str → Str) : (s.modStr n g).panel = s.panel := Eq.trans rfl rfl
@[simp] theorem State.modStr_boot (s : State) (n : Nat) (g : Str → Str) : (s.modStr n g).boot = s.boot := Eq.trans rfl rfl
@[simp] theorem State.modStr_sec (s : State) (n : Nat) (g : Str → Str) : (s.modStr n g).sec = s.sec := Eq.trans rfl rfl
@[simp] theorem State.modStr_mbx (s : State) (n : Nat) (g : Str → Str) : (s.modStr n g).mbx = s.mbx := Eq.trans rfl rfl
@[simp] theorem State.modStr_hist (s : State) (n : Nat) (g : Str → Str) : (s.modStr n g).hist = s.hist := Eq.trans rfl rfl
@[simp] theorem State.modStr_i2c (s : State) (n : Nat) (g : Str → Str) : (s.modStr n g).i2c = s.i2c := Eq.trans rfl rfl
@[simp] theorem State.modStr_safe (s : State) (n : Nat) (g : Str → Str) : (s.modStr n g).safe = s.safe := Eq.trans rfl rfl
@[simp] theorem State.modStr_strs (s : State) (n : Nat) (g : Str → Str) : (s.modStr n g).strs = setNth (g (s.str n)) s.strs n := Eq.trans rfl rfl
@[simp] theorem State.modStr_traces (s : State) (n : Nat) (g : Str → Str) : (s.modStr n g).traces = s.traces := Eq.trans rfl rfl
@[simp] theorem State.modStr_dies (s : State) (n : Nat) (g : Str → Str) : (s.modStr n g).dies = s.dies := Eq.trans rfl rfl
@[simp] theorem State.modStr_thermal (s : State) (n : Nat) (g : Str → Str) : (s.modStr n g).thermal = s.thermal := Eq.trans rfl rfl
@[simp] theorem State.modStr_ledger (s : State) (n : Nat) (g : Str → Str) : (s.modStr n g).ledger = s.ledger := Eq.trans rfl rfl
@[simp] theorem State.modStr_upd (s : State) (n : Nat) (g : Str → Str) : (s.modStr n g).upd = s.upd := Eq.trans rfl rfl
@[simp] theorem State.modStr_can (s : State) (n : Nat) (g : Str → Str) : (s.modStr n g).can = s.can := Eq.trans rfl rfl
@[simp] theorem State.modStr_chans (s : State) (n : Nat) (g : Str → Str) : (s.modStr n g).chans = s.chans := Eq.trans rfl rfl
@[simp] theorem State.modStr_blk (s : State) (n : Nat) (g : Str → Str) : (s.modStr n g).blk = s.blk := Eq.trans rfl rfl
@[simp] theorem State.modStr_coll (s : State) (n : Nat) (g : Str → Str) : (s.modStr n g).coll = s.coll := Eq.trans rfl rfl
@[simp] theorem State.modStr_time (s : State) (n : Nat) (g : Str → Str) : (s.modStr n g).time = s.time := Eq.trans rfl rfl
@[simp] theorem State.modStr_pouts (s : State) (n : Nat) (g : Str → Str) : (s.modStr n g).pouts = s.pouts := Eq.trans rfl rfl
@[simp] theorem State.modStr_caps (s : State) (n : Nat) (g : Str → Str) : (s.modStr n g).caps = s.caps := Eq.trans rfl rfl
@[simp] theorem State.modStr_free (s : State) (n : Nat) (g : Str → Str) : (s.modStr n g).free = s.free := Eq.trans rfl rfl
@[simp] theorem State.modStr_out (s : State) (n : Nat) (g : Str → Str) : (s.modStr n g).out = s.out := Eq.trans rfl rfl
@[simp] theorem State.modStr_pending (s : State) (n : Nat) (g : Str → Str) : (s.modStr n g).pending = s.pending := Eq.trans rfl rfl

@[simp] theorem State.modProt_now (s : State) (n : Nat) (g : Prot → Prot) : (s.modProt n g).now = s.now := Eq.trans rfl rfl
@[simp] theorem State.modProt_clk (s : State) (n : Nat) (g : Prot → Prot) : (s.modProt n g).clk = s.clk := Eq.trans rfl rfl
@[simp] theorem State.modProt_objs (s : State) (n : Nat) (g : Prot → Prot) : (s.modProt n g).objs = s.objs := Eq.trans rfl rfl
@[simp] theorem State.modProt_nv (s : State) (n : Nat) (g : Prot → Prot) : (s.modProt n g).nv = s.nv := Eq.trans rfl rfl
@[simp] theorem State.modProt_power (s : State) (n : Nat) (g : Prot → Prot) : (s.modProt n g).power = s.power := Eq.trans rfl rfl
@[simp] theorem State.modProt_panel (s : State) (n : Nat) (g : Prot → Prot) : (s.modProt n g).panel = s.panel := Eq.trans rfl rfl
@[simp] theorem State.modProt_boot (s : State) (n : Nat) (g : Prot → Prot) : (s.modProt n g).boot = s.boot := Eq.trans rfl rfl
@[simp] theorem State.modProt_sec (s : State) (n : Nat) (g : Prot → Prot) : (s.modProt n g).sec = s.sec := Eq.trans rfl rfl
@[simp] theorem State.modProt_mbx (s : State) (n : Nat) (g : Prot → Prot) : (s.modProt n g).mbx = s.mbx := Eq.trans rfl rfl
@[simp] theorem State.modProt_hist (s : State) (n : Nat) (g : Prot → Prot) : (s.modProt n g).hist = s.hist := Eq.trans rfl rfl
@[simp] theorem State.modProt_i2c (s : State) (n : Nat) (g : Prot → Prot) : (s.modProt n g).i2c = s.i2c := Eq.trans rfl rfl
@[simp] theorem State.modProt_safe (s : State) (n : Nat) (g : Prot → Prot) : (s.modProt n g).safe = s.safe := Eq.trans rfl rfl
@[simp] theorem State.modProt_strs (s : State) (n : Nat) (g : Prot → Prot) : (s.modProt n g).strs = setNth ({ s.str n with prot := g (s.str n).prot } : Str) s.strs n := Eq.trans rfl rfl
@[simp] theorem State.modProt_traces (s : State) (n : Nat) (g : Prot → Prot) : (s.modProt n g).traces = s.traces := Eq.trans rfl rfl
@[simp] theorem State.modProt_dies (s : State) (n : Nat) (g : Prot → Prot) : (s.modProt n g).dies = s.dies := Eq.trans rfl rfl
@[simp] theorem State.modProt_thermal (s : State) (n : Nat) (g : Prot → Prot) : (s.modProt n g).thermal = s.thermal := Eq.trans rfl rfl
@[simp] theorem State.modProt_ledger (s : State) (n : Nat) (g : Prot → Prot) : (s.modProt n g).ledger = s.ledger := Eq.trans rfl rfl
@[simp] theorem State.modProt_upd (s : State) (n : Nat) (g : Prot → Prot) : (s.modProt n g).upd = s.upd := Eq.trans rfl rfl
@[simp] theorem State.modProt_can (s : State) (n : Nat) (g : Prot → Prot) : (s.modProt n g).can = s.can := Eq.trans rfl rfl
@[simp] theorem State.modProt_chans (s : State) (n : Nat) (g : Prot → Prot) : (s.modProt n g).chans = s.chans := Eq.trans rfl rfl
@[simp] theorem State.modProt_blk (s : State) (n : Nat) (g : Prot → Prot) : (s.modProt n g).blk = s.blk := Eq.trans rfl rfl
@[simp] theorem State.modProt_coll (s : State) (n : Nat) (g : Prot → Prot) : (s.modProt n g).coll = s.coll := Eq.trans rfl rfl
@[simp] theorem State.modProt_time (s : State) (n : Nat) (g : Prot → Prot) : (s.modProt n g).time = s.time := Eq.trans rfl rfl
@[simp] theorem State.modProt_pouts (s : State) (n : Nat) (g : Prot → Prot) : (s.modProt n g).pouts = s.pouts := Eq.trans rfl rfl
@[simp] theorem State.modProt_caps (s : State) (n : Nat) (g : Prot → Prot) : (s.modProt n g).caps = s.caps := Eq.trans rfl rfl
@[simp] theorem State.modProt_free (s : State) (n : Nat) (g : Prot → Prot) : (s.modProt n g).free = s.free := Eq.trans rfl rfl
@[simp] theorem State.modProt_out (s : State) (n : Nat) (g : Prot → Prot) : (s.modProt n g).out = s.out := Eq.trans rfl rfl
@[simp] theorem State.modProt_pending (s : State) (n : Nat) (g : Prot → Prot) : (s.modProt n g).pending = s.pending := Eq.trans rfl rfl

@[simp] theorem State.modSess_now (s : State) (n : Nat) (g : Sess → Sess) : (s.modSess n g).now = s.now := Eq.trans rfl rfl
@[simp] theorem State.modSess_clk (s : State) (n : Nat) (g : Sess → Sess) : (s.modSess n g).clk = s.clk := Eq.trans rfl rfl
@[simp] theorem State.modSess_objs (s : State) (n : Nat) (g : Sess → Sess) : (s.modSess n g).objs = s.objs := Eq.trans rfl rfl
@[simp] theorem State.modSess_nv (s : State) (n : Nat) (g : Sess → Sess) : (s.modSess n g).nv = s.nv := Eq.trans rfl rfl
@[simp] theorem State.modSess_power (s : State) (n : Nat) (g : Sess → Sess) : (s.modSess n g).power = s.power := Eq.trans rfl rfl
@[simp] theorem State.modSess_panel (s : State) (n : Nat) (g : Sess → Sess) : (s.modSess n g).panel = s.panel := Eq.trans rfl rfl
@[simp] theorem State.modSess_boot (s : State) (n : Nat) (g : Sess → Sess) : (s.modSess n g).boot = s.boot := Eq.trans rfl rfl
@[simp] theorem State.modSess_sec (s : State) (n : Nat) (g : Sess → Sess) : (s.modSess n g).sec = s.sec := Eq.trans rfl rfl
@[simp] theorem State.modSess_mbx (s : State) (n : Nat) (g : Sess → Sess) : (s.modSess n g).mbx = { s.mbx with sess := s.mbx.sess.map fun x => if x.num = n then g x else x } := Eq.trans rfl rfl
@[simp] theorem State.modSess_hist (s : State) (n : Nat) (g : Sess → Sess) : (s.modSess n g).hist = s.hist := Eq.trans rfl rfl
@[simp] theorem State.modSess_i2c (s : State) (n : Nat) (g : Sess → Sess) : (s.modSess n g).i2c = s.i2c := Eq.trans rfl rfl
@[simp] theorem State.modSess_safe (s : State) (n : Nat) (g : Sess → Sess) : (s.modSess n g).safe = s.safe := Eq.trans rfl rfl
@[simp] theorem State.modSess_strs (s : State) (n : Nat) (g : Sess → Sess) : (s.modSess n g).strs = s.strs := Eq.trans rfl rfl
@[simp] theorem State.modSess_traces (s : State) (n : Nat) (g : Sess → Sess) : (s.modSess n g).traces = s.traces := Eq.trans rfl rfl
@[simp] theorem State.modSess_dies (s : State) (n : Nat) (g : Sess → Sess) : (s.modSess n g).dies = s.dies := Eq.trans rfl rfl
@[simp] theorem State.modSess_thermal (s : State) (n : Nat) (g : Sess → Sess) : (s.modSess n g).thermal = s.thermal := Eq.trans rfl rfl
@[simp] theorem State.modSess_ledger (s : State) (n : Nat) (g : Sess → Sess) : (s.modSess n g).ledger = s.ledger := Eq.trans rfl rfl
@[simp] theorem State.modSess_upd (s : State) (n : Nat) (g : Sess → Sess) : (s.modSess n g).upd = s.upd := Eq.trans rfl rfl
@[simp] theorem State.modSess_can (s : State) (n : Nat) (g : Sess → Sess) : (s.modSess n g).can = s.can := Eq.trans rfl rfl
@[simp] theorem State.modSess_chans (s : State) (n : Nat) (g : Sess → Sess) : (s.modSess n g).chans = s.chans := Eq.trans rfl rfl
@[simp] theorem State.modSess_blk (s : State) (n : Nat) (g : Sess → Sess) : (s.modSess n g).blk = s.blk := Eq.trans rfl rfl
@[simp] theorem State.modSess_coll (s : State) (n : Nat) (g : Sess → Sess) : (s.modSess n g).coll = s.coll := Eq.trans rfl rfl
@[simp] theorem State.modSess_time (s : State) (n : Nat) (g : Sess → Sess) : (s.modSess n g).time = s.time := Eq.trans rfl rfl
@[simp] theorem State.modSess_pouts (s : State) (n : Nat) (g : Sess → Sess) : (s.modSess n g).pouts = s.pouts := Eq.trans rfl rfl
@[simp] theorem State.modSess_caps (s : State) (n : Nat) (g : Sess → Sess) : (s.modSess n g).caps = s.caps := Eq.trans rfl rfl
@[simp] theorem State.modSess_free (s : State) (n : Nat) (g : Sess → Sess) : (s.modSess n g).free = s.free := Eq.trans rfl rfl
@[simp] theorem State.modSess_out (s : State) (n : Nat) (g : Sess → Sess) : (s.modSess n g).out = s.out := Eq.trans rfl rfl
@[simp] theorem State.modSess_pending (s : State) (n : Nat) (g : Sess → Sess) : (s.modSess n g).pending = s.pending := Eq.trans rfl rfl

@[simp] theorem State.mapStreams_now (s : State) (g : Stream → Stream) : (s.mapStreams g).now = s.now := Eq.trans rfl rfl
@[simp] theorem State.mapStreams_clk (s : State) (g : Stream → Stream) : (s.mapStreams g).clk = s.clk := Eq.trans rfl rfl
@[simp] theorem State.mapStreams_objs (s : State) (g : Stream → Stream) : (s.mapStreams g).objs = s.objs := Eq.trans rfl rfl
@[simp] theorem State.mapStreams_nv (s : State) (g : Stream → Stream) : (s.mapStreams g).nv = s.nv := Eq.trans rfl rfl
@[simp] theorem State.mapStreams_power (s : State) (g : Stream → Stream) : (s.mapStreams g).power = s.power := Eq.trans rfl rfl
@[simp] theorem State.mapStreams_panel (s : State) (g : Stream → Stream) : (s.mapStreams g).panel = s.panel := Eq.trans rfl rfl
@[simp] theorem State.mapStreams_boot (s : State) (g : Stream → Stream) : (s.mapStreams g).boot = s.boot := Eq.trans rfl rfl
@[simp] theorem State.mapStreams_sec (s : State) (g : Stream → Stream) : (s.mapStreams g).sec = s.sec := Eq.trans rfl rfl
@[simp] theorem State.mapStreams_mbx (s : State) (g : Stream → Stream) : (s.mapStreams g).mbx = { s.mbx with sess := s.mbx.sess.map fun (x : Sess) => ({ x with streams := x.streams.map g } : Sess) } := Eq.trans rfl rfl
@[simp] theorem State.mapStreams_hist (s : State) (g : Stream → Stream) : (s.mapStreams g).hist = s.hist := Eq.trans rfl rfl
@[simp] theorem State.mapStreams_i2c (s : State) (g : Stream → Stream) : (s.mapStreams g).i2c = s.i2c := Eq.trans rfl rfl
@[simp] theorem State.mapStreams_safe (s : State) (g : Stream → Stream) : (s.mapStreams g).safe = s.safe := Eq.trans rfl rfl
@[simp] theorem State.mapStreams_strs (s : State) (g : Stream → Stream) : (s.mapStreams g).strs = s.strs := Eq.trans rfl rfl
@[simp] theorem State.mapStreams_traces (s : State) (g : Stream → Stream) : (s.mapStreams g).traces = s.traces := Eq.trans rfl rfl
@[simp] theorem State.mapStreams_dies (s : State) (g : Stream → Stream) : (s.mapStreams g).dies = s.dies := Eq.trans rfl rfl
@[simp] theorem State.mapStreams_thermal (s : State) (g : Stream → Stream) : (s.mapStreams g).thermal = s.thermal := Eq.trans rfl rfl
@[simp] theorem State.mapStreams_ledger (s : State) (g : Stream → Stream) : (s.mapStreams g).ledger = s.ledger := Eq.trans rfl rfl
@[simp] theorem State.mapStreams_upd (s : State) (g : Stream → Stream) : (s.mapStreams g).upd = s.upd := Eq.trans rfl rfl
@[simp] theorem State.mapStreams_can (s : State) (g : Stream → Stream) : (s.mapStreams g).can = s.can := Eq.trans rfl rfl
@[simp] theorem State.mapStreams_chans (s : State) (g : Stream → Stream) : (s.mapStreams g).chans = s.chans := Eq.trans rfl rfl
@[simp] theorem State.mapStreams_blk (s : State) (g : Stream → Stream) : (s.mapStreams g).blk = s.blk := Eq.trans rfl rfl
@[simp] theorem State.mapStreams_coll (s : State) (g : Stream → Stream) : (s.mapStreams g).coll = s.coll := Eq.trans rfl rfl
@[simp] theorem State.mapStreams_time (s : State) (g : Stream → Stream) : (s.mapStreams g).time = s.time := Eq.trans rfl rfl
@[simp] theorem State.mapStreams_pouts (s : State) (g : Stream → Stream) : (s.mapStreams g).pouts = s.pouts := Eq.trans rfl rfl
@[simp] theorem State.mapStreams_caps (s : State) (g : Stream → Stream) : (s.mapStreams g).caps = s.caps := Eq.trans rfl rfl
@[simp] theorem State.mapStreams_free (s : State) (g : Stream → Stream) : (s.mapStreams g).free = s.free := Eq.trans rfl rfl
@[simp] theorem State.mapStreams_out (s : State) (g : Stream → Stream) : (s.mapStreams g).out = s.out := Eq.trans rfl rfl
@[simp] theorem State.mapStreams_pending (s : State) (g : Stream → Stream) : (s.mapStreams g).pending = s.pending := Eq.trans rfl rfl

/-- Registers in canonical order stay so after a write. -/
@[simp] theorem State.wr_sorted {s : State} (h : s.objs.sorted = true) (f : Fld) (i v x : Nat) :
    (s.objs.wr f i v x).sorted = true := Store.wr_sorted h f i v x

/-- A register reads as what was written, cut to its width. -/
theorem State.rd_wr {s : State} (h : s.objs.sorted = true) (f : Fld) (i v x : Nat) :
    (s.wr f i v x).rd f i x = v % 2 ^ f.width := Store.rd_wr h f i v x

/-- A one-bit register reads as the truth value written. -/
theorem State.rdB_wrB {s : State} (h : s.objs.sorted = true) (f : Fld) (i : Nat) (b : Bool) (x : Nat) (hw : f.width ≠ 0) :
    (s.wrB f i b x).rdB f i x = b := by
  have h2 : 1 < 2 ^ f.width := Nat.one_lt_two_pow hw
  unfold State.wrB State.rdB
  rw [State.rd_wr h]
  cases b <;> simp [b2n, Nat.mod_eq_of_lt, h2]

/-- A write leaves every other register as it was. -/
theorem State.rd_wr_ne (s : State) (f g : Fld) (i j v x y : Nat) (e : f.key i x ≠ g.key j y) :
    (s.wr f i v x).rd g j y = s.rd g j y := by
  have h : (s.objs.wr f i v x).get? (g.key j y) = s.objs.get? (g.key j y) := by
    unfold Store.wr Store.put
    by_cases c : v % 2 ^ f.width = f.resetAt x
    · rw [if_pos c, Store.get?_del_ne _ _ _ fun c => e c.symm]
    · rw [if_neg c, Store.get?_ins, if_neg e]
  rw [State.rd, State.rd, Store.rd, Store.rd, State.wr_objs, h]

@[simp] theorem State.at_rd (s : State) (t : Nat) (f : Fld) (i x : Nat) : (s.at t).rd f i x = s.rd f i x := by rw [State.rd, State.rd, State.at_objs]
@[simp] theorem State.at_rdB (s : State) (t : Nat) (f : Fld) (i x : Nat) : (s.at t).rdB f i x = s.rdB f i x := by rw [State.rdB, State.rdB, State.at_rd]
@[simp] theorem State.at_rdI (s : State) (t : Nat) (f : Fld) (i x : Nat) : (s.at t).rdI f i x = s.rdI f i x := by rw [State.rdI, State.rdI, State.at_rd]
@[simp] theorem State.fresh_rd (s : State) (w : Nat) (f : Fld) (i x : Nat) : ((s.fresh w).2).rd f i x = s.rd f i x := by rw [State.rd, State.rd, State.fresh_objs]
@[simp] theorem State.fresh_rdB (s : State) (w : Nat) (f : Fld) (i x : Nat) : ((s.fresh w).2).rdB f i x = s.rdB f i x := by rw [State.rdB, State.rdB, State.fresh_rd]
@[simp] theorem State.fresh_rdI (s : State) (w : Nat) (f : Fld) (i x : Nat) : ((s.fresh w).2).rdI f i x = s.rdI f i x := by rw [State.rdI, State.rdI, State.fresh_rd]
@[simp] theorem State.send_rd (s : State) (o : Out) (f : Fld) (i x : Nat) : (s.send o).rd f i x = s.rd f i x := by rw [State.rd, State.rd, State.send_objs]
@[simp] theorem State.send_rdB (s : State) (o : Out) (f : Fld) (i x : Nat) : (s.send o).rdB f i x = s.rdB f i x := by rw [State.rdB, State.rdB, State.send_rd]
@[simp] theorem State.send_rdI (s : State) (o : Out) (f : Fld) (i x : Nat) : (s.send o).rdI f i x = s.rdI f i x := by rw [State.rdI, State.rdI, State.send_rd]
@[simp] theorem State.modStr_rd (s : State) (n : Nat) (g : Str → Str) (f : Fld) (i x : Nat) : (s.modStr n g).rd f i x = s.rd f i x := by rw [State.rd, State.rd, State.modStr_objs]
@[simp] theorem State.modStr_rdB (s : State) (n : Nat) (g : Str → Str) (f : Fld) (i x : Nat) : (s.modStr n g).rdB f i x = s.rdB f i x := by rw [State.rdB, State.rdB, State.modStr_rd]
@[simp] theorem State.modStr_rdI (s : State) (n : Nat) (g : Str → Str) (f : Fld) (i x : Nat) : (s.modStr n g).rdI f i x = s.rdI f i x := by rw [State.rdI, State.rdI, State.modStr_rd]
@[simp] theorem State.modProt_rd (s : State) (n : Nat) (g : Prot → Prot) (f : Fld) (i x : Nat) : (s.modProt n g).rd f i x = s.rd f i x := by rw [State.rd, State.rd, State.modProt_objs]
@[simp] theorem State.modProt_rdB (s : State) (n : Nat) (g : Prot → Prot) (f : Fld) (i x : Nat) : (s.modProt n g).rdB f i x = s.rdB f i x := by rw [State.rdB, State.rdB, State.modProt_rd]
@[simp] theorem State.modProt_rdI (s : State) (n : Nat) (g : Prot → Prot) (f : Fld) (i x : Nat) : (s.modProt n g).rdI f i x = s.rdI f i x := by rw [State.rdI, State.rdI, State.modProt_rd]
@[simp] theorem State.modSess_rd (s : State) (n : Nat) (g : Sess → Sess) (f : Fld) (i x : Nat) : (s.modSess n g).rd f i x = s.rd f i x := by rw [State.rd, State.rd, State.modSess_objs]
@[simp] theorem State.modSess_rdB (s : State) (n : Nat) (g : Sess → Sess) (f : Fld) (i x : Nat) : (s.modSess n g).rdB f i x = s.rdB f i x := by rw [State.rdB, State.rdB, State.modSess_rd]
@[simp] theorem State.modSess_rdI (s : State) (n : Nat) (g : Sess → Sess) (f : Fld) (i x : Nat) : (s.modSess n g).rdI f i x = s.rdI f i x := by rw [State.rdI, State.rdI, State.modSess_rd]
@[simp] theorem State.mapStreams_rd (s : State) (g : Stream → Stream) (f : Fld) (i x : Nat) : (s.mapStreams g).rd f i x = s.rd f i x := by rw [State.rd, State.rd, State.mapStreams_objs]
@[simp] theorem State.mapStreams_rdB (s : State) (g : Stream → Stream) (f : Fld) (i x : Nat) : (s.mapStreams g).rdB f i x = s.rdB f i x := by rw [State.rdB, State.rdB, State.mapStreams_rd]
@[simp] theorem State.mapStreams_rdI (s : State) (g : Stream → Stream) (f : Fld) (i x : Nat) : (s.mapStreams g).rdI f i x = s.rdI f i x := by rw [State.rdI, State.rdI, State.mapStreams_rd]
@[simp] theorem State.at_str (s : State) (t : Nat) (m : Nat) : (s.at t).str m = s.str m := by rw [State.str, State.str, State.at_strs]
@[simp] theorem State.at_prot (s : State) (t : Nat) (m : Nat) : (s.at t).prot m = s.prot m := by rw [State.prot, State.prot, State.at_str]
@[simp] theorem State.at_strings (s : State) (t : Nat) : (s.at t).strings = s.strings := by rw [State.strings, State.strings, State.at_nv]
@[simp] theorem State.at_hasStr (s : State) (t : Nat) (m : Nat) : (s.at t).hasStr m = s.hasStr m := by rw [State.hasStr, State.hasStr, State.at_strings]
@[simp] theorem State.at_sess? (s : State) (t : Nat) (m : Nat) : (s.at t).sess? m = s.sess? m := by rw [State.sess?, State.sess?, State.at_mbx]
@[simp] theorem State.at_conn? (s : State) (t : Nat) (m : Nat) : (s.at t).conn? m = s.conn? m := by rw [State.conn?, State.conn?, State.at_mbx]
@[simp] theorem State.wr_str (s : State) (f : Fld) (i v x : Nat) (m : Nat) : (s.wr f i v x).str m = s.str m := by rw [State.str, State.str, State.wr_strs]
@[simp] theorem State.wr_prot (s : State) (f : Fld) (i v x : Nat) (m : Nat) : (s.wr f i v x).prot m = s.prot m := by rw [State.prot, State.prot, State.wr_str]
@[simp] theorem State.wr_strings (s : State) (f : Fld) (i v x : Nat) : (s.wr f i v x).strings = s.strings := by rw [State.strings, State.strings, State.wr_nv]
@[simp] theorem State.wr_hasStr (s : State) (f : Fld) (i v x : Nat) (m : Nat) : (s.wr f i v x).hasStr m = s.hasStr m := by rw [State.hasStr, State.hasStr, State.wr_strings]
@[simp] theorem State.wr_sess? (s : State) (f : Fld) (i v x : Nat) (m : Nat) : (s.wr f i v x).sess? m = s.sess? m := by rw [State.sess?, State.sess?, State.wr_mbx]
@[simp] theorem State.wr_conn? (s : State) (f : Fld) (i v x : Nat) (m : Nat) : (s.wr f i v x).conn? m = s.conn? m := by rw [State.conn?, State.conn?, State.wr_mbx]
@[simp] theorem State.wrB_str (s : State) (f : Fld) (i : Nat) (b : Bool) (x : Nat) (m : Nat) : (s.wrB f i b x).str m = s.str m := by rw [State.str, State.str, State.wrB_strs]
@[simp] theorem State.wrB_prot (s : State) (f : Fld) (i : Nat) (b : Bool) (x : Nat) (m : Nat) : (s.wrB f i b x).prot m = s.prot m := by rw [State.prot, State.prot, State.wrB_str]
@[simp] theorem State.wrB_strings (s : State) (f : Fld) (i : Nat) (b : Bool) (x : Nat) : (s.wrB f i b x).strings = s.strings := by rw [State.strings, State.strings, State.wrB_nv]
@[simp] theorem State.wrB_hasStr (s : State) (f : Fld) (i : Nat) (b : Bool) (x : Nat) (m : Nat) : (s.wrB f i b x).hasStr m = s.hasStr m := by rw [State.hasStr, State.hasStr, State.wrB_strings]
@[simp] theorem State.wrB_sess? (s : State) (f : Fld) (i : Nat) (b : Bool) (x : Nat) (m : Nat) : (s.wrB f i b x).sess? m = s.sess? m := by rw [State.sess?, State.sess?, State.wrB_mbx]
@[simp] theorem State.wrB_conn? (s : State) (f : Fld) (i : Nat) (b : Bool) (x : Nat) (m : Nat) : (s.wrB f i b x).conn? m = s.conn? m := by rw [State.conn?, State.conn?, State.wrB_mbx]
@[simp] theorem State.wrI_str (s : State) (f : Fld) (i : Nat) (v : Int) (x : Nat) (m : Nat) : (s.wrI f i v x).str m = s.str m := by rw [State.str, State.str, State.wrI_strs]
@[simp] theorem State.wrI_prot (s : State) (f : Fld) (i : Nat) (v : Int) (x : Nat) (m : Nat) : (s.wrI f i v x).prot m = s.prot m := by rw [State.prot, State.prot, State.wrI_str]
@[simp] theorem State.wrI_strings (s : State) (f : Fld) (i : Nat) (v : Int) (x : Nat) : (s.wrI f i v x).strings = s.strings := by rw [State.strings, State.strings, State.wrI_nv]
@[simp] theorem State.wrI_hasStr (s : State) (f : Fld) (i : Nat) (v : Int) (x : Nat) (m : Nat) : (s.wrI f i v x).hasStr m = s.hasStr m := by rw [State.hasStr, State.hasStr, State.wrI_strings]
@[simp] theorem State.wrI_sess? (s : State) (f : Fld) (i : Nat) (v : Int) (x : Nat) (m : Nat) : (s.wrI f i v x).sess? m = s.sess? m := by rw [State.sess?, State.sess?, State.wrI_mbx]
@[simp] theorem State.wrI_conn? (s : State) (f : Fld) (i : Nat) (v : Int) (x : Nat) (m : Nat) : (s.wrI f i v x).conn? m = s.conn? m := by rw [State.conn?, State.conn?, State.wrI_mbx]
@[simp] theorem State.bump_str (s : State) (f : Fld) (i d x : Nat) (m : Nat) : (s.bump f i d x).str m = s.str m := by rw [State.str, State.str, State.bump_strs]
@[simp] theorem State.bump_prot (s : State) (f : Fld) (i d x : Nat) (m : Nat) : (s.bump f i d x).prot m = s.prot m := by rw [State.prot, State.prot, State.bump_str]
@[simp] theorem State.bump_strings (s : State) (f : Fld) (i d x : Nat) : (s.bump f i d x).strings = s.strings := by rw [State.strings, State.strings, State.bump_nv]
@[simp] theorem State.bump_hasStr (s : State) (f : Fld) (i d x : Nat) (m : Nat) : (s.bump f i d x).hasStr m = s.hasStr m := by rw [State.hasStr, State.hasStr, State.bump_strings]
@[simp] theorem State.bump_sess? (s : State) (f : Fld) (i d x : Nat) (m : Nat) : (s.bump f i d x).sess? m = s.sess? m := by rw [State.sess?, State.sess?, State.bump_mbx]
@[simp] theorem State.bump_conn? (s : State) (f : Fld) (i d x : Nat) (m : Nat) : (s.bump f i d x).conn? m = s.conn? m := by rw [State.conn?, State.conn?, State.bump_mbx]
@[simp] theorem State.stamp_str (s : State) (f : Fld) (i : Nat) (m : Nat) : (s.stamp f i).str m = s.str m := by rw [State.str, State.str, State.stamp_strs]
@[simp] theorem State.stamp_prot (s : State) (f : Fld) (i : Nat) (m : Nat) : (s.stamp f i).prot m = s.prot m := by rw [State.prot, State.prot, State.stamp_str]
@[simp] theorem State.stamp_strings (s : State) (f : Fld) (i : Nat) : (s.stamp f i).strings = s.strings := by rw [State.strings, State.strings, State.stamp_nv]
@[simp] theorem State.stamp_hasStr (s : State) (f : Fld) (i : Nat) (m : Nat) : (s.stamp f i).hasStr m = s.hasStr m := by rw [State.hasStr, State.hasStr, State.stamp_strings]
@[simp] theorem State.stamp_sess? (s : State) (f : Fld) (i : Nat) (m : Nat) : (s.stamp f i).sess? m = s.sess? m := by rw [State.sess?, State.sess?, State.stamp_mbx]
@[simp] theorem State.stamp_conn? (s : State) (f : Fld) (i : Nat) (m : Nat) : (s.stamp f i).conn? m = s.conn? m := by rw [State.conn?, State.conn?, State.stamp_mbx]
@[simp] theorem State.fresh_str (s : State) (w : Nat) (m : Nat) : ((s.fresh w).2).str m = s.str m := by rw [State.str, State.str, State.fresh_strs]
@[simp] theorem State.fresh_prot (s : State) (w : Nat) (m : Nat) : ((s.fresh w).2).prot m = s.prot m := by rw [State.prot, State.prot, State.fresh_str]
@[simp] theorem State.fresh_strings (s : State) (w : Nat) : ((s.fresh w).2).strings = s.strings := by rw [State.strings, State.strings, State.fresh_nv]
@[simp] theorem State.fresh_hasStr (s : State) (w : Nat) (m : Nat) : ((s.fresh w).2).hasStr m = s.hasStr m := by rw [State.hasStr, State.hasStr, State.fresh_strings]
@[simp] theorem State.fresh_sess? (s : State) (w : Nat) (m : Nat) : ((s.fresh w).2).sess? m = s.sess? m := by rw [State.sess?, State.sess?, State.fresh_mbx]
@[simp] theorem State.fresh_conn? (s : State) (w : Nat) (m : Nat) : ((s.fresh w).2).conn? m = s.conn? m := by rw [State.conn?, State.conn?, State.fresh_mbx]
@[simp] theorem State.send_str (s : State) (o : Out) (m : Nat) : (s.send o).str m = s.str m := by rw [State.str, State.str, State.send_strs]
@[simp] theorem State.send_prot (s : State) (o : Out) (m : Nat) : (s.send o).prot m = s.prot m := by rw [State.prot, State.prot, State.send_str]
@[simp] theorem State.send_strings (s : State) (o : Out) : (s.send o).strings = s.strings := by rw [State.strings, State.strings, State.send_nv]
@[simp] theorem State.send_hasStr (s : State) (o : Out) (m : Nat) : (s.send o).hasStr m = s.hasStr m := by rw [State.hasStr, State.hasStr, State.send_strings]
@[simp] theorem State.send_sess? (s : State) (o : Out) (m : Nat) : (s.send o).sess? m = s.sess? m := by rw [State.sess?, State.sess?, State.send_mbx]
@[simp] theorem State.send_conn? (s : State) (o : Out) (m : Nat) : (s.send o).conn? m = s.conn? m := by rw [State.conn?, State.conn?, State.send_mbx]
@[simp] theorem State.modStr_strings (s : State) (n : Nat) (g : Str → Str) : (s.modStr n g).strings = s.strings := by rw [State.strings, State.strings, State.modStr_nv]
@[simp] theorem State.modStr_hasStr (s : State) (n : Nat) (g : Str → Str) (m : Nat) : (s.modStr n g).hasStr m = s.hasStr m := by rw [State.hasStr, State.hasStr, State.modStr_strings]
@[simp] theorem State.modStr_sess? (s : State) (n : Nat) (g : Str → Str) (m : Nat) : (s.modStr n g).sess? m = s.sess? m := by rw [State.sess?, State.sess?, State.modStr_mbx]
@[simp] theorem State.modStr_conn? (s : State) (n : Nat) (g : Str → Str) (m : Nat) : (s.modStr n g).conn? m = s.conn? m := by rw [State.conn?, State.conn?, State.modStr_mbx]
@[simp] theorem State.modProt_strings (s : State) (n : Nat) (g : Prot → Prot) : (s.modProt n g).strings = s.strings := by rw [State.strings, State.strings, State.modProt_nv]
@[simp] theorem State.modProt_hasStr (s : State) (n : Nat) (g : Prot → Prot) (m : Nat) : (s.modProt n g).hasStr m = s.hasStr m := by rw [State.hasStr, State.hasStr, State.modProt_strings]
@[simp] theorem State.modProt_sess? (s : State) (n : Nat) (g : Prot → Prot) (m : Nat) : (s.modProt n g).sess? m = s.sess? m := by rw [State.sess?, State.sess?, State.modProt_mbx]
@[simp] theorem State.modProt_conn? (s : State) (n : Nat) (g : Prot → Prot) (m : Nat) : (s.modProt n g).conn? m = s.conn? m := by rw [State.conn?, State.conn?, State.modProt_mbx]
@[simp] theorem State.modSess_str (s : State) (n : Nat) (g : Sess → Sess) (m : Nat) : (s.modSess n g).str m = s.str m := by rw [State.str, State.str, State.modSess_strs]
@[simp] theorem State.modSess_prot (s : State) (n : Nat) (g : Sess → Sess) (m : Nat) : (s.modSess n g).prot m = s.prot m := by rw [State.prot, State.prot, State.modSess_str]
@[simp] theorem State.modSess_strings (s : State) (n : Nat) (g : Sess → Sess) : (s.modSess n g).strings = s.strings := by rw [State.strings, State.strings, State.modSess_nv]
@[simp] theorem State.modSess_hasStr (s : State) (n : Nat) (g : Sess → Sess) (m : Nat) : (s.modSess n g).hasStr m = s.hasStr m := by rw [State.hasStr, State.hasStr, State.modSess_strings]
@[simp] theorem State.modSess_conn? (s : State) (n : Nat) (g : Sess → Sess) (m : Nat) : (s.modSess n g).conn? m = s.conn? m := rfl
@[simp] theorem State.mapStreams_str (s : State) (g : Stream → Stream) (m : Nat) : (s.mapStreams g).str m = s.str m := by rw [State.str, State.str, State.mapStreams_strs]
@[simp] theorem State.mapStreams_prot (s : State) (g : Stream → Stream) (m : Nat) : (s.mapStreams g).prot m = s.prot m := by rw [State.prot, State.prot, State.mapStreams_str]
@[simp] theorem State.mapStreams_strings (s : State) (g : Stream → Stream) : (s.mapStreams g).strings = s.strings := by rw [State.strings, State.strings, State.mapStreams_nv]
@[simp] theorem State.mapStreams_hasStr (s : State) (g : Stream → Stream) (m : Nat) : (s.mapStreams g).hasStr m = s.hasStr m := by rw [State.hasStr, State.hasStr, State.mapStreams_strings]
@[simp] theorem State.mapStreams_conn? (s : State) (g : Stream → Stream) (m : Nat) : (s.mapStreams g).conn? m = s.conn? m := rfl

/-- An element in the list is what it was replaced by. -/
theorem nth_setNth {α : Type} {d a : α} {l : List α} {i : Nat} (h : i < l.length) : nth d (setNth a l i) i = a := by
  induction l generalizing i with
  | nil => exact absurd h (Nat.not_lt_zero i)
  | cons b l ih =>
    cases i with
    | zero => rfl
    | succ i => exact ih (Nat.lt_of_succ_lt_succ h)

/-- Replacing one element leaves the others. -/
theorem nth_setNth_ne {α : Type} {d a : α} {l : List α} {i j : Nat} (h : i ≠ j) : nth d (setNth a l i) j = nth d l j := by
  induction l generalizing i j with
  | nil => rfl
  | cons b l ih =>
    cases i with
    | zero =>
      cases j with
      | zero => exact absurd rfl h
      | succ j => rfl
    | succ i =>
      cases j with
      | zero => rfl
      | succ j => exact ih fun e => h (congrArg Nat.succ e)

/-- A write leaves a field with another place as it was, in every instance. -/
theorem State.rd_wr_apart (s : State) (f g : Fld) (i j v x y : Nat) (h : apart f x g y = true) :
    (s.wr f i v x).rd g j y = s.rd g j y :=
  State.rd_wr_ne s f g i j v x y fun e => by
    have e1 := congrArg Key.obj e
    have e2 := congrArg Key.pos e
    simp [apart, Fld.key] at h e1 e2
    exact h.elim (· e1) (· e2)

/-- A write to one instance leaves the others as they were. -/
theorem State.rd_wr_inst (s : State) (f g : Fld) (i j v x y : Nat) (h : i ≠ j) : (s.wr f i v x).rd g j y = s.rd g j y :=
  State.rd_wr_ne s f g i j v x y fun e => h (congrArg Key.inst e)

/-- A string that is present holds what it was changed to. -/
theorem State.modStr_str {s : State} {n : Nat} (h : n < s.strs.length) (g : Str → Str) :
    (s.modStr n g).str n = g (s.str n) := nth_setNth h

/-- A change of one string leaves the others as they were. -/
theorem State.modStr_str_ne {s : State} {n m : Nat} (h : n ≠ m) (g : Str → Str) :
    (s.modStr n g).str m = s.str m := nth_setNth_ne h

end Sys2Proof.Machine
end

