-- ==== Sys2Proof/Laws/Served.lean ====
section
/-! SUPPORT. What the mailbox does with a request it passes to its command, said once for all requests. -/

namespace Sys2Proof.Machine

/-- A served request runs its command's body on the admitted state, and its answer leaves. -/
theorem State.serve_served {t : Nat} {r : Req} {cls : Nat} {s : State} {x : Sess} (h : Served r cls s x) (cmd : Nat)
    (body : Rid → Sess → State → State × Reply) :
    s.serve t r cmd true cls body =
      match body ⟨r.conn, x.num, cmd, r.seq, x.next⟩ x (s.admitted t r cmd x) with
      | (v, .now st p) => v.answer ⟨r.conn, x.num, cmd, r.seq, x.next⟩ st p
      | (v, .later) => v := by
  obtain ⟨c, hc, hu⟩ := h.conn
  have h1 : (s.at t).mailboxUp = true := h.up
  have h2 : (s.at t).conn? r.conn = some c := hc
  have h3 : (s.at t).mbx.sess.find? (·.conn == r.conn) = some x := h.sess
  unfold State.serve
  dsimp only
  rw [h1, h2]
  dsimp only
  rw [hu, h3]
  dsimp only
  simp only [Bool.not_true, if_neg (not_not_intro h.ver), if_neg (not_not_intro h.num), h.idle, List.length_nil,
    State.writing, List.any_nil, show decide (8 ≤ 0) = false from rfl, Bool.or_false, if_neg (not_lt.2 h.cls), Bool.false_eq_true, if_false]
  rfl

/-- The session of a connection is the one with its number. -/
theorem find_num {l : List Sess} {x : Sess} (h : numsOk l = true) (hx : x ∈ l) : l.find? (·.num == x.num) = some x := by
  have hn : (l.map Sess.num).Nodup := by
    simp only [numsOk, Bool.and_eq_true, decide_eq_true_eq] at h
    exact h.2
  clear h
  induction l with
  | nil => cases hx
  | cons a l ih =>
    rw [List.map_cons, List.nodup_cons] at hn
    rcases List.mem_cons.1 hx with rfl | hx
    · simp
    · rw [List.find?_cons_of_neg (by
        intro e
        have e := beq_iff_eq.1 e
        exact hn.1 (e ▸ List.mem_map_of_mem hx))]
      exact ih hx hn.2

/-- The session with a number, after a change of it that keeps the number. -/
theorem find_map_num {l : List Sess} {x : Sess} {n : Nat} {f : Sess → Sess} (h : l.find? (·.num == n) = some x)
    (hf : ∀ y, (f y).num = y.num) :
    (l.map fun y => if y.num = n then f y else y).find? (·.num == n) = some (f x) := by
  induction l with
  | nil => cases h
  | cons a l ih =>
    rw [List.map_cons]
    by_cases e : a.num = n
    · rw [if_pos e, List.find?_cons_of_pos (by rw [hf]; simp [e])]
      rw [List.find?_cons_of_pos (by simp [e])] at h
      cases h
      rfl
    · rw [if_neg e, List.find?_cons_of_neg (by simp [e])]
      rw [List.find?_cons_of_neg (by simp [e])] at h
      exact ih h

theorem Served.found {r : Req} {cls : Nat} {s : State} {x : Sess} (h : Served r cls s x) : s.sess? x.num = some x :=
  find_num h.nums (List.mem_of_find?_eq_some h.sess)

theorem Served.on {r : Req} {cls : Nat} {s : State} {x : Sess} (h : Served r cls s x) : x.conn = r.conn := by
  have := List.find?_some h.sess
  simpa using this

/-- An answer to the one outstanding request of a session leaves at once. -/
theorem State.answer_out {v : State} {y : Sess} {rid : Rid} (hs : v.sess? rid.sess = some y) (hc : y.conn = rid.conn)
    (ho : y.outst = [⟨rid.cmd, rid.seq, none, rid.no⟩]) (st : Nat) (p : Bytes) :
    (v.answer rid st p).out = .frame rid.conn flagResponse rid.cmd st rid.seq rid.sess p :: v.out := by
  have hn : y.num = rid.sess := by
    have := List.find?_some hs
    simpa using this
  unfold State.answer
  rw [hs]
  dsimp only
  rw [if_neg (not_not_intro hc), ho]
  simp [State.flushSess, setReply, flush, hc, hn, State.bump, State.modSess, State.wr]

/-- What the admitted state holds of the session. -/
theorem Served.admitted {r : Req} {cls : Nat} {s : State} {x : Sess} (h : Served r cls s x) (t cmd : Nat) :
    (s.admitted t r cmd x).sess? x.num = some (x.taken (max s.now t) cmd r.seq x.next) :=
  find_map_num (f := fun y => y.taken (max s.now t) cmd r.seq x.next) h.found fun _ => rfl

/-- Admitting a request changes nothing but the clock and the sessions. -/
theorem State.admitted_frame (s : State) (t : Nat) (r : Req) (cmd : Nat) (x : Sess) : Frame 0x101 s (s.admitted t r cmd x) :=
  State.modSess_frame (State.at_frame (Frame.refl s) t) _ _

/-- A body that answers at once and leaves the sessions alone: the response leaves. -/
theorem Served.responds {t : Nat} {r : Req} {cls : Nat} {s : State} {x : Sess} (h : Served r cls s x) (cmd : Nat)
    {v : State} (hv : v.mbx.sess = (s.admitted t r cmd x).mbx.sess) (st : Nat) (p : Bytes) :
    Responds (v.answer ⟨r.conn, x.num, cmd, r.seq, x.next⟩ st p) r cmd st p := by
  have e : v.sess? x.num = some (x.taken (max s.now t) cmd r.seq x.next) := by
    rw [← h.admitted t cmd, State.sess?, State.sess?, hv]
  unfold Responds
  rw [State.answer_out e h.on (by unfold Sess.taken; rw [h.idle]; rfl), ← h.num]
  rfl

end Sys2Proof.Machine
end

