-- ==== Sys2Proof/WellFormed.lean ====
section
/-! DEFINITION. Which commands the surroundings can send: byte strings hold bytes, numbers of strings, dies, ports and lines
name ones the module can have, and the fields of a frame header fit their width. The meanings are total and do not rest
on it. -/

namespace Sys2Proof

/-- A number below a bound. -/
def below (n x : Nat) : Bool := decide (x < n)

/-- Every element is a byte. -/
def bytesOk (b : Bytes) : Bool := b.all (below 256)

/-- A string number (R2): 1 to 7. -/
def strOk (n : Nat) : Bool := decide (1 ≤ n) && decide (n ≤ 7)

/-- A network, network port or time domain: 1 or 2. -/
def netOk (n : Nat) : Bool := decide (1 ≤ n) && decide (n ≤ 2)

/-- An edge of a capture input: 1 rising, 2 falling. -/
def edgeOk (n : Nat) : Bool := netOk n

/-- VERSION and SESSION of a frame header are 8 bits, SEQUENCE is 16 bits (Table 5.2). -/
def Req.ok (r : Req) : Bool := below 256 r.ver && below 256 r.sess && below 65536 r.seq

/-- A request with its payload: bytes, at most 65,536 of them (Table 5.2). -/
def payloadOk (r : Req) (p : Bytes) : Bool := r.ok && bytesOk p && below 65537 p.length

/-- The command can be sent. -/
def Instr.wf : Instr → Bool
  | .auxMainsEvaluation _ _ _ _ _ | .auxInterruptionExceeded _ | .startFromOff _ _ _ _ _ _ _ _
  | .auxReturnQual _ | .tapConverterStop _ _ | .tapOverload _ _ | .lastGasp _ | .holdupShed _
  | .holdupOpenDelay _ | .holdupClosed _ | .holdupHalt _ _ | .holdupReadyCleared _ _ | .holdupReadySet _ _
  | .transportConfirm _ _ | .transportDiesOff _ | .coilSupplyThreshold _ _ | .switchReading _ _ _ _ _
  | .switchFaultRetry _ _ _ _ _ | .sealOpen _ | .presenceButtonPress _ _ | .presenceEvent _ _
  | .presenceStuck _ _ | .jSvcFitted _ _ | .tokenExpired _ | .displayBlank _ | .journalReplayed _
  | .runtimeStart _ _ _ | .historyInitComplete _ | .refclkFail _ | .dramCorrectedError _
  | .dramUncorrectableError _ _ _ _ | .scrubPass _ | .housekeepingRound _ _ | .hvacRequest _
  | .calderaRelease _ _ | .safeLoopInOpen _ _ | .safeLoopOriginHold _ | .safeStatusTelegram _ | .announce _
  | .roleListen _ | .roleGained _ | .managerLost _ | .allocHold _ | .blockIdConflict _ _ | .dispatchCycle _
  | .report _ | .allocation _ | .allocationApply _ | .hostTimeout _ | .collectorRound _ | .blockMaxAge _
  | .handshakeTimeout _ _ | .openSessionTimeout _ _ | .connectionEnd _ _ | .sessionIdle _ _ | .txnTimeout _ _
  | .streamDataOut _ _ _ _ | .streamCredit _ _ _ _ | .ledgerExport _ | .ledgerRestoreCommit _ | .returnQual _
  | .slewComplete _ | .timeState _ | .domainDisagree _ | .i2cSleep _ | .attentionWrite _ _ | .attnRetry _ _
  | .busStuck _ _ _ | .recoveryRepeat _ _ _ | .imageUploadEnd _ | .imageStaged _ | .spareReady _
  | .imageActivated _ | .configUpload _ | .nodeImageUpload _ | .serviceIdle _ | .probeAttached _ _ _
  | .tapStartOk _ _ | .coverClosed _ | .presenceButtonReleased _ _ | .jSvcRemoved _ | .candidate _
  | .storedWriteComplete _ => true
  | .enterTransport _ r p | .runWireTest _ r p | .calLowPoint _ r p | .calHighPoint _ r p | .calCommit _ r p
  | .calAbort _ r p | .closeString _ r p | .openString _ r p | .clearTrip _ r p _ | .setBlockPower _ r p
  | .getBlockState _ r p | .triggerTrace _ r p | .openSession _ r p | .closeSession _ r p | .pingSession _ r p
  | .getObj _ r p | .putObj _ r p | .beginTxn _ r p | .commitTxn _ r p | .abortTxn _ r p | .listObj _ r p
  | .openStream _ r p | .closeStream _ r p | .grantCredit _ r p | .streamDataIn _ r p | .getIdentity _ r p
  | .getCert _ r p | .getQuote _ r p | .restartModule _ r p | .activateImage _ r p | .rollbackImage _ r p
  | .confirmConfig _ r p | .enterService _ r p | .enableDebug _ r p | .leaveService _ r p
  | .decommissionModule _ r p => payloadOk r p
  | .transportWake _ str _ _ _ _ _ _ _ _ _ | .connOpenChanged _ str _ | .enumerationComplete _ str
  | .managerHeartbeatMissing _ str _ | .lapFire _ str _ | .collectionCutoff _ str | .lapDataComplete _ str
  | .chargeArrival _ str _ | .resultInstant _ str _ | .sentinelFit _ str | .falseStartSecond _ str
  | .shadowCheck _ str _ | .incrementalRound _ str | .newEpoch _ str | .cmdTimeout _ str _
  | .resultFetch _ str _ | .ringClose _ str | .cmpTest _ str | .routineWireTest _ str | .authRetry _ str _
  | .coulombSample _ str _ | .lapCurrentFrame _ str _ _ | .warmupEnd _ str | .sequencerEntry _ str _
  | .injectedConversion _ str _ _ _ | .refSettled _ str | .calCaptureEnd _ str | .calTimeout _ str
  | .imdCycleEnd _ str _ _ _ _ _ | .imdPauseEnd _ str | .closingStep _ str | .prechargeFail _ str
  | .openWait _ str | .negCoilOff _ str | .fbTime _ str | .mirrorContactChange _ str _ _ _ _
  | .faultLoopOpen _ str _ | .fastOc _ str _ | .heartbeat _ str _ | .offCoilReadback _ str _
  | .enableMissing _ str | .lapUnitReceived _ str | .nodeUpdated _ str _ | .nodeCopyFailed _ str _
  | .faultLoopClosed _ str _ | .wireRetest _ str _ _ => strOk str
  | .watchdogRestart _ die | .paceMeasurement _ die _ | .dieStalled _ die _ | .calderaTrip _ die _
  | .dieHandover _ die | .handoverAbandoned _ die _ | .clusterHalt _ die _ | .spareSelfTest _ die _ => below 8 die
  | .returnMissing _ str port _ | .ringPortLineLost _ str port _ | .collect _ str port => strOk str && below 2 port
  | .ringPortLinkReady _ str line => strOk str && below 2 line.port
  | .batonReceived _ str port bytes _ _ => strOk str && below 2 port && bytesOk bytes
  | .closeRequest _ r str | .startRequest _ r str => r.ok && below 65536 str
  | .pulseTests _ str coil _ | .coilShort _ str coil => strOk str && below 3 coil
  | .safeCommand _ net _ port b => netOk net && below 65536 port && bytesOk b
  | .safeCmdSingle _ net => netOk net
  | .integratorProfile _ r data => r.ok && bytesOk data
  | .channelSample _ ch | .deadlineMiss _ ch | .captureFrozen _ ch => below 32 ch
  | .takeOver _ r ch | .channelEnable _ r ch _ | .recover _ r ch | .channelEn _ r ch _ => r.ok && below 65536 ch
  | .announceReceived _ net _ msg | .candidateReceived _ net _ msg | .reportReceived _ net _ msg
  | .allocationReceived _ net _ msg | .peerRejected _ net _ msg => netOk net && bytesOk msg
  | .pinRequest _ r | .releasePins _ r | .portEn _ r _ | .advanceFuses _ r => r.ok
  | .captureValid _ r ch mask => r.ok && below 65536 ch && below 8 mask
  | .tcpConnection _ _ port _ _ what => netOk port && (match what with
      | .finished h _ => h.chain.all bytesOk
      | _ => true)
  | .pdelayExchange _ port _ | .netLinkChanged _ port _ => netOk port
  | .unreadableFrame _ _ hdr => bytesOk hdr
  | .ackEpoch _ r epoch => r.ok && below (2 ^ 32) epoch
  | .ptpSync _ _ port dom _ _ _ _ _ _ | .announcePtp _ port dom _ | .pdelayReq _ port dom _ _ _ _ => netOk port && below 256 dom
  | .domainState _ dom => netOk dom
  | .pacerOccurrence _ out | .pulseEnd _ out => below 4 out
  | .captureWindow _ input => below 2 input
  | .capture _ input edge => below 2 input && edgeOk edge
  | .canFrameReceived _ ch ident xtd _ _ _ data => below 3 ch && below (if xtd then 2 ^ 29 else 2 ^ 11) ident && bytesOk data && below 65 data.length
  | .canTxComplete _ ch _ _ | .busOffRecovered _ ch | .fallbackDatagram _ ch | .canBusError _ ch _
  | .busIntegrationComplete _ ch => below 3 ch
  | .txRequest _ r obj data => r.ok && below 65536 obj && bytesOk data
  | .ackCount _ r obj count => r.ok && below 65536 obj && below (2 ^ 32) count
  | .i2cWrite _ addr data => below 128 addr && bytesOk data
  | .i2cRead _ addr _ _ | .stretchLimits _ addr _ _ | .i2cWake _ addr | .abortsRstart _ addr
  | .i2cIdleRelease _ addr => below 128 addr
  | .recoveryLoader _ image => bytesOk image
  | .trustList _ r entry data => r.ok && below 65536 entry && bytesOk data
  | .commissioned _ _ hello _ => hello.chain.all bytesOk

end Sys2Proof
end

