-- ==== Sys2Proof/Tests/Slice0.lean ====
section
/-! SUPPORT. Tests: the well-formedness checks, small states, and for every statement with hypotheses a state and operands that
meet them. -/

namespace Sys2Proof.Tests

set_option Elab.async false

open Sys2Proof.Machine Sys2Proof.Obj

/-- A module that runs. -/
def live : State :=
  { State.reset with power := { Power.init with supply := .normal, powered := true },
                     boot := { Boot.init with phase := 13 } }

/-- A module in HOLDUP since the instant 0. -/
def inHold : State := { live with power := { live.power with supply := .holdup } }

/-- A module with a presence token of a source, and session 1 of class MAINTAIN at connection 1. -/
def host (cls : Nat) : Sess := ⟨1, 1, cls, 0, 0, [], none, [], 0⟩

@[inherit_doc host] def link (cls : Nat) : Conn := ⟨1, 1, 0, 0, 0, true, cls, 0, [], false, false, true, 0, 0, 0, 0, 0⟩

/-- A running module with one session. -/
def withSess (x : Sess) : State :=
  { live with mbx := { live.mbx with conns := [link x.cls], sess := [x] } }

@[inherit_doc withSess] def with_ (cls : Nat) : State := withSess (host cls)

/-- A running module with a presence token of a source, and a session of class MAINTAIN. -/
def withToken (source : Nat) : State := { with_ 3 with sec := { live.sec with token := source } }

/-- A connection whose handshake is under way. -/
def shaking : Conn := ⟨9, 1, 0, 0, 0, false, 0, 0xFF, [], false, false, false, 0, 0, 0, 0, 0⟩

/-- A running module with one connection. -/
def withConn (c : Conn) : State := { live with mbx := { live.mbx with conns := [c] } }

/-- A request of session 1 on connection 1. -/
def req : Req := ⟨1, 1, 1, 5⟩

/-- Every mirror contact reads open. -/
def opened (s : State) : State :=
  s.eachStr fun n s => ((s.wrB StringTerminals.FB_POS n true).wrB StringTerminals.FB_NEG n true).wrB StringTerminals.FB_PRE n true

/-- A module that can be block manager. -/
def electable : State :=
  (((live.wr BlockConfig.ROLE_CAPABLE 0 1).wr SecurityStatus.SECURITY_STATE 0 1).wr TimeStatus.TIME_STATE 0 1).wrB
    MailboxStatus.NET_A_LINK 0 true

/-- String 1 can be closed, and a session of class OPERATE may ask for it. -/
def closable : State :=
  ((((with_ 2).wrB PowerStatus.HOLDUP_READY 0 true).wr RingStatus.NODE_COUNT 1 1).wrB StringTerminals.FLOOP_OPEN 1 false).modStr 1
    fun x => { x with profile := List.replicate 80 0, firstLap := some 0, restored := some 0, prot := { x.prot with cellOk := true } }

/-- Every coil of a string is energised. -/
def driving (n : Nat) : State :=
  live.modProt n fun p => { p with cpos := { p.cpos with on := true }, cneg := { p.cneg with on := true }, cpre := { p.cpre with on := true } }

/-- The front-end link of a string is up. -/
def withFe (n : Nat) : State := live.modStr n fun x => { x with fe := { x.fe with up := true } }

/-- A safe command for BLOCK_ID 0 and serial number 0. -/
def safeCmdBytes : Bytes :=
  let b := toLE 4 0x53434D44 ++ [1, 2, 0, 0] ++ List.replicate 36 0
  b ++ toLE 4 (crc32 b)

/-- What holds of the value of an option where there is one, and of one that is there. -/
theorem forall_some {α : Type} {o : Option α} {P : α → Prop} (h : ∀ a ∈ o.toList, P a) (a : α) (e : o = some a) : P a :=
  h a (by simp [e])

@[inherit_doc forall_some] theorem exists_some {α : Type} {o : Option α} {P : α → Prop} (h : ∃ a ∈ o.toList, P a) :
    ∃ a, o = some a ∧ P a := by
  obtain ⟨a, m, h⟩ := h
  exact ⟨a, by simpa using m, h⟩

/-- A request is served where these hold, which a computation decides. -/
theorem served_of {r : Req} {cls : Nat} {s : State} {x : Sess}
    (h : (s.mailboxUp && (s.conn? r.conn).any (·.up) && decide (r.ver = 1) &&
      decide (s.mbx.sess.find? (·.conn == r.conn) = some x) && decide (x.num = r.sess) && numsOk s.mbx.sess &&
      decide (x.outst = []) && decide (cls ≤ x.cls)) = true) : Served r cls s x := by
  simp only [Bool.and_eq_true, decide_eq_true_eq, Option.any_eq_true] at h
  obtain ⟨⟨⟨⟨⟨⟨⟨h1, h2⟩, h3⟩, h4⟩, h5⟩, h6⟩, h7⟩, h8⟩ := h
  exact ⟨h1, h2, h3, h4, h5, h6, h7, h8⟩


/-- A lap in progress, handed on. -/
def lap3 : Lap where
  seq := 3
  nom := 0
  plain := 0
  period := 0
  lead := 0
  shift := 0
  epoch := 1
  raised := false
  noLock := false
  timeStep := false
  gap := false
  enumIn := false
  closed := false
  joining := false
  split := false
  half := 0
  late := none
  lateLead := 0
  lateAny := false
  nextAt := none
  withheld := false
  records := []
  recAt := 0
  askedA := false
  askedB := false
  retries := 0
  cur := none
  curLate := none
  prevInterval := 0
  bleedFrom := []
  forced := false
  ahead := 0
  seg := false
  done := none
  short_ := false
  checked := false
  falseStart := false
  handed := some 0
  record := []
  skipped := false
  built := none
  regs := []
  learn := []
  old := []

/-- A history block. -/
def blk1 : Blk := ⟨1, 0, 0, 0, 0, false, false, false, false, false, [], []⟩

/-- The service port is up. -/
def awake : State := live.wrB I2cConfig.PORT_EN 0 true

/-- An attention record waits after some tries. -/
def attending (n : Nat) : State :=
  let s := (awake.wrB I2cConfig.ATTN_EN 0 true).wr I2cConfig.ATTN_ADDR 0 9
  { s with i2c := { s.i2c with recPending := true, retryAt := some 0, tries := n } }

/-- A string with one numbered node. -/
def noded (n : Nat) : State :=
  ((live.wr RingStatus.NODE_COUNT n 1).wr RingStatus.TOPO_EPOCH n 1 |>.wr NodeStatus.CHANNEL_MASK (nodeInst n 0) 3).modRing n
    fun g => { g with nodes := [RNode.init] }

/-- String 7 is enabled and numbered. -/
def lapping : State := (live.wr RingStatus.TOPO_EPOCH 7 1).wr ModuleIdentity.STRING_ENABLE 0 128

/-- The filter of string 1 runs with one position. -/
def filtering : State := (closable.wrB ChemistryTable.TABLE_VALID 1 true).modEst 1 fun e => { e with pos := [Pos.init 0 0 1 0] }

/-- An enumeration that is complete. -/
def job0 : Job := ⟨0, false, false, none, none, false, false, [], 0, 0, 1, false, [], 0⟩

/-- A ring whose joint has had LINK_READY on both sides. -/
def jointed : State :=
  ((live.wrB RingConfig.AUTO_CLOSE 7 true).wr RingStatus.RING_STATE 7 2).modRing 7 fun r => { r with jointSince := some 0, readyA := true, readyB := true }

/-- A session with an outbound stream; one with an inbound stream and credit; one that exports the ledger. -/
def streaming (cls : Nat) : Sess := { host cls with streams := [⟨4, 1, 0, 0, [], 0, 0, 0, 0, [], [], []⟩] }
@[inherit_doc streaming] def receiving : Sess := { host 3 with streams := [⟨4, 9, 3, 0, [], 0, 0, 0, 0, [], [], []⟩] }
@[inherit_doc streaming] def exporting : Sess := { host 3 with streams := [⟨4, 5, 1, 0, [], 0, 1, 0, 0, [], [[8]], []⟩] }

/-- Domain 1 is enabled on port 1 and listens. -/
def timed : State :=
  ((live.wrB PtpDomain.DOMAIN_EN 1 true).wr PtpDomain.PORT 1 1).wr PtpDomain.DOMAIN_STATE 1 domListening

/-- A master of domain 1. -/
def master (heard : List Nat) : Foreign := ⟨⟨5, 1, 0, 6, 0x21, 0, 0, 5, 0, 37, 0, 0⟩, 1000000000, heard⟩

/-- Domain 1 has a master and a link delay. -/
def synced (q : Nat) : State :=
  let s := (timed.wr PtpDomain.DOMAIN_STATE 1 q).modDom 1 fun d => { d with sel := some (master [0]) }
  { s with time := { s.time with links := [⟨[0, 0, 0], none, 0⟩, PLink.init] } }

/-- Domain 1 is LOCKED and has been quiet since its start. -/
def quiet : State :=
  (timed.wr PtpDomain.DOMAIN_STATE 1 domLocked).modDom 1 fun d => { d with sel := some (master [3000000000, 0]), last := some 0 }

/-- Both domains are LOCKED and have differed from the start. -/
def disagreeing : State :=
  let s := ((live.wr PtpDomain.DOMAIN_STATE 1 domLocked).wr PtpDomain.DOMAIN_STATE 2 domLocked).modDom 1 fun d =>
    { d with pd := 5000000 }
  { s with time := { s.time with disFrom := some 0 } }

/-- A profile within every range and relation of R371. -/
def profileBytes : Bytes :=
  let b := List.replicate 16 0 ++ toLE 2 37000 ++ toLE 2 25000 ++ toLE 2 36000 ++ toLE 2 26000 ++ toLE 2 38000 ++ toLE 2 20000 ++
    toLE 2 0 ++ toLE 2 0 ++ toLE 2 10 ++ toLE 2 0 ++ toLE 2 6000 ++ toLE 2 0 ++ toLE 2 0 ++ toLE 2 100 ++ toLE 4 10 ++ toLE 4 10 ++
    toLE 4 20 ++ toLE 4 20 ++ toLE 2 1 ++ toLE 2 1000 ++ toLE 4 10000 ++ toLE 4 0 ++ [1, 0, 0, 0]
  b ++ toLE 4 (profileCrc (b ++ [0, 0, 0, 0]))

/-- A peer message of a kind from the module with BLOCK_ID 5 and priority 1, without its MAC. -/
def peerHead (s : State) (kind epoch : Nat) (body : Bytes) : Bytes :=
  toLE 4 0x50454552 ++ [1, kind] ++ toLE 2 (s.bc BlockConfig.BLOCK_NUMBER) ++ [5, 1] ++ toLE 2 body.length ++
    toLE 4 epoch ++ toLE 4 7 ++ List.replicate 12 0 ++ body

/-- The message with the MAC of this module's block. -/
def peerMsg (s : State) (kind epoch : Nat) (body : Bytes) : Bytes :=
  peerHead s kind epoch body ++ s.peerMac (peerHead s kind epoch body)

/-- A message that ends with the MAC of its other bytes is good where the rest of R432 holds. -/
theorem good_of {s : State} {b x : Bytes} (hx : x = s.peerMac b)
    (h : (decide (b.length = 32 + field (b ++ x) 0x0A 2) && decide (field (b ++ x) 0 4 = 0x50454552) &&
      decide (field (b ++ x) 4 1 = 1) && decide (field (b ++ x) 0x0A 2 % 4 = 0) && decide (field (b ++ x) 0x0A 2 ≤ 1024) &&
      peerLenOk (field (b ++ x) 5 1) (((b ++ x).drop 32).take (field (b ++ x) 0x0A 2)) &&
      decide (field (b ++ x) 6 2 = s.bc BlockConfig.BLOCK_NUMBER)) = true) : s.peerGood (b ++ x) = true := by
  simp only [Bool.and_eq_true, decide_eq_true_eq] at h
  obtain ⟨⟨⟨⟨⟨⟨hl, h1⟩, h2⟩, h3⟩, h4⟩, h5⟩, h6⟩ := h
  have hm : x.length = 16 := by subst hx; simp [State.peerMac, padTo, slice]
  have hd : (b ++ x).drop (32 + field (b ++ x) 0x0A 2) = x := by rw [← hl]; exact List.drop_left' rfl
  have ht : (b ++ x).take (32 + field (b ++ x) 0x0A 2) = b := by rw [← hl]; exact List.take_left' rfl
  have hn : (b ++ x).length = 48 + field (b ++ x) 0x0A 2 := by simp [hm, hl]; omega
  simp only [State.peerGood, h1, h2, h3, h4, h5, h6, hd, ht, hn, ← hx, decide_true, Bool.and_self]

/-- A good message of a sender not heard before is taken. -/
theorem in_of {s : State} {net src : Nat} {m : Bytes} (ho : s.ownersRun = true) (hg : s.peerGood m = true)
    (hs : (s.blk.senders.find? fun e => e.1 == field m 8 1) = none) : (s.peerIn net src m).2 = true := by
  simp [State.peerIn, ho, hg, hs]

/-- Two modules with one key give one MAC. -/
theorem mac_of {s u : State} {b : Bytes} (h : s.rd SecurityStatus.PEER_KEY = u.rd SecurityStatus.PEER_KEY) :
    s.peerMac b = u.peerMac b := by
  unfold State.peerMac
  rw [h]

/-- A message of a kind is heard where this holds, which a computation decides. -/
theorem heard_of {s : State} {t net src kind : Nat} {b x : Bytes} (hx : x = s.peerMac b)
    (h : (decide (b.length = 32 + field (b ++ x) 0x0A 2) && decide (field (b ++ x) 0 4 = 0x50454552) &&
      decide (field (b ++ x) 4 1 = 1) && decide (field (b ++ x) 0x0A 2 % 4 = 0) && decide (field (b ++ x) 0x0A 2 ≤ 1024) &&
      peerLenOk (field (b ++ x) 5 1) (((b ++ x).drop 32).take (field (b ++ x) 0x0A 2)) &&
      decide (field (b ++ x) 6 2 = s.bc BlockConfig.BLOCK_NUMBER)) = true)
    (k : ((s.at t).ownersRun = true ∧ ((s.at t).blk.senders.find? fun e => e.1 == field (b ++ x) 8 1) = none) ∧
      peerKind (b ++ x) = kind ∧ field (b ++ x) 8 1 ≠ s.rd ModuleIdentity.BLOCK_ID) : Heard s t net src (b ++ x) kind :=
  ⟨good_of hx h, in_of k.1.1 (good_of hx h) k.1.2, k.2.1, k.2.2⟩

/-- What a client offers and shows in its handshake. -/
def hello : Hello := ⟨true, [0x1302], [0x0018], [0x0503], none, false, false, [[1]]⟩

/-- Entry 0 of the trust list is in use for a leaf, with class OPERATE; it names the leaf [1]. -/
def entered (s : State) : State := ((s.wrB TrustList.ENABLED 0 true).wr TrustList.KIND 0 1).wr TrustList.CLASS 0 2
@[inherit_doc entered] def trusting (s : State) : State := (entered s).wr TrustList.DIGEST 0 (digestOf [1])

set_option exponentiation.threshold 400 in
/-- What the entry is and what it leaves. -/
theorem trusting_facts {s : State} (h : s.inv = true) (e : (entered s).rdB TrustList.ENABLED 0 = true)
    (k : (entered s).rd TrustList.KIND 0 = 1) (t : Nat) :
    (trusting s).inv = true ∧ ((trusting s).at t).trustMatch [[1]] = some 0 ∧
      (∀ f i x, apart TrustList.DIGEST 0 f x = true → (trusting s).rd f i x = (entered s).rd f i x) := by
  have ho : (entered s).objs.sorted = true := by
    simp only [State.inv, Bool.and_eq_true] at h
    simp only [entered, State.wr_objs, State.wrB_objs]
    exact Store.wr_sorted (Store.wr_sorted (Store.wr_sorted h.1.1.1.1.1 ..) ..) ..
  have hr : ∀ f i x, apart TrustList.DIGEST 0 f x = true → (trusting s).rd f i x = (entered s).rd f i x :=
    fun f i x a => State.rd_wr_apart _ _ _ _ _ _ _ _ a
  refine ⟨?_, ?_, hr⟩
  · simp only [State.inv, Bool.and_eq_true] at h ⊢
    obtain ⟨⟨⟨⟨⟨-, h2⟩, h3⟩, h4⟩, h5⟩, h6⟩ := h
    exact ⟨⟨⟨⟨⟨Store.wr_sorted ho .., h2⟩, h3⟩, h4⟩, h5⟩, h6⟩
  · have e2 : (trusting s).rdB TrustList.ENABLED 0 = true := by
      unfold State.rdB at e ⊢
      rw [hr _ _ _ (by decide)]
      exact e
    have k2 : (trusting s).rd TrustList.KIND 0 = 1 := (hr _ _ _ (by decide)).trans k
    have d : (trusting s).rd TrustList.DIGEST 0 = digestOf [1] :=
      (State.rd_wr ho ..).trans (Nat.mod_mod (ofLE (Config.sha384 [1])) _)
    have m : ((trusting s).at t).entryMatches 1 0 [[1]] = true := by
      change ((trusting s).rdB TrustList.ENABLED 0 && decide ((trusting s).rd TrustList.KIND 0 = 1) &&
        decide (digestOf [1] = (trusting s).rd TrustList.DIGEST 0)) = true
      rw [e2, k2, d]
      simp
    have r : List.range 32 = 0 :: (List.range 31).map Nat.succ := List.range_succ_eq_map
    simp only [State.trustMatch, r, List.find?_cons, m, Option.orElse]

/-- The commit frame of a restore set of epoch 5 without entries. -/
def restoreFrame : Bytes :=
  let b := [2, 0, 0, 0] ++ toLE 4 5 ++ toLE 4 0 ++ toLE 4 0 ++ toLE 4 (crc32 []) ++ List.replicate 28 0
  b ++ toLE 4 (crc32 b)

/-- String 1 closes with precharge, or without, and stands at a step. -/
def closing (pre : Bool) (step : Nat) : State :=
  ((closable.wr ProtectionStatus.SEQ_STATE 1 1).wr ProtectionStatus.CLOSING_STEP 1 step).modProt 1 fun p => { p with needPre := pre }

/-- The service port is asleep, or is owed a refusal, until the instant 7. -/
def dozing (asleep owed : Bool) : State := { awake with i2c := { awake.i2c with asleep := asleep, refuseNext := owed, awakeAt := 7 } }

/-- An attention record waits after one try, and the ATTENTION window is selected. -/
def polled : State := (attending 1).wr I2cStatus.WINDOW 0 0x20

/-- Capture input 1 asks for falling edges; its last was at the instant 0, and so many of this second are recorded. -/
def capturing (n : Nat) : State :=
  { (live.wr CaptureInput.CAPTURE_MODE 1 1).wr CaptureInput.EDGE 1 2 with caps := [CapIn.init, ⟨some 0, 0, n⟩] }

/-- A copy of the configuration is kept, and the inactive slot holds an image of format 9. -/
def keeping : State := { with_ 3 with nv := { live.nv with keptFormat := 1, slotB := ⟨some (List.replicate 32 0 ++ [9, 0]), true, []⟩ } }

/-- The payload of CONFIRM_CONFIG with the running format. -/
def confirmRunning : Bytes := toLE 2 (live.rd ConfigFormat.FORMAT_RUNNING) ++ [0, 0]

/-- Everything ENTER_TRANSPORT needs holds but for the token. -/
def shippable (token : Nat) : State :=
  opened (((withToken token).wr ModuleIdentity.STRING_ENABLE 0 2).wr StringPower.TRANSPORT_WAKE_V 1 500)

/-- Meets the hypotheses of Obligations.StepRunsFrontCommand. -/
theorem test_step_front : { live with pending := [.displayBlank 5, .tokenExpired 6] }.pending = .displayBlank 5 :: [.tokenExpired 6] ∧ live.pending = [] := by decide +kernel

/-- Meets the hypotheses of Obligations.EveryStepKeepsSoundness. -/
theorem test_sound_step : { live with pending := [.displayBlank 5] }.inv = true := by decide +kernel

/-- Meets the hypotheses of Obligations.FrameOfEveryCommand. -/
theorem test_frame_row : ∃ u, exec (.displayBlank (secs 600)) live = .next u := ⟨_, rfl⟩

/-- Meets the hypotheses of Obligations.CommandsOnlyAdd. -/
theorem test_only_add : ∃ u, exec (.displayBlank (secs 600)) live = .next u := ⟨_, rfl⟩

/-- Meets the hypotheses of Obligations.FactoryAndFusesStay. -/
theorem test_factory_stays : ∃ u, exec (.displayBlank (secs 600)) live = .next u := ⟨_, rfl⟩

/-- Meets the hypotheses of Obligations.RegisterWriteIsReadBack. -/
theorem test_register_write : live.inv = true ∧ PowerStatus.AUX_V.key 0 0 ≠ PowerStatus.TAP_V.key 0 0 := by decide +kernel

/-- Meets the hypotheses of Obligations.SupplyChangesFollowTable, clause by clause. -/
theorem test_meets_supply_changes_follow_table :
    (∃ (s : State), s.inv = true) ∧
    (∃ (s : State), s.power.supply = .normal ∧ 21 ≤ s.power.belowCount ∧ s.power.transOffAt = none) ∧
    (∃ (t a : Nat) (s : State), s.power.supply = .backup ∧ s.power.auxSince = some a ∧
      s.rdB PowerStatus.AUX_PRESENT = true ∧ a + secs (s.rd PowerConfig.AUX_RETURN_QUAL) ≤ t ∧ s.power.transOffAt = none) ∧
    (∃ (mv : Nat) (s : State), s.inv = true ∧ s.power.supply = .backup ∧ 150000 ≤ mv ∧ s.power.transOffAt = none) ∧
    (∃ (mv : Nat) (s : State), s.inv = true ∧ mv < 150000 ∧ s.power.supply = .backup ∧ s.power.transOffAt = none) ∧
    (∃ (t since : Nat) (s : State), s.inv = true ∧ s.power.powered = true ∧ s.rdB PowerStatus.TAP_RUNNING = true ∧
      since + secs 1 ≤ t) := by
  refine ⟨⟨live, ?_⟩,
    ⟨{ live with power := { live.power with belowCount := 21 } }, ?_⟩,
    ⟨secs 65536, 0,
      { live with power := { live.power with supply := .backup, auxSince := some 0 } }.wrB PowerStatus.AUX_PRESENT 0 true,
      ?_⟩,
    ⟨150000, { live with power := { live.power with supply := .backup } }, ?_⟩,
    ⟨149999, { live with power := { live.power with supply := .backup } }, ?_⟩,
    ⟨secs 1, 0, live.wrB PowerStatus.TAP_RUNNING 0 true, ?_⟩⟩
  all_goals repeat' apply And.intro
  all_goals decide +kernel

/-- Meets the hypotheses of Obligations.HoldupRunsItsSequence, clause by clause. -/
theorem test_meets_holdup_runs_its_sequence :
    (∃ (e : Nat) (s : State), s.inv = true ∧ s.power.powered = true ∧ e < 120) ∧
    (∃ (e : Nat) (s : State), s.inv = true ∧ s.power.powered = true ∧ 120 ≤ e ∧ e < 65536 ∧ 9 ≤ s.boot.phase) ∧
    (∃ (t : Nat) (s : State), s.power.supply = .holdup ∧ s.power.holdupAt + msec 5 ≤ t ∧ s.power.gaspSent = false) ∧
    (∃ (t : Nat) (s : State), s.inv = true ∧ s.power.supply = .holdup ∧ s.power.holdupAt + msec 10 ≤ t ∧
      s.power.shed = false) ∧
    (∃ (t : Nat) (s : State), s.power.supply = .holdup ∧ s.power.holdupAt + msec 60 ≤ t) ∧
    (∃ (t : Nat) (g : GaspEnd) (s : State), s.inv = true ∧ s.power.supply = .holdup ∧ (s.power.holdupAt + msec 300 ≤ t ∨
      g.exhausted = true) ∧ s.nv.transport = false ∧ s.rdB PowerStatus.AUX_PRESENT = false ∧
      s.rdB PowerStatus.TAP_START_OK = false) ∧
    (∃ (t : Nat) (g : GaspEnd) (s : State), s.inv = true ∧ s.power.supply = .holdup ∧ (s.power.holdupAt + msec 300 ≤ t ∨
      g.exhausted = true) ∧ s.nv.transport = true) ∧
    (∃ (t : Nat) (g : GaspEnd) (s : State), s.inv = true ∧ s.power.supply = .holdup ∧ (s.power.holdupAt + msec 300 ≤ t ∨
      g.exhausted = true) ∧ (g.hot.filter fun x => s.hasDie x.1) = [] ∧ s.nv.transport = false ∧
      s.rdB PowerStatus.AUX_PRESENT = true) ∧
    (∃ (t : Nat) (g : GaspEnd) (s : State), s.inv = true ∧ s.power.supply = .holdup ∧ (s.power.holdupAt + msec 300 ≤ t ∨
      g.exhausted = true) ∧ (g.hot.filter fun x => s.hasDie x.1) ≠ [] ∧ s.nv.transport = false ∧
      s.rdB PowerStatus.AUX_PRESENT = true) := by
  refine ⟨⟨119, live, ?_⟩,
    ⟨120, live, ?_⟩,
    ⟨msec 5, inHold, ?_⟩,
    ⟨msec 10, inHold, ?_⟩,
    ⟨msec 60, inHold, ?_⟩,
    ⟨msec 300, ⟨false, []⟩, inHold, ?_⟩,
    ⟨msec 300, ⟨false, []⟩, { inHold with nv := { inHold.nv with transport := true } }, ?_⟩,
    ⟨msec 300, ⟨false, []⟩, inHold.wrB PowerStatus.AUX_PRESENT 0 true, ?_⟩,
    ⟨0, ⟨true, [(7, 1)]⟩, inHold.wrB PowerStatus.AUX_PRESENT 0 true, ?_⟩⟩
  all_goals repeat' apply And.intro
  all_goals decide +kernel

/-- Meets the hypotheses of Obligations.TransportAndStart, clause by clause. -/
theorem test_meets_transport_and_start :
    (∃ (t : Nat) (r : Req) (s : State) (x : Sess), s.inv = true ∧ Served r 3 s x ∧ s.security ≠ 3 ∧ s.security ≠ 4 ∧
      (s.at t).tokenOk x.num false = true ∧ s.notOpen = 0 ∧ s.updating = false ∧ s.power.transRid = none ∧
      s.power.transOffAt = none ∧ s.wakeSet = true ∧ s.inHoldup = false) ∧
    (∃ (t : Nat) (rid : Rid) (s : State), s.power.transRid = some rid ∧ s.sleepSent = true ∧
      s.power.transAt + msec 250 ≤ t ∧ s.power.transEnum = none) ∧
    (∃ (t a : Nat) (rid : Rid) (s : State) (x : Sess), s.inv = true ∧ s.power.transRid = some rid ∧ s.sleepSent = true ∧
      s.power.transAt + msec 250 ≤ t ∧ s.power.transEnum = some (a, []) ∧ a + msec 100 ≤ t ∧ (∀ n ∈ s.sleepOrder,
      s.power.transAnswers.contains n = true) ∧ s.sess? rid.sess = some x ∧ x.conn = rid.conn ∧ x.outst = [⟨rid.cmd,
      rid.seq, none, rid.no⟩]) ∧
    (∃ (t a : Nat) (s : State), s.power.transOffAt = some a ∧ a ≤ t) ∧
    (∃ (t str mv since m : Nat) (s : State) (q : Nat), s.power.supply = .transport ∧ s.rdB PowerStatus.AUX_PRESENT = true ∧
      s.power.auxSince = some q ∧ q + secs 5 ≤ t ∧ since + secs 5 ≤ t ∧ s.hasStr str = true ∧ bitOf m str = true ∧
      s.nv.store.rd StringPower.TRANSPORT_WAKE_V str ≠ 0xFFFFFFFF ∧ s.nv.store.rd StringPower.TRANSPORT_WAKE_V str ≤ mv) ∧
    (∃ (t str mv since m : Nat) (x : Bool) (z : StartSeen) (s : State) (q : Nat), s.power.supply = .transport ∧
      s.rdB PowerStatus.AUX_PRESENT = true ∧ s.power.auxSince = some q ∧ q + secs 5 ≤ t ∧ since + secs 5 ≤ t ∧
      s.hasStr str = true ∧ bitOf m str = true ∧ s.nv.store.rd StringPower.TRANSPORT_WAKE_V str ≠ 0xFFFFFFFF ∧
      s.nv.store.rd StringPower.TRANSPORT_WAKE_V str ≤ mv ∧ (z.hot.filter fun x => s.hasDie x.1) ≠ []) ∧
    (∃ (t : Nat) (s : State), s.power.supply = .off ∧ (∃ q, s.nv.transport = false ∧ s.rdB PowerStatus.AUX_PRESENT = true ∧
      s.power.auxSince = some q ∧ q + msec 100 ≤ t)) ∧
    (∃ (s : State), s.power.supply = .off ∧ s.nv.transport = false ∧ s.rdB PowerStatus.AUX_PRESENT = false ∧
      s.rdB PowerStatus.TAP_START_OK = true) ∧
    (∃ (s : State), s.power.supply = .off ∧ s.nv.transport = true ∧ s.rdB PowerStatus.AUX_PRESENT = true) := by
  refine ⟨⟨0, req, opened (((withToken 1).wr ModuleIdentity.STRING_ENABLE 0 2).wr StringPower.TRANSPORT_WAKE_V 1 500), host 3, ?_⟩,
    ⟨msec 250, ⟨1, 1, 0x74, 5, 0⟩,
      { withSess { host 3 with outst := [⟨0x74, 5, none, 0⟩] } with power := { live.power with transRid := some ⟨1, 1, 0x74, 5, 0⟩ } },
      ?_⟩,
    ⟨msec 250, 0, ⟨1, 1, 0x74, 5, 0⟩,
      { withSess { host 3 with outst := [⟨0x74, 5, none, 0⟩] } with power := { live.power with transRid := some ⟨1, 1, 0x74, 5, 0⟩, transEnum := some (0, []) } },
      { host 3 with outst := [⟨0x74, 5, none, 0⟩] }, ?_⟩,
    ⟨7, 7, { live with power := { live.power with transOffAt := some 7 } }, ?_⟩,
    ⟨secs 5, 1, 500, 0, 2,
      { State.reset with power := { State.reset.power with supply := .transport, auxSince := some 0 }, nv := { State.reset.nv with store := [(StringPower.TRANSPORT_WAKE_V.key 1 0, 500)] } }.wrB
      PowerStatus.AUX_PRESENT 0 true, 0, ?_⟩,
    ⟨secs 5, 1, 500, 0, 2, false, ⟨false, [(7, 1)]⟩,
      { State.reset with power := { State.reset.power with supply := .transport, auxSince := some 0 }, nv := { State.reset.nv with store := [(StringPower.TRANSPORT_WAKE_V.key 1 0, 500)] } }.wrB
      PowerStatus.AUX_PRESENT 0 true, 0, ?_⟩,
    ⟨msec 100,
      { State.reset with power := { State.reset.power with auxSince := some 0 } }.wrB PowerStatus.AUX_PRESENT 0 true, ?_⟩,
    ⟨State.reset.wrB PowerStatus.TAP_START_OK 0 true, ?_⟩,
    ⟨{ State.reset with nv := { State.reset.nv with transport := true } }.wrB PowerStatus.AUX_PRESENT 0 true, ?_⟩⟩
  all_goals repeat' apply And.intro
  all_goals first | decide +kernel | exact served_of (by decide +kernel) | exact exists_some (by decide +kernel) | exact ⟨0, by decide +kernel⟩

/-- Meets the hypotheses of Obligations.StartSequenceSteps, clause by clause. -/
theorem test_meets_start_sequence_steps :
    (∃ (s : State), s.boot.phase = 4 ∧ s.boot.halt = false ∧ (s.nv.eraseCut = true ∨ s.nv.programCut = true)) ∧
    (∃ (a b : Nat) (s : State), s.inv = true ∧ s.panel.retry = true ∧ 6 ≤ s.boot.phase ∧ a < 16 ∧ b < 16) ∧
    (∃ (s : State), s.inv = true ∧ s.boot.phase = 7 ∧ s.boot.halt = false ∧ s.power.powered = true ∧ s.security ≠ 5) ∧
    (∃ (s : State), s.inv = true ∧ s.boot.phase = 7 ∧ s.boot.halt = false ∧ s.power.powered = true ∧ s.security = 5) ∧
    (∃ (s : State), s.inv = true ∧ s.power.powered = true ∧ s.boot.halt = false ∧ 4 ≤ s.boot.phase) := by
  refine ⟨⟨{ live with boot := { live.boot with phase := 4 }, nv := { live.nv with eraseCut := true } }, ?_⟩,
    ⟨15, 15, { live with panel := { live.panel with retry := true } }, ?_⟩,
    ⟨{ live with boot := { live.boot with phase := 7 } }, ?_⟩,
    ⟨{ live with boot := { live.boot with phase := 7 } }.wr SecurityStatus.SECURITY_STATE 0 5, ?_⟩,
    ⟨{ live with boot := { live.boot with phase := 4 } }, ?_⟩⟩
  all_goals repeat' apply And.intro
  all_goals decide +kernel

/-- Meets the hypotheses of Obligations.TerminalReadings, clause by clause. -/
theorem test_meets_terminal_readings :
    (∃ (mv : Nat) (s : State), s.inv = true ∧ s.power.powered = true ∧ mv < 65536) ∧
    (∃ (n : Nat) (b : Bool) (s : State), s.inv = true ∧ s.power.powered = true ∧ s.hasStr n = true ∧
      s.rdB StringTerminals.CONN_OPEN n ≠ b) ∧
    (∃ (a b : Nat) (s : State), s.inv = true ∧ s.running = true ∧ s.panel.retry = false ∧ a < 16 ∧ b < 16) ∧
    (∃ (s : State), s.inv = true ∧ s.power.powered = true ∧ 6 ≤ s.boot.phase ∧ s.boot.halt = false ∧
      s.rdB ModuleTerminals.SEAL_OPEN = false) ∧
    (∃ (s : State), (s.power.powered = false ∨ s.boot.phase < 6 ∨ s.boot.halt = true)) ∧
    (∃ (s : State), s.inv = true ∧ s.power.powered = true) := by
  refine ⟨⟨65535, live, ?_⟩,
    ⟨7, true, live, ?_⟩,
    ⟨15, 15, live, ?_⟩,
    ⟨live, ?_⟩,
    ⟨{ live with boot := { live.boot with phase := 5 } }, ?_⟩,
    ⟨live, ?_⟩⟩
  all_goals repeat' apply And.intro
  all_goals decide +kernel

/-- Meets the hypotheses of Obligations.PresenceAndPanel, clause by clause. -/
theorem test_meets_presence_and_panel :
    (∃ (held : Nat) (s : State), s.running = true ∧ msec 50 ≤ held ∧ held < secs 2) ∧
    (∃ (t : Nat) (s : State), s.panel.lastPress + secs 600 ≤ t) ∧
    (∃ (t since : Nat) (s : State), s.inv = true ∧ s.presenceOk = true ∧ s.panel.fired = false ∧ since + secs 2 ≤ t ∧
      (s.at t).heldAtStart since = false) ∧
    (∃ (t since : Nat) (s : State), s.inv = true ∧ s.running = true ∧ (since + secs 10 < t ∨
      (s.at t).heldAtStart since = true) ∧ since + secs 10 < t) ∧
    (∃ (t since : Nat) (s : State), s.inv = true ∧ s.running = true ∧ (since + secs 10 < t ∨
      (s.at t).heldAtStart since = true) ∧ (s.at t).heldAtStart since = true) ∧
    (∃ (s : State), s.inv = true) ∧
    (∃ (t since : Nat) (s : State), s.inv = true ∧ s.power.powered = true ∧ s.rdB ModuleTerminals.J_SVC_FITTED = false ∧
      since + msec 50 ≤ t ∧ s.presenceOk = true) ∧
    (∃ (s : State), s.inv = true ∧ s.power.powered = true) ∧
    (∃ (t : Nat) (s : State), s.inv = true ∧ s.sec.token ≠ 0 ∧ s.sec.tokenAt + tokenLife ≤ t) := by
  refine ⟨⟨msec 50, live, ?_⟩,
    ⟨secs 600, live, ?_⟩,
    ⟨secs 3, secs 1, live, ?_⟩,
    ⟨secs 11, 0, live, ?_⟩,
    ⟨0, 0, live, ?_⟩,
    ⟨live, ?_⟩,
    ⟨msec 50, 0, live, ?_⟩,
    ⟨live, ?_⟩,
    ⟨tokenLife, withToken 2, ?_⟩⟩
  all_goals repeat' apply And.intro
  all_goals decide +kernel

/-- Meets the hypotheses of Obligations.ConnectionsComeAndGo, clause by clause. -/
theorem test_meets_connections_come_and_go :
    (∃ (id port dst tag : Nat) (s : State), s.mailboxUp = true ∧ s.conn? id = none ∧ (port = 1 ∨ port = 2) ∧
      tag = s.netNow 4 port ∧ dst = s.netNow 3 port ∧ (s.mbx.conns.filter fun c => !c.up).length < 4) ∧
    (∃ (id port dst tag : Nat) (s : State), s.mailboxUp = true ∧ s.conn? id = none ∧ (port = 1 ∨ port = 2) ∧
      tag = s.netNow 4 port ∧ dst = s.netNow 3 port ∧ 4 ≤ (s.mbx.conns.filter fun c => !c.up).length) ∧
    (∃ (t id e : Nat) (h : Hello) (s : State) (c : Conn), s.inv = true ∧ s.mailboxUp = true ∧ s.conn? id = some c ∧
      c.up = false ∧ helloOk h = true ∧ h.chain ≠ [] ∧ h.chain.length ≤ 4 ∧ s.nv.keysPresent = true ∧
      (s.rdB TimeStatus.FIRST_LOCK_DONE = true → Config.datesOk h.chain (s.at t).base = true) ∧
      (s.at t).windowOpen = false ∧ (s.at t).trustMatch h.chain = some e) ∧
    (∃ (t id : Nat) (s : State) (c : Conn), s.inv = true ∧ s.mailboxUp = true ∧ s.conn? id = some c ∧ c.up = false ∧
      c.since + secs 10 ≤ t) ∧
    (∃ (t id : Nat) (s : State) (c : Conn), s.inv = true ∧ s.mailboxUp = true ∧ s.conn? id = some c ∧ c.up = true ∧
      c.opened = false ∧ c.since + secs 10 ≤ t) ∧
    (∃ (s : State), s.running = true) ∧
    (∃ (t id : Nat) (h : Hello) (s : State) (c : Conn), s.inv = true ∧ s.mailboxUp = true ∧ s.conn? id = some c ∧
      c.up = false ∧ (s.at t).windowOpen = true ∧ helloOk h = true ∧ h.chain ≠ [] ∧ h.chain.length ≤ 4 ∧
      s.nv.keysPresent = true ∧ (s.rdB TimeStatus.FIRST_LOCK_DONE = true → Config.datesOk h.chain (s.at t).base = true) ∧
      (∀ x ∈ s.mbx.sess, x.conn ≠ id)) ∧
    (∃ (id : Nat) (s : State) (c : Conn), s.mailboxUp = true ∧ s.conn? id = some c ∧ c.up = true) ∧
    (∃ (id n : Nat) (s : State) (c : Conn), s.mailboxUp = true ∧ s.conn? id = some c ∧ c.up = true ∧ 16384 < n) ∧
    (∃ (id n : Nat) (s : State) (c : Conn), s.mailboxUp = true ∧ s.conn? id = some c ∧ c.up = true ∧ n ≤ 16384) ∧
    (∃ (port k : Nat) (tcp : TcpPorts) (q : NetQuery) (s : State), s.mailboxUp = true ∧ (port = 1 ∨ port = 2) ∧
      tcp.tag = s.netNow 4 port ∧ (q = .arp (s.netNow 0 port) ∨ q = .echo (s.netNow 0 port) false k ∧ k ≤ 1500)) ∧
    (∃ (port k : Nat) (tcp : TcpPorts) (q : NetQuery) (s : State), s.mailboxUp = true ∧ (port = 1 ∨ port = 2) ∧
      tcp.tag = s.netNow 4 port ∧ (q = .arp (s.netNow 0 port) ∨ q = .echo (s.netNow 0 port) false k ∧ k ≤ 1500)) ∧
    (∃ (port a k : Nat) (f : Bool) (tcp : TcpPorts) (q : NetQuery) (s : State), s.mailboxUp = true ∧ (port = 1 ∨ port = 2) ∧
      tcp.tag = s.netNow 4 port ∧ (q = .other ∨ q = .arp a ∧ a ≠ s.netNow 0 port ∨ q = .echo a f k ∧ (a ≠ s.netNow 0 port ∨
      f = true ∨ 1500 < k))) ∧
    (∃ (port a k : Nat) (f : Bool) (tcp : TcpPorts) (q : NetQuery) (s : State), s.mailboxUp = true ∧ (port = 1 ∨ port = 2) ∧
      tcp.tag = s.netNow 4 port ∧ (q = .other ∨ q = .arp a ∧ a ≠ s.netNow 0 port ∨ q = .echo a f k ∧ (a ≠ s.netNow 0 port ∨
      f = true ∨ 1500 < k))) ∧
    (∃ (port a k : Nat) (f : Bool) (tcp : TcpPorts) (q : NetQuery) (s : State), s.mailboxUp = true ∧ (port = 1 ∨ port = 2) ∧
      tcp.tag = s.netNow 4 port ∧ (q = .other ∨ q = .arp a ∧ a ≠ s.netNow 0 port ∨ q = .echo a f k ∧ (a ≠ s.netNow 0 port ∨
      f = true ∨ 1500 < k))) := by
  refine ⟨⟨9, 2, live.netNow 3 2, live.netNow 4 2, live, ?_⟩,
    ⟨8, 1, live.netNow 3 1, live.netNow 4 1, { live with mbx := { live.mbx with conns := List.replicate 4 shaking } }, ?_⟩,
    ⟨0, 9, 0, hello, trusting (withConn shaking), shaking, ?_⟩,
    ⟨secs 10, 9, withConn shaking, shaking, ?_⟩,
    ⟨secs 10, 9, withConn { shaking with up := true }, { shaking with up := true }, ?_⟩,
    ⟨withConn shaking, ?_⟩,
    ⟨0, 9, hello, { withConn shaking with sec := { live.sec with token := 1, window := true } }, shaking, ?_⟩,
    ⟨9, withConn { shaking with up := true }, { shaking with up := true }, ?_⟩,
    ⟨9, 16385, withConn { shaking with up := true }, { shaking with up := true }, ?_⟩,
    ⟨9, 16384, withConn { shaking with up := true }, { shaking with up := true }, ?_⟩,
    ⟨1, 0, ⟨0, 0, live.netNow 4 1⟩, .arp (live.netNow 0 1), live, ?_⟩,
    ⟨2, 1500, ⟨0, 0, live.netNow 4 2⟩, .echo (live.netNow 0 2) false 1500, live, ?_⟩,
    ⟨2, 0, 1501, false, ⟨0, 0, live.netNow 4 2⟩, .echo 0 false 1501, live, ?_⟩,
    ⟨1, live.netNow 0 1, 1500, true, ⟨0, 0, live.netNow 4 1⟩, .echo (live.netNow 0 1) true 1500, live, ?_⟩,
    ⟨1, 0, 1500, true, ⟨0, 0, live.netNow 4 1⟩, .other, live, ?_⟩⟩
  case refine_3 =>
    have h := trusting_facts (s := withConn shaking) (by decide +kernel) (by decide +kernel) (by decide +kernel) 0
    refine ⟨h.1, ?_, by decide +kernel, by decide +kernel, by decide +kernel, by decide +kernel, by decide +kernel,
      by decide +kernel, fun f => ?_, by decide +kernel, h.2.1⟩
    · have r := h.2.2 SecurityStatus.SECURITY_STATE 0 0 (by decide)
      have g : (entered (withConn shaking)).mailboxUp = true := by decide +kernel
      exact (congrArg (fun n => (withConn shaking).running && !(withConn shaking).dieHalted 0 && decide (n ≠ 5) &&
        !(withConn shaking).managerStalled) r).trans g
    · have r := h.2.2 TimeStatus.FIRST_LOCK_DONE 0 0 (by decide)
      have g : (entered (withConn shaking)).rd TimeStatus.FIRST_LOCK_DONE = 0 := by decide +kernel
      exact absurd f (by unfold State.rdB; rw [r, g]; decide)
  all_goals repeat' apply And.intro
  all_goals decide +kernel

/-- Meets the hypotheses of Obligations.SessionsOpenAndClose, clause by clause. -/
theorem test_meets_sessions_open_and_close :
    (∃ (r : Req) (s : State) (c : Conn) (n : Nat), s.inv = true ∧ s.mailboxUp = true ∧ s.conn? r.conn = some c ∧
      c.up = true ∧ (s.mbx.sess.find? fun x => x.conn == r.conn) = none ∧ r.ver = 1 ∧ r.sess = 0 ∧ s.freeSession = some n) ∧
    (∃ (r : Req) (s : State) (c : Conn), s.inv = true ∧ s.mailboxUp = true ∧ s.conn? r.conn = some c ∧ c.up = true ∧
      (s.mbx.sess.find? fun x => x.conn == r.conn) = none ∧ r.ver = 1 ∧ r.sess = 0 ∧ s.freeSession = none) ∧
    (∃ (r : Req) (s : State) (x : Sess), Served r 1 s x) ∧
    (∃ (r : Req) (s : State) (x : Sess), Served r 1 s x) ∧
    (∃ (t num : Nat) (s : State) (x : Sess) (c : Conn), s.mailboxUp = true ∧ s.sess? num = some x ∧
      s.conn? x.conn = some c ∧ x.lastFrame + secs (s.netNow 2 c.port) ≤ t) ∧
    (∃ (conn : Nat) (hdr : Bytes) (s : State) (x : Sess), unreadable hdr = false ∧
      hostCommands.contains (field hdr 4 2) = false ∧ Served ⟨conn, field hdr 2 1, field hdr 0x0A 1, field hdr 8 2⟩ 0 s x) ∧
    (∃ (conn : Nat) (hdr : Bytes) (s : State) (c : Conn), unreadable hdr = true ∧ s.mailboxUp = true ∧
      s.conn? conn = some c ∧ c.up = true) := by
  refine ⟨⟨⟨9, 1, 0, 5⟩, withConn { shaking with up := true }, { shaking with up := true }, 1, ?_⟩,
    ⟨⟨9, 1, 0, 5⟩,
      { withConn { shaking with up := true } with mbx := { (withConn { shaking with up := true }).mbx with sess := (List.range 16).map fun i => { host 3 with num := i + 1, conn := i + 10 } } },
      { shaking with up := true }, ?_⟩,
    ⟨req, with_ 1, host 1, ?_⟩,
    ⟨req, with_ 1, host 1, ?_⟩,
    ⟨secs 65536, 1, with_ 1, host 1, link 1, ?_⟩,
    ⟨1, [0x54, 0x4D, 1, 0, 0x99, 0, 0, 0, 5, 0, 1, 0, 0, 0, 0, 0], with_ 1, host 1, ?_⟩,
    ⟨1, [], with_ 1, link 1, ?_⟩⟩
  all_goals repeat' apply And.intro
  all_goals first | decide +kernel | exact served_of (by decide +kernel)

/-- Meets the hypotheses of Obligations.IdentityReads, clause by clause. -/
theorem test_meets_identity_reads :
    (∃ (r : Req) (s : State) (x : Sess), Served r 1 s x) ∧
    (∃ (r : Req) (p : Bytes) (s : State) (x : Sess), Served r 1 s x ∧ p.length = 1) ∧
    (∃ (r : Req) (p : Bytes) (s : State) (x : Sess), Served r 1 s x ∧ p.length = 33) ∧
    (∃ (r : Req) (p : Bytes) (s : State) (x : Sess), Served r 1 s x ∧ p.length = 1) := by
  refine ⟨⟨req, with_ 1, host 1, ?_⟩,
    ⟨req, [0], with_ 1, host 1, ?_⟩,
    ⟨req, List.replicate 33 255, with_ 1, host 1, ?_⟩,
    ⟨req, [0], with_ 1, host 1, ?_⟩⟩
  all_goals repeat' apply And.intro
  all_goals first | decide +kernel | exact served_of (by decide +kernel)

/-- Meets the hypotheses of Obligations.TransactionsOpenAndEnd, clause by clause. -/
theorem test_meets_transactions_open_and_end :
    (∃ (r : Req) (s : State) (x : Sess), Served r 2 s x ∧ x.txn = none) ∧
    (∃ (r : Req) (s : State) (x : Sess) (q : Txn), Served r 2 s x ∧ x.txn = some q) ∧
    (∃ (t num : Nat) (s : State) (x : Sess) (q : Txn), s.mailboxUp = true ∧ s.sess? num = some x ∧ x.txn = some q ∧
      q.lastFrame + secs 60 ≤ t) := by
  refine ⟨⟨req, with_ 2, host 2, ?_⟩,
    ⟨req, withSess { host 2 with txn := some ⟨[], [], 0⟩ }, { host 2 with txn := some ⟨[], [], 0⟩ }, ⟨[], [], 0⟩, ?_⟩,
    ⟨secs 60, 1, withSess { host 2 with txn := some ⟨[], [], 0⟩ }, { host 2 with txn := some ⟨[], [], 0⟩ }, ⟨[], [], 0⟩, ?_⟩⟩
  all_goals repeat' apply And.intro
  all_goals first | decide +kernel | exact served_of (by decide +kernel)

/-- Meets the hypotheses of Obligations.SecurityStatesChange, clause by clause. -/
theorem test_meets_security_states_change :
    (∃ (t : Nat) (r : Req) (s : State) (x : Sess), s.inv = true ∧ Served r 3 s x ∧ s.security = 1 ∧
      (s.at t).tokenOk x.num true = true ∧ s.inHoldup = false ∧ s.sec.dbgWait = false) ∧
    (∃ (r : Req) (s : State) (x : Sess), s.inv = true ∧ Served r 3 s x ∧ s.inHoldup = false ∧ s.sec.dbgRid = none) ∧
    (∃ (r : Req) (s : State) (x : Sess), s.inv = true ∧ Served r 3 s x ∧ s.inHoldup = false) ∧
    (∃ (r : Req) (p : Bytes) (s : State) (x : Sess), s.inv = true ∧ Served r 3 s x ∧ p.length = 4 ∧ (s.security = 2 ∨
      s.security = 3 ∨ s.security = 4) ∧ s.inHoldup = false ∧ s.updateBusy = false ∧ s.sec.dbgWait = false ∧
      field p 0 1 = 0) ∧
    (∃ (t : Nat) (r : Req) (p : Bytes) (s : State) (x : Sess), s.inv = true ∧ Served r 3 s x ∧ p.length = 4 ∧
      (s.security = 2 ∨ s.security = 3 ∨ s.security = 4) ∧ s.inHoldup = false ∧ s.updateBusy = false ∧
      s.sec.dbgWait = false ∧ field p 0 1 = 1 ∧ (s.at t).tokenOk x.num true = true ∧
      bitOf (s.rd DebugConfig.DEBUG_ALLOWED) 0 = true) ∧
    (∃ (t : Nat) (r : Req) (p : Bytes) (s : State) (x : Sess), s.inv = true ∧ Served r 3 s x ∧ p.length = 4 ∧
      (s.security = 2 ∨ s.security = 3 ∨ s.security = 4) ∧ s.inHoldup = false ∧ s.updateBusy = false ∧
      s.sec.dbgWait = false ∧ field p 0 1 = 2 ∧ (s.at t).tokenOk x.num true = true ∧
      bitOf (s.rd DebugConfig.DEBUG_ALLOWED) 1 = true) ∧
    (∃ (t : Nat) (s : State), s.inv = true ∧ s.running = true ∧ (s.security = 2 ∨ s.security = 3 ∨ s.security = 4) ∧
      s.dieHalted 0 = false ∧ (∀ x ∈ s.mbx.sess, x.cls ≠ 3) ∧ s.sec.idleSince + secs (s.rd DebugConfig.SERVICE_IDLE) ≤ t ∧
      s.inHoldup = false) ∧
    (∃ (d : Nat) (b : Bool) (s : State), s.inv = true ∧ s.running = true ∧ s.hasDie d = true ∧ d < s.sec.halted.length ∧
      (b = false ∨ s.rd SecurityStatus.DEBUG_LEVEL = 2)) ∧
    (∃ (t mv since : Nat) (s : State), s.inv = true ∧ s.power.powered = true ∧ s.rdB SecurityStatus.PROBE_ATTACHED = false ∧
      1500 ≤ mv ∧ since + msec 100 ≤ t ∧ s.sec.dbgWait = false ∧ s.security < 256) ∧
    (∃ (r : Req) (s : State) (x : Sess), s.inHoldup = false ∧ Served r 3 s x) ∧
    (∃ (t : Nat) (r : Req) (p : Bytes) (s : State) (x : Sess), s.inv = true ∧ Served r 3 s x ∧ p.length = 16 ∧
      s.security = 2 ∧ (s.at t).tokenOk x.num false = true ∧ s.inHoldup = false ∧ ofLE p = s.rd ModuleIdentity.SERIAL ∧
      s.allResting = true ∧ s.updateBusy = false) := by
  refine ⟨⟨0, req, (withToken 2).wr SecurityStatus.SECURITY_STATE 0 1, host 3, ?_⟩,
    ⟨req, with_ 3, host 3, ?_⟩,
    ⟨req, { with_ 3 with sec := { live.sec with dbgRid := some ⟨1, 1, 0x72, 4, 0⟩ } }, host 3, ?_⟩,
    ⟨req, [0, 0, 0, 0], ((withToken 2).wr SecurityStatus.SECURITY_STATE 0 2).wr DebugConfig.DEBUG_ALLOWED 0 1, host 3, ?_⟩,
    ⟨0, req, [1, 0, 0, 0], ((withToken 2).wr SecurityStatus.SECURITY_STATE 0 2).wr DebugConfig.DEBUG_ALLOWED 0 1, host 3,
      ?_⟩,
    ⟨0, req, [2, 0, 0, 0], ((withToken 2).wr SecurityStatus.SECURITY_STATE 0 3).wr DebugConfig.DEBUG_ALLOWED 0 2, host 3,
      ?_⟩,
    ⟨secs 65536, live.wr SecurityStatus.SECURITY_STATE 0 2, ?_⟩,
    ⟨7, true, live.wr SecurityStatus.DEBUG_LEVEL 0 2, ?_⟩,
    ⟨msec 100, 1500, 0, live, ?_⟩,
    ⟨req, with_ 3, host 3, ?_⟩,
    ⟨0, req, List.replicate 16 0, (withToken 1).wr SecurityStatus.SECURITY_STATE 0 2, host 3, ?_⟩⟩
  all_goals repeat' apply And.intro
  all_goals first | decide +kernel | exact served_of (by decide +kernel)

/-- Meets the hypotheses of Obligations.DiesAndClocksSupervised, clause by clause. -/
theorem test_meets_dies_and_clocks_supervised :
    (∃ (s : State), s.inv = true ∧ s.running = true ∧ s.rdB ModuleHealth.REFCLK_FAIL = false) ∧
    (∃ (die pace : Nat) (s : State), s.inv = true ∧ s.running = true ∧ s.hasDie die = true ∧ pace < 65536) ∧
    (∃ (t die : Nat) (p : Option Nat) (s : State), s.inv = true ∧ s.running = true ∧ s.hasDie die = true ∧ ((∃ v,
      p = some v ∧ v < 200) ∨ (p = none ∧ (s.die die).lastCount + msec 2 ≤ t))) ∧
    (∃ (t die : Nat) (p : Option Nat) (s : State), s.inv = true ∧ s.running = true ∧ s.hasDie die = true ∧ ((∃ v,
      p = some v ∧ v < 200) ∨ (p = none ∧ (s.die die).lastCount + msec 2 ≤ t))) ∧
    (∃ (t str last : Nat) (s : State), s.inv = true ∧ s.running = true ∧ s.hasStr str = true ∧ last + msec 10 ≤ t) ∧
    (∃ (s : State), s.inv = true ∧ s.running = true) ∧
    (∃ (s : State), s.inv = true ∧ s.running = true) ∧
    (∃ (die : Nat) (s : State), s.inv = true ∧ s.running = true ∧ s.hasDie die = true) ∧
    (∃ (die : Nat) (s : State), s.inv = true ∧ s.running = true ∧ s.hasDie die = true) ∧
    (∃ (die : Nat) (s : State), s.running = true ∧ s.hasDie die = true ∧ s.rd SecurityStatus.DEBUG_LEVEL ≠ 2 ∧
      s.inHoldup = false) := by
  refine ⟨⟨live, ?_⟩,
    ⟨7, 65535, live, ?_⟩,
    ⟨0, 7, some 199, live, ?_⟩,
    ⟨msec 2, 7, none, live, ?_⟩,
    ⟨msec 10, 7, 0, live, ?_⟩,
    ⟨live, ?_⟩,
    ⟨live, ?_⟩,
    ⟨7, live, ?_⟩,
    ⟨7, live, ?_⟩,
    ⟨7, live, ?_⟩⟩
  all_goals repeat' apply And.intro
  all_goals first | decide +kernel | exact exists_some (by decide +kernel)

/-- Meets the hypotheses of Obligations.PeersAreHeard, clause by clause. -/
theorem test_meets_peers_are_heard :
    (∃ (t net src : Nat) (msg : Bytes) (s : State) (c : Instr), s.inv = true ∧ s.ownersRun = true ∧ s.peerGood msg = false ∧
      (c = .announceReceived t net src msg ∨ c = .candidateReceived t net src msg ∨ c = .reportReceived t net src msg ∨
      c = .allocationReceived t net src msg ∨ c = .peerRejected t net src msg)) ∧
    (∃ (t net src : Nat) (msg : Bytes) (s : State), s.inv = true ∧ s.ownersRun = true ∧ Heard s t net src msg 1 ∧
      s.role = roleDiscovering ∧ field (peerBody msg) 12 1 = 0) ∧
    (∃ (t net src : Nat) (msg : Bytes) (s : State), s.inv = true ∧ s.ownersRun = true ∧ Heard s t net src msg 2 ∧
      s.role = roleCandidate ∧ s.outranked (field msg 9 1) (field msg 8 1) = true) ∧
    (∃ (t net src : Nat) (msg : Bytes) (s : State), s.inv = true ∧ s.ownersRun = true ∧ Heard s t net src msg 3 ∧
      s.role = roleManager ∧ (field msg 0x0C 4 = 0 ∨ field msg 0x0C 4 = s.roleEpoch)) ∧
    (∃ (t net src : Nat) (msg : Bytes) (s : State) (ms : List (Nat × List (Nat × Int))) (own : List (Nat × Int)),
      s.inv = true ∧ s.ownersRun = true ∧ Heard s t net src msg 4 ∧ s.role = roleMember ∧
      s.blk.mgr.map (·.1) = some (field msg 8 1) ∧ field msg 0x0C 4 = s.roleEpoch ∧
      allocMembers 16 ((peerBody msg).drop 12) = some ms ∧
      own = ((ms.find? fun x => x.1 == s.rd ModuleIdentity.BLOCK_ID).map (·.2)).getD []) ∧
    (∃ (t net src : Nat) (msg : Bytes) (s : State), s.inv = true ∧ s.ownersRun = true ∧ Heard s t net src msg 4 ∧
      s.role ≠ roleMember ∧ s.role ≠ roleManager) := by
  refine ⟨⟨0, 1, 9, [], live, .peerRejected 0 1 9 [], ?_⟩,
    ⟨0, 1, 9, peerMsg live 1 3 (List.replicate 28 0), live, ?_⟩,
    ⟨0, 1, 9, peerMsg live 2 0 [0, 0, 0, 0], live.wr BlockStatus.ROLE 0 3, ?_⟩,
    ⟨0, 1, 9, peerMsg live 3 0 (List.replicate 32 0), live.wr BlockStatus.ROLE 0 2, ?_⟩,
    ⟨0, 1, 9, peerMsg live 4 3 (List.replicate 12 0 ++ [0, 2, 0, 0, 5, 0, 0, 0]),
      ({ live with blk := { live.blk with mgr := some (5, 1) } }.wr BlockStatus.ROLE 0 1).wr BlockStatus.ROLE_EPOCH 0 3,
      [(0, [(1, 5)])], [(1, 5)], ?_⟩,
    ⟨0, 1, 9, peerMsg live 4 3 (List.replicate 12 0), live, ?_⟩⟩
  case refine_2 => exact ⟨by decide +kernel, by decide +kernel, heard_of (x := live.peerMac _) rfl (by decide +kernel) (by decide +kernel), by decide +kernel⟩
  case refine_3 => exact ⟨by decide +kernel, by decide +kernel, heard_of (mac_of (by decide +kernel)) (by decide +kernel) (by decide +kernel),
    by decide +kernel⟩
  case refine_4 => exact ⟨by decide +kernel, by decide +kernel, heard_of (mac_of (by decide +kernel)) (by decide +kernel) (by decide +kernel),
    by decide +kernel⟩
  case refine_5 => exact ⟨by decide +kernel, by decide +kernel, heard_of (mac_of (by decide +kernel)) (by decide +kernel) (by decide +kernel),
    by decide +kernel, by decide +kernel, by decide +kernel, by decide +kernel, by decide +kernel⟩
  case refine_6 => exact ⟨by decide +kernel, by decide +kernel, heard_of (x := live.peerMac _) rfl (by decide +kernel) (by decide +kernel), by decide +kernel⟩
  all_goals repeat' apply And.intro
  all_goals decide +kernel

/-- Meets the hypotheses of Obligations.RolesAreTakenAndLost, clause by clause. -/
theorem test_meets_roles_are_taken_and_lost :
    (∃ (t : Nat) (s : State), s.inv = true ∧ (s.at t).eligible = true ∧ s.role = roleDiscovering ∧ s.ownersRun = true ∧
      s.blk.listenFrom + s.blk.listen ≤ t) ∧
    (∃ (t a : Nat) (s : State), s.inv = true ∧ (s.at t).eligible = true ∧ s.role = roleCandidate ∧ s.ownersRun = true ∧
      s.blk.candAt = some a ∧ a + msec 500 ≤ t) ∧
    (∃ (t : Nat) (s : State), s.inv = true ∧ (s.at t).eligible = true ∧ s.role = roleManager ∧ s.ownersRun = true ∧
      s.blk.nextSend ≤ t) ∧
    (∃ (t : Nat) (s : State), s.role = roleCandidate ∧ s.ownersRun = true ∧ s.blk.nextSend ≤ t) ∧
    (∃ (t : Nat) (s : State), s.inv = true ∧ s.role = roleMember ∧ s.ownersRun = true ∧
      s.blk.mgrAt + msec (s.bc BlockConfig.MANAGER_TIMEOUT) ≤ t) ∧
    (∃ (t e : Nat) (s : State), s.inv = true ∧ s.blk.holdUntil = some e ∧ e ≤ t) ∧
    (∃ (t net src : Nat) (msg : Bytes) (s : State), s.inv = true ∧ s.ownersRun = true ∧ s.peerGood msg = true ∧
      ((s.at t).peerIn net src msg).2 = true ∧ field msg 8 1 = s.rd ModuleIdentity.BLOCK_ID) ∧
    (∃ (t a : Nat) (s : State), s.inv = true ∧ s.blk.conflictAt = some a ∧ a + secs 5 ≤ t) ∧
    (∃ (port : Nat) (s : State), s.inv = true ∧ s.running = true ∧ (port = 1 ∨ port = 2)) := by
  refine ⟨⟨0, electable, ?_⟩,
    ⟨msec 500, 0, { electable.wr BlockStatus.ROLE 0 3 with blk := { electable.blk with candAt := some 0 } }, ?_⟩,
    ⟨0, electable.wr BlockStatus.ROLE 0 2, ?_⟩,
    ⟨0, electable.wr BlockStatus.ROLE 0 3, ?_⟩,
    ⟨msec 65536, electable.wr BlockStatus.ROLE 0 1, ?_⟩,
    ⟨3, 3, { live with blk := { live.blk with holdUntil := some 3 } }, ?_⟩,
    ⟨secs 5, 1, 9, peerMsg live 1 3 (List.replicate 28 0), live.wr ModuleIdentity.BLOCK_ID 0 5, ?_⟩,
    ⟨secs 5, 0, { live with blk := { live.blk with conflictAt := some 0 } }, ?_⟩,
    ⟨2, live, ?_⟩⟩
  case refine_7 =>
    have g := good_of (s := live.wr ModuleIdentity.BLOCK_ID 0 5) (b := peerHead live 1 3 (List.replicate 28 0))
      (mac_of (s := live) (by decide +kernel)) (by decide +kernel)
    exact ⟨by decide +kernel, by decide +kernel, g, in_of (by decide +kernel) g (by decide +kernel), by decide +kernel⟩
  all_goals repeat' apply And.intro
  all_goals decide +kernel

/-- Meets the hypotheses of Obligations.DispatchCycleRuns, clause by clause. -/
theorem test_meets_dispatch_cycle_runs :
    (∃ (t : Nat) (s : State), s.ownersRun = true ∧ (s.at t).cycleAt ≠ s.blk.cycle) ∧
    (∃ (t : Nat) (s : State), s.blk.reported = false ∧ s.ownersRun = true ∧ s.inHoldup = false ∧
      s.blk.cycle + usec (nth 0 s.timing 1 + s.rd ModuleIdentity.BLOCK_ID * nth 0 s.timing 2) ≤ (s.at t).base ∧
      s.rd ModuleIdentity.BLOCK_ID ≤ 15) ∧
    (∃ (t : Nat) (s : State), s.inv = true ∧ (s.at t).eligible = true ∧ s.role = roleManager ∧ s.ownersRun = true ∧
      s.blk.allocated = false ∧ s.blk.cycle + usec (nth 0 s.timing 3) ≤ (s.at t).base) ∧
    (∃ (t : Nat) (s : State), s.ownersRun = true ∧ s.blk.doneFor ≠ s.blk.cycle ∧
      s.blk.cycle + usec (nth 0 s.timing 4) ≤ (s.at t).base) ∧
    (∃ (t : Nat) (s : State), s.ownersRun = true ∧ s.blk.doneFor ≠ s.blk.cycle ∧
      s.blk.cycle + usec (nth 0 s.timing 4) ≤ (s.at t).base) ∧
    (∃ (t : Nat) (s : State), s.inv = true ∧ s.role = roleManager ∧ s.ownersRun = true ∧ s.bc BlockConfig.HOST_TIMEOUT ≠ 0 ∧
      s.blk.hostAt + secs (s.bc BlockConfig.HOST_TIMEOUT) ≤ t ∧ s.rdB BlockStatus.HOST_TIMEOUT_ACTIVE = false) ∧
    (∃ (r : Req) (p : Bytes) (s : State) (x : Sess), s.inv = true ∧ Served r 2 s x ∧ p.length = 16 ∧ s.roleStale p = false ∧
      field p 8 4 ≠ 0x80000000) ∧
    (∃ (r : Req) (p : Bytes) (s : State) (x : Sess), Served r 1 s x ∧ p.length = 8 ∧ s.roleStale p = false) := by
  refine ⟨⟨0, { live with blk := { live.blk with cycle := 1 } }, ?_⟩,
    ⟨secs 1, { live with blk := { live.blk with reported := false } }, ?_⟩,
    ⟨secs 1, { electable.wr BlockStatus.ROLE 0 2 with blk := { electable.blk with allocated := false } }, ?_⟩,
    ⟨secs 1, { live with blk := { live.blk with doneFor := 1 } }, ?_⟩,
    ⟨secs 1, { live.wr BlockStatus.ROLE 0 2 with blk := { live.blk with doneFor := 1, alloc := some (0, 4, []) } }.wr
      BlockStatus.ROLE_EPOCH 0 4, ?_⟩,
    ⟨secs 65536, (live.wr BlockStatus.ROLE 0 2).wr BlockConfig.HOST_TIMEOUT 0 1, ?_⟩,
    ⟨req, [1, 0, 0, 0, 0, 0, 0, 0, 255, 255, 255, 127, 0, 0, 0, 0], (with_ 2).wr BlockStatus.ROLE 0 2, host 2, ?_⟩,
    ⟨req, [1, 0, 0, 0, 0, 0, 0, 0], (with_ 1).wr BlockStatus.ROLE 0 2, host 1, ?_⟩⟩
  all_goals repeat' apply And.intro
  all_goals first | decide +kernel | exact served_of (by decide +kernel)

/-- Meets the hypotheses of Obligations.ContactorsClose, clause by clause. -/
theorem test_meets_contactors_close :
    (∃ (t : Nat) (r : Req) (p : Bytes) (s : State) (x : Sess), s.inv = true ∧ Served r 2 s x ∧ p.length = 4 ∧
      s.hasStr (nth 0 p 0) = true ∧ nth 0 p 0 ≤ 7 ∧ s.seqState (nth 0 p 0) = seqOpen ∧
      (s.at t).startUnmet (nth 0 p 0) = none ∧ (s.at t).closeUnmet (nth 0 p 0) (decide (s.rd ContactorConfig.PRECHARGE_DV
      (nth 0 p 0) < s.deltaV (nth 0 p 0))) true = none) ∧
    (∃ (t str : Nat) (s : State), s.inv = true ∧ s.hasStr str = true ∧ str ≤ 7 ∧ s.running = true ∧
      s.seqState str = seqClosing ∧ (s.at t).startUnmet str = none ∧
      (s.at t).closeUnmet str (s.prot str).needPre false = none ∧ (s.prot str).needPre = true ∧
      s.rd ProtectionStatus.CLOSING_STEP str = 1 ∧ (s.prot str).cpre.on = false ∧ (s.at t).pickBusy = false) ∧
    (∃ (t str : Nat) (s : State), s.inv = true ∧ s.hasStr str = true ∧ str ≤ 7 ∧ s.running = true ∧
      s.seqState str = seqClosing ∧ (s.at t).startUnmet str = none ∧
      (s.at t).closeUnmet str (s.prot str).needPre false = none ∧ (s.prot str).needPre = false ∧
      s.rd ProtectionStatus.CLOSING_STEP str = 3 ∧ (s.prot str).cneg.on = false ∧ (s.at t).pickBusy = false) ∧
    (∃ (t str : Nat) (s : State), s.inv = true ∧ s.hasStr str = true ∧ str ≤ 7 ∧ s.running = true ∧
      s.seqState str = seqClosing ∧ (s.at t).startUnmet str = none ∧
      (s.at t).closeUnmet str (s.prot str).needPre false = none ∧ (s.prot str).needPre = false ∧
      s.rd ProtectionStatus.CLOSING_STEP str = 3 ∧ (s.prot str).cneg.on = true ∧ (s.at t).pickBusy = false) ∧
    (∃ (t str : Nat) (s : State), s.inv = true ∧ s.hasStr str = true ∧ str ≤ 7 ∧ s.running = true ∧
      s.seqState str = seqClosing ∧ (s.at t).startUnmet str = none ∧
      (s.at t).closeUnmet str (s.prot str).needPre false = none ∧ (s.prot str).needPre = true ∧
      s.rd ProtectionStatus.CLOSING_STEP str = 7 ∧ (s.prot str).cpre.on = true ∧ (∃ f, (s.prot str).fbAt = some f ∧
      f + msec (s.rd ContactorConfig.PRECHARGE_OVERLAP str) ≤ t)) ∧
    (∃ (t str : Nat) (s : State), s.inv = true ∧ s.hasStr str = true ∧ str ≤ 7 ∧ s.running = true ∧
      s.seqState str = seqClosing ∧ (s.at t).startUnmet str = none ∧
      (s.at t).closeUnmet str (s.prot str).needPre false = none ∧ ((s.prot str).needPre = false ∧
      s.rd ProtectionStatus.CLOSING_STEP str = 6 ∧ s.mirror str 0 = false ∨ (s.prot str).needPre = true ∧
      s.rd ProtectionStatus.CLOSING_STEP str = 8 ∧ s.mirror str 2 = true)) ∧
    (∃ (t str : Nat) (s : State), s.inv = true ∧ s.hasStr str = true ∧ str ≤ 7 ∧ s.running = true ∧
      s.seqState str = seqClosing ∧ (s.at t).startUnmet str = none ∧
      (s.at t).closeUnmet str (s.prot str).needPre false = none ∧ ((s.prot str).needPre = false ∧
      s.rd ProtectionStatus.CLOSING_STEP str = 6 ∧ s.mirror str 0 = false ∨ (s.prot str).needPre = true ∧
      s.rd ProtectionStatus.CLOSING_STEP str = 8 ∧ s.mirror str 2 = true)) ∧
    (∃ (t str : Nat) (s : State), s.inv = true ∧ s.hasStr str = true ∧ s.seqState str = seqClosing ∧
      (s.prot str).needPre = true ∧ (s.rd ProtectionStatus.CLOSING_STEP str = 4 ∨
      s.rd ProtectionStatus.CLOSING_STEP str = 5) ∧ (s.prot str).preDone = none ∧
      s.rd ContactorConfig.PRECHARGE_DV str < s.deltaV str ∧ s.power.opened = false ∧ s.caldera = false ∧
      ((s.prot str).step3At + msec (s.rd ContactorConfig.PRECHARGE_TIMEOUT str) ≤ t ∨
      (s.prot str).step3At + msec (s.rd ContactorConfig.PRECHARGE_TIMEOUT str) / 2 ≤ t ∧
      (s.prot str).dv0 ≤ 2 * s.deltaV str)) ∧
    (∃ (t str : Nat) (s : State), s.inv = true ∧ s.hasStr str = true ∧ s.seqState str = seqClosing ∧
      (s.prot str).needPre = true ∧ (s.rd ProtectionStatus.CLOSING_STEP str = 4 ∨
      s.rd ProtectionStatus.CLOSING_STEP str = 5) ∧ (s.prot str).preDone = none ∧
      s.rd ContactorConfig.PRECHARGE_DV str < s.deltaV str ∧ s.power.opened = false ∧ s.caldera = false ∧
      ((s.prot str).step3At + msec (s.rd ContactorConfig.PRECHARGE_TIMEOUT str) ≤ t ∨
      (s.prot str).step3At + msec (s.rd ContactorConfig.PRECHARGE_TIMEOUT str) / 2 ≤ t ∧
      (s.prot str).dv0 ≤ 2 * s.deltaV str)) ∧
    (∃ (t str coil : Nat) (s : State) (read : PulseRead) (side : Nat), s.inv = true ∧ s.hasStr str = true ∧ str ≤ 7 ∧
      coil < 3 ∧ ((s.prot str).coil coil).on = true ∧ (s.at t).pulseDue str coil = true ∧
      (s.at t).pulsesEnded str coil = true ∧ side = (if ((s.prot str).coil coil).test.isSome then 1 else 0) ∧
      pulseOk read = true ∧ side = 0) ∧
    (∃ (t str coil : Nat) (s : State) (read : PulseRead) (side : Nat), s.inv = true ∧ s.hasStr str = true ∧ str ≤ 7 ∧
      coil < 3 ∧ ((s.prot str).coil coil).on = true ∧ (s.at t).pulseDue str coil = true ∧
      (s.at t).pulsesEnded str coil = true ∧ side = (if ((s.prot str).coil coil).test.isSome then 1 else 0) ∧
      pulseOk read = true ∧ side = 1) ∧
    (∃ (t str coil : Nat) (s : State) (read : PulseRead) (side : Nat), s.inv = true ∧ s.hasStr str = true ∧ str ≤ 7 ∧
      coil < 3 ∧ ((s.prot str).coil coil).on = true ∧ (s.at t).pulseDue str coil = true ∧
      (s.at t).pulsesEnded str coil = true ∧ side = (if ((s.prot str).coil coil).test.isSome then 1 else 0) ∧
      pulseOk read = false ∧ s.power.opened = false ∧ s.caldera = false) ∧
    (∃ (t str reads coil : Nat) (s : State), s.inv = true ∧ s.hasStr str = true ∧ s.running = true ∧
      (s.prot str).driveBad = false ∧ coil < 3 ∧ (s.prot str).readAt + msec 100 ≤ t ∧ ((s.prot str).coil coil).on = false ∧
      (bitOf reads (2 * coil) || bitOf reads (2 * coil + 1)) = true ∧ s.power.opened = false ∧ s.caldera = false) ∧
    (∃ (str coil : Nat) (s : State), s.inv = true ∧ s.hasStr str = true ∧ coil < 3 ∧ ((s.prot str).coil coil).on = true ∧
      s.power.opened = false ∧ s.caldera = false) ∧
    (∃ (str a b c : Nat) (s : State), s.inv = true ∧ s.hasStr str = true ∧ s.power.powered = true ∧ a < 65536 ∧ b < 65536 ∧
      c < 65536) := by
  refine ⟨⟨0, req, [1, 0, 0, 0], closable, host 2, ?_⟩,
    ⟨0, 1, closing true 1, ?_⟩,
    ⟨0, 1, closing false 3, ?_⟩,
    ⟨secs 1, 1, (closing false 3).modProt 1 fun p => { p with cneg := { p.cneg with on := true } }, ?_⟩,
    ⟨secs 1, 1, (closing true 7).modProt 1 fun p => { p with cpre := { p.cpre with on := true }, fbAt := some 0 }, ?_⟩,
    ⟨0, 1, closing false 6, ?_⟩,
    ⟨0, 1, opened (closing true 8), ?_⟩,
    ⟨secs 100, 1, (((closable.wr ProtectionStatus.SEQ_STATE 1 1).wr ProtectionStatus.CLOSING_STEP 1 4).wr
      ContactorConfig.PRECHARGE_DV 1 0).modStr 1 fun x =>
      { x with prot := { x.prot with needPre := true }, fe := { x.fe with vals := List.replicate 16 0 |>.set 1 5000 |>.set 2 300 } },
      ?_⟩,
    ⟨1 + msec (closable.rd ContactorConfig.PRECHARGE_TIMEOUT 1) / 2, 1, (((closable.wr ProtectionStatus.SEQ_STATE 1 1).wr
      ProtectionStatus.CLOSING_STEP 1 4).wr ContactorConfig.PRECHARGE_DV 1 0).modStr 1 fun x =>
      { x with prot := { x.prot with needPre := true }, fe := { x.fe with vals := List.replicate 16 0 |>.set 1 5000 |>.set 2 300 } },
      ?_⟩,
    ⟨secs 100000, 7, 2, driving 7, ⟨some 100000, some 100000⟩, 0, ?_⟩,
    ⟨secs 100000, 7, 2, (driving 7).modProt 7 fun p => { p with cpre := { p.cpre with test := some 0 } }, ⟨some 0,
      some 100000⟩, 1, ?_⟩,
    ⟨secs 100000, 7, 2, driving 7, ⟨some 100001, some 0⟩, 0, ?_⟩,
    ⟨msec 100, 7, 1, 0, live, ?_⟩,
    ⟨7, 2, driving 7, ?_⟩,
    ⟨7, 65535, 0, 0, live, ?_⟩⟩
  all_goals repeat' apply And.intro
  all_goals first | decide +kernel | exact served_of (by decide +kernel)

/-- Meets the hypotheses of Obligations.ContactorsOpen, clause by clause. -/
theorem test_meets_contactors_open :
    (∃ (r : Req) (p : Bytes) (s : State) (x : Sess), s.inv = true ∧ Served r 2 s x ∧ p.length = 4 ∧
      s.hasStr (nth 0 p 0) = true ∧ nth 0 p 0 ≤ 7 ∧ s.seqState (nth 0 p 0) = seqClosed) ∧
    (∃ (r : Req) (p : Bytes) (s : State) (x : Sess), s.inv = true ∧ Served r 2 s x ∧ p.length = 4 ∧
      s.hasStr (nth 0 p 0) = true ∧ nth 0 p 0 ≤ 7 ∧ (s.seqState (nth 0 p 0) = seqOpen ∨
      s.seqState (nth 0 p 0) = seqTripped)) ∧
    (∃ (t str : Nat) (s : State), s.inv = true ∧ s.hasStr str = true ∧ str ≤ 7 ∧ s.seqState str = seqOpening ∧
      (s.prot str).openPhase = 1 ∧ ((s.rdI CoulombStatus.CURRENT str).natAbs ≤ s.rd ContactorConfig.OPEN_I_MAX str ∨
      (s.prot str).openAt + msec (s.rd ContactorConfig.OPEN_WAIT str) ≤ t)) ∧
    (∃ (t str : Nat) (s : State), s.inv = true ∧ s.hasStr str = true ∧ s.seqState str = seqOpening ∧
      (s.prot str).openPhase = 2 ∧ (s.prot str).phaseAt + msec 20 ≤ t ∧ ¬ (s.mirror str 0 = true ∧ s.mirror str 1 = true ∧
      s.mirror str 2 = true)) ∧
    (∃ (t str : Nat) (s : State), s.inv = true ∧ s.hasStr str = true ∧ s.seqState str = seqOpening ∧
      (s.prot str).openPhase = 2 ∧ (s.prot str).phaseAt + msec 20 ≤ t ∧ s.mirror str 0 = true ∧ s.mirror str 1 = true ∧
      s.mirror str 2 = true) ∧
    (∃ (str : Nat) (s : State), s.inv = true ∧ s.hasStr str = true ∧ s.running = true ∧ s.power.opened = false ∧
      s.seqState str = seqOpening ∧ (s.prot str).openPhase = 3 ∧ (s.prot str).judge = [] ∧ s.mirror str 0 = true ∧
      s.mirror str 1 = true ∧ s.mirror str 2 = true) ∧
    (∃ (t : Nat) (s : State), s.inv = true ∧ s.power.supply = .holdup ∧ s.power.opened = false ∧
      s.power.holdupAt + msec (s.rd PowerConfig.HOLDUP_OPEN_DELAY) ≤ t) := by
  refine ⟨⟨req, [1, 0, 0, 0], closable.wr ProtectionStatus.SEQ_STATE 1 2, host 2, ?_⟩,
    ⟨req, [1, 0, 0, 0], closable, host 2, ?_⟩,
    ⟨secs 100, 7, ((driving 7).wr ProtectionStatus.SEQ_STATE 7 3).modProt 7 fun p => { p with openPhase := 1 }, ?_⟩,
    ⟨msec 20, 7, ((driving 7).wr ProtectionStatus.SEQ_STATE 7 3).modProt 7 fun p => { p with openPhase := 2 }, ?_⟩,
    ⟨msec 20, 7, opened (((driving 7).wr ProtectionStatus.SEQ_STATE 7 3).modProt 7 fun p => { p with openPhase := 2 }), ?_⟩,
    ⟨7, (opened (live.wr ProtectionStatus.SEQ_STATE 7 3)).modProt 7 fun p => { p with openPhase := 3 }, ?_⟩,
    ⟨secs 1, inHold, ?_⟩⟩
  all_goals repeat' apply And.intro
  all_goals first | decide +kernel | exact served_of (by decide +kernel)

/-- Meets the hypotheses of Obligations.FrontEndTrips, clause by clause. -/
theorem test_meets_front_end_trips :
    (∃ (t str i : Nat) (c : Instr) (s : State), s.inv = true ∧ s.hasStr str = true ∧ s.power.powered = true ∧ i < 65536 ∧
      (c = .faultLoopOpen t str i ∨ c = .faultLoopClosed t str i) ∧ i ≤ 400 ∧ s.driven str = true ∧ s.power.opened = false ∧
      s.caldera = false) ∧
    (∃ (t str i : Nat) (c : Instr) (s : State), s.inv = true ∧ s.hasStr str = true ∧ s.power.powered = true ∧ i < 65536 ∧
      (c = .faultLoopOpen t str i ∨ c = .faultLoopClosed t str i)) ∧
    (∃ (str : Nat) (v : Int) (s : State), s.inv = true ∧ s.hasStr str = true ∧ s.power.powered = true ∧
      s.hasProf str = true ∧ s.prof str 0x3E 2 < v.natAbs ∧ (s.prot str).feLatch.contains 2 = false ∧
      s.power.opened = false ∧ s.caldera = false) ∧
    (∃ (t str : Nat) (s : State), s.inv = true ∧ s.hasStr str = true ∧ (s.str str).fe.up = true ∧
      (s.prot str).hbLast + msec 5 ≤ max s.now t ∧ (s.prot str).feLatch.contains 17 = false ∧ s.power.opened = false ∧
      s.caldera = false) ∧
    (∃ (t str : Nat) (s : State), s.inv = true ∧ s.hasStr str = true ∧ (s.str str).fe.up = true ∧
      (s.prot str).hbLast + msec 5 ≤ max s.now t ∧ (s.prot str).feLatch.contains 17 = false ∧ s.power.opened = false ∧
      s.caldera = false) ∧
    (∃ (t str count : Nat) (ok : Bool) (s : State), s.inv = true ∧ s.hasStr str = true ∧ (s.str str).fe.up = true ∧
      max s.now t < (s.prot str).hbLast + msec 5 ∧ ok = true ∧ (∀ c,
      (s.prot str).hbCount = some c → count = (c + 1) % 65536)) ∧
    (∃ (t str : Nat) (ok : Bool) (s : State), s.inv = true ∧ s.hasStr str = true ∧ (s.str str).fe.up = true ∧
      max s.now t < (s.prot str).hbLast + msec 5 ∧ ok = false) ∧
    (∃ (t str : Nat) (s : State), s.inv = true ∧ s.hasStr str = true ∧ (s.str str).fe.up = true ∧
      max s.now t < (s.prot str).hbLast + msec 5 ∧ s.rdB DieStatus.DIE_STALLED str = false ∧ s.boot.halt = false) := by
  refine ⟨⟨0, 7, 400, .faultLoopOpen 0 7 400, live.wr ProtectionStatus.SEQ_STATE 7 2, ?_⟩,
    ⟨0, 7, 600, .faultLoopClosed 0 7 600, live, ?_⟩,
    ⟨1, -1, closable, ?_⟩,
    ⟨msec 5, 7, withFe 7, ?_⟩,
    ⟨msec 5, 7, (withFe 7).modProt 7 fun p => { p with hbCount := some 0 }, ?_⟩,
    ⟨msec 5 - 1, 7, 0, true, (withFe 7).modProt 7 fun p => { p with hbCount := some 65535 }, ?_⟩,
    ⟨0, 7, false, withFe 7, ?_⟩,
    ⟨0, 7, withFe 7, ?_⟩⟩
  all_goals repeat' apply And.intro
  all_goals first | decide +kernel | exact forall_some (by decide +kernel)

/-- Meets the hypotheses of Obligations.SafeLoopAndTelegrams, clause by clause. -/
theorem test_meets_safe_loop_and_telegrams :
    (∃ (i : Nat) (s : State), s.inv = true ∧ s.power.powered = true ∧ i < 65536) ∧
    (∃ (t e : Nat) (s : State), s.safe.ownEnd = some e ∧ s.safe.origin = true ∧ e + msec 100 ≤ t ∧ s.loopOwn = false ∧
      s.safe.own = false) ∧
    (∃ (t : Nat) (s : State), s.telegramsRun = true ∧ (s.safe.running = true ∨ (s.enumComplete = true ∧
      (s.at t).base % 1000000 = 0)) ∧ (∀ l, s.safe.last = some l → l + msec (s.rd SafeTelegramConfig.PERIOD) ≤ t)) ∧
    (∃ (t : Nat) (s : State), s.telegramsRun = true ∧ (s.safe.running = true ∨ (s.enumComplete = true ∧
      (s.at t).base % 1000000 = 0)) ∧ (∀ l, s.safe.last = some l → l + msec (s.rd SafeTelegramConfig.PERIOD) ≤ t)) ∧
    (∃ (net src port : Nat) (b : Bytes) (s : State), s.running = true ∧ s.security ≠ 5 ∧ (net = 1 ∨ net = 2) ∧ src ≠ 0 ∧
      src = s.rd (if net = 1 then SafeTelegramConfig.SENDER_A else SafeTelegramConfig.SENDER_B) ∧
      port = s.rd SafeTelegramConfig.SAFE_UDP_PORT ∧ s.safeCmdOk b = true ∧ s.safe.copy net = none ∧
      s.safe.copy (3 - net) = none) ∧
    (∃ (t net src port : Nat) (b : Bytes) (s : State) (a : Nat), s.running = true ∧ s.security ≠ 5 ∧ (net = 1 ∨ net = 2) ∧
      src ≠ 0 ∧ src = s.rd (if net = 1 then SafeTelegramConfig.SENDER_A else SafeTelegramConfig.SENDER_B) ∧
      port = s.rd SafeTelegramConfig.SAFE_UDP_PORT ∧ s.safeCmdOk b = true ∧ s.safe.copy net = none ∧
      s.safe.copy (3 - net) = some ⟨b, a⟩ ∧ max s.now t ≤ a + msec 20) ∧
    (∃ (t net : Nat) (c : SafeCopy) (s : State), s.inv = true ∧ (net = 1 ∨ net = 2) ∧ s.safe.copy net = some c ∧
      c.at_ + msec 20 ≤ t) ∧
    (∃ (t str e : Nat) (s : State), s.inv = true ∧ s.hasStr str = true ∧ s.running = true ∧
      (s.prot str).enableUntil = some e ∧ e ≤ t) := by
  refine ⟨⟨65535, live, ?_⟩,
    ⟨msec 100, 0, { live with safe := { live.safe with ownEnd := some 0, origin := true } }, ?_⟩,
    ⟨0, { live with safe := { live.safe with running := true } }, ?_⟩,
    ⟨0, { live with boot := { live.boot with enumDone := List.replicate 8 true } }, ?_⟩,
    ⟨1, 7, live.rd SafeTelegramConfig.SAFE_UDP_PORT, safeCmdBytes, live.wr SafeTelegramConfig.SENDER_A 0 7, ?_⟩,
    ⟨0, 1, 7, live.rd SafeTelegramConfig.SAFE_UDP_PORT, safeCmdBytes,
      { live.wr SafeTelegramConfig.SENDER_A 0 7 with safe := { live.safe with copyB := some ⟨safeCmdBytes, 0⟩ } }, 0, ?_⟩,
    ⟨msec 20, 2, ⟨[], 0⟩, { live with safe := { live.safe with copyB := some ⟨[], 0⟩ } }, ?_⟩,
    ⟨0, 7, 0, live.modProt 7 fun p => { p with enableUntil := some 0 }, ?_⟩⟩
  all_goals repeat' apply And.intro
  all_goals first | decide +kernel | exact forall_some (by decide +kernel)

/-- Meets the hypotheses of Obligations.CanFramesAndErrors, clause by clause. -/
theorem test_meets_can_frames_and_errors :
    (∃ (ch o : Nat) (d : Bytes) (s : State), s.inv = true ∧ ch < 3 ∧ s.canUp = true ∧ s.canOn ch = true ∧
      (s.bus ch).busy = some (o, d) ∧ (s.bus ch).leaving = false) ∧
    (∃ (ch o : Nat) (d : Bytes) (s : State) (k : Nat), s.inv = true ∧ ch < 3 ∧ s.canUp = true ∧ s.canOn ch = true ∧
      (s.bus ch).busy = some (o, d) ∧ (s.bus ch).leaving = false ∧ 2 ≤ k ∧ k ≤ 6) ∧
    (∃ (ch ident : Nat) (xtd remote : Bool) (data : Bytes) (s : State), s.inv = true ∧ s.canUp = true ∧ s.canOn ch = true ∧
      data.length ≤ 64 ∧ remote = false ∧ s.rxObject ch ident xtd = some 256) ∧
    (∃ (ch : Nat) (remote : Bool) (data : Bytes) (s : State), s.inv = true ∧ s.canUp = true ∧ s.canOn ch = true ∧
      data.length ≤ 64 ∧ remote = true) ∧
    (∃ (ch ident : Nat) (xtd : Bool) (data : Bytes) (s : State), s.inv = true ∧ s.canUp = true ∧ s.canOn ch = true ∧
      data.length ≤ 64 ∧ s.rxObject ch ident xtd = none) ∧
    (∃ (ch ident : Nat) (xtd : Bool) (data : Bytes) (s : State), s.inv = true ∧ s.canUp = true ∧ s.canOn ch = true ∧
      data.length ≤ 64 ∧ s.rxObject ch ident xtd = some 256 ∧ s.rdB CanObject.NEW_DATA 256 = true) ∧
    (∃ (ch : Nat) (s : State), s.inv = true ∧ s.canUp = true ∧ s.canOn ch = true) ∧
    (∃ (ch : Nat) (s : State), s.inv = true ∧ s.canUp = true ∧ s.canOn ch = true) ∧
    (∃ (ch : Nat) (s : State), s.inv = true ∧ s.canUp = true ∧ s.rd CanChannel.CHANNEL_STATE ch = canIntegrating ∧
      (s.bus ch).leaving = false) ∧
    (∃ (t ch : Nat) (s : State), s.inv = true ∧ s.canUp = true ∧ s.rd CanChannel.CHANNEL_STATE ch = canRecovering ∧
      (s.bus ch).leaving = false ∧ (s.bus ch).recAt + 1408 * 25 * s.nomQuanta ch ≤ t) ∧
    (∃ (ch o : Nat) (d : Bytes) (rest : List (Nat × Bytes)) (s : State), s.inv = true ∧ s.canUp = true ∧ ch < 3 ∧
      s.fallback ch = true ∧ o / 128 = ch ∧ (s.bus ch).fbq = (o, d) :: rest) := by
  refine ⟨⟨2, 383, [7], (live.wr CanChannel.CHANNEL_STATE 2 2).modBus 2 fun b => { b with busy := some (383, [7]) }, ?_⟩,
    ⟨2, 383, [7], (live.wr CanChannel.CHANNEL_STATE 2 2).modBus 2 fun b => { b with busy := some (383, [7]) }, 6, ?_⟩,
    ⟨2, 0, false, false, List.replicate 64 255, (live.wr CanChannel.CHANNEL_STATE 2 2).wr CanObject.DIRECTION 256 1, ?_⟩,
    ⟨2, true, List.replicate 64 255, (live.wr CanChannel.CHANNEL_STATE 2 2).wr CanObject.DIRECTION 256 1, ?_⟩,
    ⟨2, 0, false, List.replicate 64 255, live.wr CanChannel.CHANNEL_STATE 2 2, ?_⟩,
    ⟨2, 0, false, List.replicate 64 255,
      ((live.wr CanChannel.CHANNEL_STATE 2 2).wr CanObject.DIRECTION 256 1).wrB CanObject.NEW_DATA 256 true, ?_⟩,
    ⟨2, live.wr CanChannel.CHANNEL_STATE 2 3, ?_⟩,
    ⟨2, live.wr CanChannel.CHANNEL_STATE 2 3, ?_⟩,
    ⟨2, live.wr CanChannel.CHANNEL_STATE 2 1, ?_⟩,
    ⟨secs 100, 2, live.wr CanChannel.CHANNEL_STATE 2 5, ?_⟩,
    ⟨2, 300, [1], [], (live.wr CanChannel.CHANNEL_STATE 2 4).modBus 2 fun b => { b with fbq := [(300, [1])] }, ?_⟩⟩
  all_goals repeat' apply And.intro
  all_goals decide +kernel

/-- Meets the hypotheses of Obligations.ControlChannelsSample, clause by clause. -/
theorem test_meets_control_channels_sample :
    (∃ (t ch tm : Nat) (v : Int) (q : Option (Nat × Int)) (s : State), s.inv = true ∧ s.hasChan ch = true ∧
      s.controlRuns = true ∧ s.chState ch = 1 ∧ s.rd ChannelConfig.GROUP ch = 0 ∧ s.rd ChannelConfig.INPUT_KIND ch ≠ 5 ∧
      s.isVector ch = false ∧ (s.chan ch).open_ = none ∧ (s.chan ch).old = [] ∧ (∀ l, (s.chan ch).lastM = some l → l < tm) ∧
      (s.at t).chInstant ch (s.at t).base = some tm ∧ (s.at t).inputOf ch tm = (.val v, q)) ∧
    (∃ (t ch tm : Nat) (s : State), s.inv = true ∧ s.hasChan ch = true ∧ s.controlRuns = true ∧ 2 ≤ s.chState ch ∧
      (s.chan ch).old = [] ∧ (∀ d ∈ s.groupOf ch, (s.chan d).open_ = none) ∧ (∀ l, (s.chan ch).lastM = some l → l < tm) ∧
      s.chDeadline ch ≤ (s.at t).base ∧ (s.at t).chInstant ch ((s.at t).base - s.chDeadline ch) = some tm ∧
      (s.chState ch = 2 ∨ s.chState ch = 3)) ∧
    (∃ (str src : Nat) (convs : List (Nat × Int)) (q : Inj) (s : State), s.inv = true ∧ s.hasStr str = true ∧
      (s.fe str).up = true ∧ (src = 2 ∨ src = 3) ∧ injNext (s.fe str).injQ = some q ∧ q.src = src ∧ q.count = convs.length ∧
      (∀ y ∈ (s.fe str).injQ, y.src ≠ 1) ∧ src = 2 ∧ s.rdB SequenceResults.REF_SETTLED str = true ∧ convs ≠ []) ∧
    (∃ (str src : Nat) (convs : List (Nat × Int)) (q : Inj) (s : State), s.inv = true ∧ s.hasStr str = true ∧
      (s.fe str).up = true ∧ (src = 2 ∨ src = 3) ∧ injNext (s.fe str).injQ = some q ∧ q.src = src ∧ q.count = convs.length ∧
      (∀ y ∈ (s.fe str).injQ, y.src ≠ 1) ∧ src = 3) ∧
    (∃ (t str : Nat) (convs : List (Nat × Int)) (s : State), s.inv = true ∧ s.hasStr str = true ∧ (s.fe str).up = true ∧
      (∀ y ∈ (s.fe str).injQ, y.src ≠ 1) ∧ (s.fe str).winIdx = (s.at t).base / 100000 ∧
      (s.fe str).winProt + convs.length ≤ 8) := by
  refine ⟨⟨secs 3, 1, secs 3, 0, none, ((live.wr ChannelStatus.CHANNEL_STATE 1 1).wr ChannelConfig.INPUT_KIND 1 11).wr
      ChannelConfig.PERIOD 1 1000 |> fun s => { s with thermal := { s.thermal with lastRound := some 3, tMax := some 0 } },
      ?_⟩,
    ⟨secs 3, 1, 2990000000,
      ((live.wr ChannelStatus.CHANNEL_STATE 1 2).wr ChannelConfig.PERIOD 1 10000).wr ChannelConfig.MISS_LIMIT 1 1, ?_⟩,
    ⟨7, 2, [(8, 3), (9, -5)], ⟨2, 3, 0, 2⟩, ((withFe 7).modFe 7 fun f =>
      { f with injQ := [⟨3, 1, 0, 1⟩, ⟨2, 3, 0, 2⟩] }).wrB SequenceResults.REF_SETTLED 7 true, ?_⟩,
    ⟨7, 3, [(8, 3)], ⟨3, 1, 0, 1⟩, (withFe 7).modFe 7 fun f => { f with injQ := [⟨3, 1, 0, 1⟩] }, ?_⟩,
    ⟨100000, 7, [(8, 3), (9, -5)], (withFe 7).modFe 7 fun f => { f with winIdx := 1, winProt := 6 }, ?_⟩⟩
  all_goals repeat' apply And.intro
  all_goals first | decide +kernel | exact forall_some (by decide +kernel)

/-- Meets the hypotheses of Obligations.CollectorHandsOn, clause by clause. -/
theorem test_meets_collector_hands_on :
    (∃ (t str seq : Nat) (x : Lap) (xs : List Lap) (s : State), s.inv = true ∧ s.hasStr str = true ∧ s.running = true ∧
      (s.laps str).cur = x :: xs ∧ x.seq = seq ∧ x.handed.isSome = true ∧ x.resultAt ≤ (s.at t).lapNow x) ∧
    (∃ (str : Nat) (v : LapUnit) (vs : List LapUnit) (s : State), s.inv = true ∧ s.hasStr str = true ∧ s.running = true ∧
      (s.str str).units = v :: vs ∧ s.coll.gone.contains (str, v.seq) = false) ∧
    (∃ (n : Nat) (h : LapUnit) (s : State), s.inv = true ∧ s.running = true ∧ s.hasStr n = true ∧ (∀ m ∈ s.strList,
      s.announced m = []) ∧ (∀ m ∈ s.strList, ∀ v ∈ (s.str m).queue, v.str = m ∧ h.due ≤ v.due) ∧
      (s.str n).queue.head? = some h) ∧
    (∃ (region : Nat) (s : State), s.inv = true ∧ s.running = true ∧ 1 ≤ region ∧ region ≤ 5 ∧ 3 ≤ region) ∧
    (∃ (region : Nat) (s : State), s.inv = true ∧ s.running = true ∧ 1 ≤ region ∧ region ≤ 5 ∧ region ≤ 2 ∧
      s.inHoldup = false) := by
  refine ⟨⟨100000, 7, 3, lap3, [], live.modLaps 7 fun l => { l with cur := [lap3] }, ?_⟩,
    ⟨7, ⟨7, 3, 0, 0, 0, 0, [], [], false⟩, [],
      live.modStr 7 fun y => { y with units := [⟨7, 3, 0, 0, 0, 0, [], [], false⟩] }, ?_⟩,
    ⟨7, ⟨7, 3, 0, 0, 0, 0, [], [], false⟩, live.modStr 7 fun y => { y with queue := [⟨7, 3, 0, 0, 0, 0, [], [], false⟩] },
      ?_⟩,
    ⟨5, live, ?_⟩,
    ⟨1, live, ?_⟩⟩
  all_goals repeat' apply And.intro
  all_goals decide +kernel

/-- Meets the hypotheses of Obligations.FrontEndMeasures, clause by clause. -/
theorem test_meets_front_end_measures :
    (∃ (t str : Nat) (s : State), s.inv = true ∧ s.hasStr str = true ∧ (s.fe str).up = true ∧ sampleReady ≤ (s.at t).plain ∧
      (∀ x, (s.fe str).samples.head? = some x → x.at_ < ((s.at t).plain - sampleReady) / samplePeriod * samplePeriod)) ∧
    (∃ (t str : Nat) (raw : Int) (s : State), s.inv = true ∧ s.hasStr str = true ∧ (s.fe str).up = true ∧
      sampleReady ≤ (s.at t).plain ∧ (∀ x,
      (s.fe str).samples.head? = some x → x.at_ < ((s.at t).plain - sampleReady) / samplePeriod * samplePeriod) ∧
      2 ^ 23 < raw.natAbs) ∧
    (∃ (t str lap p : Nat) (late : Bool) (rest : List (Nat × Bool × Nat)) (s : State), s.inv = true ∧ s.hasStr str = true ∧
      (s.fe str).up = true ∧ (s.fe str).named = (lap, late, p) :: rest ∧ p + msec 4 < (s.at t).plain) ∧
    (∃ (t str lap p : Nat) (late ok1 ok2 : Bool) (rest : List (Nat × Bool × Nat)) (s : State) (i q : Int), s.inv = true ∧
      s.hasStr str = true ∧ (s.fe str).up = true ∧ (s.fe str).named = (lap, late, p) :: rest ∧ (s.at t).plain ≤ p + msec 4 ∧
      referTo p (s.fe str).samples = some (i, q) ∧ ok1 = false ∧ ok2 = false) ∧
    (∃ (t str lap p : Nat) (late ok1 ok2 : Bool) (rest : List (Nat × Bool × Nat)) (s : State) (i q : Int), s.inv = true ∧
      s.hasStr str = true ∧ (s.fe str).up = true ∧ (s.fe str).named = (lap, late, p) :: rest ∧ (s.at t).plain ≤ p + msec 4 ∧
      referTo p (s.fe str).samples = some (i, q) ∧ (ok1 = true ∨ ok2 = true)) ∧
    (∃ (t str : Nat) (s : State), s.inv = true ∧ s.hasStr str = true ∧ (s.fe str).up = true ∧ (s.fe str).warmEnd ≤ t) ∧
    (∃ (t str d : Nat) (s : State), s.inv = true ∧ s.hasStr str = true ∧ (s.fe str).refDue = some d ∧ d ≤ t) ∧
    (∃ (str input avg : Nat) (left : Bool) (convs : List (Nat × Int)) (s : State), s.inv = true ∧ s.hasStr str = true ∧
      (s.fe str).up = true ∧ (s.fe str).seqCfg[(s.fe str).seqNext]? = some (input, avg, left) ∧ (s.fe str).seqNext < 16 ∧
      convs.length = 2 ^ avg ∧ (s.fe str).seqCfg.length ≤ (s.fe str).seqNext + 1) ∧
    (∃ (str input avg : Nat) (left : Bool) (convs : List (Nat × Int)) (s : State), s.inv = true ∧ s.hasStr str = true ∧
      (s.fe str).up = true ∧ (s.fe str).seqCfg[(s.fe str).seqNext]? = some (input, avg, left) ∧ (s.fe str).seqNext < 16 ∧
      convs.length = 2 ^ avg ∧ (s.fe str).seqNext + 1 < (s.fe str).seqCfg.length) ∧
    (∃ (t str x half : Nat) (s : State), s.inv = true ∧ s.hasStr str = true ∧ (s.rd InsulationStatus.IMD_STATE str = 1 ∧
      s.imdNow str ≠ 5 ∨ s.rd InsulationStatus.IMD_STATE str = 2) ∧ 2500 ≤ half ∧ half ≤ 10000 ∧ x ≤ 10000 ∧
      (s.fe str).imdCycleAt + 2 * msec half ≤ t ∧ s.rd InsulationStatus.IMD_STATE str = 1) ∧
    (∃ (t str x half : Nat) (s : State), s.inv = true ∧ s.hasStr str = true ∧ (s.rd InsulationStatus.IMD_STATE str = 1 ∧
      s.imdNow str ≠ 5 ∨ s.rd InsulationStatus.IMD_STATE str = 2) ∧ 2500 ≤ half ∧ half ≤ 10000 ∧ x ≤ 10000 ∧
      (s.fe str).imdCycleAt + 2 * msec half ≤ t ∧ s.rd InsulationStatus.IMD_STATE str = 2) ∧
    (∃ (t str x half : Nat) (s : State), s.inv = true ∧ s.hasStr str = true ∧ (s.rd InsulationStatus.IMD_STATE str = 1 ∧
      s.imdNow str ≠ 5 ∨ s.rd InsulationStatus.IMD_STATE str = 2) ∧ 2500 ≤ half ∧ half ≤ 10000 ∧ x ≤ 10000 ∧
      (s.fe str).imdCycleAt + 2 * msec half ≤ t) ∧
    (∃ (t str e : Nat) (s : State), s.inv = true ∧ s.hasStr str = true ∧ (s.fe str).imdPauseEnd = some e ∧ e ≤ t) := by
  refine ⟨⟨secs 1, 7, withFe 7, ?_⟩,
    ⟨secs 1, 7, 2 ^ 23 + 1, withFe 7, ?_⟩,
    ⟨msec 4 + 1, 7, 4, 0, true, [],
      (withFe 7).modFe 7 fun f => { f with named := [(4, true, 0)], samples := [⟨0, 5, 65536, false⟩] }, ?_⟩,
    ⟨0, 7, 4, 0, true, false, false, [],
      (withFe 7).modFe 7 fun f => { f with named := [(4, true, 0)], samples := [⟨0, 5, 65536, false⟩] }, 5, 65536, ?_⟩,
    ⟨0, 7, 4, 0, true, false, true, [],
      (withFe 7).modFe 7 fun f => { f with named := [(4, true, 0)], samples := [⟨0, 5, 65536, false⟩] }, 5, 65536, ?_⟩,
    ⟨secs 1200, 7, withFe 7, ?_⟩,
    ⟨5, 7, 5, (withFe 7).modFe 7 fun f => { f with refDue := some 5 }, ?_⟩,
    ⟨7, 0, 0, true, [(4, -3)], (withFe 7).modFe 7 fun f => { f with seqCfg := [(0, 0, true)] }, ?_⟩,
    ⟨7, 0, 0, true, [(4, -3)], (withFe 7).modFe 7 fun f => { f with seqCfg := [(0, 0, true), (1, 0, false)] }, ?_⟩,
    ⟨secs 100, 7, 10000, 10000, live.wr InsulationStatus.IMD_STATE 7 1, ?_⟩,
    ⟨secs 100, 7, 10000, 10000, live.wr InsulationStatus.IMD_STATE 7 2, ?_⟩,
    ⟨secs 100, 7, 10000, 10000, live.wr InsulationStatus.IMD_STATE 7 1, ?_⟩,
    ⟨5, 7, 5, (withFe 7).modFe 7 fun f => { f with imdPauseEnd := some 5 }, ?_⟩⟩
  all_goals repeat' apply And.intro
  all_goals first | decide +kernel | exact forall_some (by decide +kernel)

/-- Meets the hypotheses of Obligations.CalibrationRuns, clause by clause. -/
theorem test_meets_calibration_runs :
    (∃ (t n tg step : Nat) (r : Req) (p : Bytes) (c : Instr) (s : State) (x : Sess), s.inv = true ∧ Served r 3 s x ∧
      p.length = 8 ∧ n = nth 0 p 0 ∧ tg = nth 0 p 1 ∧ step = nth 0 p 2 ∧ s.security = 2 ∧ s.hasStr n = true ∧ n ≤ 7 ∧
      tg ≤ 5 ∧ (c = .calLowPoint t r p ∧ step = 1 ∨ c = .calHighPoint t r p ∧ step = 2) ∧ (∀ k,
      (s.fe n).cal = some k → k.sess = x.num ∧ k.target = tg ∧ k.capture = none) ∧
      s.calRange n tg step (toInt 32 (field p 4 4)) (s.fe n).cal = false ∧ s.calUnmet n tg step (s.fe n).cal = none) ∧
    (∃ (t n tg step : Nat) (r : Req) (p : Bytes) (c : Instr) (s : State) (x : Sess), s.inv = true ∧ Served r 3 s x ∧
      p.length = 8 ∧ n = nth 0 p 0 ∧ tg = nth 0 p 1 ∧ step = nth 0 p 2 ∧ s.security = 2 ∧ s.hasStr n = true ∧ n ≤ 7 ∧
      tg ≤ 5 ∧ (c = .calLowPoint t r p ∧ step = 1 ∨ c = .calHighPoint t r p ∧ step = 2) ∧ (∀ k,
      (s.fe n).cal = some k → k.sess = x.num ∧ k.target = tg ∧ k.capture = none) ∧
      s.calRange n tg step (toInt 32 (field p 4 4)) (s.fe n).cal = false ∧ s.calUnmet n tg step (s.fe n).cal = none) ∧
    (∃ (r : Req) (p : Bytes) (c : Cal) (s : State) (x : Sess), s.inv = true ∧ Served r 3 s x ∧ p.length = 8 ∧
      nth 0 p 2 = 3 ∧ s.security = 2 ∧ s.inHoldup = false ∧ s.hasStr (nth 0 p 0) = true ∧ nth 0 p 1 ≤ 5 ∧
      (s.fe (nth 0 p 0)).cal = some c ∧ c.sess = x.num ∧ c.target = nth 0 p 1 ∧ c.capture = none ∧
      (c.low.isSome || c.high.isSome) = true ∧ s.calUnmet (nth 0 p 0) (nth 0 p 1) 3 (some c) = none ∧ (calCoeffs (s.rdI
      Calibration.CAL_OFFSET (nth 0 p 0) (calEntry (nth 0 p 1) (s.fe (nth 0 p 0)).refIn)) (s.rd Calibration.CAL_GAIN (nth 0
      p 0) (calEntry (nth 0 p 1) (s.fe (nth 0 p 0)).refIn)) c.low c.high).any (fun q => decide (0x3CCCCCCD ≤ q.2) && decide
      (q.2 ≤ 0x43333333)) = true) ∧
    (∃ (r : Req) (p : Bytes) (s : State) (x : Sess), s.inv = true ∧ Served r 3 s x ∧ p.length = 8 ∧ nth 0 p 2 = 4 ∧
      s.security = 2 ∧ s.hasStr (nth 0 p 0) = true ∧ nth 0 p 1 ≤ 5 ∧ (∀ c,
      (s.fe (nth 0 p 0)).cal = some c → c.sess = x.num ∧ c.target = nth 0 p 1 ∧ c.rid = none)) ∧
    (∃ (t str : Nat) (c : Cal) (k : Capt) (s : State), s.inv = true ∧ s.hasStr str = true ∧ (s.fe str).cal = some c ∧
      c.capture = some k ∧ k.from_ + secs 1 ≤ t) ∧
    (∃ (t str : Nat) (c : Cal) (s : State), s.inv = true ∧ s.hasStr str = true ∧ (s.fe str).cal = some c ∧
      c.lastStep + secs 600 ≤ t) ∧
    (∃ (t : Nat) (s : State) (b : Blk), s.hist.lapOpen = some b ∧
      b.opened + s.rd HistoryConfig.BLOCK_MAX_AGE * msec 100 ≤ t) ∧
    (∃ (t : Nat) (s : State), (∀ b,
      s.hist.lapOpen = some b → max s.now t < b.opened + s.rd HistoryConfig.BLOCK_MAX_AGE * msec 100) ∧
      s.hist.evOpenAt + s.rd HistoryConfig.BLOCK_MAX_AGE * msec 100 ≤ t) ∧
    (∃ (ch : Nat) (p : Capture) (s : State), s.inv = true ∧ ch < 32 ∧ (s.trace ch).pending = some p ∧ p.post = 0 ∧
      1 ≤ p.slot ∧ p.slot ≤ 3) ∧
    (∃ (r : Req) (p : Bytes) (s : State) (x : Sess), s.inv = true ∧ Served r 2 s x ∧ p.length = 4 ∧ (∀ c < 32,
      bitOf (field p 0 4) c = true → s.hasChan c = true ∧ s.rdB TraceConfig.TRACE_EN c = true)) := by
  refine ⟨⟨0, 1, 1, 1, req, [1, 1, 1, 0, 0, 0, 0, 0], .calLowPoint 0 req [1, 1, 1, 0, 0, 0, 0, 0],
      ((with_ 3).wr SecurityStatus.SECURITY_STATE 0 2).wrB SequenceResults.REF_SETTLED 1 true, host 3, ?_⟩,
    ⟨0, 1, 1, 2, req, [1, 1, 2, 0, 0, 0, 0, 16], .calHighPoint 0 req [1, 1, 2, 0, 0, 0, 0, 16], (((with_ 3).wr
      SecurityStatus.SECURITY_STATE 0 2).wrB SequenceResults.REF_SETTLED 1 true).modFe 1 fun f =>
      { f with cal := some ⟨1, 1, some ⟨0, 0, 1, 1⟩, none, some 0, 0, none, none⟩ }, host 3, ?_⟩,
    ⟨req, [1, 1, 3, 0, 0, 0, 0, 0], ⟨1, 1, some ⟨0, 0, 1, 1⟩, some ⟨1, 1000, 1, 1⟩, some 0, 0, none, none⟩, (((with_ 3).wr
      SecurityStatus.SECURITY_STATE 0 2).wrB SequenceResults.REF_SETTLED 1 true).modFe 1 fun f =>
      { f with cal := some ⟨1, 1, some ⟨0, 0, 1, 1⟩, some ⟨1, 1000, 1, 1⟩, some 0, 0, none, none⟩ }, host 3, ?_⟩,
    ⟨req, [1, 1, 4, 0, 0, 0, 0, 0], ((with_ 3).wr SecurityStatus.SECURITY_STATE 0 2).modFe 1 fun f =>
      { f with cal := some ⟨1, 1, none, none, none, 0, none, none⟩ }, host 3, ?_⟩,
    ⟨secs 1, 7, ⟨1, 1, none, none, none, 0, some ⟨1, 0, 0, 1, 5, 25⟩, none⟩, ⟨1, 0, 0, 1, 5, 25⟩,
      (withFe 7).modFe 7 fun f => { f with cal := some ⟨1, 1, none, none, none, 0, some ⟨1, 0, 0, 1, 5, 25⟩, none⟩ }, ?_⟩,
    ⟨secs 600, 7, ⟨1, 1, none, none, none, 0, none, none⟩,
      (withFe 7).modFe 7 fun f => { f with cal := some ⟨1, 1, none, none, none, 0, none, none⟩ }, ?_⟩,
    ⟨secs 6554, { live with hist := { live.hist with lapOpen := some blk1 } }, blk1, ?_⟩,
    ⟨secs 6554, live, ?_⟩,
    ⟨31, ⟨3, 0, 9, 0, [], 0⟩, live.modTrace 31 fun tr => { tr with pending := some ⟨3, 0, 9, 0, [], 0⟩ }, ?_⟩,
    ⟨req, [0, 0, 0, 128], (with_ 2).wrB TraceConfig.TRACE_EN 31 true, host 2, ?_⟩⟩
  all_goals repeat' apply And.intro
  all_goals first | decide +kernel | exact served_of (by decide +kernel) | exact forall_some (by decide +kernel)

/-- Meets the hypotheses of Obligations.ServicePortTransactions, clause by clause. -/
theorem test_meets_service_port_transactions :
    (∃ (t addr c : Nat) (rest : Bytes) (s : State), s.inv = true ∧ PortAwake s t addr ∧ s.windowOk c = true ∧ c < 256 ∧
      rest ≠ []) ∧
    (∃ (t addr : Nat) (s : State), s.inv = true ∧ PortAwake s t addr) ∧
    (∃ (t addr n : Nat) (stop : Bool) (s : State), s.inv = true ∧ PortAwake s t addr ∧ s.rd I2cStatus.WINDOW = 0x20 ∧
      8 ≤ n ∧ stop = true ∧ s.i2c.recPending = true) ∧
    (∃ (t addr : Nat) (s : State), s.inv = true ∧ PortAwake s t addr ∧ s.rdB DieStatus.PACE_LOW 0 = true) ∧
    (∃ (t addr : Nat) (s : State), s.inv = true ∧ PortAwake s t addr) ∧
    (∃ (t addr : Nat) (s : State), s.inv = true ∧ PortAwake s t addr) ∧
    (∃ (t : Nat) (s : State), s.inv = true ∧ s.portUp = true ∧ s.rdB I2cStatus.PORT_DISABLED = false ∧
      s.i2c.recovering = 0 ∧ max s.i2c.lastTrans s.i2c.awakeAt + secs (s.rd I2cConfig.SLEEP_AFTER) ≤ t) ∧
    (∃ (t addr : Nat) (s : State), s.inv = true ∧ s.portServes = true ∧ addr = s.targetAddr ∧
      s.rdB I2cStatus.BUS_STUCK = false ∧ s.i2c.asleep = true ∧ s.i2c.awakeAt ≤ t) := by
  refine ⟨⟨0, awake.targetAddr, 0x10, [1], awake, ?_⟩,
    ⟨0, awake.targetAddr, awake, ?_⟩,
    ⟨0, awake.targetAddr, 8, true, polled, ?_⟩,
    ⟨0, awake.targetAddr, awake.wrB DieStatus.PACE_LOW 0 true, ?_⟩,
    ⟨0, awake.targetAddr, awake, ?_⟩,
    ⟨0, awake.targetAddr, awake, ?_⟩,
    ⟨secs 70000, awake, ?_⟩,
    ⟨7, awake.targetAddr, dozing true false, ?_⟩⟩
  all_goals repeat' apply And.intro
  all_goals decide +kernel

/-- Meets the hypotheses of Obligations.ServicePortDrivesTheBus, clause by clause. -/
theorem test_meets_service_port_drives_the_bus :
    (∃ (t : Nat) (s : State), s.inv = true ∧ (s.at t).attnDue = true ∧ (s.i2c.tries = 0 ∨ s.i2c.lost = true)) ∧
    (∃ (t : Nat) (s : State), s.inv = true ∧ (s.at t).attnDue = true ∧ s.i2c.tries ≠ 0 ∧ s.i2c.lost = false) ∧
    (∃ (line pulses : Nat) (s : State), s.inv = true ∧ s.portUp = true ∧ s.rdB I2cStatus.PORT_DISABLED = false ∧
      s.rdB I2cConfig.RECOVERY_EN = true ∧ s.i2c.recovering = 0 ∧ (line = 1 ∨ line = 2) ∧ line = 1 ∧ 1 ≤ pulses ∧
      pulses ≤ 9) ∧
    (∃ (line : Nat) (s : State), s.inv = true ∧ s.portUp = true ∧ s.rdB I2cStatus.PORT_DISABLED = false ∧
      s.rdB I2cConfig.RECOVERY_EN = true ∧ s.i2c.recovering = 0 ∧ (line = 1 ∨ line = 2) ∧ line = 2) ∧
    (∃ (t line pulses : Nat) (s : State), s.inv = true ∧ s.portUp = true ∧ s.rdB I2cStatus.PORT_DISABLED = false ∧
      s.i2c.recovering ≠ 0 ∧ s.i2c.nextRecovery ≤ t ∧ (line = 1 ∨ line = 2) ∧ line = 1 ∧ 1 ≤ pulses ∧ pulses ≤ 9) ∧
    (∃ (t line : Nat) (s : State), s.inv = true ∧ s.portUp = true ∧ s.rdB I2cStatus.PORT_DISABLED = false ∧
      s.i2c.recovering ≠ 0 ∧ s.i2c.nextRecovery ≤ t ∧ (line = 1 ∨ line = 2) ∧ line = 2) ∧
    (∃ (t line : Nat) (s : State), s.inv = true ∧ s.portUp = true ∧ s.rdB I2cStatus.PORT_DISABLED = false ∧
      s.i2c.recovering ≠ 0 ∧ s.i2c.nextRecovery ≤ t ∧ (line = 1 ∨ line = 2) ∧ line = 2 ∧ s.i2c.recovering = 1) := by
  refine ⟨⟨3, attending 0, ?_⟩,
    ⟨3, attending 1, ?_⟩,
    ⟨1, 9, awake.wrB I2cConfig.RECOVERY_EN 0 true, ?_⟩,
    ⟨2, awake.wrB I2cConfig.RECOVERY_EN 0 true, ?_⟩,
    ⟨msec 10, 1, 9, { awake with i2c := { awake.i2c with recovering := 1 } }, ?_⟩,
    ⟨msec 10, 2, { awake with i2c := { awake.i2c with recovering := 1 } }, ?_⟩,
    ⟨msec 10, 2, { awake with i2c := { awake.i2c with recovering := 1 } }, ?_⟩⟩
  all_goals repeat' apply And.intro
  all_goals decide +kernel

/-- Meets the hypotheses of Obligations.LapsRun, clause by clause. -/
theorem test_meets_laps_run :
    (∃ (t str tNom : Nat) (s : State), s.inv = true ∧ (s.at t).mayLap str = true ∧ s.rd RingStatus.TOPO_EPOCH str ≠ 0 ∧
      (s.ring str).job = none ∧ (s.str str).profWait = none ∧ (s.str str).cfgWait = [] ∧ (s.str str).touchWait = [] ∧
      isLapInstant (s.confRate str) (s.totalShift str) tNom = true ∧ ((s.laps str).stepped = none ∧ (∀ a,
      (s.laps str).lastNom = some a → a < tNom) ∨ ∃ a, (s.laps str).stepped = some a ∧
      a + lapPeriod (s.confRate str) (s.totalShift str) ≤ tNom) ∧
      tNom ≤ (s.at t).base + (s.lapLead str (lapPeriod (s.confRate str) (s.totalShift str))).1 ∧
      (s.at t).base + (s.lapLead str (lapPeriod (s.confRate str) (s.totalShift str))).1 ≤ tNom + 10) ∧
    (∃ (t str port : Nat) (x : Lap) (xs : List Lap) (s : State), s.inv = true ∧ s.hasStr str = true ∧ s.running = true ∧
      port ≤ 1 ∧ (s.laps str).cur = x :: xs ∧ x.done = none ∧ x.short_ = false ∧
      (if port = 0 then x.askedA else x.askedB) = false ∧ x.late = none ∧ x.nom + 24000 ≤ (s.at t).lapNow x) ∧
    (∃ (t str port : Nat) (x : Lap) (xs : List Lap) (s : State), s.inv = true ∧ s.hasStr str = true ∧ s.running = true ∧
      port ≤ 1 ∧ (s.laps str).cur = x :: xs ∧ x.done = none ∧ x.short_ = false ∧
      (if port = 0 then x.askedA else x.askedB) = false ∧ x.late = none ∧ x.nom + 24000 ≤ (s.at t).lapNow x) ∧
    (∃ (t str : Nat) (x : Lap) (xs : List Lap) (s : State), s.inv = true ∧ s.hasStr str = true ∧ s.running = true ∧
      (s.laps str).cur = x :: xs ∧ x.done = none ∧ s.cutOff str x ≤ (s.at t).lapNow x ∧ s.allRecords str x = false) ∧
    (∃ (t str seq : Nat) (late : Bool) (i q : Int) (rest : List (Nat × Bool × Int × Int)) (x : Lap) (s : State),
      s.inv = true ∧ s.hasStr str = true ∧ (s.fe str).frames = (seq, late, i, q) :: rest ∧ s.lap? str seq = some x ∧
      x.done = none ∧ (s.at t).lapNow x ≤ s.cutOff str x) ∧
    (∃ (t str : Nat) (x : Lap) (xs : List Lap) (s : State), s.inv = true ∧ s.hasStr str = true ∧ s.running = true ∧
      (s.laps str).cur = x :: xs ∧ x.done = none ∧ (s.allRecords str x = true ∨ x.short_ = true) ∧
      (s.cutOff str x ≤ (s.at t).lapNow x ∨ x.curMissing = false) ∧ (s.at t).lapNow x ≤ x.resultAt) ∧
    (∃ (t str : Nat) (x : Lap) (xs : List Lap) (s : State), s.inv = true ∧ s.hasStr str = true ∧ s.running = true ∧
      (s.laps str).cur = x :: xs ∧ x.done = none ∧ (s.allRecords str x = true ∨ x.short_ = true) ∧
      (s.cutOff str x ≤ (s.at t).lapNow x ∨ x.curMissing = false) ∧ x.resultAt < (s.at t).lapNow x) ∧
    (∃ (t str : Nat) (s : State), s.inv = true ∧ s.hasStr str = true ∧ str ≤ 7 ∧ s.enginesUp = true ∧
      (s.at t).base / 1000000000 ≠ (s.est str).secIdx) ∧
    (∃ (t str : Nat) (s : State), s.inv = true ∧ s.hasStr str = true ∧ str ≤ 7 ∧ s.enginesUp = true ∧
      (s.at t).base / 1000000000 ≠ (s.est str).secIdx ∧ (s.est str).secLaps < 4 * (s.est str).secFalse) ∧
    (∃ (t str : Nat) (same : Bool) (s : State), s.inv = true ∧ s.hasStr str = true ∧ s.enginesUp = true ∧
      (s.est str).pos ≠ [] ∧ s.filterOn str = true ∧ (s.upd.relay = false ∨ s.rd UpdateStatus.HANDOVER_DIE ≠ str) ∧
      (s.est str).shadowSec ≠ (s.at t).base / 1000000000 + 1 ∧ same = false) ∧
    (∃ (t str : Nat) (s : State), s.inv = true ∧ s.hasStr str = true ∧ s.enginesUp = true ∧ (s.est str).pos ≠ [] ∧
      s.filterOn str = true ∧ (s.upd.relay = false ∨ s.rd UpdateStatus.HANDOVER_DIE ≠ str) ∧
      (s.est str).shadowSec ≠ (s.at t).base / 1000000000 + 1) := by
  refine ⟨⟨secs 2 - 20000, 7, secs 2, lapping, ?_⟩,
    ⟨24000, 7, 1, lap3, [], live.modLaps 7 fun l => { l with cur := [lap3] }, ?_⟩,
    ⟨24000, 7, 0, lap3, [], live.modLaps 7 fun l => { l with cur := [lap3] }, ?_⟩,
    ⟨secs 3, 7, lap3, [], (live.modLaps 7 fun l => { l with cur := [lap3] }).wr RingStatus.NODE_COUNT 7 1, ?_⟩,
    ⟨9, 7, 3, false, 5, 6, [], lap3,
      (live.modLaps 7 fun l => { l with cur := [lap3] }).modFe 7 fun f => { f with frames := [(3, false, 5, 6)] }, ?_⟩,
    ⟨0, 7, { lap3 with short_ := true, cur := some (0, 0) }, [],
      live.modLaps 7 fun l => { l with cur := [{ lap3 with short_ := true, cur := some (0, 0) }] }, ?_⟩,
    ⟨secs 3, 7, { lap3 with short_ := true }, [], live.modLaps 7 fun l => { l with cur := [{ lap3 with short_ := true }] },
      ?_⟩,
    ⟨secs 3, 7, live.modEst 7 fun e => { e with secLaps := 7, secFalse := 2 }, ?_⟩,
    ⟨secs 3, 7, live.modEst 7 fun e => { e with secIdx := 5, secLaps := 3, secFalse := 1 }, ?_⟩,
    ⟨0, 1, false, filtering, ?_⟩,
    ⟨0, 1, filtering, ?_⟩⟩
  all_goals repeat' apply And.intro
  all_goals first | decide +kernel | exact forall_some (by decide +kernel) | exact exists_some (by decide +kernel)

/-- Meets the hypotheses of Obligations.NodesAreTested, clause by clause. -/
theorem test_meets_nodes_are_tested :
    (∃ (t str k : Nat) (s : State), s.inv = true ∧ s.hasStr str = true ∧ str ≤ 7 ∧ s.enginesUp = true ∧ maxL ((s.nodeList
      str).map fun m => (s.rnode str m).cmpTested) + s.rd NodeConfig.CMP_TEST_INTERVAL str * secs 60 / max 1 (s.nodeList
      str).length ≤ t ∧ (s.ring str).cmds.any (fun c => decide (c.owner = .cmpTest)) = false ∧
      oldestNode (fun m => (s.rnode str m).cmpTested) (s.nodeList str) = some k) ∧
    (∃ (t str : Nat) (s : State), s.inv = true ∧ s.hasStr str = true ∧ s.enginesUp = true ∧
      s.rd NodeConfig.WIRE_TEST_INTERVAL str ≠ 0 ∧ s.rd RingStatus.NODE_COUNT str ≤ (s.ring str).nodes.length ∧
      s.allWires str ≠ [] ∧ max s.boot.t0 (maxL ((s.allWires str).map fun x => ((s.rnode str x.1).wire x.2).tested)) + s.rd
      NodeConfig.WIRE_TEST_INTERVAL str * secs 60 / max 1 (s.allWires str).length ≤ t) ∧
    (∃ (t str node wire a : Nat) (s : State), s.inv = true ∧ s.hasStr str = true ∧ s.enginesUp = true ∧
      node < s.rd RingStatus.NODE_COUNT str ∧ node < (s.ring str).nodes.length ∧
      ((s.rnode str node).wire wire).retestAt = some a ∧ a ≤ t ∧ ((s.rnode str node).wire wire).state = 3) ∧
    (∃ (t n k : Nat) (ws : List Nat) (r : Req) (p : Bytes) (s : State) (x : Sess), s.inv = true ∧ Served r 2 s x ∧
      p.length = 8 ∧ n = field p 0 1 ∧ k = field p 2 2 ∧
      ws = (if field p 1 1 = 0xFF then wiresOf (s.fitted n k) else [field p 1 1]) ∧ s.hasStr n = true ∧ n ≤ 7 ∧
      s.rd RingStatus.TOPO_EPOCH n ≠ 0 ∧ (s.at t).epochNow n = s.rd RingStatus.TOPO_EPOCH n ∧
      s.rd RingStatus.TOPO_EPOCH n = field p 4 4 ∧ k < s.rd RingStatus.NODE_COUNT n ∧ ws ≠ [] ∧ (∀ w ∈ ws,
      (wiresOf (s.fitted n k)).contains w = true ∧ s.testDeferred n k w = false)) ∧
    (∃ (t n k : Nat) (ws : List Nat) (r : Req) (p : Bytes) (s : State) (x : Sess), s.inv = true ∧ Served r 2 s x ∧
      p.length = 8 ∧ n = field p 0 1 ∧ k = field p 2 2 ∧
      ws = (if field p 1 1 = 0xFF then wiresOf (s.fitted n k) else [field p 1 1]) ∧ s.hasStr n = true ∧ n ≤ 7 ∧
      s.rd RingStatus.TOPO_EPOCH n ≠ 0 ∧ (s.at t).epochNow n = s.rd RingStatus.TOPO_EPOCH n ∧
      s.rd RingStatus.TOPO_EPOCH n = field p 4 4 ∧ k < s.rd RingStatus.NODE_COUNT n ∧ ws ≠ [] ∧ (∀ w ∈ ws,
      (wiresOf (s.fitted n k)).contains w = true ∧ s.testDeferred n k w = false)) ∧
    (∃ (t str node a : Nat) (s : State), s.inv = true ∧ s.hasStr str = true ∧ s.enginesUp = true ∧
      node < s.rd RingStatus.NODE_COUNT str ∧ s.rd NodeAuth.AUTH_STATE (nodeInst str node) = 3 ∧
      (s.rnode str node).retryAt = some a ∧ a ≤ t) ∧
    (∃ (t : Nat) (r : Req) (p : Bytes) (s : State) (x : Sess), s.inv = true ∧ Served r 2 s x ∧ p.length = 4 ∧
      (s.at t).tokenOk x.num false = true ∧ s.hasStr (nth 0 p 0) = true ∧ nth 0 p 0 ≤ 7 ∧
      s.rd ProtectionStatus.LATCH_CAUSE (nth 0 p 0) ≠ 0 ∧ s.inHoldup = false ∧ (s.prot (nth 0 p 0)).clearRid = none ∧
      (s.ring (nth 0 p 0)).cmds.any (fun c => decide (c.owner = .release)) = false ∧ (∀ c ∈ (s.prot (nth 0 p 0)).causes,
      c ≠ 1 ∧ (c = 15 ∨ (s.at t).causeStays (nth 0 p 0) c = none))) ∧
    (∃ (str node : Nat) (s : State), s.inv = true ∧ s.hasStr str = true ∧ s.running = true ∧
      node < s.rd RingStatus.NODE_COUNT str ∧ (s.rnode str node).fw = 7 ∧ (s.rnode str node).fwCause = 1) ∧
    (∃ (str node : Nat) (s : State), s.inv = true ∧ s.hasStr str = true ∧ s.running = true ∧
      node < s.rd RingStatus.NODE_COUNT str ∧ (s.rnode str node).fw = 8) := by
  refine ⟨⟨secs 6000000, 7, 0, live.wr RingStatus.NODE_COUNT 7 1, ?_⟩,
    ⟨secs 6000000, 7, noded 7, ?_⟩,
    ⟨5, 7, 0, 4, 5, (noded 7).modNode 7 0 fun r => { r with wires := [⟨4, 3, 0, 0, 0, false, false, some 5, 0, none⟩] }, ?_⟩,
    ⟨0, 1, 0, [0], req, [1, 0, 0, 0, 1, 0, 0, 0], { noded 1 with mbx := (with_ 2).mbx }, host 2, ?_⟩,
    ⟨0, 1, 0, [0, 1, 2], req, [1, 255, 0, 0, 1, 0, 0, 0], { noded 1 with mbx := (with_ 2).mbx }, host 2, ?_⟩,
    ⟨5, 7, 0, 5, ((noded 7).wr NodeAuth.AUTH_STATE (nodeInst 7 0) 3).modNode 7 0 fun r => { r with retryAt := some 5 }, ?_⟩,
    ⟨0, req, [1, 0, 0, 0], (((withToken 1).wr ProtectionStatus.LATCH_CAUSE 1 2).wrB StringTerminals.FB_POS 1 true).modProt 1
      fun q => { q with causes := [12] }, host 3, ?_⟩,
    ⟨7, 0, (noded 7).modNode 7 0 fun r => { r with fw := 7, fwCause := 1 }, ?_⟩,
    ⟨7, 0, (noded 7).modNode 7 0 fun r => { r with fw := 8 }, ?_⟩⟩
  all_goals repeat' apply And.intro
  all_goals first | decide +kernel | exact served_of (by decide +kernel)

/-- Meets the hypotheses of Obligations.PacerAndCaptureInputs, clause by clause. -/
theorem test_meets_pacer_and_capture_inputs :
    (∃ (t out a : Nat) (s : State), s.inv = true ∧ out ≤ 3 ∧ s.pacerUp = true ∧ (s.pout out).next = some a ∧
      a ≤ (s.at t).base ∧ s.rdB PacerOutput.PULSE_EN out = true ∧ s.rdB PacerOutput.LINE_CLAIMED out = false) ∧
    (∃ (t out e : Nat) (s : State), s.inv = true ∧ out ≤ 3 ∧ (s.pout out).pulseEnd = some e ∧ e ≤ t) ∧
    (∃ (input : Nat) (s : State), s.inv = true ∧ s.running = true ∧ input ≤ 1 ∧ s.rd CaptureInput.CAPTURE_MODE input = 0) ∧
    (∃ (input : Nat) (s : State), s.inv = true ∧ s.running = true ∧ input ≤ 1 ∧ s.rd CaptureInput.CAPTURE_MODE input = 2 ∧
      s.rd CaptureInput.WINDOW_STATE input ≠ 4) ∧
    (∃ (input : Nat) (s : State), s.inv = true ∧ s.running = true ∧ input ≤ 1 ∧ s.rd CaptureInput.CAPTURE_MODE input ≠ 0 ∧
      s.rd CaptureInput.CAPTURE_MODE input ≠ 2) ∧
    (∃ (t input edge m : Nat) (s : State), s.inv = true ∧ s.running = true ∧ input ≤ 1 ∧ (edge = 1 ∨ edge = 2) ∧
      s.winOpen input (s.at t).base = some m ∧ bitOf (s.rd CaptureInput.EDGE input) (edge - 1) = true ∧ (∀ l,
      (s.capIn input).last = some l → l + 100 ≤ max s.now t)) := by
  refine ⟨⟨5, 3, 5, { live with pouts := setNth ⟨some 5, none, false, none, 0⟩ live.pouts 3 }.wrB PacerOutput.PULSE_EN 3 true, ?_⟩,
    ⟨5, 3, 5, { live with pouts := setNth ⟨none, none, false, some 5, 1⟩ live.pouts 3 }, ?_⟩,
    ⟨0, live, ?_⟩,
    ⟨1, live.wr CaptureInput.CAPTURE_MODE 1 2, ?_⟩,
    ⟨1, live.wr CaptureInput.CAPTURE_MODE 1 1, ?_⟩,
    ⟨5, 1, 2, 0, (live.wr CaptureInput.CAPTURE_MODE 1 1).wr CaptureInput.EDGE 1 2, ?_⟩⟩
  all_goals repeat' apply And.intro
  all_goals first | decide +kernel | exact forall_some (by decide +kernel)

/-- Meets the hypotheses of Obligations.RingMasterRuns, clause by clause. -/
theorem test_meets_ring_master_runs :
    (∃ (str port : Nat) (sign : LineSign) (s : State), s.inv = true ∧ s.hasStr str = true ∧ s.running = true ∧ port ≤ 1 ∧
      lineLost sign = true) ∧
    (∃ (str port : Nat) (s : State), s.inv = true ∧ s.hasStr str = true ∧ s.running = true ∧ port ≤ 1) ∧
    (∃ (str port valid idle : Nat) (s : State), s.inv = true ∧ s.hasStr str = true ∧ s.running = true ∧ str ≤ 7 ∧ port ≤ 1 ∧
      1 ≤ valid ∧ msec 10 ≤ idle ∧ msec 10 ≤ valid ∧ (if port = 0 then (s.ring str).brkA else (s.ring str).brkB) = true) ∧
    (∃ (str port valid : Nat) (s : State), s.inv = true ∧ s.hasStr str = true ∧ s.running = true ∧ str ≤ 7 ∧ port ≤ 1 ∧
      1 ≤ valid) ∧
    (∃ (str port : Nat) (bytes : Bytes) (s : State), s.inv = true ∧ s.hasStr str = true ∧ s.running = true ∧ port ≤ 1 ∧
      headerOk bytes = true) ∧
    (∃ (str port : Nat) (bytes : Bytes) (s : State), s.inv = true ∧ s.hasStr str = true ∧ s.running = true ∧ port ≤ 1 ∧
      headerOk bytes = false) ∧
    (∃ (str rtt : Nat) (bytes : Bytes) (s : State), s.inv = true ∧ s.hasStr str = true ∧ s.running = true ∧ str ≤ 7 ∧
      rtt < 4294967296 ∧ headerOk bytes = true ∧ field bytes 0 1 = 1 ∧ field bytes 1 1 < 128 ∧
      blocksOf 7 (parseBlocks bytes.length (bytes.drop 20)).1 = []) ∧
    (∃ (t str port kind : Nat) (f : Flight) (s : State), s.inv = true ∧ s.hasStr str = true ∧ s.running = true ∧ (s.ring
      str).flights.find? (fun g => decide (g.port = port) && decide (g.kind = kind) && decide (g.due ≤ max s.now t)) = some
      f) ∧
    (∃ (t str node : Nat) (c : NodeCmd) (s : State), s.inv = true ∧ s.hasStr str = true ∧ s.running = true ∧ node ≠ 0xFF ∧
      ((s.at t).drain str).inFlight str node = false ∧ s.sentCmd str node = some c ∧ (c.phase ≠ 2 ∨ c.fetchAt = 0) ∧
      s.rd RingConfig.CMD_RETRIES str ≤ c.attempt) ∧
    (∃ (t str node : Nat) (c : NodeCmd) (s : State), s.inv = true ∧ s.hasStr str = true ∧ s.running = true ∧ node ≠ 0xFF ∧
      ((s.at t).drain str).inFlight str node = false ∧ s.sentCmd str node = some c ∧ (c.phase ≠ 2 ∨ c.fetchAt = 0) ∧
      c.attempt < s.rd RingConfig.CMD_RETRIES str) ∧
    (∃ (t str node : Nat) (c : NodeCmd) (s : State), s.inv = true ∧ s.hasStr str = true ∧ s.running = true ∧
      s.sentCmd str node = some c ∧ c.phase = 2 ∧ c.fetchAt ≠ 0 ∧ c.fetchAt ≤ t) ∧
    (∃ (t str : Nat) (s : State), s.inv = true ∧ s.hasStr str = true ∧ s.running = true ∧ str ≤ 7 ∧ s.security ≠ 5 ∧
      s.rd RingStatus.TOPO_EPOCH str ≠ 0 ∧ (s.ring str).roundAt + msec 100 ≤ t) ∧
    (∃ (str : Nat) (j : Job) (s : State), s.inv = true ∧ s.hasStr str = true ∧ s.running = true ∧
      (s.ring str).job = some j ∧ s.rd RingStatus.TOPO_EPOCH str = 0 ∧ j.stage = 0 ∧ j.heard = true ∧
      str < s.boot.enumDone.length) ∧
    (∃ (str : Nat) (j : Job) (s : State), s.inv = true ∧ s.hasStr str = true ∧ s.running = true ∧
      (s.ring str).job = some j ∧ j.stage = 1 ∧ (∀ c ∈ (s.ring str).cmds, c.phase = 0)) ∧
    (∃ (t str x : Nat) (s : State), s.inv = true ∧ s.hasStr str = true ∧ s.running = true ∧ s.jointNow str = true ∧
      (s.ring str).jointSince = some x ∧ x + s.rd RingConfig.CLOSE_QUAL str * msec 100 ≤ t ∧
      s.rdB RingConfig.AUTO_CLOSE str = true ∧ (s.ring str).closeLap = none ∧ (s.ring str).job = none) := by
  refine ⟨⟨7, 0, .brk, live, ?_⟩,
    ⟨7, 1, live, ?_⟩,
    ⟨7, 0, msec 10, msec 10, live.modRing 7 fun g => { g with brkA := true }, ?_⟩,
    ⟨7, 1, 1, live, ?_⟩,
    ⟨7, 0, batonHeader 8 0 0 0 0 1 1 0 0, live, ?_⟩,
    ⟨7, 0, [], live, ?_⟩,
    ⟨7, 4294967295, batonHeader 1 0 0 0 0 1 1 0 0, live, ?_⟩,
    ⟨5, 7, 1, 3, ⟨1, 3, 0, 0, 0, 5, false, 0⟩, live.modRing 7 fun r => { r with flights := [⟨1, 3, 0, 0, 0, 5, false, 0⟩] },
      ?_⟩,
    ⟨0, 7, 0, ⟨0, 22, [], .cmpTest, 1, 3, 1, 0⟩,
      live.modRing 7 fun r => { r with cmds := [⟨0, 22, [], .cmpTest, 1, 3, 1, 0⟩] }, ?_⟩,
    ⟨0, 7, 0, ⟨0, 22, [], .cmpTest, 1, 0, 1, 0⟩,
      live.modRing 7 fun r => { r with cmds := [⟨0, 22, [], .cmpTest, 1, 0, 1, 0⟩] }, ?_⟩,
    ⟨5, 7, 0, ⟨0, 20, [], .cmpTest, 1, 0, 2, 5⟩,
      live.modRing 7 fun r => { r with cmds := [⟨0, 20, [], .cmpTest, 1, 0, 2, 5⟩] }, ?_⟩,
    ⟨msec 100, 7, noded 7, ?_⟩,
    ⟨7, job0, { live with boot := { live.boot with enumDone := List.replicate 8 false } }.modRing 7 fun r =>
      { r with job := some job0 }, ?_⟩,
    ⟨7, { job0 with stage := 1 }, live.modRing 7 fun r => { r with job := some { job0 with stage := 1 } }, ?_⟩,
    ⟨secs 7000, 7, 0, jointed, ?_⟩⟩
  all_goals repeat' apply And.intro
  all_goals decide +kernel

/-- Meets the hypotheses of Obligations.StreamsMoveData, clause by clause. -/
theorem test_meets_streams_move_data :
    (∃ (t n : Nat) (r : Req) (p : Bytes) (s : State) (x : Sess), s.inv = true ∧ Served r 1 s x ∧
      paramLen (field p 0 1) = some (p.length - 4) ∧ 4 ≤ p.length ∧ kindClass (field p 0 1) ≤ x.cls ∧
      (7 ≤ field p 0 1 → s.security ≠ 3 ∧ s.security ≠ 4) ∧
      firstRef ((s.admitted t r 0x20 x).kindRefusals (field p 0 1) (p.drop 4)) = none ∧
      (5 ≤ field p 0 1 → s.holder (field p 0 1) = none) ∧ freeStream x = some n ∧ s.headerCode (field p 0 1) (p.drop 4) = 0) ∧
    (∃ (r : Req) (p : Bytes) (q : Stream) (s : State) (x : Sess), s.inv = true ∧ Served r 1 s x ∧ p.length = 4 ∧
      x.stream? (field p 0 1) = some q) ∧
    (∃ (r : Req) (p : Bytes) (q : Stream) (s : State) (x : Sess), s.inv = true ∧ Served r 1 s x ∧ p.length = 4 ∧
      x.stream? (field p 0 1) = some q ∧ inbound q.kind = false ∧ q.credit + field p 2 2 ≤ 1024) ∧
    (∃ (r : Req) (p : Bytes) (q : Stream) (s : State) (x : Sess), s.inv = true ∧ Served r 0 s x ∧ 8 ≤ p.length ∧
      x.stream? (field p 0 1) = some q ∧ inbound q.kind = true ∧ q.credit ≠ 0 ∧ bitOf (field p 1 1) 1 = false ∧
      bitOf (field p 1 1) 0 = false) ∧
    (∃ (r : Req) (p : Bytes) (q : Stream) (s : State) (x : Sess), s.inv = true ∧ Served r 0 s x ∧ 8 ≤ p.length ∧
      x.stream? (field p 0 1) = some q ∧ inbound q.kind = true ∧ q.credit ≠ 0 ∧ bitOf (field p 1 1) 1 = false ∧
      bitOf (field p 1 1) 0 = true) ∧
    (∃ (sess num frames : Nat) (x : Sess) (q : Stream) (s : State), s.inv = true ∧ s.sess? sess = some x ∧
      x.stream? num = some q ∧ s.mailboxUp = true ∧ inbound q.kind = true ∧ s.inHoldup = false ∧
      min frames (min (65535 - q.credit) s.stagingFree) ≠ 0) ∧
    (∃ (t sess num ahead fl : Nat) (d : Bytes) (x : Sess) (c : Conn) (q w : Stream) (s : State), s.inv = true ∧
      s.sess? sess = some x ∧ s.conn? x.conn = some c ∧ x.stream? num = some q ∧ s.mailboxUp = true ∧ s.inHoldup = false ∧
      q.credit ≠ 0 ∧ ahead < s.allowance q.kind ∧ (s.at t).netBReady c.port = true ∧ (s.at t).nextUnit q = (some (fl, d),
      w)) ∧
    (∃ (n : Nat) (q : Stream) (s : State), s.inv = true ∧ s.holder 5 = some (n, q) ∧ q.part = 0 ∧ s.running = true ∧
      s.inHoldup = false) ∧
    (∃ (n : Nat) (q : Stream) (s : State), s.inv = true ∧ s.ended 6 = some (n, q) ∧ s.running = true ∧ s.inHoldup = false) ∧
    (∃ (n : Nat) (q : Stream) (s : State), s.inv = true ∧ s.ended 6 = some (n, q) ∧ s.running = true ∧ s.inHoldup = false ∧
      (checkRestore q.queue).1 = 2) := by
  refine ⟨⟨0, 1, req, [9, 0, 0, 0, 0, 0, 0, 0, 0, 0, 0, 0], with_ 3, host 3, ?_⟩,
    ⟨req, [4, 0, 0, 0], ⟨4, 1, 0, 0, [], 0, 0, 0, 0, [], [], []⟩, withSess (streaming 1), streaming 1, ?_⟩,
    ⟨req, [4, 0, 0, 4], ⟨4, 1, 0, 0, [], 0, 0, 0, 0, [], [], []⟩, withSess (streaming 1), streaming 1, ?_⟩,
    ⟨req, [4, 0, 0, 0, 0, 0, 0, 0], ⟨4, 9, 3, 0, [], 0, 0, 0, 0, [], [], []⟩, withSess receiving, receiving, ?_⟩,
    ⟨req, [4, 1, 0, 0, 0, 0, 0, 0, 7], ⟨4, 9, 3, 0, [], 0, 0, 0, 0, [], [], []⟩, withSess receiving, receiving, ?_⟩,
    ⟨1, 4, 9, receiving, ⟨4, 9, 3, 0, [], 0, 0, 0, 0, [], [], []⟩, withSess receiving, ?_⟩,
    ⟨0, 1, 4, 63, 1, [8], exporting, link 3, ⟨4, 5, 1, 0, [], 0, 1, 0, 0, [], [[8]], []⟩, ⟨4, 5, 1, 0, [], 0, 1, 0, 0, [],
      [], []⟩, withSess exporting, ?_⟩,
    ⟨1, ⟨4, 5, 1, 0, [], 0, 0, 0, 0, [], [], []⟩,
      withSess { host 3 with streams := [⟨4, 5, 1, 0, [], 0, 0, 0, 0, [], [], []⟩] }, ?_⟩,
    ⟨1, ⟨4, 6, 0, 0, [], 0, 0, 0, 0, [], [], []⟩,
      { live with mbx := { live.mbx with inbox := [(1, ⟨4, 6, 0, 0, [], 0, 0, 0, 0, [], [], []⟩)] } }, ?_⟩,
    ⟨1, ⟨4, 6, 0, 0, [], 0, 0, 0, 0, [], [restoreFrame], []⟩,
      { live with mbx := { live.mbx with inbox := [(1, ⟨4, 6, 0, 0, [], 0, 0, 0, 0, [], [restoreFrame], []⟩)] } }, ?_⟩⟩
  all_goals repeat' apply And.intro
  all_goals first | decide +kernel | exact served_of (by decide +kernel)

/-- Meets the hypotheses of Obligations.ThermalRowsAct, clause by clause. -/
theorem test_meets_thermal_rows_act :
    (∃ (t : Nat) (s : State), s.inv = true ∧ s.running = true ∧ s.security ≠ 5 ∧
      s.thermal.lastRound ≠ some ((s.at t).base / 1000000000)) ∧
    (∃ (t : Nat) (s : State) (src obj per tgt : Nat), s.inv = true ∧ s.running = true ∧ s.ownersRun = true ∧
      s.thermal.hvac = [src, obj, per, tgt] ∧ src = 0 ∧ (∀ l, s.thermal.hvacLast = some l → l + msec per ≤ t) ∧
      s.canFit obj 1 (fun l => l == 16) = true) ∧
    (∃ (die : Nat) (s : State), s.inv = true ∧ s.power.powered = true ∧ s.hasDie die = true ∧ s.thermal.first = none) ∧
    (∃ (t since d m : Nat) (s : State), s.thermal.first = some (d, m) ∧ s.power.powered = true ∧
      s.thermal.coolSince.getD 0 ≤ since ∧ since + secs 60 ≤ t) ∧
    (∃ (t str : Nat) (st : Step) (s : State), s.inv = true ∧ s.hasStr str = true ∧ s.enginesUp = true ∧
      (s.est str).step = some st ∧ st.nomB + msec 105 ≤ (s.at t).plain ∧ (∀ k ∈ st.nodes, st.refused.contains k = true ∨
      ∀ c ∈ maskList (s.sentinelMask str k), (st.samples k c).isSome = true)) := by
  refine ⟨⟨secs 7, live, ?_⟩,
    ⟨0,
      { (live.wr CanObject.DIRECTION 128 2).wr CanObject.DATA_LEN 128 16 with thermal := { live.thermal with hvac := [0, 128, 1000, 0] } },
      0, 128, 1000, 0, ?_⟩,
    ⟨7, driving 7, ?_⟩,
    ⟨secs 60, 0, 7, 3, { live with thermal := { live.thermal with first := some (7, 3) } }, ?_⟩,
    ⟨msec 105, 1, ⟨0, 1, 0, 0, 0, 0, [], [], [], [], []⟩,
      filtering.modEst 1 fun e => { e with step := some ⟨0, 1, 0, 0, 0, 0, [], [], [], [], []⟩ }, ?_⟩⟩
  all_goals repeat' apply And.intro
  all_goals first | decide +kernel | exact forall_some (by decide +kernel)

/-- Meets the hypotheses of Obligations.TimeFollowsDomains, clause by clause. -/
theorem test_meets_time_follows_domains :
    (∃ (s : State), s.inv = true ∧ s.ptpUp = true ∧ s.time.doms.length = 2) ∧
    (∃ (port dom : Nat) (s : State) (i : Nat), s.inv = true ∧ s.ptpUp = true ∧ s.portDomain port = some i ∧ dom ≤ 127) ∧
    (∃ (t port dom : Nat) (s : State), s.inv = true ∧ s.ptpUp = true ∧ (port = 1 ∨ port = 2) ∧
      s.portDomain port = some dom ∧ s.time.links.length = 2 ∧ (∀ a,
      (nth PLink.init s.time.links (port - 1)).reqAt = some a → a + secs 1 ≤ t)) ∧
    (∃ (t port dom ident pnum i : Nat) (log mld : Int) (f : Foreign) (s : State), s.inv = true ∧ s.ptpUp = true ∧ -4 ≤ log ∧
      log ≤ 0 ∧ s.linkDelay port = some mld ∧ s.domsOf port dom = [i] ∧ (s.dom i).sel = some f ∧ f.ann.ident = ident ∧
      f.ann.pnum = pnum ∧ f.timedOut (max s.now t) = false ∧ 2 ≤ s.domState i) ∧
    (∃ (t dom l : Nat) (f : Foreign) (s : State), s.inv = true ∧ s.ptpUp = true ∧ (dom = 1 ∨ dom = 2) ∧
      s.domState dom = domLocked ∧ (s.dom dom).sel = some f ∧ f.timedOut (max s.now t) = false ∧ (s.dom dom).last = some l ∧
      l + 3 * logNs (if s.rdI PtpDomain.SYNC_LOG_INTERVAL dom = 127 then 0 else s.rdI PtpDomain.SYNC_LOG_INTERVAL dom) ≤ t) ∧
    (∃ (t : Nat) (s : State), s.inv = true ∧ s.ptpUp = true ∧ s.rdB TimeStatus.REVERTIVE = true ∧ s.inUse = 2 ∧
      s.domState 1 = domLocked ∧ s.domState 2 = domLocked ∧ (s.dom 1).lockedAt + secs (s.rd TimeStatus.RETURN_QUAL) ≤ t) ∧
    (∃ (t : Nat) (s : State), s.inv = true ∧ s.running = true ∧ s.rdB TimeStatus.SLEWING = true ∧ s.clk.slewEnd ≤ t) ∧
    (∃ (s : State), s.inv = true ∧ s.running = true) ∧
    (∃ (t a : Nat) (s : State), s.inv = true ∧ s.ptpUp = true ∧ s.domState 1 = domLocked ∧ s.domState 2 = domLocked ∧
      s.rd TimeStatus.DISAGREE_LIMIT < (toNs ((s.at t).domOffset 1 - (s.at t).domOffset 2)).natAbs ∧
      s.time.disFrom = some a ∧ a + secs 10 ≤ t) := by
  refine ⟨⟨timed, ?_⟩,
    ⟨1, 127, timed, 1, ?_⟩,
    ⟨0, 1, 1, timed, ?_⟩,
    ⟨5, 1, 0, 5, 1, 1, -4, 0, ⟨⟨5, 1, 0, 6, 0x21, 0, 0, 5, 0, 37, 0, 0⟩, 1000000000, [0]⟩, synced 2, ?_⟩,
    ⟨secs 3, 1, 0, ⟨⟨5, 1, 0, 6, 0x21, 0, 0, 5, 0, 37, 0, 0⟩, 1000000000, [3000000000, 0]⟩, quiet, ?_⟩,
    ⟨secs 70000, ((live.wr PtpDomain.DOMAIN_STATE 1 3).wr PtpDomain.DOMAIN_STATE 2 3).wr TimeStatus.DOMAIN_IN_USE 0 2 |>.wrB
      TimeStatus.REVERTIVE 0 true, ?_⟩,
    ⟨secs 7, live.wrB TimeStatus.SLEWING 0 true, ?_⟩,
    ⟨(live.wr PtpDomain.DOMAIN_STATE 1 4).wr TimeStatus.DOMAIN_IN_USE 0 1, ?_⟩,
    ⟨secs 10, 0, disagreeing, ?_⟩⟩
  all_goals repeat' apply And.intro
  all_goals first | decide +kernel | exact forall_some (by decide +kernel)

/-- Meets the hypotheses of Obligations.ImagesAreStagedAndActivated, clause by clause. -/
theorem test_meets_images_are_staged_and_activated :
    (∃ (n : Nat) (q : Stream) (s : State), s.inv = true ∧ s.ended 7 = some (n, q)) ∧
    (∃ (k : Nat) (s : State), s.inv = true ∧ s.upd.write = some k ∧ k ≤ 1 ∧ s.running = true ∧ s.inHoldup = false) ∧
    (∃ (n : Nat) (q : Stream) (s : State), s.inv = true ∧ s.ended 8 = some (n, q)) ∧
    (∃ (r : Req) (p : Bytes) (s : State) (x : Sess), s.inv = true ∧ Served r 3 s x ∧ p.length = 4 ∧ s.security ≠ 3 ∧
      s.security ≠ 4 ∧ field p 0 1 = 1 - s.nv.active ∧ field p 1 1 = 1 ∧ s.slotState (1 - s.nv.active) = 2 ∧
      s.updateBusy = false ∧ field s.runHdr 0x10 4 ≤ field (s.slotHdr (1 - s.nv.active)) 0x10 4 ∧
      s.nodeOutside (s.slotHdr (1 - s.nv.active)) = false ∧ s.power.supply ≠ .backup ∧ s.hotDie = false ∧
      (s.nv.variant = 2 → s.rd PowerStatus.POWER_STATE ≠ 2) ∧
      field (s.slotHdr (1 - s.nv.active)) 0x26 2 ≤ field s.runHdr 0x24 2 ∧ s.inHoldup = false) ∧
    (∃ (t : Nat) (r : Req) (p : Bytes) (s : State) (x : Sess), s.inv = true ∧ Served r 3 s x ∧ p.length = 4 ∧
      s.security ≠ 3 ∧ s.security ≠ 4 ∧ (s.at t).tokenOk x.num false = true ∧ field p 0 1 = 1 - s.nv.active ∧
      field p 1 1 = 2 ∧ s.slotState (1 - s.nv.active) = 2 ∧ s.updateBusy = false ∧
      s.nodeOutside (s.slotHdr (1 - s.nv.active)) = false ∧ s.inHoldup = false) ∧
    (∃ (s : State), s.inv = true ∧ s.running = true ∧ s.upd.relay = true ∧ (s.upd.phase = 3 ∨ s.upd.phase = 7)) ∧
    (∃ (t die : Nat) (s : State), s.inv = true ∧ s.running = true ∧ s.upd.relay = true ∧ (s.at t).atBoundary die = true ∧
      s.upd.phase = 4 ∧ die = s.nextDie) ∧
    (∃ (s : State), s.inv = true ∧ s.running = true ∧ s.inHoldup = false ∧ s.upd.relay = true ∧ s.upd.phase = 5) ∧
    (∃ (t die cause : Nat) (s : State), s.inv = true ∧ s.running = true ∧ s.upd.relay = true ∧ s.upd.phase ≠ 6 ∧
      (s.at t).abandonCause die cause = true ∧ s.upd.handed ≠ []) ∧
    (∃ (t die cause : Nat) (s : State), s.inv = true ∧ s.running = true ∧ s.upd.relay = true ∧ s.upd.phase ≠ 6 ∧
      (s.at t).abandonCause die cause = true ∧ s.upd.handed = []) ∧
    (∃ (r : Req) (p : Bytes) (s : State) (x : Sess), s.inv = true ∧ Served r 3 s x ∧ p.length = 4 ∧ s.security ≠ 3 ∧
      s.security ≠ 4 ∧ field p 0 2 = s.rd ConfigFormat.FORMAT_RUNNING ∧ s.nv.keptFormat ≠ 0 ∧ s.inHoldup = false) ∧
    (∃ (image : Bytes) (s : State), s.inv = true ∧ s.bootHalt = true ∧ s.rdB ModuleTerminals.J_SVC_FITTED = true ∧
      s.imageCheck 1 (padTo 256 image) ≠ 0 ∧ s.imageCheck 1 (padTo 256 image) ≠ 11) := by
  refine ⟨⟨1, ⟨4, 7, 0, 0, [], 0, 0, 0, 0, [], [], []⟩,
      { live with mbx := { live.mbx with inbox := [(1, ⟨4, 7, 0, 0, [], 0, 0, 0, 0, [], [], []⟩)] } }, ?_⟩,
    ⟨1, { live with upd := { live.upd with write := some 1 } }, ?_⟩,
    ⟨1, ⟨4, 8, 0, 0, [], 0, 0, 0, 0, [], [], []⟩,
      { live with mbx := { live.mbx with inbox := [(1, ⟨4, 8, 0, 0, [], 0, 0, 0, 0, [], [], []⟩)] } }, ?_⟩,
    ⟨req, [1, 1, 0, 0], { with_ 3 with nv := { live.nv with slotB := ⟨some (List.replicate 19 0 ++ [1]), true, []⟩ } },
      host 3, ?_⟩,
    ⟨0, req, [1, 2, 0, 0], { withToken 1 with nv := { live.nv with slotB := ⟨some [], true, []⟩ } }, host 3, ?_⟩,
    ⟨{ live with upd := { live.upd with relay := true, phase := 7 } }, ?_⟩,
    ⟨secs 1, 0, { live with upd := { live.upd with relay := true, phase := 4, handed := [7, 6, 5, 4, 3, 2, 1] } }, ?_⟩,
    ⟨{ live with upd := { live.upd with relay := true, phase := 5, slot := 1 } }, ?_⟩,
    ⟨0, 2, 2, { live with upd := { live.upd with relay := true, phase := 4, handed := [1] } }, ?_⟩,
    ⟨0, 1, 2, { live with upd := { live.upd with relay := true, phase := 4 } }, ?_⟩,
    ⟨req, toLE 2 (live.rd ConfigFormat.FORMAT_RUNNING) ++ [0, 0], { with_ 3 with nv := { live.nv with keptFormat := 1 } },
      host 3, ?_⟩,
    ⟨[], (live.wr BootStatus.START_PHASE 0 255).wrB ModuleTerminals.J_SVC_FITTED 0 true |> fun s =>
      { s with boot := { s.boot with halt := true } }, ?_⟩⟩
  all_goals repeat' apply And.intro
  all_goals first | decide +kernel | exact served_of (by decide +kernel)

/-- Meets the hypotheses of Obligations.WritesAreAcceptedOrStored, clause by clause. -/
theorem test_meets_writes_are_accepted_or_stored :
    (∃ (t : Nat) (r : Req) (p : Bytes) (d : ObjDesc) (s : State) (x : Sess), s.inv = true ∧ Served r 1 s x ∧ p.length = 12 ∧
      find (field p 0 2) = some d ∧ firstRef ((s.admitted t r 1 x).prefixChecks d (field p 2 2) (field p 8 4)) = none ∧
      (d.epochBound = true ∨ field p 8 4 = 0) ∧
      d.rangeOk (field p 4 2) (if field p 6 2 = 0 then d.size - field p 4 2 else field p 6 2) = true) ∧
    (∃ (t : Nat) (r : Req) (p : Bytes) (s : State) (x : Sess), s.inv = true ∧ Served r 2 s x ∧ putLenOk p = true ∧
      (field p 0 2 = 0x0B02 → (s.at t).tokenOk x.num false = true) ∧ Accepted r s x t p ∧ PlainWrite [writeOf p]) ∧
    (∃ (t : Nat) (r : Req) (p : Bytes) (s : State) (x : Sess), s.inv = true ∧ Served r 2 s x ∧ putLenOk p = true ∧
      (field p 0 2 = 0x0B02 → (s.at t).tokenOk x.num false = true) ∧ Accepted r s x t p ∧ PlainWrite [writeOf p]) ∧
    (∃ (t : Nat) (r : Req) (p : Bytes) (s : State) (x : Sess) (q : Txn), s.inv = true ∧ Served r 2 s x ∧ putLenOk p = true ∧
      (field p 0 2 = 0x0B02 → (s.at t).tokenOk x.num false = true) ∧ x.txn = some q ∧ q.writes.length < 64 ∧
      sumL (q.writes.map fun v => v.data.length) + (writeOf p).data.length ≤ 16384 ∧
      ((s.admitted t r 2 x).expected.runWrites q.writes).1.writeRef (writeOf p) = none) ∧
    (∃ (t : Nat) (r : Req) (q : Txn) (s : State) (x : Sess), s.inv = true ∧ Served r 2 s x ∧ x.txn = some q ∧ q.stale = [] ∧
      PlainWrite q.writes ∧ ((s.admitted t r 4 x).modSess x.num fun y => { y with txn := none }).commitRef q.writes = none) ∧
    (∃ (n : Nat) (q : Stream) (s : State), s.inv = true ∧ s.ended 9 = some (n, q) ∧ s.running = true) ∧
    (∃ (j : Journal) (js : List Journal) (s : State), s.inv = true ∧ s.mbx.journal = j :: js ∧ s.mailboxUp = true) ∧
    (∃ (t ch : Nat) (on : Bool) (r : Req) (s : State) (x : Sess), s.inv = true ∧ Served r 2 s x ∧
      Accepted r s x t (putField ChannelConfig.ENABLE ch (b2n on))) ∧
    (∃ (t ch : Nat) (on : Bool) (r : Req) (s : State) (x : Sess), s.inv = true ∧ Served r 2 s x ∧
      Accepted r s x t (putField CanChannel.CHANNEL_EN ch (b2n on))) ∧
    (∃ (t : Nat) (on : Bool) (r : Req) (s : State) (x : Sess), s.inv = true ∧ Served r 2 s x ∧
      Accepted r s x t (putField I2cConfig.PORT_EN 0 (b2n on))) ∧
    (∃ (t entry : Nat) (data : Bytes) (r : Req) (s : State) (x : Sess), s.inv = true ∧ Served r 2 s x ∧
      Accepted r s x t (trustPut entry data)) ∧
    (∃ (t : Nat) (data : Bytes) (r : Req) (s : State) (x : Sess), s.inv = true ∧ Served r 2 s x ∧
      (s.at t).tokenOk x.num false = true ∧ Accepted r s x t (profilePut data)) := by
  refine ⟨⟨0, req, toLE 2 0x0101 ++ [0, 0, 0, 0, 0, 0, 0, 0, 0, 0], ModuleIdentity.desc, with_ 1, host 1, ?_⟩,
    ⟨0, req, putField ModuleTerminals.SEAL_OPENED 0 1, with_ 2, host 2, ?_⟩,
    ⟨0, req, putField PowerConfig.AUX_RETURN_QUAL 0 7, with_ 2, host 2, ?_⟩,
    ⟨0, req, putField ModuleTerminals.SEAL_OPENED 0 1, withSess { host 2 with txn := some ⟨[], [], 0⟩ },
      { host 2 with txn := some ⟨[], [], 0⟩ }, ⟨[], [], 0⟩, ?_⟩,
    ⟨0, req, ⟨[], [], 0⟩, withSess { host 2 with txn := some ⟨[], [], 0⟩ }, { host 2 with txn := some ⟨[], [], 0⟩ }, ?_⟩,
    ⟨1, ⟨4, 9, 0, 0, List.replicate 8 0, 0, 0, 0, 0, [], [], []⟩,
      { live with mbx := { live.mbx with inbox := [(1, ⟨4, 9, 0, 0, List.replicate 8 0, 0, 0, 0, 0, [], [], []⟩)] } }, ?_⟩,
    ⟨⟨1, ⟨1, 1, 2, 5, 0⟩, [], [writeOf (putField PowerConfig.AUX_RETURN_QUAL 0 7)], false, []⟩, [],
      { with_ 2 with mbx := { (with_ 2).mbx with journal := [⟨1, ⟨1, 1, 2, 5, 0⟩, [], [writeOf (putField PowerConfig.AUX_RETURN_QUAL 0 7)], false, []⟩] } },
      ?_⟩,
    ⟨0, 3, false, req, with_ 2, host 2, ?_⟩,
    ⟨0, 2, false, req, with_ 2, host 2, ?_⟩,
    ⟨0, true, req, with_ 2, host 2, ?_⟩,
    ⟨0, 1, [1, 2, 1, 0, 5], req, (with_ 3).wr SecurityStatus.SECURITY_STATE 0 2, host 3, ?_⟩,
    ⟨0, profileBytes, req, (withToken 1).wr SecurityStatus.SECURITY_STATE 0 2, host 3, ?_⟩⟩
  all_goals repeat' apply And.intro
  all_goals first | decide +kernel | exact served_of (by decide +kernel)

/-- Meets the hypotheses of Obligations.WritesOfOneActAtOnce, clause by clause. -/
theorem test_meets_writes_of_one_act_at_once :
    (∃ (t str : Nat) (r : Req) (s : State) (x : Sess), s.inv = true ∧ Served r 2 s x ∧ str ≤ 7 ∧
      Accepted r s x t (putField RingConfig.CLOSE_REQUEST str 1)) ∧
    (∃ (str : Nat) (j : Journal) (js : List Journal) (s : State), s.inv = true ∧ s.hasStr str = true ∧ str ≤ 7 ∧
      s.mailboxUp = true ∧ s.mbx.journal = j :: js ∧ j.rid.cmd = 2 ∧
      j.writes = [writeOf (putField RingConfig.CLOSE_REQUEST str 1)] ∧ s.rd LapStatus.LAP_STATE str ≠ 1 ∧
      (s.ring str).closeLap = none) ∧
    (∃ (t ch : Nat) (r : Req) (s : State) (x : Sess), s.inv = true ∧ Served r 2 s x ∧ ch ≤ 31 ∧
      Accepted r s x t (putField ChannelConfig.TAKE_OVER ch 1)) ∧
    (∃ (t : Nat) (r : Req) (s : State) (x : Sess), s.inv = true ∧ Served r 2 s x ∧
      Accepted r s x t (putField HistoryConfig.PIN_REQUEST 0 1) ∧ s.rd HistoryConfig.PIN_LIMIT ≠ 0 ∧ s.hist.pins = []) ∧
    (∃ (t : Nat) (r : Req) (s : State) (x : Sess), s.inv = true ∧ Served r 2 s x ∧
      Accepted r s x t (putField HistoryConfig.RELEASE_PINS 0 1)) ∧
    (∃ (t ch mask : Nat) (r : Req) (s : State) (x : Sess), s.inv = true ∧ Served r 2 s x ∧ ch ≤ 31 ∧ mask ≤ 7 ∧
      Accepted r s x t (putField TraceStatus.CAPTURE_VALID ch mask)) ∧
    (∃ (t ch : Nat) (r : Req) (s : State) (x : Sess), s.inv = true ∧ Served r 2 s x ∧
      Accepted r s x t (putField CanChannel.RECOVER ch 1)) ∧
    (∃ (t obj : Nat) (data : Bytes) (r : Req) (s : State) (x : Sess), s.inv = true ∧ Served r 2 s x ∧ obj ≤ 383 ∧
      s.canUp = true ∧ (s.bus (obj / 128)).leaving = false ∧ Accepted r s x t (txPut obj data)) ∧
    (∃ (t obj count : Nat) (r : Req) (s : State) (x : Sess), s.inv = true ∧ Served r 2 s x ∧
      Accepted r s x t (putField CanObject.ACK_COUNT obj count)) ∧
    (∃ (t epoch : Nat) (r : Req) (s : State) (x : Sess), s.inv = true ∧ Served r 2 s x ∧
      Accepted r s x t (putField LedgerStatus.ACK_EPOCH 0 epoch)) ∧
    (∃ (t : Nat) (r : Req) (s : State) (x : Sess), s.inv = true ∧ Served r 2 s x ∧
      Accepted r s x t (putField UpdateStatus.ADVANCE_FUSES 0 1)) ∧
    (∃ (t str k : Nat) (r : Req) (s : State) (x : Sess), s.inv = true ∧ Served r 2 s x ∧ str ≤ 7 ∧ k ∈ s.nodeList str ∧
      (s.at t).copyOk str k = true ∧ Accepted r s x t (putField NodeUpdate.START_REQUEST str 1)) := by
  refine ⟨⟨secs 7000, 7, req, { jointed with mbx := (with_ 2).mbx }, host 2, ?_⟩,
    ⟨7, ⟨1, ⟨1, 1, 2, 5, 0⟩, [], [writeOf (putField RingConfig.CLOSE_REQUEST 7 1)], false, []⟩, [],
      { jointed with mbx := { (with_ 2).mbx with journal := [⟨1, ⟨1, 1, 2, 5, 0⟩, [], [writeOf (putField RingConfig.CLOSE_REQUEST 7 1)], false, []⟩] } },
      ?_⟩,
    ⟨0, 31, req, (with_ 2).wr ChannelStatus.CHANNEL_STATE 31 3, host 2, ?_⟩,
    ⟨secs 5, req, (with_ 2).wr HistoryConfig.PIN_LIMIT 0 10, host 2, ?_⟩,
    ⟨0, req, { with_ 2 with hist := { live.hist with pins := [⟨0, 5⟩] } }, host 2, ?_⟩,
    ⟨0, 31, 4, req, (with_ 2).modTrace 31 fun tr => { tr with frozen := [⟨3, 0, 9, 0, [], 0⟩] }, host 2, ?_⟩,
    ⟨0, 2, req, (with_ 2).wr CanChannel.CHANNEL_STATE 2 canBusOff, host 2, ?_⟩,
    ⟨0, 383, [7], req, ((with_ 2).wr CanObject.DIRECTION 383 2).wrB CanChannel.CHANNEL_EN 2 true, host 2, ?_⟩,
    ⟨0, 383, 0, req, (with_ 2).wrB CanObject.NEW_DATA 383 true, host 2, ?_⟩,
    ⟨0, 5, req, ((with_ 2).wr LedgerStatus.EXPORT_STATE 0 2).wr LedgerStatus.EXPORT_EPOCH 0 5, host 2, ?_⟩,
    ⟨0, req, (with_ 3).wr SecurityStatus.SECURITY_STATE 0 2, host 3, ?_⟩,
    ⟨0, 1, 0, req,
      { ((with_ 3).wr RingStatus.NODE_COUNT 1 1).wrB NodeUpdate.ARMED 1 true with nv := { live.nv with nodeImage := some (List.replicate 19 0 ++ [1]) } },
      host 3, ?_⟩⟩
  all_goals repeat' apply And.intro
  all_goals first | decide +kernel | exact served_of (by decide +kernel)

/-- Meets the hypotheses of Obligations.PortSleepsAndWakes, clause by clause. -/
theorem test_meets_port_sleeps_and_wakes :
    awake.portServes = true ∧ awake.i2c.recovering = 0 ∧
    max awake.i2c.lastTrans awake.i2c.awakeAt + secs (awake.rd I2cConfig.SLEEP_AFTER) ≤ max awake.now (secs 10) ∧
    max awake.now (secs 10 - 1) < awake.i2c.lastTrans + secs (awake.rd I2cConfig.SLEEP_AFTER) ∧
    ({ live with panel := { live.panel with fired := true, releasedAt := some 0 } } : State).inv = true ∧
    ({ live with panel := { live.panel with fired := true, releasedAt := some 0 } } : State).presenceOk = true ∧
    secs 1 + secs 2 ≤ max live.now (secs 3) ∧
    ({ live with panel := { live.panel with fired := true, releasedAt := some 0 } } : State).panel.releasedAt = some 0 ∧
    0 + secs 1 ≤ (secs 1 : Nat) ∧
    (({ live with panel := { live.panel with fired := true, releasedAt := some 0 } } : State).at (secs 3)).heldAtStart (secs 1) = false ∧
    live.inv = true ∧ live.presenceOk = true ∧ live.power.powered = true ∧ live.rdB ModuleTerminals.J_SVC_FITTED = false ∧
    0 + msec 50 ≤ max live.now (msec 50) ∧
    (dozing true false).inv = true ∧ PortAddressed (dozing true false) awake.targetAddr ∧ Transaction 7 awake.targetAddr (.i2cWake 7 awake.targetAddr) ∧
    (dozing true false).i2c.asleep = true ∧ (dozing true false).i2c.awakeAt ≤ max (dozing true false).now 7 ∧
    (dozing false true).inv = true ∧ PortAddressed (dozing false true) awake.targetAddr ∧ Transaction 7 awake.targetAddr (.i2cWrite 7 awake.targetAddr [0]) ∧
    (dozing false true).i2c.refuseNext = true ∧
    Transaction 6 awake.targetAddr (.i2cRead 6 awake.targetAddr 8 true) ∧ max (dozing true false).now 6 < (dozing true false).i2c.awakeAt ∧
    (dozing false false).inv = true ∧ PortAddressed (dozing false false) awake.targetAddr ∧ Transaction 7 awake.targetAddr (.i2cWrite 7 awake.targetAddr [0]) ∧
    PortReady (dozing false false) 7 := by
  repeat' apply And.intro
  all_goals first | decide +kernel | exact .inl ⟨_, rfl⟩ | exact .inr (.inl ⟨_, _, rfl⟩) | exact .inr (.inr (.inr (.inr (.inr rfl))))

/-- Meets the hypotheses of Obligations.AttentionReadClears, clause by clause. -/
theorem test_meets_attention_read_clears :
    polled.inv = true ∧ PortAddressed polled awake.targetAddr ∧ PortReady polled 0 ∧ polled.rd I2cStatus.WINDOW = 0x20 ∧
    polled.i2c.recPending = true ∧ polled.rdB DieStatus.PACE_LOW 0 = false ∧ (8 ≤ 8 ∧ true = true) ∧ ¬ (8 ≤ 7 ∧ true = true) := by
  repeat' apply And.intro
  all_goals decide +kernel

/-- Meets the hypotheses of Obligations.CapturesAreLimited, clause by clause. -/
theorem test_meets_captures_are_limited :
    (capturing 0).inv = true ∧ (capturing 0).running = true ∧ 1 ≤ 1 ∧ (2 = 1 ∨ 2 = 2) ∧
    (capturing 0).winOpen 1 ((capturing 0).at 99).base = some 0 ∧
    bitOf ((capturing 0).rd CaptureInput.EDGE 1) (2 - 1) = true ∧
    ((capturing 0).capIn 1).last = some 0 ∧ max (capturing 0).now 99 < 0 + 100 ∧
    (capturing 0).winOpen 1 ((capturing 0).at 100).base = some 0 ∧ 0 + 100 ≤ max (capturing 0).now 100 ∧
    ((capturing 0).at 100).base / 1000000000 = ((capturing 0).capIn 1).secIdx ∧
    ((capturing 0).capIn 1).secCnt < (capturing 0).rd CaptureInput.RECORD_LIMIT 1 ∧
    (capturing (live.rd CaptureInput.RECORD_LIMIT 1)).inv = true ∧
    (capturing (live.rd CaptureInput.RECORD_LIMIT 1)).rd CaptureInput.RECORD_LIMIT 1 ≤
      ((capturing (live.rd CaptureInput.RECORD_LIMIT 1)).capIn 1).secCnt := by
  repeat' apply And.intro
  all_goals decide +kernel

/-- Meets the hypotheses of Obligations.ConfirmConfigErasesTheOther, clause by clause. -/
theorem test_meets_confirm_config_erases_the_other :
    keeping.inv = true ∧ Served req 3 keeping (host 3) ∧ ([0, 0] : Bytes).length ≠ 4 ∧
    confirmRunning.length = 4 ∧ keeping.security ≠ 3 ∧ keeping.security ≠ 4 ∧
    (with_ 3).inv = true ∧ Served req 3 (with_ 3) (host 3) ∧ (with_ 3).nv.keptFormat = 0 ∧
    field [0xFE, 0xFF, 0, 0] 0 2 ≠ keeping.rd ConfigFormat.FORMAT_RUNNING ∧
    field confirmRunning 0 2 = keeping.rd ConfigFormat.FORMAT_RUNNING ∧ keeping.nv.keptFormat ≠ 0 ∧ keeping.inHoldup = false ∧
    1 = 1 - keeping.nv.active ∧ (keeping.slot 1).hdr.isSome = true ∧ keeping.slotFormat 1 ≠ keeping.rd ConfigFormat.FORMAT_RUNNING ∧
    keeping.upd.write ≠ some 1 := by
  repeat' apply And.intro
  all_goals first | decide +kernel | (refine served_of ?_; decide +kernel)

/-- Meets the hypotheses of Obligations.TransportIsGuarded, clause by clause. -/
theorem test_meets_transport_is_guarded :
    (shippable 1).inv = true ∧ Served req 3 (shippable 1) (host 3) ∧ (shippable 1).security ≠ 3 ∧ (shippable 1).security ≠ 4 ∧
    (shippable 1).power.transRid = none ∧ (shippable 1).power.transOffAt = none ∧
    ((shippable 1).at 0).tokenOk (host 3).num false = true ∧ (shippable 1).allOpen ∧ (shippable 1).noUpdate ∧ (shippable 1).wakes ∧
    (shippable 1).inHoldup = false ∧
    (shippable 2).inv = true ∧ Served req 3 (shippable 2) (host 3) ∧ ((shippable 2).at 0).tokenOk (host 3).num false = false ∧
    (withToken 1).inv = true ∧ Served req 3 (withToken 1) (host 3) ∧ ((withToken 1).at 0).tokenOk (host 3).num false = true ∧
    ¬ ((withToken 1).allOpen ∧ (withToken 1).noUpdate ∧ (withToken 1).wakes ∧ (withToken 1).inHoldup = false) := by
  refine ⟨?_, ?_, ?_, ?_, ?_, ?_, ?_, ?_, ?_, ?_, ?_, ?_, ?_, ?_, ?_, ?_, ?_, ?_⟩
  all_goals first | decide +kernel | (refine served_of ?_; decide +kernel)

/-- Meets the hypotheses of Obligations.BreathersFollowTheRound, clause by clause. -/
theorem test_meets_breathers_follow_the_round :
    live.inv = true ∧ live.running = true ∧ live.security ≠ 5 ∧
    live.thermal.lastRound ≠ some ((live.at (secs 7)).base / 1000000000) ∧ live.hasDie 7 = true ∧ 65535 < 65536 := by
  repeat' apply And.intro
  all_goals decide +kernel

/-- The worked ends of R396: 4.0 % at 105.00 degrees, 80.0 % at 115.00. -/
theorem test_breathers : breathers 10500 = 40 ∧ breathers 11000 = 400 ∧ breathers 11500 = 800 ∧ breathers 12000 = 800 := by decide +kernel

/-- PROBE delays of the cut-cable example of 06_scadura_ring_link.md. -/
theorem test_probe_delay : probeDelay 5670 = 2735 ∧ probeDelay 7270 = 3535 := by decide

/-- The current at the late instant of the stitched lap of 10_string_front_end.md: 412,441.926 mA. -/
theorem test_current_late :
    (referTo 3465 [⟨15625, 412940000, 0, false⟩, ⟨0, 412300000, 0, false⟩]).map Prod.fst = some 412441926 := by decide +kernel

/-- The coefficients R288 gives for the points of the calibration example of 10_string_front_end.md: CAL_OFFSET 69 and 400/400.31587
of 2^30, worked by hand. -/
theorem test_calibration :
    calCoeffs 0 (2 ^ 30) (some { applied := 0, mean := 69, num := 1500000000, den := 2 ^ 24 })
      (some { applied := 400000, mean := 4477526, num := 1500000000, den := 2 ^ 24 }) = some (69, 1072894637) := by decide +kernel

/-- exp(-1) = 0.36787944… and exp(-0) = 1 in binary32. -/
theorem test_exp : fExpNeg 0x3F800000 = 0x3EBC5AB2 ∧ fExpNeg 0 = 0x3F800000 := by decide +kernel

/-- Table 5.1: TLS_AES_256_GCM_SHA384 is preferred, and a lower record size limit bounds the plaintext, its content type apart. -/
theorem test_hello : helloSuite ⟨true, [0x1301, 0x1302], [], [], none, false, false, []⟩ = 0x1302 ∧
    helloRecord { hello with recordLimit := some 513 } = 512 ∧ helloRecord hello = 16384 := by decide

/-- R362: the counter of a heartbeat follows 65,535 with 0; R379: a read-back within 100 us is in time. -/
theorem test_beat : ({ Prot.init with hbCount := some 65535 }.beatIn 9 0 true).hbLast = 9 ∧
    ({ Prot.init with hbCount := some 65535 }.beatIn 9 1 true).hbLast = 0 := by decide
@[inherit_doc test_beat] theorem test_pulse : pulseOk ⟨some 100000, some 0⟩ = true ∧ pulseOk ⟨some 100001, some 0⟩ = false ∧
    pulseOk ⟨some 0, none⟩ = false := by decide

/-! Each check of `Instr.wf` refuses an ill-formed command, and lets the same command with a proper operand pass. -/

theorem test_wf_string : (Instr.ringClose 0 8).wf = false ∧ (Instr.ringClose 0 0).wf = false ∧ (Instr.ringClose 0 7).wf = true := by decide
theorem test_wf_die : (Instr.watchdogRestart 0 8).wf = false ∧ (Instr.watchdogRestart 0 7).wf = true := by decide
theorem test_wf_port : (Instr.collect 0 1 2).wf = false ∧ (Instr.collect 0 1 1).wf = true := by decide
theorem test_wf_bytes : (Instr.batonReceived 0 1 0 [256] false 0).wf = false ∧ (Instr.batonReceived 0 1 0 [255] false 0).wf = true := by decide
theorem test_wf_request : (Instr.pingSession 0 ⟨1, 256, 1, 0⟩ []).wf = false ∧ (Instr.pingSession 0 ⟨1, 1, 1, 65536⟩ []).wf = false ∧
    (Instr.pingSession 0 ⟨1, 1, 1, 0⟩ []).wf = true := by decide
theorem test_wf_payload : (Instr.getObj 0 ⟨1, 1, 1, 0⟩ [256]).wf = false ∧ (Instr.getObj 0 ⟨1, 1, 1, 0⟩ [255]).wf = true := by decide
theorem test_wf_net : (Instr.safeCommand 0 3 0 0 []).wf = false ∧ (Instr.safeCommand 0 2 0 0 []).wf = true := by decide
theorem test_wf_edge : (Instr.capture 0 0 3).wf = false ∧ (Instr.capture 0 0 2).wf = true := by decide
theorem test_wf_coil : (Instr.coilShort 0 1 3).wf = false ∧ (Instr.coilShort 0 1 2).wf = true := by decide
theorem test_wf_channel : (Instr.channelSample 0 32).wf = false ∧ (Instr.channelSample 0 31).wf = true := by decide

/-! No row of the table gives bits, so no word spells a command. -/

theorem test_no_word : decodeTableWord 32 0 = none ∧ live.withFetchWord 32 0 = live := ⟨rfl, rfl⟩

end Sys2Proof.Tests
end

section
/-! PROOFS. ENTER_TRANSPORT (R105): what its refusals read, the state in which it is accepted, and the settling of
TransportIsGuarded. -/

namespace Sys2Proof.Machine

/-! ### Requests that are refused -/

/-- A served request that is answered at once, with nothing done, is refused in the sense of the statements. -/
theorem Served.refused {r : Req} {cls : Nat} {s : State} {x : Sess} (h : Served r cls s x) (t cmd st : Nat) (p : Bytes) :
    Refused s ((s.admitted t r cmd x).answer ⟨r.conn, x.num, cmd, r.seq, x.next⟩ st p) r cmd st p :=
  have frame : Frame 0x200000000000000000000004000101 s _ :=
    State.answer_frame (Frame.mono (by decide +kernel) (State.admitted_frame s t r cmd x))
      ⟨r.conn, x.num, cmd, r.seq, x.next⟩ st p
  ⟨h.responds cmd rfl st p, frame.only⟩

@[simp] theorem firstRef_nil : firstRef [] = none := rfl

theorem firstRef_cons (b : Bool) (q : Nat × Bytes) (l : List (Bool × Nat × Bytes)) :
    firstRef ((b, q) :: l) = if b then some q else firstRef l := rfl

/-- Where some check of a list applies and all of them refuse with one status, the request is refused with it. -/
theorem firstRef_of_applies {st : Nat} {l : List (Bool × Nat × Bytes)} (hst : ∀ c ∈ l, c.2.1 = st)
    (ha : ∃ c ∈ l, c.1 = true) : ∃ p, firstRef l = some (st, p) := by
  induction l with
  | nil => simp at ha
  | cons c l ih =>
    obtain ⟨b, st', p⟩ := c
    have e : st' = st := hst _ List.mem_cons_self
    subst e
    cases b with
    | true => exact ⟨p, rfl⟩
    | false => exact ih (fun c hc => hst c (List.mem_cons_of_mem _ hc)) (by simpa using ha)

/-! ### The conditions of R105 as the module reads them -/

theorem State.mem_strList {s : State} {n : Nat} : n ∈ s.strList ↔ s.hasStr n = true := by
  rw [State.strList, List.range_eq_range', List.drop_range', List.mem_range'_1, State.hasStr, Bool.and_eq_true, decide_eq_true_eq,
    decide_eq_true_eq]
  omega

/-- No string is reported where every relay is open: the strings count from 1, so that 0 is none of them. -/
theorem State.notOpen_eq_zero_iff (s : State) : s.notOpen = 0 ↔ s.allOpen := by
  have none_iff : (s.strList.find? fun n => (List.range 3).any fun c => ((s.prot n).coil c).on || !s.mirror n c) = none ↔
      s.allOpen := by
    simp [List.find?_eq_none, State.allOpen]
  rw [← none_iff, State.notOpen]
  cases e : s.strList.find? fun n => (List.range 3).any fun c => ((s.prot n).coil c).on || !s.mirror n c with
  | none => simp
  | some n =>
    obtain ⟨positive, -⟩ : 1 ≤ n ∧ n ≤ s.strings := by
      simpa [State.hasStr] using State.mem_strList.1 (List.mem_of_find?_eq_some e)
    simpa using Nat.ne_of_gt positive

theorem State.updating_eq_false_iff (s : State) : s.updating = false ↔ s.noUpdate := by
  simp [State.updating, State.noUpdate, and_assoc]

theorem State.wakeSet_iff (s : State) : s.wakeSet = true ↔ s.wakes := by
  simp [State.wakeSet, State.wakes]

/-! ### The two outcomes of ENTER_TRANSPORT -/

/-- The checks of ENTER_TRANSPORT that refuse with ST_CONDITION. -/
def State.transportConditions (s : State) : List (Bool × Nat × Bytes) :=
  [(decide (s.notOpen ≠ 0), refCond 0x0201 s.notOpen),
    (s.updating || s.power.transRid.isSome || s.power.transOffAt.isSome, refCond 0x0202),
    (!s.wakeSet, refCond 0x0203),
    (s.inHoldup, refCond 0x0205)]

/-- The refusal of an ENTER_TRANSPORT of a session, if there is one: of its security state, of its token, of a condition. -/
def State.transportRefusal (s : State) (sess : Nat) : Option (Nat × Bytes) :=
  firstRef ((decide (s.security = 3) || decide (s.security = 4), stState, []) ::
    (s.noPresence sess false, stPresence, []) :: s.transportConditions)

/-- The transport command under way for a request, before the first TRANSPORT_SLEEP. -/
def State.transportNoted (s : State) (rid : Rid) : State :=
  let s := s.useToken rid.sess
  { s with
    nv := { s.nv with transport := true }
    power := { s.power with transRid := some rid, transTries := 0, transAnswers := [], transLeft := s.sleepOrder,
                            transEnum := none } }

/-- What the checks of ENTER_TRANSPORT read, admitting the request leaves as it is. -/
theorem State.admitted_transportRefusal (s : State) (t : Nat) (r : Req) (x : Sess) (sess : Nat) :
    (s.admitted t r 0x74 x).transportRefusal sess = (s.at t).transportRefusal sess := rfl

theorem guarded_of_refusal {l : List (Bool × Nat × Bytes)} {st : Nat} {p : Bytes} (e : firstRef l = some (st, p)) (s : State)
    (eff : State → State × Reply) : guarded l s eff = (s, .now st p) := by
  rw [guarded, e]

theorem guarded_of_none {l : List (Bool × Nat × Bytes)} (e : firstRef l = none) (s : State) (eff : State → State × Reply) :
    guarded l s eff = eff s := by
  rw [guarded, e]

section Outcomes

variable {t : Nat} {r : Req} {cls : Nat} {s : State} {x : Sess}

theorem Served.serve_now (h : Served r cls s x) {cmd st : Nat} {p : Bytes} {v : State} {body : Rid → Sess → State → State × Reply}
    (e : body ⟨r.conn, x.num, cmd, r.seq, x.next⟩ x (s.admitted t r cmd x) = (v, .now st p)) :
    s.serve t r cmd true cls body = v.answer ⟨r.conn, x.num, cmd, r.seq, x.next⟩ st p := by
  rw [State.serve_served h, e]

theorem Served.serve_later (h : Served r cls s x) {cmd : Nat} {v : State} {body : Rid → Sess → State → State × Reply}
    (e : body ⟨r.conn, x.num, cmd, r.seq, x.next⟩ x (s.admitted t r cmd x) = (v, .later)) :
    s.serve t r cmd true cls body = v := by
  rw [State.serve_served h, e]

theorem exec_enterTransport_refused (h : Served r 3 s x) {st : Nat} {d : Bytes}
    (e : (s.at t).transportRefusal x.num = some (st, d)) :
    ∃ u, exec (.enterTransport t r []) s = .next u ∧ Refused s u r 0x74 st d := by
  rw [← State.admitted_transportRefusal s t r x] at e
  exact ⟨_, congrArg Host.Outcome.next (h.serve_now (guarded_of_refusal e _ _)), h.refused t 0x74 st d⟩

theorem exec_enterTransport_accepted (h : Served r 3 s x) (e : (s.at t).transportRefusal x.num = none) :
    exec (.enterTransport t r []) s =
      .next ((s.admitted t r 0x74 x).transportNoted ⟨r.conn, x.num, 0x74, r.seq, x.next⟩).nextSleep := by
  rw [← State.admitted_transportRefusal s t r x] at e
  exact congrArg Host.Outcome.next (h.serve_later (guarded_of_none e _ _))

end Outcomes

/-- TRANSPORT_SLEEP leaves the request that is held for its answer. -/
@[simp] theorem State.nextSleep_transRid (s : State) : s.nextSleep.power.transRid = s.power.transRid := by
  have go (l : List (Nat × Nat)) (s : State) : (State.nextSleep.go l s).power.transRid = s.power.transRid := by
    induction l generalizing s with
    | nil => rfl
    | cons k l ih =>
      unfold State.nextSleep.go
      split
      · exact ih s
      · rw [(State.queueCmd_frame (Frame.refl (m := 0x4001000) _) ..).eq_power]
  exact go _ s

@[simp] theorem State.nextSleep_nv (s : State) : s.nextSleep.nv = s.nv := s.nextSleep_frame0.eq_nv
@[simp] theorem State.nextSleep_sec (s : State) : s.nextSleep.sec = s.sec := s.nextSleep_frame0.eq_sec

@[simp] theorem State.transportNoted_flag (s : State) (rid : Rid) : (s.transportNoted rid).nv.transport = true := rfl
@[simp] theorem State.transportNoted_transRid (s : State) (rid : Rid) : (s.transportNoted rid).power.transRid = some rid := rfl
@[simp] theorem State.transportNoted_bound (s : State) (rid : Rid) : (s.transportNoted rid).sec.bound = rid.sess := by
  simp [State.transportNoted, State.useToken]

/-! ### Which refusal applies -/

section Refusal

variable {s : State} {sess : Nat}

theorem State.transportRefusal_of_no_token (h3 : s.security ≠ 3) (h4 : s.security ≠ 4) (token : s.tokenOk sess false = false) :
    s.transportRefusal sess = some (stPresence, []) := by
  simp [State.transportRefusal, firstRef_cons, h3, h4, State.noPresence, token]

theorem State.transportRefusal_of_token (h3 : s.security ≠ 3) (h4 : s.security ≠ 4) (token : s.tokenOk sess false = true) :
    s.transportRefusal sess = firstRef s.transportConditions := by
  simp [State.transportRefusal, firstRef_cons, h3, h4, State.noPresence, token]

theorem State.transportConditions_none (idle : s.power.transRid = none) (off : s.power.transOffAt = none) (opened : s.allOpen)
    (update : s.noUpdate) (wakes : s.wakes) (powered : s.inHoldup = false) : firstRef s.transportConditions = none := by
  simp [State.transportConditions, firstRef_cons, s.notOpen_eq_zero_iff.2 opened, s.updating_eq_false_iff.2 update,
    s.wakeSet_iff.2 wakes, idle, off, powered]

/-- A condition of R105 that is not met is one of the checks, all of which refuse with ST_CONDITION. -/
theorem State.transportConditions_refuse (unmet : ¬ (s.allOpen ∧ s.noUpdate ∧ s.wakes ∧ s.inHoldup = false)) :
    ∃ d, firstRef s.transportConditions = some (stCondition, d) := by
  refine firstRef_of_applies (by simp [State.transportConditions, refCond]) ?_
  rw [← State.notOpen_eq_zero_iff, ← State.updating_eq_false_iff, ← State.wakeSet_iff] at unmet
  simp only [not_and_or] at unmet
  obtain relay | update | wake | holdup := unmet
  · exact ⟨_, .head _, by simpa using relay⟩
  · exact ⟨_, .tail _ (.head _), by simp [update]⟩
  · exact ⟨_, .tail _ (.tail _ (.head _)), by simpa using wake⟩
  · exact ⟨_, .tail _ (.tail _ (.tail _ (.head _))), by simpa using holdup⟩

end Refusal

/-- Settles O49: the refusal that ENTER_TRANSPORT finds decides its outcome. With no token it is that of presence, with a token
that of the first condition unmet, and with none the command is noted and TRANSPORT_SLEEP sent, which keeps what is noted. -/
theorem transportIsGuarded : Obligations.TransportIsGuarded := by
  intro t r s x _ served h3 h4 idle off
  refine ⟨fun token opened update wakes powered => ?_, fun token => ?_, fun token unmet => ?_⟩
  · have met := State.transportConditions_none (s := s.at t) idle off opened update wakes powered
    have accepted := (State.transportRefusal_of_token (s := s.at t) h3 h4 token).trans met
    exact ⟨_, exec_enterTransport_accepted served accepted, by simp, by simp, by simp⟩
  · exact exec_enterTransport_refused served (State.transportRefusal_of_no_token (s := s.at t) h3 h4 token)
  · obtain ⟨d, refused⟩ := State.transportConditions_refuse (s := s.at t) unmet
    obtain ⟨u, run, only⟩ :=
      exec_enterTransport_refused served ((State.transportRefusal_of_token (s := s.at t) h3 h4 token).trans refused)
    exact ⟨u, d, run, only⟩

end Sys2Proof.Machine
end

section
/-! PROOFS. Three statements of chapter 05 that a state refutes: a LEDGER_EXPORT whose end is notified (StreamsMoveData), a
request that takes over the number of an overtaken one (WritesAreAcceptedOrStored), and a transmit request checked against a
write that is not yet in force (WritesOfOneActAtOnce). -/

namespace Sys2Proof.Machine

open Sys2Proof.Obj

/-! ### Reading the outcome of one command -/

/-- The command has a next state, and that state passes a check. -/
def nextPasses (c : Instr) (s : State) (check : State → Bool) : Bool :=
  match exec c s with
  | .next u => check u
  | _ => false

theorem nextPasses_of_next {c : Instr} {s u : State} (h : exec c s = .next u) (check : State → Bool) :
    nextPasses c s check = check u := by
  rw [nextPasses, h]

/-- What a computed check rules out, no next state has. -/
theorem not_exists_next {c : Instr} {s : State} {P : State → Prop} (check : State → Bool) (computed : nextPasses c s check = true)
    (rules : ∀ u, check u = true → ¬ P u) : ¬ ∃ u, exec c s = .next u ∧ P u := by
  rintro ⟨u, run, holds⟩
  exact rules u (by rw [← nextPasses_of_next run check, computed]) holds

/-- A response of one status is none of another. -/
theorem Responds.status_eq {u : State} {r : Req} {cmd st st' : Nat} {p p' : Bytes} (h : Responds u r cmd st p)
    (h' : Responds u r cmd st' p') : st = st' := by
  have e := Option.some.inj (h.symm.trans h')
  obtain ⟨-, -, -, same, -⟩ := Out.frame.inj e
  exact same

/-! ### The module the three states are made of -/

/-- A module that has started, in NORMAL, with these connections and sessions. -/
def startedWith (conns : List Conn) (sess : List Sess) : State :=
  { State.reset with
    power := { Power.init with supply := .normal, powered := true }
    boot := { Boot.init with phase := 13 }
    mbx := { State.reset.mbx with conns, sess } }

/-- A connection of a client of a class, its handshake complete and its session opened. -/
def clientConn (id cls : Nat) : Conn := ⟨id, 1, 0, 0, 0, true, cls, 0, [], false, false, true, 0, 0, 0, 0, 0⟩

/-- A session of class OPERATE that has sent no request, on the connection of the same number. -/
def operator (num : Nat) : Sess := ⟨num, num, 2, 0, 0, [], none, [], 0⟩

/-- A request of session 1. -/
def firstRequest : Req := ⟨1, 1, 1, 5⟩

theorem operator_served {s : State} (up : s.mailboxUp = true) (conn : s.conn? 1 = some (clientConn 1 2))
    (sess : s.mbx.sess.find? (·.conn == 1) = some (operator 1)) (nums : numsOk s.mbx.sess = true) :
    Served firstRequest 2 s (operator 1) :=
  ⟨up, ⟨_, conn, rfl⟩, rfl, sess, rfl, nums, rfl, le_rfl⟩

/-! ### StreamsMoveData: the last frame of a LEDGER_EXPORT is followed by a notification

Once the END frame of a LEDGER_EXPORT has left, event 0x0A09 is recorded (R352). Where NOTIFY_SUBJECTS and NOTIFY_MIN_SEVERITY let
it through, every session of class OPERATE and MAINTAIN is sent NOTIFY_EVENT (R152, R260), after the frame and in the same step. -/

/-- Stream 4, a LEDGER_EXPORT, with the one frame still to leave, and without it. -/
def exportStream (left : List Bytes) : Stream := ⟨4, 5, 1, 0, [], 0, 1, 0, 0, [], left, []⟩

/-- A session of class MAINTAIN with that stream. -/
def exporter : Sess := ⟨1, 1, 3, 0, 0, [], none, [exportStream [[8]]], 0⟩

/-- The last frame of a LEDGER_EXPORT is to leave, and events of subject 0x0A of severity 1 and above are notified. -/
def exportEnding : State :=
  let s := ((startedWith [clientConn 1 3] [exporter]).wr HistoryConfig.NOTIFY_SUBJECTS 0 (2 ^ 0x0A)).wr
    HistoryConfig.NOTIFY_MIN_SEVERITY 0 1
  { s with hist := { s.hist with run := true } }

theorem exportEnding_sends_two : nextPasses (.streamDataOut 0 1 4 63) exportEnding (fun u => u.out.length == 2) = true := by
  decide +kernel

/-- Refutes O39: after the END frame of a LEDGER_EXPORT leaves a NOTIFY_EVENT of the event that its end records, so that
the frame is not the newest thing that left. -/
theorem not_streamsMoveData : ¬ Obligations.StreamsMoveData := by
  intro ⟨_, _, _, _, _, frameLeaves, _⟩
  obtain ⟨u, n, run, out, _⟩ :=
    frameLeaves 0 1 4 63 sEnd [8] exporter (clientConn 1 3) (exportStream [[8]]) (exportStream []) exportEnding
      (by decide +kernel) (by decide +kernel) (by decide +kernel) (by decide +kernel) (by decide +kernel) (by decide +kernel)
      (by decide +kernel) (by decide +kernel) (by decide +kernel) (by decide +kernel)
  have kept : exportEnding.out = [] := by decide +kernel
  refine not_exists_next (P := fun u => u.out.length = 1) _ exportEnding_sends_two (fun u two one => ?_) ⟨u, run, ?_⟩
  · simp [one] at two
  · simp [out, kept]

/-! ### WritesAreAcceptedOrStored: a request with the number of an overtaken one

A node request whose exchange a new epoch has overtaken waits in its string's `stale` to be answered ST_EPOCH_STALE (R188),
also where its connection has ended meanwhile. Connections' numbers are the environment's (log 23): the first request of
session 1 on a new connection 1 is again request 0, and where the write it asks for is carried out, what is due of the overtaken
request is answered first, and answers the write. -/

/-- A string still owes ST_EPOCH_STALE to RUN_WIRE_TEST, request 0 of a session 1 that was on an earlier connection 1. -/
def overtaken : State :=
  (startedWith [clientConn 1 2] [operator 1]).modRing 1 fun g => { g with stale := [⟨1, 1, 0x43, 9, 0⟩] }

theorem overtaken_served : Served firstRequest 2 overtaken (operator 1) :=
  operator_served (by decide +kernel) (by decide +kernel) (by decide +kernel) (by decide +kernel)

/-- A write that clears SEAL_OPENED, which is not stored. -/
def sealWrite : Bytes := putField ModuleTerminals.SEAL_OPENED 0 1

theorem overtaken_answers_stale :
    nextPasses (.putObj 0 firstRequest sealWrite) overtaken
      (fun u => u.out.head? == some (.frame 1 flagResponse 2 stEpochStale 5 1 [0, 0, 0, 0])) = true := by
  decide +kernel

/-- Refutes O43: a PUT_OBJ with no check against it, of a field that is not stored, is answered ST_EPOCH_STALE where an
overtaken request of its number waits for that answer. -/
theorem not_writesAreAcceptedOrStored : ¬ Obligations.WritesAreAcceptedOrStored := by
  intro ⟨_, putAnswered, _⟩
  obtain ⟨answered, _⟩ := putAnswered 0 firstRequest sealWrite overtaken (operator 1) (by decide +kernel) overtaken_served
    (by decide +kernel) (by decide +kernel)
  have notStored : (writeOf sealWrite).stored = false := by decide +kernel
  simp only [notStored] at answered
  refine not_exists_next _ overtaken_answers_stale (fun u stale ok => ?_)
    (answered ⟨rfl, by decide +kernel⟩ (by decide +kernel))
  exact absurd (Responds.status_eq (eq_of_beq stale) ok) (by decide)

/-! ### WritesOfOneActAtOnce: a transmit request while its channel's enabling is being stored

TX_REQUEST is refused on a channel that is not enabled (0x1005), which is judged on the values with the journaled writes in
place; the content itself is taken only where the channel is enabled now (R482). Between a write of CHANNEL_EN by another
session and its final journal record (R157) the two differ. -/

/-- Object 383 transmits, its channel 2 is not enabled, and a write of session 2 that enables it waits for its record. -/
def enablingChannel : State :=
  let s := ((startedWith [clientConn 1 2, clientConn 2 2]
    [operator 1, { operator 2 with outst := [⟨2, 5, none, 0⟩], next := 1 }]).wr CanObject.DIRECTION 383 2).wrB
      CanChannel.CHANNEL_EN 2 false
  { s with mbx := { s.mbx with
      journal := [{ id := 1, rid := ⟨2, 2, 2, 5, 0⟩, cells := [], erase := false, payload := [],
                    writes := [writeOf (putField CanChannel.CHANNEL_EN 2 1)] }]
      nextJournal := 2 } }

theorem enablingChannel_served : Served firstRequest 2 enablingChannel (operator 1) :=
  operator_served (by decide +kernel) (by decide +kernel) (by decide +kernel) (by decide +kernel)

theorem enablingChannel_drops :
    nextPasses (.txRequest 0 firstRequest 383 [7]) enablingChannel (fun u => !u.rdB CanObject.TX_PENDING 383) = true := by
  decide +kernel

/-- Refutes O44: a TX_REQUEST that no check refuses, because a write that enables its channel is journaled, is dropped by the
channel, which is not enabled yet: TX_PENDING stays 0. -/
theorem not_writesOfOneActAtOnce : ¬ Obligations.WritesOfOneActAtOnce := by
  intro ⟨_, _, _, _, _, _, _, contentTaken, _⟩
  obtain ⟨u, run, _, pending, _⟩ :=
    contentTaken 0 383 [7] firstRequest enablingChannel (operator 1) (by decide +kernel) enablingChannel_served (by decide)
      (by decide +kernel) (by decide +kernel) ⟨rfl, by decide +kernel⟩
  exact not_exists_next (P := fun u => u.rdB CanObject.TX_PENDING 383 = true) _ enablingChannel_drops
    (fun u dropped => by simpa using dropped) ⟨u, run, pending⟩

end Sys2Proof.Machine
end

section
/-! PROOFS. A statement of chapter 06 that a state refutes: a change of topology that waits to be measured and is marked as ASSIGNs
under the epoch in force (RingMasterRuns). -/

namespace Sys2Proof.Machine

/-! ### RingMasterRuns: a new topology with nothing to measure, under the epoch in force

A topology without a node leaves nothing to PROBE and nothing to ASSIGN (R187), so NEW_EPOCH takes it through its measuring and
its assigning at once. What follows depends on Job.same (State.assigned): without the mark the change waits for its first lap, with
it the change is over and no change is in progress. The model marks only a change that begins with its ASSIGNs
(State.resumeJobs), so that none of its rows leaves a marked one waiting to be measured; a sound state may hold one all the same,
since State.inv says nothing of the change in progress. -/

/-- A change of topology without a node, yet to be measured, marked as ASSIGNs under the epoch in force. -/
def sameEpochJob : Job :=
  { stage := 1, wantA := false, wantB := false, fromA := none, fromB := none, closed := false, full := false, nodes := [],
    segA := 0, segB := 0, epoch := 0, same := true, todo := [], tries := 0 }

/-- That change is in progress on string 1. -/
def sameEpochWaiting : State := (startedWith [] []).modRing 1 fun r => { r with job := some sameEpochJob }

theorem sameEpochWaiting_ends : nextPasses (.newEpoch 0 1) sameEpochWaiting (fun u => (u.ring 1).job.isNone) = true := by
  decide +kernel

/-- Refutes O38, by the clause of NEW_EPOCH: once no command is outstanding, a change of topology without a node that is marked
as ASSIGNs under the epoch in force ends instead of beginning to be measured. -/
theorem not_ringMasterRuns : ¬ Obligations.RingMasterRuns := by
  intro ⟨_, _, _, _, _, _, _, _, _, epochBegins, _⟩
  have begins := epochBegins 0 1 sameEpochJob sameEpochWaiting (by decide +kernel) (by decide +kernel) (by decide +kernel)
    (by decide +kernel) (by decide +kernel) (by decide +kernel)
  refine not_exists_next _ sameEpochWaiting_ends (fun u ended measuring => ?_) begins
  simp [Option.isNone_iff_eq_none.1 ended] at measuring

end Sys2Proof.Machine
end

section
/-! PROOFS. What a lap in progress keeps while other things are done on its string: the operations that no lap is begun, advanced
or ended by, each said once. -/

namespace Sys2Proof.Machine

open Sys2Proof.Obj

set_option Elab.async false

/-! ### What a lap in progress keeps -/

/-- A lap without what its checks, its record and its results put into it, and without the configuration it goes on with. -/
def Lap.core (x : Lap) : Lap :=
  { x with recAt := 0, checked := false, falseStart := false, record := [], skipped := false, built := none, regs := [],
           learn := [], old := [] }

/-- Of a string, what the firing, the collection and the completion of laps rest on: the laps in progress, the instant of the
first lap, and the ports at which an ENUMERATE waits for the place of a COLLECT. -/
def Str.lapCore (x : Str) : List Lap × Option Nat × Bool × Bool :=
  (x.laps.cur.map Lap.core, x.firstLap, x.ring.skipA, x.ring.skipB)

/-- No lap begins, ends or advances on any string. -/
def LapsKept (s u : State) : Prop := u.strs.map Str.lapCore = s.strs.map Str.lapCore

/-- All that a frame can name but the strings. -/
def besideStrs : Nat := 2 ^ 1024 - 1 - 2 ^ 12

variable {a s u : State}

theorem LapsKept.refl (s : State) : LapsKept s s := rfl

theorem LapsKept.trans (h : LapsKept a s) (k : LapsKept s u) : LapsKept a u := Eq.trans k h

theorem LapsKept.of_strs (h : LapsKept a s) (e : u.strs = s.strs) : LapsKept a u :=
  h.trans (congrArg (List.map Str.lapCore) e)

theorem LapsKept.frame (h : LapsKept a s) (k : Frame besideStrs s u) : LapsKept a u := h.of_strs k.eq_strs

theorem LapsKept.ite {c : Prop} {d : Decidable c} (h : LapsKept a s) (k : LapsKept a u) :
    LapsKept a (if c then s else u) := by
  split <;> assumption

theorem LapsKept.ite_snd {α : Type} {c : Prop} {d : Decidable c} {p q : α × State} (h : LapsKept a p.2)
    (k : LapsKept a q.2) : LapsKept a (if c then p else q).2 := by
  split <;> assumption

/-- A step that is made under a condition only. -/
theorem LapsKept.when {c : Prop} {d : Decidable c} (h : LapsKept a s) (k : LapsKept s u) :
    LapsKept a (if c then u else s) := .ite (h.trans k) h

/-- A step that is left out under a condition. -/
theorem LapsKept.unless {c : Prop} {d : Decidable c} (h : LapsKept a s) (k : LapsKept s u) :
    LapsKept a (if c then s else u) := .ite h (h.trans k)

theorem LapsKept.foldl {α : Type} {l : List α} {f : State → α → State} (h : LapsKept a s)
    (hf : ∀ v x, LapsKept v (f v x)) : LapsKept a (l.foldl f s) := by
  induction l generalizing s with
  | nil => exact h
  | cons x l ih => exact ih (h.trans (hf s x))

theorem LapsKept.eachStr {f : Nat → State → State} (h : LapsKept a s) (hf : ∀ n v, LapsKept v (f n v)) :
    LapsKept a (s.eachStr f) := h.foldl fun v n => hf n v

/-! ### The basic updates -/

theorem LapsKept.wr (h : LapsKept a s) (f : Fld) (i v x : Nat) : LapsKept a (s.wr f i v x) := h.of_strs (State.wr_strs ..)
theorem LapsKept.wrB (h : LapsKept a s) (f : Fld) (i : Nat) (b : Bool) (x : Nat) : LapsKept a (s.wrB f i b x) :=
  h.of_strs (State.wrB_strs ..)
theorem LapsKept.wrI (h : LapsKept a s) (f : Fld) (i : Nat) (v : Int) (x : Nat) : LapsKept a (s.wrI f i v x) :=
  h.of_strs (State.wrI_strs ..)
theorem LapsKept.bump (h : LapsKept a s) (f : Fld) (i d x : Nat) : LapsKept a (s.bump f i d x) :=
  h.of_strs (State.bump_strs ..)
theorem LapsKept.stamp (h : LapsKept a s) (f : Fld) (i : Nat) : LapsKept a (s.stamp f i) := h.of_strs (State.stamp_strs ..)
theorem LapsKept.send (h : LapsKept a s) (o : Out) : LapsKept a (s.send o) := h.of_strs (State.send_strs ..)

/-- Replacing an element by one that looks the same. -/
theorem map_setNth {α β : Type} (v : α → β) (d b : α) (l : List α) (i : Nat) (h : v b = v (nth d l i)) :
    (setNth b l i).map v = l.map v := by
  induction l generalizing i with
  | nil => rfl
  | cons x l ih =>
    cases i with
    | zero => exact congrArg (· :: l.map v) h
    | succ i => exact congrArg (v x :: ·) (ih i h)

theorem LapsKept.modStr (h : LapsKept a s) (n : Nat) (f : Str → Str)
    (hf : ∀ x, (f x).lapCore = x.lapCore := by exact fun _ => rfl) : LapsKept a (s.modStr n f) :=
  h.trans (map_setNth _ Str.init _ _ _ (hf _))

theorem LapsKept.modProt (h : LapsKept a s) (n : Nat) (f : Prot → Prot) : LapsKept a (s.modProt n f) := h.modStr _ _
theorem LapsKept.modFe (h : LapsKept a s) (n : Nat) (f : Fe → Fe) : LapsKept a (s.modFe n f) := h.modStr _ _
theorem LapsKept.modEst (h : LapsKept a s) (n : Nat) (f : Est → Est) : LapsKept a (s.modEst n f) := h.modStr _ _

theorem LapsKept.modRing (h : LapsKept a s) (n : Nat) (f : Ring → Ring)
    (hf : ∀ r, ((f r).skipA, (f r).skipB) = (r.skipA, r.skipB) := by exact fun _ => rfl) : LapsKept a (s.modRing n f) :=
  h.modStr _ _ fun x => by
    have e := hf x.ring
    simp only [Prod.mk.injEq] at e
    simp only [Str.lapCore, e.1, e.2]

theorem LapsKept.modLaps (h : LapsKept a s) (n : Nat) (f : Laps → Laps)
    (hf : ∀ l, (f l).cur.map Lap.core = l.cur.map Lap.core := by exact fun _ => rfl) : LapsKept a (s.modLaps n f) :=
  h.modStr _ _ fun x => by simp only [Str.lapCore, hf]

theorem LapsKept.modLap (h : LapsKept a s) (n seq : Nat) (f : Lap → Lap)
    (hf : ∀ x, (f x).core = x.core := by exact fun _ => rfl) : LapsKept a (s.modLap n seq f) :=
  h.modLaps _ _ fun l => by
    rw [List.map_map]
    refine List.map_congr_left fun x _ => ?_
    dsimp only [Function.comp]
    split
    · exact hf x
    · rfl

/-! ### Protection (chapter 13) -/

theorem LapsKept.record (h : LapsKept a s) (code sev : Nat) (data : Bytes) (str node epoch : Nat) :
    LapsKept a (s.record code sev data str node epoch) := h.frame (State.record_frame (.refl s) _ _ _ _ _ _)

theorem LapsKept.answer (h : LapsKept a s) (r : Rid) (st : Nat) (p : Bytes) : LapsKept a (s.answer r st p) :=
  h.frame (State.answer_frame (.refl s) ..)

theorem LapsKept.imdOne (h : LapsKept a s) (n : Nat) : LapsKept a (s.imdOne n) := by
  unfold State.imdOne
  exact ((((h.wr ..).wrB ..).wrB ..).when ((((LapsKept.refl _).wr ..).wr ..).wr ..)).unless ((LapsKept.refl _).modStr _ _)

theorem LapsKept.imdSync (h : LapsKept a s) : LapsKept a s.imdSync := h.eachStr fun n v => (LapsKept.refl v).imdOne n

theorem LapsKept.coilOff (h : LapsKept a s) (n c : Nat) : LapsKept a (s.coilOff n c) := by
  unfold State.coilOff
  exact .ite ((((h.modProt _ _).when (((LapsKept.refl _).modProt _ _).modStr _ _).imdSync).frame
    (State.coilRegs_frame (.refl _) ..)).send _) h

theorem LapsKept.testsOpened (h : LapsKept a s) (n : Nat) : LapsKept a (s.testsOpened n) := by
  unfold State.testsOpened
  exact .ite h ((h.foldl fun v e => (LapsKept.refl v).wrB ..).modRing _ _)

theorem LapsKept.allOff (h : LapsKept a s) (n : Nat) : LapsKept a (s.allOff n) :=
  (((h.coilOff n 0).coilOff n 1).coilOff n 2).testsOpened n

theorem LapsKept.endClosing (h : LapsKept a s) (n st : Nat) (p : Bytes) : LapsKept a (s.endClosing n st p) :=
  ((h.modProt _ _).wr ..).frame (State.answerOpt_frame (.refl _) ..)

theorem LapsKept.endOpening (h : LapsKept a s) (n st : Nat) (p : Bytes) : LapsKept a (s.endOpening n st p) :=
  (h.modProt _ _).foldl fun v r => (LapsKept.refl v).answer r st p

theorem LapsKept.openNow (h : LapsKept a s) (n cause : Nat) : LapsKept a (s.openNow n cause) := by
  unfold State.openNow
  have closed := ((h.allOff n).frame (State.zeroSetpoint_frame (.refl _) n)).wr ProtectionStatus.SEQ_STATE n seqOpen 0
  exact .ite (h.allOff n) ((((((closed.when (.frame (.refl _) (State.pcsClosed_frame (.refl _) ..))).when
    (.endClosing (.refl _) ..)).endOpening ..).modProt _ _).unless (.record (.refl _) ..)).frame
      (State.debugSettle_frame (.refl _)))

theorem LapsKept.refresh (h : LapsKept a s) (n : Nat) : LapsKept a (s.refresh n) := by
  have noted := h.frame (State.noteInhibit_frame (.refl _) n)
  unfold State.refresh
  exact .ite (noted.openNow n 2) (.ite (noted.openNow n 2) noted)

theorem LapsKept.trip (h : LapsKept a s) (n cause : Nat) (i : TripInfo) : LapsKept a (s.trip n cause i) := by
  unfold State.trip
  refine .ite h (.frame ?_ (State.debugSettle_frame (.refl _)))
  refine .frame (.unless ?_ ?pinned) (State.loopOut_frame (.refl _))
  case pinned =>
    exact .frame (.when (.refl _) (.frame (.refl _) (State.pinAround_frame (.refl _) _))) (State.attention_frame (.refl _) _)
  refine .endOpening (.when ?_ (.endClosing (.refl _) ..)) ..
  refine .record (.frame (.modProt ?_ ..) (State.storeTrips_frame (.refl _) _)) ..
  refine .unless (.bump (.when ?_ ?reported) ..) ((((LapsKept.refl _).wr ..).stamp ..).wr ..)
  case reported => exact .frame (.refl _) (State.pcsClosed_frame (.refl _) _)
  exact ((h.allOff n).frame (State.writeTrip_frame (State.zeroSetpoint_frame (.refl _) n) ..)).wr ..

theorem LapsKept.setDiag (h : LapsKept a s) (n flag : Nat) (b : Bool) (node : Nat) : LapsKept a (s.setDiag n flag b node) := by
  unfold State.setDiag
  refine .ite h (.ite (.refresh (.trip ?flagged ..) _) (.refresh ?flagged _))
  exact (h.modProt _ _).when (.wr (.refl _) ..)

theorem LapsKept.classifyTrip (h : LapsKept a s) (str : Nat) : LapsKept a (s.classifyTrip str) := by
  unfold State.classifyTrip
  split
  · exact h
  · refine .ite (h.modProt _ _) (.ite (.ite ?_ h) h)
    exact (((((h.wrB ..).wrB ..).when ((((LapsKept.refl _).wr ..).wr ..).wr ..)).when (.wr (.refl _) ..)).when
      (.wrB (.refl _) ..)).frame (State.storeTrips_frame (.refl _) ..)

/-! ### Batons, commands and changes of topology (chapter 6) -/

theorem LapsKept.modNode (h : LapsKept a s) (n k : Nat) (f : RNode → RNode) : LapsKept a (s.modNode n k f) := h.modRing _ _

theorem LapsKept.modJob (h : LapsKept a s) (n : Nat) (f : Job → Job) : LapsKept a (s.modJob n f) := h.modRing _ _

theorem LapsKept.launch (h : LapsKept a s) (n dep : Nat) (w : Wait) : LapsKept a (s.launch n dep w) :=
  (h.modRing _ _).send _

theorem LapsKept.drainPort (h : LapsKept a s) (n port : Nat) : LapsKept a (s.drainPort n port) := by
  have sent : ∀ (fuel : Nat) (v : State), LapsKept v (State.drainPort.go n port fuel v) := by
    intro fuel
    induction fuel with
    | zero => exact LapsKept.refl
    | succ fuel ih =>
      intro v
      unfold State.drainPort.go
      split
      · exact .refl v
      · exact .ite ((((LapsKept.refl v).modRing _ _).launch ..).trans (ih _)) (.refl v)
  exact h.trans (sent _ s)

theorem LapsKept.drain (h : LapsKept a s) (n : Nat) : LapsKept a (s.drain n) := (h.drainPort n 0).drainPort n 1

theorem LapsKept.sendBaton (h : LapsKept a s) (n port kind node seq : Nat) (bytes : Bytes) (grow : Nat) (closed : Bool)
    (last : Nat) : LapsKept a (s.sendBaton n port kind node seq bytes grow closed last) := (h.modRing _ _).drain n

theorem LapsKept.sendCmd (h : LapsKept a s) (n : Nat) (c : NodeCmd) : LapsKept a (s.sendCmd n c) := by
  unfold State.sendCmd
  split
  · exact h
  · exact h.sendBaton _ _ _ _ _ _ _ _ _

theorem LapsKept.pump (h : LapsKept a s) (n : Nat) : LapsKept a (s.pump n) := by
  have sent : ∀ (fuel : Nat) (v : State), LapsKept v (State.pump.go n fuel v) := by
    intro fuel
    induction fuel with
    | zero => exact LapsKept.refl
    | succ fuel ih =>
      intro v
      unfold State.pump.go
      split
      · exact .refl v
      · exact (((LapsKept.refl v).modRing _ _).sendCmd ..).trans (ih _)
  exact h.unless (sent _ s)

theorem LapsKept.queueCmd (h : LapsKept a s) (n node code : Nat) (args : Bytes) (owner : Owner) :
    LapsKept a (s.queueCmd n node code args owner) := (h.modRing _ _).pump n

theorem LapsKept.enumerateInSlot (h : LapsKept a s) (n port : Nat) : LapsKept a (s.enumerateInSlot n port) := h.launch ..

theorem LapsKept.nodeDiags (h : LapsKept a s) (n : Nat) : LapsKept a (s.nodeDiags n) :=
  (((h.setDiag ..).setDiag ..).setDiag ..).setDiag ..

theorem LapsKept.epochJob (h : LapsKept a s) (n : Nat) : LapsKept a (s.epochJob n) := (h.modRing _ _).wrB ..

theorem LapsKept.sendAssign (h : LapsKept a s) (n : Nat) (j : Job) (i : Nat) : LapsKept a (s.sendAssign n j i) := by
  unfold State.sendAssign
  dsimp only
  split
  · exact h
  · exact (h.modJob _ _).sendBaton _ _ _ _ _ _ _ _ _

theorem LapsKept.resumeJobs (h : LapsKept a s) (n : Nat) : LapsKept a (s.resumeJobs n) := by
  unfold State.resumeJobs
  refine .ite h (.ite (h.epochJob n) (.ite h ?_))
  dsimp only
  split
  · exact (h.modRing _ _).sendAssign ..
  · exact h.modRing _ _

theorem LapsKept.reassign (h : LapsKept a s) (n : Nat) (nodes : List Nat) : LapsKept a (s.reassign n nodes) := by
  unfold State.reassign
  exact .ite h ((h.modRing _ _).resumeJobs n)

theorem LapsKept.renumber (h : LapsKept a s) (n : Nat) : LapsKept a (s.renumber n) := by
  unfold State.renumber
  exact .ite h ((h.modRing _ _).resumeJobs n)

theorem LapsKept.sendCollect (h : LapsKept a s) (n port : Nat) (x : Lap) (ks : List Nat) :
    LapsKept a (s.sendCollect n port x ks) := by
  unfold State.sendCollect
  exact .ite h (h.sendBaton ..)

/-! ### Nodes and their checks (chapters 8 and 13) -/

theorem LapsKept.blankAll (h : LapsKept a s) (n : Nat) (x : Lap) : LapsKept a (s.blankAll n x) :=
  h.foldl fun v _ => (LapsKept.refl v).modNode ..

theorem LapsKept.modWire (h : LapsKept a s) (n k w : Nat) (f : Wire → Wire) : LapsKept a (s.modWire n k w f) := h.modNode ..

theorem LapsKept.wireRegs (h : LapsKept a s) (n : Nat) : LapsKept a (s.wireRegs n) := by
  unfold State.wireRegs
  refine .setDiag (.foldl ((h.wr ..).wrB ..) fun v e => ?_) ..
  dsimp only
  split
  · exact ((((((LapsKept.refl v).wr ..).wr ..).wr ..).wr ..).wr ..).wrB ..
  · exact ((((((LapsKept.refl v).wr ..).wr ..).wr ..).wr ..).wr ..).wrB ..

theorem LapsKept.wireTests (h : LapsKept a s) (n : Nat) : LapsKept a (s.wireTests n) :=
  h.foldl fun v _ => (LapsKept.refl v).foldl fun w _ =>
    .ite ((LapsKept.refl w).modWire ..) (((LapsKept.refl w).modWire ..).queueCmd ..)

theorem LapsKept.classifyWires (h : LapsKept a s) (n k : Nat) (d : Bytes) : LapsKept a (s.classifyWires n k d) := by
  unfold State.classifyWires
  refine h.foldl fun v w => ?_
  refine .ite (.ite (((LapsKept.refl v).modWire ..).frame (State.recordOpen_frame (.refl _) ..)) ?_) ?_
  · exact .unless (.refl v) (.modWire (.refl v) ..)
  · exact .when (.refl v) (.modWire (.refl v) ..)

theorem LapsKept.sumCheck (h : LapsKept a s) (n k : Nat) (diff : Int) : LapsKept a (s.sumCheck n k diff) := by
  unfold State.sumCheck
  refine .ite (.wrB ?counted ..) (.ite (.wrB ?counted ..) ?counted)
  exact h.modNode ..

theorem LapsKept.lapNode (h : LapsKept a s) (n : Nat) (x : Lap) (k : Nat) (d : Bytes) : LapsKept a (s.lapNode n x k d) := by
  unfold State.lapNode
  refine .ite ?taken (.unless ?judged (.modNode (.refl _) ..))
  case judged =>
    exact .classifyWires (.sumCheck (.wrI (.wr (.foldl ?taken fun v c => .wr (.refl v) ..) ..) ..) ..) ..
  exact (((h.modNode ..).wr ..).wr ..).when (((LapsKept.refl _).wr ..).modNode ..)

theorem LapsKept.tempUnknown (h : LapsKept a s) (n : Nat) : LapsKept a (s.tempUnknown n) :=
  (h.foldl fun v _ => (LapsKept.refl v).modNode ..).setDiag ..

theorem LapsKept.judge (h : LapsKept a s) (n pos at_ kind v lo hi node chan : Nat) :
    LapsKept a (s.judge n pos at_ kind v lo hi node chan) := by
  unfold State.judge
  exact ((h.modProt _ _).when (.trip (.refl _) ..)).when (.trip (.refl _) ..)

theorem LapsKept.dropTimers (h : LapsKept a s) (n pos : Nat) (kinds : List Nat) : LapsKept a (s.dropTimers n pos kinds) :=
  h.modProt _ _

theorem LapsKept.checkVolt (h : LapsKept a s) (n at_ pos : Nat) (p : Pos) : LapsKept a (s.checkVolt n at_ pos p) := by
  unfold State.checkVolt
  refine .when (.modProt (.ite h (.ite ?cell ?bounds)) ..) (.trip (.refl _) ..)
  case cell => exact (h.dropTimers ..).judge ..
  case bounds => exact (h.dropTimers ..).foldl fun v _ => (LapsKept.refl v).judge ..

theorem LapsKept.checkTemp (h : LapsKept a s) (n at_ pos : Nat) (p : Pos) : LapsKept a (s.checkTemp n at_ pos p) := by
  unfold State.checkTemp
  exact .ite h (((h.modProt _ _).when (.trip (.refl _) ..)).when (.trip (.refl _) ..))

theorem LapsKept.checkTemps (h : LapsKept a s) (n : Nat) (sel : Nat → Nat → Bool) : LapsKept a (s.checkTemps n sel) := by
  unfold State.checkTemps
  exact (h.when ((LapsKept.refl s).foldl fun v _ => .when (.refl v) (.checkTemp (.refl v) ..))).tempUnknown n

theorem LapsKept.checkLap (h : LapsKept a s) (n : Nat) (x : Lap) : LapsKept a (s.checkLap n x) := by
  unfold State.checkLap
  exact (((h.when ((LapsKept.refl s).foldl fun v _ => (LapsKept.refl v).checkVolt ..)).checkTemps ..).modProt _ _).refresh n

end Sys2Proof.Machine
end

section
/-! PROOFS. Laps are kept too while results are derived, while what waited for a lap comes into force, and while a string's status is
captured. -/

namespace Sys2Proof.Machine

open Sys2Proof.Obj

set_option Elab.async false

variable {a s u : State}

/-! ### Estimation and results (chapters 11 and 12) -/

theorem LapsKept.restoreLap (h : LapsKept a s) (n at_ : Nat) : LapsKept a (s.restoreLap n at_) := by
  unfold State.restoreLap
  split
  · exact h
  · refine .ite h (.frame (.foldl (h.modStr ..) fun v p => ?_) (State.restoreCheck_frame (State.ledgerRegs_frame (.refl _))))
    split
    · exact .refl v
    · exact .ite (.frame (.refl v) (State.applyEntry_frame (.refl _) ..)) (.frame (.refl v) (Frame.on_ledger (.refl _) _))

theorem LapsKept.lapCheck (h : LapsKept a s) (n : Nat) (x : Lap) : LapsKept a (s.lapCheck n x) := by
  unfold State.lapCheck
  exact .ite h (.ite (h.modLap ..) ((((h.modLap ..).bump ..).wr ..).modEst ..))

theorem LapsKept.restLap (h : LapsKept a s) (n : Nat) (x : Lap) : LapsKept a (s.restLap n x) := h.modEst ..

theorem LapsKept.tableLap (h : LapsKept a s) (n : Nat) (x : Lap) : LapsKept a (s.tableLap n x) := by
  unfold State.tableLap
  exact .ite h (((h.modEst ..).frame (State.compareEntries_frame (.refl _) ..)).unless (.record (.refl _) ..))

theorem LapsKept.throughput (h : LapsKept a s) (n : Nat) (x : Lap) : LapsKept a (s.throughput n x) :=
  (h.modEst ..).frame (Frame.on_ledger (.refl _) _)

theorem LapsKept.clipLap (h : LapsKept a s) (n : Nat) (x : Lap) : LapsKept a (s.clipLap n x) := (h.modFe ..).modEst ..

theorem LapsKept.skipLap (h : LapsKept a s) (n : Nat) (x : Lap) : LapsKept a (s.skipLap n x) :=
  ((h.modLap ..).bump ..).modEst ..

theorem LapsKept.updateLap (h : LapsKept a s) (n : Nat) (x : Lap) : LapsKept a (s.updateLap n x) := by
  unfold State.updateLap
  dsimp only
  refine .modEst (.wr (.wr (.bump ?_ ..) ..) ..) ..
  refine .frame ?_ (State.seedLap_frame (State.filterEvents_frame (.refl _) ..) ..)
  exact .tableLap (.modEst (.frame h (Frame.on_free (.refl _) _)) ..) ..

theorem LapsKept.filterLap (h : LapsKept a s) (n : Nat) (x : Lap) : LapsKept a (s.filterLap n x) := by
  unfold State.filterLap
  refine .ite ?ready (.ite (.skipLap ?ready ..) (.updateLap (.lapCheck ?ready ..) ..))
  refine .wrB (.frame (.unless ?_ (.restoreLap (.refl _) ..)) (State.pendingLap_frame (.refl _) ..)) ..
  exact ((((h.restLap ..).clipLap ..).modEst ..).throughput ..).frame (State.thermalLap_frame (.refl _) ..)

theorem LapsKept.outliers (h : LapsKept a s) (n : Nat) : LapsKept a (s.outliers n) :=
  (h.modEst ..).foldl fun v _ => (LapsKept.when (.refl v) (.record (.refl _) ..)).when (.record (.refl _) ..)

theorem LapsKept.anchorLap (h : LapsKept a s) (n : Nat) (x : Lap) : LapsKept a (s.anchorLap n x).2 := by
  unfold State.anchorLap
  refine .ite_snd ?taken (.ite_snd (.modEst ?taken ..) (.record (.wr (.modEst ?taken ..) ..) ..))
  exact h.when (.wr (.refl _) ..)

theorem LapsKept.learnLap (h : LapsKept a s) (n : Nat) (x : Lap) : LapsKept a (s.learnLap n x) := by
  unfold State.learnLap
  exact .ite h ((h.modLap ..).foldl fun v _ =>
    (((LapsKept.refl v).frame (State.putEntry_frame (.refl _) ..)).bump ..).record .. |>.outliers n)

theorem LapsKept.learnDue (h : LapsKept a s) (n : Nat) : LapsKept a (s.learnDue n) :=
  h.foldl fun v x => (LapsKept.refl v).learnLap n x

theorem LapsKept.divergeLap (h : LapsKept a s) (n : Nat) (x : Lap) (dt : Nat) : LapsKept a (s.divergeLap n x dt) := by
  unfold State.divergeLap
  refine .modEst (.when (.wr (.wrB (.wrB (.foldl (h.modEst ..) fun v c => ?_) ..) ..) ..) ?_) ..
  · dsimp only
    split
    · exact .record (.refl v) ..
    · exact .record (.refl v) ..
    · exact .record (.refl v) ..
    · exact .refl v
  · exact .frame (.record (.refl _) ..) (State.attention_frame (.refl _) ..)

theorem LapsKept.hideLap (h : LapsKept a s) (o : State) (n seq : Nat) (wait : List CellW) :
    LapsKept a (s.hideLap o n seq wait) := (h.frame (State.showResults_frame (.refl _) ..)).modLap ..

/-- A result is built once, when the lap has been handed on, into the lap whose number it has. -/
theorem State.buildResult_cases (s : State) (n seq : Nat) :
    (s.buildResult n seq = s ∧ ∀ x, s.lap? n seq = some x → x.handed.isSome = true → x.built.isSome = true) ∨
      ∃ v unit learnt wait, LapsKept s v ∧ s.buildResult n seq =
        (v.modLap n seq fun y => { y with built := some unit, learn := learnt }).hideLap s n seq wait := by
  unfold State.buildResult
  split
  · next h => exact .inl ⟨rfl, fun x hx => absurd (hx.symm.trans h) nofun⟩
  · next x hx =>
    split
    · next c =>
      refine .inl ⟨rfl, fun y hy hh => ?_⟩
      cases hx.symm.trans hy
      rcases Bool.or_eq_true_iff.1 c with c | c
      · exact c
      · rw [Option.isNone_iff_eq_none.1 c] at hh
        cases hh
    · refine .inr ⟨_, _, _, _, ?_, rfl⟩
      refine .modEst (.frame (.when ?_ ?_) (Frame.on_free (.refl _) _)) ..
      · refine .frame (.divergeLap ?_ ..) (State.stringRegs_frame (State.divergeRegs_frame (.refl _) ..) ..)
        exact ((LapsKept.refl s).frame (State.showResults_frame (.refl _) ..)).anchorLap ..
      · exact .wrB (.bump (.refl _) ..) ..

theorem LapsKept.buildResult (h : LapsKept a s) (n seq : Nat) : LapsKept a (s.buildResult n seq) := by
  obtain ⟨e, -⟩ | ⟨v, unit, learnt, wait, k, e⟩ := s.buildResult_cases n seq
  · rw [e]; exact h
  · rw [e]; exact .hideLap (.modLap (h.trans k) ..) ..

theorem LapsKept.underOld (h : LapsKept a s) (n seq : Nat) {f : State → State} (hf : ∀ v, LapsKept v (f v)) :
    LapsKept a (s.underOld n seq f) := by
  unfold State.underOld
  exact .ite (h.trans (hf s)) (.of_strs ((h.frame (State.putCells_frame (.refl _) ..)).trans (hf _)) rfl)

theorem LapsKept.buildAll (h : LapsKept a s) (n : Nat) : LapsKept a (s.buildAll n) :=
  h.foldl fun v _ => (LapsKept.refl v).underOld _ _ fun w => (LapsKept.refl w).buildResult ..

theorem LapsKept.freezeAll (h : LapsKept a s) (n seq : Nat) (ks : List Nat) : LapsKept a (s.freezeAll n seq ks) :=
  h.foldl fun v _ => (LapsKept.refl v).queueCmd ..

theorem LapsKept.stepLap (h : LapsKept a s) (n : Nat) (x : Lap) (prevSeq prevPlain : Nat) :
    LapsKept a (s.stepLap n x prevSeq prevPlain) := by
  unfold State.stepLap
  dsimp only
  split
  · refine .ite (h.modEst ..) (.ite (.bump ?stepped ..) (.freezeAll (.modEst ?stepped ..) ..))
    exact ((h.modEst ..).bump ..).modEst ..
  · exact h.modEst ..

theorem LapsKept.lapCounts (h : LapsKept a s) (n : Nat) (x : Lap) (flags : Nat) : LapsKept a (s.lapCounts n x flags) := by
  unfold State.lapCounts
  refine .wr (.modLaps (.unless (.when (.when (.when ((h.bump ..).bump ..) ?_) ?_) ?_) (.wr (.refl _) ..)) ..) ..
  · exact .wr (.wrB (.bump (.refl _) ..) ..) ..
  · exact .wr (.wrB (.bump (.refl _) ..) ..) ..
  · exact .bump (.refl _) ..

/-! ### What waits for a lap (chapters 5 to 8 and 10) -/

theorem LapsKept.failAnswer (h : LapsKept a s) (r : Rid) (n node : Nat) (e : CmdEnd) :
    LapsKept a (s.failAnswer r n node e) := by
  unfold State.failAnswer
  split
  · exact h
  · exact h.answer ..
  · exact .ite (h.modRing _ _) (h.answer ..)

theorem LapsKept.sendThresholds (h : LapsKept a s) (n k tries : Nat) : LapsKept a (s.sendThresholds n k tries) := by
  unfold State.sendThresholds
  exact h.when (.queueCmd (.refl _) ..)

theorem LapsKept.thresholdsAll (h : LapsKept a s) (n : Nat) : LapsKept a (s.thresholdsAll n) :=
  h.foldl fun v _ => .ite ((LapsKept.refl v).modNode ..) ((LapsKept.refl v).sendThresholds ..)

theorem LapsKept.armNode (h : LapsKept a s) (n k : Nat) : LapsKept a (s.armNode n k) := by
  unfold State.armNode
  exact .ite (h.modNode ..) (.ite h (.ite (h.modNode ..) ((h.modNode ..).queueCmd ..)))

theorem LapsKept.setProfile (h : LapsKept a s) (n : Nat) (b : Bytes) : LapsKept a (s.setProfile n b) := by
  unfold State.setProfile
  exact .wr (.modStr (.ite ((h.wr ..).wr ..) (.ite ((h.wr ..).wr ..) h)) ..) ..

theorem LapsKept.profileNow (h : LapsKept a s) (n : Nat) (b : Bytes) : LapsKept a (s.profileNow n b) :=
  ((h.setProfile n b).thresholdsAll n).refresh n

/-- The configuration that a lap in progress goes on with is no part of what it keeps. -/
theorem LapsKept.keepOld (h : LapsKept a s) (o : State) (n : Nat) (cs : List CellW) (at_ : Nat) :
    LapsKept a (s.keepOld o n cs at_) :=
  h.modLaps _ _ fun l => by
    rw [List.map_map]
    refine List.map_congr_left fun x _ => ?_
    dsimp only [Function.comp]
    split <;> rfl

theorem LapsKept.nodeReqEnd (h : LapsKept a s) (n f node : Nat) (e : CmdEnd) : LapsKept a (s.nodeReqEnd n f node e) := by
  unfold State.nodeReqEnd
  dsimp only
  split
  · exact .ite h (.foldl (.frame h (Frame.on_mbx (.refl _) _)) fun v q => .answer (.refl v) ..)
  · exact .foldl (.frame h (Frame.on_mbx (.refl _) _)) fun v q => .failAnswer (.refl v) ..

theorem LapsKept.nodeConfigured (h : LapsKept a s) (n : Nat) : LapsKept a (s.nodeConfigured n) := by
  unfold State.nodeConfigured
  refine .ite (.renumber ?placed _) (.reassign (.foldl (.foldl ?placed fun v k => .wr (.refl v) ..) fun v k => ?_) ..)
  · exact h.foldl fun v k => .wr (.refl v) ..
  · exact .modNode (.refl v) ..

theorem LapsKept.sentinelsSet (h : LapsKept a s) (o : State) (n : Nat) : LapsKept a (s.sentinelsSet o n) :=
  (h.frame (State.sentinelsMoved_frame (.refl _) n)).foldl fun v _ => .armNode (.refl v) ..

theorem LapsKept.configured (h : LapsKept a s) (o : State) (n : Nat) (objs : List Nat) :
    LapsKept a (s.configured o n objs) := by
  unfold State.configured
  refine .when (.when (.when (.when h ?_) (.nodeConfigured (.refl _) _)) (.sentinelsSet (.refl _) ..)) ?_
  · exact .frame (.refl _) (State.rateRefresh_frame (.refl _) _)
  · exact .frame (.refl _) (State.compareEntries_frame (.refl _) _)

theorem LapsKept.refSwitch (h : LapsKept a s) (n ref : Nat) : LapsKept a (s.refSwitch n ref) :=
  ((h.wr ..).wrB ..).modFe ..

theorem LapsKept.frontWritten (h : LapsKept a s) (o : State) (n : Nat) (cs : List CellW) :
    LapsKept a (s.frontWritten o n cs) := by
  unfold State.frontWritten
  refine .foldl (.unless (.unless (.unless h ?_) (.refSwitch (.refl _) ..)) (.imdSync (.refl _))) fun v k => ?_
  · exact .refresh (.record (.refl _) ..) _
  · exact .frame (.refl v) (State.calStored_frame (.refl _) ..)

theorem LapsKept.stringWritten (h : LapsKept a s) (o : State) (n : Nat) (cs : List CellW) :
    LapsKept a (s.stringWritten o n cs) := by
  unfold State.stringWritten
  refine .when (.when (.when ((h.configured ..).frontWritten ..) (.refresh (.refl _) _)) ?_) ?_
  · exact .frame (.refl _) (State.ownerRefresh_frame (.refl _))
  · exact .frame (.refl _) (State.updateRegs_frame (.refl _) _)

theorem LapsKept.closeRing (h : LapsKept a s) (n : Nat) : LapsKept a (s.closeRing n) := by
  unfold State.closeRing
  exact ((h.modRing _ _).unless (.queueCmd (.refl _) ..)).unless (.queueCmd (.refl _) ..)

theorem LapsKept.restartNodes (h : LapsKept a s) (n : Nat) : LapsKept a (s.restartNodes n) :=
  h.foldl fun v _ => .queueCmd (.refl v) ..

theorem LapsKept.touchDue (h : LapsKept a s) (n : Nat) (c : CellW) : LapsKept a (s.touchDue n c) := by
  unfold State.touchDue State.closeRequested
  refine .ite (h.unless (.unless (.refl _) (.closeRing (.refl _) _))) (.ite (h.unless (.restartNodes (.refl _) _)) ?_)
  exact .frame h (State.putCells_frame (.refl _) _)

theorem LapsKept.applyWait (h : LapsKept a s) (n : Nat) : LapsKept a (s.applyWait n) := by
  unfold State.applyWait
  refine .unless (.foldl (.unless (.modStr ?profiled ..) ?written) fun v c => .touchDue (.refl v) ..) ?answered
  case profiled =>
    split
    · exact h.profileNow ..
    · exact h
  case written =>
    exact .stringWritten (.keepOld (.frame (.modStr (.refl _) ..) (State.putCells_frame (.refl _) _)) ..) ..
  case answered => exact .nodeReqEnd (.nodeReqEnd (.refl _) ..) ..

theorem LapsKept.staleDue (h : LapsKept a s) (n : Nat) : LapsKept a (s.staleDue n) := by
  unfold State.staleDue
  exact .ite h (.foldl (h.modRing _ _) fun v q => .answer (.refl v) ..)

theorem LapsKept.waitDue (h : LapsKept a s) (n : Nat) : LapsKept a (s.waitDue n) := by
  unfold State.waitDue
  refine .ite (h.staleDue n) ?_
  split
  · exact (h.staleDue n).when (.applyWait (.refl _) n)
  · exact h.staleDue n

/-! ### Captures of a string's status (R155) -/

theorem LapsKept.shotRefer (h : LapsKept a s) (n : Nat) : LapsKept a (s.shotRefer n) := by
  unfold State.shotRefer
  split
  · refine .ite h ?_
    dsimp only
    split
    · exact h.modStr ..
    · exact (h.modStr ..).modStr ..
  · exact h

theorem LapsKept.capture (h : LapsKept a s) (n at_ : Nat) : LapsKept a (s.capture n at_) := by
  unfold State.capture
  exact .unless h (.shotRefer (.modStr (.refl _) ..) n)

end Sys2Proof.Machine
end

section
/-! PROOFS. A lap is collected, completed, handed on and released: the clauses of LapsRun (chapter 07) that follow a lap in
progress. -/

namespace Sys2Proof.Machine

open Sys2Proof.Obj

set_option Elab.async false

variable {a s u : State}

/-! ### Reading a string whose laps are kept -/

theorem nth_map {α β : Type} (v : α → β) (d : α) (l : List α) (i : Nat) : nth (v d) (l.map v) i = v (nth d l i) := by
  induction l generalizing i with
  | nil => rfl
  | cons x l ih =>
    cases i with
    | zero => rfl
    | succ i => exact ih i

theorem LapsKept.str (h : LapsKept s u) (n : Nat) : (u.str n).lapCore = (s.str n).lapCore := by
  have e := nth_map Str.lapCore Str.init
  rw [State.str, State.str, ← e, ← e, h]

theorem LapsKept.cur (h : LapsKept s u) (n : Nat) : (u.laps n).cur.map Lap.core = (s.laps n).cur.map Lap.core :=
  congrArg Prod.fst (h.str n)

theorem LapsKept.firstLap (h : LapsKept s u) (n : Nat) : (u.str n).firstLap = (s.str n).firstLap :=
  congrArg (·.2.1) (h.str n)

theorem LapsKept.skipA (h : LapsKept s u) (n : Nat) : (u.ring n).skipA = (s.ring n).skipA := congrArg (·.2.2.1) (h.str n)

theorem LapsKept.skipB (h : LapsKept s u) (n : Nat) : (u.ring n).skipB = (s.ring n).skipB := congrArg (·.2.2.2) (h.str n)

theorem LapsKept.length (h : LapsKept s u) : u.strs.length = s.strs.length := by
  rw [← List.length_map, h, List.length_map]

/-- The oldest lap in progress. -/
theorem LapsKept.oldest (h : LapsKept s u) {n : Nat} {x : Lap} {xs : List Lap} (e : (s.laps n).cur = x :: xs) :
    ∃ y ys, (u.laps n).cur = y :: ys ∧ y.core = x.core := by
  have k := h.cur n
  rw [e, List.map_cons] at k
  obtain ⟨y, ys, hy, hx, -⟩ := List.map_eq_cons_iff.1 k
  exact ⟨y, ys, hy, hx⟩

/-- What a lap keeps can be read off its core. -/
theorem any_of_core {p : Lap → Bool} (hp : ∀ x, p x = p x.core) {o q : Option Lap} (h : o.map Lap.core = q.map Lap.core) :
    o.any p = q.any p := by
  have e : ∀ r : Option Lap, r.any p = (r.map Lap.core).any p := fun r => by
    cases r with
    | none => rfl
    | some x => exact hp x
  rw [e o, e q, h]

theorem find_core (seq : Nat) (l : List Lap) :
    (l.find? fun x => x.seq == seq).map Lap.core = (l.map Lap.core).find? fun x => x.seq == seq := by
  induction l with
  | nil => rfl
  | cons x l ih =>
    rw [List.map_cons, List.find?_cons, List.find?_cons, show x.core.seq = x.seq from rfl]
    cases x.seq == seq
    · exact ih
    · rfl

theorem LapsKept.lap? (h : LapsKept s u) (n seq : Nat) :
    (u.lap? n seq).map Lap.core = (s.lap? n seq).map Lap.core := by
  unfold State.lap?
  rw [find_core, find_core, h.cur]

/-- A property that a lap keeps holds of the oldest lap as before. -/
theorem LapsKept.oldest_any (h : LapsKept s u) (n : Nat) (p : Lap → Bool) (hp : ∀ x, p x = p x.core := by exact fun _ => rfl) :
    (u.laps n).cur.head?.any p = (s.laps n).cur.head?.any p :=
  any_of_core hp (by rw [← List.head?_map, h.cur, List.head?_map])

theorem LapsKept.lap_any (h : LapsKept s u) (n seq : Nat) (p : Lap → Bool) (hp : ∀ x, p x = p x.core := by exact fun _ => rfl) :
    (u.lap? n seq).any p = (s.lap? n seq).any p := any_of_core hp (h.lap? n seq)

theorem LapsKept.lap_none (h : LapsKept s u) {n seq : Nat} (e : s.lap? n seq = none) : u.lap? n seq = none := by
  have k := h.lap? n seq
  rwa [e, Option.map_none, Option.map_eq_none_iff] at k

theorem LapsKept.lap_some (h : LapsKept s u) {n seq : Nat} {x : Lap} (e : s.lap? n seq = some x) :
    ∃ y, u.lap? n seq = some y ∧ y.core = x.core := by
  have k := h.lap? n seq
  rw [e, Option.map_some] at k
  exact Option.map_eq_some_iff.1 k

/-! ### The laps in progress of one string -/

theorem nth_default {α : Type} (d : α) (l : List α) (i : Nat) (h : l.length ≤ i) : nth d l i = d := by
  induction l generalizing i with
  | nil => rfl
  | cons x l ih =>
    cases i with
    | zero => exact absurd h (Nat.not_succ_le_zero _)
    | succ i => exact ih i (Nat.le_of_succ_le_succ h)

/-- Laps are in progress on strings of the state only. -/
theorem str_lt_of_laps {n : Nat} (h : (s.laps n).cur ≠ []) : n < s.strs.length := by
  by_contra k
  exact h (by rw [State.laps, State.str, nth_default _ _ _ (Nat.le_of_not_lt k)]; rfl)

theorem str_lt_of_lap {n seq : Nat} {x : Lap} (h : s.lap? n seq = some x) : n < s.strs.length :=
  str_lt_of_laps (List.ne_nil_of_mem (List.mem_of_find?_eq_some h))

/-- A change of a string leaves what it does not touch, of every string. -/
theorem State.modStr_same {β : Type} (v : Str → β) (s : State) (n m : Nat) (f : Str → Str)
    (h : ∀ x, v (f x) = v x := by exact fun _ => rfl) :
    v ((s.modStr n f).str m) = v (s.str m) := by
  have e := nth_map v Str.init
  rw [State.str, State.str, ← e, ← e]
  exact congrArg (nth _ · m) (map_setNth v Str.init _ _ _ (h _))

theorem State.modRing_laps (s : State) (n m : Nat) (f : Ring → Ring) : (s.modRing n f).laps m = s.laps m :=
  State.modStr_same Str.laps s n m _

theorem State.modStr_lap? (s : State) (n m seq : Nat) (f : Str → Str) (h : ∀ x, (f x).laps = x.laps := by exact fun _ => rfl) :
    (s.modStr n f).lap? m seq = s.lap? m seq :=
  congrArg (fun l : Laps => l.cur.find? fun x : Lap => x.seq == seq) (State.modStr_same Str.laps s n m f h)

theorem State.wrB_laps (s : State) (g : Fld) (i : Nat) (b : Bool) (x m : Nat) : (s.wrB g i b x).laps m = s.laps m :=
  congrArg Str.laps (State.wrB_str ..)

theorem State.modLaps_laps {n : Nat} (h : n < s.strs.length) (f : Laps → Laps) : (s.modLaps n f).laps n = f (s.laps n) :=
  congrArg Str.laps (State.modStr_str h _)

theorem State.modLap_cur {n : Nat} (h : n < s.strs.length) (seq : Nat) (f : Lap → Lap) :
    ((s.modLap n seq f).laps n).cur = (s.laps n).cur.map fun x => if x.seq = seq then f x else x :=
  congrArg Laps.cur (State.modLaps_laps h _)

/-- A changed lap that keeps its number is the lap with this number. -/
theorem State.modLap_lap? {n seq : Nat} {x : Lap} {f : Lap → Lap} (h : s.lap? n seq = some x) 
    (hf : ∀ y, (f y).seq = y.seq := by exact fun _ => rfl) :
    (s.modLap n seq f).lap? n seq = some (f x) := by
  rw [State.lap?, State.modLap_cur (str_lt_of_lap h)]
  rw [State.lap?] at h
  generalize (s.laps n).cur = l at h
  induction l with
  | nil => cases h
  | cons y l ih =>
    by_cases e : y.seq = seq
    · rw [List.find?_cons_of_pos (by exact beq_iff_eq.2 e)] at h
      rw [List.map_cons, if_pos e, List.find?_cons_of_pos (by exact beq_iff_eq.2 ((hf y).trans e)), Option.some.inj h]
    · rw [List.find?_cons_of_neg (by exact fun k => e (beq_iff_eq.1 k))] at h
      rw [List.map_cons, if_neg e, List.find?_cons_of_neg (by exact fun k => e (beq_iff_eq.1 k))]
      exact ih h

/-- The oldest lap in progress is the one with its number. -/
theorem State.lap?_oldest {n : Nat} {x : Lap} {xs : List Lap} (h : (s.laps n).cur = x :: xs) : s.lap? n x.seq = some x := by
  rw [State.lap?, h, List.find?_cons_of_pos (by exact beq_iff_eq.2 rfl)]

/-- The oldest lap in progress after it is changed. -/
theorem State.modLap_cons {n : Nat} {x : Lap} {xs : List Lap} (h : (s.laps n).cur = x :: xs) (f : Lap → Lap) :
    ∃ ys, ((s.modLap n x.seq f).laps n).cur = f x :: ys := by
  rw [State.modLap_cur (str_lt_of_laps (by rw [h]; exact List.cons_ne_nil _ _)), h, List.map_cons, if_pos rfl]
  exact ⟨_, rfl⟩

theorem State.modLap_oldest {n : Nat} {x : Lap} {xs : List Lap} (h : (s.laps n).cur = x :: xs) (f : Lap → Lap) :
    ((s.modLap n x.seq f).laps n).cur.head? = some (f x) := by
  obtain ⟨ys, e⟩ := State.modLap_cons h f
  rw [e, List.head?_cons]

/-- The instant at which a lap stands depends on the clock and the lap's instants alone. -/
theorem lapNow_congr {x y : Lap} (hn : u.now = s.now) (hc : u.clk = s.clk) (hx : y.core = x.core) :
    u.lapNow y = s.lapNow x := by
  have h1 : y.nom = x.nom := (congrArg Lap.nom hx : y.core.nom = x.core.nom)
  have h2 : y.plain = x.plain := (congrArg Lap.plain hx : y.core.plain = x.core.plain)
  rw [State.lapNow, State.lapNow, State.plain, State.plain, State.base, State.base, h1, h2, hn, hc]

/-! ### The clause: a port's COLLECT (R192, R212) -/

/-- All that a frame can name but the clock, the nonvolatile store, the supply and the start. -/
def besideModule : Nat := 2 ^ 1024 - 1 - (1 + 2 + 8 + 16 + 64)

theorem State.waitDue_module (s : State) (n : Nat) : Frame besideModule s (s.waitDue n) := State.waitDue_frame (.refl s) n

theorem hasStr_of_module (h : Frame besideModule s u) (n : Nat) : u.hasStr n = s.hasStr n := by
  rw [State.hasStr, State.hasStr, State.strings, State.strings, h.eq_nv]

theorem running_of_module (h : Frame besideModule s u) : u.running = s.running := by
  rw [State.running, State.running, h.eq_boot, h.eq_power]

/-- What becomes of the ports of a string at which an ENUMERATE waits, once the COLLECT of `port` is asked for. -/
def Ring.unskip (port : Nat) (r : Ring) : Ring :=
  { r with skipA := r.skipA && decide (port ≠ 0), skipB := r.skipB && decide (port ≠ 1) }

theorem Ring.unskip_skip (port : Nat) (r : Ring) (h : port ≤ 1) :
    (if port = 0 then (r.unskip port).skipA else (r.unskip port).skipB) = false := by
  rcases Nat.le_one_iff_eq_zero_or_eq_one.1 h with rfl | rfl
  · exact Bool.and_false _
  · exact Bool.and_false _

theorem State.modRing_ring {n : Nat} (h : n < s.strs.length) (f : Ring → Ring) : (s.modRing n f).ring n = f (s.ring n) :=
  congrArg Str.ring (State.modStr_str h _)

/-- Once the COLLECT of a port is asked for of the oldest lap, it stays so while laps are kept, and no ENUMERATE waits there. -/
theorem asked_of_kept {n port : Nat} {y : Lap} {ys : List Lap} {f : Lap → Lap} {fld : Fld} {b : Bool} (hport : port ≤ 1)
    (hy : (s.laps n).cur = y :: ys) (hf : (if port = 0 then (f y).askedA else (f y).askedB) = true)
    (h : LapsKept (((s.modLap n y.seq f).modRing n (Ring.unskip port)).wrB fld n b) u) :
    ((u.laps n).cur.head?).any (fun z => if port = 0 then z.askedA else z.askedB) = true ∧
      (if port = 0 then (u.ring n).skipA else (u.ring n).skipB) = false := by
  have hn : n < s.strs.length := str_lt_of_laps (by rw [hy]; exact List.cons_ne_nil _ _)
  have hm : n < (s.modLap n y.seq f).strs.length := by
    rw [State.modLap, State.modLaps, State.modStr_strs, setNth_length]; exact hn
  constructor
  · rw [h.oldest_any n fun z => if port = 0 then z.askedA else z.askedB, State.wrB_laps, State.modRing_laps]
    exact (congrArg (Option.any _) (State.modLap_oldest hy f)).trans hf
  · rw [h.skipA, h.skipB, State.ring, State.wrB_str]
    exact (congrArg (fun r : Ring => if port = 0 then r.skipA else r.skipB) (State.modRing_ring hm _)).trans
      (Ring.unskip_skip port _ hport)

/-- COLLECT (R212): 24 µs after the instant of the oldest lap, where no late SAMPLE was sent. That an ENUMERATE which waits
for the port leaves in its place is the reading of log 48; the lap is asked for either way. -/
theorem collectAsked {t str port : Nat} {x : Lap} {xs : List Lap} {s : State} (hp : s.hasStr str = true)
    (hr : s.running = true) (hport : port ≤ 1) (hcur : (s.laps str).cur = x :: xs) (hd : x.done = none) (hs : x.short_ = false)
    (ha : (if port = 0 then x.askedA else x.askedB) = false) (hl : x.late = none) (ht : x.nom + 24000 ≤ (s.at t).lapNow x) :
    ∃ u, exec (.collect t str port) s = .next u ∧
      ((u.laps str).cur.head?).any (fun y => if port = 0 then y.askedA else y.askedB) = true ∧
      (if port = 0 then (u.ring str).skipA else (u.ring str).skipB) = false := by
  have hk : LapsKept (s.at t) ((s.at t).waitDue str) := .waitDue (.refl _) str
  have hm := (s.at t).waitDue_module str
  have hp' := (hasStr_of_module hm str).trans hp
  have hr' := (running_of_module hm).trans hr
  show ∃ u, execCollect t str port s = .next u ∧ _
  unfold execCollect
  generalize (s.at t).waitDue str = w at *
  obtain ⟨y, ys, hy, hc⟩ := hk.oldest (n := str) hcur
  have yd : y.done = none := (congrArg Lap.done hc : y.core.done = _).trans hd
  have ys_ : y.short_ = false := (congrArg Lap.short_ hc : y.core.short_ = _).trans hs
  have ya : (if port = 0 then y.askedA else y.askedB) = false := by
    have e : (if port = 0 then y.core.askedA else y.core.askedB) = if port = 0 then x.core.askedA else x.core.askedB := by
      rw [hc]
    exact e.trans ha
  have yl : y.late = none := (congrArg Lap.late hc : y.core.late = _).trans hl
  have yn : y.nom = x.nom := (congrArg Lap.nom hc : y.core.nom = _)
  have hf : (w.laps str).cur.find? (fun z => z.done.isNone && !z.short_ && !(if port = 0 then z.askedA else z.askedB)) =
      some y := by
    rw [hy, List.find?_cons_of_pos]
    rw [yd, ys_, ya]
    rfl
  have hb : ¬ (w.lapNow y < y.nom + 24000) := by rw [lapNow_congr hm.eq_now hm.eq_clk hc, yn]; exact not_lt.2 ht
  dsimp only
  rw [hf]
  dsimp only
  rw [yl]
  dsimp only
  rw [hp', hr', decide_eq_false (not_lt.2 hport), decide_eq_false hb]
  refine ⟨_, rfl, asked_of_kept hport hy ?_ (.drain (.ite (.enumerateInSlot (.refl _) ..) (.sendCollect (.refl _) ..)) _)⟩
  rcases Nat.le_one_iff_eq_zero_or_eq_one.1 hport with rfl | rfl
  · exact Bool.or_true _
  · exact Bool.or_true _

/-! ### The clauses: the cut-off and the lap current (R209, R216) -/

/-- The oldest lap that is not complete is the oldest lap in progress. -/
theorem find_open {x : Lap} {xs l : List Lap} (h : l = x :: xs) (hd : x.done = none) :
    (l.find? fun y => y.done.isNone) = some x := by
  rw [h, List.find?_cons_of_pos]
  rw [hd]
  rfl

/-- At the cut-off missing records end the collection (R216). -/
theorem collectionCut {t str : Nat} {x : Lap} {xs : List Lap} {s : State} (hp : s.hasStr str = true)
    (hr : s.running = true) (hcur : (s.laps str).cur = x :: xs) (hd : x.done = none)
    (ht : s.cutOff str x ≤ (s.at t).lapNow x) (ha : s.allRecords str x = false) :
    ∃ u, exec (.collectionCutoff t str) s = .next u ∧ ((u.laps str).cur.head?).any (·.short_) = true := by
  have hf := find_open (l := ((s.at t).laps str).cur) hcur hd
  have hc : ((s.at t).hasStr str && (s.at t).running && decide ((s.at t).cutOff str x ≤ (s.at t).lapNow x) &&
      !(s.at t).allRecords str x) = true := by
    rw [show (s.at t).hasStr str = true from hp, show (s.at t).running = true from hr,
      show (s.at t).allRecords str x = false from ha, decide_eq_true (show (s.at t).cutOff str x ≤ _ from ht)]
    rfl
  refine ⟨(s.at t).modLap str x.seq fun y => { y with short_ := true }, ?_, ?_⟩
  · show execCollectionCutoff t str s = _
    unfold execCollectionCutoff
    dsimp only
    rw [hf]
    dsimp only
    rw [if_pos hc]
  · rw [State.modLap_oldest (s := s.at t) hcur]
    rfl

theorem State.modStr_cutOff (s : State) (n m : Nat) (f : Str → Str) (x : Lap) :
    (s.modStr n f).cutOff m x = s.cutOff m x := rfl

theorem State.modStr_lapNow (s : State) (n : Nat) (f : Str → Str) (x : Lap) : (s.modStr n f).lapNow x = s.lapNow x := rfl

theorem State.at_cutOff (s : State) (t m : Nat) (x : Lap) : (s.at t).cutOff m x = s.cutOff m x := rfl

theorem State.modLap_frames (s : State) (n seq m : Nat) (f : Lap → Lap) :
    ((s.modLap n seq f).fe m).frames = (s.fe m).frames :=
  State.modStr_same (fun z => z.fe.frames) s n m _ fun _ => rfl

theorem State.modEst_frames (s : State) (n m : Nat) (f : Est → Est) : ((s.modEst n f).fe m).frames = (s.fe m).frames :=
  State.modStr_same (fun z => z.fe.frames) s n m _ fun _ => rfl

/-- The lap check leaves the frames that wait for a string's laps. -/
theorem State.lapCheck_frames (s : State) (n m : Nat) (x : Lap) : ((s.lapCheck n x).fe m).frames = (s.fe m).frames := by
  unfold State.lapCheck
  dsimp only
  split
  · rfl
  split
  · rw [State.modLap_frames]
  · rw [State.modEst_frames, State.fe, State.wr_str, State.bump_str]
    exact State.modLap_frames ..

/-- A lap-current frame up to the cut-off gives its lap the current and charge (R209). -/
theorem chargeArrived {t str ahead seq : Nat} {late : Bool} {i q : Int} {rest : List (Nat × Bool × Int × Int)} {x : Lap}
    {s : State} (hfr : (s.fe str).frames = (seq, late, i, q) :: rest) (hx : s.lap? str seq = some x)
    (hd : x.done = none) (ht : (s.at t).lapNow x ≤ s.cutOff str x) :
    ∃ u, exec (.chargeArrival t str ahead) s = .next u ∧ (u.fe str).frames = rest ∧
      (u.lap? str seq).any (fun y => if late then decide (y.curLate = some i) else decide (y.cur = some (i, q))) = true := by
  have hb : (x.done.isSome || decide (s.cutOff str x < (s.at t).lapNow x)) = false := by
    rw [hd, decide_eq_false (not_lt.2 ht)]
    rfl
  have hv : ((s.at t).modStr str fun x => { x with fe := { x.fe with frames := rest } }).lap? str seq = some x :=
    (State.modStr_lap? (s.at t) str str seq _).trans hx
  have hr : (((s.at t).modStr str fun x => { x with fe := { x.fe with frames := rest } }).fe str).frames = rest :=
    congrArg (fun z : Str => z.fe.frames) (State.modStr_str (s := s.at t) (str_lt_of_lap hx) _)
  show ∃ u, execChargeArrival t str ahead s = .next u ∧ _
  unfold execChargeArrival
  dsimp only
  rw [show ((s.at t).str str).fe.frames = _ from hfr]
  dsimp only
  rw [hv]
  dsimp only
  rw [State.modStr_cutOff, State.modStr_lapNow, State.at_cutOff, if_neg (ne_true_of_eq_false hb)]
  revert hv hr
  generalize (s.at t).modStr str _ = v
  intro hv hr
  cases late with
  | true =>
    refine ⟨_, rfl, (State.modLap_frames ..).trans hr, ?_⟩
    rw [if_pos rfl, State.modLap_lap? hv]
    exact decide_eq_true rfl
  | false =>
    rw [if_neg Bool.false_ne_true]
    generalize (if v.rdB EstimationConfig.RUN_AHEAD_EN str = true then min 4 ahead else 0) = a
    have hw : ((v.modLap str seq fun y => { y with cur := some (i, q), ahead := a }).lap? str seq).any
        (fun y => decide (y.cur = some (i, q))) = true := by
      rw [State.modLap_lap? hv]
      exact decide_eq_true rfl
    refine ⟨_, rfl, ?_, ?_⟩
    · split
      · split
        · rw [State.lapCheck_frames, State.modEst_frames, State.modLap_frames, hr]
        · rw [State.modEst_frames, State.modLap_frames, hr]
      · rw [State.modEst_frames, State.modLap_frames, hr]
    · simp only [Bool.false_eq_true, if_false]
      rw [← hw]
      refine LapsKept.lap_any ?_ str seq fun y => decide (y.cur = some (i, q))
      refine .ite ?_ (.modEst (.refl _) ..)
      split
      · exact .lapCheck (.modEst (.refl _) ..) ..
      · exact .modEst (.refl _) ..

/-! ### A lap that is complete (R209, R216) -/

/-- Underneath the configuration of a lap nothing but registers differs. -/
theorem State.underOld_strs (s : State) (n seq : Nat) (f : State → State) :
    ∃ v : State, v.strs = s.strs ∧ (s.underOld n seq f).strs = (f v).strs := by
  unfold State.underOld
  dsimp only
  split
  · exact ⟨s, rfl, rfl⟩
  · exact ⟨_, (State.putCells_frame (M := besideStrs) (.refl s) _).eq_strs, rfl⟩

theorem LapsKept.replays (h : LapsKept a s) (n : Nat) (x : Lap) : LapsKept a (s.replays n x) :=
  h.frame (State.replays_frame (.refl _) ..)

/-- The lap record is no part of what a lap keeps. -/
theorem Lap.core_record (x : Lap) (r : Bytes) : ({ x with record := r } : Lap).core = x.core := rfl

/-- Completing a lap: it is done, then nothing of the laps changes until it is handed on and the string has its first lap. -/
theorem State.completeLap_strs (s : State) (str : Nat) (x : Lap) (whole : Nat) :
    ∃ (v w : State) (at_ first : Nat), v.strs = s.strs ∧
      LapsKept (v.modLap str x.seq fun y => { y with done := some whole }) w ∧
      (s.completeLap str x whole).strs = ((w.modLap str x.seq fun y => { y with handed := some at_ }).modStr str fun y =>
        { y with firstLap := some (y.firstLap.getD first) }).strs := by
  refine (State.underOld_strs s str x.seq _).elim fun v h => ⟨v, _, _, _, h.1, ?_, h.2⟩
  refine LapsKept.trans (s := ?mid) ?filtered ?replayed
  case replayed =>
    split
    · exact .replays (.refl _) ..
    · exact .refl _
  case filtered =>
    refine .unless (.stepLap (.learnDue (.buildAll (.checkLap ?_ ..) _) _) ..) (.filterLap (.refl _) ..)
    refine .modLap (.lapCounts (.classifyTrip (.wireTests (.nodeDiags (.wireRegs ?_ _) _) _) _) ..) _ _ _
      fun y => y.core_record _
    refine .foldl (.modEst (.blankAll (.refl _) ..) ..) fun w k => ?_
    split
    · exact .lapNode (.refl w) ..
    · exact .refl w

/-! ### Laps leave at their result instants (R47, R48) -/

/-- On a string laps only leave; its first lap stays. -/
def LapsLeft (n : Nat) (s u : State) : Prop :=
  ((u.laps n).cur.map Lap.core).Sublist ((s.laps n).cur.map Lap.core) ∧ (u.str n).firstLap = (s.str n).firstLap

theorem LapsLeft.refl (n : Nat) (s : State) : LapsLeft n s s := ⟨List.Sublist.refl _, rfl⟩

theorem LapsLeft.trans {n : Nat} (h : LapsLeft n a s) (k : LapsLeft n s u) : LapsLeft n a u :=
  ⟨k.1.trans h.1, k.2.trans h.2⟩

theorem LapsKept.left (h : LapsKept s u) (n : Nat) : LapsLeft n s u :=
  ⟨(h.cur n) ▸ List.Sublist.refl _, h.firstLap n⟩

/-- A number that no lap in progress has. -/
theorem lap?_eq_none {n seq : Nat} : s.lap? n seq = none ↔ ∀ x ∈ (s.laps n).cur.map Lap.core, x.seq ≠ seq := by
  rw [State.lap?, List.find?_eq_none, List.forall_mem_map]
  exact forall₂_congr fun x _ => not_congr beq_iff_eq

/-- The laps in progress are found in the strings alone. -/
theorem lap?_of_strs (h : u.strs = s.strs) (n seq : Nat) : u.lap? n seq = s.lap? n seq := by
  rw [State.lap?, State.lap?, State.laps, State.laps, State.str, State.str, h]

/-- A lap that has left does not come back. -/
theorem LapsLeft.lap_none {n seq : Nat} (h : LapsLeft n s u) (e : s.lap? n seq = none) : u.lap? n seq = none :=
  lap?_eq_none.2 fun x hx => lap?_eq_none.1 e x (h.1.subset hx)

/-- The lap with a number leaves. -/
def State.dropLap (s : State) (n seq : Nat) : State :=
  s.modLaps n fun l => { l with cur := l.cur.filter fun y => y.seq ≠ seq }

theorem State.dropLap_cur (s : State) (n seq : Nat) :
    ((s.dropLap n seq).laps n).cur = (s.laps n).cur.filter fun y => y.seq ≠ seq := by
  by_cases h : n < s.strs.length
  · rw [State.dropLap, State.modLaps_laps h]
  · have e : ∀ v : State, v.strs.length = s.strs.length → (v.laps n).cur = [] := fun v hv => by
      rw [State.laps, State.str, nth_default _ _ _ (hv ▸ Nat.le_of_not_lt h)]
      rfl
    rw [e (s.dropLap n seq) (setNth_length ..), e s rfl, List.filter_nil]

theorem State.dropLap_left (s : State) (n seq : Nat) : LapsLeft n s (s.dropLap n seq) := by
  refine ⟨?_, State.modStr_same Str.firstLap s n n _⟩
  rw [State.dropLap_cur]
  exact List.filter_sublist.map _

theorem State.dropLap_none (s : State) (n seq : Nat) : (s.dropLap n seq).lap? n seq = none := by
  rw [State.lap?, State.dropLap_cur, List.find?_eq_none]
  intro x hx
  rw [beq_iff_eq]
  exact of_decide_eq_true (List.mem_filter.1 hx).2

theorem LapsKept.limitsReleased (h : LapsKept a s) (n : Nat) : LapsKept a (s.limitsReleased n) :=
  h.frame (State.limitsReleased_frame (.refl _) n)

theorem LapsKept.showResults (h : LapsKept a s) (n : Nat) (cs : List CellW) : LapsKept a (s.showResults n cs) :=
  h.frame (State.showResults_frame (.refl _) ..)

/-- Hiding the results of a lap changes, of the lap, its hidden results alone. -/
theorem State.hideLap_lap? {n seq : Nat} {x : Lap} (h : s.lap? n seq = some x) (o : State) (wait : List CellW) :
    ∃ r, (s.hideLap o n seq wait).lap? n seq = some { x with regs := r } := by
  have hs : ∀ cs, (s.showResults n cs).strs = s.strs := fun cs =>
    (State.showResults_frame (M := besideStrs) (.refl s) n cs).eq_strs
  exact ⟨_, State.modLap_lap? ((lap?_of_strs (hs _) n seq).trans h)⟩

/-- What a release can do: nothing to the laps, where the oldest lap is another one or has not been handed on; otherwise, once
its result is built, the lap leaves. -/
theorem State.releaseLap_cases (s : State) (n seq : Nat) :
    (s.releaseLap n seq = s ∧ ¬ ∃ x xs, (s.laps n).cur = x :: xs ∧ x.seq = seq ∧ x.handed.isSome = true) ∨
      (LapsKept s (s.releaseLap n seq) ∧ (((s.underOld n seq fun v => v.buildResult n seq).lap? n seq).bind (·.built)) = none) ∨
      ∃ v, LapsKept s v ∧ LapsKept (v.dropLap n seq) (s.releaseLap n seq) := by
  unfold State.releaseLap
  split
  · next h => exact .inl ⟨rfl, fun ⟨x, xs, e, _⟩ => by rw [h] at e; cases e⟩
  · next x xs h =>
    split
    · next c =>
      refine .inl ⟨rfl, fun ⟨y, ys, e, hs, hh⟩ => ?_⟩
      rw [h] at e
      cases e
      rcases c with c | c
      · exact c hs
      · rw [Option.isNone_iff_eq_none.1 c] at hh
        cases hh
    · refine .inr ?_
      have hb : LapsKept s (s.underOld n seq fun v => v.buildResult n seq) :=
        .underOld (.refl s) n seq fun v => .buildResult (.refl v) n seq
      dsimp only
      split
      · next hu => exact .inl ⟨hb, hu⟩
      · refine .inr ⟨_, ?shown, .limitsReleased (.capture (.modStr (.refl _) ..) ..) _⟩
        split
        · exact .learnLap (.showResults hb ..) ..
        · exact hb

theorem State.releaseLap_left (s : State) (n seq : Nat) : LapsLeft n s (s.releaseLap n seq) := by
  obtain ⟨e, -⟩ | ⟨h, -⟩ | ⟨v, h, k⟩ := s.releaseLap_cases n seq
  · rw [e]; exact .refl n s
  · exact h.left n
  · exact (h.left n).trans ((v.dropLap_left n seq).trans (k.left n))

/-- The result of a lap handed on is there once it is built. -/
theorem State.buildResult_built {n seq : Nat} {x : Lap} (hx : s.lap? n seq = some x) (hh : x.handed.isSome = true) :
    (((s.buildResult n seq).lap? n seq).bind (·.built)).isSome = true := by
  obtain ⟨e, hb⟩ | ⟨v, unit, learnt, wait, k, e⟩ := s.buildResult_cases n seq
  · rw [e, hx]
    exact hb x hx hh
  · obtain ⟨y, hy, -⟩ := k.lap_some hx
    obtain ⟨r, hr⟩ := State.hideLap_lap? (State.modLap_lap? (f := fun y => { y with built := some unit, learn := learnt }) hy)
      s wait
    rw [e, hr]
    rfl

/-- The oldest lap in progress, once it is handed on, leaves. -/
theorem State.releaseLap_none {n : Nat} {x : Lap} {xs : List Lap} (hc : (s.laps n).cur = x :: xs)
    (hh : x.handed.isSome = true) : (s.releaseLap n x.seq).lap? n x.seq = none := by
  obtain ⟨-, e⟩ | ⟨-, e⟩ | ⟨v, -, k⟩ := s.releaseLap_cases n x.seq
  · exact absurd ⟨x, xs, hc, rfl, hh⟩ e
  · obtain ⟨v, hv, hu⟩ := s.underOld_strs n x.seq fun v => v.buildResult n x.seq
    have hx : v.lap? n x.seq = some x := (lap?_of_strs hv ..).trans (State.lap?_oldest hc)
    have hb := State.buildResult_built hx hh
    rw [← lap?_of_strs hu, e] at hb
    cases hb
  · exact k.lap_none (v.dropLap_none n x.seq)

theorem State.releaseLate_left (s : State) (n seq : Nat) : LapsLeft n s (s.releaseLate n seq) := by
  unfold State.releaseLate
  split
  · split
    · exact .refl n s
    · exact s.releaseLap_left n seq
  · exact .refl n s

theorem State.releasesLate_left (n : Nat) (l : List Nat) (s : State) :
    LapsLeft n s (l.foldl (fun v q => v.releaseLate n q) s) := by
  induction l generalizing s with
  | nil => exact .refl n s
  | cons q l ih => exact (s.releaseLate_left n q).trans (ih _)

/-- Nothing is released before the oldest lap's result instant is over. -/
theorem State.releaseLate_early {n : Nat} {x : Lap} {xs : List Lap} (hc : (s.laps n).cur = x :: xs)
    (ht : s.lapNow x ≤ x.resultAt) (seq : Nat) : s.releaseLate n seq = s := by
  unfold State.releaseLate
  split
  · next y hy =>
    by_cases e : x.seq = seq
    · subst e
      cases hy.symm.trans (State.lap?_oldest hc)
      rw [if_pos ht]
    · split
      · rfl
      · unfold State.releaseLap
        rw [hc]
        dsimp only
        rw [if_pos (.inl e)]
  · rfl

/-! ### The clause: complete lap data is handed on (R209, R216, R48) -/

theorem str_of_strs (h : u.strs = s.strs) (n : Nat) : u.str n = s.str n := by rw [State.str, State.str, h]

/-- All that a frame can name but the clock. -/
def besideClock : Nat := 2 ^ 1024 - 1 - 3

/-- The oldest lap once it is complete: done and handed on; the string has its first lap. -/
theorem State.completeLap_oldest {str : Nat} {x : Lap} {xs : List Lap} (hc : (s.laps str).cur = x :: xs) (whole : Nat) :
    (∃ y ys at_, ((s.completeLap str x whole).laps str).cur = y :: ys ∧
      y.core = ({ x with done := some whole, handed := some at_ } : Lap).core) ∧
    ((s.completeLap str x whole).str str).firstLap.isSome = true := by
  obtain ⟨v, w, at_, first, hv, hw, e⟩ := s.completeLap_strs str x whole
  have hvc : (v.laps str).cur = x :: xs := (congrArg (fun z : Str => z.laps.cur) (str_of_strs hv str)).trans hc
  obtain ⟨ys, hm⟩ := State.modLap_cons hvc fun y => { y with done := some whole }
  obtain ⟨z, zs, hz, hzc⟩ := hw.oldest hm
  have hseq : z.seq = x.seq := (congrArg Lap.seq hzc : z.core.seq = _)
  obtain ⟨zs', hz'⟩ := State.modLap_cons hz fun y => { y with handed := some at_ }
  have hlt : str < (w.modLap str z.seq fun y => { y with handed := some at_ }).strs.length :=
    str_lt_of_laps (by rw [hz']; exact List.cons_ne_nil _ _)
  rw [← hseq] at e
  rw [State.laps, str_of_strs e, State.modStr_str hlt]
  refine ⟨⟨_, zs', at_, hz', ?_⟩, rfl⟩
  exact congrArg (fun y : Lap => { y with handed := some at_ }) hzc

/-- Complete lap data is handed on, and the lap stays in progress up to its result instant. -/
theorem lapDataCompleted {t str : Nat} {x : Lap} {xs : List Lap} {s : State} (hp : s.hasStr str = true) (hr : s.running = true)
    (hcur : (s.laps str).cur = x :: xs) (hd : x.done = none) (hrec : s.allRecords str x = true ∨ x.short_ = true)
    (hdue : s.cutOff str x ≤ (s.at t).lapNow x ∨ x.curMissing = false) :
    ∃ u, exec (.lapDataComplete t str) s = .next u ∧ (u.str str).firstLap.isSome = true ∧
      ((s.at t).lapNow x ≤ x.resultAt → (u.lap? str x.seq).any (fun y => y.done.isSome && y.handed.isSome) = true) ∧
      (x.resultAt < (s.at t).lapNow x → u.lap? str x.seq = none) := by
  have hf := find_open (l := ((s.at t).laps str).cur) hcur hd
  have hg : (!(s.at t).hasStr str || !(s.at t).running || !((s.at t).allRecords str x || x.short_) ||
      !(decide ((s.at t).cutOff str x ≤ (s.at t).lapNow x) || !x.curMissing)) = false := by
    rw [show (s.at t).hasStr str = true from hp, show (s.at t).running = true from hr,
      show ((s.at t).allRecords str x || x.short_) = true from Bool.or_eq_true_iff.2 hrec]
    rcases hdue with h | h
    · rw [decide_eq_true (show (s.at t).cutOff str x ≤ _ from h)]
      rfl
    · rw [h, Bool.not_false, Bool.or_true]
      rfl
  show ∃ u, execLapDataComplete t str s = .next u ∧ _
  unfold execLapDataComplete
  dsimp only
  rw [hf]
  dsimp only
  rw [hg, if_neg Bool.false_ne_true]
  have hfr : ∀ whole, Frame besideClock (s.at t) ((s.at t).completeLap str x whole) := fun whole =>
    State.completeLap_frame (.refl _) str x whole
  generalize hw : (if x.records.isEmpty = true then (s.at t).lapNow x else x.recAt) = whole
  obtain ⟨⟨y, ys, at_, hy, hc⟩, hfirst⟩ := State.completeLap_oldest (s := s.at t) hcur whole
  specialize hfr whole
  generalize (s.at t).completeLap str x whole = c at *
  have hseq : y.seq = x.seq := (congrArg Lap.seq hc : y.core.seq = _)
  have hres : y.resultAt = x.resultAt := (congrArg Lap.resultAt hc : y.core.resultAt = _)
  have hnow : c.lapNow y = (s.at t).lapNow x :=
    lapNow_congr (x := { x with done := some whole, handed := some at_ }) hfr.eq_now hfr.eq_clk hc
  have hh : y.handed.isSome = true := (congrArg (·.handed.isSome) hc : y.core.handed.isSome = _)
  have hd' : y.done.isSome = true := (congrArg (·.done.isSome) hc : y.core.done.isSome = _)
  refine ⟨_, rfl, ?_, fun he => ?_, fun hl => ?_⟩
  · rw [(State.releasesLate_left str _ c).2]
    exact hfirst
  · rw [List.foldl_fixed' fun q => State.releaseLate_early hy (by rw [hnow, hres]; exact he) q, ← hseq, State.lap?_oldest hy]
    exact Bool.and_eq_true_iff.2 ⟨hd', hh⟩
  · rw [hy, List.map_cons, List.foldl_cons]
    refine (State.releasesLate_left str _ _).lap_none ?_
    rw [← hseq, State.releaseLate, State.lap?_oldest hy]
    dsimp only
    rw [hnow, hres, if_neg (not_le.2 hl)]
    exact State.releaseLap_none hy hh

end Sys2Proof.Machine
end

section
/-! PROOFS. The registers LapsRun names: those of a new second, of the shadow check and of a lap that is fired, and the settling of
LapsRun (O35). -/

namespace Sys2Proof.Machine

open Sys2Proof.Obj

set_option Elab.async false

variable {a s u : State}

/-! ### The clauses: the checks of a second (R314, R315) -/

/-- All that a frame can name but some registers. -/
def besideRegs (fs : List Fld) : Nat := fs.foldl (fun m f => m - 2 ^ regTree.find f.code) (2 ^ 1024 - 1 - 4)

theorem sorted_of_inv (h : s.inv = true) : s.objs.sorted = true := ((State.inv_iff s).1 h).1

/-- A counter counts once where the rest of a step leaves its register. -/
theorem Counts.of_bump {f : Fld} {i : Nat} {v : State} (hv : v.objs.sorted = true) (h : v.rd f i = s.rd f i)
    (k : u.rd f i = (v.bump f i).rd f i) : Counts f i s u := by
  rw [Counts, k, State.bump, State.rd_wr hv, h]

/-- The shadow check counts, and a mismatch sets SELF_TEST_FAIL (R315). -/
theorem shadowChecked {t str : Nat} {same : Bool} {s : State} (hi : s.inv = true) (hp : s.hasStr str = true)
    (he : s.enginesUp = true) (hpos : (s.est str).pos ≠ []) (hf : s.filterOn str = true)
    (hup : s.upd.relay = false ∨ s.rd UpdateStatus.HANDOVER_DIE ≠ str)
    (hsec : (s.est str).shadowSec ≠ (s.at t).base / 1000000000 + 1) :
    ∃ u, exec (.shadowCheck t str same) s = .next u ∧ Counts FilterStatus.SHADOW_CHECKS str s u ∧
      (same = false → Counts FilterStatus.SHADOW_MISMATCHES str s u ∧ u.rdB DieStatus.SELF_TEST_FAIL str = true) := by
  have hg : (!(s.at t).hasStr str || !(s.at t).enginesUp || ((s.at t).est str).pos.isEmpty || !(s.at t).filterOn str ||
      ((s.at t).upd.relay && decide ((s.at t).rd UpdateStatus.HANDOVER_DIE = str)) ||
      decide (((s.at t).est str).shadowSec = (s.at t).base / 1000000000 + 1)) = false := by
    have h1 : ((s.at t).upd.relay && decide ((s.at t).rd UpdateStatus.HANDOVER_DIE = str)) = false := by
      rcases hup with h | h
      · rw [show (s.at t).upd.relay = false from h]
        rfl
      · rw [decide_eq_false (show (s.at t).rd UpdateStatus.HANDOVER_DIE ≠ str from h), Bool.and_false]
    rw [show (s.at t).hasStr str = true from hp, show (s.at t).enginesUp = true from he,
      show ((s.at t).est str).pos.isEmpty = false from List.isEmpty_eq_false_iff.2 hpos,
      show (s.at t).filterOn str = true from hf, h1, decide_eq_false (show ((s.at t).est str).shadowSec ≠ _ from hsec)]
    rfl
  show ∃ u, execShadowCheck t str same s = .next u ∧ _
  unfold execShadowCheck
  dsimp only
  rw [hg, if_neg Bool.false_ne_true]
  generalize hv : (s.at t).modEst str _ = v
  have hk : Keeps s v := hv ▸ State.modEst_keeps (State.at_keeps (.refl s) t) str _
  have hr : ∀ f i, v.rd f i = s.rd f i := fun f i => by rw [← hv]; rfl
  have hsv : v.objs.sorted = true := sorted_of_inv (hk.inv hi)
  have hsb : (v.bump FilterStatus.SHADOW_CHECKS str).objs.sorted = true := State.wr_sorted hsv ..
  have hsm : ((v.bump FilterStatus.SHADOW_CHECKS str).bump FilterStatus.SHADOW_MISMATCHES str).objs.sorted = true :=
    State.wr_sorted hsb ..
  cases same with
  | true => exact ⟨_, rfl, .of_bump hsv (hr ..) rfl, nofun⟩
  | false =>
    rw [if_neg Bool.false_ne_true]
    refine ⟨_, rfl, .of_bump hsv (hr ..) ?_, fun _ => ⟨.of_bump hsb ?_ ?_, ?_⟩⟩
    · exact (Frame.rd (m := besideRegs [FilterStatus.SHADOW_CHECKS])
        (State.record_frame (State.wrB_frame (State.bump_frame (.refl _) ..) ..) _ _ _ _ _ _) _ _ _)
    · rw [State.bump, State.rd_wr_apart, hr]
      decide +kernel
    · exact (Frame.rd (m := besideRegs [FilterStatus.SHADOW_MISMATCHES])
        (State.record_frame (State.wrB_frame (.refl _) ..) _ _ _ _ _ _) _ _ _)
    · refine (Frame.rdB (m := besideRegs [DieStatus.SELF_TEST_FAIL]) (State.record_frame (.refl _) _ _ _ _ _ _) _ _ _).trans ?_
      exact State.rdB_wrB hsm _ _ _ _ (by decide)

/-- What a new second shows of the last one. -/
def State.secondShown (s : State) (n ratio : Nat) : State :=
  let e := s.est n
  let load := s.laneLoad n
  let s := s.wr FilterStatus.FALSE_START_RATIO_1S n ratio
  let s := s.wr FilterStatus.LANE_POSITIONS_MAX n ((e.pos.length + 31) / 32)
  let s := s.wr FilterStatus.RUN_AHEAD_DEPTH_MAX n e.secDepth
  match load with
  | some v => s.wr FilterStatus.LANE_LOAD_MAX n v
  | none => s

/-- The estimation of a string when a new second begins. -/
def Est.inSecond (e : Est) (sec : Nat) (half : Bool) : Est :=
  { e with secIdx := sec, secLaps := 0, secFalse := 0, secDepth := 0, secSpan := 0, half := half, phase := false }

/-- Half rate as the last second asks for it, from whether it was at half rate. -/
def State.rateHalved (s : State) (n ratio sec : Nat) (half was : Bool) : State :=
  let s := if half && !was then s.record 0x0901 2 (toLE 2 ratio) n
    else if was && !half then s.record 0x0902 1 [] n else s
  let s := if s.rd FilterStatus.FILTER_STATE n = 0 then s else s.wr FilterStatus.FILTER_STATE n (if half then 2 else 1)
  s.modEst n fun e => e.inSecond sec half

/-- More than a quarter of the laps of the second were false starts. -/
def Est.halves (e : Est) : Bool := decide (e.secLaps < 4 * e.secFalse)

/-- FALSE_START_RATIO_1S of the second that ends. -/
def Est.falseRatio (e : Est) : Nat := if e.secLaps = 0 then 0 else min 0xFFFF (1000 * e.secFalse / e.secLaps)

theorem Est.falseRatio_lt (e : Est) : e.falseRatio < 2 ^ 16 := by
  unfold Est.falseRatio
  split
  · exact Nat.two_pow_pos 16
  · exact lt_of_le_of_lt (min_le_left ..) (by decide)

theorem execFalseStartSecond_eq {t str : Nat} {s : State} (hp : s.hasStr str = true) (he : s.enginesUp = true)
    (hsec : (s.at t).base / 1000000000 ≠ (s.est str).secIdx) :
    execFalseStartSecond t str s =
      let e := s.est str
      let v := (s.at t).secondShown str e.falseRatio
      .next ((if e.halves then v.bump FilterStatus.HALF_RATE_SECONDS str else v).rateHalved str e.falseRatio
        ((s.at t).base / 1000000000) e.halves e.half) := by
  have hg : (!(s.at t).hasStr str || !(s.at t).enginesUp || decide ((s.at t).base / 1000000000 = ((s.at t).est str).secIdx)) =
      false := by
    rw [show (s.at t).hasStr str = true from hp, show (s.at t).enginesUp = true from he,
      decide_eq_false (show _ ≠ ((s.at t).est str).secIdx from hsec)]
    rfl
  exact congrArg Host.Outcome.next (if_neg (ne_true_of_eq_false hg))

/-- Beyond the ratio itself, what a second shows leaves the ratio and the seconds at half rate. -/
theorem State.secondShown_ratio (hs : s.objs.sorted = true) (n ratio : Nat) :
    (s.secondShown n ratio).rd FilterStatus.FALSE_START_RATIO_1S n = ratio % 2 ^ 16 := by
  have h : Frame (besideRegs [FilterStatus.FALSE_START_RATIO_1S]) (s.wr FilterStatus.FALSE_START_RATIO_1S n ratio)
      (s.secondShown n ratio) := by
    unfold State.secondShown
    dsimp only
    split
    · exact State.wr_frame (State.wr_frame (State.wr_frame (.refl _) ..) ..) ..
    · exact State.wr_frame (State.wr_frame (.refl _) ..) ..
  rw [h.rd FilterStatus.FALSE_START_RATIO_1S n 0, State.rd_wr hs]
  rfl

theorem State.secondShown_rest (s : State) (n ratio : Nat) :
    Frame (besideRegs [FilterStatus.HALF_RATE_SECONDS] - 2 ^ 12) s (s.secondShown n ratio) := by
  unfold State.secondShown
  dsimp only
  split
  · exact State.wr_frame (State.wr_frame (State.wr_frame (State.wr_frame (.refl _) ..) ..) ..) ..
  · exact State.wr_frame (State.wr_frame (State.wr_frame (.refl _) ..) ..) ..

theorem State.secondShown_keeps (s : State) (n ratio : Nat) : Keeps s (s.secondShown n ratio) := by
  unfold State.secondShown
  dsimp only
  split
  · exact State.wr_keeps (State.wr_keeps (State.wr_keeps (State.wr_keeps (.refl _) ..) ..) ..) ..
  · exact State.wr_keeps (State.wr_keeps (State.wr_keeps (.refl _) ..) ..) ..

/-- Half rate leaves what the second has shown. -/
theorem State.rateHalved_frame (s : State) (n ratio sec : Nat) (half was : Bool) :
    Frame (besideRegs [FilterStatus.FALSE_START_RATIO_1S, FilterStatus.HALF_RATE_SECONDS]) s
      (s.rateHalved n ratio sec half was) := by
  unfold State.rateHalved
  have h : Frame (besideRegs [FilterStatus.FALSE_START_RATIO_1S, FilterStatus.HALF_RATE_SECONDS]) s
      (if half && !was then s.record 0x0901 2 (toLE 2 ratio) n
        else if was && !half then s.record 0x0902 1 [] n else s) :=
    .ite (State.record_frame (.refl s) _ _ _ _ _ _) (.ite (State.record_frame (.refl s) _ _ _ _ _ _) (.refl s))
  exact State.modEst_frame (.ite h (State.wr_frame h ..)) ..

theorem State.rateHalved_est {n : Nat} (h : n < s.strs.length) (ratio sec : Nat) (half was : Bool) :
    ∃ e : Est, (s.rateHalved n ratio sec half was).est n = e.inSecond sec half := by
  unfold State.rateHalved
  refine ⟨_, congrArg Str.est (State.modStr_str ?_ _)⟩
  rw [LapsKept.length (s := s)]
  · exact h
  · exact .unless (.ite (.record (.refl s) _ _ _ _ _ _) (.ite (.record (.refl s) _ _ _ _ _ _) (.refl s))) (.wr (.refl _) ..)

/-- A new second gives the false-start ratio and, above a quarter, half rate. -/
theorem secondChecked {t str : Nat} {s : State} (hi : s.inv = true) (hp : s.hasStr str = true) (hs : str ≤ 7)
    (he : s.enginesUp = true) (hsec : (s.at t).base / 1000000000 ≠ (s.est str).secIdx) :
    ∃ u, exec (.falseStartSecond t str) s = .next u ∧ (u.est str).secIdx = (s.at t).base / 1000000000 ∧
      u.rd FilterStatus.FALSE_START_RATIO_1S str =
        (if (s.est str).secLaps = 0 then 0 else min 0xFFFF (1000 * (s.est str).secFalse / (s.est str).secLaps)) ∧
      (u.est str).half = decide ((s.est str).secLaps < 4 * (s.est str).secFalse) ∧
      ((s.est str).secLaps < 4 * (s.est str).secFalse → Counts FilterStatus.HALF_RATE_SECONDS str s u) := by
  have hlen : str < s.strs.length := by
    obtain ⟨-, -, -, hz, -, -⟩ := (State.inv_iff s).1 hi
    simp only [State.sized, Bool.and_eq_true, beq_iff_eq] at hz
    omega
  refine ⟨_, execFalseStartSecond_eq hp he hsec, ?_⟩
  have hk := State.secondShown_keeps (s.at t) str (s.est str).falseRatio
  have hf := State.secondShown_rest (s.at t) str (s.est str).falseRatio
  have hr := State.secondShown_ratio (s := s.at t) (sorted_of_inv hi) str (s.est str).falseRatio
  generalize (s.at t).secondShown str (s.est str).falseRatio = v at *
  have hv : v.objs.sorted = true := sorted_of_inv (hk.inv ((State.at_keeps (.refl s) t).inv hi))
  have hl : str < v.strs.length := by rw [hf.eq_strs]; exact hlen
  obtain ⟨e, hest⟩ := State.rateHalved_est
    (s := if (s.est str).halves then v.bump FilterStatus.HALF_RATE_SECONDS str else v) (n := str) (by split <;> exact hl)
    (s.est str).falseRatio ((s.at t).base / 1000000000) (s.est str).halves (s.est str).half
  have hm := State.rateHalved_frame (if (s.est str).halves then v.bump FilterStatus.HALF_RATE_SECONDS str else v) str
    (s.est str).falseRatio ((s.at t).base / 1000000000) (s.est str).halves (s.est str).half
  refine ⟨by rw [hest]; rfl, ?_, by rw [hest]; rfl, fun hh => ?_⟩
  · have hb : (if (s.est str).halves then v.bump FilterStatus.HALF_RATE_SECONDS str else v).rd
        FilterStatus.FALSE_START_RATIO_1S str = v.rd FilterStatus.FALSE_START_RATIO_1S str := by
      split
      · exact State.rd_wr_apart _ _ _ _ _ _ _ _ (by decide +kernel)
      · rfl
    rw [hm.rd FilterStatus.FALSE_START_RATIO_1S str 0, hb, hr, Nat.mod_eq_of_lt (Est.falseRatio_lt _)]
    rfl
  · refine .of_bump hv (hf.rd FilterStatus.HALF_RATE_SECONDS str 0) ?_
    rw [hm.rd FilterStatus.HALF_RATE_SECONDS str 0, if_pos (show (s.est str).halves = true from decide_eq_true hh)]

/-! ### What waits for a lap, where only stale requests do -/

/-- What the firing of a lap of string `n` reads is as before. -/
structure FireView (n : Nat) (s u : State) : Prop where
  now : u.now = s.now
  clk : u.clk = s.clk
  nv : u.nv = s.nv
  power : u.power = s.power
  boot : u.boot = s.boot
  rd : ∀ (f : Fld) (i x : Nat), f.obj ≠ SessionStatus.REQUESTS.obj → u.rd f i x = s.rd f i x
  laps : u.laps n = s.laps n
  job : (u.ring n).job = (s.ring n).job

/-- All that the answers to stale requests may change, as a frame's number. -/
def staleMask : Nat := 0x200000000000000000000004001100

theorem State.staleDue_stale (s : State) (n : Nat) : Frame staleMask s (s.staleDue n) := State.staleDue_frame (.refl s) n

/-- The answers leave all of a string but its stale requests. -/
theorem State.staleDue_same {β : Type} (v : Str → β) (s : State) (n m : Nat)
    (h : ∀ x : Str, v { x with ring := { x.ring with stale := [] } } = v x := by exact fun _ => rfl) :
    v ((s.staleDue n).str m) = v (s.str m) := by
  unfold State.staleDue
  dsimp only
  split
  · rfl
  · have e : Frame besideStrs (s.modRing n fun r => { r with stale := [] }) ((s.ring n).stale.foldl
        (fun w q => w.answer q stEpochStale (toLE 4 (w.rd RingStatus.TOPO_EPOCH n)))
        (s.modRing n fun r => { r with stale := [] })) :=
      Frame.foldl _ _ (.refl _) fun w q => State.answer_frame (.refl w) ..
    rw [str_of_strs e.eq_strs]
    exact State.modStr_same v s n m _ h

/-- A place of another object is no place of a register. -/
theorem covers_of_obj (f g : Fld) (i x : Nat) (h : g.obj ≠ f.obj) : f.area.covers (g.key i x) = false := by
  rw [Area.covers, show (g.key i x).obj = g.obj from rfl, show f.area.obj = f.obj from rfl, beq_eq_false_iff_ne.2 h,
    Bool.false_and]

theorem State.staleDue_view (s : State) (n : Nat) : FireView n s (s.staleDue n) where
  now := (s.staleDue_stale n).eq_now
  clk := (s.staleDue_stale n).eq_clk
  nv := (s.staleDue_stale n).eq_nv
  power := (s.staleDue_stale n).eq_power
  boot := (s.staleDue_stale n).eq_boot
  rd f i x h := ((s.staleDue_stale n).only (r := ⟨false, [SessionStatus.REQUESTS.area], [.mbx, .strs, .out]⟩)).rd f i x rfl (by
    rw [List.any_cons, covers_of_obj _ _ _ _ h]
    rfl)
  laps := State.staleDue_same Str.laps s n n
  job := State.staleDue_same (fun x => x.ring.job) s n n

/-- With no profile, configuration or request waiting for a lap, the stale requests are all that is due. -/
theorem State.waitDue_view {n : Nat} (hp : (s.str n).profWait = none) (hc : (s.str n).cfgWait = [])
    (ht : (s.str n).touchWait = []) : FireView n s (s.waitDue n) := by
  have e : s.waitDue n = s.staleDue n := by
    refine if_pos ?_
    rw [State.staleDue_same Str.profWait, State.staleDue_same Str.cfgWait, State.staleDue_same Str.touchWait, hp, hc, ht]
    rfl
  rw [e]
  exact s.staleDue_view n

section
variable {n : Nat} (v : FireView n s u)
include v

theorem FireView.rdB (f : Fld) (i : Nat) (h : f.obj ≠ SessionStatus.REQUESTS.obj := by decide) : u.rdB f i = s.rdB f i := by
  rw [State.rdB, State.rdB, v.rd f i 0 h]

theorem FireView.reg (f : Fld) (i : Nat) (h : f.obj ≠ SessionStatus.REQUESTS.obj := by decide) : u.rd f i = s.rd f i :=
  v.rd f i 0 h

theorem FireView.hasStr (m : Nat) : u.hasStr m = s.hasStr m := by
  rw [State.hasStr, State.hasStr, State.strings, State.strings, v.nv]

theorem FireView.enginesUp : u.enginesUp = s.enginesUp := by
  rw [State.enginesUp, State.enginesUp, State.running, State.running, State.security, State.security, State.inHoldup,
    State.inHoldup, v.boot, v.power, v.reg SecurityStatus.SECURITY_STATE 0]

theorem FireView.mayLap : u.mayLap n = s.mayLap n := by
  rw [State.mayLap, State.mayLap, State.enabled, State.enabled, v.hasStr, v.enginesUp, v.laps,
    v.reg ModuleIdentity.STRING_ENABLE 0, v.rdB ModuleHealth.REFCLK_FAIL 0, v.rdB DieStatus.DIE_STALLED n,
    v.reg LapStatus.LAP_STATE n]

theorem FireView.confRate : u.confRate n = s.confRate n := by
  rw [State.confRate, State.confRate, v.rdB LapStatus.SPRINT_IN_FORCE n, v.reg LapConfig.SPRINT_RATE n,
    v.reg LapConfig.LAP_RATE n]

theorem FireView.totalShift : u.totalShift n = s.totalShift n := by
  rw [State.totalShift, State.totalShift, State.baseShift, State.baseShift, State.paceShift, State.paceShift, State.segShift,
    State.segShift, v.confRate, v.reg StringPower.BACKUP_SHIFT n, v.reg RingStatus.RING_STATE n, v.reg DieStatus.RATE_SHIFT n]

theorem FireView.maxDelay (port : Nat) : u.maxDelay n port = s.maxDelay n port := by
  rw [State.maxDelay, State.maxDelay, State.nodeList, State.nodeList, v.reg RingStatus.NODE_COUNT n]
  congr 2
  funext k
  rw [v.rd _ n k (by split <;> decide)]

theorem FireView.lapLead (period : Nat) : u.lapLead n period = s.lapLead n period := by
  rw [State.lapLead, State.lapLead, v.reg LapConfig.LEAD_TIME n, v.maxDelay, v.maxDelay]

theorem FireView.base : u.base = s.base := by rw [State.base, State.base, v.clk, v.now]

end

/-! ### The clause: the firing of a lap (R203, R206) -/

/-- Registers of string `n` written in turn. -/
def State.wrAll (s : State) (n : Nat) (l : List (Fld × Nat)) : State := l.foldl (fun v p => v.wr p.1 n p.2) s

theorem State.wrAll_sorted (hs : s.objs.sorted = true) (n : Nat) (l : List (Fld × Nat)) :
    (s.wrAll n l).objs.sorted = true := by
  induction l generalizing s with
  | nil => exact hs
  | cons p l ih => exact ih (State.wr_sorted hs ..)

theorem State.wrAll_apart (s : State) (n : Nat) (f : Fld) (l : List (Fld × Nat))
    (h : (l.map Prod.fst).all (fun g => apart g 0 f 0) = true) : (s.wrAll n l).rd f n = s.rd f n := by
  induction l generalizing s with
  | nil => rfl
  | cons p l ih =>
    obtain ⟨hp, hl⟩ := Bool.and_eq_true_iff.1 h
    exact (ih _ hl).trans (State.rd_wr_apart _ _ _ _ _ _ _ _ hp)

/-- A register reads as what is written last to it. -/
theorem State.wrAll_rd (hs : s.objs.sorted = true) (n : Nat) (k l : List (Fld × Nat)) (f : Fld) (v : Nat)
    (h : (l.map Prod.fst).all (fun g => apart g 0 f 0) = true := by rfl) :
    (s.wrAll n (k ++ (f, v) :: l)).rd f n = v % 2 ^ f.width := by
  rw [State.wrAll, List.foldl_append, List.foldl_cons]
  exact (State.wrAll_apart _ n f l h).trans (State.rd_wr (State.wrAll_sorted hs n k) ..)

/-- A lap's SAMPLE leaves, its instant is named, and the module has lapped. -/
def State.lapSent (s : State) (n seq nom plain lead : Nat) (x : Lap) (whole : Bool) : State :=
  let s := if whole then s.sendSample n 0 s.now x lead false true
    else (s.sendSample n 0 s.now x lead false false).sendSample n 1 s.now x lead false false
  let s := s.nameInstant n seq false nom plain
  let s := (s.nodeList n).foldl (fun s k => s.modNode n k fun r =>
    { r with bleedAt := if s.now + lead < r.bleedUntil then r.bleed else 0 }) s
  let s := if s.rd BootStatus.FIRST_LAP_TIME = timeNA then s.wr BootStatus.FIRST_LAP_TIME 0 (timeVal nom) else s
  ((s.startTelegrams.reachPhase 12).sprintCheck).restoreCheck

/-- Firing a lap: it is in progress, the registers show it, and its SAMPLE leaves. -/
theorem State.fireLap_eq (s : State) (n f j nom lead : Nat) (raised newEpoch : Bool) :
    ∃ g skipped segment r free split seq plain x whole, s.fireLap n f j nom lead raised newEpoch =
      (((s.modLaps n g).bump LapStatus.LAPS_SKIPPED n skipped).wrAll n [
        (LapStatus.LAPS, satAdd 32 (((s.modLaps n g).bump LapStatus.LAPS_SKIPPED n skipped).rd LapStatus.LAPS n) 1),
        (LapStatus.LAP_STATE, 1), (LapStatus.LAST_LAP_TIME, timeVal nom), (LapStatus.CONFIGURED_RATE, f),
        (LapStatus.TOTAL_SHIFT, j), (LapStatus.SEGMENT_SHIFT, segment), (LapStatus.LAP_PERIOD, lapPeriod f j),
        (LapStatus.LEAD_IN_FORCE, lead), (LapStatus.LEAD_RAISED, r), (LapStatus.FREE_RUNNING, free),
        (LapStatus.SPLIT_ACTIVE, split)]).lapSent n seq nom plain lead x whole :=
  ⟨_, _, _, _, _, _, _, _, _, _, rfl⟩

/-- The registers of a lap that its statement names. -/
def lapRegs : List Fld :=
  [LapStatus.LAPS, LapStatus.LAP_STATE, LapStatus.LAST_LAP_TIME, LapStatus.LAP_PERIOD, LapStatus.LEAD_IN_FORCE]

theorem State.lapSent_frame (s : State) (n seq nom plain lead : Nat) (x : Lap) (whole : Bool) :
    Frame (besideRegs lapRegs) s (s.lapSent n seq nom plain lead x whole) := by
  unfold State.lapSent
  refine State.restoreCheck_frame (State.sprintCheck_frame (State.reachPhase_frame (State.startTelegrams_frame ?_) 12))
  refine .ite (State.wr_frame ?noted ..) ?noted
  refine .foldl _ _ (State.nameInstant_frame (.ite ?_ ?_) ..) fun v k => State.modNode_frame (.refl v) n k _
  · exact State.sendSample_frame (.refl s) ..
  · exact State.sendSample_frame (State.sendSample_frame (.refl s) ..) ..

/-- What the registers show of a lap once it is fired and its SAMPLE has left. -/
theorem State.fireLap_shows (hs : s.objs.sorted = true) (n f j nom lead : Nat) (raised newEpoch : Bool) :
    let u := (s.fireLap n f j nom lead raised newEpoch).drain n
    Counts LapStatus.LAPS n s u ∧ u.rd LapStatus.LAP_STATE n = 1 ∧ u.rd LapStatus.LAST_LAP_TIME n = timeVal nom % 2 ^ 80 ∧
      u.rd LapStatus.LAP_PERIOD n = lapPeriod f j % 2 ^ 32 ∧ u.rd LapStatus.LEAD_IN_FORCE n = lead % 2 ^ 32 := by
  obtain ⟨g, skipped, segment, r, free, split, seq, plain, x, whole, e⟩ := s.fireLap_eq n f j nom lead raised newEpoch
  rw [e]
  have hv : ((s.modLaps n g).bump LapStatus.LAPS_SKIPPED n skipped).objs.sorted = true := State.wr_sorted hs ..
  have hl : ((s.modLaps n g).bump LapStatus.LAPS_SKIPPED n skipped).rd LapStatus.LAPS n = s.rd LapStatus.LAPS n :=
    State.rd_wr_apart (s.modLaps n g) _ _ _ _ _ _ _ (by decide +kernel)
  rw [hl]
  generalize (s.modLaps n g).bump LapStatus.LAPS_SKIPPED n skipped = v at *
  have h := fun w : State => State.drain_frame (w.lapSent_frame n seq nom plain lead x whole) n
  refine ⟨?_, ?_, ?_, ?_, ?_⟩
  · exact ((h _).rd LapStatus.LAPS n 0).trans (State.wrAll_rd hv n [] _ _ _)
  · exact ((h _).rd LapStatus.LAP_STATE n 0).trans (State.wrAll_rd hv n [_] _ _ _)
  · exact ((h _).rd LapStatus.LAST_LAP_TIME n 0).trans (State.wrAll_rd hv n [_, _] _ _ _)
  · exact ((h _).rd LapStatus.LAP_PERIOD n 0).trans (State.wrAll_rd hv n [_, _, _, _, _, _] _ _ _)
  · exact ((h _).rd LapStatus.LEAD_IN_FORCE n 0).trans (State.wrAll_rd hv n [_, _, _, _, _, _, _] _ _ _)

/-- With nothing else due, the lap of an instant of the schedule is fired (R203, R206). -/
theorem lapFired {t str tNom : Nat} {s : State} (hi : s.inv = true) (hm : (s.at t).mayLap str = true)
    (ht : s.rd RingStatus.TOPO_EPOCH str ≠ 0) (hj : (s.ring str).job = none) (hp : (s.str str).profWait = none)
    (hc : (s.str str).cfgWait = []) (hw : (s.str str).touchWait = [])
    (hn : isLapInstant (s.confRate str) (s.totalShift str) tNom = true)
    (ho : (s.laps str).stepped = none ∧ (∀ a, (s.laps str).lastNom = some a → a < tNom) ∨
      ∃ a, (s.laps str).stepped = some a ∧ a + lapPeriod (s.confRate str) (s.totalShift str) ≤ tNom)
    (h1 : tNom ≤ (s.at t).base + (s.lapLead str (lapPeriod (s.confRate str) (s.totalShift str))).1)
    (h2 : (s.at t).base + (s.lapLead str (lapPeriod (s.confRate str) (s.totalShift str))).1 ≤ tNom + 10) :
    ∃ u, exec (.lapFire t str tNom) s = .next u ∧ Counts LapStatus.LAPS str s u ∧ u.rd LapStatus.LAP_STATE str = 1 ∧
      u.rd LapStatus.LAST_LAP_TIME str = timeVal tNom % 2 ^ 80 ∧
      u.rd LapStatus.LAP_PERIOD str = lapPeriod (s.confRate str) (s.totalShift str) % 2 ^ 32 ∧
      u.rd LapStatus.LEAD_IN_FORCE str = (s.lapLead str (lapPeriod (s.confRate str) (s.totalShift str))).1 % 2 ^ 32 := by
  have hs : ((s.at t).waitDue str).objs.sorted = true :=
    sorted_of_inv ((State.waitDue_keeps (State.at_keeps (.refl s) t) str).inv hi)
  have v : FireView str (s.at t) ((s.at t).waitDue str) := State.waitDue_view hp hc hw
  show ∃ u, execLapFire t str tNom s = .next u ∧ _
  unfold execLapFire
  generalize (s.at t).waitDue str = w at *
  have hf : w.confRate str = s.confRate str := v.confRate
  have hg : w.totalShift str = s.totalShift str := v.totalShift
  have hld : ∀ p, w.lapLead str p = s.lapLead str p := v.lapLead
  have hl : w.laps str = s.laps str := v.laps
  have hjob : (w.ring str).job = none := v.job.trans hj
  have hep : w.rd RingStatus.TOPO_EPOCH str ≠ 0 := fun e => ht ((v.reg RingStatus.TOPO_EPOCH str).symm.trans e)
  dsimp only
  rw [hjob]
  dsimp only
  rw [hf, hg, hl, hld, v.mayLap, hm, hn, v.base]
  rw [if_neg Bool.false_ne_true, if_neg (not_lt.2 h1), if_neg (not_lt.2 h2), decide_eq_false hep, if_neg]
  · obtain ⟨laps, rest⟩ := State.fireLap_shows hs str (s.confRate str) (s.totalShift str) tNom
      (s.lapLead str (lapPeriod (s.confRate str) (s.totalShift str))).1
      (s.lapLead str (lapPeriod (s.confRate str) (s.totalShift str))).2 false
    refine ⟨_, rfl, ?_, rest⟩
    rw [Counts, laps, v.reg LapStatus.LAPS str]
    rfl
  · rcases ho with ⟨e, hlt⟩ | ⟨a, e, hle⟩
    · rw [e]
      cases hn : (s.laps str).lastNom with
      | none => exact Bool.false_ne_true
      | some a =>
        dsimp only
        rw [decide_eq_true (hlt a hn)]
        exact Bool.false_ne_true
    · rw [e]
      dsimp only
      rw [decide_eq_true hle]
      exact Bool.false_ne_true

/-- Settles O35, clause by clause: a lap is read off what the operations after its change keep of it, a register off the frame of
what follows its write. -/
theorem lapsRun : Obligations.LapsRun :=
  ⟨fun _ _ _ _ hi hm ht hj hp hc hw hn ho h1 h2 => lapFired hi hm ht hj hp hc hw hn ho h1 h2,
    fun _ _ _ _ _ _ _ hp hr hport hcur hd hs ha hl ht => collectAsked hp hr hport hcur hd hs ha hl ht,
    fun _ _ _ _ _ _ hp hr hcur hd ht ha => collectionCut hp hr hcur hd ht ha,
    fun _ _ _ _ _ _ _ _ _ _ _ _ hfr hx hd ht => chargeArrived hfr hx hd ht,
    fun _ _ _ _ _ _ hp hr hcur hd hrec hdue => lapDataCompleted hp hr hcur hd hrec hdue,
    fun _ _ _ hi hp hs he hsec => secondChecked hi hp hs he hsec,
    fun _ _ _ _ hi hp he hpos hf hup hsec => shadowChecked hi hp he hpos hf hup hsec⟩

end Sys2Proof.Machine
end

section
/-! PROOFS. The steps of a calibration, the closing of blocks by age, and the captures of a trace buffer: what each comes to
where no check is against it, and what answering a request or recording an event leaves of it (CalibrationRuns). -/

namespace Sys2Proof.Machine

open Sys2Proof.Obj

variable {t n : Nat} {s : State} {r : Req} {x : Sess} {p : Bytes} {c : Cal}

/-! ### The front-end of a string -/

/-- A calibration runs on strings of the state only. -/
theorem str_lt_of_cal (h : (s.fe n).cal = some c) : n < s.strs.length := by
  by_contra k
  rw [State.fe, State.str, nth_default _ _ _ (Nat.le_of_not_lt k)] at h
  cases h

theorem str_lt_of_inv (hi : s.inv = true) (hn : n ≤ 7) : n < s.strs.length := by
  obtain ⟨-, -, -, sized, -⟩ := (State.inv_iff s).1 hi
  simp only [State.sized, Bool.and_eq_true, beq_iff_eq] at sized
  omega

/-- The procedure of a string is set. -/
def State.setCal (s : State) (n : Nat) (c : Option Cal) : State := s.modFe n fun f => { f with cal := c }

theorem State.setCal_cal (h : n < s.strs.length) (c : Option Cal) : ((s.setCal n c).fe n).cal = c :=
  congrArg (fun y : Str => y.fe.cal) (State.modStr_str h fun y => { y with fe := { y.fe with cal := c } })

theorem State.answer_fe (s : State) (q : Rid) (st : Nat) (a : Bytes) (n : Nat) : (s.answer q st a).fe n = s.fe n :=
  congrArg Str.fe (str_of_strs (State.answer_frame (M := besideStrs) (.refl s) q st a).eq_strs n)

theorem State.answerOpt_fe (s : State) (q : Option Rid) (st : Nat) (a : Bytes) (n : Nat) :
    (s.answerOpt q st a).fe n = s.fe n :=
  congrArg Str.fe (str_of_strs (State.answerOpt_frame (M := besideStrs) (.refl s) q st a).eq_strs n)

/-! ### The clauses: the steps of a calibration (R285 to R288) -/

/-- No check of R285 and R287 is against a step of a session's procedure. -/
structure CalFree (s : State) (sess n target step : Nat) (applied : Int) : Prop where
  step_pos : 1 ≤ step
  step_le : step ≤ 4
  service : s.security = 2
  present : s.hasStr n = true
  target_le : target ≤ 5
  range : s.calRange n target step applied (s.fe n).cal = false
  met : step ≤ 3 → s.calUnmet n target step (s.fe n).cal = none
  powered : step = 3 → s.inHoldup = false
  points : step = 3 → ∃ k, (s.fe n).cal = some k ∧ (k.low.isSome || k.high.isSome) = true
  mine : ∀ k, (s.fe n).cal = some k → k.sess = sess ∧ k.target = target ∧ (k.capture = none ∨ step = 4)

/-- The checks of a step, in the order of R148. -/
def State.calChecks (s : State) (sess n target step : Nat) (applied : Int) : List (Bool × Nat × Bytes) :=
  let c := (s.fe n).cal
  let unmet := s.calUnmet n target step c
  let points := match c with
    | some k => k.low.isSome || k.high.isSome
    | none => false
  [(decide (s.security ≠ 2), stState, []), (!s.hasStr n, stAbsent, []),
    (decide (step = 0 ∨ 4 < step), refOff stRange 2), (decide (5 < target), refOff stRange 1),
    (s.calRange n target step applied c, refOff stRange 4),
    (decide (step ≤ 3) && unmet.isSome, refCond (unmet.getD 0) n),
    (decide (step = 3) && s.inHoldup, refCond 0x0207),
    (decide (step = 3) && !points, refCond 0x0806 n),
    (match c with
      | some k => decide (k.sess ≠ sess) || decide (k.target ≠ target) || (k.capture.isSome && decide (step ≠ 4))
      | none => false, stBusy, [])]

/-- Where no check of a list applies, none refuses. -/
theorem firstRef_eq_none {l : List (Bool × Nat × Bytes)} (h : ∀ k ∈ l, k.1 = false) : firstRef l = none := by
  induction l with
  | nil => rfl
  | cons k l ih =>
    obtain ⟨hk, hl⟩ := List.forall_mem_cons.1 h
    rw [firstRef_cons k.1 k.2 l, hk]
    exact ih hl

theorem CalFree.no_refusal {sess target step : Nat} {applied : Int} (h : CalFree s sess n target step applied) :
    firstRef (s.calChecks sess n target step applied) = none := by
  have lo := h.step_pos
  have hi := h.step_le
  refine firstRef_eq_none ?_
  simp only [State.calChecks, List.forall_mem_cons]
  refine ⟨?service, ?present, ?step, ?target, h.range, ?met, ?powered, ?points, ?mine, by simp⟩
  case service => simp [h.service]
  case present => simp [h.present]
  case step => exact decide_eq_false (by omega)
  case target => exact decide_eq_false (not_lt.2 h.target_le)
  case met =>
    by_cases e : step ≤ 3
    · simp [h.met e]
    · simp [e]
  case powered =>
    by_cases e : step = 3
    · simp [h.powered e]
    · simp [e]
  case points =>
    by_cases e : step = 3
    · obtain ⟨k, hk, held⟩ := h.points e
      simp [hk, held]
    · simp [e]
  case mine =>
    cases e : (s.fe n).cal with
    | none => rfl
    | some k =>
      obtain ⟨sameSess, sameTarget, idle | idle⟩ := h.mine k e
      · simp [sameSess, sameTarget, idle]
      · simp [sameSess, sameTarget, idle]

section
variable {step : Nat} {v : State} (h : Served r 3 s x) (hl : p.length = 8) (hs : nth 0 p 2 = step)
  (free : CalFree s x.num (nth 0 p 0) (nth 0 p 1) step (toInt 32 (field p 4 4)))
include h hl hs free

/-- A step without a check against it, whose answer waits, has its effect in the state in which it is served. -/
theorem State.calibrate_later (e : (s.admitted t r 0x44 x).calStep (nth 0 p 0) (nth 0 p 1) step (toInt 32 (field p 4 4))
    ⟨r.conn, x.num, 0x44, r.seq, x.next⟩ = (v, .later)) : s.calibrate t r p step = v := by
  subst hs
  rw [State.calibrate, if_neg (fun w => w.2.2.2 rfl), hl]
  exact h.serve_later ((guarded_of_none free.no_refusal _ _).trans e)

/-- One whose answer is there is answered at once. -/
theorem State.calibrate_now {st : Nat} {a : Bytes} (e : (s.admitted t r 0x44 x).calStep (nth 0 p 0) (nth 0 p 1) step
    (toInt 32 (field p 4 4)) ⟨r.conn, x.num, 0x44, r.seq, x.next⟩ = (v, .now st a)) :
    s.calibrate t r p step = v.answer ⟨r.conn, x.num, 0x44, r.seq, x.next⟩ st a := by
  subst hs
  rw [State.calibrate, if_neg (fun w => w.2.2.2 rfl), hl]
  exact h.serve_now ((guarded_of_none free.no_refusal _ _).trans e)

end

/-- A step that is LOW or HIGH is one of the first two. -/
theorem point_step {low high : Prop} {step : Nat} (h : low ∧ step = 1 ∨ high ∧ step = 2) : 1 ≤ step ∧ step ≤ 2 := by
  rcases h with ⟨-, rfl⟩ | ⟨-, rfl⟩
  · decide
  · decide

/-- A LOW or HIGH step begins its capture, with the point applied, and waits. -/
theorem State.calStep_point {target step : Nat} (hs : step ≤ 2) (s : State) (n : Nat) (applied : Int) (q : Rid) :
    ∃ k : Cal, s.calStep n target step applied q = (s.setCal n (some k), .later) ∧
      k.capture = some ⟨step, applied, s.now, 0, 0, 0⟩ ∧ k.rid = some q := by
  rw [State.calStep, if_pos hs]
  exact ⟨_, rfl, rfl, rfl⟩

/-- The coefficients of the points that a procedure for a target holds. -/
def State.coeffs (s : State) (n target : Nat) (c : Cal) : Option (Int × Int) :=
  calCoeffs (s.rdI Calibration.CAL_OFFSET n (calEntry target (s.fe n).refIn))
    (s.rd Calibration.CAL_GAIN n (calEntry target (s.fe n).refIn)) c.low c.high

/-- A gain from 0.95 to 1.05 (R288). -/
def gainOk (q : Int × Int) : Bool := decide (0x3CCCCCCD ≤ q.2) && decide (q.2 ≤ 0x43333333)

/-- COMMIT of points whose coefficients are within their limits ends the procedure and journals them. -/
theorem State.calStep_commit {target : Nat} (hc : (s.fe n).cal = some c) (hq : (s.coeffs n target c).any gainOk = true)
    (applied : Int) (q : Rid) :
    ∃ cells a, s.calStep n target 3 applied q = ((s.setCal n none).journal q cells [] a, .later) := by
  rw [State.calStep, if_neg (by decide), if_neg (by decide), hc]
  cases e : s.coeffs n target c with
  | none =>
    rw [e] at hq
    cases hq
  | some g =>
    rw [e, Option.any_some, gainOk, Bool.and_eq_true, decide_eq_true_eq, decide_eq_true_eq] at hq
    rw [State.coeffs] at e
    dsimp only
    rw [e]
    dsimp only
    rw [if_neg (by omega)]
    exact ⟨_, _, rfl⟩

theorem State.journal_fe (s : State) (q : Rid) (cells : List CellW) (ws : List Write) (a : Bytes) (n : Nat) :
    (s.journal q cells ws a).fe n = s.fe n := rfl

theorem State.journal_length (s : State) (q : Rid) (cells : List CellW) (ws : List Write) (a : Bytes) :
    (s.journal q cells ws a).mbx.journal.length = s.mbx.journal.length + 1 :=
  List.length_append

/-- The end of a procedure leaves none on its string. -/
theorem State.calEnd_cal (s : State) (n st : Nat) : ((s.calEnd n st).fe n).cal = none := by
  unfold State.calEnd
  cases e : (s.fe n).cal with
  | none => exact e
  | some c =>
    dsimp only
    rw [State.answerOpt_fe]
    exact State.setCal_cal (str_lt_of_cal e) none

/-- With no step unanswered, nothing is sent at the end of a procedure. -/
theorem State.calEnd_mbx (hr : ∀ c, (s.fe n).cal = some c → c.rid = none) (st : Nat) : (s.calEnd n st).mbx = s.mbx := by
  unfold State.calEnd
  cases e : (s.fe n).cal with
  | none => rfl
  | some c =>
    dsimp only
    rw [hr c e]
    rfl

section
variable (h : Served r 3 s x) (hl : p.length = 8)
include h hl

theorem calPointTaken {i : Instr} (hi : s.inv = true) (hn : nth 0 p 0 ≤ 7)
    (hc : i = .calLowPoint t r p ∧ nth 0 p 2 = 1 ∨ i = .calHighPoint t r p ∧ nth 0 p 2 = 2)
    (free : CalFree s x.num (nth 0 p 0) (nth 0 p 1) (nth 0 p 2) (toInt 32 (field p 4 4))) :
    ∃ u, exec i s = .next u ∧
      (u.fe (nth 0 p 0)).cal.bind (·.capture) = some ⟨nth 0 p 2, toInt 32 (field p 4 4), max s.now t, 0, 0, 0⟩ ∧
      (u.fe (nth 0 p 0)).cal.bind (·.rid) = some ⟨r.conn, x.num, 0x44, r.seq, x.next⟩ := by
  have run : exec i s = .next (s.calibrate t r p (nth 0 p 2)) := by
    rcases hc with ⟨rfl, step⟩ | ⟨rfl, step⟩
    · rw [step]; rfl
    · rw [step]; rfl
  obtain ⟨k, effect, capture, rid⟩ := State.calStep_point (point_step hc).2 (s.admitted t r 0x44 x) (nth 0 p 0)
    (toInt 32 (field p 4 4)) ⟨r.conn, x.num, 0x44, r.seq, x.next⟩
  rw [State.calibrate_later h hl rfl free effect] at run
  have held := State.setCal_cal (s := s.admitted t r 0x44 x) (str_lt_of_inv (s := s) hi hn) (some k)
  exact ⟨_, run, by rw [held]; exact capture, by rw [held]; exact rid⟩

theorem calCommitted (hs : nth 0 p 2 = 3) (free : CalFree s x.num (nth 0 p 0) (nth 0 p 1) 3 (toInt 32 (field p 4 4)))
    (hc : (s.fe (nth 0 p 0)).cal = some c) (hq : (s.coeffs (nth 0 p 0) (nth 0 p 1) c).any gainOk = true) :
    ∃ u, exec (.calCommit t r p) s = .next u ∧ (u.fe (nth 0 p 0)).cal = none ∧
      u.mbx.journal.length = s.mbx.journal.length + 1 := by
  obtain ⟨cells, a, effect⟩ := State.calStep_commit (s := s.admitted t r 0x44 x) hc hq (toInt 32 (field p 4 4))
    ⟨r.conn, x.num, 0x44, r.seq, x.next⟩
  refine ⟨_, congrArg Host.Outcome.next (State.calibrate_later h hl hs free effect), ?_, State.journal_length ..⟩
  rw [State.journal_fe]
  exact State.setCal_cal (str_lt_of_cal (s := s) hc) none

theorem calAborted (hs : nth 0 p 2 = 4) (free : CalFree s x.num (nth 0 p 0) (nth 0 p 1) 4 (toInt 32 (field p 4 4)))
    (hr : ∀ c, (s.fe (nth 0 p 0)).cal = some c → c.rid = none) :
    ∃ u, exec (.calAbort t r p) s = .next u ∧ (u.fe (nth 0 p 0)).cal = none ∧ Responds u r 0x44 stOk [] := by
  refine ⟨_, congrArg Host.Outcome.next (State.calibrate_now (t := t) h hl hs free rfl), ?_, ?_⟩
  · rw [State.answer_fe, State.calEnd_cal]
  · exact h.responds 0x44 (congrArg Mbx.sess (State.calEnd_mbx (s := s.admitted t r 0x44 x) hr _)) ..

end

/-! ### The clauses: the ends of a capture and of a procedure (R285, R286) -/

/-- The end of a capture, whether its point is kept or not: no capture is under way and no step waits. -/
theorem execCalCaptureEnd_eq {k : Capt} (hp : s.hasStr n = true) (hc : (s.fe n).cal = some c) (hk : c.capture = some k)
    (hd : k.from_ + secs 1 ≤ t) :
    ∃ (d : Cal) (st : Nat) (a : Bytes), d.capture = none ∧ d.rid = none ∧ execCalCaptureEnd t n s =
      .next (((s.at t).setCal n (some d)).answerOpt c.rid st a) := by
  have present : (s.at t).hasStr n = true := hp
  have early : ¬ (s.at t).now < k.from_ + secs 1 := not_lt.2 (hd.trans (le_max_right ..))
  have running : ((s.at t).fe n).cal = some c := hc
  unfold execCalCaptureEnd
  dsimp only
  rw [running]
  dsimp only
  rw [hk]
  dsimp only
  rw [present, decide_eq_false early, if_neg (by decide)]
  exact iteInduction (motive := fun v => ∃ (d : Cal) (st : Nat) (a : Bytes), d.capture = none ∧ d.rid = none ∧
      Host.Outcome.next v = .next (((s.at t).setCal n (some d)).answerOpt c.rid st a))
    (fun _ => ⟨_, _, _, rfl, rfl, rfl⟩) (fun _ => ⟨_, _, _, rfl, rfl, rfl⟩)

theorem calCaptureEnded {k : Capt} (hp : s.hasStr n = true) (hc : (s.fe n).cal = some c) (hk : c.capture = some k)
    (hd : k.from_ + secs 1 ≤ t) :
    ∃ u, exec (.calCaptureEnd t n) s = .next u ∧ (u.fe n).cal.map (fun c => (c.capture, c.rid)) = some (none, none) := by
  obtain ⟨d, st, a, capture, rid, run⟩ := execCalCaptureEnd_eq hp hc hk hd
  refine ⟨_, run, ?_⟩
  rw [State.answerOpt_fe, State.setCal_cal (s := s.at t) (str_lt_of_cal (s := s) hc), Option.map_some, capture, rid]

theorem calTimedOut (hp : s.hasStr n = true) (hc : (s.fe n).cal = some c) (hd : c.lastStep + secs 600 ≤ t) :
    ∃ u, exec (.calTimeout t n) s = .next u ∧ (u.fe n).cal = none := by
  refine ⟨(s.at t).calEnd n stState, ?_, State.calEnd_cal ..⟩
  have running : ((s.at t).fe n).cal = some c := hc
  have due : (s.at t).hasStr n = true ∧ c.lastStep + secs 600 ≤ (s.at t).now := ⟨hp, hd.trans (le_max_right ..)⟩
  show execCalTimeout t n s = _
  unfold execCalTimeout
  dsimp only
  rw [running]
  dsimp only
  rw [if_pos due]

/-! ### The clause: blocks close by age (R254) -/

/-- All that a frame can name but the history. -/
def besideHist : Nat := 2 ^ 1024 - 1 - 2 ^ 9

theorem State.closeEventBlock_lapOpen (s : State) (b d : Bool) : (s.closeEventBlock b d).hist.lapOpen = s.hist.lapOpen := by
  unfold State.closeEventBlock
  split
  · rfl
  · have kept : s.loseEvents.hist.lapOpen = s.hist.lapOpen := by
      rw [(State.loseEvents_frame (M := besideHist) (.refl s)).eq_hist]
    exact kept

/-- A closed block of the event ring leaves none open. -/
theorem State.closeEventBlock_evOpen (s : State) (b d : Bool) : (s.closeEventBlock b d).hist.evOpen = [] := by
  unfold State.closeEventBlock
  split
  · next e => exact List.isEmpty_iff.1 e
  · rfl

theorem State.putEvent_lapOpen (s : State) (e : Event) : (s.putEvent e).hist.lapOpen = s.hist.lapOpen := by
  unfold State.putEvent
  extract_lets e room added counted notified panel lit
  have roomy : room.hist.lapOpen = s.hist.lapOpen := by
    by_cases full : eventsPerBlock ≤ s.hist.evOpen.length
    · rw [show room = s.closeEventBlock false false from if_pos full, State.closeEventBlock_lapOpen]
    · rw [show room = s from if_neg full]
  have told : Frame besideHist added notified := State.notify_frame (State.bump_frame (.refl added) ..) e
  have shown : Frame besideHist added lit := .ite (Frame.on_panel told _) told
  have after : Frame besideHist added (if lit.rd I2cConfig.ATTN_MIN_SEVERITY ≤ e.sev then lit.attention 4 else lit) :=
    .ite (State.attention_frame shown 4) shown
  rw [after.eq_hist]
  exact roomy

theorem State.record_lapOpen (s : State) (code sev : Nat) (d : Bytes) (str node epoch : Nat) :
    (s.record code sev d str node epoch).hist.lapOpen = s.hist.lapOpen := by
  unfold State.record State.putLater
  split
  · split
    · rfl
    · exact State.putEvent_lapOpen ..
  · rfl

theorem State.recordPins_lapOpen (s : State) (ps : List Pin) :
    (ps.foldl (fun s q => s.record 0x0703 1 q.bytes) s).hist.lapOpen = s.hist.lapOpen := by
  induction ps generalizing s with
  | nil => rfl
  | cons q ps ih => exact (ih _).trans (s.record_lapOpen ..)

theorem State.refitPins_lapOpen (s : State) : s.refitPins.hist.lapOpen = s.hist.lapOpen := by
  unfold State.refitPins
  extract_lets
  rw [(State.histRegs_frame (M := besideHist) (.refl _)).eq_hist, State.recordPins_lapOpen]
  rfl

/-- Closing the lap block leaves none open. -/
theorem State.closeLapBlock_lapOpen (s : State) (b d : Bool) : (s.closeLapBlock b d).hist.lapOpen = none := by
  unfold State.closeLapBlock
  cases e : s.hist.lapOpen with
  | none => exact e
  | some q => exact State.refitPins_lapOpen _

/-- The event block is closed once it has an age. -/
def State.ageEvents (s : State) (age : Nat) : State :=
  if !s.hist.evOpen.isEmpty && decide (s.hist.evOpenAt + age ≤ s.now) then s.closeEventBlock true false else s

theorem State.ageEvents_lapOpen (s : State) (age : Nat) : (s.ageEvents age).hist.lapOpen = s.hist.lapOpen := by
  unfold State.ageEvents
  split
  · exact State.closeEventBlock_lapOpen ..
  · rfl

theorem State.ageEvents_evOpen {age : Nat} (h : s.hist.evOpenAt + age ≤ s.now) : (s.ageEvents age).hist.evOpen = [] := by
  unfold State.ageEvents
  split
  · exact State.closeEventBlock_evOpen ..
  · next e => simpa [h] using e

/-- The age at which a block is closed. -/
def State.blockAge (s : State) : Nat := s.rd HistoryConfig.BLOCK_MAX_AGE * msec 100

/-- The lap block is closed once it has that age. -/
def State.ageLap (s : State) : State :=
  match s.hist.lapOpen with
  | some b => if b.opened + s.blockAge ≤ s.now then s.closeLapBlock true false else s
  | none => s

theorem execBlockMaxAge_eq (t : Nat) (s : State) :
    execBlockMaxAge t s = .next ((s.at t).ageLap.ageEvents (s.at t).blockAge) := rfl

theorem State.ageLap_due {b : Blk} (hb : s.hist.lapOpen = some b) (hd : b.opened + s.blockAge ≤ s.now) :
    s.ageLap = s.closeLapBlock true false := by
  rw [State.ageLap, hb]
  exact if_pos hd

theorem State.ageLap_early (hl : ∀ b, s.hist.lapOpen = some b → s.now < b.opened + s.blockAge) : s.ageLap = s := by
  rw [State.ageLap]
  cases e : s.hist.lapOpen with
  | none => rfl
  | some b => exact if_neg (not_le.2 (hl b e))

theorem lapBlockAged {b : Blk} (hb : s.hist.lapOpen = some b) (hd : b.opened + s.blockAge ≤ t) :
    ∃ u, exec (.blockMaxAge t) s = .next u ∧ u.hist.lapOpen = none := by
  refine ⟨_, execBlockMaxAge_eq t s, ?_⟩
  rw [State.ageEvents_lapOpen, State.ageLap_due (s := s.at t) hb (hd.trans (le_max_right ..)), State.closeLapBlock_lapOpen]

theorem eventBlockAged (hl : ∀ b, s.hist.lapOpen = some b → max s.now t < b.opened + s.blockAge)
    (hd : s.hist.evOpenAt + s.blockAge ≤ t) : ∃ u, exec (.blockMaxAge t) s = .next u ∧ u.hist.evOpen = [] := by
  refine ⟨_, execBlockMaxAge_eq t s, ?_⟩
  rw [State.ageLap_early (s := s.at t) hl]
  exact State.ageEvents_evOpen (s := s.at t) (hd.trans (le_max_right ..))

/-! ### The clause: a capture is frozen (R267) -/

theorem trace_lt_of_inv (hi : s.inv = true) (hn : n < 32) : n < s.traces.length := by
  obtain ⟨-, -, -, sized, -⟩ := (State.inv_iff s).1 hi
  simp only [State.sized, Bool.and_eq_true, beq_iff_eq] at sized
  omega

theorem State.modTrace_trace (h : n < s.traces.length) (f : Trace → Trace) : (s.modTrace n f).trace n = f (s.trace n) :=
  nth_setNth h

/-- All that a frame can name but the trace buffers. -/
def besideTraces : Nat := 2 ^ 1024 - 1 - 2 ^ 13

theorem trace_of_traces {u : State} (h : u.traces = s.traces) (n : Nat) : u.trace n = s.trace n := by
  rw [State.trace, State.trace, h]

/-- A capture whose post-window has ended joins the frozen ones. -/
def Trace.freeze (y : Trace) (k : Capture) : Trace :=
  { y with frozen := y.frozen ++ [k], pending := none
           rolling := y.rolling.filter fun x => !k.samples.any fun z => z.index == x.index }

/-- The capture is put into its slot: the buffer, and of the registers the instant and the cause of its trigger. -/
def State.slotFilled (s : State) (n : Nat) (k : Capture) : State :=
  ((s.modTrace n fun y => y.freeze k).wr TraceStatus.TRIGGER_TIME n (timeVal k.trigAt) (k.slot - 1)).wr TraceStatus.CAUSE n
    k.cause (k.slot - 1)

/-- What follows: its number of samples, the event, and the registers of the buffer. -/
def State.frozenTold (s : State) (n : Nat) (k : Capture) : State :=
  (s.wr TraceStatus.SAMPLES n k.samples.length (k.slot - 1)).record 0x0706 1 [n, k.slot]

theorem State.freezeCapture_eq {k : Capture} (hp : (s.trace n).pending = some k) (hk : k.post = 0) :
    s.freezeCapture n = ((s.slotFilled n k).frozenTold n k).traceRegs n := by
  rw [State.freezeCapture, hp]
  exact if_neg (not_not_intro hk)

theorem State.frozenTold_trace (s : State) (n : Nat) (k : Capture) (m : Nat) : (s.frozenTold n k).trace m = s.trace m :=
  trace_of_traces (State.record_frame (M := besideTraces) (State.wr_frame (.refl s) ..) _ _ _ _ _ _).eq_traces m

theorem State.frozenTold_keeps (s : State) (n : Nat) (k : Capture) : Keeps s (s.frozenTold n k) :=
  State.record_keeps (State.wr_keeps (.refl s) ..) _ _ _ _ _ _

theorem State.slotFilled_keeps (s : State) (n : Nat) (k : Capture) : Keeps s (s.slotFilled n k) :=
  State.wr_keeps (State.wr_keeps (State.modTrace_keeps (.refl s) ..) ..) ..

theorem State.traceRegs_trace (s : State) (n m : Nat) : (s.traceRegs n).trace m = s.trace m :=
  trace_of_traces (State.traceRegs_frame (M := besideTraces) (.refl s) n).eq_traces m

theorem State.slotFilled_trace (h : n < s.traces.length) (k : Capture) :
    (s.slotFilled n k).trace n = (s.trace n).freeze k := by
  rw [State.slotFilled, trace_of_traces (State.wr_traces ..), trace_of_traces (State.wr_traces ..), State.modTrace_trace h]

theorem State.slotFilled_cause (hs : s.objs.sorted = true) (n : Nat) (k : Capture) :
    (s.slotFilled n k).rd TraceStatus.CAUSE n (k.slot - 1) = k.cause % 2 ^ TraceStatus.CAUSE.width :=
  State.rd_wr (State.wr_sorted hs ..) ..

/-- The three causes of the slots are no other register. -/
theorem cause_missed : ∀ x < 3, misses (besideRegs [TraceStatus.CAUSE]) TraceStatus.CAUSE x = true := by
  decide +kernel

/-- What follows leaves the cause of each slot. -/
theorem State.told_cause (s : State) (n : Nat) (k : Capture) {x : Nat} (hx : x < 3) :
    ((s.frozenTold n k).traceRegs n).rd TraceStatus.CAUSE n x = s.rd TraceStatus.CAUSE n x :=
  (State.traceRegs_frame (State.record_frame (State.wr_frame (.refl s) ..) _ _ _ _ _ _) n).rd _ _ _ (cause_missed x hx)

/-- CAPTURE_PENDING follows the buffer. -/
theorem State.traceRegs_pending (hs : s.objs.sorted = true) (n : Nat) :
    (s.traceRegs n).rdB TraceStatus.CAPTURE_PENDING n = (s.trace n).pending.isSome := by
  unfold State.traceRegs
  dsimp only
  rw [State.rdB, State.rd_wr_apart _ _ _ _ _ _ _ _ (by decide +kernel), ← State.rdB]
  exact State.rdB_wrB (State.wr_sorted hs ..) _ _ _ _ (by decide)

theorem captureFroze {k : Capture} (hi : s.inv = true) (hn : n < 32) (hp : (s.trace n).pending = some k)
    (hk : k.post = 0) (h3 : k.slot ≤ 3) :
    ∃ u, exec (.captureFrozen t n) s = .next u ∧ (u.trace n).pending = none ∧
      (u.trace n).frozen = (s.trace n).frozen ++ [k] ∧
      u.rd TraceStatus.CAUSE n (k.slot - 1) = k.cause % 2 ^ TraceStatus.CAUSE.width ∧
      u.rdB TraceStatus.CAPTURE_PENDING n = false := by
  refine ⟨_, congrArg Host.Outcome.next (State.freezeCapture_eq (s := s.at t) hp hk), ?_⟩
  have filled : ((s.at t).slotFilled n k).trace n = (s.trace n).freeze k :=
    State.slotFilled_trace (s := s.at t) (trace_lt_of_inv hi hn) k
  have told : (((s.at t).slotFilled n k).frozenTold n k).objs.sorted = true :=
    sorted_of_inv ((State.frozenTold_keeps ..).inv ((State.slotFilled_keeps ..).inv ((State.at_keeps (.refl s) t).inv hi)))
  have shown : ((((s.at t).slotFilled n k).frozenTold n k).traceRegs n).trace n = (s.trace n).freeze k := by
    rw [State.traceRegs_trace, State.frozenTold_trace, filled]
  refine ⟨by rw [shown, Trace.freeze], by rw [shown, Trace.freeze], ?_, ?_⟩
  · rw [State.told_cause _ _ _ (by omega), State.slotFilled_cause (s := s.at t) (sorted_of_inv hi)]
  · rw [State.traceRegs_pending told, State.frozenTold_trace, filled, Trace.freeze, Option.isSome_none]

/-! ### The clause: TRIGGER_TRACE asks for captures (R268) -/

theorem trace_lt_of_asked (h : (s.trace n).asked = true) : n < s.traces.length := by
  by_contra k
  rw [State.trace, nth_default _ _ _ (Nat.le_of_not_lt k)] at h
  cases h

/-- A capture is asked for of each channel of a list. -/
def State.askCaptures (s : State) (cs : List Nat) : State :=
  cs.foldl (fun s c => s.modTrace c fun y => { y with asked := true }) s

/-- What has been asked of a channel stays so. -/
theorem State.askCaptures_keeps {m : Nat} (cs : List Nat) (h : (s.trace m).asked = true) :
    ((s.askCaptures cs).trace m).asked = true := by
  induction cs generalizing s with
  | nil => exact h
  | cons c cs ih =>
    refine ih ?_
    by_cases e : c = m
    · subst e
      rw [State.modTrace_trace (trace_lt_of_asked h)]
    · exact (congrArg Trace.asked (nth_setNth_ne e)).trans h

theorem State.askCaptures_asked {m : Nat} {cs : List Nat} (hm : m ∈ cs) (h : m < s.traces.length) :
    ((s.askCaptures cs).trace m).asked = true := by
  induction cs generalizing s with
  | nil => cases hm
  | cons c cs ih =>
    rcases List.mem_cons.1 hm with rfl | hm
    · exact State.askCaptures_keeps cs (by rw [State.modTrace_trace h])
    · exact ih hm ((setNth_length ..).symm ▸ h)

/-- The channels that a mask names. -/
def namedChannels (mask : Nat) : List Nat := (List.range 32).filter fun c => bitOf mask c

theorem mem_namedChannels {mask m : Nat} : m ∈ namedChannels mask ↔ m < 32 ∧ bitOf mask m = true := by
  rw [namedChannels, List.mem_filter, List.mem_range]

theorem State.askCaptures_frame (s : State) (cs : List Nat) : Frame 0x2000 s (s.askCaptures cs) :=
  .foldl _ _ (.refl s) fun v c => State.modTrace_frame (.refl v) c _

theorem State.answer_trace (s : State) (q : Rid) (st : Nat) (a : Bytes) (n : Nat) : (s.answer q st a).trace n = s.trace n :=
  trace_of_traces (State.answer_frame (M := besideTraces) (.refl s) q st a).eq_traces n

/-- TRIGGER_TRACE of present, enabled channels asks each for a capture and answers three masks. -/
theorem execTriggerTrace_eq (h : Served r 2 s x) (hl : p.length = 4)
    (hc : ∀ c < 32, bitOf (field p 0 4) c = true → s.hasChan c = true ∧ s.rdB TraceConfig.TRACE_EN c = true) :
    ∃ a : Bytes, a.length = 12 ∧ execTriggerTrace t r p s =
      .next (((s.admitted t r 0x45 x).askCaptures (namedChannels (field p 0 4))).answer
        ⟨r.conn, x.num, 0x45, r.seq, x.next⟩ stOk a) := by
  have present : ∀ c ∈ namedChannels (field p 0 4), (s.admitted t r 0x45 x).hasChan c = true := fun c m =>
    have ⟨lt, named⟩ := mem_namedChannels.1 m
    (hc c lt named).1
  have enabled : ∀ c ∈ namedChannels (field p 0 4), (s.admitted t r 0x45 x).rdB TraceConfig.TRACE_EN c = true := fun c m =>
    have ⟨lt, named⟩ := mem_namedChannels.1 m
    (hc c lt named).2
  unfold execTriggerTrace
  rw [hl]
  refine ⟨_, ?_, congrArg Host.Outcome.next (h.serve_now (guarded_of_none (firstRef_eq_none ?_) _ _))⟩
  · rfl
  · simp only [List.forall_mem_cons]
    exact ⟨List.any_eq_false.2 fun c m => by simp [present c m], List.any_eq_false.2 fun c m => by simp [enabled c m], nofun⟩

theorem captureAsked (hi : s.inv = true) (h : Served r 2 s x) (hl : p.length = 4)
    (hc : ∀ c < 32, bitOf (field p 0 4) c = true → s.hasChan c = true ∧ s.rdB TraceConfig.TRACE_EN c = true) :
    ∃ u a, exec (.triggerTrace t r p) s = .next u ∧ Responds u r 0x45 stOk a ∧ a.length = 12 ∧
      ∀ c < 32, bitOf (field p 0 4) c = true → (u.trace c).asked = true := by
  obtain ⟨a, len, run⟩ := execTriggerTrace_eq (t := t) h hl hc
  refine ⟨_, a, run, h.responds 0x45 (congrArg Mbx.sess (State.askCaptures_frame ..).eq_mbx) .., len, fun c lt named => ?_⟩
  rw [State.answer_trace]
  exact State.askCaptures_asked (mem_namedChannels.2 ⟨lt, named⟩) (trace_lt_of_inv (s := s) hi lt)

/-- Settles O32, clause by clause: a step's effect is read off the state in which it is served, where no check is against it, and
what follows it leaves the procedure, the blocks and the captures. -/
theorem calibrationRuns : Obligations.CalibrationRuns :=
  ⟨fun _ _ _ _ _ _ _ _ _ hi h hl hn ht hs sec hp h7 h5 hc mine range met => by
      subst hn ht hs
      have step := point_step hc
      exact calPointTaken h hl hi h7 hc ⟨step.1, by omega, sec, hp, h5, range, fun _ => met, by omega, by omega, fun k e =>
        have ⟨sess, target, idle⟩ := mine k e
        ⟨sess, target, .inl idle⟩⟩,
    fun _ _ _ _ _ _ _ h hl hs sec hup hp htg hc sess target idle points met hq =>
      calCommitted h hl hs ⟨by decide, by decide, sec, hp, htg, rfl, fun _ => hc ▸ met, fun _ => hup,
        fun _ => ⟨_, hc, points⟩, fun _ e => Option.some.inj (hc.symm.trans e) ▸ ⟨sess, target, .inl idle⟩⟩ hc hq,
    fun _ _ _ _ _ _ h hl hs sec hp htg mine =>
      calAborted h hl hs ⟨by decide, by decide, sec, hp, htg, rfl, by omega, by omega, by omega, fun k e =>
        have ⟨sess, target, _⟩ := mine k e
        ⟨sess, target, .inr rfl⟩⟩ fun k e => (mine k e).2.2,
    fun _ _ _ _ _ _ hp hc hk hd => calCaptureEnded hp hc hk hd,
    fun _ _ _ _ _ hp hc hd => calTimedOut hp hc hd,
    fun _ _ => ⟨fun _ hb hd => lapBlockAged hb hd, fun hl hd => eventBlockAged hl hd⟩,
    fun _ _ _ _ hi hn hp hk _ h3 => captureFroze hi hn hp hk h3,
    fun _ _ _ _ _ hi h hl hc => captureAsked hi h hl hc⟩

end Sys2Proof.Machine
end

section
/-! PROOFS. The housekeeping round (R390): what every round shows of each fitted die, and the settling of
BreathersFollowTheRound (O50). -/

namespace Sys2Proof.Machine

open Sys2Proof.Obj

variable {a s u : State} {d n t : Nat}

/-! ### A fold that visits each index -/

/-- What a step makes of its own index and every other step keeps holds, after a fold, of every index visited. -/
theorem foldl_made {f : State → Nat → State} {I : State → Prop} {P : State → Nat → Prop} (l : List Nat) (h : I s)
    (step : ∀ v b, I v → I (f v b)) (made : ∀ v b, I v → P (f v b) b) (kept : ∀ v b c, c ≠ b → P v c → P (f v b) c) :
    ∀ c ∈ l, P (l.foldl f s) c := by
  have inv : ∀ l : List Nat, I (l.foldl f s) := fun l => List.foldlRecOn l f h fun v hv b _ => step v b hv
  induction l using List.reverseRecOn with
  | nil => nofun
  | append_singleton l b ih =>
    intro c hc
    rw [List.foldl_append]
    by_cases e : c = b
    · subst e
      exact made _ _ (inv l)
    · exact kept _ _ _ e (ih c ((List.mem_append.1 hc).resolve_right fun m => e (List.mem_singleton.1 m)))

theorem State.mem_dieList : d ∈ s.dieList ↔ s.hasDie d = true := by
  rw [State.dieList, State.hasDie, List.mem_range, decide_eq_true_iff, Nat.lt_succ_iff]

/-! ### The fraction at a level (R396) -/

/-- A fraction in 0.1 % is that of a level and a control temperature. -/
structure FollowsLevel (level : Nat) (tc : Int) (f : Nat) : Prop where
  throttle : level = 2 → f = breathers tc
  full : level = 3 → f = 800
  clear : level < 2 → f = 0

/-- 8.0 % per K above 105.00 degrees, from 4.0 % to 80.0 %. -/
theorem breathers_bounds (tc above : Int) (h : above = tc - 10500) :
    40 ≤ breathers tc ∧ breathers tc ≤ 800 ∧ (80 * above ≤ 4000 → breathers tc = 40) ∧
      (80000 ≤ 80 * above → breathers tc = 800) ∧
      (4000 < 80 * above → 80 * above < 80000 →
        80 * above - 100 < 100 * (breathers tc : Int) ∧ 100 * (breathers tc : Int) < 80 * above + 100) := by
  unfold breathers roundDiv
  split <;> omega

/-- The level of R394 to R396, from the loss of a die's sensors, the throttle level and the warning level. -/
def levelOf (lost hot warm : Bool) : Nat := if lost then 3 else if hot then 2 else if warm then 1 else 0

/-- The fraction that goes with it. -/
def fractionOf (lost hot : Bool) (tc : Int) : Nat := if lost then 800 else if hot then breathers tc else 0

theorem fractionOf_follows (lost hot warm : Bool) (tc : Int) :
    FollowsLevel (levelOf lost hot warm) tc (fractionOf lost hot tc) := by
  cases lost
  · cases hot
    · cases warm <;> exact ⟨nofun, nofun, fun _ => rfl⟩
    · exact ⟨fun _ => rfl, nofun, fun h => absurd h (Nat.lt_irrefl _)⟩
  · exact ⟨nofun, fun _ => rfl, fun h => absurd h (by norm_num [levelOf])⟩

theorem fractionOf_le (lost hot : Bool) (tc : Int) : fractionOf lost hot tc ≤ 800 := by
  cases lost
  · cases hot
    · exact Nat.zero_le _
    · exact min_le_left ..
  · exact le_refl _

theorem levelOf_le (lost hot warm : Bool) : levelOf lost hot warm ≤ 3 := by revert lost hot warm; decide

/-! ### The registers a round shows -/

/-- The registers R396 relates. -/
def breathRegs : List Fld :=
  [ThermalStatus.LEVEL, ThermalStatus.T_CONTROL, ThermalStatus.BREATHER_FRACTION, DieStatus.BREATHER_FRACTION]

/-- What a round notes of each die. -/
def notedRegs : List Fld := [ThermalStatus.LAST_ROUND_TIME, DieStatus.VCORE]

/-- All that a frame can name but these registers, and the sensors' readings, whose copies a frame does not bound. -/
def besideRound : Nat := besideRegs (ThermalStatus.SENSOR_T :: ThermalStatus.SENSOR_USED :: (breathRegs ++ notedRegs))

theorem shown_missed : ∀ f ∈ breathRegs ++ notedRegs, misses besideRound f 0 = true := by decide +kernel

/-- Some registers of a die read as before. -/
def RegsKept (l : List Fld) (d : Nat) (s u : State) : Prop := ∀ f ∈ l, u.rd f d = s.rd f d

section RegsKept

variable {l : List Fld}

theorem RegsKept.refl (l : List Fld) (d : Nat) (s : State) : RegsKept l d s s := fun _ _ => rfl

theorem RegsKept.trans (h : RegsKept l d a s) (k : RegsKept l d s u) : RegsKept l d a u :=
  fun f m => (k f m).trans (h f m)

theorem RegsKept.frame (h : RegsKept l d a s) (k : Frame besideRound s u) (sub : l ⊆ breathRegs ++ notedRegs) :
    RegsKept l d a u :=
  h.trans fun f m => k.rd f d 0 (shown_missed f (sub m))

/-- A write to another die leaves them. -/
theorem RegsKept.wr_inst (h : RegsKept l d a s) (f : Fld) (i w y : Nat) (ne : d ≠ i) : RegsKept l d a (s.wr f i w y) :=
  h.trans fun g _ => State.rd_wr_inst s f g i d w y 0 ne.symm

/-- A write to another place leaves them. -/
theorem RegsKept.wr_apart (h : RegsKept l d a s) (f : Fld) (i w y : Nat) (ha : ∀ g ∈ l, apart f y g 0 = true) :
    RegsKept l d a (s.wr f i w y) :=
  h.trans fun g m => State.rd_wr_apart s f g i d w y 0 (ha g m)

theorem RegsKept.foldl {α : Type} {l' : List α} {f : State → α → State} (h : RegsKept l d a s)
    (step : ∀ v, ∀ b ∈ l', RegsKept l d v (f v b)) : RegsKept l d a (l'.foldl f s) :=
  List.foldlRecOn l' f h fun v hv b hb => hv.trans (step v b hb)

end RegsKept

/-! ### The level of one die (R394 to R396) -/

/-- A die's fractions follow its level and control temperature. -/
structure Breathes (u : State) (d : Nat) : Prop where
  follows : FollowsLevel (u.rd ThermalStatus.LEVEL d) (u.rdI ThermalStatus.T_CONTROL d) (u.rd ThermalStatus.BREATHER_FRACTION d)
  same : u.rd DieStatus.BREATHER_FRACTION d = u.rd ThermalStatus.BREATHER_FRACTION d

theorem Breathes.kept (h : Breathes s d) (k : RegsKept breathRegs d s u) : Breathes u d := by
  obtain ⟨follows, same⟩ := h
  simp only [RegsKept, breathRegs, List.forall_mem_cons] at k
  obtain ⟨level, control, fraction, shown, -⟩ := k
  refine ⟨?_, by rw [shown, fraction, same]⟩
  rw [State.rdI, level, control, fraction]
  exact follows

/-- A step that keeps the module sound and touches none of the registers of a round. -/
structure Quiet (s u : State) : Prop where
  keeps : Keeps s u
  frame : Frame besideRound s u

section Quiet

variable (h : Quiet a s)
include h

theorem Quiet.when {p : Prop} {dec : Decidable p} (k : Quiet s u) : Quiet a (if p then u else s) :=
  ⟨.ite (h.keeps.trans k.keeps) h.keeps, .ite (h.frame.trans k.frame) h.frame⟩

theorem Quiet.bump (f : Fld) (hm : hasFld besideRound f = true := by decide +kernel) : Quiet a (s.bump f d) :=
  ⟨State.bump_keeps h.keeps .., State.bump_frame h.frame _ _ _ _ hm⟩

theorem Quiet.wrB (f : Fld) (b : Bool) (hm : hasFld besideRound f = true := by decide +kernel) : Quiet a (s.wrB f d b) :=
  ⟨State.wrB_keeps h.keeps .., State.wrB_frame h.frame _ _ _ _ hm⟩

theorem Quiet.record (code sev : Nat) (data : Bytes) : Quiet a (s.record code sev data) :=
  ⟨State.record_keeps h.keeps .., State.record_frame h.frame _ _ _ _ _ _⟩

theorem Quiet.modDie (f : Die → Die) : Quiet a (s.modDie d f) :=
  ⟨State.modDie_keeps h.keeps .., State.modDie_frame h.frame _ _⟩

end Quiet

theorem Quiet.refl (s : State) : Quiet s s := ⟨.refl s, .refl s⟩

/-- What a die's level shows. -/
def State.showLevel (s : State) (d level f : Nat) : State :=
  ((s.wr ThermalStatus.LEVEL d level).wr ThermalStatus.BREATHER_FRACTION d f).wr DieStatus.BREATHER_FRACTION d f

/-- A die's level notes and records first, and then shows the level and its fraction. -/
theorem State.dieLevel_eq (s : State) (d : Nat) :
    ∃ v lost hot warm, Quiet s v ∧
      s.dieLevel d = v.showLevel d (levelOf lost hot warm) (fractionOf lost hot (s.rdI ThermalStatus.T_CONTROL d)) := by
  unfold State.dieLevel
  extract_lets tc old lostNow lost was hot warm new tcB s1 s2 s3 s4 s5 since s6 s7 f
  have h1 : Quiet s s1 := (Quiet.refl s).when ((Quiet.refl s).bump _)
  clear_value s1
  have h2 : Quiet s s2 := h1.when ((Quiet.refl s1).record ..)
  clear_value s2
  have h3 : Quiet s s3 := h2.modDie _
  clear_value s3
  have h4 : Quiet s s4 := h3.when ((((Quiet.refl s3).bump _).modDie _).record ..)
  clear_value s4
  have h5 : Quiet s s5 := h4.when (((Quiet.refl s4).wrB ..).record ..)
  clear_value since s5
  have h6 : Quiet s s6 := h5.when (((Quiet.refl s5).modDie _).record ..)
  clear_value s6
  exact ⟨s7, lost, hot, warm, h6.when ((Quiet.refl s6).record ..), rfl⟩

/-- What is shown of a level reads as shown, and the control temperature as before. -/
theorem State.showLevel_reads (hs : s.objs.sorted = true) {level f : Nat} (hl : level ≤ 3) (hf : f ≤ 800) (d : Nat) :
    (s.showLevel d level f).rd ThermalStatus.LEVEL d = level ∧
      (s.showLevel d level f).rdI ThermalStatus.T_CONTROL d = s.rdI ThermalStatus.T_CONTROL d ∧
      (s.showLevel d level f).rd ThermalStatus.BREATHER_FRACTION d = f ∧
      (s.showLevel d level f).rd DieStatus.BREATHER_FRACTION d = f := by
  have past : ∀ (v : State) (g k : Fld) (w : Nat), apart g 0 k 0 = true → (v.wr g d w).rd k d = v.rd k d := fun v g k w =>
    State.rd_wr_apart v g k d d w 0 0
  unfold State.showLevel
  refine ⟨?_, ?_, ?_, ?_⟩
  · rw [past _ _ _ _ (by decide), past _ _ _ _ (by decide), State.rd_wr hs]
    exact Nat.mod_eq_of_lt (lt_of_le_of_lt hl (by decide))
  · rw [State.rdI, past _ _ _ _ (by decide), past _ _ _ _ (by decide), past _ _ _ _ (by decide), State.rdI]
  · rw [past _ _ _ _ (by decide), State.rd_wr (State.wr_sorted hs ..)]
    exact Nat.mod_eq_of_lt (lt_of_le_of_lt hf (by decide))
  · rw [State.rd_wr (State.wr_sorted (State.wr_sorted hs ..) ..)]
    exact Nat.mod_eq_of_lt (lt_of_le_of_lt hf (by decide))

/-- The die whose level is shown breathes by it. -/
theorem State.dieLevel_breathes (hs : s.inv = true) (d : Nat) : Breathes (s.dieLevel d) d := by
  obtain ⟨v, lost, hot, warm, quiet, e⟩ := s.dieLevel_eq d
  obtain ⟨level, control, fraction, shown⟩ := State.showLevel_reads (sorted_of_inv (quiet.keeps.inv hs))
    (levelOf_le lost hot warm) (fractionOf_le lost hot (s.rdI ThermalStatus.T_CONTROL d)) d
  refine e ▸ ⟨?_, shown.trans fraction.symm⟩
  rw [level, control, fraction, quiet.frame.rdI ThermalStatus.T_CONTROL d 0 (shown_missed _ (by decide))]
  exact fractionOf_follows ..

/-- The level of a die leaves what is shown of the others. -/
theorem State.dieLevel_others (s : State) (ne : n ≠ d) : RegsKept (breathRegs ++ notedRegs) n s (s.dieLevel d) := by
  obtain ⟨v, lost, hot, warm, quiet, e⟩ := s.dieLevel_eq d
  rw [e]
  exact ((((RegsKept.refl _ n s).frame quiet.frame (List.Subset.refl _)).wr_inst _ _ _ _ ne).wr_inst _ _ _ _ ne).wr_inst _ _ _ _ ne

/-- The level of a die leaves what the round has noted of it. -/
theorem State.dieLevel_noted (s : State) (d n : Nat) : RegsKept notedRegs n s (s.dieLevel d) := by
  obtain ⟨v, lost, hot, warm, quiet, e⟩ := s.dieLevel_eq d
  rw [e]
  exact ((((RegsKept.refl _ n s).frame quiet.frame (List.subset_append_right ..)).wr_apart _ _ _ _ (by decide)).wr_apart _ _ _ _
    (by decide)).wr_apart _ _ _ _ (by decide)

/-! ### The control temperature of one die (R393) -/

/-- The control temperature of a die leaves what is shown of the others. -/
theorem State.controlTemp_others (s : State) (x : Round) (ne : n ≠ d) :
    RegsKept (breathRegs ++ notedRegs) n s (s.controlTemp x d) := by
  unfold State.controlTemp
  extract_lets sub used s1 s2 s3 good s4
  have h1 : RegsKept (breathRegs ++ notedRegs) n s s1 :=
    (RegsKept.refl _ n s).foldl fun v _ _ => (RegsKept.refl _ n v).wr_inst _ _ _ _ ne
  clear_value s1
  have h4 : RegsKept (breathRegs ++ notedRegs) n s s4 :=
    ((h1.wr_inst _ _ _ _ ne).wr_inst _ _ _ _ ne).wr_inst _ _ _ _ ne
  clear_value good s4
  cases good <;> exact h4.wr_inst _ _ _ _ ne

/-- The four copies of a die's sensor registers lie apart from what the round has noted. -/
theorem sensors_apart {f : Fld} (hf : f ∈ [ThermalStatus.SENSOR_T, ThermalStatus.SENSOR_USED]) {j : Nat} (hj : j < 4) :
    ∀ g ∈ notedRegs, apart f j g 0 = true := by
  revert f j
  decide

/-- The control temperature of a die leaves what the round has noted of it. -/
theorem State.controlTemp_noted (s : State) (x : Round) (d n : Nat) : RegsKept notedRegs n s (s.controlTemp x d) := by
  unfold State.controlTemp
  extract_lets sub used s1 s2 s3 good s4
  have h1 : RegsKept notedRegs n s s1 := (RegsKept.refl _ n s).foldl fun v p hp =>
    (RegsKept.refl _ n v).wr_apart _ _ _ _ (sensors_apart (by simp) (by
      have := (List.mem_zipIdx hp).2.1
      simpa [used] using this))
  clear_value s1
  have h4 : RegsKept notedRegs n s s4 :=
    ((h1.wr_apart _ _ _ _ (by decide)).wr_apart _ _ _ _ (by decide)).wr_apart _ _ _ _ (by decide)
  clear_value good s4
  cases good <;> exact h4.wr_apart _ _ _ _ (by decide)

/-! ### The sensors of every die (R391, R392) -/

/-- The sensors are read without touching what the round has noted. -/
theorem State.sensorRound_noted (s : State) (x : Round) (n : Nat) : RegsKept notedRegs n s (s.sensorRound x) := by
  unfold State.sensorRound
  extract_lets all s1 base
  have copies : ∀ p ∈ all, p.2 < 4 := by
    intro p hp
    simp only [all, List.mem_flatten, List.mem_map] at hp
    obtain ⟨_, ⟨d, -, rfl⟩, hp⟩ := hp
    obtain ⟨j, hj, rfl⟩ := List.mem_map.1 hp
    exact (by decide : ∀ j ∈ [0, 1, 2, 3], j < 4) j hj
  have fails : ∀ (v : State) (d j : Nat) (a b : Option Int), Frame besideRound v (v.failSensor d j a b) := fun v d j a b =>
    State.failSensor_frame (.refl v) d j a b
  have h1 : RegsKept notedRegs n s s1 := (RegsKept.refl _ n s).foldl fun v p hp => by
    have read : ∀ w : Nat, RegsKept notedRegs n v (v.wr ThermalStatus.SENSOR_T p.1 w p.2) := fun w =>
      (RegsKept.refl _ n v).wr_apart _ _ _ _ (sensors_apart (by simp) (copies p hp))
    dsimp only
    split
    · exact read _
    · split
      · exact read _
      · exact (read _).frame (fails ..) (List.subset_append_right ..)
  refine h1.foldl fun v p _ => ?_
  dsimp only
  split
  · exact .refl _ n v
  · split
    · exact .refl _ n v
    · split
      · exact (RegsKept.refl _ n v).frame (fails ..) (List.subset_append_right ..)
      · exact .refl _ n v

/-! ### The round, part by part (R390) -/

/-- What a round notes of a die. -/
def State.noteDie (x : Round) (k : Nat) (s : State) (d : Nat) : State :=
  (s.wr ThermalStatus.LAST_ROUND_TIME d (timeVal (k * 1000000000))).wr DieStatus.VCORE d (nth 0xFFFF x.vcore d)

/-- The round of a second is noted. -/
def State.roundNoted (s : State) (x : Round) (k : Nat) : State :=
  s.dieList.foldl (State.noteDie x k) { s with thermal := { s.thermal with lastRound := some k } }

/-- What a round decides of one die. -/
def State.dieRound (x : Round) (s : State) (d : Nat) : State := (s.controlTemp x d).dieLevel d

/-- What a round decides of every die. -/
def State.diesRound (s : State) (x : Round) : State := s.dieList.foldl (State.dieRound x) s

/-- What follows the levels: the throttle, the board and the front-ends. -/
def State.placesRound (s : State) (x : Round) : State :=
  let hot := s.dieList.any fun d => decide (2 ≤ s.rd ThermalStatus.LEVEL d)
  ((s.wrB PowerStatus.THROTTLE_ACTIVE 0 hot).powerDerive.boardRound x).eachStr fun n s => match x.fes[n]? with
    | some f => s.feRound n f
    | none => s

theorem execHousekeepingRound_eq (hr : s.running = true) (hs : s.security ≠ 5)
    (hl : s.thermal.lastRound ≠ some ((s.at t).base / 1000000000)) (x : Round) :
    execHousekeepingRound t x s =
      .next ((((((s.at t).roundNoted x ((s.at t).base / 1000000000)).sensorRound x).diesRound x).placesRound x).hvacRound) :=
  congrArg Host.Outcome.next (if_pos ⟨hr, hs, hl⟩)

theorem State.placesRound_frame (s : State) (x : Round) : Frame (besideRound - 2 ^ 15) s (s.placesRound x) := by
  unfold State.placesRound
  refine State.eachStr_frame (State.boardRound_frame (State.powerDerive_frame (State.wrB_frame (.refl s) ..)) x) _ fun n v => ?_
  split
  · exact State.feRound_frame (.refl v) n _
  · exact .refl v

/-- The parts of a round keep the module sound, and its dies. -/
theorem State.roundNoted_keeps (s : State) (x : Round) (k : Nat) : Keeps s (s.roundNoted x k) :=
  Keeps.foldl _ _ (Keeps.mk' (.refl s) (le_refl _) rfl) fun v _ => State.wr_keeps (State.wr_keeps (.refl v) ..) ..

theorem State.dieRound_keeps (x : Round) (s : State) (d : Nat) : Keeps s (s.dieRound x d) :=
  State.dieLevel_keeps (State.controlTemp_keeps (.refl s) x d) d

theorem Keeps.hasDie (h : Keeps s u) (d : Nat) : u.hasDie d = s.hasDie d := by
  rw [State.hasDie, State.hasDie, State.strings, State.strings, h.variant]

/-- What a round shows of each fitted die holds when the round is over. -/
theorem State.diesRound_breathes (hs : s.inv = true) (x : Round) (hd : s.hasDie d = true) : Breathes (s.diesRound x) d :=
  foldl_made (I := fun v => v.inv = true) (P := Breathes) s.dieList hs (fun v b => (v.dieRound_keeps x b).inv)
    (fun v b hv => State.dieLevel_breathes ((State.controlTemp_keeps (.refl v) x b).inv hv) b)
    (fun v b _ ne h => h.kept fun f m =>
      ((v.controlTemp_others x ne).trans ((v.controlTemp x b).dieLevel_others ne)) f (List.mem_append_left _ m))
    d (State.mem_dieList.2 hd)

/-- What follows the levels leaves what is shown of the dies. -/
theorem State.roundEnd_kept (s : State) (x : Round) (d : Nat) {l : List Fld} (sub : l ⊆ breathRegs ++ notedRegs) :
    RegsKept l d s (s.placesRound x).hvacRound :=
  ((RegsKept.refl l d s).frame ((s.placesRound_frame x).mono (by decide +kernel)) sub).frame (State.hvacRound_frame (.refl _)) sub

/-- Every round leaves each fitted die breathing by its level. -/
theorem roundBreathes (hi : s.inv = true) (hr : s.running = true) (hs : s.security ≠ 5)
    (hl : s.thermal.lastRound ≠ some ((s.at t).base / 1000000000)) (x : Round) :
    ∃ u, exec (.housekeepingRound t x) s = .next u ∧ ∀ d, s.hasDie d = true → Breathes u d := by
  refine ⟨_, execHousekeepingRound_eq hr hs hl x, fun d hd => ?_⟩
  have keeps := State.sensorRound_keeps (State.roundNoted_keeps (s.at t) x ((s.at t).base / 1000000000)) x
  exact (State.diesRound_breathes (keeps.inv hi) x ((keeps.hasDie d).trans hd)).kept
    (State.roundEnd_kept _ x d (List.subset_append_left ..))

/-! ### A pace measurement (R37, R396) -/

/-- A pace is noted. -/
def State.paceNoted (s : State) (d pace : Nat) : State :=
  let x := s.die d
  let sec := s.now / 1000000000
  let s := if sec ≠ x.secIdx then s.wr DieStatus.PACE_MIN_1S d x.secMin else s
  let gone := if s.rdB DieStatus.PACE_LOW d then s.now - x.lastCount else 0
  let low := x.lowNs + gone
  let s := s.modDie d fun x =>
    { x with secIdx := sec, secMin := if sec ≠ x.secIdx then pace else min x.secMin pace, lastCount := s.now,
             lowNs := low, stallNow := x.stallNow && decide (pace < 200) }
  (s.wr DieStatus.PACE_LOW_TIME d (low / 1000000000)).wr DieStatus.PACE d pace

/-- What follows from a measured pace. -/
def State.paceActs (s : State) (d pace eff : Nat) : State :=
  let s := if pace < 200 then s.stall d else s
  let s := if d = 0 ∧ s.managerStalled = false then s.settleOwed else s
  let was := s.rdB DieStatus.PACE_LOW d
  let s := s.paceLow d eff
  if d = 0 then ((s.shedMore was eff).compressCheck).roleCheck else s.paceRate d eff

theorem execPaceMeasurement_eq (hr : s.running = true) (hd : s.hasDie d = true) (pace : Nat) :
    execPaceMeasurement t d pace s =
      let eff := pace * (1000 - s.rd DieStatus.BREATHER_FRACTION d) / 1000
      .next ((((s.at t).paceNoted d pace).wr DieStatus.EFFECTIVE_PACE d eff).paceActs d pace eff) :=
  congrArg Host.Outcome.next (if_pos ⟨hr, hd⟩)

theorem State.paceNoted_keeps (s : State) (d pace : Nat) : Keeps s (s.paceNoted d pace) := by
  unfold State.paceNoted
  extract_lets x sec s1 gone low s2
  have h1 : Keeps s s1 := .ite (State.wr_keeps (.refl s) ..) (.refl s)
  exact State.wr_keeps (State.wr_keeps (State.modDie_keeps h1 ..) ..) ..

theorem State.paceActs_frame (s : State) (d pace eff : Nat) :
    Frame (besideRegs [DieStatus.EFFECTIVE_PACE]) s (s.paceActs d pace eff) := by
  unfold State.paceActs
  extract_lets s1 s2 was s3
  have h1 : Frame (besideRegs [DieStatus.EFFECTIVE_PACE]) s s1 := .ite (State.stall_frame (.refl s) d) (.refl s)
  clear_value s1
  have h2 : Frame (besideRegs [DieStatus.EFFECTIVE_PACE]) s s2 := .ite (State.settleOwed_frame h1) h1
  clear_value s2
  have h3 : Frame (besideRegs [DieStatus.EFFECTIVE_PACE]) s s3 := State.paceLow_frame h2 d eff
  clear_value s3
  exact .ite (State.roleCheck_frame (State.compressCheck_frame (State.shedMore_frame h3 was eff))) (State.paceRate_frame h3 d eff)

/-- A measurement shows the pace less the fraction in force. -/
theorem paceMeasured (hi : s.inv = true) (hr : s.running = true) (hd : s.hasDie d = true) {pace : Nat} (hp : pace < 65536) :
    ∃ u, exec (.paceMeasurement t d pace) s = .next u ∧
      u.rd DieStatus.EFFECTIVE_PACE d = pace * (1000 - s.rd DieStatus.BREATHER_FRACTION d) / 1000 := by
  refine ⟨_, execPaceMeasurement_eq hr hd pace, ?_⟩
  have sorted : ((s.at t).paceNoted d pace).objs.sorted = true := sorted_of_inv ((State.paceNoted_keeps (s.at t) d pace).inv hi)
  rw [(State.paceActs_frame ..).rd DieStatus.EFFECTIVE_PACE d 0, State.rd_wr sorted]
  refine Nat.mod_eq_of_lt (lt_of_le_of_lt (Nat.div_le_of_le_mul ?_) hp)
  rw [Nat.mul_comm 1000]
  exact Nat.mul_le_mul_left pace (Nat.sub_le ..)

/-- Settles O50: the level a round gives a die and the fractions shown go together, no part of the round after it touches them,
and a measurement's effective pace is cut down to a step of 0.1 %. -/
theorem breathersFollowTheRound : Obligations.BreathersFollowTheRound := by
  refine ⟨fun t x s hi hr hs hl => ?_, fun t d pace s hi hr hd hp => ?_⟩
  · obtain ⟨u, run, breathes⟩ := roundBreathes hi hr hs hl x
    refine ⟨u, run, fun d hd above f ha hf => ?_⟩
    obtain ⟨⟨throttle, full, clear⟩, same⟩ := breathes d hd
    rw [hf]
    exact ⟨fun h => throttle h ▸ breathers_bounds _ above ha, full, clear, same⟩
  · obtain ⟨u, run, shown⟩ := paceMeasured (t := t) hi hr hd hp
    refine ⟨u, run, fun p e hp he => ?_⟩
    rw [shown, ← hp] at he
    omega

end Sys2Proof.Machine
end

section
/-! PROOFS. The caldera latch (R400 to R402): every coil is off once it is set, and the module starts once it is released. -/

namespace Sys2Proof.Machine

open Sys2Proof.Obj

variable {a s u : State} {n c t : Nat}

/-! ### Coils that stay off -/

/-- No coil that is off picks up. -/
def CoilsStayOff (s u : State) : Prop := ∀ m k, ((s.prot m).coil k).on = false → ((u.prot m).coil k).on = false

theorem CoilsStayOff.refl (s : State) : CoilsStayOff s s := fun _ _ => id

theorem CoilsStayOff.trans (h : CoilsStayOff a s) (k : CoilsStayOff s u) : CoilsStayOff a u := fun m i off => k m i (h m i off)

theorem CoilsStayOff.frame (h : CoilsStayOff a s) (k : Frame besideStrs s u) : CoilsStayOff a u :=
  h.trans fun m i off => by rw [State.prot, str_of_strs k.eq_strs]; exact off

theorem CoilsStayOff.ite {p : Prop} {d : Decidable p} (h : CoilsStayOff a s) (k : CoilsStayOff a u) :
    CoilsStayOff a (if p then s else u) := by
  split <;> assumption

theorem CoilsStayOff.foldl {α : Type} {l : List α} {f : State → α → State} (h : CoilsStayOff a s)
    (step : ∀ v b, CoilsStayOff v (f v b)) : CoilsStayOff a (l.foldl f s) :=
  List.foldlRecOn l f h fun v hv b _ => hv.trans (step v b)

/-- A replaced element is new where it is read, or the old one is read. -/
theorem nth_setNth_cases {α : Type} (d b : α) (l : List α) (i j : Nat) :
    nth d (setNth b l i) j = b ∧ i = j ∧ i < l.length ∨ nth d (setNth b l i) j = nth d l j := by
  by_cases e : i = j
  · subst e
    by_cases h : i < l.length
    · exact .inl ⟨nth_setNth h, rfl, h⟩
    · have same : setNth b l i = l := by
        clear d
        induction l generalizing i with
        | nil => rfl
        | cons x l ih =>
          cases i with
          | zero => exact absurd (Nat.succ_pos _) h
          | succ i => exact congrArg (x :: ·) (ih i fun k => h (Nat.succ_lt_succ k))
      exact .inr (by rw [same])
  · exact .inr (nth_setNth_ne e)

/-- A change of a string that picks up no coil. -/
theorem CoilsStayOff.modStr (h : CoilsStayOff a s) (n : Nat) (f : Str → Str)
    (hf : ∀ x k, (x.prot.coil k).on = false → ((f x).prot.coil k).on = false) : CoilsStayOff a (s.modStr n f) :=
  h.trans fun m k off => by
    rcases nth_setNth_cases Str.init (f (s.str n)) s.strs n m with ⟨e, rfl, -⟩ | e
    · exact (congrArg (fun x : Str => (x.prot.coil k).on) e).trans (hf _ k off)
    · exact (congrArg (fun x : Str => (x.prot.coil k).on) e).trans off

/-- A coil that is switched off, beside what is noted of it. -/
theorem Prot.modCoil_off (p : Prot) (c : Nat) (f : Coil → Coil) (hf : ∀ x, (f x).on = false) :
    ((p.modCoil c f).coil c).on = false ∧ ∀ k, (p.coil k).on = false → ((p.modCoil c f).coil k).on = false := by
  match c with
  | 0 => exact ⟨hf _, fun k off => match k with | 0 => hf _ | 1 => off | _ + 2 => off⟩
  | 1 => exact ⟨hf _, fun k off => match k with | 0 => off | 1 => hf _ | _ + 2 => off⟩
  | _ + 2 => exact ⟨hf _, fun k off => match k with | 0 => off | 1 => off | _ + 2 => hf _⟩

theorem CoilsStayOff.imdOne (h : CoilsStayOff a s) (n : Nat) : CoilsStayOff a (s.imdOne n) := by
  unfold State.imdOne
  extract_lets q key same s1 s2 s3
  have h2 : Frame besideStrs s s2 := State.wrB_frame (State.wrB_frame (State.wr_frame (.refl s) ..) ..) ..
  clear_value s2
  have h3 : CoilsStayOff a s3 := h.frame (.ite (State.wr_frame (State.wr_frame (State.wr_frame h2 ..) ..) ..) h2)
  exact .ite h3 (h3.modStr _ _ fun _ _ => id)

theorem CoilsStayOff.imdSync (h : CoilsStayOff a s) : CoilsStayOff a s.imdSync :=
  h.foldl fun v b => (CoilsStayOff.refl v).imdOne b

/-- What follows a coil's switching off. -/
def State.coilDropped (s : State) (n c : Nat) : State :=
  let s := if c = 2 then
      ((s.modProt n fun p => { p with preEnd := some s.now }).modStr n fun x =>
        { x with fe := { x.fe with imdPre := false, imdPauseEnd := some (s.now + secs 10) } }).imdSync
    else s
  (s.coilRegs n).send (.coil n c false)

theorem State.coilDropped_stay (s : State) (n c : Nat) : CoilsStayOff s (s.coilDropped n c) := by
  unfold State.coilDropped
  extract_lets s1
  have ended : CoilsStayOff s (s.modProt n fun p => { p with preEnd := some s.now }) :=
    (CoilsStayOff.refl s).modStr n _ fun _ k => match k with | 0 => id | 1 => id | _ + 2 => id
  have h1 : CoilsStayOff s s1 := .ite (CoilsStayOff.imdSync (ended.modStr _ _ fun _ _ => id)) (.refl s)
  clear_value s1
  exact h1.frame (State.send_frame (State.coilRegs_frame (.refl s1) n) _)

/-- A coil is off at both switches. -/
def Coil.off (now : Nat) (bad : Option Nat) (k : Coil) : Coil :=
  { k with on := false, offAt := some now, badSince := bad, test := none, told := false, pick := k.peak.or k.pick, peak := none }

theorem State.coilOff_on (on : ((s.prot n).coil c).on = true) :
    s.coilOff n c = (s.modProt n fun p => p.modCoil c (Coil.off s.now (if s.mirror n c then none else some s.now))).coilDropped n c :=
  if_pos on

/-- A coil that is switched off is off, and picks up no other. -/
theorem State.coilOff_off (s : State) (n c : Nat) :
    (((s.coilOff n c).prot n).coil c).on = false ∧ CoilsStayOff s (s.coilOff n c) := by
  cases on : ((s.prot n).coil c).on with
  | false =>
    rw [show s.coilOff n c = s from if_neg (by rw [on]; exact Bool.false_ne_true)]
    exact ⟨on, .refl s⟩
  | true =>
    have lt : n < s.strs.length := by
      by_contra k
      rw [State.prot, State.str, nth_default _ _ _ (Nat.le_of_not_lt k)] at on
      revert on
      match c with
      | 0 => exact Bool.false_ne_true
      | 1 => exact Bool.false_ne_true
      | _ + 2 => exact Bool.false_ne_true
    rw [State.coilOff_on on]
    have off := fun p : Prot => p.modCoil_off c (Coil.off s.now (if s.mirror n c then none else some s.now)) fun _ => rfl
    have stay := State.coilDropped_stay
      (s.modProt n fun p => p.modCoil c (Coil.off s.now (if s.mirror n c then none else some s.now))) n c
    refine ⟨stay n c ?_, ((CoilsStayOff.refl s).modStr _ _ fun x => (off x.prot).2).trans stay⟩
    rw [State.prot, State.modProt, State.modStr_str lt]
    exact (off _).1

theorem State.testsOpened_stay (s : State) (n : Nat) : CoilsStayOff s (s.testsOpened n) := by
  unfold State.testsOpened
  extract_lets r held due cmd asked s1
  exact .ite (.refl s) (((CoilsStayOff.refl s).foldl fun v e => (CoilsStayOff.refl v).frame (State.wrB_frame (.refl v) ..)).modStr
    _ _ fun _ _ => id)

/-- Every coil of a string is off once all are switched off, and no coil picks up. -/
theorem State.allOff_off (s : State) (n : Nat) : CoilsOff n (s.allOff n) ∧ CoilsStayOff s (s.allOff n) := by
  obtain ⟨pos, stay0⟩ := s.coilOff_off n 0
  obtain ⟨neg, stay1⟩ := (s.coilOff n 0).coilOff_off n 1
  obtain ⟨pre, stay2⟩ := ((s.coilOff n 0).coilOff n 1).coilOff_off n 2
  have stay3 := (((s.coilOff n 0).coilOff n 1).coilOff n 2).testsOpened_stay n
  unfold State.allOff
  generalize (((s.coilOff n 0).coilOff n 1).coilOff n 2).testsOpened n = v at *
  exact ⟨⟨stay3 n 0 (stay2 n 0 (stay1 n 0 pos)), stay3 n 1 (stay2 n 1 neg), stay3 n 2 pre⟩,
    ((stay0.trans stay1).trans stay2).trans stay3⟩

theorem CoilsStayOff.coilsOff (h : CoilsStayOff s u) (off : CoilsOff n s) : CoilsOff n u := by
  obtain ⟨pos, neg, pre⟩ := off
  exact ⟨h n 0 pos, h n 1 neg, h n 2 pre⟩

/-! ### The first trip (R400, R401) -/

/-- A string is open for the caldera latch, without a trip record. -/
def State.calderaOpen (n : Nat) (s : State) : State :=
  let q := s.seqState n
  let s := s.allOff n
  if q = seqTripped then s else s.wr ProtectionStatus.SEQ_STATE n seqOpen

theorem State.calderaOpen_off (s : State) (n : Nat) : CoilsOff n (s.calderaOpen n) ∧ CoilsStayOff s (s.calderaOpen n) := by
  obtain ⟨off, stay⟩ := s.allOff_off n
  have rest : CoilsStayOff (s.allOff n) (s.calderaOpen n) :=
    .ite (.refl _) ((CoilsStayOff.refl _).frame (State.wr_frame (.refl _) ..))
  exact ⟨rest.coilsOff off, stay.trans rest⟩

/-- The caldera latch is set. -/
def State.calderaSet (s : State) (die sensor : Nat) : State :=
  { s with thermal := { s.thermal with first := some (die, sensor), mask := setBit s.thermal.mask die true,
                                       coolSince := some s.now } }

theorem execCalderaTrip_eq {die : Nat} (sensor : Nat) (hp : s.power.powered = true) (hd : s.hasDie die = true)
    (hf : s.thermal.first = none) :
    execCalderaTrip t die sensor s =
      .next ((((s.at t).calderaSet die sensor).eachStr State.calderaOpen).haltDies).loopOut := by
  unfold execCalderaTrip
  dsimp only
  rw [if_pos ⟨hp, hd⟩]
  simp only [State.at_thermal, hf]
  rfl

/-- All that a frame can name but the thermal state. -/
def besideThermal : Nat := 2 ^ 1024 - 1 - 2 ^ 15

/-- The dies have halted and the mailbox is gone. -/
theorem State.haltDies_halted (s : State) : s.haltDies.boot.halt = true ∧ s.haltDies.mbx = .init := by
  unfold State.haltDies
  extract_lets s1 cut er nv boot hist panel s2
  exact ⟨congrArg Boot.halt (State.linesLow_frame (M := 0x4800000) (.refl s2)).eq_boot,
    (State.linesLow_frame (M := 0x4800000) (.refl s2)).eq_mbx⟩

/-- The first trip sets the latch, switches every coil off and halts the dies. -/
theorem calderaTripped {die : Nat} (sensor : Nat) (hp : s.power.powered = true) (hd : s.hasDie die = true)
    (hf : s.thermal.first = none) :
    ∃ u, exec (.calderaTrip t die sensor) s = .next u ∧ u.thermal.first = some (die, sensor) ∧ u.boot.halt = true ∧
      u.mbx = .init ∧ ∀ n, s.hasStr n = true → CoilsOff n u := by
  refine ⟨_, execCalderaTrip_eq sensor hp hd hf, ?_⟩
  have thermal : Frame besideThermal ((s.at t).calderaSet die sensor)
      ((((s.at t).calderaSet die sensor).eachStr State.calderaOpen).haltDies).loopOut :=
    State.loopOut_frame (State.haltDies_frame (State.eachStr_frame (.refl _) _ fun n v =>
      .ite (State.allOff_frame (.refl v) n) (State.wr_frame (State.allOff_frame (.refl v) n) ..)))
  have off : ∀ n ∈ s.strList, CoilsOff n (((s.at t).calderaSet die sensor).eachStr State.calderaOpen) :=
    foldl_made (I := fun _ => True) (P := fun v n => CoilsOff n v) s.strList trivial (fun _ _ _ => trivial)
      (fun v n _ => (v.calderaOpen_off n).1) fun v n _ _ => (v.calderaOpen_off n).2.coilsOff
  generalize ((s.at t).calderaSet die sensor).eachStr State.calderaOpen = v at *
  obtain ⟨halted, gone⟩ := v.haltDies_halted
  have loop : Frame 0x80000000000000000800 v.haltDies v.haltDies.loopOut := State.loopOut_frame (.refl _)
  have opened : Frame besideStrs v v.haltDies.loopOut := State.loopOut_frame (State.haltDies_frame (.refl v))
  refine ⟨congrArg Thermal.first thermal.eq_thermal, ?_, loop.eq_mbx.trans gone, fun n hn => ?_⟩
  · rw [loop.eq_boot]
    exact halted
  · exact ((CoilsStayOff.refl v).frame opened).coilsOff (off n (State.mem_strList.2 hn))

/-! ### A start (Table 4.1) and what it is begun with -/

/-- The cause and the instant of a start, its sessions and the caldera latch are as before. -/
structure StartKept (s u : State) : Prop where
  cause : u.boot.cause = s.boot.cause
  began : u.boot.t0 = s.boot.t0
  mbx : u.mbx = s.mbx
  first : u.thermal.first = s.thermal.first

/-- All that a frame can name but where these are, and the history. -/
def besideStart : Nat := 2 ^ 1024 - 1 - 2 ^ 6 - 2 ^ 8 - 2 ^ 9 - 2 ^ 15

theorem StartKept.refl (s : State) : StartKept s s := ⟨rfl, rfl, rfl, rfl⟩

theorem StartKept.trans (h : StartKept a s) (k : StartKept s u) : StartKept a u :=
  ⟨k.cause.trans h.cause, k.began.trans h.began, k.mbx.trans h.mbx, k.first.trans h.first⟩

theorem StartKept.frame (h : StartKept a s) (k : Frame besideStart s u) : StartKept a u :=
  h.trans ⟨congrArg Boot.cause k.eq_boot, congrArg Boot.t0 k.eq_boot, k.eq_mbx, congrArg Thermal.first k.eq_thermal⟩

theorem StartKept.ite {p : Prop} {d : Decidable p} (h : StartKept a s) (k : StartKept a u) : StartKept a (if p then s else u) := by
  split <;> assumption

theorem StartKept.setPhase (h : StartKept a s) (k : Nat) : StartKept a (s.setPhase k) := h.trans ⟨rfl, rfl, rfl, rfl⟩

/-- Before the history writer runs, a change of the supply is kept for it and told to nobody. -/
theorem StartKept.powerChange (h : StartKept a s) (run : s.hist.run = false) (old : Supply) :
    StartKept a (s.powerChange old) := by
  unfold State.powerChange
  extract_lets oldP new newP s1 power s2 s3 worse sev data told boot
  have h1 : Frame besideStart s s1 := State.sourceRegs_frame (State.wr_frame (.refl s) ..)
  clear_value s1
  have h3 : Frame besideStart s s3 := State.stamp_frame (h1.on_power _) ..
  have quiet : ¬ s3.hist.run = true := by rw [h3.eq_hist, run]; exact Bool.false_ne_true
  clear_value s3
  rw [if_neg quiet]
  exact .ite (h.frame h1) ((h.frame h3).trans ⟨rfl, rfl, rfl, rfl⟩)

theorem StartKept.finishStart (h : StartKept a s) : StartKept a s.finishStart := by
  unfold State.finishStart
  extract_lets s1 nv s2 s3 s4 s5 s6 s7 s8 s9 s10 s11 panel s12 s13 sec s14 s15 s16 s17 boot s18 s19
  have h3 : Frame besideStart s s3 := State.factoryRegs_frame (.on_nv (State.chooseConfig_frame (.refl s)) _)
  clear_value s3
  have h6 : StartKept a s6 :=
    h.frame (State.extendSlot_frame (State.extendSlot_frame (State.wr_frame (h3.any _) ..) _ _) _ _)
  clear_value s6
  have h7 : StartKept a s7 := h6.setPhase 5
  clear_value s7
  have h10 : Frame besideStart s7 s10 := State.wr_frame (State.coverAtStart_frame (State.switchRegs_frame
    (State.wakeRegs_frame (State.imageRegs_frame (.refl s7)))) _) ..
  clear_value s10
  have h11 : Frame besideStart s7 s11 :=
    State.eachStr_frame (State.applyMask_frame h10) _ fun n v => State.setProfile_frame (.refl v) n []
  clear_value s11
  have h12 : Frame besideStart s7 s12 := .ite (State.applySwitches_frame h10) (State.wrB_frame (h11.on_panel _) ..)
  clear_value s12
  have h16 : Frame besideStart s7 s16 := State.trustRegs_frame (State.extendSlot_frame (State.wr_frame
    (State.extendSlot_frame h12 _ _) ..) _ _)
  clear_value s16
  have h17 : StartKept a s17 := StartKept.trans
    (h7.frame (State.loopOut_frame (State.eachStr_frame h16 _ fun n v => State.latchAtStart_frame (.refl v) n)))
    ⟨rfl, rfl, rfl, rfl⟩
  clear_value s17
  have h19 : StartKept a s19 := StartKept.setPhase (s := s18) (h17.trans ⟨rfl, rfl, rfl, rfl⟩) 6
  clear_value s19
  exact (h19.frame (State.extendSlot_frame (.refl s19) _ _)).setPhase 7

/-- A start is begun. -/
def State.startBegun (s : State) (cause detail : Nat) (cover : Bool) : State :=
  { s with boot := { s.boot with t0 := s.now, cause := cause, detail := detail },
           power := { s.power with powered := true, lastPower := 0 }, panel := { s.panel with cover := cover } }

/-- The steps of a start from the choice of a slot on. -/
def State.slotChosen (s : State) : State :=
  let a := s.slotCheck s.nv.active
  let b := s.slotCheck (1 - s.nv.active)
  if a ≠ 0 ∧ b ≠ 0 then
    let s := { s with boot := { s.boot with halt := true, slotFail := if s.nv.active = 0 then (a, b) else (b, a) } }
    (s.wr BootStatus.START_PHASE 0 0xFF).loopOut
  else
    let k := if a = 0 then s.nv.active else 1 - s.nv.active
    let s := (s.wr BootStatus.BOOT_SLOT 0 k).wrB BootStatus.BOOT_FALLBACK 0 (decide (a ≠ 0))
    let s := (s.extendSlot 1 (Config.stage1Of (s.slotImage k))).setPhase 4
    if s.nv.eraseCut || s.nv.programCut then s else s.finishStart

theorem StartKept.slotChosen (h : StartKept a s) : StartKept a s.slotChosen := by
  unfold State.slotChosen
  extract_lets x y boot s1 k s2 s3
  have h1 : StartKept a s1 := h.trans ⟨rfl, rfl, rfl, rfl⟩
  clear_value s1
  have h2 : StartKept a s2 := h.frame (State.wrB_frame (State.wr_frame (.refl s) ..) ..)
  clear_value s2
  have h3 : StartKept a s3 := (h2.frame (State.extendSlot_frame (.refl s2) _ _)).setPhase 4
  clear_value s3
  exact .ite (h1.frame (State.loopOut_frame (State.wr_frame (.refl s1) ..))) (.ite h3 h3.finishStart)

/-- The steps of a start before the choice of a slot. -/
def State.romStarted (s : State) (cause detail : Nat) : State :=
  let s := s.powerChange .off
  let s := (s.wr BootStatus.RESTART_CAUSE 0 cause).wr BootStatus.RESTART_DETAIL 0 detail
  let s := s.wrB ModuleTerminals.SAFE_LOOP_IN_OPEN 0 true
  let s := s.eachStr fun n s => s.wrB StringTerminals.FLOOP_OPEN n true
  s.extendSlot 0 (toLE 4 s.nv.romVersion ++ [b2n s.nv.decommissioned])

theorem StartKept.romStarted (h : StartKept a s) (run : s.hist.run = false) (cause detail : Nat) :
    StartKept a (s.romStarted cause detail) := by
  unfold State.romStarted
  extract_lets s1 s2 s3 s4
  have h1 : StartKept a s1 := h.powerChange run .off
  clear_value s1
  have h4 : Frame besideStart s1 s4 := State.eachStr_frame (State.wrB_frame (State.wr_frame (State.wr_frame (.refl s1) ..) ..) ..)
    _ fun n v => State.wrB_frame (.refl v) ..
  clear_value s4
  exact h1.frame (State.extendSlot_frame h4 _ _)

theorem State.beginStart_eq (s : State) (cause detail : Nat) (cover : Bool) :
    s.beginStart cause detail cover = ((s.startBegun cause detail cover).romStarted cause detail).slotChosen := rfl

/-- A start keeps what it is begun with, whether a slot passes its checks, and whether the journal is to be replayed first. -/
theorem State.beginStart_kept (run : s.hist.run = false) (cause detail : Nat) (cover : Bool) :
    StartKept (s.startBegun cause detail cover) (s.beginStart cause detail cover) := by
  rw [State.beginStart_eq]
  exact ((StartKept.refl (s.startBegun cause detail cover)).romStarted run cause detail).slotChosen

/-! ### The release (R402) -/

/-- The latch is released, and everything a run holds is gone. -/
def State.calderaCleared (s : State) : State :=
  ({ s with thermal := .init }).clearRun (keepMeasured s.objs measuredModule measuredString)

theorem execCalderaRelease_eq {since d m : Nat} (hf : s.thermal.first = some (d, m)) (hp : s.power.powered = true)
    (hc : s.thermal.coolSince.getD 0 ≤ since) (ht : since + secs 60 ≤ t) :
    execCalderaRelease t since s = .next ((s.at t).calderaCleared.beginStart 4 d s.panel.cover) := by
  unfold execCalderaRelease
  dsimp only
  simp only [State.at_thermal, hf]
  exact congrArg Host.Outcome.next (if_pos ⟨hp, hc, ht.trans (le_max_right ..)⟩)

/-- After 60 s without a trip the latch is released and the module starts. -/
theorem calderaReleased {since d m : Nat} (hf : s.thermal.first = some (d, m)) (hp : s.power.powered = true)
    (hc : s.thermal.coolSince.getD 0 ≤ since) (ht : since + secs 60 ≤ t) :
    ∃ u, exec (.calderaRelease t since) s = .next u ∧ u.thermal.first = none ∧ u.boot.cause = 4 ∧ u.boot.t0 = max s.now t ∧
      u.mbx.sess = [] := by
  refine ⟨_, execCalderaRelease_eq hf hp hc ht, ?_⟩
  obtain ⟨cause, began, mbx, first⟩ := State.beginStart_kept (s := (s.at t).calderaCleared) rfl 4 d s.panel.cover
  exact ⟨first, cause, began, congrArg Mbx.sess mbx⟩

end Sys2Proof.Machine
end

section
/-! PROOFS. What a housekeeping round notes (R390), the HVAC request of every period (R406), the end of a sentinel fit, and the
settling of ThermalRowsAct (O40). -/

namespace Sys2Proof.Machine

open Sys2Proof.Obj

variable {s u : State} {d n t : Nat} {x : Round}

/-! ### What a round notes (R390) -/

/-- The round is noted in a die's registers. -/
structure RoundNoted (x : Round) (k : Nat) (u : State) (d : Nat) : Prop where
  vcore : u.rd DieStatus.VCORE d = nth 0xFFFF x.vcore d % 2 ^ 16
  time : u.rd ThermalStatus.LAST_ROUND_TIME d = timeVal (k * 1000000000) % 2 ^ 80

theorem RoundNoted.kept {k : Nat} (h : RoundNoted x k s d) (same : RegsKept notedRegs d s u) : RoundNoted x k u d := by
  obtain ⟨vcore, time⟩ := h
  simp only [RegsKept, notedRegs, List.forall_mem_cons] at same
  obtain ⟨sameTime, sameVcore, -⟩ := same
  exact ⟨sameVcore.trans vcore, sameTime.trans time⟩

theorem State.noteDie_noted (hs : s.objs.sorted = true) (x : Round) (k d : Nat) : RoundNoted x k (State.noteDie x k s d) d := by
  refine ⟨State.rd_wr (State.wr_sorted hs ..) .., ?_⟩
  rw [State.noteDie, State.rd_wr_apart _ _ _ _ _ _ _ _ (by decide), State.rd_wr hs]
  rfl

theorem State.roundNoted_noted (hs : s.objs.sorted = true) (x : Round) (k : Nat) (hd : s.hasDie d = true) :
    RoundNoted x k (s.roundNoted x k) d :=
  foldl_made (s := { s with thermal := { s.thermal with lastRound := some k } }) (I := fun v => v.objs.sorted = true)
    (P := RoundNoted x k) s.dieList hs
    (fun _ _ hv => State.wr_sorted (State.wr_sorted hv ..) ..) (fun _ b hv => State.noteDie_noted hv x k b)
    (fun v _ c ne h => h.kept (((RegsKept.refl notedRegs c v).wr_inst _ _ _ _ ne).wr_inst _ _ _ _ ne)) d (State.mem_dieList.2 hd)

/-- The levels leave what the round has noted. -/
theorem State.diesRound_noted (s : State) (x : Round) (d : Nat) : RegsKept notedRegs d s (s.diesRound x) :=
  (RegsKept.refl notedRegs d s).foldl fun v b _ => (v.controlTemp_noted x b d).trans ((v.controlTemp x b).dieLevel_noted b d)

theorem State.hvacSend_lastRound (s : State) (mode : Nat) : (s.hvacSend mode).thermal.lastRound = s.thermal.lastRound := by
  unfold State.hvacSend
  extract_lets o fits s1 th s2 seq th2 s3
  split
  · rfl
  · split
    · rfl
    · have sent : Frame besideThermal s3 ((s3.bump HvacConfig.HVAC_SENT).canContent o (s3.hvacBytes mode seq)) :=
        State.canContent_frame (State.bump_frame (.refl s3) ..) _ _
      exact (congrArg Thermal.lastRound sent.eq_thermal).trans rfl

/-- What follows a decided HVAC mode. -/
def State.hvacActs (s : State) (mode old : Nat) : State :=
  if s.rd HvacConfig.HVAC_SOURCE = 1 ∧ s.hvacChannel = true then s
  else
    let s := s.setHvac mode
    if mode ≠ old ∧ s.rd HvacConfig.HVAC_SOURCE = 0 then s.hvacSend mode else s

theorem State.hvacActs_lastRound (s : State) (mode old : Nat) : (s.hvacActs mode old).thermal.lastRound = s.thermal.lastRound := by
  have set : (s.setHvac mode).thermal = s.thermal := (State.setHvac_frame (M := besideThermal) (.refl s) mode).eq_thermal
  unfold State.hvacActs
  dsimp only
  split
  · rfl
  · split
    · rw [State.hvacSend_lastRound, set]
    · rw [set]

/-- The HVAC mode is decided without touching the round noted. -/
theorem State.hvacRound_lastRound (s : State) : s.hvacRound.thermal.lastRound = s.thermal.lastRound := by
  unfold State.hvacRound
  dsimp only
  split
  · rfl
  · exact (State.hvacActs_lastRound _ _ _).trans rfl

/-- From the sensors to the front-ends, a round touches no thermal state that is not a register. -/
theorem State.roundMiddle_thermal (s : State) (x : Round) :
    (((s.sensorRound x).diesRound x).placesRound x).thermal = s.thermal := by
  have dies : Frame besideThermal (s.sensorRound x) ((s.sensorRound x).diesRound x) :=
    .foldl _ _ (.refl _) fun v d => State.dieLevel_frame (State.controlTemp_frame (.refl v) x d) d
  have sensors : Frame besideThermal s (s.sensorRound x) := State.sensorRound_frame (.refl s) x
  have places : Frame besideThermal ((s.sensorRound x).diesRound x) (((s.sensorRound x).diesRound x).placesRound x) :=
    (State.placesRound_frame _ x).mono (by decide +kernel)
  exact ((sensors.trans dies).trans places).eq_thermal

theorem State.roundNoted_lastRound (s : State) (x : Round) (k : Nat) : (s.roundNoted x k).thermal.lastRound = some k := by
  have noted : Frame besideThermal { s with thermal := { s.thermal with lastRound := some k } } (s.roundNoted x k) :=
    .foldl _ _ (.refl _) fun v d => State.wr_frame (State.wr_frame (.refl v) ..) ..
  exact congrArg Thermal.lastRound noted.eq_thermal

/-- The first round of a second is noted, in each fitted die's registers too. -/
theorem roundShown (hi : s.inv = true) (hr : s.running = true) (hs : s.security ≠ 5)
    (hl : s.thermal.lastRound ≠ some ((s.at t).base / 1000000000)) (x : Round) :
    ∃ u, exec (.housekeepingRound t x) s = .next u ∧ u.thermal.lastRound = some ((s.at t).base / 1000000000) ∧
      ∀ d, s.hasDie d = true → RoundNoted x ((s.at t).base / 1000000000) u d := by
  have sorted : (s.at t).objs.sorted = true := sorted_of_inv hi
  have dies : ∀ d, s.hasDie d = true → (s.at t).hasDie d = true := fun _ => id
  refine ⟨_, execHousekeepingRound_eq hr hs hl x, ?_⟩
  generalize (s.at t).base / 1000000000 = k
  generalize s.at t = v at *
  refine ⟨?_, fun d hd => ?_⟩
  · rw [State.hvacRound_lastRound, State.roundMiddle_thermal, State.roundNoted_lastRound]
  · exact (((State.roundNoted_noted sorted x k (dies d hd)).kept (State.sensorRound_noted _ x d)).kept
      (State.diesRound_noted _ x d)).kept (State.roundEnd_kept _ x d (List.subset_append_right ..))

/-! ### The HVAC request of a period (R406) -/

/-- An HVAC request is attempted. -/
def State.hvacTried (s : State) (fits : Bool) : State :=
  let s := s.wrB HvacConfig.HVAC_CFG_FAULT 0 (!fits)
  { s with thermal := { s.thermal with hvacLast := some s.now } }

/-- An HVAC request leaves for its object. -/
def State.hvacLeft (s : State) (obj mode : Nat) : State :=
  let seq := (s.thermal.hvacSeq + 1) % 256
  let s := { s with thermal := { s.thermal with hvacSeq := seq } }
  (s.bump HvacConfig.HVAC_SENT).canContent obj (s.hvacBytes mode seq)

/-- The object of the last round is a 16-byte transmit object of CAN 1. -/
def State.hvacFits (s : State) : Bool := s.canFit (nth 0xFFFF s.thermal.hvac 1) 1 fun l => l == 16

theorem State.hvacSend_eq (ho : s.ownersRun = true) (mode : Nat) :
    s.hvacSend mode = if s.hvacFits then (s.hvacTried s.hvacFits).hvacLeft (nth 0xFFFF s.thermal.hvac 1) mode
      else s.hvacTried s.hvacFits := by
  have e : s.hvacSend mode = if !s.hvacFits then s.hvacTried s.hvacFits
      else (s.hvacTried s.hvacFits).hvacLeft (nth 0xFFFF s.thermal.hvac 1) mode := if_neg (by rw [ho]; exact Bool.false_ne_true)
  rw [e]
  cases s.hvacFits <;> rfl

/-- All that a frame can name but what is noted of requests. -/
def besideHvac : Nat := besideRegs [HvacConfig.HVAC_CFG_FAULT, HvacConfig.HVAC_SENT] - 2 ^ 15

/-- A request that leaves is counted, and the rest of what is noted of requests stays. -/
theorem State.hvacLeft_spec (hs : s.objs.sorted = true) (obj mode : Nat) :
    (s.hvacLeft obj mode).thermal.hvacLast = s.thermal.hvacLast ∧
      (s.hvacLeft obj mode).rdB HvacConfig.HVAC_CFG_FAULT = s.rdB HvacConfig.HVAC_CFG_FAULT ∧
      Counts HvacConfig.HVAC_SENT 0 s (s.hvacLeft obj mode) := by
  unfold State.hvacLeft
  extract_lets seq th s1
  have sent : Frame besideHvac (s1.bump HvacConfig.HVAC_SENT)
      ((s1.bump HvacConfig.HVAC_SENT).canContent obj (s1.hvacBytes mode seq)) := State.canContent_frame (.refl _) _ _
  refine ⟨(congrArg Thermal.hvacLast sent.eq_thermal).trans rfl, (sent.rdB HvacConfig.HVAC_CFG_FAULT 0 0).trans ?_,
    .of_bump (v := s1) hs rfl (sent.rd HvacConfig.HVAC_SENT 0 0)⟩
  rw [State.rdB, State.bump, State.rd_wr_apart _ _ _ _ _ _ _ _ (by decide)]
  rfl

/-- An attempt notes its instant and whether the object fits. -/
theorem State.hvacTried_fault (hs : s.objs.sorted = true) (fits : Bool) :
    (s.hvacTried fits).rdB HvacConfig.HVAC_CFG_FAULT = !fits :=
  State.rdB_wrB hs HvacConfig.HVAC_CFG_FAULT 0 (!fits) 0 (by decide)

theorem State.hvacTried_sent (s : State) (fits : Bool) :
    (s.hvacTried fits).rd HvacConfig.HVAC_SENT = s.rd HvacConfig.HVAC_SENT :=
  State.rd_wr_apart s HvacConfig.HVAC_CFG_FAULT HvacConfig.HVAC_SENT 0 0 _ 0 0 (by decide)

/-- A request of an owner that is served is noted, with its fault or its count. -/
theorem State.hvacSend_spec (hs : s.objs.sorted = true) (ho : s.ownersRun = true) (mode : Nat) :
    (s.hvacSend mode).thermal.hvacLast = some s.now ∧ (s.hvacSend mode).rdB HvacConfig.HVAC_CFG_FAULT = !s.hvacFits ∧
      (s.hvacFits = true → Counts HvacConfig.HVAC_SENT 0 s (s.hvacSend mode)) := by
  rw [State.hvacSend_eq ho]
  cases fits : s.hvacFits with
  | false => exact ⟨rfl, State.hvacTried_fault hs false, nofun⟩
  | true =>
    have sorted : (s.hvacTried true).objs.sorted = true := State.wr_sorted hs HvacConfig.HVAC_CFG_FAULT 0 (b2n !true) 0
    obtain ⟨last, fault, counts⟩ := State.hvacLeft_spec sorted (nth 0xFFFF s.thermal.hvac 1) mode
    refine ⟨last, fault.trans (State.hvacTried_fault hs true), fun _ => ?_⟩
    rw [Counts, State.hvacTried_sent] at counts
    exact counts

/-- A request that is due under the period of the last round is noted. -/
theorem hvacRequested {obj per tgt : Nat} (hi : s.inv = true) (hr : s.running = true) (ho : s.ownersRun = true)
    (hh : s.thermal.hvac = [0, obj, per, tgt]) (hd : ∀ l, s.thermal.hvacLast = some l → l + msec per ≤ t) :
    ∃ u, exec (.hvacRequest t) s = .next u ∧ u.thermal.hvacLast = some (max s.now t) ∧
      u.rdB HvacConfig.HVAC_CFG_FAULT = !(s.canFit obj 1 fun l => l == 16) ∧
      (s.canFit obj 1 (fun l => l == 16) = true → Counts HvacConfig.HVAC_SENT 0 s u) := by
  have fits : (s.at t).hvacFits = s.canFit obj 1 fun l => l == 16 := by
    rw [State.hvacFits, State.at_thermal, hh]
    rfl
  have run : execHvacRequest t s = .next ((s.at t).hvacSend ((s.at t).rd HvacConfig.HVAC_MODE)) := by
    refine congrArg Host.Outcome.next (if_pos ⟨hr, ?_, ?_⟩)
    · rw [State.at_thermal, hh]
      rfl
    · rw [State.at_thermal, hh]
      cases last : s.thermal.hvacLast with
      | none => rfl
      | some l => exact decide_eq_true ((hd l last).trans (le_max_right ..))
  obtain ⟨last, fault, counts⟩ := State.hvacSend_spec (s := s.at t) (sorted_of_inv hi) ho ((s.at t).rd HvacConfig.HVAC_MODE)
  rw [fits] at fault counts
  exact ⟨_, run, last, fault, counts⟩

/-! ### The end of a sentinel fit -/

/-- The step of a string is over, present or not. -/
theorem State.endStep_step (s : State) (n : Nat) :
    ((s.modEst n fun e => { e with step := none }).est n).step = none := by
  by_cases lt : n < s.strs.length
  · rw [State.modEst, State.est, State.modStr_str lt]
  · rcases nth_setNth_cases Str.init { s.str n with est := { (s.str n).est with step := none } } s.strs n n with ⟨-, -, k⟩ | e
    · exact absurd k lt
    · refine (congrArg (fun y : Str => y.est.step) (e.trans (nth_default _ _ _ (Nat.le_of_not_lt lt)))).trans rfl

/-- The windows of a step's nodes have been read or refused, and the laps of i_post have run. -/
def State.stepRead (s : State) (n : Nat) (st : Step) : Bool :=
  let read (k : Nat) : Bool := st.refused.contains k || (maskList (s.sentinelMask n k)).all fun c => (st.samples k c).isSome
  s.hasStr n && s.enginesUp && st.nodes.all read && decide (st.nomB + msec 105 ≤ s.plain)

/-- The fits of a step end it. -/
theorem execSentinelFit_ends {st : Step} (hst : (s.est n).step = some st) (due : (s.at t).stepRead n st = true) :
    ∃ v : State, execSentinelFit t n s = .next (v.modEst n fun e => { e with step := none }) := by
  unfold execSentinelFit
  extract_lets s1 table
  split
  case h_1 e => exact absurd (hst.symm.trans e) nofun
  case h_2 st' e =>
    obtain rfl : st = st' := Option.some.inj (hst.symm.trans e)
    extract_lets read sentinels windows located fitted
    exact ⟨fitted, congrArg Host.Outcome.next (if_pos due)⟩

/-- Once the windows of a step's nodes have been read or refused, its fits end it. -/
theorem sentinelFitted {st : Step} (hp : s.hasStr n = true) (he : s.enginesUp = true) (hst : (s.est n).step = some st)
    (ht : st.nomB + msec 105 ≤ (s.at t).plain)
    (hr : ∀ k ∈ st.nodes, st.refused.contains k = true ∨ ∀ c ∈ maskList (s.sentinelMask n k), (st.samples k c).isSome = true) :
    ∃ u, exec (.sentinelFit t n) s = .next u ∧ (u.est n).step = none := by
  have due : (s.at t).stepRead n st = true := by
    simp only [State.stepRead, Bool.and_eq_true, decide_eq_true_eq]
    exact ⟨⟨⟨hp, he⟩, List.all_eq_true.2 fun k hk => Bool.or_eq_true_iff.2 ((hr k hk).imp_right List.all_eq_true.2)⟩, ht⟩
  obtain ⟨v, run⟩ := execSentinelFit_ends hst due
  exact ⟨_, run, v.endStep_step n⟩

/-! ### The settling -/

/-- Settles O40, clause by clause: each row acts where its hypotheses let it, and what it sets is not touched again. -/
theorem thermalRowsAct : Obligations.ThermalRowsAct := by
  refine ⟨fun t x s hi hr hs hl => ?_, fun t s hi hr ho src obj per tgt hh h0 hd => ?_,
    fun t die sensor s _ hp hd hf => calderaTripped sensor hp hd hf,
    fun t since d m s hf hp hc ht => calderaReleased hf hp hc ht,
    fun t n st s _ hp he hst ht hr => sentinelFitted hp he hst ht hr⟩
  · obtain ⟨u, run, last, shown⟩ := roundShown hi hr hs hl x
    refine ⟨u, run, last, fun d _ hd => ?_⟩
    obtain ⟨vcore, time⟩ := shown d hd
    exact ⟨vcore, time⟩
  · subst h0
    exact hvacRequested hi hr ho hh hd

end Sys2Proof.Machine
end

section
/-! PROOFS. An edge on a capture input (R476): the registers it shows, the event it records, and the settling of
CapturesAreLimited (O47). -/

namespace Sys2Proof.Machine

open Sys2Proof.Obj

variable {s u : State} {t input edge m : Nat}

/-! ### Reading an event that has just been recorded -/

theorem State.base_of {s u : State} (now : u.now = s.now) (clk : u.clk = s.clk) : u.base = s.base := by
  rw [State.base, State.base, now, clk]

theorem Frame.eq_base {M : Nat} (h : Frame M s u) (hn : M.testBit 0 = false := by decide +kernel)
    (hc : M.testBit 1 = false := by decide +kernel) : u.base = s.base :=
  State.base_of (h.eq_now hn) (h.eq_clk hc)

/-- An event that is put into the event ring is the newest of its open block. -/
theorem State.putEvent_evOpen (s : State) (e : Event) :
    ∃ es, (s.putEvent e).hist.evOpen = { e with seq := s.hist.evSeq } :: es := by
  unfold State.putEvent
  extract_lets e room added counted notified panel lit
  have told : Frame besideHist added notified := State.notify_frame (State.bump_frame (.refl added) ..) e
  have shown : Frame besideHist added lit := .ite (Frame.on_panel told _) told
  have after : Frame besideHist added (if lit.rd I2cConfig.ATTN_MIN_SEVERITY ≤ e.sev then lit.attention 4 else lit) :=
    .ite (State.attention_frame shown 4) shown
  exact ⟨room.hist.evOpen, congrArg Hist.evOpen after.eq_hist⟩

theorem State.managerStalled_of {s u : State} (h : u.dies = s.dies) : u.managerStalled = s.managerStalled := by
  rw [State.managerStalled, State.managerStalled, h]

/-- While the history writer runs, an event that is recorded is the newest (R44, R260). -/
theorem State.record_recorded (run : s.hist.run = true) (code sev : Nat) (data : Bytes) :
    Recorded (s.record code sev data) code data := by
  have same := State.record_frame (.refl s) code sev data (M := 2 ^ 1024 - 1 - 2 ^ 14 - 3)
  have base : (s.record code sev data).base = s.base := same.eq_base
  have stalled := State.managerStalled_of same.eq_dies
  have later : s.record code sev data = s.putLater ⟨s.base, code, sev, 0, 0xFFFF, 0, 0, padTo 20 data⟩ := if_pos run
  unfold Recorded State.lastEvent
  rw [stalled, base, later, State.putLater]
  cases s.managerStalled
  · obtain ⟨es, newest⟩ := s.putEvent_evOpen ⟨s.base, code, sev, 0, 0xFFFF, 0, 0, padTo 20 data⟩
    simp [newest]
  · simp

/-! ### An edge that is asked for (R475, R476) -/

/-- An edge, 1 rising or 2 falling, that EDGE and an open window of a capture input ask for. -/
structure EdgeAsked (t input edge m : Nat) (s : State) : Prop where
  running : s.running = true
  input_le : input ≤ 1
  rises_or_falls : edge = 1 ∨ edge = 2
  window : s.winOpen input (s.at t).base = some m
  asked : bitOf (s.rd CaptureInput.EDGE input) (edge - 1) = true

/-- LEVEL follows the line. -/
def State.levelShown (s : State) (input edge : Nat) : State := s.wrB CaptureInput.LEVEL input (edge == 1)

/-- What is remembered of a capture input is set. -/
def State.setCap (s : State) (input : Nat) (x : CapIn) : State := { s with caps := setNth x s.caps input }

/-- An edge is captured: what is remembered of it, and the registers that show it. -/
def State.edgeTaken (s : State) (input edge : Nat) (x : CapIn) : State :=
  (((s.setCap input x).bump CaptureInput.CAPTURES input).wr CaptureInput.LAST_EDGE input edge).stamp
    CaptureInput.LAST_CAPTURE_TIME input

/-- The second of the time base that now is. -/
def State.second (s : State) : Nat := s.base / 1000000000

/-- The captures of an input that have been recorded in this second. -/
def State.recordsOf (s : State) (input : Nat) : Nat :=
  if s.second = (s.capIn input).secIdx then (s.capIn input).secCnt else 0

/-- An edge is captured, with room for a record in this second or without. -/
def State.edgeCaptured (s : State) (input edge m : Nat) (room : Bool) : State :=
  let n := s.recordsOf input
  let s := s.edgeTaken input edge ⟨some s.now, s.second, if room then n + 1 else n⟩
  if room then s.record 0x0F08 1 ([input, edge] ++ toLE 4 m) else s.bump CaptureInput.CAPTURES_UNRECORDED input

/-- The last captured edge of an input is less than 100 ns ago. -/
def State.tooSoon (s : State) (input : Nat) : Bool := (s.capIn input).last.any fun l => decide (s.now < l + 100)

/-- An input has room for a record in this second. -/
def State.hasRoom (s : State) (input : Nat) : Bool := decide (s.recordsOf input < s.rd CaptureInput.RECORD_LIMIT input)

/-- The registers that say whether a window is open. -/
def windowRegs : List Fld :=
  [CaptureInput.CAPTURE_MODE, CaptureInput.WINDOW_START, CaptureInput.WINDOW_END, CaptureInput.WINDOW_STATE,
    CaptureInput.WINDOW_PERIOD_S, CaptureInput.WINDOW_PERIOD_NS]

theorem State.winOpen_kept (h : RegsKept windowRegs input s u) (at_ : Nat) : u.winOpen input at_ = s.winOpen input at_ := by
  simp only [RegsKept, windowRegs, List.forall_mem_cons] at h
  obtain ⟨mode, start, finish, state, seconds, nanos, -⟩ := h
  unfold State.winOpen State.winIndex State.winStart State.winEnd State.winPeriod
  rw [mode, start, finish, state, seconds, nanos]

/-- LEVEL leaves the other registers of the input. -/
theorem State.levelShown_rd (s : State) (input edge : Nat) (f : Fld) (h : apart CaptureInput.LEVEL 0 f 0 = true := by decide) :
    (s.levelShown input edge).rd f input = s.rd f input :=
  State.rd_wr_apart _ _ _ _ _ _ _ _ h

theorem execCapture_asked (h : EdgeAsked t input edge m s) :
    execCapture t input edge s =
      let v := (s.at t).levelShown input edge
      .next (if v.tooSoon input then v.bump CaptureInput.EDGES_MISSED input
        else v.edgeCaptured input edge m (v.hasRoom input)) := by
  obtain ⟨running, input_le, edges, window, asked⟩ := h
  have known : (edge == 1 || edge == 2) = true := by simpa using edges
  have wanted : bitOf (((s.at t).levelShown input edge).rd CaptureInput.EDGE input) (edge - 1) = true :=
    (congrArg (bitOf · (edge - 1)) ((s.at t).levelShown_rd input edge CaptureInput.EDGE)).trans asked
  have opened : ((s.at t).levelShown input edge).winOpen input (s.at t).base = some m :=
    (State.winOpen_kept ((RegsKept.refl windowRegs input (s.at t)).wr_apart _ _ _ _ (by decide)) _).trans window
  have guard : (!(s.at t).running || decide (1 < input) || !(edge == 1 || edge == 2)) = false := by
    rw [show (s.at t).running = true from running, decide_eq_false (not_lt.2 input_le), known]
    rfl
  unfold execCapture
  extract_lets v w ts x
  rw [show (!v.running || decide (1 < input) || !(edge == 1 || edge == 2)) = false from guard, if_neg Bool.false_ne_true,
    show w.winOpen input ts = some m from opened]
  dsimp only
  rw [show bitOf (w.rd CaptureInput.EDGE input) (edge - 1) = true from wanted, if_neg (by decide)]
  have soon : w.tooSoon input = match x.last with
    | some l => decide (w.now < l + 100)
    | none => false := by
    unfold State.tooSoon
    cases x.last <;> rfl
  exact congrArg Host.Outcome.next (if_congr (iff_of_eq (congrArg (· = true) soon.symm)) rfl rfl)

/-! ### What a captured edge shows -/

/-- The registers of a capture input that show its edges. -/
def edgeRegs : List Fld :=
  [CaptureInput.LEVEL, CaptureInput.CAPTURES, CaptureInput.LAST_EDGE, CaptureInput.LAST_CAPTURE_TIME, CaptureInput.EDGES_MISSED]

/-- The registers show an edge that was captured, over what they read before. -/
structure EdgeShown (input edge : Nat) (s u : State) : Prop where
  level : u.rd CaptureInput.LEVEL input = s.rd CaptureInput.LEVEL input
  counted : Counts CaptureInput.CAPTURES input s u
  edge : u.rd CaptureInput.LAST_EDGE input = edge
  time : u.rd CaptureInput.LAST_CAPTURE_TIME input = timeVal s.base % 2 ^ 80
  missed : u.rd CaptureInput.EDGES_MISSED input = s.rd CaptureInput.EDGES_MISSED input

theorem EdgeShown.kept {a : State} (h : EdgeShown input edge a s) (k : RegsKept edgeRegs input s u) :
    EdgeShown input edge a u := by
  obtain ⟨level, counted, last, time, missed⟩ := h
  simp only [RegsKept, edgeRegs, List.forall_mem_cons] at k
  obtain ⟨sameLevel, sameCount, sameEdge, sameTime, sameMissed, -⟩ := k
  exact ⟨sameLevel.trans level, sameCount.trans counted, sameEdge.trans last, sameTime.trans time, sameMissed.trans missed⟩

theorem State.edgeTaken_shown (hs : s.objs.sorted = true) (he : edge ≤ 2) (x : CapIn) :
    EdgeShown input edge s (s.edgeTaken input edge x) := by
  have wrote : s.edgeTaken input edge x = (s.setCap input x).wrAll input
      [(CaptureInput.CAPTURES, satAdd 32 (s.rd CaptureInput.CAPTURES input) 1), (CaptureInput.LAST_EDGE, edge),
        (CaptureInput.LAST_CAPTURE_TIME, timeVal s.base)] := rfl
  have sorted : (s.setCap input x).objs.sorted = true := hs
  rw [wrote]
  refine ⟨State.wrAll_apart _ _ _ _ rfl, State.wrAll_rd sorted input [] _ _ _, ?_, State.wrAll_rd sorted input [_, _] _ _ _,
    State.wrAll_apart _ _ _ _ rfl⟩
  exact (State.wrAll_rd sorted input [_] _ _ _).trans (Nat.mod_eq_of_lt (lt_of_le_of_lt he (by decide)))

/-- All that recording an event may change, as a frame's number. -/
def recordMask : Nat := besideRegs (CaptureInput.CAPTURES_UNRECORDED :: edgeRegs) - 2 ^ 24 - 3

theorem State.record_kept (s : State) (code sev : Nat) (data : Bytes) : Frame recordMask s (s.record code sev data) :=
  State.record_frame (.refl s) ..

theorem edgeRegs_missed : ∀ f ∈ edgeRegs, misses recordMask f 0 = true := by decide +kernel

/-- An edge has been captured, and is still to be recorded or not. -/
structure EdgeTaken (input edge : Nat) (x : CapIn) (s v : State) : Prop where
  shown : EdgeShown input edge s v
  sorted : v.objs.sorted = true
  held : v.capIn input = x
  rest : Frame (besideRegs [CaptureInput.CAPTURES_UNRECORDED] - 2 ^ 9 - 3) s v

theorem State.edgeTaken_spec (hs : s.objs.sorted = true) (he : edge ≤ 2) (hc : input < s.caps.length) (x : CapIn) :
    EdgeTaken input edge x s (s.edgeTaken input edge x) where
  shown := State.edgeTaken_shown hs he x
  sorted := State.wr_sorted (State.wr_sorted (State.wr_sorted (s := s.setCap input x) hs ..) ..) ..
  held := nth_setNth hc
  rest := State.stamp_frame (State.wr_frame (State.bump_frame (Frame.on_caps (.refl s) _) ..) ..) ..

/-- A capture that is recorded is the newest event, and leaves the count of those that are not. -/
theorem EdgeTaken.recorded {x : CapIn} {v : State} (h : EdgeTaken input edge x s v) (data : Bytes) :
    EdgeShown input edge s (v.record 0x0F08 1 data) ∧ (v.record 0x0F08 1 data).capIn input = x ∧
      (v.record 0x0F08 1 data).rd CaptureInput.CAPTURES_UNRECORDED input = s.rd CaptureInput.CAPTURES_UNRECORDED input ∧
      (s.hist.run = true → Recorded (v.record 0x0F08 1 data) 0x0F08 data ∧ (v.record 0x0F08 1 data).base = s.base) := by
  obtain ⟨shown, -, held, rest⟩ := h
  have kept := v.record_kept 0x0F08 1 data
  refine ⟨shown.kept fun f hf => kept.rd f input 0 (edgeRegs_missed f hf), ?_, (kept.rd _ input 0).trans (rest.rd _ input 0),
    fun run => ⟨State.record_recorded (rest.eq_hist ▸ run) .., kept.eq_base.trans rest.eq_base⟩⟩
  rw [State.capIn, kept.eq_caps]
  exact held

/-- A capture that is not recorded counts as such, and leaves the history. -/
theorem EdgeTaken.unrecorded {x : CapIn} {v : State} (h : EdgeTaken input edge x s v) :
    EdgeShown input edge s (v.bump CaptureInput.CAPTURES_UNRECORDED input) ∧
      (v.bump CaptureInput.CAPTURES_UNRECORDED input).capIn input = x ∧
      Counts CaptureInput.CAPTURES_UNRECORDED input s (v.bump CaptureInput.CAPTURES_UNRECORDED input) ∧
      (v.bump CaptureInput.CAPTURES_UNRECORDED input).hist = s.hist := by
  obtain ⟨shown, sorted, held, rest⟩ := h
  exact ⟨shown.kept ((RegsKept.refl edgeRegs input _).wr_apart _ _ _ _ (by decide)), held,
    .of_bump sorted (rest.rd _ input 0) rfl, rest.eq_hist⟩

theorem State.edgeCaptured_true (s : State) (input edge m : Nat) :
    s.edgeCaptured input edge m true =
      (s.edgeTaken input edge ⟨some s.now, s.second, s.recordsOf input + 1⟩).record 0x0F08 1 ([input, edge] ++ toLE 4 m) := by
  rw [State.edgeCaptured, if_pos rfl, if_pos rfl]

theorem State.edgeCaptured_false (s : State) (input edge m : Nat) :
    s.edgeCaptured input edge m false =
      (s.edgeTaken input edge ⟨some s.now, s.second, s.recordsOf input⟩).bump CaptureInput.CAPTURES_UNRECORDED input := by
  rw [State.edgeCaptured, if_neg Bool.false_ne_true, if_neg Bool.false_ne_true]

theorem State.edgeCaptured_shown (hs : s.objs.sorted = true) (he : edge ≤ 2) (hc : input < s.caps.length) (m : Nat) (room : Bool) :
    EdgeShown input edge s (s.edgeCaptured input edge m room) := by
  cases room
  · rw [State.edgeCaptured_false]
    exact (State.edgeTaken_spec hs he hc _).unrecorded.1
  · rw [State.edgeCaptured_true]
    exact ((State.edgeTaken_spec hs he hc _).recorded _).1

/-! ### The line's level before an edge is judged -/

/-- The state has taken nothing but the instant of an edge and the level it leaves the line at. -/
structure LevelSeen (t input edge : Nat) (s v : State) : Prop where
  sorted : v.objs.sorted = true
  now : v.now = max s.now t
  base : v.base = (s.at t).base
  caps : v.caps = s.caps
  hist : v.hist = s.hist
  level : v.rdB CaptureInput.LEVEL input = (edge == 1)
  rd : ∀ f : Fld, apart CaptureInput.LEVEL 0 f 0 = true → v.rd f input = s.rd f input

theorem State.levelShown_seen (hs : s.objs.sorted = true) (t input edge : Nat) :
    LevelSeen t input edge s ((s.at t).levelShown input edge) where
  sorted := State.wr_sorted (s := s.at t) hs ..
  now := State.wrB_now ..
  base := State.base_of (State.wrB_now ..) (State.wrB_clk ..)
  caps := State.wrB_caps ..
  hist := State.wrB_hist ..
  level := State.rdB_wrB (s := s.at t) hs _ _ _ _ (by decide)
  rd f h := (s.at t).levelShown_rd input edge f h

section LevelSeen
variable {v : State} (h : LevelSeen t input edge s v)
include h

theorem LevelSeen.capIn : v.capIn input = s.capIn input := congrArg (nth CapIn.init · input) h.caps

theorem LevelSeen.reg (f : Fld) (ha : apart CaptureInput.LEVEL 0 f 0 = true := by decide) : v.rd f input = s.rd f input :=
  h.rd f ha

theorem LevelSeen.tooSoon {l : Nat} (hl : (s.capIn input).last = some l) (soon : max s.now t < l + 100) :
    v.tooSoon input = true := by
  rw [State.tooSoon, h.capIn, hl, h.now]
  exact decide_eq_true soon

theorem LevelSeen.not_tooSoon (late : ∀ l, (s.capIn input).last = some l → l + 100 ≤ max s.now t) :
    v.tooSoon input = false := by
  rw [State.tooSoon, h.capIn, h.now]
  cases e : (s.capIn input).last with
  | none => rfl
  | some l => exact decide_eq_false (not_lt.2 (late l e))

theorem LevelSeen.second : v.second = (s.at t).base / 1000000000 := by rw [State.second, h.base]

theorem LevelSeen.recordsOf {sec cnt : Nat} (hsec : sec = (s.at t).base / 1000000000)
    (hcnt : cnt = if sec = (s.capIn input).secIdx then (s.capIn input).secCnt else 0) : v.recordsOf input = cnt := by
  rw [State.recordsOf, h.second, h.capIn, hcnt, hsec]

/-- What a captured edge shows over the state with the level, it shows over the state before. -/
theorem LevelSeen.shown {u : State} (k : EdgeShown input edge v u) :
    Counts CaptureInput.CAPTURES input s u ∧ u.rd CaptureInput.LAST_EDGE input = edge ∧
      u.rdB CaptureInput.LEVEL input = (edge == 1) ∧
      u.rd CaptureInput.LAST_CAPTURE_TIME input = timeVal (s.at t).base % 2 ^ 80 ∧
      u.rd CaptureInput.EDGES_MISSED input = s.rd CaptureInput.EDGES_MISSED input := by
  obtain ⟨level, counted, last, time, missed⟩ := k
  refine ⟨?_, last, ?_, ?_, missed.trans (h.reg _)⟩
  · rw [Counts, counted, h.reg CaptureInput.CAPTURES]
  · rw [State.rdB, level, ← State.rdB, h.level]
  · rw [time, h.base]

end LevelSeen

/-! ### The outcomes of an edge that is asked for -/

theorem EdgeAsked.le_two (h : EdgeAsked t input edge m s) : edge ≤ 2 := by
  have := h.rises_or_falls
  omega

theorem cap_lt_of_inv (hi : s.inv = true) (h : input ≤ 1) : input < s.caps.length := by
  obtain ⟨-, -, -, sized, -⟩ := (State.inv_iff s).1 hi
  simp only [State.sized, Bool.and_eq_true, beq_iff_eq] at sized
  omega

/-- Within 100 ns of the last captured edge, an edge is missed. -/
theorem capture_missed (hi : s.inv = true) (h : EdgeAsked t input edge m s) {l : Nat} (hl : (s.capIn input).last = some l)
    (soon : max s.now t < l + 100) :
    ∃ u, exec (.capture t input edge) s = .next u ∧ Counts CaptureInput.EDGES_MISSED input s u ∧
      u.rd CaptureInput.CAPTURES input = s.rd CaptureInput.CAPTURES input ∧
      u.rd CaptureInput.LAST_EDGE input = s.rd CaptureInput.LAST_EDGE input ∧
      u.rd CaptureInput.LAST_CAPTURE_TIME input = s.rd CaptureInput.LAST_CAPTURE_TIME input ∧
      u.capIn input = s.capIn input ∧ u.hist = s.hist := by
  have seen := State.levelShown_seen (sorted_of_inv hi) t input edge
  have run := execCapture_asked h
  generalize (s.at t).levelShown input edge = v at *
  dsimp only at run
  rw [if_pos (seen.tooSoon hl soon)] at run
  have past (f : Fld) (ha : apart CaptureInput.EDGES_MISSED 0 f 0 = true) :
      (v.bump CaptureInput.EDGES_MISSED input).rd f input = v.rd f input := State.rd_wr_apart _ _ _ _ _ _ _ _ ha
  exact ⟨_, run, .of_bump seen.sorted (seen.reg _) rfl, (past _ (by decide)).trans (seen.reg _),
    (past _ (by decide)).trans (seen.reg _), (past _ (by decide)).trans (seen.reg _), seen.capIn, seen.hist⟩

/-- Later than that, it is captured, with room for its record or without. -/
theorem capture_taken (hi : s.inv = true) (h : EdgeAsked t input edge m s)
    (late : ∀ l, (s.capIn input).last = some l → l + 100 ≤ max s.now t) :
    ∃ v, LevelSeen t input edge s v ∧
      exec (.capture t input edge) s = .next (v.edgeCaptured input edge m (v.hasRoom input)) := by
  have seen := State.levelShown_seen (sorted_of_inv hi) t input edge
  refine ⟨_, seen, (execCapture_asked h).trans ?_⟩
  dsimp only
  rw [seen.not_tooSoon late, if_neg Bool.false_ne_true]

/-- Settles O47: the edge is judged once LEVEL is shown; what is missed counts as such, and what is captured shows it, and is the
newest event or counts as unrecorded. -/
theorem capturesAreLimited : Obligations.CapturesAreLimited := by
  intro t input edge m s hi running input_le edges window asked
  have h : EdgeAsked t input edge m s := ⟨running, input_le, edges, window, asked⟩
  refine ⟨fun ⟨l, hl, soon⟩ => capture_missed hi h hl soon, fun late sec cnt hsec hcnt => ?_⟩
  obtain ⟨v, seen, run⟩ := capture_taken hi h late
  have capped : input < v.caps.length := seen.caps ▸ cap_lt_of_inv hi input_le
  have records := seen.recordsOf hsec hcnt
  have second : v.second = sec := seen.second.trans hsec.symm
  by_cases room : cnt < s.rd CaptureInput.RECORD_LIMIT input
  · have hasRoom : v.hasRoom input = true :=
      decide_eq_true (by rw [records, seen.reg CaptureInput.RECORD_LIMIT]; exact room)
    rw [hasRoom, State.edgeCaptured_true, seen.now, second, records] at run
    obtain ⟨shown, held, kept, event⟩ :=
      (State.edgeTaken_spec seen.sorted h.le_two capped ⟨some (max s.now t), sec, cnt + 1⟩).recorded ([input, edge] ++ toLE 4 m)
    obtain ⟨counted, last, -, time, missed⟩ := seen.shown shown
    refine ⟨_, run, time, last, counted, missed, fun _ => ⟨held, kept.trans (seen.reg _), fun on => ?_⟩, fun full => ?_⟩
    · rw [← seen.base]
      exact event (seen.hist.symm ▸ on)
    · exact absurd room (not_lt.2 full)
  · have hasRoom : v.hasRoom input = false :=
      decide_eq_false (by rw [records, seen.reg CaptureInput.RECORD_LIMIT]; exact room)
    rw [hasRoom, State.edgeCaptured_false, seen.now, second, records] at run
    obtain ⟨shown, held, uncounted, hist⟩ :=
      (State.edgeTaken_spec seen.sorted h.le_two capped ⟨some (max s.now t), sec, cnt⟩).unrecorded
    obtain ⟨counted, last, -, time, missed⟩ := seen.shown shown
    refine ⟨_, run, time, last, counted, missed, fun r => absurd r room, fun _ => ⟨held, ?_, hist.trans seen.hist⟩⟩
    rw [Counts, uncounted, seen.reg CaptureInput.CAPTURES_UNRECORDED]

end Sys2Proof.Machine
end

section
/-! PROOFS. Occurrences of output schedules and the ends of their pulses (R471, R472), the windows of capture inputs (R475), and
the settling of PacerAndCaptureInputs (O37). -/

namespace Sys2Proof.Machine

open Sys2Proof.Obj

variable {s u : State} {t out input a : Nat}

/-! ### The hidden state of an output -/

theorem pout_lt_of_inv (hi : s.inv = true) (h : out ≤ 3) : out < s.pouts.length := by
  obtain ⟨-, -, -, sized, -⟩ := (State.inv_iff s).1 hi
  simp only [State.sized, Bool.and_eq_true, beq_iff_eq] at sized
  omega

theorem State.modPout_length (s : State) (k : Nat) (f : POut → POut) : (s.modPout k f).pouts.length = s.pouts.length :=
  setNth_length ..

theorem State.modPout_pout (h : out < s.pouts.length) (f : POut → POut) : (s.modPout out f).pout out = f (s.pout out) :=
  nth_setNth h

/-- A line takes its level, and what else is remembered of its output stays. -/
theorem State.lineLevel_pout (h : out < s.pouts.length) (level : Nat) :
    (s.lineLevel out level).pout out = { s.pout out with active := level } := by
  unfold State.lineLevel
  extract_lets p
  split
  · next same => exact congrArg (fun l => POut.mk p.next p.last p.gone p.pulseEnd l) same
  · exact nth_setNth h

theorem State.lineLevel_length (s : State) (k level : Nat) : (s.lineLevel k level).pouts.length = s.pouts.length := by
  unfold State.lineLevel
  extract_lets p
  split
  · rfl
  · exact setNth_length ..

/-! ### An occurrence (R471 to R473) -/

/-- The occurrence of an instant counts. -/
def State.occurrenceNoted (s : State) (k at_ : Nat) : State :=
  ((s.modPout k fun x => { x with last := some at_ }).bump PacerOutput.FIRED k).wr PacerOutput.LAST_FIRE_TIME k (timeVal at_)

/-- The output's own pulse begins. -/
def State.pulseBegun (s : State) (k : Nat) : State :=
  (s.modPout k fun x => { x with pulseEnd := some (s.now + s.rd PacerOutput.PULSE_WIDTH k) }).lineLevel k
    (1 - s.rd PacerOutput.POLARITY k)

/-- The output has a pulse of its own. -/
def State.pulses (s : State) (k : Nat) : Bool := s.rdB PacerOutput.PULSE_EN k && !s.rdB PacerOutput.LINE_CLAIMED k

/-- The injection of an occurrence is requested, where it has one. -/
def State.injectionAsked (s : State) (k : Nat) : State :=
  if !s.rdB PacerOutput.INJECT_EN k then s
  else
    let (s, ok) := s.injRequest (s.rd PacerOutput.INJECT_STRING k) 2 k (s.rd PacerOutput.INJECT_INPUT k)
      (s.rd PacerOutput.INJECT_COUNT k)
    if ok then s else (s.bump PacerOutput.INJECT_REFUSED k).wrB PacerOutput.INJECT_REFUSED_SEEN k true

theorem State.pacerFire_eq (s : State) (k at_ : Nat) :
    s.pacerFire k at_ =
      let v := s.occurrenceNoted k at_
      (if v.pulses k then v.pulseBegun k else v).injectionAsked k := by
  unfold State.pacerFire State.occurrenceNoted State.pulses State.pulseBegun State.injectionAsked
  rfl

/-- The registers that count an occurrence. -/
def firedRegs : List Fld := [PacerOutput.FIRED, PacerOutput.LAST_FIRE_TIME]

/-- All that a frame can name but the outputs and what shows their occurrences. -/
def besideFiring : Nat := besideRegs (PacerOutput.LINE_CLAIMED :: firedRegs) - 2 ^ 23

/-- A request for an injection touches neither the schedules nor their occurrences. -/
theorem State.injectionAsked_frame (s : State) (k : Nat) :
    Frame besideFiring s (s.injectionAsked k) := by
  unfold State.injectionAsked
  refine .ite (.refl s) ?_
  have asked := State.injRequest_frame (M := besideFiring) (.refl s) (s.rd PacerOutput.INJECT_STRING k) 2 k
    (s.rd PacerOutput.INJECT_INPUT k) (s.rd PacerOutput.INJECT_COUNT k)
  split
  next v ok e =>
    have answered := Frame.fst e asked
    exact .ite answered (State.wrB_frame (State.bump_frame answered ..) ..)

/-- The registers of an output that its schedule is set by, and LINE_CLAIMED. -/
def scheduleRegs : List Fld :=
  [PacerOutput.MODE, PacerOutput.PERIOD_S, PacerOutput.PERIOD_NS, PacerOutput.PULSE_EN, PacerOutput.PULSE_WIDTH,
    PacerOutput.LINE_CLAIMED]

/-- An occurrence of an instant has been fired: what the registers show, what is left of the schedule, and the pulse. -/
structure Fired (out a : Nat) (s u : State) : Prop where
  counted : Counts PacerOutput.FIRED out s u
  time : u.rd PacerOutput.LAST_FIRE_TIME out = timeVal a % 2 ^ 80
  present : out < u.pouts.length
  schedule : RegsKept scheduleRegs out s u
  pulse : s.pulses out = true → (u.pout out).pulseEnd = some (s.now + s.rd PacerOutput.PULSE_WIDTH out)

theorem State.occurrenceNoted_length (s : State) (k at_ : Nat) : (s.occurrenceNoted k at_).pouts.length = s.pouts.length :=
  setNth_length ..

theorem State.occurrenceNoted_schedule (s : State) (k at_ : Nat) : RegsKept scheduleRegs k s (s.occurrenceNoted k at_) :=
  RegsKept.wr_apart (RegsKept.wr_apart (s := s.modPout k _) (fun _ _ => rfl) _ _ _ _ (by decide)) _ _ _ _ (by decide)

theorem State.occurrenceNoted_counts (hs : s.objs.sorted = true) (k at_ : Nat) :
    Counts PacerOutput.FIRED k s (s.occurrenceNoted k at_) := by
  have sorted : (s.modPout k fun x => { x with last := some at_ }).objs.sorted = true := hs
  exact .of_bump sorted rfl (State.rd_wr_apart _ _ _ _ _ _ _ _ (by decide))

theorem State.occurrenceNoted_time (hs : s.objs.sorted = true) (k at_ : Nat) :
    (s.occurrenceNoted k at_).rd PacerOutput.LAST_FIRE_TIME k = timeVal at_ % 2 ^ 80 := by
  have sorted : (s.modPout k fun x => { x with last := some at_ }).objs.sorted = true := hs
  exact State.rd_wr (State.wr_sorted sorted ..) ..

theorem State.pulses_kept (h : RegsKept scheduleRegs out s u) : u.pulses out = s.pulses out := by
  simp only [RegsKept, scheduleRegs, List.forall_mem_cons] at h
  obtain ⟨-, -, -, enabled, -, claimed, -⟩ := h
  rw [State.pulses, State.pulses, State.rdB, State.rdB, State.rdB, State.rdB, enabled, claimed]

theorem State.outMode_kept (h : RegsKept scheduleRegs out s u) : u.outMode out = s.outMode out :=
  h _ (by simp [scheduleRegs])

theorem State.outPeriod_kept (h : RegsKept scheduleRegs out s u) : u.outPeriod out = s.outPeriod out := by
  simp only [RegsKept, scheduleRegs, List.forall_mem_cons] at h
  obtain ⟨-, seconds, nanos, -⟩ := h
  rw [State.outPeriod, State.outPeriod, seconds, nanos]

/-- The pulse of an output ends PULSE_WIDTH after it has begun. -/
theorem State.pulseBegun_pulseEnd (h : out < s.pouts.length) :
    ((s.pulseBegun out).pout out).pulseEnd = some (s.now + s.rd PacerOutput.PULSE_WIDTH out) := by
  rw [State.pulseBegun, State.lineLevel_pout (by rw [State.modPout_length]; exact h), State.modPout_pout h]

theorem State.pulseBegun_length (s : State) (k : Nat) : (s.pulseBegun k).pouts.length = s.pouts.length := by
  rw [State.pulseBegun, State.lineLevel_length, State.modPout_length]

/-- A pulse that begins leaves every register. -/
theorem State.pulseBegun_rd (s : State) (k : Nat) (f : Fld) (i : Nat) : (s.pulseBegun k).rd f i = s.rd f i := by
  have h : (s.pulseBegun k).objs = s.objs := by
    unfold State.pulseBegun State.lineLevel
    extract_lets p
    split
    · rfl
    · rfl
  rw [State.rd, State.rd, h]

theorem schedule_missed : ∀ f ∈ scheduleRegs, misses besideFiring f 0 = true := by decide +kernel

/-- The pulse of an occurrence that counts begins where the output has one, and its injection leaves it. -/
theorem Fired.of_noted {v : State} (counted : Counts PacerOutput.FIRED out s v)
    (time : v.rd PacerOutput.LAST_FIRE_TIME out = timeVal a % 2 ^ 80) (present : out < v.pouts.length)
    (schedule : RegsKept scheduleRegs out s v) (now : v.now = s.now) :
    Fired out a s ((if v.pulses out then v.pulseBegun out else v).injectionAsked out) := by
  have begun (f : Fld) : (if v.pulses out then v.pulseBegun out else v).rd f out = v.rd f out := by
    split
    · exact v.pulseBegun_rd out f out
    · rfl
  have length : (if v.pulses out then v.pulseBegun out else v).pouts.length = v.pouts.length := by
    split
    · exact v.pulseBegun_length out
    · rfl
  have pulse (h : s.pulses out = true) : ((if v.pulses out then v.pulseBegun out else v).pout out).pulseEnd =
      some (s.now + s.rd PacerOutput.PULSE_WIDTH out) := by
    rw [if_pos ((State.pulses_kept schedule).trans h), State.pulseBegun_pulseEnd present, now,
      schedule PacerOutput.PULSE_WIDTH (by simp [scheduleRegs])]
  generalize (if v.pulses out then v.pulseBegun out else v) = w at *
  have asked := w.injectionAsked_frame out
  exact {
    counted := ((asked.rd _ out 0).trans (begun _)).trans counted
    time := ((asked.rd _ out 0).trans (begun _)).trans time
    present := by rw [asked.eq_pouts, length]; exact present
    schedule := fun f hf => ((asked.rd f out 0 (schedule_missed f hf)).trans (begun f)).trans (schedule f hf)
    pulse := fun h => by rw [State.pout, asked.eq_pouts]; exact pulse h }

theorem State.pacerFire_fired (hs : s.objs.sorted = true) (ho : out < s.pouts.length) (a : Nat) :
    Fired out a s (s.pacerFire out a) := by
  rw [State.pacerFire_eq]
  exact .of_noted (State.occurrenceNoted_counts hs out a) (State.occurrenceNoted_time hs out a)
    (lt_of_lt_of_eq ho (s.occurrenceNoted_length out a).symm) (s.occurrenceNoted_schedule out a)
    (by simp [State.occurrenceNoted, State.modPout])

/-- After the occurrence of an instant, a repeating schedule has its next one a period later, another none (R471). -/
def State.nextSet (s : State) (k a : Nat) : State :=
  s.modPout k fun x => { x with next := if s.outMode k = 2 then some (a + max 1 (s.outPeriod k)) else none }

theorem execPacerOccurrence_due (ho : out ≤ 3) (up : s.pacerUp = true) (next : (s.pout out).next = some a)
    (due : a ≤ (s.at t).base) :
    execPacerOccurrence t out s = .next ((((s.at t).pacerFire out a).nextSet out a).pacerRegs out) := by
  have guard : (!(s.at t).pacerUp || decide ((s.at t).base < a) || decide (3 < out)) = false := by
    rw [show (s.at t).pacerUp = true from up, decide_eq_false (not_lt.2 due), decide_eq_false (not_lt.2 ho)]
    rfl
  unfold execPacerOccurrence
  extract_lets v
  rw [show (v.pout out).next = some a from next]
  dsimp only
  rw [show (!v.pacerUp || decide (v.base < a) || decide (3 < out)) = false from guard]
  exact congrArg Host.Outcome.next (if_neg Bool.false_ne_true)

theorem State.nextSet_pout (h : out < s.pouts.length) (a : Nat) :
    (s.nextSet out a).pout out =
      { s.pout out with next := if s.outMode out = 2 then some (a + max 1 (s.outPeriod out)) else none } :=
  State.modPout_pout h _

theorem State.nextSet_frame (s : State) (k a : Nat) : Frame (2 ^ 23) s (s.nextSet k a) := State.modPout_frame (.refl s) ..

/-- What follows the firing leaves what it shows and its pulse, and sets the schedule's next occurrence. -/
theorem Fired.scheduled {v : State} (h : Fired out a s v) :
    let u := (v.nextSet out a).pacerRegs out
    Counts PacerOutput.FIRED out s u ∧ u.rd PacerOutput.LAST_FIRE_TIME out = timeVal a % 2 ^ 80 ∧
      (u.pout out).next = (if s.outMode out = 2 then some (a + max 1 (s.outPeriod out)) else none) ∧
      (s.pulses out = true → (u.pout out).pulseEnd = some (s.now + s.rd PacerOutput.PULSE_WIDTH out)) := by
  obtain ⟨counted, time, present, schedule, pulse⟩ := h
  intro u
  have shown : Frame besideFiring (v.nextSet out a) u := State.pacerRegs_frame (.refl _) out
  have held : u.pout out = (v.nextSet out a).pout out := congrArg (nth POut.init · out) shown.eq_pouts
  rw [State.nextSet_pout present, State.outMode_kept schedule, State.outPeriod_kept schedule] at held
  have kept := v.nextSet_frame out a
  refine ⟨((shown.rd _ out 0).trans (kept.rd _ out 0)).trans counted, ((shown.rd _ out 0).trans (kept.rd _ out 0)).trans time,
    by rw [held], fun on => ?_⟩
  rw [held]
  exact pulse on

/-- An occurrence that is due is fired, and the schedule goes on (R471, R472). -/
theorem occurrenceFired (hi : s.inv = true) (ho : out ≤ 3) (up : s.pacerUp = true) (next : (s.pout out).next = some a)
    (due : a ≤ (s.at t).base) :
    ∃ u, exec (.pacerOccurrence t out) s = .next u ∧ Counts PacerOutput.FIRED out s u ∧
      u.rd PacerOutput.LAST_FIRE_TIME out = timeVal a % 2 ^ 80 ∧
      (u.pout out).next = (if s.outMode out = 2 then some (a + max 1 (s.outPeriod out)) else none) ∧
      (s.pulses out = true → (u.pout out).pulseEnd = some (max s.now t + s.rd PacerOutput.PULSE_WIDTH out)) :=
  ⟨_, execPacerOccurrence_due ho up next due,
    (State.pacerFire_fired (s := s.at t) (sorted_of_inv hi) (pout_lt_of_inv hi ho) a).scheduled⟩

/-! ### The end of a pulse (R471) -/

theorem execPulseEnd_due {e : Nat} (he : (s.pout out).pulseEnd = some e) (due : e ≤ t) :
    execPulseEnd t out s =
      .next (((s.at t).modPout out fun x => { x with pulseEnd := none }).lineLevel out ((s.at t).restLevel out)) := by
  unfold execPulseEnd
  extract_lets v
  rw [show (v.pout out).pulseEnd = some e from he]
  exact congrArg Host.Outcome.next (if_neg (not_lt.2 (due.trans (le_max_right ..))))

/-- The line of a pulse that has ended rests. -/
theorem pulseEnded {e : Nat} (hi : s.inv = true) (ho : out ≤ 3) (he : (s.pout out).pulseEnd = some e) (due : e ≤ t) :
    ∃ u, exec (.pulseEnd t out) s = .next u ∧ (u.pout out).pulseEnd = none ∧ (u.pout out).active = s.restLevel out := by
  have present : out < (s.at t).pouts.length := pout_lt_of_inv hi ho
  have held := State.lineLevel_pout (lt_of_lt_of_eq present ((s.at t).modPout_length out fun x => { x with pulseEnd := none }).symm)
    ((s.at t).restLevel out)
  rw [State.modPout_pout present] at held
  exact ⟨_, execPulseEnd_due he due, by rw [held], by rw [held]; rfl⟩

/-! ### Windows (R475) -/

/-- WINDOW_STATE follows the window. -/
theorem State.winState_shows (hs : s.objs.sorted = true) (k : Nat) :
    (s.rd CaptureInput.CAPTURE_MODE k = 0 → (s.winState k).rd CaptureInput.WINDOW_STATE k = 0) ∧
      (s.rd CaptureInput.CAPTURE_MODE k = 2 → s.rd CaptureInput.WINDOW_STATE k ≠ 4 →
        (s.winState k).rd CaptureInput.WINDOW_STATE k =
          if s.base < s.winStart k then 1 else if s.base < s.winEnd k then 2 else 3) ∧
      (s.rd CaptureInput.CAPTURE_MODE k ≠ 0 → s.rd CaptureInput.CAPTURE_MODE k ≠ 2 →
        (s.winState k).rd CaptureInput.WINDOW_STATE k = if (s.winOpen k s.base).isSome then 2 else 1) := by
  unfold State.winState
  extract_lets now code
  have small : code < 2 ^ 8 := by
    unfold code
    split
    · decide
    · split_ifs <;> decide
    · split_ifs <;> decide
  rw [State.rd_wr hs, show CaptureInput.WINDOW_STATE.width = 8 from rfl, Nat.mod_eq_of_lt small]
  unfold code
  refine ⟨fun mode => ?_, fun mode unmissed => ?_, fun m0 m2 => ?_⟩
  · rw [mode]
    rfl
  · rw [mode]
    exact if_neg unmissed
  · split
    · contradiction
    · contradiction
    · rfl

theorem execCaptureWindow_running (hr : s.running = true) (hn : input ≤ 1) (t : Nat) :
    execCaptureWindow t input s = .next ((s.at t).winState input) := by
  have guard : (!(s.at t).running || decide (1 < input)) = false := by
    rw [show (s.at t).running = true from hr, decide_eq_false (not_lt.2 hn)]
    rfl
  exact congrArg Host.Outcome.next (if_neg (ne_true_of_eq_false guard))

/-! ### The settling -/

/-- Settles O37, clause by clause: the occurrence and what follows it, the line at rest, the window at this instant, and the edge
that is captured. -/
theorem pacerAndCaptureInputs : Obligations.PacerAndCaptureInputs := by
  refine ⟨fun t out a s hi ho up next due => ?_, fun t out e s hi ho he due => pulseEnded hi ho he due,
    fun t input s hi hr hn => ⟨_, execCaptureWindow_running hr hn t, State.winState_shows (s := s.at t) (sorted_of_inv hi) input⟩,
    fun t input edge m s hi hr hn edges window asked late => ?_⟩
  · obtain ⟨u, run, counted, time, following, pulse⟩ := occurrenceFired hi ho up next due
    refine ⟨u, run, counted, time, following, fun enabled free => pulse ?_⟩
    rw [State.pulses, enabled, free]
    rfl
  · have h : EdgeAsked t input edge m s := ⟨hr, hn, edges, window, asked⟩
    obtain ⟨v, seen, run⟩ := capture_taken hi h late
    obtain ⟨counted, last, level, time, -⟩ :=
      seen.shown (State.edgeCaptured_shown seen.sorted h.le_two (seen.caps ▸ cap_lt_of_inv hi hn) m (v.hasRoom input))
    exact ⟨_, run, counted, last, level.trans (beq_eq_decide edge 1), time⟩

end Sys2Proof.Machine
end

section
/-! PROOFS. The masters that a time domain has heard (R458): what keeps them, and the
Announce that puts its sender first among them. -/

namespace Sys2Proof.Machine

open Sys2Proof.Obj

variable {a s u : State} {t i j : Nat}

/-! ### What keeps the masters heard -/

/-- Every domain has heard the same masters. -/
def MastersKept (s u : State) : Prop := u.time.doms.map Dom.masters = s.time.doms.map Dom.masters

/-- All that a frame can name but the time base. -/
def besideTime : Nat := 2 ^ 1024 - 1 - 2 ^ 22

namespace MastersKept

theorem refl (s : State) : MastersKept s s := rfl

theorem trans (h : MastersKept a s) (k : MastersKept s u) : MastersKept a u := Eq.trans k h

theorem of_doms (h : MastersKept a s) (e : u.time.doms = s.time.doms) : MastersKept a u :=
  h.trans (congrArg (List.map Dom.masters) e)

theorem frame (h : MastersKept a s) (k : Frame besideTime s u) : MastersKept a u := h.of_doms (congrArg TimeSt.doms k.eq_time)

theorem ite {c : Prop} {d : Decidable c} (h : MastersKept a s) (k : MastersKept a u) : MastersKept a (if c then s else u) := by
  split <;> assumption

/-- A step that is made under a condition only. -/
theorem when {c : Prop} {d : Decidable c} (h : MastersKept a s) (k : MastersKept s u) : MastersKept a (if c then u else s) :=
  .ite (h.trans k) h

theorem foldl {α : Type} {l : List α} {f : State → α → State} (h : MastersKept a s) (hf : ∀ v x, MastersKept v (f v x)) :
    MastersKept a (l.foldl f s) := List.foldlRecOn l f h fun v hv x _ => hv.trans (hf v x)

theorem modDom (h : MastersKept a s) (i : Nat) (f : Dom → Dom) (hf : ∀ d, (f d).masters = d.masters := by exact fun _ => rfl) :
    MastersKept a (s.modDom i f) := h.trans (map_setNth _ Dom.init _ _ _ (hf _))

theorem wr (h : MastersKept a s) (f : Fld) (i v x : Nat) : MastersKept a (s.wr f i v x) :=
  h.of_doms (congrArg TimeSt.doms (State.wr_time ..))
theorem wrB (h : MastersKept a s) (f : Fld) (i : Nat) (b : Bool) (x : Nat) : MastersKept a (s.wrB f i b x) :=
  h.of_doms (congrArg TimeSt.doms (State.wrB_time ..))
theorem wrI (h : MastersKept a s) (f : Fld) (i : Nat) (v : Int) (x : Nat) : MastersKept a (s.wrI f i v x) :=
  h.of_doms (congrArg TimeSt.doms (State.wrI_time ..))
theorem bump (h : MastersKept a s) (f : Fld) (i d x : Nat) : MastersKept a (s.bump f i d x) :=
  h.of_doms (congrArg TimeSt.doms (State.bump_time ..))
theorem stamp (h : MastersKept a s) (f : Fld) (i : Nat) : MastersKept a (s.stamp f i) :=
  h.of_doms (congrArg TimeSt.doms (State.stamp_time ..))

theorem record (h : MastersKept a s) (code sev : Nat) (data : Bytes) : MastersKept a (s.record code sev data) :=
  h.frame (State.record_frame (.refl s) ..)

theorem retime (h : MastersKept a s) (r sv left : Int) : MastersKept a (s.retime r sv left) := h.of_doms rfl

theorem moveBase (h : MastersKept a s) (d : Int) (isStep : Bool) : MastersKept a (s.moveBase d isStep) := h.of_doms rfl

theorem movePhases (h : MastersKept a s) (d : Int) : MastersKept a (s.movePhases d) :=
  h.foldl fun v i => .ite (.refl v) (.modDom (.refl v) i _)

theorem timeProps (h : MastersKept a s) : MastersKept a s.timeProps := h.frame (State.timeProps_frame (.refl s))

theorem stepTime (h : MastersKept a s) (i : Nat) (d : Int) (cause : Nat) : MastersKept a (s.stepTime i d cause) := by
  unfold State.stepTime
  extract_lets origin s1 s2 s3 s4
  have h1 : MastersKept a s1 := .movePhases (h.moveBase ..) _
  clear_value s1
  have h4 : MastersKept a s4 := .record (.stamp (.wrI (h1.bump ..) ..) ..) ..
  clear_value s4
  exact h4.frame (State.timeMoved_frame (.refl s4) ..)

theorem firstLock (h : MastersKept a s) (i : Nat) : MastersKept a (s.firstLock i) := by
  unfold State.firstLock
  extract_lets before r d s1 s2 s3 s4 s5
  have h2 : MastersKept a s2 := .movePhases (.moveBase (h.wr ..) ..) _
  clear_value s2
  have h5 : MastersKept a s5 := .stamp (.wrB (.modDom (.retime (h2.modDom ..) ..) ..) ..) ..
  clear_value s5
  exact .timeProps (.frame (h5.record ..) (State.timeMoved_frame (.refl _) ..))

theorem switchTo (h : MastersKept a s) (i : Nat) : MastersKept a (s.switchTo i) := by
  unfold State.switchTo
  extract_lets i' x el delta r rOld dNs ptp both smooth out s1 s2 s3 s4 ph stepped s5 s6 left slews s7
  have h5 : MastersKept a s5 := .modDom (.retime (.modDom (.modDom (h.wr ..) ..) ..) ..) ..
  clear_value s5
  have h6 : MastersKept a s6 := .ite (h5.stepTime ..) (h5.moveBase ..)
  clear_value s6
  exact .timeProps (.record (.bump (.wrB (h6.retime ..) ..) ..) ..)

theorem setDom (h : MastersKept a s) (i new : Nat) : MastersKept a (s.setDom i new) := by
  unfold State.setDom
  extract_lets old b used s1 s2 s3 s4
  have h2 : MastersKept a s2 := .modDom (h.wr ..) ..
  clear_value s2
  exact .ite h (.record (.when (h2.when (.stamp (.refl _) ..)) (.retime (.refl _) ..)) ..)

theorem chooseDomain (h : MastersKept a s) : MastersKept a s.chooseDomain := by
  unfold State.chooseDomain
  exact .ite (.ite (h.firstLock 1) (.ite (h.firstLock 2) h)) (.ite (h.switchTo _) (.ite (h.switchTo 1) h))

theorem timeState (h : MastersKept a s) : MastersKept a s.timeState := by
  unfold State.timeState
  extract_lets old used est new s1 s2
  have h2 : MastersKept a s2 := .when (h.wr ..) (.retime (.refl _) ..)
  clear_value s2
  exact .ite h (.frame (h2.record ..) (State.roleCheck_frame (.refl _)))

theorem compareDoms (h : MastersKept a s) : MastersKept a s.compareDoms := by
  unfold State.compareDoms
  extract_lets diff bad since t1 s1 long set
  have h1 : MastersKept a s1 := h.of_doms rfl
  clear_value s1
  exact .ite (.ite (.record (h1.wrB ..) ..) (.ite (h1.wrB ..) h1)) (h.of_doms rfl)

theorem slewCheck (h : MastersKept a s) : MastersKept a s.slewCheck := h.when (.wrB (.retime (.refl _) ..) ..)

theorem timeCheck (h : MastersKept a s) : MastersKept a s.timeCheck :=
  .frame h.slewCheck.chooseDomain.timeState.compareDoms (State.timeRegs_frame (.refl _))

theorem masterRegs (h : MastersKept a s) (i : Nat) (m : PtpAnnounce) : MastersKept a (s.masterRegs i m) :=
  h.frame (State.masterRegs_frame (.refl s) i m)

theorem selectMaster (h : MastersKept a s) (i : Nat) : MastersKept a (s.selectMaster i) := by
  unfold State.selectMaster
  extract_lets d
  split
  · exact h
  · next q b _ =>
    extract_lets newGm newSrc s1 s2
    have h1 : MastersKept a s1 := (h.modDom ..).masterRegs ..
    clear_value s1
    exact .timeProps (.ite (h1.setDom ..) (.when h1 (.setDom (.record (.bump (.refl _) ..) ..) ..)))

theorem dom (h : MastersKept s u) (i : Nat) : (u.dom i).masters = (s.dom i).masters := by
  have e := nth_map Dom.masters Dom.init
  rw [State.dom, State.dom, ← e, ← e, h]

theorem length (h : MastersKept s u) : u.time.doms.length = s.time.doms.length := by
  rw [← List.length_map, h, List.length_map]

end MastersKept

/-! ### An Announce (R458) -/

/-- An Announce is heard in a domain: its sender is put first, and the best master is selected. -/
def State.announceHeard (m : PtpAnnounce) (s : State) (i : Nat) : State :=
  let is (f : Foreign) : Bool := decide (f.ann.ident = m.ident) && decide (f.ann.pnum = m.pnum)
  let old := ((s.dom i).masters.find? is).map (·.heard)
  let f : Foreign := ⟨m, logNs m.log, (s.now :: old.getD []).take 4⟩
  (s.modDom i fun d => { d with masters := f :: d.masters.filter fun g => !is g }).selectMaster i

/-- The sender of an Announce comes first among the masters of a domain. -/
def HeardFirst (m : PtpAnnounce) (s : State) (i : Nat) : Prop := (s.dom i).masters.head?.map (·.ann) = some m

theorem MastersKept.heardFirst {m : PtpAnnounce} (k : MastersKept s u) (h : HeardFirst m s i) : HeardFirst m u i := by
  rw [HeardFirst, k.dom]
  exact h

theorem State.announceHeard_length (m : PtpAnnounce) (s : State) (i : Nat) :
    (s.announceHeard m i).time.doms.length = s.time.doms.length :=
  (MastersKept.selectMaster (.refl _) i).length.trans (setNth_length ..)

/-- The domain in which it is heard has it first, another one keeps what it has first. -/
theorem State.announceHeard_first (m : PtpAnnounce) (h : i - 1 < s.time.doms.length) : HeardFirst m (s.announceHeard m i) i :=
  (MastersKept.selectMaster (.refl _) i).heardFirst
    ((congrArg (fun d : Dom => d.masters.head?.map Foreign.ann) (nth_setNth h)).trans rfl)

@[inherit_doc State.announceHeard_first] theorem State.announceHeard_others {m : PtpAnnounce} (ne : i - 1 ≠ j - 1)
    (h : HeardFirst m s j) : HeardFirst m (s.announceHeard m i) j :=
  (MastersKept.selectMaster (.refl _) i).heardFirst
    ((congrArg (fun d : Dom => d.masters.head?.map Foreign.ann) (nth_setNth_ne ne)).trans h)

/-- A domain is the first or the second. -/
theorem State.domsOf_index (s : State) (port dom : Nat) : ∀ i ∈ s.domsOf port dom, i - 1 < 2 := by
  intro i hi
  have := (List.mem_filter.1 hi).1
  simp only [List.mem_cons, List.not_mem_nil, or_false] at this
  omega

/-- A domain that an Announce is heard in has its sender first, and one that has it first keeps it. -/
theorem State.announceHeard_made (m : PtpAnnounce) (v : State) (i j : Nat)
    (hj : j - 1 < v.time.doms.length → HeardFirst m v j) (lt : j - 1 < (v.announceHeard m i).time.doms.length) :
    HeardFirst m (v.announceHeard m i) j := by
  rw [v.announceHeard_length] at lt
  by_cases e : i - 1 = j - 1
  · have first := State.announceHeard_first (i := i) m (e ▸ lt)
    rw [HeardFirst, State.dom, e] at first
    exact first
  · exact State.announceHeard_others e (hj lt)

/-- After an Announce its sender is the first of every domain that it concerns. -/
theorem announceHeard_all (h : s.time.doms.length = 2) (m : PtpAnnounce) (port dom : Nat) :
    ∀ i ∈ s.domsOf port dom, HeardFirst m ((s.domsOf port dom).foldl (State.announceHeard m) s) i := by
  have length (l : List Nat) : (l.foldl (State.announceHeard m) s).time.doms.length = 2 :=
    List.foldlRecOn (motive := fun v : State => v.time.doms.length = 2) l _ h fun v hv i _ => (v.announceHeard_length m i).trans hv
  have heard := foldl_made (s := s) (I := fun _ => True) (P := fun v i => i - 1 < v.time.doms.length → HeardFirst m v i)
    (s.domsOf port dom) trivial (fun _ _ _ => trivial)
    (fun v i _ lt => State.announceHeard_first m (lt_of_lt_of_eq lt (v.announceHeard_length m i)))
    (fun v i j _ hj lt => v.announceHeard_made m i j hj lt)
  exact fun i hi => heard i hi (lt_of_lt_of_eq (s.domsOf_index port dom i hi) (length _).symm)

/-- An Announce puts its sender first among the masters heard by every domain it concerns. -/
theorem announceTaken (up : s.ptpUp = true) (h : s.time.doms.length = 2) (t port dom : Nat) (m : PtpAnnounce) :
    ∃ u, exec (.announcePtp t port dom m) s = .next u ∧
      ∀ i ∈ s.domsOf port dom, (u.dom i).masters.head?.map (·.ann) = some m := by
  have guard : (!(s.at t).ptpUp) = false := by
    rw [show (s.at t).ptpUp = true from up]
    rfl
  have run : execAnnouncePtp t port dom m s =
      .next (((s.at t).domsOf port dom).foldl (State.announceHeard m) (s.at t)).timeCheck :=
    congrArg Host.Outcome.next (if_neg (ne_true_of_eq_false guard))
  refine ⟨_, run, fun i hi => ?_⟩
  have heard := announceHeard_all (s := s.at t) h m port dom i hi
  exact (MastersKept.timeCheck (.refl _)).heardFirst heard

end Sys2Proof.Machine
end

section
/-! PROOFS. The rows of the time servo (R458 to R469): what each comes to where it is due, what its registers show, and the
settling of TimeFollowsDomains (O41). -/

namespace Sys2Proof.Machine

open Sys2Proof.Obj

variable {s u : State} {t i port dom : Nat}

/-! ### Peer delay (R459, R460) -/

/-- A Pdelay_Req at a port with a domain is answered, and nothing else changes. -/
theorem pdelayAnswered (up : s.ptpUp = true) (hi : s.portDomain port = some i) (hd : dom ≤ 127) (t seq ident pnum turn : Nat) :
    ∃ u, exec (.pdelayReq t port dom seq ident pnum turn) s = .next u ∧
      u.out = .ptp port (s.ptpTag port i) dom 3 [seq, ident, pnum, turn] :: s.out ∧ Only ⟨false, [], [.out]⟩ s u := by
  have run : execPdelayReq t port dom seq ident pnum turn s =
      .next ((s.at t).send (.ptp port (s.ptpTag port i) dom 3 [seq, ident, pnum, turn])) := by
    unfold execPdelayReq
    extract_lets v
    rw [show v.portDomain port = some i from hi]
    exact congrArg Host.Outcome.next (if_pos ⟨up, hd⟩)
  exact ⟨_, run, rfl, only_of_frame (execPdelayReq_frame ..) run⟩

/-- The link of a port. -/
def State.link (s : State) (port : Nat) : PLink := nth PLink.init s.time.links (port - 1)

/-- A port's link is what it becomes with an exchange. -/
def State.setLink (s : State) (port : Nat) (k : PLink) : State :=
  { s with time := { s.time with links := setNth k s.time.links (port - 1) } }

/-- MEAN_LINK_DELAY of the domains of a port follows its link, once 3 exchanges were valid. -/
def State.linkShown (s : State) (port : Nat) : State :=
  match s.linkDelay port with
  | none => s
  | some d =>
    [1, 2].foldl (fun (s : State) i => if s.rd PtpDomain.PORT i = port then
      s.wr PtpDomain.MEAN_LINK_DELAY i (min 0xFFFFFFFE (toNs d).toNat) else s) s

theorem State.linkShown_frame (s : State) (port : Nat) : Frame (besideTime - 2 ^ 26) s (s.linkShown port) := by
  unfold State.linkShown
  split
  · exact .refl s
  · exact .foldl _ _ (.refl s) fun v i => .ite (State.wr_frame (.refl v) ..) (.refl v)

/-- The sequence number of the next request of a port. -/
def State.nextRequest (s : State) (port : Nat) : Nat := ((s.link port).reqSeq + 1) % 65536

theorem execPdelayExchange_due (up : s.ptpUp = true) (hp : port = 1 ∨ port = 2) (hi : s.portDomain port = some i)
    (due : ∀ a, (s.link port).reqAt = some a → a + secs 1 ≤ t) (resp : Option (Nat × Nat × Int)) :
    ∃ ds, execPdelayExchange t port resp s =
      .next ((((s.at t).send (.ptp port (s.ptpTag port i) (s.rd PtpDomain.DOMAIN_NUMBER i) 2 [(s.nextRequest port : Int)])).setLink
        port ⟨ds, some (max s.now t), s.nextRequest port⟩).linkShown port) := by
  have known : (port == 1 || port == 2) = true := by simpa using hp
  unfold execPdelayExchange
  extract_lets v k isDue
  have dueNow : isDue = true := by
    unfold isDue
    cases e : k.reqAt with
    | none => rfl
    | some a => exact decide_eq_true ((due a e).trans (le_max_right ..))
  have guard : (!v.ptpUp || !isDue || !(port == 1 || port == 2)) = false := by
    rw [show v.ptpUp = true from up, dueNow, known]
    rfl
  clear_value isDue
  rw [show v.portDomain port = some i from hi]
  dsimp only
  exact ⟨_, congrArg Host.Outcome.next ((if_neg (ne_true_of_eq_false guard)).trans rfl)⟩

/-- The first exchange of a port, and one 1 s after the last, sends the next request. -/
theorem pdelayAsked (up : s.ptpUp = true) (hp : port = 1 ∨ port = 2) (hi : s.portDomain port = some i)
    (links : s.time.links.length = 2) (due : ∀ a, (s.link port).reqAt = some a → a + secs 1 ≤ t)
    (resp : Option (Nat × Nat × Int)) :
    ∃ u, exec (.pdelayExchange t port resp) s = .next u ∧
      u.out = .ptp port (s.ptpTag port i) (s.rd PtpDomain.DOMAIN_NUMBER i) 2 [(s.nextRequest port : Int)] :: s.out ∧
      (u.link port).reqAt = some (max s.now t) := by
  obtain ⟨ds, run⟩ := execPdelayExchange_due up hp hi due resp
  have present : port - 1 < s.time.links.length := by omega
  have shown := State.linkShown_frame (((s.at t).send (.ptp port (s.ptpTag port i) (s.rd PtpDomain.DOMAIN_NUMBER i) 2
    [(s.nextRequest port : Int)])).setLink port ⟨ds, some (max s.now t), s.nextRequest port⟩) port
  refine ⟨_, run, shown.eq_out, ?_⟩
  rw [State.link, shown.eq_time]
  exact congrArg PLink.reqAt (nth_setNth present)

/-! ### TIME_STATE (R467) -/

/-- The TIME_STATE of the domain in use and its error. -/
def State.timeStateDue (s : State) : Nat :=
  if s.inUse = 0 then 0 else if s.domState s.inUse = domLocked then 1
    else if s.errorEst ≤ s.rd TimeStatus.HOLDOVER_MAX_ERROR then 2 else 3

theorem State.timeStateDue_lt (s : State) : s.timeStateDue < 2 ^ 8 := by
  unfold State.timeStateDue
  split_ifs <;> decide

/-- TIME_STATE follows the domain in use. -/
theorem State.timeState_shows (hs : s.objs.sorted = true) : s.timeState.rd TimeStatus.TIME_STATE = s.timeStateDue := by
  unfold State.timeState
  extract_lets old used est new s1 s2
  split
  · next same => exact same
  · have timed : Frame (besideRegs [TimeStatus.TIME_STATE]) s1 s2 := .ite (State.retime_frame (.refl s1) ..) (.refl s1)
    have told := State.roleCheck_frame (State.record_frame timed 0x0F05 2 ([old, new] ++ toLE 4 est))
    exact (told.rd _ 0 0).trans ((State.rd_wr hs ..).trans (Nat.mod_eq_of_lt s.timeStateDue_lt))

theorem timeStateShown (hi : s.inv = true) (hr : s.running = true) (t : Nat) :
    ∃ u, exec (.timeState t) s = .next u ∧ u.rd TimeStatus.TIME_STATE = (s.at t).timeStateDue := by
  have run : execTimeState t s = .next (s.at t).timeState.timeRegs := congrArg Host.Outcome.next (if_pos hr)
  have shown := State.timeRegs_frame (M := besideRegs [TimeStatus.TIME_STATE]) (.refl (s.at t).timeState)
  exact ⟨_, run, (shown.rd _ 0 0).trans (State.timeState_shows (s := s.at t) (sorted_of_inv hi))⟩

/-! ### The end of a slew (R466) -/

theorem State.slewCheck_due (h : s.rdB TimeStatus.SLEWING = true) (ended : s.clk.slewEnd ≤ s.now) :
    s.slewCheck = (s.retime s.time.r s.time.s 0).wrB TimeStatus.SLEWING 0 false :=
  if_pos (by rw [h, decide_eq_true ended]; rfl)

/-- Rates that take effect with no remainder leave nothing to slew. -/
theorem State.retime_slewLeft (s : State) (r sv : Int) : (s.retime r sv 0).slewLeft = 0 := if_pos (.inl (le_refl s.now))

theorem State.slewLeft_of (now : u.now = s.now) (clk : u.clk = s.clk) (time : u.time = s.time) : u.slewLeft = s.slewLeft := by
  rw [State.slewLeft, State.slewLeft, now, clk, time]

/-- SLEW_REMAINING reads what is left to slew, to the nanosecond. -/
theorem State.timeRegs_slewRemaining (hi : s.inv = true) :
    s.timeRegs.rd TimeStatus.SLEW_REMAINING = satInt 32 (toNs s.slewLeft) % 2 ^ 32 := by
  unfold State.timeRegs
  extract_lets s1 s2 s3 s4 dev
  have before : Frame (2 ^ 1024 - 1 - 2 ^ 22 - 3) s s3 :=
    State.wrI_frame (State.wr_frame (State.domRegs_frame (State.domRegs_frame (.refl s) 1) 2) ..) ..
  have left : s3.slewLeft = s.slewLeft := State.slewLeft_of before.eq_now before.eq_clk before.eq_time
  have keeps : Keeps s s3 := State.wrI_keeps (State.wr_keeps (State.domRegs_keeps (State.domRegs_keeps (.refl s) 1) 2) ..) ..
  have read : s4.rd TimeStatus.SLEW_REMAINING = satInt 32 (toNs s.slewLeft) % 2 ^ 32 := by
    rw [← left]
    exact State.rd_wr (sorted_of_inv (keeps.inv hi)) ..
  have after : Frame (besideRegs [TimeStatus.SLEW_REMAINING]) s4
      (if (!s4.ptpLocked || (s4.dom 1).last.isNone) = true then
        (s4.wr ModuleHealth.REFCLK_DEV 0 0x8000).wrB ModuleHealth.REFCLK_DRIFT 0 false
      else (s4.wrI ModuleHealth.REFCLK_DEV 0 dev).wrB ModuleHealth.REFCLK_DRIFT 0 (decide (1000 < dev.natAbs))) :=
    .ite (State.wrB_frame (State.wr_frame (.refl s4) ..) ..) (State.wrB_frame (State.wrI_frame (.refl s4) ..) ..)
  exact (after.rd _ 0 0).trans read

/-- A slew that has ended is shown so. -/
theorem slewEnded (hi : s.inv = true) (hr : s.running = true) (h : s.rdB TimeStatus.SLEWING = true) (ended : s.clk.slewEnd ≤ t) :
    ∃ u, exec (.slewComplete t) s = .next u ∧ u.rdB TimeStatus.SLEWING = false ∧ u.rd TimeStatus.SLEW_REMAINING = 0 := by
  have run : execSlewComplete t s = .next (s.at t).slewCheck.timeRegs := congrArg Host.Outcome.next (if_pos hr)
  have ends : (s.at t).slewCheck = _ := State.slewCheck_due (s := s.at t) h (ended.trans (le_max_right ..))
  rw [ends] at run
  have inv : ((s.at t).retime (s.at t).time.r (s.at t).time.s 0).inv = true :=
    (State.retime_keeps (State.at_keeps (.refl s) t) ..).inv hi
  have left := (s.at t).retime_slewLeft (s.at t).time.r (s.at t).time.s
  generalize (s.at t).retime (s.at t).time.r (s.at t).time.s 0 = v at *
  have shown := State.timeRegs_frame (M := besideRegs [TimeStatus.SLEWING]) (.refl (v.wrB TimeStatus.SLEWING 0 false))
  refine ⟨_, run, (shown.rdB _ 0 0).trans (State.rdB_wrB (sorted_of_inv inv) _ _ _ _ (by decide)), ?_⟩
  rw [State.timeRegs_slewRemaining ((State.wrB_keeps (.refl v) ..).inv inv),
    State.slewLeft_of (State.wrB_now ..) (State.wrB_clk ..) (State.wrB_time ..), left]
  rfl

/-! ### The return to the primary (R466) -/

theorem State.slewCheck_doms (s : State) : s.slewCheck.time.doms = s.time.doms := by
  unfold State.slewCheck
  split
  · exact (congrArg TimeSt.doms (State.wrB_time ..)).trans rfl
  · rfl

/-- The primary is returned to: REVERTIVE, and the primary LOCKED for RETURN_QUAL beside the LOCKED secondary in use. -/
structure ReturnDue (s : State) : Prop where
  revertive : s.rdB TimeStatus.REVERTIVE = true
  secondary : s.inUse = 2
  locked1 : s.domState 1 = domLocked
  locked2 : s.domState 2 = domLocked
  qualified : (s.dom 1).lockedAt + secs (s.rd TimeStatus.RETURN_QUAL) ≤ s.now

theorem ReturnDue.slewCheck (h : ReturnDue s) : ReturnDue s.slewCheck := by
  obtain ⟨revertive, secondary, locked1, locked2, qualified⟩ := h
  have kept := State.slewCheck_frame (M := besideRegs [TimeStatus.DOMAIN_IN_USE, PtpDomain.DOMAIN_STATE] - 1) (.refl s)
  refine ⟨(kept.rdB _ 0 0).trans revertive, (kept.rd _ 0 0).trans secondary, (kept.rd _ 1 0).trans locked1,
    (kept.rd _ 2 0).trans locked2, ?_⟩
  rw [kept.eq_now, kept.rd _ 0 0, State.dom, s.slewCheck_doms]
  exact qualified

theorem ReturnDue.chooseDomain (h : ReturnDue s) : s.chooseDomain = s.switchTo 1 := by
  obtain ⟨revertive, secondary, locked1, locked2, qualified⟩ := h
  unfold State.chooseDomain
  simp [revertive, secondary, locked1, locked2, qualified]

/-- A switch puts the domain in use. -/
theorem State.switchTo_inUse (hs : s.objs.sorted = true) (hi : i < 2 ^ 8) : (s.switchTo i).inUse = i := by
  unfold State.switchTo
  extract_lets i' x el delta r rOld dNs ptp both smooth out s1 s2 s3 s4 ph stepped s5 s6 left slews s7 s8
  have h1 : s1.inUse = i := (State.rd_wr hs ..).trans (Nat.mod_eq_of_lt hi)
  clear_value s1
  have h5 : Frame (besideRegs [TimeStatus.DOMAIN_IN_USE]) s1 s5 :=
    State.modDom_frame (State.retime_frame (State.modDom_frame (State.modDom_frame (.refl s1) ..) ..) ..) ..
  clear_value s5
  have h6 : Frame (besideRegs [TimeStatus.DOMAIN_IN_USE]) s1 s6 := .ite (State.stepTime_frame h5 ..) (State.moveBase_frame h5 ..)
  clear_value s6
  have h := State.timeProps_frame (State.record_frame (State.bump_frame (State.wrB_frame
    (State.retime_frame h6 r 0 (if slews then left else 0)) TimeStatus.SLEWING 0 slews 0) TimeStatus.SWITCHES 0 1 0) 0x0F03 2
    ([i', i] ++ toLE 4 (satInt 32 dNs) ++ [b2n stepped]))
  exact (h.rd _ 0 0).trans h1

theorem returned (hi : s.inv = true) (up : s.ptpUp = true) (h : ReturnDue (s.at t)) :
    ∃ u, exec (.returnQual t) s = .next u ∧ u.inUse = 1 := by
  have run : execReturnQual t s = .next (s.at t).timeCheck := congrArg Host.Outcome.next (if_pos up)
  have chosen := h.slewCheck.chooseDomain
  have inUse : ((s.at t).slewCheck.switchTo 1).inUse = 1 :=
    State.switchTo_inUse (sorted_of_inv ((State.slewCheck_keeps (State.at_keeps (.refl s) t)).inv hi)) (by decide)
  rw [← chosen] at inUse
  have after := State.timeRegs_frame (State.compareDoms_frame (State.timeState_frame (M := besideRegs [TimeStatus.DOMAIN_IN_USE])
    (.refl (s.at t).slewCheck.chooseDomain)))
  exact ⟨_, run, (after.rd _ 0 0).trans inUse⟩

/-! ### Disagreement (R469) -/

/-- Domains that have differed by more than DISAGREE_LIMIT for 10 s set DOMAIN_DISAGREE. -/
theorem State.compareDoms_sets {a : Nat} (hs : s.objs.sorted = true) (l1 : s.domState 1 = domLocked) (l2 : s.domState 2 = domLocked)
    (apart : s.rd TimeStatus.DISAGREE_LIMIT < (toNs (s.domOffset 1 - s.domOffset 2)).natAbs) (since : s.time.disFrom = some a)
    (long : a + secs 10 ≤ s.now) : s.compareDoms.rdB TimeStatus.DOMAIN_DISAGREE = true := by
  unfold State.compareDoms
  extract_lets diff bad from_ t1 s1 lasts set
  have isBad : bad = true := decide_eq_true apart
  have dis : s1.time.disFrom = some a := by
    show (if bad then from_ s.time.disFrom else none) = some a
    rw [isBad, since]
    rfl
  have ok : s1.time.okFrom = none := by
    show (if bad then none else from_ s.time.okFrom) = none
    rw [isBad]
    rfl
  have ten : lasts s1.time.disFrom = true := by
    rw [dis]
    exact decide_eq_true long
  have never : lasts s1.time.okFrom = false := by
    rw [ok]
  have sorted : s1.objs.sorted = true := hs
  rw [if_pos ⟨l1, l2⟩, ten, never]
  cases e : set with
  | true => exact e
  | false =>
    have told := State.record_frame (M := besideRegs [TimeStatus.DOMAIN_DISAGREE]) (.refl (s1.wrB TimeStatus.DOMAIN_DISAGREE 0 true))
      0x0F07 3 (toLE 4 (satInt 32 diff))
    exact (told.rdB _ 0 0).trans (State.rdB_wrB sorted _ _ _ _ (by decide))

/-! ### The state of a domain (R464) -/

theorem State.setDom_domState (hs : s.objs.sorted = true) (i : Nat) {new : Nat} (hn : new < 2 ^ 8) :
    (s.setDom i new).domState i = new := by
  unfold State.setDom
  extract_lets old b used s1 s2 s3 s4
  have h1 : s1.domState i = new := (State.rd_wr hs ..).trans (Nat.mod_eq_of_lt hn)
  clear_value s1
  have h2 : Frame (besideRegs [PtpDomain.DOMAIN_STATE]) s1 s2 := State.modDom_frame (.refl s1) ..
  clear_value s2
  have h3 : Frame (besideRegs [PtpDomain.DOMAIN_STATE]) s1 s3 := .ite (State.stamp_frame h2 ..) h2
  clear_value s3
  have h4 : Frame (besideRegs [PtpDomain.DOMAIN_STATE]) s1 s4 := .ite (State.retime_frame h3 ..) h3
  clear_value s4
  split
  · assumption
  · exact ((State.record_frame h4 ..).rd _ i 0).trans h1

/-- A domain has had no sample for three intervals of its Sync. -/
def State.quietSince (s : State) (i l : Nat) : Prop :=
  l + 3 * logNs (if s.rdI PtpDomain.SYNC_LOG_INTERVAL i = 127 then 0 else s.rdI PtpDomain.SYNC_LOG_INTERVAL i) ≤ s.now

/-- A domain leaves for LISTENING, with no master selected. -/
def State.toListening (s : State) (i : Nat) : State := (s.setDom i domListening).modDom i fun x => { x with sel := none }

/-- A LOCKED domain whose master is heard and which is quiet goes to HOLDOVER, and on to LISTENING where its error is too
large. -/
theorem execDomainState_quiet {l : Nat} {f : Foreign} (up : s.ptpUp = true) (hi : i = 1 ∨ i = 2) (locked : s.domState i = domLocked)
    (sel : (s.dom i).sel = some f) (heard : f.timedOut (max s.now t) = false) (last : (s.dom i).last = some l)
    (quiet : (s.at t).quietSince i l) :
    ∃ w, execDomainState t i s = .next w.timeCheck ∧
      (w = (s.at t).setDom i domHoldover ∨ w = ((s.at t).setDom i domHoldover).toListening i) := by
  have known : (i == 1 || i == 2) = true := by simpa using hi
  unfold execDomainState
  extract_lets v q d lost r1 r2 s1 still log isQuiet s2 ovr s3
  have guard : (!v.ptpUp || !(i == 1 || i == 2)) = false := by
    rw [show v.ptpUp = true from up, known]
    rfl
  have isHeard : f.timedOut v.now = false := heard
  have found : lost = false := by
    unfold lost
    rw [show d.sel = some f from sel]
    dsimp only
    rw [isHeard, Bool.and_false, Bool.false_and]
  have same : s1 = v := if_neg (by rw [found]; exact Bool.false_ne_true)
  have isTrue : isQuiet = true := by
    unfold isQuiet log
    rw [show d.last = some l from last, same]
    exact decide_eq_true quiet
  have held : s2 = (s.at t).setDom i domHoldover :=
    (if_pos ⟨by rw [same]; exact locked, by rw [isTrue, Bool.or_true]⟩).trans (congrArg (·.setDom i domHoldover) same)
  refine ⟨s3, congrArg Host.Outcome.next (if_neg (ne_true_of_eq_false guard)), ?_⟩
  unfold s3
  split
  · exact .inr (congrArg (·.toListening i) held)
  · exact .inl held

theorem leftLocked {l : Nat} {f : Foreign} (inv : s.inv = true) (up : s.ptpUp = true) (hi : i = 1 ∨ i = 2)
    (locked : s.domState i = domLocked) (sel : (s.dom i).sel = some f) (heard : f.timedOut (max s.now t) = false)
    (last : (s.dom i).last = some l) (quiet : (s.at t).quietSince i l) :
    ∃ u, exec (.domainState t i) s = .next u ∧ (u.domState i = domHoldover ∨ u.domState i = domListening) := by
  obtain ⟨w, run, state⟩ := execDomainState_quiet up hi locked sel heard last quiet
  have shown : w.timeCheck.domState i = w.domState i :=
    (State.timeCheck_frame (M := besideRegs [PtpDomain.DOMAIN_STATE]) (.refl w)).rd _ i 0
  have holds := State.setDom_domState (s := s.at t) (sorted_of_inv inv) i (new := domHoldover) (by decide)
  have kept := State.setDom_keeps (State.at_keeps (.refl s) t) i domHoldover
  refine ⟨_, run, ?_⟩
  rw [shown]
  obtain rfl | rfl := state
  · exact .inl holds
  · exact .inr (State.setDom_domState (sorted_of_inv (kept.inv inv)) i (by decide))

/-! ### A Sync (R461) -/

theorem ofInt_lt (w : Nat) (z : Int) : ofInt w z < 2 ^ w := by
  have pos : (0 : Int) < ((2 ^ w : Nat) : Int) := by exact_mod_cast Nat.two_pow_pos w
  have := Int.emod_lt_of_pos z pos
  have := Int.emod_nonneg z pos.ne'
  unfold ofInt
  omega

/-- The interval of a Sync is shown, and whether it was two-step. -/
def State.syncShown (s : State) (i : Nat) (two : Bool) (log : Int) : State :=
  (s.wrB PtpDomain.TWO_STEP_MASTER i two).wr PtpDomain.SYNC_LOG_INTERVAL i (ofInt 8 log)

theorem State.syncShown_shows (hs : s.objs.sorted = true) (i : Nat) (two : Bool) (log : Int) :
    (s.syncShown i two log).rdB PtpDomain.TWO_STEP_MASTER i = two ∧
      (s.syncShown i two log).rd PtpDomain.SYNC_LOG_INTERVAL i = ofInt 8 log := by
  have other := State.rd_wr_apart (s.wrB PtpDomain.TWO_STEP_MASTER i two) PtpDomain.SYNC_LOG_INTERVAL PtpDomain.TWO_STEP_MASTER i i
    (ofInt 8 log) 0 0 (by decide)
  exact ⟨(congrArg (· == 1) other).trans (State.rdB_wrB hs _ _ _ _ (by decide)),
    (State.rd_wr (State.wr_sorted hs ..) ..).trans (Nat.mod_eq_of_lt (ofInt_lt 8 log))⟩

/-- A Sync of the selected master that one domain takes. -/
theorem execPtpSync_taken {f : Foreign} {mld log : Int} (up : s.ptpUp = true) (lo : -4 ≤ log) (hi : log ≤ 0)
    (link : s.linkDelay port = some mld) (one : s.domsOf port dom = [i]) (sel : (s.dom i).sel = some f)
    (heard : f.timedOut (max s.now t) = false) (acquired : 2 ≤ s.domState i) (rx t1 : Nat) (corr : Int) (two : Bool) :
    execPtpSync t rx port dom f.ann.ident f.ann.pnum t1 corr two log s =
      .next (((s.at t).syncShown i two log).syncSample i rx t1 corr mld).timeCheck := by
  unfold execPtpSync
  extract_lets v
  have guard : (!v.ptpUp || !(decide (-4 ≤ log) && decide (log ≤ 0))) = false := by
    rw [show v.ptpUp = true from up, decide_eq_true lo, decide_eq_true hi]
    rfl
  have taken : ¬(f.ann.ident ≠ f.ann.ident ∨ f.ann.pnum ≠ f.ann.pnum ∨ f.timedOut v.now = true ∨ v.domState i < 2) := by
    rintro (h | h | h | h)
    · exact h rfl
    · exact h rfl
    · exact Bool.false_ne_true (heard.symm.trans h)
    · exact absurd acquired (not_le.2 h)
  rw [show v.linkDelay port = some mld from link, show v.domsOf port dom = [i] from one]
  refine congrArg Host.Outcome.next ((if_neg (ne_true_of_eq_false guard)).trans (congrArg State.timeCheck ?_))
  rw [List.foldl_cons, List.foldl_nil, show (v.dom i).sel = some f from sel]
  exact if_neg taken

theorem syncTaken {f : Foreign} {mld log : Int} (inv : s.inv = true) (up : s.ptpUp = true) (lo : -4 ≤ log) (hi : log ≤ 0)
    (link : s.linkDelay port = some mld) (one : s.domsOf port dom = [i]) (sel : (s.dom i).sel = some f)
    (heard : f.timedOut (max s.now t) = false) (acquired : 2 ≤ s.domState i) (rx t1 : Nat) (corr : Int) (two : Bool) :
    ∃ u, exec (.ptpSync t rx port dom f.ann.ident f.ann.pnum t1 corr two log) s = .next u ∧
      u.rdB PtpDomain.TWO_STEP_MASTER i = two ∧ u.rd PtpDomain.SYNC_LOG_INTERVAL i = ofInt 8 log := by
  have run := execPtpSync_taken (t := t) up lo hi link one sel heard acquired rx t1 corr two
  obtain ⟨twoStep, interval⟩ := State.syncShown_shows (s := s.at t) (sorted_of_inv inv) i two log
  have after := State.timeCheck_frame (State.syncSample_frame
    (M := besideRegs [PtpDomain.TWO_STEP_MASTER, PtpDomain.SYNC_LOG_INTERVAL]) (.refl ((s.at t).syncShown i two log)) i rx t1 corr mld)
  exact ⟨_, run, (after.rdB _ i 0).trans twoStep, (after.rd _ i 0).trans interval⟩

/-! ### The settling -/

/-- Settles O41, row by row: the Announce, the two of the peer delay, the Sync, the state of a domain, the return, the end of a
slew, TIME_STATE and the disagreement. -/
theorem timeFollowsDomains : Obligations.TimeFollowsDomains := by
  refine ⟨fun t port dom m s _ up two => announceTaken up two t port dom m,
    fun t port dom seq ident pnum turn s _ up i hi hd => pdelayAnswered up hi hd t seq ident pnum turn,
    fun t port i resp s _ up hp hi links due => pdelayAsked up hp hi links due resp, ?_,
    fun t i l f s inv up hi locked sel heard last quiet =>
      leftLocked inv up hi locked sel heard last (quiet.trans (le_max_right ..)),
    fun t s inv up rev second l1 l2 long => returned inv up ⟨rev, second, l1, l2, long.trans (le_max_right ..)⟩,
    fun t s inv run slewing ended => slewEnded inv run slewing ended,
    fun t s inv run => timeStateShown inv run t, ?_⟩
  · rintro t rx port dom _ _ t1 i corr log mld two f s inv up lo hi link one sel rfl rfl heard acquired
    exact syncTaken inv up lo hi link one sel heard acquired rx t1 corr two
  · intro t a s inv up l1 l2 apart since long
    exact ⟨_, congrArg Host.Outcome.next (if_pos up),
      State.compareDoms_sets (s := s.at t) (sorted_of_inv inv) l1 l2 apart since (long.trans (le_max_right ..))⟩

end Sys2Proof.Machine
end

section
/-! PROOFS. A transaction that addresses the service port: when the port is served (R498), what its address byte comes to (R502,
R503), and what follows an acknowledge in each row (R499 to R501, R507). -/

namespace Sys2Proof.Machine

open Sys2Proof.Obj

variable {s v w : State} {t addr : Nat} {c : Instr}

/-! ### The port is served as before (R498) -/

/-- All that noting an address byte may change, as a frame's number: the clock, the port, BUS_STUCK and TRANSACTIONS. -/
def addressMask : Nat :=
  2 ^ 0 + 2 ^ 10 + 2 ^ regTree.find I2cStatus.BUS_STUCK.code + 2 ^ regTree.find I2cStatus.TRANSACTIONS.code

theorem State.bootHalt_kept (h : Frame addressMask s v) : v.bootHalt = s.bootHalt := by
  rw [State.bootHalt, State.bootHalt, State.caldera, State.caldera, h.eq_boot, h.eq_power, h.eq_thermal,
    h.rd BootStatus.START_PHASE 0 0]

theorem State.targetAddr_kept (h : Frame addressMask s v) : v.targetAddr = s.targetAddr := by
  rw [State.targetAddr, State.targetAddr, State.bootHalt_kept h, h.eq_panel, h.rd I2cStatus.TARGET_ADDR 0 0]

/-- A port that is up stays up as time passes. -/
theorem State.portUp_later (h : Frame addressMask s v) (enabled : v.i2c.enableAt = s.i2c.enableAt) (later : s.now ≤ v.now)
    (up : s.portUp = true) : v.portUp = true := by
  have rest : (v.running && !v.caldera && !(v.inHoldup && v.power.shed) && !v.dieHalted 0 && v.rdB I2cConfig.PORT_EN) =
      (s.running && !s.caldera && !(s.inHoldup && s.power.shed) && !s.dieHalted 0 && s.rdB I2cConfig.PORT_EN) := by
    simp only [State.running, State.caldera, State.inHoldup, State.dieHalted, h.eq_boot, h.eq_power, h.eq_thermal, h.eq_sec,
      h.rdB I2cConfig.PORT_EN 0 0]
  rw [State.portUp, Bool.and_eq_true, decide_eq_true_iff] at up ⊢
  exact ⟨rest.trans up.1, enabled ▸ up.2.trans later⟩

theorem State.portServes_later (h : Frame addressMask s v) (enabled : v.i2c.enableAt = s.i2c.enableAt) (later : s.now ≤ v.now)
    (serves : s.portServes = true) : v.portServes = true := by
  rw [State.portServes, Bool.or_eq_true, Bool.and_eq_true] at serves ⊢
  rw [State.bootHalt_kept h, h.rdB I2cStatus.PORT_DISABLED 0 0]
  exact serves.imp_left (And.imp_left (State.portUp_later h enabled later))

/-! ### What an address byte comes to (R502, R503) -/

/-- Traffic that shows both lines high ends a recovery, and leaves the rest of the port. -/
theorem State.linesHigh_i2c (s : State) : ∃ k, s.linesHigh.i2c = { s.i2c with recovering := k } := by
  unfold State.linesHigh
  split
  · exact ⟨0, rfl⟩
  · exact ⟨_, rfl⟩

/-- The instant of a transaction that addresses the module is kept. -/
def State.addressTaken (s : State) : State := { s with i2c := { s.i2c with lastTrans := s.now } }

/-- A refused address byte owes no other refusal, and the port is awake 200 µs after it. -/
def State.wakeBegun (s : State) : State :=
  { s with i2c := { s.i2c with asleep := false, refuseNext := false, awakeAt := s.now + usec 200 } }

/-- A noted address byte of the module is not acknowledged while the port wakes, refused where it sleeps or owes a refusal
and counted there, and acknowledged else. -/
def State.judgeAddress (s : State) (addr : Nat) : State × Bool :=
  if s.now < s.i2c.awakeAt then (s.send (.i2c 3 addr []), false)
  else if s.i2c.asleep || s.i2c.refuseNext then ((s.wakeBegun.bump I2cStatus.WAKE_NACKS).send (.i2c 3 addr []), false)
  else (s.send (.i2c 4 addr []), true)

theorem State.addressed_eq_judged (h : PortAddressed s.linesHigh addr) :
    s.addressed addr = (s.linesHigh.addressTaken.bump I2cStatus.TRANSACTIONS).judgeAddress addr := by
  obtain ⟨serves, own⟩ := h
  have mine : (!s.linesHigh.portServes || decide (addr ≠ s.linesHigh.targetAddr)) = false := by
    rw [serves, decide_eq_false (not_not_intro own)]
    rfl
  exact if_neg (ne_true_of_eq_false mine)

/-- An address byte of the module at an instant has been noted, and is still to be judged. -/
structure AddressNoted (t : Nat) (s v : State) : Prop where
  sorted : v.objs.sorted = true
  frame : Frame addressMask s v
  now : v.now = max s.now t
  port : ∃ k, v.i2c = { s.i2c with lastTrans := max s.now t, recovering := k }

theorem PortAddressed.noted (hi : s.inv = true) (h : PortAddressed s addr) (t : Nat) :
    ∃ v, AddressNoted t s v ∧ (s.at t).addressed addr = v.judgeAddress addr := by
  have free : Frame addressMask s (s.at t).linesHigh := State.linesHigh_frame (State.at_frame (.refl s) t)
  have now : (s.at t).linesHigh.now = max s.now t :=
    (State.linesHigh_frame (M := addressMask - 2 ^ 0) (.refl (s.at t))).eq_now
  have sorted := sorted_of_inv ((State.linesHigh_keeps (State.at_keeps (.refl s) t)).inv hi)
  obtain ⟨k, port⟩ := (s.at t).linesHigh_i2c
  have addressed : PortAddressed (s.at t).linesHigh addr :=
    ⟨State.portServes_later free (by rw [port]; rfl) (now.symm ▸ le_max_left ..) h.1,
      h.2.trans (State.targetAddr_kept free).symm⟩
  refine ⟨_, ?_, State.addressed_eq_judged addressed⟩
  generalize (s.at t).linesHigh = l at *
  exact {
    sorted := State.wr_sorted (s := l.addressTaken) sorted ..
    frame := State.bump_frame (Frame.on_i2c free _) ..
    now := now
    port := ⟨k, by rw [← now]; exact congrArg (fun p : I2cPort => { p with lastTrans := l.now }) port⟩ }

section Judged
variable (h : AddressNoted t s v)
include h

theorem AddressNoted.awakeAt : v.i2c.awakeAt = s.i2c.awakeAt := by
  obtain ⟨k, port⟩ := h.port
  rw [port]

theorem AddressNoted.asleep : v.i2c.asleep = s.i2c.asleep := by
  obtain ⟨k, port⟩ := h.port
  rw [port]

theorem AddressNoted.refuseNext : v.i2c.refuseNext = s.i2c.refuseNext := by
  obtain ⟨k, port⟩ := h.port
  rw [port]

theorem AddressNoted.waking (early : max s.now t < s.i2c.awakeAt) (addr : Nat) :
    v.judgeAddress addr = (v.send (.i2c 3 addr []), false) :=
  if_pos (by rw [h.now, h.awakeAt]; exact early)

theorem AddressNoted.refused (awake : s.i2c.awakeAt ≤ max s.now t) (owed : s.i2c.asleep = true ∨ s.i2c.refuseNext = true)
    (addr : Nat) : v.judgeAddress addr = ((v.wakeBegun.bump I2cStatus.WAKE_NACKS).send (.i2c 3 addr []), false) :=
  (if_neg (by rw [h.now, h.awakeAt]; exact not_lt.2 awake)).trans
    (if_pos (by rw [h.asleep, h.refuseNext, Bool.or_eq_true]; exact owed))

theorem AddressNoted.acknowledged (ready : PortReady s t) (addr : Nat) : v.judgeAddress addr = (v.send (.i2c 4 addr []), true) := by
  obtain ⟨asleep, owed, awake⟩ := ready
  exact (if_neg (by rw [h.now, h.awakeAt]; exact not_lt.2 awake)).trans
    (if_neg (by rw [h.asleep, h.refuseNext, asleep, owed]; exact Bool.false_ne_true))

end Judged

/-! ### What follows the address byte, row by row -/

theorem State.portRegs_i2c (s : State) : s.portRegs.i2c = s.i2c := State.wr_i2c ..

theorem State.portRegs_out (s : State) : s.portRegs.out = s.out := State.wr_out ..

/-- PORT_STATE is all that showing it changes. -/
theorem State.portRegs_rd (s : State) (f : Fld) (ha : apart I2cStatus.PORT_STATE 0 f 0 = true := by decide) :
    s.portRegs.rd f = s.rd f := State.rd_wr_apart _ _ _ _ _ _ _ _ ha

/-- What follows an address byte sends, and leaves WAKE_NACKS. -/
structure Follows (v w : State) : Prop where
  sent : ∃ new, w.out = new ++ v.out
  frame : Frame (besideRegs [I2cStatus.WAKE_NACKS]) v w

theorem Follows.portRegs (h : Follows v w) : Follows v w.portRegs :=
  ⟨by rw [w.portRegs_out]; exact h.sent, State.portRegs_frame h.frame⟩

theorem State.selectWindow_follows (s : State) (addr : Nat) (d : Bytes) : Follows s (s.selectWindow addr d) where
  sent := by
    cases d with
    | nil => exact ⟨[], rfl⟩
    | cons c rest =>
      have first : ∃ new, (if s.windowOk c then (s.wr I2cStatus.WINDOW 0 c).send (.i2c 4 addr [c])
          else s.send (.i2c 3 addr [c])).out = new ++ s.out := by
        split
        · exact ⟨[_], rfl⟩
        · exact ⟨[_], rfl⟩
      cases rest with
      | nil => exact first
      | cons d _ =>
        obtain ⟨new, e⟩ := first
        exact ⟨.i2c 3 addr [d] :: new, congrArg (Out.i2c 3 addr [d] :: ·) e⟩
  frame := State.selectWindow_frame (.refl s) ..

theorem State.sendWindow_follows (s : State) (addr n : Nat) (stop : Bool) : Follows s (s.sendWindow addr n stop) where
  sent := by
    unfold State.sendWindow
    extract_lets w v
    split
    · exact ⟨[_], rfl⟩
    · exact ⟨[_], rfl⟩
  frame := State.sendWindow_frame (.refl s) ..

/-- A transaction: its address byte, what follows an acknowledge, and PORT_STATE. -/
def State.transacted (s : State) (t addr : Nat) (follow : State → State) : State :=
  let p := (s.at t).addressed addr
  (if p.2 then follow p.1 else p.1).portRegs

theorem State.transacted_refused (e : (s.at t).addressed addr = (v, false)) (f : State → State) :
    s.transacted t addr f = v.portRegs := by
  rw [State.transacted, e, if_neg Bool.false_ne_true]

theorem State.transacted_acknowledged (e : (s.at t).addressed addr = (v, true)) (f : State → State) :
    s.transacted t addr f = (f v).portRegs := by
  rw [State.transacted, e, if_pos rfl]

/-- What follows the address byte of a read whose capture is late: its window, or 0xFF where the low pace delays the capture (R501). -/
def State.sendLate (s : State) (addr n : Nat) (stop : Bool) : State :=
  if s.rdB DieStatus.PACE_LOW 0 then (s.bump I2cStatus.STRETCH_LIMITS).send (.i2c 0 addr (List.replicate n 0xFF))
  else s.sendWindow addr n stop

theorem State.sendLate_follows (s : State) (addr n : Nat) (stop : Bool) : Follows s (s.sendLate addr n stop) := by
  unfold State.sendLate
  split
  · exact ⟨⟨[_], rfl⟩, State.send_frame (State.bump_frame (.refl s) ..) ..⟩
  · exact s.sendWindow_follows addr n stop

theorem exec_i2cRead (t addr n : Nat) (stop : Bool) (s : State) :
    exec (.i2cRead t addr n stop) s = .next (s.transacted t addr (·.sendWindow addr n stop)) :=
  Eq.trans rfl rfl

theorem exec_stretchLimits (t addr n : Nat) (stop : Bool) (s : State) :
    exec (.stretchLimits t addr n stop) s = .next (s.transacted t addr (·.sendLate addr n stop)) := by
  show execStretchLimits t addr n stop s = _
  unfold execStretchLimits State.transacted State.sendLate
  rcases (s.at t).addressed addr with ⟨v, acknowledged⟩
  cases acknowledged <;> rfl

theorem exec_abortsRstart (t addr : Nat) (s : State) :
    exec (.abortsRstart t addr) s = .next (s.transacted t addr (·.bump I2cStatus.ABORTS_RSTART)) :=
  Eq.trans rfl rfl

theorem exec_i2cIdleRelease (t addr : Nat) (s : State) :
    exec (.i2cIdleRelease t addr) s = .next (s.transacted t addr (·.send (.i2c 5 addr []))) :=
  Eq.trans rfl rfl

theorem exec_i2cWake (t addr : Nat) (s : State) : exec (.i2cWake t addr) s = .next (s.transacted t addr id) := by
  rw [State.transacted, id, ite_self]
  exact Eq.trans rfl rfl

/-- A transaction of whatever row is its address byte, what it comes to, and what only follows an acknowledge. -/
theorem Transaction.exec_eq (h : Transaction t addr c) :
    ∃ f : State → State, (∀ v, Follows v (f v)) ∧ ∀ s, exec c s = .next (s.transacted t addr f) := by
  rcases h with ⟨d, rfl⟩ | ⟨n, stop, rfl⟩ | ⟨n, stop, rfl⟩ | rfl | rfl | rfl
  · exact ⟨(·.selectWindow addr d), fun v => v.selectWindow_follows addr d, fun _ => rfl⟩
  · exact ⟨_, fun v => v.sendWindow_follows addr n stop, exec_i2cRead t addr n stop⟩
  · exact ⟨_, fun v => v.sendLate_follows addr n stop, exec_stretchLimits t addr n stop⟩
  · exact ⟨(·.bump I2cStatus.ABORTS_RSTART), fun v => ⟨⟨[], rfl⟩, State.bump_frame (.refl v) ..⟩, exec_abortsRstart t addr⟩
  · exact ⟨(·.send (.i2c 5 addr [])), fun v => ⟨⟨[_], rfl⟩, State.send_frame (.refl v) ..⟩, exec_i2cIdleRelease t addr⟩
  · exact ⟨id, fun v => ⟨⟨[], rfl⟩, .refl v⟩, exec_i2cWake t addr⟩

end Sys2Proof.Machine
end

section
/-! PROOFS. The sleep of the service port and the refusals it owes after sleep and presence events (R502, R503), and the settling of
PortSleepsAndWakes (O45). -/

namespace Sys2Proof.Machine

open Sys2Proof.Obj

variable {s : State} {t addr : Nat} {c : Instr}

/-! ### The three outcomes of an address byte -/

section Outcomes
variable (hi : s.inv = true) (h : PortAddressed s addr) (tr : Transaction t addr c)
include hi h tr

/-- Asleep, or after a presence event, the port refuses the transaction, counts it, and is awake 200 µs later. -/
theorem Transaction.refused (owed : s.i2c.asleep = true ∨ s.i2c.refuseNext = true) (awake : s.i2c.awakeAt ≤ max s.now t) :
    ∃ u, exec c s = .next u ∧ u.out = .i2c 3 addr [] :: s.out ∧ Counts I2cStatus.WAKE_NACKS 0 s u ∧
      u.i2c.asleep = false ∧ u.i2c.refuseNext = false ∧ u.i2c.awakeAt = max s.now t + usec 200 := by
  obtain ⟨v, noted, judged⟩ := h.noted hi t
  obtain ⟨f, -, run⟩ := tr.exec_eq
  rw [run, State.transacted_refused (judged.trans (noted.refused awake owed addr))]
  refine ⟨_, rfl, ?_, ?_, ?_⟩
  · rw [State.portRegs_out, ← noted.frame.eq_out]
    rfl
  · exact .of_bump (v := v.wakeBegun) noted.sorted (noted.frame.rd ..) (State.portRegs_rd _ _)
  · rw [State.portRegs_i2c, ← noted.now]
    exact ⟨rfl, rfl, rfl⟩

/-- Within those 200 µs it is not acknowledged, and not counted there. -/
theorem Transaction.waking (early : max s.now t < s.i2c.awakeAt) :
    ∃ u, exec c s = .next u ∧ u.out = .i2c 3 addr [] :: s.out ∧ u.rd I2cStatus.WAKE_NACKS = s.rd I2cStatus.WAKE_NACKS ∧
      u.i2c.awakeAt = s.i2c.awakeAt := by
  obtain ⟨v, noted, judged⟩ := h.noted hi t
  obtain ⟨f, -, run⟩ := tr.exec_eq
  rw [run, State.transacted_refused (judged.trans (noted.waking early addr))]
  refine ⟨_, rfl, ?_, (State.portRegs_rd _ _).trans (noted.frame.rd ..), ?_⟩
  · rw [State.portRegs_out, ← noted.frame.eq_out]
    rfl
  · rw [State.portRegs_i2c]
    exact noted.awakeAt

/-- After them it is acknowledged. -/
theorem Transaction.acknowledged (ready : PortReady s t) :
    ∃ u new, exec c s = .next u ∧ u.out = new ++ .i2c 4 addr [] :: s.out ∧
      u.rd I2cStatus.WAKE_NACKS = s.rd I2cStatus.WAKE_NACKS := by
  obtain ⟨v, noted, judged⟩ := h.noted hi t
  obtain ⟨f, follows, run⟩ := tr.exec_eq
  rw [run, State.transacted_acknowledged (judged.trans (noted.acknowledged ready addr))]
  obtain ⟨⟨new, sent⟩, frame⟩ := (follows (v.send (.i2c 4 addr []))).portRegs
  exact ⟨_, new, rfl, by rw [← noted.frame.eq_out]; exact sent, (frame.rd ..).trans (noted.frame.rd ..)⟩

end Outcomes

/-! ### Sleep (R502) -/

theorem i2cSlept (serves : s.portServes = true) (free : s.i2c.recovering = 0)
    (due : max s.i2c.lastTrans s.i2c.awakeAt + secs (s.rd I2cConfig.SLEEP_AFTER) ≤ max s.now t) :
    ∃ u, exec (.i2cSleep t) s = .next u ∧ u.i2c.asleep = true := by
  have later : (s.at t).portServes = true :=
    State.portServes_later (State.at_frame (.refl s) t) rfl (le_max_left ..) serves
  exact ⟨_, congrArg Host.Outcome.next (if_pos ⟨later, free, due⟩), by rw [State.portRegs_i2c]⟩

theorem i2cAwakeStill (early : max s.now t < s.i2c.lastTrans + secs (s.rd I2cConfig.SLEEP_AFTER)) :
    exec (.i2cSleep t) s = .next (s.at t) := by
  refine congrArg Host.Outcome.next (if_neg fun ⟨_, _, due⟩ => ?_)
  have due : max s.i2c.lastTrans s.i2c.awakeAt + secs (s.rd I2cConfig.SLEEP_AFTER) ≤ max s.now t := due
  omega

/-! ### A presence event owes a refusal (R78, R503) -/

/-- All that a frame can name but the port. -/
def besidePort : Nat := 2 ^ 1024 - 1 - 2 ^ 10

theorem State.attention_refuseNext (s : State) (b : Nat) : (s.attention b).i2c.refuseNext = s.i2c.refuseNext := by
  unfold State.attention
  extract_lets p
  split
  · split <;> rfl
  · rfl

/-- An event that is recorded may be a cause of attention, and leaves what the port owes. -/
theorem State.putEvent_refuseNext (s : State) (e : Event) : (s.putEvent e).i2c.refuseNext = s.i2c.refuseNext := by
  unfold State.putEvent
  extract_lets e room added counted notified panel lit
  have roomy : Frame besidePort s room := .ite (State.closeEventBlock_frame (.refl s) ..) (.refl s)
  have told : Frame besidePort s notified := State.notify_frame (State.bump_frame (Frame.on_hist roomy _) ..) e
  have shown : Frame besidePort s lit := .ite (Frame.on_panel told _) told
  rw [← shown.eq_i2c]
  split
  · exact lit.attention_refuseNext 4
  · rfl

theorem State.record_refuseNext (s : State) (code sev : Nat) (data : Bytes) :
    (s.record code sev data).i2c.refuseNext = s.i2c.refuseNext := by
  unfold State.record State.putLater
  split
  · split
    · rfl
    · exact State.putEvent_refuseNext ..
  · rfl

/-- A presence event gives its token, opens the commissioning window or not, and owes a refusal. -/
def State.tokenGiven (s : State) (source : Nat) (window : Bool) : State :=
  { s with
    sec := { s.sec with token := source, tokenAt := s.now, bound := 0, window := window }
    i2c := { s.i2c with refuseNext := true } }

/-- What it shows of them before it counts. -/
def State.tokenShown (s : State) (source : Nat) (window : Bool) : State :=
  (((s.wr PresenceStatus.TOKEN_STATE 0 1).wr PresenceStatus.TOKEN_SOURCE 0 source).wr PresenceStatus.BOUND_SESSION 0 0).wrB
    SecurityStatus.COMMISSIONING_OPEN 0 window

theorem State.presenceEvent_eq (s : State) (source : Nat) :
    s.presenceEvent source =
      let window := decide (source = 1) && s.rdB SecurityStatus.TRUST_EMPTY
      ((((s.tokenGiven source window).tokenShown source window).bump PresenceStatus.PRESENCE_EVENTS).stamp
        PresenceStatus.LAST_PRESENCE_TIME).record 0x1302 1 [source] := by
  unfold State.presenceEvent State.tokenShown State.tokenGiven
  rfl

theorem State.tokenShown_sorted (hs : s.objs.sorted = true) (source : Nat) (window : Bool) :
    (s.tokenShown source window).objs.sorted = true := by
  simp only [State.tokenShown, State.wrB_objs, State.wr_objs]
  exact Store.wr_sorted (Store.wr_sorted (Store.wr_sorted (Store.wr_sorted hs ..) ..) ..) ..

/-- All that a frame can name but PRESENCE_EVENTS. -/
def besidePresence : Nat := besideRegs [PresenceStatus.PRESENCE_EVENTS]

/-- A presence event counts, and the port owes a refusal. -/
theorem State.presenceEvent_shows (hs : s.objs.sorted = true) (source : Nat) :
    Counts PresenceStatus.PRESENCE_EVENTS 0 s (s.presenceEvent source) ∧ (s.presenceEvent source).i2c.refuseNext = true := by
  rw [State.presenceEvent_eq]
  extract_lets window
  have given : Frame besidePresence s (s.tokenGiven source window) := Frame.mk' (.refl s)
  have shown : Frame besidePresence s ((s.tokenGiven source window).tokenShown source window) :=
    State.wrB_frame (State.wr_frame (State.wr_frame (State.wr_frame given ..) ..) ..) ..
  have after (v : State) : Frame besidePresence v ((v.stamp PresenceStatus.LAST_PRESENCE_TIME).record 0x1302 1 [source]) :=
    State.record_frame (State.stamp_frame (.refl v) ..) ..
  refine ⟨.of_bump (State.tokenShown_sorted (s := s.tokenGiven source window) hs source window) (shown.rd ..)
    ((after _).rd ..), ?_⟩
  rw [State.record_refuseNext]
  rfl

/-- The hold of the button that makes an event is remembered. -/
def State.holdTaken (s : State) (since : Nat) : State :=
  { s with panel := { s.panel with fired := true, releasedAt := none, pressAt := some since } }

theorem execPresenceEvent_due {since : Nat} (begun : (s.at t).heldAtStart since = false) (ok : s.presenceOk = true)
    (held : since + secs 2 ≤ max s.now t)
    (again : s.panel.fired = true → ∃ a, s.panel.releasedAt = some a ∧ a + secs 1 ≤ since) :
    execPresenceEvent t since s = .next (((s.at t).holdTaken since).presenceEvent 1) := by
  unfold execPresenceEvent
  extract_lets v rearmed
  have isRearmed : rearmed = true := by
    rw [Bool.or_eq_true, Bool.not_eq_true']
    refine (Bool.eq_false_or_eq_true s.panel.fired).symm.imp_right fun fired => ?_
    obtain ⟨a, released, long⟩ := again fired
    rw [show v.panel.releasedAt = some a from released]
    exact decide_eq_true long
  rw [if_neg (ne_true_of_eq_false begun), if_pos ⟨ok, held, isRearmed⟩]
  rfl

theorem presenceEventOwes (hs : s.objs.sorted = true) {since : Nat} (ok : s.presenceOk = true) (held : since + secs 2 ≤ max s.now t)
    (again : s.panel.fired = true → ∃ a, s.panel.releasedAt = some a ∧ a + secs 1 ≤ since)
    (begun : (s.at t).heldAtStart since = false) :
    ∃ u, exec (.presenceEvent t since) s = .next u ∧ Counts PresenceStatus.PRESENCE_EVENTS 0 s u ∧ u.i2c.refuseNext = true := by
  obtain ⟨counted, owed⟩ := State.presenceEvent_shows (s := (s.at t).holdTaken since) hs 1
  exact ⟨_, execPresenceEvent_due begun ok held again, counted, owed⟩

theorem jSvcFittedOwes (hs : s.objs.sorted = true) {since : Nat} (ok : s.presenceOk = true) (powered : s.power.powered = true)
    (unfitted : s.rdB ModuleTerminals.J_SVC_FITTED = false) (stable : since + msec 50 ≤ max s.now t) :
    ∃ u, exec (.jSvcFitted t since) s = .next u ∧ Counts PresenceStatus.PRESENCE_EVENTS 0 s u ∧ u.i2c.refuseNext = true := by
  generalize fitted : (s.at t).wrB ModuleTerminals.J_SVC_FITTED 0 true = v
  have frame : Frame (2 ^ 0 + 2 ^ regTree.find ModuleTerminals.J_SVC_FITTED.code) s v :=
    fitted ▸ State.wrB_frame (State.at_frame (.refl s) t) ..
  have sorted : v.objs.sorted = true := by simp [← fitted, hs]
  have stillOk : v.presenceOk = true := by
    rw [← ok, State.presenceOk, State.presenceOk, frame.rdB ModuleTerminals.PRESENCE_STUCK 0 0]
    simp only [State.running, State.inHoldup, State.caldera, frame.eq_boot, frame.eq_power, frame.eq_thermal]
  obtain ⟨counted, owed⟩ := State.presenceEvent_shows sorted 2
  refine ⟨v.presenceEvent 2, congrArg Host.Outcome.next ((if_pos ⟨powered, unfitted, stable⟩).trans ?_), ?_, owed⟩
  · rw [fitted]
    exact if_pos stillOk
  · rw [Counts, counted, frame.rd PresenceStatus.PRESENCE_EVENTS 0 0]

/-- Settles O45, clause by clause: the sleep, the two presence events, and the three outcomes of an address byte. -/
theorem portSleepsAndWakes : Obligations.PortSleepsAndWakes :=
  ⟨fun _ _ serves free => ⟨i2cSlept serves free, i2cAwakeStill⟩,
    fun _ _ _ inv ok held again begun => presenceEventOwes (sorted_of_inv inv) ok held again begun,
    fun _ _ _ inv ok powered unfitted stable => jSvcFittedOwes (sorted_of_inv inv) ok powered unfitted stable,
    fun _ _ _ _ inv h tr => ⟨tr.refused inv h, tr.waking inv h, tr.acknowledged inv h⟩⟩

end Sys2Proof.Machine
end

section
/-! PROOFS. The attention record that a complete read clears and any other keeps (R506), and the settling of AttentionReadClears
(O46). -/

namespace Sys2Proof.Machine

open Sys2Proof.Obj

variable {s u v w : State} {t addr n : Nat} {c : Instr}

/-! ### The pending record (R504, R506) -/

/-- The pending record, its tries and its retry stay as they were. -/
structure RecordKept (s u : State) : Prop where
  pending : u.i2c.recPending = s.i2c.recPending
  shown : u.rdB I2cStatus.ATTN_PENDING = s.rdB I2cStatus.ATTN_PENDING
  seq : u.i2c.recSeq = s.i2c.recSeq
  cause : u.i2c.recCause = s.i2c.recCause
  tries : u.i2c.tries = s.i2c.tries
  retry : u.i2c.retryAt = s.i2c.retryAt

/-- What changes neither the port nor ATTN_PENDING keeps them. -/
theorem RecordKept.later (h : RecordKept s v) (port : w.i2c = v.i2c)
    (shown : w.rd I2cStatus.ATTN_PENDING = v.rd I2cStatus.ATTN_PENDING) : RecordKept s w := by
  obtain ⟨pending, shown', seq, cause, tries, retry⟩ := h
  refine ⟨?_, ?_, ?_, ?_, ?_, ?_⟩
  · rw [port, pending]
  · rw [State.rdB, shown, ← State.rdB, shown']
  · rw [port, seq]
  · rw [port, cause]
  · rw [port, tries]
  · rw [port, retry]

theorem AddressNoted.recordKept (h : AddressNoted t s v) : RecordKept s v := by
  obtain ⟨k, port⟩ := h.port
  have shown := h.frame.rdB I2cStatus.ATTN_PENDING 0 0
  refine ⟨?_, shown, ?_, ?_, ?_, ?_⟩ <;> rw [port]

theorem RecordKept.send (h : RecordKept s v) (o : Out) : RecordKept s (v.send o) :=
  h.later (State.send_i2c ..) (State.send_rd ..)

theorem RecordKept.portRegs (h : RecordKept s v) : RecordKept s v.portRegs :=
  h.later v.portRegs_i2c (v.portRegs_rd I2cStatus.ATTN_PENDING)

theorem RecordKept.bump (h : RecordKept s v) (f : Fld) (ha : apart f 0 I2cStatus.ATTN_PENDING 0 = true) :
    RecordKept s (v.bump f) :=
  h.later (State.wr_i2c ..) (State.rd_wr_apart _ _ _ _ _ _ _ _ ha)

/-- A read that is not complete clears nothing. -/
theorem RecordKept.sendWindow (h : RecordKept s v) {stop : Bool} (part : ¬(8 ≤ n ∧ stop = true)) (addr : Nat) :
    RecordKept s (v.sendWindow addr n stop) := by
  unfold State.sendWindow
  extract_lets w sent
  rw [if_neg fun ⟨_, all, stopped, _⟩ => part ⟨all, stopped⟩]
  exact h.send _

/-- No record is pending: ATTN_PENDING reads 0, and no retry waits. -/
structure RecordCleared (u : State) : Prop where
  pending : u.i2c.recPending = false
  shown : u.rdB I2cStatus.ATTN_PENDING = false
  retry : u.i2c.retryAt = none

theorem State.clearRecord_cleared (hs : s.objs.sorted = true) : RecordCleared s.clearRecord where
  pending := rfl
  shown := by
    unfold State.clearRecord
    exact State.rdB_wrB (by exact hs) _ _ _ _ (by decide)
  retry := rfl

theorem RecordCleared.portRegs (h : RecordCleared v) : RecordCleared v.portRegs := by
  obtain ⟨pending, shown, retry⟩ := h
  refine ⟨?_, ?_, ?_⟩
  · rw [v.portRegs_i2c, pending]
  · rw [State.rdB, v.portRegs_rd I2cStatus.ATTN_PENDING, ← State.rdB, shown]
  · rw [v.portRegs_i2c, retry]

/-- A complete read of the ATTENTION window clears the record. -/
theorem State.sendWindow_cleared (hs : s.objs.sorted = true) (window : s.rd I2cStatus.WINDOW = 0x20)
    (pending : s.i2c.recPending = true) {stop : Bool} (whole : 8 ≤ n ∧ stop = true) (addr : Nat) :
    RecordCleared (s.sendWindow addr n stop) := by
  unfold State.sendWindow
  extract_lets w sent
  rw [if_pos ⟨window, whole.1, whole.2, pending⟩]
  exact State.clearRecord_cleared hs

theorem State.attnDue_of_none (none : s.i2c.recPending = false) : s.attnDue = false := by
  simp [State.attnDue, none]

/-- No later instant brings an attention write of a record that is cleared. -/
theorem RecordCleared.silent (h : RecordCleared u) (t outcome : Nat) :
    exec (.attentionWrite t outcome) u = .next (u.at t) ∧ exec (.attnRetry t outcome) u = .next (u.at t) := by
  have idle : ¬(u.at t).attnDue = true := ne_true_of_eq_false (State.attnDue_of_none h.pending)
  exact ⟨congrArg Host.Outcome.next (if_neg fun due => idle due.1), congrArg Host.Outcome.next (if_neg fun due => idle due.1)⟩

/-! ### The settling of AttentionReadClears -/

/-- A row that reads the selected window: a read, or one whose capture is ready all the same (R501). -/
def WindowRead (t addr n : Nat) (stop : Bool) (s : State) (c : Instr) : Prop :=
  c = .i2cRead t addr n stop ∨ (c = .stretchLimits t addr n stop ∧ s.rdB DieStatus.PACE_LOW 0 = false)

theorem WindowRead.exec_eq {stop : Bool} {o : Out} (h : WindowRead t addr n stop s c) (noted : AddressNoted t s v)
    (acknowledged : (s.at t).addressed addr = (v.send o, true)) :
    exec c s = .next ((v.send o).sendWindow addr n stop).portRegs := by
  rcases h with rfl | ⟨rfl, ready⟩
  · rw [exec_i2cRead, State.transacted_acknowledged acknowledged]
  · have captured : (v.send o).rdB DieStatus.PACE_LOW 0 = false :=
      (State.send_rdB ..).trans ((noted.frame.rdB ..).trans ready)
    rw [exec_stretchLimits, State.transacted_acknowledged acknowledged, State.sendLate, captured, if_neg Bool.false_ne_true]

/-- Settles O46: a read sends the window after its address byte is acknowledged, which has left the record; a complete one
clears it, and no other row that follows the acknowledge touches it. -/
theorem attentionReadClears : Obligations.AttentionReadClears := by
  intro t addr s inv h ready window pending
  obtain ⟨v, noted, judged⟩ := h.noted inv t
  have acknowledged := judged.trans (noted.acknowledged ready addr)
  have kept : RecordKept s (v.send (.i2c 4 addr [])) := noted.recordKept.send _
  have unchanged (u : State) (k : RecordKept s u) :
      u.i2c.recPending = true ∧ u.rdB I2cStatus.ATTN_PENDING = s.rdB I2cStatus.ATTN_PENDING ∧
        u.i2c.recSeq = s.i2c.recSeq ∧ u.i2c.recCause = s.i2c.recCause ∧ u.i2c.tries = s.i2c.tries ∧
        u.i2c.retryAt = s.i2c.retryAt :=
    ⟨k.pending.trans pending, k.shown, k.seq, k.cause, k.tries, k.retry⟩
  refine ⟨fun n stop c row => ?_, fun c row => ?_⟩
  · have run := WindowRead.exec_eq row noted acknowledged
    refine ⟨fun whole => ?_, fun part => ⟨_, run, unchanged _ (kept.sendWindow part addr).portRegs⟩⟩
    have selected : (v.send (.i2c 4 addr [])).rd I2cStatus.WINDOW = 0x20 :=
      (State.send_rd ..).trans ((noted.frame.rd ..).trans window)
    have cleared := (State.sendWindow_cleared (s := v.send (.i2c 4 addr [])) noted.sorted selected
      (kept.pending.trans pending) whole addr).portRegs
    exact ⟨_, run, cleared.pending, cleared.shown, cleared.retry, cleared.silent⟩
  · rcases row with rfl | rfl
    · rw [exec_abortsRstart, State.transacted_acknowledged acknowledged]
      exact ⟨_, rfl, unchanged _ (kept.bump _ (by decide)).portRegs⟩
    · rw [exec_i2cIdleRelease, State.transacted_acknowledged acknowledged]
      exact ⟨_, rfl, unchanged _ (kept.send _).portRegs⟩

end Sys2Proof.Machine
end

section
/-! PROOFS. CONFIRM_CONFIG (R524): requests of a wrong length, an answer after an event, the slots and the registers that show
them, and the settling of ConfirmConfigErasesTheOther (O48). -/

namespace Sys2Proof.Machine

open Sys2Proof.Obj

variable {s u v : State} {t cls cmd st : Nat} {r : Req} {x : Sess} {p : Bytes}

/-! ### Requests of a wrong length (R148) -/

theorem Served.of_cls {low : Nat} (h : Served r cls s x) (le : low ≤ cls) : Served r low s x :=
  { h with cls := le.trans h.cls }

/-- ST_LENGTH is the answer of a command that any class may give and that does nothing. -/
theorem State.serve_wrongLength (s : State) (t : Nat) (r : Req) (cmd cls : Nat) (body : Rid → Sess → State → State × Reply) :
    s.serve t r cmd false cls body = s.serve t r cmd true 0 fun _ _ v => (v, .now stLength []) := by
  simp [State.serve]

theorem Served.refused_wrongLength (h : Served r cls s x) (t cmd : Nat) (body : Rid → Sess → State → State × Reply) :
    Refused s (s.serve t r cmd false cls body) r cmd stLength [] := by
  rw [State.serve_wrongLength, (h.of_cls (Nat.zero_le cls)).serve_now rfl]
  exact h.refused t cmd stLength []

/-! ### An event leaves the requests that wait for an answer -/

/-- Each session's number, connection and outstanding requests. -/
def State.asked (s : State) : List (Nat × Nat × List Outst) := s.mbx.sess.map fun y => (y.num, y.conn, y.outst)

theorem State.asked_of_mbx (h : u.mbx = s.mbx) : u.asked = s.asked := by
  rw [State.asked, State.asked, h]

theorem State.modSess_asked (s : State) (n : Nat) {f : Sess → Sess}
    (same : ∀ y, ((f y).num, (f y).conn, (f y).outst) = (y.num, y.conn, y.outst)) : (s.modSess n f).asked = s.asked := by
  simp only [State.asked, State.modSess, List.map_map]
  refine List.map_congr_left fun y _ => ?_
  rw [Function.comp_apply]
  split
  · exact same y
  · rfl

theorem State.mapStreams_asked (s : State) (f : Stream → Stream) : (s.mapStreams f).asked = s.asked :=
  List.map_map

theorem State.unsolicited_asked (s : State) (num cmd : Nat) (p : Bytes) : (s.unsolicited num cmd p).asked = s.asked := by
  unfold State.unsolicited
  split
  · rfl
  · exact s.modSess_asked num fun _ => rfl

theorem State.notify_asked (s : State) (e : Event) : (s.notify e).asked = s.asked := by
  unfold State.notify
  split
  · exact List.foldlRecOn (motive := fun v : State => v.asked = s.asked) _ _ rfl fun v kept _ _ =>
      (v.unsolicited_asked ..).trans kept
  · rfl

theorem State.loseEvents_asked (s : State) : s.loseEvents.asked = s.asked := by
  unfold State.loseEvents
  split
  · rfl
  · split
    · rfl
    · exact s.mapStreams_asked _

theorem State.closeEventBlock_asked (s : State) (timeout holdup : Bool) : (s.closeEventBlock timeout holdup).asked = s.asked := by
  unfold State.closeEventBlock
  split
  · rfl
  · exact s.loseEvents_asked

/-- All that a frame can name but the mailbox. -/
def besideMailbox : Nat := 2 ^ 1024 - 1 - 2 ^ 8

theorem State.putEvent_asked (s : State) (e : Event) : (s.putEvent e).asked = s.asked := by
  unfold State.putEvent
  extract_lets e room added counted notified panel lit
  have roomy : room.asked = s.asked := by
    unfold room
    split
    · exact s.closeEventBlock_asked false false
    · rfl
  have shown : Frame besideMailbox notified lit := .ite (Frame.on_panel (.refl _) _) (.refl _)
  have after : Frame besideMailbox notified (if lit.rd I2cConfig.ATTN_MIN_SEVERITY ≤ e.sev then lit.attention 4 else lit) :=
    .ite (State.attention_frame shown 4) shown
  calc _ = notified.asked := State.asked_of_mbx after.eq_mbx
    _ = counted.asked := counted.notify_asked e
    _ = room.asked := rfl
    _ = s.asked := roomy

theorem State.record_asked (s : State) (code sev : Nat) (data : Bytes) : (s.record code sev data).asked = s.asked := by
  unfold State.record State.putLater
  split
  · split
    · rfl
    · exact s.putEvent_asked _
  · rfl

/-- An answer leaves at once where no request but its own has been outstanding in its session. -/
theorem Served.responds_of_asked (h : Served r cls s x) (asked : v.asked = (s.admitted t r cmd x).asked) (st : Nat) (p : Bytes) :
    Responds (v.answer ⟨r.conn, x.num, cmd, r.seq, x.next⟩ st p) r cmd st p := by
  have heads (w : State) : w.asked.find? (·.1 == x.num) = (w.sess? x.num).map fun y => (y.num, y.conn, y.outst) :=
    List.find?_map ..
  have same := (heads v).symm.trans (asked ▸ heads (s.admitted t r cmd x))
  rw [h.admitted t cmd, Option.map_some, Option.map_eq_some_iff] at same
  obtain ⟨y, found, same⟩ := same
  obtain ⟨-, conn, outst⟩ : y.num = x.num ∧ y.conn = x.conn ∧ y.outst = x.outst ++ [⟨cmd, r.seq, none, x.next⟩] := by
    simpa [Sess.taken] using same
  rw [h.idle, List.nil_append] at outst
  rw [Responds, State.answer_out found (conn.trans h.on) outst, ← h.num]
  rfl

/-! ### The slots and the registers that show them -/

theorem State.setSlot_slot (s : State) (k : Nat) (y : Slot) : (s.setSlot k y).slot k = y := by
  unfold State.setSlot State.slot
  split <;> rfl

/-- A change of one slot leaves the other. -/
theorem State.setSlot_slot_other (s : State) (k : Nat) (y : Slot) : (s.setSlot k y).slot (1 - k) = s.slot (1 - k) := by
  unfold State.setSlot State.slot
  by_cases h : k = 0
  · rw [h]
    rfl
  · have first : 1 - k = 0 := by omega
    rw [first, if_neg h]
    rfl

theorem State.slot_of_nv (h : u.nv = s.nv) (k : Nat) : u.slot k = s.slot k := by
  rw [State.slot, State.slot, h]

theorem State.slotState_empty {k : Nat} (idle : s.upd.write ≠ some k) (erased : (s.slot k).hdr = none) : s.slotState k = 0 := by
  rw [State.slotState, if_neg idle, erased]
  rfl

/-- What UPDATE_STATUS and CONFIG_FORMAT are given by the slots, the fuses and the configuration copies. -/
def State.slotValues (s : State) : List (Fld × Nat) :=
  let v (k o n : Nat) : Nat := if s.slotState k < 2 then 0 else field (s.slotHdr k) o n
  let img := s.nv.nodeImage.getD []
  [(UpdateStatus.SLOT_A_STATE, s.slotState 0), (UpdateStatus.SLOT_B_STATE, s.slotState 1),
    (UpdateStatus.SLOT_A_VERSION, v 0 0x10 4), (UpdateStatus.SLOT_B_VERSION, v 1 0x10 4),
    (UpdateStatus.SLOT_A_ROLLBACK_INDEX, v 0 0x14 4), (UpdateStatus.SLOT_B_ROLLBACK_INDEX, v 1 0x14 4),
    (UpdateStatus.FUSE_ROLLBACK_INDEX, s.nv.fuseIndex), (UpdateStatus.STAGED_NODE_VERSION, field img 0x10 4),
    (UpdateStatus.STAGED_NODE_SIZE, field img 0x18 4), (ConfigFormat.FORMAT_KEPT, s.nv.keptFormat),
    (ConfigFormat.KEPT_TIME, if s.nv.keptFormat = 0 then timeNA else s.nv.keptTime)]

theorem State.slotRegs_eq (s : State) : s.slotRegs = s.wrAll 0 s.slotValues := rfl

/-- The registers show the slots and the format of the kept copy. -/
structure SlotsShown (s u : State) : Prop where
  slotA : u.rd UpdateStatus.SLOT_A_STATE = s.slotState 0 % 2 ^ 8
  slotB : u.rd UpdateStatus.SLOT_B_STATE = s.slotState 1 % 2 ^ 8
  kept : u.rd ConfigFormat.FORMAT_KEPT = s.nv.keptFormat % 2 ^ 16

theorem State.slotRegs_shown (hs : s.objs.sorted = true) : SlotsShown s s.slotRegs := by
  rw [State.slotRegs_eq]
  exact ⟨State.wrAll_rd hs 0 [] _ _ _, State.wrAll_rd hs 0 [_] _ _ _,
    State.wrAll_rd hs 0 [_, _, _, _, _, _, _, _, _] _ _ _⟩

theorem SlotsShown.empty {k : Nat} (h : SlotsShown s u) (le : k ≤ 1) (empty : s.slotState k = 0) :
    (if k = 0 then u.rd UpdateStatus.SLOT_A_STATE else u.rd UpdateStatus.SLOT_B_STATE) = 0 := by
  obtain rfl | rfl := Nat.le_one_iff_eq_zero_or_eq_one.1 le
  · rw [if_pos rfl, h.slotA, empty, Nat.zero_mod]
  · rw [if_neg Nat.one_ne_zero, h.slotB, empty, Nat.zero_mod]

/-! ### The two outcomes of CONFIRM_CONFIG (R524) -/

/-- The refusal of a CONFIRM_CONFIG of a format, if there is one. -/
def State.confirmRefusal (s : State) (f : Nat) : Option (Nat × Bytes) :=
  firstRef [(decide (s.security = 3) || decide (s.security = 4), stState, []),
    (decide (f ≠ s.rd ConfigFormat.FORMAT_RUNNING) || decide (s.nv.keptFormat = 0), refCond 0x1207), s.holdupRef]

theorem State.confirmRefusal_of_unmet {f : Nat} (h3 : s.security ≠ 3) (h4 : s.security ≠ 4)
    (unmet : f ≠ s.rd ConfigFormat.FORMAT_RUNNING ∨ s.nv.keptFormat = 0) : s.confirmRefusal f = some (refCond 0x1207) := by
  simp [State.confirmRefusal, firstRef_cons, h3, h4, unmet]

theorem State.confirmRefusal_of_met {f : Nat} (h3 : s.security ≠ 3) (h4 : s.security ≠ 4)
    (running : f = s.rd ConfigFormat.FORMAT_RUNNING) (kept : s.nv.keptFormat ≠ 0) (powered : s.inHoldup = false) :
    s.confirmRefusal f = none := by
  simp [State.confirmRefusal, firstRef_cons, h3, h4, running, kept, State.holdupRef, powered]

/-- The kept copy is erased. -/
def State.keptErased (s : State) : State := { s with nv := { s.nv with kept := [], keptFormat := 0, keptTime := 0 } }

/-- The header of the inactive slot is erased where its image has another format. -/
def State.otherErased (s : State) (f : Nat) : State :=
  let k := 1 - s.nv.active
  if (s.slot k).hdr.isSome ∧ s.slotFormat k ≠ f then s.setSlot k ⟨none, false, []⟩ else s

/-- A format is confirmed, and the event still to be recorded. -/
def State.confirmShown (s : State) (f : Nat) : State :=
  ((s.keptErased.otherErased f).slotRegs.wr ConfigFormat.WRITES_SINCE_KEPT 0 0).stamp ConfigFormat.CONFIRM_TIME

/-- A format is confirmed. -/
def State.confirmed (s : State) (f : Nat) : State := (s.confirmShown f).record 0x1206 1 (toLE 2 f)

theorem exec_confirmConfig_wrongLength (h : Served r 3 s x) (length : p.length ≠ 4) :
    ∃ u, exec (.confirmConfig t r p) s = .next u ∧ Refused s u r 0x62 stLength [] := by
  refine ⟨_, rfl, ?_⟩
  rw [decide_eq_false length]
  exact h.refused_wrongLength t 0x62 _

theorem exec_confirmConfig_refused (h : Served r 3 s x) (length : p.length = 4) {d : Bytes}
    (e : s.confirmRefusal (field p 0 2) = some (st, d)) :
    ∃ u, exec (.confirmConfig t r p) s = .next u ∧ Refused s u r 0x62 st d := by
  refine ⟨_, rfl, ?_⟩
  rw [decide_eq_true length, h.serve_now (guarded_of_refusal e _ _)]
  exact h.refused t 0x62 st d

theorem exec_confirmConfig_accepted (h : Served r 3 s x) (length : p.length = 4) (e : s.confirmRefusal (field p 0 2) = none) :
    exec (.confirmConfig t r p) s =
      .next (((s.admitted t r 0x62 x).confirmed (field p 0 2)).answer ⟨r.conn, x.num, 0x62, r.seq, x.next⟩ stOk []) := by
  refine congrArg Host.Outcome.next ?_
  rw [decide_eq_true length]
  exact h.serve_now (guarded_of_none e _ _)

/-! ### What a confirmation leaves -/

/-- What the erasures leave of the slots. -/
structure OtherErased (f k : Nat) (s v : State) : Prop where
  gone : (s.slot k).hdr.isSome = true → s.slotFormat k ≠ f → (v.slot k).hdr = none
  stays : s.slotFormat k = f → v.slot k = s.slot k
  other : v.slot (1 - k) = s.slot (1 - k)
  matched : (v.slot k).hdr.isSome = true → v.slotFormat k = f

theorem State.otherErased_spec (s : State) (f : Nat) : OtherErased f (1 - s.nv.active) s (s.keptErased.otherErased f) := by
  generalize hk : 1 - s.nv.active = k
  have run : s.keptErased.otherErased f =
      if (s.slot k).hdr.isSome ∧ s.slotFormat k ≠ f then s.keptErased.setSlot k ⟨none, false, []⟩ else s.keptErased := by
    rw [← hk]
    rfl
  rw [run]
  split
  · next another =>
    have erased := s.keptErased.setSlot_slot k ⟨none, false, []⟩
    refine ⟨fun _ _ => ?_, fun same => absurd same another.2, s.keptErased.setSlot_slot_other k _, fun held => ?_⟩
    · rw [erased]
    · rw [erased] at held
      exact absurd held Bool.false_ne_true
  · next none_or_same =>
    exact ⟨fun held different => absurd ⟨held, different⟩ none_or_same, fun _ => rfl, rfl,
      fun held => by_contra fun different => none_or_same ⟨held, different⟩⟩

theorem OtherErased.of_nv {f k : Nat} (h : OtherErased f k s v) (nv : u.nv = v.nv) : OtherErased f k s u := by
  obtain ⟨gone, stays, other, matched⟩ := h
  have slot := State.slot_of_nv nv
  refine ⟨fun held different => ?_, fun same => ?_, ?_, fun held => ?_⟩
  · rw [slot, gone held different]
  · rw [slot, stays same]
  · rw [slot, other]
  · rw [slot] at held
    rw [State.slotFormat, State.slotHdr, slot, ← State.slotHdr, ← State.slotFormat, matched held]

/-- The erasures touch nothing but what the flash holds. -/
theorem State.otherErased_frame (s : State) (f : Nat) : Frame (2 ^ 3) s (s.keptErased.otherErased f) :=
  have kept : Frame (2 ^ 3) s s.keptErased := .on_nv (.refl s) _
  .ite (State.setSlot_frame kept ..) kept

theorem State.otherErased_objs (s : State) (f : Nat) : (s.keptErased.otherErased f).objs = s.objs := by
  unfold State.otherErased
  extract_lets k
  split <;> rfl

/-- The erasures leave the format in force and the formats' areas but the kept one. -/
theorem State.otherErased_nv (s : State) (f : Nat) :
    (s.keptErased.otherErased f).nv.kept = [] ∧ (s.keptErased.otherErased f).nv.keptFormat = 0 ∧
      (s.keptErased.otherErased f).nv.format = s.nv.format := by
  unfold State.otherErased State.setSlot
  extract_lets k
  split
  · split <;> exact ⟨rfl, rfl, rfl⟩
  · exact ⟨rfl, rfl, rfl⟩

/-- The state in which the formats are confirmed and the answer has left. -/
structure Confirmed (f k : Nat) (s u : State) : Prop where
  kept : u.nv.kept = []
  keptFormat : u.nv.keptFormat = 0
  format : u.nv.format = s.nv.format
  noneShown : u.rd ConfigFormat.FORMAT_KEPT = 0
  running : u.rd ConfigFormat.FORMAT_RUNNING = s.rd ConfigFormat.FORMAT_RUNNING
  slots : OtherErased f k s u
  emptyShown : (s.slot k).hdr.isSome = true → s.slotFormat k ≠ f → s.upd.write ≠ some k →
    (if k = 0 then u.rd UpdateStatus.SLOT_A_STATE else u.rd UpdateStatus.SLOT_B_STATE) = 0
  event : s.hist.run = true → Recorded u 0x1206 (toLE 2 f)

/-- All that a frame can name but the clock, the flash, the update, and the registers that a confirmation is read by. -/
def besideConfirmed : Nat :=
  besideRegs [UpdateStatus.SLOT_A_STATE, UpdateStatus.SLOT_B_STATE, ConfigFormat.FORMAT_KEPT, ConfigFormat.FORMAT_RUNNING]
    - 2 ^ 17 - 2 ^ 3 - 3

theorem SlotsShown.frame (h : SlotsShown s v) (k : Frame besideConfirmed v u) : SlotsShown s u :=
  ⟨(k.rd ..).trans h.slotA, (k.rd ..).trans h.slotB, (k.rd ..).trans h.kept⟩

/-- An answer is no event. -/
theorem Recorded.answer {code : Nat} {data : Bytes} (h : Recorded v code data) (rid : Rid) (st : Nat) (p : Bytes) :
    Recorded (v.answer rid st p) code data := by
  have same : Frame (2 ^ 1024 - 1 - 2 ^ 14 - 2 ^ 9 - 3) v (v.answer rid st p) := State.answer_frame (.refl v) ..
  unfold Recorded State.lastEvent
  rw [State.managerStalled_of same.eq_dies, same.eq_hist, same.eq_base]
  exact h

theorem State.confirmed_answered (hs : s.objs.sorted = true) (f : Nat) (rid : Rid) :
    Confirmed f (1 - s.nv.active) s ((s.confirmed f).answer rid stOk []) := by
  have erased := s.otherErased_frame f
  have slots := s.otherErased_spec f
  obtain ⟨kept, keptFormat, format⟩ := s.otherErased_nv f
  have sorted := (congrArg Store.sorted (s.otherErased_objs f)).trans hs
  generalize run : s.keptErased.otherErased f = e at *
  have after : Frame besideConfirmed e.slotRegs ((s.confirmed f).answer rid stOk []) := by
    rw [State.confirmed, State.confirmShown, run]
    exact State.answer_frame (State.record_frame (State.stamp_frame (State.wr_frame (.refl _) ..) ..) ..) ..
  have shown : SlotsShown e ((s.confirmed f).answer rid stOk []) := (State.slotRegs_shown sorted).frame after
  have slotted : Frame (besideRegs [ConfigFormat.FORMAT_RUNNING] - 2 ^ 9 - 2 ^ 3) e e.slotRegs :=
    State.slotRegs_frame (.refl e)
  have flash : ((s.confirmed f).answer rid stOk []).nv = e.nv := after.eq_nv.trans slotted.eq_nv
  refine ⟨?_, ?_, ?_, ?_, ?_, slots.of_nv flash, fun held different idle => ?_, fun on => ?_⟩
  · rw [flash, kept]
  · rw [flash, keptFormat]
  · rw [flash, format]
  · rw [shown.kept, keptFormat, Nat.zero_mod]
  · exact (after.rd ..).trans ((slotted.rd ..).trans (erased.rd ..))
  · rw [← erased.eq_upd] at idle
    exact shown.empty (Nat.sub_le ..) (State.slotState_empty idle (slots.gone held different))
  · refine (State.record_recorded ?_ ..).answer ..
    rw [State.confirmShown, run, State.stamp_hist, State.wr_hist, slotted.eq_hist, erased.eq_hist, on]

/-- A confirmation leaves the requests that wait for an answer. -/
theorem State.confirmed_asked (s : State) (f : Nat) : (s.confirmed f).asked = s.asked := by
  have erased : Frame besideMailbox s (s.keptErased.otherErased f) := (s.otherErased_frame f).mono (by decide +kernel)
  have shown : Frame besideMailbox s (s.confirmShown f) :=
    State.stamp_frame (State.wr_frame (State.slotRegs_frame erased) ..) ..
  exact (State.record_asked ..).trans (State.asked_of_mbx shown.eq_mbx)

/-- Settles O48: a request of a wrong length, of a format that is not the running one or with nothing kept is answered with
nothing done; any other erases the kept copy and the image of another format, which the registers then show. -/
theorem confirmConfigErasesTheOther : Obligations.ConfirmConfigErasesTheOther := by
  intro t r p s x inv served
  refine ⟨exec_confirmConfig_wrongLength served, fun length h3 h4 => ⟨fun unmet => ?_, fun running kept powered k hk => ?_⟩⟩
  · exact exec_confirmConfig_refused served length (State.confirmRefusal_of_unmet h3 h4 unmet)
  · have accepted := exec_confirmConfig_accepted (t := t) served length (State.confirmRefusal_of_met h3 h4 running kept powered)
    have responds := served.responds_of_asked ((s.admitted t r 0x62 x).confirmed_asked (field p 0 2)) stOk []
    obtain ⟨erased, noFormat, format, noneShown, sameRunning, ⟨gone, stays, other, matched⟩, emptyShown, event⟩ :=
      (s.admitted t r 0x62 x).confirmed_answered (sorted_of_inv (s := s) inv) (field p 0 2)
        ⟨r.conn, x.num, 0x62, r.seq, x.next⟩
    generalize field p 0 2 = f at *
    subst running hk
    exact ⟨_, accepted, responds, erased, noFormat, noneShown,
      fun held different => ⟨gone held different, emptyShown held different⟩, stays, other,
      fun held => (matched held).trans sameRunning.symm, format, event⟩

end Sys2Proof.Machine
end

section
/-! PROOFS. A statement of chapter 20 that a state refutes: a relay handover of a module with a die 255
(ImagesAreStagedAndActivated). -/

namespace Sys2Proof.Machine

/-! ### ImagesAreStagedAndActivated: the code of no die is the number of one

HANDOVER_DIE reads 0xFF when no die is handing over (Table 20.9), and State.nextDie gives that code once every die has handed
over. The row of a handover takes it for the end of the handovers (R515), also where 255 is the number of the die whose turn it
is. The modules of Table 1.1 have 8 dies at most, so that none of them meets it; a sound state may, since State.inv bounds neither
the variant nor the dies that follow from it. -/

/-- A module with string dies 1 to 255, in a relay handover in which die 254 is next. -/
def crowdedRelay : State :=
  let s := startedWith [] []
  { s with
    nv := { s.nv with variant := 256 }
    upd := { s.upd with relay := true, phase := 4, handed := ((List.range 254).drop 1).reverse } }

theorem crowdedRelay_dies : crowdedRelay.relayOrder.length = 256 ∧ crowdedRelay.upd.handed.length = 253 := by
  decide +kernel

theorem crowdedRelay_ends : nextPasses (.dieHandover (msec 1) 254) crowdedRelay (fun u => u.upd.phase == 5) = true := by
  decide +kernel

/-- Refutes O42, by the clause of DIE_HANDOVER: after die 254 the dies 255 and 0 have still to hand over, and the module goes on
to the commit all the same. -/
theorem not_imagesAreStagedAndActivated : ¬ Obligations.ImagesAreStagedAndActivated := by
  intro ⟨_, _, _, _, _, _, handsOver, _⟩
  obtain ⟨u, run, -, -, phase⟩ :=
    handsOver (msec 1) 254 crowdedRelay (by decide +kernel) (by decide +kernel) (by decide +kernel) (by decide +kernel)
      (by decide +kernel) (by decide +kernel)
  obtain ⟨dies, handed⟩ := crowdedRelay_dies
  refine not_exists_next (P := fun u => u.upd.phase = 4) _ crowdedRelay_ends (fun u ended goesOn => ?_) ⟨u, run, ?_⟩
  · simp [goesOn] at ended
  · rw [phase, dies, handed, if_neg (by decide)]

end Sys2Proof.Machine
end

section
/-! PROOFS. What holds of every command, each arm of exec by the laws of its meaning: it answers a next state, which keeps what no
command takes back, stays sound, and differs only where the command's row in reachOf says; and the settling of the statements about
all commands, the reset state and a register write. -/

namespace Sys2Proof.Machine

set_option Elab.async false

/-- Every command answers a next state, which respects the state before it. -/
theorem exec_keeps (c : Instr) (s : State) : ∃ u, exec c s = .next u ∧ Keeps s u :=
  match c with
  | .auxMainsEvaluation .. => execAuxMainsEvaluation_keeps ..
  | .auxInterruptionExceeded .. => execAuxInterruptionExceeded_keeps ..
  | .startFromOff .. => execStartFromOff_keeps ..
  | .auxReturnQual .. => execAuxReturnQual_keeps ..
  | .tapConverterStop .. => execTapConverterStop_keeps ..
  | .tapOverload .. => execTapOverload_keeps ..
  | .lastGasp .. => execLastGasp_keeps ..
  | .holdupShed .. => execHoldupShed_keeps ..
  | .holdupOpenDelay .. => execHoldupOpenDelay_keeps ..
  | .holdupClosed .. => execHoldupClosed_keeps ..
  | .holdupHalt .. => execHoldupHalt_keeps ..
  | .holdupReadyCleared .. => execHoldupReadyCleared_keeps ..
  | .holdupReadySet .. => execHoldupReadySet_keeps ..
  | .enterTransport .. => execEnterTransport_keeps ..
  | .transportConfirm .. => execTransportConfirm_keeps ..
  | .transportDiesOff .. => execTransportDiesOff_keeps ..
  | .transportWake .. => execTransportWake_keeps ..
  | .coilSupplyThreshold .. => execCoilSupplyThreshold_keeps ..
  | .connOpenChanged .. => execConnOpenChanged_keeps ..
  | .switchReading .. => execSwitchReading_keeps ..
  | .switchFaultRetry .. => execSwitchFaultRetry_keeps ..
  | .sealOpen .. => execSealOpen_keeps ..
  | .presenceButtonPress .. => execPresenceButtonPress_keeps ..
  | .presenceEvent .. => execPresenceEvent_keeps ..
  | .presenceStuck .. => execPresenceStuck_keeps ..
  | .jSvcFitted .. => execJSvcFitted_keeps ..
  | .tokenExpired .. => execTokenExpired_keeps ..
  | .displayBlank .. => execDisplayBlank_keeps ..
  | .journalReplayed .. => execJournalReplayed_keeps ..
  | .runtimeStart .. => execRuntimeStart_keeps ..
  | .enumerationComplete .. => execEnumerationComplete_keeps ..
  | .historyInitComplete .. => execHistoryInitComplete_keeps ..
  | .watchdogRestart .. => execWatchdogRestart_keeps ..
  | .refclkFail .. => execRefclkFail_keeps ..
  | .paceMeasurement .. => execPaceMeasurement_keeps ..
  | .dieStalled .. => execDieStalled_keeps ..
  | .managerHeartbeatMissing .. => execManagerHeartbeatMissing_keeps ..
  | .dramCorrectedError .. => execDramCorrectedError_keeps ..
  | .dramUncorrectableError .. => execDramUncorrectableError_keeps ..
  | .scrubPass .. => execScrubPass_keeps ..
  | .lapFire .. => execLapFire_keeps ..
  | .returnMissing .. => execReturnMissing_keeps ..
  | .ringPortLineLost .. => execRingPortLineLost_keeps ..
  | .ringPortLinkReady .. => execRingPortLinkReady_keeps ..
  | .batonReceived .. => execBatonReceived_keeps ..
  | .collectionCutoff .. => execCollectionCutoff_keeps ..
  | .lapDataComplete .. => execLapDataComplete_keeps ..
  | .chargeArrival .. => execChargeArrival_keeps ..
  | .resultInstant .. => execResultInstant_keeps ..
  | .sentinelFit .. => execSentinelFit_keeps ..
  | .falseStartSecond .. => execFalseStartSecond_keeps ..
  | .shadowCheck .. => execShadowCheck_keeps ..
  | .incrementalRound .. => execIncrementalRound_keeps ..
  | .newEpoch .. => execNewEpoch_keeps ..
  | .cmdTimeout .. => execCmdTimeout_keeps ..
  | .resultFetch .. => execResultFetch_keeps ..
  | .ringClose .. => execRingClose_keeps ..
  | .closeRequest .. => execCloseRequest_keeps ..
  | .cmpTest .. => execCmpTest_keeps ..
  | .routineWireTest .. => execRoutineWireTest_keeps ..
  | .runWireTest .. => execRunWireTest_keeps ..
  | .authRetry .. => execAuthRetry_keeps ..
  | .coulombSample .. => execCoulombSample_keeps ..
  | .lapCurrentFrame .. => execLapCurrentFrame_keeps ..
  | .warmupEnd .. => execWarmupEnd_keeps ..
  | .sequencerEntry .. => execSequencerEntry_keeps ..
  | .injectedConversion .. => execInjectedConversion_keeps ..
  | .refSettled .. => execRefSettled_keeps ..
  | .calLowPoint .. => execCalLowPoint_keeps ..
  | .calHighPoint .. => execCalHighPoint_keeps ..
  | .calCaptureEnd .. => execCalCaptureEnd_keeps ..
  | .calCommit .. => execCalCommit_keeps ..
  | .calAbort .. => execCalAbort_keeps ..
  | .calTimeout .. => execCalTimeout_keeps ..
  | .imdCycleEnd .. => execImdCycleEnd_keeps ..
  | .imdPauseEnd .. => execImdPauseEnd_keeps ..
  | .housekeepingRound .. => execHousekeepingRound_keeps ..
  | .hvacRequest .. => execHvacRequest_keeps ..
  | .calderaTrip .. => execCalderaTrip_keeps ..
  | .calderaRelease .. => execCalderaRelease_keeps ..
  | .closeString .. => execCloseString_keeps ..
  | .closingStep .. => execClosingStep_keeps ..
  | .prechargeFail .. => execPrechargeFail_keeps ..
  | .openString .. => execOpenString_keeps ..
  | .openWait .. => execOpenWait_keeps ..
  | .negCoilOff .. => execNegCoilOff_keeps ..
  | .fbTime .. => execFbTime_keeps ..
  | .mirrorContactChange .. => execMirrorContactChange_keeps ..
  | .clearTrip .. => execClearTrip_keeps ..
  | .faultLoopOpen .. => execFaultLoopOpen_keeps ..
  | .fastOc .. => execFastOc_keeps ..
  | .heartbeat .. => execHeartbeat_keeps ..
  | .safeLoopInOpen .. => execSafeLoopInOpen_keeps ..
  | .safeLoopOriginHold .. => execSafeLoopOriginHold_keeps ..
  | .pulseTests .. => execPulseTests_keeps ..
  | .offCoilReadback .. => execOffCoilReadback_keeps ..
  | .safeStatusTelegram .. => execSafeStatusTelegram_keeps ..
  | .safeCommand .. => execSafeCommand_keeps ..
  | .safeCmdSingle .. => execSafeCmdSingle_keeps ..
  | .enableMissing .. => execEnableMissing_keeps ..
  | .integratorProfile .. => execIntegratorProfile_keeps ..
  | .channelSample .. => execChannelSample_keeps ..
  | .deadlineMiss .. => execDeadlineMiss_keeps ..
  | .takeOver .. => execTakeOver_keeps ..
  | .channelEnable .. => execChannelEnable_keeps ..
  | .announceReceived .. => execAnnounceReceived_keeps ..
  | .candidateReceived .. => execCandidateReceived_keeps ..
  | .reportReceived .. => execReportReceived_keeps ..
  | .allocationReceived .. => execAllocationReceived_keeps ..
  | .peerRejected .. => execPeerRejected_keeps ..
  | .announce .. => execAnnounce_keeps ..
  | .roleListen .. => execRoleListen_keeps ..
  | .roleGained .. => execRoleGained_keeps ..
  | .managerLost .. => execManagerLost_keeps ..
  | .allocHold .. => execAllocHold_keeps ..
  | .blockIdConflict .. => execBlockIdConflict_keeps ..
  | .dispatchCycle .. => execDispatchCycle_keeps ..
  | .report .. => execReport_keeps ..
  | .allocation .. => execAllocation_keeps ..
  | .allocationApply .. => execAllocationApply_keeps ..
  | .hostTimeout .. => execHostTimeout_keeps ..
  | .setBlockPower .. => execSetBlockPower_keeps ..
  | .getBlockState .. => execGetBlockState_keeps ..
  | .lapUnitReceived .. => execLapUnitReceived_keeps ..
  | .collectorRound .. => execCollectorRound_keeps ..
  | .blockMaxAge .. => execBlockMaxAge_keeps ..
  | .pinRequest .. => execPinRequest_keeps ..
  | .releasePins .. => execReleasePins_keeps ..
  | .triggerTrace .. => execTriggerTrace_keeps ..
  | .captureFrozen .. => execCaptureFrozen_keeps ..
  | .captureValid .. => execCaptureValid_keeps ..
  | .tcpConnection .. => execTcpConnection_keeps ..
  | .handshakeTimeout .. => execHandshakeTimeout_keeps ..
  | .openSessionTimeout .. => execOpenSessionTimeout_keeps ..
  | .connectionEnd .. => execConnectionEnd_keeps ..
  | .openSession .. => execOpenSession_keeps ..
  | .closeSession .. => execCloseSession_keeps ..
  | .pingSession .. => execPingSession_keeps ..
  | .sessionIdle .. => execSessionIdle_keeps ..
  | .unreadableFrame .. => execUnreadableFrame_keeps ..
  | .getObj .. => execGetObj_keeps ..
  | .putObj .. => execPutObj_keeps ..
  | .beginTxn .. => execBeginTxn_keeps ..
  | .commitTxn .. => execCommitTxn_keeps ..
  | .abortTxn .. => execAbortTxn_keeps ..
  | .txnTimeout .. => execTxnTimeout_keeps ..
  | .listObj .. => execListObj_keeps ..
  | .openStream .. => execOpenStream_keeps ..
  | .closeStream .. => execCloseStream_keeps ..
  | .grantCredit .. => execGrantCredit_keeps ..
  | .streamDataIn .. => execStreamDataIn_keeps ..
  | .streamDataOut .. => execStreamDataOut_keeps ..
  | .streamCredit .. => execStreamCredit_keeps ..
  | .getIdentity .. => execGetIdentity_keeps ..
  | .getCert .. => execGetCert_keeps ..
  | .getQuote .. => execGetQuote_keeps ..
  | .restartModule .. => execRestartModule_keeps ..
  | .ledgerExport .. => execLedgerExport_keeps ..
  | .ackEpoch .. => execAckEpoch_keeps ..
  | .ledgerRestoreCommit .. => execLedgerRestoreCommit_keeps ..
  | .ptpSync .. => execPtpSync_keeps ..
  | .announcePtp .. => execAnnouncePtp_keeps ..
  | .pdelayReq .. => execPdelayReq_keeps ..
  | .pdelayExchange .. => execPdelayExchange_keeps ..
  | .domainState .. => execDomainState_keeps ..
  | .returnQual .. => execReturnQual_keeps ..
  | .slewComplete .. => execSlewComplete_keeps ..
  | .timeState .. => execTimeState_keeps ..
  | .domainDisagree .. => execDomainDisagree_keeps ..
  | .pacerOccurrence .. => execPacerOccurrence_keeps ..
  | .pulseEnd .. => execPulseEnd_keeps ..
  | .captureWindow .. => execCaptureWindow_keeps ..
  | .capture .. => execCapture_keeps ..
  | .canFrameReceived .. => execCanFrameReceived_keeps ..
  | .canTxComplete .. => execCanTxComplete_keeps ..
  | .recover .. => execRecover_keeps ..
  | .busOffRecovered .. => execBusOffRecovered_keeps ..
  | .txRequest .. => execTxRequest_keeps ..
  | .ackCount .. => execAckCount_keeps ..
  | .channelEn .. => execChannelEn_keeps ..
  | .fallbackDatagram .. => execFallbackDatagram_keeps ..
  | .i2cWrite .. => execI2cWrite_keeps ..
  | .i2cRead .. => execI2cRead_keeps ..
  | .stretchLimits .. => execStretchLimits_keeps ..
  | .i2cSleep .. => execI2cSleep_keeps ..
  | .i2cWake .. => execI2cWake_keeps ..
  | .attentionWrite .. => execAttentionWrite_keeps ..
  | .attnRetry .. => execAttnRetry_keeps ..
  | .abortsRstart .. => execAbortsRstart_keeps ..
  | .i2cIdleRelease .. => execI2cIdleRelease_keeps ..
  | .busStuck .. => execBusStuck_keeps ..
  | .recoveryRepeat .. => execRecoveryRepeat_keeps ..
  | .portEn .. => execPortEn_keeps ..
  | .imageUploadEnd .. => execImageUploadEnd_keeps ..
  | .imageStaged .. => execImageStaged_keeps ..
  | .activateImage .. => execActivateImage_keeps ..
  | .spareReady .. => execSpareReady_keeps ..
  | .dieHandover .. => execDieHandover_keeps ..
  | .imageActivated .. => execImageActivated_keeps ..
  | .handoverAbandoned .. => execHandoverAbandoned_keeps ..
  | .rollbackImage .. => execRollbackImage_keeps ..
  | .advanceFuses .. => execAdvanceFuses_keeps ..
  | .recoveryLoader .. => execRecoveryLoader_keeps ..
  | .confirmConfig .. => execConfirmConfig_keeps ..
  | .configUpload .. => execConfigUpload_keeps ..
  | .nodeImageUpload .. => execNodeImageUpload_keeps ..
  | .nodeUpdated .. => execNodeUpdated_keeps ..
  | .nodeCopyFailed .. => execNodeCopyFailed_keeps ..
  | .startRequest .. => execStartRequest_keeps ..
  | .enterService .. => execEnterService_keeps ..
  | .enableDebug .. => execEnableDebug_keeps ..
  | .leaveService .. => execLeaveService_keeps ..
  | .serviceIdle .. => execServiceIdle_keeps ..
  | .decommissionModule .. => execDecommissionModule_keeps ..
  | .probeAttached .. => execProbeAttached_keeps ..
  | .clusterHalt .. => execClusterHalt_keeps ..
  | .trustList .. => execTrustList_keeps ..
  | .commissioned .. => execCommissioned_keeps ..
  | .tapStartOk .. => execTapStartOk_keeps ..
  | .coverClosed .. => execCoverClosed_keeps ..
  | .presenceButtonReleased .. => execPresenceButtonReleased_keeps ..
  | .jSvcRemoved .. => execJSvcRemoved_keeps ..
  | .coilShort .. => execCoilShort_keeps ..
  | .faultLoopClosed .. => execFaultLoopClosed_keeps ..
  | .netLinkChanged .. => execNetLinkChanged_keeps ..
  | .candidate .. => execCandidate_keeps ..
  | .canBusError .. => execCanBusError_keeps ..
  | .busIntegrationComplete .. => execBusIntegrationComplete_keeps ..
  | .spareSelfTest .. => execSpareSelfTest_keeps ..
  | .storedWriteComplete .. => execStoredWriteComplete_keeps ..
  | .collect .. => execCollect_keeps ..
  | .wireRetest .. => execWireRetest_keeps ..

theorem exec_next_keeps {c : Instr} {s u : State} (e : exec c s = .next u) : Keeps s u := by
  obtain ⟨v, run, kept⟩ := exec_keeps c s
  cases run.symm.trans e
  exact kept

/-! What a command may change lies in its row: the row covers the number of the command's frame. The rows are checked in three
parts, by their place in the list of commands. -/

section Rows

variable {c : Instr} {s u : State}

theorem exec_only_first (e : exec c s = .next u) (row : c.ctorIdx < 78) : Only (reachOf c) s u := by
  cases c <;> dsimp only [reachOf]
  case auxMainsEvaluation => exact only_of_frame (execAuxMainsEvaluation_frame ..) e
  case auxInterruptionExceeded => exact only_of_frame (execAuxInterruptionExceeded_frame ..) e
  case startFromOff => exact only_of_frame (execStartFromOff_frame ..) e
  case auxReturnQual => exact only_of_frame (execAuxReturnQual_frame ..) e
  case tapConverterStop => exact only_of_frame (execTapConverterStop_frame ..) e
  case tapOverload => exact only_of_frame (execTapOverload_frame ..) e
  case lastGasp => exact only_of_frame (execLastGasp_frame ..) e
  case holdupShed => exact only_of_frame (execHoldupShed_frame ..) e
  case holdupOpenDelay => exact only_of_frame (execHoldupOpenDelay_frame ..) e
  case holdupClosed => exact only_of_frame (execHoldupClosed_frame ..) e
  case holdupHalt => exact only_of_frame (execHoldupHalt_frame ..) e
  case holdupReadyCleared => exact only_of_frame (execHoldupReadyCleared_frame ..) e
  case holdupReadySet => exact only_of_frame (execHoldupReadySet_frame ..) e
  case enterTransport => exact only_of_frame (execEnterTransport_frame ..) e
  case transportConfirm => exact only_of_frame (execTransportConfirm_frame ..) e
  case transportDiesOff => exact only_of_frame (execTransportDiesOff_frame ..) e
  case transportWake => exact only_of_frame (execTransportWake_frame ..) e
  case coilSupplyThreshold => exact only_of_frame (execCoilSupplyThreshold_frame ..) e
  case connOpenChanged => exact only_of_frame (execConnOpenChanged_frame ..) e
  case switchReading => exact only_of_frame (execSwitchReading_frame ..) e
  case switchFaultRetry => exact only_of_frame (execSwitchFaultRetry_frame ..) e
  case sealOpen => exact only_of_frame (execSealOpen_frame ..) e
  case presenceButtonPress => exact only_of_frame (execPresenceButtonPress_frame ..) e
  case presenceEvent => exact only_of_frame (execPresenceEvent_frame ..) e
  case presenceStuck => exact only_of_frame (execPresenceStuck_frame ..) e
  case jSvcFitted => exact only_of_frame (execJSvcFitted_frame ..) e
  case tokenExpired => exact only_of_frame (execTokenExpired_frame ..) e
  case displayBlank => exact only_of_frame (execDisplayBlank_frame ..) e
  case journalReplayed => exact only_of_frame (execJournalReplayed_frame ..) e
  case runtimeStart => exact only_of_frame (execRuntimeStart_frame ..) e
  case enumerationComplete => exact only_of_frame (execEnumerationComplete_frame ..) e
  case historyInitComplete => exact only_of_frame (execHistoryInitComplete_frame ..) e
  case watchdogRestart => exact only_of_frame (execWatchdogRestart_frame ..) e
  case refclkFail => exact only_of_frame (execRefclkFail_frame ..) e
  case paceMeasurement => exact only_of_frame (execPaceMeasurement_frame ..) e
  case dieStalled => exact only_of_frame (execDieStalled_frame ..) e
  case managerHeartbeatMissing => exact only_of_frame (execManagerHeartbeatMissing_frame ..) e
  case dramCorrectedError => exact only_of_frame (execDramCorrectedError_frame ..) e
  case dramUncorrectableError => exact only_of_frame (execDramUncorrectableError_frame ..) e
  case scrubPass => exact only_of_frame (execScrubPass_frame ..) e
  case lapFire => exact only_of_frame (execLapFire_frame ..) e
  case returnMissing => exact only_of_frame (execReturnMissing_frame ..) e
  case ringPortLineLost => exact only_of_frame (execRingPortLineLost_frame ..) e
  case ringPortLinkReady => exact only_of_frame (execRingPortLinkReady_frame ..) e
  case batonReceived => exact only_of_frame (execBatonReceived_frame ..) e
  case collectionCutoff => exact only_of_frame (execCollectionCutoff_frame ..) e
  case lapDataComplete => exact only_of_frame (execLapDataComplete_frame ..) e
  case chargeArrival => exact only_of_frame (execChargeArrival_frame ..) e
  case resultInstant => exact only_of_frame (execResultInstant_frame ..) e
  case sentinelFit => exact only_of_frame (execSentinelFit_frame ..) e
  case falseStartSecond => exact only_of_frame (execFalseStartSecond_frame ..) e
  case shadowCheck => exact only_of_frame (execShadowCheck_frame ..) e
  case incrementalRound => exact only_of_frame (execIncrementalRound_frame ..) e
  case newEpoch => exact only_of_frame (execNewEpoch_frame ..) e
  case cmdTimeout => exact only_of_frame (execCmdTimeout_frame ..) e
  case resultFetch => exact only_of_frame (execResultFetch_frame ..) e
  case ringClose => exact only_of_frame (execRingClose_frame ..) e
  case closeRequest => exact only_of_frame (execCloseRequest_frame ..) e
  case cmpTest => exact only_of_frame (execCmpTest_frame ..) e
  case routineWireTest => exact only_of_frame (execRoutineWireTest_frame ..) e
  case runWireTest => exact only_of_frame (execRunWireTest_frame ..) e
  case authRetry => exact only_of_frame (execAuthRetry_frame ..) e
  case coulombSample => exact only_of_frame (execCoulombSample_frame ..) e
  case lapCurrentFrame => exact only_of_frame (execLapCurrentFrame_frame ..) e
  case warmupEnd => exact only_of_frame (execWarmupEnd_frame ..) e
  case sequencerEntry => exact only_of_frame (execSequencerEntry_frame ..) e
  case injectedConversion => exact only_of_frame (execInjectedConversion_frame ..) e
  case refSettled => exact only_of_frame (execRefSettled_frame ..) e
  case calLowPoint => exact only_of_frame (execCalLowPoint_frame ..) e
  case calHighPoint => exact only_of_frame (execCalHighPoint_frame ..) e
  case calCaptureEnd => exact only_of_frame (execCalCaptureEnd_frame ..) e
  case calCommit => exact only_of_frame (execCalCommit_frame ..) e
  case calAbort => exact only_of_frame (execCalAbort_frame ..) e
  case calTimeout => exact only_of_frame (execCalTimeout_frame ..) e
  case imdCycleEnd => exact only_of_frame (execImdCycleEnd_frame ..) e
  case imdPauseEnd => exact only_of_frame (execImdPauseEnd_frame ..) e
  case housekeepingRound => exact only_of_frame (execHousekeepingRound_frame ..) e
  case hvacRequest => exact only_of_frame (execHvacRequest_frame ..) e
  all_goals exact absurd row (by simp [Instr.ctorIdx])

theorem exec_only_second (e : exec c s = .next u) (row : 78 ≤ c.ctorIdx ∧ c.ctorIdx < 156) : Only (reachOf c) s u := by
  cases c <;> dsimp only [reachOf]
  case calderaTrip => exact only_of_frame (execCalderaTrip_frame ..) e
  case calderaRelease => exact only_of_frame (execCalderaRelease_frame ..) e
  case closeString => exact only_of_frame (execCloseString_frame ..) e
  case closingStep => exact only_of_frame (execClosingStep_frame ..) e
  case prechargeFail => exact only_of_frame (execPrechargeFail_frame ..) e
  case openString => exact only_of_frame (execOpenString_frame ..) e
  case openWait => exact only_of_frame (execOpenWait_frame ..) e
  case negCoilOff => exact only_of_frame (execNegCoilOff_frame ..) e
  case fbTime => exact only_of_frame (execFbTime_frame ..) e
  case mirrorContactChange => exact only_of_frame (execMirrorContactChange_frame ..) e
  case clearTrip => exact only_of_frame (execClearTrip_frame ..) e
  case faultLoopOpen => exact only_of_frame (execFaultLoopOpen_frame ..) e
  case fastOc => exact only_of_frame (execFastOc_frame ..) e
  case heartbeat => exact only_of_frame (execHeartbeat_frame ..) e
  case safeLoopInOpen => exact only_of_frame (execSafeLoopInOpen_frame ..) e
  case safeLoopOriginHold => exact only_of_frame (execSafeLoopOriginHold_frame ..) e
  case pulseTests => exact only_of_frame (execPulseTests_frame ..) e
  case offCoilReadback => exact only_of_frame (execOffCoilReadback_frame ..) e
  case safeStatusTelegram => exact only_of_frame (execSafeStatusTelegram_frame ..) e
  case safeCommand => exact only_of_frame (execSafeCommand_frame ..) e
  case safeCmdSingle => exact only_of_frame (execSafeCmdSingle_frame ..) e
  case enableMissing => exact only_of_frame (execEnableMissing_frame ..) e
  case integratorProfile => exact only_of_frame (execIntegratorProfile_frame ..) e
  case channelSample => exact only_of_frame (execChannelSample_frame ..) e
  case deadlineMiss => exact only_of_frame (execDeadlineMiss_frame ..) e
  case takeOver => exact only_of_frame (execTakeOver_frame ..) e
  case channelEnable => exact only_of_frame (execChannelEnable_frame ..) e
  case announceReceived => exact only_of_frame (execAnnounceReceived_frame ..) e
  case candidateReceived => exact only_of_frame (execCandidateReceived_frame ..) e
  case reportReceived => exact only_of_frame (execReportReceived_frame ..) e
  case allocationReceived => exact only_of_frame (execAllocationReceived_frame ..) e
  case peerRejected => exact only_of_frame (execPeerRejected_frame ..) e
  case announce => exact only_of_frame (execAnnounce_frame ..) e
  case roleListen => exact only_of_frame (execRoleListen_frame ..) e
  case roleGained => exact only_of_frame (execRoleGained_frame ..) e
  case managerLost => exact only_of_frame (execManagerLost_frame ..) e
  case allocHold => exact only_of_frame (execAllocHold_frame ..) e
  case blockIdConflict => exact only_of_frame (execBlockIdConflict_frame ..) e
  case dispatchCycle => exact only_of_frame (execDispatchCycle_frame ..) e
  case report => exact only_of_frame (execReport_frame ..) e
  case allocation => exact only_of_frame (execAllocation_frame ..) e
  case allocationApply => exact only_of_frame (execAllocationApply_frame ..) e
  case hostTimeout => exact only_of_frame (execHostTimeout_frame ..) e
  case setBlockPower => exact only_of_frame (execSetBlockPower_frame ..) e
  case getBlockState => exact only_of_frame (execGetBlockState_frame ..) e
  case lapUnitReceived => exact only_of_frame (execLapUnitReceived_frame ..) e
  case collectorRound => exact only_of_frame (execCollectorRound_frame ..) e
  case blockMaxAge => exact only_of_frame (execBlockMaxAge_frame ..) e
  case pinRequest => exact only_of_frame (execPinRequest_frame ..) e
  case releasePins => exact only_of_frame (execReleasePins_frame ..) e
  case triggerTrace => exact only_of_frame (execTriggerTrace_frame ..) e
  case captureFrozen => exact only_of_frame (execCaptureFrozen_frame ..) e
  case captureValid => exact only_of_frame (execCaptureValid_frame ..) e
  case tcpConnection => exact only_of_frame (execTcpConnection_frame ..) e
  case handshakeTimeout => exact only_of_frame (execHandshakeTimeout_frame ..) e
  case openSessionTimeout => exact only_of_frame (execOpenSessionTimeout_frame ..) e
  case connectionEnd => exact only_of_frame (execConnectionEnd_frame ..) e
  case openSession => exact only_of_frame (execOpenSession_frame ..) e
  case closeSession => exact only_of_frame (execCloseSession_frame ..) e
  case pingSession => exact only_of_frame (execPingSession_frame ..) e
  case sessionIdle => exact only_of_frame (execSessionIdle_frame ..) e
  case unreadableFrame => exact only_of_frame (execUnreadableFrame_frame ..) e
  case getObj => exact only_of_frame (execGetObj_frame ..) e
  case putObj => exact only_of_frame (execPutObj_frame ..) e
  case beginTxn => exact only_of_frame (execBeginTxn_frame ..) e
  case commitTxn => exact only_of_frame (execCommitTxn_frame ..) e
  case abortTxn => exact only_of_frame (execAbortTxn_frame ..) e
  case txnTimeout => exact only_of_frame (execTxnTimeout_frame ..) e
  case listObj => exact only_of_frame (execListObj_frame ..) e
  case openStream => exact only_of_frame (execOpenStream_frame ..) e
  case closeStream => exact only_of_frame (execCloseStream_frame ..) e
  case grantCredit => exact only_of_frame (execGrantCredit_frame ..) e
  case streamDataIn => exact only_of_frame (execStreamDataIn_frame ..) e
  case streamDataOut => exact only_of_frame (execStreamDataOut_frame ..) e
  case streamCredit => exact only_of_frame (execStreamCredit_frame ..) e
  case getIdentity => exact only_of_frame (execGetIdentity_frame ..) e
  case getCert => exact only_of_frame (execGetCert_frame ..) e
  case getQuote => exact only_of_frame (execGetQuote_frame ..) e
  all_goals exact absurd row (by simp [Instr.ctorIdx])

theorem exec_only_third (e : exec c s = .next u) (row : 156 ≤ c.ctorIdx) : Only (reachOf c) s u := by
  cases c <;> dsimp only [reachOf]
  case restartModule => exact only_of_frame (execRestartModule_frame ..) e
  case ledgerExport => exact only_of_frame (execLedgerExport_frame ..) e
  case ackEpoch => exact only_of_frame (execAckEpoch_frame ..) e
  case ledgerRestoreCommit => exact only_of_frame (execLedgerRestoreCommit_frame ..) e
  case ptpSync => exact only_of_frame (execPtpSync_frame ..) e
  case announcePtp => exact only_of_frame (execAnnouncePtp_frame ..) e
  case pdelayReq => exact only_of_frame (execPdelayReq_frame ..) e
  case pdelayExchange => exact only_of_frame (execPdelayExchange_frame ..) e
  case domainState => exact only_of_frame (execDomainState_frame ..) e
  case returnQual => exact only_of_frame (execReturnQual_frame ..) e
  case slewComplete => exact only_of_frame (execSlewComplete_frame ..) e
  case timeState => exact only_of_frame (execTimeState_frame ..) e
  case domainDisagree => exact only_of_frame (execDomainDisagree_frame ..) e
  case pacerOccurrence => exact only_of_frame (execPacerOccurrence_frame ..) e
  case pulseEnd => exact only_of_frame (execPulseEnd_frame ..) e
  case captureWindow => exact only_of_frame (execCaptureWindow_frame ..) e
  case capture => exact only_of_frame (execCapture_frame ..) e
  case canFrameReceived => exact only_of_frame (execCanFrameReceived_frame ..) e
  case canTxComplete => exact only_of_frame (execCanTxComplete_frame ..) e
  case recover => exact only_of_frame (execRecover_frame ..) e
  case busOffRecovered => exact only_of_frame (execBusOffRecovered_frame ..) e
  case txRequest => exact only_of_frame (execTxRequest_frame ..) e
  case ackCount => exact only_of_frame (execAckCount_frame ..) e
  case channelEn => exact only_of_frame (execChannelEn_frame ..) e
  case fallbackDatagram => exact only_of_frame (execFallbackDatagram_frame ..) e
  case i2cWrite => exact only_of_frame (execI2cWrite_frame ..) e
  case i2cRead => exact only_of_frame (execI2cRead_frame ..) e
  case stretchLimits => exact only_of_frame (execStretchLimits_frame ..) e
  case i2cSleep => exact only_of_frame (execI2cSleep_frame ..) e
  case i2cWake => exact only_of_frame (execI2cWake_frame ..) e
  case attentionWrite => exact only_of_frame (execAttentionWrite_frame ..) e
  case attnRetry => exact only_of_frame (execAttnRetry_frame ..) e
  case abortsRstart => exact only_of_frame (execAbortsRstart_frame ..) e
  case i2cIdleRelease => exact only_of_frame (execI2cIdleRelease_frame ..) e
  case busStuck => exact only_of_frame (execBusStuck_frame ..) e
  case recoveryRepeat => exact only_of_frame (execRecoveryRepeat_frame ..) e
  case portEn => exact only_of_frame (execPortEn_frame ..) e
  case imageUploadEnd => exact only_of_frame (execImageUploadEnd_frame ..) e
  case imageStaged => exact only_of_frame (execImageStaged_frame ..) e
  case activateImage => exact only_of_frame (execActivateImage_frame ..) e
  case spareReady => exact only_of_frame (execSpareReady_frame ..) e
  case dieHandover => exact only_of_frame (execDieHandover_frame ..) e
  case imageActivated => exact only_of_frame (execImageActivated_frame ..) e
  case handoverAbandoned => exact only_of_frame (execHandoverAbandoned_frame ..) e
  case rollbackImage => exact only_of_frame (execRollbackImage_frame ..) e
  case advanceFuses => exact only_of_frame (execAdvanceFuses_frame ..) e
  case recoveryLoader => exact only_of_frame (execRecoveryLoader_frame ..) e
  case confirmConfig => exact only_of_frame (execConfirmConfig_frame ..) e
  case configUpload => exact only_of_frame (execConfigUpload_frame ..) e
  case nodeImageUpload => exact only_of_frame (execNodeImageUpload_frame ..) e
  case nodeUpdated => exact only_of_frame (execNodeUpdated_frame ..) e
  case nodeCopyFailed => exact only_of_frame (execNodeCopyFailed_frame ..) e
  case startRequest => exact only_of_frame (execStartRequest_frame ..) e
  case enterService => exact only_of_frame (execEnterService_frame ..) e
  case enableDebug => exact only_of_frame (execEnableDebug_frame ..) e
  case leaveService => exact only_of_frame (execLeaveService_frame ..) e
  case serviceIdle => exact only_of_frame (execServiceIdle_frame ..) e
  case decommissionModule => exact only_of_frame (execDecommissionModule_frame ..) e
  case probeAttached => exact only_of_frame (execProbeAttached_frame ..) e
  case clusterHalt => exact only_of_frame (execClusterHalt_frame ..) e
  case trustList => exact only_of_frame (execTrustList_frame ..) e
  case commissioned => exact only_of_frame (execCommissioned_frame ..) e
  case tapStartOk => exact only_of_frame (execTapStartOk_frame ..) e
  case coverClosed => exact only_of_frame (execCoverClosed_frame ..) e
  case presenceButtonReleased => exact only_of_frame (execPresenceButtonReleased_frame ..) e
  case jSvcRemoved => exact only_of_frame (execJSvcRemoved_frame ..) e
  case coilShort => exact only_of_frame (execCoilShort_frame ..) e
  case faultLoopClosed => exact only_of_frame (execFaultLoopClosed_frame ..) e
  case netLinkChanged => exact only_of_frame (execNetLinkChanged_frame ..) e
  case candidate => exact only_of_frame (execCandidate_frame ..) e
  case canBusError => exact only_of_frame (execCanBusError_frame ..) e
  case busIntegrationComplete => exact only_of_frame (execBusIntegrationComplete_frame ..) e
  case spareSelfTest => exact only_of_frame (execSpareSelfTest_frame ..) e
  case storedWriteComplete => exact only_of_frame (execStoredWriteComplete_frame ..) e
  case collect => exact only_of_frame (execCollect_frame ..) e
  case wireRetest => exact only_of_frame (execWireRetest_frame ..) e
  all_goals exact absurd row (by simp [Instr.ctorIdx])

theorem exec_only (e : exec c s = .next u) : Only (reachOf c) s u :=
  if first : c.ctorIdx < 78 then exec_only_first e first
  else if second : c.ctorIdx < 156 then exec_only_second e ⟨Nat.le_of_not_lt first, second⟩
  else exec_only_third e (Nat.le_of_not_lt second)

end Rows

/-- A register of the state after reset reads the reset value of its field map: the store lists none. -/
theorem State.reset_rd (f : Fld) (i x : Nat) : State.reset.rd f i x = f.resetAt x := rfl

theorem step_of_pending {c : Instr} {q : List Instr} {s : State} (h : s.pending = c :: q) :
    step s = exec c (s.withPending q) := by
  rw [step, h]

theorem step_of_empty {s : State} (h : s.pending = []) : step s = .next s := by
  rw [step, h]

/-- Settles O1: the arms of step. -/
theorem stepRunsFrontCommand : Obligations.StepRunsFrontCommand :=
  ⟨fun _ _ _ h => step_of_pending h, fun _ h => step_of_empty h⟩

/-- Settles O2, by the laws of every meaning. -/
theorem everyCommandAnswers : Obligations.EveryCommandAnswers := fun c s =>
  (exec_keeps c s).imp fun _ h => h.1

/-- Settles O3: the state after reset is computed, and its store lists no register. -/
theorem resetIsSound : Obligations.ResetIsSound :=
  ⟨by decide, rfl, rfl, State.reset_rd⟩

/-- Settles O4: the queue is no part of what makes a state sound, and the front command keeps it sound. -/
theorem everyStepKeepsSoundness : Obligations.EveryStepKeepsSoundness := by
  intro s u sound run
  cases h : s.pending with
  | nil =>
    rw [step_of_empty h] at run
    cases run
    exact sound
  | cons c q =>
    rw [step_of_pending h] at run
    exact (exec_next_keeps run).inv sound

/-- Settles O5, by the frame of every meaning. -/
theorem frameOfEveryCommand : Obligations.FrameOfEveryCommand := fun _ _ _ e => exec_only e

/-- Settles O6, by the laws of every meaning. -/
theorem commandsOnlyAdd : Obligations.CommandsOnlyAdd := fun _ _ _ e =>
  have kept := exec_next_keeps e
  ⟨kept.now, kept.out, kept.pending, kept.free⟩

/-- Settles O7, by the laws of every meaning. -/
theorem factoryAndFusesStay : Obligations.FactoryAndFusesStay := fun _ _ _ e =>
  have kept := exec_next_keeps e
  ⟨kept.variant, kept.serial, kept.hwIssue, kept.romVersion, kept.macA, kept.macB, kept.fuse, kept.boots, kept.dead⟩

/-- Settles O8: a store in canonical order reads back what was written to it, and keeps its order. -/
theorem registerWriteIsReadBack : Obligations.RegisterWriteIsReadBack := fun s f i v x sound =>
  ⟨State.rd_wr ((State.inv_iff s).1 sound).1 f i v x, (State.wr_keeps (.refl s) f i v x).inv sound,
    fun g j y ne => State.rd_wr_ne s f g i j v x y ne.symm, fun p => by cases p <;> rfl⟩

end Sys2Proof.Machine
end

section
/-! PROOFS. The supply rows (chapter 03): what a change of the supply keeps of the supply's hidden state, the evaluation of AUX MAINS, the
end of an interruption, the tap converter, and the settling of SupplyChangesFollowTable (O9). -/

namespace Sys2Proof.Machine

open Sys2Proof.Obj

set_option Elab.async false

variable {a s u : State}

/-! ### One-bit registers among several written -/

theorem b2n_shown {w : Nat} (hw : w ≠ 0) (b : Bool) : (b2n b % 2 ^ w == 1) = b := by
  have two : 1 < 2 ^ w := Nat.one_lt_two_pow hw
  cases b <;> simp [b2n, Nat.mod_eq_of_lt two]

/-- A one-bit register reads as the truth value that is written last to it. -/
theorem State.wrAll_rdB (hs : s.objs.sorted = true) (n : Nat) (k l : List (Fld × Nat)) (f : Fld) (b : Bool)
    (h : (l.map Prod.fst).all (fun g => apart g 0 f 0) = true := by rfl) (hw : f.width ≠ 0 := by decide) :
    (s.wrAll n (k ++ (f, b2n b) :: l)).rdB f n = b := by
  rw [State.rdB, State.wrAll_rd hs n k l f _ h, b2n_shown hw]

/-! ### What is kept of the supply's hidden state -/

/-- The supply's hidden state without the POWER_STATE that was recorded last. -/
def Power.core (p : Power) : Power := { p with lastPower := 0 }

/-- Of the supply's hidden state, at most the POWER_STATE that was recorded last changes. -/
def PowerKept (s u : State) : Prop := u.power.core = s.power.core

/-- All that a frame can name but the supply. -/
def besidePower : Nat := 2 ^ 1024 - 1 - 2 ^ 4

theorem PowerKept.refl (s : State) : PowerKept s s := rfl

theorem PowerKept.trans (h : PowerKept a s) (k : PowerKept s u) : PowerKept a u := Eq.trans k h

theorem PowerKept.of_power (h : PowerKept a s) (e : u.power = s.power) : PowerKept a u := by
  unfold PowerKept at *
  rw [e, h]

theorem PowerKept.frame (h : PowerKept a s) (k : Frame besidePower s u) : PowerKept a u := h.of_power k.eq_power

theorem PowerKept.ite {p : Prop} {d : Decidable p} (h : PowerKept a s) (k : PowerKept a u) : PowerKept a (if p then s else u) := by
  split <;> assumption

theorem PowerKept.eachStr {f : Nat → State → State} (h : PowerKept a s) (hf : ∀ n v, PowerKept v (f n v)) :
    PowerKept a (s.eachStr f) :=
  List.foldlRecOn s.strList _ h fun v hv n _ => hv.trans (hf n v)

theorem PowerKept.supply (h : PowerKept s u) : u.power.supply = s.power.supply := by
  have e : u.power.core.supply = s.power.core.supply := congrArg Power.supply h
  exact e

theorem PowerKept.powerChange (h : PowerKept a s) (old : Supply) : PowerKept a (s.powerChange old) := by
  unfold State.powerChange
  extract_lets oldP new newP s1 power s2 s3 worse sev data s4 boot
  have h1 : PowerKept a s1 := h.frame (State.sourceRegs_frame (State.wr_frame (.refl s) ..))
  clear_value s1
  have h3 : PowerKept a s3 := PowerKept.frame (s := s2) (h1.trans rfl) (State.stamp_frame (.refl s2) ..)
  clear_value s3
  have h4 : PowerKept a s4 := h3.frame (State.compressCheck_frame (State.record_frame (.refl s3) ..))
  clear_value s4
  exact .ite h1 (.ite (.ite h4 (h4.frame (State.attention_frame (.refl s4) 1))) (h3.of_power rfl))

theorem State.setSupply_supply (s : State) (new : Supply) : (s.setSupply new).power.supply = new :=
  ((PowerKept.refl { s with power := { s.power with supply := new } }).powerChange s.power.supply).supply

theorem PowerKept.sprintCheck (h : PowerKept a s) : PowerKept a s.sprintCheck :=
  .ite h ((h.frame (State.wrB_frame (.refl s) ..)).powerChange _)

theorem PowerKept.stopLaps (h : PowerKept a s) (n : Nat) : PowerKept a (s.stopLaps n) := by
  unfold State.stopLaps
  extract_lets s1
  have h1 : PowerKept a s1 := h.frame (State.modLaps_frame (.refl s) n _)
  clear_value s1
  exact .ite ((h1.frame (State.wr_frame (.refl s1) ..)).sprintCheck.frame (State.restoreCheck_frame (.refl _))) h1

/-! ### The changes between NORMAL, BACKUP and HOLDUP -/

theorem State.enterBackup_supply (s : State) : s.enterBackup.power.supply = .backup := by
  unfold State.enterBackup
  extract_lets s1
  have rest (v : State) : Frame besidePower v v.ratesFollow.roleCheck := State.roleCheck_frame (State.ratesFollow_frame (.refl v))
  rw [(rest _).eq_power, State.setSupply_supply]

/-- The registers in which AUX MAINS and TAP IN are reported. -/
def supplyRegs : List Fld := [PowerStatus.AUX_PRESENT, PowerStatus.AUX_V, PowerStatus.TAP_V, PowerStatus.TAP_START_OK]

/-- All that a frame can name but those registers and the supply's hidden state. -/
def besideSupply : Nat := besideRegs supplyRegs - 2 ^ 4

theorem State.leaveBackup_supply (s : State) : s.leaveBackup.power.supply = .normal := by
  unfold State.leaveBackup
  extract_lets s1 power s2
  have h2 : s2.power.supply = .normal := by
    have k : Frame besidePower { s1 with power := { s1.power with supply := .normal } } s2 :=
      Frame.trans (State.ratesFollow_frame (State.tapFollows_frame (.refl _))) (State.sprintAhead_frame (.refl _))
    rw [k.eq_power]
  have k : Frame besidePower (s2.powerChange .backup) (s2.powerChange .backup).roleCheck := State.roleCheck_frame (.refl _)
  rw [k.eq_power, ((PowerKept.refl s2).powerChange .backup).supply, h2]

theorem State.enterHoldup_supply (s : State) (cause : Nat) : (s.enterHoldup cause).power.supply = .holdup := by
  unfold State.enterHoldup
  extract_lets r isOpen s1 power p s2 s3 s4 s5 s6 s7
  have h3 : s3.power.supply = .holdup := s2.setSupply_supply .holdup
  clear_value s3
  have h4 : PowerKept s3 s4 := (PowerKept.refl s3).eachStr fun n v => (PowerKept.refl v).stopLaps n
  clear_value s4
  have h7 : PowerKept s3 s7.roleCheck := h4.frame (State.roleCheck_frame (State.eachStr_frame (State.stopStreams_frame
    (State.cutJournal_frame (State.answerOpt_frame (.refl s4) ..))) _ fun n v =>
      State.dispatchFrame_frame (State.clampNow_frame (State.zeroSetpoint_frame (.refl v) n) n) n))
  split
  · exact h7.supply.trans h3
  · exact h3

/-! ### The clauses -/

section Clauses

variable {t mv : Nat}

theorem State.transDue_of_none (h : s.power.transOffAt = none) : s.transDue = false := by
  rw [State.transDue, h]

/-- The registers that show AUX MAINS and TAP IN, where only what follows them changes. -/
theorem auxMainsEvaluated (hi : s.inv = true) (hz pw : Nat) (dc : Bool) :
    ∃ u, exec (.auxMainsEvaluation t mv hz pw dc) s = .next u ∧
      u.rdB PowerStatus.AUX_PRESENT = decide ((if s.rdB PowerStatus.AUX_PRESENT then (if dc then 100000 else 75000)
        else if dc then 110000 else 80000) ≤ mv) ∧
      u.rd PowerStatus.AUX_V = min 65534 (mv / 100) ∧
      u.power.belowCount = if u.rdB PowerStatus.AUX_PRESENT then 0 else s.power.belowCount + 1 := by
  show ∃ u, execAuxMainsEvaluation t mv hz pw dc s = .next u ∧ _
  unfold execAuxMainsEvaluation
  extract_lets s1 p up down was is s2 s3 s4 s5 q s6 s7
  have is_eq : is = decide ((if s.rdB PowerStatus.AUX_PRESENT then (if dc then 100000 else 75000)
      else if dc then 110000 else 80000) ≤ mv) := by
    cases e : s.rdB PowerStatus.AUX_PRESENT <;> simp [is, was, up, down, s1, e]
  clear_value is
  have hs1 : s1.objs.sorted = true := sorted_of_inv hi
  have h2 : s2.rdB PowerStatus.AUX_PRESENT = is ∧ s2.rd PowerStatus.AUX_V = min 65534 (mv / 100) := by
    have wrote : s2 = s1.wrAll 0 [(PowerStatus.AUX_PRESENT, b2n is), (PowerStatus.AUX_DC, b2n dc),
      (PowerStatus.AUX_V, min 65534 (mv / 100))] := rfl
    rw [wrote]
    refine ⟨State.wrAll_rdB hs1 0 [] _ _ _, (State.wrAll_rd hs1 0 [_, _] _ _ _).trans ?_⟩
    exact Nat.mod_eq_of_lt (lt_of_le_of_lt (min_le_left ..) (by decide))
  clear_value s2
  have h5 : Frame besideSupply s2 s5 := by
    have h3 : Frame besideSupply s2 s3 := State.wr_frame (.refl s2) ..
    have h4 : Frame besideSupply s2 s4 := .ite (State.wr_frame h3 ..) h3
    exact .ite (State.bump_frame h4 ..) h4
  clear_value s5
  have h6 : Frame besideSupply s6 s7.tapFollows.sourceRegs :=
    State.sourceRegs_frame (State.tapFollows_frame (State.wrB_frame (.refl s6) ..))
  have shown : s7.tapFollows.sourceRegs.rdB PowerStatus.AUX_PRESENT = is :=
    (h6.rdB _ 0 0).trans ((h5.rdB PowerStatus.AUX_PRESENT 0 0).trans h2.1)
  refine ⟨_, rfl, shown.trans is_eq, (h6.rd _ 0 0).trans ((h5.rd PowerStatus.AUX_V 0 0).trans h2.2), ?_⟩
  rw [shown, h6.eq_power]
  rfl

theorem auxInterruptionEnded (normal : s.power.supply = .normal) (below : 21 ≤ s.power.belowCount)
    (idle : s.power.transOffAt = none) :
    ∃ u, exec (.auxInterruptionExceeded t) s = .next u ∧
      u.power.supply = if s.rdB PowerStatus.TAP_RUNNING then .backup else .holdup := by
  refine ⟨_, congrArg Host.Outcome.next (if_pos ⟨normal, below⟩), ?_⟩
  rw [State.transDue_of_none (s := s.at t) idle, if_neg Bool.false_ne_true, State.at_rdB]
  split
  · exact State.enterBackup_supply _
  · exact State.enterHoldup_supply ..

theorem auxReturned {since : Nat} (backup : s.power.supply = .backup) (up : s.power.auxSince = some since)
    (present : s.rdB PowerStatus.AUX_PRESENT = true) (qualified : since + secs (s.rd PowerConfig.AUX_RETURN_QUAL) ≤ t)
    (idle : s.power.transOffAt = none) : ∃ u, exec (.auxReturnQual t) s = .next u ∧ u.power.supply = .normal := by
  refine ⟨(s.at t).leaveBackup, ?_, State.leaveBackup_supply _⟩
  have met : (s.at t).power.supply = .backup ∧ (s.at t).rdB PowerStatus.AUX_PRESENT = true ∧
      since + secs ((s.at t).rd PowerConfig.AUX_RETURN_QUAL) ≤ (s.at t).now :=
    ⟨backup, present, qualified.trans (le_max_right ..)⟩
  show execAuxReturnQual t s = _
  unfold execAuxReturnQual
  dsimp only
  rw [show (s.at t).power.auxSince = some since from up]
  dsimp only
  rw [if_pos met, State.transDue_of_none (s := s.at t) idle, if_neg Bool.false_ne_true]

/-- What a measurement of TAP IN shows. -/
theorem State.tapRegs_shows (hs : s.objs.sorted = true) (mv : Nat) :
    (s.tapRegs mv).rd PowerStatus.TAP_V = min 65534 (mv / 100) ∧
      (s.tapRegs mv).rdB PowerStatus.TAP_START_OK = decide (200000 ≤ mv) := by
  have wrote : s.tapRegs mv = s.wrAll 0 [(PowerStatus.TAP_V, min 65534 (mv / 100)),
    (PowerStatus.TAP_START_OK, b2n (decide (200000 ≤ mv)))] := rfl
  rw [wrote]
  refine ⟨(State.wrAll_rd hs 0 [] _ _ _).trans ?_, State.wrAll_rdB hs 0 [_] _ _ _⟩
  exact Nat.mod_eq_of_lt (lt_of_le_of_lt (min_le_left ..) (by decide))

theorem State.tapRegs_sorted (hs : s.objs.sorted = true) (mv : Nat) : (s.tapRegs mv).objs.sorted = true :=
  State.wrAll_sorted hs 0 [(_, _), (PowerStatus.TAP_START_OK, b2n (decide (200000 ≤ mv)))]

/-- The registers of AUX MAINS and whether the tap converter runs are not those of a measurement of TAP IN. -/
theorem State.tapRegs_frame' (s : State) (mv : Nat) :
    Frame (besideRegs [PowerStatus.AUX_PRESENT, PowerStatus.TAP_RUNNING] - 2 ^ 4) s (s.tapRegs mv) :=
  State.wrB_frame (State.wr_frame (.refl s) ..) ..

/-- In BACKUP the tap converter runs on, and starts where it may. -/
theorem State.tapFollows_backup (hs : s.objs.sorted = true) (backup : s.power.supply = .backup) (idle : s.power.transOffAt = none) :
    s.tapFollows.rdB PowerStatus.TAP_RUNNING = (s.rdB PowerStatus.TAP_RUNNING || s.rdB PowerStatus.TAP_START_OK) := by
  unfold State.tapFollows
  rw [State.rdB_wrB hs _ _ _ _ (by decide), backup, idle]
  rfl

theorem tapStarted (hi : s.inv = true) (backup : s.power.supply = .backup) (high : 150000 ≤ mv) (idle : s.power.transOffAt = none) :
    ∃ u, exec (.tapStartOk t mv) s = .next u ∧ u.rd PowerStatus.TAP_V = min 65534 (mv / 100) ∧
      u.rdB PowerStatus.TAP_START_OK = decide (200000 ≤ mv) ∧
      u.rdB PowerStatus.TAP_RUNNING = (s.rdB PowerStatus.TAP_RUNNING || decide (200000 ≤ mv)) := by
  obtain ⟨shown, may⟩ := State.tapRegs_shows (s := s.at t) (sorted_of_inv hi) mv
  have before := (s.at t).tapRegs_frame' mv
  have after : Frame besideSupply ((s.at t).tapRegs mv) ((s.at t).tapRegs mv).tapFollows := State.tapFollows_frame (.refl _)
  refine ⟨_, congrArg Host.Outcome.next (if_pos high), (after.rd ..).trans shown, (after.rdB ..).trans may, ?_⟩
  rw [State.tapFollows_backup (State.tapRegs_sorted (s := s.at t) (sorted_of_inv hi) mv) (by rw [before.eq_power]; exact backup)
    (by rw [before.eq_power]; exact idle), may, before.rdB PowerStatus.TAP_RUNNING 0 0, State.at_rdB]

/-- A tap converter that stands and may not start goes on standing. -/
theorem State.tapFollows_stands (hs : s.objs.sorted = true) (stands : s.rdB PowerStatus.TAP_RUNNING = false)
    (low : s.rdB PowerStatus.TAP_START_OK = false) : s.tapFollows.rdB PowerStatus.TAP_RUNNING = false := by
  unfold State.tapFollows
  rw [State.rdB_wrB hs _ _ _ _ (by decide), stands, low, Bool.or_false, Bool.and_false]

/-- A tap converter that stands and may not start stands after BACKUP. -/
theorem State.leaveBackup_tap (hi : s.inv = true) (stands : s.rdB PowerStatus.TAP_RUNNING = false)
    (low : s.rdB PowerStatus.TAP_START_OK = false) : s.leaveBackup.rdB PowerStatus.TAP_RUNNING = false := by
  unfold State.leaveBackup
  extract_lets s1 power s2
  have h1 : Frame (besideRegs [PowerStatus.TAP_RUNNING, PowerStatus.TAP_START_OK]) s s1 := State.endBackup_frame (.refl s)
  have i1 : s1.inv = true := (State.endBackup_keeps (.refl s)).inv hi
  clear_value s1
  have follows (v : State) : Frame (besideRegs [PowerStatus.TAP_RUNNING]) v ((v.ratesFollow.sprintAhead).powerChange .backup).roleCheck :=
    State.roleCheck_frame (State.powerChange_frame (State.sprintAhead_frame (State.ratesFollow_frame (.refl v))) _)
  exact ((follows _).rdB PowerStatus.TAP_RUNNING 0 0).trans
    (State.tapFollows_stands (s := { s1 with power := { power with supply := .normal } }) (sorted_of_inv i1) ((h1.rdB PowerStatus.TAP_RUNNING 0 0).trans stands)
      ((h1.rdB PowerStatus.TAP_START_OK 0 0).trans low))

theorem State.enterHoldup_tap (hi : s.inv = true) (cause : Nat) : (s.enterHoldup cause).rdB PowerStatus.TAP_RUNNING = false := by
  unfold State.enterHoldup
  extract_lets r isOpen s1 power p s2 s3 s4 s5 s6 s7
  have h1 : Keeps s s1 := State.endBackup_keeps (.refl s)
  clear_value s1
  have h2 : Keeps s s2 := Keeps.mk' h1 le_rfl rfl
  clear_value s2
  have h3 : s3.rdB PowerStatus.TAP_RUNNING = false :=
    State.rdB_wrB (sorted_of_inv ((State.setSupply_keeps h2 .holdup).inv hi)) _ _ _ _ (by decide)
  clear_value s3
  have h7 : Frame (besideRegs [PowerStatus.TAP_RUNNING]) s3 s7.roleCheck :=
    State.roleCheck_frame (State.eachStr_frame (State.stopStreams_frame (State.cutJournal_frame (State.answerOpt_frame
      (State.eachStr_frame (.refl s3) _ fun n v => State.stopLaps_frame (.refl v) n) ..))) _ fun n v =>
        State.dispatchFrame_frame (State.clampNow_frame (State.zeroSetpoint_frame (.refl v) n) n) n)
  split
  · exact (h7.rdB ..).trans h3
  · exact h3

theorem tapStopped (hi : s.inv = true) (low : mv < 150000) (backup : s.power.supply = .backup) (idle : s.power.transOffAt = none) :
    ∃ u, exec (.tapConverterStop t mv) s = .next u ∧ u.rdB PowerStatus.TAP_RUNNING = false ∧
      u.power.supply = if s.rdB PowerStatus.AUX_PRESENT then .normal else .holdup := by
  refine ⟨_, rfl, ?_⟩
  unfold State.tapMeasured
  extract_lets s1 s2
  have h1 : Frame (besideRegs [PowerStatus.AUX_PRESENT, PowerStatus.TAP_RUNNING] - 2 ^ 4) (s.at t) s1 := (s.at t).tapRegs_frame' mv
  have k1 : Keeps (s.at t) s1 := State.tapRegs_keeps (.refl _) mv
  have may : s1.rdB PowerStatus.TAP_START_OK = false :=
    (State.tapRegs_shows (s := s.at t) (sorted_of_inv hi) mv).2.trans (decide_eq_false (by omega))
  clear_value s1
  have h2 : Frame (besideRegs [PowerStatus.AUX_PRESENT, PowerStatus.TAP_START_OK] - 2 ^ 4) s1 s2 := State.wrB_frame (.refl s1) ..
  have stands : s2.rdB PowerStatus.TAP_RUNNING = false := State.rdB_wrB (sorted_of_inv (k1.inv hi)) _ _ _ _ (by decide)
  have i2 : s2.inv = true := (State.wrB_keeps k1 ..).inv hi
  clear_value s2
  have power2 : s2.power = s.power := h2.eq_power.trans h1.eq_power
  rw [if_neg (Nat.not_le.2 low), if_pos (by rw [power2]; exact backup), State.transDue_of_none (by rw [power2]; exact idle),
    if_neg Bool.false_ne_true, power2, idle, Option.isSome_none, if_neg Bool.false_ne_true,
    (h2.rdB PowerStatus.AUX_PRESENT 0 0).trans (h1.rdB PowerStatus.AUX_PRESENT 0 0), State.at_rdB]
  split
  · exact ⟨State.leaveBackup_tap i2 stands ((h2.rdB ..).trans may), State.leaveBackup_supply s2⟩
  · exact ⟨State.enterHoldup_tap i2 2, State.enterHoldup_supply ..⟩

theorem tapOverloaded {since : Nat} (hi : s.inv = true) (powered : s.power.powered = true)
    (runs : s.rdB PowerStatus.TAP_RUNNING = true) (long : since + secs 1 ≤ t) :
    ∃ u, exec (.tapOverload t since) s = .next u ∧ u.rdB PowerStatus.TAP_OVERLOAD = true ∧
      ∀ (f : Fld) (i x : Nat), f.key i x ≠ PowerStatus.TAP_OVERLOAD.key 0 0 → u.rd f i x = s.rd f i x :=
  ⟨_, congrArg Host.Outcome.next (if_pos ⟨powered, runs, long.trans (le_max_right ..)⟩),
    State.rdB_wrB (s := s.at t) (sorted_of_inv hi) _ _ _ _ (by decide),
    fun f i x ne => State.rd_wr_ne (s.at t) _ f 0 i _ 0 x ne.symm⟩

end Clauses

/-- Settles O9, row by row. -/
theorem supplyChangesFollowTable : Obligations.SupplyChangesFollowTable :=
  ⟨fun _ _ hz pw dc _ hi => auxMainsEvaluated hi hz pw dc, fun _ _ normal below idle => auxInterruptionEnded normal below idle,
    fun _ _ _ backup up present qualified idle => auxReturned backup up present qualified idle,
    fun _ _ _ hi backup high idle => tapStarted hi backup high idle, fun _ _ _ hi low backup idle => tapStopped hi low backup idle,
    fun _ _ _ hi powered runs long => tapOverloaded hi powered runs long⟩

end Sys2Proof.Machine
end

section
/-! PROOFS. A statement of chapter 03 that a state refutes: the end of HOLDUP under a register wider than its field
(HoldupRunsItsSequence). -/

namespace Sys2Proof.Machine

open Sys2Proof.Obj

set_option Elab.async false

/-! ### HoldupRunsItsSequence: AUX_PRESENT holds a value of two bits

A module that halts keeps what is measured at its terminals (State.powerOff), and writes each reading again, cut to the width of its
field. AUX_PRESENT has one bit (Table 3.2), and no row leaves more in it; a sound state may hold 3 there all the same, since
State.inv orders the registers and does not bound them. It reads as no AUX MAINS before the module halts, and as AUX MAINS
after. -/

/-- In HOLDUP, the TRANSPORT flag is set and AUX_PRESENT holds 3. -/
def wideAuxHoldup : State :=
  let s := startedWith [] []
  { s with
    objs := [(PowerStatus.AUX_PRESENT.key 0 0, 3)]
    nv := { s.nv with transport := true }
    power := { s.power with supply := .holdup } }

theorem wideAuxHoldup_transports :
    nextPasses (.holdupHalt 0 ⟨true, []⟩) wideAuxHoldup (fun u => u.power.supply == .transport) = true := by
  decide +kernel

/-- Refutes O10, by the clause of HOLDUP_HALT: AUX MAINS reads absent and the flag is set, and the module is in TRANSPORT instead
of OFF. -/
theorem not_holdupRunsItsSequence : ¬ Obligations.HoldupRunsItsSequence := by
  intro ⟨_, _, _, _, _, halts⟩
  obtain ⟨u, run, flagged, -⟩ :=
    halts 0 ⟨true, []⟩ wideAuxHoldup (by decide +kernel) (by decide +kernel) (Or.inr rfl)
  have absent : wideAuxHoldup.rdB PowerStatus.AUX_PRESENT = false := by decide +kernel
  obtain ⟨off, -⟩ := flagged (by decide +kernel)
  refine not_exists_next (P := fun u => u.power.supply = .off) _ wideAuxHoldup_transports (fun u transports off => ?_) ⟨u, run, ?_⟩
  · simp [off] at transports
  · rw [off, absent, if_neg Bool.false_ne_true]

end Sys2Proof.Machine
end

section
/-! PROOFS. A start of an unpowered module (Table 3.2, Table 4.1): what its steps keep of what it is begun with, where it goes on and
where it is held. -/

namespace Sys2Proof.Machine

open Sys2Proof.Obj

set_option Elab.async false

variable {a s u : State}

/-! ### What the steps of a start keep -/

/-- All that a frame can name but the hidden state of the supply and of what is stored. -/
def besideSupplyNv : Nat := 2 ^ 1024 - 1 - 2 ^ 3 - 2 ^ 4

/-- All that a frame can name but what is stored. -/
def besideNv : Nat := 2 ^ 1024 - 1 - 2 ^ 3

/-- The supply state and the TRANSPORT flag are as before. -/
structure SupplyKept (s u : State) : Prop where
  supply : u.power.supply = s.power.supply
  flag : u.nv.transport = s.nv.transport

theorem SupplyKept.refl (s : State) : SupplyKept s s := ⟨rfl, rfl⟩

theorem SupplyKept.trans (h : SupplyKept a s) (k : SupplyKept s u) : SupplyKept a u :=
  ⟨k.supply.trans h.supply, k.flag.trans h.flag⟩

theorem SupplyKept.frame (h : SupplyKept a s) (k : Frame besideSupplyNv s u) : SupplyKept a u :=
  h.trans ⟨congrArg Power.supply k.eq_power, congrArg Nonvol.transport k.eq_nv⟩

theorem SupplyKept.ite {p : Prop} {d : Decidable p} (h : SupplyKept a s) (k : SupplyKept a u) :
    SupplyKept a (if p then s else u) := by
  split <;> assumption

theorem SupplyKept.powerChange (s : State) (old : Supply) : SupplyKept s (s.powerChange old) :=
  ⟨((PowerKept.refl s).powerChange old).supply,
    congrArg Nonvol.transport (State.powerChange_frame (M := besideNv) (.refl s) old).eq_nv⟩

theorem SupplyKept.chooseConfig (s : State) : SupplyKept s s.chooseConfig := by
  unfold State.chooseConfig
  dsimp only
  split
  · exact ⟨rfl, rfl⟩
  · exact .refl s

theorem SupplyKept.finishStart (h : SupplyKept a s) : SupplyKept a s.finishStart := by
  unfold State.finishStart
  extract_lets s1 nv s2 s3 s4 s5 s6 s7 s8 s9 s10 s11 panel s12 s13 sec s14 s15 s16 s17 boot s18 s19
  have h1 : SupplyKept a s1 := h.trans (.chooseConfig s)
  clear_value s1
  have h2 : SupplyKept a s2 := h1.trans ⟨rfl, rfl⟩
  clear_value s2
  have h4 : SupplyKept a s4 := (h2.frame (State.factoryRegs_frame (.refl s2))).trans ⟨rfl, rfl⟩
  clear_value s4
  have h10 : Frame besideSupplyNv s4 s10 := State.wr_frame (State.coverAtStart_frame (State.switchRegs_frame
    (State.wakeRegs_frame (State.imageRegs_frame (State.setPhase_frame (State.extendSlot_frame (State.extendSlot_frame
      (State.wr_frame (.refl s4) ..) _ _) _ _) 5)))) _) ..
  clear_value s10
  have h12 : Frame besideSupplyNv s4 s12 := .ite (State.applySwitches_frame h10) (State.wrB_frame ((State.eachStr_frame
    (State.applyMask_frame h10) _ fun n v => State.setProfile_frame (.refl v) n []).on_panel _) ..)
  clear_value s12
  have h17 : Frame besideSupplyNv s4 s17 := State.hvacTake_frame (State.loopOut_frame (State.eachStr_frame
    (State.trustRegs_frame (State.extendSlot_frame (State.wr_frame (State.extendSlot_frame h12 _ _) ..) _ _)) _ fun n v =>
      State.latchAtStart_frame (.refl v) n))
  clear_value s17
  have h19 : Frame besideSupplyNv s4 s19 := State.setPhase_frame (s := s18) (h17.on_boot _) 6
  clear_value s19
  exact h4.frame (State.setPhase_frame (State.extendSlot_frame h19 _ _) 7)

theorem SupplyKept.slotChosen (h : SupplyKept a s) : SupplyKept a s.slotChosen := by
  unfold State.slotChosen
  extract_lets x y boot s1 k s2 s3
  have h1 : Frame besideSupplyNv s s1 := Frame.on_boot (m := besideSupplyNv) (.refl s) { s.boot with halt := true, slotFail := _ }
  clear_value s1
  have h3 : Frame besideSupplyNv s s3 :=
    State.setPhase_frame (State.extendSlot_frame (State.wrB_frame (State.wr_frame (.refl s) ..) ..) _ _) 4
  clear_value s3
  exact .ite (h.frame (State.loopOut_frame (State.wr_frame h1 ..))) (.ite (h.frame h3) (h.frame h3).finishStart)

/-- A start leaves the supply it has begun under, and the TRANSPORT flag. -/
theorem SupplyKept.beginStart (s : State) (cause detail : Nat) (cover : Bool) : SupplyKept s (s.beginStart cause detail cover) := by
  rw [State.beginStart_eq]
  refine .slotChosen ?_
  unfold State.romStarted
  extract_lets s1 s2 s3 s4
  have h1 : SupplyKept s s1 := SupplyKept.trans (s := s.startBegun cause detail cover) ⟨rfl, rfl⟩ (.powerChange _ .off)
  clear_value s1
  have h4 : Frame besideSupplyNv s1 s4 := State.eachStr_frame (State.wrB_frame (State.wr_frame (State.wr_frame (.refl s1) ..) ..) ..)
    _ fun n v => State.wrB_frame (.refl v) ..
  clear_value s4
  exact h1.frame (State.extendSlot_frame h4 _ _)

/-! ### A start of an unpowered module -/

theorem State.beginStart_begun (run : s.hist.run = false) (cause detail : Nat) (cover : Bool) :
    (s.beginStart cause detail cover).boot.cause = cause ∧ (s.beginStart cause detail cover).boot.t0 = s.now :=
  have kept := State.beginStart_kept run cause detail cover
  ⟨kept.cause, kept.began⟩

/-- What a start of an unpowered module finds, before its steps. -/
def State.readied (s : State) (normal : Bool) (sw : List Nat) (jumper button : Bool) : State :=
  let s := s.clearRun (keepMeasured s.objs measuredModule measuredString)
  let press := if button then some (s.panel.pressAt.getD s.now) else none
  let s := { s with power := { s.power with supply := if normal then .normal else .backup,
                                            backupFrom := if normal then none else some s.now },
                    panel := { s.panel with sw := sw, pressAt := press, fired := button } }
  let s := (s.wrB PowerStatus.TAP_RUNNING 0 (!normal)).wr PowerStatus.BACKUP_ENTRIES 0 (b2n (!normal))
  let s := (s.wr PowerStatus.POWER_STATE 0 s.powerNow).sourceRegs
  s.wrB ModuleTerminals.J_SVC_FITTED 0 jumper

/-- The dies are held in reset by the release comparators that read hot. -/
def State.heldHot (s : State) (cover : Bool) (hot : List (Nat × Nat)) : State :=
  { s with
    thermal := { s.thermal with first := hot.head?, mask := hot.foldl (fun (m : Nat) (x : Nat × Nat) => setBit m x.1 true) 0, coolSince := some s.now }
    power := { s.power with powered := true }
    boot := { s.boot with halt := true }
    panel := { s.panel with cover := cover, lit := false } }.loopOut

theorem State.powerUp_eq (s : State) (normal : Bool) (cause detail : Nat) (sw : List Nat) (cover jumper button : Bool)
    (hot : List (Nat × Nat)) :
    s.powerUp normal cause detail sw cover jumper button hot =
      if (hot.filter fun x => (s.readied normal sw jumper button).hasDie x.1).isEmpty then
        (s.readied normal sw jumper button).beginStart cause detail cover
      else (s.readied normal sw jumper button).heldHot cover
        (hot.filter fun x => (s.readied normal sw jumper button).hasDie x.1) := rfl

/-- What a start of an unpowered module finds is under the supply it starts under, and nothing of a run. -/
theorem State.readied_fresh (s : State) (normal : Bool) (sw : List Nat) (jumper button : Bool) :
    let v := s.readied normal sw jumper button
    v.power.supply = (if normal then .normal else .backup) ∧ v.nv = s.nv ∧ v.now = s.now ∧ v.hist.run = false := by
  unfold State.readied
  extract_lets s1 press power panel s2 s3 s4
  have h : Frame (besideSupplyNv - 2 ^ 9 - 1) s2 (s4.wrB ModuleTerminals.J_SVC_FITTED 0 jumper) :=
    State.wrB_frame (State.sourceRegs_frame (State.wr_frame (State.wr_frame (State.wrB_frame (.refl s2) ..) ..) ..)) ..
  exact ⟨congrArg Power.supply h.eq_power, h.eq_nv, h.eq_now, congrArg Hist.run h.eq_hist⟩

/-- The latch is set with the first release comparator that reads hot. -/
theorem State.heldHot_holds (s : State) (cover : Bool) (hot : List (Nat × Nat)) :
    (s.heldHot cover hot).power.supply = s.power.supply ∧ (s.heldHot cover hot).nv = s.nv ∧
      (s.heldHot cover hot).thermal.first = hot.head? ∧ (s.heldHot cover hot).boot.halt = true := by
  unfold State.heldHot
  extract_lets thermal power boot panel
  have h (v : State) : Frame (besideSupplyNv - 2 ^ 6 - 2 ^ 15) v v.loopOut := State.loopOut_frame (.refl v)
  exact ⟨by rw [(h _).eq_power], (h _).eq_nv, by rw [(h _).eq_thermal], by rw [(h _).eq_boot]⟩

/-- A start from OFF under a supply is in that supply's state, keeps the TRANSPORT flag, and begins its steps or is held. -/
theorem State.powerUp_starts {t : Nat} (now : u.now = max s.now t) (nv : u.nv.variant = s.nv.variant) (normal : Bool)
    (cause detail : Nat) (sw : List Nat) (cover jumper button : Bool) (hot : List (Nat × Nat)) :
    (u.powerUp normal cause detail sw cover jumper button hot).power.supply = (if normal then .normal else .backup) ∧
      (u.powerUp normal cause detail sw cover jumper button hot).nv.transport = u.nv.transport ∧
      Starts hot cause t s (u.powerUp normal cause detail sw cover jumper button hot) := by
  rw [State.powerUp_eq]
  obtain ⟨supply5, nv5, now5, run5⟩ := u.readied_fresh normal sw jumper button
  generalize u.readied normal sw jumper button = v at *
  have dies : v.hasDie = s.hasDie := by
    unfold State.hasDie State.strings
    rw [nv5, nv]
  rw [dies]
  cases fitted : hot.filter fun x => s.hasDie x.1 with
  | nil =>
    obtain ⟨supply, flag⟩ := SupplyKept.beginStart v cause detail cover
    obtain ⟨begun, began⟩ := State.beginStart_begun run5 cause detail cover
    exact ⟨supply.trans supply5, flag.trans (congrArg Nonvol.transport nv5), fun _ => ⟨begun, began.trans (now5.trans now)⟩,
      fun ne => absurd fitted ne⟩
  | cons x l =>
    obtain ⟨supply, held, first, halt⟩ := v.heldHot_holds cover (x :: l)
    exact ⟨supply.trans supply5, congrArg Nonvol.transport (held.trans nv5), fun e => absurd (fitted.symm.trans e) (by simp),
      fun _ => ⟨first.trans (congrArg List.head? fitted.symm), halt⟩⟩

end Sys2Proof.Machine
end

section
/-! PROOFS. TRANSPORT is entered and left, and OFF is left (chapter 03, chapter 04), and the settling of TransportAndStart (O11). -/

namespace Sys2Proof.Machine

open Sys2Proof.Obj

set_option Elab.async false

variable {s u : State} {t a : Nat} {r : Req} {x : Sess} {rid : Rid}

/-! ### ENTER_TRANSPORT -/

theorem State.useToken_state (hs : s.objs.sorted = true) (sess : Nat) : (s.useToken sess).rd PresenceStatus.TOKEN_STATE = 2 := by
  unfold State.useToken
  extract_lets sec s1 s2 s3
  have h : Frame (besideRegs [PresenceStatus.TOKEN_STATE]) s2 (s3.bump PresenceStatus.TOKENS_USED) :=
    State.bump_frame (State.wr_frame (.refl s2) ..) ..
  exact (h.rd PresenceStatus.TOKEN_STATE 0 0).trans (State.rd_wr (s := s1) hs _ 0 2 0)

/-- Every check of ENTER_TRANSPORT passes. -/
theorem State.transportRefusal_none {sess : Nat} (h3 : s.security ≠ 3) (h4 : s.security ≠ 4) (token : s.tokenOk sess false = true)
    (opened : s.notOpen = 0) (update : s.updating = false) (idle : s.power.transRid = none) (off : s.power.transOffAt = none)
    (wakes : s.wakeSet = true) (powered : s.inHoldup = false) : s.transportRefusal sess = none := by
  rw [State.transportRefusal_of_token h3 h4 token]
  simp [State.transportConditions, firstRef_cons, opened, update, idle, off, wakes, powered]

theorem transportEntered (hi : s.inv = true) (served : Served r 3 s x) (accepted : (s.at t).transportRefusal x.num = none) :
    ∃ u, exec (.enterTransport t r []) s = .next u ∧ u.nv.transport = true ∧ u.sec.bound = x.num ∧
      u.rd PresenceStatus.TOKEN_STATE = 2 ∧ u.power.transRid = some ⟨r.conn, x.num, 0x74, r.seq, x.next⟩ :=
  ⟨_, exec_enterTransport_accepted served accepted, by simp, by simp,
    ((State.nextSleep_frame0 _).rd PresenceStatus.TOKEN_STATE 0 0).trans
      (State.useToken_state (s := s.admitted t r 0x74 x) (sorted_of_inv (s := s) hi) _), by simp⟩

/-! ### TRANSPORT_CONFIRM and TRANSPORT_DIES_OFF -/

/-- An enumeration only sends. -/
theorem State.sleepEnum_eq (s : State) : ∃ o : List Out, s.sleepEnum = { s with out := o } := by
  refine List.foldlRecOn (motive := fun v => ∃ o : List Out, v = { s with out := o }) _ _ ⟨s.out, rfl⟩ fun v hv n _ => ?_
  obtain ⟨o, rfl⟩ := hv
  exact ⟨_, rfl⟩

theorem transportEnumerated (awake : List (Nat × Nat)) (asked : s.power.transRid = some rid) (sent : s.sleepSent = true)
    (due : s.power.transAt + msec 250 ≤ t) (first : s.power.transEnum = none) :
    ∃ u, exec (.transportConfirm t awake) s = .next u ∧ u.power.transEnum = some (max s.now t, awake) ∧
      u.power.transRid = some rid := by
  have met : (s.at t).power.transRid.isSome = true ∧ (s.at t).sleepSent = true ∧ (s.at t).power.transAt + msec 250 ≤ (s.at t).now :=
    ⟨Option.isSome_iff_exists.2 ⟨rid, asked⟩, sent, due.trans (le_max_right ..)⟩
  have same : (s.at t).sleepEnum.power = s.power := (State.sleepEnum_frame (M := 0x4000000) (.refl (s.at t))).eq_power
  have run : exec (.transportConfirm t awake) s = .next { (s.at t).sleepEnum with
      power := { (s.at t).sleepEnum.power with transEnum := some (max s.now t, awake) } } := by
    refine (congrArg Host.Outcome.next (if_pos met)).trans ?_
    dsimp only
    rw [show (s.at t).power.transEnum = none from first]
    rfl
  exact ⟨_, run, rfl, (congrArg Power.transRid same).trans asked⟩

/-- A try in which every node answers and none is found awake completes the command. -/
theorem State.sleepJudged_asleep (answered : ∀ n ∈ s.sleepOrder, s.power.transAnswers.contains n = true) :
    s.sleepJudged [] = (({ s.answerOpt s.power.transRid stOk [] with
      power := { (s.answerOpt s.power.transRid stOk []).power with
        transRid := none, transEnum := none, transOffAt := some ((s.answerOpt s.power.transRid stOk []).now + secs 1) } }).wrB
          PowerStatus.TAP_RUNNING 0 false) := by
  have none_left : (s.sleepOrder.filter fun x => !s.power.transAnswers.contains x || [].contains x) = [] := by
    simpa using answered
  unfold State.sleepJudged
  dsimp only
  rw [none_left]
  rfl

theorem transportConfirmed (hi : s.inv = true) (asked : s.power.transRid = some rid) (sent : s.sleepSent = true)
    (due : s.power.transAt + msec 250 ≤ t) (first : s.power.transEnum = some (a, [])) (second : a + msec 100 ≤ t)
    (answered : ∀ n ∈ s.sleepOrder, s.power.transAnswers.contains n = true) (found : s.sess? rid.sess = some x)
    (on : x.conn = rid.conn) (waits : x.outst = [⟨rid.cmd, rid.seq, none, rid.no⟩]) :
    ∃ u, exec (.transportConfirm t []) s = .next u ∧ u.power.transRid = none ∧
      u.power.transOffAt = some (max s.now t + secs 1) ∧ u.rdB PowerStatus.TAP_RUNNING = false ∧
      Out.frame rid.conn flagResponse rid.cmd stOk rid.seq rid.sess [] ∈ u.out := by
  have met : (s.at t).power.transRid.isSome = true ∧ (s.at t).sleepSent = true ∧ (s.at t).power.transAt + msec 250 ≤ (s.at t).now :=
    ⟨Option.isSome_iff_exists.2 ⟨rid, asked⟩, sent, due.trans (le_max_right ..)⟩
  have h : Frame 0x4000000 (s.at t) (s.at t).sleepEnum := State.sleepEnum_frame (.refl _)
  have run : exec (.transportConfirm t []) s = .next ((s.at t).sleepEnum.sleepJudged []) := by
    refine (congrArg Host.Outcome.next (if_pos met)).trans ?_
    dsimp only
    rw [show (s.at t).power.transEnum = some (a, []) from first]
    exact congrArg Host.Outcome.next (if_pos (second.trans (le_max_right ..)))
  obtain ⟨o, only_sends⟩ := (s.at t).sleepEnum_eq
  have order : (s.at t).sleepEnum.sleepOrder = s.sleepOrder := by rw [only_sends]; rfl
  have sound : (s.at t).sleepEnum.inv = true := (State.sleepEnum_keeps (.refl (s.at t))).inv hi
  have power : (s.at t).sleepEnum.power = s.power := h.eq_power
  have sess : (s.at t).sleepEnum.sess? rid.sess = some x := by rw [State.sess?, h.eq_mbx]; exact found
  have now : (s.at t).sleepEnum.now = max s.now t := h.eq_now
  generalize (s.at t).sleepEnum = v at *
  refine ⟨_, run, ?_⟩
  rw [State.sleepJudged_asleep (by rw [order, power]; exact answered), power, asked]
  have k : Frame (besideRegs [PowerStatus.TAP_RUNNING] - 1) v (v.answer rid stOk []) := State.answer_frame (.refl v) ..
  refine ⟨rfl, ?_, State.rdB_wrB ?_ _ _ _ _ (by decide), ?_⟩
  · show some ((v.answer rid stOk []).now + secs 1) = _
    rw [k.eq_now, now]
  · exact sorted_of_inv ((State.answer_keeps (.refl v) ..).inv sound)
  · show _ ∈ (v.answer rid stOk []).out
    rw [State.answer_out sess on waits]
    exact List.mem_cons_self ..

theorem State.powerOff_gone (s : State) (new : Supply) :
    (s.powerOff new).power.supply = new ∧ (s.powerOff new).boot = .init ∧ (s.powerOff new).mbx = .init := by
  unfold State.powerOff
  simp only [State.wr_power, State.wrB_power, State.wr_boot, State.wrB_boot, State.wr_mbx, State.wrB_mbx]
  exact ⟨rfl, rfl, rfl⟩

theorem transportDiesOff (due : s.power.transOffAt = some a) (reached : a ≤ t) :
    ∃ u, exec (.transportDiesOff t) s = .next u ∧ u.power.supply = .transport ∧ u.boot = .init ∧ u.mbx = .init := by
  have ended : (s.at t).transDue = true := by
    rw [State.transDue, show (s.at t).power.transOffAt = some a from due]
    exact decide_eq_true (reached.trans (le_max_right ..))
  exact ⟨_, congrArg Host.Outcome.next (if_pos ended), State.powerOff_gone ..⟩

/-! ### TRANSPORT and OFF are left -/

theorem transportWoken {str mv since p b m d q : Nat} {c j : Bool} {z : StartSeen} (asleep : s.power.supply = .transport)
    (present : s.rdB PowerStatus.AUX_PRESENT = true) (up : s.power.auxSince = some q) (lasted : q + secs 5 ≤ t)
    (held : since + secs 5 ≤ t) (fitted : s.hasStr str = true) (enabled : bitOf m str = true)
    (set : s.nv.store.rd StringPower.TRANSPORT_WAKE_V str ≠ 0xFFFFFFFF)
    (high : s.nv.store.rd StringPower.TRANSPORT_WAKE_V str ≤ mv) :
    ∃ u, exec (.transportWake t str mv since p b m d c j z) s = .next u ∧ u.nv.transport = false ∧ u.power.supply = .normal ∧
      Starts z.hot 5 t s u := by
  show ∃ u, execTransportWake t str mv since p b m d c j z s = .next u ∧ _
  unfold execTransportWake
  extract_lets s1 v lastsSince aux nv power s2
  have lasts {y : Nat} (h : y + secs 5 ≤ t) : lastsSince y = true := decide_eq_true (h.trans (le_max_right ..))
  have has_aux : aux = true := by
    have since : s1.power.auxSince = some q := up
    simp only [aux, since, lasts lasted, Bool.and_true]
    exact present
  obtain ⟨supply, flag, starts⟩ :=
    State.powerUp_starts (s := s) (t := t) (u := s2) rfl rfl true 5 str [p, b, m, d] c j z.button z.hot
  refine ⟨_, rfl, ?_⟩
  rw [if_pos ⟨asleep, has_aux, lasts held, fitted, enabled, set, high⟩]
  exact ⟨flag, supply, starts⟩

theorem startedFromOff {p b m d : Nat} {c j : Bool} {z : StartSeen} (off : s.power.supply = .off) :
    ((∃ q, s.nv.transport = false ∧ s.rdB PowerStatus.AUX_PRESENT = true ∧ s.power.auxSince = some q ∧ q + msec 100 ≤ t) →
      ∃ u, exec (.startFromOff t p b m d c j z) s = .next u ∧ u.power.supply = .normal ∧ Starts z.hot 1 t s u) ∧
    (s.nv.transport = false → s.rdB PowerStatus.AUX_PRESENT = false → s.rdB PowerStatus.TAP_START_OK = true →
      ∃ u, exec (.startFromOff t p b m d c j z) s = .next u ∧ u.power.supply = .backup ∧ Starts z.hot 1 t s u) ∧
    (s.nv.transport = true → s.rdB PowerStatus.AUX_PRESENT = true →
      ∃ u, exec (.startFromOff t p b m d c j z) s = .next u ∧ u.power.supply = .transport) := by
  have starts (normal : Bool) := State.powerUp_starts (s := s) (t := t) (u := s.at t) rfl rfl normal 1 0 [p, b, m, d] c j z.button z.hot
  show (_ → ∃ u, execStartFromOff t p b m d c j z s = .next u ∧ _) ∧ (_ → _ → _ → ∃ u, execStartFromOff t p b m d c j z s = .next u ∧ _) ∧
    (_ → _ → ∃ u, execStartFromOff t p b m d c j z s = .next u ∧ _)
  unfold execStartFromOff
  extract_lets s1 aux power auxOk tapOk
  rw [if_neg (show ¬ s1.power.supply ≠ .off from not_not_intro off)]
  refine ⟨fun ⟨q, flag, present, up, lasted⟩ => ⟨_, rfl, ?_⟩, fun flag absent tap => ⟨_, rfl, ?_⟩, fun flag present => ⟨_, rfl, ?_⟩⟩
  · have ok : auxOk = true := by
      have since : s1.power.auxSince = some q := up
      have held : q + msec 100 ≤ s1.now := lasted.trans (le_max_right ..)
      simp only [auxOk, since, decide_eq_true held, Bool.and_true]
      exact present
    obtain ⟨supply, -, began⟩ := starts true
    rw [if_neg (by simp [s1, flag]), ok, Bool.true_or, if_pos rfl]
    exact ⟨supply, began⟩
  · have none : auxOk = false := by simp [auxOk, aux, s1, absent]
    have ok : tapOk = true := by simp [tapOk, aux, s1, absent, tap]
    obtain ⟨supply, -, began⟩ := starts false
    rw [if_neg (by simp [s1, flag]), none, ok, Bool.or_true, if_pos rfl]
    exact ⟨supply, began⟩
  · rw [if_pos (show s1.nv.transport = true from flag), if_pos (show aux = true from present)]

/-- Settles O11, row by row. -/
theorem transportAndStart : Obligations.TransportAndStart :=
  ⟨fun _ _ _ _ hi served h3 h4 token opened update idle off wakes powered =>
      transportEntered hi served (State.transportRefusal_none h3 h4 token opened update idle off wakes powered),
    fun _ _ awake _ asked sent due first => transportEnumerated awake asked sent due first,
    fun _ _ _ _ _ hi asked sent due first second answered found on waits =>
      transportConfirmed hi asked sent due first second answered found on waits,
    fun _ _ _ due reached => transportDiesOff due reached,
    fun _ _ _ _ _ _ _ _ _ _ _ _ _ asleep present up lasted held fitted enabled set high =>
      transportWoken asleep present up lasted held fitted enabled set high,
    fun _ _ _ _ _ _ _ _ _ off => startedFromOff off⟩

end Sys2Proof.Machine
end

section
/-! PROOFS. The rows of the start (chapter 04): what it leaves in what is stored, the switches read again, the runtime, and the settling
of StartSequenceSteps (O12). -/

namespace Sys2Proof.Machine

open Sys2Proof.Obj

set_option Elab.async false

variable {a s u : State} {t : Nat}

/-! ### What is kept of the panel -/

/-- The panel without its display's light. -/
def Panel.core (p : Panel) : Panel := { p with lit := false }

/-- Of the panel at most the light of the display changes. -/
def PanelKept (s u : State) : Prop := u.panel.core = s.panel.core

/-- All that a frame can name but the panel. -/
def besidePanel : Nat := 2 ^ 1024 - 1 - 2 ^ 5

theorem PanelKept.refl (s : State) : PanelKept s s := rfl

theorem PanelKept.trans (h : PanelKept a s) (k : PanelKept s u) : PanelKept a u := Eq.trans k h

theorem PanelKept.of_panel (h : PanelKept a s) (e : u.panel = s.panel) : PanelKept a u := by
  unfold PanelKept at *
  rw [e, h]

theorem PanelKept.frame (h : PanelKept a s) (k : Frame besidePanel s u) : PanelKept a u := h.of_panel k.eq_panel

theorem PanelKept.ite {p : Prop} {d : Decidable p} (h : PanelKept a s) (k : PanelKept a u) : PanelKept a (if p then s else u) := by
  split <;> assumption

theorem PanelKept.eachStr {f : Nat → State → State} (h : PanelKept a s) (hf : ∀ n v, PanelKept v (f n v)) :
    PanelKept a (s.eachStr f) :=
  List.foldlRecOn s.strList _ h fun v hv n _ => hv.trans (hf n v)

theorem PanelKept.applied (h : PanelKept s u) : u.panel.applied = s.panel.applied := by
  have e : u.panel.core.applied = s.panel.core.applied := congrArg Panel.applied h
  exact e

theorem PanelKept.retry (h : PanelKept s u) : u.panel.retry = s.panel.retry := by
  have e : u.panel.core.retry = s.panel.core.retry := congrArg Panel.retry h
  exact e

theorem PanelKept.sw (h : PanelKept s u) : u.panel.sw = s.panel.sw := by
  have e : u.panel.core.sw = s.panel.core.sw := congrArg Panel.sw h
  exact e

theorem PanelKept.putEvent (h : PanelKept a s) (e : Event) : PanelKept a (s.putEvent e) := by
  unfold State.putEvent
  extract_lets e' s1 s2 s3 s4 panel s5
  suffices h5 : PanelKept a s5 from .ite (h5.frame (State.attention_frame (.refl s5) 4)) h5
  have h1 : Frame besidePanel s s1 := .ite (State.closeEventBlock_frame (.refl s) ..) (.refl s)
  clear_value s1
  have h2 : Frame besidePanel s s2 := h1.on_hist _
  clear_value s2
  have h4 : Frame besidePanel s s4 := State.notify_frame (State.bump_frame h2 ..) _
  clear_value s4
  exact .ite ((h.frame h4).trans rfl) (h.frame h4)

theorem PanelKept.record (h : PanelKept a s) (code sev : Nat) (data : Bytes) (str node epoch : Nat) :
    PanelKept a (s.record code sev data str node epoch) :=
  .ite (.ite (h.trans rfl) (h.putEvent _)) h

theorem PanelKept.noteInhibit (h : PanelKept a s) (n : Nat) : PanelKept a (s.noteInhibit n) :=
  .ite h ((h.frame (State.wr_frame (.refl s) ..)).record ..)

theorem PanelKept.secChange (h : PanelKept a s) (new cause sess : Nat) : PanelKept a (s.secChange new cause sess) := by
  unfold State.secChange
  extract_lets old oldL newL s1 s2 s3 s4 s5 s6 s7
  have h1 : Frame besidePanel s s1 := State.wr_frame (State.wr_frame (.refl s) ..) ..
  clear_value s1
  have h3 : Frame besidePanel s s3 := State.stamp_frame (.ite (State.wrB_frame h1 ..) h1) ..
  clear_value s3
  have h6 : Frame besidePanel s s6 := State.extendSlot_frame (State.bump_frame (.ite h3 (State.wr_frame h3 ..)) ..) ..
  clear_value s6
  have h7 : PanelKept a s7 := (h.frame h6).record ..
  clear_value s7
  exact .ite h (.ite h7 (h7.frame (State.attention_frame (.refl s7) 2)))

theorem PanelKept.debugSettle (h : PanelKept a s) : PanelKept a s.debugSettle := by
  unfold State.debugSettle
  extract_lets r sec s1 s2
  have h2 : PanelKept a s2 := PanelKept.secChange (s := s1) (h.trans rfl) ..
  clear_value s2
  exact .ite ((h2.eachStr fun n v => (PanelKept.refl v).noteInhibit n).frame (State.answerOpt_frame (.refl _) ..)) h

theorem PanelKept.openNow (h : PanelKept a s) (n cause : Nat) : PanelKept a (s.openNow n cause) := by
  unfold State.openNow
  extract_lets q driven s1 s2 s3 s4 s5 s6
  have h6 : Frame besidePanel s s6 := by
    have h2 : Frame besidePanel s s2 := State.wr_frame (State.zeroSetpoint_frame (State.allOff_frame (.refl s) n) n) ..
    clear_value s2
    have h3 : Frame besidePanel s s3 := .ite (State.pcsClosed_frame h2 n) h2
    clear_value s3
    have h4 : Frame besidePanel s s4 := .ite (State.endClosing_frame h3 ..) h3
    clear_value s4
    exact State.modProt_frame (State.endOpening_frame h4 ..) n _
  clear_value s6
  exact .ite (h.frame (State.allOff_frame (.refl s) n)) (PanelKept.debugSettle (.ite (h.frame h6) ((h.frame h6).record ..)))

theorem PanelKept.refresh (h : PanelKept a s) (n : Nat) : PanelKept a (s.refresh n) := by
  have noted := h.noteInhibit n
  unfold State.refresh
  exact .ite (noted.openNow n 2) (.ite (noted.openNow n 2) noted)

theorem PanelKept.refreshAll (h : PanelKept a s) : PanelKept a s.refreshAll := h.eachStr fun n v => (PanelKept.refl v).refresh n

/-! ### The journal is replayed (R36, R112) -/

theorem State.finishStart_nv (s : State) :
    s.finishStart.nv = { s.chooseConfig.nv with bootCount := s.chooseConfig.nv.bootCount + 1 } := by
  unfold State.finishStart
  extract_lets s1 nv s2 s3 s4 s5 s6 s7 s8 s9 s10 s11 panel s12 s13 sec s14 s15 s16 s17 boot s18 s19
  have h4 : s4.nv = s2.nv := (State.factoryRegs_frame (M := besideNv) (.refl s2)).eq_nv
  clear_value s4
  have h10 : Frame besideNv s4 s10 := State.wr_frame (State.coverAtStart_frame (State.switchRegs_frame
    (State.wakeRegs_frame (State.imageRegs_frame (State.setPhase_frame (State.extendSlot_frame (State.extendSlot_frame
      (State.wr_frame (.refl s4) ..) _ _) _ _) 5)))) _) ..
  clear_value s10
  have h12 : Frame besideNv s4 s12 := .ite (State.applySwitches_frame h10) (State.wrB_frame ((State.eachStr_frame
    (State.applyMask_frame h10) _ fun n v => State.setProfile_frame (.refl v) n []).on_panel _) ..)
  clear_value s12
  have h17 : Frame besideNv s4 s17 := State.hvacTake_frame (State.loopOut_frame (State.eachStr_frame
    (State.trustRegs_frame (State.extendSlot_frame (State.wr_frame (State.extendSlot_frame h12 _ _) ..) _ _)) _ fun n v =>
      State.latchAtStart_frame (.refl v) n))
  clear_value s17
  have h19 : Frame besideNv s4 s19 := State.setPhase_frame (s := s18) (h17.on_boot _) 6
  clear_value s19
  exact (State.setPhase_frame (State.extendSlot_frame h19 2 _) 7).eq_nv.trans h4

theorem State.finishStart_phase (s : State) : s.finishStart.boot.phase = 7 := by
  unfold State.finishStart
  extract_lets s1 nv s2 s3 s4 s5 s6 s7 s8 s9 s10 s11 panel s12 s13 sec s14 s15 s16 s17 boot s18 s19
  rfl

/-- The choice of the configuration copy counts no start, and leaves what the replay has cleared. -/
theorem State.chooseConfig_nv (s : State) : s.chooseConfig.nv.bootCount = s.nv.bootCount ∧
    s.chooseConfig.nv.eraseCut = s.nv.eraseCut ∧ s.chooseConfig.nv.programCut = s.nv.programCut := by
  unfold State.chooseConfig
  dsimp only
  split <;> exact ⟨rfl, rfl, rfl⟩

theorem journalReplayed (phase : s.boot.phase = 4) (runs : s.boot.halt = false) (cut : s.nv.eraseCut = true ∨ s.nv.programCut = true) :
    ∃ u, exec (.journalReplayed t) s = .next u ∧ u.boot.phase = 7 ∧ u.nv.bootCount = s.nv.bootCount + 1 ∧
      u.nv.eraseCut = false ∧ u.nv.programCut = false := by
  show ∃ u, execJournalReplayed t s = .next u ∧ _
  unfold execJournalReplayed
  extract_lets s1 er nv s2 s3
  have replayed : s3.nv = { s.nv with eraseCut := false, programCut := false } := rfl
  clear_value s3
  obtain ⟨count, erase, program⟩ := s3.chooseConfig_nv
  refine ⟨_, congrArg Host.Outcome.next (if_pos ⟨phase, runs, cut⟩), s3.finishStart_phase, ?_⟩
  rw [s3.finishStart_nv]
  dsimp only
  rw [count, erase, program, replayed]
  exact ⟨rfl, rfl, rfl⟩

/-! ### The switches are read again (R79) -/

/-- All that a frame can name but the profile and the block number applied. -/
def besideApplied : Nat := besideRegs [ModuleIdentity.BLOCK_ID, ModuleTerminals.PROFILE_APPLIED]

/-- What is applied of a reading. -/
theorem State.applySwitches_applied (hs : s.objs.sorted = true) :
    s.applySwitches.rd ModuleIdentity.BLOCK_ID = nth 0 s.panel.sw 1 % 2 ^ ModuleIdentity.BLOCK_ID.width ∧
      s.applySwitches.rd ModuleTerminals.PROFILE_APPLIED = nth 0 s.panel.sw 0 % 2 ^ ModuleTerminals.PROFILE_APPLIED.width ∧
      s.applySwitches.panel = { s.panel with applied := s.panel.sw } := by
  unfold State.applySwitches
  extract_lets k s1 s2 s3 b
  have sorted1 : s1.objs.sorted = true := State.wrAll_sorted (s := { s with panel := { s.panel with applied := s.panel.sw } }) hs 0
    [(_, _), (_, _)]
  have panel1 : s1.panel = { s.panel with applied := s.panel.sw } := rfl
  clear_value s1
  have wrote : s3 = s1.wrAll 0 [(ModuleTerminals.PROFILE_APPLIED, k), (ModuleIdentity.BLOCK_ID, nth 0 s2.panel.sw 1)] := rfl
  have panel3 : s3.panel = s1.panel := rfl
  have block := State.wrAll_rd sorted1 0 [(ModuleTerminals.PROFILE_APPLIED, k)] [] ModuleIdentity.BLOCK_ID (nth 0 s2.panel.sw 1)
  have profile := State.wrAll_rd sorted1 0 [] [(ModuleIdentity.BLOCK_ID, nth 0 s2.panel.sw 1)] ModuleTerminals.PROFILE_APPLIED k
  have sw2 : s2.panel.sw = s.panel.sw := by rw [show s2.panel = s1.panel from rfl, panel1]
  rw [List.nil_append, ← wrote] at profile
  rw [List.singleton_append, ← wrote, sw2] at block
  clear_value s3
  have each : Frame (besideApplied - 2 ^ 5) s3 (s3.eachStr fun n s => s.setProfile n b) :=
    State.eachStr_frame (.refl s3) _ fun n v => State.setProfile_frame (.refl v) n b
  exact ⟨(each.rd ..).trans block, (each.rd ..).trans profile, each.eq_panel.trans (panel3.trans panel1)⟩

/-- A reading of the switches is taken, and after an invalid reading at the start the first valid one applied. -/
def State.switchesTaken (s : State) (new : List Nat) : State :=
  let s := ({ s with panel := { s.panel with sw := new } }).switchRegs
  if s.panel.retry && s.switchesValid then
    let s := ({ s with panel := { s.panel with retry := false } }).applySwitches
    if 8 ≤ s.boot.phase then (s.eachStr fun n s => s.thresholdsAll n).refreshAll else s
  else s

/-- A reading of the switches is judged while the module runs. -/
def State.switchesJudged (s : State) (new : List Nat) (differs : Bool) : State :=
  if s.running then
    let changed := decide (new ≠ s.panel.applied) || !s.switchesValid
    let s := s.wrB ModuleTerminals.SWITCH_CHANGED 0 changed
    if differs then s.record 0x0103 2 (s.switchBytes ++ [b2n changed]) else s
  else s

theorem State.readSwitches_eq (s : State) (new : List Nat) :
    s.readSwitches new = (s.switchesTaken new).switchesJudged new (decide (new ≠ s.panel.sw)) := rfl

theorem PanelKept.switchesJudged (h : PanelKept a s) (new : List Nat) (differs : Bool) :
    PanelKept a (s.switchesJudged new differs) :=
  .ite (.ite ((h.frame (State.wrB_frame (.refl s) ..)).record ..) (h.frame (State.wrB_frame (.refl s) ..))) h

theorem State.switchesJudged_frame (s : State) (new : List Nat) (differs : Bool) :
    Frame besideApplied s (s.switchesJudged new differs) :=
  .ite (.ite (State.record_frame (State.wrB_frame (.refl s) ..) ..) (State.wrB_frame (.refl s) ..)) (.refl s)

/-- The first valid reading after an invalid one at the start is applied. -/
theorem State.switchesTaken_applies {p b m d : Nat} (hi : s.inv = true) (due : s.panel.retry = true) (hp : p < 16) (hb : b < 16) :
    (s.switchesTaken [p, b, m, d]).rd ModuleIdentity.BLOCK_ID = b ∧ (s.switchesTaken [p, b, m, d]).rd ModuleTerminals.PROFILE_APPLIED = p ∧
      (s.switchesTaken [p, b, m, d]).panel.retry = false ∧ (s.switchesTaken [p, b, m, d]).panel.applied = [p, b, m, d] := by
  unfold State.switchesTaken
  extract_lets panel s1 panel' s2
  have h1 : s1.panel = { s.panel with sw := [p, b, m, d] } := rfl
  have sorted1 : s1.objs.sorted = true := State.wrAll_sorted (s := { s with panel := { s.panel with sw := [p, b, m, d] } })
    (sorted_of_inv hi) 0 [(_, _), (_, _), (_, _), (_, _)]
  have valid : (s1.panel.retry && s1.switchesValid) = true := by
    rw [State.switchesValid, h1]
    simp [due, nth, hp, hb]
  rw [if_pos valid]
  obtain ⟨block, profile, panel2⟩ := State.applySwitches_applied (s := { s1 with panel := { panel' with retry := false } }) sorted1
  rw [show ({ s1 with panel := { panel' with retry := false } } : State).panel.sw = [p, b, m, d] from rfl] at block profile panel2
  have applied2 : s2.panel.applied = [p, b, m, d] := congrArg Panel.applied panel2
  have retry2 : s2.panel.retry = false := congrArg Panel.retry panel2
  have block2 : s2.rd ModuleIdentity.BLOCK_ID = b := block.trans (Nat.mod_eq_of_lt (lt_trans hb (by decide)))
  have profile2 : s2.rd ModuleTerminals.PROFILE_APPLIED = p := profile.trans (Nat.mod_eq_of_lt (lt_trans hp (by decide)))
  have each : Frame (besideApplied - 2 ^ 5) s2 (s2.eachStr fun n s => s.thresholdsAll n) :=
    State.eachStr_frame (.refl s2) _ fun n v => State.thresholdsAll_frame (.refl v) n
  have regs : Frame besideApplied s2 (s2.eachStr fun n s => s.thresholdsAll n).refreshAll :=
    State.refreshAll_frame (Frame.mono (by decide +kernel) each)
  have kept : PanelKept s2 (s2.eachStr fun n s => s.thresholdsAll n).refreshAll :=
    PanelKept.refreshAll (.of_panel (.refl s2) each.eq_panel)
  split
  · exact ⟨(regs.rd ..).trans block2, (regs.rd ..).trans profile2, kept.retry.trans retry2, kept.applied.trans applied2⟩
  · exact ⟨block2, profile2, retry2, applied2⟩

theorem switchesRetried {p b m d : Nat} (hi : s.inv = true) (due : s.panel.retry = true) (phase : 6 ≤ s.boot.phase) (hp : p < 16)
    (hb : b < 16) :
    ∃ u, exec (.switchFaultRetry t p b m d) s = .next u ∧ u.rd ModuleIdentity.BLOCK_ID = b ∧
      u.rd ModuleTerminals.PROFILE_APPLIED = p ∧ u.panel.retry = false ∧ u.panel.applied = [p, b, m, d] := by
  refine ⟨_, congrArg Host.Outcome.next (if_pos ⟨due, phase⟩), ?_⟩
  rw [State.readSwitches_eq]
  obtain ⟨block, profile, retry, applied⟩ := State.switchesTaken_applies (s := s.at t) (m := m) (d := d) hi due hp hb
  generalize (s.at t).switchesTaken [p, b, m, d] = v at *
  have regs := v.switchesJudged_frame [p, b, m, d] (decide ([p, b, m, d] ≠ (s.at t).panel.sw))
  have kept := (PanelKept.refl v).switchesJudged [p, b, m, d] (decide ([p, b, m, d] ≠ (s.at t).panel.sw))
  exact ⟨(regs.rd ..).trans block, (regs.rd ..).trans profile, kept.retry.trans retry, kept.applied.trans applied⟩

/-! ### The runtime and the history store -/

theorem State.reachPhase_le (s : State) (k : Nat) : k ≤ (s.reachPhase k).boot.phase ∧ s.boot.phase ≤ (s.reachPhase k).boot.phase := by
  unfold State.reachPhase
  split
  · next below => exact ⟨le_rfl, below.le⟩
  · next there => exact ⟨not_lt.1 there, le_rfl⟩

theorem State.runtimeRun_phase (s : State) (a b : Bool) : 9 ≤ (s.runtimeRun a b).boot.phase := by
  unfold State.runtimeRun
  extract_lets hist s1 s2 s3 s4 s5
  have h4 : s4 = s3.reachPhase 9 := rfl
  clear_value s3 s4
  replace h4 : 9 ≤ s4.boot.phase := h4 ▸ (State.reachPhase_le s3 9).1
  have h5 : 9 ≤ s5.boot.phase := by
    simp only [s5]
    split
    · exact h4.trans (State.reachPhase_le s4 10).2
    · exact h4
  clear_value s5
  split
  · exact h5
  · exact h5.trans (State.reachPhase_le s5 13).2

theorem runtimeStarted {a b : Bool} (phase : s.boot.phase = 7) (runs : s.boot.halt = false) (powered : s.power.powered = true) :
    ∃ u, exec (.runtimeStart t a b) s = .next u ∧ (s.security = 5 → u.boot.phase = 8) ∧ (s.security ≠ 5 → 9 ≤ u.boot.phase) := by
  show ∃ u, execRuntimeStart t a b s = .next u ∧ _
  unfold execRuntimeStart
  extract_lets s1 s2
  have h2 : Frame (besideRegs [SecurityStatus.SECURITY_STATE]) s1 s2 := State.runtimeRegs_frame (.refl s1)
  have security2 : s2.security = s.security := (h2.rd SecurityStatus.SECURITY_STATE 0 0).trans (State.at_rd ..)
  have phase2 : s2.boot.phase = 8 := rfl
  clear_value s2
  refine ⟨_, congrArg Host.Outcome.next (if_neg (by simp [s1, phase, runs, powered])), fun dead => ?_, fun alive => ?_⟩
  · rw [if_pos (security2.trans dead), (State.portStart_frame (M := besideRegs [SecurityStatus.SECURITY_STATE] - 2 ^ 6) (.refl s2)).eq_boot]
    exact phase2
  · rw [if_neg (by rw [security2]; exact alive)]
    exact s2.runtimeRun_phase a b

theorem historyInitialised (hi : s.inv = true) (powered : s.power.powered = true) (runs : s.boot.halt = false) (phase : 4 ≤ s.boot.phase) :
    ∃ u, exec (.historyInitComplete t) s = .next u ∧ u.rdB HistoryStatus.INIT_PENDING = false := by
  refine ⟨_, congrArg Host.Outcome.next (if_pos ⟨powered, runs, phase⟩), ?_⟩
  have cleared : ((s.at t).wrB HistoryStatus.INIT_PENDING 0 false).rdB HistoryStatus.INIT_PENDING = false :=
    State.rdB_wrB (s := s.at t) (sorted_of_inv hi) _ _ _ _ (by decide)
  dsimp only
  split
  · exact ((State.reachPhase_frame (M := besideRegs [HistoryStatus.INIT_PENDING]) (.refl _) 13).rdB ..).trans cleared
  · exact cleared

/-- Settles O12, row by row. -/
theorem startSequenceSteps : Obligations.StartSequenceSteps :=
  ⟨fun _ _ phase runs cut => journalReplayed phase runs cut,
    fun _ _ _ _ _ _ hi due phase hp hb => switchesRetried hi due phase hp hb,
    fun _ _ _ _ _ phase runs powered => runtimeStarted phase runs powered,
    fun _ _ hi powered runs phase => historyInitialised hi powered runs phase⟩

end Sys2Proof.Machine
end

section
/-! PROOFS. Readings of the terminals (chapter 02), and the settling of TerminalReadings (O13). -/

namespace Sys2Proof.Machine

open Sys2Proof.Obj

set_option Elab.async false

variable {a s u : State} {t : Nat}

/-! ### COIL SUPPLY and the detection bridges -/

/-- The registers of COIL SUPPLY. -/
def coilSupplyRegs : List Fld :=
  [ModuleTerminals.COIL_SUPPLY_V, ModuleTerminals.COIL_SUPPLY_LOW, ModuleTerminals.COIL_SUPPLY_HIGH]

theorem coilSupplyMeasured {mv : Nat} (hi : s.inv = true) (powered : s.power.powered = true) (range : mv < 65536) :
    ∃ u, exec (.coilSupplyThreshold t mv) s = .next u ∧ u.rd ModuleTerminals.COIL_SUPPLY_V = mv ∧
      u.rdB ModuleTerminals.COIL_SUPPLY_LOW = (decide (mv < 16500) || (s.rdB ModuleTerminals.COIL_SUPPLY_LOW && decide (mv ≤ 17500))) ∧
      u.rdB ModuleTerminals.COIL_SUPPLY_HIGH =
        (decide (34000 < mv) || (s.rdB ModuleTerminals.COIL_SUPPLY_HIGH && decide (33000 ≤ mv))) := by
  show ∃ u, execCoilSupplyThreshold t mv s = .next u ∧ _
  unfold execCoilSupplyThreshold
  extract_lets s1 low high
  have low_eq : low = (decide (mv < 16500) || (s.rdB ModuleTerminals.COIL_SUPPLY_LOW && decide (mv ≤ 17500))) := by
    simp only [low, s1, State.at_rdB]
  have high_eq : high = (decide (34000 < mv) || (s.rdB ModuleTerminals.COIL_SUPPLY_HIGH && decide (33000 ≤ mv))) := by
    simp only [high, s1, State.at_rdB]
  clear_value low high
  have sorted : s1.objs.sorted = true := sorted_of_inv hi
  have volts := State.wrAll_rd sorted 0 [] [(ModuleTerminals.COIL_SUPPLY_LOW, b2n low), (ModuleTerminals.COIL_SUPPLY_HIGH, b2n high)]
    ModuleTerminals.COIL_SUPPLY_V mv
  have lows := State.wrAll_rdB sorted 0 [(ModuleTerminals.COIL_SUPPLY_V, mv)] [(ModuleTerminals.COIL_SUPPLY_HIGH, b2n high)]
    ModuleTerminals.COIL_SUPPLY_LOW low
  have highs := State.wrAll_rdB sorted 0 [(ModuleTerminals.COIL_SUPPLY_V, mv), (ModuleTerminals.COIL_SUPPLY_LOW, b2n low)] []
    ModuleTerminals.COIL_SUPPLY_HIGH high
  have after (v : State) : Frame (besideRegs coilSupplyRegs) v v.refreshAll := State.refreshAll_frame (.refl v)
  exact ⟨_, congrArg Host.Outcome.next (if_pos powered), ((after _).rd ..).trans (volts.trans (Nat.mod_eq_of_lt range)),
    ((after _).rdB ..).trans (lows.trans low_eq), ((after _).rdB ..).trans (highs.trans high_eq)⟩

theorem State.connectorTold (s : State) (n sev : Nat) (data : Bytes) :
    Frame (besideRegs [StringTerminals.CONN_OPEN, StringTerminals.CONN_OPEN_COUNT]) s ((s.record 0x0102 sev data n).refresh n) :=
  State.refresh_frame (State.record_frame (.refl s) _ _ _ _ _ _) n

theorem connectorNoted {n : Nat} {b : Bool} (hi : s.inv = true) (powered : s.power.powered = true) (fitted : s.hasStr n = true)
    (changes : s.rdB StringTerminals.CONN_OPEN n ≠ b) :
    ∃ u, exec (.connOpenChanged t n b) s = .next u ∧ u.rdB StringTerminals.CONN_OPEN n = b ∧
      u.rd StringTerminals.CONN_OPEN_COUNT n = satAdd 32 (s.rd StringTerminals.CONN_OPEN_COUNT n) 1 % 2 ^ 32 := by
  show ∃ u, execConnOpenChanged t n b s = .next u ∧ _
  unfold execConnOpenChanged
  extract_lets s1 s2 s3
  have differs : s1.rdB StringTerminals.CONN_OPEN n ≠ b := by rw [State.at_rdB]; exact changes
  refine ⟨_, congrArg Host.Outcome.next (if_pos ⟨powered, fitted, differs⟩), ?_⟩
  have sorted : s1.objs.sorted = true := sorted_of_inv hi
  have counted : s2.rd StringTerminals.CONN_OPEN_COUNT n = satAdd 32 (s.rd StringTerminals.CONN_OPEN_COUNT n) 1 % 2 ^ 32 :=
    (State.rd_wr (State.wr_sorted sorted ..) ..).trans
      (congrArg (fun k => satAdd 32 k 1 % 2 ^ 32) ((State.rd_wr_apart _ _ _ _ _ _ _ _ rfl).trans (State.at_rd ..)))
  have shown : s2.rdB StringTerminals.CONN_OPEN n = b :=
    (congrArg (· == 1) (State.rd_wr_apart _ _ _ _ _ _ _ _ rfl)).trans (State.rdB_wrB sorted _ _ _ _ (by decide))
  have after : Frame (besideRegs [StringTerminals.CONN_OPEN, StringTerminals.CONN_OPEN_COUNT]) s2 (s3.refresh n) := s2.connectorTold ..
  exact ⟨(after.rdB ..).trans shown, (after.rd ..).trans counted⟩

/-! ### The switches (R80) -/

/-- A reading of the switches is kept, applied or not. -/
theorem State.switchesTaken_sw (s : State) (new : List Nat) : (s.switchesTaken new).panel.sw = new := by
  unfold State.switchesTaken
  extract_lets panel s1 panel' s2
  have h2 : s2.panel.sw = new := by
    have k : Frame besidePanel { s1 with panel := { { panel' with retry := false } with applied := new } } s2 := by
      unfold s2 State.applySwitches
      extract_lets _ v1 v2 v3 _
      exact State.eachStr_frame (State.wr_frame (State.wr_frame (State.wr_frame (State.wr_frame (.refl _) ..) ..) ..) ..) _ fun n v =>
        State.setProfile_frame (.refl v) n _
    rw [k.eq_panel]
    rfl
  have each : Frame (besideApplied - 2 ^ 5) s2 (s2.eachStr fun n s => s.thresholdsAll n) :=
    State.eachStr_frame (.refl s2) _ fun n v => State.thresholdsAll_frame (.refl v) n
  have kept : PanelKept s2 (s2.eachStr fun n s => s.thresholdsAll n).refreshAll :=
    PanelKept.refreshAll (.of_panel (.refl s2) each.eq_panel)
  split
  · split
    · exact kept.sw.trans h2
    · exact h2
  · rfl

theorem switchesRead {p b m d : Nat} (hi : s.inv = true) (runs : s.running = true) :
    ∃ u, exec (.switchReading t p b m d) s = .next u ∧ u.panel.sw = [p, b, m, d] ∧
      (s.panel.retry = false → p < 16 → b < 16 → u.rdB ModuleTerminals.SWITCH_CHANGED = decide ([p, b, m, d] ≠ s.panel.applied)) := by
  refine ⟨_, congrArg Host.Outcome.next (if_pos runs), ?_, fun quiet hp hb => ?_⟩
  · exact ((PanelKept.refl _).switchesJudged ..).sw.trans ((s.at t).switchesTaken_sw _)
  · rw [State.readSwitches_eq]
    generalize decide ([p, b, m, d] ≠ (s.at t).panel.sw) = differs
    have taken : (s.at t).switchesTaken [p, b, m, d] =
        State.switchRegs { s.at t with panel := { s.panel with sw := [p, b, m, d] } } := if_neg (by simp [State.switchRegs, quiet])
    rw [taken]
    have valid : (State.switchRegs { s.at t with panel := { s.panel with sw := [p, b, m, d] } }).switchesValid = true := by
      simp [State.switchesValid, State.switchRegs, nth, hp, hb]
    have sorted : (State.switchRegs { s.at t with panel := { s.panel with sw := [p, b, m, d] } }).objs.sorted = true :=
      State.wrAll_sorted (s := { s.at t with panel := { s.panel with sw := [p, b, m, d] } })
        (sorted_of_inv hi) 0 [(_, _), (_, _), (_, _), (_, _)]
    have running : (State.switchRegs { s.at t with panel := { s.panel with sw := [p, b, m, d] } }).running = true := runs
    have applied : (State.switchRegs { s.at t with panel := { s.panel with sw := [p, b, m, d] } }).panel.applied = s.panel.applied := rfl
    generalize State.switchRegs { s.at t with panel := { s.panel with sw := [p, b, m, d] } } = v at *
    unfold State.switchesJudged
    extract_lets changed w
    have wrote : w.rdB ModuleTerminals.SWITCH_CHANGED = decide ([p, b, m, d] ≠ s.panel.applied) := by
      refine (State.rdB_wrB sorted _ _ _ _ (by decide)).trans ?_
      simp only [changed, applied, valid, Bool.not_true, Bool.or_false]
    rw [if_pos running]
    split
    · exact ((State.record_frame (M := besideRegs [ModuleTerminals.SWITCH_CHANGED]) (.refl w) ..).rdB ..).trans wrote
    · exact wrote

/-! ### The cover (R81) -/

/-- What is noted of an open cover. -/
theorem State.coverAtStart_shows (hs : s.objs.sorted = true) :
    (s.coverAtStart true).rdB ModuleTerminals.SEAL_OPEN = true ∧ (s.coverAtStart true).rdB ModuleTerminals.SEAL_OPENED = true ∧
      (s.coverAtStart true).rd ModuleTerminals.SEAL_OPEN_TIME = timeVal s.base % 2 ^ 80 := by
  generalize count : satAdd 32 ((((s.wrB ModuleTerminals.SEAL_OPEN 0 true).wrB ModuleTerminals.SEAL_OPENED 0 true)).rd
    ModuleTerminals.SEAL_OPEN_COUNT) 1 = k
  have wrote : s.coverAtStart true = s.wrAll 0 [(ModuleTerminals.SEAL_OPEN, b2n true), (ModuleTerminals.SEAL_OPENED, b2n true),
      (ModuleTerminals.SEAL_OPEN_COUNT, k), (ModuleTerminals.SEAL_OPEN_TIME, timeVal s.base)] := by
    subst count
    rfl
  rw [wrote]
  exact ⟨State.wrAll_rdB hs 0 [] _ _ _, State.wrAll_rdB hs 0 [_] _ _ _, State.wrAll_rd hs 0 [_, _, _] _ _ _⟩

theorem coverOpened (hi : s.inv = true) (powered : s.power.powered = true) (phase : 6 ≤ s.boot.phase) (runs : s.boot.halt = false)
    (closed : s.rdB ModuleTerminals.SEAL_OPEN = false) :
    ∃ u, exec (.sealOpen t) s = .next u ∧ u.panel.cover = true ∧ u.rdB ModuleTerminals.SEAL_OPEN = true ∧
      u.rdB ModuleTerminals.SEAL_OPENED = true ∧ u.rd ModuleTerminals.SEAL_OPEN_TIME = timeVal (s.at t).base % 2 ^ 80 := by
  obtain ⟨isOpen, wasOpened, time⟩ := State.coverAtStart_shows (s := { s.at t with panel := { s.panel with cover := true } })
    (sorted_of_inv (s := s) hi)
  have panel : (State.coverAtStart { s.at t with panel := { s.panel with cover := true } } true).panel.cover = true := rfl
  have after (v : State) : Frame (besideRegs [ModuleTerminals.SEAL_OPEN, ModuleTerminals.SEAL_OPENED, ModuleTerminals.SEAL_OPEN_TIME] - 2 ^ 5)
    v (v.attention 5) := State.attention_frame (.refl v) 5
  have was : (s.at t).rdB ModuleTerminals.SEAL_OPEN = false := (State.at_rdB ..).trans closed
  exact ⟨_, congrArg Host.Outcome.next (if_pos ⟨powered, phase, runs, was⟩), (congrArg Panel.cover (after _).eq_panel).trans panel,
    ((after _).rdB ..).trans isOpen, ((after _).rdB ..).trans wasOpened, ((after _).rd ..).trans time⟩

theorem coverOpenedUnseen (dark : s.power.powered = false ∨ s.boot.phase < 6 ∨ s.boot.halt = true) :
    ∃ u, exec (.sealOpen t) s = .next u ∧ u.panel.cover = true ∧ u.objs = s.objs := by
  have unmet : ¬ ((s.at t).power.powered = true ∧ 6 ≤ (s.at t).boot.phase ∧ (s.at t).boot.halt = false ∧
      State.rdB { s.at t with panel := { s.panel with cover := true } } ModuleTerminals.SEAL_OPEN = false) := by
    rintro ⟨powered, phase, runs, -⟩
    rw [State.at_power] at powered
    rw [State.at_boot] at phase runs
    obtain off | early | halted := dark
    · simp [off] at powered
    · omega
    · simp [halted] at runs
  exact ⟨_, congrArg Host.Outcome.next (if_neg unmet), rfl, rfl⟩

theorem coverClosed (hi : s.inv = true) (powered : s.power.powered = true) :
    ∃ u, exec (.coverClosed t) s = .next u ∧ u.rdB ModuleTerminals.SEAL_OPEN = false ∧
      ∀ (f : Fld) (i x : Nat), f.key i x ≠ ModuleTerminals.SEAL_OPEN.key 0 0 → u.rd f i x = s.rd f i x :=
  ⟨_, congrArg Host.Outcome.next (if_pos powered),
    State.rdB_wrB (s := { s.at t with panel := { s.panel with cover := false } }) (sorted_of_inv (s := s) hi) _ _ _ _ (by decide),
    fun f i x ne => State.rd_wr_ne { s.at t with panel := { s.panel with cover := false } } _ f 0 i _ 0 x ne.symm⟩

/-- Settles O13, reading by reading. -/
theorem terminalReadings : Obligations.TerminalReadings :=
  ⟨fun _ _ _ hi powered range => coilSupplyMeasured hi powered range,
    fun _ _ _ _ hi powered fitted changes => connectorNoted hi powered fitted changes,
    fun _ _ _ _ _ _ hi runs => switchesRead hi runs,
    fun _ _ hi powered phase runs closed => coverOpened hi powered phase runs closed,
    fun _ _ dark => coverOpenedUnseen dark, fun _ _ hi powered => coverClosed hi powered⟩

end Sys2Proof.Machine
end

section
/-! PROOFS. The panel's button, display and jumper (chapter 02, chapter 21), and the settling of PresenceAndPanel (O14). -/

namespace Sys2Proof.Machine

open Sys2Proof.Obj

set_option Elab.async false

variable {s : State} {t since held : Nat}

/-! ### The display -/

theorem buttonPressed (runs : s.running = true) (long : msec 50 ≤ held) (short : held < secs 2) :
    ∃ u, exec (.presenceButtonPress t held) s = .next u ∧ u.panel.page = (s.panel.page + 1) % 4 ∧ u.panel.lit = true ∧
      u.objs = s.objs :=
  ⟨_, congrArg Host.Outcome.next (if_pos ⟨runs, long, short⟩), rfl, rfl, rfl⟩

theorem displayBlanked (quiet : s.panel.lastPress + secs 600 ≤ t) :
    ∃ u, exec (.displayBlank t) s = .next u ∧ u.panel.lit = false ∧ u.objs = s.objs :=
  ⟨_, congrArg Host.Outcome.next (if_pos (quiet.trans (le_max_right ..))), rfl, rfl⟩

/-! ### Tokens -/

/-- The registers that show a token and its source. -/
def tokenRegs : List Fld := [PresenceStatus.TOKEN_STATE, PresenceStatus.TOKEN_SOURCE, ModuleTerminals.J_SVC_FITTED]

/-- A presence event gives a token of its source, and shows it. -/
theorem State.presenceEvent_gives (hs : s.objs.sorted = true) (source : Nat) :
    (s.presenceEvent source).sec.token = source ∧ (s.presenceEvent source).sec.tokenAt = s.now ∧
      (s.presenceEvent source).rd PresenceStatus.TOKEN_STATE = 1 ∧
      (s.presenceEvent source).rd PresenceStatus.TOKEN_SOURCE = source % 2 ^ PresenceStatus.TOKEN_SOURCE.width := by
  rw [State.presenceEvent_eq]
  extract_lets window
  have after (v : State) : Frame (besideRegs tokenRegs - 2 ^ 7) v (((v.bump PresenceStatus.PRESENCE_EVENTS).stamp
      PresenceStatus.LAST_PRESENCE_TIME).record 0x1302 1 [source]) :=
    State.record_frame (State.stamp_frame (State.bump_frame (.refl v) ..) ..) _ _ _ _ _ _
  have sorted : (s.tokenGiven source window).objs.sorted = true := hs
  have given : (s.tokenGiven source window).sec.token = source ∧ (s.tokenGiven source window).sec.tokenAt = s.now := ⟨rfl, rfl⟩
  generalize s.tokenGiven source window = v at *
  have shown : v.tokenShown source window = v.wrAll 0 [(PresenceStatus.TOKEN_STATE, 1), (PresenceStatus.TOKEN_SOURCE, source),
      (PresenceStatus.BOUND_SESSION, 0), (SecurityStatus.COMMISSIONING_OPEN, b2n window)] := rfl
  have sec : (v.tokenShown source window).sec = v.sec := rfl
  refine ⟨?_, ?_, ((after _).rd ..).trans ?_, ((after _).rd ..).trans ?_⟩
  · rw [(after _).eq_sec, sec, given.1]
  · rw [(after _).eq_sec, sec, given.2]
  · rw [shown]
    exact State.wrAll_rd sorted 0 [] _ _ _
  · rw [shown]
    exact State.wrAll_rd sorted 0 [_] _ _ _

theorem buttonHeld (hi : s.inv = true) (ok : s.presenceOk = true) (first : s.panel.fired = false) (long : since + secs 2 ≤ t)
    (begun : (s.at t).heldAtStart since = false) :
    ∃ u, exec (.presenceEvent t since) s = .next u ∧ u.sec.token = 1 ∧ u.sec.tokenAt = max s.now t ∧
      u.rd PresenceStatus.TOKEN_STATE = 1 ∧ u.rd PresenceStatus.TOKEN_SOURCE = 1 :=
  ⟨_, execPresenceEvent_due begun ok (long.trans (le_max_right ..)) (by simp [first]),
    State.presenceEvent_gives (s := (s.at t).holdTaken since) (sorted_of_inv (s := s) hi) 1⟩

theorem buttonStuck (hi : s.inv = true) (runs : s.running = true)
    (stuck : since + secs 10 < t ∨ (s.at t).heldAtStart since = true) :
    ∃ u, exec (.presenceStuck t since) s = .next u ∧ u.rdB ModuleTerminals.PRESENCE_STUCK = true := by
  refine ⟨_, rfl, ?_⟩
  by_cases atStart : (s.at t).heldAtStart since = true
  · rw [if_pos atStart]
    exact State.rdB_wrB (s := { s.at t with panel := _ }) (sorted_of_inv (s := s) hi) _ _ _ _ (by decide)
  · rw [if_neg atStart, if_pos ⟨runs, (stuck.resolve_right atStart).trans_le (le_max_right ..)⟩]
    exact State.rdB_wrB (s := s.at t) (sorted_of_inv hi) _ _ _ _ (by decide)

theorem buttonReleased (hi : s.inv = true) :
    ∃ u, exec (.presenceButtonReleased t held) s = .next u ∧ u.rdB ModuleTerminals.PRESENCE_STUCK = false :=
  ⟨_, rfl, State.rdB_wrB (s := { s.at t with panel := _ }) (sorted_of_inv (s := s) hi) _ _ _ _ (by decide)⟩

theorem jumperFitted (hi : s.inv = true) (powered : s.power.powered = true) (absent : s.rdB ModuleTerminals.J_SVC_FITTED = false)
    (stable : since + msec 50 ≤ t) :
    ∃ u, exec (.jSvcFitted t since) s = .next u ∧ u.rdB ModuleTerminals.J_SVC_FITTED = true ∧
      (s.presenceOk = true → u.sec.token = 2 ∧ u.rd PresenceStatus.TOKEN_SOURCE = 2) := by
  refine ⟨_, congrArg Host.Outcome.next (if_pos ⟨powered, (State.at_rdB ..).trans absent, stable.trans (le_max_right ..)⟩), ?_⟩
  have frame : Frame (besideRegs [ModuleTerminals.PRESENCE_STUCK] - 2 ^ 4 - 2 ^ 6 - 2 ^ 15) s
      ((s.at t).wrB ModuleTerminals.J_SVC_FITTED 0 true) := State.wrB_frame (State.at_frame (.refl s) t) ..
  have sorted : ((s.at t).wrB ModuleTerminals.J_SVC_FITTED 0 true).objs.sorted = true := by
    rw [State.wrB_objs]
    exact Store.wr_sorted (sorted_of_inv hi) ..
  have shown : ((s.at t).wrB ModuleTerminals.J_SVC_FITTED 0 true).rdB ModuleTerminals.J_SVC_FITTED = true :=
    State.rdB_wrB (s := s.at t) (sorted_of_inv hi) _ _ _ _ (by decide)
  generalize (s.at t).wrB ModuleTerminals.J_SVC_FITTED 0 true = v at *
  have sameOk : v.presenceOk = s.presenceOk := by
    rw [State.presenceOk, State.presenceOk, frame.rdB ModuleTerminals.PRESENCE_STUCK 0 0]
    simp only [State.running, State.inHoldup, State.caldera, frame.eq_boot, frame.eq_power, frame.eq_thermal]
  dsimp only
  rw [sameOk]
  split
  · obtain ⟨token, -, -, source⟩ := State.presenceEvent_gives sorted 2
    exact ⟨((State.presenceEvent_frame (M := besideRegs [ModuleTerminals.J_SVC_FITTED]) (.refl v) 2).rdB ..).trans shown,
      fun _ => ⟨token, source⟩⟩
  · next refused => exact ⟨shown, fun ok => absurd ok refused⟩

theorem jumperRemoved (hi : s.inv = true) (powered : s.power.powered = true) :
    ∃ u, exec (.jSvcRemoved t) s = .next u ∧ u.rdB ModuleTerminals.J_SVC_FITTED = false ∧
      ∀ (f : Fld) (i x : Nat), f.key i x ≠ ModuleTerminals.J_SVC_FITTED.key 0 0 → u.rd f i x = s.rd f i x :=
  ⟨_, congrArg Host.Outcome.next (if_pos powered), State.rdB_wrB (s := s.at t) (sorted_of_inv hi) _ _ _ _ (by decide),
    fun f i x ne => State.rd_wr_ne (s.at t) _ f 0 i _ 0 x ne.symm⟩

theorem State.endToken_ends (hs : s.objs.sorted = true) :
    s.endToken.sec.token = 0 ∧ s.endToken.rd PresenceStatus.TOKEN_STATE = 0 := by
  unfold State.endToken
  extract_lets s1 sec s2
  have sorted1 : s1.objs.sorted = true := by
    simp only [s1]
    split
    · exact State.wr_sorted hs ..
    · exact hs
  exact ⟨rfl, State.wrAll_rd (s := s2) sorted1 0 [] [(PresenceStatus.TOKEN_SOURCE, 0), (PresenceStatus.BOUND_SESSION, 0),
    (SecurityStatus.COMMISSIONING_OPEN, b2n false)] PresenceStatus.TOKEN_STATE 0⟩

theorem tokenExpired (hi : s.inv = true) (given : s.sec.token ≠ 0) (past : s.sec.tokenAt + tokenLife ≤ t) :
    ∃ u, exec (.tokenExpired t) s = .next u ∧ u.sec.token = 0 ∧ u.rd PresenceStatus.TOKEN_STATE = 0 :=
  ⟨_, congrArg Host.Outcome.next (if_pos ⟨given, past.trans (le_max_right ..)⟩),
    State.endToken_ends (s := s.at t) (sorted_of_inv hi)⟩

/-- Settles O14, row by row. -/
theorem presenceAndPanel : Obligations.PresenceAndPanel :=
  ⟨fun _ _ _ runs long short => buttonPressed runs long short, fun _ _ quiet => displayBlanked quiet,
    fun _ _ _ hi ok first long begun => buttonHeld hi ok first long begun, fun _ _ _ hi runs stuck => buttonStuck hi runs stuck,
    fun _ _ _ hi => buttonReleased hi, fun _ _ _ hi powered absent stable => jumperFitted hi powered absent stable,
    fun _ _ hi powered => jumperRemoved hi powered, fun _ _ hi given past => tokenExpired hi given past⟩

end Sys2Proof.Machine
end

section
/-! PROOFS. Connections and the sessions on them (chapter 05): what leaves them as they are, and how a connection is found after it is
changed or others end. -/

namespace Sys2Proof.Machine

open Sys2Proof.Obj

set_option Elab.async false

variable {a s u : State} {id : Nat}

/-! ### What leaves every connection and every session's number, connection and class -/

/-- Each session's number, connection and class. -/
def State.links (s : State) : List (Nat × Nat × Nat) := s.mbx.sess.map fun y => (y.num, y.conn, y.cls)

/-- The connections are as before, and so are the sessions' numbers, connections and classes. -/
structure LinksKept (s u : State) : Prop where
  conns : u.mbx.conns = s.mbx.conns
  links : u.links = s.links

theorem LinksKept.refl (s : State) : LinksKept s s := ⟨rfl, rfl⟩

theorem LinksKept.trans (h : LinksKept a s) (k : LinksKept s u) : LinksKept a u := ⟨k.conns.trans h.conns, k.links.trans h.links⟩

theorem LinksKept.of_mbx (h : LinksKept a s) (e : u.mbx = s.mbx) : LinksKept a u :=
  h.trans ⟨congrArg Mbx.conns e, by rw [State.links, State.links, e]⟩

theorem LinksKept.frame (h : LinksKept a s) (k : Frame besideMailbox s u) : LinksKept a u := h.of_mbx k.eq_mbx

theorem LinksKept.ite {p : Prop} {d : Decidable p} (h : LinksKept a s) (k : LinksKept a u) : LinksKept a (if p then s else u) := by
  split <;> assumption

theorem LinksKept.foldl {α : Type} {l : List α} {f : State → α → State} (h : LinksKept a s) (hf : ∀ v x, LinksKept v (f v x)) :
    LinksKept a (l.foldl f s) :=
  List.foldlRecOn l f h fun v hv x _ => hv.trans (hf v x)

theorem LinksKept.eachStr {f : Nat → State → State} (h : LinksKept a s) (hf : ∀ n v, LinksKept v (f n v)) :
    LinksKept a (s.eachStr f) := h.foldl fun v n => hf n v

theorem LinksKept.modSess (h : LinksKept a s) (n : Nat) {f : Sess → Sess}
    (same : ∀ y, ((f y).num, (f y).conn, (f y).cls) = (y.num, y.conn, y.cls)) : LinksKept a (s.modSess n f) := by
  refine h.trans ⟨rfl, ?_⟩
  simp only [State.links, State.modSess, List.map_map]
  refine List.map_congr_left fun y _ => ?_
  rw [Function.comp_apply]
  split
  · exact same y
  · rfl

theorem LinksKept.mapStreams (h : LinksKept a s) (f : Stream → Stream) : LinksKept a (s.mapStreams f) :=
  h.trans ⟨rfl, List.map_map⟩

theorem LinksKept.send (h : LinksKept a s) (o : Out) : LinksKept a (s.send o) := h.of_mbx rfl

theorem LinksKept.unsolicited (h : LinksKept a s) (num cmd : Nat) (p : Bytes) : LinksKept a (s.unsolicited num cmd p) := by
  unfold State.unsolicited
  split
  · exact h
  · refine LinksKept.send (h.modSess num ?_) _
    exact fun _ => rfl

theorem LinksKept.flushSess (h : LinksKept a s) (x : Sess) (os : List Outst) : LinksKept a (s.flushSess x os) := by
  unfold State.flushSess
  obtain ⟨rest, outs, n⟩ := flush x.num x.conn os
  exact (h.modSess x.num (f := fun y => { y with outst := rest }) fun _ => rfl).of_mbx (State.bump_mbx _ SessionStatus.REQUESTS x.num n 0)

theorem LinksKept.answer (h : LinksKept a s) (r : Rid) (st : Nat) (p : Bytes) : LinksKept a (s.answer r st p) := by
  unfold State.answer
  split
  · exact h
  · exact .ite h (h.flushSess ..)

theorem LinksKept.answerOpt (h : LinksKept a s) (r : Option Rid) (st : Nat) (p : Bytes) : LinksKept a (s.answerOpt r st p) := by
  cases r with
  | none => exact h
  | some r => exact h.answer r st p

theorem LinksKept.closeEventBlock (h : LinksKept a s) (timeout holdup : Bool) : LinksKept a (s.closeEventBlock timeout holdup) := by
  unfold State.closeEventBlock
  refine .ite h (LinksKept.of_mbx (s := s.loseEvents) (h.trans ?_) (State.damagedReg_frame (M := besideMailbox) (.refl _)).eq_mbx)
  unfold State.loseEvents
  split
  · exact .refl s
  · split
    · exact .refl s
    · exact (LinksKept.refl s).mapStreams _

theorem LinksKept.putEvent (h : LinksKept a s) (e : Event) : LinksKept a (s.putEvent e) := by
  unfold State.putEvent
  extract_lets e' s1 s2 s3 s4 panel s5
  suffices h5 : LinksKept a s5 from .ite (h5.frame (State.attention_frame (.refl s5) 4)) h5
  have h1 : LinksKept a s1 := .ite (h.closeEventBlock ..) h
  clear_value s1
  have h3 : LinksKept a s3 := LinksKept.frame (s := s2) (h1.of_mbx rfl) (State.bump_frame (.refl s2) ..)
  clear_value s3
  have h4 : LinksKept a s4 := .ite (h3.foldl fun v x => (LinksKept.refl v).unsolicited ..) h3
  clear_value s4
  exact .ite (h4.of_mbx rfl) h4

theorem LinksKept.record (h : LinksKept a s) (code sev : Nat) (data : Bytes) (str node epoch : Nat) :
    LinksKept a (s.record code sev data str node epoch) :=
  .ite (.ite (h.of_mbx rfl) (h.putEvent _)) h

theorem LinksKept.closeStream (h : LinksKept a s) (num : Nat) (q : Stream) : LinksKept a (s.closeStream num q) := by
  have strayed : LinksKept a ((s.modSess num fun x => { x with streams := x.streams.filter fun r => decide (r.num ≠ q.num) }).strayStream q) :=
    (h.modSess num (f := fun x => { x with streams := x.streams.filter fun r => decide (r.num ≠ q.num) }) fun _ => rfl).frame
      (State.strayStream_frame (M := besideMailbox) (.refl _) q)
  exact .ite (strayed.of_mbx rfl) strayed

theorem LinksKept.calAbandon (h : LinksKept a s) (which : Cal → Bool) : LinksKept a (s.calAbandon which) := by
  refine h.eachStr fun n v => ?_
  unfold State.calEnd
  split
  · refine .ite ?_ (.refl v)
    split
    · exact .refl v
    · exact LinksKept.answerOpt (s := v.modFe n _) (.of_mbx (.refl v) rfl) ..
  · exact .refl v

/-! ### Connections found again -/

/-- A change of a connection that leaves its number is found under that number. -/
theorem State.modConn_conn? (s : State) (id : Nat) {f : Conn → Conn} (same : ∀ c, (f c).id = c.id) :
    (s.modConn id f).conn? id = (s.conn? id).map f := by
  unfold State.modConn State.conn?
  rw [List.find?_map]
  have sees : ((fun c : Conn => c.id == id) ∘ fun c => if c.id = id then f c else c) = fun c => c.id == id := by
    funext c
    rw [Function.comp_apply]
    split
    · rw [same]
    · rfl
  rw [sees]
  cases found : s.mbx.conns.find? fun c => c.id == id with
  | none => rfl
  | some c =>
    have num : c.id = id := by simpa using List.find?_some found
    simp [num]

/-- A change of another connection, or of this one but for its number, leaves a connection there. -/
theorem State.modConn_some (s : State) (id n : Nat) {f : Conn → Conn} (same : ∀ c, (f c).id = c.id) :
    ((s.modConn n f).conn? id).isSome = (s.conn? id).isSome := by
  rw [Bool.eq_iff_iff, State.conn?, State.conn?, List.find?_isSome, List.find?_isSome]
  simp only [State.modConn, List.mem_map]
  constructor
  · rintro ⟨_, ⟨c, mem, rfl⟩, num⟩
    refine ⟨c, mem, ?_⟩
    split at num
    · rwa [same] at num
    · exact num
  · rintro ⟨c, mem, num⟩
    refine ⟨_, ⟨c, mem, rfl⟩, ?_⟩
    split
    · rwa [same]
    · exact num

theorem State.dropConn_conn? (s : State) (id : Nat) : (s.dropConn id).conn? id = none := by
  simp [State.conn?, State.dropConn, List.find?_eq_none]

/-- The end of one connection leaves the others there. -/
theorem State.dropConn_some (s : State) {id n : Nat} (ne : n ≠ id) : ((s.dropConn n).conn? id).isSome = (s.conn? id).isSome := by
  rw [Bool.eq_iff_iff, State.conn?, State.conn?, List.find?_isSome, List.find?_isSome]
  simp only [State.dropConn, List.mem_filter]
  constructor
  · rintro ⟨c, ⟨mem, -⟩, num⟩
    exact ⟨c, mem, num⟩
  · rintro ⟨c, mem, num⟩
    have : c.id = id := by simpa using num
    exact ⟨c, ⟨mem, by simp [this, ne.symm]⟩, num⟩

theorem State.endConn_conn? (s : State) (id : Nat) : (s.endConn id).conn? id = none := State.dropConn_conn? ..

/-! ### A connection on which no session is stays when sessions are closed -/

/-- There is a connection of this number, and no session is on it. -/
structure Unused (id : Nat) (s : State) : Prop where
  there : (s.conn? id).isSome = true
  free : ∀ y ∈ s.mbx.sess, y.conn ≠ id

theorem Unused.of_links (h : Unused id s) (k : LinksKept s u) : Unused id u := by
  refine ⟨?_, fun y mem on => ?_⟩
  · rw [State.conn?, k.conns]
    exact h.there
  · have listed : (y.num, y.conn, y.cls) ∈ s.links := k.links ▸ List.mem_map_of_mem mem
    obtain ⟨x, memx, same⟩ := List.mem_map.1 listed
    obtain ⟨-, conn, -⟩ : x.num = y.num ∧ x.conn = y.conn ∧ x.cls = y.cls := by simpa using same
    exact h.free x memx (conn.trans on)

theorem Unused.endSession (h : Unused id s) (num : Nat) : Unused id (s.endSession num) := by
  unfold State.endSession
  split
  · exact h
  · next x found =>
    extract_lets s1 mbx s2 s3 s4 s5 sec
    have h1 : Unused id s1 := h.of_links (.foldl (.refl s) fun v q => (LinksKept.refl v).closeStream num q)
    clear_value s1
    have h2 : Unused id s2 := ⟨h1.there, fun y mem => h1.free y (List.mem_of_mem_filter mem)⟩
    clear_value s2
    have h3 : Unused id s3 := h2.of_links (.foldl (.refl s2) fun v f => .of_mbx (.refl v) (State.wr_mbx ..))
    clear_value s3
    have h4 : Unused id s4 := h3.of_links (.calAbandon (.refl s3) _)
    clear_value s4
    exact ⟨(s4.modConn_some id x.conn (f := fun c => { c with reqs := x.next }) fun _ => rfl).trans h4.there, h4.free⟩

theorem Unused.shutSession (h : Unused id s) (num reason : Nat) : Unused id (s.shutSession num reason) := by
  unfold State.shutSession
  split
  · exact h
  · next x found =>
    have told := h.of_links (.unsolicited (.refl s) num 0x00F3 [reason])
    generalize s.unsolicited num 0x00F3 [reason] = v at *
    have other : x.conn ≠ id := h.free x (List.mem_of_find?_eq_some found)
    have ended : Unused id (match v.mbx.sess.find? fun y => y.conn == x.conn with
        | some y => v.endSession y.num
        | none => v) := by
      split
      · exact told.endSession _
      · exact told
    exact ⟨(State.dropConn_some _ other).trans ended.there, ended.free⟩

theorem Unused.trustRecheck (h : Unused id s) : Unused id s.trustRecheck := by
  refine List.foldlRecOn _ _ h fun v hv x _ => ?_
  split
  · exact hv
  · split
    · split
      · exact hv
      · exact hv.shutSession ..
    · exact hv.shutSession ..

end Sys2Proof.Machine
end

section
/-! PROOFS. Connections are opened, admitted, refused and ended (chapter 05, chapter 21), and the settling of ConnectionsComeAndGo
(O15). -/

namespace Sys2Proof.Machine

open Sys2Proof.Obj

set_option Elab.async false

variable {s u : State} {t id port dst tag addr tcp e : Nat} {hello : Hello} {c : Conn}

/-! ### A connection arrives -/

/-- A connection as it is entered, its handshake under way. -/
def Conn.arrived (id port addr tcp now : Nat) : Conn :=
  ⟨id, port, addr, tcp, now, false, 0, 0xFF, [], false, false, false, 0, 0, 0, 0, 0⟩

theorem State.netSeen_own (here : port = 1 ∨ port = 2) : s.netSeen port (s.netNow 4 port) = true := by
  obtain rfl | rfl := here <;> simp [State.netSeen]

theorem tcpArrived (up : s.mailboxUp = true) (new : s.conn? id = none) (here : port = 1 ∨ port = 2) (vlan : tag = s.netNow 4 port) :
    exec (.tcpConnection t id port addr ⟨tcp, dst, tag⟩ .connect) s = .next ((s.at t).tcpArrives id port addr ⟨tcp, dst, tag⟩) := by
  show execTcpConnection t id port addr ⟨tcp, dst, tag⟩ .connect s = _
  unfold execTcpConnection
  dsimp only
  rw [show (s.at t).mailboxUp = true from up, State.at_conn?, new, show (s.at t).netSeen port tag = true from vlan ▸ State.netSeen_own here]
  rfl

theorem tcpAccepted (up : s.mailboxUp = true) (new : s.conn? id = none) (here : port = 1 ∨ port = 2) (vlan : tag = s.netNow 4 port)
    (listens : dst = s.netNow 3 port) (room : (s.mbx.conns.filter fun c => !c.up).length < 4) :
    ∃ u, exec (.tcpConnection t id port addr ⟨tcp, dst, tag⟩ .connect) s = .next u ∧ Only ⟨false, [], [.mbx, .out]⟩ s u ∧
      u.out = .accept id port (s.netTag port) :: s.out ∧
      u.mbx.conns = s.mbx.conns ++
        [⟨id, port, addr, tcp, max s.now t, false, 0, 0xFF, [], false, false, false, 0, 0, 0, 0, 0⟩] := by
  have taken : (s.at t).tcpArrives id port addr ⟨tcp, dst, tag⟩ = ({ s.at t with mbx := { s.mbx with conns := s.mbx.conns ++
      [Conn.arrived id port addr tcp (max s.now t)] } }).send
        (.accept id port (s.netTag port)) := (if_neg (not_not_intro listens)).trans (if_neg (Nat.not_le.2 room))
  have frame : Frame (2 ^ 0 + 2 ^ 8 + 2 ^ 26) s ((s.at t).tcpArrives id port addr ⟨tcp, dst, tag⟩) := by
    rw [taken]
    exact State.send_frame ((State.at_frame (.refl s) t).on_mbx _) _
  refine ⟨_, tcpArrived up new here vlan, frame.only (r := ⟨false, [], [.mbx, .out]⟩), ?_⟩
  rw [taken]
  exact ⟨rfl, rfl⟩

theorem tcpReset (up : s.mailboxUp = true) (new : s.conn? id = none) (here : port = 1 ∨ port = 2) (vlan : tag = s.netNow 4 port)
    (listens : dst = s.netNow 3 port) (full : 4 ≤ (s.mbx.conns.filter fun c => !c.up).length) :
    ∃ u, exec (.tcpConnection t id port addr ⟨tcp, dst, tag⟩ .connect) s = .next u ∧ u.out = .close id :: s.out ∧
      u.mbx.conns = s.mbx.conns := by
  refine ⟨_, tcpArrived up new here vlan, ?_⟩
  have reset : (s.at t).tcpArrives id port addr ⟨tcp, dst, tag⟩ = (s.at t).send (.close id) :=
    (if_neg (not_not_intro listens)).trans (if_pos full)
  rw [reset]
  exact ⟨rfl, rfl⟩

/-! ### A handshake ends -/

/-- What a client offers and shows passes every check before the trust list. -/
structure Offered (t : Nat) (h : Hello) (s : State) : Prop where
  options : helloOk h = true
  chain : h.chain ≠ []
  short : h.chain.length ≤ 4
  keys : s.nv.keysPresent = true
  dates : s.rdB TimeStatus.FIRST_LOCK_DONE = true → Config.datesOk h.chain (s.at t).base = true

/-- No check before the trust list fails. -/
theorem Offered.passes (h : Offered t hello s) :
    (!helloOk hello || !true || hello.chain.isEmpty || decide (4 < hello.chain.length) || !(s.at t).nv.keysPresent ||
      ((s.at t).rdB TimeStatus.FIRST_LOCK_DONE && !Config.datesOk hello.chain (s.at t).base)) = false := by
  have dates : (s.rdB TimeStatus.FIRST_LOCK_DONE && !Config.datesOk hello.chain (s.at t).base) = false := by
    cases locked : s.rdB TimeStatus.FIRST_LOCK_DONE
    · rfl
    · rw [h.dates locked]
      rfl
  simp [h.options, h.chain, h.short, h.keys, dates]

/-- A connection once its client is admitted. -/
def Conn.granted (c : Conn) (now cls entry : Nat) (h : Hello) (un bind : Bool) : Conn :=
  { c with up := true, since := now, cls := cls, entry := entry, chain := h.chain, unchecked := un, bind := bind,
           suite := helloSuite h, recMax := helloRecord h }

/-- A connection that is granted is open, with the class, the chain and the parameters of its handshake. -/
theorem State.grantSession_conn (there : (s.conn? id).isSome = true) (cls entry : Nat) (bind : Bool) :
    ∃ c', (s.grantSession id cls entry hello bind).conn? id = some c' ∧ c'.up = true ∧ c'.cls = cls ∧ c'.chain = hello.chain ∧
      c'.suite = helloSuite hello ∧ c'.recMax = helloRecord hello := by
  obtain ⟨c, found⟩ := Option.isSome_iff_exists.1 there
  have changed := s.modConn_conn? id (f := fun c => c.granted s.now cls entry hello (!s.rdB TimeStatus.FIRST_LOCK_DONE) bind)
    fun _ => rfl
  rw [found] at changed
  exact ⟨_, changed, rfl, rfl, rfl, rfl, rfl⟩

theorem State.grantSession_out (s : State) (id cls entry : Nat) (h : Hello) (bind : Bool) :
    (s.grantSession id cls entry h bind).out = .tls id (helloSuite h) (helloRecord h) :: s.out := rfl

theorem handshakeTrusted (up : s.mailboxUp = true) (found : s.conn? id = some c) (under : c.up = false) (offered : Offered t hello s)
    (closed : (s.at t).windowOpen = false) (trusted : (s.at t).trustMatch hello.chain = some e) :
    ∃ u c', exec (.tcpConnection t id port addr ⟨tcp, dst, tag⟩ (.finished hello true)) s = .next u ∧
      u.out = .tls id (helloSuite hello) (helloRecord hello) :: s.out ∧ u.conn? id = some c' ∧ c'.up = true ∧
      c'.cls = s.rd TrustList.CLASS e ∧ c'.chain = hello.chain ∧ c'.suite = helloSuite hello ∧ c'.recMax = helloRecord hello := by
  have run : exec (.tcpConnection t id port addr ⟨tcp, dst, tag⟩ (.finished hello true)) s =
      .next ((s.at t).finishHandshake id hello true) := by
    show execTcpConnection t id port addr ⟨tcp, dst, tag⟩ (.finished hello true) s = _
    unfold execTcpConnection
    dsimp only
    rw [show (s.at t).mailboxUp = true from up]
    rfl
  generalize noted : ((s.at t).bump TrustList.USE_COUNT e).stamp TrustList.LAST_USED_TIME e = v
  have finishes : (s.at t).finishHandshake id hello true = v.grantSession id (v.rd TrustList.CLASS e) e hello false := by
    unfold State.finishHandshake
    rw [State.at_conn?, found]
    dsimp only
    rw [under, offered.passes, closed, trusted, if_neg Bool.false_ne_true, if_neg Bool.false_ne_true, if_neg Bool.false_ne_true]
    dsimp only
    rw [noted]
  have frame : Frame (besideRegs [TrustList.CLASS] - 2 ^ 8 - 2 ^ 26) (s.at t) v :=
    noted ▸ State.stamp_frame (State.bump_frame (.refl _) ..) ..
  have cls : v.rd TrustList.CLASS e = s.rd TrustList.CLASS e := (frame.rd ..).trans (State.at_rd ..)
  have there : (v.conn? id).isSome = true := by
    rw [State.conn?, frame.eq_mbx]
    exact Option.isSome_iff_exists.2 ⟨c, found⟩
  obtain ⟨c', found', granted⟩ := State.grantSession_conn (hello := hello) there (v.rd TrustList.CLASS e) e false
  refine ⟨_, c', run, ?_, by rw [finishes]; exact found', cls ▸ granted⟩
  rw [finishes, State.grantSession_out, frame.eq_out, State.at_out]

/-! ### Timeouts and ends -/

theorem handshakeAbandoned (hi : s.inv = true) (up : s.mailboxUp = true) (found : s.conn? id = some c) (under : c.up = false)
    (late : c.since + secs 10 ≤ t) :
    ∃ u, exec (.handshakeTimeout t id) s = .next u ∧ u.conn? id = none ∧ u.out = .tlsFail id :: s.out ∧
      Counts MailboxStatus.TLS_FAILURES 0 s u := by
  have run : exec (.handshakeTimeout t id) s = .next ((s.at t).failTls id) := by
    show execHandshakeTimeout t id s = _
    unfold execHandshakeTimeout
    dsimp only
    rw [State.at_conn?, found]
    have due : c.since + secs 10 ≤ (s.at t).now := late.trans (le_max_right ..)
    dsimp only
    rw [show (s.at t).mailboxUp = true from up, under, decide_eq_true due]
    rfl
  exact ⟨_, run, (s.at t).dropConn_conn? id, rfl, .of_bump (v := (s.at t).dropConn id) (sorted_of_inv (s := s) hi) ((s.at_rd t ..)) rfl⟩

theorem unopenedClosed (hi : s.inv = true) (up : s.mailboxUp = true) (found : s.conn? id = some c) (isUp : c.up = true)
    (unopened : c.opened = false) (late : c.since + secs 10 ≤ t) :
    ∃ u, exec (.openSessionTimeout t id) s = .next u ∧ u.conn? id = none ∧ u.out.head? = some (.close id) ∧
      Counts MailboxStatus.SESSIONS_REFUSED 0 s u := by
  have run : exec (.openSessionTimeout t id) s =
      .next ((((s.at t).endConn id).bump MailboxStatus.SESSIONS_REFUSED).send (.close id)) := by
    show execOpenSessionTimeout t id s = _
    unfold execOpenSessionTimeout
    dsimp only
    rw [State.at_conn?, found]
    have due : c.since + secs 10 ≤ (s.at t).now := late.trans (le_max_right ..)
    dsimp only
    rw [show (s.at t).mailboxUp = true from up, isUp, unopened, decide_eq_true due]
    rfl
  have kept : ((s.at t).endConn id).inv = true := (State.endConn_keeps (.refl (s.at t)) id).inv hi
  have frame : Frame (besideRegs [MailboxStatus.SESSIONS_REFUSED]) (s.at t) ((s.at t).endConn id) := State.endConn_frame (.refl _) id
  exact ⟨_, run, (s.at t).endConn_conn? id, rfl,
    .of_bump (v := (s.at t).endConn id) (sorted_of_inv kept) ((frame.rd ..).trans (State.at_rd ..)) rfl⟩

theorem connectionEnded (runs : s.running = true) : ∃ u, exec (.connectionEnd t id) s = .next u ∧ u.conn? id = none :=
  ⟨_, congrArg Host.Outcome.next (if_pos runs), (s.at t).endConn_conn? id⟩

/-! ### The commissioning window -/

/-- All that a frame can name but the security state. -/
def besideSec : Nat := 2 ^ 1024 - 1 - 2 ^ 7

/-- The end of a session leaves the commissioning window as it is. -/
theorem State.endSession_window (s : State) (num : Nat) : (s.endSession num).sec.window = s.sec.window := by
  unfold State.endSession
  split
  · rfl
  · next x _ =>
    extract_lets s1 mbx s2 s3 s4 s5 sec
    have h1 : Frame besideSec s s1 := Frame.foldl _ _ (.refl s) fun v q => State.closeStream_frame (.refl v) num q
    clear_value s1
    have h2 : Frame besideSec s s2 := h1.on_mbx _
    clear_value s2
    have h3 : s3.sec = s2.sec := List.foldlRecOn (motive := fun v : State => v.sec = s2.sec) _ _ rfl fun v hv f _ => hv
    clear_value s3
    have h5 : Frame besideSec s3 s5 := (State.calAbandon_frame (.refl s3) _).on_mbx _
    clear_value s5
    show s5.sec.window = _
    exact congrArg Security.window (h5.eq_sec.trans (h3.trans h2.eq_sec))

theorem State.shutSession_window (s : State) (num reason : Nat) : (s.shutSession num reason).sec.window = s.sec.window := by
  unfold State.shutSession
  split
  · rfl
  · next x _ =>
    have told : (s.unsolicited num 0x00F3 [reason]).sec = s.sec := (State.unsolicited_frame (M := besideSec) (.refl s) ..).eq_sec
    generalize s.unsolicited num 0x00F3 [reason] = v at *
    rw [← told]
    show (match v.mbx.sess.find? fun y : Sess => y.conn == x.conn with
      | some y => v.endSession y.num
      | none => v).sec.window = _
    split
    · exact v.endSession_window _
    · rfl

theorem State.trustRecheck_window (s : State) : s.trustRecheck.sec.window = s.sec.window := by
  refine List.foldlRecOn (motive := fun v : State => v.sec.window = s.sec.window) _ _ rfl fun v hv x _ => ?_
  split
  · exact hv
  · split
    · split
      · exact hv
      · exact (v.shutSession_window ..).trans hv
    · exact (v.shutSession_window ..).trans hv

/-- What is stored at once changes no register at another object. -/
theorem State.setStored_rd (s : State) (cs : List CellW) (f : Fld) (i x : Nat) (apart : ∀ c ∈ cs, c.key.obj ≠ f.obj) :
    (s.setStored cs).rd f i x = s.rd f i x := by
  have same : (s.setStored cs).objs.get? (f.key i x) = s.objs.get? (f.key i x) :=
    Store.get?_puts_ne _ _ _ fun ⟨c, mem, e⟩ => apart c mem (congrArg Key.obj e)
  rw [State.rd, State.rd, Store.rd, Store.rd, same]

/-- The window closes, and the entry of its first client is written, in a free place of the trust list. -/
def State.windowClosed (s : State) (h : Hello) : State :=
  let s := ({ s with sec := { s.sec with window := false } }).wrB SecurityStatus.COMMISSIONING_OPEN 0 false
  match s.freeEntry with
  | some e =>
    let s := s.setStored [cell TrustList.KIND e 1, cell TrustList.CLASS e 3, cell TrustList.ENABLED e 1,
      cell TrustList.DIGEST e (digestOf (h.chain.headD []))]
    (s.trustRegs.record 0x1304 2 [e]).trustRecheck
  | none => s

theorem State.commission_eq (s : State) (id : Nat) (h : Hello) :
    ∃ entry, s.commission id h = (s.windowClosed h).grantSession id 3 entry h true := ⟨_, rfl⟩

/-- The window is closed, and shown so; the connection it closes for stays. -/
theorem State.windowClosed_shows (hs : s.objs.sorted = true) (unused : Unused id s) :
    Unused id (s.windowClosed hello) ∧ (s.windowClosed hello).sec.window = false ∧
      (s.windowClosed hello).rdB SecurityStatus.COMMISSIONING_OPEN = false := by
  unfold State.windowClosed
  extract_lets sec s1
  have unused1 : Unused id s1 := ⟨unused.there, unused.free⟩
  have window1 : s1.sec.window = false := rfl
  have shown1 : s1.rdB SecurityStatus.COMMISSIONING_OPEN = false :=
    State.rdB_wrB (s := { s with sec := { s.sec with window := false } }) hs _ _ _ _ (by decide)
  clear_value s1
  split
  · next e _ =>
    extract_lets s2
    have links2 : LinksKept s1 s2 := .of_mbx (.refl s1) rfl
    have window2 : s2.sec.window = false := window1
    have shown2 : s2.rdB SecurityStatus.COMMISSIONING_OPEN = false := by
      rw [State.rdB, s1.setStored_rd _ _ _ _ (by simp [cell, Fld.key]; decide)]
      exact shown1
    clear_value s2
    have told : Frame (besideRegs [SecurityStatus.COMMISSIONING_OPEN] - 2 ^ 7) s2 (s2.trustRegs.record 0x1304 2 [e]) :=
      State.record_frame (State.trustRegs_frame (.refl s2)) _ _ _ _ _ _
    have links3 : LinksKept s2 (s2.trustRegs.record 0x1304 2 [e]) :=
      ((LinksKept.refl s2).frame (State.trustRegs_frame (.refl s2))).record ..
    have checked : Frame (besideRegs [SecurityStatus.COMMISSIONING_OPEN]) (s2.trustRegs.record 0x1304 2 [e])
        (s2.trustRegs.record 0x1304 2 [e]).trustRecheck := State.trustRecheck_frame (.refl _)
    refine ⟨(unused1.of_links (links2.trans links3)).trustRecheck, ?_, ?_⟩
    · rw [State.trustRecheck_window, told.eq_sec]
      exact window2
    · exact (checked.rdB ..).trans ((told.rdB ..).trans shown2)
  · exact ⟨unused1, window1, shown1⟩

theorem commissioned (hi : s.inv = true) (up : s.mailboxUp = true) (found : s.conn? id = some c) (under : c.up = false)
    (isOpen : (s.at t).windowOpen = true) (offered : Offered t hello s) (unused : ∀ x ∈ s.mbx.sess, x.conn ≠ id) :
    ∃ u c', exec (.commissioned t id hello true) s = .next u ∧ u.conn? id = some c' ∧ c'.up = true ∧ c'.cls = 3 ∧
      c'.chain = hello.chain ∧ u.sec.window = false ∧ u.rdB SecurityStatus.COMMISSIONING_OPEN = false := by
  obtain ⟨entry, granted⟩ := (s.at t).commission_eq id hello
  have finishes : (s.at t).finishHandshake id hello true = ((s.at t).windowClosed hello).grantSession id 3 entry hello true := by
    unfold State.finishHandshake
    rw [State.at_conn?, found]
    dsimp only
    rw [under, offered.passes, isOpen, if_neg Bool.false_ne_true, if_neg Bool.false_ne_true, if_pos rfl, granted]
  obtain ⟨stays, closed, shown⟩ := State.windowClosed_shows (s := s.at t) (hello := hello) (sorted_of_inv hi)
    ⟨Option.isSome_iff_exists.2 ⟨c, found⟩, unused⟩
  obtain ⟨c', found', isUp, cls, chain, -⟩ := State.grantSession_conn (hello := hello) stays.there 3 entry true
  refine ⟨_, c', congrArg Host.Outcome.next ((if_pos ⟨up, isOpen⟩).trans finishes), found', isUp, cls, chain, closed, shown⟩

/-! ### KeyUpdates, records and what the network layer answers -/

theorem keysUpdated (up : s.mailboxUp = true) (found : s.conn? id = some c) (isUp : c.up = true) (ports : TcpPorts) (asks : Bool) :
    ∃ u c', exec (.tcpConnection t id port addr ports (.keyUpdate asks)) s = .next u ∧ u.conn? id = some c' ∧
      c'.rxKeys = c.rxKeys + 1 ∧ c'.txKeys = (if asks then c.txKeys + 1 else c.txKeys) ∧
      u.out = (if asks then [.keyUpdate id] else []) ++ s.out := by
  have run : exec (.tcpConnection t id port addr ports (.keyUpdate asks)) s = .next ((s.at t).keysUpdated id asks) := by
    show execTcpConnection t id port addr ports (.keyUpdate asks) s = _
    unfold execTcpConnection
    extract_lets v isOpen
    have opened : isOpen = true := by simp only [isOpen, v, State.at_conn?, found, isUp]
    exact congrArg Host.Outcome.next ((if_neg (by simp [show v.mailboxUp = true from up])).trans (if_pos opened))
  have changed := (s.at t).modConn_conn? id (f := fun c => { c with rxKeys := c.rxKeys + 1, txKeys := c.txKeys + b2n asks }) fun _ => rfl
  rw [State.at_conn?, found] at changed
  refine ⟨_, { c with rxKeys := c.rxKeys + 1, txKeys := c.txKeys + b2n asks }, run, ?_, rfl, ?_, ?_⟩
  · cases asks <;> exact changed
  · cases asks <;> rfl
  · cases asks <;> rfl

theorem recordTooLong {n : Nat} (up : s.mailboxUp = true) (found : s.conn? id = some c) (isUp : c.up = true) (ports : TcpPorts)
    (long : 16384 < n) :
    ∃ u, exec (.tcpConnection t id port addr ports (.record n)) s = .next u ∧ u.conn? id = none ∧ u.out.head? = some (.close id) := by
  have run : exec (.tcpConnection t id port addr ports (.record n)) s = .next (((s.at t).endConn id).send (.close id)) := by
    show execTcpConnection t id port addr ports (.record n) s = _
    unfold execTcpConnection
    extract_lets v isOpen
    have opened : isOpen = true := by simp only [isOpen, v, State.at_conn?, found, isUp]
    exact congrArg Host.Outcome.next ((if_neg (by simp [show v.mailboxUp = true from up])).trans (if_pos (by simp [opened, long])))
  exact ⟨_, run, (s.at t).endConn_conn? id, rfl⟩

theorem recordTaken {n : Nat} (up : s.mailboxUp = true) (ports : TcpPorts) (short : n ≤ 16384) :
    exec (.tcpConnection t id port addr ports (.record n)) s = .next (s.at t) := by
  show execTcpConnection t id port addr ports (.record n) s = _
  unfold execTcpConnection
  dsimp only
  rw [show (s.at t).mailboxUp = true from up, decide_eq_false (Nat.not_lt.2 short), Bool.and_false]
  rfl

/-- A packet under the port's VLAN is answered where the network layer answers it. -/
theorem queryRun (up : s.mailboxUp = true) (here : port = 1 ∨ port = 2) {ports : TcpPorts} (vlan : ports.tag = s.netNow 4 port)
    (q : NetQuery) : exec (.tcpConnection t id port addr ports (.query q)) s =
      .next (if s.netAnswers port q then (s.at t).send (.netReply port (s.netTag port) q) else s.at t) := by
  show execTcpConnection t id port addr ports (.query q) s = _
  unfold execTcpConnection
  dsimp only
  rw [show (s.at t).mailboxUp = true from up, show (s.at t).netSeen port ports.tag = true from vlan ▸ State.netSeen_own here]
  rfl

theorem queryAnswered (up : s.mailboxUp = true) (here : port = 1 ∨ port = 2) {ports : TcpPorts} (vlan : ports.tag = s.netNow 4 port)
    {q : NetQuery} {k : Nat} (asked : q = .arp (s.netNow 0 port) ∨ q = .echo (s.netNow 0 port) false k ∧ k ≤ 1500) :
    ∃ u, exec (.tcpConnection t id port addr ports (.query q)) s = .next u ∧
      u.out = .netReply port (s.netTag port) q :: s.out ∧ Only ⟨false, [], [.out]⟩ s u := by
  have answers : s.netAnswers port q = true := by
    obtain rfl | ⟨rfl, short⟩ := asked <;> simp [State.netAnswers, *]
  have frame : Frame (2 ^ 0 + 2 ^ 26) s ((s.at t).send (.netReply port (s.netTag port) q)) :=
    State.send_frame (State.at_frame (.refl s) t) _
  rw [queryRun up here vlan, if_pos answers]
  exact ⟨_, rfl, rfl, frame.only (r := ⟨false, [], [.out]⟩)⟩

theorem queryLeft (up : s.mailboxUp = true) (here : port = 1 ∨ port = 2) {ports : TcpPorts} (vlan : ports.tag = s.netNow 4 port)
    {q : NetQuery} {a k : Nat} {f : Bool}
    (other : q = .other ∨ q = .arp a ∧ a ≠ s.netNow 0 port ∨ q = .echo a f k ∧ (a ≠ s.netNow 0 port ∨ f = true ∨ 1500 < k)) :
    exec (.tcpConnection t id port addr ports (.query q)) s = .next (s.at t) := by
  have leaves : s.netAnswers port q = false := by
    obtain rfl | ⟨rfl, ne⟩ | ⟨rfl, ne | fragment | long⟩ := other <;> simp [State.netAnswers, *]
  rw [queryRun up here vlan, leaves, if_neg Bool.false_ne_true]

/-- Settles O15, row by row. -/
theorem connectionsComeAndGo : Obligations.ConnectionsComeAndGo :=
  ⟨fun _ _ _ _ _ _ _ _ up new here vlan listens =>
      ⟨tcpAccepted up new here vlan listens, tcpReset up new here vlan listens⟩,
    fun _ _ _ _ _ _ _ _ _ _ _ _ up found under options chain short keys dates closed trusted =>
      handshakeTrusted up found under ⟨options, chain, short, keys, dates⟩ closed trusted,
    fun _ _ _ _ hi up found under late => handshakeAbandoned hi up found under late,
    fun _ _ _ _ hi up found isUp unopened late => unopenedClosed hi up found isUp unopened late,
    fun _ _ _ runs => connectionEnded runs,
    fun _ _ _ _ _ hi up found under isOpen options chain short keys dates unused =>
      commissioned hi up found under isOpen ⟨options, chain, short, keys, dates⟩ unused,
    fun _ _ _ _ _ ports asks _ _ up found isUp =>
      ⟨keysUpdated up found isUp ports asks, recordTooLong up found isUp ports, recordTaken up ports⟩,
    fun _ _ _ _ _ _ _ _ _ _ up here vlan => ⟨queryAnswered up here vlan, queryLeft up here vlan⟩⟩

end Sys2Proof.Machine
end

section
/-! PROOFS. Sessions are opened, kept and closed (chapter 05), and the settling of SessionsOpenAndClose (O16). -/

namespace Sys2Proof.Machine

open Sys2Proof.Obj

set_option Elab.async false

variable {s u v : State} {t conn num n : Nat} {r : Req} {c : Conn} {x : Sess} {cls : Nat}

/-! ### OPEN_SESSION -/

/-- The answer of a free number: no session has it. -/
theorem State.sess?_of_free (free : s.freeSession = some n) : s.sess? n = none := by
  have := List.find?_some free
  simpa using this

theorem State.conn?_id {id : Nat} (found : s.conn? id = some c) : c.id = id := by
  have := List.find?_some found
  simpa using this

/-- A session is entered, and shown. -/
def State.sessionEntered (s : State) (c : Conn) (n : Nat) : State :=
  let s := { s with mbx := { s.mbx with sess := s.mbx.sess ++ [(⟨n, c.id, c.cls, s.now, 0, [], none, [], c.reqs⟩ : Sess)] } }
  let s := (s.wr SessionStatus.SESSION_STATE n 1).wr SessionStatus.PORT n c.port
  let s := (s.wr SessionStatus.CLASS n c.cls).wrB SessionStatus.TIME_UNCHECKED n c.unchecked
  let s := (s.wr SessionStatus.PEER_ADDR n c.addr).wr SessionStatus.PEER_PORT n c.tcp
  s.stamp SessionStatus.OPEN_TIME n

/-- A presence token is bound to a session. -/
def State.tokenBound (s : State) (n : Nat) : State :=
  (({ s with sec := { s.sec with bound := n } }).wr PresenceStatus.TOKEN_STATE 0 2).wr PresenceStatus.BOUND_SESSION 0 n

theorem State.newSession_eq (s : State) (c : Conn) (n : Nat) :
    s.newSession c n = if c.bind ∧ (s.sessionEntered c n).sec.token = 1 ∧ (s.sessionEntered c n).sec.bound = 0 then
      (s.sessionEntered c n).tokenBound n else s.sessionEntered c n := rfl

theorem State.sessionEntered_shows (hs : s.objs.sorted = true) (free : s.sess? n = none) :
    (s.sessionEntered c n).sess? n = some ⟨n, c.id, c.cls, s.now, 0, [], none, [], c.reqs⟩ ∧
      (s.sessionEntered c n).rd SessionStatus.SESSION_STATE n = 1 := by
  unfold State.sessionEntered
  extract_lets mbx s1 s2 s3 s4
  have found : s1.sess? n = some ⟨n, c.id, c.cls, s.now, 0, [], none, [], c.reqs⟩ := by
    simp only [s1, State.sess?, List.find?_append]
    rw [show s.mbx.sess.find? (·.num == n) = none from free]
    simp
  have sorted : s1.objs.sorted = true := hs
  clear_value s1
  have shown := State.wrAll_rd sorted n [] [(SessionStatus.PORT, c.port), (SessionStatus.CLASS, c.cls),
      (SessionStatus.TIME_UNCHECKED, b2n c.unchecked), (SessionStatus.PEER_ADDR, c.addr), (SessionStatus.PEER_PORT, c.tcp),
      (SessionStatus.OPEN_TIME, timeVal s4.base)] SessionStatus.SESSION_STATE 1
  refine ⟨?_, shown⟩
  simp only [s4, s3, s2, State.stamp_sess?, State.wr_sess?, State.wrB_sess?, found]

theorem State.tokenBound_keeps_session (s : State) (n m : Nat) :
    (s.tokenBound n).sess? m = s.sess? m ∧ (s.tokenBound n).rd SessionStatus.SESSION_STATE m = s.rd SessionStatus.SESSION_STATE m := by
  unfold State.tokenBound
  rw [State.wr_sess?, State.wr_sess?, State.rd_wr_apart _ _ _ _ _ _ _ _ rfl, State.rd_wr_apart _ _ _ _ _ _ _ _ rfl]
  exact ⟨rfl, rfl⟩

/-- A session that is opened is found under its number, and shown open. -/
theorem State.newSession_opens (hs : s.objs.sorted = true) (free : s.sess? n = none) :
    (s.newSession c n).sess? n = some ⟨n, c.id, c.cls, s.now, 0, [], none, [], c.reqs⟩ ∧
      (s.newSession c n).rd SessionStatus.SESSION_STATE n = 1 := by
  have entered := State.sessionEntered_shows (c := c) hs free
  rw [State.newSession_eq]
  generalize s.sessionEntered c n = v at *
  split
  · obtain ⟨found, shown⟩ := v.tokenBound_keeps_session n n
    rw [found, shown]
    exact entered
  · exact entered

/-- OPEN_SESSION on a connection without a session. -/
theorem sessionAsked (up : s.mailboxUp = true) (found : s.conn? r.conn = some c) (isUp : c.up = true)
    (first : (s.mbx.sess.find? fun x => x.conn == r.conn) = none) (ver : r.ver = 1) (none_named : r.sess = 0) :
    exec (.openSession t r []) s = .next
      (match ((s.at t).modConn r.conn fun c => { c with opened := true }).freeSession with
      | none => (((((s.at t).modConn r.conn fun c => { c with opened := true }).answerRaw r 0x0010 stBusy []).bump
          MailboxStatus.SESSIONS_REFUSED).endConn r.conn).send (.close r.conn)
      | some n => (((s.at t).modConn r.conn fun c => { c with opened := true }).newSession c n).send
          (.frame r.conn flagResponse 0x0010 stOk r.seq n
            (((s.at t).modConn r.conn fun c => { c with opened := true }).openReply c n))) := by
  show execOpenSession t r [] s = _
  unfold execOpenSession
  dsimp only
  rw [show (s.at t).mailboxUp = true from up, State.at_conn?, found, if_neg (by simp)]
  dsimp only
  rw [isUp, if_neg (by simp), show ((s.at t).mbx.sess.find? fun x => x.conn == r.conn) = none from first]
  dsimp only
  rw [if_neg (not_not_intro ver), if_neg (not_not_intro none_named), if_neg (by simp)] <;> rfl

theorem sessionOpened (hi : s.inv = true) (up : s.mailboxUp = true) (found : s.conn? r.conn = some c) (isUp : c.up = true)
    (first : (s.mbx.sess.find? fun x => x.conn == r.conn) = none) (ver : r.ver = 1) (none_named : r.sess = 0)
    (free : s.freeSession = some n) :
    ∃ u x, exec (.openSession t r []) s = .next u ∧ u.sess? n = some x ∧ x.conn = r.conn ∧ x.cls = c.cls ∧ x.outst = [] ∧
      u.out.head? = some (.frame r.conn flagResponse 0x10 stOk r.seq n ([n, c.cls, s.security, 0] ++ toLE 4 65536)) ∧
      u.rd SessionStatus.SESSION_STATE n = 1 := by
  obtain ⟨opened, shown⟩ := State.newSession_opens (s := (s.at t).modConn r.conn fun c => { c with opened := true }) (c := c)
    (sorted_of_inv (s := s) hi) (State.sess?_of_free (s := s) free)
  have run := sessionAsked (t := t) up found isUp first ver none_named
  rw [show ((s.at t).modConn r.conn fun c => { c with opened := true }).freeSession = some n from free] at run
  exact ⟨_, _, run, opened, State.conn?_id found, rfl, rfl, rfl, shown⟩

theorem sessionRefused (hi : s.inv = true) (up : s.mailboxUp = true) (found : s.conn? r.conn = some c) (isUp : c.up = true)
    (first : (s.mbx.sess.find? fun x => x.conn == r.conn) = none) (ver : r.ver = 1) (none_named : r.sess = 0)
    (full : s.freeSession = none) :
    ∃ u, exec (.openSession t r []) s = .next u ∧ u.conn? r.conn = none ∧ Counts MailboxStatus.SESSIONS_REFUSED 0 s u ∧
      Out.frame r.conn flagResponse 0x10 stBusy r.seq 0 [] ∈ u.out ∧ u.out.head? = some (.close r.conn) := by
  have run := sessionAsked (t := t) up found isUp first ver none_named
  rw [show ((s.at t).modConn r.conn fun c => { c with opened := true }).freeSession = none from full] at run
  dsimp only at run
  generalize refused : ((s.at t).modConn r.conn fun c => { c with opened := true }).answerRaw r 0x0010 stBusy [] = v at run
  have sorted : v.objs.sorted = true := refused ▸ sorted_of_inv (s := s) hi
  have before : v.rd MailboxStatus.SESSIONS_REFUSED = s.rd MailboxStatus.SESSIONS_REFUSED := refused ▸ rfl
  have answered : Out.frame r.conn flagResponse 0x10 stBusy r.seq 0 [] ∈ v.out := by
    subst refused
    rw [← none_named]
    exact List.mem_cons_self ..
  have frame : Frame (besideRegs [MailboxStatus.SESSIONS_REFUSED]) (v.bump MailboxStatus.SESSIONS_REFUSED)
      ((v.bump MailboxStatus.SESSIONS_REFUSED).endConn r.conn) := State.endConn_frame (.refl _) r.conn
  have out := (State.endConn_keeps (.refl (v.bump MailboxStatus.SESSIONS_REFUSED)) r.conn).out
  exact ⟨_, run, State.endConn_conn? .., .of_bump sorted before (frame.rd ..), List.mem_cons_of_mem _ (out.subset answered), rfl⟩

/-! ### PING_SESSION and CLOSE_SESSION -/

/-- What an answer alone may change. -/
def answerReach : Reach := ⟨false, [SessionStatus.REQUESTS.area], [.mbx, .out]⟩

/-- An answer to a served request changes its session, REQUESTS and the output. -/
theorem State.admitted_answer_only (s : State) (t : Nat) (r : Req) (cmd : Nat) (x : Sess) (rid : Rid) (st : Nat) (p : Bytes) :
    Only answerReach s ((s.admitted t r cmd x).answer rid st p) :=
  have frame : Frame 0x200000000000000000000004000101 s ((s.admitted t r cmd x).answer rid st p) :=
    State.answer_frame (Frame.mono (by decide +kernel) (State.admitted_frame s t r cmd x)) rid st p
  frame.only

theorem sessionPinged (served : Served r 1 s x) :
    ∃ u, exec (.pingSession t r []) s = .next u ∧ Responds u r 0x12 stOk [] ∧
      Only ⟨false, [SessionStatus.REQUESTS.area], [.mbx, .out]⟩ s u :=
  ⟨_, congrArg Host.Outcome.next (served.serve_now rfl), served.responds 0x12 rfl stOk [], s.admitted_answer_only ..⟩

theorem LinksKept.sess?_none (h : LinksKept s u) (gone : s.sess? num = none) : u.sess? num = none := by
  simp only [State.sess?, List.find?_eq_none] at *
  intro y mem on
  have listed : (y.num, y.conn, y.cls) ∈ s.links := h.links ▸ List.mem_map_of_mem mem
  obtain ⟨x, memx, same⟩ := List.mem_map.1 listed
  obtain ⟨num_eq, -, -⟩ : x.num = y.num ∧ x.conn = y.conn ∧ x.cls = y.cls := by simpa using same
  exact gone x memx (by rw [num_eq]; exact on)

/-- A session that has ended is not found. -/
theorem State.endSession_sess? (s : State) (num : Nat) : (s.endSession num).sess? num = none := by
  unfold State.endSession
  split
  · next gone => exact gone
  · next x _ =>
    extract_lets s1 mbx s2 s3 s4 s5 sec
    have gone2 : s2.sess? num = none := by simp [s2, State.sess?, List.find?_eq_none]
    clear_value s2
    have links3 : LinksKept s2 s3 := .foldl (.refl s2) fun v f => .of_mbx (.refl v) (State.wr_mbx ..)
    clear_value s3
    have links4 : LinksKept s3 s4 := .calAbandon (.refl s3) _
    clear_value s4
    exact (links3.trans links4).sess?_none gone2

theorem sessionClosed (served : Served r 1 s x) :
    ∃ u, exec (.closeSession t r []) s = .next u ∧ u.sess? x.num = none ∧
      Out.frame r.conn flagResponse 0x11 stOk r.seq r.sess [] ∈ u.out := by
  refine ⟨_, congrArg Host.Outcome.next (served.serve_later rfl), State.endSession_sess? .., ?_⟩
  have responds := served.responds (t := t) 0x11 rfl stOk []
  generalize (s.admitted t r 0x11 x).answer ⟨r.conn, x.num, 0x11, r.seq, x.next⟩ stOk [] = v at *
  exact (State.endSession_keeps (.refl v) x.num).out.subset (List.mem_of_head? responds)

/-! ### Idle sessions and unreadable frames -/

theorem sessionIdled (up : s.mailboxUp = true) (found : s.sess? num = some x) (on : s.conn? x.conn = some c)
    (idle : x.lastFrame + secs (s.netNow 2 c.port) ≤ t) :
    ∃ u, exec (.sessionIdle t num) s = .next u ∧ u.conn? x.conn = none ∧ u.out.head? = some (.close x.conn) ∧
      ∃ q, Out.frame x.conn flagUnsolicited 0xF3 0 q num [1] ∈ u.out := by
  have shut : (s.at t).shutSession num 1 = (((s.at t).unsolicited num 0x00F3 [1]).endConn x.conn).send (.close x.conn) := by
    rw [State.shutSession, State.at_sess?, found]
  have run : exec (.sessionIdle t num) s = .next ((s.at t).shutSession num 1) := by
    show execSessionIdle t num s = _
    unfold execSessionIdle
    dsimp only
    rw [State.at_sess?, found]
    dsimp only
    rw [State.at_conn?, on]
    exact congrArg Host.Outcome.next (if_pos ⟨up, idle.trans (le_max_right ..)⟩)
  have told : Out.frame x.conn flagUnsolicited 0x00F3 0 x.useq num [1] ∈ ((s.at t).unsolicited num 0x00F3 [1]).out := by
    rw [State.unsolicited, State.at_sess?, found]
    exact List.mem_cons_self ..
  rw [shut] at run
  have out := (State.endConn_keeps (.refl ((s.at t).unsolicited num 0x00F3 [1])) x.conn).out
  exact ⟨_, run, State.endConn_conn? .., rfl, _, List.mem_cons_of_mem _ (out.subset told)⟩

theorem frameUnknown {hdr : Bytes} (readable : unreadable hdr = false) (foreign : hostCommands.contains (field hdr 4 2) = false)
    (served : Served ⟨conn, field hdr 2 1, field hdr 0x0A 1, field hdr 8 2⟩ 0 s x) :
    ∃ u, exec (.unreadableFrame t conn hdr) s = .next u ∧
      Responds u ⟨conn, field hdr 2 1, field hdr 0x0A 1, field hdr 8 2⟩ (field hdr 4 2) stUnknown [] ∧
      Only ⟨false, [SessionStatus.REQUESTS.area], [.mbx, .out]⟩ s u := by
  refine ⟨_, ?_, served.responds (t := t) (field hdr 4 2) rfl stUnknown [], s.admitted_answer_only ..⟩
  show execUnreadableFrame t conn hdr s = _
  unfold execUnreadableFrame
  dsimp only
  rw [readable, foreign, if_neg Bool.false_ne_true, if_neg Bool.false_ne_true]
  exact congrArg Host.Outcome.next (served.serve_now rfl)

theorem frameUnreadable {hdr : Bytes} (bad : unreadable hdr = true) (up : s.mailboxUp = true) (found : s.conn? conn = some c)
    (isUp : c.up = true) :
    ∃ u, exec (.unreadableFrame t conn hdr) s = .next u ∧ u.conn? conn = none ∧ u.out.head? = some (.close conn) := by
  have drops : (s.at t).badFrame conn = (((s.at t).endConn conn).bump MailboxStatus.FRAME_ERRORS).send (.close conn) := by
    rw [State.badFrame, State.at_conn?, found]
    exact if_pos (by simp [show (s.at t).mailboxUp = true from up, isUp])
  refine ⟨_, congrArg Host.Outcome.next ((if_pos bad).trans drops), ?_, rfl⟩
  rw [State.send_conn?, State.bump_conn?]
  exact State.endConn_conn? ..

/-- Settles O16, row by row. -/
theorem sessionsOpenAndClose : Obligations.SessionsOpenAndClose :=
  ⟨fun _ _ _ _ hi up found isUp first ver none_named =>
      ⟨fun _ free => sessionOpened hi up found isUp first ver none_named free,
        fun full => sessionRefused hi up found isUp first ver none_named full⟩,
    fun _ _ _ _ served => sessionPinged served, fun _ _ _ _ served => sessionClosed served,
    fun _ _ _ _ _ up found on idle => sessionIdled up found on idle,
    fun _ _ _ _ _ readable foreign served => frameUnknown readable foreign served,
    fun _ _ _ _ _ bad up found isUp => frameUnreadable bad up found isUp⟩

end Sys2Proof.Machine
end

section
/-! PROOFS. Reads of the identity (chapters 04 and 05) and the opening and end of transactions, with the settling of
IdentityReads (O17) and TransactionsOpenAndEnd (O18). -/

namespace Sys2Proof.Machine

open Sys2Proof.Obj

set_option Elab.async false

variable {s u v : State} {t num : Nat} {r : Req} {cls : Nat} {x y : Sess} {p : Bytes} {q : Txn} {rid : Rid}

/-! ### Requests that only read -/

/-- A request answered at once with nothing done: the response leaves, and nothing but its session changes. -/
theorem Served.read (served : Served r cls s x) {cmd st : Nat} {p : Bytes} {body : Rid → Sess → State → State × Reply}
    (e : body ⟨r.conn, x.num, cmd, r.seq, x.next⟩ x (s.admitted t r cmd x) = (s.admitted t r cmd x, .now st p)) :
    Responds (s.serve t r cmd true cls body) r cmd st p ∧ Only answerReach s (s.serve t r cmd true cls body) := by
  rw [served.serve_now e]
  exact ⟨served.responds cmd rfl st p, s.admitted_answer_only ..⟩

theorem identityRead (served : Served r 1 s x) :
    ∃ u, exec (.getIdentity t r []) s = .next u ∧
      Responds u r 0x30 stOk (s.objBytes ModuleIdentity.desc 0 ++ [Config.certCount % 256]) ∧
      Only ⟨false, [SessionStatus.REQUESTS.area], [.mbx, .out]⟩ s u :=
  ⟨_, rfl, served.read rfl⟩

theorem certRead (served : Served r 1 s x) (length : p.length = 1) :
    ∃ u, exec (.getCert t r p) s = .next u ∧
      (field p 0 1 < Config.certCount → Responds u r 0x31 stOk (Config.cert (field p 0 1))) ∧
      (Config.certCount ≤ field p 0 1 → Responds u r 0x31 stRange (toLE 2 0)) ∧
      Only ⟨false, [SessionStatus.REQUESTS.area], [.mbx, .out]⟩ s u := by
  by_cases none_such : Config.certCount ≤ field p 0 1
  · refine ⟨_, rfl, fun lt => absurd none_such (Nat.not_le.2 lt), ?_⟩
    rw [decide_eq_true length]
    exact And.imp_left (fun responds _ => responds) (served.read (guarded_of_refusal (by rw [decide_eq_true none_such]; rfl) _ _))
  · refine ⟨_, rfl, ?_⟩
    rw [decide_eq_true length]
    obtain ⟨responds, only⟩ := served.read (t := t) (cmd := 0x31) (st := stOk) (p := Config.cert (field p 0 1))
      (body := fun _ _ s => guarded [(decide (Config.certCount ≤ field p 0 1), refOff stRange 0)] s fun s =>
        (s, .now stOk (Config.cert (field p 0 1))))
      (guarded_of_none (by rw [decide_eq_false none_such]; rfl) _ _)
    exact ⟨fun _ => responds, fun le => absurd le none_such, only⟩

theorem objectsListed (served : Served r 1 s x) (length : p.length = 1) :
    ∃ u, exec (.listObj t r p) s = .next u ∧
      Responds u r 0x06 stOk ((Obj.all.filter fun d => decide (field p 0 1 = 0) || decide (d.id / 256 = field p 0 1)).flatMap s.listEntry) ∧
      Only ⟨false, [SessionStatus.REQUESTS.area], [.mbx, .out]⟩ s u := by
  refine ⟨_, rfl, ?_⟩
  rw [decide_eq_true length]
  exact served.read rfl

/-! ### GET_QUOTE -/

/-- The answer of a request served with a free value drawn. -/
theorem Served.drawn (served : Served r cls s x) (cmd st : Nat) (p : Bytes) {body : Rid → Sess → State → State × Reply}
    (e : body ⟨r.conn, x.num, cmd, r.seq, x.next⟩ x (s.admitted t r cmd x) =
      ({ s.admitted t r cmd x with free := (s.admitted t r cmd x).free + 1 }, .now st p)) :
    Responds (s.serve t r cmd true cls body) r cmd st p ∧
      Only ⟨false, [SessionStatus.REQUESTS.area], [.mbx, .out, .free]⟩ s (s.serve t r cmd true cls body) := by
  rw [served.serve_now e]
  have admitted : Frame 0x200000000000000000000006000101 s (s.admitted t r cmd x) :=
    Frame.mono (by decide +kernel) (State.admitted_frame s t r cmd x)
  have frame := State.answer_frame (admitted.on_free ((s.admitted t r cmd x).free + 1))
    ⟨r.conn, x.num, cmd, r.seq, x.next⟩ st p
  exact ⟨served.responds (v := { s.admitted t r cmd x with free := (s.admitted t r cmd x).free + 1 }) cmd rfl st p, frame.only⟩

/-- An answer alone is less than an answer with a free value. -/
theorem Only.with_free (only : Only answerReach s u) : Only ⟨false, [SessionStatus.REQUESTS.area], [.mbx, .out, .free]⟩ s u := by
  obtain ⟨queue, regs, parts⟩ := only
  refine ⟨queue, regs, fun p out => parts p fun named => out ?_⟩
  have of_sub : [Part.mbx, .out] ⊆ [.mbx, .out, .free] := by decide
  exact of_sub named

theorem quoteSigned (served : Served r 1 s x) (length : p.length = 33) :
    ∃ u, exec (.getQuote t r p) s = .next u ∧
      (field p 32 1 ≠ 0 → Responds u r 0x32 stOk ((s.at t).quoteBody (p.take 32) (field p 32 1) ++
        padTo 96 (Config.sign s.free ((s.at t).quoteBody (p.take 32) (field p 32 1))))) ∧
      (field p 32 1 = 0 → Responds u r 0x32 stRange (toLE 2 32)) ∧
      Only ⟨false, [SessionStatus.REQUESTS.area], [.mbx, .out, .free]⟩ s u := by
  by_cases unnamed : field p 32 1 = 0
  · refine ⟨_, rfl, fun named => absurd unnamed named, ?_⟩
    rw [decide_eq_true length]
    exact (served.read (guarded_of_refusal (by rw [decide_eq_true unnamed]; rfl) _ _)).imp (fun responds _ => responds)
      fun only => only.with_free
  · refine ⟨_, rfl, ?_⟩
    rw [decide_eq_true length]
    obtain ⟨responds, only⟩ := served.drawn (t := t) 0x32 stOk ((s.at t).quoteBody (p.take 32) (field p 32 1) ++
        padTo 96 (Config.sign s.free ((s.at t).quoteBody (p.take 32) (field p 32 1))))
      (body := fun _ _ s => guarded [(decide (field p 32 1 = 0), refOff stRange 32)] s fun s =>
        ({ s with free := s.free + 1 }, .now stOk (s.quoteBody (p.take 32) (field p 32 1) ++
          padTo 96 (Config.sign s.free (s.quoteBody (p.take 32) (field p 32 1))))))
      (guarded_of_none (by rw [decide_eq_false unnamed]; rfl) _ _)
    exact ⟨fun _ => responds, fun named => absurd named unnamed, only⟩

/-- Settles O17, row by row. -/
theorem identityReads : Obligations.IdentityReads :=
  ⟨fun _ _ _ _ served => identityRead served, fun _ _ _ _ _ served length => certRead served length,
    fun _ _ _ _ _ served length => quoteSigned served length, fun _ _ _ _ _ served length => objectsListed served length⟩

/-! ### Transactions -/

/-- An answer leaves the transaction of its session. -/
theorem State.answer_txn (found : v.sess? rid.sess = some y) (st : Nat) (p : Bytes) :
    ∃ z, (v.answer rid st p).sess? rid.sess = some z ∧ z.txn = y.txn := by
  have num : y.num = rid.sess := (State.sess?_mem found).2
  unfold State.answer
  rw [found]
  dsimp only
  split
  · exact ⟨y, found, rfl⟩
  · rw [← num] at found ⊢
    unfold State.flushSess
    exact ⟨_, find_map_num (f := fun z => { z with outst := (flush y.num y.conn (setReply rid.no st p y.outst)).1 }) found
      fun _ => rfl, rfl⟩

/-- A request that is answered at once with the transaction of its session changed. -/
theorem Served.transacted (served : Served r cls s x) (cmd : Nat) (txn : Option Txn) {body : Rid → Sess → State → State × Reply}
    (e : body ⟨r.conn, x.num, cmd, r.seq, x.next⟩ x (s.admitted t r cmd x) =
      ((s.admitted t r cmd x).modSess x.num fun y => { y with txn := txn }, .now stOk [])) :
    ∃ y, Responds (s.serve t r cmd true cls body) r cmd stOk [] ∧ (s.serve t r cmd true cls body).sess? x.num = some y ∧
      y.txn = txn ∧ Only answerReach s (s.serve t r cmd true cls body) := by
  rw [served.serve_now e]
  have found : ((s.admitted t r cmd x).modSess x.num fun y => { y with txn := txn }).sess? x.num =
      some { x.taken (max s.now t) cmd r.seq x.next with txn := txn } :=
    find_map_num (f := fun y => { y with txn := txn }) (served.admitted t cmd) fun _ => rfl
  have responds := served.responds_of_asked (t := t) (cmd := cmd)
    ((s.admitted t r cmd x).modSess_asked x.num (f := fun y => { y with txn := txn }) fun _ => rfl) stOk []
  obtain ⟨y, shown, same⟩ := State.answer_txn (rid := ⟨r.conn, x.num, cmd, r.seq, x.next⟩) found stOk []
  have admitted : Frame 0x200000000000000000000004000101 s (s.admitted t r cmd x) :=
    Frame.mono (by decide +kernel) (State.admitted_frame s t r cmd x)
  have frame := State.answer_frame (State.modSess_frame admitted x.num fun y => { y with txn := txn })
    ⟨r.conn, x.num, cmd, r.seq, x.next⟩ stOk []
  exact ⟨y, responds, shown, same, frame.only⟩

theorem transactionBegun (served : Served r 2 s x) (free : x.txn = none) :
    ∃ u y, exec (.beginTxn t r []) s = .next u ∧ Responds u r 0x03 stOk [] ∧ u.sess? x.num = some y ∧
      y.txn = some ⟨[], [], max s.now t⟩ ∧ Only ⟨false, [SessionStatus.REQUESTS.area], [.mbx, .out]⟩ s u := by
  obtain ⟨y, found⟩ := served.transacted (t := t) 0x03 (some ⟨[], [], max s.now t⟩)
    (body := fun _ x s => guarded [(x.txn.isSome, refCond 0x0101)] s fun s =>
      (s.modSess x.num fun y => { y with txn := some ⟨[], [], s.now⟩ }, .now stOk []))
    (guarded_of_none (by rw [free]; rfl) _ _)
  exact ⟨_, y, rfl, found⟩

theorem transactionAborted (served : Served r 2 s x) (begun : x.txn = some q) :
    ∃ u y, exec (.abortTxn t r []) s = .next u ∧ Responds u r 0x05 stOk [] ∧ u.sess? x.num = some y ∧ y.txn = none ∧
      Only ⟨false, [SessionStatus.REQUESTS.area], [.mbx, .out]⟩ s u := by
  obtain ⟨y, found⟩ := served.transacted (t := t) 0x05 none
    (body := fun _ x s => guarded [(x.txn.isNone, stTxnNone, [])] s fun s =>
      (s.modSess x.num fun y => { y with txn := none }, .now stOk []))
    (guarded_of_none (by rw [begun]; rfl) _ _)
  exact ⟨_, y, rfl, found⟩

theorem transactionTimedOut (up : s.mailboxUp = true) (found : s.sess? num = some x) (begun : x.txn = some q)
    (quiet : q.lastFrame + secs 60 ≤ t) :
    ∃ u, exec (.txnTimeout t num) s = .next u ∧ u.sess? num = some { x with txn := none } ∧ Only ⟨false, [], [.mbx]⟩ s u := by
  have run : exec (.txnTimeout t num) s = .next ((s.at t).modSess num fun y => { y with txn := none }) := by
    show execTxnTimeout t num s = _
    unfold execTxnTimeout
    dsimp only
    rw [State.at_sess?, found, Option.bind_some, begun]
    exact congrArg Host.Outcome.next (if_pos ⟨up, quiet.trans (le_max_right ..)⟩)
  have frame : Frame 0x101 s ((s.at t).modSess num fun y => { y with txn := none }) :=
    State.modSess_frame (State.at_frame (.refl s) t) _ _
  exact ⟨_, run, find_map_num (f := fun y => { y with txn := none }) found fun _ => rfl, frame.only⟩

/-- Settles O18, row by row. -/
theorem transactionsOpenAndEnd : Obligations.TransactionsOpenAndEnd :=
  ⟨fun _ _ _ _ served free => transactionBegun served free, fun _ _ _ _ _ served begun => transactionAborted served begun,
    fun _ _ _ _ _ up found begun quiet => transactionTimedOut up found begun quiet⟩

end Sys2Proof.Machine
end

section
/-! PROOFS. A statement of chapter 18 that a state refutes: a frame sent while TEC holds more than its field can
(CanFramesAndErrors). -/

namespace Sys2Proof.Machine

open Sys2Proof.Obj

set_option Elab.async false

/-! ### CanFramesAndErrors: TEC holds a value of 17 bits

TEC has 16 bits (Table 5.14), and every row that counts it cuts what it writes to them. A sound state may hold 2 ^ 16 + 1 there all
the same, since State.inv orders the registers and does not bound them: one less than that reads back as 0. -/

/-- Channel 1 takes part in its bus and sends object 0, with TEC above 16 bits. -/
def wideTecSending : State :=
  let s := { startedWith [] [] with objs := [(CanChannel.TEC.key 1 0, 2 ^ 16 + 1)] }
  (s.wr CanChannel.CHANNEL_STATE 1 canErrorActive).modBus 1 fun b => { b with busy := some (0, []) }

theorem wideTecSending_wraps :
    nextPasses (.canTxComplete 0 1 0 0) wideTecSending (fun u => u.rd CanChannel.TEC 1 == 0) = true := by
  decide +kernel

/-- Refutes O28, by the clause of CAN_TX_COMPLETE: TEC is 0 after the frame and not one less than before. -/
theorem not_canFramesAndErrors : ¬ Obligations.CanFramesAndErrors := by
  intro ⟨ends, _⟩
  obtain ⟨⟨u, run, -, -, lowered, -⟩, -⟩ :=
    ends 0 1 0 0 [] wideTecSending (by decide +kernel) (by decide) (by decide +kernel) (by decide +kernel) (by decide +kernel)
      (by decide +kernel)
  have before : wideTecSending.rd CanChannel.TEC 1 = 2 ^ 16 + 1 := by decide +kernel
  rw [before] at lowered
  refine not_exists_next (P := fun u => u.rd CanChannel.TEC 1 = 2 ^ 16) _ wideTecSending_wraps (fun u zero kept => ?_) ⟨u, run, lowered⟩
  simp [kept] at zero

end Sys2Proof.Machine
end

section
/-! PROOFS. A statement of chapter 10 that a state refutes: the insulation monitor of a string above the seventh
(FrontEndMeasures). -/

namespace Sys2Proof.Machine

open Sys2Proof.Obj

set_option Elab.async false

/-! ### FrontEndMeasures: a string 8

The variants have 1, 3 and 7 strings, and a state holds the hidden part of 7 (State.sized). State.inv does not bound the variant
all the same: a sound state may be of a module with 8 strings, whose string 8 has registers and nothing hidden, so that what its
front-end is to note is lost. -/

/-- A module with 8 strings, the eighth measuring its bus. -/
def eighthMonitor : State :=
  let s := startedWith [] []
  { s with nv := { s.nv with variant := 9 } }.wr InsulationStatus.IMD_STATE 8 2

theorem eighthMonitor_notes_nothing :
    nextPasses (.imdCycleEnd (2 * msec 2500) 8 0 0 0 2500 false) eighthMonitor (fun u => !(u.fe 8).imdFail) = true := by
  decide +kernel

/-- Refutes O31, by the clause of IMD_CYCLE_END: the self-check fails, and string 8 notes nothing. -/
theorem not_frontEndMeasures : ¬ Obligations.FrontEndMeasures := by
  intro ⟨_, _, _, _, _, cycles, _⟩
  obtain ⟨-, noted⟩ :=
    cycles (2 * msec 2500) 8 0 0 0 2500 eighthMonitor (by decide +kernel) (by decide +kernel) (Or.inr (by decide +kernel)) (by decide)
      (by decide) (by decide) (by decide +kernel)
  exact not_exists_next _ eighthMonitor_notes_nothing (fun u quiet failed => by simp [failed] at quiet) noted

end Sys2Proof.Machine
end

section
/-! PROOFS. Transactions on the service port (R497 to R502, R507), and the settling of ServicePortTransactions (O33). -/

namespace Sys2Proof.Machine

open Sys2Proof.Obj

set_option Elab.async false

variable {s u v w : State} {t addr n c : Nat} {rest : Bytes}

/-! ### An acknowledged address byte -/

/-- An address byte of the module at an instant has been noted and counted. -/
def State.addressHeard (s : State) (t : Nat) : State := (s.at t).addressTaken.bump I2cStatus.TRANSACTIONS

theorem State.addressHeard_frame (s : State) (t : Nat) : Frame addressMask s (s.addressHeard t) :=
  State.bump_frame (Frame.on_i2c (State.at_frame (.refl s) t) _) ..

/-- An awake port that is free acknowledges its address. -/
theorem PortAwake.addressed (h : PortAwake s t addr) :
    (s.at t).addressed addr = ((s.addressHeard t).send (.i2c 4 addr []), true) := by
  obtain ⟨serves, own, free, asleep, owed, awake⟩ := h
  have high : (s.at t).linesHigh = s.at t := if_neg (by rw [State.at_rdB, free]; exact Bool.false_ne_true)
  have there : Frame addressMask s (s.at t) := State.at_frame (.refl s) t
  rw [State.addressed_eq_judged (s := s.at t) (by
    rw [high]
    exact ⟨State.portServes_later there rfl (le_max_left ..) serves, own.trans (State.targetAddr_kept there).symm⟩), high]
  exact (if_neg (not_lt.2 (awake.trans (le_max_right ..)))).trans (if_neg (by
    show ¬(s.i2c.asleep || s.i2c.refuseNext) = true
    rw [asleep, owed]
    exact Bool.false_ne_true))

/-- A transaction with an awake port is counted, its address byte acknowledged, and what follows leaves the count. -/
theorem PortAwake.transacted (h : PortAwake s t addr) (hi : s.inv = true) (follow : State → State)
    (leaves : ∀ v, Frame (besideRegs [I2cStatus.TRANSACTIONS]) v (follow v)) :
    s.transacted t addr follow = (follow ((s.addressHeard t).send (.i2c 4 addr []))).portRegs ∧
      Counts I2cStatus.TRANSACTIONS 0 s (follow ((s.addressHeard t).send (.i2c 4 addr []))).portRegs :=
  ⟨State.transacted_acknowledged h.addressed follow,
    .of_bump (v := (s.at t).addressTaken) (sorted_of_inv hi) rfl
      ((State.portRegs_rd _ _).trans ((leaves _).rd I2cStatus.TRANSACTIONS 0 0))⟩

theorem State.addressHeard_sorted (hi : s.inv = true) (t : Nat) : (s.addressHeard t).objs.sorted = true :=
  State.wr_sorted (s := (s.at t).addressTaken) (sorted_of_inv hi) ..

/-! ### Writes -/

theorem State.windowOk_heard (s : State) (t c : Nat) : (s.addressHeard t).windowOk c = s.windowOk c := by
  rw [State.windowOk, State.windowOk, State.bootHalt_kept (s.addressHeard_frame t), State.security, State.security,
    (s.addressHeard_frame t).rd SecurityStatus.SECURITY_STATE 0 0]

/-- A byte that names a window selects it. -/
def State.windowChosen (s : State) (addr c : Nat) : State := (s.wr I2cStatus.WINDOW 0 c).send (.i2c 4 addr [c])

theorem State.selectWindow_eq (ok : s.windowOk c = true) (addr : Nat) (rest : Bytes) :
    s.selectWindow addr (c :: rest) = match rest with
      | [] => s.windowChosen addr c
      | d :: _ => ((s.windowChosen addr c).bump I2cStatus.REFUSED_WRITES).send (.i2c 3 addr [d]) := by
  unfold State.selectWindow
  dsimp only
  rw [if_pos ok]
  rfl

theorem windowSelected (hi : s.inv = true) (awake : PortAwake s t addr) (ok : s.windowOk c = true) (byte : c < 256) :
    ∃ u, exec (.i2cWrite t addr (c :: rest)) s = .next u ∧ u.rd I2cStatus.WINDOW = c ∧ Counts I2cStatus.TRANSACTIONS 0 s u ∧
      (rest ≠ [] → Counts I2cStatus.REFUSED_WRITES 0 s u) ∧
      u.out = (rest.head?.map fun d => Out.i2c 3 addr [d]).toList ++ .i2c 4 addr [c] :: .i2c 4 addr [] :: s.out := by
  obtain ⟨run, counted⟩ := awake.transacted hi (·.selectWindow addr (c :: rest)) fun v => State.selectWindow_frame (.refl v) ..
  have sorted := State.addressHeard_sorted hi t
  have before : (s.addressHeard t).rd I2cStatus.REFUSED_WRITES = s.rd I2cStatus.REFUSED_WRITES := (s.addressHeard_frame t).rd ..
  have out : (s.addressHeard t).out = s.out := (s.addressHeard_frame t).eq_out
  rw [State.selectWindow_eq (show ((s.addressHeard t).send _).windowOk c = true from (s.windowOk_heard t c).trans ok)] at run counted
  refine ⟨_, congrArg Host.Outcome.next run, ?_, counted, ?_, ?_⟩
  all_goals clear run counted; generalize s.addressHeard t = v at *
  · have chosen : (v.wr I2cStatus.WINDOW 0 c).rd I2cStatus.WINDOW = c := by
      rw [State.rd_wr sorted]
      exact Nat.mod_eq_of_lt byte
    rw [State.portRegs_rd _ I2cStatus.WINDOW]
    cases rest with
    | nil => exact chosen
    | cons d _ => exact (State.rd_wr_apart _ _ _ _ _ _ _ _ rfl).trans chosen
  · intro more
    cases rest with
    | nil => exact absurd rfl more
    | cons d _ =>
      exact .of_bump (v := (v.send (.i2c 4 addr [])).windowChosen addr c) (State.wr_sorted sorted ..)
        ((State.rd_wr_apart _ _ _ _ _ _ _ _ rfl).trans before) (State.portRegs_rd _ _)
  · rw [State.portRegs_out, ← out]
    cases rest <;> rfl

/-! ### Reads -/

theorem State.sendWindow_out (s : State) (addr n : Nat) (stop : Bool) :
    (s.sendWindow addr n stop).out = .i2c 0 addr ((List.range n).map fun i => nth 0xFF s.window i) :: s.out := by
  unfold State.sendWindow
  extract_lets w v
  split <;> rfl

theorem windowRead {stop : Bool} (hi : s.inv = true) (awake : PortAwake s t addr) :
    ∃ u, exec (.i2cRead t addr n stop) s = .next u ∧ Counts I2cStatus.TRANSACTIONS 0 s u ∧
      u.out = .i2c 0 addr ((List.range n).map fun i => nth 0xFF ((s.at t).addressed addr).1.window i) :: .i2c 4 addr [] :: s.out ∧
      (s.rd I2cStatus.WINDOW = 0x20 → 8 ≤ n → stop = true → s.i2c.recPending = true → u.i2c.recPending = false) := by
  obtain ⟨run, counted⟩ := awake.transacted hi (·.sendWindow addr n stop) fun v => State.sendWindow_frame (.refl v) ..
  refine ⟨_, (exec_i2cRead ..).trans (congrArg Host.Outcome.next run), counted, ?_, fun window long stopped pending => ?_⟩
  · rw [State.portRegs_out, State.sendWindow_out, awake.addressed]
    exact congrArg (fun o => Out.i2c 0 addr _ :: Out.i2c 4 addr [] :: o) (s.addressHeard_frame t).eq_out
  · have selected : (s.addressHeard t).rd I2cStatus.WINDOW = 0x20 := ((s.addressHeard_frame t).rd ..).trans window
    exact (State.sendWindow_cleared (s := (s.addressHeard t).send _) (State.addressHeard_sorted hi t) selected pending
      ⟨long, stopped⟩ addr).portRegs.pending

theorem readDelayed {stop : Bool} (hi : s.inv = true) (awake : PortAwake s t addr) (low : s.rdB DieStatus.PACE_LOW 0 = true) :
    ∃ u, exec (.stretchLimits t addr n stop) s = .next u ∧ Counts I2cStatus.TRANSACTIONS 0 s u ∧ Counts I2cStatus.STRETCH_LIMITS 0 s u ∧
      u.out = .i2c 0 addr (List.replicate n 0xFF) :: .i2c 4 addr [] :: s.out := by
  obtain ⟨run, counted⟩ := awake.transacted hi (·.sendLate addr n stop) fun v =>
    .ite (State.send_frame (State.bump_frame (.refl v) ..) ..) (State.sendWindow_frame (.refl v) ..)
  have late : ((s.addressHeard t).send (.i2c 4 addr [])).sendLate addr n stop =
      (((s.addressHeard t).send (.i2c 4 addr [])).bump I2cStatus.STRETCH_LIMITS).send (.i2c 0 addr (List.replicate n 0xFF)) :=
    if_pos (((s.addressHeard_frame t).rdB DieStatus.PACE_LOW 0 0).trans low)
  rw [late] at run counted
  refine ⟨_, (exec_stretchLimits ..).trans (congrArg Host.Outcome.next run), counted,
    .of_bump (v := (s.addressHeard t).send _) (State.addressHeard_sorted hi t) ((s.addressHeard_frame t).rd ..) (State.portRegs_rd _ _), ?_⟩
  rw [State.portRegs_out]
  exact congrArg (fun o => Out.i2c 0 addr _ :: Out.i2c 4 addr [] :: o) (s.addressHeard_frame t).eq_out

/-! ### Aborted and idle transactions, sleep and wake -/

theorem transferAborted (hi : s.inv = true) (awake : PortAwake s t addr) :
    ∃ u, exec (.abortsRstart t addr) s = .next u ∧ Counts I2cStatus.ABORTS_RSTART 0 s u ∧ Counts I2cStatus.TRANSACTIONS 0 s u ∧
      u.out = .i2c 4 addr [] :: s.out := by
  obtain ⟨run, counted⟩ := awake.transacted hi (·.bump I2cStatus.ABORTS_RSTART) fun v => State.bump_frame (.refl v) ..
  refine ⟨_, (exec_abortsRstart ..).trans (congrArg Host.Outcome.next run),
    .of_bump (v := (s.addressHeard t).send _) (State.addressHeard_sorted hi t) ((s.addressHeard_frame t).rd ..) (State.portRegs_rd _ _),
    counted, ?_⟩
  rw [State.portRegs_out]
  exact congrArg (Out.i2c 4 addr [] :: ·) (s.addressHeard_frame t).eq_out

theorem idleReleased (hi : s.inv = true) (awake : PortAwake s t addr) :
    ∃ u, exec (.i2cIdleRelease t addr) s = .next u ∧ Counts I2cStatus.TRANSACTIONS 0 s u ∧
      u.out = .i2c 5 addr [] :: .i2c 4 addr [] :: s.out ∧ u.i2c.lastTrans = max s.now t := by
  obtain ⟨run, counted⟩ := awake.transacted hi (·.send (.i2c 5 addr [])) fun v => State.send_frame (.refl v) ..
  refine ⟨_, (exec_i2cIdleRelease ..).trans (congrArg Host.Outcome.next run), counted, ?_, ?_⟩
  · rw [State.portRegs_out]
    exact congrArg (fun o => Out.i2c 5 addr [] :: Out.i2c 4 addr [] :: o) (s.addressHeard_frame t).eq_out
  · rw [State.portRegs_i2c]
    rfl

theorem portFallsAsleep (hi : s.inv = true) (up : s.portUp = true) (enabled : s.rdB I2cStatus.PORT_DISABLED = false)
    (free : s.i2c.recovering = 0) (due : max s.i2c.lastTrans s.i2c.awakeAt + secs (s.rd I2cConfig.SLEEP_AFTER) ≤ t) :
    ∃ u, exec (.i2cSleep t) s = .next u ∧ u.i2c.asleep = true ∧ u.rd I2cStatus.PORT_STATE = 2 := by
  have upThen : (s.at t).portUp = true := State.portUp_later (State.at_frame (.refl s) t) rfl (le_max_left ..) up
  have serves : (s.at t).portServes = true := by rw [State.portServes, upThen, State.at_rdB, enabled]; rfl
  refine ⟨_, congrArg Host.Outcome.next (if_pos ⟨serves, free, due.trans (le_max_right ..)⟩), by rw [State.portRegs_i2c], ?_⟩
  generalize slept : ({ s.at t with i2c := { (s.at t).i2c with asleep := true } } : State) = v
  have sorted : v.objs.sorted = true := slept ▸ sorted_of_inv (s := s) hi
  have upStill : v.portUp = true := slept ▸ upThen
  have on : v.rdB I2cStatus.PORT_DISABLED = false := slept ▸ enabled
  have idle : v.i2c.recovering = 0 := slept ▸ free
  have asleep : v.i2c.asleep = true := slept ▸ rfl
  unfold State.portRegs
  rw [State.rd_wr sorted]
  rw [upStill, on, idle, asleep]
  rfl

/-- Settles O33, row by row. -/
theorem servicePortTransactions : Obligations.ServicePortTransactions :=
  ⟨fun _ _ _ _ _ hi awake ok byte => windowSelected hi awake ok byte, fun _ _ _ _ _ hi awake => windowRead hi awake,
    fun _ _ _ _ _ hi awake low => readDelayed hi awake low, fun _ _ _ hi awake => transferAborted hi awake,
    fun _ _ _ hi awake => idleReleased hi awake, fun _ _ hi up enabled free due => portFallsAsleep hi up enabled free due,
    fun _ _ _ hi serves own _ asleep awake => by
      obtain ⟨u, run, out, counted, woken, -, awakeAt⟩ := Transaction.refused hi ⟨serves, own⟩
        (.inr (.inr (.inr (.inr (.inr rfl))))) (.inl asleep) (awake.trans (le_max_right ..))
      exact ⟨u, run, woken, awakeAt, counted, out⟩⟩

end Sys2Proof.Machine
end

section
/-! PROOFS. Attention writes and the recovery of the service port's bus (R505, R508), and the settling of ServicePortDrivesTheBus
(O34). -/

namespace Sys2Proof.Machine

open Sys2Proof.Obj

set_option Elab.async false

variable {s u v : State} {t line pulses : Nat}

/-! ### Attention writes -/

theorem attentionSent (hi : s.inv = true) (due : (s.at t).attnDue = true) (first : s.i2c.tries = 0 ∨ s.i2c.lost = true) :
    ∃ u, exec (.attentionWrite t 0) s = .next u ∧ Counts I2cStatus.ATTN_SENT 0 s u ∧ u.i2c.recPending = false ∧
      u.out = .i2c 1 (s.rd I2cConfig.ATTN_ADDR) (s.at t).attnRecord :: s.out := by
  refine ⟨_, congrArg Host.Outcome.next (if_pos ⟨due, first⟩), ?_, ?_, ?_⟩
  · have kept (v : State) : v.clearRecord.portRegs.rd I2cStatus.ATTN_SENT = v.rd I2cStatus.ATTN_SENT :=
      (State.portRegs_rd _ _).trans (State.rd_wr_apart _ _ _ _ _ _ _ _ rfl)
    unfold State.attempt
    extract_lets port s1 s2
    exact .of_bump (v := s2) (by exact sorted_of_inv (s := s) hi) rfl (kept _)
  · rw [State.portRegs_i2c]
    rfl
  · rw [State.portRegs_out]
    rfl

theorem arbitrationLost (hi : s.inv = true) (due : (s.at t).attnDue = true) (again : s.i2c.tries ≠ 0) (held : s.i2c.lost = false) :
    ∃ u, exec (.attnRetry t 3) s = .next u ∧ Counts I2cStatus.ARB_LOST 0 s u ∧ u.i2c.lost = true ∧
      u.i2c.retryAt = some (max s.now t + msec 1) := by
  refine ⟨_, congrArg Host.Outcome.next (if_pos ⟨due, again, held⟩), ?_, ?_, ?_⟩
  · unfold State.attempt
    extract_lets port s1 s2 port' s3
    exact .of_bump (v := s3) (by exact sorted_of_inv (s := s) hi) rfl (State.portRegs_rd _ _)
  · rw [State.portRegs_i2c]
    rfl
  · rw [State.portRegs_i2c]
    rfl

/-! ### Recovery -/

/-- A recovery under way is no part of an attention record. -/
theorem State.attention_recovering (s : State) (b : Nat) : (s.attention b).i2c.recovering = s.i2c.recovering := by
  unfold State.attention
  extract_lets p
  split
  · split <;> rfl
  · rfl

theorem State.record_recovering (s : State) (code sev : Nat) (data : Bytes) :
    (s.record code sev data).i2c.recovering = s.i2c.recovering := by
  unfold State.record State.putLater
  split
  · split
    · rfl
    · unfold State.putEvent
      extract_lets e room added counted notified panel lit
      have roomy : Frame besidePort s room := .ite (State.closeEventBlock_frame (.refl s) ..) (.refl s)
      have told : Frame besidePort s notified := State.notify_frame (M := besidePort) (State.bump_frame (Frame.on_hist roomy _) ..) _
      have shown : Frame besidePort s lit := .ite (Frame.on_panel told _) told
      rw [← shown.eq_i2c]
      split
      · exact lit.attention_recovering 4
      · rfl
  · rfl

theorem State.portRegs_rdB (s : State) (f : Fld) (ha : apart I2cStatus.PORT_STATE 0 f 0 = true := by decide) :
    s.portRegs.rdB f = s.rdB f := by
  rw [State.rdB, State.rdB, s.portRegs_rd f ha]

/-- A bus that is freed: the pulses leave, the recovery counts, and BUS_STUCK clears. -/
def State.busFreed (s : State) (pulses : Nat) : State :=
  ((s.bump I2cStatus.RECOVERIES).send (.i2c 2 pulses [])).wrB I2cStatus.BUS_STUCK 0 false

/-- A bus that stays stuck, SCL being low: BUS_STUCK, and its event. -/
def State.busHeld (s : State) (rep : Nat) : State := (s.wrB I2cStatus.BUS_STUCK 0 true).record 0x1101 3 [2, rep]

theorem State.recover_freed (some_pulse : 1 ≤ pulses) (most : pulses ≤ 9) (rep : Nat) :
    s.recover 1 pulses rep = (s.busFreed pulses, true) := by
  simp [State.recover, some_pulse, most, State.busFreed]

theorem State.recover_held (pulses rep : Nat) : s.recover 2 pulses rep = (s.busHeld rep, false) := rfl

/-- What ends or goes on with a recovery leaves BUS_STUCK and RECOVERIES: the port alone, and PORT_STATE. -/
theorem State.busFreed_shown (hs : s.objs.sorted = true) (pulses : Nat) (port : I2cPort) :
    ({ s.busFreed pulses with i2c := port }).portRegs.rdB I2cStatus.BUS_STUCK = false ∧
      Counts I2cStatus.RECOVERIES 0 s ({ s.busFreed pulses with i2c := port }).portRegs ∧
      ({ s.busFreed pulses with i2c := port }).portRegs.out = .i2c 2 pulses [] :: s.out := by
  refine ⟨?_, .of_bump hs rfl ?_, by rw [State.portRegs_out]; rfl⟩
  · rw [State.portRegs_rdB _ I2cStatus.BUS_STUCK]
    exact State.rdB_wrB (s := (s.bump I2cStatus.RECOVERIES).send _) (State.wr_sorted hs ..) I2cStatus.BUS_STUCK 0 false 0 (by decide)
  · exact (State.portRegs_rd _ _).trans (State.rd_wr_apart (s.bump I2cStatus.RECOVERIES) I2cStatus.BUS_STUCK I2cStatus.RECOVERIES 0 0 0 0 0 rfl)

theorem State.busHeld_stuck (hs : s.objs.sorted = true) (rep : Nat) : (s.busHeld rep).rdB I2cStatus.BUS_STUCK = true := by
  have frame := State.record_frame (M := besideRegs [I2cStatus.BUS_STUCK]) (.refl (s.wrB I2cStatus.BUS_STUCK 0 true))
    0x1101 3 [2, rep] 0 0xFFFF 0
  exact (frame.rdB ..).trans (State.rdB_wrB hs _ _ _ _ (by decide))

theorem State.busHeld_now (s : State) (rep : Nat) : (s.busHeld rep).now = s.now :=
  (State.record_frame (M := besideRegs [] - 1) (.refl (s.wrB I2cStatus.BUS_STUCK 0 true)) 0x1101 3 [2, rep] 0 0xFFFF 0).eq_now

/-- A repetition that has failed leaves so many, and the last one disables the port. -/
def State.recoveryLeft (s : State) (left : Nat) : State :=
  let s := { s with i2c := { s.i2c with recovering := left, nextRecovery := s.now + msec 10 } }
  if decide (left = 0) then (s.wrB I2cStatus.PORT_DISABLED 0 true).record 0x1102 3 [] else s

theorem State.recoveryLeft_shown (hs : s.objs.sorted = true) (left : Nat) :
    (s.recoveryLeft left).rdB I2cStatus.BUS_STUCK = s.rdB I2cStatus.BUS_STUCK ∧ (s.recoveryLeft left).i2c.recovering = left ∧
      (left = 0 → (s.recoveryLeft left).rdB I2cStatus.PORT_DISABLED = true) := by
  unfold State.recoveryLeft
  extract_lets port v
  have frame : Frame (besideRegs [I2cStatus.BUS_STUCK]) v ((v.wrB I2cStatus.PORT_DISABLED 0 true).record 0x1102 3 []) :=
    State.record_frame (State.wrB_frame (.refl v) ..) _ _ _ _ _ _
  have disabled : Frame (besideRegs [I2cStatus.PORT_DISABLED]) (v.wrB I2cStatus.PORT_DISABLED 0 true)
      ((v.wrB I2cStatus.PORT_DISABLED 0 true).record 0x1102 3 []) := State.record_frame (.refl _) _ _ _ _ _ _
  by_cases last : left = 0
  · rw [if_pos (decide_eq_true last), frame.rdB I2cStatus.BUS_STUCK 0 0, disabled.rdB I2cStatus.PORT_DISABLED 0 0,
      State.record_recovering]
    exact ⟨rfl, rfl, fun _ => State.rdB_wrB (s := v) hs I2cStatus.PORT_DISABLED 0 true 0 (by decide)⟩
  · rw [if_neg (by simpa using last)]
    exact ⟨rfl, rfl, fun e => absurd e last⟩

theorem busStuck (hi : s.inv = true) (up : s.portUp = true) (enabled : s.rdB I2cStatus.PORT_DISABLED = false)
    (may : s.rdB I2cConfig.RECOVERY_EN = true) (idle : s.i2c.recovering = 0) (which : line = 1 ∨ line = 2) :
    ∃ u, exec (.busStuck t line pulses) s = .next u ∧
      (line = 1 → 1 ≤ pulses → pulses ≤ 9 → u.rdB I2cStatus.BUS_STUCK = false ∧ Counts I2cStatus.RECOVERIES 0 s u ∧ u.out = .i2c 2 pulses [] :: s.out) ∧
      (line = 2 → u.rdB I2cStatus.BUS_STUCK = true ∧ u.i2c.recovering = 3 ∧ u.i2c.nextRecovery = max s.now t + msec 10) := by
  have upThen : (s.at t).portUp = true := State.portUp_later (State.at_frame (.refl s) t) rfl (le_max_left ..) up
  have sorted : (s.at t).objs.sorted = true := sorted_of_inv (s := s) hi
  refine ⟨_, congrArg Host.Outcome.next (if_pos ⟨upThen, enabled, may, idle, which⟩), fun sda one nine => ?_, fun scl => ?_⟩
  · subst sda
    rw [State.recover_freed one nine]
    exact State.busFreed_shown sorted pulses _
  · subst scl
    rw [State.recover_held]
    dsimp only
    rw [if_neg Bool.false_ne_true, State.portRegs_rdB _ I2cStatus.BUS_STUCK, State.portRegs_i2c]
    exact ⟨State.busHeld_stuck sorted 0, rfl, congrArg (· + msec 10) ((s.at t).busHeld_now 0)⟩

theorem recoveryRepeated (hi : s.inv = true) (up : s.portUp = true) (enabled : s.rdB I2cStatus.PORT_DISABLED = false)
    (trying : s.i2c.recovering ≠ 0) (due : s.i2c.nextRecovery ≤ t) (which : line = 1 ∨ line = 2) :
    ∃ u, exec (.recoveryRepeat t line pulses) s = .next u ∧
      (line = 1 → 1 ≤ pulses → pulses ≤ 9 → u.rdB I2cStatus.BUS_STUCK = false ∧ Counts I2cStatus.RECOVERIES 0 s u ∧ u.i2c.recovering = 0) ∧
      (line = 2 → u.rdB I2cStatus.BUS_STUCK = true ∧ u.i2c.recovering = s.i2c.recovering - 1 ∧
        (s.i2c.recovering = 1 → u.rdB I2cStatus.PORT_DISABLED = true)) := by
  have upThen : (s.at t).portUp = true := State.portUp_later (State.at_frame (.refl s) t) rfl (le_max_left ..) up
  have sorted : (s.at t).objs.sorted = true := sorted_of_inv (s := s) hi
  have some_line : line ≠ 0 := by rcases which with rfl | rfl <;> decide
  refine ⟨_, congrArg Host.Outcome.next ((if_pos ⟨upThen, enabled, trying, due.trans (le_max_right ..)⟩).trans (if_neg some_line)),
    fun sda one nine => ?_, fun scl => ?_⟩
  · subst sda
    rw [State.recover_freed one nine]
    obtain ⟨free, counted, -⟩ := State.busFreed_shown sorted pulses
      { ((s.at t).busFreed pulses).i2c with recovering := 0, nextRecovery := ((s.at t).busFreed pulses).now + msec 10 }
    exact ⟨free, counted, by rw [State.portRegs_i2c]; rfl⟩
  · subst scl
    rw [State.recover_held]
    have stuck := State.busHeld_stuck sorted (4 - s.i2c.recovering)
    have heldSorted : ((s.at t).busHeld (4 - s.i2c.recovering)).objs.sorted = true :=
      sorted_of_inv ((State.record_keeps (State.wrB_keeps (State.at_keeps (.refl s) t) ..) ..).inv hi)
    obtain ⟨kept, left, last⟩ := State.recoveryLeft_shown heldSorted (s.i2c.recovering - 1)
    show (((s.at t).busHeld (4 - s.i2c.recovering)).recoveryLeft (s.i2c.recovering - 1)).portRegs.rdB I2cStatus.BUS_STUCK = true ∧
      (((s.at t).busHeld (4 - s.i2c.recovering)).recoveryLeft (s.i2c.recovering - 1)).portRegs.i2c.recovering = _ ∧
      (_ → (((s.at t).busHeld (4 - s.i2c.recovering)).recoveryLeft (s.i2c.recovering - 1)).portRegs.rdB I2cStatus.PORT_DISABLED = true)
    rw [State.portRegs_rdB _ I2cStatus.BUS_STUCK, State.portRegs_rdB _ I2cStatus.PORT_DISABLED, State.portRegs_i2c]
    exact ⟨kept.trans stuck, left, fun one => last (by rw [one])⟩

/-- Settles O34, row by row. -/
theorem servicePortDrivesTheBus : Obligations.ServicePortDrivesTheBus :=
  ⟨fun _ _ hi due first => attentionSent hi due first, fun _ _ hi due again held => arbitrationLost hi due again held,
    fun _ _ _ _ hi up enabled may idle which => busStuck hi up enabled may idle which,
    fun _ _ _ _ hi up enabled trying due which => recoveryRepeated hi up enabled trying due which⟩

end Sys2Proof.Machine
end

section
/-! PROOFS. A string that is opened at once or trips (Table 13.3): its coils, SEQ_STATE and TRIPS through what follows. -/

namespace Sys2Proof.Machine

open Sys2Proof.Obj

set_option Elab.async false

variable {a s u v : State} {n m cause : Nat}

/-! ### No coil picks up -/

theorem CoilsStayOff.eachStr {f : Nat → State → State} (h : CoilsStayOff a s) (hf : ∀ n v, CoilsStayOff v (f n v)) :
    CoilsStayOff a (s.eachStr f) := h.foldl fun v b => hf b v

/-- What is changed of the protection of a string is not a coil. -/
theorem CoilsStayOff.modProt (h : CoilsStayOff a s) (n : Nat) (f : Prot → Prot) (hf : ∀ p k, (f p).coil k = p.coil k) :
    CoilsStayOff a (s.modProt n f) :=
  h.modStr n _ fun x k off => by rw [show (f x.prot).coil k = x.prot.coil k from hf _ _]; exact off

theorem CoilsStayOff.endClosing (h : CoilsStayOff a s) (n st : Nat) (p : Bytes) : CoilsStayOff a (s.endClosing n st p) :=
  (h.modProt n (fun q => { q with closeRid := none, fbAt := none, stepAt := 0 }) fun _ k => match k with
    | 0 => rfl | 1 => rfl | _ + 2 => rfl).frame (State.answerOpt_frame (State.wr_frame (.refl _) ..) ..)

theorem CoilsStayOff.endOpening (h : CoilsStayOff a s) (n st : Nat) (p : Bytes) : CoilsStayOff a (s.endOpening n st p) :=
  (h.modProt n (fun q => { q with openRid := [], openPhase := 0 }) fun _ k => match k with
    | 0 => rfl | 1 => rfl | _ + 2 => rfl).foldl fun v r => (CoilsStayOff.refl v).frame (State.answer_frame (.refl v) ..)

theorem CoilsStayOff.debugSettle (h : CoilsStayOff a s) : CoilsStayOff a s.debugSettle := h.frame (State.debugSettle_frame (.refl s))

/-- A string that is opened at once has every coil off, and no coil picks up. -/
theorem State.openNow_off (s : State) (n cause : Nat) : CoilsOff n (s.openNow n cause) ∧ CoilsStayOff s (s.openNow n cause) := by
  obtain ⟨off, stay⟩ := s.allOff_off n
  suffices rest : CoilsStayOff (s.allOff n) (s.openNow n cause) from ⟨rest.coilsOff off, stay.trans rest⟩
  unfold State.openNow
  extract_lets q driven s1 s2 s3 s4 s5 s6
  have h2 : Frame besideStrs (s.allOff n) s2 := State.wr_frame (State.zeroSetpoint_frame (.refl _) n) ..
  clear_value s2
  have h3 : CoilsStayOff (s.allOff n) s3 := .frame (.refl _) (.ite (State.pcsClosed_frame h2 n) h2)
  clear_value s3
  have h4 : CoilsStayOff (s.allOff n) s4 := .ite (h3.endClosing _ _ _) h3
  clear_value s4
  have h6 : CoilsStayOff (s.allOff n) s6 :=
    (h4.endOpening n stOk []).modProt n (fun p => { p with judge := [] }) fun _ k => match k with
      | 0 => rfl | 1 => rfl | _ + 2 => rfl
  clear_value s6
  exact .ite (.refl _) (CoilsStayOff.debugSettle (.ite h6 (h6.frame (State.record_frame (.refl s6) _ _ _ _ _ _))))

theorem CoilsStayOff.openNow (h : CoilsStayOff a s) (n cause : Nat) : CoilsStayOff a (s.openNow n cause) :=
  h.trans (s.openNow_off n cause).2

theorem CoilsStayOff.refresh (h : CoilsStayOff a s) (n : Nat) : CoilsStayOff a (s.refresh n) := by
  have noted : CoilsStayOff a (s.noteInhibit n) := h.frame (State.noteInhibit_frame (.refl s) n)
  unfold State.refresh
  exact .ite (noted.openNow n 2) (.ite (noted.openNow n 2) noted)

/-- Strings that are opened one after the other all have their coils off. -/
theorem CoilsStayOff.openList (cause : Nat) {l : List Nat} (mem : n ∈ l) :
    ∀ s : State, CoilsOff n (l.foldl (fun s n => s.openNow n cause) s) := by
  induction l with
  | nil => cases mem
  | cons b l ih =>
    intro s
    by_cases later : n ∈ l
    · exact ih later _
    · rcases List.mem_cons.1 mem with rfl | there
      · have stay : CoilsStayOff (s.openNow n cause) (l.foldl (fun s n => s.openNow n cause) (s.openNow n cause)) :=
          .foldl (.refl _) fun v b => (CoilsStayOff.refl v).openNow b cause
        exact stay.coilsOff (s.openNow_off n cause).1
      · exact absurd there later

theorem State.openAll_off (s : State) (cause : Nat) (there : s.hasStr n = true) : CoilsOff n (s.openAll cause) :=
  CoilsStayOff.openList cause (State.mem_strList.2 there) s

/-! ### A trip -/

/-- All that a frame can name but the state of the strings' sequences and the counts of their trips. -/
def besideTrips : Nat := besideRegs [ProtectionStatus.SEQ_STATE, ProtectionStatus.TRIPS]

/-- A string whose trip may be raised and entered is TRIPPED, every coil off, and the trip is counted. -/
theorem State.trip_trips (hi : s.inv = true) (opened : s.power.opened = false) (caldera : s.caldera = false) (n cause : Nat)
    (i : TripInfo) : Tripped n s (s.trip n cause i) := by
  obtain ⟨off, -⟩ := s.allOff_off n
  unfold State.trip
  rw [if_neg (by rw [opened, caldera]; exact Bool.false_ne_true)]
  extract_lets q second e s1 s2 s3 s4 s5 s6 s7 s8 epoch corr s9 s10 s11 s12
  have k2 : Keeps s s2 := State.writeTrip_keeps (State.zeroSetpoint_keeps (State.allOff_keeps (.refl s) n) n) ..
  have f2 : Frame (besideRegs [ProtectionStatus.TRIPS]) s s2 :=
    State.writeTrip_frame (State.zeroSetpoint_frame (State.allOff_frame (.refl s) n) n) ..
  have c2 : CoilsOff n s2 := CoilsStayOff.coilsOff (.frame (.refl _)
    (State.writeTrip_frame (State.zeroSetpoint_frame (.refl (s.allOff n)) n) ..)) off
  clear_value s2
  have sorted2 : s2.objs.sorted = true := sorted_of_inv (k2.inv hi)
  have tripped : s3.seqState n = seqTripped := State.rd_wr sorted2 ProtectionStatus.SEQ_STATE n seqTripped 0
  have f3 : Frame (besideRegs [ProtectionStatus.TRIPS]) s s3 := State.wr_frame f2 ..
  have k3 : Keeps s s3 := State.wr_keeps k2 ..
  have c3 : CoilsStayOff s2 s3 := .frame (.refl s2) (State.wr_frame (.refl s2) ..)
  clear_value s3
  have f4 : Frame (besideRegs [ProtectionStatus.TRIPS]) s s4 := .ite (State.pcsClosed_frame f3 n) f3
  have g4 : Frame (besideRegs [ProtectionStatus.SEQ_STATE]) s3 s4 := .ite (State.pcsClosed_frame (.refl s3) n) (.refl s3)
  have k4 : Keeps s s4 := .ite (State.pcsClosed_keeps k3 n) k3
  have c4 : CoilsStayOff s2 s4 := c3.frame (.ite (State.pcsClosed_frame (.refl s3) n) (.refl s3))
  clear_value s4
  have counted : Counts ProtectionStatus.TRIPS n s s5 := .of_bump (sorted_of_inv (k4.inv hi)) (f4.rd ..) rfl
  have g5 : s5.rd ProtectionStatus.SEQ_STATE n = seqTripped :=
    (State.rd_wr_apart _ _ _ _ _ _ _ _ rfl).trans ((g4.rd ..).trans tripped)
  have c5 : CoilsStayOff s2 s5 := c4.frame (State.bump_frame (.refl s4) ..)
  clear_value s5
  have f6 : Frame besideTrips s5 s6 := .ite (.refl s5) (State.wr_frame (State.stamp_frame (State.wr_frame (.refl s5) ..) ..) ..)
  have c6 : CoilsStayOff s2 s6 := c5.frame (.ite (.refl s5) (State.wr_frame (State.stamp_frame (State.wr_frame (.refl s5) ..) ..) ..))
  clear_value s6
  have f7 : Frame besideTrips s5 s7 := State.modProt_frame f6 ..
  have c7 : CoilsStayOff s2 s7 := c6.modProt n _ fun _ k => match k with | 0 => rfl | 1 => rfl | _ + 2 => rfl
  clear_value s7
  have f9 : Frame besideTrips s5 s9 := State.record_frame (State.storeTrips_frame f7 e) _ _ _ _ _ _
  have c9 : CoilsStayOff s2 s9 := c7.frame (State.record_frame (State.storeTrips_frame (.refl s7) e) _ _ _ _ _ _)
  clear_value s9
  have f11 : Frame besideTrips s5 s11 := State.endOpening_frame (.ite (State.endClosing_frame f9 ..) f9) ..
  have c11 : CoilsStayOff s2 s11 := CoilsStayOff.endOpening (.ite (c9.endClosing _ _ _) c9) _ _ _
  clear_value s11
  have f12 : Frame besideTrips s11 s12 := .ite (State.pinAround_frame (.refl s11) _) (.refl s11)
  have g12 : Frame besideStrs s11 s12 := .ite (State.pinAround_frame (.refl s11) _) (.refl s11)
  clear_value s12
  have f : Frame besideTrips s5 (if second = true then s11 else s12.attention 0).loopOut.debugSettle :=
    State.debugSettle_frame (State.loopOut_frame (.ite f11 (State.attention_frame (f11.trans f12) 0)))
  have settled : Frame besideStrs s11 (if second = true then s11 else s12.attention 0).loopOut.debugSettle :=
    State.debugSettle_frame (State.loopOut_frame (.ite (.refl s11) (State.attention_frame g12 0)))
  exact ⟨(f.rd ..).trans g5, (c11.frame settled).coilsOff c2,
    (f.rd ..).trans counted⟩

end Sys2Proof.Machine
end

section
/-! PROOFS. The supervision of the reference, the pace and the memory (R27, R31, R33, R37 to R44), a restart (R131), and the settling of
DiesAndClocksSupervised (O20). -/

namespace Sys2Proof.Machine

open Sys2Proof.Obj

set_option Elab.async false

variable {s u v : State} {t n d die pace str last : Nat}

/-! ### A restart -/

/-- A restart without loss of supply begins a start with its cause, every session ended. -/
theorem State.restart_starts (powered : s.inHoldup = false) (cause detail : Nat) :
    (s.restart cause detail).boot.cause = cause ∧ (s.restart cause detail).boot.t0 = s.now ∧ (s.restart cause detail).mbx.sess = [] := by
  unfold State.restart
  rw [if_neg (by rw [powered]; exact Bool.false_ne_true)]
  extract_lets s1 cover s2
  have now : s1.now = s.now := (State.cutSlot_frame (M := 2 ^ 1024 - 1 - 2 ^ 0) (State.settleJournal_frame (State.tellClosing_frame
    (State.openAll_frame (.refl s) 4) 2))).eq_now
  clear_value s1
  have started := State.beginStart_kept (s := s2) rfl cause detail cover
  exact ⟨started.cause, started.began.trans now, congrArg Mbx.sess started.mbx⟩

/-! ### The reference and the heartbeat of the manager die -/

theorem referenceLost (hi : s.inv = true) (runs : s.running = true) (held : s.rdB ModuleHealth.REFCLK_FAIL = false) :
    ∃ u, exec (.refclkFail t) s = .next u ∧ u.rdB ModuleHealth.REFCLK_FAIL = true ∧ ∀ n, s.hasStr n = true → CoilsOff n u := by
  refine ⟨_, congrArg Host.Outcome.next (if_pos ⟨runs, held⟩), ?_⟩
  have shown : ((s.at t).wrB ModuleHealth.REFCLK_FAIL 0 true).rdB ModuleHealth.REFCLK_FAIL = true :=
    State.rdB_wrB (sorted_of_inv (s := s) hi) _ _ _ _ (by decide)
  have variant : ((s.at t).wrB ModuleHealth.REFCLK_FAIL 0 true).nv = s.nv := rfl
  generalize (s.at t).wrB ModuleHealth.REFCLK_FAIL 0 true = v at *
  have stopped : Frame (besideRegs [ModuleHealth.REFCLK_FAIL] - 2 ^ 3) v (v.eachStr fun n s => s.stopLaps n) :=
    State.eachStr_frame (.refl v) _ fun n w => State.stopLaps_frame (.refl w) n
  refine ⟨((State.openAll_frame stopped 4).rdB ModuleHealth.REFCLK_FAIL 0 0).trans shown, fun n there => State.openAll_off _ 4 ?_⟩
  rw [State.hasStr, State.strings, stopped.eq_nv, variant]
  exact there

theorem heartbeatMissed (runs : s.running = true) (there : s.hasStr str = true) (due : last + msec 10 ≤ t) :
    ∃ u, exec (.managerHeartbeatMissing t str last) s = .next u ∧ CoilsOff str u :=
  ⟨_, congrArg Host.Outcome.next (if_pos ⟨runs, there, due.trans (le_max_right ..)⟩), (State.openNow_off ..).1⟩

/-! ### The pace -/

/-- What follows a measurement leaves the pace it shows. -/
theorem State.paceActs_pace (s : State) (d pace eff : Nat) : Frame (besideRegs [DieStatus.PACE]) s (s.paceActs d pace eff) := by
  unfold State.paceActs
  extract_lets s1 s2 was s3
  have h1 : Frame (besideRegs [DieStatus.PACE]) s s1 := .ite (State.stall_frame (.refl s) d) (.refl s)
  clear_value s1
  have h2 : Frame (besideRegs [DieStatus.PACE]) s s2 := .ite (State.settleOwed_frame h1) h1
  clear_value s2
  have h3 : Frame (besideRegs [DieStatus.PACE]) s s3 := State.paceLow_frame h2 d eff
  clear_value s3
  exact .ite (State.roleCheck_frame (State.compressCheck_frame (State.shedMore_frame h3 was eff))) (State.paceRate_frame h3 d eff)

/-- A pace that is noted is shown. -/
theorem State.paceNoted_pace (hi : s.inv = true) (d : Nat) (fits : pace < 65536) : (s.paceNoted d pace).rd DieStatus.PACE d = pace := by
  unfold State.paceNoted
  extract_lets x sec s1 gone low s2
  have k1 : Keeps s s1 := .ite (State.wr_keeps (.refl s) ..) (.refl s)
  have sorted : (s2.wr DieStatus.PACE_LOW_TIME d (low / 1000000000)).objs.sorted = true :=
    sorted_of_inv ((State.wr_keeps (State.modDie_keeps k1 ..) ..).inv hi)
  rw [State.rd_wr sorted]
  exact Nat.mod_eq_of_lt fits

theorem paceShown (hi : s.inv = true) (runs : s.running = true) (there : s.hasDie die = true) (fits : pace < 65536) :
    ∃ u, exec (.paceMeasurement t die pace) s = .next u ∧ u.rd DieStatus.PACE die = pace ∧
      u.rd DieStatus.EFFECTIVE_PACE die = pace * (1000 - s.rd DieStatus.BREATHER_FRACTION die) / 1000 := by
  obtain ⟨u, run, effective⟩ := paceMeasured (t := t) hi runs there fits
  have eq : u = _ := Host.Outcome.next.inj (run.symm.trans (execPaceMeasurement_eq runs there pace))
  refine ⟨u, run, ?_, effective⟩
  rw [eq, (State.paceActs_pace ..).rd DieStatus.PACE die 0, State.rd_wr_apart _ _ _ _ _ _ _ _ rfl]
  exact State.paceNoted_pace (s := s.at t) hi die fits

/-- A die that stalls is shown. -/
theorem State.stall_shown (hs : s.objs.sorted = true) (d : Nat) : (s.stall d).rdB DieStatus.DIE_STALLED d = true := by
  unfold State.stall
  extract_lets s1 s2
  have shown : s2.rdB DieStatus.DIE_STALLED d = true := State.rdB_wrB (s := s1) hs _ _ _ _ (by decide)
  clear_value s2
  have frame : Frame (besideRegs [DieStatus.DIE_STALLED]) s2 (if d = 0 then s2 else s2.stopLaps d) :=
    .ite (.refl s2) (State.stopLaps_frame (.refl s2) d)
  exact (frame.rdB ..).trans shown

theorem dieStalls {p : Option Nat} (hi : s.inv = true) (runs : s.running = true) (there : s.hasDie die = true)
    (why : (∃ v, p = some v ∧ v < 200) ∨ (p = none ∧ (s.die die).lastCount + msec 2 ≤ t)) :
    ∃ u, exec (.dieStalled t die p) s = .next u ∧ u.rdB DieStatus.DIE_STALLED die = true := by
  refine ⟨_, congrArg Host.Outcome.next (if_pos ⟨runs, there, ?_⟩), State.stall_shown (s := s.at t) (sorted_of_inv hi) die⟩
  rcases why with ⟨v, rfl, low⟩ | ⟨rfl, silent⟩
  · exact decide_eq_true low
  · exact decide_eq_true (silent.trans (le_max_right ..))

/-! ### Memory, the spare and the watchdog -/

theorem errorCorrected (hi : s.inv = true) (runs : s.running = true) :
    ∃ u, exec (.dramCorrectedError t) s = .next u ∧ Counts ModuleHealth.DRAM_CE_COUNT 0 s u ∧
      Only ⟨false, [ModuleHealth.DRAM_CE_COUNT.area], []⟩ s u :=
  have frame : Frame (2 ^ 0 + 2 ^ regTree.find ModuleHealth.DRAM_CE_COUNT.code) s ((s.at t).bump ModuleHealth.DRAM_CE_COUNT) :=
    State.bump_frame (State.at_frame (.refl s) t) ..
  ⟨_, congrArg Host.Outcome.next (if_pos runs), .of_bump (v := s.at t) (sorted_of_inv hi) rfl rfl, frame.only⟩

theorem scrubCounted (hi : s.inv = true) (runs : s.running = true) :
    ∃ u, exec (.scrubPass t) s = .next u ∧ Counts ModuleHealth.SCRUB_PASSES 0 s u ∧
      Only ⟨false, [ModuleHealth.SCRUB_PASSES.area], []⟩ s u :=
  have frame : Frame (2 ^ 0 + 2 ^ regTree.find ModuleHealth.SCRUB_PASSES.code) s ((s.at t).bump ModuleHealth.SCRUB_PASSES) :=
    State.bump_frame (State.at_frame (.refl s) t) ..
  ⟨_, congrArg Host.Outcome.next (if_pos runs), .of_bump (v := s.at t) (sorted_of_inv hi) rfl rfl, frame.only⟩

theorem spareTested (hi : s.inv = true) (runs : s.running = true) (there : s.hasDie die = true) :
    (∃ u, exec (.spareSelfTest t die true) s = .next u ∧ u.rdB DieStatus.SELF_TEST_FAIL die = true ∧
      Only ⟨false, [DieStatus.SELF_TEST_FAIL.area], []⟩ s u) ∧
    ∃ u, exec (.spareSelfTest t die false) s = .next u ∧ Only ⟨false, [], []⟩ s u := by
  have failed : Frame (2 ^ 0 + 2 ^ regTree.find DieStatus.SELF_TEST_FAIL.code) s ((s.at t).wrB DieStatus.SELF_TEST_FAIL die true) :=
    State.wrB_frame (State.at_frame (.refl s) t) ..
  have passed : Frame (2 ^ 0) s (s.at t) := State.at_frame (.refl s) t
  exact ⟨⟨_, congrArg Host.Outcome.next (if_pos ⟨runs, there, rfl⟩),
      State.rdB_wrB (s := s.at t) (sorted_of_inv hi) _ _ _ _ (by decide), failed.only⟩,
    _, congrArg Host.Outcome.next (if_neg fun h => Bool.false_ne_true h.2.2), passed.only⟩

theorem watchdogRestarts (runs : s.running = true) (there : s.hasDie die = true) (level : s.rd SecurityStatus.DEBUG_LEVEL ≠ 2)
    (powered : s.inHoldup = false) :
    ∃ u, exec (.watchdogRestart t die) s = .next u ∧ u.boot.cause = 6 ∧ u.boot.t0 = max s.now t ∧ u.mbx.sess = [] :=
  ⟨_, congrArg Host.Outcome.next (if_pos ⟨runs, there, level⟩), State.restart_starts (s := s.at t) powered 6 die⟩

/-- Settles O20, row by row. -/
theorem diesAndClocksSupervised : Obligations.DiesAndClocksSupervised :=
  ⟨fun _ _ hi runs held => referenceLost hi runs held, fun _ _ _ _ hi runs there fits => paceShown hi runs there fits,
    fun _ _ _ _ hi runs there why => dieStalls hi runs there why, fun _ _ _ _ _ runs there due => heartbeatMissed runs there due,
    fun _ _ hi runs => errorCorrected hi runs, fun _ _ hi runs => scrubCounted hi runs,
    fun _ _ _ hi runs there => spareTested hi runs there,
    fun _ _ _ runs there level powered => watchdogRestarts runs there level powered⟩

end Sys2Proof.Machine
end
